-- ==== Sys2Proof/Word.lean ====
section
/-!
DEFINITION. The word types and the sparse table that memory, registers and the object dictionary
are held in.
-/

namespace Sys2Proof

/-- A byte. -/
abbrev Byte := BitVec 8

/-- A sparse table: pairs of a key and a value, keys strictly rising, no value equal to what an
unlisted key holds.  `Sys2Proof.Tab.get` and `Sys2Proof.Tab.put` (Machine/Tab.lean) keep that form. -/
abbrev Tab (α : Type) := List (Nat × α)

end Sys2Proof
end

