-- ==== Sys2Proof/Syntax.lean ====
section
/-!
DEFINITION. The commands of the block (opcode_table.json), one constructor per row, and the plain
data their operands are made of.  A command is an operation a requester performs or an event that
happens at a ball, a port, a unit or a timer; its operands carry what the outside world brings:
message contents, measured values, observations of analogue conditions and results of
cryptographic verification.
-/

namespace Sys2Proof

/-- Who performs a dictionary access (R345, R346): each holds its own copy of the select objects. -/
inductive Requester where
  /-- A Pothiquin session, by its number. -/
  | session (n : Nat)
  /-- The mailbox of a PCIe function (R324, R363). -/
  | mailbox (fn : Nat)
  /-- A telemetry stream of a session: select objects copied at SUBSCRIBE (R361). -/
  | stream (ses strm : Nat)
  /-- The SMBus port, observer role (R364). -/
  | smbus
  deriving DecidableEq, Repr

/-- A dictionary address: index and subindex (R342). -/
structure Addr where
  idx : Nat
  sub : Nat
  deriving DecidableEq, Repr

/-- Type codes of Table 12-1 (R343). -/
inductive Ty where
  | bool | u8 | u16 | u32 | u64 | i8 | i16 | i32 | i64 | float32 | tb128 | string | octets | record | array
  deriving DecidableEq, Repr

/-- One entry of a WRITE (Table 12-4): address, type code and value bytes (little-endian, R12). -/
structure WEntry where
  addr : Addr
  ty : Ty
  bytes : List (BitVec 8)
  deriving DecidableEq, Repr

/-- A TB128 value (R36): seconds, nanoseconds and fraction of 2⁻¹⁶ ns. -/
structure TB128 where
  sec : Nat
  ns : Nat
  frac : Nat
  deriving DecidableEq, Repr

/-- What the enable check of the device observes outside the dictionary (Table 13-7 steps 2 and 3):
activity and frequency of OSC_IN, and the power manager's estimate in W. -/
structure EnableObs where
  oscActive : Bool
  oscWithin1pct : Bool
  estimateW : Nat
  deriving DecidableEq, Repr

/-- A signed image as it is written (Table 14-1): the header fields and, for each signature block,
whether its key and signature verify (results of P-384 and ML-DSA-87, computed outside the model). -/
structure Image where
  magic : BitVec 32
  cls : BitVec 8
  rollback : Nat
  fmtMask : BitVec 8
  sigPresent : BitVec 2
  ecdsaSlot : BitVec 2
  mldsaSlot : BitVec 2
  reservedZero : Bool
  lengthAgrees : Bool
  version : Nat
  caps : BitVec 32
  entry : Nat
  ecdsaKeyMatches : Bool
  ecdsaVerifies : Bool
  mldsaKeyMatches : Bool
  mldsaVerifies : Bool
  payloadDigestOk : Bool
  digest : BitVec 384
  deriving DecidableEq, Repr

/-- A PTP event or general message the offset engine may use (R54, R58); times in 1/16 ns. -/
inductive PtpMsg where
  /-- A Sync: sequence, two-step flag, t1 (one-step), t2, correction, the time since the Sync before it and the frequency
  offset the hybrid servo measured with it against the SyncE lane [2⁻¹⁶ ppb]. -/
  | sync (seq : Nat) (twoStep : Bool) (t1 t2 corr : Int) (dtNs : Nat) (freq : Int)
  /-- A Follow_Up: sequence, t1 and its correction. -/
  | followUp (seq : Nat) (t1 corr : Int)
  /-- The egress of a Delay_Req of this port: sequence and t3. -/
  | delayReqSent (seq : Nat) (t3 : Int)
  /-- A Delay_Resp: sequence, t4 and correction. -/
  | delayResp (seq : Nat) (t4 corr : Int)
  /-- An Announce, after which timing firmware's state machines place the port in a state (IEEE 1588 portState). -/
  | announce (place : Nat)
  /-- Any other recognised PTP message: it goes to firmware (R244). -/
  | other
  deriving DecidableEq, Repr

/-- How a message is encapsulated (R54): VLAN tags before it, its EtherType, the UDP destination port over IPv4 or IPv6,
and whether it lies inside eCPRI. -/
structure PtpEncap where
  vlans : Nat
  etherType : Nat
  udpPort : Option Nat
  inEcpri : Bool
  deriving DecidableEq, Repr

/-- A completion report (R98). Results: 0 OK, 4 HOST_UNAVAILABLE, 5 INPUT_INVALID. -/
structure Report where
  handle : Nat
  attempt : Nat
  result : Nat
  pairs : List (Nat × Nat)
  emitted : Bool
  deriving DecidableEq, Repr

/-- An error that a core's or engine's hardware detects (Table 04-9, R200): a single-bit error it corrects, a double-bit
error, or a residue mismatch or other self-check. -/
inductive HwError where
  | corrected | doubleBit | check
  deriving DecidableEq, Repr

/-- Cause of a fault report (R100). -/
inductive FaultCause where
  | unit | slug
  deriving DecidableEq, Repr

/-- A fault report of an executor: the slug it holds, if any, its attempt, the cause and EMITTED. -/
structure FaultRpt where
  held : Option (Nat × Nat)
  cause : FaultCause
  emitted : Bool
  selfCheck : Bool
  deriving DecidableEq, Repr

/-- Fields of a vector-vector, vector-scalar or vector-immediate instruction (Table 05-1): the core
that executes it, PM, pg, wd, ws1 and ws2 (rs2 or imm5 in the custom-1 forms). -/
structure VV where
  core : Nat
  pm : Bool
  pg : BitVec 3
  wd : BitVec 5
  ws1 : BitVec 5
  ws2 : BitVec 5
  deriving DecidableEq, Repr

/-- Fields of a sub-operation (Table 05-4): ws2 selects the operation, so it is no operand. -/
structure VU where
  core : Nat
  pm : Bool
  pg : BitVec 3
  wd : BitVec 5
  ws1 : BitVec 5
  deriving DecidableEq, Repr

/-- Fields of a compare (Table 05-1): pd, COND, pg, PM, ws1 and ws2. -/
structure VC where
  core : Nat
  pm : Bool
  pg : BitVec 3
  pd : BitVec 3
  cond : BitVec 2
  ws1 : BitVec 5
  ws2 : BitVec 5
  deriving DecidableEq, Repr

/-- Fields of a vector memory instruction: data register, base rs1, rs2 or wi, and the number of
fields of a structure form (1 for the others). -/
structure VMem where
  core : Nat
  pm : Bool
  pg : BitVec 3
  vd : BitVec 5
  rs1 : BitVec 5
  x : BitVec 5
  nf : Nat
  deriving DecidableEq, Repr

/-- The vector memory instructions (Table 05-5, funct3 4 and 5). -/
inductive VMemKind where
  | le | leff | lseg | lsegff | se | sseg | lse | sse | lxe | sxe | lsseg | ssseg
  deriving DecidableEq, Repr

/-- The six CSR instruction forms (Zicsr). -/
inductive CsrOp where
  | rw | rs | rc | rwi | rsi | rci
  deriving DecidableEq, Repr

/-- Requester kinds of Table 10-3 [50:47]. -/
inductive ReqKind where
  | vx | cc | engine | fucu | dma | galley | host | mogil | debug | recovery | basecamp | hamper
  deriving DecidableEq, Repr

/-- Commands of Table 10-4, with the atomic operations told apart (AOP). -/
inductive FabCmd where
  | rd | wr | wrp | atomAdd | atomSwap | atomCas | alloc | free | msg | sealCmd | unsealCmd | rdata | ack | err
  deriving DecidableEq, Repr

/-- What the error code of a scrubbed word shows (R302, R310). -/
inductive EccEvent where
  | clean
  | corrected (symbol : Nat)
  | uncorrectable
  deriving DecidableEq, Repr

/-- A fabric packet (R291): the header fields a receiver acts on, and its data bytes. `unit` is the
number of the requester within its kind; `malformed` says that LEN disagrees with BYTES or that CMD
or AOP is reserved (R292); `ecc` is what the memory's error code finds in the words a read touches. -/
structure FabPacket where
  cmd : FabCmd
  kind : ReqKind
  unit : Nat
  part : Nat
  priv : Bool
  peer : Bool
  slug : Option (Nat × Nat)
  addr : Nat
  bytes : Nat
  tag : Nat
  dst : Nat
  status : Nat
  arg : BitVec 64
  data : List (BitVec 8)
  malformed : Bool
  ecc : EccEvent := .clean
  deriving DecidableEq, Repr

/-- The power-delay profiles of one preamble over an occasion (R214): for each symbol of the slot that contributes, for each
antenna of the group, the powers of the bins as correlated after the gain stage (the square of 24-bit full scale is 2^46). -/
structure Profile where
  preamble : Nat
  parts : List (Nat × List (List Nat))
  deriving DecidableEq, Repr

/-- A lane of the line lanes or a lane of a Mogil group (lane 8 is its clock lane). -/
inductive LaneRef where
  | line (n : Nat)
  | mogil (grp lane : Nat)
  deriving DecidableEq, Repr

/-- A FEC port or a Mogil group, for the 1 s error ratio (R235, R269). -/
inductive PortOrGroup where
  | port (n : Nat)
  | group (n : Nat)
  deriving DecidableEq, Repr

/-- A received U-plane section (R239, R241): the header fields the checks of Table 08-4 read, the method and width its
udCompHdr names (width 1–16), and the bytes of its payload: the section header of R223 where its method has one, and its resource
blocks. -/
structure Section where
  downlink : Bool
  frameId : Nat
  subframe : Nat
  slotId : Nat
  symbol : Nat
  sectionId : Nat
  startPrb : Nat
  numPrb : Nat
  method : Nat
  width : Nat
  payload : List (BitVec 8)
  deriving DecidableEq, Repr

/-- An eCPRI message of a frame (R238): revision, the E bit of its sequence, type, eAxC identifier, sequence, and the sections of
an IQ data message. -/
structure EcpriMsg where
  revision : Nat
  eBit : Bool
  kind : Nat
  eaxc : Nat
  seqId : Nat
  secs : List Section
  deriving DecidableEq, Repr

/-- What an accepted Ethernet frame carries (R234, R238, R244, R251). -/
inductive FrameBody where
  /-- eCPRI: transport (0 Ethernet, 1 IPv4, 2 IPv6), VLAN, UDP destination port, whether the packet is no fragment, has no IPv4
  options and no failing UDP checksum, and its messages in order. -/
  | ecpri (transport vid udpPort : Nat) (ipOk : Bool) (msgs : List EcpriMsg)
  /-- A frame of a firmware class (Table 08-5 CLASS code). -/
  | firmware (cls : Nat)
  /-- A frame with a PTP message, by its encapsulation (R54). -/
  | ptp (encap : PtpEncap)
  /-- A frame for the device on a VLAN, of no class above: that of the management VLAN goes to firmware (R244). -/
  | managed (vid : Nat)
  /-- PAUSE or priority flow control (R234). -/
  | pause
  /-- A frame to be forwarded: VLAN, source and destination MAC address (R251). -/
  | forward (vid : Nat) (src dst : BitVec 48)
  /-- A frame of no listed class and no flow (R245). -/
  | other
  deriving DecidableEq, Repr

/-- The MACsec tag of a received frame (R249): SCI, association number and packet number, and whether its ICV verifies under the SAK of
that association. -/
structure SecTag where
  sci : Nat
  an : Nat
  pn : Nat
  icvOk : Bool
  deriving DecidableEq, Repr

/-- A received Ethernet frame: its length, whether FCS, size and FEC are good, its MACsec tag, its receive stamp, its bytes and its
body. -/
structure EthFrame where
  length : Nat
  fcsOk : Bool
  fecOk : Bool
  sec : Option SecTag
  stamp : TB128
  bytes : List (BitVec 8)
  body : FrameBody
  deriving DecidableEq, Repr

/-- The marker of one lane of a Mogil group as received in one frame time (R265). -/
structure MarkerRx where
  present : Bool
  typeOk : Bool
  lane : Nat
  group : Nat
  frame : Nat
  mfn : Nat
  rdi : Bool
  bipErrors : Nat
  position : Nat
  deriving DecidableEq, Repr

/-- A Mogil packet as received (R271): virtual channel, flits, epoch, counter, whether the GCM tag
verifies, whether a row error fell in it, and the fabric packet it carries. -/
structure MogPacket where
  vc : Nat
  flits : Nat
  epoch : Nat
  counter : Nat
  tagOk : Bool
  rowError : Bool
  pkt : FabPacket
  deriving DecidableEq, Repr

/-- The common fields of a Mogil link cell (Table 09-5). -/
structure LinkCell where
  credits : List Nat
  ack : Nat
  lcCounter : Nat
  epoch : Nat
  tagOk : Bool
  tagZero : Bool
  deriving DecidableEq, Repr

/-- Status of a PCIe completion (R331). -/
inductive CplStatus where
  | sc | ur | ca | poisoned
  deriving DecidableEq, Repr

/-- The fields of configuration space a PCIE_CONFIG_WRITE names (R323, R331). -/
inductive CfgField where
  | memorySpace | vfEnable | numVfs | ptmEnable | msixEnable | devCtl2 | atsEnable
  deriving DecidableEq, Repr

/-- The fuse objects (R388). -/
inductive FuseItem where
  | sigPolicy | keyRevoke | rollback | debugForbid
  deriving DecidableEq, Repr

/-- What DBG_RESPONSE brings (R395): for each algorithm, whether a signature with its public key is there, whether the key's digest
equals the fused slot 8 or 9, and whether the signature over the SHA-384 digest of the challenge verifies. -/
structure DbgAnswer where
  ecdsa : Bool
  ecdsaKeyMatches : Bool
  ecdsaVerifies : Bool
  mldsa : Bool
  mldsaKeyMatches : Bool
  mldsaVerifies : Bool
  deriving DecidableEq, Repr

/-- Instructions of the TAP (R395, Table 14-3). -/
inductive JtagIns where
  | bypass | idcode
  | boundaryScan
  | haltCore (kindVx : Bool) (n : Nat)
  | resumeCore (kindVx : Bool) (n : Nat)
  | haltRecovery
  | resumeRecovery
  | memory (p : FabPacket)
  deriving DecidableEq, Repr

/-- A request message of Table 12-4 as the function mailbox carries it (R363). -/
inductive Message where
  | hello
  | read (es : List Addr)
  | write (es : List WEntry)
  | segRead (a : Addr) (off len : Nat)
  | segWrite (a : Addr) (fin : Bool) (off total : Nat) (data : List (BitVec 8))
  | segAbort (a : Addr)
  | enable (a : Addr) (v : Nat)
  | info (a : Addr)
  | store
  | restore
  | subscribe
  | unsubscribe
  | alarmAck
  | malformed
  deriving DecidableEq, Repr

/-- The commands of the block: one constructor per row of opcode_table.json, in the table's order. -/
inductive Instr where
  /-- VIN_RISE (R371): VIN rises above 4.3 V; Basecamp starts, loads the stored dictionary and the device enters STANDBY. -/
  | vinRise (cv : Nat) (straps : BitVec 4)
  /-- VIN_FALL (R428): VIN falls below 4.1 V; the rails are turned off in order and the device enters OFF with all state lost. -/
  | vinFall
  /-- RESET_N_ASSERT (R371): RESET_N goes low; the Basecamp controller restarts from ROM, sessions close, outputs are released and the device enters STANDBY. -/
  | resetNAssert (straps : BitVec 4)
  /-- RESET_N_RELEASE (R371): RESET_N rises; with AUTO_BOOT TRUE the device leaves STANDBY for BOOT. -/
  | resetNRelease
  /-- THERMAL_SHUTDOWN (R425): An on-die comparator trips at 125 °C; the device enters STANDBY keeping only VSTBY and raises alarm 0x0101. -/
  | thermalShutdown
  /-- MODE_REQUEST (R372): A write of MODE_REQUEST requests STANDBY, BOOT, CONFIGURE, UPGRADE or SAFE, checked against Table 13-2. -/
  | modeRequest (who : Requester) (code : Nat)
  /-- DEVICE_ENABLE (R382): A write of DEVICE_ENABLE TRUE runs the device enable check and, when accepted, enters RUN or DEGRADED with on-RUN values taking effect. -/
  | deviceEnable (who : Requester) (obs : EnableObs)
  /-- DEVICE_DISABLE (R375): A write of DEVICE_ENABLE FALSE in RUN or DEGRADED starts a drain towards CONFIGURE. -/
  | deviceDisable (who : Requester)
  /-- DRAIN_END (R375): The drain ends when live impressions close or STOP_DRAIN expires; remaining impressions are aborted, transmission stops and the new mode is entered. -/
  | drainEnd
  /-- BOOT_STAGE_COMPLETE (R374): A boot stage completes; the next stage starts, or after stage 7 the device enters CONFIGURE and applies RUN_AT_BOOT. -/
  | bootStageComplete (failedUnits : List Nat) (obs : EnableObs)
  /-- BOOT_STAGE_FAIL (R374): A boot stage fails or exceeds its limit; BOOT_RESULT is set and the device enters SAFE. -/
  | bootStageFail (reason : Nat)
  /-- BOOT_HOST_TIMEOUT (R374): No host boot image arrives within BOOT_HOST_WAIT; the stage fails with reason 0x0B06. -/
  | bootHostTimeout
  /-- BOOT_IMAGE_WRITE (R374): A host writes BOOT_IMAGE through the PF0 mailbox for stage 3 or 4 of a host boot. -/
  | bootImageWrite (fn : Nat) (img : Image)
  /-- DEGRADED_EXIT (R371): At the next 1 ms subframe boundary after the last DEGRADED cause clears, the device returns to RUN. -/
  | degradedExit
  /-- OSC_IN_LOSS (R39): OSC_IN shows no rising edge for 1 µs; the timebase runs from the internal oscillator, alarm 0x0201 is raised and RUN modes enter SAFE. -/
  | oscInLoss
  /-- OSC_IN_RETURN (R39): OSC_IN has been within 1 % for 10 ms; PLLs relock, the alarm clears and the servo resumes. -/
  | oscInReturn
  /-- SERVO_MEASUREMENT (R40): A phase measurement from the selected reference is applied through the servo law, with step handling under R43. -/
  | servoMeasurement (e : Int) (dtNs : Nat) (freqOffset : Int)
  /-- SERVO_LOCK (R41): The error stays within the lock threshold for the lock time; the servo enters LOCKED and stores LOCKED_RATE. -/
  | servoLock
  /-- TIMEBASE_STEP (R43): At the first 10 ms frame boundary after the step token is granted, the timebase steps by the remaining build-out and the token is returned. -/
  | timebaseStep
  /-- TIME_SET (R45): A write of TIME_SET steps the timebase immediately outside RUN modes, or sets a slew target and requests the step token in RUN modes. -/
  | timeSet (who : Requester) (v : TB128)
  /-- REFERENCE_QUALIFY (R47): A reference has been valid for the qualification time and becomes qualified, possibly selected. -/
  | referenceQualify (entry : Nat)
  /-- REFERENCE_DISQUALIFY (R47): A reference is disqualified; selection is redone or the servo enters HOLDOVER. -/
  | referenceDisqualify (entry : Nat)
  /-- ANNOUNCE_TIMEOUT (R47): ANNOUNCE_TIMEOUT intervals pass without an Announce and the PTP reference is disqualified. -/
  | announceTimeout (port : Nat) (place : Nat)
  /-- PPS_LOSS_TIMEOUT (R47): No PPS edge arrives for 1.5 s and the PPS reference is disqualified. -/
  | ppsLossTimeout (input : Nat)
  /-- SYNCE_LOCK_LOSS (R65): A SyncE lane's clock recovery loses lock and its reference is disqualified within 1 ms. -/
  | synceLockLoss (lane : Nat)
  /-- WAIT_TO_RESTORE_EXPIRY (R48): The wait-to-restore time ends and a requalified higher-ranked reference replaces the selected one. -/
  | waitToRestoreExpiry (freq : Bool)
  /-- HOLDOVER_LIMIT (R51): Holdover lasts longer than the holdover limit; alarm 0x0204 is raised and STATUS bit 3 set. -/
  | holdoverLimit
  /-- PTP_EVENT_MESSAGE_RX (R54): A PTP event message is received, policed, time-stamped and paired by the offset engine. -/
  | ptpEventMessageRx (port : Nat) (encap : PtpEncap) (msg : PtpMsg)
  /-- PTP_UNPAIRED_DISCARD (R58): An unpaired PTP message is discarded after 1 s and counted. -/
  | ptpUnpairedDiscard (port : Nat) (seqId : Nat)
  /-- STAMPED_FRAME_TX (R60): A frame with the stamp flag leaves the package and an entry is added to its port's time-stamp queue, or overflow is recorded. -/
  | stampedFrameTx (port : Nat) (tag : BitVec 8) (sync : Option Nat) (discarded : Bool)
  /-- TX_STAMP_QUEUE_POP (R60): A 128-bit read of a port's queue returns and removes the oldest time-stamp entry. -/
  | txStampQueuePop (port : Nat)
  /-- PPS_IN_EDGE (R66): A PPS input edge is time-stamped, checked against the acceptance window and fed to the servo. -/
  | ppsInEdge (input : Nat) (stamp : TB128) (dtNs : Nat) (freq : Int)
  /-- TOD_IN_MESSAGE (R67): A ToD message is received, paired with a PPS edge and compared with the timebase seconds. -/
  | todInMessage (seconds : Nat) (utc : Bool) (ownOffset : Option Int) (sinceEdgeMs : Nat) (fmt : Nat) (baud : Nat)
  /-- PPS_OUT_EDGE (R68): PPS_OUT rises at each whole second plus offset unless held low. -/
  | ppsOutEdge (out : Nat)
  /-- PPS_OUT_PULSE_END (R68): The PPS output pulse width elapses and the output falls. -/
  | ppsOutPulseEnd (out : Nat)
  /-- TOD_OUT_SEND (R69): TOD_OUT sends one message describing the preceding PPS_OUT0 edge after the configured delay. -/
  | todOutSend
  /-- SLOT_BOUNDARY (R72): A slot boundary of a cell's numerology is reached; next-slot values take effect. -/
  | slotBoundary (cell : Nat)
  /-- SUBFRAME_BOUNDARY (R72): A 1 ms subframe boundary is reached; subframe-timed values and reverts take effect. -/
  | subframeBoundary
  /-- FRAME_BOUNDARY (R71): A 10 ms frame boundary is reached; SFN advances. -/
  | frameBoundary
  /-- SFN_WRAP (R75): SFN returns to 0 and HFN increments in the same tick. -/
  | sfnWrap
  /-- HFN_WRAP (R75): HFN returns to 0 with no other action. -/
  | hfnWrap
  /-- AIR_TICK_WRAP (R75): The 48-bit air-tick count returns to 0 and the air era increments. -/
  | airTickWrap
  /-- PTM_REQUEST (R76): Every PTM interval the device sends a PTM Request and records its egress time. -/
  | ptmRequest
  /-- PTM_RESPONSE (R76): A PTM ResponseD is paired with the request times and the host offset and link delay are computed. -/
  | ptmResponse (t2 t3 : Int) (t4 : TB128)
  /-- PTM_RESPONSE_TIMEOUT (R78): A ResponseD does not arrive within 1 ms and host time results become invalid. -/
  | ptmResponseTimeout
  /-- PRESS (R91): At a slot boundary minus the press lead, Galley presses each scheduled forme, allocating and writing its impression. -/
  | press (cell : Nat)
  /-- IMPRESSION_RELEASE (R91): SLUG_COUNT cycles after a press began, the impression is released, ready slugs enter READY and met counters fire. -/
  | impressionRelease (imp : Nat)
  /-- COUNTER_FIRE_BY (R94): A FIRE_SHORT counter reaches FIRE_BY without its threshold and fires short, tainting its waiters. -/
  | counterFireBy (ctr : Nat)
  /-- DISPATCH (R99): Galley selects a ready slug for an idle eligible unit and delivers it, resolving binding references. -/
  | dispatch (cls unit : Nat)
  /-- COMPLETION_REPORT (R98): Galley takes a completion report, commits binding entries, seals buffers and decrements successors. -/
  | completionReport (r : Report)
  /-- FAULT_REPORT (R100): Galley takes a fault report; for UNIT cause it fences, retires, promotes a reserve and decides on a retry. -/
  | faultReport (cls unit : Nat) (r : FaultRpt)
  /-- WATCHDOG_EXPIRY (R100): A slug stays RUNNING longer than its watchdog time and is handled as a unit fault. -/
  | watchdogExpiry (handle : Nat)
  /-- DEADLINE_EXPIRY (R97): A WAITING or READY slug's deadline passes and its expiry policy is applied. -/
  | deadlineExpiry (handle : Nat)
  /-- LATE_HORIZON_EXPIRY (R97): A LATE_RUN slug reaches LATE_HORIZON after its deadline and ends EXPIRED. -/
  | lateHorizonExpiry (handle : Nat)
  /-- STALL_DECLARE (R104): A partition stays stalled for STALL_CONFIRM; the stall is recorded and live impressions are aborted under action ABORT. -/
  | stallDeclare (part : Nat)
  /-- SLUG_HANDLE_RESERVE (R103): A read of offset 0x1000 of the Galley block returns and reserves a free slug handle. -/
  | slugHandleReserve (kind : ReqKind) (priv : Bool)
  /-- SLUG_SUBMIT (R103): A 64-byte firmware write submits a slug into a live impression after its checks. -/
  | slugSubmit (handle : Nat) (bytes : List (BitVec 8))
  /-- SLUG_DECREMENT (R103): A write of a handle to offset 0x1008 decrements that slug's dependence count. -/
  | slugDecrement (handle : Nat)
  /-- HANDLE_RESERVE_TIMEOUT (R103): A reserved handle not submitted within 1 ms returns to the free pool. -/
  | handleReserveTimeout (handle : Nat)
  /-- TIMER_SLUG_FIRE (R109): A TIMER slug reaches its air tick T and completes OK, decrementing its successors. -/
  | timerSlugFire (handle : Nat)
  /-- CC_DONE (R108): A write to DONE of a control-core dispatch window fences the attempt, sends its report and clears HELD. -/
  | ccDone (cc : Nat)
  /-- COUNT_CLEAR (R105): A write of 1 to COUNT_CLEAR clears every Galley count and histogram and restarts the peaks. -/
  | countClear (who : Requester) (v : Nat)
  /-- LOAD_WINDOW_END (R105): Each fixed 1 ms window ends and executor load is recorded. -/
  | loadWindowEnd
  /-- FORME_IMAGE (R86): A forme image is taken whole at the end of its write and checked for FORME_ID. -/
  | formeImage (who : Requester) (bytes : List (BitVec 8))
  /-- FORME_ENABLE (R87): Setting FORME_ENABLE runs the forme check, including path estimates and margins. -/
  | formeEnable (who : Requester)
  /-- FORME_DISABLE (R87): A forme is disabled and its live impressions run to close. -/
  | formeDisable (who : Requester)
  /-- CELL_ENABLE (R90): Setting CELL_ENABLE checks period, press lead and named formes. -/
  | cellEnable (who : Requester) (v : Nat)
  /-- SLOT_FORMES (R90): A write of SLOT_FORMES to an enabled cell is checked for formes of the cell's partition. -/
  | slotFormes (who : Requester) (v : BitVec 64)
  /-- INTERRUPT (R123): An interrupt is taken by a VX core between instructions or inside an interruptible vector memory instruction. -/
  | interruptTaken (core : Nat) (cause : Nat) (within : Option (VMemKind × VMem × Nat))
  /-- XRET (R122): A return from trap copies MVRI or SVRI back into VRI. -/
  | xret (core : Nat) (fromM : Bool)
  /-- VSTATUS_ACCESS (R153): A CSR access to VSTATUS waits for earlier vector and coprocessor instructions. -/
  | vstatusAccess (core : Nat) (rd : BitVec 5) (f : CsrOp) (src : BitVec 5)
  /-- VL_W_WRITE (R115): A write of VL_W sets VL, setting VILL above VLMAX. -/
  | vlWWrite (core : Nat) (src : BitVec 5)
  /-- VCFG_W_WRITE (R112): A write of VCFG_W restores VCFG, setting VILL for reserved encodings. -/
  | vcfgWWrite (core : Nat) (src : BitVec 5)
  /-- CP_OP_COMPLETE (R128): A coprocessor operation writes its result and the coprocessor stops being busy. -/
  | cpOpComplete (core cp : Nat)
  /-- VADD (R148): Wrapping element-wise add. -/
  | vadd (o : VV)
  /-- VSUB (R148): Wrapping element-wise subtract. -/
  | vsub (o : VV)
  /-- VADDS (R148): Saturating element-wise add. -/
  | vadds (o : VV)
  /-- VSUBS (R148): Saturating element-wise subtract. -/
  | vsubs (o : VV)
  /-- VMUL (R154): Low EW bits of the element product. -/
  | vmul (o : VV)
  /-- VMULH (R154): High EW bits of the signed double-width product. -/
  | vmulh (o : VV)
  /-- VMACC (R148): Multiply-accumulate into wd, low EW bits. -/
  | vmacc (o : VV)
  /-- VNMSAC (R148): Negative multiply-accumulate into wd, low EW bits. -/
  | vnmsac (o : VV)
  /-- VDIV (R156): Wrapping integer division towards zero. -/
  | vdiv (o : VV)
  /-- VDIVS (R156): Saturating integer division towards zero. -/
  | vdivs (o : VV)
  /-- VREM (R156): Integer remainder with the sign of the dividend. -/
  | vrem (o : VV)
  /-- VAND (R148): Bitwise AND. -/
  | vand (o : VV)
  /-- VOR (R148): Bitwise OR. -/
  | vor (o : VV)
  /-- VXOR (R148): Bitwise XOR. -/
  | vxor (o : VV)
  /-- VSLL (R155): Shift left by a signed per-element amount. -/
  | vsll (o : VV)
  /-- VSRA (R155): Arithmetic shift right by a signed per-element amount. -/
  | vsra (o : VV)
  /-- VSRL (R155): Logical shift right by a signed per-element amount. -/
  | vsrl (o : VV)
  /-- VMIN (R154): Signed element minimum. -/
  | vmin (o : VV)
  /-- VMAX (R154): Signed element maximum. -/
  | vmax (o : VV)
  /-- VMULHR (R158): Rounded and saturated Q15 or Q31 product. -/
  | vmulhr (o : VV) (rnd : BitVec 2)
  /-- VCMULR (R159): Rounded saturated complex int16 multiply. -/
  | vcmulr (o : VV) (rnd : BitVec 2)
  /-- VCMACR (R159): Rounded saturated complex int16 multiply-accumulate. -/
  | vcmacr (o : VV) (rnd : BitVec 2)
  /-- VCMULCR (R159): Complex int16 multiply by the conjugate of ws2. -/
  | vcmulcr (o : VV) (rnd : BitVec 2)
  /-- VFADD (R160): Floating-point add. -/
  | vfadd (o : VV)
  /-- VFSUB (R160): Floating-point subtract. -/
  | vfsub (o : VV)
  /-- VFMUL (R160): Floating-point multiply. -/
  | vfmul (o : VV)
  /-- VFDIV (R161): Floating-point divide. -/
  | vfdiv (o : VV)
  /-- VFMA (R160): Fused multiply-add with one rounding. -/
  | vfma (o : VV)
  /-- VFNMS (R160): Fused negative multiply-subtract with one rounding. -/
  | vfnms (o : VV)
  /-- VFMIN (R161): Floating minimumNumber. -/
  | vfmin (o : VV)
  /-- VFMAX (R161): Floating maximumNumber. -/
  | vfmax (o : VV)
  /-- VFCMUL (R160): Complex fp32 multiply. -/
  | vfcmul (o : VV)
  /-- VFCMAC (R160): Complex fp32 multiply-accumulate. -/
  | vfcmac (o : VV)
  /-- VFCVT_F_X (R162): Signed integer to float conversion. -/
  | vfcvtFX (o : VU)
  /-- VFCVT_X_F (R162): Float to signed integer rounded by FRM. -/
  | vfcvtXF (o : VU)
  /-- VFCVT_X_F_RTZ (R162): Float to signed integer towards zero. -/
  | vfcvtXFRtz (o : VU)
  /-- VFNEG (R149): Floating sign inversion without flags. -/
  | vfneg (o : VU)
  /-- VFABS (R149): Floating sign clear without flags. -/
  | vfabs (o : VU)
  /-- VNEG (R149): Wrapping negate. -/
  | vneg (o : VU)
  /-- VNEGS (R149): Saturating negate. -/
  | vnegs (o : VU)
  /-- VABS (R149): Wrapping absolute value. -/
  | vabs (o : VU)
  /-- VABSS (R149): Saturating absolute value. -/
  | vabss (o : VU)
  /-- VNOT (R149): Bitwise complement. -/
  | vnot (o : VU)
  /-- VCLZ (R149): Count of leading zeros. -/
  | vclz (o : VU)
  /-- VCPOP (R149): Count of set bits. -/
  | vcpop (o : VU)
  /-- VCONJ (R149): Wrapping complex conjugate of int16 pairs. -/
  | vconj (o : VU)
  /-- VCONJS (R149): Saturating complex conjugate of int16 pairs. -/
  | vconjs (o : VU)
  /-- VCMP (R165): Signed compare writing a predicate group. -/
  | vcmp (o : VC)
  /-- VCMPU (R165): Unsigned compare writing a predicate group. -/
  | vcmpu (o : VC)
  /-- VFCMP (R165): Floating compare writing a predicate group. -/
  | vfcmp (o : VC)
  /-- VSEL (R166): Predicated select between two registers. -/
  | vsel (o : VV)
  /-- VPERM (R166): Permute by per-element index. -/
  | vperm (o : VV)
  /-- VREDSUM (R167): Wrapping integer sum reduction. -/
  | vredsum (o : VU)
  /-- VREDSUMS (R167): Saturating integer sum reduction. -/
  | vredsums (o : VU)
  /-- VREDMAX (R149): Signed maximum reduction. -/
  | vredmax (o : VU)
  /-- VREDMIN (R149): Signed minimum reduction. -/
  | vredmin (o : VU)
  /-- VREDCSUMS (R167): Saturating complex int16 sum reduction. -/
  | vredcsums (o : VU)
  /-- VFREDSUM (R167): Floating-point fixed-tree sum reduction. -/
  | vfredsum (o : VU)
  /-- VFREDMAX (R149): Floating maximum reduction. -/
  | vfredmax (o : VU)
  /-- VFREDMIN (R149): Floating minimum reduction. -/
  | vfredmin (o : VU)
  /-- VADD_X (R150): Add of a scalar operand. -/
  | vaddX (o : VV)
  /-- VSUB_X (R150): Subtract of a scalar operand. -/
  | vsubX (o : VV)
  /-- VRSUB_X (R150): Reverse subtract from a scalar operand. -/
  | vrsubX (o : VV)
  /-- VMUL_X (R150): Multiply by a scalar operand. -/
  | vmulX (o : VV)
  /-- VMACC_X (R150): Multiply-accumulate with a scalar operand. -/
  | vmaccX (o : VV)
  /-- VSLL_X (R150): Shift left by a signed scalar amount. -/
  | vsllX (o : VV)
  /-- VSRA_X (R150): Arithmetic shift right by a signed scalar amount. -/
  | vsraX (o : VV)
  /-- VSRL_X (R150): Logical shift right by a signed scalar amount. -/
  | vsrlX (o : VV)
  /-- VSLL_I (R150): Shift left by an immediate. -/
  | vsllI (o : VV)
  /-- VSRA_I (R150): Arithmetic shift right by an immediate. -/
  | vsraI (o : VV)
  /-- VSRL_I (R150): Logical shift right by an immediate. -/
  | vsrlI (o : VV)
  /-- VSLIDEDN_I (R166): Slide elements down by an immediate. -/
  | vslidednI (o : VV)
  /-- VSLIDEUP_I (R166): Slide elements up by an immediate. -/
  | vslideupI (o : VV)
  /-- VADD_I (R150): Add of a sign-extended immediate. -/
  | vaddI (o : VV)
  /-- VBFEXP (R163): Block-floating exponent search per block of 24 elements. -/
  | vbfexp (o : VV)
  /-- VBFNORM (R164): Block-floating normalisation to m-bit mantissas. -/
  | vbfnorm (o : VV) (rnd : BitVec 2)
  /-- VBFDEN (R164): Block-floating denormalisation by the block exponent. -/
  | vbfden (o : VV)
  /-- VSRAR_I (R158): Rounding shift right by an immediate. -/
  | vsrarI (o : VV) (rnd : BitVec 2)
  /-- VSRAR_V (R158): Rounding shift by a signed per-element amount. -/
  | vsrarV (o : VV) (rnd : BitVec 2)
  /-- VNCLIP_I (R158): Narrowing rounding clip by an immediate. -/
  | vnclipI (o : VV) (rnd : BitVec 2)
  /-- VLE (R168): Unit-stride vector load. -/
  | vle (m : VMem)
  /-- VLEFF (R124): Unit-stride first-fault vector load. -/
  | vleff (m : VMem)
  /-- VLSEG (R125): Unit-stride structure load of 2–4 fields. -/
  | vlseg (m : VMem)
  /-- VLSEGFF (R124): First-fault structure load. -/
  | vlsegff (m : VMem)
  /-- VSE (R168): Unit-stride vector store. -/
  | vse (m : VMem)
  /-- VSSEG (R125): Unit-stride structure store. -/
  | vsseg (m : VMem)
  /-- VLSE (R168): Strided vector load. -/
  | vlse (m : VMem)
  /-- VSSE (R168): Strided vector store. -/
  | vsse (m : VMem)
  /-- VLXE (R168): Indexed vector load. -/
  | vlxe (m : VMem)
  /-- VSXE (R168): Indexed vector store. -/
  | vsxe (m : VMem)
  /-- VLSSEG (R125): Strided structure load. -/
  | vlsseg (m : VMem)
  /-- VSSSEG (R125): Strided structure store. -/
  | vssseg (m : VMem)
  /-- VSETVLI (R169): Sets VCFG from an immediate and VL from a request. -/
  | vsetvli (core : Nat) (rd rs1 : BitVec 5) (zimm : BitVec 11)
  /-- VSETVL (R169): Sets VCFG from a register and VL from a request. -/
  | vsetvl (core : Nat) (rd rs1 rs2 : BitVec 5)
  /-- VMV_V_X (R170): Broadcasts a scalar into vector elements. -/
  | vmvVX (core : Nat) (wd rs1 : BitVec 5)
  /-- VMV_X_V (R170): Moves one vector element into a scalar register. -/
  | vmvXV (core : Nat) (rd ws1 rs2 : BitVec 5)
  /-- VMV_V_V (R170): Copies vector elements below VL. -/
  | vmvVV (core : Nat) (wd ws1 : BitVec 5)
  /-- VPAND (R170): Predicate AND. -/
  | vpand (core : Nat) (pd ps1 ps2 : BitVec 5)
  /-- VPOR (R170): Predicate OR. -/
  | vpor (core : Nat) (pd ps1 ps2 : BitVec 5)
  /-- VPXOR (R170): Predicate XOR. -/
  | vpxor (core : Nat) (pd ps1 ps2 : BitVec 5)
  /-- VPANDN (R170): Predicate AND NOT. -/
  | vpandn (core : Nat) (pd ps1 ps2 : BitVec 5)
  /-- VPCNT (R170): Counts active elements below VL. -/
  | vpcnt (core : Nat) (rd ps1 : BitVec 5)
  /-- VPFIRST (R170): Returns the lowest active element index. -/
  | vpfirst (core : Nat) (rd ps1 : BitVec 5)
  /-- VPVL (R170): Sets a predicate active below a scalar length. -/
  | vpvl (core : Nat) (pd rs1 : BitVec 5)
  /-- VX_WFS (R133): Waits for dispatch of a slug in M-mode. -/
  | vxWfs (core : Nat) (a b c : BitVec 5) (cpn : BitVec 2)
  /-- VX_DONE (R135): Fences the attempt's writes, sends the completion report and clears the slug-held bit. -/
  | vxDone (core : Nat) (a b c : BitVec 5) (cpn : BitVec 2)
  /-- VCP_MVTO (R126): Moves a wide register into a coprocessor register. -/
  | vcpMvto (core : Nat) (a b c : BitVec 5) (cpn : BitVec 2)
  /-- VCP_MVFROM (R126): Moves a coprocessor register into a wide register. -/
  | vcpMvfrom (core : Nat) (a b c : BitVec 5) (cpn : BitVec 2)
  /-- VCP_CLEAR (R171): Zeroes every register and hidden state of a coprocessor. -/
  | vcpClear (core : Nat) (a b c : BitVec 5) (cpn : BitVec 2)
  /-- CP0_GINIT (R172): Initialises the Gold sequence generator. -/
  | cp0Ginit (core : Nat) (b c : BitVec 5)
  /-- CP0_GOLD (R172): Produces 2,048 Gold sequence bits. -/
  | cp0Gold (core : Nat) (b c : BitVec 5)
  /-- CP0_GSKIP (R172): Advances the Gold generator by a count. -/
  | cp0Gskip (core : Nat) (b c : BitVec 5)
  /-- CP0_ZC (R172): Produces Zadoff-Chu sequence values. -/
  | cp0Zc (core : Nat) (b c : BitVec 5)
  /-- CP1_CRCSEL (R172): Selects the CRC polynomial and clears the accumulator. -/
  | cp1Crcsel (core : Nat) (b c : BitVec 5)
  /-- CP1_CRC (R172): Accumulates 256 bits into the CRC. -/
  | cp1Crc (core : Nat) (b c : BitVec 5)
  /-- CP1_CRCGET (R172): Reads the CRC accumulator. -/
  | cp1Crcget (core : Nat) (b c : BitVec 5)
  /-- CP1_TRELLIS (R172): Runs 64 max-log-MAP turbo trellis stages. -/
  | cp1Trellis (core : Nat) (b c : BitVec 5)
  /-- CP2_RCP (R172): Element-wise reciprocal. -/
  | cp2Rcp (core : Nat) (b c : BitVec 5)
  /-- CP2_RSQRT (R172): Element-wise reciprocal square root. -/
  | cp2Rsqrt (core : Nat) (b c : BitVec 5)
  /-- CP2_LOG2 (R172): Element-wise log2. -/
  | cp2Log2 (core : Nat) (b c : BitVec 5)
  /-- CP2_EXP2 (R172): Element-wise exp2. -/
  | cp2Exp2 (core : Nat) (b c : BitVec 5)
  /-- CP2_SIN (R172): Element-wise sine. -/
  | cp2Sin (core : Nat) (b c : BitVec 5)
  /-- CP2_COS (R172): Element-wise cosine. -/
  | cp2Cos (core : Nat) (b c : BitVec 5)
  /-- CP2_ATAN2 (R172): Element-wise atan2. -/
  | cp2Atan2 (core : Nat) (b c : BitVec 5)
  /-- VX_UNIT_FAULT (R138): Hardware detects a VX UNIT fault, sends the report and halts the core. -/
  | vxUnitFault (core : Nat) (err : HwError)
  /-- CORE_IMAGE_SWITCH (R140): At the core's first idle moment after the subframe boundary, it starts its new image and advertises the new mask. -/
  | coreImageSwitch (core : Nat)
  /-- VX_IMAGE_WRITE (R142): IMAGE_DATA is written to a VX image slot, checked for mode and use. -/
  | vxImageWrite (who : Requester) (img : Image)
  /-- VX_IMAGE_VERIFY_DONE (R142): Verification of a written VX image ends and IMAGE_STATE shows the result. -/
  | vxImageVerifyDone (slot : Nat)
  /-- TE_FWD (R184): Transform engine forward transform job. -/
  | teFwd (eng : Nat)
  /-- TE_INV (R184): Transform engine inverse transform job with cyclic prefix and window. -/
  | teInv (eng : Nat)
  /-- TE_CZT (R185): Transform engine chirp-z job, computing an uncached chirp spectrum first. -/
  | teCzt (eng : Nat)
  /-- ME_CHEST (R187): Matrix engine channel estimation job. -/
  | meChest (eng : Nat)
  /-- ME_WEIGHT (R187): Matrix engine MMSE weight computation job. -/
  | meWeight (eng : Nat)
  /-- ME_APPLY (R187): Matrix engine combine or precode job. -/
  | meApply (eng : Nat)
  /-- ME_APPLY_DEMAP (R187): Matrix engine equalise and demap job. -/
  | meApplyDemap (eng : Nat)
  /-- ME_CHOL (R188): Matrix engine Cholesky factorisation job. -/
  | meChol (eng : Nat)
  /-- ME_INV (R187): Matrix engine Hermitian inversion job. -/
  | meInv (eng : Nat)
  /-- LD_DECODE (R190): LDPC decode job with early termination. -/
  | ldDecode (eng : Nat)
  /-- LE_ENCODE (R191): LDPC encode job. -/
  | leEncode (eng : Nat)
  /-- PL_POLAR_DECODE (R193): Polar list-8 decode job. -/
  | plPolarDecode (eng : Nat)
  /-- PL_POLAR_ENCODE (R192): Polar encode job with rate matching. -/
  | plPolarEncode (eng : Nat)
  /-- PL_CONV_DECODE (R193): Tail-biting convolutional decode job. -/
  | plConvDecode (eng : Nat)
  /-- PL_CONV_ENCODE (R192): Tail-biting convolutional encode job. -/
  | plConvEncode (eng : Nat)
  /-- PL_RM_DECODE (R192): Reed-Muller decode job. -/
  | plRmDecode (eng : Nat)
  /-- PL_RM_ENCODE (R192): Reed-Muller encode job. -/
  | plRmEncode (eng : Nat)
  /-- TD_DECODE (R194): Turbo decode job. -/
  | tdDecode (eng : Nat)
  /-- HQ_UPLINK_COMBINE (R196): HARQ de-rate-matching and soft combining job. -/
  | hqUplinkCombine (eng : Nat)
  /-- HQ_DOWNLINK_RATE_MATCH (R196): Downlink rate matching job. -/
  | hqDownlinkRateMatch (eng : Nat)
  /-- ENGINE_JOB_COMPLETE (R177): An engine finishes its items, writes status records and sends the completion report. -/
  | engineJobComplete (eng : Nat)
  /-- ENGINE_ALLOC_TIMEOUT (R178): ALLOC_WAIT passes without a buffer and the attempt ends with cause SLUG. -/
  | engineAllocTimeout (eng : Nat)
  /-- ENGINE_UNIT_FAULT (R200): An engine detects a UNIT fault, reports within 1 µs and halts. -/
  | engineUnitFault (eng : Nat) (err : HwError)
  /-- DMA_COPY (R317): DMA COPY slug moves data between device memories element by element. -/
  | dmaCopy (dm : Nat)
  /-- DMA_FILL (R317): DMA FILL slug writes a repeated pattern. -/
  | dmaFill (dm : Nat)
  /-- DMA_UNIT_FAULT (R317): A DMA engine UNIT fault retires the engine without promotion. -/
  | dmaUnitFault (dm : Nat)
  /-- COLLECT (R215): A front-unit COLLECT slug writes pending search reports of a context to its output. -/
  | collect (fu : Nat)
  /-- UL_CPLANE (R222): CU slug sends uplink C-plane with the computed width map. -/
  | ulCplane (cu : Nat)
  /-- DL_CPLANE (R222): CU slug sends downlink C-plane. -/
  | dlCplane (cu : Nat)
  /-- DL_UPLANE (R222): CU slug compresses and sends downlink U-plane. -/
  | dlUplane (cu : Nat)
  /-- FETCH (R327): HOST slug copies submission entries from a host ring and advances the head. -/
  | fetch (handle : Nat)
  /-- GATHER (R327): HOST slug reads host memory into its output. -/
  | gather (handle : Nat)
  /-- DELIVER (R328): HOST slug reserves a completion entry, writes data, the entry and the MSI-X message. -/
  | deliver (handle : Nat)
  /-- MOGIL_CHANNEL_SEND (R282): MOGIL slug sends a buffer and event to a peer channel. -/
  | mogilChannelSend (handle : Nat)
  /-- AT_OFFSET (R109): TIMER slug waiting for an offset from the slot boundary is dispatched. -/
  | atOffset (handle : Nat)
  /-- AT_TICK (R109): TIMER slug waiting for an absolute air tick is dispatched. -/
  | atTick (handle : Nat)
  /-- GAIN_CHANGE_POINT (R209): At a change point the gain code of a group moves towards the wanted gain unless frozen. -/
  | gainChangePoint (group : Nat)
  /-- SEARCH_TRIGGER (R210): A search context's band power exceeds its noise estimate by TRIGGER_LEVEL and freezes the group gain. -/
  | searchTrigger (ctx : Nat) (band noise : Int)
  /-- SEARCH_OCCASION_END (R214): A random-access occasion ends and its detections are entered in the context ring. -/
  | searchOccasionEnd (ctx : Nat) (profiles : List Profile)
  /-- FU_UNIT_FAULT (R207): A front unit fault starts moving its groups and loses search occasions in progress. -/
  | fuUnitFault (fu : Nat)
  /-- FU_GROUP_MOVE (R207): At the next symbol boundary a group moves to the healthy front unit with most free capacity. -/
  | fuGroupMove (group : Nat)
  /-- CU_UNIT_FAULT (R435): A compression unit fault is reported and its replacement scheduled. -/
  | cuUnitFault (cu : Nat)
  /-- CU_REPLACE (R435): At the next symbol boundary the free compression unit replaces the faulted one through the crossbar. -/
  | cuReplace (cu : Nat)
  /-- RCO_EDGE (R219): A radio control output asserts or releases at its computed air-tick position. -/
  | rcoEdge (rco : Nat)
  /-- NOISE_TABLE_WRITE (R224): Firmware writes a noise table of a width set, validating its estimate. -/
  | noiseTableWrite (radio cell : Nat) (vals : List Int)
  /-- NOISE_ESTIMATE_TIMEOUT (R224): No probe or write for NOISE_TIMEOUT invalidates the noise estimate. -/
  | noiseEstimateTimeout (radio cell : Nat)
  /-- NS_FALLBACK (R228): FALLBACK_SLOTS consecutive uplink slots arrive in the fallback method and the entry enters FALLBACK. -/
  | nsFallback (radio : Nat)
  /-- NS_RETRY_OFFER (R228): RETRY_INTERVAL passes in FALLBACK and the entry returns to OFFERED. -/
  | nsRetryOffer (radio : Nat)
  /-- GROUP_ENABLE (R206): Enable check of an antenna group against capacity, search load and flow type. -/
  | groupEnable (who : Requester) (v : Nat)
  /-- CONTEXT_ENABLE (R213): Enable check of a search context. -/
  | contextEnable (who : Requester) (v : Nat)
  /-- RAMP_ENABLE (R218): Enable check of burst ramps. -/
  | rampEnable (who : Requester) (v : Nat)
  /-- ETH_FRAME_RX (R234): An Ethernet frame is received, checked, MACsec verified, policed and dispatched to flow, firmware or forwarding. -/
  | ethFrameRx (port : Nat) (f : EthFrame)
  /-- CPRI_SYMBOL_RX (R254): The last sample of a CPRI flow-symbol arrives and yields its event. -/
  | cpriSymbolRx (flow : Nat) (slot symbol : Nat) (samples : List (BitVec 32))
  /-- FW_RING_POP (R244): A read of a port's firmware ring pops a firmware receive descriptor. -/
  | fwRingPop (port : Nat)
  /-- FRAME_TRANSMIT (R240): A handed-over frame starts transmission at or after its window's early edge in priority order. -/
  | frameTransmit (port : Nat)
  /-- TX_WINDOW_DISCARD (R240): A frame that could not start before its late edge is discarded. -/
  | txWindowDiscard (port queue : Nat)
  /-- LOSS_OF_SIGNAL (R257): Received amplitude falls below threshold; the defect is raised and any search aborted. -/
  | lossOfSignal (l : LaneRef)
  /-- SIGNAL_RETURN (R257): Signal returns and the debounce interval starts. -/
  | signalReturn (l : LaneRef)
  /-- SIGNAL_DEBOUNCE_EXPIRY (R257): Signal stays present for SIGNAL_DEBOUNCE and the search restarts from its first step. -/
  | signalDebounceExpiry (l : LaneRef)
  /-- LOSS_OF_LOCK (R256): Clock recovery unlocks; the defect is raised and a search restarts. -/
  | lossOfLock (l : LaneRef)
  /-- LOSS_OF_BLOCK_LOCK (R256): 16 invalid sync headers within 64 raise loss of block lock. -/
  | lossOfBlockLock (l : LaneRef)
  /-- LOSS_OF_FRAME (R256): Local fault, marker or FEC lock loss, or hyperframe loss raises loss of frame. -/
  | lossOfFrame (port : Nat)
  /-- REMOTE_DEFECT (R256): Remote fault or CPRI RAI raises the remote defect. -/
  | remoteDefect (port : Nat) (present : Bool)
  /-- PORT_UP (R256): A port's search finishes with no defect of rows 1–4 and the port is up. -/
  | portUp (port : Nat)
  /-- DEGRADE_EVAL (R235): Each 1 s the pre-FEC error ratio is compared with FEC_DEGRADE. -/
  | degradeEval (l : PortOrGroup) (errors bits corrected uncorrected : Nat)
  /-- FLOW_ACTIVE_PORT (R247): A write of FLOW_ACTIVE_PORT moves a flow's transmission. -/
  | flowActivePort (who : Requester) (v : Nat)
  /-- TX_AN (R250): A write of TX_AN selects the transmit SA from the next frame. -/
  | txAn (who : Requester) (v : Nat)
  /-- SA_KEY (R248): A write of SA_KEY installs a SAK in the crypto engines. -/
  | saKey (who : Requester) (bytes : List (BitVec 8))
  /-- LEARN_REQUEST (R252): The learn engine applies a learn request: create, refresh, move or refuse. -/
  | learnRequest (port vid : Nat) (mac : BitVec 48)
  /-- ENTRY_AGE_OUT (R252): A forwarding entry ages out after AGING. -/
  | entryAgeOut (vid : Nat) (mac : BitVec 48)
  /-- PIN_EXPIRY (R252): PIN_TIME ends and the entry's flap count is cleared. -/
  | pinExpiry (vid : Nat) (mac : BitVec 48)
  /-- MOVE_STORM_END (R253): A full second with moves within STORM_LIMIT ends the move storm. -/
  | moveStormEnd
  /-- STATIC_ENTRY (R259): A write of STATIC_ENTRY adds or removes a static forwarding entry. -/
  | staticEntry (who : Requester) (vid : Nat) (mac : BitVec 48) (port : Nat) (add : Bool)
  /-- CPRI_RATE_DWELL (R255): RATE_DWELL passes in CPRI state B and the next enabled rate is tried. -/
  | cpriRateDwell (port : Nat)
  /-- RECAL_INTERVAL_EXPIRY (R231): RECAL_INTERVAL elapses and a recalibration token is requested. -/
  | recalIntervalExpiry (inst : Nat)
  /-- LANE_RECALIBRATION (R231): A lane recalibrates hitlessly under its granted token. -/
  | laneRecalibration (inst : Nat)
  /-- PRBS_CLEAR (R258): A write of PRBS_CLEAR clears the PRBS counters. -/
  | prbsClear (who : Requester) (v : Nat)
  /-- PORT_ENABLE (R233): Enable check of a fronthaul port. -/
  | portEnable (who : Requester) (v : Nat)
  /-- FLOW_ENABLE (R237): Enable check of a flow. -/
  | flowEnable (who : Requester) (v : Nat)
  /-- MACSEC_ENABLE (R248): Enable of MACsec on a port. -/
  | macsecEnable (who : Requester) (v : Nat)
  /-- MOGIL_MARKER_RX (R266): An alignment marker is received and frame and multiframe lock are updated. -/
  | mogilMarkerRx (grp : Nat) (ms : List MarkerRx)
  /-- MOGIL_PACKET_RX (R272): A packet is taken whole and accepted or dropped on counter, epoch and tag. -/
  | mogilPacketRx (grp : Nat) (p : MogPacket)
  /-- MOGIL_LINK_CELL_RX (R274): A link cell with no message updates ACK and credits. -/
  | mogilLinkCellRx (grp : Nat) (c : LinkCell)
  /-- MOGIL_NAK_RX (R273): A NAK makes the sender resend every packet after the acknowledged counter. -/
  | mogilNakRx (grp : Nat) (c : LinkCell)
  /-- MOGIL_VERSION_RX (R279): A VERSION message is received and the group version is agreed or HOLD entered. -/
  | mogilVersionRx (grp : Nat) (c : LinkCell) (minV maxV : Nat)
  /-- MOGIL_CONFIRM_RX (R279): A CONFIRM is checked and the group enters ACTIVE or HOLD. -/
  | mogilConfirmRx (grp : Nat) (c : LinkCell) (mineMin mineMax peerMin peerMax agreed : Nat)
  /-- MOGIL_KEX_RX (R394): A KEX fragment of the link key exchange is received and processed. -/
  | mogilKexRx (grp : Nat) (c : LinkCell) (stepCode frag count : Nat) (data : List (BitVec 8))
  /-- MOGIL_LAST_ACCEPTED_RX (R280): A LAST_ACCEPTED message trims the retry buffer and resends the rest on remaining groups. -/
  | mogilLastAcceptedRx (grp : Nat) (c : LinkCell) (lost last : Nat)
  /-- MOGIL_PACKET_SEND (R273): A packet starts when retry buffer room and credit are held. -/
  | mogilPacketSend (grp : Nat) (p : FabPacket)
  /-- MOGIL_LINK_CELL_SEND (R275): A link cell is sent when no packet is ready or an ACK or NAK is due. -/
  | mogilLinkCellSend (grp : Nat)
  /-- MOGIL_RETRY_TIMEOUT (R273): RETRY_TIMEOUT passes without ACK advancing and outstanding packets are resent. -/
  | mogilRetryTimeout (grp : Nat)
  /-- MOGIL_RESUME_TIMEOUT (R280): No LAST_ACCEPTED within RESUME_TIMEOUT; outstanding packets are discarded. -/
  | mogilResumeTimeout (grp : Nat)
  /-- MOGIL_KEX_TIMEOUT (R394): The key exchange does not complete within 100 µs and is resent or abandoned. -/
  | mogilKexTimeout
  /-- MOGIL_HOLD_EXPIRY (R268): A group in HOLD returns to TRAINING after 1 s. -/
  | mogilHoldExpiry (grp : Nat)
  /-- MOGIL_CHANNEL_TIMEOUT (R282): No acknowledgement within CHANNEL_TIMEOUT ends the MOGIL slug with cause SLUG. -/
  | mogilChannelTimeout (handle : Nat)
  /-- MOGIL_ENABLE (R276): Enable check of the Mogil link and start of group training. -/
  | mogilEnable (who : Requester) (v : Nat)
  /-- TAKEOVER_NOW (R283): A write of TAKEOVER_NOW moves standby partitions to ENABLED. -/
  | takeoverNow (who : Requester) (v : Nat)
  /-- AUTO_TAKEOVER (R283): Link inactive for TAKEOVER_DELAY with peer-health unhealthy triggers takeover. -/
  | autoTakeover
  /-- RD (R292): Fabric read request. -/
  | rd (p : FabPacket)
  /-- WR (R292): Fabric write request acknowledged when visible. -/
  | wr (p : FabPacket)
  /-- WRP (R292): Posted fabric write. -/
  | wrp (p : FabPacket)
  /-- ATOM_ADD (R292): 8-byte atomic add. -/
  | atomAdd (p : FabPacket)
  /-- ATOM_SWAP (R292): 8-byte atomic swap. -/
  | atomSwap (p : FabPacket)
  /-- ATOM_COMPARE_SWAP (R292): 8-byte atomic compare-swap. -/
  | atomCompareSwap (p : FabPacket)
  /-- ALLOC (R314): Hamper allocation request answered with a handle or ERR 9. -/
  | alloc (p : FabPacket)
  /-- FREE (R316): Hamper release request. -/
  | free (p : FabPacket)
  /-- MSG (R292): Dispatch, report, event, doorbell or interrupt message packet sinks at its unit. -/
  | msg (p : FabPacket)
  /-- SEAL (R315): Galley sets a buffer's seal bit. -/
  | sealBuf (p : FabPacket)
  /-- UNSEAL (R315): Galley clears a buffer's seal bit. -/
  | unsealBuf (p : FabPacket)
  /-- RDATA (R292): Read data response received by its requester. -/
  | rdata (p : FabPacket)
  /-- ACK (R292): Completion without data received by its requester. -/
  | ack (p : FabPacket)
  /-- ERR (R293): Error completion received by its requester. -/
  | err (p : FabPacket)
  /-- FLIT_CRC_ERROR (R296): A trunk flit CRC error is answered by replay. -/
  | flitCrcError (router link : Nat)
  /-- FABRIC_LINK_DOWN (R296): A trunk link is declared down and traffic rehashes or reroutes. -/
  | fabricLinkDown (router link : Nat)
  /-- FABRIC_LINK_RETURN (R296): A link passes PRBS after reset and routes revert at the next subframe boundary. -/
  | fabricLinkReturn (router link : Nat)
  /-- EDGE_LINK_DOWN (R297): An edge link is declared down and its units are retired. -/
  | edgeLinkDown (units : List (Nat × Nat))
  /-- DOMAIN_WAKE_READY (R299): A woken domain reports ready and held packets are delivered. -/
  | domainWakeReady (dom : Nat)
  /-- WAKE_TIMEOUT (R299): A domain not ready within WAKE_TIMEOUT has held requests answered ERR 5. -/
  | wakeTimeout (dom : Nat)
  /-- DOMAIN_SLEEP (R419): An idle domain commits to sleep after IDLE_DELAY. -/
  | domainSleep (dom : Nat)
  /-- DOMAIN_LOCK_OFF (R300): The power manager locks off a domain and answers its held packets. -/
  | domainLockOff (dom : Nat)
  /-- SS_ACCESS_REPEAT (R303): After a control-path mismatch a slot-store access is repeated 8 ns later. -/
  | ssAccessRepeat (bank : Nat) (secondMismatch : Bool)
  /-- SPARE_NOW (R304): A write of SPARE_NOW spares the selected bank. -/
  | spareNow (who : Requester) (v : Nat)
  /-- SS_SPARE_FLIP (R305): The copy completes and the address decoders flip to the spare. -/
  | ssSpareFlip
  /-- SS_FORWARD_END (R305): 1 ms after the flip forwarding ends and the old bank is locked off. -/
  | ssForwardEnd
  /-- SPARE_BANK_TEST (R307): The spare bank runs its march test under its token. -/
  | spareBankTest (pass : Bool)
  /-- SCRUB_STEP (R312): Patrol scrub reads a word and writes back a corrected one. -/
  | scrubStep (inst : Nat) (e : EccEvent) (rewritten : Bool)
  /-- HBM_REFRESH (R311): The HBM controller refreshes at the required rate. -/
  | hbmRefresh (stack : Nat)
  /-- HAMPER_ENABLE (R313): Enable check of a hamper and rebuild of its pool. -/
  | hamperEnable (who : Requester)
  /-- HAMPER_DISABLE (R313): Disable of a hamper, refused while buffers are in use. -/
  | hamperDisable (who : Requester)
  /-- SQ_TAIL_DOORBELL (R326): A submission tail write is checked and yields doorbell events. -/
  | sqTailDoorbell (fn q : Nat) (v size : Nat)
  /-- CQ_HEAD_DOORBELL (R326): A completion head write is checked and frees completion entries. -/
  | cqHeadDoorbell (fn q : Nat) (v size : Nat)
  /-- MSIX_UNMASK (R329): Unmasking a vector sends its pending message once. -/
  | msixUnmask (fn vec : Nat)
  /-- BME_CLEAR (R333): Bus Master Enable is cleared; running HOST slugs end HOST_UNAVAILABLE. -/
  | bmeClear (fn : Nat)
  /-- BME_SET (R333): Bus Master Enable is set again and queue pairs resume. -/
  | bmeSet (fn : Nat)
  /-- FLR_INITIATE (R334): Initiate Function Level Reset starts the reset of a function. -/
  | flrInitiate (fn : Nat)
  /-- FLR_COMPLETE (R334): The function-level reset completes within 100 ms. -/
  | flrComplete (fn : Nat)
  /-- TAG_QUARANTINE_END (R334): A quarantined tag becomes free after the completion timeout. -/
  | tagQuarantineEnd (tag : Nat)
  /-- PCIE_LINK_RESET (R321): Link-down, hot reset or conventional reset is treated as an FLR of every function. -/
  | pcieLinkReset
  /-- PCIE_COMPLETION_RX (R331): A completion for a host request is received and delivered or treated as an error. -/
  | pcieCompletionRx (tag : Nat) (status : CplStatus) (data : List (BitVec 8))
  /-- PCIE_COMPLETION_TIMEOUT (R331): A host request times out and its HOST slug ends HOST_UNAVAILABLE. -/
  | pcieCompletionTimeout (tag : Nat)
  /-- CQ_WAIT_TIMEOUT (R328): A DELIVER waiting for completion-ring room ends after CQ_WAIT. -/
  | cqWaitTimeout (handle : Nat)
  /-- ATS_INVALIDATE (R332): An ATS invalidation request completes once requests using the translation finish. -/
  | atsInvalidate (fn page : Nat)
  /-- QP_ENABLE (R325): Enable of a queue pair. -/
  | qpEnable (who : Requester) (v : Nat)
  /-- PART_ENABLE (R335): Enable check of a partition, or disable with PART_ENABLE FALSE. -/
  | partEnable (who : Requester) (n v : Nat)
  /-- PART_PAUSE (R378): A write of PART_PAUSE pauses or resumes a partition from the next slot. -/
  | partPause (who : Requester) (n v : Nat)
  /-- PART_RESET (R339): A write of PART_RESET aborts impressions, disables queue pairs and starts the partition reset. -/
  | partReset (who : Requester) (n v : Nat)
  /-- PART_RESET_COMPLETE (R339): Abort-pending slugs complete, hamper buffers are freed and the partition returns to CONFIGURED. -/
  | partResetComplete (n : Nat)
  /-- RESET_LIMIT_EXPIRY (R339): The partition reset does not finish within RESET_LIMIT and the partition enters FAULTED. -/
  | resetLimitExpiry (n : Nat)
  /-- DISABLE_CLOSE_TIMEOUT (R378): Impressions still live RESET_LIMIT after PART_ENABLE FALSE are aborted. -/
  | disableCloseTimeout (n : Nat)
  /-- MAILBOX_GO (R363): A mailbox write of GO submits a request, executed in serial order with the reply and DONE written. -/
  | mailboxGo (fn seq : Nat) (irq : Bool) (vec : Nat) (m : Message)
  /-- HELLO (R357): Pothiquin HELLO agrees the protocol version. -/
  | hello (ses id : Nat) (lo hi : Nat)
  /-- READ (R356): Pothiquin READ of up to 64 entries. -/
  | read (ses ver id : Nat) (es : List Addr)
  /-- WRITE (R348): Pothiquin WRITE of up to 64 entries, checked and applied atomically in serial order. -/
  | write (ses ver id : Nat) (es : List WEntry)
  /-- SEG_READ (R359): Segmented read from a per-session snapshot. -/
  | segRead (ses ver id : Nat) (a : Addr) (off len : Nat)
  /-- SEG_WRITE (R359): Segmented write; the value is taken whole at FINAL. -/
  | segWrite (ses ver id : Nat) (a : Addr) (fin : Bool) (off total : Nat) (data : List (BitVec 8))
  /-- SEG_ABORT (R359): Ends a segmented write without effect. -/
  | segAbort (ses ver id : Nat) (a : Addr)
  /-- SEG_TRANSFER_TIMEOUT (R359): 10 s without a segment ends a transfer or snapshot. -/
  | segTransferTimeout (who : Requester) (a : Addr)
  /-- INFO (R344): Returns the type, access, default, persistence, effect and range of an object. -/
  | infoReq (ses ver id : Nat) (a : Addr)
  /-- STORE (R351): Starts writing the stored values to the older copy of the dictionary store. -/
  | store (ses ver id : Nat)
  /-- STORE_SEALED (R351): The written store copy is sealed and the reply is sent. -/
  | storeSealed (ok : Bool)
  /-- RESTORE (R352): Disables enabled items, sets stored objects to defaults and makes partitions ABSENT. -/
  | restore (ses ver id : Nat)
  /-- SUBSCRIBE (R361): Sets or replaces a telemetry stream of the session. -/
  | subscribe (ses ver id : Nat) (stream period : Nat) (es : List Addr)
  /-- UNSUBSCRIBE (R356): Removes a telemetry stream. -/
  | unsubscribe (ses ver id : Nat) (stream : Nat)
  /-- TELEMETRY (R361): A stream period expires and one record of sampled entries is sent. -/
  | telemetry (ses stream : Nat) (sent : Bool)
  /-- ALARM_ACK (R362): A session acknowledges an ALARM record. -/
  | alarmAck (ses : Nat) (seq : Nat)
  /-- ALARM (R362): The device sends an alarm record to a session. -/
  | alarm (ses : Nat)
  /-- ALARM_RESEND (R362): An unacknowledged ALARM is resent after 1 s. -/
  | alarmResend (ses seq : Nat)
  /-- SUMMARY (R454): At each whole second every session is given a SUMMARY record. -/
  | summary
  /-- CLIENT_HELLO (R354): A DTLS ClientHello starts a Pothiquin handshake, answered with a cookie. -/
  | clientHello (path : Nat) (cookie : Bool)
  /-- HANDSHAKE_COMPLETE (R354): The peer certificate and ROLE_ENTRY are checked and a session opens. -/
  | handshakeComplete (path ses : Nat) (chainOk : Bool) (keyDigest : List (BitVec 8))
  /-- SESSION_IDLE_TIMEOUT (R355): A session without a valid record for SESSION_IDLE is closed. -/
  | sessionIdleTimeout (ses : Nat)
  /-- SMB_POINTER_WRITE (R364): SMBus command 0x10 sets the object pointer. -/
  | smbPointerWrite (a : Addr)
  /-- SMB_VALUE_READ (R365): SMBus command 0x11 reads the pointed object. -/
  | smbValueRead
  /-- SMB_STATUS_READ (R364): SMBus command 0x12 reads mode, severity, temperature, power and VIN. -/
  | smbStatusRead
  /-- SMB_TIMEOUT (R364): The SMBus timeout resets the port. -/
  | smbTimeout
  /-- ROLE_ENTRY (R366): A write of ROLE_ENTRY applies to later handshakes, refused if it removes the last management entry. -/
  | roleEntry (who : Requester) (bytes : List (BitVec 8))
  /-- REGISTER_WRITE (R34): A write to a device register or object with no behaviour of its own. -/
  | registerWrite (src : ReqKind) (unit : Nat) (priv : Bool) (addr : Nat) (v : BitVec 64)
  /-- W1C_WRITE (R14): A write to a W1C object clears the bits written as 1. -/
  | w1cWrite (who : Requester) (a : Addr) (v : Nat) (setNow : Nat)
  /-- FUSE_WRITE (R388): A write to a fuse object starts blowing fuses. -/
  | fuseWrite (who : Requester) (item : FuseItem) (v : Nat)
  /-- FUSE_WRITE_COMPLETE (R388): All bits of a fuse write are blown and read back and the reply is sent. -/
  | fuseWriteComplete
  /-- DBG_REQUEST (R395): A debugger shifts a requested permission mask. -/
  | dbgRequest (mask : BitVec 4)
  /-- DBG_CHALLENGE (R395): A read of DBG_CHALLENGE returns a fresh signed challenge. -/
  | dbgChallenge
  /-- DBG_RESPONSE (R395): A debug response is verified and permissions are granted or refused. -/
  | dbgResponse (r : DbgAnswer)
  /-- DEBUG_LOCKOUT_END (R395): The 60 s debug challenge lockout ends. -/
  | debugLockoutEnd
  /-- TAP_RESET (R396): A TAP reset ends the debug session and withdraws grants. -/
  | tapReset
  /-- REGION_ENABLE (R403): Enable check of a region and start of its zero initialisation. -/
  | regionEnable (who : Requester)
  /-- REGION_INIT_DONE (R403): Region initialisation completes and the region becomes ACTIVE. -/
  | regionInitDone (region : Nat)
  /-- REGION_DISABLE (R403): A region disable destroys its keys and zero-fills the range. -/
  | regionDisable (who : Requester)
  /-- REKEY_NOW (R405): A write of REKEY_NOW requests a re-key of a protected region. -/
  | rekeyNow (who : Requester) (v : Nat)
  /-- REKEY_BLOCK (R405): The crypto engine re-keys one counter block under the token. -/
  | rekeyBlock (region : Nat)
  /-- VIN_SAMPLE (R410): Every 1 µs VIN and input current are measured and the VIN cap recomputed. -/
  | vinSample (cv ca : Nat)
  /-- POWER_LOOP_EVAL (R412): Every 10 µs average package power is compared with the effective cap and the throttle level changes. -/
  | powerLoopEval (avgDw : Nat)
  /-- CURRENT_LIMIT (R413): Input current reaches 30 A and the throttle level is set to 16. -/
  | currentLimit
  /-- UNIT_WITHDRAW (R414): At level 16 above the cap a throttled unit is withdrawn every 100 µs. -/
  | unitWithdraw
  /-- UNIT_RETURN (R414): After 1 ms below the cap a withdrawn unit returns. -/
  | unitReturn
  /-- VCORE_ADJUST (R416): Every 100 µs the VCORE target is stepped by the critical-path monitors. -/
  | vcoreAdjust (rail : Nat) (up : Bool)
  /-- PHASE_FAULT (R417): A faulty phase is disabled and the cap lowered for the shortfall. -/
  | phaseFault (rail : Nat)
  /-- RAIL_OUT_OF_REGULATION (R417): A rail outside ±5 % for 10 µs raises alarm 0x0109 and deasserts PG_OUT. -/
  | railOutOfRegulation (rail : Nat) (out : Bool)
  /-- DROOP_STRETCH (R420): A droop sensor sees its rail 4 % low and served islands double their clock period. -/
  | droopStretch (sensor : Nat)
  /-- DROOP_RELEASE (R420): The rail stays within 2 % for 64 cycles and the clock returns to nominal. -/
  | droopRelease (sensor : Nat)
  /-- THERMAL_SENSOR_SCAN (R423): Every 100 µs the sensors are read and TJ computed. -/
  | thermalSensorScan (readings : List Int)
  /-- THERMAL_CAP_STEP (R424): Every 10 ms the thermal cap falls or rises by THERMAL_STEP. -/
  | thermalCapStep
  /-- DIAG_START (R436): The recovery pair resets a retired unit and starts its self-test. -/
  | diagStart (unit : Nat)
  /-- DIAG_COMPLETE (R436): A unit's diagnosis ends and it returns or stays retired. -/
  | diagComplete (unit : Nat) (pass : Bool) (block : Nat)
  /-- DIAG_RUN (R436): A write of DIAG_RUN self-tests a reserve or retired unit. -/
  | diagRun (who : Requester) (v : Nat)
  /-- LOCKSTEP_MISMATCH (R437): A control-core pair mismatch halts both copies and starts their tests. -/
  | lockstepMismatch (pair : Nat)
  /-- LOCKSTEP_TEST_DONE (R437): The lockstep tests end and the pair resumes paired, unpaired or retired. -/
  | lockstepTestDone (pair : Nat) (passEven passOdd : Bool)
  /-- CC_UNIT_FAULT (R437): A control-core unit fault outside a lockstep compare retires the core. -/
  | ccUnitFault (cc : Nat) (watchdog : Bool)
  /-- HEARTBEAT (R439): The recovery pair writes its heartbeat to the warden. -/
  | heartbeat
  /-- HEARTBEAT_MISS (R439): Three missed heartbeats start a warden restart of the recovery pair. -/
  | heartbeatMiss
  /-- RECOVERY_MISMATCH (R439): A recovery-pair lockstep mismatch starts a warden restart. -/
  | recoveryMismatch
  /-- WARDEN_RESTART_FAIL (R439): No heartbeat within 2 ms; another attempt starts or after three the device enters SAFE. -/
  | wardenRestartFail
  /-- WARDEN_VOTE (R441): A disagreeing warden copy is reloaded from the other two. -/
  | wardenVote (copy : Nat)
  /-- MAINT_REQUEST (R443): A maintenance activity requests a token and the coordinator evaluates its queue. -/
  | maintRequest (act inst : Nat)
  /-- TOKEN_RETURN (R443): A token is returned and the coordinator grants waiting requests. -/
  | tokenReturn (act inst : Nat)
  /-- WAIT_ALARM_EXPIRY (R443): A request waits longer than WAIT_ALARM and alarm 0x0A0A is raised. -/
  | waitAlarmExpiry (act inst : Nat)
  /-- DRILL_INTERVAL_EXPIRY (R444): DRILL_INTERVAL elapses and a drill is requested for the next class. -/
  | drillIntervalExpiry
  /-- DRILL_SWAP (R444): The drilled unit becomes idle; it swaps with the reserve and self-tests. -/
  | drillSwap (pass : Bool)
  /-- UPGRADE_IMAGE (R445): A class 1 or 2 image is written in UPGRADE and verified. -/
  | upgradeImage (who : Requester) (img : Image)
  /-- UPGRADE_RECOVERY (R447): Restarts the recovery pair with its new image. -/
  | upgradeRecovery (who : Requester) (v : Nat)
  /-- UPGRADE_COMMIT (R448): Commits the upgrade and leaves UPGRADE. -/
  | upgradeCommit (who : Requester) (v : Nat)
  /-- UPGRADE_ABANDON (R448): Returns cores to their entry images and leaves UPGRADE. -/
  | upgradeAbandon (who : Requester) (v : Nat)
  /-- UPGRADE_LIMIT_EXPIRY (R448): An upgrade lasting beyond UPGRADE_LIMIT raises alarm 0x0A0B. -/
  | upgradeLimitExpiry
  /-- CORE_IMAGE (R446): A write of CORE_IMAGE, checked in UPGRADE for format compatibility. -/
  | coreImage (who : Requester) (v : Nat)
  /-- BANK_VOLTAGE (R467): A write of BANK_VOLTAGE puts bank outputs to high impedance and slews the LDO. -/
  | bankVoltage (who : Requester) (v : Nat)
  /-- BANK_SETTLE (R467): The bank supply has been within ±5 % for 100 µs and outputs drive again. -/
  | bankSettle (bank : Nat)
  /-- BANK_SUPPLY_FAULT (R468): A bank supply outside ±10 % for 10 µs tristates the bank. -/
  | bankSupplyFault (bank : Nat)
  /-- BANK_SUPPLY_RETURN (R468): The bank supply returns and the bank resumes. -/
  | bankSupplyReturn (bank : Nat)
  /-- RCO_SHORT (R469): A RCO readback mismatch after blanking turns the driver off. -/
  | rcoShort (rco : Nat)
  /-- RCO_RETRY (R469): A RCO retry sinks for a 20 µs window, clearing the fault if the readback falls. -/
  | rcoRetry (rco : Nat) (low : Bool)
  /-- PIN_CONTENTION (R470): Four consecutive mismatching samples put a push-pull pin in high impedance. -/
  | pinContention (pin : Nat)
  /-- PIN_FAULT_CLEAR (R470): Clearing a PIN_FAULT bit lets the pin drive again. -/
  | pinFaultClear (who : Requester) (v : Nat) (setNow : Nat)
  /-- GPIO_CONFIG (R466): A write of GPIO_CONFIG with output enable makes a pin drive GPIO_OUT. -/
  | gpioConfig (who : Requester) (v : Nat)
  /-- SCALAR_INSTRUCTION (R145): A VX core executes one RV64IMC scalar instruction, including ecall, FENCE, FENCE.I and CSR writes such as CPOWN, CPCTX and DONE_CTL. -/
  | scalarInstruction (core : Nat) (w : BitVec 32)
  /-- PCIE_CONFIG_WRITE (R323): The host writes a function's configuration space: Memory Space Enable, VF Enable and NumVFs, the PTM control register, MSI-X enable or Device Control 2. -/
  | pcieConfigWrite (fn : Nat) (f : CfgField) (v : Nat)
  /-- PCIE_LINK_TRAINED (R321): The PCIe link completes training, a retrain or a rate change, possibly below 16 GT/s or ×8, which raises alarm 0x0901. -/
  | pcieLinkTrained (rate width : Nat) (retrain : Bool)
  /-- PEER_HEALTH_INPUT_CHANGE (R283): The GPIO named in PEER_HEALTH changes level, so that automatic takeover can fire when the link has already been inactive for TAKEOVER_DELAY. -/
  | peerHealthInputChange (level : Bool)
  /-- JTAG_INSTRUCTION (R395): The TAP executes an instruction, whether BYPASS, IDCODE, boundary scan or run control, under the permissions granted. -/
  | jtagInstruction (ins : JtagIns)
  /-- SPARE_TEST_INTERVAL_EXPIRY (R307): SPARE_TEST_INTERVAL elapses and a spare-bank self-test token is requested. -/
  | spareTestIntervalExpiry
  /-- ALARM_PIN_HOLD_EXPIRY (R453): The 100 ms assertion of ALARM_N after an event alarm ends and the pin is released unless a condition alarm holds it. -/
  | alarmPinHoldExpiry
  /-- FRAME_STROBE_END (R471): The 1 µs high pulse of a GPIO set to FUNCTION 1 (frame strobe) ends and the pin falls. -/
  | frameStrobeEnd (pin : Nat)
  /-- PRBS_CHECKER_LOCK (R258): A PRBS checker locks after 256 consecutive correct bits and sets its PRBS lock bit. -/
  | prbsCheckerLock (l : LaneRef)
  /-- PRBS_CHECKER_LOCK_LOSS (R258): A PRBS checker sees 512 errors within 1,024 bits, loses lock and starts to relock. -/
  | prbsCheckerLockLoss (l : LaneRef)
  /-- MODE_TRANSITION_COMPLETE (R373): A mode transition without a drain, such as SAFE to CONFIGURE, a change to BOOT or a change to STANDBY from CONFIGURE or SAFE, completes and the new mode is entered. -/
  | modeTransitionComplete
  /-- MP_ENABLE (R366): Enable of Pothiquin on a management path, after which its IPV4, IPV6 and GATEWAY values take effect. -/
  | mpEnable (who : Requester) (v : Nat)
  deriving DecidableEq, Repr

end Sys2Proof
end

