-- ==== Sys2Proof/Decode.lean ====
section
/-!
DEFINITION. Words that spell commands.  The rows of opcode_table.json carry no bits: a command is a
request, an event or an operation, and no word of the table spells one.
-/

namespace Sys2Proof

/-- The command a word of the table spells: none, since no row of the table gives bits. -/
def decodeTableWord (_nbits _w : Nat) : Option Instr := none

end Sys2Proof
end

