-- ==== Sys2Proof/Config.lean ====
section
/-!
DEFINITION. What one implementation fixes and the values the spec leaves open, as constants without
a body: nothing in Lean can evaluate them, so a statement holds for every value of them.
-/

namespace Sys2Proof

/-- A value the spec leaves open each time it arises; applied to the state's counter of values drawn. -/
opaque Config.free : Nat → Nat

/-- The largest deviation left open by a rounding the spec does not name is decided by this bit. -/
opaque Config.roundUp : Nat → Bool

/-- STRING and OCTETS values fused or written at production (Tables 12-9, 14-8): by object code and
item. -/
opaque Config.fusedOctets : Nat → Nat → List (BitVec 8)

/-- Numbers calibrated at production (INGRESS_LATENCY, EGRESS_LATENCY), by object code and item. -/
opaque Config.calibrated : Nat → Nat → Int

/-- Initialisation vector of the MACs of regions (R399), which the spec does not give: by address, counter or version, and
generation. -/
opaque Config.macIv : Nat → Nat → Nat → Nat

/-- Does the part hold an identity key (R387, R393)? -/
opaque Config.identityKey : Bool

/-- What the TAP answers IDCODE with; the spec gives no value. -/
opaque Config.idcode : BitVec 32

/-- Is the part of grade -X, with a junction maximum of 110 °C (Table 00-1)? -/
opaque Config.extendedGrade : Bool

/-- VERSION, ROLLBACK and digest of the Basecamp image built into the ROM (R391). -/
opaque Config.romVersion : Nat
opaque Config.romRollback : Nat
opaque Config.romDigest : BitVec 384

/-- What the package sends in a key exchange (R394), by draw and step: 81 bytes of SHARE, 145 bytes of PROOF. -/
opaque Config.kexData : Nat → Nat → List (BitVec 8)

/-- Whether a Mogil peer's key exchange verifies (R394): a P-384 signature over the transcript, of the
bytes received and the identity expected. -/
opaque Config.peerProof : List (BitVec 8) → List (BitVec 8) → Bool

/-- Does a fused operation of an infinity, a zero and a quiet NaN signal invalid?  IEEE 754 leaves it to
the implementation. -/
opaque Config.fmaNanInvalid : Bool

/-- mvendorid, marchid and mimpid of the VX cores, by CSR number. -/
opaque Config.vxId : Nat → BitVec 64

/-- A function of the CP2 unit (R172) by operation code, width and operands: within 2 ulp of the exact
value, which one is not stated. -/
opaque Config.cp2 : Nat → Nat → Nat → Nat → Nat

/-- What R172 leaves open of the turbo trellis: 0 which value of a bit takes a branch metric, 1 whether a metric saturates, 2
whether a decision is the input bit, 3 which of two equal branches is taken. -/
opaque Config.trellis : Nat → Bool

/-- What the internal arithmetic of an engine (24-bit values, 18-bit twiddles, the order of binary32 operations; chapter 06)
adds to the exact value of an output, by draw and place: the spec bounds it nowhere. -/
opaque Config.deviation : Nat → Nat → Rat

/-- An element an engine computes from an operand that is not a number or infinite, by draw and place. -/
opaque Config.engineOpen : Nat → Nat → Nat

/-- Where the samples of the raised-cosine tapers of R184 lie, in samples from the start of the rise. -/
opaque Config.taperPhase : Rat

/-- The subcarrier that tap `t` of weight group `g` filters in CHEST (R187), by NSC, GRAN, TAPS, g and t; none at or above NSC. -/
opaque Config.chestTap : Nat → Nat → Nat → Nat → Nat → Nat

/-- Effective noise of a layer in APPLY_DEMAP (R187), from NOISE and the group's weights, row by row; and the constellation
point of a label, by QM, parity of the subcarrier and label, real and imaginary part. -/
opaque Config.effectiveNoise : Rat → List (Rat × Rat) → Nat → Rat
opaque Config.constellation : Nat → Nat → Nat → Rat × Rat

/-- 3GPP tables the spec cites and does not print.  TS 38.212 Tables 5.3.2-2 and 5.3.2-3: shift of a base graph's entry at lifting
size Z, by graph, Z, row and column. -/
opaque Config.baseShift : Bool → Nat → Nat → Nat → Option Nat

/-- Polar codes (TS 38.212 clauses 5.3.1 and 5.4.1), by N, K and E: the positions that hold input bits, and the value of any other
(frozen or parity-check) by its place and the bits before it; the coded bit each rate-matched position takes, and the soft value
of a coded bit that none takes; and the permutations of IBIL (by E) and IIL (by K). -/
opaque Config.polarSet : Nat → Nat → Nat → List Nat
opaque Config.polarFrozen : Nat → Nat → Nat → Nat → List Bool → Bool
opaque Config.polarUnsent : Nat → Nat → Nat → Int
opaque Config.polarPick : Nat → Nat → Nat → List Nat
opaque Config.polarChannel : Nat → List Nat
opaque Config.polarInput : Nat → List Nat

/-- Check-node function and path penalty of the polar decoder, whose arithmetic R193 does not state. -/
opaque Config.polarCheck : Int → Int → Int
opaque Config.polarPenalty : Int → Bool → Nat

/-- The coded bit (3k + stream) each rate-matched position of a tail-biting convolutional code takes (TS 36.212 clause 5.1.4.2),
by K and E. -/
opaque Config.convPick : Nat → Nat → List Nat

/-- The basis sequences of the Reed-Muller code (TS 38.212 Table 5.3.3.3-1), by position and sequence. -/
opaque Config.rmBasis : Nat → Nat → Bool

/-- The turbo code's internal interleaver (TS 36.212 Table 5.1.3-3), by K, and the first position and null positions of its circular
buffer (clause 5.1.4.1), by NCB and RV. -/
opaque Config.turboPerm : Nat → List Nat
opaque Config.turboStart : Nat → Nat → Nat
opaque Config.turboNull : Nat → Nat → Bool

/-- The extrinsic values a constituent max-log-MAP decoder brings, from systematic, parity, a priori and tail values: the spec does
not say how its 16 windows begin and end (R194). -/
opaque Config.mapExtrinsic : List Int → List Int → List Int → List Int → List Int

/-- An extrinsic value in sixteenths as it is stored (R194): the spec does not round it. -/
opaque Config.extRound : Int → Int

/-- The range of the messages an LDPC decoder holds (R189), which the spec does not give: what a value becomes when stored. -/
opaque Config.ldLimit : Int → Int

/-- Choices chapter 06 leaves open: 0 a soft value of 0 decides for bit 1; 1 the later of two equal candidates is taken; 2 a
CRC-24C of a polar code starts after 24 ones; 3 the scrambling sequence of a job runs on from item to item. -/
opaque Config.engineChoice : Nat → Bool

/-- What the compression methods 2 (block scaling), 3 (μ-law) and 4 (modulation) make of a resource block of 24 components, and back,
by method and width (R221): O-RAN's tables, which the spec does not print; and the shift that places a decoded value of a method in a
24-bit component. -/
opaque Config.compress : Nat → Nat → List Int → List (BitVec 8)
opaque Config.expand : Nat → Nat → List (BitVec 8) → List Int
opaque Config.expandShift : Nat → Nat

/-- What the product of a downlink sample and a ramp factor is rounded to (R218), and a ramp's length in whole samples from its exact
length: the spec names neither rounding. -/
opaque Config.rampRound : Rat → Int
opaque Config.rampSamples : Rat → Nat

/-- DELAY of a detection in Tc, interpolated from a profile's bins and the first bin within 6 dB, by format (R214); and the power POWER
reports, from the bins and the number of antennas (Table 07-4). -/
opaque Config.delayTc : Nat → List Rat → Nat → Nat
opaque Config.searchPower : List Rat → Nat → Rat

/-- The width set, radio entry and cell, that set `k` of the noise tables of a compression unit's register block is (R224). -/
opaque Config.widthSetOf : Nat → Nat → Nat × Nat

/-- Bandwidth of a cell's carrier [MHz], by cell (R26): no object of the dictionary holds it. DESIGN CHOICE: one stream alone does not
pass the ceiling of 512 × 100 MHz (Table 01-7); the log says so (50). -/
opaque Config.cellBand : Nat → Fin 51201
/-- The same as a number. -/
def Config.cellMhz (c : Nat) : Nat := (Config.cellBand c).val

/-- Sample rate of a cell's time-domain streams [kHz], by cell (Table 07-1). -/
opaque Config.cellKsps : Nat → Nat

/-- Subcarriers or samples of a symbol of a cell beyond 12, by cell and symbol (R243). DEDUCED: at least one resource block; at most
the 8,832 samples that the longest symbol of Table 02-5 (35,328 ticks) has at 122.88 Msps (log 50). -/
opaque Config.symbolExtra : Nat → Nat → Fin 8821
/-- Subcarriers or samples of a symbol of a cell. -/
def Config.symbolSize (c k : Nat) : Nat := 12 + (Config.symbolExtra c k).val

/-- Repetitions of an NPRACH context's sequence (Table 07-3): no object holds them. -/
opaque Config.nprachRepetitions : Nat → Nat

/-- The signed images the board's flash holds, by class and, for VX images, by slot (R374, R391): none where it holds
none. -/
opaque Config.flash : Nat → Nat → Option Image

/-- What a read returns of a count or input that no command of this model drives (FEC and error-correction counts,
T14, undriven pins), by object code, item and time. -/
opaque Config.unseen : Nat → Nat → Nat → Nat

/-- Results of the cryptographic verification of an image given as bytes (R390), by check: 0 ECDSA key, 1 ECDSA
signature, 2 ML-DSA key, 3 ML-DSA signature, 4 payload digest; and its SHA-384 digest. -/
opaque Config.imageProof : List (BitVec 8) → Nat → Bool
opaque Config.imageDigest : List (BitVec 8) → BitVec 384

/-- The bytes of an image that a command delivered whole. -/
opaque Config.imageBytes : Image → List (BitVec 8)

/-- Codes of access terms, persistence and Takes-effect terms in an INFO reply (OD 0x1100.12), which the spec does not
number: field 0 access, 1 persistence, 2 takes effect, and the term in the order the spec lists it. -/
opaque Config.infoCode : Nat → Nat → Nat

/-- The announce interval of a PTP port [ns] (R47): that of its profile, which the spec does not give. -/
opaque Config.announceInterval : Nat → Nat

end Sys2Proof
end

