-- ==== Sys2Proof/Machine/Objects.lean ====
section
/-!
DEFINITION. The objects of the dictionary (R342, Table 12-12): for each its index, subindex, type,
access term, default, Takes-effect term, persistence (R350), the select object that names its item
(R346) and its range with the reason code of a value outside it (R343).
-/

namespace Sys2Proof.Machine

open Sys2Proof

/-- Access terms (R13). -/
inductive Access where
  | ro | rw | wo | rwc | w1c
  deriving DecidableEq, Repr

/-- Takes-effect terms (R15). -/
inductive Takes where
  | immediately | nextSlot | nextImpression | onEnable | onRun
  deriving DecidableEq, Repr

/-- How the item of an object is named: device-wide, by subindex, by index, by one select object
(its address as 256·index + subindex), by two (item = a·m + b), by index and a select object, or the
waiting histograms. -/
inductive Sel where
  | unit
  | bySub
  | byIdx
  | hist
  | one (a : Nat)
  | two (a b m : Nat)
  | idxOne (b m : Nat)
  deriving DecidableEq, Repr

/-- An object of the dictionary, or a run of objects of one meaning at consecutive subindices or
indices. -/
structure Obj where
  idx : Nat
  nIdx : Nat
  sub : Nat
  nSub : Nat
  ty : Ty
  access : Access
  dflt : Int
  takes : Takes
  stored : Bool
  sel : Sel
  lo : Int
  hi : Int
  reason : Nat
  deriving DecidableEq, Repr

/-- The address of an object as one number: 256·index + subindex of its first place. -/
def Obj.code (o : Obj) : Nat := 256 * o.idx + o.sub

/-- The key under which item `item` of object `o` is held: no two items of the dictionary share one, since every
address is below 2²⁴. -/
def Obj.key (o : Obj) (item : Nat) : Nat := item * 16777216 + o.code

/-- Address code, index and item of a key. -/
def keyCode (k : Nat) : Nat := k % 16777216
def keyIdx (k : Nat) : Nat := keyCode k / 256
def keyItem (k : Nat) : Nat := k / 16777216

namespace OD

/-- VENDOR, 0x1000.01 (R366). -/
def vendor : Obj := ⟨0x1000, 1, 0x01, 1, .string, .ro, 0x0, .immediately, false, .unit, 0x0, 0x0, 0x0D08⟩
/-- PART, 0x1000.02 (R366). -/
def partName : Obj := ⟨0x1000, 1, 0x02, 1, .string, .ro, 0x0, .immediately, false, .unit, 0x0, 0x0, 0x0D08⟩
/-- ORDERING_CODE, 0x1000.03 (R366). -/
def orderingCode : Obj := ⟨0x1000, 1, 0x03, 1, .string, .ro, 0x0, .immediately, false, .unit, 0x0, 0x0, 0x0D08⟩
/-- REVISION, 0x1000.04 (R366). -/
def revision : Obj := ⟨0x1000, 1, 0x04, 1, .string, .ro, 0x0, .immediately, false, .unit, 0x0, 0x0, 0x0D08⟩
/-- SERIAL, 0x1000.05 (R366). -/
def serial : Obj := ⟨0x1000, 1, 0x05, 1, .octets, .ro, 0x0, .immediately, false, .unit, 0x0, 0x0, 0x0D08⟩
/-- IDENTITY_DIGEST, 0x1000.06 (R366). -/
def identityDigest : Obj := ⟨0x1000, 1, 0x06, 1, .octets, .ro, 0x0, .immediately, false, .unit, 0x0, 0x0, 0x0D08⟩
/-- BOOT_VERSION, 0x1000.07 (R366). -/
def bootVersion : Obj := ⟨0x1000, 1, 0x07, 1, .u32, .ro, 0x0, .immediately, false, .unit, 0x0, 0xFFFFFFFF, 0x0D08⟩
/-- DICTIONARY_VERSION, 0x1000.08 (R366). -/
def dictionaryVersion : Obj := ⟨0x1000, 1, 0x08, 1, .u16, .ro, 0x1, .immediately, false, .unit, 0x0, 0xFFFF, 0x0D08⟩
/-- MP_SELECT, 0x1100.01 (R366). -/
def mpSelect : Obj := ⟨0x1100, 1, 0x01, 1, .u8, .rw, 0x0, .immediately, false, .unit, 0x0, 0x2, 0x0D08⟩
/-- MP_ENABLE, 0x1100.02 (R366). -/
def mpEnable : Obj := ⟨0x1100, 1, 0x02, 1, .bool, .rw, 0x1, .onEnable, true, .one 0x110001, 0x0, 0x1, 0x0D08⟩
/-- IPV4, 0x1100.03 (R366). -/
def ipv4 : Obj := ⟨0x1100, 1, 0x03, 1, .u64, .rw, 0x0, .onEnable, true, .one 0x110001, 0x0, 0xFFFFFFFFFFFFFFFF, 0x0D08⟩
/-- IPV6, 0x1100.04 (R366). -/
def ipv6 : Obj := ⟨0x1100, 1, 0x04, 1, .octets, .rw, 0x0, .onEnable, true, .one 0x110001, 0x0, 0x0, 0x0D08⟩
/-- GATEWAY, 0x1100.05 (R366). -/
def gateway : Obj := ⟨0x1100, 1, 0x05, 1, .octets, .rw, 0x0, .onEnable, true, .one 0x110001, 0x0, 0x0, 0x0D08⟩
/-- ROLE_SELECT, 0x1100.06 (R366). -/
def roleSelect : Obj := ⟨0x1100, 1, 0x06, 1, .u8, .rw, 0x0, .immediately, false, .unit, 0x0, 0x1F, 0x0D08⟩
/-- ROLE_ENTRY, 0x1100.07 (R366). -/
def roleEntry : Obj := ⟨0x1100, 1, 0x07, 1, .octets, .rw, 0x0, .immediately, true, .one 0x110006, 0x0, 0x0, 0x0D08⟩
/-- HOST_WRITE, 0x1100.08 (R366). -/
def hostWrite : Obj := ⟨0x1100, 1, 0x08, 1, .bool, .rw, 0x1, .immediately, true, .unit, 0x0, 0x1, 0x0D08⟩
/-- SESSIONS, 0x1100.09 (R366). -/
def sessions : Obj := ⟨0x1100, 1, 0x09, 1, .u8, .ro, 0x0, .immediately, false, .unit, 0x0, 0xFF, 0x0D08⟩
/-- MAX_SESSIONS, 0x1100.0A (R366). -/
def maxSessions : Obj := ⟨0x1100, 1, 0x0A, 1, .u8, .rw, 0x8, .immediately, true, .unit, 0x1, 0x10, 0x0D08⟩
/-- SESSION_IDLE, 0x1100.0B (R366). -/
def sessionIdle : Obj := ⟨0x1100, 1, 0x0B, 1, .u16, .rw, 0x12C, .immediately, true, .unit, 0xA, 0xFFFF, 0x0D08⟩
/-- VERSIONS, 0x1100.0C (R366). -/
def potVersions : Obj := ⟨0x1100, 1, 0x0C, 1, .u8, .ro, 0x0, .immediately, false, .unit, 0x0, 0xFF, 0x0D08⟩
/-- AUTH_FAILURES, 0x1100.0D (R366). -/
def authFailures : Obj := ⟨0x1100, 1, 0x0D, 1, .u32, .ro, 0x0, .immediately, false, .unit, 0x0, 0xFFFFFFFF, 0x0D08⟩
/-- DROPPED, 0x1100.0E (R366). -/
def dropped : Obj := ⟨0x1100, 1, 0x0E, 1, .u32, .ro, 0x0, .immediately, false, .unit, 0x0, 0xFFFFFFFF, 0x0D08⟩
/-- STORE_SEQUENCE, 0x1100.0F (R366). -/
def storeSequence : Obj := ⟨0x1100, 1, 0x0F, 1, .u32, .ro, 0x0, .immediately, false, .unit, 0x0, 0xFFFFFFFF, 0x0D08⟩
/-- SMBUS_ADDRESS, 0x1100.10 (R366). -/
def smbusAddress : Obj := ⟨0x1100, 1, 0x10, 1, .u8, .ro, 0x0, .immediately, false, .unit, 0x0, 0xFF, 0x0D08⟩
/-- MB_IGNORED, 0x1100.11 (R366). -/
def mbIgnored : Obj := ⟨0x1100, 1, 0x11, 1, .u32, .ro, 0x0, .immediately, false, .unit, 0x0, 0xFFFFFFFF, 0x0D08⟩
/-- INFO_LAYOUT, 0x1100.12 (R366). -/
def infoLayout : Obj := ⟨0x1100, 1, 0x12, 1, .u8, .ro, 0x0, .immediately, false, .unit, 0x0, 0xFF, 0x0D08⟩
/-- MODE, 0x2000.01 (R384). -/
def modeCode : Obj := ⟨0x2000, 1, 0x01, 1, .u8, .ro, 0x1, .immediately, false, .unit, 0x0, 0xFF, 0x0D08⟩
/-- MODE_REQUEST, 0x2000.02 (R384). -/
def modeRequest : Obj := ⟨0x2000, 1, 0x02, 1, .u8, .wo, 0x0, .immediately, false, .unit, 0x0, 0xFF, 0x0D08⟩
/-- DEVICE_ENABLE, 0x2000.03 (R384). -/
def deviceEnable : Obj := ⟨0x2000, 1, 0x03, 1, .bool, .rw, 0x0, .onEnable, false, .unit, 0x0, 0x1, 0x0D08⟩
/-- LAST_TRANSITION, 0x2000.04 (R384). -/
def lastTransition : Obj := ⟨0x2000, 1, 0x04, 1, .u32, .ro, 0x0, .immediately, false, .unit, 0x0, 0xFFFFFFFF, 0x0D08⟩
/-- LAST_TRANSITION_TIME, 0x2000.05 (R384). -/
def lastTransitionTime : Obj := ⟨0x2000, 1, 0x05, 1, .tb128, .ro, 0x0, .immediately, false, .unit, 0x0, 0xFFFFFFFFFFFFFFFFFFFFFFFFFFFFFFFF, 0x0D08⟩
/-- TRANSITIONS, 0x2000.06 (R384). -/
def transitions : Obj := ⟨0x2000, 1, 0x06, 1, .u32, .ro, 0x0, .immediately, false, .unit, 0x0, 0xFFFFFFFF, 0x0D08⟩
/-- DEGRADED_CAUSES, 0x2000.07 (R384). -/
def degradedCauses : Obj := ⟨0x2000, 1, 0x07, 1, .u16, .ro, 0x0, .immediately, false, .unit, 0x0, 0xFFFF, 0x0D08⟩
/-- SAFE_CAUSE, 0x2000.08 (R384). -/
def safeCause : Obj := ⟨0x2000, 1, 0x08, 1, .u16, .ro, 0x0, .immediately, false, .unit, 0x0, 0xFFFF, 0x0D08⟩
/-- BOOT_STAGE, 0x2000.09 (R384). -/
def bootStage : Obj := ⟨0x2000, 1, 0x09, 1, .u8, .ro, 0x0, .immediately, false, .unit, 0x0, 0xFF, 0x0D08⟩
/-- BOOT_RESULT, 0x2000.0A (R384). -/
def bootResult : Obj := ⟨0x2000, 1, 0x0A, 1, .u16, .ro, 0x0, .immediately, false, .unit, 0x0, 0xFFFF, 0x0D08⟩
/-- AUTO_BOOT, 0x2000.0B (R384). -/
def autoBoot : Obj := ⟨0x2000, 1, 0x0B, 1, .bool, .rw, 0x1, .immediately, true, .unit, 0x0, 0x1, 0x0D08⟩
/-- RUN_AT_BOOT, 0x2000.0C (R384). -/
def runAtBoot : Obj := ⟨0x2000, 1, 0x0C, 1, .bool, .rw, 0x0, .immediately, true, .unit, 0x0, 0x1, 0x0D08⟩
/-- LAST_ENABLE_REASON, 0x2000.0D (R384). -/
def lastEnableReason : Obj := ⟨0x2000, 1, 0x0D, 1, .u16, .ro, 0x0, .immediately, false, .unit, 0x0, 0xFFFF, 0x0D08⟩
/-- LAST_ENABLE_DETAIL, 0x2000.0E (R384). -/
def lastEnableDetail : Obj := ⟨0x2000, 1, 0x0E, 1, .u32, .ro, 0x0, .immediately, false, .unit, 0x0, 0xFFFFFFFF, 0x0D08⟩
/-- BOOT_SOURCE, 0x2000.0F (R384). -/
def bootSource : Obj := ⟨0x2000, 1, 0x0F, 1, .u8, .ro, 0x0, .immediately, false, .unit, 0x0, 0xFF, 0x0D08⟩
/-- STOP_DRAIN, 0x2000.10 (R384). -/
def stopDrain : Obj := ⟨0x2000, 1, 0x10, 1, .u16, .rw, 0xA, .immediately, true, .unit, 0x1, 0x3E8, 0x0D08⟩
/-- BOOT_IMAGE, 0x2000.11 (R384). -/
def bootImage : Obj := ⟨0x2000, 1, 0x11, 1, .octets, .wo, 0x0, .immediately, false, .unit, 0x0, 0x0, 0x0D08⟩
/-- BOOT_HOST_WAIT, 0x2000.12 (R384). -/
def bootHostWait : Obj := ⟨0x2000, 1, 0x12, 1, .u16, .rw, 0x3C, .immediately, true, .unit, 0x1, 0xE10, 0x0D08⟩
/-- POWER_NOW, 0x2100.01 (R429). -/
def powerNow : Obj := ⟨0x2100, 1, 0x01, 1, .u16, .ro, 0x0, .immediately, false, .unit, 0x0, 0xFFFF, 0x0103⟩
/-- VIN_NOW, 0x2100.02 (R429). -/
def vinNow : Obj := ⟨0x2100, 1, 0x02, 1, .u16, .ro, 0x0, .immediately, false, .unit, 0x0, 0xFFFF, 0x0103⟩
/-- IIN_NOW, 0x2100.03 (R429). -/
def iinNow : Obj := ⟨0x2100, 1, 0x03, 1, .u16, .ro, 0x0, .immediately, false, .unit, 0x0, 0xFFFF, 0x0103⟩
/-- CAP_NOW, 0x2100.04 (R429). -/
def capNow : Obj := ⟨0x2100, 1, 0x04, 1, .u16, .ro, 0xB54, .immediately, false, .unit, 0x0, 0xFFFF, 0x0103⟩
/-- POWER_LIMIT, 0x2100.05 (R429). -/
def powerLimit : Obj := ⟨0x2100, 1, 0x05, 1, .u16, .rw, 0x122, .immediately, true, .unit, 0x6D, 0x122, 0x0103⟩
/-- THROTTLE_LEVEL, 0x2100.06 (R429). -/
def throttleLevel : Obj := ⟨0x2100, 1, 0x06, 1, .u8, .ro, 0x0, .immediately, false, .unit, 0x0, 0xFF, 0x0103⟩
/-- THROTTLE_CAUSE, 0x2100.07 (R429). -/
def throttleCause : Obj := ⟨0x2100, 1, 0x07, 1, .u8, .ro, 0x0, .immediately, false, .unit, 0x0, 0xFF, 0x0103⟩
/-- WITHDRAWN, 0x2100.08 (R429). -/
def withdrawn : Obj := ⟨0x2100, 1, 0x08, 1, .u16, .ro, 0x0, .immediately, false, .unit, 0x0, 0xFFFF, 0x0103⟩
/-- VIN_RISE_HOLD, 0x2100.09 (R429). -/
def vinRiseHold : Obj := ⟨0x2100, 1, 0x09, 1, .u16, .rw, 0xA, .immediately, true, .unit, 0x1, 0x3E8, 0x0103⟩
/-- CAP_HEADROOM, 0x2100.0A (R429). -/
def capHeadroom : Obj := ⟨0x2100, 1, 0x0A, 1, .u8, .rw, 0x8, .immediately, true, .unit, 0x1, 0x32, 0x0103⟩
/-- ENERGY, 0x2100.0B (R429). -/
def energy : Obj := ⟨0x2100, 1, 0x0B, 1, .u64, .ro, 0x0, .immediately, false, .unit, 0x0, 0xFFFFFFFFFFFFFFFF, 0x0103⟩
/-- TJ_NOW, 0x2100.0C (R429). -/
def tjNow : Obj := ⟨0x2100, 1, 0x0C, 1, .u32, .ro, 0x0, .immediately, false, .unit, 0x0, 0xFFFFFFFF, 0x0103⟩
/-- SENSOR_SELECT, 0x2100.0D (R429). -/
def sensorSelect : Obj := ⟨0x2100, 1, 0x0D, 1, .u8, .rw, 0x0, .immediately, false, .unit, 0x0, 0x89, 0x0103⟩
/-- SENSOR_TEMP, 0x2100.0E (R429). -/
def sensorTemp : Obj := ⟨0x2100, 1, 0x0E, 1, .i16, .ro, 0x0, .immediately, false, .one 0x21000D, (-32768), 0x7FFF, 0x0103⟩
/-- THROTTLE_OFFSET, 0x2100.0F (R429). -/
def throttleOffset : Obj := ⟨0x2100, 1, 0x0F, 1, .u8, .rw, 0x5, .immediately, true, .unit, 0x1, 0x14, 0x0103⟩
/-- THERMAL_STEP, 0x2100.10 (R429). -/
def thermalStep : Obj := ⟨0x2100, 1, 0x10, 1, .u8, .rw, 0x5, .immediately, true, .unit, 0x1, 0x32, 0x0103⟩
/-- DOMAIN_SELECT, 0x2100.11 (R429). -/
def domainSelect : Obj := ⟨0x2100, 1, 0x11, 1, .u8, .rw, 0x0, .immediately, false, .unit, 0x0, 0xD3, 0x0103⟩
/-- DOMAIN_STATE, 0x2100.12 (R429). -/
def domainState : Obj := ⟨0x2100, 1, 0x12, 1, .u8, .ro, 0x0, .immediately, false, .one 0x210011, 0x0, 0xFF, 0x0103⟩
/-- DOMAIN_WAKES, 0x2100.13 (R429). -/
def domainWakes : Obj := ⟨0x2100, 1, 0x13, 1, .u32, .ro, 0x0, .immediately, false, .one 0x210011, 0x0, 0xFFFFFFFF, 0x0103⟩
/-- SLEEP_ENABLE, 0x2100.14 (R429). -/
def sleepEnable : Obj := ⟨0x2100, 1, 0x14, 1, .u16, .rw, 0xFD, .immediately, true, .unit, 0x0, 0xFD, 0x0103⟩
/-- IDLE_DELAY, 0x2100.15 (R429). -/
def idleDelay : Obj := ⟨0x2100, 1, 0x15, 1, .u16, .rw, 0x14, .immediately, true, .unit, 0x2, 0x2710, 0x0103⟩
/-- KEEP_AWAKE, 0x2100.16 (R429). -/
def keepAwake : Obj := ⟨0x2100, 1, 0x16, 1, .u8, .rw, 0x2, .immediately, true, .unit, 0x0, 0x10, 0x0103⟩
/-- DROOP_EVENTS, 0x2100.17 (R429). -/
def droopEvents : Obj := ⟨0x2100, 1, 0x17, 1, .u32, .ro, 0x0, .immediately, false, .unit, 0x0, 0xFFFFFFFF, 0x0103⟩
/-- STRETCH_PPM, 0x2100.18 (R429). -/
def stretchPpm : Obj := ⟨0x2100, 1, 0x18, 1, .u32, .ro, 0x0, .immediately, false, .unit, 0x0, 0xFFFFFFFF, 0x0103⟩
/-- STRETCH_ALARM, 0x2100.19 (R429). -/
def stretchAlarm : Obj := ⟨0x2100, 1, 0x19, 1, .u32, .rw, 0x2710, .immediately, true, .unit, 0x64, 0xF4240, 0x0103⟩
/-- RAIL_SELECT, 0x2100.1A (R429). -/
def railSelect : Obj := ⟨0x2100, 1, 0x1A, 1, .u8, .rw, 0x0, .immediately, false, .unit, 0x0, 0xB, 0x0103⟩
/-- RAIL_VOLTAGE, 0x2100.1B (R429). -/
def railVoltage : Obj := ⟨0x2100, 1, 0x1B, 1, .u16, .ro, 0x0, .immediately, false, .one 0x21001A, 0x0, 0xFFFF, 0x0103⟩
/-- RAIL_PHASES, 0x2100.1C (R429). -/
def railPhases : Obj := ⟨0x2100, 1, 0x1C, 1, .u16, .ro, 0x0, .immediately, false, .one 0x21001A, 0x0, 0xFFFF, 0x0103⟩
/-- PHASE_FAULTS, 0x2100.1D (R429). -/
def phaseFaults : Obj := ⟨0x2100, 1, 0x1D, 1, .u32, .ro, 0x0, .immediately, false, .unit, 0x0, 0xFFFFFFFF, 0x0103⟩
/-- TIME_NOW, 0x3000.01 (R79). -/
def timeNow : Obj := ⟨0x3000, 1, 0x01, 1, .tb128, .ro, 0x0, .immediately, false, .unit, 0x0, 0xFFFFFFFFFFFFFFFFFFFFFFFFFFFFFFFF, 0x0D08⟩
/-- SERVO_STATE, 0x3000.02 (R79). -/
def servoState : Obj := ⟨0x3000, 1, 0x02, 1, .u8, .ro, 0x0, .immediately, false, .unit, 0x0, 0xFF, 0x0D08⟩
/-- TIME_SET, 0x3000.03 (R79). -/
def timeSet : Obj := ⟨0x3000, 1, 0x03, 1, .tb128, .wo, 0x0, .immediately, false, .unit, 0x0, 0xFFFFFFFFFFFFFFFFFFFFFFFFFFFFFFFF, 0x0D08⟩
/-- PHASE_ERROR, 0x3000.04 (R79). -/
def phaseError : Obj := ⟨0x3000, 1, 0x04, 1, .i32, .ro, 0x0, .immediately, false, .unit, (-2147483648), 0x7FFFFFFF, 0x0D08⟩
/-- RATE_WORD, 0x3000.05 (R79). -/
def rateWord : Obj := ⟨0x3000, 1, 0x05, 1, .u64, .ro, 0x199999999999A, .immediately, false, .unit, 0x0, 0xFFFFFFFFFFFFFFFF, 0x0D08⟩
/-- KP, 0x3000.06 (R79). -/
def kp : Obj := ⟨0x3000, 1, 0x06, 1, .u32, .rw, 0x8000, .immediately, true, .unit, 0x0, 0xFFFFFFFF, 0x0D08⟩
/-- KI, 0x3000.07 (R79). -/
def ki : Obj := ⟨0x3000, 1, 0x07, 1, .u32, .rw, 0x1000, .immediately, true, .unit, 0x0, 0xFFFFFFFF, 0x0D08⟩
/-- LOCK_THRESHOLD, 0x3000.08 (R79). -/
def lockThreshold : Obj := ⟨0x3000, 1, 0x08, 1, .u32, .rw, 0xA, .immediately, true, .unit, 0x0, 0xFFFFFFFF, 0x0D08⟩
/-- LOCK_TIME, 0x3000.09 (R79). -/
def lockTime : Obj := ⟨0x3000, 1, 0x09, 1, .u16, .rw, 0xA, .immediately, true, .unit, 0x0, 0xFFFF, 0x0D08⟩
/-- UNLOCK_THRESHOLD, 0x3000.0A (R79). -/
def unlockThreshold : Obj := ⟨0x3000, 1, 0x0A, 1, .u32, .rw, 0x64, .immediately, true, .unit, 0x0, 0xFFFFFFFF, 0x0D08⟩
/-- STEP_THRESHOLD, 0x3000.0B (R79). -/
def stepThreshold : Obj := ⟨0x3000, 1, 0x0B, 1, .u32, .rw, 0x3E8, .immediately, true, .unit, 0x0, 0xFFFFFFFF, 0x0D08⟩
/-- STEP_IN_RUN, 0x3000.0C (R79). -/
def stepInRun : Obj := ⟨0x3000, 1, 0x0C, 1, .bool, .rw, 0x0, .immediately, true, .unit, 0x0, 0x1, 0x0D08⟩
/-- OSC_FREQUENCY, 0x3000.0D (R79). -/
def oscFrequency : Obj := ⟨0x3000, 1, 0x0D, 1, .u8, .rwc, 0x0, .onRun, true, .unit, 0x0, 0x2, 0x0D08⟩
/-- TAI_UTC, 0x3000.0E (R79). -/
def taiUtc : Obj := ⟨0x3000, 1, 0x0E, 1, .i16, .rw, 0x25, .immediately, true, .unit, (-32768), 0x7FFF, 0x0D08⟩
/-- FREQ_CLAMP, 0x3000.0F (R79). -/
def freqClamp : Obj := ⟨0x3000, 1, 0x0F, 1, .u32, .rw, 0x2710, .immediately, true, .unit, 0x64, 0x30D40, 0x0D08⟩
/-- SLEW_LIMIT, 0x3000.10 (R79). -/
def slewLimit : Obj := ⟨0x3000, 1, 0x10, 1, .u32, .rw, 0x64, .immediately, true, .unit, 0x0, 0xFFFFFFFF, 0x0D08⟩
/-- HOLDOVER_AVERAGING, 0x3000.11 (R79). -/
def holdoverAveraging : Obj := ⟨0x3000, 1, 0x11, 1, .u16, .rw, 0x258, .immediately, true, .unit, 0x0, 0xFFFF, 0x0D08⟩
/-- HOLDOVER_LIMIT, 0x3000.12 (R79). -/
def holdoverLimit : Obj := ⟨0x3000, 1, 0x12, 1, .u32, .rw, 0x3840, .immediately, true, .unit, 0x0, 0xFFFFFFFF, 0x0D08⟩
/-- STATUS, 0x3000.13 (R79). -/
def statusSticky : Obj := ⟨0x3000, 1, 0x13, 1, .u32, .w1c, 0x0, .immediately, false, .unit, 0x0, 0xFFFFFFFF, 0x0D08⟩
/-- LAST_SWITCH, 0x3000.14 (R79). -/
def lastSwitch : Obj := ⟨0x3000, 1, 0x14, 1, .u16, .ro, 0x0, .immediately, false, .unit, 0x0, 0xFFFF, 0x0D08⟩
/-- REVERTIVE, 0x3000.15 (R79). -/
def revertive : Obj := ⟨0x3000, 1, 0x15, 1, .bool, .rw, 0x1, .immediately, true, .unit, 0x0, 0x1, 0x0D08⟩
/-- WAIT_TO_RESTORE, 0x3000.16 (R79). -/
def waitToRestore : Obj := ⟨0x3000, 1, 0x16, 1, .u16, .rw, 0x12C, .immediately, true, .unit, 0x0, 0xFFFF, 0x0D08⟩
/-- QUALIFY_TIME, 0x3000.17 (R79). -/
def qualifyTime : Obj := ⟨0x3000, 1, 0x17, 1, .u16, .rw, 0xA, .immediately, true, .unit, 0x0, 0xFFFF, 0x0D08⟩
/-- SELECTED, 0x3000.18 (R79). -/
def selectedRef : Obj := ⟨0x3000, 1, 0x18, 1, .u16, .ro, 0xFFFF, .immediately, false, .unit, 0x0, 0xFFFF, 0x0D08⟩
/-- HOLD_IN_STANDBY, 0x3000.19 (R79). -/
def holdInStandby : Obj := ⟨0x3000, 1, 0x19, 1, .bool, .rw, 0x1, .immediately, true, .unit, 0x0, 0x1, 0x0D08⟩
/-- STATE_CHANGES, 0x3000.1A (R79). -/
def stateChanges : Obj := ⟨0x3000, 1, 0x1A, 1, .u32, .ro, 0x0, .immediately, false, .unit, 0x0, 0xFFFFFFFF, 0x0D08⟩
/-- LOCKED_RATE, 0x3000.1B (R79). -/
def lockedRate : Obj := ⟨0x3000, 1, 0x1B, 1, .u64, .ro, 0x0, .immediately, true, .unit, 0x0, 0xFFFFFFFFFFFFFFFF, 0x0D08⟩
/-- LAST_STEP, 0x3000.1C (R79). -/
def lastStep : Obj := ⟨0x3000, 1, 0x1C, 1, .i64, .ro, 0x0, .immediately, false, .unit, (-9223372036854775808), 0x7FFFFFFFFFFFFFFF, 0x0D08⟩
/-- REFERENCE, 0x3010.01 (R46). -/
def reference : Obj := ⟨0x3010, 1, 0x01, 8, .u32, .rw, 0xF000, .immediately, true, .bySub, 0x0, 0xFFFFFFFF, 0x0D08⟩
/-- PPS_IN_DELAY, 0x3020.01 (R79). -/
def ppsInDelay : Obj := ⟨0x3020, 1, 0x01, 2, .i32, .rw, 0x0, .immediately, true, .bySub, (-2147483648), 0x7FFFFFFF, 0x0D08⟩
/-- TOD_IN_PAIR, 0x3020.03 (R79). -/
def todInPair : Obj := ⟨0x3020, 1, 0x03, 1, .u8, .rw, 0x0, .immediately, true, .unit, 0x0, 0x1, 0x0D08⟩
/-- TOD_IN_CONFIG, 0x3020.04 (R79). -/
def todInConfig : Obj := ⟨0x3020, 1, 0x04, 1, .u16, .rw, 0x0, .immediately, true, .unit, 0x0, 0xFFFF, 0x0D08⟩
/-- PPS_OUT_OFFSET, 0x3020.05 (R79). -/
def ppsOutOffset : Obj := ⟨0x3020, 1, 0x05, 2, .i32, .rw, 0x0, .immediately, true, .bySub, (-2147483648), 0x7FFFFFFF, 0x0D08⟩
/-- PPS_OUT_WIDTH, 0x3020.07 (R79). -/
def ppsOutWidth : Obj := ⟨0x3020, 1, 0x07, 1, .u32, .rw, 0x186A0, .immediately, true, .unit, 0x1, 0xDBBA0, 0x0D08⟩
/-- TOD_OUT_CONFIG, 0x3020.08 (R79). -/
def todOutConfig : Obj := ⟨0x3020, 1, 0x08, 1, .u32, .rw, 0xA0000, .immediately, true, .unit, 0x0, 0xFFFFFFFF, 0x0D08⟩
/-- OUTPUT_ENABLE, 0x3020.09 (R79). -/
def outputEnable : Obj := ⟨0x3020, 1, 0x09, 1, .u8, .rw, 0x10, .immediately, true, .unit, 0x0, 0xFF, 0x0D08⟩
/-- PPS_WINDOW, 0x3020.0A (R79). -/
def ppsWindow : Obj := ⟨0x3020, 1, 0x0A, 1, .u32, .rw, 0x3E8, .immediately, true, .unit, 0x0, 0xFFFFFFFF, 0x0D08⟩
/-- PPS_REJECTED, 0x3020.0B (R79). -/
def ppsRejected : Obj := ⟨0x3020, 1, 0x0B, 1, .u32, .ro, 0x0, .immediately, false, .unit, 0x0, 0xFFFFFFFF, 0x0D08⟩
/-- PTM_INTERVAL, 0x3040.01 (R79). -/
def ptmInterval : Obj := ⟨0x3040, 1, 0x01, 1, .u16, .rw, 0xA, .immediately, true, .unit, 0x1, 0x3E8, 0x0D08⟩
/-- PTM_VALID, 0x3040.02 (R79). -/
def ptmValid : Obj := ⟨0x3040, 1, 0x02, 1, .bool, .ro, 0x0, .immediately, false, .unit, 0x0, 0x1, 0x0D08⟩
/-- HOST_OFFSET, 0x3040.03 (R79). -/
def hostOffset : Obj := ⟨0x3040, 1, 0x03, 1, .i64, .ro, 0x0, .immediately, false, .unit, (-9223372036854775808), 0x7FFFFFFFFFFFFFFF, 0x0D08⟩
/-- HOST_OFFSET_MEDIAN, 0x3040.04 (R79). -/
def hostOffsetMedian : Obj := ⟨0x3040, 1, 0x04, 1, .i64, .ro, 0x0, .immediately, false, .unit, (-9223372036854775808), 0x7FFFFFFFFFFFFFFF, 0x0D08⟩
/-- PTM_LINK_DELAY, 0x3040.05 (R79). -/
def ptmLinkDelay : Obj := ⟨0x3040, 1, 0x05, 1, .u32, .ro, 0x0, .immediately, false, .unit, 0x0, 0xFFFFFFFF, 0x0D08⟩
/-- PTM_PAIR_TIME, 0x3040.06 (R79). -/
def ptmPairTime : Obj := ⟨0x3040, 1, 0x06, 1, .tb128, .ro, 0x0, .immediately, false, .unit, 0x0, 0xFFFFFFFFFFFFFFFFFFFFFFFFFFFFFFFF, 0x0D08⟩
/-- PROFILE, 0x3100.01 (R79). -/
def ptpProfile : Obj := ⟨0x3100, 1, 0x01, 1, .u8, .rwc, 0x1, .onRun, true, .unit, 0x1, 0x2, 0x0D08⟩
/-- DOMAIN, 0x3100.02 (R79). -/
def ptpDomain : Obj := ⟨0x3100, 1, 0x02, 1, .u8, .rwc, 0x18, .onRun, true, .unit, 0x0, 0xFF, 0x0D08⟩
/-- PRIORITY2, 0x3100.03 (R79). -/
def priority2 : Obj := ⟨0x3100, 1, 0x03, 1, .u8, .rw, 0x80, .immediately, true, .unit, 0x0, 0xFF, 0x0D08⟩
/-- LOCAL_PRIORITY, 0x3100.04 (R79). -/
def localPriority : Obj := ⟨0x3100, 1, 0x04, 1, .u8, .rw, 0x80, .immediately, true, .unit, 0x0, 0xFF, 0x0D08⟩
/-- CLOCK_IDENTITY, 0x3100.05 (R79). -/
def clockIdentity : Obj := ⟨0x3100, 1, 0x05, 1, .octets, .ro, 0x0, .immediately, false, .unit, 0x0, 0x0, 0x0D08⟩
/-- TIME_CORE, 0x3100.06 (R79). -/
def timeCore : Obj := ⟨0x3100, 1, 0x06, 1, .u8, .rwc, 0x0, .onRun, true, .unit, 0x0, 0x7, 0x0D08⟩
/-- HYBRID, 0x3100.07 (R79). -/
def hybrid : Obj := ⟨0x3100, 1, 0x07, 1, .bool, .rw, 0x1, .immediately, true, .unit, 0x0, 0x1, 0x0D08⟩
/-- ENABLE, 0x3110.01 (R79). -/
def ptpEnable : Obj := ⟨0x3110, 26, 0x01, 1, .bool, .rwc, 0x0, .onEnable, true, .byIdx, 0x0, 0x1, 0x0D08⟩
/-- TRANSPORT, 0x3110.02 (R79). -/
def ptpTransport : Obj := ⟨0x3110, 26, 0x02, 1, .u8, .rwc, 0x0, .onEnable, true, .byIdx, 0x0, 0x2, 0x0D08⟩
/-- ONE_STEP, 0x3110.03 (R79). -/
def oneStep : Obj := ⟨0x3110, 26, 0x03, 1, .bool, .rwc, 0x1, .onEnable, true, .byIdx, 0x0, 0x1, 0x0D08⟩
/-- NOT_SLAVE, 0x3110.04 (R79). -/
def notSlave : Obj := ⟨0x3110, 26, 0x04, 1, .bool, .rwc, 0x1, .onEnable, true, .byIdx, 0x0, 0x1, 0x0D08⟩
/-- LOG_SYNC_INTERVAL, 0x3110.05 (R79). -/
def logSyncInterval : Obj := ⟨0x3110, 26, 0x05, 1, .i8, .rwc, (-4), .onEnable, true, .byIdx, (-128), 0x7F, 0x0D08⟩
/-- LOG_DELAY_REQ_INTERVAL, 0x3110.06 (R79). -/
def logDelayReqInterval : Obj := ⟨0x3110, 26, 0x06, 1, .i8, .rwc, (-4), .onEnable, true, .byIdx, (-128), 0x7F, 0x0D08⟩
/-- ANNOUNCE_TIMEOUT, 0x3110.07 (R79). -/
def announceTimeout : Obj := ⟨0x3110, 26, 0x07, 1, .u8, .rwc, 0x3, .onEnable, true, .byIdx, 0x0, 0xFF, 0x0D08⟩
/-- ASYMMETRY, 0x3110.08 (R79). -/
def asymmetry : Obj := ⟨0x3110, 26, 0x08, 1, .i32, .rw, 0x0, .immediately, true, .byIdx, (-2147483648), 0x7FFFFFFF, 0x0D08⟩
/-- INGRESS_LATENCY, 0x3110.09 (R79). -/
def ingressLatency : Obj := ⟨0x3110, 26, 0x09, 1, .i32, .ro, 0x0, .immediately, false, .byIdx, (-2147483648), 0x7FFFFFFF, 0x0D08⟩
/-- EGRESS_LATENCY, 0x3110.0A (R79). -/
def egressLatency : Obj := ⟨0x3110, 26, 0x0A, 1, .i32, .ro, 0x0, .immediately, false, .byIdx, (-2147483648), 0x7FFFFFFF, 0x0D08⟩
/-- PORT_STATE, 0x3110.0B (R79). -/
def portState : Obj := ⟨0x3110, 26, 0x0B, 1, .u8, .ro, 0x1, .immediately, false, .byIdx, 0x0, 0xFF, 0x0D08⟩
/-- STAMP_OVERFLOW, 0x3110.0C (R79). -/
def stampOverflow : Obj := ⟨0x3110, 26, 0x0C, 1, .bool, .w1c, 0x0, .immediately, false, .byIdx, 0x0, 0x1, 0x0D08⟩
/-- STAMP_OVERFLOW_COUNT, 0x3110.0D (R79). -/
def stampOverflowCount : Obj := ⟨0x3110, 26, 0x0D, 1, .u32, .ro, 0x0, .immediately, false, .byIdx, 0x0, 0xFFFFFFFF, 0x0D08⟩
/-- POLICE_RATE, 0x3110.0E (R79). -/
def policeRate : Obj := ⟨0x3110, 26, 0x0E, 1, .u16, .rw, 0x100, .immediately, true, .byIdx, 0x0, 0xFFFF, 0x0D08⟩
/-- POLICED_COUNT, 0x3110.0F (R79). -/
def policedCount : Obj := ⟨0x3110, 26, 0x0F, 1, .u32, .ro, 0x0, .immediately, false, .byIdx, 0x0, 0xFFFFFFFF, 0x0D08⟩
/-- MEAN_PATH_DELAY, 0x3110.10 (R79). -/
def meanPathDelay : Obj := ⟨0x3110, 26, 0x10, 1, .i64, .ro, 0x0, .immediately, false, .byIdx, (-9223372036854775808), 0x7FFFFFFFFFFFFFFF, 0x0D08⟩
/-- OFFSET, 0x3110.11 (R79). -/
def ptpOffset : Obj := ⟨0x3110, 26, 0x11, 1, .i64, .ro, 0x0, .immediately, false, .byIdx, (-9223372036854775808), 0x7FFFFFFFFFFFFFFF, 0x0D08⟩
/-- FRAME_OFFSET, 0x3200.01 (R79). -/
def frameOffset : Obj := ⟨0x3200, 1, 0x01, 1, .i32, .rwc, 0x0, .onRun, true, .unit, (-2147483648), 0x7FFFFFFF, 0x0D08⟩
/-- AIR_TICK, 0x3200.02 (R79). -/
def airTick : Obj := ⟨0x3200, 1, 0x02, 1, .u64, .ro, 0x0, .immediately, false, .unit, 0x0, 0xFFFFFFFFFFFFFFFF, 0x0D08⟩
/-- AIR_ERA, 0x3200.03 (R79). -/
def airEra : Obj := ⟨0x3200, 1, 0x03, 1, .u16, .ro, 0x0, .immediately, false, .unit, 0x0, 0xFFFF, 0x0D08⟩
/-- SFN, 0x3200.04 (R79). -/
def sfn : Obj := ⟨0x3200, 1, 0x04, 1, .u16, .ro, 0x0, .immediately, false, .unit, 0x0, 0xFFFF, 0x0D08⟩
/-- HFN, 0x3200.05 (R79). -/
def hfn : Obj := ⟨0x3200, 1, 0x05, 1, .u16, .ro, 0x0, .immediately, false, .unit, 0x0, 0xFFFF, 0x0D08⟩
/-- DEADLINE_REACH, 0x3200.06 (R79). -/
def deadlineReach : Obj := ⟨0x3200, 1, 0x06, 1, .u32, .ro, 0x7FFFFFFF, .immediately, false, .unit, 0x0, 0xFFFFFFFF, 0x0D08⟩
/-- LANE_SELECT, 0x4000.01 (R259). -/
def laneSelect : Obj := ⟨0x4000, 1, 0x01, 1, .u8, .rw, 0x0, .immediately, false, .unit, 0x0, 0x17, 0x0D08⟩
/-- LANE_MODE, 0x4000.02 (R259). -/
def laneMode : Obj := ⟨0x4000, 1, 0x02, 1, .u8, .rwc, 0x0, .onEnable, true, .one 0x400001, 0x0, 0xFF, 0x0D08⟩
/-- TX_EQ, 0x4000.03 (R259). -/
def laneTxEq : Obj := ⟨0x4000, 1, 0x03, 1, .u32, .rw, 0x3C00, .immediately, true, .one 0x400001, 0x0, 0xFFFFFFFF, 0x0D08⟩
/-- POLARITY, 0x4000.04 (R259). -/
def lanePolarity : Obj := ⟨0x4000, 1, 0x04, 1, .u8, .rwc, 0x0, .onEnable, true, .one 0x400001, 0x0, 0xFF, 0x0D08⟩
/-- SIGNAL_STATE, 0x4000.05 (R259). -/
def signalState : Obj := ⟨0x4000, 1, 0x05, 1, .u8, .ro, 0x0, .immediately, false, .one 0x400001, 0x0, 0xFF, 0x0D08⟩
/-- SIGNAL_DEBOUNCE, 0x4000.06 (R259). -/
def laneDebounce : Obj := ⟨0x4000, 1, 0x06, 1, .u16, .rw, 0x3E8, .immediately, true, .one 0x400001, 0x0, 0xFFFF, 0x0D08⟩
/-- PRBS_CONFIG, 0x4000.07 (R259). -/
def lanePrbsConfig : Obj := ⟨0x4000, 1, 0x07, 1, .u16, .rw, 0x0, .immediately, true, .one 0x400001, 0x0, 0xFFFF, 0x0D08⟩
/-- PRBS_BITS, 0x4000.08 (R259). -/
def lanePrbsBits : Obj := ⟨0x4000, 1, 0x08, 1, .u64, .ro, 0x0, .immediately, false, .one 0x400001, 0x0, 0xFFFFFFFFFFFFFFFF, 0x0D08⟩
/-- PRBS_ERRORS, 0x4000.09 (R259). -/
def lanePrbsErrors : Obj := ⟨0x4000, 1, 0x09, 1, .u64, .ro, 0x0, .immediately, false, .one 0x400001, 0x0, 0xFFFFFFFFFFFFFFFF, 0x0D08⟩
/-- PRBS_CLEAR, 0x4000.0A (R259). -/
def prbsClear : Obj := ⟨0x4000, 1, 0x0A, 1, .bool, .wo, 0x0, .immediately, false, .one 0x400001, 0x0, 0x1, 0x0D08⟩
/-- LOS_COUNT, 0x4000.0B (R259). -/
def losCount : Obj := ⟨0x4000, 1, 0x0B, 1, .u32, .ro, 0x0, .immediately, false, .one 0x400001, 0x0, 0xFFFFFFFF, 0x0D08⟩
/-- LOL_COUNT, 0x4000.0C (R259). -/
def lolCount : Obj := ⟨0x4000, 1, 0x0C, 1, .u32, .ro, 0x0, .immediately, false, .one 0x400001, 0x0, 0xFFFFFFFF, 0x0D08⟩
/-- RECAL_INTERVAL, 0x4000.0D (R259). -/
def recalInterval : Obj := ⟨0x4000, 1, 0x0D, 1, .u32, .rw, 0xE10, .immediately, true, .one 0x400001, 0x0, 0xFFFFFFFF, 0x0D08⟩
/-- PORT_SELECT, 0x4100.01 (R259). -/
def portSelect : Obj := ⟨0x4100, 1, 0x01, 1, .u8, .rw, 0x0, .immediately, false, .unit, 0x0, 0x17, 0x0D08⟩
/-- PORT_CONFIG, 0x4100.02 (R259). -/
def portConfig : Obj := ⟨0x4100, 1, 0x02, 1, .u16, .rwc, 0x0, .onEnable, true, .one 0x410001, 0x0, 0xFFFF, 0x0D08⟩
/-- PORT_ENABLE, 0x4100.03 (R259). -/
def portEnable : Obj := ⟨0x4100, 1, 0x03, 1, .bool, .rw, 0x0, .onEnable, true, .one 0x410001, 0x0, 0x1, 0x0D08⟩
/-- MAC_ADDRESS, 0x4100.04 (R259). -/
def macAddress : Obj := ⟨0x4100, 1, 0x04, 1, .octets, .rwc, 0x0, .onEnable, true, .one 0x410001, 0x0, 0x0, 0x0D08⟩
/-- MAX_FRAME, 0x4100.05 (R259). -/
def maxFrame : Obj := ⟨0x4100, 1, 0x05, 1, .u16, .rwc, 0x2400, .onEnable, true, .one 0x410001, 0x5EE, 0x2400, 0x030A⟩
/-- UDP_PORT, 0x4100.06 (R259). -/
def udpPort : Obj := ⟨0x4100, 1, 0x06, 1, .u16, .rwc, 0xAFFE, .onEnable, true, .one 0x410001, 0x0, 0xFFFF, 0x0D08⟩
/-- LINK_STATE, 0x4100.07 (R259). -/
def portLinkState : Obj := ⟨0x4100, 1, 0x07, 1, .u8, .ro, 0x0, .immediately, false, .one 0x410001, 0x0, 0xFF, 0x0D08⟩
/-- FEC_CORRECTED, 0x4100.08 (R259). -/
def fecCorrected : Obj := ⟨0x4100, 1, 0x08, 1, .u64, .ro, 0x0, .immediately, false, .one 0x410001, 0x0, 0xFFFFFFFFFFFFFFFF, 0x0D08⟩
/-- FEC_UNCORRECTED, 0x4100.09 (R259). -/
def fecUncorrected : Obj := ⟨0x4100, 1, 0x09, 1, .u64, .ro, 0x0, .immediately, false, .one 0x410001, 0x0, 0xFFFFFFFFFFFFFFFF, 0x0D08⟩
/-- FEC_DEGRADE, 0x4100.0A (R259). -/
def fecDegrade : Obj := ⟨0x4100, 1, 0x0A, 1, .u8, .rw, 0x5, .immediately, true, .one 0x410001, 0x0, 0xFF, 0x0D08⟩
/-- MALFORMED, 0x4100.0B (R259). -/
def portMalformed : Obj := ⟨0x4100, 1, 0x0B, 1, .u64, .ro, 0x0, .immediately, false, .one 0x410001, 0x0, 0xFFFFFFFFFFFFFFFF, 0x0D08⟩
/-- UNKNOWN_FLOW, 0x4100.0C (R259). -/
def unknownFlow : Obj := ⟨0x4100, 1, 0x0C, 1, .u64, .ro, 0x0, .immediately, false, .one 0x410001, 0x0, 0xFFFFFFFFFFFFFFFF, 0x0D08⟩
/-- POLICE_SELECT, 0x4100.0D (R259). -/
def policeSelect : Obj := ⟨0x4100, 1, 0x0D, 1, .u8, .rw, 0x0, .immediately, false, .unit, 0x0, 0x4, 0x0D08⟩
/-- POLICE, 0x4100.0E (R259). -/
def policeRate4100 : Obj := ⟨0x4100, 1, 0x0E, 1, .u32, .rw, 0x0, .immediately, true, .two 0x410001 0x41000D 8, 0x0, 0xFFFFFFFF, 0x0D08⟩
/-- POLICED, 0x4100.0F (R259). -/
def policed : Obj := ⟨0x4100, 1, 0x0F, 1, .u64, .ro, 0x0, .immediately, false, .two 0x410001 0x41000D 8, 0x0, 0xFFFFFFFFFFFFFFFF, 0x0D08⟩
/-- MGMT_VLAN, 0x4100.10 (R259). -/
def mgmtVlan : Obj := ⟨0x4100, 1, 0x10, 1, .u16, .rwc, 0x0, .onEnable, true, .one 0x410001, 0x0, 0xFFFF, 0x0D08⟩
/-- FW_HAMPER, 0x4100.11 (R259). -/
def fwHamper : Obj := ⟨0x4100, 1, 0x11, 1, .u8, .rwc, 0x0, .onEnable, true, .one 0x410001, 0x0, 0xFF, 0x0D08⟩
/-- FW_RING_DROPS, 0x4100.12 (R259). -/
def fwRingDrops : Obj := ⟨0x4100, 1, 0x12, 1, .u32, .ro, 0x0, .immediately, false, .one 0x410001, 0x0, 0xFFFFFFFF, 0x0D08⟩
/-- FLOW_SELECT, 0x4140.01 (R259). -/
def flowSelect : Obj := ⟨0x4140, 1, 0x01, 1, .u16, .rw, 0x0, .immediately, false, .unit, 0x0, 0xFFF, 0x0D08⟩
/-- FLOW_MATCH, 0x4140.02 (R259). -/
def flowMatch : Obj := ⟨0x4140, 1, 0x02, 1, .u64, .rwc, 0x0, .onEnable, true, .one 0x414001, 0x0, 0xFFFFFFFFFFFFFFFF, 0x0D08⟩
/-- FLOW_MAP, 0x4140.03 (R259). -/
def flowMap : Obj := ⟨0x4140, 1, 0x03, 1, .u64, .rwc, 0x0, .onEnable, true, .one 0x414001, 0x0, 0xFFFFFFFFFFFFFFFF, 0x0D08⟩
/-- PEER_ADDRESS, 0x4140.04 (R259). -/
def peerAddress : Obj := ⟨0x4140, 1, 0x04, 1, .octets, .rwc, 0x0, .onEnable, true, .one 0x414001, 0x0, 0x0, 0x0D08⟩
/-- RX_WINDOW, 0x4140.05 (R259). -/
def rxWindow : Obj := ⟨0x4140, 1, 0x05, 1, .u32, .rw, 0x15E0000, .nextSlot, true, .one 0x414001, 0x0, 0xFFFFFFFF, 0x0D08⟩
/-- TX_WINDOW, 0x4140.06 (R259). -/
def txWindow : Obj := ⟨0x4140, 1, 0x06, 1, .u64, .rw, 0x1F400C8012C0064, .nextSlot, true, .one 0x414001, 0x0, 0xFFFFFFFFFFFFFFFF, 0x0D08⟩
/-- RX_SHIFT, 0x4140.07 (R259). -/
def rxShift : Obj := ⟨0x4140, 1, 0x07, 1, .u8, .rw, 0x8, .nextSlot, true, .one 0x414001, 0x0, 0xFF, 0x0D08⟩
/-- FLOW_ENABLE, 0x4140.08 (R259). -/
def flowEnable : Obj := ⟨0x4140, 1, 0x08, 1, .bool, .rw, 0x0, .onEnable, true, .one 0x414001, 0x0, 0x1, 0x0D08⟩
/-- FLOW_ACTIVE_PORT, 0x4140.09 (R259). -/
def flowActivePort : Obj := ⟨0x4140, 1, 0x09, 1, .u8, .rw, 0x0, .immediately, true, .one 0x414001, 0x0, 0xFF, 0x0D08⟩
/-- SECTIONS_ACCEPTED, 0x4140.0A (R259). -/
def sectionsAccepted : Obj := ⟨0x4140, 1, 0x0A, 1, .u64, .ro, 0x0, .immediately, false, .one 0x414001, 0x0, 0xFFFFFFFFFFFFFFFF, 0x0D08⟩
/-- INVALID_COUNTS, 0x4140.0B (R259). -/
def invalidCounts : Obj := ⟨0x4140, 1, 0x0B, 1, .array, .ro, 0x0, .immediately, false, .one 0x414001, 0x0, 0x0, 0x0D08⟩
/-- SEQ_GAPS, 0x4140.0C (R259). -/
def seqGaps : Obj := ⟨0x4140, 1, 0x0C, 1, .u32, .ro, 0x0, .immediately, false, .one 0x414001, 0x0, 0xFFFFFFFF, 0x0D08⟩
/-- TX_DISCARDED, 0x4140.0D (R259). -/
def txDiscarded : Obj := ⟨0x4140, 1, 0x0D, 1, .u32, .ro, 0x0, .immediately, false, .one 0x414001, 0x0, 0xFFFFFFFF, 0x0D08⟩
/-- MACSEC_ENABLE, 0x4180.01 (R259). -/
def macsecEnable : Obj := ⟨0x4180, 1, 0x01, 1, .bool, .rwc, 0x0, .onEnable, true, .one 0x410001, 0x0, 0x1, 0x0D08⟩
/-- VALIDATE, 0x4180.02 (R259). -/
def validate : Obj := ⟨0x4180, 1, 0x02, 1, .u8, .rw, 0x2, .immediately, true, .one 0x410001, 0x0, 0x2, 0x0D08⟩
/-- CONF_OFFSET, 0x4180.03 (R259). -/
def confOffset : Obj := ⟨0x4180, 1, 0x03, 1, .u8, .rwc, 0x0, .onEnable, true, .one 0x410001, 0x0, 0xFF, 0x0D08⟩
/-- REPLAY_WINDOW, 0x4180.04 (R259). -/
def replayWindow : Obj := ⟨0x4180, 1, 0x04, 1, .u32, .rw, 0x0, .immediately, true, .one 0x410001, 0x0, 0xFFFFFFFF, 0x0D08⟩
/-- SA_SELECT, 0x4180.05 (R259). -/
def saSelect : Obj := ⟨0x4180, 1, 0x05, 1, .u8, .rw, 0x0, .immediately, false, .unit, 0x0, 0xFF, 0x0D08⟩
/-- SA_KEY, 0x4180.06 (R259). -/
def saKey : Obj := ⟨0x4180, 1, 0x06, 1, .octets, .wo, 0x0, .immediately, false, .two 0x410001 0x418005 256, 0x0, 0x0, 0x0D08⟩
/-- RX_SCI, 0x4180.07 (R259). -/
def rxSci : Obj := ⟨0x4180, 1, 0x07, 1, .u64, .rw, 0x0, .immediately, true, .two 0x410001 0x418005 256, 0x0, 0xFFFFFFFFFFFFFFFF, 0x0D08⟩
/-- SA_NEXT_PN, 0x4180.08 (R259). -/
def saNextPn : Obj := ⟨0x4180, 1, 0x08, 1, .u64, .rw, 0x1, .immediately, true, .two 0x410001 0x418005 256, 0x0, 0xFFFFFFFFFFFFFFFF, 0x0D08⟩
/-- SA_ENABLE, 0x4180.09 (R259). -/
def saEnable : Obj := ⟨0x4180, 1, 0x09, 1, .bool, .rw, 0x0, .immediately, true, .two 0x410001 0x418005 256, 0x0, 0x1, 0x0D08⟩
/-- TX_AN, 0x4180.0A (R259). -/
def txAn : Obj := ⟨0x4180, 1, 0x0A, 1, .u8, .rw, 0x0, .immediately, true, .one 0x410001, 0x0, 0xFF, 0x0D08⟩
/-- PN_THRESHOLD, 0x4180.0B (R259). -/
def pnThreshold : Obj := ⟨0x4180, 1, 0x0B, 1, .u64, .rw, 0x4000000000000000, .immediately, true, .one 0x410001, 0x0, 0xFFFFFFFFFFFFFFFF, 0x0D08⟩
/-- MACSEC_DROPS, 0x4180.0C (R259). -/
def macsecDrops : Obj := ⟨0x4180, 1, 0x0C, 1, .array, .ro, 0x0, .immediately, false, .one 0x410001, 0x0, 0x0, 0x0D08⟩
/-- CPRI_RATES, 0x4200.01 (R259). -/
def cpriRates : Obj := ⟨0x4200, 1, 0x01, 1, .u8, .rwc, 0xF, .onEnable, true, .one 0x410001, 0x0, 0xFF, 0x0D08⟩
/-- RATE_DWELL, 0x4200.02 (R259). -/
def rateDwell : Obj := ⟨0x4200, 1, 0x02, 1, .u16, .rw, 0x3E8, .immediately, true, .one 0x410001, 0x0, 0xFFFF, 0x0D08⟩
/-- CPRI_STATE, 0x4200.03 (R259). -/
def cpriState : Obj := ⟨0x4200, 1, 0x03, 1, .u8, .ro, 0x0, .immediately, false, .one 0x410001, 0x0, 0xFF, 0x0D08⟩
/-- CPRI_RATE, 0x4200.04 (R259). -/
def cpriRate : Obj := ⟨0x4200, 1, 0x04, 1, .u8, .ro, 0x0, .immediately, false, .one 0x410001, 0x0, 0xFF, 0x0D08⟩
/-- FAST_CM, 0x4200.05 (R259). -/
def fastCm : Obj := ⟨0x4200, 1, 0x05, 1, .u8, .rwc, 0x14, .onEnable, true, .one 0x410001, 0x14, 0x3F, 0x0D08⟩
/-- SAMPLE_WIDTH, 0x4200.06 (R259). -/
def sampleWidth : Obj := ⟨0x4200, 1, 0x06, 1, .u8, .rwc, 0xF, .onEnable, true, .one 0x410001, 0xF, 0x10, 0x0D08⟩
/-- T14, 0x4200.07 (R259). -/
def t14 : Obj := ⟨0x4200, 1, 0x07, 1, .u32, .ro, 0x0, .immediately, false, .one 0x410001, 0x0, 0xFFFFFFFF, 0x0D08⟩
/-- GROUP_MEMBERS, 0x4300.01 (R259). -/
def groupMembers : Obj := ⟨0x4300, 1, 0x01, 1, .array, .rwc, 0x0, .onEnable, true, .unit, 0x0, 0x0, 0x0D08⟩
/-- AGING, 0x4300.02 (R259). -/
def aging : Obj := ⟨0x4300, 1, 0x02, 1, .u32, .rw, 0x12C, .immediately, true, .unit, 0x0, 0xFFFFFFFF, 0x0D08⟩
/-- MOVE_HOLD, 0x4300.03 (R259). -/
def moveHold : Obj := ⟨0x4300, 1, 0x03, 1, .u16, .rw, 0x3E8, .immediately, true, .unit, 0x0, 0xFFFF, 0x0D08⟩
/-- FLAP_LIMIT, 0x4300.04 (R259). -/
def flapLimit : Obj := ⟨0x4300, 1, 0x04, 1, .u8, .rw, 0x8, .immediately, true, .unit, 0x2, 0xFF, 0x0D08⟩
/-- PIN_TIME, 0x4300.05 (R259). -/
def pinTime : Obj := ⟨0x4300, 1, 0x05, 1, .u16, .rw, 0xA, .immediately, true, .unit, 0x0, 0xFFFF, 0x0D08⟩
/-- STORM_LIMIT, 0x4300.06 (R259). -/
def stormLimit : Obj := ⟨0x4300, 1, 0x06, 1, .u32, .rw, 0x3E8, .immediately, true, .unit, 0x0, 0xFFFFFFFF, 0x0D08⟩
/-- ENTRIES, 0x4300.07 (R259). -/
def entries : Obj := ⟨0x4300, 1, 0x07, 1, .u16, .ro, 0x0, .immediately, false, .unit, 0x0, 0xFFFF, 0x0D08⟩
/-- LEARN_FAILS, 0x4300.08 (R259). -/
def learnFails : Obj := ⟨0x4300, 1, 0x08, 1, .u32, .ro, 0x0, .immediately, false, .unit, 0x0, 0xFFFFFFFF, 0x0D08⟩
/-- MOVES, 0x4300.09 (R259). -/
def moves : Obj := ⟨0x4300, 1, 0x09, 1, .u64, .ro, 0x0, .immediately, false, .unit, 0x0, 0xFFFFFFFFFFFFFFFF, 0x0D08⟩
/-- MOVES_REFUSED, 0x4300.0A (R259). -/
def movesRefused : Obj := ⟨0x4300, 1, 0x0A, 1, .u64, .ro, 0x0, .immediately, false, .unit, 0x0, 0xFFFFFFFFFFFFFFFF, 0x0D08⟩
/-- STATIC_ENTRY, 0x4300.0B (R259). -/
def staticEntry : Obj := ⟨0x4300, 1, 0x0B, 1, .octets, .wo, 0x0, .immediately, false, .unit, 0x0, 0x0, 0x0D08⟩
/-- SPOOF_DROPS, 0x4300.0D (R259). -/
def spoofDrops : Obj := ⟨0x4300, 1, 0x0D, 1, .u32, .ro, 0x0, .immediately, false, .unit, 0x0, 0xFFFFFFFF, 0x0D08⟩
/-- RADIO_SELECT, 0x4400.01 (R229). -/
def radioSelect : Obj := ⟨0x4400, 1, 0x01, 1, .u8, .rw, 0x0, .immediately, false, .unit, 0x0, 0xFF, 0x0D08⟩
/-- NS_ENABLE, 0x4400.02 (R229). -/
def nsEnable : Obj := ⟨0x4400, 1, 0x02, 1, .bool, .rwc, 0x0, .onEnable, true, .one 0x440001, 0x0, 0x1, 0x0D08⟩
/-- NS_VERSIONS, 0x4400.03 (R229). -/
def nsVersions : Obj := ⟨0x4400, 1, 0x03, 1, .u8, .rwc, 0x0, .onEnable, true, .one 0x440001, 0x0, 0xFF, 0x0D08⟩
/-- NS_STATE, 0x4400.04 (R229). -/
def nsState : Obj := ⟨0x4400, 1, 0x04, 1, .u8, .ro, 0x0, .immediately, false, .one 0x440001, 0x0, 0xFF, 0x0D08⟩
/-- NS_AGREED, 0x4400.05 (R229). -/
def nsAgreed : Obj := ⟨0x4400, 1, 0x05, 1, .u8, .ro, 0x0, .immediately, false, .one 0x440001, 0x0, 0xFF, 0x0D08⟩
/-- FALLBACK, 0x4400.06 (R229). -/
def fallbackCfg : Obj := ⟨0x4400, 1, 0x06, 1, .u8, .rw, 0x81, .nextSlot, true, .one 0x440001, 0x0, 0xFF, 0x0D08⟩
/-- FALLBACK_SLOTS, 0x4400.07 (R229). -/
def fallbackSlots : Obj := ⟨0x4400, 1, 0x07, 1, .u8, .rw, 0x8, .nextSlot, true, .one 0x440001, 0x1, 0x40, 0x0D08⟩
/-- RETRY_INTERVAL, 0x4400.08 (R229). -/
def retryInterval : Obj := ⟨0x4400, 1, 0x08, 1, .u16, .rw, 0x3C, .immediately, true, .one 0x440001, 0x0, 0xFFFF, 0x0D08⟩
/-- PROFILE, 0x4400.09 (R229). -/
def radioProfile : Obj := ⟨0x4400, 1, 0x09, 1, .u16, .rwc, 0xE70, .onEnable, true, .one 0x440001, 0x0, 0xFFFF, 0x0D08⟩
/-- GROUP_RB, 0x4400.0A (R229). -/
def groupRb : Obj := ⟨0x4400, 1, 0x0A, 1, .u8, .rwc, 0x4, .onEnable, true, .one 0x440001, 0x1, 0x10, 0x0D08⟩
/-- SHAPING, 0x4400.0B (R229). -/
def shapingCfg : Obj := ⟨0x4400, 1, 0x0B, 1, .u32, .rw, 0x104030D, .nextSlot, true, .one 0x440001, 0x0, 0xFFFFFFFF, 0x0D08⟩
/-- DL_WIDTHS, 0x4400.0C (R229). -/
def dlWidths : Obj := ⟨0x4400, 1, 0x0C, 1, .u32, .rw, 0x87643, .nextSlot, true, .one 0x440001, 0x0, 0xFFFFFFFF, 0x0D08⟩
/-- NOISE_SOURCE, 0x4400.0D (R229). -/
def noiseSource : Obj := ⟨0x4400, 1, 0x0D, 1, .u8, .rwc, 0x0, .onEnable, true, .one 0x440001, 0x0, 0x1, 0x0D08⟩
/-- PROBE, 0x4400.0E (R229). -/
def probeCfg : Obj := ⟨0x4400, 1, 0x0E, 1, .u16, .rwc, 0x30A, .onEnable, true, .one 0x440001, 0x0, 0xFFFF, 0x0D08⟩
/-- NOISE_TIMEOUT, 0x4400.0F (R229). -/
def noiseTimeout : Obj := ⟨0x4400, 1, 0x0F, 1, .u16, .rw, 0x64, .immediately, true, .one 0x440001, 0x0, 0xFFFF, 0x0D08⟩
/-- MAP_UNKNOWN, 0x4400.10 (R229). -/
def mapUnknown : Obj := ⟨0x4400, 1, 0x10, 1, .u32, .ro, 0x0, .immediately, false, .one 0x440001, 0x0, 0xFFFFFFFF, 0x0D08⟩
/-- UL_BITS_SAVED, 0x4400.11 (R229). -/
def ulBitsSaved : Obj := ⟨0x4400, 1, 0x11, 1, .u64, .ro, 0x0, .immediately, false, .one 0x440001, 0x0, 0xFFFFFFFFFFFFFFFF, 0x0D08⟩
/-- MOGIL_ENABLE, 0x5000.01 (R286). -/
def mogilEnable : Obj := ⟨0x5000, 1, 0x01, 1, .bool, .rw, 0x0, .onEnable, true, .unit, 0x0, 0x1, 0x0401⟩
/-- GROUPS, 0x5000.02 (R286). -/
def mogilGroups : Obj := ⟨0x5000, 1, 0x02, 1, .u8, .rwc, 0xF, .onEnable, true, .unit, 0x0, 0xFF, 0x0401⟩
/-- ALIGN_MODE, 0x5000.03 (R286). -/
def alignMode : Obj := ⟨0x5000, 1, 0x03, 1, .u8, .rwc, 0x0, .onEnable, true, .unit, 0x0, 0x1, 0x0401⟩
/-- LOCK_N, 0x5000.04 (R286). -/
def lockN : Obj := ⟨0x5000, 1, 0x04, 1, .u8, .rw, 0x4, .immediately, true, .unit, 0x2, 0xF, 0x0401⟩
/-- LOSE_M, 0x5000.05 (R286). -/
def loseM : Obj := ⟨0x5000, 1, 0x05, 1, .u8, .rw, 0x4, .immediately, true, .unit, 0x1, 0xF, 0x0401⟩
/-- VERSIONS, 0x5000.06 (R286). -/
def mogilVersions : Obj := ⟨0x5000, 1, 0x06, 1, .u8, .rwc, 0x0, .onEnable, true, .unit, 0x0, 0xFF, 0x0401⟩
/-- AGREED_VERSION, 0x5000.07 (R286). -/
def agreedVersion : Obj := ⟨0x5000, 1, 0x07, 1, .u8, .ro, 0x0, .immediately, false, .unit, 0x0, 0xFF, 0x0401⟩
/-- LINK_ACTIVE, 0x5000.08 (R286). -/
def linkActive : Obj := ⟨0x5000, 1, 0x08, 1, .bool, .ro, 0x0, .immediately, false, .unit, 0x0, 0x1, 0x0401⟩
/-- REKEY_PACKETS, 0x5000.09 (R286). -/
def rekeyPackets : Obj := ⟨0x5000, 1, 0x09, 1, .u64, .rw, 0x10000000000, .immediately, true, .unit, 0x100000, 0x4000000000000000, 0x0401⟩
/-- PEER_IDENTITY, 0x5000.0A (R286). -/
def peerIdentity : Obj := ⟨0x5000, 1, 0x0A, 1, .octets, .rwc, 0x0, .onEnable, true, .unit, 0x0, 0x0, 0x0401⟩
/-- TWIN_ROLE, 0x5000.0B (R286). -/
def twinRole : Obj := ⟨0x5000, 1, 0x0B, 1, .u8, .rwc, 0x0, .onEnable, true, .unit, 0x0, 0x3, 0x0401⟩
/-- STANDBY_PARTITIONS, 0x5000.0C (R286). -/
def standbyPartitions : Obj := ⟨0x5000, 1, 0x0C, 1, .array, .rwc, 0x0, .onEnable, true, .unit, 0x0, 0x0, 0x0401⟩
/-- TAKEOVER, 0x5000.0D (R286). -/
def takeover : Obj := ⟨0x5000, 1, 0x0D, 1, .u32, .rw, 0x3E8FF00, .immediately, true, .unit, 0x0, 0xFFFFFFFF, 0x0401⟩
/-- TAKEOVERS, 0x5000.0E (R286). -/
def takeovers : Obj := ⟨0x5000, 1, 0x0E, 1, .u32, .ro, 0x0, .immediately, false, .unit, 0x0, 0xFFFFFFFF, 0x0401⟩
/-- TAKEOVER_NOW, 0x5000.0F (R286). -/
def takeoverNow : Obj := ⟨0x5000, 1, 0x0F, 1, .bool, .wo, 0x0, .immediately, false, .unit, 0x0, 0x1, 0x0401⟩
/-- RETRY_TIMEOUT, 0x5000.10 (R286). -/
def retryTimeout : Obj := ⟨0x5000, 1, 0x10, 1, .u16, .rw, 0xFA0, .immediately, true, .unit, 0x0, 0xFFFF, 0x0401⟩
/-- RETRY_LIMIT, 0x5000.11 (R286). -/
def retryLimit : Obj := ⟨0x5000, 1, 0x11, 1, .u8, .rw, 0x8, .immediately, true, .unit, 0x1, 0x40, 0x0401⟩
/-- RESUME_TIMEOUT, 0x5000.12 (R286). -/
def resumeTimeout : Obj := ⟨0x5000, 1, 0x12, 1, .u16, .rw, 0x64, .immediately, true, .unit, 0x0, 0xFFFF, 0x0401⟩
/-- MIN_LINK_CELLS, 0x5000.13 (R286). -/
def minLinkCells : Obj := ⟨0x5000, 1, 0x13, 1, .u8, .rw, 0x1, .immediately, true, .unit, 0x1, 0x10, 0x0401⟩
/-- DEGRADE, 0x5000.14 (R286). -/
def degrade : Obj := ⟨0x5000, 1, 0x14, 1, .u8, .rw, 0xA, .immediately, true, .unit, 0x0, 0xFF, 0x0401⟩
/-- SIGNAL_DEBOUNCE, 0x5000.15 (R286). -/
def mogilDebounce : Obj := ⟨0x5000, 1, 0x15, 1, .u16, .rw, 0x3E8, .immediately, true, .unit, 0x0, 0xFFFF, 0x0401⟩
/-- CHANNEL_TIMEOUT, 0x5000.16 (R286). -/
def channelTimeout : Obj := ⟨0x5000, 1, 0x16, 1, .u16, .rw, 0x32, .immediately, true, .unit, 0x0, 0xFFFF, 0x0401⟩
/-- GROUP_SELECT, 0x5010.01 (R286). -/
def mogilSelect : Obj := ⟨0x5010, 1, 0x01, 1, .u8, .rw, 0x0, .immediately, false, .unit, 0x0, 0x3, 0x0401⟩
/-- GROUP_STATE, 0x5010.02 (R286). -/
def groupState : Obj := ⟨0x5010, 1, 0x02, 1, .u8, .ro, 0x0, .immediately, false, .one 0x501001, 0x0, 0xFF, 0x0401⟩
/-- DEFECTS, 0x5010.03 (R286). -/
def mogilDefects : Obj := ⟨0x5010, 1, 0x03, 1, .u8, .ro, 0x0, .immediately, false, .one 0x501001, 0x0, 0xFF, 0x0401⟩
/-- SKEW, 0x5010.04 (R286). -/
def skew : Obj := ⟨0x5010, 1, 0x04, 1, .u8, .ro, 0x0, .immediately, false, .one 0x501001, 0x0, 0xFF, 0x0401⟩
/-- EPOCH_TX, 0x5010.05 (R286). -/
def epochTx : Obj := ⟨0x5010, 1, 0x05, 1, .u32, .ro, 0x0, .immediately, false, .one 0x501001, 0x0, 0xFFFFFFFF, 0x0401⟩
/-- EPOCH_RX, 0x5010.06 (R286). -/
def epochRx : Obj := ⟨0x5010, 1, 0x06, 1, .u32, .ro, 0x0, .immediately, false, .one 0x501001, 0x0, 0xFFFFFFFF, 0x0401⟩
/-- PACKETS_TX, 0x5010.07 (R286). -/
def packetsTx : Obj := ⟨0x5010, 1, 0x07, 1, .u64, .ro, 0x0, .immediately, false, .one 0x501001, 0x0, 0xFFFFFFFFFFFFFFFF, 0x0401⟩
/-- PACKETS_RX, 0x5010.08 (R286). -/
def packetsRx : Obj := ⟨0x5010, 1, 0x08, 1, .u64, .ro, 0x0, .immediately, false, .one 0x501001, 0x0, 0xFFFFFFFFFFFFFFFF, 0x0401⟩
/-- RESENDS, 0x5010.09 (R286). -/
def resends : Obj := ⟨0x5010, 1, 0x09, 1, .u32, .ro, 0x0, .immediately, false, .one 0x501001, 0x0, 0xFFFFFFFF, 0x0401⟩
/-- AUTH_FAILS, 0x5010.0A (R286). -/
def authFails : Obj := ⟨0x5010, 1, 0x0A, 1, .u32, .ro, 0x0, .immediately, false, .one 0x501001, 0x0, 0xFFFFFFFF, 0x0401⟩
/-- SEQ_DROPS, 0x5010.0B (R286). -/
def seqDrops : Obj := ⟨0x5010, 1, 0x0B, 1, .u32, .ro, 0x0, .immediately, false, .one 0x501001, 0x0, 0xFFFFFFFF, 0x0401⟩
/-- BIP_ERRORS, 0x5010.0C (R286). -/
def bipErrors : Obj := ⟨0x5010, 1, 0x0C, 1, .u64, .ro, 0x0, .immediately, false, .one 0x501001, 0x0, 0xFFFFFFFFFFFFFFFF, 0x0401⟩
/-- POLARITY, 0x5010.0D (R286). -/
def mogilPolarity : Obj := ⟨0x5010, 1, 0x0D, 1, .u16, .rwc, 0x0, .onEnable, true, .one 0x501001, 0x0, 0xFFFF, 0x0401⟩
/-- TX_EQ, 0x5010.0E (R286). -/
def mogilTxEq : Obj := ⟨0x5010, 1, 0x0E, 1, .u32, .rw, 0x3C00, .immediately, true, .one 0x501001, 0x0, 0xFFFFFFFF, 0x0401⟩
/-- PRBS_CONFIG, 0x5010.0F (R286). -/
def mogilPrbsConfig : Obj := ⟨0x5010, 1, 0x0F, 1, .u16, .rw, 0x0, .immediately, true, .one 0x501001, 0x0, 0xFFFF, 0x0401⟩
/-- PRBS_BITS, 0x5010.10 (R286). -/
def mogilPrbsBits : Obj := ⟨0x5010, 1, 0x10, 1, .u64, .ro, 0x0, .immediately, false, .one 0x501001, 0x0, 0xFFFFFFFFFFFFFFFF, 0x0401⟩
/-- PRBS_ERRORS, 0x5010.11 (R286). -/
def mogilPrbsErrors : Obj := ⟨0x5010, 1, 0x11, 1, .u64, .ro, 0x0, .immediately, false, .one 0x501001, 0x0, 0xFFFFFFFFFFFFFFFF, 0x0401⟩
/-- CHANNEL_SELECT, 0x5020.01 (R286). -/
def channelSelect : Obj := ⟨0x5020, 1, 0x01, 1, .u8, .rw, 0x0, .immediately, false, .unit, 0x0, 0xFF, 0x0401⟩
/-- CHANNEL_MAP, 0x5020.02 (R286). -/
def channelMap : Obj := ⟨0x5020, 1, 0x02, 1, .u32, .rw, 0x0, .nextSlot, true, .one 0x502001, 0x0, 0xFFFFFFFF, 0x0401⟩
/-- LIVE_SLUGS, 0x6000.01 (R105). -/
def liveSlugs : Obj := ⟨0x6000, 1, 0x01, 1, .u32, .ro, 0x0, .immediately, false, .unit, 0x0, 0xFFFFFFFF, 0x0D08⟩
/-- LIVE_PEAK, 0x6000.02 (R105). -/
def livePeak : Obj := ⟨0x6000, 1, 0x02, 1, .u32, .ro, 0x0, .immediately, false, .unit, 0x0, 0xFFFFFFFF, 0x0D08⟩
/-- LIVE_IMPRESSIONS, 0x6000.03 (R105). -/
def liveImpressions : Obj := ⟨0x6000, 1, 0x03, 1, .u32, .ro, 0x0, .immediately, false, .unit, 0x0, 0xFFFFFFFF, 0x0D08⟩
/-- PRESSES, 0x6000.04 (R105). -/
def presses : Obj := ⟨0x6000, 1, 0x04, 1, .u64, .ro, 0x0, .immediately, false, .unit, 0x0, 0xFFFFFFFFFFFFFFFF, 0x0D08⟩
/-- PRESS_REFUSED, 0x6000.05 (R105). -/
def pressRefused : Obj := ⟨0x6000, 1, 0x05, 1, .u32, .ro, 0x0, .immediately, false, .unit, 0x0, 0xFFFFFFFF, 0x0D08⟩
/-- PRESS_SKIPPED, 0x6000.06 (R105). -/
def pressSkipped : Obj := ⟨0x6000, 1, 0x06, 1, .u32, .ro, 0x0, .immediately, false, .unit, 0x0, 0xFFFFFFFF, 0x0D08⟩
/-- DISPATCHES, 0x6000.07 (R105). -/
def dispatches : Obj := ⟨0x6000, 1, 0x07, 1, .u64, .ro, 0x0, .immediately, false, .unit, 0x0, 0xFFFFFFFFFFFFFFFF, 0x0D08⟩
/-- COMPLETED_OK, 0x6000.08 (R105). -/
def completedOk : Obj := ⟨0x6000, 1, 0x08, 1, .u64, .ro, 0x0, .immediately, false, .unit, 0x0, 0xFFFFFFFFFFFFFFFF, 0x0D08⟩
/-- EXPIRED, 0x6000.09 (R105). -/
def expiredCount : Obj := ⟨0x6000, 1, 0x09, 1, .u64, .ro, 0x0, .immediately, false, .unit, 0x0, 0xFFFFFFFFFFFFFFFF, 0x0D08⟩
/-- ABORTED, 0x6000.0A (R105). -/
def abortedCount : Obj := ⟨0x6000, 1, 0x0A, 1, .u64, .ro, 0x0, .immediately, false, .unit, 0x0, 0xFFFFFFFFFFFFFFFF, 0x0D08⟩
/-- IMPRESSIONS_ABORTED, 0x6000.0B (R105). -/
def impressionsAborted : Obj := ⟨0x6000, 1, 0x0B, 1, .u32, .ro, 0x0, .immediately, false, .unit, 0x0, 0xFFFFFFFF, 0x0D08⟩
/-- RETRIES, 0x6000.0C (R105). -/
def retries : Obj := ⟨0x6000, 1, 0x0C, 1, .u32, .ro, 0x0, .immediately, false, .unit, 0x0, 0xFFFFFFFF, 0x0D08⟩
/-- RETRY_REFUSED, 0x6000.0D (R105). -/
def retryRefused : Obj := ⟨0x6000, 1, 0x0D, 1, .u32, .ro, 0x0, .immediately, false, .unit, 0x0, 0xFFFFFFFF, 0x0D08⟩
/-- LATE_DISCARDED, 0x6000.0E (R105). -/
def lateDiscarded : Obj := ⟨0x6000, 1, 0x0E, 1, .u32, .ro, 0x0, .immediately, false, .unit, 0x0, 0xFFFFFFFF, 0x0D08⟩
/-- LATE_COMPLETIONS, 0x6000.0F (R105). -/
def lateCompletions : Obj := ⟨0x6000, 1, 0x0F, 1, .u32, .ro, 0x0, .immediately, false, .unit, 0x0, 0xFFFFFFFF, 0x0D08⟩
/-- LATE_RUN_STARTS, 0x6000.10 (R105). -/
def lateRunStarts : Obj := ⟨0x6000, 1, 0x10, 1, .u32, .ro, 0x0, .immediately, false, .unit, 0x0, 0xFFFFFFFF, 0x0D08⟩
/-- STALLS, 0x6000.11 (R105). -/
def stalls : Obj := ⟨0x6000, 1, 0x11, 1, .u32, .ro, 0x0, .immediately, false, .unit, 0x0, 0xFFFFFFFF, 0x0D08⟩
/-- LAST_STALL, 0x6000.12 (R105). -/
def lastStall : Obj := ⟨0x6000, 1, 0x12, 1, .octets, .ro, 0x0, .immediately, false, .unit, 0x0, 0x0, 0x0D08⟩
/-- SLACK_ERODED, 0x6000.13 (R105). -/
def slackEroded : Obj := ⟨0x6000, 1, 0x13, 1, .u32, .ro, 0x0, .immediately, false, .unit, 0x0, 0xFFFFFFFF, 0x0D08⟩
/-- WATCHDOG_FACTOR, 0x6000.14 (R105). -/
def watchdogFactor : Obj := ⟨0x6000, 1, 0x14, 1, .u8, .rw, 0x4, .immediately, true, .unit, 0x2, 0x10, 0x0D08⟩
/-- STALL_CONFIRM, 0x6000.15 (R105). -/
def stallConfirm : Obj := ⟨0x6000, 1, 0x15, 1, .u16, .rw, 0xA, .immediately, true, .unit, 0x1, 0x3E8, 0x0D08⟩
/-- STALL_ACTION, 0x6000.16 (R105). -/
def stallAction : Obj := ⟨0x6000, 1, 0x16, 1, .u8, .rw, 0x0, .immediately, true, .unit, 0x0, 0x1, 0x0D08⟩
/-- COUNT_CLEAR, 0x6000.17 (R105). -/
def countClear : Obj := ⟨0x6000, 1, 0x17, 1, .bool, .wo, 0x0, .immediately, false, .unit, 0x0, 0x1, 0x0D08⟩
/-- PARTITION_SELECT, 0x6000.18 (R105). -/
def partitionSelect : Obj := ⟨0x6000, 1, 0x18, 1, .u16, .rw, 0x0, .immediately, false, .unit, 0x0, 0x3FF, 0x0D08⟩
/-- P_LIVE, 0x6000.19 (R105). -/
def pLive : Obj := ⟨0x6000, 1, 0x19, 1, .u32, .ro, 0x0, .immediately, false, .one 0x600018, 0x0, 0xFFFFFFFF, 0x0D08⟩
/-- P_READY, 0x6000.1A (R105). -/
def pReady : Obj := ⟨0x6000, 1, 0x1A, 1, .u32, .ro, 0x0, .immediately, false, .one 0x600018, 0x0, 0xFFFFFFFF, 0x0D08⟩
/-- P_RUNNING, 0x6000.1B (R105). -/
def pRunning : Obj := ⟨0x6000, 1, 0x1B, 1, .u32, .ro, 0x0, .immediately, false, .one 0x600018, 0x0, 0xFFFFFFFF, 0x0D08⟩
/-- P_ARMED, 0x6000.1C (R105). -/
def pArmed : Obj := ⟨0x6000, 1, 0x1C, 1, .u32, .ro, 0x0, .immediately, false, .one 0x600018, 0x0, 0xFFFFFFFF, 0x0D08⟩
/-- BAD_DECREMENTS, 0x6000.1D (R105). -/
def badDecrements : Obj := ⟨0x6000, 1, 0x1D, 1, .u32, .ro, 0x0, .immediately, false, .unit, 0x0, 0xFFFFFFFF, 0x0D08⟩
/-- CELL_SELECT, 0x6010.01 (R105). -/
def cellSelect : Obj := ⟨0x6010, 1, 0x01, 1, .u16, .rw, 0x0, .immediately, false, .unit, 0x0, 0x3FF, 0x0D08⟩
/-- CELL_PARTITION, 0x6010.02 (R105). -/
def cellPartition : Obj := ⟨0x6010, 1, 0x02, 1, .u16, .rwc, 0x0, .onEnable, true, .one 0x601001, 0x0, 0x3FF, 0x0D08⟩
/-- NUMEROLOGY, 0x6010.03 (R105). -/
def numerology : Obj := ⟨0x6010, 1, 0x03, 1, .u8, .rwc, 0x1, .onEnable, true, .one 0x601001, 0x0, 0x4, 0x0D08⟩
/-- PERIOD, 0x6010.04 (R105). -/
def period : Obj := ⟨0x6010, 1, 0x04, 1, .u16, .rw, 0x1, .nextSlot, true, .one 0x601001, 0x0, 0xFFFF, 0x0D08⟩
/-- PRESS_LEAD, 0x6010.05 (R105). -/
def pressLead : Obj := ⟨0x6010, 1, 0x05, 1, .u32, .rw, 0x0, .nextSlot, true, .one 0x601001, 0x0, 0xFFFFFFFF, 0x0D08⟩
/-- SLOT_SELECT, 0x6010.06 (R105). -/
def slotSelect : Obj := ⟨0x6010, 1, 0x06, 1, .u16, .rw, 0x0, .immediately, false, .unit, 0x0, 0xFFFF, 0x0D08⟩
/-- SLOT_FORMES, 0x6010.07 (R105). -/
def slotFormes : Obj := ⟨0x6010, 1, 0x07, 1, .u64, .rw, 0xFFFFFFFFFFFFFFFF, .nextSlot, true, .two 0x601001 0x601006 65536, 0x0, 0xFFFFFFFFFFFFFFFF, 0x0D08⟩
/-- CELL_ENABLE, 0x6010.08 (R105). -/
def cellEnable : Obj := ⟨0x6010, 1, 0x08, 1, .bool, .rw, 0x0, .onEnable, true, .one 0x601001, 0x0, 0x1, 0x0D08⟩
/-- WAIT_HIST, 0x6020.01 (R105). -/
def waitHist : Obj := ⟨0x6020, 15, 0x01, 64, .u32, .ro, 0x0, .immediately, false, .hist, 0x0, 0xFFFFFFFF, 0x0D08⟩
/-- LOAD_VX, 0x6040.01 (R105). -/
def loadVx : Obj := ⟨0x6040, 1, 0x01, 96, .u8, .ro, 0x0, .immediately, false, .bySub, 0x0, 0xFF, 0x0D08⟩
/-- LOAD_CC, 0x6040.61 (R105). -/
def loadCc : Obj := ⟨0x6040, 1, 0x61, 8, .u8, .ro, 0x0, .immediately, false, .bySub, 0x0, 0xFF, 0x0D08⟩
/-- LOAD_ME, 0x6040.69 (R105). -/
def loadMe : Obj := ⟨0x6040, 1, 0x69, 16, .u8, .ro, 0x0, .immediately, false, .bySub, 0x0, 0xFF, 0x0D08⟩
/-- LOAD_TE, 0x6040.79 (R105). -/
def loadTe : Obj := ⟨0x6040, 1, 0x79, 8, .u8, .ro, 0x0, .immediately, false, .bySub, 0x0, 0xFF, 0x0D08⟩
/-- LOAD_LD, 0x6040.81 (R105). -/
def loadLd : Obj := ⟨0x6040, 1, 0x81, 16, .u8, .ro, 0x0, .immediately, false, .bySub, 0x0, 0xFF, 0x0D08⟩
/-- LOAD_LE, 0x6040.91 (R105). -/
def loadLe : Obj := ⟨0x6040, 1, 0x91, 4, .u8, .ro, 0x0, .immediately, false, .bySub, 0x0, 0xFF, 0x0D08⟩
/-- LOAD_PL, 0x6040.95 (R105). -/
def loadPl : Obj := ⟨0x6040, 1, 0x95, 4, .u8, .ro, 0x0, .immediately, false, .bySub, 0x0, 0xFF, 0x0D08⟩
/-- LOAD_TD, 0x6040.99 (R105). -/
def loadTd : Obj := ⟨0x6040, 1, 0x99, 2, .u8, .ro, 0x0, .immediately, false, .bySub, 0x0, 0xFF, 0x0D08⟩
/-- LOAD_HQ, 0x6040.9B (R105). -/
def loadHq : Obj := ⟨0x6040, 1, 0x9B, 4, .u8, .ro, 0x0, .immediately, false, .bySub, 0x0, 0xFF, 0x0D08⟩
/-- LOAD_FU, 0x6040.9F (R105). -/
def loadFu : Obj := ⟨0x6040, 1, 0x9F, 4, .u8, .ro, 0x0, .immediately, false, .bySub, 0x0, 0xFF, 0x0D08⟩
/-- LOAD_CU, 0x6040.A3 (R105). -/
def loadCu : Obj := ⟨0x6040, 1, 0xA3, 12, .u8, .ro, 0x0, .immediately, false, .bySub, 0x0, 0xFF, 0x0D08⟩
/-- LOAD_DMA, 0x6040.AF (R105). -/
def loadDma : Obj := ⟨0x6040, 1, 0xAF, 8, .u8, .ro, 0x0, .immediately, false, .bySub, 0x0, 0xFF, 0x0D08⟩
/-- FORME_SELECT, 0x6100.01 (R105). -/
def formeSelect : Obj := ⟨0x6100, 1, 0x01, 1, .u16, .rw, 0x0, .immediately, false, .unit, 0x0, 0xFFF, 0x0D08⟩
/-- FORME_IMAGE, 0x6100.02 (R105). -/
def formeImage : Obj := ⟨0x6100, 1, 0x02, 1, .octets, .rw, 0x0, .onEnable, true, .one 0x610001, 0x0, 0x0, 0x0D08⟩
/-- FORME_ENABLE, 0x6100.03 (R105). -/
def formeEnable : Obj := ⟨0x6100, 1, 0x03, 1, .bool, .rw, 0x0, .onEnable, true, .one 0x610001, 0x0, 0x1, 0x0D08⟩
/-- FORME_PARTITION, 0x6100.04 (R105). -/
def formePartition : Obj := ⟨0x6100, 1, 0x04, 1, .u16, .ro, 0x0, .immediately, false, .one 0x610001, 0x0, 0xFFFF, 0x0D08⟩
/-- MAX_LIVE, 0x6100.05 (R105). -/
def maxLive : Obj := ⟨0x6100, 1, 0x05, 1, .u8, .rw, 0x4, .nextImpression, true, .one 0x610001, 0x1, 0x10, 0x0D08⟩
/-- LIVE_COUNT, 0x6100.06 (R105). -/
def liveCount : Obj := ⟨0x6100, 1, 0x06, 1, .u8, .ro, 0x0, .immediately, false, .one 0x610001, 0x0, 0xFF, 0x0D08⟩
/-- SLUG_COUNT, 0x6100.07 (R105). -/
def slugCount : Obj := ⟨0x6100, 1, 0x07, 1, .u16, .ro, 0x0, .immediately, false, .one 0x610001, 0x0, 0xFFFF, 0x0D08⟩
/-- MIN_MARGIN, 0x6100.08 (R105). -/
def minMargin : Obj := ⟨0x6100, 1, 0x08, 1, .u32, .ro, 0x0, .immediately, false, .one 0x610001, 0x0, 0xFFFFFFFF, 0x0D08⟩
/-- PRESSED, 0x6100.09 (R105). -/
def pressed : Obj := ⟨0x6100, 1, 0x09, 1, .u32, .ro, 0x0, .immediately, false, .one 0x610001, 0x0, 0xFFFFFFFF, 0x0D08⟩
/-- LAST_IMPRESSION, 0x6100.0A (R105). -/
def lastImpression : Obj := ⟨0x6100, 1, 0x0A, 1, .u32, .ro, 0x0, .immediately, false, .one 0x610001, 0x0, 0xFFFFFFFF, 0x0D08⟩
/-- TEMPLATE_FREE, 0x6100.0B (R105). -/
def templateFree : Obj := ⟨0x6100, 1, 0x0B, 1, .u32, .ro, 0x20000, .immediately, false, .unit, 0x0, 0xFFFFFFFF, 0x0D08⟩
/-- HAMPER_SELECT, 0x6200.01 (R318). -/
def hamperSelect : Obj := ⟨0x6200, 1, 0x01, 1, .u8, .rw, 0x0, .immediately, false, .unit, 0x0, 0x3F, 0x0D08⟩
/-- HAMPER_CONFIG, 0x6200.02 (R318). -/
def hamperConfig : Obj := ⟨0x6200, 1, 0x02, 1, .u32, .rwc, 0x0, .onEnable, true, .one 0x620001, 0x0, 0xFFFFFFFF, 0x0D08⟩
/-- HAMPER_BASE, 0x6200.03 (R318). -/
def hamperBase : Obj := ⟨0x6200, 1, 0x03, 1, .u64, .rwc, 0x0, .onEnable, true, .one 0x620001, 0x0, 0xFFFFFFFFFFFFFFFF, 0x0D08⟩
/-- HAMPER_OWNER, 0x6200.04 (R318). -/
def hamperOwner : Obj := ⟨0x6200, 1, 0x04, 1, .u16, .rwc, 0xFFFF, .onEnable, true, .one 0x620001, 0x0, 0xFFFF, 0x0D08⟩
/-- HAMPER_ENABLE, 0x6200.05 (R318). -/
def hamperEnable : Obj := ⟨0x6200, 1, 0x05, 1, .bool, .rw, 0x0, .onEnable, true, .one 0x620001, 0x0, 0x1, 0x0D08⟩
/-- FREE_NOW, 0x6200.06 (R318). -/
def freeNow : Obj := ⟨0x6200, 1, 0x06, 1, .u32, .ro, 0x0, .immediately, false, .one 0x620001, 0x0, 0xFFFFFFFF, 0x0D08⟩
/-- ALLOC_FAILS, 0x6200.07 (R318). -/
def allocFails : Obj := ⟨0x6200, 1, 0x07, 1, .u32, .ro, 0x0, .immediately, false, .one 0x620001, 0x0, 0xFFFFFFFF, 0x0D08⟩
/-- BAD_RELEASES, 0x6200.08 (R318). -/
def badReleases : Obj := ⟨0x6200, 1, 0x08, 1, .u32, .ro, 0x0, .immediately, false, .one 0x620001, 0x0, 0xFFFFFFFF, 0x0D08⟩
/-- FREE_LOW, 0x6200.09 (R318). -/
def freeLow : Obj := ⟨0x6200, 1, 0x09, 1, .u32, .ro, 0x0, .immediately, false, .one 0x620001, 0x0, 0xFFFFFFFF, 0x0D08⟩
/-- LOW_WATER, 0x6200.0A (R318). -/
def lowWater : Obj := ⟨0x6200, 1, 0x0A, 1, .u32, .rw, 0x0, .immediately, true, .one 0x620001, 0x0, 0xFFFFFFFF, 0x0D08⟩
/-- IN_USE, 0x6300.01 (R105). -/
def countersInUse : Obj := ⟨0x6300, 1, 0x01, 1, .u16, .ro, 0x0, .immediately, false, .unit, 0x0, 0xFFFF, 0x0D08⟩
/-- PEAK, 0x6300.02 (R105). -/
def counterPeak : Obj := ⟨0x6300, 1, 0x02, 1, .u16, .ro, 0x0, .immediately, false, .unit, 0x0, 0xFFFF, 0x0D08⟩
/-- SHORT_FIRES, 0x6300.03 (R105). -/
def shortFires : Obj := ⟨0x6300, 1, 0x03, 1, .u32, .ro, 0x0, .immediately, false, .unit, 0x0, 0xFFFFFFFF, 0x0D08⟩
/-- LATE_EVENTS, 0x6300.04 (R105). -/
def lateEvents : Obj := ⟨0x6300, 1, 0x04, 1, .u32, .ro, 0x0, .immediately, false, .unit, 0x0, 0xFFFFFFFF, 0x0D08⟩
/-- BIND_OUT_OF_RANGE, 0x6300.05 (R105). -/
def bindOutOfRange : Obj := ⟨0x6300, 1, 0x05, 1, .u32, .ro, 0x0, .immediately, false, .unit, 0x0, 0xFFFFFFFF, 0x0D08⟩
/-- IMAGE_SELECT, 0x7000.01 (R143). -/
def imageSelect : Obj := ⟨0x7000, 1, 0x01, 1, .u8, .rw, 0x0, .immediately, false, .unit, 0x0, 0xF, 0x0D08⟩
/-- IMAGE_DATA, 0x7000.02 (R143). -/
def imageData : Obj := ⟨0x7000, 1, 0x02, 1, .octets, .rw, 0x0, .immediately, false, .one 0x700001, 0x0, 0x0, 0x0D08⟩
/-- IMAGE_VERSION, 0x7000.03 (R143). -/
def imageVersion : Obj := ⟨0x7000, 1, 0x03, 1, .u32, .ro, 0x0, .immediately, false, .one 0x700001, 0x0, 0xFFFFFFFF, 0x0D08⟩
/-- IMAGE_FMT_MASK, 0x7000.04 (R143). -/
def imageFmtMask : Obj := ⟨0x7000, 1, 0x04, 1, .u8, .ro, 0x0, .immediately, false, .one 0x700001, 0x0, 0xFF, 0x0D08⟩
/-- IMAGE_CAPS, 0x7000.05 (R143). -/
def imageCaps : Obj := ⟨0x7000, 1, 0x05, 1, .u32, .ro, 0x0, .immediately, false, .one 0x700001, 0x0, 0xFFFFFFFF, 0x0D08⟩
/-- IMAGE_STATE, 0x7000.06 (R143). -/
def imageState : Obj := ⟨0x7000, 1, 0x06, 1, .u8, .ro, 0x0, .immediately, false, .one 0x700001, 0x0, 0xFF, 0x0D08⟩
/-- IMAGE_REASON, 0x7000.07 (R143). -/
def imageReason : Obj := ⟨0x7000, 1, 0x07, 1, .u16, .ro, 0x0, .immediately, false, .one 0x700001, 0x0, 0xFFFF, 0x0D08⟩
/-- CORE_SELECT, 0x7000.08 (R143). -/
def coreSelect : Obj := ⟨0x7000, 1, 0x08, 1, .u8, .rw, 0x0, .immediately, false, .unit, 0x0, 0x5F, 0x0D08⟩
/-- CORE_IMAGE, 0x7000.09 (R143). -/
def coreImage : Obj := ⟨0x7000, 1, 0x09, 1, .u8, .rw, 0x0, .nextSlot, true, .one 0x700008, 0x0, 0xF, 0x0D08⟩
/-- CORE_STATE, 0x7000.0A (R143). -/
def coreState : Obj := ⟨0x7000, 1, 0x0A, 1, .u8, .ro, 0x0, .immediately, false, .one 0x700008, 0x0, 0xFF, 0x0D08⟩
/-- CORE_PARTITION, 0x7000.0B (R143). -/
def corePartition : Obj := ⟨0x7000, 1, 0x0B, 1, .u16, .ro, 0x0, .immediately, false, .one 0x700008, 0x0, 0xFFFF, 0x0D08⟩
/-- LMSPLIT, 0x7000.0C (R143). -/
def lmsplit : Obj := ⟨0x7000, 1, 0x0C, 1, .u8, .rwc, 0x8, .onRun, true, .unit, 0x0, 0x40, 0x0D08⟩
/-- SLUGS_RUN, 0x7000.0D (R143). -/
def slugsRun : Obj := ⟨0x7000, 1, 0x0D, 1, .u64, .ro, 0x0, .immediately, false, .one 0x700008, 0x0, 0xFFFFFFFFFFFFFFFF, 0x0D08⟩
/-- ECC_CORRECTED, 0x7000.0E (R143). -/
def vxEccCorrected : Obj := ⟨0x7000, 1, 0x0E, 1, .u32, .ro, 0x0, .immediately, false, .one 0x700008, 0x0, 0xFFFFFFFF, 0x0D08⟩
/-- ECC_UNCORRECTED, 0x7000.0F (R143). -/
def eccUncorrected : Obj := ⟨0x7000, 1, 0x0F, 1, .u32, .ro, 0x0, .immediately, false, .one 0x700008, 0x0, 0xFFFFFFFF, 0x0D08⟩
/-- MID_VECTOR_TRAPS, 0x7000.10 (R143). -/
def midVectorTraps : Obj := ⟨0x7000, 1, 0x10, 1, .u32, .ro, 0x0, .immediately, false, .one 0x700008, 0x0, 0xFFFFFFFF, 0x0D08⟩
/-- PARTITION_CLEARS, 0x7000.11 (R143). -/
def partitionClears : Obj := ⟨0x7000, 1, 0x11, 1, .u32, .ro, 0x0, .immediately, false, .one 0x700008, 0x0, 0xFFFFFFFF, 0x0D08⟩
/-- CLEAR_CYCLES, 0x7000.12 (R143). -/
def clearCycles : Obj := ⟨0x7000, 1, 0x12, 1, .u64, .ro, 0x0, .immediately, false, .one 0x700008, 0x0, 0xFFFFFFFFFFFFFFFF, 0x0D08⟩
/-- ECC_ALARM_THRESHOLD, 0x7000.13 (R143). -/
def vxEccThreshold : Obj := ⟨0x7000, 1, 0x13, 1, .u16, .rw, 0x10, .immediately, true, .unit, 0x0, 0xFFFF, 0x0D08⟩
/-- CPEN_RESET, 0x7100.01 (R143). -/
def cpenReset : Obj := ⟨0x7100, 1, 0x01, 1, .u16, .rwc, 0x777, .onRun, true, .unit, 0x0, 0xFFFF, 0x0D08⟩
/-- FIRST_USE_CP0, 0x7100.02 (R143). -/
def firstUseCp0 : Obj := ⟨0x7100, 1, 0x02, 1, .u32, .ro, 0x0, .immediately, false, .unit, 0x0, 0xFFFFFFFF, 0x0D08⟩
/-- FIRST_USE_CP1, 0x7100.03 (R143). -/
def firstUseCp1 : Obj := ⟨0x7100, 1, 0x03, 1, .u32, .ro, 0x0, .immediately, false, .unit, 0x0, 0xFFFFFFFF, 0x0D08⟩
/-- BUSY_STALL_CYCLES, 0x7100.04 (R143). -/
def busyStallCycles : Obj := ⟨0x7100, 1, 0x04, 1, .u64, .ro, 0x0, .immediately, false, .unit, 0x0, 0xFFFFFFFFFFFFFFFF, 0x0D08⟩
/-- SAVE_AREA_BYTES, 0x7100.05 (R143). -/
def saveAreaBytes : Obj := ⟨0x7100, 1, 0x05, 1, .u16, .ro, 0x290, .immediately, false, .unit, 0x0, 0xFFFF, 0x0D08⟩
/-- ENGINE_SELECT, 0x8000.01 (R203). -/
def engineSelect : Obj := ⟨0x8000, 1, 0x01, 1, .u8, .rw, 0x0, .immediately, false, .unit, 0x0, 0x35, 0x0702⟩
/-- ENGINE_STATE, 0x8000.02 (R203). -/
def engineState : Obj := ⟨0x8000, 1, 0x02, 1, .u8, .ro, 0x0, .immediately, false, .one 0x800001, 0x0, 0xFF, 0x0701⟩
/-- FMT_MASK, 0x8000.03 (R203). -/
def engineFmtMask : Obj := ⟨0x8000, 1, 0x03, 1, .u8, .ro, 0x1, .immediately, false, .one 0x800001, 0x0, 0xFF, 0x0701⟩
/-- CAPS, 0x8000.04 (R203). -/
def engineCaps : Obj := ⟨0x8000, 1, 0x04, 1, .u32, .ro, 0x0, .immediately, false, .one 0x800001, 0x0, 0xFFFFFFFF, 0x0701⟩
/-- JOBS, 0x8000.05 (R203). -/
def jobs : Obj := ⟨0x8000, 1, 0x05, 1, .u64, .ro, 0x0, .immediately, false, .one 0x800001, 0x0, 0xFFFFFFFFFFFFFFFF, 0x0701⟩
/-- ITEMS_DONE, 0x8000.06 (R203). -/
def itemsDone : Obj := ⟨0x8000, 1, 0x06, 1, .u64, .ro, 0x0, .immediately, false, .one 0x800001, 0x0, 0xFFFFFFFFFFFFFFFF, 0x0701⟩
/-- UNIT_FAULTS, 0x8000.07 (R203). -/
def unitFaults : Obj := ⟨0x8000, 1, 0x07, 1, .u32, .ro, 0x0, .immediately, false, .one 0x800001, 0x0, 0xFFFFFFFF, 0x0701⟩
/-- SLUG_FAULTS, 0x8000.08 (R203). -/
def slugFaults : Obj := ⟨0x8000, 1, 0x08, 1, .u32, .ro, 0x0, .immediately, false, .one 0x800001, 0x0, 0xFFFFFFFF, 0x0701⟩
/-- INPUT_INVALID, 0x8000.09 (R203). -/
def inputInvalid : Obj := ⟨0x8000, 1, 0x09, 1, .u32, .ro, 0x0, .immediately, false, .one 0x800001, 0x0, 0xFFFFFFFF, 0x0701⟩
/-- SATURATED_ITEMS, 0x8000.0A (R203). -/
def saturatedItems : Obj := ⟨0x8000, 1, 0x0A, 1, .u32, .ro, 0x0, .immediately, false, .one 0x800001, 0x0, 0xFFFFFFFF, 0x0701⟩
/-- SINGULAR_ITEMS, 0x8000.0B (R203). -/
def singularItems : Obj := ⟨0x8000, 1, 0x0B, 1, .u32, .ro, 0x0, .immediately, false, .one 0x800001, 0x0, 0xFFFFFFFF, 0x0701⟩
/-- ECC_CORRECTED, 0x8000.0C (R203). -/
def engEccCorrected : Obj := ⟨0x8000, 1, 0x0C, 1, .u32, .ro, 0x0, .immediately, false, .one 0x800001, 0x0, 0xFFFFFFFF, 0x0701⟩
/-- CRC_FAILED, 0x8000.0D (R203). -/
def crcFailed : Obj := ⟨0x8000, 1, 0x0D, 1, .u32, .ro, 0x0, .immediately, false, .one 0x800001, 0x0, 0xFFFFFFFF, 0x0701⟩
/-- BUSY_CYCLES, 0x8000.0E (R203). -/
def busyCycles : Obj := ⟨0x8000, 1, 0x0E, 1, .u64, .ro, 0x0, .immediately, false, .one 0x800001, 0x0, 0xFFFFFFFFFFFFFFFF, 0x0701⟩
/-- ALLOC_WAIT, 0x8010.01 (R203). -/
def allocWait : Obj := ⟨0x8010, 1, 0x01, 1, .u16, .rw, 0x2, .nextSlot, true, .unit, 0x1, 0x64, 0x0701⟩
/-- ECC_ALARM_THRESHOLD, 0x8010.02 (R203). -/
def engEccThreshold : Obj := ⟨0x8010, 1, 0x02, 1, .u16, .rw, 0x10, .immediately, true, .unit, 0x0, 0xFFFF, 0x0701⟩
/-- PIVOT_MIN, 0x8010.03 (R203). -/
def pivotMin : Obj := ⟨0x8010, 1, 0x03, 1, .float32, .rw, 0x21800000, .nextSlot, true, .unit, 0x800000, 0x7F7FFFFF, 0x0701⟩
/-- LD_OFFSET, 0x8010.04 (R203). -/
def ldOffset : Obj := ⟨0x8010, 1, 0x04, 1, .u8, .rw, 0x2, .nextSlot, true, .unit, 0x0, 0xF, 0x0701⟩
/-- TD_EXT_SCALE, 0x8010.05 (R203). -/
def tdExtScale : Obj := ⟨0x8010, 1, 0x05, 1, .u8, .rw, 0xC, .nextSlot, true, .unit, 0x1, 0x10, 0x0701⟩
/-- FU_SELECT, 0x8200.01 (R229). -/
def fuSelect : Obj := ⟨0x8200, 1, 0x01, 1, .u8, .rw, 0x0, .immediately, false, .unit, 0x0, 0x3, 0x0D08⟩
/-- FU_STATE, 0x8200.02 (R229). -/
def fuState : Obj := ⟨0x8200, 1, 0x02, 1, .u8, .ro, 0x0, .immediately, false, .one 0x820001, 0x0, 0xFF, 0x0D08⟩
/-- STREAMS_UL, 0x8200.03 (R229). -/
def streamsUl : Obj := ⟨0x8200, 1, 0x03, 1, .u32, .ro, 0x0, .immediately, false, .one 0x820001, 0x0, 0xFFFFFFFF, 0x0D08⟩
/-- SEARCH_LOAD, 0x8200.04 (R229). -/
def searchLoad : Obj := ⟨0x8200, 1, 0x04, 1, .u32, .ro, 0x0, .immediately, false, .one 0x820001, 0x0, 0xFFFFFFFF, 0x0D08⟩
/-- COLLECT_WAIT, 0x8200.05 (R229). -/
def collectWait : Obj := ⟨0x8200, 1, 0x05, 1, .u16, .rw, 0x14, .nextSlot, true, .unit, 0x0, 0xFFFF, 0x0D08⟩
/-- CLIPPED_SAMPLES, 0x8200.0A (R229). -/
def clippedSamples : Obj := ⟨0x8200, 1, 0x0A, 1, .u64, .ro, 0x0, .immediately, false, .one 0x820001, 0x0, 0xFFFFFFFFFFFFFFFF, 0x0D08⟩
/-- OCCASIONS_LOST, 0x8200.0B (R229). -/
def occasionsLost : Obj := ⟨0x8200, 1, 0x0B, 1, .u32, .ro, 0x0, .immediately, false, .one 0x820001, 0x0, 0xFFFFFFFF, 0x0D08⟩
/-- REPORTS_DROPPED, 0x8200.0C (R229). -/
def reportsDropped : Obj := ⟨0x8200, 1, 0x0C, 1, .u32, .ro, 0x0, .immediately, false, .one 0x820001, 0x0, 0xFFFFFFFF, 0x0D08⟩
/-- GROUP_SELECT, 0x8220.01 (R229). -/
def groupSelect : Obj := ⟨0x8220, 1, 0x01, 1, .u8, .rw, 0x0, .immediately, false, .unit, 0x0, 0x7F, 0x0D08⟩
/-- GROUP_MAP, 0x8220.02 (R229). -/
def groupMap : Obj := ⟨0x8220, 1, 0x02, 1, .u32, .rwc, 0x0, .onEnable, true, .one 0x822001, 0x0, 0xFFFFFFFF, 0x0D08⟩
/-- CHANGE_MASK, 0x8220.03 (R229). -/
def changeMask : Obj := ⟨0x8220, 1, 0x03, 1, .u16, .rw, 0x1, .nextSlot, true, .one 0x822001, 0x0, 0xFFFF, 0x0D08⟩
/-- TARGET_RMS, 0x8220.04 (R229). -/
def targetRms : Obj := ⟨0x8220, 1, 0x04, 1, .i8, .rw, (-18), .nextSlot, true, .one 0x822001, (-128), 0x7F, 0x0D08⟩
/-- PEAK_LIMIT, 0x8220.05 (R229). -/
def peakLimit : Obj := ⟨0x8220, 1, 0x05, 1, .i8, .rw, (-1), .nextSlot, true, .one 0x822001, (-128), 0x7F, 0x0D08⟩
/-- ATTACK_MAX, 0x8220.06 (R229). -/
def attackMax : Obj := ⟨0x8220, 1, 0x06, 1, .u8, .rw, 0x18, .nextSlot, true, .one 0x822001, 0x0, 0xFF, 0x0D08⟩
/-- DECAY_STEP, 0x8220.07 (R229). -/
def decayStep : Obj := ⟨0x8220, 1, 0x07, 1, .u8, .rw, 0x2, .nextSlot, true, .one 0x822001, 0x0, 0xFF, 0x0D08⟩
/-- GAIN_CODE, 0x8220.08 (R229). -/
def gainCode : Obj := ⟨0x8220, 1, 0x08, 1, .u8, .ro, 0x60, .immediately, false, .one 0x822001, 0x0, 0xFF, 0x0D08⟩
/-- GROUP_ENABLE, 0x8220.09 (R229). -/
def groupEnable : Obj := ⟨0x8220, 1, 0x09, 1, .bool, .rw, 0x0, .onEnable, true, .one 0x822001, 0x0, 0x1, 0x0D08⟩
/-- CELL_SELECT, 0x8240.01 (R229). -/
def rampCellSelect : Obj := ⟨0x8240, 1, 0x01, 1, .u16, .rw, 0x0, .immediately, false, .unit, 0x0, 0x3FF, 0x0D08⟩
/-- RAMP_UP, 0x8240.02 (R229). -/
def rampUp : Obj := ⟨0x8240, 1, 0x02, 1, .u16, .rw, 0x0, .nextSlot, true, .one 0x824001, 0x0, 0x1F40, 0x0707⟩
/-- DL_MASK, 0x8240.03 (R229). -/
def dlMask : Obj := ⟨0x8240, 1, 0x03, 1, .octets, .rw, 0x0, .nextSlot, true, .one 0x824001, 0x0, 0x0, 0x0D08⟩
/-- RAMP_DOWN, 0x8240.04 (R229). -/
def rampDown : Obj := ⟨0x8240, 1, 0x04, 1, .u16, .rw, 0x0, .nextSlot, true, .one 0x824001, 0x0, 0x1F40, 0x0707⟩
/-- RAMP_ENABLE, 0x8240.05 (R229). -/
def rampEnable : Obj := ⟨0x8240, 1, 0x05, 1, .bool, .rw, 0x0, .onEnable, true, .one 0x824001, 0x0, 0x1, 0x0D08⟩
/-- RCO_MAP, 0x8240.10 (R229). -/
def rcoMap : Obj := ⟨0x8240, 1, 0x10, 8, .u64, .rw, 0x0, .nextSlot, true, .bySub, 0x0, 0xFFFFFFFFFFFFFFFF, 0x0D08⟩
/-- CONTEXT_SELECT, 0x8280.01 (R229). -/
def contextSelect : Obj := ⟨0x8280, 1, 0x01, 1, .u8, .rw, 0x0, .immediately, false, .unit, 0x0, 0xFF, 0x0D08⟩
/-- CONTEXT_GROUP, 0x8280.02 (R229). -/
def contextGroup : Obj := ⟨0x8280, 1, 0x02, 1, .u8, .rwc, 0x0, .onEnable, true, .one 0x828001, 0x0, 0xFF, 0x0D08⟩
/-- FORMAT, 0x8280.03 (R229). -/
def ctxFormat : Obj := ⟨0x8280, 1, 0x03, 1, .u8, .rwc, 0x0, .onEnable, true, .one 0x828001, 0x0, 0x14, 0x0D08⟩
/-- ROOTS, 0x8280.04 (R229). -/
def roots : Obj := ⟨0x8280, 1, 0x04, 1, .u32, .rwc, 0x0, .onEnable, true, .one 0x828001, 0x0, 0xFFFFFFFF, 0x0D08⟩
/-- FREQ_OFFSET, 0x8280.05 (R229). -/
def freqOffset : Obj := ⟨0x8280, 1, 0x05, 1, .i32, .rwc, 0x0, .onEnable, true, .one 0x828001, (-2147483648), 0x7FFFFFFF, 0x0D08⟩
/-- SCHEDULE, 0x8280.06 (R229). -/
def schedule : Obj := ⟨0x8280, 1, 0x06, 1, .u32, .rwc, 0x0, .onEnable, true, .one 0x828001, 0x0, 0xFFFFFFFF, 0x0D08⟩
/-- THRESHOLD, 0x8280.07 (R229). -/
def threshold : Obj := ⟨0x8280, 1, 0x07, 1, .u8, .rw, 0x30, .nextSlot, true, .one 0x828001, 0x0, 0xFF, 0x0D08⟩
/-- TRIGGER_LEVEL, 0x8280.08 (R229). -/
def triggerLevel : Obj := ⟨0x8280, 1, 0x08, 1, .u8, .rw, 0x18, .nextSlot, true, .one 0x828001, 0x0, 0xFF, 0x0D08⟩
/-- OCCASION_FREEZE, 0x8280.09 (R229). -/
def occasionFreeze : Obj := ⟨0x8280, 1, 0x09, 1, .bool, .rw, 0x0, .nextSlot, true, .one 0x828001, 0x0, 0x1, 0x0D08⟩
/-- CONTEXT_ENABLE, 0x8280.0A (R229). -/
def contextEnable : Obj := ⟨0x8280, 1, 0x0A, 1, .bool, .rw, 0x0, .onEnable, true, .one 0x828001, 0x0, 0x1, 0x0D08⟩
/-- DETECTIONS, 0x8280.0B (R229). -/
def detections : Obj := ⟨0x8280, 1, 0x0B, 1, .u32, .ro, 0x0, .immediately, false, .one 0x828001, 0x0, 0xFFFFFFFF, 0x0D08⟩
/-- CU_SELECT, 0x8300.01 (R229). -/
def cuSelect : Obj := ⟨0x8300, 1, 0x01, 1, .u8, .rw, 0x0, .immediately, false, .unit, 0x0, 0xB, 0x0D08⟩
/-- CU_STATE, 0x8300.02 (R229). -/
def cuState : Obj := ⟨0x8300, 1, 0x02, 1, .u8, .ro, 0x0, .immediately, false, .one 0x830001, 0x0, 0xFF, 0x0D08⟩
/-- LANES, 0x8300.03 (R229). -/
def cuLanes : Obj := ⟨0x8300, 1, 0x03, 1, .u8, .ro, 0x0, .immediately, false, .one 0x830001, 0x0, 0xFF, 0x0D08⟩
/-- SECTIONS_DECODED, 0x8300.04 (R229). -/
def sectionsDecoded : Obj := ⟨0x8300, 1, 0x04, 1, .u64, .ro, 0x0, .immediately, false, .one 0x830001, 0x0, 0xFFFFFFFFFFFFFFFF, 0x0D08⟩
/-- SECTIONS_ENCODED, 0x8300.05 (R229). -/
def sectionsEncoded : Obj := ⟨0x8300, 1, 0x05, 1, .u64, .ro, 0x0, .immediately, false, .one 0x830001, 0x0, 0xFFFFFFFFFFFFFFFF, 0x0D08⟩
/-- SECTIONS_INVALID, 0x8300.06 (R229). -/
def sectionsInvalid : Obj := ⟨0x8300, 1, 0x06, 1, .u32, .ro, 0x0, .immediately, false, .one 0x830001, 0x0, 0xFFFFFFFF, 0x0D08⟩
/-- UNMAPPED_ACCESSES, 0x9000.01 (R318). -/
def unmappedAccesses : Obj := ⟨0x9000, 1, 0x01, 1, .u32, .ro, 0x0, .immediately, false, .unit, 0x0, 0xFFFFFFFF, 0x0D08⟩
/-- BANK_SELECT, 0x9000.02 (R318). -/
def bankSelect : Obj := ⟨0x9000, 1, 0x02, 1, .u8, .rw, 0x0, .immediately, false, .unit, 0x0, 0x17, 0x0D08⟩
/-- BANK_STATE, 0x9000.03 (R318). -/
def ssBankState : Obj := ⟨0x9000, 1, 0x03, 1, .u8, .ro, 0x0, .immediately, false, .one 0x900002, 0x0, 0xFF, 0x0D08⟩
/-- SS_CORRECTED, 0x9000.04 (R318). -/
def ssCorrected : Obj := ⟨0x9000, 1, 0x04, 1, .u32, .ro, 0x0, .immediately, false, .one 0x900002, 0x0, 0xFFFFFFFF, 0x0D08⟩
/-- SS_UNCORRECTED, 0x9000.05 (R318). -/
def ssUncorrected : Obj := ⟨0x9000, 1, 0x05, 1, .u32, .ro, 0x0, .immediately, false, .one 0x900002, 0x0, 0xFFFFFFFF, 0x0D08⟩
/-- SS_SPARE_THRESHOLD, 0x9000.06 (R318). -/
def ssSpareThreshold : Obj := ⟨0x9000, 1, 0x06, 1, .u16, .rw, 0x40, .immediately, true, .unit, 0x0, 0xFFFF, 0x0D08⟩
/-- SS_MAP, 0x9000.07 (R318). -/
def ssMap : Obj := ⟨0x9000, 1, 0x07, 1, .array, .ro, 0x0, .immediately, false, .unit, 0x0, 0x0, 0x0D08⟩
/-- SPARE_NOW, 0x9000.08 (R318). -/
def spareNow : Obj := ⟨0x9000, 1, 0x08, 1, .bool, .wo, 0x0, .immediately, false, .one 0x900002, 0x0, 0x1, 0x0D08⟩
/-- SPARE_TEST_INTERVAL, 0x9000.09 (R318). -/
def spareTestInterval : Obj := ⟨0x9000, 1, 0x09, 1, .u32, .rw, 0x15180, .immediately, true, .unit, 0x0, 0xFFFFFFFF, 0x0D08⟩
/-- SCRUB_LATE, 0x9000.0A (R318). -/
def scrubLate : Obj := ⟨0x9000, 1, 0x0A, 1, .u32, .ro, 0x0, .immediately, false, .unit, 0x0, 0xFFFFFFFF, 0x0D08⟩
/-- SS_SCRUB_PERIOD, 0x9000.0B (R318). -/
def ssScrubPeriod : Obj := ⟨0x9000, 1, 0x0B, 1, .u32, .rw, 0xA, .immediately, true, .unit, 0x1, 0x15180, 0x0D08⟩
/-- HBM_SELECT, 0x9010.01 (R318). -/
def hbmSelect : Obj := ⟨0x9010, 1, 0x01, 1, .u8, .rw, 0x0, .immediately, false, .unit, 0x0, 0x1, 0x0D08⟩
/-- HBM_CORRECTED, 0x9010.02 (R318). -/
def hbmCorrected : Obj := ⟨0x9010, 1, 0x02, 1, .u64, .ro, 0x0, .immediately, false, .one 0x901001, 0x0, 0xFFFFFFFFFFFFFFFF, 0x0D08⟩
/-- HBM_UNCORRECTED, 0x9010.03 (R318). -/
def hbmUncorrected : Obj := ⟨0x9010, 1, 0x03, 1, .u64, .ro, 0x0, .immediately, false, .one 0x901001, 0x0, 0xFFFFFFFFFFFFFFFF, 0x0D08⟩
/-- HBM_SCRUB_PERIOD, 0x9010.04 (R318). -/
def hbmScrubPeriod : Obj := ⟨0x9010, 1, 0x04, 1, .u32, .rw, 0x7080, .immediately, true, .unit, 0x258, 0x93A80, 0x0D08⟩
/-- READS_PEAK, 0x9010.05 (R318). -/
def readsPeak : Obj := ⟨0x9010, 1, 0x05, 1, .u16, .ro, 0x0, .immediately, false, .one 0x901001, 0x0, 0xFFFF, 0x0D08⟩
/-- PERSISTENT_SYMBOL, 0x9010.06 (R318). -/
def persistentSymbol : Obj := ⟨0x9010, 1, 0x06, 1, .u16, .ro, 0xFFFF, .immediately, false, .one 0x901001, 0x0, 0xFFFF, 0x0D08⟩
/-- CM_SELECT, 0x9020.01 (R318). -/
def cmSelect : Obj := ⟨0x9020, 1, 0x01, 1, .u8, .rw, 0x0, .immediately, false, .unit, 0x0, 0xB, 0x0D08⟩
/-- CM_CORRECTED, 0x9020.02 (R318). -/
def cmCorrected : Obj := ⟨0x9020, 1, 0x02, 1, .u32, .ro, 0x0, .immediately, false, .one 0x902001, 0x0, 0xFFFFFFFF, 0x0D08⟩
/-- CM_UNCORRECTED, 0x9020.03 (R318). -/
def cmUncorrected : Obj := ⟨0x9020, 1, 0x03, 1, .u32, .ro, 0x0, .immediately, false, .one 0x902001, 0x0, 0xFFFFFFFF, 0x0D08⟩
/-- CM_SCRUB_PERIOD, 0x9020.04 (R318). -/
def cmScrubPeriod : Obj := ⟨0x9020, 1, 0x04, 1, .u32, .rw, 0xA, .immediately, true, .unit, 0x1, 0x15180, 0x0D08⟩
/-- ROUTER_SELECT, 0x9030.01 (R318). -/
def routerSelect : Obj := ⟨0x9030, 1, 0x01, 1, .u8, .rw, 0x0, .immediately, false, .unit, 0x0, 0x45, 0x0D08⟩
/-- LINKS_DOWN, 0x9030.02 (R318). -/
def linksDown : Obj := ⟨0x9030, 1, 0x02, 1, .u32, .ro, 0x0, .immediately, false, .one 0x903001, 0x0, 0xFFFFFFFF, 0x0D08⟩
/-- REPLAYS, 0x9030.03 (R318). -/
def replays : Obj := ⟨0x9030, 1, 0x03, 1, .u32, .ro, 0x0, .immediately, false, .one 0x903001, 0x0, 0xFFFFFFFF, 0x0D08⟩
/-- REROUTES, 0x9030.04 (R318). -/
def reroutes : Obj := ⟨0x9030, 1, 0x04, 1, .u32, .ro, 0x0, .immediately, false, .unit, 0x0, 0xFFFFFFFF, 0x0D08⟩
/-- WAKE_TIMEOUT, 0x9030.05 (R318). -/
def wakeTimeout : Obj := ⟨0x9030, 1, 0x05, 1, .u16, .rw, 0x14, .immediately, true, .unit, 0x4, 0x3E8, 0x0D08⟩
/-- MALFORMED, 0x9030.06 (R318). -/
def fabMalformed : Obj := ⟨0x9030, 1, 0x06, 1, .u32, .ro, 0x0, .immediately, false, .unit, 0x0, 0xFFFFFFFF, 0x0D08⟩
/-- WAKES, 0x9030.07 (R318). -/
def wakes : Obj := ⟨0x9030, 1, 0x07, 1, .u64, .ro, 0x0, .immediately, false, .unit, 0x0, 0xFFFFFFFFFFFFFFFF, 0x0D08⟩
/-- LOCKED_OFF_DROPS, 0x9030.08 (R318). -/
def lockedOffDrops : Obj := ⟨0x9030, 1, 0x08, 1, .u32, .ro, 0x0, .immediately, false, .unit, 0x0, 0xFFFFFFFF, 0x0D08⟩
/-- FENCED_DROPS, 0x9030.09 (R318). -/
def fencedDrops : Obj := ⟨0x9030, 1, 0x09, 1, .u32, .ro, 0x0, .immediately, false, .unit, 0x0, 0xFFFFFFFF, 0x0D08⟩
/-- REGION_SELECT, 0x9100.01 (R407). -/
def regionSelect : Obj := ⟨0x9100, 1, 0x01, 1, .u8, .rw, 0x0, .immediately, false, .unit, 0x0, 0x3F, 0x0D08⟩
/-- REGION_BASE, 0x9100.02 (R407). -/
def regionBase : Obj := ⟨0x9100, 1, 0x02, 1, .u64, .rw, 0x0, .onEnable, true, .one 0x910001, 0x0, 0xFFFFFFFFFFFFFFFF, 0x0D08⟩
/-- REGION_SIZE, 0x9100.03 (R407). -/
def regionSize : Obj := ⟨0x9100, 1, 0x03, 1, .u32, .rw, 0x0, .onEnable, true, .one 0x910001, 0x0, 0xFFFFFFFF, 0x0D08⟩
/-- REGION_MODE, 0x9100.04 (R407). -/
def regionMode : Obj := ⟨0x9100, 1, 0x04, 1, .u8, .rw, 0x1, .onEnable, true, .one 0x910001, 0x0, 0x1, 0x0D08⟩
/-- METADATA_BASE, 0x9100.05 (R407). -/
def metadataBase : Obj := ⟨0x9100, 1, 0x05, 1, .u64, .rw, 0x0, .onEnable, true, .one 0x910001, 0x0, 0xFFFFFFFFFFFFFFFF, 0x0D08⟩
/-- QUARANTINE_ON_FAIL, 0x9100.06 (R407). -/
def quarantineOnFail : Obj := ⟨0x9100, 1, 0x06, 1, .bool, .rw, 0x0, .immediately, true, .one 0x910001, 0x0, 0x1, 0x0D08⟩
/-- REGION_ENABLE, 0x9100.07 (R407). -/
def regionEnable : Obj := ⟨0x9100, 1, 0x07, 1, .bool, .rw, 0x0, .onEnable, true, .one 0x910001, 0x0, 0x1, 0x0D08⟩
/-- REGION_STATE, 0x9100.08 (R407). -/
def regionState : Obj := ⟨0x9100, 1, 0x08, 1, .u8, .ro, 0x0, .immediately, false, .one 0x910001, 0x0, 0xFF, 0x0D08⟩
/-- GENERATION, 0x9100.09 (R407). -/
def generation : Obj := ⟨0x9100, 1, 0x09, 1, .u16, .ro, 0x0, .immediately, false, .one 0x910001, 0x0, 0xFFFF, 0x0D08⟩
/-- REKEY_NOW, 0x9100.0A (R407). -/
def rekeyNow : Obj := ⟨0x9100, 1, 0x0A, 1, .bool, .wo, 0x0, .immediately, false, .one 0x910001, 0x0, 0x1, 0x0D08⟩
/-- CHECK_FAILURES, 0x9100.0B (R407). -/
def checkFailures : Obj := ⟨0x9100, 1, 0x0B, 1, .u32, .ro, 0x0, .immediately, false, .one 0x910001, 0x0, 0xFFFFFFFF, 0x0D08⟩
/-- MAX_COUNTER, 0x9100.0C (R407). -/
def maxCounter : Obj := ⟨0x9100, 1, 0x0C, 1, .u32, .ro, 0x0, .immediately, false, .one 0x910001, 0x0, 0xFFFFFFFF, 0x0D08⟩
/-- REKEYS, 0x9100.0D (R407). -/
def rekeys : Obj := ⟨0x9100, 1, 0x0D, 1, .u32, .ro, 0x0, .immediately, false, .one 0x910001, 0x0, 0xFFFFFFFF, 0x0D08⟩
/-- BLOCKED_ACCESSES, 0x9100.0E (R407). -/
def blockedAccesses : Obj := ⟨0x9100, 1, 0x0E, 1, .u32, .ro, 0x0, .immediately, false, .one 0x910001, 0x0, 0xFFFFFFFF, 0x0D08⟩
/-- HELD_WRITES, 0x9100.0F (R407). -/
def heldWrites : Obj := ⟨0x9100, 1, 0x0F, 1, .u32, .ro, 0x0, .immediately, false, .one 0x910001, 0x0, 0xFFFFFFFF, 0x0D08⟩
/-- REKEY_THRESHOLD, 0x9100.10 (R407). -/
def rekeyThreshold : Obj := ⟨0x9100, 1, 0x10, 1, .u32, .rw, 0xFF0000, .immediately, true, .unit, 0x800000, 0xFF0000, 0x0D08⟩
/-- REKEY_RATE, 0x9100.11 (R407). -/
def rekeyRate : Obj := ⟨0x9100, 1, 0x11, 1, .u16, .rw, 0x3E8, .immediately, true, .unit, 0x64, 0x4E20, 0x0D08⟩
/-- PROTECTED_TOTAL, 0x9100.12 (R407). -/
def protectedTotal : Obj := ⟨0x9100, 1, 0x12, 1, .u32, .ro, 0x0, .immediately, false, .unit, 0x0, 0xFFFFFFFF, 0x0D08⟩
/-- TREE_STORE_USED, 0x9100.13 (R407). -/
def treeStoreUsed : Obj := ⟨0x9100, 1, 0x13, 1, .u32, .ro, 0x0, .immediately, false, .unit, 0x0, 0xFFFFFFFF, 0x0D08⟩
/-- LINK_STATE, 0xA000.01 (R340). -/
def pcieLinkState : Obj := ⟨0xA000, 1, 0x01, 1, .u8, .ro, 0x0, .immediately, false, .unit, 0x0, 0xFF, 0x0D08⟩
/-- NUM_VFS, 0xA000.02 (R340). -/
def numVfs : Obj := ⟨0xA000, 1, 0x02, 1, .u16, .ro, 0x0, .immediately, false, .unit, 0x0, 0xFFFF, 0x0D08⟩
/-- NP_OUTSTANDING, 0xA000.03 (R340). -/
def npOutstanding : Obj := ⟨0xA000, 1, 0x03, 1, .u16, .ro, 0x0, .immediately, false, .unit, 0x0, 0xFFFF, 0x0D08⟩
/-- NP_PEAK, 0xA000.04 (R340). -/
def npPeak : Obj := ⟨0xA000, 1, 0x04, 1, .u16, .ro, 0x0, .immediately, false, .unit, 0x0, 0xFFFF, 0x0D08⟩
/-- TAGS_QUARANTINED, 0xA000.05 (R340). -/
def tagsQuarantined : Obj := ⟨0xA000, 1, 0x05, 1, .u16, .ro, 0x0, .immediately, false, .unit, 0x0, 0xFFFF, 0x0D08⟩
/-- LATE_COMPLETIONS, 0xA000.06 (R340). -/
def hostLateCompletions : Obj := ⟨0xA000, 1, 0x06, 1, .u32, .ro, 0x0, .immediately, false, .unit, 0x0, 0xFFFFFFFF, 0x0D08⟩
/-- CPL_TIMEOUTS, 0xA000.07 (R340). -/
def cplTimeouts : Obj := ⟨0xA000, 1, 0x07, 1, .u32, .ro, 0x0, .immediately, false, .unit, 0x0, 0xFFFFFFFF, 0x0D08⟩
/-- CPL_ERRORS, 0xA000.08 (R340). -/
def cplErrors : Obj := ⟨0xA000, 1, 0x08, 1, .u32, .ro, 0x0, .immediately, false, .unit, 0x0, 0xFFFFFFFF, 0x0D08⟩
/-- FLRS, 0xA000.09 (R340). -/
def flrs : Obj := ⟨0xA000, 1, 0x09, 1, .u32, .ro, 0x0, .immediately, false, .unit, 0x0, 0xFFFFFFFF, 0x0D08⟩
/-- CQ_WAIT, 0xA000.0A (R340). -/
def cqWait : Obj := ⟨0xA000, 1, 0x0A, 1, .u16, .rw, 0x64, .immediately, true, .unit, 0x1, 0x2710, 0x0D08⟩
/-- QP_SELECT, 0xA010.01 (R340). -/
def qpSelect : Obj := ⟨0xA010, 1, 0x01, 1, .u16, .rw, 0x0, .immediately, false, .unit, 0x0, 0x3FFF, 0x0D08⟩
/-- QP_OWNER, 0xA010.02 (R340). -/
def qpOwner : Obj := ⟨0xA010, 1, 0x02, 1, .u32, .rw, 0x0, .onEnable, true, .one 0xA01001, 0x0, 0xFFFFFFFF, 0x0D08⟩
/-- SQ_BASE, 0xA010.03 (R340). -/
def sqBase : Obj := ⟨0xA010, 1, 0x03, 1, .u64, .rw, 0x0, .onEnable, true, .one 0xA01001, 0x0, 0xFFFFFFFFFFFFFFFF, 0x0D08⟩
/-- CQ_BASE, 0xA010.04 (R340). -/
def cqBase : Obj := ⟨0xA010, 1, 0x04, 1, .u64, .rw, 0x0, .onEnable, true, .one 0xA01001, 0x0, 0xFFFFFFFFFFFFFFFF, 0x0D08⟩
/-- QP_SIZES, 0xA010.05 (R340). -/
def qpSizes : Obj := ⟨0xA010, 1, 0x05, 1, .u16, .rw, 0x0, .onEnable, true, .one 0xA01001, 0x0, 0xFFFF, 0x0D08⟩
/-- QP_ENABLE, 0xA010.06 (R340). -/
def qpEnable : Obj := ⟨0xA010, 1, 0x06, 1, .bool, .rw, 0x0, .onEnable, true, .one 0xA01001, 0x0, 0x1, 0x0D08⟩
/-- QP_STATE, 0xA010.07 (R340). -/
def qpState : Obj := ⟨0xA010, 1, 0x07, 1, .u8, .ro, 0x0, .immediately, false, .one 0xA01001, 0x0, 0xFF, 0x0D08⟩
/-- SQ_HEAD, 0xA010.08 (R340). -/
def sqHead : Obj := ⟨0xA010, 1, 0x08, 1, .u32, .ro, 0x0, .immediately, false, .one 0xA01001, 0x0, 0xFFFFFFFF, 0x0D08⟩
/-- CQ_TAIL, 0xA010.09 (R340). -/
def cqTail : Obj := ⟨0xA010, 1, 0x09, 1, .u32, .ro, 0x0, .immediately, false, .one 0xA01001, 0x0, 0xFFFFFFFF, 0x0D08⟩
/-- DOORBELL_ERRORS, 0xA010.0A (R340). -/
def doorbellErrors : Obj := ⟨0xA010, 1, 0x0A, 1, .u32, .ro, 0x0, .immediately, false, .one 0xA01001, 0x0, 0xFFFFFFFF, 0x0D08⟩
/-- PART_STATE, 0xA400.01 (R340). -/
def partState : Obj := ⟨0xA400, 1024, 0x01, 1, .u8, .ro, 0x0, .immediately, false, .byIdx, 0x0, 0xFF, 0x0D08⟩
/-- PART_ENABLE, 0xA400.02 (R340). -/
def partEnable : Obj := ⟨0xA400, 1024, 0x02, 1, .bool, .rw, 0x0, .onEnable, true, .byIdx, 0x0, 0x1, 0x0D08⟩
/-- PART_PAUSE, 0xA400.03 (R340). -/
def partPause : Obj := ⟨0xA400, 1024, 0x03, 1, .bool, .rw, 0x0, .nextSlot, true, .byIdx, 0x0, 0x1, 0x0D08⟩
/-- PART_RESET, 0xA400.04 (R340). -/
def partReset : Obj := ⟨0xA400, 1024, 0x04, 1, .bool, .wo, 0x0, .immediately, false, .byIdx, 0x0, 0x1, 0x0D08⟩
/-- HOST_FUNCTION, 0xA400.05 (R340). -/
def hostFunction : Obj := ⟨0xA400, 1024, 0x05, 1, .u16, .rw, 0xFFFF, .onEnable, true, .byIdx, 0x0, 0xFFFF, 0x0D08⟩
/-- QP_QUOTA, 0xA400.06 (R340). -/
def qpQuota : Obj := ⟨0xA400, 1024, 0x06, 1, .u16, .rw, 0x0, .onEnable, true, .byIdx, 0x0, 0x1000, 0x0D08⟩
/-- MSIX_QUOTA, 0xA400.07 (R340). -/
def msixQuota : Obj := ⟨0xA400, 1024, 0x07, 1, .u8, .rw, 0x8, .onEnable, true, .byIdx, 0x0, 0x40, 0x0D08⟩
/-- NP_QUOTA, 0xA400.08 (R340). -/
def npQuota : Obj := ⟨0xA400, 1024, 0x08, 1, .u16, .rw, 0x40, .onEnable, true, .byIdx, 0x1, 0x2000, 0x0D08⟩
/-- WINDOW_SELECT, 0xA400.09 (R340). -/
def windowSelect : Obj := ⟨0xA400, 1024, 0x09, 1, .u8, .rw, 0x0, .immediately, false, .byIdx, 0x0, 0xF, 0x0D08⟩
/-- WINDOW, 0xA400.0A (R340). -/
def windowReg : Obj := ⟨0xA400, 1024, 0x0A, 1, .u64, .rw, 0x0, .onEnable, true, .idxOne 0xA40009 16, 0x0, 0xFFFFFFFFFFFFFFFF, 0x0D08⟩
/-- RESET_LIMIT, 0xA400.0B (R340). -/
def resetLimit : Obj := ⟨0xA400, 1024, 0x0B, 1, .u16, .rw, 0xA, .immediately, true, .byIdx, 0x1, 0x3E8, 0x0D08⟩
/-- WINDOW_VIOLATIONS, 0xA400.0C (R340). -/
def windowViolations : Obj := ⟨0xA400, 1024, 0x0C, 1, .u32, .ro, 0x0, .immediately, false, .byIdx, 0x0, 0xFFFFFFFF, 0x0D08⟩
/-- HOST_UNAVAILABLE, 0xA400.0D (R340). -/
def hostUnavailable : Obj := ⟨0xA400, 1024, 0x0D, 1, .u32, .ro, 0x0, .immediately, false, .byIdx, 0x0, 0xFFFFFFFF, 0x0D08⟩
/-- RESETS, 0xA400.0E (R340). -/
def resets : Obj := ⟨0xA400, 1024, 0x0E, 1, .u32, .ro, 0x0, .immediately, false, .byIdx, 0x0, 0xFFFFFFFF, 0x0D08⟩
/-- RESERVE_SELECT, 0xB000.01 (R457). -/
def reserveSelect : Obj := ⟨0xB000, 1, 0x01, 1, .u8, .rw, 0x0, .immediately, false, .unit, 0x0, 0x8, 0x0A07⟩
/-- RESERVE_COUNT, 0xB000.02 (R457). -/
def reserveCount : Obj := ⟨0xB000, 1, 0x02, 1, .u8, .rwc, 0x1, .onRun, true, .one 0xB00001, 0x0, 0x10, 0x0A05⟩
/-- RESERVES_LEFT, 0xB000.03 (R457). -/
def reservesLeft : Obj := ⟨0xB000, 1, 0x03, 1, .u8, .ro, 0x0, .immediately, false, .one 0xB00001, 0x0, 0xFF, 0x0A07⟩
/-- RESERVE_UNITS, 0xB000.04 (R457). -/
def reserveUnits : Obj := ⟨0xB000, 1, 0x04, 1, .array, .ro, 0x0, .immediately, false, .one 0xB00001, 0x0, 0x0, 0x0A07⟩
/-- RETIRED_UNITS, 0xB000.05 (R457). -/
def retiredUnits : Obj := ⟨0xB000, 1, 0x05, 1, .array, .ro, 0x0, .immediately, false, .one 0xB00001, 0x0, 0x0, 0x0A07⟩
/-- RETURN_LIMIT, 0xB000.06 (R457). -/
def returnLimit : Obj := ⟨0xB000, 1, 0x06, 1, .u8, .rw, 0x2, .immediately, true, .unit, 0x0, 0xF, 0x0A07⟩
/-- LOCKSTEP_PAIRS, 0xB000.07 (R457). -/
def lockstepPairs : Obj := ⟨0xB000, 1, 0x07, 1, .u8, .rwc, 0xF, .onRun, true, .unit, 0x0, 0xF, 0x0A07⟩
/-- LOCKSTEP_MISMATCHES, 0xB000.08 (R457). -/
def lockstepMismatches : Obj := ⟨0xB000, 1, 0x08, 1, .u32, .ro, 0x0, .immediately, false, .unit, 0x0, 0xFFFFFFFF, 0x0A07⟩
/-- RECOVERY_STATE, 0xB000.09 (R457). -/
def recoveryState : Obj := ⟨0xB000, 1, 0x09, 1, .u8, .ro, 0x0, .immediately, false, .unit, 0x0, 0xFF, 0x0A07⟩
/-- WARDEN_RESTARTS, 0xB000.0A (R457). -/
def wardenRestarts : Obj := ⟨0xB000, 1, 0x0A, 1, .u32, .ro, 0x0, .immediately, false, .unit, 0x0, 0xFFFFFFFF, 0x0A07⟩
/-- WARDEN_VOTES, 0xB000.0B (R457). -/
def wardenVotes : Obj := ⟨0xB000, 1, 0x0B, 1, .u32, .ro, 0x0, .immediately, false, .unit, 0x0, 0xFFFFFFFF, 0x0A07⟩
/-- UNITS_RETURNED, 0xB000.0C (R457). -/
def unitsReturned : Obj := ⟨0xB000, 1, 0x0C, 1, .u32, .ro, 0x0, .immediately, false, .unit, 0x0, 0xFFFFFFFF, 0x0A07⟩
/-- ACTIVITY_SELECT, 0xB100.01 (R457). -/
def activitySelect : Obj := ⟨0xB100, 1, 0x01, 1, .u8, .rw, 0x0, .immediately, false, .unit, 0x0, 0x6, 0x0A07⟩
/-- ACTIVITY_ENABLE, 0xB100.02 (R457). -/
def activityEnable : Obj := ⟨0xB100, 1, 0x02, 1, .bool, .rw, 0x1, .immediately, true, .one 0xB10001, 0x0, 0x1, 0x0A07⟩
/-- ACTIVITY_STATE, 0xB100.03 (R457). -/
def activityState : Obj := ⟨0xB100, 1, 0x03, 1, .u8, .ro, 0x0, .immediately, false, .one 0xB10001, 0x0, 0xFF, 0x0A07⟩
/-- GRANTS, 0xB100.04 (R457). -/
def grants : Obj := ⟨0xB100, 1, 0x04, 1, .u32, .ro, 0x0, .immediately, false, .one 0xB10001, 0x0, 0xFFFFFFFF, 0x0A07⟩
/-- QUEUE, 0xB100.05 (R457). -/
def maintQueue : Obj := ⟨0xB100, 1, 0x05, 1, .array, .ro, 0x0, .immediately, false, .unit, 0x0, 0x0, 0x0A07⟩
/-- WAIT_ALARM, 0xB100.06 (R457). -/
def waitAlarm : Obj := ⟨0xB100, 1, 0x06, 1, .u32, .rw, 0xE10, .immediately, true, .unit, 0x3C, 0x93A80, 0x0A07⟩
/-- REKEY_CONCURRENT, 0xB100.07 (R457). -/
def rekeyConcurrent : Obj := ⟨0xB100, 1, 0x07, 1, .u8, .rw, 0x4, .immediately, true, .unit, 0x1, 0x4, 0x0A07⟩
/-- RECAL_CONCURRENT, 0xB100.08 (R457). -/
def recalConcurrent : Obj := ⟨0xB100, 1, 0x08, 1, .u8, .rw, 0x2, .immediately, true, .unit, 0x1, 0x6, 0x0A07⟩
/-- DRILL_INTERVAL, 0xB100.09 (R457). -/
def drillInterval : Obj := ⟨0xB100, 1, 0x09, 1, .u32, .rw, 0x15180, .immediately, true, .unit, 0x0, 0xFFFFFFFF, 0x0A07⟩
/-- UPGRADE_STATE, 0xB100.0A (R457). -/
def upgradeState : Obj := ⟨0xB100, 1, 0x0A, 1, .u8, .ro, 0x0, .immediately, false, .unit, 0x0, 0xFF, 0x0A07⟩
/-- UPGRADE_IMAGE, 0xB100.0B (R457). -/
def upgradeImage : Obj := ⟨0xB100, 1, 0x0B, 1, .octets, .wo, 0x0, .immediately, false, .unit, 0x0, 0x0, 0x0A07⟩
/-- UPGRADE_RECOVERY, 0xB100.0C (R457). -/
def upgradeRecovery : Obj := ⟨0xB100, 1, 0x0C, 1, .bool, .wo, 0x0, .immediately, false, .unit, 0x0, 0x1, 0x0A07⟩
/-- UPGRADE_COMMIT, 0xB100.0D (R457). -/
def upgradeCommit : Obj := ⟨0xB100, 1, 0x0D, 1, .bool, .wo, 0x0, .immediately, false, .unit, 0x0, 0x1, 0x0A07⟩
/-- UPGRADE_ABANDON, 0xB100.0E (R457). -/
def upgradeAbandon : Obj := ⟨0xB100, 1, 0x0E, 1, .bool, .wo, 0x0, .immediately, false, .unit, 0x0, 0x1, 0x0A07⟩
/-- UPGRADE_LIMIT, 0xB100.0F (R457). -/
def upgradeLimit : Obj := ⟨0xB100, 1, 0x0F, 1, .u32, .rw, 0x15180, .immediately, true, .unit, 0x0, 0xFFFFFFFF, 0x0A07⟩
/-- ENTRY_IMAGES, 0xB100.10 (R457). -/
def entryImages : Obj := ⟨0xB100, 1, 0x10, 1, .array, .ro, 0x0, .immediately, false, .unit, 0x0, 0x0, 0x0A07⟩
/-- ALARM_SELECT, 0xB200.01 (R457). -/
def alarmSelect : Obj := ⟨0xB200, 1, 0x01, 1, .u16, .rw, 0x0, .immediately, false, .unit, 0x0, 0xFFFF, 0x0D08⟩
/-- ALARM_ENTRY, 0xB200.02 (R457). -/
def alarmEntry : Obj := ⟨0xB200, 1, 0x02, 1, .octets, .ro, 0x0, .immediately, false, .one 0xB20001, 0x0, 0x0, 0x0A07⟩
/-- ACTIVE_ALARMS, 0xB200.03 (R457). -/
def activeAlarms : Obj := ⟨0xB200, 1, 0x03, 1, .u16, .ro, 0x0, .immediately, false, .unit, 0x0, 0xFFFF, 0x0A07⟩
/-- HIGHEST_SEVERITY, 0xB200.04 (R457). -/
def highestSeverity : Obj := ⟨0xB200, 1, 0x04, 1, .u8, .ro, 0x0, .immediately, false, .unit, 0x0, 0xFF, 0x0A07⟩
/-- NEXT_SEQUENCE, 0xB200.05 (R457). -/
def nextSequence : Obj := ⟨0xB200, 1, 0x05, 1, .u32, .ro, 0x1, .immediately, false, .unit, 0x0, 0xFFFFFFFF, 0x0A07⟩
/-- RECORDS_LOST, 0xB200.06 (R457). -/
def recordsLost : Obj := ⟨0xB200, 1, 0x06, 1, .u32, .ro, 0x0, .immediately, false, .unit, 0x0, 0xFFFFFFFF, 0x0A07⟩
/-- ENTRIES_FULL, 0xB200.07 (R457). -/
def entriesFull : Obj := ⟨0xB200, 1, 0x07, 1, .u32, .ro, 0x0, .immediately, false, .unit, 0x0, 0xFFFFFFFF, 0x0A07⟩
/-- ALARM_PIN_SEVERITY, 0xB200.08 (R457). -/
def alarmPinSeverity : Obj := ⟨0xB200, 1, 0x08, 1, .u8, .rw, 0x4, .immediately, true, .unit, 0x1, 0x5, 0x0A07⟩
/-- TRACE_BASE, 0xB200.09 (R457). -/
def traceBase : Obj := ⟨0xB200, 1, 0x09, 1, .u64, .rwc, 0x0, .onRun, true, .unit, 0x0, 0xFFFFFFFFFFFFFFFF, 0x0A07⟩
/-- TRACE_SIZE, 0xB200.0A (R457). -/
def traceSize : Obj := ⟨0xB200, 1, 0x0A, 1, .u16, .rwc, 0x40, .onRun, true, .unit, 0x1, 0x1000, 0x0A07⟩
/-- TRACE_SOURCES, 0xB200.0B (R457). -/
def traceSources : Obj := ⟨0xB200, 1, 0x0B, 1, .u8, .rw, 0x0, .immediately, true, .unit, 0x0, 0xFF, 0x0A07⟩
/-- TRACE_MODE, 0xB200.0C (R457). -/
def traceMode : Obj := ⟨0xB200, 1, 0x0C, 1, .u8, .rw, 0x0, .immediately, true, .unit, 0x0, 0x1, 0x0A07⟩
/-- TRACE_HEAD, 0xB200.0D (R457). -/
def traceHead : Obj := ⟨0xB200, 1, 0x0D, 1, .u64, .ro, 0x0, .immediately, false, .unit, 0x0, 0xFFFFFFFFFFFFFFFF, 0x0A07⟩
/-- TRACE_WRITTEN_TRACE_DROPPED, 0xB200.0E (R457). -/
def traceWrittenTraceDropped : Obj := ⟨0xB200, 1, 0x0E, 1, .array, .ro, 0x0, .immediately, false, .unit, 0x0, 0x0, 0x0A07⟩
/-- TRACE_GAPS, 0xB200.0F (R457). -/
def traceGaps : Obj := ⟨0xB200, 1, 0x0F, 1, .u32, .ro, 0x0, .immediately, false, .unit, 0x0, 0xFFFFFFFF, 0x0A07⟩
/-- SIG_POLICY, 0xC000.01 (R407). -/
def sigPolicy : Obj := ⟨0xC000, 1, 0x01, 1, .u8, .rwc, 0x0, .immediately, true, .unit, 0x0, 0xFF, 0x0D08⟩
/-- KEY_REVOKE, 0xC000.02 (R407). -/
def keyRevoke : Obj := ⟨0xC000, 1, 0x02, 1, .u8, .rwc, 0x0, .immediately, true, .unit, 0x0, 0xFF, 0x0D08⟩
/-- KEY_SELECT, 0xC000.03 (R407). -/
def keySelect : Obj := ⟨0xC000, 1, 0x03, 1, .u8, .rw, 0x0, .immediately, false, .unit, 0x0, 0x9, 0x0D08⟩
/-- KEY_DIGEST, 0xC000.04 (R407). -/
def keyDigest : Obj := ⟨0xC000, 1, 0x04, 1, .octets, .ro, 0x0, .immediately, false, .one 0xC00003, 0x0, 0x0, 0x0D08⟩
/-- ROLLBACK_SELECT, 0xC000.05 (R407). -/
def rollbackSelect : Obj := ⟨0xC000, 1, 0x05, 1, .u8, .rw, 0x0, .immediately, false, .unit, 0x0, 0x3, 0x0D08⟩
/-- ROLLBACK_COUNTER, 0xC000.06 (R407). -/
def rollbackCounter : Obj := ⟨0xC000, 1, 0x06, 1, .u8, .rwc, 0x0, .immediately, true, .one 0xC00005, 0x0, 0x40, 0x0D08⟩
/-- DEBUG_FORBID, 0xC000.07 (R407). -/
def debugForbid : Obj := ⟨0xC000, 1, 0x07, 1, .u8, .rwc, 0x0, .immediately, true, .unit, 0x0, 0xFF, 0x0D08⟩
/-- DEBUG_STATE, 0xC000.08 (R407). -/
def debugState : Obj := ⟨0xC000, 1, 0x08, 1, .u8, .ro, 0x0, .immediately, false, .unit, 0x0, 0xFF, 0x0D08⟩
/-- DEBUG_FAILURES, 0xC000.09 (R407). -/
def debugFailures : Obj := ⟨0xC000, 1, 0x09, 1, .u32, .ro, 0x0, .immediately, false, .unit, 0x0, 0xFFFFFFFF, 0x0D08⟩
/-- ANCHOR_SELECT, 0xC000.0A (R407). -/
def anchorSelect : Obj := ⟨0xC000, 1, 0x0A, 1, .u8, .rw, 0x0, .immediately, false, .unit, 0x0, 0x7, 0x0D08⟩
/-- TRUST_ANCHOR, 0xC000.0B (R407). -/
def trustAnchor : Obj := ⟨0xC000, 1, 0x0B, 1, .octets, .rw, 0x0, .immediately, true, .one 0xC0000A, 0x0, 0x0, 0x0D08⟩
/-- DEVICE_CERT, 0xC000.0C (R407). -/
def deviceCert : Obj := ⟨0xC000, 1, 0x0C, 1, .octets, .ro, 0x0, .immediately, false, .unit, 0x0, 0x0, 0x0D08⟩
/-- BOOT_MEASUREMENT, 0xC000.0D (R407). -/
def bootMeasurement : Obj := ⟨0xC000, 1, 0x0D, 1, .array, .ro, 0x0, .immediately, false, .unit, 0x0, 0x0, 0x0D08⟩
/-- PIN_SELECT, 0xD000.01 (R471). -/
def pinSelect : Obj := ⟨0xD000, 1, 0x01, 1, .u8, .rw, 0x0, .immediately, false, .unit, 0x0, 0x2A, 0x0C03⟩
/-- GPIO_CONFIG, 0xD000.02 (R471). -/
def gpioConfig : Obj := ⟨0xD000, 1, 0x02, 1, .u16, .rw, 0x0, .immediately, true, .one 0xD00001, 0x0, 0xFFFF, 0x0C03⟩
/-- GPIO_OUT, 0xD000.03 (R471). -/
def gpioOut : Obj := ⟨0xD000, 1, 0x03, 1, .u32, .rw, 0x0, .immediately, true, .unit, 0x0, 0xFFFFFFFF, 0x0C03⟩
/-- GPIO_IN, 0xD000.04 (R471). -/
def gpioIn : Obj := ⟨0xD000, 1, 0x04, 1, .u32, .ro, 0x0, .immediately, false, .unit, 0x0, 0xFFFFFFFF, 0x0C03⟩
/-- GPIO_IN_VALID, 0xD000.05 (R471). -/
def gpioInValid : Obj := ⟨0xD000, 1, 0x05, 1, .u32, .ro, 0x0, .immediately, false, .unit, 0x0, 0xFFFFFFFF, 0x0C03⟩
/-- BANK_VOLTAGE, 0xD000.06 (R471). -/
def bankVoltage : Obj := ⟨0xD000, 1, 0x06, 1, .u8, .rw, 0x0, .immediately, true, .unit, 0x0, 0xFF, 0x0C03⟩
/-- BANK_STATE, 0xD000.07 (R471). -/
def pinBankState : Obj := ⟨0xD000, 1, 0x07, 1, .u8, .ro, 0xF, .immediately, false, .unit, 0x0, 0xFF, 0x0C03⟩
/-- PIN_FAULT, 0xD000.08 (R471). -/
def pinFault : Obj := ⟨0xD000, 1, 0x08, 1, .u64, .w1c, 0x0, .immediately, false, .unit, 0x0, 0xFFFFFFFFFFFFFFFF, 0x0C03⟩
/-- RCO_FAULT, 0xD000.09 (R471). -/
def rcoFault : Obj := ⟨0xD000, 1, 0x09, 1, .u8, .ro, 0x0, .immediately, false, .unit, 0x0, 0xFF, 0x0C03⟩
/-- RCO_READBACK, 0xD000.0A (R471). -/
def rcoReadback : Obj := ⟨0xD000, 1, 0x0A, 1, .u8, .ro, 0xFF, .immediately, false, .unit, 0x0, 0xFF, 0x0C03⟩
/-- RCO_RETRIES, 0xD000.0B (R471). -/
def rcoRetries : Obj := ⟨0xD000, 1, 0x0B, 1, .u32, .ro, 0x0, .immediately, false, .unit, 0x0, 0xFFFFFFFF, 0x0C03⟩
/-- CONTENTION_EVENTS, 0xD000.0C (R471). -/
def contentionEvents : Obj := ⟨0xD000, 1, 0x0C, 1, .u32, .ro, 0x0, .immediately, false, .unit, 0x0, 0xFFFFFFFF, 0x0C03⟩
/-- STRAPS, 0xD000.0D (R471). -/
def straps : Obj := ⟨0xD000, 1, 0x0D, 1, .u8, .ro, 0x0, .immediately, false, .unit, 0x0, 0xFF, 0x0C03⟩
/-- FAULT_LOG, 0xE000.01 (R457). -/
def faultLog : Obj := ⟨0xE000, 1, 0x01, 1, .array, .ro, 0x0, .immediately, false, .unit, 0x0, 0x0, 0x0A07⟩
/-- UNIT_SELECT, 0xE000.02 (R457). -/
def unitSelect : Obj := ⟨0xE000, 1, 0x02, 1, .u8, .rw, 0x0, .immediately, false, .unit, 0x0, 0xB5, 0x0A07⟩
/-- DIAG_RUN, 0xE000.03 (R457). -/
def diagRun : Obj := ⟨0xE000, 1, 0x03, 1, .bool, .wo, 0x0, .immediately, false, .one 0xE00002, 0x0, 0x1, 0x0A07⟩
/-- DIAG_RESULT, 0xE000.04 (R457). -/
def diagResult : Obj := ⟨0xE000, 1, 0x04, 1, .u16, .ro, 0x0, .immediately, false, .one 0xE00002, 0x0, 0xFFFF, 0x0A07⟩
/-- FAULTS_24H, 0xE000.05 (R457). -/
def faults24h : Obj := ⟨0xE000, 1, 0x05, 1, .u8, .ro, 0x0, .immediately, false, .one 0xE00002, 0x0, 0xFF, 0x0A07⟩
/-- SPINE_QUEUE_LOST, 0xE000.06 (R457). -/
def spineQueueLost : Obj := ⟨0xE000, 1, 0x06, 1, .u16, .ro, 0x0, .immediately, false, .unit, 0x0, 0xFFFF, 0x0A07⟩

/-- The objects of index 0x1000. -/
def at1000 : List Obj :=
  [vendor, partName, orderingCode, revision, serial, identityDigest, bootVersion, dictionaryVersion]
/-- The objects of index 0x1100. -/
def at1100 : List Obj :=
  [mpSelect, mpEnable, ipv4, ipv6, gateway, roleSelect, roleEntry, hostWrite, sessions, maxSessions, sessionIdle, potVersions, authFailures, dropped, storeSequence, smbusAddress, mbIgnored, infoLayout]
/-- The objects of index 0x2000. -/
def at2000 : List Obj :=
  [modeCode, modeRequest, deviceEnable, lastTransition, lastTransitionTime, transitions, degradedCauses, safeCause, bootStage, bootResult, autoBoot, runAtBoot, lastEnableReason, lastEnableDetail, bootSource, stopDrain, bootImage, bootHostWait]
/-- The objects of index 0x2100. -/
def at2100 : List Obj :=
  [powerNow, vinNow, iinNow, capNow, powerLimit, throttleLevel, throttleCause, withdrawn, vinRiseHold, capHeadroom, energy, tjNow, sensorSelect, sensorTemp, throttleOffset, thermalStep, domainSelect, domainState, domainWakes, sleepEnable] ++
  [idleDelay, keepAwake, droopEvents, stretchPpm, stretchAlarm, railSelect, railVoltage, railPhases, phaseFaults]
/-- The objects of index 0x3000. -/
def at3000 : List Obj :=
  [timeNow, servoState, timeSet, phaseError, rateWord, kp, ki, lockThreshold, lockTime, unlockThreshold, stepThreshold, stepInRun, oscFrequency, taiUtc, freqClamp, slewLimit, holdoverAveraging, holdoverLimit, statusSticky, lastSwitch] ++
  [revertive, waitToRestore, qualifyTime, selectedRef, holdInStandby, stateChanges, lockedRate, lastStep]
/-- The objects of index 0x3010. -/
def at3010 : List Obj :=
  [reference]
/-- The objects of index 0x3020. -/
def at3020 : List Obj :=
  [ppsInDelay, todInPair, todInConfig, ppsOutOffset, ppsOutWidth, todOutConfig, outputEnable, ppsWindow, ppsRejected]
/-- The objects of index 0x3040. -/
def at3040 : List Obj :=
  [ptmInterval, ptmValid, hostOffset, hostOffsetMedian, ptmLinkDelay, ptmPairTime]
/-- The objects of index 0x3100. -/
def at3100 : List Obj :=
  [ptpProfile, ptpDomain, priority2, localPriority, clockIdentity, timeCore, hybrid]
/-- The objects of index 0x3110. -/
def at3110 : List Obj :=
  [ptpEnable, ptpTransport, oneStep, notSlave, logSyncInterval, logDelayReqInterval, announceTimeout, asymmetry, ingressLatency, egressLatency, portState, stampOverflow, stampOverflowCount, policeRate, policedCount, meanPathDelay, ptpOffset]
/-- The objects of index 0x3200. -/
def at3200 : List Obj :=
  [frameOffset, airTick, airEra, sfn, hfn, deadlineReach]
/-- The objects of index 0x4000. -/
def at4000 : List Obj :=
  [laneSelect, laneMode, laneTxEq, lanePolarity, signalState, laneDebounce, lanePrbsConfig, lanePrbsBits, lanePrbsErrors, prbsClear, losCount, lolCount, recalInterval]
/-- The objects of index 0x4100. -/
def at4100 : List Obj :=
  [portSelect, portConfig, portEnable, macAddress, maxFrame, udpPort, portLinkState, fecCorrected, fecUncorrected, fecDegrade, portMalformed, unknownFlow, policeSelect, policeRate4100, policed, mgmtVlan, fwHamper, fwRingDrops]
/-- The objects of index 0x4140. -/
def at4140 : List Obj :=
  [flowSelect, flowMatch, flowMap, peerAddress, rxWindow, txWindow, rxShift, flowEnable, flowActivePort, sectionsAccepted, invalidCounts, seqGaps, txDiscarded]
/-- The objects of index 0x4180. -/
def at4180 : List Obj :=
  [macsecEnable, validate, confOffset, replayWindow, saSelect, saKey, rxSci, saNextPn, saEnable, txAn, pnThreshold, macsecDrops]
/-- The objects of index 0x4200. -/
def at4200 : List Obj :=
  [cpriRates, rateDwell, cpriState, cpriRate, fastCm, sampleWidth, t14]
/-- The objects of index 0x4300. -/
def at4300 : List Obj :=
  [groupMembers, aging, moveHold, flapLimit, pinTime, stormLimit, entries, learnFails, moves, movesRefused, staticEntry, spoofDrops]
/-- The objects of index 0x4400. -/
def at4400 : List Obj :=
  [radioSelect, nsEnable, nsVersions, nsState, nsAgreed, fallbackCfg, fallbackSlots, retryInterval, radioProfile, groupRb, shapingCfg, dlWidths, noiseSource, probeCfg, noiseTimeout, mapUnknown, ulBitsSaved]
/-- The objects of index 0x5000. -/
def at5000 : List Obj :=
  [mogilEnable, mogilGroups, alignMode, lockN, loseM, mogilVersions, agreedVersion, linkActive, rekeyPackets, peerIdentity, twinRole, standbyPartitions, takeover, takeovers, takeoverNow, retryTimeout, retryLimit, resumeTimeout, minLinkCells, degrade] ++
  [mogilDebounce, channelTimeout]
/-- The objects of index 0x5010. -/
def at5010 : List Obj :=
  [mogilSelect, groupState, mogilDefects, skew, epochTx, epochRx, packetsTx, packetsRx, resends, authFails, seqDrops, bipErrors, mogilPolarity, mogilTxEq, mogilPrbsConfig, mogilPrbsBits, mogilPrbsErrors]
/-- The objects of index 0x5020. -/
def at5020 : List Obj :=
  [channelSelect, channelMap]
/-- The objects of index 0x6000. -/
def at6000 : List Obj :=
  [liveSlugs, livePeak, liveImpressions, presses, pressRefused, pressSkipped, dispatches, completedOk, expiredCount, abortedCount, impressionsAborted, retries, retryRefused, lateDiscarded, lateCompletions, lateRunStarts, stalls, lastStall, slackEroded, watchdogFactor] ++
  [stallConfirm, stallAction, countClear, partitionSelect, pLive, pReady, pRunning, pArmed, badDecrements]
/-- The objects of index 0x6010. -/
def at6010 : List Obj :=
  [cellSelect, cellPartition, numerology, period, pressLead, slotSelect, slotFormes, cellEnable]
/-- The objects of index 0x6020. -/
def at6020 : List Obj :=
  [waitHist]
/-- The objects of index 0x6040. -/
def at6040 : List Obj :=
  [loadVx, loadCc, loadMe, loadTe, loadLd, loadLe, loadPl, loadTd, loadHq, loadFu, loadCu, loadDma]
/-- The objects of index 0x6100. -/
def at6100 : List Obj :=
  [formeSelect, formeImage, formeEnable, formePartition, maxLive, liveCount, slugCount, minMargin, pressed, lastImpression, templateFree]
/-- The objects of index 0x6200. -/
def at6200 : List Obj :=
  [hamperSelect, hamperConfig, hamperBase, hamperOwner, hamperEnable, freeNow, allocFails, badReleases, freeLow, lowWater]
/-- The objects of index 0x6300. -/
def at6300 : List Obj :=
  [countersInUse, counterPeak, shortFires, lateEvents, bindOutOfRange]
/-- The objects of index 0x7000. -/
def at7000 : List Obj :=
  [imageSelect, imageData, imageVersion, imageFmtMask, imageCaps, imageState, imageReason, coreSelect, coreImage, coreState, corePartition, lmsplit, slugsRun, vxEccCorrected, eccUncorrected, midVectorTraps, partitionClears, clearCycles, vxEccThreshold]
/-- The objects of index 0x7100. -/
def at7100 : List Obj :=
  [cpenReset, firstUseCp0, firstUseCp1, busyStallCycles, saveAreaBytes]
/-- The objects of index 0x8000. -/
def at8000 : List Obj :=
  [engineSelect, engineState, engineFmtMask, engineCaps, jobs, itemsDone, unitFaults, slugFaults, inputInvalid, saturatedItems, singularItems, engEccCorrected, crcFailed, busyCycles]
/-- The objects of index 0x8010. -/
def at8010 : List Obj :=
  [allocWait, engEccThreshold, pivotMin, ldOffset, tdExtScale]
/-- The objects of index 0x8200. -/
def at8200 : List Obj :=
  [fuSelect, fuState, streamsUl, searchLoad, collectWait, clippedSamples, occasionsLost, reportsDropped]
/-- The objects of index 0x8220. -/
def at8220 : List Obj :=
  [groupSelect, groupMap, changeMask, targetRms, peakLimit, attackMax, decayStep, gainCode, groupEnable]
/-- The objects of index 0x8240. -/
def at8240 : List Obj :=
  [rampCellSelect, rampUp, dlMask, rampDown, rampEnable, rcoMap]
/-- The objects of index 0x8280. -/
def at8280 : List Obj :=
  [contextSelect, contextGroup, ctxFormat, roots, freqOffset, schedule, threshold, triggerLevel, occasionFreeze, contextEnable, detections]
/-- The objects of index 0x8300. -/
def at8300 : List Obj :=
  [cuSelect, cuState, cuLanes, sectionsDecoded, sectionsEncoded, sectionsInvalid]
/-- The objects of index 0x9000. -/
def at9000 : List Obj :=
  [unmappedAccesses, bankSelect, ssBankState, ssCorrected, ssUncorrected, ssSpareThreshold, ssMap, spareNow, spareTestInterval, scrubLate, ssScrubPeriod]
/-- The objects of index 0x9010. -/
def at9010 : List Obj :=
  [hbmSelect, hbmCorrected, hbmUncorrected, hbmScrubPeriod, readsPeak, persistentSymbol]
/-- The objects of index 0x9020. -/
def at9020 : List Obj :=
  [cmSelect, cmCorrected, cmUncorrected, cmScrubPeriod]
/-- The objects of index 0x9030. -/
def at9030 : List Obj :=
  [routerSelect, linksDown, replays, reroutes, wakeTimeout, fabMalformed, wakes, lockedOffDrops, fencedDrops]
/-- The objects of index 0x9100. -/
def at9100 : List Obj :=
  [regionSelect, regionBase, regionSize, regionMode, metadataBase, quarantineOnFail, regionEnable, regionState, generation, rekeyNow, checkFailures, maxCounter, rekeys, blockedAccesses, heldWrites, rekeyThreshold, rekeyRate, protectedTotal, treeStoreUsed]
/-- The objects of index 0xA000. -/
def atA000 : List Obj :=
  [pcieLinkState, numVfs, npOutstanding, npPeak, tagsQuarantined, hostLateCompletions, cplTimeouts, cplErrors, flrs, cqWait]
/-- The objects of index 0xA010. -/
def atA010 : List Obj :=
  [qpSelect, qpOwner, sqBase, cqBase, qpSizes, qpEnable, qpState, sqHead, cqTail, doorbellErrors]
/-- The objects of index 0xA400. -/
def atA400 : List Obj :=
  [partState, partEnable, partPause, partReset, hostFunction, qpQuota, msixQuota, npQuota, windowSelect, windowReg, resetLimit, windowViolations, hostUnavailable, resets]
/-- The objects of index 0xB000. -/
def atB000 : List Obj :=
  [reserveSelect, reserveCount, reservesLeft, reserveUnits, retiredUnits, returnLimit, lockstepPairs, lockstepMismatches, recoveryState, wardenRestarts, wardenVotes, unitsReturned]
/-- The objects of index 0xB100. -/
def atB100 : List Obj :=
  [activitySelect, activityEnable, activityState, grants, maintQueue, waitAlarm, rekeyConcurrent, recalConcurrent, drillInterval, upgradeState, upgradeImage, upgradeRecovery, upgradeCommit, upgradeAbandon, upgradeLimit, entryImages]
/-- The objects of index 0xB200. -/
def atB200 : List Obj :=
  [alarmSelect, alarmEntry, activeAlarms, highestSeverity, nextSequence, recordsLost, entriesFull, alarmPinSeverity, traceBase, traceSize, traceSources, traceMode, traceHead, traceWrittenTraceDropped, traceGaps]
/-- The objects of index 0xC000. -/
def atC000 : List Obj :=
  [sigPolicy, keyRevoke, keySelect, keyDigest, rollbackSelect, rollbackCounter, debugForbid, debugState, debugFailures, anchorSelect, trustAnchor, deviceCert, bootMeasurement]
/-- The objects of index 0xD000. -/
def atD000 : List Obj :=
  [pinSelect, gpioConfig, gpioOut, gpioIn, gpioInValid, bankVoltage, pinBankState, pinFault, rcoFault, rcoReadback, rcoRetries, contentionEvents, straps]
/-- The objects of index 0xE000. -/
def atE000 : List Obj :=
  [faultLog, unitSelect, diagRun, diagResult, faults24h, spineQueueLost]

/-- The base index of the range an index lies in (Table 12-12). -/
def base (idx : Nat) : Nat :=
  if 0x3110 ≤ idx ∧ idx ≤ 0x3129 then 0x3110
  else if 0x6020 ≤ idx ∧ idx ≤ 0x602E then 0x6020
  else if 0xA400 ≤ idx ∧ idx ≤ 0xA7FF then 0xA400
  else idx

/-- The objects of a base index; none for an index Table 12-12 does not assign (R342, R368). -/
def ofIndex : Nat → Option (List Obj)
  | 0x1000 => some at1000
  | 0x1100 => some at1100
  | 0x2000 => some at2000
  | 0x2100 => some at2100
  | 0x3000 => some at3000
  | 0x3010 => some at3010
  | 0x3020 => some at3020
  | 0x3040 => some at3040
  | 0x3100 => some at3100
  | 0x3110 => some at3110
  | 0x3200 => some at3200
  | 0x4000 => some at4000
  | 0x4100 => some at4100
  | 0x4140 => some at4140
  | 0x4180 => some at4180
  | 0x4200 => some at4200
  | 0x4300 => some at4300
  | 0x4400 => some at4400
  | 0x5000 => some at5000
  | 0x5010 => some at5010
  | 0x5020 => some at5020
  | 0x6000 => some at6000
  | 0x6010 => some at6010
  | 0x6020 => some at6020
  | 0x6040 => some at6040
  | 0x6100 => some at6100
  | 0x6200 => some at6200
  | 0x6300 => some at6300
  | 0x7000 => some at7000
  | 0x7100 => some at7100
  | 0x8000 => some at8000
  | 0x8010 => some at8010
  | 0x8200 => some at8200
  | 0x8220 => some at8220
  | 0x8240 => some at8240
  | 0x8280 => some at8280
  | 0x8300 => some at8300
  | 0x9000 => some at9000
  | 0x9010 => some at9010
  | 0x9020 => some at9020
  | 0x9030 => some at9030
  | 0x9100 => some at9100
  | 0xA000 => some atA000
  | 0xA010 => some atA010
  | 0xA400 => some atA400
  | 0xB000 => some atB000
  | 0xB100 => some atB100
  | 0xB200 => some atB200
  | 0xC000 => some atC000
  | 0xD000 => some atD000
  | 0xE000 => some atE000
  | _ => none

end OD

end Sys2Proof.Machine
end

