-- ==== Sys2Proof/Machine/State.lean ====
section
/-!
DEFINITION. The state of the block as plain data: every register, queue, counter, mode and pin the
spec gives the ZNB9600, the reasons a step can stop, and the state after reset.

Every object of the dictionary (R342) has its home in `Dict`, under the key of its object constant
(Machine/Objects.lean), unless a typed field below holds it; then the dictionary read computes it
(Machine/Dictionary.lean).  Each field's default value here is its value after reset.
-/

namespace Sys2Proof.Machine

open Sys2Proof

/-- Reasons the machine stops with a fault.  No meaning of this model raises one: every command of
the table has an effect or, where the state it needs is absent, changes nothing. -/
inductive Fault where
  /-- Raised by no meaning; safe, since no run reaches it. -/
  | none
  deriving DecidableEq, Repr

/-- Reasons a command is refused a meaning. -/
inductive Refusal where
  /-- Raised by a dispatch arm whose command has no meaning yet; safe, since the run stops. -/
  | notModelled (mnemonic : String)
  deriving DecidableEq, Repr

/-! ## Modes -/

/-- Device modes of Table 13-1 (R369). -/
inductive Mode where
  | off | standby | boot | configure | run | degraded | upgrade | safe
  deriving DecidableEq, Repr

/-- Modes, boot and enable (chapter 13). -/
structure ModeSt where
  /-- The device mode (R369, OD 0x2000.01); reset STANDBY, the object's default 1. -/
  mode : Mode := .standby
  /-- The mode a transition in progress leads to (R373); reset none. -/
  target : Option Mode := none
  /-- A drain is running towards `target` (R375); reset FALSE. -/
  draining : Bool := false
  /-- Level of RESET_N (R371 rows 3 and 5); reset low, the reset that leads to this state. -/
  resetN : Bool := false
  /-- SAFE causes that stand: bit 0 OSC_IN, 1 Galley, 2 warden, 3 boot stage (R376); reset none. -/
  safeCauses : List Nat := []
  /-- Thermal shutdown holds the device in STANDBY until MODE_REQUEST 2 (R425); reset FALSE. -/
  thermalHold : Bool := false
  /-- Images of stages 3 and 4 written by the host (R374), by image class; reset none. -/
  hostImages : Tab Image := []
  /-- Timebase nanoseconds at which the drain began (STOP_DRAIN; R375) and the stage of BOOT (BOOT_HOST_WAIT; R374). -/
  drainAt : Nat := 0
  stageAt : Nat := 0
  deriving DecidableEq, Repr

/-! ## Dictionary -/

/-- Values of the dictionary's objects (R342, R15, R351). Keys are those of Machine/Objects.lean. -/
structure Dict where
  /-- Written values: what a read returns (R15); unlisted objects hold their defaults. -/
  val : Tab Int := []
  /-- Governing values of objects that do not take effect immediately (R15); unlisted: default. -/
  force : Tab Int := []
  /-- OCTETS, STRING and ARRAY values as bytes; unlisted: the empty or default value. -/
  oct : Tab (List Byte) := []
  /-- Governing octets values; unlisted: as after reset. -/
  octForce : Tab (List Byte) := []
  /-- Copies of the select objects, one per requester (R346), keyed by requester and object. -/
  selects : Tab Int := []
  /-- The two sealed copies of the dictionary store (R351): number values; reset none. -/
  storeA : Tab Int := []
  /-- Octets values of the sealed copy; reset none. -/
  storeOct : Tab (List Byte) := []
  /-- A STORE is being written: the requester that asked for it and its request identifier (R351); reset none. -/
  storing : Option (Requester × Nat) := none
  /-- The set of stored values that STORE writes; reset none. -/
  storeVal : Tab Int := []
  storeOctets : Tab (List Byte) := []
  deriving DecidableEq, Repr

/-! ## Time -/

/-- Servo states of Table 02-1 (R41). -/
inductive Servo where
  | freerun | acquiring | locked | holdover
  deriving DecidableEq, Repr

/-- An entry of a transmit time-stamp queue (Table 02-4). -/
structure Stamp where
  tag : BitVec 8
  discarded : Bool
  oneStep : Bool
  time : TB128
  deriving DecidableEq, Repr

/-- A message of the offset engine that waits for the other of its pair, by sequenceId (R58). -/
inductive PtpPend where
  /-- A two-step Sync: sequence, t2, correction, time since the Sync before, frequency offset. -/
  | sync (seq : Nat) (t2 corr : Int) (dtNs : Nat) (freq : Int)
  | followUp (seq : Nat) (t1 corr : Int)
  | delayReq (seq : Nat) (t3 : Int)
  | delayResp (seq : Nat) (t4 corr : Int)
  deriving DecidableEq, Repr

/-- A Sync that left a port (R56): its sequence, its egress, which is the originTimestamp filled in at egress in one-step,
and whether a Follow_Up with that time followed it. -/
structure SyncTx where
  port : Nat
  seq : Nat
  egress : TB128
  followUp : Bool
  deriving DecidableEq, Repr

/-- A message sent on TOD_OUT (R69): the second of the PPS_OUT0 edge it describes, its format and its rate code. -/
structure TodMsg where
  second : Nat
  format : Nat
  baud : Nat
  deriving DecidableEq, Repr

/-- What the offset engine keeps of one PTP port (R58). -/
structure PtpPort where
  /-- The state timing firmware's state machine holds for the port, an IEEE 1588-2019 portState value (R53, OD
  0x3110+p.0B): 8 UNCALIBRATED, 9 SLAVE; reset 1. -/
  state : Nat := 1
  /-- Messages that wait for the other of their pair, oldest first, and since when [ns]; reset none. -/
  pend : List (PtpPend × Nat) := []
  /-- Latest (t4 − t3 − corr_resp) of a paired Delay_Resp. -/
  respDelta : Option Int := none
  /-- Messages received in the current second (R54) and which second that is. -/
  second : Nat := 0
  count : Nat := 0
  /-- Unpaired messages discarded after 1 s (R58). -/
  unpaired : Nat := 0
  /-- When the last Announce arrived and when the port entered SLAVE or UNCALIBRATED [ns] (R47). -/
  announceAt : Nat := 0
  slaveAt : Nat := 0
  deriving DecidableEq, Repr

/-- The timebase, its servo, references and timing pins (chapter 02). -/
structure TimeSt where
  /-- Timebase in units of 2⁻⁴⁸ ns since the PTP epoch (R36, R37); reset 0, at TIME 0 (R52). -/
  tb : Nat := 0
  /-- Time since VIN rose in the units of `tb`, which no step and no slew moves: what timers run on; reset 0. -/
  run : Nat := 0
  /-- Rate word, 16.48 ns per 625 MHz cycle (R37); reset nominal, 0x0001_9999_9999_999A. -/
  rate : Nat := 0x00019999_9999999A
  /-- Servo state (R41, OD 0x3000.02); reset FREERUN. -/
  servo : Servo := .freerun
  /-- The servo has been LOCKED since power-up or reset (R41); reset FALSE. -/
  everLocked : Bool := false
  /-- Integrator in units of 2⁻²⁰·10⁻¹⁸ ppb (R40); reset 0. -/
  integ : Int := 0
  /-- Correction y in the units of `integ` (R40, R51); reset 0. -/
  y : Int := 0
  /-- Build-out b in units of 10⁻⁹/16 ns (R40, R43, R49); reset 0. -/
  buildOut : Int := 0
  /-- Consecutive measurements above the unlock threshold (R42); reset 0. -/
  unlockRun : Nat := 0
  /-- Rate word and correction held between measurements, with the time each held [ns], newest first (R42, R51); kept over
  65,535 s, the longest averaging window; reset none. -/
  hist : List (Nat × Nat × Int) := []
  /-- Time since LOCKED was last entered, by the measurements applied [ns] (R51); reset 0. -/
  lockedFor : Nat := 0
  /-- Time [ns] for which |e − b| has stayed within the lock threshold with b = 0 (R41); reset none. -/
  lockRun : Option Nat := none
  /-- The last 16 errors of each reference entry [1/16 ns], newest first (R49); reset none. -/
  errs : Tab (List Int) := []
  /-- The latest frequency offset against the selected SyncE lane [2⁻¹⁶ ppb] (R50, R51); reset none. -/
  freqOff : Option Int := none
  /-- The mean correction that HOLDOVER froze, in the units of `y` (R51); reset 0. -/
  heldY : Int := 0
  /-- OSC_IN is lost (R39); reset FALSE. -/
  oscLost : Bool := false
  /-- Timebase stopped: OSC_IN stopped in STANDBY (R422); reset FALSE. -/
  stopped : Bool := false
  /-- Entries 0–7 that are qualified (R47); reset none. -/
  qualified : List Nat := []
  /-- Selected phase entry (R48, OD 0x3000.18 [7:0]); reset none. -/
  phaseSel : Option Nat := none
  /-- Selected frequency entry (R48, OD 0x3000.18 [15:8]); reset none. -/
  freqSel : Option Nat := none
  /-- A requalified, higher-ranked entry that waits to be restored (R48); reset none. -/
  waiting : Option Nat := none
  /-- A higher-ranked frequency entry that waits to be restored (R48); reset none. -/
  waitingFreq : Option Nat := none
  /-- When each of them began to wait [ns] (R48); reset 0. -/
  waitAt : Nat := 0
  waitFreqAt : Nat := 0
  /-- When each entry was disqualified or written last, and when HOLDOVER was entered [ns] (R47, R51); reset none, 0. -/
  disqAt : Tab Nat := []
  holdoverAt : Nat := 0
  /-- First and last of the accepted edges of each PPS input that followed one another within 1.5 s [ns] (R47); reset none. -/
  ppsRun : Tab (Nat × Nat) := []
  /-- Entry selected last for phase (R49); reset none. -/
  lastPhase : Option Nat := none
  /-- Remaining difference to a TIME_SET target in the units of `tb` (R45); reset none. -/
  target : Option Int := none
  /-- A step waits for its token or its frame boundary (R43, R45); reset FALSE. -/
  stepWanted : Bool := false
  /-- The step token held has served its step (R43); reset FALSE. -/
  stepDone : Bool := false
  /-- Air count of the latest slot boundary of each cell, and of the latest 1 ms subframe boundary, for a write on the
  same air tick (R15); reset none. -/
  slotAt : Tab Int := []
  subAt : Option Int := none
  /-- Full air-tick count A as it stands (R71, R44); reset: what the formula gives for `tb` 0. -/
  air : Int := -(315964819 * 491520000)
  /-- Queues of PTP ports, oldest first (R60); reset empty. -/
  stampQ : Tab (List Stamp) := []
  /-- Offset-engine state of PTP ports (R58); reset empty. -/
  ptp : Tab PtpPort := []
  /-- Consecutive rejected edges per PPS input (R66); reset 0. -/
  ppsRejRun : Tab Nat := []
  /-- Whole second of the last accepted edge per PPS input (R67); reset none. -/
  ppsEdge : Tab Nat := []
  /-- Consecutive agreeing ToD disagreements: their difference in s and their count (R67). -/
  todRun : Option (Int × Nat) := none
  /-- ToD messages that disagreed with the timebase (R67); reset 0. -/
  todDisagree : Nat := 0
  /-- Level of PPS_OUT0 and PPS_OUT1 (R68); reset low. -/
  ppsHigh : List Nat := []
  /-- Level of CLK10M_OUT (R70); reset low. -/
  clk10m : Bool := false
  /-- Messages sent on TOD_OUT, newest last (R69); reset none. -/
  todSent : List TodMsg := []
  /-- Sync messages sent, newest last (R56); reset none. -/
  syncOut : List SyncTx := []
  /-- PTM enabled by the host (R76); reset FALSE. -/
  ptmOn : Bool := false
  /-- Egress time of the PTM Request outstanding, 1/16 ns (R76); reset none. -/
  ptmReq : Option Int := none
  /-- When the last PTM Request was sent [ns] (R76, R78); reset none. -/
  ptmAt : Option Nat := none
  /-- The last offsets, newest first, at most 8 (R77); reset empty. -/
  ptmOffsets : List Int := []
  /-- Consecutive good pairs (R78); reset 0. -/
  ptmGood : Nat := 0
  deriving DecidableEq, Repr

/-! ## Galley -/

/-- Slug states (Table 03-2). A handle without an entry is FREE; an entry in the state FREE is allocated by a press
whose impression is not yet released (R91, Table 03-6). -/
inductive SlugState where
  | free | waiting | ready | running | done
  deriving DecidableEq, Repr

/-- Slug results (Table 03-2). -/
inductive SlugResult where
  | ok | expired | fault | aborted | hostUnavailable | inputInvalid
  deriving DecidableEq, Repr

/-- Commit modes (R96). -/
inductive Commit where
  | staged | external | inPlace
  deriving DecidableEq, Repr

/-- Expiry policies (Table 03-2). -/
inductive Expiry where
  | skip | abortImpression | lateRun
  deriving DecidableEq, Repr

/-- A slug as the slug table holds it (Table 03-2), successors already turned into handles, and
what Galley keeps beside it. -/
structure Slug where
  /-- Bits [479:0] as the table holds them from press or submission on (R83). -/
  raw : Nat := 0
  kind : Nat
  cls : Nat
  prio : Nat
  commit : Commit
  part : Nat
  fmtVer : Nat
  forme : Nat
  imp : Nat
  /-- Low 32 bits of the absolute deadline. -/
  deadline : Nat
  est : Nat
  initDep : Nat
  caps : Nat
  affinity : Nat
  expiry : Expiry
  retryLimit : Nat
  succ : List Nat
  ovfPtr : Nat
  ovfCount : Nat
  /-- Overflow successors as handles, for a slug of a forme. -/
  ovf : List Nat
  arg0 : Nat
  arg1 : Nat
  arg2 : Nat
  /-- Argument values as delivered at the last dispatch (R84): none, or the resolved pointer. -/
  resolved : List (Option Nat) := []
  state : SlugState
  result : SlugResult := .ok
  attempt : Nat := 0
  taint : Bool := false
  depLive : Nat
  executor : Nat := 0
  /-- Submitted by firmware (R103). -/
  submitted : Bool := false
  /-- Ready-insertion count of its list (R99). -/
  seq : Nat := 0
  /-- Air count at READY, for the waiting time (R105). -/
  readyAt : Int := 0
  /-- Units excluded after their fault (R100). -/
  excluded : List Nat := []
  /-- Its impression was aborted while it ran (R101). -/
  abortPending : Bool := false
  /-- EMITTED of the current attempt, where the interface keeps it (R135, R222, R282, R327). -/
  emitted : Bool := false
  deriving DecidableEq, Repr

/-- A counter template in an image or an armed counter (Table 03-5). -/
structure Counter where
  source : Nat
  hold : Bool
  waiters : List Nat
  threshold : Nat
  /-- Absolute air count of FIRE_BY. -/
  fireBy : Int
  key : Nat
  imp : Nat
  part : Nat
  count : Nat := 0
  invalid : Bool := false
  armed : Bool := true
  /-- Buffers to bind when it fires: binding entry and handle (R243, R282). -/
  binds : List (Nat × Nat) := []
  deriving DecidableEq, Repr

/-- The live copy of a forme (R91). -/
structure Impression where
  forme : Nat
  part : Nat
  /-- Impression sequence, 20 bits. -/
  seq : Nat
  /-- Air count of the slot boundary. -/
  boundary : Int
  slugs : List Nat
  counters : List Nat
  bindings : Tab Nat := []
  bindCount : Nat
  released : Bool := false
  aborted : Bool := false
  slack : Nat
  lateHorizon : Nat
  /-- The cell whose slot pressed it (R90, R242). -/
  cell : Nat := 0
  deriving DecidableEq, Repr

/-- An enabled forme: its checked image (R87). -/
structure FormeOn where
  part : Nat
  bytes : List Byte
  slots : Nat
  deriving DecidableEq, Repr

/-- Unit states: OD CORE_STATE, ENGINE_STATE, FU_STATE, CU_STATE. -/
inductive UnitState where
  | off | idle | running | reserve | retired | halted
  deriving DecidableEq, Repr

/-- An executor unit as Galley and the recovery pair see it (R85, R99, R100, R436). -/
structure UnitSt where
  state : UnitState := .idle
  /-- Slug handle and attempt it holds. -/
  held : Option (Nat × Nat) := none
  fenced : Bool := false
  /-- Affinity bit it answers to when it replaced another unit (R85). -/
  aliasOf : Option Nat := none
  /-- Seconds at which it returned to service and at which it faulted (R436, FAULTS_24H). -/
  returns : List Nat := []
  faults : List Nat := []
  /-- Order in which units became idle (R99). -/
  idleSeq : Nat := 0
  /-- When it became idle [ns] (R419). -/
  idleAt : Nat := 0
  /-- Withdrawn under the power cap (R414). -/
  withdrawn : Bool := false
  /-- A self-test or diagnosis is running (R436): cause code of its fault. -/
  testing : Option Nat := none
  /-- When that test started [ns]. -/
  testAt : Nat := 0
  /-- Cause code of the last fault (FAULT_LOG). -/
  cause : Nat := 0
  /-- Busy share of the running 1 ms window [air ticks] (R105). -/
  busy : Nat := 0
  /-- Air count from which its slug counts as busy in the running window. -/
  since : Int := 0
  /-- Air count at which its slug was dispatched to it (R100). -/
  start : Int := 0
  deriving DecidableEq, Repr

/-- Dispatch window of a control core (R108). -/
structure CcWin where
  enable : Bool := false
  held : Option (Nat × Nat) := none
  emitted : Bool := false
  /-- The core's machine external interrupt, raised by the write of a slug into the window (R108). -/
  irq : Bool := false
  slug : List Nat := []
  doneCtl : BitVec 64 := 0#64
  doneBind : Tab (BitVec 64) := []
  deriving DecidableEq, Repr

/-- Stall detector of a partition (R104). -/
structure Stall where
  since : Option Int := none
  declared : Bool := false
  deriving DecidableEq, Repr

/-- Galley (chapter 03). -/
structure GalleySt where
  /-- Live slugs by handle; unlisted handles are FREE (R83); reset none. -/
  slugs : Tab Slug := []
  /-- Live impressions by their 20-bit sequence (R91); reset none. -/
  imps : Tab Impression := []
  /-- Allocated event counters 0–4,095 (R94); reset none. -/
  counters : Tab Counter := []
  /-- Enabled formes (R87); reset none. -/
  formes : Tab FormeOn := []
  /-- Next value of the impression sequence (R91); reset 1. -/
  nextSeq : Nat := 1
  /-- Ready-insertion counts of the 64 lists (R99); reset 0. -/
  readySeq : Tab Nat := []
  /-- Reserved handles not yet submitted (R103); reset none. -/
  reserved : List Nat := []
  /-- When each was reserved [ns], and the 1 ms window whose loads were published last (R105). -/
  reservedAt : Tab Nat := []
  loadWindow : Option Int := none
  /-- Executor units, keyed 256·class + unit (R17, R85). -/
  units : Tab UnitSt := []
  /-- Counter of idle events, for longest-idle-first (R99); reset 0. -/
  idleSeq : Nat := 0
  /-- Dispatch windows of CC0–CC7 (R108). -/
  ccWin : Tab CcWin := []
  /-- Stall detector per partition (R104); reset none. -/
  stalls : Tab Stall := []
  /-- Buffers of fenced attempts (R102): unit key, impression and buffers; reset none. -/
  fencedBufs : List (Nat × Nat × List Nat) := []
  /-- Cells whose CELL_ENABLE governs (R90); reset none. -/
  cellsOn : List Nat := []
  /-- Last slot number pressed, skipped or refused per cell, so that no boundary is pressed twice. -/
  lastPress : Tab Int := []
  /-- The executor units have been powered and tested (boot stage 6, R374); reset FALSE. -/
  unitsOn : Bool := false
  deriving DecidableEq, Repr

/-! ## VX cores -/

/-- Privilege levels of a VX core (R110). -/
inductive Priv where
  | u | s | m
  deriving DecidableEq, Repr

/-- A VX core's architectural state (R110–R135). -/
structure Core where
  /-- Program counter; reset 0: the image's entry point is set when it starts (R140). -/
  pc : BitVec 64 := 0#64
  /-- x1–x31; x0 is hard-wired; reset 0 (DESIGN CHOICE). -/
  x : Tab (BitVec 64) := []
  /-- Privilege level; reset M. -/
  priv : Priv := .m
  /-- Standard machine and supervisor CSRs by number, PMP among them; reset 0 (PRESUMED). -/
  csr : Tab (BitVec 64) := []
  /-- mcycle as last written or read, and minstret; reset 0 (PRESUMED). -/
  cycle : BitVec 64 := 0#64
  instret : BitVec 64 := 0#64
  /-- VCFG (Table 04-2); reset VILL. -/
  vcfg : BitVec 64 := 0x8000000000000000#64
  /-- VL 0–2,048; reset 0. -/
  vl : Nat := 0
  /-- VRI (R121); reset 0. -/
  vri : Nat := 0
  /-- VSTATUS (Table 04-4); reset 0. -/
  vstatus : BitVec 64 := 0#64
  svri : BitVec 64 := 0#64
  mvri : BitVec 64 := 0#64
  /-- CPEN (R127); reset CPEN_RESET, 0x0777. -/
  cpen : BitVec 64 := 0x777#64
  cpctx : BitVec 64 := 0#64
  cpown : BitVec 64 := 0#64
  /-- CPBUSY: bit n, CPn busy (R128); reset 0. -/
  cpbusy : BitVec 64 := 0#64
  doneCtl : BitVec 64 := 0#64
  doneBind : Tab (BitVec 64) := []
  ptag : BitVec 64 := 0#64
  slugstat : BitVec 64 := 0#64
  /-- SLUG0–7 (Table 04-4); reset 0. -/
  slug : Tab (BitVec 64) := []
  /-- Handle of the slug held; R135 takes it from the delivered slug. -/
  handle : Nat := 0
  /-- w0–w31 (2048 bits); zeroed at reset (R115). -/
  w : Tab (BitVec 2048) := []
  /-- p0–p7 (256 bits); zeroed at reset (R115). -/
  p : Tab (BitVec 256) := []
  /-- CP0: s0–s7 and SCTL (Table 04-7); zeroed at reset. -/
  cp0 : Tab (BitVec 128) := []
  sctl : BitVec 64 := 0#64
  /-- CP1: b0–b15 and BCTL; zeroed at reset. -/
  cp1 : Tab (BitVec 256) := []
  bctl : BitVec 64 := 0#64
  /-- CP2: f0–f15; zeroed at reset. -/
  cp2 : Tab (BitVec 2048) := []
  /-- NV to be set when a CP2 operation completes (R172). -/
  cp2nv : Bool := false
  /-- Lines of the scalar data cache (R119): address / 64 and the 64 bytes held; reset none. -/
  dcache : List (Nat × List Byte) := []
  /-- Dirty bits of the 2 KiB blocks of local memory (R134); reset 0. -/
  dirty : BitVec 64 := 0#64
  /-- Partition and context tag of the previous dispatch (R130, R134). -/
  lastPart : Option Nat := none
  lastTag : Nat := 0
  /-- The core executes vx.wfs with no slug held: it is idle (R133). -/
  waiting : Bool := false
  /-- Halted by a UNIT fault or by debug run control (R138, R396). -/
  halted : Bool := false
  /-- Image slot it runs (R140). -/
  image : Nat := 0
  deriving DecidableEq, Repr

/-- A VX image slot (R142). -/
structure ImageSlot where
  img : Option Image := none
  deriving DecidableEq, Repr

/-- The VX cores (chapters 04, 05). -/
structure VxSt where
  /-- VX0–VX95; unlisted: as after reset. -/
  cores : Tab Core := []
  /-- Image slots 0–15 (R140). -/
  slots : Tab ImageSlot := []
  deriving DecidableEq, Repr

/-! ## Engines and radio edge -/

/-- The job an engine, front unit, compression unit, DMA engine or interface runs (R174–R179). -/
structure Job where
  handle : Nat
  attempt : Nat
  /-- The 64 bytes of the descriptor. -/
  desc : Nat
  /-- Output buffers the mode needs, and those allocated, output 0 first. -/
  need : Nat
  outs : List Nat
  /-- Waiting for a buffer of the hamper (R178). -/
  waitAlloc : Bool
  /-- All items processed: result to report. -/
  ready : Option Nat
  /-- Items processed. -/
  items : Nat
  emitted : Bool := false
  /-- E of each item of an HQ job that ARG2 gives them (Table 06-9). -/
  es : List Nat := []
  /-- Air tick at which the wait for its buffers began (R178). -/
  since : Int := 0
  deriving DecidableEq, Repr

/-- A detection the search of an occasion yields (R214, Table 07-4). -/
structure Detection where
  preamble : Nat
  edge : Bool
  delay : Nat
  pnr : Nat
  power : Int
  noise : Int
  deriving DecidableEq, Repr

/-- A search occasion waiting in a ring (R215). -/
structure Occasion where
  sfn : Nat
  slot : Nat
  step : Bool
  clipped : Bool
  frozen : Bool
  dets : List Detection
  deriving DecidableEq, Repr

/-- A search context (R212–R217). -/
structure SearchCtx where
  ring : List Occasion := []
  lost : Nat := 0
  dropped : Nat := 0
  /-- Slot number of the occasion it triggered in (R210). -/
  trigAt : Option Int := none
  /-- Slot numbers of the occasions, not yet processed, that froze a change point of the group, and in which samples of the group clipped
  while frozen (R216). -/
  frozeAt : List Int := []
  clipAt : List Int := []
  /-- Slot number of the last occasion that was processed or lost. -/
  last : Int := 0
  deriving DecidableEq, Repr

/-- An antenna group (R206–R211). -/
structure AntGroup where
  /-- Gain code 0–255; reset 96 (R209). -/
  gain : Nat := 96
  /-- Windows of 64 samples measured since the last change point: flow, slot tick, symbol, window, sum of the
  squares and samples (R208); largest component since then (R209). -/
  wins : List (Nat × Nat × Nat × Nat × Nat × Nat) := []
  pk : Nat := 0
  /-- The last change point was frozen (R211). -/
  frozen : Bool := false
  /-- The latest change points, newest first: start of the symbol as an air count, code and freeze (R209, R211). -/
  hist : List (Int × Nat × Bool) := []
  /-- Front unit that carries it now (R207). -/
  fu : Nat := 0
  /-- Components clipped in the second `clipSec` (alarm 0x0708, Table 07-14). -/
  clips : Nat := 0
  clipSec : Nat := 0
  deriving DecidableEq, Repr

/-- Noise-shaped negotiation (Table 07-7). -/
inductive NsState where
  | off | offered | active | fallback
  deriving DecidableEq, Repr

/-- A power as the exact number num / den × 10^(e / 160): `e` counts 1/16 dB (R224). -/
structure Pow where
  num : Nat
  den : Nat
  e : Int
  deriving DecidableEq, Repr

/-- A width set: the uplink streams of one cell on a radio entry (R223–R227). -/
structure WidthSet where
  /-- Noise estimate per group, and the air count of the last probe or write; none: not valid (R224). -/
  noise : Tab Pow := []
  noiseAt : Option Int := none
  /-- Peak per group (R224), and the largest component powers of the slot being received. -/
  peak : Tab Pow := []
  slotPeak : Tab Nat := []
  /-- Probe of the slot being received: sum of |x|² and resource elements per group. -/
  probe : Tab (Nat × Nat) := []
  /-- Number of the slot being received. -/
  slot : Option Int := none
  /-- The last four maps sent with their sequences, newest first (R227). -/
  maps : List (Nat × List Nat) := []
  /-- Sequence of the next map. -/
  seq : Nat := 0
  deriving DecidableEq, Repr

/-- A radio compression entry (R223–R228). -/
structure Radio where
  ns : NsState := .off
  /-- Version in ACTIVE. -/
  agreed : Nat := 0
  /-- Air count at which ACTIVE was left for FALLBACK: downlink follows at the next slot (R228). -/
  fellAt : Option Int := none
  /-- Air count at which the present state was entered (RETRY_INTERVAL). -/
  since : Int := 0
  /-- Consecutive uplink slots that arrived in the fallback method, and the tick of the last one (R228). -/
  fbRun : Nat := 0
  fbTick : Option Nat := none
  /-- Width sets by cell. -/
  sets : Tab WidthSet := []
  deriving DecidableEq, Repr

/-- Signal engines, front units, compression units (chapters 06, 07). -/
structure EdgeSt where
  /-- Jobs of units, keyed 256·class + unit. -/
  jobs : Tab Job := []
  /-- Chirp lengths cached per TE, latest first, at most 4 (R185). -/
  czt : Tab (List Nat) := []
  groups : Tab AntGroup := []
  /-- Antenna groups enabled, search contexts enabled, ramps enabled. -/
  groupsOn : List Nat := []
  ctxOn : List Nat := []
  rampsOn : List Nat := []
  ctx : Tab SearchCtx := []
  radios : Tab Radio := []
  /-- Lane pair (0–11) served by each compression unit (R222, R435); reset identity. -/
  cuPair : Tab Nat := []
  /-- Groups waiting to be moved from a faulted front unit (R207). -/
  moving : List Nat := []
  /-- Levels of RCO0–RCO7: asserted ones (R219). -/
  rcoOn : List Nat := []
  /-- First symbol sent by a cell since its transmit path was reset: slot number × symbols of a slot + symbol (R220). -/
  rampFrom : Tab Int := []
  deriving DecidableEq, Repr

/-! ## Fronthaul -/

/-- Stages of a search (R257). -/
inductive Search where
  | none | debounce | running | finished
  deriving DecidableEq, Repr

/-- A line lane (R231, R256–R258). -/
structure Lane where
  signal : Bool := false
  lock : Bool := false
  blockLock : Bool := false
  prbsLock : Bool := false
  search : Search := .none
  recals : Nat := 0
  /-- Timebase nanoseconds at which signal was last seen to return (SIGNAL_DEBOUNCE), and seconds of the last recalibration
  (RECAL_INTERVAL). -/
  signalAt : Nat := 0
  recalAt : Nat := 0
  /-- Since when it has been in lock [ns] (R47). -/
  lockAt : Nat := 0
  deriving DecidableEq, Repr

/-- The width-map section extension of the Garvor profile (R227): extension type, version, sequence, and the width code of each
group. -/
structure WidthExt where
  extType : Nat
  version : Nat
  seq : Nat
  codes : List Nat
  deriving DecidableEq, Repr

/-- A downlink U-plane section sent (R221, R226): its symbol and resource blocks, method and width of its udCompHdr, its map
extension and its payload. -/
structure DlSection where
  symbol : Nat
  startPrb : Nat
  numPrb : Nat
  method : Nat
  width : Nat
  ext : Option WidthExt
  payload : List Byte
  deriving DecidableEq, Repr

/-- A frame waiting for transmission (R236, R240). -/
structure TxFrame where
  flow : Option Nat
  handle : Option Nat
  stamp : Option (BitVec 8)
  event : Bool
  length : Nat
  /-- Early and late edge of its window as air counts (R240); none for forwarded and firmware frames. -/
  window : Option (Int × Int) := none
  /-- C-plane sections it requests: slot tick, symbol, section, start PRB, PRBs. -/
  cplane : List (Nat × Nat × Nat × Nat × Nat) := []
  /-- The sequence of the PTP Sync it carries (R56). -/
  sync : Option Nat := none
  /-- The extension of an uplink C-plane message (R225), and the sections it asks for uncompressed at 16 bits (R224). -/
  ext : Option WidthExt := none
  plain : List Nat := []
  /-- The sections of a downlink U-plane message. -/
  data : List DlSection := []
  deriving DecidableEq, Repr

/-- A firmware receive descriptor (Table 08-5). -/
structure FwDesc where
  buffer : Nat
  length : Nat
  cls : Nat
  secured : Bool
  port : Nat
  stamp : TB128
  deriving DecidableEq, Repr

/-- A transmit or receive SA (R248). -/
structure Sa where
  key : List Byte
  deriving DecidableEq, Repr

/-- A fronthaul port (chapter 08). -/
structure Port where
  /-- Defects of rows 1–6 present, bit k − 1 for row k (R256). -/
  defects : BitVec 6 := 0#6
  /-- Search finished and no defect of rows 1–4: the port is up. -/
  up : Bool := false
  /-- Transmit queues 0–3, oldest first (R236). -/
  txq : Tab (List TxFrame) := []
  /-- Firmware ring, oldest first, 512 entries (R244). -/
  fwRing : List FwDesc := []
  /-- Installed SAs keyed by SA_SELECT (R248). -/
  sas : Tab Sa := []
  /-- CPRI state A–F as 0–5 (R255) and the index of the rate tried. -/
  cpriState : Nat := 0
  cpriRate : Nat := 0
  /-- Timebase nanoseconds at which the rate tried was taken up (RATE_DWELL). -/
  rateAt : Nat := 0
  /-- Remote fault is sent: a local fault stands (R234). -/
  remoteFault : Bool := false
  /-- Token buckets by class: bits × 1,000 used of the burst, and the nanosecond they were last brought up to date (R245). -/
  buckets : Tab (Nat × Nat) := []
  deriving DecidableEq, Repr

/-- A flow at run time (R237–R243). -/
structure Flow where
  active : Option Nat := none
  seqId : Option Nat := none
  /-- C-plane sections sent: slot tick, symbol, section, start PRB, PRBs (Table 08-4 check 6). -/
  cplane : List (Nat × Nat × Nat × Nat × Nat) := []
  /-- Received PRBs per flow-symbol: slot tick, symbol, start, count. -/
  got : List (Nat × Nat × Nat × Nat) := []
  /-- Flow-symbols that have yielded their event. -/
  evented : List (Nat × Nat) := []
  /-- Components saturated in the conversion to CI16 (R243). -/
  saturated : Nat := 0
  deriving DecidableEq, Repr

/-- A buffer being filled for an event group and symbol (R243). -/
structure Fill where
  group : Nat
  cell : Nat
  slotTick : Nat
  symbol : Nat
  /-- None where the hamper had no free buffer: the group's sections for the symbol are dropped. -/
  handle : Option Nat
  deriving DecidableEq, Repr

/-- A forwarding entry (R252). -/
structure Fdb where
  vid : Nat
  mac : BitVec 48
  port : Nat
  isStatic : Bool
  pinned : Bool
  /-- Times of its move requests since the flap count was last cleared, newest first [µs]. -/
  flaps : List Nat
  /-- Time of creation or of the last move, and of the last refresh [µs]. -/
  moved : Nat
  seen : Nat
  /-- Time at which it was pinned [µs] (PIN_TIME). -/
  pinnedAt : Nat := 0
  deriving DecidableEq, Repr

/-- Fronthaul ports (chapter 08). -/
structure FrontSt where
  lanes : Tab Lane := []
  ports : Tab Port := []
  /-- Ports, flows and MACsec instances whose enable governs. -/
  portsOn : List Nat := []
  flowsOn : List Nat := []
  macsecOn : List Nat := []
  flows : Tab Flow := []
  fills : List Fill := []
  fdb : List Fdb := []
  storm : Bool := false
  /-- Times of the latest moves, newest first [µs], and move requests since the last full second (R253). -/
  moveTimes : List Nat := []
  moveReqs : Nat := 0
  /-- Time at which the second being counted began [µs] (R253). -/
  stormAt : Nat := 0
  /-- Frames the device sent on its ports, newest last: port and frame (output). -/
  sent : List (Nat × TxFrame) := []
  deriving DecidableEq, Repr

/-! ## Mogil -/

/-- Group states of Table 09-6 (R268). -/
inductive GroupState where
  | off | training | negotiating | securing | active | hold
  deriving DecidableEq, Repr

/-- Alignment of one lane (R266). -/
structure MogLane where
  inFrame : Bool := false
  good : Nat := 0
  bad : Nat := 0
  inMulti : Bool := false
  mgood : Nat := 0
  mbad : Nat := 0
  frame : Nat := 0
  mfn : Nat := 0
  signal : Bool := false
  lock : Bool := false
  /-- Marker position of its aligned row after deskew (R267). -/
  pos : Option Nat := none
  deriving DecidableEq, Repr

/-- A packet kept in the retry buffer (R273). -/
structure Sent where
  counter : Nat
  epoch : Nat
  vc : Nat
  cells : Nat
  pkt : FabPacket
  handle : Option Nat
  resends : Nat
  /-- Its resend is due and waits for credit (R273, R274). -/
  due : Bool := false
  deriving DecidableEq, Repr

/-- A link cell sent (Table 09-5): group, message, credits, ACK, counter, epoch, and body as a number. -/
structure CellTx where
  grp : Nat
  msg : Nat
  credits : List Nat
  ack : Nat
  lcCounter : Nat
  epoch : Nat
  body : Nat
  deriving DecidableEq, Repr

/-- A channel being received (R282): its buffer, none once the transfer is rejected, and the bytes written. -/
structure ChanRx where
  buf : Option Nat
  got : Nat
  deriving DecidableEq, Repr

/-- A Mogil group (chapter 09). -/
structure Group where
  state : GroupState := .off
  defects : BitVec 8 := 0#8
  lanes : Tab MogLane := []
  search : Search := .none
  rdiRun : Nat := 0
  agreed : Option Nat := none
  /-- The versions offered to and by the peer (R279). -/
  offMin : Nat := 0
  offMax : Nat := 0
  peerMin : Nat := 0
  peerMax : Nat := 0
  /-- Current epochs; 0 before the session. -/
  epochTx : Nat := 0
  epochRx : Nat := 0
  /-- Packets sent under the current epoch (R277). -/
  epochPkts : Nat := 0
  /-- Counter of the next packet; last counter accepted plus 1; link-cell counters. -/
  nextTx : Nat := 0
  nextRx : Nat := 0
  lcTx : Nat := 0
  lcRx : Nat := 0
  /-- A NAK was sent for the expected counter (R272). -/
  nakSent : Bool := false
  /-- A NAK or an ACK is due (R275). -/
  nakDue : Bool := false
  ackDue : Bool := false
  /-- Retry buffer, oldest first. -/
  retry : List Sent := []
  acked : Nat := 0
  /-- Cells sent and cells returned by the peer per VC, modulo 4,096 (R274). -/
  sentCells : Tab Nat := []
  retCells : Tab Nat := []
  /-- Cells this package removed per VC (R274). -/
  takenCells : Tab Nat := []
  /-- Times of the latest authentication failures, newest first, at most 16 [ns] (R278). -/
  authTimes : List Nat := []
  /-- Times the key exchange was sent again, fragments received and their data (R394). -/
  kexTries : Nat := 0
  kexRunning : Bool := false
  kexFrags : Tab (List Byte) := []
  secured : Bool := false
  /-- ACTIVE under a session that a new key exchange replaces (R277). -/
  old : Bool := false
  /-- Waiting for LAST_ACCEPTED from the peer (R280). -/
  resuming : Bool := false
  /-- Timebase nanoseconds at which HOLD was entered (R268), signal last returned (R270), ACK last advanced or packets were last sent
  again (RETRY_TIMEOUT), and the wait for LAST_ACCEPTED began (RESUME_TIMEOUT). -/
  holdAt : Nat := 0
  signalAt : Nat := 0
  ackAt : Nat := 0
  resumeAt : Nat := 0
  prbsLock : Bool := false
  deriving DecidableEq, Repr

/-- The Mogil link (chapter 09). -/
structure MogilSt where
  on : Bool := false
  groups : Tab Group := []
  /-- Session established (R276). -/
  session : Bool := false
  /-- Peer-health input reads healthy (R283). -/
  peerHealthy : Bool := true
  /-- Timebase nanoseconds since which an enabled link has been inactive (R283). -/
  downAt : Option Nat := none
  /-- Timebase nanoseconds at which the key exchange was last sent whole (R394). -/
  kexAt : Nat := 0
  /-- Channels being received, and the time at which a slug's channel send was handed over, by slug handle [ns] (R282). -/
  chanRx : Tab ChanRx := []
  chanSent : Tab Nat := []
  /-- A takeover has moved the standby's partitions to ENABLED (R283). -/
  taken : Bool := false
  /-- Packets that wait for a group to start them, oldest first (R273, R274). -/
  waitq : List FabPacket := []
  /-- Packets handed to the peer, newest last (output): group and packet. -/
  out : List (Nat × FabPacket) := []
  /-- Link cells sent, newest last (output). -/
  cells : List CellTx := []
  deriving DecidableEq, Repr

/-! ## Fabric and memory -/

/-- Domain states of Table 15-5 (R418). -/
inductive DomState where
  | off | on | sleep | lockedOff
  deriving DecidableEq, Repr

/-- A power domain and the packets its edge router holds (R299, R300). -/
structure Domain where
  state : DomState := .off
  held : List FabPacket := []
  waking : Bool := false
  wakes : Nat := 0
  /-- Timebase nanoseconds at which its wake was requested (R299). -/
  wakeAt : Nat := 0
  /-- When a memory bank was last accessed, or a domain last came up [ns] (R419). -/
  usedAt : Nat := 0
  deriving DecidableEq, Repr

/-- Bank states of OD 0x9000.03. -/
inductive BankState where
  | active | spare | copying | retired | underTest
  deriving DecidableEq, Repr

/-- A slot-store bank (R302–R307). -/
structure Bank where
  state : BankState := .active
  /-- Times of the latest corrections by symbol, newest first, at most 16; times of corrected words of
  the last second [ns]. -/
  bySymbol : Tab (List Nat) := []
  perSec : List Nat := []
  /-- One copy of the control path is shut off (R303). -/
  pathOff : Bool := false
  deriving DecidableEq, Repr

/-- To whom a buffer is charged (R314). -/
inductive Charge where
  | attempt (handle att : Nat)
  | unit (kind : ReqKind) (n : Nat)
  | bound
  deriving DecidableEq, Repr

/-- An enabled hamper (R313–R316): values in force, free buffers and charges. -/
structure Hamper where
  memCode : Nat
  cluster : Nat
  size : Nat
  count : Nat
  base : Nat
  owner : Nat
  /-- Buffers below `fresh` have been given out at least once; those above are free and older. -/
  fresh : Nat
  /-- Freed buffers, oldest first. -/
  freed : List Nat
  /-- Charge of each buffer in use. -/
  inUse : Tab Charge
  /-- Sealed buffers (R315). -/
  sealedB : List Nat
  deriving DecidableEq, Repr

/-- Fabric, memories and hampers (chapter 10). -/
structure FabSt where
  domains : Tab Domain := []
  /-- Trunk links down, by both ends: 64·router + trunk port (R296). -/
  linksDown : List Nat := []
  /-- Links whose routes revert at the next subframe boundary (R296). -/
  linksBack : List Nat := []
  banks : Tab Bank := []
  /-- Physical bank of each logical bank (R30); unlisted: the identity. -/
  bankMap : Tab Nat := []
  /-- Faulty bank being copied, and the bank whose requests are forwarded (R304, R305). -/
  copying : Option Nat := none
  forwarding : Option Nat := none
  /-- Timebase nanoseconds at which the copy and the forwarding began (R304, R305), and at which the interval of the spare-bank
  self-test last began (R307). -/
  copyAt : Nat := 0
  forwardAt : Nat := 0
  testAt : Nat := 0
  /-- Times of the replays of a trunk link in the last microsecond, by 64·router + link (R296). -/
  replayAt : Tab (List Nat) := []
  /-- 64-byte words that hold the poison syndrome (R306), by address / 64. -/
  poison : List Nat := []
  hampers : Tab Hamper := []
  /-- Next scrub address per instance (R312). -/
  scrubAt : Tab Nat := []
  /-- Start of the running scrub pass per instance [ns] (R312). -/
  scrubStart : Tab Nat := []
  /-- Times of the last corrections per stack, pair and symbol, newest first, at most 256 (R310). -/
  hbmSymbol : Tab (List Nat) := []
  /-- Refreshes performed per stack (R311). -/
  refreshes : Tab Nat := []
  /-- Messages sunk by units, newest last (R292 MSG, RDATA, ACK, ERR): the block's deliveries. -/
  delivered : List FabPacket := []
  /-- Plain device registers (R34), by address. -/
  regs : Tab (BitVec 64) := []
  deriving DecidableEq, Repr

/-! ## Replies -/

/-- A refused request or check: its reason code (R385), the address of the object that failed and the
detail word (R360). -/
structure Fail where
  reason : Nat
  addr : Option Addr := none
  detail : Nat := 0xFFFFFFFF
  deriving DecidableEq, Repr

/-- The answer to the last request: reason code (R385), failing address and detail (R360), and the
data a read returned. -/
structure Reply where
  reason : Nat := 0
  addr : Option Addr := none
  detail : Nat := 0
  interim : Bool := false
  data : List Byte := []
  /-- The completion a fabric request was answered with: RDATA, ACK or ERR (Table 10-4). -/
  fab : Option FabCmd := none
  status : Nat := 0
  deriving DecidableEq, Repr

/-- What the reply of an accepted request waits for: the bits of a fuse write (R388) or the zero-filling of a
region (R403). -/
inductive Wait where
  | fuse (item : FuseItem) (inst v : Nat)
  | region (n : Nat)
  deriving DecidableEq, Repr

/-! ## Host -/

/-- A PCIe function (R322–R334). -/
structure Fn where
  mse : Bool := false
  bme : Bool := false
  inFlr : Bool := false
  msixOn : Bool := false
  ats : Bool := false
  /-- Masked vectors and pending bits; reset: every vector masked, none pending. -/
  unmasked : List Nat := []
  pending : List Nat := []
  /-- Messages sent, newest last: vectors. -/
  sent : List Nat := []
  /-- Mailbox (Table 12-7): SEQ and, with IRQ set, VECTOR of the request that runs, and what its reply waits for; DONE
  with its SEQ; the reply at 0x800. -/
  mbRunning : Option (Nat × Option Nat) := none
  mbWait : List Wait := []
  mbDone : Bool := false
  mbSeq : Nat := 0
  mbReply : Reply := {}
  /-- AER errors logged (R331). -/
  aer : Nat := 0
  deriving DecidableEq, Repr

/-- Queue-pair states of OD 0xA010.07. -/
inductive QpState where
  | disabled | enabled | error
  deriving DecidableEq, Repr

/-- A queue pair (R325–R328). -/
structure Qp where
  state : QpState := .disabled
  part : Nat := 0
  localIdx : Nat := 0
  sqBase : Nat := 0
  cqBase : Nat := 0
  sqLog : Nat := 4
  cqLog : Nat := 4
  vector : Nat := 0
  sqHead : Nat := 0
  sqTail : Nat := 0
  cqTail : Nat := 0
  cqHead : Nat := 0
  phase : Bool := true
  deriving DecidableEq, Repr

/-- A read of host memory: function, partition and slug it serves, host address, length, and where in output
0 its data go (R327, R330). -/
structure HReq where
  fn : Nat
  part : Nat
  handle : Nat
  addr : Nat
  len : Nat
  off : Nat
  deriving DecidableEq, Repr

/-- A tag in use or in quarantine (R330, R334). -/
structure HTag where
  /-- The request, with what of it is still to arrive. -/
  req : HReq
  /-- The HOST slug has ended: completions are discarded. -/
  dead : Bool := false
  /-- Bus Master Enable was cleared or the function reset since: a completion counts as late (R333). -/
  late : Bool := false
  quarantined : Bool := false
  /-- The function was reset since the request was made: no AER entry (R331). -/
  wasReset : Bool := false
  /-- Timebase nanoseconds at which the request was sent, and its function reset (R331, R334). -/
  sentAt : Nat := 0
  resetAt : Nat := 0
  deriving DecidableEq, Repr

/-- A memory write the device sends to the host, newest last (output). -/
structure HostWrite where
  fn : Nat
  addr : Nat
  bytes : List Byte
  deriving DecidableEq, Repr

/-- The host interface (chapter 11). -/
structure HostSt where
  rate : Nat := 0
  width : Nat := 0
  vfEnable : Bool := false
  numVfs : Nat := 0
  /-- Completion Timeout Value of PF0's Device Control 2 (R331). -/
  cplTimeout : Nat := 0
  fns : Tab Fn := []
  qps : Tab Qp := []
  tags : Tab HTag := []
  /-- Translations held, newest first: 2⁵²·fn + page (R332). -/
  atc : List Nat := []
  writes : List HostWrite := []
  /-- DELIVER slugs waiting for room in their completion ring (R328). -/
  cqWaiting : List Nat := []
  /-- Timebase nanoseconds since which each of them waits (CQ_WAIT). -/
  cqAt : Tab Nat := []
  /-- Requests held for a tag or a quota, oldest first (R330). -/
  heldReqs : List HReq := []
  /-- Invalidations that wait for requests using the translation (R332): 2⁵²·fn + page. -/
  invals : List Nat := []
  deriving DecidableEq, Repr

/-! ## Partitions -/

/-- Partition states (Table 13-6). -/
inductive PartState where
  | absent | configured | enabled | paused | resetting | faulted
  deriving DecidableEq, Repr

/-- A partition (R335–R339). -/
structure Part where
  state : PartState := .absent
  /-- PART_PAUSE value that takes effect at the next slot (R378). -/
  pauseNext : Option Bool := none
  /-- Impressions closing after PART_ENABLE FALSE (R378). -/
  closing : Bool := false
  /-- Timebase nanoseconds at which its reset and its closing began (RESET_LIMIT; R339, R378). -/
  resetAt : Nat := 0
  closeAt : Nat := 0
  deriving DecidableEq, Repr

/-! ## Pothiquin -/

/-- A telemetry stream (R361): period [ms], entries, count of its records, records dropped since the last one sent. -/
structure Stream where
  period : Nat
  entries : List Addr
  next : Nat := 0
  dropped : Nat := 0
  /-- Timebase nanoseconds at which its next record falls due (R361). -/
  dueAt : Nat := 0
  deriving DecidableEq, Repr

/-- A segmented write in progress (R359): the object and the item selected at offset 0, the total and the data so
far. -/
structure Transfer where
  addr : Addr
  item : Nat
  total : Nat
  data : List Byte
  /-- Timebase nanoseconds of its latest segment (R359). -/
  lastAt : Nat := 0
  deriving DecidableEq, Repr

/-- What a session or a function mailbox holds of segmented transfers (R359). -/
structure Segments where
  /-- Snapshots being read, by address and item. -/
  reads : List (Addr × Nat × List Byte) := []
  writes : List Transfer := []
  /-- Timebase nanoseconds of the latest segment of each snapshot, by address and item (R359). -/
  readAt : List (Addr × Nat × Nat) := []
  deriving DecidableEq, Repr

/-- A Pothiquin session (R354–R362). -/
structure Session where
  path : Nat
  role : Nat
  part : Nat
  /-- Agreed version; none before HELLO. -/
  version : Option Nat := none
  /-- Replies to the last request identifiers, latest first, at most 32, and what an interim one waits for (R358). -/
  cache : List (Nat × Reply × List Wait) := []
  streams : Tab Stream := []
  segs : Segments := {}
  /-- Sequences sent and not acknowledged, GAP records among them (R362). -/
  unacked : List Nat := []
  /-- GAP records sent and not acknowledged, by SEQUENCE: first missing, count and time (R453). -/
  gaps : Tab (Nat × Nat × Nat) := []
  /-- Displaced sequences due to it that no GAP has named (R453), ascending. -/
  missing : List Nat := []
  /-- First sequence not sent to it yet (R362). -/
  nextAlarm : Nat := 1
  /-- The SUMMARY record not sent yet (R454). -/
  summary : Option (List Byte) := none
  /-- Timebase nanoseconds of its last valid record (SESSION_IDLE; R355), and at which each unacknowledged record was last sent
  (R362). -/
  lastAt : Nat := 0
  sentAt : Tab Nat := []
  deriving DecidableEq, Repr

/-- Management communication (chapter 12). -/
structure PotSt where
  sessions : Tab Session := []
  /-- Segmented transfers of the function mailboxes (R363); reset none. -/
  boxes : Tab Segments := []
  /-- Handshake starts per path: second of the timebase and their number in it (R355); reset none. -/
  starts : Tab (Nat × Nat) := []
  /-- Handshakes in progress by path, answered with a cookie (R354); reset none. -/
  pending : List Nat := []
  /-- Object pointer of the SMBus port (R364); reset none. -/
  smbPtr : Option Addr := none
  /-- Paths on which Pothiquin runs: 0 MP0, 1 MP1, 2 management VLAN (R366); reset all. -/
  mpOn : List Nat := [0, 1, 2]
  deriving DecidableEq, Repr

/-! ## Security -/

/-- Region states of OD 0x9100.08. -/
inductive RegionState where
  | disabled | initialising | active | rekeying | quarantined
  deriving DecidableEq, Repr

/-- A memory region (R397–R406). -/
structure Region where
  state : RegionState := .disabled
  base : Nat := 0
  pages : Nat := 0
  isProtected : Bool := true
  metaBase : Nat := 0
  generation : Nat := 0
  /-- Line counters by line index, block versions by block index. -/
  lineCtr : Tab Nat := []
  version : Tab Nat := []
  /-- The key of the current generation, and of the previous one while a re-key runs (R398, R404): three 256-bit keys. -/
  key : Option Nat := none
  prevKey : Option Nat := none
  /-- GENERATION of the counter blocks (Table 14-4), 1 where none is listed. -/
  blockGen : Tab Nat := []
  /-- Line MACs and BLOCK_MACs written since the initialisation (R399). -/
  lineMac : Tab Nat := []
  blockMac : Tab Nat := []
  /-- The block being re-keyed with its version at step 1 of R405, and when step 1 began [ns]. -/
  work : Option (Nat × Nat) := none
  workAt : Nat := 0
  /-- Writes held at the counter limit: their packets (R406). -/
  held : List FabPacket := []
  deriving DecidableEq, Repr

/-- Debug access (R395, R396). -/
structure Debug where
  mask : Option Nat := none
  nonce : Option Nat := none
  /-- The mask the standing challenge carries. -/
  chalMask : Nat := 0
  granted : BitVec 4 := 0#4
  failRun : Nat := 0
  lockout : Bool := false
  /-- When the lockout began [ns]. -/
  lockAt : Nat := 0
  /-- TAP status register: reason of the last response. -/
  status : Nat := 0
  haltedRecovery : Bool := false
  /-- Control cores halted by run control (Table 14-3 bit 1). -/
  ccHalted : List Nat := []
  deriving DecidableEq, Repr

/-- Security (chapter 14). -/
structure SecSt where
  regions : Tab Region := []
  dbg : Debug := {}
  /-- A fuse write being blown: item, instance, value, its reply still pending (R388). -/
  fuse : Option (FuseItem × Nat × Nat) := none
  /-- Blown fuses (R387): SIG_POLICY, KEY_REVOKE, rollback counters, DEBUG_FORBID. -/
  sigPolicy : BitVec 2 := 1#2
  keyRevoke : BitVec 8 := 0#8
  rollback : Tab Nat := []
  debugForbid : BitVec 4 := 0#4
  /-- Images running: class 0–2 (R391); no entry of class 0 while the Basecamp image built into the ROM runs. -/
  running : Tab Image := []
  deriving DecidableEq, Repr

/-! ## Power -/

/-- Power, clocks and thermal (chapter 15). -/
structure PowerSt where
  /-- VIN cap in force and lowest cap of the rise hold [0.1 W] (R410); reset 290 W. -/
  vinCap : Nat := 2900
  /-- VIN of the last 100 µs as (ns, 10 mV), newest first, and the caps computed during VIN_RISE_HOLD (R410). -/
  vinWin : List (Nat × Nat) := []
  capWin : List (Nat × Nat) := []
  thermalCap : Nat := 2900
  powerNow : Nat := 0
  /-- 10 µs averages below cap − headroom in a row (R412). -/
  below : Nat := 0
  /-- 10 µs averages above the cap in a row at k = 16 (R414). -/
  above : Nat := 0
  /-- Units withdrawn, newest first (R414), by unit key. -/
  withdrawn : List Nat := []
  /-- Phases lost per rail (R417). -/
  phasesLost : Tab Nat := []
  /-- The input current limit was reached and k has not returned to 0 (R413). -/
  currentLimited : Bool := false
  /-- Package energy since BOOT [µJ]. -/
  energyUj : Nat := 0
  /-- Droop sensors whose islands are stretched, since when [ns], and the stretches of the last second as (end, length)
  (R420). -/
  stretched : List Nat := []
  stretchFrom : Tab Nat := []
  stretchLog : Tab (List (Nat × Nat)) := []
  /-- When a VCORE target last moved [ns] (R416). -/
  vcoreAt : Tab Nat := []
  /-- When the thermal cap was last stepped [ns], and whether it was falling (R424). -/
  thermalAt : Option Nat := none
  falling : Bool := false
  /-- Sensors excluded (R423). -/
  excluded : List Nat := []
  tj : Int := 0
  hbmTemp : Tab Int := []
  /-- Rails out of regulation (R417). -/
  railsOut : List Nat := []
  pgOut : Bool := false
  railsOn : List Nat := []
  deriving DecidableEq, Repr

/-! ## Resilience and maintenance -/

/-- A maintenance activity's instance (Table 16-3). -/
structure Act where
  code : Nat
  inst : Nat
  deriving DecidableEq, Repr

/-- States of the recovery pair (OD 0xB000.09). -/
inductive Recovery where
  | off | running | restarting
  deriving DecidableEq, Repr

/-- A record of the fault log (Table 16-11). -/
structure FaultRec where
  time : Nat
  unit : Nat
  cause : Nat
  outcome : Nat
  deriving DecidableEq, Repr

/-- Resilience and maintenance (chapter 16). -/
structure ResSt where
  /-- Waiting requests in order, and tokens held (R443). -/
  queue : List Act := []
  held : List Act := []
  /-- When each waiting request was queued [ns], by 65,536·activity + instance (R443). -/
  queuedAt : Tab Nat := []
  recovery : Recovery := .off
  attempts : Nat := 0
  misses : Nat := 0
  /-- When the last heartbeat arrived and when the attempt under way began [ns] (R439). -/
  beatAt : Nat := 0
  attemptAt : Nat := 0
  restartWith : Option Image := none
  /-- Spine fault queue, at most 16 (R440). -/
  spineQ : List FaultRec := []
  /-- Fault log, newest last, at most 64. -/
  faultLog : List FaultRec := []
  /-- Class whose drill is under way, and the unit drilled (R444). -/
  drill : Option (Nat × Nat) := none
  /-- Classes of the rotation passed, and the place after the unit drilled last in each class (R444). -/
  drillClass : Nat := 0
  /-- When the drill interval and the upgrade under way began [ns] (R444, R448). -/
  drillAt : Nat := 0
  upgradeAt : Nat := 0
  drilled : Tab Nat := []
  /-- The unit a drill promoted, until its first slug has ended (R444). -/
  drillWatch : Option Nat := none
  upgradeWaiting : Bool := false
  /-- CORE_IMAGE at entry into UPGRADE (R445). -/
  entryImages : Tab Nat := []
  /-- Images written to UPGRADE_IMAGE and verified, by class; the retained class 1 image. -/
  newImages : Tab Image := []
  recoveryChanged : Bool := false
  /-- The class 1 image that ran before the upgrade's (R447, R448). -/
  previous : Option Image := none
  /-- Control-core pairs halted for their tests; retired copies; unpaired survivors (R437). -/
  pairTest : List Nat := []
  /-- When each halted pair met its mismatch [ns]. -/
  pairAt : Tab Nat := []
  unpaired : List Nat := []
  /-- Warden copies reloaded (R441). -/
  wardenFix : Tab Nat := []
  /-- Times [s] of the corrected errors of the last 60 s, by unit key (Tables 04-10, 06-15); reset none. -/
  eccTimes : Tab (List Nat) := []
  deriving DecidableEq, Repr

/-! ## Pins -/

/-- Bank states of OD 0xD000.07. -/
inductive BankSt where
  | steady | changing | outOfRange | unpowered
  deriving DecidableEq, Repr

/-- What an output does (Table 17-6): high impedance (an open-drain one: released), low, high, or driven as its interface
requires. -/
inductive PinOut where
  | highZ | low | high | driven
  deriving DecidableEq, Repr

/-- Pins (chapter 17). -/
structure PinSt where
  bankA : BankSt := .unpowered
  bankB : BankSt := .unpowered
  /-- When a bank's supply began to change last [ns] (R467). -/
  bankAt : Tab Nat := []
  /-- GPIO inputs of a bank that is not steady whose last sample was high (R467, R468). -/
  heldIn : List Nat := []
  /-- RCO outputs turned off by a short, when each was turned off last, and since when each one that sinks does [ns] (R469). -/
  rcoOff : List Nat := []
  rcoOffAt : Tab Nat := []
  rcoSinkAt : Tab Nat := []
  /-- Frame strobes that are high, and when they rose [ns] (R471). -/
  strobe : List Nat := []
  strobeAt : Nat := 0
  /-- GPIO outputs that were high when SAFE was entered, which SAFE_STATE 1 holds (Table 17-8). -/
  heldOut : List Nat := []
  /-- Outputs drive (R466): pins whose output enable has been applied. -/
  driving : List Nat := []
  deriving DecidableEq, Repr

/-! ## Alarms and telemetry -/

/-- A latched alarm entry (R449). -/
structure AlarmEntry where
  ident : Nat
  inst : Nat
  active : Bool
  sev : Nat
  count : Nat
  first : Nat
  last : Nat
  /-- Time the last record was issued, for the raising rule's rate limit [s]. -/
  issued : Nat
  deriving DecidableEq, Repr

/-- Kinds of alarm record (Table 16-4). -/
inductive RecKind where
  | raised | cleared | gap | summary
  deriving DecidableEq, Repr

/-- An alarm record in a queue (Table 16-4). -/
structure AlarmRec where
  seq : Nat
  ident : Nat
  sev : Nat
  kind : RecKind
  inst : Nat
  part : Option Nat
  count : Nat
  time : Nat
  /-- What the raising rule records in DETAIL (R451). -/
  detail : Nat
  deriving DecidableEq, Repr

/-- A trace record (R455): source, event, air ticks and data. -/
structure TraceRec where
  src : Nat
  ev : Nat
  air : Int
  data : Nat
  deriving DecidableEq, Repr

/-- Alarms, records and traces (chapter 16). -/
structure AlarmSt where
  entries : List AlarmEntry := []
  /-- Fold entries by identifier (R449), and folded condition alarms that stand. -/
  folds : Tab AlarmEntry := []
  foldedOn : List (Nat × Nat) := []
  nextSeq : Nat := 1
  critical : List AlarmRec := []
  general : List AlarmRec := []
  /-- Raises per severity, records lost and traces dropped in the current second (R454). -/
  secRaises : Tab Nat := []
  secLost : Nat := 0
  secDropped : Nat := 0
  /-- The last event alarm at or above ALARM_PIN_SEVERITY [ns], while ALARM_N is asserted for it (R453). -/
  pinHold : Option Nat := none
  /-- The whole second whose SUMMARY was given last (R454); reset 0. -/
  summarySec : Nat := 0
  /-- Last time a rule limited in rate raised its alarm, in ns, keyed by identifier and instance. -/
  limits : Tab Nat := []
  /-- Trace FIFO, oldest first; drop run: count, first and last air ticks (R455). -/
  fifo : List TraceRec := []
  dropRun : Option (Nat × Int × Int) := none
  deriving DecidableEq, Repr

/-! ## The state -/

/-- The state of the block. -/
structure State where
  /-- Commands that wait, first in first out; reset empty. -/
  pending : List Instr := []
  /-- Answer to the last request; reset: none given, zeros. -/
  reply : Reply := {}
  /-- The model's own counter of free values drawn; DESIGN CHOICE, reset 0. -/
  freeCtr : Nat := 0
  mode : ModeSt := {}
  dict : Dict := {}
  time : TimeSt := {}
  galley : GalleySt := {}
  vx : VxSt := {}
  edge : EdgeSt := {}
  front : FrontSt := {}
  mogil : MogilSt := {}
  /-- Bytes of HBM, slot store, cluster memory and local memory (R28), in canonical form. -/
  mem : List Host.Cell := []
  fab : FabSt := {}
  host : HostSt := {}
  parts : Tab Part := []
  pot : PotSt := {}
  sec : SecSt := {}
  power : PowerSt := {}
  res : ResSt := {}
  pins : PinSt := {}
  alarms : AlarmSt := {}
  deriving DecidableEq, Repr

/-- The block right after reset: RESET_N low, in STANDBY, every object at its default (R371 row 3,
R384), nothing live, no session, memory with nothing listed. -/
def State.reset : State := {}

end Sys2Proof.Machine
end

