-- ==== Sys2Proof/Machine/Tab.lean ====
section
/-!
DEFINITION. Reading and writing the sparse tables of `Word.lean`.  A table keeps one canonical form:
keys strictly rising, and no value equal to what an unlisted key holds, so that equal contents are
equal data.
-/

namespace Sys2Proof

/-- What a table holds at a key: `d` where the key is not listed. -/
def Tab.get {α : Type} (d : α) : Tab α → Nat → α
  | [], _ => d
  | (k, v) :: t, q => if q = k then v else Tab.get d t q

/-- An entry that may be absent. -/
def Tab.find {α : Type} : Tab α → Nat → Option α
  | [], _ => none
  | (k, v) :: t, q => if q = k then some v else Tab.find t q

/-- The table with the entry at key `q` set. -/
def Tab.set {α : Type} : Tab α → Nat → α → Tab α
  | [], q, v => [(q, v)]
  | (k, w) :: t, q, v =>
    if q < k then (q, v) :: (k, w) :: t
    else if q = k then (q, v) :: t
    else (k, w) :: Tab.set t q v

/-- The table without an entry at key `q`. -/
def Tab.del {α : Type} (t : Tab α) (q : Nat) : Tab α := t.filter (fun e => decide (e.1 ≠ q))

/-- The table with `v` at key `q`; writing what an unlisted key holds removes the entry. -/
def Tab.put {α : Type} [DecidableEq α] (d : α) (t : Tab α) (q : Nat) (v : α) : Tab α :=
  if v = d then Tab.del t q else Tab.set t q v

/-- The table with every value passed through `f`. -/
def Tab.mapV {α : Type} (f : Nat → α → α) : Tab α → Tab α
  | [] => []
  | (k, v) :: t => (k, f k v) :: Tab.mapV f t

/-- Keys strictly rising, all above `lo`. -/
def Tab.risingFrom {α : Type} (lo : Nat) : Tab α → Bool
  | [] => true
  | (k, _) :: t => decide (lo ≤ k) && Tab.risingFrom (k + 1) t

/-- The canonical form: keys strictly rising and no value equal to the default. -/
def Tab.wf {α : Type} [DecidableEq α] (d : α) (t : Tab α) : Bool :=
  Tab.risingFrom 0 t && t.all (fun e => decide (e.2 ≠ d))

end Sys2Proof
end

