-- ==== Sys2Proof/Machine/Ops.lean ====
section
/-!
DEFINITION. Operations every family shares: values of the dictionary's objects, time as the
requesters see it, bytes of memory, and the free values the model draws.
-/

namespace Sys2Proof

/-- Bits `[hi:lo]` of a number. -/
def bits (v hi lo : Nat) : Nat := v / 2 ^ lo % 2 ^ (hi + 1 - lo)

/-- Units of the timebase (2⁻⁴⁸ ns, R37) in one nanosecond. -/
def nsUnit : Nat := 281474976710656

/-- A TB128 value as its 128 bits: seconds, nanoseconds and fraction from the low end, the reserved
bits [127:96] zero (R36). -/
def TB128.pack (t : TB128) : Nat := t.sec + t.ns * 2 ^ 48 + t.frac * 2 ^ 80

/-- The TB128 value of 128 bits; the reserved bits are ignored. -/
def TB128.unpack (v : Nat) : TB128 := ⟨bits v 47 0, bits v 79 48, bits v 95 80⟩

/-- A TB128 value in 1/16 ns. -/
def TB128.in16 (t : TB128) : Int := ((t.sec * 1000000000 + t.ns) * 16 + t.frac / 4096 : Nat)

/-- A TB128 value in the units of the timebase. -/
def TB128.units (t : TB128) : Nat := (t.sec * 1000000000 + t.ns) * nsUnit + t.frac * 4294967296

end Sys2Proof

namespace Sys2Proof.Machine

open Sys2Proof

/-! ## Values of objects -/

/-- POLICE of each traffic class where nothing was written (R245): rate [Mbit/s] and, in [31:24], burst
[4 KiB]. -/
def policeDefault : Nat → Int
  | 0 => 0xFFFFFF
  | 1 => (10 + 16 * 16777216)
  | 2 => (100 + 64 * 16777216)
  | 3 => 0xFFFFFF
  | _ => 0

/-- The default of an object's item: the one of its table, but for RESERVE_COUNT, 8 for the VX class
(Table 16-8), and POLICE, by class (R245). -/
def Obj.dfltAt (o : Obj) (item : Nat) : Int :=
  if o.code = 0xB00002 then (if item = 0 then 8 else 1)
  else if o.code = 0x41000E then policeDefault (item % 8)
  else o.dflt

/-- The written value of an object's item: what a read of it returns (R15). -/
def State.num (s : State) (o : Obj) (item : Nat := 0) : Int :=
  Tab.get (o.dfltAt item) s.dict.val (o.key item)

/-- The written value as a natural number. -/
def State.nat (s : State) (o : Obj) (item : Nat := 0) : Nat := (s.num o item).toNat

/-- The written value as a truth value. -/
def State.flag (s : State) (o : Obj) (item : Nat := 0) : Bool := decide (s.num o item ≠ 0)

/-- The value in force (R15): the written one for an object that takes effect immediately, else the
one its moment last took over. -/
def State.gov (s : State) (o : Obj) (item : Nat := 0) : Int :=
  if o.takes = .immediately then s.num o item else Tab.get (o.dfltAt item) s.dict.force (o.key item)

/-- The value in force as a natural number. -/
def State.govN (s : State) (o : Obj) (item : Nat := 0) : Nat := (s.gov o item).toNat

/-- Bytes `v` replacing the dictionary's value table. -/
def State.withVal (s : State) (t : Tab Int) : State := { s with dict := { s.dict with val := t } }

/-- The value `v` written to an object's item by the device or by an accepted request. -/
def State.setNum (s : State) (o : Obj) (item : Nat) (v : Int) : State :=
  s.withVal (Tab.put (o.dfltAt item) s.dict.val (o.key item) v)

/-- A truth value written to an object's item. -/
def State.setFlag (s : State) (o : Obj) (item : Nat) (b : Bool) : State :=
  s.setNum o item (if b then 1 else 0)

/-- A count raised by `n`; counts saturate at the largest value of their type. -/
def State.bumpBy (s : State) (o : Obj) (item n : Nat) : State :=
  s.setNum o item (min o.hi (s.num o item + n))

/-- A count raised by one. -/
def State.bump (s : State) (o : Obj) (item : Nat := 0) : State := s.bumpBy o item 1

/-- The larger of a peak's value and `n`. -/
def State.peak (s : State) (o : Obj) (item n : Nat) : State :=
  s.setNum o item (max (s.num o item) n)

/-- Bits set in a sticky (W1C) object (R14). -/
def State.setBits (s : State) (o : Obj) (item bits : Nat) : State :=
  s.setNum o item ((s.nat o item ||| bits : Nat) : Int)

/-- The written value in force from now on: the value of the item's object taken over (R15). -/
def State.take (s : State) (o : Obj) (item : Nat) : State :=
  { s with dict := { s.dict with
      force := Tab.put (o.dfltAt item) s.dict.force (o.key item) (s.num o item)
      octForce := Tab.put [] s.dict.octForce (o.key item) (Tab.get [] s.dict.oct (o.key item)) } }

/-- Several objects of one item taken over. -/
def State.takeAll (s : State) (os : List Obj) (item : Nat) : State :=
  os.foldl (fun t o => t.take o item) s

/-- The written bytes of an OCTETS, STRING or ARRAY object's item. -/
def State.oct (s : State) (o : Obj) (item : Nat := 0) : List Byte :=
  Tab.get [] s.dict.oct (o.key item)

/-- Its bytes in force. -/
def State.govOct (s : State) (o : Obj) (item : Nat := 0) : List Byte :=
  if o.takes = .immediately then s.oct o item else Tab.get [] s.dict.octForce (o.key item)

/-- Bytes written to an object's item. -/
def State.setOct (s : State) (o : Obj) (item : Nat) (b : List Byte) : State :=
  { s with dict := { s.dict with oct := Tab.put [] s.dict.oct (o.key item) b } }

/-! ## Bit fields, bytes and clamps -/

/-- Bit `k` of a number. -/
def bit (v k : Nat) : Bool := decide (v / 2 ^ k % 2 = 1)

/-- A number with bit `k` set or cleared. -/
def withBit (v k : Nat) (b : Bool) : Nat :=
  if bit v k = b then v else if b then v + 2 ^ k else v - 2 ^ k

/-- A number with its bits `[hi:lo]` replaced by the low bits of `x`. -/
def putBits (v hi lo x : Nat) : Nat := v - bits v hi lo * 2 ^ lo + x % 2 ^ (hi + 1 - lo) * 2 ^ lo

/-- A `w`-bit two's-complement field as an integer. -/
def signed (w v : Nat) : Int := if v % 2 ^ w < 2 ^ (w - 1) then (v % 2 ^ w : Nat) else ((v % 2 ^ w : Nat) : Int) - (2 ^ w : Nat)

/-- An integer as a `w`-bit two's-complement number. -/
def unsigned (w : Nat) (v : Int) : Nat := (v % ((2 ^ w : Nat) : Int)).toNat

/-- `v` held between `lo` and `hi`. -/
def clamp (v lo hi : Int) : Int := if v < lo then lo else if hi < v then hi else v

/-- The sign of an integer: −1, 0 or 1. -/
def sgn (v : Int) : Int := if v < 0 then -1 else if v = 0 then 0 else 1

/-- The value of little-endian bytes (R12). -/
def leNat : List Byte → Nat
  | [] => 0
  | b :: t => b.toNat + 256 * leNat t

/-- `n` little-endian bytes of a number (R12). -/
def leBytes : Nat → Nat → List Byte
  | 0, _ => []
  | n + 1, v => BitVec.ofNat 8 v :: leBytes n (v / 256)

/-- Exact membership of a number in a list, as a truth value. -/
def has (l : List Nat) (n : Nat) : Bool := l.contains n

/-- A list used as a set, with `n` added once, in ascending order. -/
def insertN (l : List Nat) (n : Nat) : List Nat :=
  match l with
  | [] => [n]
  | a :: t => if n < a then n :: a :: t else if n = a then a :: t else a :: insertN t n

/-- A list used as a set, with `n` taken out. -/
def removeN (l : List Nat) (n : Nat) : List Nat := l.filter (fun a => decide (a ≠ n))

/-- `n` added or taken out. -/
def putN (l : List Nat) (n : Nat) (b : Bool) : List Nat := if b then insertN l n else removeN l n

/-! ## Pins -/

/-- The bit of PIN_FAULT of a pin: GPIO 0–31, then PPS_OUT0, PPS_OUT1 and TOD_OUT (pins 40–42). -/
def faultBit (pin : Nat) : Option Nat :=
  if pin < 32 then some pin else if 40 ≤ pin ∧ pin ≤ 42 then some (pin - 8) else none

/-- Does a bit of PIN_FAULT keep a pin in high impedance (R470)? -/
def State.pinTri (s : State) (pin : Nat) : Bool :=
  match faultBit pin with | some b => bit (s.nat OD.pinFault) b | none => false

/-! ## Time -/

/-- Whole nanoseconds of the time that timers run on: the clock of the timebase without its steps and slews (DESIGN CHOICE:
the spec does not say what timers run on). -/
def State.nowNs (s : State) : Nat := s.time.run / nsUnit

/-- Whole seconds of the time that timers run on. -/
def State.runSec (s : State) : Nat := s.nowNs / 1000000000

/-- Have `ns` nanoseconds passed since a time of `nowNs`? -/
def State.passed (s : State) (at_ ns : Nat) : Bool := decide (at_ + ns ≤ s.nowNs)

/-- Whole seconds of the timebase. -/
def State.nowSec (s : State) : Nat := s.time.tb / nsUnit / 1000000000

/-- The timebase in 1/16 ns. -/
def State.now16 (s : State) : Int := (s.time.tb / 17592186044416 : Nat)

/-- A timebase in TB128 form (R36): the upper 16 of its 48 fraction bits. -/
def tbOf (tb : Nat) : TB128 :=
  ⟨tb / nsUnit / 1000000000, tb / nsUnit % 1000000000, tb % nsUnit / 4294967296⟩

/-- The current time in TB128 form. -/
def State.now (s : State) : TB128 := tbOf s.time.tb

/-! ## Memory -/

/-- What a byte of memory that nothing has written reads as: zero (DESIGN CHOICE, the spec gives the
memories no contents after power-up). -/
def Memory.blank : Byte := 0#8

/-- One byte of memory. -/
def Memory.byte (m : List Host.Cell) (a : Nat) : Byte := Tab.get Memory.blank m a

/-- Memory with one byte written. -/
def Memory.setByte (m : List Host.Cell) (a : Nat) (b : Byte) : List Host.Cell :=
  Tab.put Memory.blank m a b

/-- `n` bytes from address `a` upwards. -/
def Memory.read (m : List Host.Cell) : Nat → Nat → List Byte
  | _, 0 => []
  | a, n + 1 => Memory.byte m a :: Memory.read m (a + 1) n

/-- Memory with bytes written from address `a` upwards. -/
def Memory.write (m : List Host.Cell) : Nat → List Byte → List Host.Cell
  | _, [] => m
  | a, b :: t => Memory.write (Memory.setByte m a b) (a + 1) t

/-- Memory with `n` bytes from `a` set to zero. -/
def Memory.zero (m : List Host.Cell) (a n : Nat) : List Host.Cell :=
  m.filter (fun c => decide (¬ (a ≤ c.1 ∧ c.1 < a + n)))

/-- The canonical form of memory. -/
def Memory.wf (m : List Host.Cell) : Bool := Tab.wf Memory.blank m

/-- `n` bytes of the state's memory. -/
def State.load (s : State) (a n : Nat) : List Byte := Memory.read s.mem a n

/-- The little-endian number held in `n` bytes of memory. -/
def State.loadN (s : State) (a n : Nat) : Nat := leNat (s.load a n)

/-- Bytes written to the state's memory. -/
def State.storeB (s : State) (a : Nat) (b : List Byte) : State := { s with mem := Memory.write s.mem a b }

/-! ## Replies -/

/-- A request answered with a reason code; 0 means accepted (R385). -/
def State.answer (s : State) (reason : Nat) : State := { s with reply := { reason := reason } }

/-- A request answered with a refusal: reason, failing address and detail word (R360). -/
def State.refuse (s : State) (f : Fail) : State :=
  { s with reply := { reason := f.reason, addr := f.addr, detail := f.detail } }

/-- A request answered with data. -/
def State.answerData (s : State) (d : List Byte) : State := { s with reply := { data := d } }

/-- A fabric request answered (Table 10-4): RDATA, ACK or ERR with its status and data. -/
def State.answerFab (s : State) (c : FabCmd) (status : Nat) (d : List Byte) : State :=
  { s with reply := { fab := some c, status := status, data := d } }

/-- A fabric request answered ERR with a status of Table 10-5. -/
def State.answerErr (s : State) (status : Nat) : State := s.answerFab .err status []

/-! ## Free values -/

/-- The number of the next free value, and the state after it is drawn. -/
def State.draw (s : State) : Nat × State := (s.freeCtr, { s with freeCtr := s.freeCtr + 1 })


end Sys2Proof.Machine
end

