-- ==== Sys2Proof/Machine/Float.lean ====
section
/-!
DEFINITION. Floating-point elements (R160–R162): IEEE 754-2019 binary16 and binary32, computed exactly
and rounded once in the direction of VCFG.FRM.
-/

namespace Sys2Proof.Machine

open Sys2Proof

/-- Flag bits of VSTATUS (Table 04-4). -/
def fVSAT : Nat := 1
def fVDZ : Nat := 2
def fNX : Nat := 4
def fUF : Nat := 8
def fOF : Nat := 16
def fFDZ : Nat := 32
def fNV : Nat := 64

/-- A format: precision, exponent width and the least exponent of a normal number. -/
structure Fmt where
  w : Nat
  p : Nat
  emin : Int
  deriving DecidableEq, Repr

/-- binary16 at EW 16, binary32 otherwise. -/
def fmtOf (ew : Nat) : Fmt := if ew = 16 then ⟨16, 11, -14⟩ else ⟨32, 24, -126⟩

/-- Exponent field of all ones. -/
def Fmt.top (f : Fmt) : Nat := 2 ^ (f.w - f.p) - 1

/-- A value: NaN (signalling or not), infinity, or (−1)^neg · m · 2^e. -/
inductive FV where
  | nan (sig : Bool)
  | inf (neg : Bool)
  | fin (neg : Bool) (m : Nat) (e : Int)
  deriving DecidableEq, Repr

/-- The value of a bit pattern; under FTZ a subnormal reads as zero of its sign. -/
def Fmt.read (f : Fmt) (ftz : Bool) (v : Nat) : FV :=
  let neg := bit v (f.w - 1)
  let ex := bits v (f.w - 2) (f.p - 1)
  let fr := bits v (f.p - 2) 0
  if ex = f.top then (if fr = 0 then .inf neg else .nan (!bit v (f.p - 2)))
  else if ex = 0 then (if ftz then .fin neg 0 0 else .fin neg fr (f.emin - (f.p - 1)))
  else .fin neg (fr + 2 ^ (f.p - 1)) (f.emin + (ex - 1 : Nat) - (f.p - 1))

/-- The canonical quiet NaN, infinities, zeros and the largest finite number. -/
def Fmt.qnan (f : Fmt) : Nat := f.top * 2 ^ (f.p - 1) + 2 ^ (f.p - 2)
def Fmt.signBit (f : Fmt) (neg : Bool) : Nat := if neg then 2 ^ (f.w - 1) else 0
def Fmt.infinity (f : Fmt) (neg : Bool) : Nat := f.signBit neg + f.top * 2 ^ (f.p - 1)
def Fmt.zero (f : Fmt) (neg : Bool) : Nat := f.signBit neg
def Fmt.largest (f : Fmt) (neg : Bool) : Nat := f.signBit neg + f.top * 2 ^ (f.p - 1) - 1

/-- Does a magnitude `q` with remainder `r` of `2^k` (and a sticky rest) round up (Table 04-2 FRM)? -/
def roundsUp (frm : Nat) (neg : Bool) (q r half : Nat) (sticky : Bool) : Bool :=
  let inexact := decide (0 < r) || sticky
  match frm with
  | 0 => decide (half < r) || (decide (r = half) && (sticky || decide (q % 2 = 1)))
  | 1 => false
  | 2 => neg && inexact
  | 3 => !neg && inexact
  | _ => decide (half ≤ r)

/-- A magnitude `m·2^e` (and a sticky rest below) rounded to a multiple of `2^t`: the multiple and whether it
is inexact. -/
def roundTo (frm : Nat) (neg : Bool) (m : Nat) (e t : Int) (sticky : Bool) : Nat × Bool :=
  if t ≤ e then (m * 2 ^ (e - t).toNat, sticky)
  else
    let k := (t - e).toNat
    let q := m / 2 ^ k
    let r := m % 2 ^ k
    (if roundsUp frm neg q r (2 ^ (k - 1)) sticky then q + 1 else q, decide (0 < r) || sticky)

/-- A number written in a format: its bits and the flags NX, UF and OF; underflow is detected after
rounding (R160). -/
def Fmt.write (f : Fmt) (frm : Nat) (ftz neg : Bool) (m : Nat) (e : Int) (sticky : Bool) : Nat × Nat :=
  if m = 0 then (f.zero neg, 0)
  else
    let lead : Int := e + Nat.log2 m
    let p1 : Int := (f.p : Int) - 1
    let t := max (lead - p1) (f.emin - p1)
    let (q, inexact) := roundTo frm neg m e t sticky
    let (q', _) := roundTo frm neg m e (lead - p1) sticky
    let tiny := decide (lead < f.emin) && decide (q' < 2 ^ f.p ∨ lead + 1 < f.emin)
    let (q, t) := if q = 2 ^ f.p then (2 ^ (f.p - 1), t + 1) else (q, t)
    if q < 2 ^ (f.p - 1) then
      if ftz then (f.zero neg, fUF + fNX)
      else (f.signBit neg + q, if inexact then fUF + fNX else 0)
    else
      let ex := (t + p1 - f.emin + 1).toNat
      if f.top ≤ ex then
        let toMax := decide (frm = 1) || (decide (frm = 2) && !neg) || (decide (frm = 3) && neg)
        (if toMax then f.largest neg else f.infinity neg, fOF + fNX)
      else
        (f.signBit neg + ex * 2 ^ (f.p - 1) + (q - 2 ^ (f.p - 1)),
          if inexact then (if tiny then fUF + fNX else fNX) else 0)

/-- A NaN result: canonical, with NV for a signalling operand. -/
def Fmt.nanOf (f : Fmt) (nv : Bool) : Nat × Nat := (f.qnan, if nv then fNV else 0)

/-- Is a value a signalling NaN, a NaN? -/
def FV.isSig : FV → Bool | .nan s => s | _ => false
def FV.isNan : FV → Bool | .nan _ => true | _ => false
def FV.isZero : FV → Bool | .fin _ m _ => decide (m = 0) | _ => false

/-- The value with its sign inverted. -/
def FV.neg : FV → FV
  | .nan s => .nan s | .inf n => .inf (!n) | .fin n m e => .fin (!n) m e

/-- An exact product, and whether it is invalid (∞ × 0). -/
def FV.mul : FV → FV → FV × Bool
  | .nan s, .nan t => (.nan (s || t), false)
  | .nan s, _ => (.nan s, false)
  | _, .nan s => (.nan s, false)
  | .inf n, .inf k => (.inf (n != k), false)
  | .inf n, .fin k m _ => if m = 0 then (.nan false, true) else (.inf (n != k), false)
  | .fin n m _, .inf k => if m = 0 then (.nan false, true) else (.inf (n != k), false)
  | .fin n m e, .fin k l g => (.fin (n != k) (m * l) (e + g), false)

/-- The signed mantissa of a finite term at the exponent `t`. -/
def FV.at_ (t : Int) : FV → Int
  | .fin n m e => let v : Int := (m * 2 ^ (e - t).toNat : Nat); if n then -v else v
  | _ => 0

/-- The least exponent among finite terms. -/
def lowExp (ts : List FV) : Int :=
  ts.foldl (fun m t => match t with | .fin _ k e => if k = 0 then m else min m e | _ => m) 0

/-- A sum of exact terms rounded once (R160). `nv` is set where a term was already invalid. -/
def Fmt.sum (f : Fmt) (frm : Nat) (ftz nv : Bool) (ts : List FV) : Nat × Nat :=
  if nv || ts.any FV.isSig then f.nanOf true
  else if ts.any FV.isNan then f.nanOf false
  else
    let pos := ts.contains (.inf false)
    let negI := ts.contains (.inf true)
    if pos && negI then f.nanOf true
    else if pos then (f.infinity false, 0)
    else if negI then (f.infinity true, 0)
    else
      let t := lowExp ts
      let s := (ts.map (FV.at_ t)).sum
      if s = 0 then
        let signs := ts.map (fun x => match x with | .fin n _ _ => n | _ => false)
        let allZero := ts.all FV.isZero
        let neg := if allZero && signs.all (fun n => n) then true
          else if allZero && signs.all (fun n => !n) then false else decide (frm = 2)
        (f.zero neg, 0)
      else f.write frm ftz (decide (s < 0)) s.natAbs t false

/-- Sum, difference and product of two elements. -/
def Fmt.add (f : Fmt) (frm : Nat) (ftz : Bool) (a b : Nat) : Nat × Nat :=
  f.sum frm ftz false [f.read ftz a, f.read ftz b]
def Fmt.sub (f : Fmt) (frm : Nat) (ftz : Bool) (a b : Nat) : Nat × Nat :=
  f.sum frm ftz false [f.read ftz a, (f.read ftz b).neg]

/-- A product rounded once: its zeros keep their sign. -/
def Fmt.mul (f : Fmt) (frm : Nat) (ftz : Bool) (a b : Nat) : Nat × Nat :=
  match (f.read ftz a).mul (f.read ftz b) with
  | (_, true) => f.nanOf true
  | (.nan s, _) => f.nanOf s
  | (.inf n, _) => (f.infinity n, 0)
  | (.fin n m e, _) => f.write frm ftz n m e false

/-- a × b + c, or c − a × b, with one rounding. -/
def Fmt.fma (f : Fmt) (frm : Nat) (ftz negP : Bool) (a b c : Nat) : Nat × Nat :=
  let (p, inv) := (f.read ftz a).mul (f.read ftz b)
  let p := if negP then p.neg else p
  let z := f.read ftz c
  let inv := inv && (!z.isNan || z.isSig || Config.fmaNanInvalid)
  if inv then f.nanOf true else f.sum frm ftz false [p, z]

/-- A quotient (R161). -/
def Fmt.div (f : Fmt) (frm : Nat) (ftz : Bool) (a b : Nat) : Nat × Nat :=
  match f.read ftz a, f.read ftz b with
  | .nan s, y => f.nanOf (s || y.isSig)
  | _, .nan s => f.nanOf s
  | .inf _, .inf _ => f.nanOf true
  | .inf n, .fin k _ _ => (f.infinity (n != k), 0)
  | .fin n _ _, .inf k => (f.zero (n != k), 0)
  | .fin n m e, .fin k l g =>
    if l = 0 then (if m = 0 then f.nanOf true else (f.infinity (n != k), fFDZ))
    else
      let sh := 3 * f.p
      f.write frm ftz (n != k) (m * 2 ^ sh / l) (e - g - sh) (decide (m * 2 ^ sh % l ≠ 0))

/-- The order of two numbers: negative zero below positive zero where `zeros` is set. -/
def FV.less (zeros : Bool) : FV → FV → Bool
  | .inf n, .inf k => n && !k
  | .inf n, _ => n
  | _, .inf k => !k
  | x, y =>
    let t := lowExp [x, y]
    if x.isZero && y.isZero then
      zeros && (match x, y with | .fin true _ _, .fin false _ _ => true | _, _ => false)
    else decide (x.at_ t < y.at_ t)

/-- Are two numbers equal? -/
def FV.same (x y : FV) : Bool := !x.less false y && !y.less false x

/-- A value written back as it was read. -/
def Fmt.back (f : Fmt) (v : FV) : Nat :=
  match v with
  | .nan _ => f.qnan
  | .inf n => f.infinity n
  | .fin n m e => (f.write 0 false n m e false).1

/-- minimumNumber and maximumNumber (R161): a NaN loses to a number. -/
def Fmt.minmax (f : Fmt) (ftz mx : Bool) (a b : Nat) : Nat × Nat :=
  let x := f.read ftz a
  let y := f.read ftz b
  let fl := if x.isSig || y.isSig then fNV else 0
  match x.isNan, y.isNan with
  | true, true => (f.qnan, fl)
  | true, false => (f.back y, fl)
  | false, true => (f.back x, fl)
  | false, false => (f.back (if mx then (if x.less true y then y else x) else (if y.less true x then y else x)), fl)

/-- Compare (R165): 0 equal, quiet; 1 less, signalling; 2 less or equal, signalling; 3 unordered, quiet. -/
def Fmt.cmp (f : Fmt) (ftz : Bool) (cond a b : Nat) : Bool × Nat :=
  let x := f.read ftz a
  let y := f.read ftz b
  let un := x.isNan || y.isNan
  let nv := if x.isSig || y.isSig || (un && (decide (cond = 1) || decide (cond = 2))) then fNV else 0
  match cond with
  | 0 => (!un && x.same y, nv)
  | 1 => (!un && x.less false y, nv)
  | 2 => (!un && (x.less false y || x.same y), nv)
  | _ => (un, nv)

/-- A signed integer as a float (R162). -/
def Fmt.ofInt (f : Fmt) (frm : Nat) (ftz : Bool) (v : Int) : Nat × Nat :=
  f.write frm ftz (decide (v < 0)) v.natAbs 0 false

/-- A float as a signed integer of the same width (R162). -/
def Fmt.toInt (f : Fmt) (frm : Nat) (ftz : Bool) (a : Nat) : Nat × Nat :=
  let hi : Int := 2 ^ (f.w - 1) - 1
  let lo : Int := -(2 ^ (f.w - 1))
  match f.read ftz a with
  | .nan _ => (unsigned f.w hi, fNV)
  | .inf n => (unsigned f.w (if n then lo else hi), fNV)
  | .fin n m e =>
    let (q, inexact) := roundTo frm n m e 0 false
    let v : Int := if n then -(q : Int) else q
    if v < lo then (unsigned f.w lo, fNV) else if hi < v then (unsigned f.w hi, fNV)
    else (unsigned f.w v, if inexact then fNX else 0)

end Sys2Proof.Machine
end

