-- ==== Sys2Proof/Machine/Cp2.lean ====
section
/-!
DEFINITION. The functions of CP2 (R126, R172): the exact value of each, computed in fixed point far below an ulp,
and the results within 2 ulp of it.
-/

namespace Sys2Proof.Machine

open Sys2Proof

/-! ## Fixed point -/

/-- The terms of the series of the sine or cosine from the `k`-th on: `t` is the term, `x2` the square of the
angle, `one` the unit. -/
def trigTerms (one x2 : Int) : Nat → Nat → Int → Int
  | 0, _, _ => 0
  | n + 1, k, t => t + trigTerms one x2 n (k + 2) (-(t * x2 / one) / ((k + 1) * (k + 2) : Nat))

/-- One in the fixed-point form of the functions: values are kept in units of 2⁻⁴⁰⁰. -/
def unitFx : Int := 2 ^ 400

/-- The largest `r` with r² ≤ `v`, for `v` below 4^n. -/
def isqrt : Nat → Nat → Nat
  | 0, _ => 0
  | n + 1, v => let r := 2 * isqrt n (v / 4); if (r + 1) * (r + 1) ≤ v then r + 1 else r

/-- The odd powers t, t³, t⁵ … each over its exponent, `n` terms from exponent `k`, alternating where `alt`. -/
def oddSeries (alt : Bool) (t2 : Int) : Nat → Nat → Int → Int
  | 0, _, _ => 0
  | n + 1, k, t => t / (k : Nat) + oddSeries alt t2 n (k + 2) ((if alt then -t else t) * t2 / unitFx)

/-- atan of 0 ≤ t ≤ 1: the half-angle formula three times, then its series. -/
def atanFx (t : Int) : Int :=
  let half (t : Int) : Int := t * unitFx / (unitFx + (isqrt 405 (unitFx * unitFx + t * t).toNat : Nat))
  let u := half (half (half t))
  8 * oddSeries true (u * u / unitFx) 70 1 u

/-- π, ln 2, and ln of 1 ≤ m < 2. -/
def piFx : Int := 4 * atanFx unitFx
def lnFx (m : Int) : Int :=
  let t := (m - unitFx) * unitFx / (m + unitFx)
  2 * oddSeries false (t * t / unitFx) 140 1 t
def ln2Fx : Int := let t := unitFx / 3; 2 * oddSeries false (t * t / unitFx) 140 1 t

/-- sin and cos of any angle. -/
def reduceFx (x : Int) : Int := let r := x % (2 * piFx); if piFx < r then r - 2 * piFx else r
def sinFx (x : Int) : Int := let r := reduceFx x; trigTerms unitFx (r * r / unitFx) 70 1 r
def cosFx (x : Int) : Int := let r := reduceFx x; trigTerms unitFx (r * r / unitFx) 70 0 unitFx

/-- The exponential series, `n` terms from the `k`-th. -/
def expTerms (x : Int) : Nat → Nat → Int → Int
  | 0, _, _ => 0
  | n + 1, k, t => t + expTerms x n (k + 1) (t * x / unitFx / ((k + 1 : Nat) : Int))

/-! ## Exact values -/

/-- An exact value as sign, magnitude and exponent: (−1)^neg · m · 2^e. -/
structure Exact where
  neg : Bool
  m : Nat
  e : Int
  deriving DecidableEq, Repr

/-- A fixed-point value. -/
def ofFx (v : Int) (negZero : Bool) : Exact := ⟨if v = 0 then negZero else decide (v < 0), v.natAbs, -400⟩

/-- A finite operand in fixed point. -/
def toFx (m : Nat) (e : Int) : Int := (m * 2 ^ (e + 400).toNat : Nat)

/-- The angle of the point (x, y) of magnitudes, in the first quadrant. -/
def angleFx (y x : Int) : Int :=
  if y ≤ x then atanFx (y * unitFx / x) else piFx / 2 - atanFx (x * unitFx / y)

/-- An infinite exact value: beyond every format. -/
def infExact (neg : Bool) : Exact := ⟨neg, 1, 2000⟩

/-- ATAN2 at magnitudes of its operands as finite multiples: the angle by their signs. -/
def signedAngle (neg yneg : Bool) (a : Int) : Exact :=
  let a := if yneg then piFx - a else a
  ofFx (if neg then -a else a) neg

/-- The exact value of ATAN2 where it has one: not at two zeros.  Infinite operands are the limits of IEEE 754-2019 clause
9.2.1. -/
def atan2Exact (x y : FV) : Option Exact :=
  match x, y with
  | .fin neg m e, .fin yneg ym ye =>
    if m = 0 ∧ ym = 0 then none
    else if m = 0 then some (signedAngle neg yneg 0)
    else if ym = 0 then some (signedAngle neg false (piFx / 2))
    else some (signedAngle neg yneg (angleFx (toFx m e) (toFx ym ye)))
  | .fin neg _ _, .inf yneg => some (signedAngle neg yneg 0)
  | .inf neg, .fin _ _ _ => some (signedAngle neg false (piFx / 2))
  | .inf neg, .inf yneg => some (signedAngle neg yneg (piFx / 4))
  | _, _ => none

/-- The exact value of a function (0 RCP, 1 RSQRT, 2 LOG2, 3 EXP2, 4 SIN, 5 COS, 6 ATAN2) where one exists: none at the poles
of RCP, RSQRT and LOG2 and at ATAN2 of two zeros. -/
def cp2Exact (op : Nat) (x y : FV) : Option Exact :=
  if op = 6 then atan2Exact x y
  else match x with
  | .fin neg m e =>
    let v : Int := if neg then -(toFx m e) else toFx m e
    match op with
    | 0 => if m = 0 then none else some ⟨neg, 2 ^ 200 / m, -200 - e⟩
    | 1 =>
      if m = 0 ∨ neg = true then none
      else
        let odd := decide (e % 2 ≠ 0)
        let m := if odd then 2 * m else m
        let e := if odd then e - 1 else e
        some ⟨false, isqrt 201 (2 ^ 400 / m), -200 - e / 2⟩
    | 2 =>
      if m = 0 ∨ neg = true then none
      else
        let k := Nat.log2 m
        some (ofFx ((e + k) * unitFx + lnFx ((m * 2 ^ (400 - k) : Nat) : Int) * unitFx / ln2Fx) false)
    | 3 =>
      let n := v / unitFx
      let r := expTerms ((v - n * unitFx) * ln2Fx / unitFx) 110 0 unitFx
      some ⟨false, r.toNat, max (min n 1000) (-1000) - 400⟩
    | 4 => some (ofFx (sinFx v) neg)
    | _ => some (ofFx (cosFx v) false)
  | .inf neg =>
    match op with
    | 0 => some ⟨neg, 0, 0⟩
    | 1 => some ⟨false, 0, 0⟩
    | 2 => some (infExact false)
    | 3 => some (if neg then ⟨false, 0, 0⟩ else infExact false)
    | _ => none
  | _ => none

/-! ## Results (R172) -/

/-- The number of a format nearest to an exact value. -/
def Fmt.nearest (f : Fmt) (r : Exact) : Nat := (f.write 0 false r.neg r.m r.e true).1

/-- Does a bit pattern hold a number within 2 ulp of an exact value? -/
def Fmt.within (f : Fmt) (r : Exact) (p : Nat) : Bool :=
  match f.read false p with
  | .fin n m e =>
    let t := min e r.e
    let u := max (r.e + Nat.log2 r.m) f.emin - ((f.p : Int) - 1) + 1
    decide (((FV.fin n m e).at_ t - (FV.fin r.neg r.m r.e).at_ t).natAbs ≤ 2 ^ (u - t).toNat)
  | _ => false

/-- The result of a CP2 function: within 2 ulp of the exact value, which of those it is being open (R172); where there is no
exact value (a pole, ATAN2 of two zeros), any. -/
def Fmt.cp2 (f : Fmt) (ftz : Bool) (op a b : Nat) : Nat :=
  let p := Config.cp2 op f.w a b % 2 ^ f.w
  match cp2Exact op (f.read ftz a) (f.read ftz b) with
  | none => p
  | some r =>
    let q := if f.within r p then p else f.nearest r
    match f.read ftz q with
    | .fin n m _ => if m = 0 then f.zero n else q
    | _ => q

end Sys2Proof.Machine
end

