-- ==== Sys2Proof/Machine/AirTime.lean ====
section
/-!
DEFINITION. Air time (R71–R75): the air-tick count, frames and slots, and 32-bit deadlines.
-/

namespace Sys2Proof.Machine

open Sys2Proof

/-- The frame epoch, 315,964,819 s on the timebase scale, in air ticks. -/
def epochTicks : Int := 315964819 * 491520000

/-- The count of R71 for a timebase (2⁻⁴⁸ ns) and a frame offset in ticks. -/
def airOf (tb : Nat) (offset : Int) : Int :=
  ((tb * 491520000 / (1000000000 * nsUnit) : Nat) : Int) - epochTicks - offset

/-- The count the formula gives now. -/
def State.airFormula (s : State) : Int := airOf s.time.tb (s.gov OD.frameOffset)

/-- Ticks of a 10 ms frame, a subframe and a half subframe. -/
def frameTicks : Int := 4915200
def subframeTicks : Int := 491520
def halfTicks : Int := 245760

/-- The system frame number of a count. -/
def sfnOf (a : Int) : Nat := (a / frameTicks % 1024).toNat

/-- The hyper frame number of a count. -/
def hfnOf (a : Int) : Nat := (a / frameTicks / 1024 % 1024).toNat

/-- Bits [47:0] of the count (OD 0x3200.02) and the air era (OD 0x3200.03). -/
def airTickOf (a : Int) : Nat := (a % 2 ^ 48).toNat
def airEraOf (a : Int) : Nat := (a / 2 ^ 48 % 65536).toNat

/-- Slots of a frame by numerology: 0–3 NR μ, 4 LTE (Table 02-5). -/
def slotsPerFrame (num : Nat) : Nat :=
  if num = 0 then 10 else if num = 1 then 20 else if num = 2 then 40 else if num = 3 then 80 else 20

/-- The number of the slot a count lies in, from the frame epoch. -/
def slotOf (num : Nat) (a : Int) : Int :=
  let h := a / halfTicks
  let r := a % halfTicks
  if num = 0 then a / subframeTicks
  else if num = 2 then 2 * h + (if r < 123008 then 0 else 1)
  else if num = 3 then 4 * h + (if r < 61632 then 0 else 1 + (r - 61632) / 61376)
  else h

/-- The count at which a slot starts. -/
def slotStart (num : Nat) (n : Int) : Int :=
  if num = 0 then n * subframeTicks
  else if num = 2 then n / 2 * halfTicks + (if n % 2 = 0 then 0 else 123008)
  else if num = 3 then n / 4 * halfTicks + (if n % 4 = 0 then 0 else 61632 + (n % 4 - 1) * 61376)
  else n * halfTicks

/-- The number of the first slot that starts at or after a count. -/
def nextSlot (num : Nat) (a : Int) : Int :=
  if slotStart num (slotOf num a) = a then slotOf num a else slotOf num a + 1

/-- The slot index of a boundary in a period of `p` slots (R90): ((SFN mod 2) × slots per frame + slot
in frame) mod P. -/
def slotIndex (num : Nat) (n : Int) (p : Nat) : Nat :=
  let spf := slotsPerFrame num
  (sfnOf (slotStart num n) % 2 * spf + (n % spf).toNat) % p

/-- The difference of two 32-bit air-tick values (R73). -/
def diff32 (x y : Nat) : Int :=
  let d := (((x : Int) - y) % 4294967296).toNat
  if 2147483648 ≤ d then (d : Int) - 4294967296 else d

/-- The low 32 bits of a count. -/
def low32 (a : Int) : Nat := (a % 4294967296).toNat

/-- The 48-bit modular distance of R74 of an absolute tick from a count: positive ahead of it. -/
def distance48 (t a : Int) : Int :=
  let d := ((t - a) % 281474976710656).toNat
  if 140737488355328 ≤ d then (d : Int) - 281474976710656 else d

/-- Is an absolute tick within the deadline reach of ±2,147,483,647 ticks (R74)? -/
def withinReach (t a : Int) : Bool :=
  decide (-2147483647 ≤ distance48 t a ∧ distance48 t a ≤ 2147483647)

/-- A 32-bit deadline extended around a count (R73, R99). -/
def extend32 (dl : Nat) (a : Int) : Int := a + diff32 dl (low32 a)

/-- Microseconds as air ticks: 1 µs is exactly 12,288/25 ticks (R99); rounded up to whole ticks. -/
def usTicks (us : Nat) : Int := ((us * 12288 + 24) / 25 : Nat)

/-- Twice the mean slot length of a numerology, the limit of PRESS_LEAD (R90). -/
def leadLimit (num : Nat) : Nat :=
  if num = 4 then 491520 else 983040 / 2 ^ num

end Sys2Proof.Machine
end

