-- ==== Sys2Proof/Machine/Alarms.lean ====
section
/-!
DEFINITION. Alarms, their records and the trace (chapter 16): what every rule that raises, clears or
traces something calls.
-/

namespace Sys2Proof.Machine

open Sys2Proof

/-- Severity of an alarm identifier (Tables 02-12, 03-16, 04-13, 06-18, 07-14, 08-7, 08-14, 09-7,
09-12, 10-12, 11-10, 14-9, 15-10, 16-7 and R367): 1 INFO to 5 CRITICAL. -/
def severity (ident : Nat) : Nat :=
  if [0x0101, 0x0201, 0x0A02, 0x0A04, 0x0A08].contains ident then 5
  else if [0x040C, 0x0908, 0x0B07 + 1, 0x0B09, 0x0A05, 0x0A0C, 0x0A0D].contains ident then 1
  else if [0x0108, 0x0206, 0x0209, 0x020A, 0x0307, 0x030B, 0x030E, 0x030F, 0x0502, 0x0505, 0x0507,
      0x0509, 0x0604, 0x0708, 0x0709, 0x0806, 0x0905, 0x0A03, 0x0A0A, 0x0A0B, 0x0A0F, 0x0A10,
      0x0B06, 0x0B07, 0x0B0A, 0x0D01, 0x0D04].contains ident then 2
  else if [0x0107, 0x0202, 0x0205, 0x0207, 0x0208, 0x0305, 0x0306, 0x0308, 0x030A, 0x030D, 0x0310,
      0x0311, 0x0407, 0x0408, 0x0409, 0x0501, 0x0503, 0x050A, 0x0602, 0x0603, 0x0702, 0x0703, 0x0704,
      0x0706, 0x0707, 0x0803, 0x0805, 0x0807, 0x0902, 0x0903, 0x0904, 0x0906, 0x0907, 0x0A09, 0x0B01,
      0x0B05, 0x0C03, 0x0D02].contains ident then 3
  else 4

/-- Condition alarms (R450): they stay active until their condition ends. -/
def isCondition (ident : Nat) : Bool :=
  [0x0102, 0x0103, 0x0106, 0x0108, 0x0109, 0x0201, 0x0203, 0x0204, 0x0205, 0x0208, 0x0309, 0x0706,
   0x0901, 0x0905, 0x0909, 0x0A01, 0x0A02, 0x0A03, 0x0B04].contains ident
  || decide (0x0301 ≤ ident ∧ ident ≤ 0x0306) || decide (0x0401 ≤ ident ∧ ident ≤ 0x0409)
  || decide (0x0C01 ≤ ident ∧ ident ≤ 0x0C03)

/-- One more, saturating at the largest U32. -/
def satInc (n : Nat) : Nat := min 0xFFFFFFFF (n + 1)

/-- An entry after a raise at time `now` (R449): a condition alarm that becomes active counts anew,
an event alarm is inactive again as soon as it is raised. -/
def AlarmEntry.raised (e : AlarmEntry) (now : Nat) : AlarmEntry :=
  if isCondition e.ident then
    if e.active then { e with count := satInc e.count, last := now }
    else { e with active := true, count := 1, first := now, last := now }
  else { e with count := satInc e.count, last := now }

/-- A new entry at its first raise. -/
def AlarmEntry.new (ident inst now : Nat) : AlarmEntry :=
  ⟨ident, inst, isCondition ident, severity ident, 1, now, now, now⟩

/-- Is this the entry of the pair? -/
def AlarmEntry.is (e : AlarmEntry) (ident inst : Nat) : Bool :=
  decide (e.ident = ident) && decide (e.inst = inst)

/-- The time of last raise of the oldest inactive entry, if any entry is inactive. -/
def oldestInactive : List AlarmEntry → Option Nat
  | [] => none
  | e :: t =>
    match oldestInactive t with
    | some m => if e.active then some m else some (min e.last m)
    | none => if e.active then none else some e.last

/-- The first inactive entry last raised at `at_` replaced by `e`. -/
def reuseEntry (at_ : Nat) (e : AlarmEntry) : List AlarmEntry → List AlarmEntry
  | [] => []
  | a :: t => if !a.active && decide (a.last = at_) then e :: t else a :: reuseEntry at_ e t

/-- Entries after a raise of a pair, the count its record carries, and whether a record is due; none
where the pair is folded (R449). -/
def raiseEntries (es : List AlarmEntry) (ident inst now : Nat) :
    Option (List AlarmEntry × Nat × Bool) :=
  match es.find? (·.is ident inst) with
  | some e =>
    some (es.map (fun a => if a.is ident inst then a.raised now else a), (e.raised now).count,
      !e.active)
  | none =>
    if es.length < 4096 then some (es ++ [AlarmEntry.new ident inst now], 1, true)
    else match oldestInactive es with
      | some m => some (reuseEntry m (AlarmEntry.new ident inst now) es, 1, true)
      | none => none

/-- The alarms after a raise, the count its record carries, whether a record is due, and whether the
raise was folded (R449). -/
def AlarmSt.raise (a : AlarmSt) (ident inst now : Nat) : AlarmSt × Nat × Bool × Bool :=
  match raiseEntries a.entries ident inst now with
  | some (es, n, due) => ({ a with entries := es }, n, due, false)
  | none =>
    let f := match Tab.find a.folds ident with
      | some e => { e with active := e.active || isCondition ident, count := satInc e.count, last := now }
      | none => AlarmEntry.new ident 0xFFFF now
    ({ a with
        folds := Tab.set a.folds ident f
        foldedOn := if isCondition ident && !a.foldedOn.contains (ident, inst)
          then a.foldedOn ++ [(ident, inst)] else a.foldedOn },
      f.count, !(isCondition ident && a.foldedOn.contains (ident, inst)), true)

/-- The lowest severity in a queue. -/
def lowestSev (q : List AlarmRec) : Nat := q.foldl (fun m r => min m r.sev) 6

/-- A queue without its newest record of severity `v`, and that record. -/
def dropNewest (v : Nat) : List AlarmRec → List AlarmRec × Option AlarmRec
  | [] => ([], none)
  | r :: t =>
    match dropNewest v t with
    | (t', some d) => (r :: t', some d)
    | (t', none) => if r.sev = v then (t', some r) else (r :: t', none)

/-- A record enters its queue (R452): the alarms after it, and the sequences displaced or discarded with the partition
each names. -/
def AlarmSt.enqueue (a : AlarmSt) (r : AlarmRec) : AlarmSt × List (Nat × Option Nat) :=
  if r.sev = 5 then
    if r.kind = .raised && a.critical.any (fun q => decide (q.ident = r.ident ∧ q.inst = r.inst ∧ q.kind = .raised)) then
      ({ a with critical := a.critical.map (fun q =>
          if q.ident = r.ident ∧ q.inst = r.inst ∧ q.kind = .raised
          then { q with count := r.count, time := r.time } else q) }, [])
    else ({ a with critical := a.critical ++ [r], nextSeq := a.nextSeq + 1 }, [])
  else if a.general.length < 1024 then
    ({ a with general := a.general ++ [r], nextSeq := a.nextSeq + 1 }, [])
  else if lowestSev a.general < r.sev then
    let (q, d) := dropNewest (lowestSev a.general) a.general
    ({ a with general := q ++ [r], nextSeq := a.nextSeq + 1 },
      match d with | some x => [(x.seq, x.part)] | none => [])
  else ({ a with nextSeq := a.nextSeq + 1 }, [(r.seq, r.part)])

/-- Is a session due a record that names a partition, or names none (R362)? -/
def Session.due (x : Session) (part : Option Nat) : Bool :=
  decide (x.role = 0 ∨ x.role = 3) || (decide (x.role = 1) && decide (part = some x.part))

/-- A session after a record due to it was displaced (R453): it is sent no more, and a GAP is due. -/
def Session.miss (x : Session) (seq : Nat) : Session :=
  if has x.unacked seq || decide (x.nextAlarm ≤ seq) then
    { x with unacked := removeN x.unacked seq, missing := insertN x.missing seq }
  else x

/-- Does a session still wait for a record (R453)? -/
def Session.awaits (x : Session) (r : AlarmRec) : Bool :=
  x.due r.part && (has x.unacked r.seq || decide (x.nextAlarm ≤ r.seq))

/-- A queue without the records that no session due to receive them still has to acknowledge (R453). -/
def State.awaited (s : State) (q : List AlarmRec) : List AlarmRec :=
  q.filter (fun r => s.pot.sessions.any (fun e => e.2.awaits r))

/-- Both queues pruned (R453). -/
def State.prune (s : State) : State :=
  { s with alarms := { s.alarms with critical := s.awaited s.alarms.critical, general := s.awaited s.alarms.general } }

/-- Displaced records noted by the sessions due to receive them. -/
def State.displace (s : State) (ds : List (Nat × Option Nat)) : State :=
  { s with pot := { s.pot with sessions := Tab.mapV (fun _ (x : Session) =>
      ds.foldl (fun x d => if x.due d.2 then x.miss d.1 else x) x) s.pot.sessions } }

/-- A record issued (R452, R453): queued where a session is due to receive it; what it displaces is counted and
noted.  The number of records lost. -/
def State.issue (s : State) (r : AlarmRec) : State × Nat :=
  if s.pot.sessions.any (fun e => e.2.due r.part) then
    let (a, ds) := s.alarms.enqueue r
    let t := { s with alarms := { a with secLost := min 0xFFFFFFFF (a.secLost + ds.length) } }
    ((t.displace ds).bumpBy OD.recordsLost 0 ds.length, ds.length)
  else ({ s with alarms := { s.alarms with nextSeq := s.alarms.nextSeq + 1 } }, 0)

/-- Any condition alarm at or above a severity is active, a folded one included. -/
def AlarmSt.anyActive (a : AlarmSt) (sev : Nat) : Bool :=
  a.entries.any (fun e => e.active && decide (sev ≤ e.sev))
    || a.folds.any (fun e => e.2.active && decide (sev ≤ e.2.sev))

/-- The highest severity active: 0 none, 1 INFO to 5 CRITICAL. -/
def AlarmSt.highest (a : AlarmSt) : Nat :=
  (a.entries ++ a.folds.map (·.2)).foldl (fun m e => if e.active then max m e.sev else m) 0

/-- Entries that are active. -/
def AlarmSt.activeCount (a : AlarmSt) : Nat := (a.entries.filter (·.active)).length

/-! ## Traces -/

/-- TRACE_WRITTEN and TRACE_DROPPED (0xB200.0E) raised by `w` and `d`. -/
def State.traceCount (s : State) (w d : Nat) : State :=
  let b := s.oct OD.traceWrittenTraceDropped
  s.setOct OD.traceWrittenTraceDropped 0 (leBytes 8 (leNat (b.take 8) + w) ++ leBytes 8 (leNat (b.drop 8) + d))

/-- A trace record enters the FIFO, or is dropped where it is full (R455); a gap record goes first
after a drop. -/
def State.traceRec (s : State) (r : TraceRec) : State :=
  if s.alarms.fifo.length < 4096 then
    match s.alarms.dropRun with
    | none => { s with alarms := { s.alarms with fifo := s.alarms.fifo ++ [r] } }
    | some (n, first, last) =>
      let g : TraceRec := ⟨0xFF, 0, r.air, n + unsigned 64 first * 2 ^ 64 + unsigned 64 last * 2 ^ 128⟩
      let t := { s with alarms := { s.alarms with
        fifo := s.alarms.fifo ++ (if s.alarms.fifo.length < 4095 then [g, r] else [g]), dropRun := none } }
      t.bump OD.traceGaps
  else
    { s.traceCount 0 1 with alarms := { s.alarms with
        secDropped := satInc s.alarms.secDropped
        dropRun := match s.alarms.dropRun with
          | none => some (1, s.time.air, s.time.air)
          | some (n, first, _) => some (n + 1, first, s.time.air) } }

/-- A trace record of source `src`, where TRACE_SOURCES selects it (R455).  The spec numbers no events
and lays out no data, so both are free values.  The alarm for a gap is left to the caller. -/
def State.traceRaw (s : State) (src : Nat) : State :=
  if bit (s.nat OD.traceSources) src then
    let t := s.traceRec ⟨src, Config.free s.freeCtr % 256, s.time.air, Config.free (s.freeCtr + 1) % 2 ^ 192⟩
    { t with freeCtr := s.freeCtr + 2 }
  else s

/-! ## Raising and clearing -/

/-- Is a record the RAISED one of a pair? -/
def AlarmRec.raisedOf (q : AlarmRec) (ident inst : Nat) : Bool := decide (q.ident = ident ∧ q.inst = inst ∧ q.kind = .raised)

/-- A queued CRITICAL record of a pair raised again takes its count and time (R452). -/
def State.inPlace (s : State) (ident inst n now : Nat) : State :=
  { s with alarms := { s.alarms with critical := s.alarms.critical.map (fun q =>
      if q.raisedOf ident inst then { q with count := n, time := now } else q) } }

/-- A raise and its record, without the alarm for records lost; the number of records lost. -/
def State.raiseOnce (s : State) (ident inst : Nat) (part : Option Nat) (detail : Nat := 0) : State × Nat :=
  let now := s.now.pack
  let (a, n, due, folded) := s.alarms.raise ident inst now
  let sev := severity ident
  let a := { a with
    secRaises := Tab.put 0 a.secRaises sev (min 0xFFFF (Tab.get 0 a.secRaises sev + 1))
    pinHold := if !isCondition ident && decide (s.nat OD.alarmPinSeverity ≤ sev) then some s.nowNs else a.pinHold }
  let t := { s with alarms := a }
  let t := if folded then t.bump OD.entriesFull else t
  let (t, lost) := if due then t.issue ⟨a.nextSeq, ident, sev, .raised, inst, part, n, now, detail⟩
    else (t.inPlace ident inst n now, 0)
  (t.traceRaw 5, lost)

/-- May a rule limited to one raise per `period` ns raise `ident` for `inst` now? -/
def State.mayRaise (s : State) (ident inst period : Nat) : Bool :=
  match Tab.find s.alarms.limits (ident * 65536 + inst) with
  | none => true
  | some t => decide (t + period ≤ s.nowNs)

/-- The moment of a rate-limited raise noted. -/
def State.noteRaise (s : State) (ident inst : Nat) : State :=
  { s with alarms := { s.alarms with limits := Tab.set s.alarms.limits (ident * 65536 + inst) s.nowNs } }

/-- Alarm 0x0A10 where a gap record was written since `s`, at most once per second (R455). -/
def State.gapAlarm (s t : State) : State :=
  if s.num OD.traceGaps ≠ t.num OD.traceGaps ∧ t.mayRaise 0x0A10 0 1000000000 then
    ((t.noteRaise 0x0A10 0).raiseOnce 0x0A10 0 none).1
  else t

/-- An alarm raised (R449): its entry updated and its record queued where one is due.  Records lost
raise alarm 0x0A0F at most once per second (R452).  `detail` is what the raising rule records (R451). -/
def State.raise (s : State) (ident : Nat) (inst : Nat := 0) (part : Option Nat := none) (detail : Nat := 0) : State :=
  let (t, lost) := s.raiseOnce ident inst part detail
  let t := if lost ≠ 0 ∧ t.mayRaise 0x0A0F 0 1000000000 then
      ((t.noteRaise 0x0A0F 0).raiseOnce 0x0A0F 0 none).1 else t
  s.gapAlarm t

/-- A trace record of source `src`, where TRACE_SOURCES selects it (R455). -/
def State.trace (s : State) (src : Nat) : State := s.gapAlarm (s.traceRaw src)

/-- An alarm raised at most once per `period` ns for its instance. -/
def State.raiseAtMost (s : State) (period ident : Nat) (inst : Nat := 0) (part : Option Nat := none) :
    State :=
  if s.mayRaise ident inst period then (s.noteRaise ident inst).raise ident inst part else s

/-- One second in nanoseconds, the usual limit of a raising rule. -/
def oneSecond : Nat := 1000000000

/-- The condition of an alarm ends (R450): its entry becomes inactive and a CLEARED record is issued,
also for a pair that was folded (R449). -/
def State.clear (s : State) (ident : Nat) (inst : Nat := 0) (part : Option Nat := none) : State :=
  let cleared (t : State) (n : Nat) : State :=
    (t.issue ⟨t.alarms.nextSeq, ident, severity ident, .cleared, inst, part, n, s.now.pack, 0⟩).1
  match s.alarms.entries.find? (·.is ident inst) with
  | some e =>
    if e.active then
      cleared { s with alarms := { s.alarms with entries := s.alarms.entries.map (fun (x : AlarmEntry) =>
        if x.is ident inst then { x with active := false } else x) } } e.count
    else s
  | none =>
    if s.alarms.foldedOn.contains (ident, inst) then
      let on := s.alarms.foldedOn.filter (fun p => decide (p ≠ (ident, inst)))
      let a := { s.alarms with
        foldedOn := on
        folds := Tab.mapV (fun k e => if k = ident then { e with active := on.any (fun p => decide (p.1 = ident)) } else e) s.alarms.folds }
      cleared { s with alarms := a } (match Tab.find a.folds ident with | some e => e.count | none => 0)
    else s

/-- A condition alarm follows its condition: raised when it arises, cleared when it ends. -/
def State.condition (s : State) (ident inst : Nat) (stands : Bool) : State :=
  let active := s.alarms.entries.any (fun e => e.is ident inst && e.active) || s.alarms.foldedOn.contains (ident, inst)
  if stands then (if active then s else s.raise ident inst) else s.clear ident inst

/-- A condition alarm stands for an instance. -/
def State.stands (s : State) (ident inst : Nat) : Bool :=
  s.alarms.entries.any (fun e => e.is ident inst && e.active) || s.alarms.foldedOn.contains (ident, inst)

/-- The level of ALARM_N: asserted while a condition alarm at or above ALARM_PIN_SEVERITY is active and
for 100 ms after an event alarm at or above it (R453). -/
def State.alarmPin (s : State) : Bool :=
  s.alarms.anyActive (s.nat OD.alarmPinSeverity) || s.alarms.pinHold.isSome

end Sys2Proof.Machine
end

