-- ==== Sys2Proof/Machine/ModeOps.lean ====
section
/-!
DEFINITION. What every change of the device mode does (R370, R371) and the DEGRADED causes (R377).
-/

namespace Sys2Proof.Machine

open Sys2Proof

/-- The code of a mode (Table 13-1). -/
def Mode.code : Mode → Nat
  | .off => 0 | .standby => 1 | .boot => 2 | .configure => 3 | .run => 4 | .degraded => 5
  | .upgrade => 6 | .safe => 7

/-- The spine (Galley, slug table, routers, DMA engines) is powered in every mode from BOOT upwards (R18). -/
def State.spineOn (s : State) : Bool := decide (s.mode.mode ≠ .off) && decide (s.mode.mode ≠ .standby)

/-- Galley presses and the fronthaul carries all traffic in RUN, DEGRADED and UPGRADE (Table 13-1). -/
def Mode.runs (m : Mode) : Bool := m = .run || m = .degraded || m = .upgrade

/-- A change of the mode: LAST_TRANSITION, LAST_TRANSITION_TIME and TRANSITIONS written (R371), the
condition alarms 0x0A01 and 0x0A02 following DEGRADED and SAFE, and 0x0A05 raised when DEGRADED is
left for RUN. `cause` is the causing alarm's identifier, 0 for a request. -/
def State.enterMode (s : State) (m : Mode) (cause : Nat) : State :=
  let from_ := s.mode.mode
  let t := { s with mode := { s.mode with mode := m, target := none, draining := false } }
  let t := t.setNum OD.lastTransition 0 ((from_.code + m.code * 256 + cause * 65536 : Nat) : Int)
  let t := t.setNum OD.lastTransitionTime 0 (s.now.pack : Nat)
  let t := t.bump OD.transitions
  let t := if m = .degraded then (if from_ = .degraded then t else t.raise 0x0A01) else t.clear 0x0A01
  let t := if m = .safe then (if from_ = .safe then t else t.raise 0x0A02) else t.clear 0x0A02
  if from_ = .degraded ∧ m = .run then t.raise 0x0A05 else t

/-- The bits of DEGRADED_CAUSES that are set. -/
def State.causes (s : State) : Nat := s.nat OD.degradedCauses

/-- A bit of DEGRADED_CAUSES set or cleared in the cycle of its condition (R377).  In RUN a bit that is
set enters DEGRADED (row 10 of Table 13-2), where a drain in progress goes on: row 10 is none of those that
pre-empt it (R373); RUN is entered again by DEGRADED_EXIT. -/
def State.setCause (s : State) (k : Nat) (b : Bool) : State :=
  let t := s.setNum OD.degradedCauses 0 (withBit s.causes k b : Nat)
  if b && s.mode.mode = .run then
    let t := t.enterMode .degraded 0x0A01
    { t with mode := { t.mode with target := s.mode.target, draining := s.mode.draining } }
  else t

/-- RUN, or DEGRADED where a cause stands (R370). -/
def State.runMode (s : State) : Mode := if s.causes = 0 then .run else .degraded

/-- A transition is in progress (R373). -/
def State.inTransition (s : State) : Bool := s.mode.target.isSome

end Sys2Proof.Machine
end

