-- ==== Sys2Proof/Machine/Hampers.lean ====
section
/-!
DEFINITION. Buffers of the hampers (R313–R316): giving out, charging, sealing and releasing them.
-/

namespace Sys2Proof.Machine

open Sys2Proof

/-- The hamper a handle names: h[23:18] (R313). -/
def hampOf (h : Nat) : Nat := bits h 23 18

/-- The buffer a handle names: h[17:0] (R313). -/
def bufOf (h : Nat) : Nat := bits h 17 0

/-- The handle of buffer `b` of hamper `n`. -/
def handleOf (n b : Nat) : Nat := n * 262144 + b

/-- Bytes of a buffer of a hamper. -/
def Hamper.bytes (h : Hamper) : Nat := 2 ^ (8 + h.size)

/-- Free buffers of a hamper. -/
def Hamper.free (h : Hamper) : Nat := (h.count - h.fresh) + h.freed.length

/-- An enabled hamper. -/
def State.hamper (s : State) (n : Nat) : Option Hamper := Tab.find s.fab.hampers n

/-- A hamper replaced. -/
def State.setHamper (s : State) (n : Nat) (h : Hamper) : State :=
  { s with fab := { s.fab with hampers := Tab.set s.fab.hampers n h } }

/-- The address of a buffer: BASE + h[17:0] × 2^(8 + SIZE) (R313); none where its hamper is not enabled
or the buffer lies beyond COUNT. -/
def State.bufAddr (s : State) (h : Nat) : Option Nat :=
  match s.hamper (hampOf h) with
  | some p => if bufOf h < p.count then some (p.base + bufOf h * p.bytes) else none
  | none => none

/-- A buffer in use. -/
def State.bufUsed (s : State) (h : Nat) : Bool :=
  match s.hamper (hampOf h) with
  | some p => (Tab.find p.inUse (bufOf h)).isSome
  | none => false

/-- A buffer is sealed (R315). -/
def State.bufSealed (s : State) (h : Nat) : Bool :=
  match s.hamper (hampOf h) with
  | some p => p.sealedB.contains (bufOf h)
  | none => false

/-- The oldest free buffer of a pool and the pool without it (R314): the buffers that have never been
given out are free since the pool was built, in ascending order (DESIGN CHOICE), and precede those
freed since. -/
def Hamper.take (h : Hamper) : Option (Nat × Hamper) :=
  if h.fresh < h.count then some (h.fresh, { h with fresh := h.fresh + 1 })
  else match h.freed with
    | b :: t => some (b, { h with freed := t })
    | [] => none

/-- May a requester of a partition be served by a hamper (R314)? -/
def Hamper.serves (h : Hamper) (part : Nat) (priv : Bool) : Bool :=
  if h.owner = 0xFFFF then priv else decide (h.owner = part)

/-- A buffer given out and charged (R314): ERR 9, counted in ALLOC_FAILS, where none is free or the
requester is not served; falling below LOW_WATER raises alarm 0x0806. -/
def State.allocBuf (s : State) (n part : Nat) (priv : Bool) (ch : Charge) : Option Nat × State :=
  match s.hamper n with
  | none => (none, (s.bump OD.allocFails n).trace 4)
  | some p =>
    if p.serves part priv then
      match p.take with
      | none => (none, (s.bump OD.allocFails n).trace 4)
      | some (b, q) =>
        let q := { q with inUse := Tab.set q.inUse b ch }
        let t := s.setHamper n q
        let t := t.setNum OD.freeLow n (min (t.num OD.freeLow n) q.free)
        let low := s.nat OD.lowWater n
        (some (handleOf n b), if q.free < low ∧ low ≤ p.free then t.raise 0x0806 n else t)
    else (none, (s.bump OD.allocFails n).trace 4)

/-- Units whose job waits for a buffer of hamper `n` (R178) and that the hamper serves. -/
def State.waiters (s : State) (n : Nat) : List Nat :=
  (s.edge.jobs.filter (fun e =>
    e.2.waitAlloc && decide (bits e.2.desc 21 16 = n) &&
      (match s.hamper n, Tab.find s.galley.slugs e.2.handle with
        | some p, some sl => p.serves sl.part false
        | _, _ => false))).map (·.1)

/-- A waiting job is given one buffer (R178). -/
def State.giveWaiter (s : State) (n unit : Nat) : State :=
  match Tab.find s.edge.jobs unit with
  | none => s
  | some j =>
    match Tab.find s.galley.slugs j.handle with
    | none => s
    | some sl =>
      match s.allocBuf n sl.part false (.attempt j.handle j.attempt) with
      | (some h, t) =>
        let outs := j.outs ++ [h]
        let j' := { j with outs := outs, waitAlloc := decide (outs.length < j.need) }
        { t with edge := { t.edge with jobs := Tab.set t.edge.jobs unit j' } }
      | (none, _) => s

/-- A freed buffer is offered to the jobs that wait on its hamper (R178).  Which of several obtains it
is not specified: a free value picks one. -/
def State.offer (s : State) (n : Nat) : State :=
  match s.waiters n with
  | [] => s
  | w :: ws =>
    let k := Config.free s.freeCtr % (ws.length + 1)
    ({ s with freeCtr := s.freeCtr + 1 }).giveWaiter n ((w :: ws).getD k w)

/-- A buffer released to its hamper: its charge and its seal go (R315), it is the newest free one, and
no flow fills it any more. -/
def State.freeBuf (s : State) (h : Nat) : State :=
  match s.hamper (hampOf h) with
  | none => s
  | some p =>
    if (Tab.find p.inUse (bufOf h)).isSome then
      let t := s.setHamper (hampOf h) { p with
        inUse := Tab.del p.inUse (bufOf h)
        sealedB := removeN p.sealedB (bufOf h)
        freed := p.freed ++ [bufOf h] }
      ({ t with front := { t.front with
        fills := t.front.fills.filter (fun x => decide (x.handle ≠ some h)) } }).offer (hampOf h)
    else s

/-- Several buffers released, in order. -/
def State.freeBufs (s : State) (hs : List Nat) : State := hs.foldl State.freeBuf s

/-- A buffer sealed or unsealed (R315). -/
def State.sealBuf (s : State) (h : Nat) (b : Bool) : State :=
  match s.hamper (hampOf h) with
  | none => s
  | some p => s.setHamper (hampOf h) { p with sealedB := putN p.sealedB (bufOf h) b }

/-- A buffer's charge replaced. -/
def State.chargeBuf (s : State) (h : Nat) (c : Charge) : State :=
  match s.hamper (hampOf h) with
  | none => s
  | some p => s.setHamper (hampOf h) { p with inUse := Tab.set p.inUse (bufOf h) c }

/-- Handles of the buffers charged to an attempt, by hamper and buffer. -/
def State.chargedTo (s : State) (handle att : Nat) : List Nat :=
  s.fab.hampers.flatMap (fun e =>
    (e.2.inUse.filter (fun u => decide (u.2 = .attempt handle att))).map (fun u => handleOf e.1 u.1))

/-- The buffers an attempt allocated and that no commit named are released (R98). -/
def State.freeAttempt (s : State) (handle att : Nat) : State := s.freeBufs (s.chargedTo handle att)

/-- Every buffer a partition's hampers have in use. -/
def State.usedOf (s : State) (n : Nat) : List Nat :=
  match s.hamper n with
  | some p => p.inUse.map (fun u => handleOf n u.1)
  | none => []

end Sys2Proof.Machine
end

