-- ==== Sys2Proof/Machine/GalleyOps.lean ====
section
/-!
DEFINITION. What Galley does to slugs, impressions, counters and executor units (chapter 03): the
operations its commands and every other family's rules share.
-/

namespace Sys2Proof.Machine

open Sys2Proof

/-! ## Units -/

/-- Units fitted in each executor class (Table 03-17). -/
def unitsOf (cls : Nat) : Nat :=
  [96, 8, 16, 8, 16, 4, 4, 2, 4, 4, 12, 8].getD cls 0

/-- The key of a unit: 256·class + unit. -/
def unitKey (cls u : Nat) : Nat := 256 * cls + u

/-- A unit's number as UNIT_SELECT counts it (Table 16-11). -/
def unitNumber (cls u : Nat) : Nat :=
  [0, 166, 96, 112, 120, 136, 140, 144, 146, 150, 154, 174].getD cls 0 + u

/-- The class and unit of a UNIT_SELECT number. -/
def unitOfNumber (n : Nat) : Option (Nat × Nat) :=
  if n < 96 then some (0, n) else if n < 112 then some (2, n - 96) else if n < 120 then some (3, n - 112)
  else if n < 136 then some (4, n - 120) else if n < 140 then some (5, n - 136)
  else if n < 144 then some (6, n - 140) else if n < 146 then some (7, n - 144)
  else if n < 150 then some (8, n - 146) else if n < 154 then some (9, n - 150)
  else if n < 166 then some (10, n - 154) else if n < 174 then some (1, n - 166)
  else if n < 182 then some (11, n - 174) else none

/-- The class and unit of an engine number in the order of OD 0x8000 (R203). -/
def engineUnit (e : Nat) : Nat × Nat :=
  if e < 16 then (2, e) else if e < 24 then (3, e - 16) else if e < 40 then (4, e - 24)
  else if e < 44 then (5, e - 40) else if e < 48 then (6, e - 44) else if e < 50 then (7, e - 48)
  else (8, e - 50)

/-- The engine number of a unit (R203). -/
def engineNumber (cls u : Nat) : Nat := [0, 0, 0, 16, 24, 40, 44, 48, 50].getD cls 0 + u

/-- Capability bits of an executor class without an image header (Table 06-14, R85). -/
def classCaps (cls : Nat) : Nat :=
  if cls = 2 then 0xF else if cls = 3 then 0xF else if cls = 4 then 0x7 else if cls = 5 then 0x3
  else if cls = 6 then 0x7 else if cls = 7 then 0x3 else if cls = 8 then 0xF else 0

/-- A power domain. -/
def State.domain (s : State) (d : Nat) : Domain := Tab.get {} s.fab.domains d

/-- A power domain replaced. -/
def State.setDomain (s : State) (d : Nat) (x : Domain) : State :=
  { s with fab := { s.fab with domains := Tab.put {} s.fab.domains d x } }

/-- The power domain of a unit (Table 01-2); none for the DMA engines, which belong to the spine. -/
def unitDomain (cls u : Nat) : Option Nat :=
  match cls with
  | 0 => some u
  | 1 => some (198 + u)
  | 2 => some (132 + u)
  | 3 => some (148 + u)
  | 4 => some (156 + u)
  | 5 => some (172 + u)
  | 6 => some (176 + u)
  | 7 => some (180 + u)
  | 8 => some (196 + u / 2)
  | 9 => some (182 + u)
  | 10 => some (186 + u / 2)
  | _ => none

/-- A unit. -/
def State.unit (s : State) (cls u : Nat) : UnitSt := Tab.get {} s.galley.units (unitKey cls u)

/-- A unit replaced. -/
def State.setUnit (s : State) (cls u : Nat) (x : UnitSt) : State :=
  { s with galley := { s.galley with units := Tab.put {} s.galley.units (unitKey cls u) x } }

/-- A unit whose state counts as healthy: neither retired nor halted. -/
def UnitSt.healthy (x : UnitSt) : Bool := decide (x.state ≠ .retired) && decide (x.state ≠ .halted)

/-- Healthy units of a class. -/
def State.healthyUnits (s : State) (cls : Nat) : List Nat :=
  (List.range (unitsOf cls)).filter (fun u => (s.unit cls u).healthy)

/-- Reserves of a class now, in ascending unit number. -/
def State.reserves (s : State) (cls : Nat) : List Nat :=
  (List.range (unitsOf cls)).filter (fun u => decide ((s.unit cls u).state = .reserve))

/-- Reserves that may be promoted: not under test (R436). -/
def State.promotable (s : State) (cls : Nat) : List Nat :=
  (s.reserves cls).filter (fun u => (s.unit cls u).testing.isNone)

/-- Healthy units that are neither reserve nor retired. -/
def State.activeUnits (s : State) (cls : Nat) : List Nat :=
  (s.healthyUnits cls).filter (fun u => decide ((s.unit cls u).state ≠ .reserve))

/-- Classes with a reserve count: VX and the seven engine classes (R21). -/
def hasReserve (cls : Nat) : Bool := decide (cls = 0) || decide (2 ≤ cls ∧ cls ≤ 8)

/-- Pair `k` of control cores runs in lockstep (R437). -/
def State.paired (s : State) (k : Nat) : Bool := bit (s.govN OD.lockstepPairs) k && !has s.res.unpaired k

/-- CCn is the second core of a lockstep pair in force (R437). -/
def State.pairedSecond (s : State) (cc : Nat) : Bool := decide (cc % 2 = 1) && s.paired (cc / 2)

/-! ## Slugs and their arguments -/

/-- A slug read from the 512 bits of a descriptor (Table 03-2), its status word left out. -/
def slugOf (d : Nat) : Slug where
  raw := d % 2 ^ 480
  kind := bits d 7 0
  cls := bits d 11 8
  prio := bits d 13 12
  commit := if bits d 15 14 = 1 then .external else if bits d 15 14 = 2 then .inPlace else .staged
  part := bits d 25 16
  fmtVer := bits d 28 26
  forme := bits d 43 32
  imp := bits d 63 44
  deadline := bits d 95 64
  est := bits d 111 96
  initDep := bits d 127 112
  caps := bits d 159 128
  affinity := bits d 175 160
  expiry := if bits d 177 176 = 1 then .abortImpression else if bits d 177 176 = 2 then .lateRun else .skip
  retryLimit := bits d 179 178
  succ := (List.range (bits d 183 180)).map (fun k => bits d (207 + 16 * k) (192 + 16 * k))
  ovfPtr := bits d 367 320
  ovfCount := bits d 383 368
  ovf := []
  arg0 := bits d 415 384
  arg1 := bits d 447 416
  arg2 := bits d 479 448
  state := .waiting
  depLive := bits d 127 112

/-- The codes of a slug's state and result (Table 03-2). -/
def SlugState.code : SlugState → Nat | .free => 0 | .waiting => 1 | .ready => 2 | .running => 3 | .done => 4
def SlugResult.code : SlugResult → Nat
  | .ok => 0 | .expired => 1 | .fault => 2 | .aborted => 3 | .hostUnavailable => 4 | .inputInvalid => 5

/-- The 512 bits of a slug as the slug table holds it: bits [479:0] as pressed or submitted, and the status word
(Table 03-2, R83). -/
def Slug.tableWord (x : Slug) : Nat :=
  x.raw + x.state.code * 2 ^ 480 + x.result.code * 2 ^ 483 + x.attempt * 2 ^ 486 + (if x.taint then 2 ^ 488 else 0)
    + x.depLive % 65536 * 2 ^ 489 + x.executor * 2 ^ 505

/-- A slug of the table; none where the handle is FREE. -/
def State.slug (s : State) (h : Nat) : Option Slug := Tab.find s.galley.slugs h

/-- A slug replaced. -/
def State.setSlug (s : State) (h : Nat) (x : Slug) : State :=
  { s with galley := { s.galley with slugs := Tab.set s.galley.slugs h x } }

/-- A live impression. -/
def State.imp (s : State) (q : Nat) : Option Impression := Tab.find s.galley.imps q

/-- An impression replaced. -/
def State.setImp (s : State) (q : Nat) (x : Impression) : State :=
  { s with galley := { s.galley with imps := Tab.set s.galley.imps q x } }

/-- The device physical address an argument pointer names (Table 03-3); none for none and for a binding
reference. -/
def State.argAddr (s : State) (a : Nat) : Option Nat :=
  match bits a 31 30 with
  | 1 => s.bufAddr (bits a 23 0)
  | 3 => if bit a 29 then some (0x1000000000 + bits a 28 0 * 64) else some (bits a 28 0 * 128)
  | _ => none

/-- An argument as delivered (R84): a binding reference is replaced by the handle its entry holds; the
flag says that the entry holds none. -/
def resolveArg (m : Impression) (a : Nat) : Option Nat × Bool :=
  match bits a 31 30 with
  | 0 => (none, false)
  | 2 => match Tab.find m.bindings (bits a 9 0) with
    | some h => (some (0x40000000 + h), false)
    | none => (none, true)
  | _ => (some a, false)

/-! ## Ready lists -/

/-- The deadline bucket of a slug: the whole microsecond of air time that holds it (R99). -/
def bucket (a : Int) (dl : Nat) : Int := extend32 dl a * 25 / 12288

/-- Is `x` served ahead of `y` in one ready list (R99)? -/
def servedBefore (a : Int) (x y : Slug) : Bool :=
  if bucket a x.deadline = bucket a y.deadline then decide (diff32 x.seq y.seq < 0)
  else decide (bucket a x.deadline < bucket a y.deadline)

/-- An entry inserted into a ready list in the order of R99. -/
def insertReady (a : Int) (e : Nat × Slug) : List (Nat × Slug) → List (Nat × Slug)
  | [] => [e]
  | y :: t => if servedBefore a y.2 e.2 then y :: insertReady a e t else e :: y :: t

/-- The ready list of a priority and class, in the order in which it is served. -/
def State.readyList (s : State) (p cls : Nat) : List (Nat × Slug) :=
  (s.galley.slugs.filter (fun e => decide (e.2.state = .ready ∧ e.2.prio = p ∧ e.2.cls = cls))).foldl
    (fun l e => insertReady s.time.air e l) []

/-- A slug enters READY: it joins its ready list (R97). -/
def State.makeReady (s : State) (h : Nat) (x : Slug) : State :=
  let l := x.prio * 16 + x.cls
  let q := Tab.get 0 s.galley.readySeq l
  { s with galley := { s.galley with
      slugs := Tab.set s.galley.slugs h { x with state := .ready, seq := q, readyAt := s.time.air }
      readySeq := Tab.put 0 s.galley.readySeq l ((q + 1) % 4294967296) } }

/-! ## Stall detector -/

/-- Slugs of a partition in a given state. -/
def State.countSlugs (s : State) (p : Nat) (f : Slug → Bool) : Nat :=
  (s.galley.slugs.filter (fun e => decide (e.2.part = p) && f e.2)).length

/-- Armed counters of a partition. -/
def State.armedCounters (s : State) (p : Nat) : Nat :=
  (s.galley.counters.filter (fun e => decide (e.2.part = p) && e.2.armed)).length

/-- Slugs that are not FREE (LIVE_SLUGS, Table 03-7). -/
def State.liveSlugs (s : State) : Nat := (s.galley.slugs.filter (fun e => decide (e.2.state ≠ .free))).length

/-- The stall condition of a partition (R104). -/
def State.stalled (s : State) (p : Nat) : Bool :=
  decide (0 < s.countSlugs p (fun x => x.state ≠ .free)) && decide (s.countSlugs p (fun x => x.state = .ready) = 0)
    && decide (s.countSlugs p (fun x => x.state = .running) = 0) && decide (s.armedCounters p = 0)

/-- The stall condition of a partition evaluated (R104): the moment it began is kept while it holds. -/
def State.stallEval (s : State) (p : Nat) : State :=
  let x := Tab.get {} s.galley.stalls p
  let y : Stall := if s.stalled p then { x with since := some (x.since.getD s.time.air) } else {}
  { s with galley := { s.galley with stalls := Tab.put {} s.galley.stalls p y } }

/-! ## Dependences, ends and closing -/

/-- A dependence of a slug met (R97): one less to wait for, READY at none; a decrement of a slug that is
not WAITING changes nothing, and counts where firmware asked for it (R103). -/
def State.decrement (s : State) (h : Nat) (taint firmware : Bool) : State :=
  match s.slug h with
  | some x =>
    if x.state = .waiting then
      let y := { x with depLive := x.depLive - 1, taint := x.taint || taint }
      if y.depLive = 0 then s.makeReady h y else s.setSlug h y
    else if firmware then s.bump OD.badDecrements else s
  | none => if firmware then s.bump OD.badDecrements else s

/-- The overflow successors of a slug: those of its forme, or the list of 16-bit handles read at
OVF_PTR when a submitted slug completes (R103). -/
def State.overflow (s : State) (x : Slug) : List Nat :=
  if x.submitted then (List.range x.ovfCount).map (fun i => s.loadN (x.ovfPtr + 2 * i) 2) else x.ovf

/-- Every successor decremented, inline first and then the overflow list in order (R98). -/
def State.decrementSuccs (s : State) (x : Slug) (taint : Bool) : State :=
  (x.succ ++ s.overflow x).foldl (fun t h => t.decrement h taint x.submitted) s

/-- The count a result raises (Table 03-7). -/
def State.countResult (s : State) (r : SlugResult) : State :=
  match r with
  | .ok => s.bump OD.completedOk
  | .expired => s.bump OD.expiredCount
  | .aborted => s.bump OD.abortedCount
  | _ => s

/-- A slug ends DONE with a result. -/
def State.endSlug (s : State) (h : Nat) (x : Slug) (r : SlugResult) : State :=
  (s.setSlug h { x with state := .done, result := r, abortPending := false }).countResult r

/-- A live impression other than `q` names a buffer in a binding entry (R93). -/
def State.boundElsewhere (s : State) (q h : Nat) : Bool :=
  s.galley.imps.any (fun e => decide (e.1 ≠ q) && e.2.bindings.any (fun b => decide (b.2 = h)))

/-- Buffers of fenced attempts that neither a fence nor a live impression holds any more are released
(R102). -/
def State.freeFenced (s : State) : State :=
  let ok (e : Nat × Nat × List Nat) : Bool :=
    !(Tab.get {} s.galley.units e.1 : UnitSt).fenced && (s.imp e.2.1).isNone
  let t := { s with galley := { s.galley with fencedBufs := s.galley.fencedBufs.filter (fun e => !ok e) } }
  t.freeBufs ((s.galley.fencedBufs.filter ok).flatMap (·.2.2))

/-- An armed counter of an impression other than `q` holds a buffer to bind when it fires (R243). -/
def State.countedElsewhere (s : State) (q h : Nat) : Bool :=
  s.galley.counters.any (fun e => decide (e.2.imp ≠ q) && e.2.armed && e.2.binds.any (fun b => decide (b.2 = h)))

/-- An impression closes (R93): its slugs return to FREE, its counters to the pool, and every buffer its
binding entries name or its counters still hold to its hamper unless another live impression holds it too. -/
def State.closeImp (s : State) (q : Nat) (m : Impression) : State :=
  let held := m.counters.flatMap (fun c => match Tab.find s.galley.counters c with | some x => x.binds.map (·.2) | none => [])
  let bufs := ((m.bindings.map (·.2) ++ held).filter (fun h => !s.boundElsewhere q h && !s.countedElsewhere q h)).eraseDups
  let t := { s with galley := { s.galley with
    slugs := s.galley.slugs.filter (fun e => !has m.slugs e.1)
    counters := s.galley.counters.filter (fun e => !has m.counters e.1)
    imps := Tab.del s.galley.imps q } }
  ((t.freeBufs bufs).freeFenced).stallEval m.part

/-- Does every slug of an impression stand at DONE? -/
def State.allDone (s : State) (m : Impression) : Bool :=
  m.slugs.all (fun h => match s.slug h with | some x => decide (x.state = .done) | none => true)

/-- An impression whose slugs are all DONE closes; the stall condition of its partition is evaluated. -/
def State.settle (s : State) (q : Nat) : State :=
  match s.imp q with
  | some m => if m.released && s.allDone m then s.closeImp q m else s.stallEval m.part
  | none => s

/-- A slug ends with a result other than OK, its successors decremented and tainted and the staging of
its attempt released (Table 03-6). -/
def State.endTainted (s : State) (h : Nat) (x : Slug) (r : SlugResult) : State :=
  ((((s.endSlug h x r).freeAttempt h x.attempt).decrementSuccs x true)).settle x.imp

/-- A slug ends ABORTED, the staging of its attempt released (R100, R101). -/
def State.endAborted (s : State) (h : Nat) (x : Slug) : State :=
  ((s.endSlug h x .aborted).freeAttempt h x.attempt).settle x.imp

/-- What an abort does to one slug (R101): WAITING and READY end ABORTED, RUNNING is marked pending, and
a RUNNING TIMER slug ends at once (R109).  A slug pressed in an impression that is not yet released ends ABORTED too
(DESIGN CHOICE: the spec speaks of released ones). -/
def State.abortSlug (s : State) (h : Nat) : State :=
  match s.slug h with
  | some x =>
    match x.state with
    | .free => s.endSlug h x .aborted
    | .waiting => s.endSlug h x .aborted
    | .ready => s.endSlug h x .aborted
    | .running => if x.cls = 14 then s.endSlug h x .aborted else s.setSlug h { x with abortPending := true }
    | .done => s
  | none => s

/-- An impression aborted (R101). `counted` for the three causes that count it and raise alarm 0x0504:
expiry under ABORT_IMPRESSION, stall action ABORT and partition reset. -/
def State.abortImp (s : State) (counted : Bool) (q : Nat) : State :=
  match s.imp q with
  | none => s
  | some m =>
    let t := m.slugs.foldl State.abortSlug s
    let t := t.setImp q { m with aborted := true, released := true }
    let t := if counted then (t.bump OD.impressionsAborted).raise 0x0504 m.part (some m.part) else t
    t.settle q

/-- Every live impression of a partition. -/
def State.impsOf (s : State) (p : Nat) : List Nat :=
  (s.galley.imps.filter (fun e => decide (e.2.part = p))).map (·.1)

/-- Every live impression aborted, uncounted (R375, R376). -/
def State.abortAll (s : State) : State := (s.galley.imps.map (·.1)).foldl (State.abortImp · false) s

/-! ## Event counters -/

/-- The buffers a counter carries bound as it fires (R243): an entry at or above BINDING_COUNT is not
bound, its buffer is released unless another impression holds it, and the object counts it. -/
def State.bindAll (s : State) (q : Nat) (bs : List (Nat × Nat)) : State :=
  bs.foldl (fun t b =>
    match t.imp q with
    | some m =>
      if b.1 < m.bindCount then
        ((t.setImp q { m with bindings := Tab.set m.bindings b.1 b.2 }).sealBuf b.2 true).chargeBuf b.2 .bound
      else (if t.boundElsewhere q b.2 || t.countedElsewhere q b.2 then t else t.freeBuf b.2).bump OD.bindOutOfRange
    | none => t) s

/-- A counter fires (R94, R95): its waiters are decremented, tainted where it fires short or counted an
invalid event or carries a buffer for an entry out of range (R243), and it disarms. -/
def State.fireCounter (s : State) (c : Nat) (short : Bool) : State :=
  match Tab.find s.galley.counters c with
  | none => s
  | some x =>
    let t := { s with galley := { s.galley with
      counters := Tab.set s.galley.counters c { x with armed := false, binds := [] } } }
    let t := if short then t.bump OD.shortFires else t
    let beyond := x.binds.any (fun b => match s.imp x.imp with | some m => decide (m.bindCount ≤ b.1) | none => false)
    let t := t.bindAll x.imp x.binds
    let t := x.waiters.foldl (fun u h => u.decrement h (short || x.invalid || beyond) false) t
    (t.trace 2).stallEval x.part

/-- One event counted by one counter, which fires where its impression is released and THRESHOLD is
reached (R91, R94). -/
def State.countEvent (s : State) (n : Nat) (invalid : Bool) (binds : List (Nat × Nat)) (c : Nat) : State :=
  match Tab.find s.galley.counters c with
  | none => s
  | some x =>
    let y := { x with count := x.count + n, invalid := x.invalid || invalid, binds := (x.binds ++ binds).eraseDups }
    let t := { s with galley := { s.galley with counters := Tab.set s.galley.counters c y } }
    let released := match s.imp x.imp with | some m => m.released | none => false
    if released && decide (y.threshold ≤ y.count) then t.fireCounter c false else t

/-- The armed counters an event matches: source, key and, but for source 4, the event's partition (R94). -/
def State.matching (s : State) (src key part : Nat) : List Nat :=
  (s.galley.counters.filter (fun e =>
    e.2.armed && decide (e.2.source = src ∧ e.2.key = key) && (decide (src = 4) || decide (e.2.part = part)))).map (·.1)

/-- Does a fronthaul event key match a counter's key (R242): the same group, and the same symbol or the counter's
symbol 15? -/
def uKeyMatch (ckey key : Nat) : Bool :=
  decide (ckey % 65536 = key % 65536 ∧ ckey / 1048576 = key / 1048576)
    && (decide (ckey / 65536 % 16 = 15) || decide (ckey / 65536 % 16 = key / 65536 % 16))

/-- The armed counters a fronthaul event matches: those of the impressions of the flow's cell whose slot holds the
symbol (R242). -/
def State.uMatching (s : State) (key cell tick : Nat) : List Nat :=
  (s.galley.counters.filter (fun e =>
    e.2.armed && decide (e.2.source = 0) && uKeyMatch e.2.key key &&
      (match s.imp e.2.imp with
        | some m => decide (m.cell = cell ∧ airTickOf m.boundary = tick % 281474976710656)
        | none => false))).map (·.1)

/-- An event reaches the counters (R94, R95): every matching one counts it; one that matches none is late,
is dropped with its buffers released, and is counted. -/
def State.event (s : State) (src key part n : Nat) (invalid : Bool) (binds : List (Nat × Nat)) : State :=
  match s.matching src key part with
  | [] => ((s.freeBufs (binds.map (·.2))).bump OD.lateEvents).raiseAtMost oneSecond 0x050A part (some part)
  | cs => cs.foldl (fun t c => t.countEvent n invalid binds c) s

/-- An event of source 4 (R94): it may reach a counter of any partition.  One that matches none is late; it belongs to no
partition, so its alarm names none (DESIGN CHOICE). -/
def State.firmwareEvent (s : State) (key : Nat) : State :=
  match s.matching 4 key 0 with
  | [] => (s.bump OD.lateEvents).raiseAtMost oneSecond 0x050A 0
  | cs => cs.foldl (fun t c => t.countEvent 1 false [] c) s

/-! ## Faults -/

/-- A record of the fault log, at most 64, newest last (Table 16-11). -/
def State.logFault (s : State) (unit cause outcome : Nat) : State :=
  let l := s.res.faultLog ++ [⟨s.now.pack, unit, cause, outcome⟩]
  { s with res := { s.res with faultLog := l.drop (l.length - 64) } }

/-- A fault enters the fault log, or the spine fault queue while the recovery pair does not run: 16
entries, each further one counted as lost (R440). -/
def State.noteFault (s : State) (unit cause outcome : Nat) : State :=
  if s.res.recovery = .running then s.logFault unit cause outcome
  else if s.res.spineQ.length < 16 then
    { s with res := { s.res with spineQ := s.res.spineQ ++ [⟨s.now.pack, unit, cause, outcome⟩] } }
  else s.bump OD.spineQueueLost

/-- Is the domain of a unit powered and awake? -/
def State.unitAwake (s : State) (cls u : Nat) : Bool :=
  match unitDomain cls u with
  | some d => decide ((s.domain d).state = .on)
  | none => s.spineOn

/-- A single-bit error corrected in a unit: counted in `o`, with an alarm where the unit's corrected errors of the last 60 s
are more than the threshold (Tables 04-10, 04-13, 06-15, 06-18). -/
def State.corrected (s : State) (cls u : Nat) (o : Obj) (item : Nat) (thr : Obj) (alarm inst : Nat) : State :=
  let l := s.runSec :: (Tab.get [] s.res.eccTimes (unitKey cls u)).filter (fun t => decide (s.runSec < t + 60))
  let t := { s with res := { s.res with eccTimes := Tab.put [] s.res.eccTimes (unitKey cls u) l } }.bump o item
  if s.nat thr < l.length then t.raise alarm inst else t

/-- Bit 0 of DEGRADED_CAUSES (R435): some class whose reserve count is at least 1 has no reserve left. -/
def State.reserveGap (s : State) : Bool :=
  [0, 2, 3, 4, 5, 6, 7, 8].any (fun c =>
    decide (1 ≤ s.govN OD.reserveCount c) && (s.reserves c).isEmpty && s.galley.unitsOn)
  || ((s.reserves 10).isEmpty && s.galley.unitsOn)

/-- A unit fenced and retired (R100). -/
def State.retire (s : State) (cls u cause : Nat) : State :=
  let x := s.unit cls u
  s.setUnit cls u { x with state := .retired, fenced := true, cause := cause, testing := none
                           held := none, faults := s.runSec :: x.faults
                           busy := x.busy + (if x.held.isSome then (s.time.air - x.since).toNat else 0) }

/-- The chirp cache of a transform engine emptied: at reset and when it is promoted (R185). -/
def State.emptyCache (s : State) (cls u : Nat) : State :=
  if cls = 3 then { s with edge := { s.edge with czt := Tab.put [] s.edge.czt u [] } } else s

/-- A promoted core adopts the CORE_IMAGE of the retired one in the same cycle (R141): it runs the image that governed, and
a value written and not yet in force stays so. -/
def State.adoptImage (s : State) (r u : Nat) : State :=
  let img := s.govN OD.coreImage u
  let t := (s.setNum OD.coreImage r img).take OD.coreImage r
  let t := t.setNum OD.coreImage r (s.num OD.coreImage u)
  { t with vx := { t.vx with cores := Tab.put {} t.vx.cores r { (Tab.get {} t.vx.cores r : Core) with image := img } } }

/-- The lowest-numbered reserve of a class promoted in the place of a unit, whose affinity bit it answers
to (R85, R100); a fault that finds none is not covered (R433), and in a class with reserve count 0 sheds
capacity (R23). -/
def State.promote (s : State) (cls u : Nat) : State × Bool :=
  match s.promotable cls with
  | r :: _ =>
    let x := s.unit cls r
    let t := s.setUnit cls r { x with state := .idle, aliasOf := some ((s.unit cls u).aliasOf.getD u)
                                      idleSeq := s.galley.idleSeq }
    ((if cls = 0 then t.adoptImage r u else t).emptyCache cls r, true)
  | [] => (s, false)

/-- A unit fault taken (R100, R433, R435): fenced, retired, a reserve of its class promoted, the fault
logged and the DEGRADED causes of reserves and shed capacity set. -/
def State.retireAndPromote (s : State) (cls u cause : Nat) : State :=
  let t := s.retire cls u cause
  let (t, covered) := if hasReserve cls then t.promote cls u else (t, false)
  let covered := covered || (decide (cls = 9) && !(t.healthyUnits 9).isEmpty)
    || (decide (cls = 10) && !(t.reserves 10).isEmpty)
  let t := t.noteFault (unitNumber cls u) cause (if covered then 0 else 3)
  let t := if hasReserve cls && decide (t.govN OD.reserveCount cls = 0) then t.setCause 6 true else t
  let t := if t.res.drillWatch = some (unitKey cls u) then
      ({ t with res := { t.res with drillWatch := none } }).raise 0x0A0E (unitNumber cls u) else t
  (t.setCause 0 t.reserveGap).trace 1

/-- A unit is idle again: it holds no slug (R99), and a withdrawn one is locked off (R414); the classes HOST,
MOGIL and TIMER have no units. -/
def State.idleUnit (s : State) (cls u : Nat) : State :=
  if 12 ≤ cls then s else
  let x := s.unit cls u
  let t := s.setUnit cls u { x with
    held := none
    state := if x.state = .running then .idle else x.state
    idleSeq := s.galley.idleSeq
    idleAt := s.nowNs
    busy := x.busy + (s.time.air - x.since).toNat }
  let t := { t with galley := { t.galley with idleSeq := s.galley.idleSeq + 1 } }
  let t := if t.res.drillWatch = some (unitKey cls u) then { t with res := { t.res with drillWatch := none } } else t
  match x.withdrawn, unitDomain cls u with
  | true, some d => t.setDomain d { t.domain d with state := .lockedOff }
  | _, _ => t

/-- A LATE_RUN slug is within LATE_HORIZON of its deadline (R97, R100). -/
def State.withinHorizon (s : State) (x : Slug) : Bool :=
  match s.imp x.imp with
  | some m => decide (diff32 (low32 s.time.air) x.deadline ≤ m.lateHorizon)
  | none => false

/-- May a slug be retried after a unit fault (R100)? -/
def State.retryAdmitted (s : State) (x : Slug) (emitted : Bool) : Bool :=
  !(decide (x.commit = .inPlace) || (decide (x.commit = .external) && emitted) || decide (x.attempt = x.retryLimit))
    && (decide ((x.est * 64 : Nat) ≤ diff32 x.deadline (low32 s.time.air))
        || (decide (x.expiry = .lateRun) && s.withinHorizon x))

/-- The slug side of a unit fault (R100). -/
def State.faultSlug (s : State) (cls u h : Nat) (x : Slug) (emitted : Bool) : State :=
  if x.abortPending then s.endAborted h x
  else if s.retryAdmitted x emitted then
    let t := { s with galley := { s.galley with
      fencedBufs := s.galley.fencedBufs ++ [(unitKey cls u, x.imp, s.chargedTo h x.attempt)] } }
    let t := t.makeReady h { x with attempt := x.attempt + 1, emitted := false, excluded := insertN x.excluded u }
    (((t.bump OD.retries).raise 0x0505 x.part (some x.part)).trace 1).stallEval x.part
  else ((s.endTainted h x .fault).bump OD.retryRefused).raise 0x0506 x.part (some x.part)

/-- A unit fault of class `cls`, unit `u` (R100): the unit is retired, a reserve promoted, and the slug it
held ends or is retried.  A unit already retired stays so. -/
def State.unitFault (s : State) (cls u : Nat) (held : Option (Nat × Nat)) (emitted : Bool) (cause : Nat) :
    State :=
  let t := if (s.unit cls u).state = .retired then s else s.retireAndPromote cls u cause
  match held with
  | none => t
  | some (h, att) =>
    match t.slug h with
    | some x =>
      if x.state = .running ∧ x.attempt = att then t.faultSlug cls u h x emitted
      else (t.bump OD.lateDiscarded).raise 0x0507 x.part (some x.part)
    | none => (t.bump OD.lateDiscarded).raise 0x0507

/-- A fault of cause SLUG (R97, R100): the slug ends DONE, FAULT, or ABORTED when abort-pending; no unit
is retired and there is no retry. -/
def State.slugFault (s : State) (h att : Nat) : State :=
  match s.slug h with
  | some x =>
    if x.state = .running ∧ x.attempt = att then
      let t := s.idleUnit x.cls x.executor
      if x.abortPending then t.endAborted h x else t.endTainted h x .fault
    else (s.bump OD.lateDiscarded).raise 0x0507 x.part (some x.part)
  | none => (s.bump OD.lateDiscarded).raise 0x0507

/-- A slug expires (R97): DONE, EXPIRED, successors decremented and tainted. -/
def State.expireSlug (s : State) (h : Nat) (x : Slug) : State :=
  (((s.endTainted h x .expired).raiseAtMost oneSecond 0x0503 x.part (some x.part))).trace 2

/-! ## Completion -/

/-- The pairs of a completion committed: binding entries written, their buffers sealed and no longer
charged to the attempt (R98). -/
def State.commitPairs (s : State) (q : Nat) (pairs : List (Nat × Nat)) : State :=
  pairs.foldl (fun t p =>
    match t.imp q with
    | some m =>
      ((t.setImp q { m with bindings := Tab.set m.bindings p.1 p.2 }).sealBuf p.2 true).chargeBuf p.2 .bound
    | none => t) s

/-- A completion after the deadline counted (R97). -/
def State.lateCount (s : State) (x : Slug) : State :=
  if diff32 x.deadline (low32 s.time.air) < 0 then s.bump OD.lateCompletions else s

/-- A slug completes OK (R97, R98): commit, slack erosion counted, successors decremented. -/
def State.completeOk (s : State) (h : Nat) (x : Slug) (m : Impression) (pairs : List (Nat × Nat)) : State :=
  let t := s.commitPairs x.imp pairs
  let t := t.freeAttempt h x.attempt
  let t := t.endSlug h x .ok
  let t := if (x.succ ++ s.overflow x).isEmpty ∧ diff32 x.deadline (low32 s.time.air) < m.slack then
      (t.bump OD.slackEroded).raiseAtMost oneSecond 0x0509 x.forme (some x.part) else t
  ((t.decrementSuccs x false).trace 0).settle x.imp

/-- The slug and class of a report that names a running slug and its current attempt (R102). -/
def State.reported (s : State) (h att : Nat) : Option Slug :=
  match s.slug h with
  | some x => if x.state = .running ∧ x.attempt = att then some x else none
  | none => none

/-- A signal engine's attempt ends: BUSY_CYCLES raised by the 1.25 GHz cycles since it took the slug, and the count of how it ended
(Table 06-15). -/
def State.engineEnd (s : State) (x : Slug) (o : Option Obj) : State :=
  if 2 ≤ x.cls ∧ x.cls ≤ 8 then
    let n := engineNumber x.cls x.executor
    let t := s.bumpBy OD.busyCycles n (((s.time.air - (s.unit x.cls x.executor).start) * 15625 / 6144).toNat)
    match o with | some o => t.bump o n | none => t
  else s

/-- A fault of cause SLUG: the alarm of a VX core's slug or of a signal engine's, at most once per second per
partition (Tables 04-13, 06-18); the spec gives the other classes none. -/
def State.slugFaultAlarm (s : State) (h att : Nat) : State :=
  match s.reported h att with
  | some x =>
    let t := (s.engineEnd x (some OD.slugFaults)).slugFault h att
    if x.cls = 0 then t.raiseAtMost oneSecond 0x0603 x.part (some x.part)
    else if 2 ≤ x.cls ∧ x.cls ≤ 8 then t.raiseAtMost oneSecond 0x0703 x.part (some x.part)
    else t
  | none => s.slugFault h att

/-- A completion report taken (R97, R98, R102). -/
def State.complete (s : State) (r : Report) : State :=
  match s.slug r.handle with
  | none => (s.bump OD.lateDiscarded).raise 0x0507
  | some x =>
    if x.state = .running ∧ x.attempt = r.attempt then
      match s.imp x.imp with
      | none => s
      | some m =>
        if r.pairs.any (fun p => decide (m.bindCount ≤ p.1)) then s.slugFaultAlarm r.handle r.attempt
        else
          let t := ((s.engineEnd x (if r.result = 5 then some OD.inputInvalid else none)).idleUnit x.cls x.executor).lateCount x
          if x.abortPending then t.endAborted r.handle x
          else if r.result = 0 then t.completeOk r.handle x m r.pairs
          else t.endTainted r.handle x (if r.result = 4 then .hostUnavailable else .inputInvalid)
    else (s.bump OD.lateDiscarded).raise 0x0507 x.part (some x.part)

/-- What a unit's report does to the unit: the job it ran is over. -/
def State.reportSide (s : State) (h att : Nat) : State :=
  match s.reported h att with
  | some x => { s with edge := { s.edge with jobs := Tab.del s.edge.jobs (unitKey x.cls x.executor) } }
  | none => s

/-- The image a slot holds valid (IMAGE_STATE 2). -/
def State.slotImage (s : State) (k : Nat) : Option Image :=
  if s.nat OD.imageState k = 2 then (Tab.get {} s.vx.slots k : ImageSlot).img else none

end Sys2Proof.Machine
end

