-- ==== Sys2Proof/Machine/DictOps.lean ====
section
/-!
DEFINITION. Addresses, roles and access terms of the dictionary (R342–R347, R353, R473), and the write
of an object whose write acts.
-/

namespace Sys2Proof.Machine

open Sys2Proof

/-! ## Requesters and their selections -/

/-- A number for each holder of select objects (R346). -/
def reqCode : Requester → Nat
  | .session n => 4 * n
  | .mailbox fn => 4 * fn + 1
  | .stream ses strm => 4 * (8 * ses + strm) + 2
  | .smbus => 3

/-- The key of a holder's copy of the select object with address code `a`. -/
def selKey (who : Requester) (a : Nat) : Nat := reqCode who * 16777216 + a

/-- A holder's copy of a select object (R346); every select object's default is 0. -/
def State.selOf (s : State) (who : Requester) (a : Nat) : Nat := (Tab.get 0 s.dict.selects (selKey who a)).toNat

/-- A holder's copy written. -/
def State.setSel (s : State) (who : Requester) (a : Nat) (v : Int) : State :=
  { s with dict := { s.dict with selects := Tab.put 0 s.dict.selects (selKey who a) v } }

/-- The copies of a holder dropped when it ends (R355); they start at their defaults again. -/
def State.dropSels (s : State) (who : Requester) : State :=
  { s with dict := { s.dict with
      selects := s.dict.selects.filter (fun e => decide (e.1 / 16777216 ≠ reqCode who)) } }

/-- The address codes of the select objects (names ending in _SELECT). -/
def selectCodes : List Nat :=
  [0x110001, 0x110006, 0x21000D, 0x210011, 0x21001A, 0x400001, 0x410001, 0x41000D, 0x414001, 0x418005,
   0x440001, 0x501001, 0x502001, 0x600018, 0x601001, 0x601006, 0x610001, 0x620001, 0x700001, 0x700008,
   0x800001, 0x820001, 0x822001, 0x824001, 0x828001, 0x830001, 0x900002, 0x901001, 0x902001, 0x903001,
   0x910001, 0xA01001, 0xA40009, 0xB00001, 0xB10001, 0xB20001, 0xC00003, 0xC00005, 0xC0000A, 0xD00001,
   0xE00002]

/-- Is this a select object (R346)? -/
def Obj.isSelect (o : Obj) : Bool := selectCodes.contains o.code

/-- The item of an object an access names (R346); RX_SCI is one of the selected receive SC, whatever the association (Table 08-11). -/
def State.itemOf (s : State) (who : Requester) (o : Obj) (a : Addr) : Nat :=
  match o.sel with
  | .unit => 0
  | .bySub => a.sub - o.sub
  | .byIdx => a.idx - o.idx
  | .hist => (a.idx - o.idx) * 256 + (a.sub - o.sub)
  | .one c => s.selOf who c
  | .two c d m => s.selOf who c * m + (if o.code = 0x418007 then s.selOf who d % 32 / 4 * 4 else s.selOf who d)
  | .idxOne d m => (a.idx - o.idx) * m + s.selOf who (d + 256 * (a.idx - o.idx))

/-- The address code under which a holder keeps a select object: the one of WINDOW_SELECT counts its
partition. -/
def selAddr (o : Obj) (a : Addr) : Nat := if o.sel = .byIdx then o.code + 256 * (a.idx - o.idx) else o.code

/-! ## Finding an object -/

/-- The object at an address (R342): 0x0D01 for an index that does not exist, 0x0D02 for a subindex. -/
def findObj (a : Addr) : Except Nat Obj :=
  match OD.ofIndex (OD.base a.idx) with
  | none => .error 0x0D01
  | some l =>
    match l.find? (fun o => decide (o.sub ≤ a.sub ∧ a.sub < o.sub + o.nSub)) with
    | some o => .ok o
    | none => .error 0x0D02

/-- The highest subindex in use at an index: the value of subindex 0 (R342). -/
def highestSub (idx : Nat) : Option Nat :=
  (OD.ofIndex (OD.base idx)).map (fun l => l.foldl (fun m o => max m (o.sub + o.nSub - 1)) 0)

/-! ## Roles -/

/-- The partition bound to a function (R323): the enabled one whose function in force it is; where none is enabled, the lowest
partition that holds it in force (DESIGN CHOICE: two partitions may hold one after a disable). -/
def State.partOfFn (s : State) (fn : Nat) : Option Nat :=
  let names (e : Nat × Part) : Bool := decide (s.govN OD.hostFunction e.1 = fn)
  let on (e : Nat × Part) : Bool := decide (e.2.state ≠ .absent) && decide (e.2.state ≠ .configured)
  match s.parts.find? (fun e => on e && names e) with
  | some e => some e.1
  | none => (s.parts.find? names).map (·.1)

/-- A requester's role (Table 12-2) and its partition for role 1; none for the mailbox of a VF that no
partition names (0x0D14). -/
def State.roleOf (s : State) : Requester → Option (Nat × Nat)
  | .session n => some (match Tab.find s.pot.sessions n with | some x => (x.role, x.part) | none => (3, 0))
  | .stream n _ => some (match Tab.find s.pot.sessions n with | some x => (x.role, x.part) | none => (3, 0))
  | .mailbox fn => if fn = 0 then some (2, 0) else (s.partOfFn fn).map (fun p => (1, p))
  | .smbus => some (3, 0)

/-- FORME_PARTITION and SLUG_COUNT of the image last written (R86); 0 where none was. -/
def State.formeHeader (s : State) (f : Nat) : Nat := leNat ((s.oct OD.formeImage f).take 64)
def State.formePart (s : State) (f : Nat) : Nat := bits (s.formeHeader f) 21 12

/-- Does the selected item of an object belong to partition `n` (R347)? -/
def State.belongs (s : State) (n : Nat) (o : Obj) (item : Nat) (a : Addr) : Bool :=
  if o.idx = 0x1000 ∨ o.idx = 0x2000 then true
  else if o.idx = 0xA400 then decide (a.idx - 0xA400 = n)
  else if o.isSelect then
    [0x600018, 0x601001, 0x601006, 0x610001, 0x620001, 0x824001, 0xA01001].contains o.code
  else if o.code = 0x600019 ∨ o.code = 0x60001A ∨ o.code = 0x60001B ∨ o.code = 0x60001C then decide (item = n)
  else if o.idx = 0x6010 then
    decide (s.nat OD.cellPartition (if o.sub = 7 then item / 65536 else item) = n)
  else if o.idx = 0x8240 ∧ o.sub ≤ 5 then decide (s.nat OD.cellPartition item = n)
  else if o.idx = 0x6100 ∧ o.sub ≠ 0x0B then decide (s.formePart item = n) && !(s.oct OD.formeImage item).isEmpty
  else if o.idx = 0x6200 then decide (s.nat OD.hamperOwner item = n)
  else if o.idx = 0xA010 then bit (s.nat OD.qpOwner item) 31 && decide (bits (s.nat OD.qpOwner item) 9 0 = n)
  else false

/-- Does a role permit an access (Table 12-2, R347)?  BOOT_IMAGE is written through the PF0 mailbox only (R374). -/
def State.permits (s : State) (role part : Nat) (o : Obj) (item : Nat) (a : Addr) (write : Bool) : Bool :=
  if o.code = 0x200011 ∧ write = true then decide (role = 2) && s.flag OD.hostWrite
  else match role with
  | 0 => true
  | 1 => s.belongs part o item a
  | 2 => !write || o.isSelect && o.idx ≠ 0x1100 && o.idx ≠ 0xC000
      || (o.idx ≠ 0x1100 && o.idx ≠ 0xC000 && s.flag OD.hostWrite)
  | _ => if write then o.isSelect else o.idx ≠ 0xC000

/-! ## Tests of an access (R473) -/

/-- The indices served in full in STANDBY and BOOT (R353). -/
def servedEarly (idx : Nat) : Bool := [0x1000, 0x1100, 0x2000, 0x2100, 0x3000, 0xB200].contains idx

/-- Is an object available in the current mode (R353)? -/
def State.available (s : State) (o : Obj) (write : Bool) : Bool :=
  match s.mode.mode with
  | .off => false
  | .standby => servedEarly o.idx || (!write && o.stored)
  | .boot => servedEarly o.idx || (!write && o.stored)
  | _ => true

/-- The stage running, 0 outside BOOT. -/
def State.stage (s : State) : Nat := if s.mode.mode = .boot then s.nat OD.bootStage else 0

/-- The device boots from the host (BOOT_SOURCE). -/
def State.hostBoot (s : State) : Bool := s.flag OD.bootSource

/-- Does a stage of a host boot still wait for its image? -/
def State.awaitsImage (s : State) : Bool :=
  s.hostBoot && ((decide (s.stage = 3) && (Tab.find s.mode.hostImages 1).isNone)
    || (decide (s.stage = 4) && (Tab.find s.mode.hostImages 2).isNone))

/-- Does some core, active or reserve, name an image slot in CORE_IMAGE (R142)? -/
def State.slotNamed (s : State) (k : Nat) : Bool :=
  (List.range 96).any (fun v => decide (s.nat OD.coreImage v = k) && decide ((s.unit 0 v).state ≠ .retired))

/-- Why image data is not accepted for a slot: 0 where it is (R142). -/
def State.imageRefusal (s : State) (k : Nat) : Nat :=
  if s.mode.mode ≠ .configure ∧ s.mode.mode ≠ .upgrade then 0x0603 else if s.slotNamed k then 0x0605 else 0

/-- Test 7: the item's state permits a write: a partition's objects and windows while it is ABSENT or
CONFIGURED, its controls aside (R335, 0x0909); an enabled forme's image is not written (R86, 0x050E); a VX image in CONFIGURE and
UPGRADE and to no slot a core names (R142, 0x0603, 0x0605); a boot image while a stage of a host boot waits for it (R374), an image
of an upgrade in UPGRADE (R445, 0x0A01). -/
def State.itemReason (s : State) (o : Obj) (item : Nat) (a : Addr) : Nat :=
  if o.idx = 0xA400 ∧ !(o.sub = 2 ∨ o.sub = 3 ∨ o.sub = 4 ∨ o.sub = 9) then
    match (Tab.get {} s.parts (a.idx - 0xA400) : Part).state with
    | .absent => 0
    | .configured => 0
    | _ => 0x0909
  else if o.code = 0x610002 ∧ (Tab.find s.galley.formes item).isSome then 0x050E
  else if o.code = 0x700002 then s.imageRefusal item
  else if o.code = 0x200011 ∧ s.awaitsImage = false then 0x0A01
  else if o.code = 0xB1000B ∧ s.mode.mode ≠ .upgrade then 0x0A01
  else 0

/-- What a requester holds of segmented transfers. -/
def State.segsOf (s : State) : Requester → Segments
  | .session n => (match Tab.find s.pot.sessions n with | some x => x.segs | none => {})
  | .mailbox fn => Tab.get {} s.pot.boxes fn
  | _ => {}

/-- What a requester holds of segmented transfers replaced. -/
def State.setSegs (s : State) (who : Requester) (g : Segments) : State :=
  match who with
  | .session n =>
    match Tab.find s.pot.sessions n with
    | some x => { s with pot := { s.pot with sessions := Tab.set s.pot.sessions n { x with segs := g } } }
    | none => s
  | .mailbox fn => { s with pot := { s.pot with boxes := Tab.put {} s.pot.boxes fn g } }
  | _ => s

/-- A write transfer of the object's item. -/
def Transfer.is (x : Transfer) (a : Addr) (item : Nat) : Bool := decide (x.addr = a) && decide (x.item = item)

/-- Does a write transfer hold the object's item (R359)?  The transfers of `but` do not count. -/
def State.transferHolds (s : State) (a : Addr) (item : Nat) (but : Option Requester) : Bool :=
  let holds (g : Segments) : Bool := g.writes.any (fun x => x.is a item)
  s.pot.sessions.any (fun e => decide (but ≠ some (.session e.1)) && holds e.2.segs)
    || s.pot.boxes.any (fun e => decide (but ≠ some (.mailbox e.1)) && holds e.2)

/-- The tests of an access up to the item's state (R473 tests 2–7): the first failing reason, 0 where it may go on.  `len`
is the length of a value that a WRITE carries; `seg` says that the access is a SEG_WRITE at offset 0. -/
def State.accessReason (s : State) (who : Requester) (o : Obj) (item : Nat) (a : Addr) (write : Bool)
    (len : Nat := 0) (seg : Bool := false) : Nat :=
  match s.roleOf who with
  | none => 0x0D14
  | some (role, part) =>
    if !s.available o write then 0x0D09
    else if !s.permits role part o item a write then 0x0D03
    else if write && decide (o.access = .ro) then 0x0D04
    else if !write && decide (o.access = .wo) then 0x0D05
    else if 1024 < len then 0x0D0D
    else if write && s.transferHolds a item (if seg then some who else none) then 0x0D0C
    else if write && decide (o.access = .rwc) && decide (s.mode.mode ≠ .configure) then 0x0D06
    else if write then s.itemReason o item a
    else 0

/-- Is this an identifier of the alarm catalogue (R456, Table 16-6)? -/
def knownAlarm (i : Nat) : Bool :=
  decide (1 ≤ i % 256) && decide (i % 256 ≤ [0, 9, 10, 17, 14, 10, 4, 9, 8, 9, 17, 10, 3, 4].getD (i / 256) 0)

/-- A reference entry whose TYPE is reserved or whose INSTANCE names no PTP port, PPS input or lane (Table 02-2). -/
def refGap (n : Nat) : Bool :=
  let i := bits n 11 4
  match bits n 3 0 with
  | 0 => false
  | 1 => decide (25 < i ∧ i ≠ 255)
  | 2 => decide (1 < i)
  | 3 => decide (23 < i)
  | _ => true

/-- Values outside an object's stated set that its bounds do not shut out (R343): group sizes, reserve classes and counts,
sleep classes, entries, delays, confidentiality offsets, partitions and functions, lead and lag of a radio control output. -/
def Obj.gap (o : Obj) (item : Nat) (v : Int) : Bool :=
  let n := v.toNat
  if o.code = 0x44000A then !List.contains [1, 2, 4, 8, 16] n
  else if o.code = 0xB00001 then decide (n = 1)
  else if o.code = 0xB00002 then decide (item ≠ 0 ∧ 1 < n)
  else if o.code = 0x210014 then decide (n &&& 2 ≠ 0)
  else if o.code = 0xB20001 then decide (4096 ≤ n) && !knownAlarm (n - 4096)
  else if o.code = 0x301001 then refGap n
  else if o.code = 0x418003 then !List.contains [0, 30, 50] n
  else if o.code = 0x620004 ∨ o.code = 0xA40005 then decide (1023 < n ∧ n ≠ 0xFFFF)
  else if o.code = 0x824010 then
    let far (x : Int) : Bool := decide (x < -8000 ∨ 8000 < x)
    far (signed 16 (bits n 31 16)) || far (signed 16 (bits n 47 32))
  else if o.code = 0x302008 then
    decide (n / 2 ^ 25 ≠ 0 ∨ bits n 15 4 ≠ 0 ∨ bits n 24 16 = 0 ∨ 500 < bits n 24 16)
  else false

/-- Is a value within its object's range (R343, R473 test 9)? -/
def Obj.inRange (o : Obj) (item : Nat) (v : Int) : Bool := decide (o.lo ≤ v ∧ v ≤ o.hi) && !o.gap item v

/-- The address of an object's first place, the failing address of its refusals. -/
def Obj.addr (o : Obj) : Addr := ⟨o.idx, o.sub⟩

/-- A write of a number to an object whose write acts: the tests of R473, then what the object does. -/
def State.actOn (s : State) (who : Requester) (o : Obj) (item : Nat) (a : Addr) (v : Int)
    (act : State → Except Fail State) : State :=
  match s.accessReason who o item a true with
  | 0 =>
    if !o.inRange item v then s.refuse { reason := o.reason, addr := some a }
    else match act s with
      | .ok t => t.answer 0
      | .error f => s.refuse f
  | r => s.refuse { reason := r, addr := some a }

/-- A write of an object the requester's own selection names. -/
def State.actSel (s : State) (who : Requester) (o : Obj) (v : Int) (act : Nat → State → Except Fail State) : State :=
  s.actOn who o (s.itemOf who o o.addr) o.addr v (act (s.itemOf who o o.addr))

/-- A refusal by reason and the object's own address. -/
def Obj.fail (o : Obj) (reason : Nat) (detail : Nat := 0xFFFFFFFF) : Fail := ⟨reason, some o.addr, detail⟩

/-- The first failing test of a check, 0 where all pass. -/
def firstFail : List (Bool × Nat) → Nat
  | [] => 0
  | (b, r) :: t => if b then r else firstFail t

/-- Enables of items are accepted in CONFIGURE, RUN, DEGRADED and UPGRADE (R380). -/
def State.enableMode (s : State) : Bool := s.mode.mode = .configure || s.mode.mode.runs

/-- A partition named by an accepted write becomes CONFIGURED where it was ABSENT (Table 13-6). -/
def State.touchPart (s : State) (n : Nat) : State :=
  let x := Tab.get {} s.parts n
  if x.state = .absent then { s with parts := Tab.put {} s.parts n { x with state := .configured } } else s

/-- A partition replaced. -/
def State.setPart (s : State) (n : Nat) (x : Part) : State := { s with parts := Tab.put {} s.parts n x }

/-- A partition. -/
def State.part (s : State) (n : Nat) : Part := Tab.get {} s.parts n

/-! ## Values that take effect at slot and subframe boundaries (R15) -/

/-- The items of an object that hold a written value or one in force. -/
def State.itemsOf (s : State) (o : Obj) : List Nat :=
  let keys := s.dict.val.map (·.1) ++ s.dict.force.map (·.1) ++ s.dict.oct.map (·.1) ++ s.dict.octForce.map (·.1)
  (keys.filter (fun k => decide (keyCode k = o.code))).foldl (fun l k => insertN l (keyItem k)) []

/-- The items of an object that satisfy `p` taken over. -/
def State.takeIf (p : Nat → Bool) (s : State) (o : Obj) : State :=
  ((s.itemsOf o).filter p).foldl (fun t i => t.take o i) s

/-- The cell of a flow, an antenna group and a search context. -/
def State.flowCell (s : State) (f : Nat) : Nat := bits (s.govN OD.flowMap f) 9 0
def State.groupCell (s : State) (g : Nat) : Nat := bits (s.govN OD.groupMap g) 9 0
def State.ctxCell (s : State) (k : Nat) : Nat := s.groupCell (s.govN OD.contextGroup k)

/-- The objects that take effect at the next slot (Table 00-3), PART_PAUSE apart. -/
def nextSlotObjs : List Obj :=
  [OD.period, OD.pressLead, OD.slotFormes, OD.rampUp, OD.dlMask, OD.rampDown, OD.rxWindow, OD.txWindow, OD.rxShift,
   OD.changeMask, OD.targetRms, OD.peakLimit, OD.attackMax, OD.decayStep, OD.threshold, OD.triggerLevel,
   OD.occasionFreeze, OD.fallbackCfg, OD.fallbackSlots, OD.shapingCfg, OD.dlWidths, OD.channelMap, OD.coreImage,
   OD.allocWait, OD.pivotMin, OD.ldOffset, OD.tdExtScale, OD.collectWait, OD.rcoMap]

/-- The cell an item of a next-slot object is bound to; one bound to none takes effect at a subframe boundary. -/
def State.slotCell (s : State) (o : Obj) (item : Nat) : Option Nat :=
  match o.idx with
  | 0x6010 => some (if o.sub = 7 then item / 65536 else item)
  | 0x4140 => some (s.flowCell item)
  | 0x8220 => some (s.groupCell item)
  | 0x8240 => if o.sub < 0x10 then some item else none
  | 0x8280 => some (s.ctxCell item)
  | _ => none

/-- A partition's PART_PAUSE taken at a slot (R378). -/
def State.takePause (s : State) (n : Nat) : State :=
  let x := s.part n
  match x.pauseNext with
  | some b =>
    let y := { x with pauseNext := none
                      state := if b then (if x.state = .enabled then .paused else x.state)
                               else (if x.state = .paused then .enabled else x.state) }
    (s.setPart n y).take OD.partPause n
  | none => s

/-- Do slot boundaries of a cell, or the subframe boundary, fall on the present air tick? -/
def State.slotNow (s : State) (c : Nat) : Bool := decide (Tab.find s.time.slotAt c = some s.time.air)
def State.subNow (s : State) : Bool := decide (s.time.subAt = some s.time.air)

/-- A written next-slot value whose boundary falls on the air tick of its write response: the boundary counts as after
the response, so the value governs at once (R15). -/
def State.takeTie (s : State) (o : Obj) (item : Nat) : State :=
  if o.takes ≠ .nextSlot then s
  else if o.code = OD.partPause.code then
    if s.subNow || s.time.slotAt.any (fun e => decide (e.2 = s.time.air ∧ s.govN OD.cellPartition e.1 = item))
    then s.takePause item else s
  else match s.slotCell o item with
    | some c => if s.slotNow c then s.take o item else s
    | none => if s.subNow then s.take o item else s

/-- The values that take effect at a slot boundary of a cell. -/
def State.takeSlot (s : State) (c : Nat) : State :=
  (nextSlotObjs.foldl (fun t o => t.takeIf (fun i => decide (s.slotCell o i = some c)) o) s).takePause
    (s.govN OD.cellPartition c)

/-- The next-slot values that are bound to no cell take effect at a subframe boundary. -/
def State.takeSubframe (s : State) : State :=
  (s.parts.map (·.1)).foldl State.takePause
    (nextSlotObjs.foldl (fun t o => t.takeIf (fun i => (s.slotCell o i).isNone) o) s)

end Sys2Proof.Machine
end

