-- ==== Sys2Proof/Machine/Formes.lean ====
section
/-!
DEFINITION. Which unit serves a slug (R85), and the checks of formes, cells and submitted slugs
(R83–R90, R106, R109).
-/

namespace Sys2Proof.Machine

open Sys2Proof

/-! ## Serving a slug (R85) -/

/-- The image slot that counts for a core: the one it runs while Galley presses, else the one CORE_IMAGE
names. -/
def State.coreSlot (s : State) (u : Nat) : Nat :=
  if s.mode.mode.runs then (Tab.get {} s.vx.cores u : Core).image else s.nat OD.coreImage u

/-- The accepted-version mask a unit advertises. -/
def State.unitFmt (s : State) (cls u : Nat) : Nat :=
  if cls = 0 then match s.slotImage (s.coreSlot u) with | some i => i.fmtMask.toNat | none => 0
  else 1

/-- The capability set a unit advertises. -/
def State.unitCaps (s : State) (cls u : Nat) : Nat :=
  if cls = 0 then match s.slotImage (s.coreSlot u) with | some i => i.caps.toNat | none => 0
  else classCaps cls

/-- The affinity bit a unit answers to: of its cluster for VX, its own for other classes, and that of the
unit it replaced where it took over (R85). -/
def State.affinityBit (s : State) (cls u : Nat) : Nat :=
  let v := (s.unit cls u).aliasOf.getD u
  if cls = 0 then v / 8 else v

/-- Does a unit meet the three conditions of R85 for a slug? -/
def State.meets (s : State) (x : Slug) (u : Nat) : Bool :=
  bit (s.unitFmt x.cls u) x.fmtVer && decide (x.caps &&& s.unitCaps x.cls u = x.caps)
    && (decide (x.affinity = 0) || bit x.affinity (s.affinityBit x.cls u))

/-- Can some fitted unit serve a slug? The classes HOST, MOGIL and TIMER are served as if by one unit of
version 0, no capability and no affinity bit. -/
def State.servable (s : State) (x : Slug) : Bool :=
  if 12 ≤ x.cls then decide (x.fmtVer = 0 ∧ x.caps = 0 ∧ x.affinity = 0)
  else (List.range (unitsOf x.cls)).any (s.meets x)

/-! ## Images -/

/-- `n` bytes of an image from an offset, as a number. -/
def slice (b : List Byte) (off n : Nat) : Nat := leNat ((b.drop off).take n)

/-- One bit of the CRC-32 of IEEE 802.3, reflected. -/
def crcBit (c : Nat) : Nat := if c % 2 = 1 then (c / 2) ^^^ 0xEDB88320 else c / 2

/-- One byte of it. -/
def crcByte (c : Nat) (b : Byte) : Nat :=
  crcBit (crcBit (crcBit (crcBit (crcBit (crcBit (crcBit (crcBit (c ^^^ b.toNat))))))))

/-- CRC-32 (IEEE 802.3 polynomial) of bytes. -/
def crc32 (bs : List Byte) : Nat := bs.foldl crcByte 0xFFFFFFFF ^^^ 0xFFFFFFFF

/-- Fields of the header of a forme image (Table 03-4). -/
structure FormeHdr where
  id : Nat
  part : Nat
  verMin : Nat
  verMax : Nat
  slugs : Nat
  counters : Nat
  binds : Nat
  slack : Nat
  horizon : Nat
  crc : Nat
  reserved : Bool
  deriving DecidableEq, Repr

/-- The header of an image. -/
def formeHdr (b : List Byte) : FormeHdr :=
  let h := slice b 0 64
  ⟨bits h 11 0, bits h 21 12, bits h 24 22, bits h 27 25, bits h 43 32, bits h 52 44, bits h 63 53,
   bits h 95 64, bits h 127 96, bits h 159 128, decide (bits h 31 28 ≠ 0) || decide (bits h 511 160 ≠ 0)⟩

/-- Slug template `i` of an image, as its 512 bits. -/
def templateBits (b : List Byte) (i : Nat) : Nat := slice b (64 + 64 * i) 64

/-- Counter template `k` of an image with `n` slug templates, as its 256 bits. -/
def counterBits (b : List Byte) (n k : Nat) : Nat := slice b (64 + 64 * n + 32 * k) 32

/-- A slug template with its overflow list read from the image (R87). -/
def templateSlug (b : List Byte) (i : Nat) : Slug :=
  let x := slugOf (templateBits b i)
  { x with ovf := (List.range x.ovfCount).map (fun k => slice b (x.ovfPtr + 2 * k) 2) }

/-- All slug templates of an image. -/
def templates (b : List Byte) : List Slug := (List.range (formeHdr b).slugs).map (templateSlug b)

/-- A counter template (Table 03-5): waiters, FIRE_BY offset and the rest. -/
def counterOf (d : Nat) (boundary : Int) (imp part : Nat) (handles : List Nat) : Counter where
  source := bits d 3 0
  hold := bit d 4
  waiters := (List.range (bits d 8 5)).map (fun k => handles.getD (bits d (143 + 16 * k) (128 + 16 * k)) 65536)
  threshold := bits d 31 16
  fireBy := boundary + bits d 63 32
  key := bits d 127 64
  imp := imp
  part := part

/-- Waiter indices of a counter template. -/
def waitersOf (d : Nat) : List Nat := (List.range (bits d 8 5)).map (fun k => bits d (143 + 16 * k) (128 + 16 * k))

/-- An argument pointer with a bit set that Table 03-3 shows as zero (R84). -/
def badPointer (a : Nat) : Bool :=
  match bits a 31 30 with
  | 0 => decide (bits a 29 0 ≠ 0)
  | 1 => decide (bits a 29 24 ≠ 0)
  | 2 => decide (bits a 29 10 ≠ 0)
  | _ => false

/-- A TIMER slug that breaks R109; `t` is how far its tick lies after its deadline. -/
def timerBreaks (x : Slug) (commit : Nat) (t : Int) (template : Bool) : Bool :=
  decide (commit ≠ 0) || decide (x.arg1 ≠ 0) || decide (x.arg2 ≠ 0) || decide (0 < t)
    || (decide (x.kind ≠ 1) && decide (x.kind ≠ 2)) || (template && decide (x.kind = 2))
    || (decide (x.kind = 1) && decide (2147483647 < x.arg0))

/-- Reserved fields and values of a slug descriptor (R83, R84), the status word and the fields Galley
writes apart. -/
def reservedSlug (d : Nat) : Bool :=
  let x := slugOf d
  decide (bits d 31 29 ≠ 0) || decide (bits d 191 184 ≠ 0) || decide (bits d 15 14 = 3)
    || decide (bits d 179 178 = 3) || decide (bits d 177 176 = 3) || decide (x.cls = 15)
    || (decide (x.cls ≠ 14) && badPointer x.arg0) || badPointer x.arg1 || badPointer x.arg2

/-- Binding entries a slug's pointers name. -/
def bindRefs (x : Slug) : List Nat :=
  ((if x.cls = 14 then [] else [x.arg0]) ++ [x.arg1, x.arg2]).filterMap
    (fun a => if bits a 31 30 = 2 then some (bits a 9 0) else none)

/-! ## The graph of a forme (R87, R88) -/

/-- Successors of a template, overflow included. -/
def succsOf (x : Slug) : List Nat := x.succ ++ x.ovf

/-- One round of taking away the templates that no remaining template precedes. -/
def peel (ts : List Slug) (left : List Nat) : List Nat :=
  left.filter (fun j => left.any (fun i => match ts[i]? with | some x => has (succsOf x) j | none => false))

/-- Templates left after `n` rounds; none where the graph is acyclic. -/
def peeled (ts : List Slug) : Nat → List Nat → List Nat
  | 0, l => l
  | n + 1, l => peeled ts n (peel ts l)

/-- One round of path estimates: a slug starts no earlier than its counters' FIRE_BY and the ends of its
predecessors. -/
def relax (ts : List Slug) (base starts : List Nat) : List Nat :=
  (List.range ts.length).map (fun j =>
    (List.range ts.length).foldl (fun m i =>
      match ts[i]? with
      | some x => if has (succsOf x) j then max m (starts.getD i 0 + x.est * 64) else m
      | none => m) (base.getD j 0))

/-- Starts after `n` rounds. -/
def relaxed (ts : List Slug) (base : List Nat) : Nat → List Nat
  | 0 => base
  | n + 1 => relax ts base (relaxed ts base n)

/-- Starts given by the counters a template waits on. -/
def counterStarts (b : List Byte) (h : FormeHdr) : List Nat :=
  (List.range h.slugs).map (fun j =>
    (List.range h.counters).foldl (fun m k =>
      let d := counterBits b h.slugs k
      if has (waitersOf d) j then max m (bits d 63 32) else m) 0)

/-- The margins of the templates: deadline offset minus path estimate (R88). -/
def margins (b : List Byte) : List (Slug × Int) :=
  let ts := templates b
  let starts := relaxed ts (counterStarts b (formeHdr b)) ts.length
  (List.range ts.length).filterMap (fun i =>
    (ts[i]?).map (fun x => (x, (x.deadline : Int) - (starts.getD i 0 + x.est * 64 : Nat))))

/-- The smallest margin of a forme (R88). -/
def minMargin (b : List Byte) : Int :=
  match (margins b).map (·.2) with
  | [] => 0
  | m :: ms => ms.foldl min m

/-- Template predecessors of template `j`, and counters that name it; a template or counter that names it twice counts
twice (DESIGN CHOICE: R87 does not speak of a name given twice). -/
def dependences (b : List Byte) (h : FormeHdr) (j : Nat) : Nat :=
  ((templates b).map (fun x => (succsOf x).count j)).sum
    + ((List.range h.counters).map (fun k => (waitersOf (counterBits b h.slugs k)).count j)).sum

/-- Templates of the enabled formes other than `f` (R87). -/
def State.templatesUsed (s : State) (f : Nat) : Nat :=
  ((s.galley.formes.filter (fun e => decide (e.1 ≠ f))).map (·.2.slots)).sum

/-- The forme enable check: the first failing reason of Table 03-15 in its order, 0 where it accepts
(R87, R88, R106). -/
def State.formeReason (s : State) (f : Nat) : Nat :=
  let b := s.oct OD.formeImage f
  let h := formeHdr b
  let ts := templates b
  let idx := List.range h.slugs
  let cs := (List.range h.counters).map (counterBits b h.slugs)
  firstFail [
    (decide (b.length < 64 + 64 * h.slugs + 32 * h.counters) || decide (b.length < 64)
      || decide (crc32 (b.take 16 ++ b.drop 20) ≠ h.crc), 0x050D),
    (h.reserved || idx.any (fun i =>
        let d := templateBits b i
        let x := slugOf d
        reservedSlug d || decide (bits d 63 32 ≠ 0) || decide (bits d 511 480 ≠ 0)
          || (decide (x.cls = 14) && timerBreaks x (bits d 15 14) ((x.arg0 : Int) - x.deadline) true))
      || cs.any (fun d => decide (bits d 15 9 ≠ 0) || decide (4 < bits d 3 0)), 0x050F),
    (decide (h.slugs < 1) || decide (2048 < h.slugs) || decide (131072 < s.templatesUsed f + h.slugs), 0x0503),
    (decide (256 < h.counters) || decide (1024 < h.binds)
      || cs.any (fun d => decide (bits d 8 5 < 1) || decide (8 < bits d 8 5)
          || (waitersOf d).any (fun w => decide (h.slugs ≤ w)))
      || idx.any (fun i => decide (8 < bits (templateBits b i) 183 180))
      || ts.any (fun x => (succsOf x).any (fun j => decide (h.slugs ≤ j))
          || (decide (0 < x.ovfCount) && (decide (x.ovfPtr % 8 ≠ 0) || decide (b.length < x.ovfPtr + 2 * x.ovfCount)))
          || (bindRefs x).any (fun e => decide (h.binds ≤ e))), 0x050C),
    (decide (h.id ≠ f) || ts.any (fun x => decide (x.part ≠ h.part)), 0x050B),
    (ts.any (fun x => decide (x.est = 0)), 0x0506),
    (ts.any (fun x => decide (x.fmtVer < h.verMin) || decide (h.verMax < x.fmtVer)), 0x0509),
    (ts.any (fun x => decide (2147483647 < x.deadline)), 0x0507),
    (ts.any (fun x => !s.servable x), 0x0508),
    (!(peeled ts h.slugs idx).isEmpty, 0x0501),
    (idx.any (fun j => match ts[j]? with
      | some x => decide (x.initDep ≠ dependences b h j) | none => false), 0x0502),
    ((margins b).any (fun e => decide (0 < e.1.retryLimit) && decide (e.2 < (e.1.est * 64 : Nat))), 0x0504),
    (decide (minMargin b < h.slack), 0x0505)]

/-- A forme enabled: its image is taken and its templates are read-only (R87).  MIN_MARGIN is published here only, not by
a check that refuses (DESIGN CHOICE: R88 does not say). -/
def State.formeOn (s : State) (f : Nat) : State :=
  let b := s.oct OD.formeImage f
  let h := formeHdr b
  let t := { s with galley := { s.galley with formes := Tab.set s.galley.formes f ⟨h.part, b, h.slugs⟩ } }
  let t := t.setNum OD.minMargin f (minMargin b)
  t.setFlag OD.formeEnable f true

/-- A write of FORME_ENABLE: the check of R87, or the disable of a forme, whose live impressions run to
close. -/
def enableForme (f : Nat) (v : Nat) (s : State) : Except Fail State :=
  if v = 0 then
    .ok ({ s with galley := { s.galley with formes := Tab.del s.galley.formes f } }.setFlag OD.formeEnable f false)
  else if !s.enableMode then .error (OD.formeEnable.fail 0x0A01)
  else match s.formeReason f with
    | 0 => .ok (s.formeOn f)
    | r => .error (OD.formeEnable.fail r)

/-- A forme image taken whole (R86): refused with 0x050B where its FORME_ID differs from the selected
forme. The partition it names becomes CONFIGURED where it was ABSENT. -/
def writeFormeImage (f : Nat) (b : List Byte) (s : State) : Except Fail State :=
  if (formeHdr b).id ≠ f then .error (OD.formeImage.fail 0x050B)
  else .ok ((s.setOct OD.formeImage f b).touchPart (formeHdr b).part)

/-! ## Cells (R90) -/

/-- Does a period fit a numerology: it divides the slots of 20 ms? -/
def periodFits (num p : Nat) : Bool := decide (0 < p) && decide (2 * slotsPerFrame num % p = 0)

/-- The four forme identifiers of a SLOT_FORMES value. -/
def formesOf (v : Nat) : List Nat := [bits v 15 0, bits v 31 16, bits v 47 32, bits v 63 48]

/-- Is every forme a SLOT_FORMES value names enabled and of a partition? -/
def State.formesFit (s : State) (v part : Nat) : Bool :=
  (formesOf v).all (fun f => decide (f = 0xFFFF) ||
    (match Tab.find s.galley.formes f with | some x => decide (x.part = part) | none => false))

/-- The cell enable check (R90), its codes in the order of Table 03-15 (R106). -/
def State.cellReason (s : State) (c : Nat) : Nat :=
  let num := s.nat OD.numerology c
  let p := s.nat OD.period c
  firstFail [
    ((List.range p).any (fun i =>
      !s.formesFit (s.nat OD.slotFormes (c * 65536 + i)) (s.nat OD.cellPartition c)), 0x050A),
    (!periodFits num p || decide (leadLimit num < s.nat OD.pressLead c), 0x0510)]

/-- The values a cell holds for its enable taken over; PERIOD, PRESS_LEAD and SLOT_FORMES wait for its next slot
boundary (Table 03-8). -/
def State.takeCell (s : State) (c : Nat) : State := s.takeAll [OD.cellPartition, OD.numerology] c

/-- A cell enabled: its values taken over. -/
def State.cellOn (s : State) (c : Nat) : State :=
  let t := s.takeCell c
  { t with galley := { t.galley with cellsOn := insertN t.galley.cellsOn c } }.setFlag OD.cellEnable c true

/-- A write of CELL_ENABLE (R90). -/
def enableCell (c v : Nat) (s : State) : Except Fail State :=
  if v = 0 then
    .ok ({ s with galley := { s.galley with cellsOn := removeN s.galley.cellsOn c } }.setFlag OD.cellEnable c false)
  else if !s.enableMode then .error (OD.cellEnable.fail 0x0A01)
  else match s.cellReason c with
    | 0 => .ok (s.cellOn c)
    | r => .error (OD.cellEnable.fail r)

/-- A write of SLOT_FORMES, checked where its cell is enabled (R90); `item` names cell and slot index. -/
def writeSlotFormes (item : Nat) (v : Nat) (s : State) : Except Fail State :=
  let c := item / 65536
  if has s.galley.cellsOn c && !s.formesFit v (s.nat OD.cellPartition c) then .error (OD.slotFormes.fail 0x050A)
  else .ok ((s.setNum OD.slotFormes item v).takeTie OD.slotFormes item)

/-- A write of PERIOD or PRESS_LEAD, judged against the NUMEROLOGY held (R90). -/
def writePeriod (c v : Nat) (s : State) : Except Fail State :=
  if periodFits (s.nat OD.numerology c) v then .ok ((s.setNum OD.period c v).takeTie OD.period c) else .error (OD.period.fail 0x0510)

def writePressLead (c v : Nat) (s : State) : Except Fail State :=
  if v ≤ leadLimit (s.nat OD.numerology c) then .ok ((s.setNum OD.pressLead c v).takeTie OD.pressLead c)
  else .error (OD.pressLead.fail 0x0510)

/-! ## Submitted slugs (R103) -/

/-- The tick T of a TIMER slug (R109), in 32 bits. -/
def timerTick (m : Impression) (x : Slug) : Nat :=
  if x.kind = 1 then low32 (m.boundary + x.arg0) else x.arg0

/-- The checks of a submission, in the order of Table 03-15 (R103, R106).  A handle that is not reserved is refused with
0x050B (DESIGN CHOICE: the table names no code for it). -/
def State.submitReason (s : State) (h d : Nat) : Nat :=
  let x := slugOf d
  let m := s.imp x.imp
  let now := low32 s.time.air
  let f := match Tab.find s.galley.formes x.forme with | some y => formeHdr y.bytes | none => formeHdr []
  firstFail [
    (reservedSlug d || decide (bits d 511 480 ≠ 0)
      || (decide (x.cls = 14) && (match m with
          | some i => timerBreaks x (bits d 15 14) (diff32 (timerTick i x) x.deadline) false
          | none => timerBreaks x (bits d 15 14) 0 false)), 0x050F),
    (decide (8 < bits d 183 180) || (decide (0 < x.ovfCount) && decide (x.ovfPtr % 8 ≠ 0))
      || (match m with | some i => (bindRefs x).any (fun e => decide (i.bindCount ≤ e)) | none => false), 0x050C),
    (!has s.galley.reserved h || (match m with
        | some i => decide (i.forme ≠ x.forme) || decide (i.part ≠ x.part) | none => true), 0x050B),
    (decide (x.est = 0), 0x0506),
    ((Tab.find s.galley.formes x.forme).isSome && (decide (x.fmtVer < f.verMin) || decide (f.verMax < x.fmtVer)), 0x0509),
    (decide (diff32 x.deadline now = -2147483648)
      || (decide (x.cls = 14 ∧ x.kind = 2) && decide (diff32 x.arg0 now = -2147483648)), 0x0507),
    (!s.servable x, 0x0508)]

end Sys2Proof.Machine
end

