-- ==== Sys2Proof/Machine/Galley.lean ====
section
/-!
DEFINITION. The commands of Galley (chapter 03): pressing, counters, completion, expiry, submission,
stalls, TIMER slugs, and the dictionary's writes to formes and cells.
-/

namespace Sys2Proof.Machine

open Sys2Proof

/-! ## Pressing (R90–R92) -/

/-- The next `n` free slug handles from `h` upwards (DESIGN CHOICE: the lowest free handles). -/
def pickFree (used : Nat → Bool) : Nat → Nat → Nat → List Nat
  | 0, _, _ => []
  | _, _, 0 => []
  | fuel + 1, h, n + 1 => if used h then pickFree used fuel (h + 1) (n + 1) else h :: pickFree used fuel (h + 1) n

/-- Free slug handles: neither in the slug table nor reserved. -/
def State.freeHandles (s : State) (n : Nat) : List Nat :=
  pickFree (fun h => (s.slug h).isSome || has s.galley.reserved h) 65536 0 n

/-- Free event counters. -/
def State.freeCounters (s : State) (n : Nat) : List Nat :=
  pickFree (fun c => (Tab.find s.galley.counters c).isSome) 4096 0 n

/-- The impression sequence after `q`: 20 bits, from 0xF_FFFF back to 1 (R91). -/
def seqAfter (q : Nat) : Nat := if 0xFFFFF ≤ q then 1 else q + 1

/-- The first sequence from `q` that no live impression holds (R91). -/
def State.freeSeq (s : State) : Nat → Nat → Nat
  | 0, q => q
  | n + 1, q => if (s.imp q).isSome then s.freeSeq n (seqAfter q) else q

/-- Live impressions of a forme. -/
def State.liveOf (s : State) (f : Nat) : Nat := (s.galley.imps.filter (fun e => decide (e.2.forme = f))).length

/-- The fixed bits of a pressed slug: those of its template with FORME, IMPRESSION, DEADLINE and the successors in use
written (R91). -/
def pressRaw (hs : List Nat) (f q dl : Nat) (x : Slug) : Nat :=
  (List.range x.succ.length).foldl
    (fun r k => putBits r (207 + 16 * k) (192 + 16 * k) (hs.getD (x.succ.getD k 0) 65535))
    (putBits (putBits (putBits x.raw 43 32 f) 63 44 q) 95 64 dl)

/-- A template pressed: FORME, IMPRESSION and absolute deadline written, template indices turned into
handles; FREE until its impression is released (R91, Table 03-6). -/
def pressSlug (hs : List Nat) (f q : Nat) (boundary : Int) (x : Slug) : Slug :=
  { x with
    raw := pressRaw hs f q (low32 (boundary + x.deadline)) x
    forme := f, imp := q, deadline := low32 (boundary + x.deadline)
    succ := x.succ.map (fun i => hs.getD i 65536), ovf := x.ovf.map (fun i => hs.getD i 65536)
    state := .free, depLive := x.initDep }

/-- An impression pressed whole: slugs and counters allocated, counters armed, binding entries clear, the
sequence taken (R91). -/
def State.pressImp (s : State) (cell f : Nat) (on : FormeOn) (boundary : Int) : State :=
  let h := formeHdr on.bytes
  let hs := s.freeHandles h.slugs
  let cs := s.freeCounters h.counters
  let q := s.freeSeq 1048576 s.galley.nextSeq
  let slugs := (List.range h.slugs).foldl (fun t i =>
    Tab.set t (hs.getD i 65536) (pressSlug hs f q boundary (templateSlug on.bytes i))) s.galley.slugs
  let ctrs := (List.range h.counters).foldl (fun t k =>
    Tab.set t (cs.getD k 4096) (counterOf (counterBits on.bytes h.slugs k) boundary q h.part hs)) s.galley.counters
  let m : Impression := {
    forme := f, part := h.part, seq := q, boundary := boundary, slugs := hs, counters := cs
    bindCount := h.binds, slack := h.slack, lateHorizon := h.horizon, cell := cell }
  let t := { s with galley := { s.galley with
    slugs := slugs, counters := ctrs, imps := Tab.set s.galley.imps q m, nextSeq := seqAfter q } }
  let t := t.bump OD.presses
  let t := t.bump OD.pressed f
  let t := t.setNum OD.lastImpression f q
  ((t.peak OD.counterPeak 0 ctrs.length).trace 2).stallEval h.part

/-- One forme entry of a boundary (R91, R92): skipped where the partition is PAUSED or the forme is not
enabled for it, refused whole at a ceiling, an empty pool or MAX_LIVE, else pressed. -/
def State.pressEntry (cell : Nat) (boundary : Int) (part : Nat) (s : State) (f : Nat) : State :=
  if f = 0xFFFF then s
  else if (s.part part).state = .paused then s.bump OD.pressSkipped
  else match Tab.find s.galley.formes f with
    | none => s.bump OD.pressSkipped
    | some on =>
      let h := formeHdr on.bytes
      if on.part ≠ part then s.bump OD.pressSkipped
      else if 65536 < s.galley.slugs.length + s.galley.reserved.length + h.slugs
          ∨ 4096 < s.galley.counters.length + h.counters then (s.bump OD.pressRefused).raise 0x0501 f (some part)
      else if s.nat OD.maxLive f ≤ s.liveOf f then (s.bump OD.pressRefused).raise 0x0502 f (some part)
      else s.pressImp cell f on boundary

/-- The slot whose boundary a cell presses next: the first that starts at or after now plus its lead, or an
earlier one still ahead whose press moment a forward step has passed over (R44); that one is pressed after the step
(DEDUCED: R92 skips only boundaries). -/
def State.pressSlot (s : State) (c : Nat) : Int :=
  let num := s.govN OD.numerology c
  let n := nextSlot num (s.time.air + s.govN OD.pressLead c)
  match Tab.find s.galley.lastPress c with
  | some l => if nextSlot num s.time.air ≤ l + 1 ∧ l + 1 ≤ n then l + 1 else n
  | none => n

/-- May a cell press: Galley presses in this mode, no drain runs, its CELL_ENABLE is TRUE and its partition
ENABLED or PAUSED (R90, R92, R375)? -/
def State.cellPresses (s : State) (c : Nat) : Bool :=
  s.mode.mode.runs && !s.mode.draining && has s.galley.cellsOn c &&
    (decide ((s.part (s.govN OD.cellPartition c)).state = .enabled)
      || decide ((s.part (s.govN OD.cellPartition c)).state = .paused))

/-- Has air time reached the press moment of slot `n` of a cell, its boundary minus PRESS_LEAD (R90)? -/
def State.pressDue (s : State) (c : Nat) (n : Int) : Bool :=
  decide (slotStart (s.govN OD.numerology c) n ≤ s.time.air + s.govN OD.pressLead c)

/-- SLOT_FORMES in force for a slot of a cell. -/
def State.slotEntry (s : State) (c : Nat) (n : Int) : Nat :=
  s.govN OD.slotFormes (c * 65536 + slotIndex (s.govN OD.numerology c) n (s.govN OD.period c))

/-- PRESS (R90–R92): the formes of the boundary's slot index are pressed in entry order, once. -/
def execPress (cell : Nat) (s : State) : Host.Outcome State Fault Refusal :=
  let n := s.pressSlot cell
  if s.cellPresses cell && s.pressDue cell n
      && (match Tab.find s.galley.lastPress cell with | some l => decide (l < n) | none => true) then
    let t := { s with galley := { s.galley with lastPress := Tab.set s.galley.lastPress cell n } }
    .next ((formesOf (s.slotEntry cell n)).foldl
      (State.pressEntry cell (slotStart (s.govN OD.numerology cell) n) (s.govN OD.cellPartition cell)) t)
  else .next s

/-- A slug of an impression that is released: READY where it waits on nothing, else WAITING (R97). -/
def State.releaseSlug (s : State) (h : Nat) : State :=
  match s.slug h with
  | some x =>
    if x.state = .free then (if x.depLive = 0 then s.makeReady h x else s.setSlug h { x with state := .waiting }) else s
  | none => s

/-- A counter at the release of its impression: it fires where THRESHOLD is reached; the timer source waits
for its tick (R91, R94). -/
def State.releaseCounter (s : State) (c : Nat) : State :=
  match Tab.find s.galley.counters c with
  | some x => if x.armed && decide (x.source ≠ 2) && decide (x.threshold ≤ x.count) then s.fireCounter c false else s
  | none => s

/-- IMPRESSION_RELEASE (R91): the impression is released whole; slugs that wait on nothing enter READY and
counters that have reached THRESHOLD fire. -/
def execImpressionRelease (imp : Nat) (s : State) : Host.Outcome State Fault Refusal :=
  match s.imp imp with
  | none => .next s
  | some m =>
    if m.released then .next s
    else
      let t := s.setImp imp { m with released := true }
      let t := m.slugs.foldl State.releaseSlug t
      let t := t.peak OD.livePeak 0 t.liveSlugs
      let t := m.counters.foldl State.releaseCounter t
      .next (t.settle imp)

/-- COUNTER_FIRE_BY (R94): at FIRE_BY a FIRE_SHORT counter fires short, tainting its waiters; a timer counter
fires its own event; under HOLD it stays armed. -/
def execCounterFireBy (ctr : Nat) (s : State) : Host.Outcome State Fault Refusal :=
  match Tab.find s.galley.counters ctr with
  | none => .next s
  | some x =>
    let released := match s.imp x.imp with | some m => m.released | none => false
    if x.armed && released && decide (x.fireBy ≤ s.time.air) then
      if x.source = 2 then .next (s.fireCounter ctr false)
      else if x.hold then .next s
      else .next (s.fireCounter ctr true)
    else .next s

/-! ## Reports and expiry -/

/-- COMPLETION_REPORT (R97, R98, R102). -/
def execCompletionReport (r : Report) (s : State) : Host.Outcome State Fault Refusal :=
  .next ((s.reportSide r.handle r.attempt).complete r)

/-- Has a slug's deadline passed (R73): work completing now would not meet it? -/
def State.pastDeadline (s : State) (x : Slug) : Bool := decide (diff32 x.deadline (low32 s.time.air) < 0)

/-- A slug whose deadline has passed meets its expiry policy (Table 03-6). -/
def State.expire (s : State) (h : Nat) (x : Slug) : State :=
  match x.expiry with
  | .skip => s.expireSlug h x
  | .abortImpression => (s.endSlug h x .aborted).abortImp true x.imp
  | .lateRun => s

/-- DEADLINE_EXPIRY (R97): the deadline of a WAITING or READY slug has passed. -/
def execDeadlineExpiry (handle : Nat) (s : State) : Host.Outcome State Fault Refusal :=
  match s.slug handle with
  | some x =>
    if (x.state = .waiting ∨ x.state = .ready) ∧ s.pastDeadline x = true then .next (s.expire handle x)
    else .next s
  | none => .next s

/-- LATE_HORIZON_EXPIRY (R97): a LATE_RUN slug that has not started by LATE_HORIZON after its deadline ends
EXPIRED. -/
def execLateHorizonExpiry (handle : Nat) (s : State) : Host.Outcome State Fault Refusal :=
  match s.slug handle with
  | some x =>
    if (x.state = .waiting ∨ x.state = .ready) ∧ x.expiry = .lateRun ∧ s.withinHorizon x = false
        ∧ s.pastDeadline x = true then .next (s.expireSlug handle x)
    else .next s
  | none => .next s

/-! ## Stalls (R104) -/

/-- The lowest handle of a partition's WAITING slugs. -/
def State.lowestWaiting (s : State) (p : Nat) : Option (Nat × Slug) :=
  s.galley.slugs.find? (fun e => decide (e.2.part = p ∧ e.2.state = .waiting))

/-- LAST_STALL: partition, forme, impression and lowest waiting handle (Table 03-7). -/
def State.stallRecord (s : State) (p : Nat) : List Byte :=
  match s.lowestWaiting p with
  | some (h, x) => leBytes 2 p ++ leBytes 2 x.forme ++ leBytes 4 x.imp ++ leBytes 2 h
  | none => leBytes 2 p ++ leBytes 8 0

/-- STALL_DECLARE (R104): a partition stalled for STALL_CONFIRM is declared; under action abort its live
impressions are aborted. -/
def execStallDeclare (part : Nat) (s : State) : Host.Outcome State Fault Refusal :=
  let x := Tab.get {} s.galley.stalls part
  match x.since with
  | none => .next s
  | some t0 =>
    if s.stalled part && !x.declared
        && decide ((s.nat OD.stallConfirm * 12288 : Nat) ≤ (s.time.air - t0) * 25) then
      let t := { s with galley := { s.galley with stalls := Tab.put {} s.galley.stalls part { x with declared := true } } }
      let t := t.setOct OD.lastStall 0 (s.stallRecord part)
      let t := (t.bump OD.stalls).raise 0x0508 part (some part)
      if s.nat OD.stallAction = 0 then .next ((s.impsOf part).foldl (State.abortImp · true) t) else .next t
    else .next s

/-! ## Firmware submission (R103) -/

/-- May a requester reach the device registers (R32): control cores in M-mode, the recovery pair and the
Basecamp controller? `priv` says that a control core is in M-mode. -/
def ReqKind.privileged (priv : Bool) : ReqKind → Bool
  | .cc => priv | .recovery => true | .basecamp => true | _ => false

/-- A request refused under R32: bus error, and MINOR alarm 0x0B01. -/
def State.refuseReq (s : State) : State := (s.answerErr 1).raise 0x0B01

/-- A free handle reserved for firmware (R103). -/
def State.reserveHandle (s : State) (h : Nat) : State :=
  { s with galley := { s.galley with
    reserved := insertN s.galley.reserved h, reservedAt := Tab.set s.galley.reservedAt h s.nowNs } }

/-- A reservation ended. -/
def State.dropHandle (s : State) (h : Nat) : State :=
  { s with galley := { s.galley with
    reserved := removeN s.galley.reserved h, reservedAt := Tab.del s.galley.reservedAt h } }

/-- SLUG_HANDLE_RESERVE (R103): [15:0] a free handle and [16] a valid flag; the handle is reserved. -/
def execSlugHandleReserve (kind : ReqKind) (priv : Bool) (s : State) : Host.Outcome State Fault Refusal :=
  if !s.spineOn then .next s
  else if ReqKind.privileged priv kind then
    match s.freeHandles 1 with
    | h :: _ =>
      .next ((s.reserveHandle h).answerFab .rdata 0 (leBytes 8 (h + 65536)))
    | [] => .next (s.answerFab .rdata 0 (leBytes 8 0))
  else .next s.refuseReq

/-- A slug submitted (R103): checked, and joined to its live impression. -/
def State.submitSlug (s : State) (handle : Nat) (bytes : List Byte) : State :=
  let d := leNat (bytes.take 64)
  match s.submitReason handle d with
  | 0 =>
    let x : Slug := { slugOf d with submitted := true }
    match s.imp x.imp with
    | none => s
    | some m =>
      let t := s.dropHandle handle
      let t := { t with galley := { t.galley with
        slugs := Tab.set s.galley.slugs handle x
        imps := Tab.set s.galley.imps x.imp { m with slugs := m.slugs ++ [handle] } } }
      let t := if m.released = false then t.setSlug handle { x with state := .free }
        else if x.initDep = 0 then t.makeReady handle x else t
      let t := t.peak OD.livePeak 0 t.liveSlugs
      (t.stallEval x.part).answer 0
  | r => s.answer r

/-- SLUG_SUBMIT (R103): Galley is powered with the spine (R18). -/
def execSlugSubmit (handle : Nat) (bytes : List (BitVec 8)) (s : State) : Host.Outcome State Fault Refusal :=
  .next (if s.spineOn then s.submitSlug handle bytes else s)

/-- SLUG_DECREMENT (R103): a firmware write of a handle to offset 0x1008. -/
def execSlugDecrement (handle : Nat) (s : State) : Host.Outcome State Fault Refusal :=
  let p := match s.slug handle with | some x => x.part | none => 0
  .next (if s.spineOn then (s.decrement handle false true).stallEval p else s)

/-- HANDLE_RESERVE_TIMEOUT (R103): a reserved handle not submitted within 1 ms is free again. -/
def execHandleReserveTimeout (handle : Nat) (s : State) : Host.Outcome State Fault Refusal :=
  .next (if s.passed (Tab.get 0 s.galley.reservedAt handle) 1000000 then s.dropHandle handle else s)

/-! ## TIMER slugs (R109) -/

/-- Waiting time of a slug in nanoseconds of air time, from READY to now (R105). -/
def State.waitNs (s : State) (x : Slug) : Nat := ((s.time.air - x.readyAt) * 1000000000 / 491520000).toNat

/-- The histogram bucket of a waiting time: k counts from 64·2^k up to 128·2^k ns, 0 also less and 15 also
more (R105). -/
def waitBucket (ns : Nat) : Nat := min 15 (Nat.log2 (ns / 64))

/-- A dispatch counted (Tables 03-7, 03-11). -/
def State.countDispatch (s : State) (x : Slug) : State :=
  let t := (s.bump OD.dispatches).bump OD.waitHist (x.cls * 256 + 16 * x.prio + waitBucket (s.waitNs x))
  let t := if s.pastDeadline x then t.bump OD.lateRunStarts else t
  t.trace 0

/-- A TIMER slug completes OK, with no binding pairs. -/
def State.timerDone (s : State) (h : Nat) (x : Slug) : State :=
  match s.imp x.imp with
  | some m => (s.lateCount x).completeOk h x m []
  | none => s

/-- Has the tick of a TIMER slug been reached or passed, by diff32 (R109)? -/
def State.timerReached (s : State) (x : Slug) : Bool :=
  match s.imp x.imp with
  | some m => decide (diff32 (timerTick m x) (low32 s.time.air) ≤ 0)
  | none => false

/-- A READY TIMER slug of a kind is dispatched in the cycle in which it becomes READY; it completes at once
where its tick has passed (R109). -/
def State.timerDispatch (s : State) (h kind : Nat) : State :=
  match s.slug h with
  | some x =>
    if x.state = .ready ∧ x.cls = 14 ∧ x.kind = kind then
      let t := (s.countDispatch x).setSlug h { x with state := .running }
      let t := t.stallEval x.part
      if s.timerReached x then t.timerDone h { x with state := .running } else t
    else s
  | none => s

/-- AT_OFFSET (R109). -/
def execAtOffset (handle : Nat) (s : State) : Host.Outcome State Fault Refusal := .next (s.timerDispatch handle 1)

/-- AT_TICK (R109). -/
def execAtTick (handle : Nat) (s : State) : Host.Outcome State Fault Refusal := .next (s.timerDispatch handle 2)

/-- TIMER_SLUG_FIRE (R109): a RUNNING TIMER slug completes OK at its tick. -/
def execTimerSlugFire (handle : Nat) (s : State) : Host.Outcome State Fault Refusal :=
  match s.slug handle with
  | some x =>
    if x.state = .running ∧ x.cls = 14 ∧ s.timerReached x = true then .next (s.timerDone handle x) else .next s
  | none => .next s

/-- Every RUNNING TIMER slug whose tick a forward step has skipped completes at the end of the step (R109). -/
def State.fireTimers (s : State) : State :=
  (s.galley.slugs.map (·.1)).foldl (fun t h =>
    match t.slug h with
    | some x => if x.state = .running ∧ x.cls = 14 ∧ t.timerReached x = true then t.timerDone h x else t
    | none => t) s

/-! ## Counts and load (R105) -/

/-- Address codes of the counts of Tables 03-7 to 03-11 that COUNT_CLEAR clears. -/
def galleyCounts : List Nat :=
  [0x600004, 0x600005, 0x600006, 0x600007, 0x600008, 0x600009, 0x60000A, 0x60000B, 0x60000C, 0x60000D,
   0x60000E, 0x60000F, 0x600010, 0x600011, 0x600013, 0x60001D, 0x610009, 0x630003, 0x630004, 0x630005, 0x602001]

/-- Every Galley count and histogram cleared in one step; the peaks restart from the current values (R105). -/
def clearCounts (s : State) : State :=
  let t := s.withVal (s.dict.val.filter (fun e => !has galleyCounts (keyCode e.1)))
  (t.setNum OD.livePeak 0 s.liveSlugs).setNum OD.counterPeak 0 s.galley.counters.length

/-- COUNT_CLEAR (R105): a write of 1 clears. -/
def execCountClear (who : Requester) (v : Nat) (s : State) : Host.Outcome State Fault Refusal :=
  .next (s.actSel who OD.countClear v (fun _ t => .ok (if v = 1 then clearCounts t else t)))

/-- The load object of an executor class (Table 03-12). -/
def loadObj (cls : Nat) : Obj :=
  [OD.loadVx, OD.loadCc, OD.loadMe, OD.loadTe, OD.loadLd, OD.loadLe, OD.loadPl, OD.loadTd, OD.loadHq,
   OD.loadFu, OD.loadCu, OD.loadDma].getD cls OD.loadVx

/-- Busy ticks of a unit in the window that ends now. -/
def State.busyTicks (s : State) (x : UnitSt) : Nat :=
  x.busy + (if x.held.isSome then (s.time.air - x.since).toNat else 0)

/-- Load of one unit recorded and its window restarted. -/
def State.loadUnit (cls : Nat) (s : State) (u : Nat) : State :=
  let x := s.unit cls u
  let t := s.setNum (loadObj cls) u (min 255 (255 * s.busyTicks x / subframeTicks.toNat) : Nat)
  t.setUnit cls u { x with busy := 0, since := if x.held.isSome then s.time.air else x.since }

/-- LOAD_WINDOW_END (R105): floor(255 × busy / window) of every unit, once for each 1 ms window of air time (DESIGN CHOICE: the fixed
windows are those of air time). -/
def execLoadWindowEnd (s : State) : Host.Outcome State Fault Refusal :=
  let w := s.time.air / subframeTicks
  if s.galley.loadWindow = some w then .next s
  else
    let t := (List.range 12).foldl (fun t c => (List.range (unitsOf c)).foldl (State.loadUnit c) t) s
    .next { t with galley := { t.galley with loadWindow := some w } }

/-! ## Formes and cells through the dictionary -/

/-- FORME_IMAGE (R86). -/
def execFormeImage (who : Requester) (bytes : List (BitVec 8)) (s : State) : Host.Outcome State Fault Refusal :=
  .next (s.actSel who OD.formeImage 0 (fun f => writeFormeImage f bytes))

/-- FORME_ENABLE (R87). -/
def execFormeEnable (who : Requester) (s : State) : Host.Outcome State Fault Refusal :=
  .next (s.actSel who OD.formeEnable 1 (fun f => enableForme f 1))

/-- FORME_DISABLE (R87): accepted with live impressions, which run to close. -/
def execFormeDisable (who : Requester) (s : State) : Host.Outcome State Fault Refusal :=
  .next (s.actSel who OD.formeEnable 0 (fun f => enableForme f 0))

/-- CELL_ENABLE (R90). -/
def execCellEnable (who : Requester) (v : Nat) (s : State) : Host.Outcome State Fault Refusal :=
  .next (s.actSel who OD.cellEnable v (fun c => enableCell c v))

/-- SLOT_FORMES (R90). -/
def execSlotFormes (who : Requester) (v : BitVec 64) (s : State) : Host.Outcome State Fault Refusal :=
  .next (s.actSel who OD.slotFormes v.toNat (fun i => writeSlotFormes i v.toNat))

end Sys2Proof.Machine
end

