-- ==== Sys2Proof/Machine/Aes.lean ====
section
/-!
DEFINITION. The ciphers of memory regions (R398, R399): AES with 256-bit keys (FIPS 197), XTS of one line
(IEEE 1619) and GMAC (NIST SP 800-38D).  Blocks are lists of 16 bytes.
-/

namespace Sys2Proof.Machine

open Sys2Proof

/-! ## AES-256 (FIPS 197) -/

/-- A byte times x modulo x⁸ + x⁴ + x³ + x + 1. -/
def xtime (a : Byte) : Byte := if a.msb then (a <<< 1) ^^^ 0x1B#8 else a <<< 1

/-- The product of two bytes, over the `n` low bits of the second. -/
def gfMul : Nat → Byte → Byte → Byte
  | 0, _, _ => 0#8
  | n + 1, a, b => (if b.getLsbD 0 then a else 0#8) ^^^ gfMul n (xtime a) (b >>> 1)

/-- The inverse of a byte, its 254th power; 0 of 0. -/
def gfInv (a : Byte) : Byte :=
  let sq (x : Byte) : Byte := gfMul 8 x x
  let a2 := sq a
  let a4 := sq a2
  let a8 := sq a4
  let a16 := sq a8
  let a32 := sq a16
  let a64 := sq a32
  let a128 := sq a64
  gfMul 8 a2 (gfMul 8 a4 (gfMul 8 a8 (gfMul 8 a16 (gfMul 8 a32 (gfMul 8 a64 a128)))))

/-- SubBytes of one byte. -/
def sBox (a : Byte) : Byte :=
  let b := gfInv a
  b ^^^ b.rotateLeft 1 ^^^ b.rotateLeft 2 ^^^ b.rotateLeft 3 ^^^ b.rotateLeft 4 ^^^ 0x63#8

/-- Two blocks added. -/
def xorB (a b : List Byte) : List Byte := List.zipWith (· ^^^ ·) a b

/-- ShiftRows: row `r` of the column-wise block turned left by `r`. -/
def shiftRows (s : List Byte) : List Byte := (List.range 16).map (fun k => s.getD ((k + 4 * (k % 4)) % 16) 0#8)

/-- MixColumns. -/
def mixColumns (s : List Byte) : List Byte :=
  (List.range 16).map (fun k =>
    let at_ (i : Nat) : Byte := s.getD (k / 4 * 4 + (k + i) % 4) 0#8
    xtime (at_ 0) ^^^ (xtime (at_ 1) ^^^ at_ 1) ^^^ at_ 2 ^^^ at_ 3)

/-- One round of key expansion: 32 bytes of key schedule give the next 32. -/
def nextKey (rcon : Byte) (k : List Byte) : List Byte :=
  let word (i : Nat) : List Byte := (k.drop (4 * i)).take 4
  let t := ((word 7).drop 1 ++ (word 7).take 1).map sBox
  let w0 := xorB (word 0) (xorB t [rcon, 0#8, 0#8, 0#8])
  let w1 := xorB (word 1) w0
  let w2 := xorB (word 2) w1
  let w3 := xorB (word 3) w2
  let w4 := xorB (word 4) (w3.map sBox)
  let w5 := xorB (word 5) w4
  let w6 := xorB (word 6) w5
  w0 ++ w1 ++ w2 ++ w3 ++ w4 ++ w5 ++ w6 ++ xorB (word 7) w6

/-- The key schedule, `n` times 32 bytes after the key. -/
def schedule : Nat → Byte → List Byte → List Byte
  | 0, _, k => k
  | n + 1, rcon, k => k ++ schedule n (xtime rcon) (nextKey rcon k)

/-- Rounds 1 to 13 of the cipher, from the round keys left. -/
def aesRounds : Nat → List Byte → List Byte → List Byte
  | 0, w, s => xorB (shiftRows (s.map sBox)) (w.take 16)
  | n + 1, w, s => aesRounds n (w.drop 16) (xorB (mixColumns (shiftRows (s.map sBox))) (w.take 16))

/-- A block enciphered under 32 bytes of key. -/
def aes256 (key block : List Byte) : List Byte :=
  let w := schedule 7 1#8 key
  aesRounds 13 (w.drop 16) (xorB block (w.take 16))

/-! ## XTS (IEEE 1619) -/

/-- A tweak times the primitive element: the block as a little-endian number. -/
def xtsNext (t : List Byte) : List Byte :=
  let v := leNat t
  leBytes 16 ((if v < 2 ^ 127 then 2 * v else (2 * v) ^^^ 0x87) % 2 ^ 128)

/-- `n` blocks of a data unit enciphered, from the block tweak `t`. -/
def xtsBlocks (key : List Byte) : Nat → List Byte → List Byte → List Byte
  | 0, _, _ => []
  | n + 1, t, p => xorB (aes256 key (xorB (p.take 16) t)) t ++ xtsBlocks key n (xtsNext t) (p.drop 16)

/-- XTS-AES-256 of a 64-byte data unit numbered `tweak`, under the two keys. -/
def xtsLine (key1 key2 : List Byte) (tweak : Nat) (plain : List Byte) : List Byte :=
  xtsBlocks key1 4 (aes256 key2 (leBytes 16 tweak)) plain

/-! ## GMAC (NIST SP 800-38D) -/

/-- A block as the big-endian number GHASH works on: its first bit is the most significant. -/
def beNat (b : List Byte) : Nat := b.foldl (fun n x => 256 * n + x.toNat) 0

/-- The `n` bytes of a number, the most significant first. -/
def beBytes (n v : Nat) : List Byte := (leBytes n v).reverse

/-- The product of two blocks, over the `n` top bits of the first that are left. -/
def ghashMul : Nat → Nat → Nat → Nat
  | 0, _, _ => 0
  | n + 1, x, v => (if x.testBit n then v else 0) ^^^ ghashMul n x (if v % 2 = 1 then (v / 2) ^^^ (0xE1 * 2 ^ 120) else v / 2)

/-- GHASH under `h` of `n` blocks. -/
def ghash (h : Nat) : Nat → Nat → List Byte → Nat
  | 0, y, _ => y
  | n + 1, y, b => ghash h n (ghashMul 128 (y ^^^ beNat (b.take 16)) h) (b.drop 16)

/-- GMAC of `data` under a 32-byte key and a 96-bit initialisation vector, its first 64 bits. -/
def gmac64 (key iv data : List Byte) : Nat :=
  let h := beNat (aes256 key (List.replicate 16 0#8))
  let pad := List.replicate ((16 - data.length % 16) % 16) 0#8
  let blocks := data ++ pad ++ beBytes 8 (8 * data.length) ++ beBytes 8 0
  let tag := ghash h (blocks.length / 16) 0 blocks ^^^ beNat (aes256 key (iv ++ [0#8, 0#8, 0#8, 1#8]))
  tag / 2 ^ 64

end Sys2Proof.Machine
end

