-- ==== Sys2Proof/Machine/MogilLink.lean ====
section
/-!
DEFINITION. The Mogil link's groups (R261–R280): their states and defects, sending, acknowledging and
resending packets, and what happens when a group leaves ACTIVE.
-/

namespace Sys2Proof.Machine

open Sys2Proof

/-- A group. -/
def State.grp (s : State) (g : Nat) : Group := Tab.get {} s.mogil.groups g

/-- A group replaced. -/
def State.setGrp (s : State) (g : Nat) (x : Group) : State :=
  { s with mogil := { s.mogil with groups := Tab.put {} s.mogil.groups g x } }

/-- The groups that are ACTIVE, in ascending order. -/
def State.activeGroups (s : State) : List Nat :=
  (List.range 4).filter (fun g => decide ((s.grp g).state = .active))

/-- The link is active: at least one group is (R268). -/
def State.linkUp (s : State) : Bool := !s.activeGroups.isEmpty

/-- The group that carries an entry of the 64-entry map: the ACTIVE groups in rotation (R280). -/
def State.mapGroup (s : State) (e : Nat) : Option Nat := s.activeGroups[e % s.activeGroups.length]?

/-- The map entry of a packet: address bits [13:8] (R280). -/
def mapEntry (p : FabPacket) : Nat := bits p.addr 13 8

/-- The virtual channel of a command (Table 10-4). -/
def vcOf : FabCmd → Nat
  | .msg => 2 | .sealCmd => 2 | .unsealCmd => 2 | .rdata => 1 | .ack => 1 | .err => 1 | _ => 0

/-- Data flits of a packet (R291). -/
def dataFlits (p : FabPacket) : Nat := (p.data.length + 31) / 32

/-- Cells of a packet: one start cell and ⌈(flits − 1) / 2⌉ data cells (R271). -/
def cellsOf (p : FabPacket) : Nat := 1 + (dataFlits p + 1) / 2

/-! ## Sending (R271–R275) -/

/-- Has a group credit for cells of a virtual channel (R274)? -/
def Group.credit (x : Group) (vc n : Nat) : Bool :=
  decide ((Tab.get 0 x.sentCells vc + 4096 - Tab.get 0 x.retCells vc) % 4096 + n ≤ 256)

/-- Has a group room in its retry buffer and credit for every cell of a packet, and no resend that waits (R273, R274)? -/
def Group.canSend (x : Group) (p : FabPacket) : Bool :=
  decide ((x.retry.map (·.cells)).sum + cellsOf p ≤ 1024) && x.credit (vcOf p.cmd) (cellsOf p) && x.retry.all (fun e => !e.due)

/-- Cells counted against the peer's buffer. -/
def Group.spend (x : Group) (vc n : Nat) : Group :=
  { x with sentCells := Tab.put 0 x.sentCells vc ((Tab.get 0 x.sentCells vc + n) % 4096) }

/-- A new packet started on a group under the next counter; after REKEY_PACKETS packets under one epoch it
starts the next epoch (R271, R277). -/
def State.startPacket (s : State) (g : Nat) (p : FabPacket) : State :=
  let x := s.grp g
  let roll := decide (s.nat OD.rekeyPackets ≤ x.epochPkts)
  let ep := if roll then x.epochTx + 1 else x.epochTx
  let y := (x.spend (vcOf p.cmd) (cellsOf p))
  let y := { y with
    epochTx := ep, epochPkts := if roll then 1 else x.epochPkts + 1, nextTx := x.nextTx + 1
    ackAt := if x.retry.isEmpty then s.nowNs else x.ackAt
    retry := x.retry ++ [⟨x.nextTx, ep, vcOf p.cmd, cellsOf p, p, p.slug.map (·.1), 0, false⟩] }
  let t := (s.setGrp g y).bump OD.packetsTx g
  let t := { t with mogil := { t.mogil with out := t.mogil.out ++ [(g, p)] } }
  if roll then t.raise 0x040C g else t

/-- A packet for the peer handed to the link: it waits there until a group can start it (R274). -/
def State.toPeer (s : State) (p : FabPacket) : State :=
  { s with mogil := { s.mogil with waitq := s.mogil.waitq ++ [p] } }

/-- A link cell sent with a message and its body (R275, R276, Table 09-5): LC_COUNTER rises, and an ACK or NAK that was due is given. -/
def State.sendCell (s : State) (g msg body : Nat) : State :=
  let x := s.grp g
  let c : CellTx := ⟨g, msg, (List.range 4).map (fun k => Tab.get 0 x.takenCells k), x.nextRx - 1, x.lcTx,
    if x.secured || decide (x.state = .active) then x.epochTx else 0, body % 2 ^ 224⟩
  let t := s.setGrp g { x with lcTx := x.lcTx + 1, ackDue := false, nakDue := false }
  { t with mogil := { t.mogil with cells := t.mogil.cells ++ [c] } }

/-! ## Leaving a state -/

/-- Every transaction of discarded packets ends with an error completion to its requester (R280): NO_PEER
(R293). -/
def State.failPackets (s : State) (l : List Sent) : State :=
  let errs := (l.filter (fun e => decide (vcOf e.pkt.cmd = 0))).map (fun e =>
    { e.pkt with cmd := .err, status := 8, data := [], bytes := 0 })
  { s with fab := { s.fab with delivered := s.fab.delivered ++ errs } }

/-- The outstanding packets of a group discarded, with MAJOR alarm 0x040D (R280). -/
def State.discardOut (s : State) (g : Nat) : State :=
  let x := s.grp g
  let t := s.setGrp g { x with retry := [], resuming := false }
  if x.retry.isEmpty then t else (t.failPackets x.retry).raise 0x040D g

/-- A group leaves ACTIVE (R280): LAST_ACCEPTED, with the group in [1:0] and the last counter accepted in [65:2], is sent on every group
still ACTIVE, and its outstanding packets wait for the peer's, or are discarded where no group is ACTIVE. -/
def State.afterActive (s : State) (g : Nat) : State :=
  match s.activeGroups with
  | [] =>
    let t := (List.range 4).foldl State.discardOut s
    { t with mogil := { t.mogil with downAt := some s.nowNs } }
  | l =>
    (l.foldl (fun t k => t.sendCell k 5 (g + 4 * ((s.grp g).nextRx - 1))) s).setGrp g { s.grp g with resuming := true, resumeAt := s.nowNs }

/-- A group enters a state other than ACTIVE. -/
def State.leaveTo (s : State) (g : Nat) (st : GroupState) : State :=
  let x := s.grp g
  let t := s.setGrp g { x with state := st, secured := false, holdAt := if st = .hold then s.nowNs else x.holdAt }
  if x.state = .active then t.afterActive g else t

/-- TRAINING entered from a later state or from HOLD. -/
def State.toTraining (s : State) (g : Nat) : State := s.leaveTo g .training

/-- HOLD entered with an alarm (Table 09-6). -/
def State.toHold (s : State) (g alarm : Nat) : State :=
  let t := s.leaveTo g .hold
  (t.setGrp g { t.grp g with kexRunning := false }).raise alarm g

/-! ## Defects (R269) -/

/-- The lowest row of Table 09-7 that is present. -/
def topDefect (d : Nat) : Option Nat := (List.range 8).find? (fun k => bit d k)

/-- The defects after row `k + 1` arises or ends: none of a lower row is kept below a present one. -/
def defectsAfter (d k : Nat) (b : Bool) : Nat :=
  let e := withBit d k b
  match topDefect e with
  | some j => 2 ^ j
  | none => 0

/-- Alarms 0x0401–0x0408 of a group follow its defects. -/
def State.defectAlarms (s : State) (g d : Nat) : State :=
  (List.range 8).foldl (fun t k => t.condition (0x0401 + k) g (bit d k)) s

/-- A defect of row `k + 1` arises or ends on a group; rows 1–7 send a group in a later state back to
TRAINING (Table 09-6). -/
def State.setDefect (s : State) (g k : Nat) (b : Bool) : State :=
  let x := s.grp g
  let d := defectsAfter x.defects.toNat k b
  let t := s.setGrp g { x with defects := BitVec.ofNat 8 d }
  let t := t.defectAlarms g d
  if bit d k && b && decide (k < 7)
      && (x.state = .negotiating || x.state = .securing || x.state = .active) then t.toTraining g
  else t

/-- Loss of signal on a lane of a group: the search is aborted, and sampling phases, lock, deskew, the
agreed version and the keys are discarded (R270). -/
def State.mogilSignalLoss (s : State) (g lane : Nat) : State :=
  let t := s.setDefect g 0 true
  let x := t.grp g
  let l : MogLane := Tab.get {} x.lanes lane
  let lanes := Tab.mapV (fun _ (m : MogLane) => { m with
    inFrame := false, good := 0, bad := 0, inMulti := false, mgood := 0, mbad := 0, lock := false }) x.lanes
  let y := { x with
    lanes := Tab.put {} lanes lane { l with signal := false, lock := false, inFrame := false, inMulti := false, good := 0, mgood := 0 }
    search := .none, agreed := none, secured := false, rdiRun := 0 }
  t.setGrp g y

/-- Loss of lock or of block lock on a lane: the search restarts from phase training without the debounce
(R270). -/
def State.mogilRelock (s : State) (g lane row : Nat) : State :=
  let t := s.setDefect g row true
  let x := t.grp g
  let l : MogLane := Tab.get {} x.lanes lane
  t.setGrp g { x with
    lanes := Tab.put {} x.lanes lane { l with lock := false, inFrame := false, inMulti := false, good := 0, mgood := 0 }
    search := if x.search = .debounce then .debounce else .running }

/-! ## Retry (R272, R273) -/

/-- Packets up to a counter acknowledged; the resend counts of the rest start anew when ACK advances. -/
def Group.ackTo (x : Group) (a : Nat) : Group :=
  let rest := x.retry.filter (fun e => decide (a < e.counter))
  if rest.length < x.retry.length then
    { x with retry := rest.map (fun e => { e with resends := 0 }), acked := a }
  else x

/-- The resends that are due, as far as credit lasts: what is kept and what leaves. -/
def resendOver : Group → List Sent → Group × List Sent × List Sent
  | x, [] => (x, [], [])
  | x, e :: l =>
    if !e.due then match resendOver x l with | (y, kept, gone) => (y, e :: kept, gone)
    else if x.credit e.vc e.cells then
      match resendOver (x.spend e.vc e.cells) l with
      | (y, kept, gone) => (y, { e with due := false, resends := e.resends + 1 } :: kept, e :: gone)
    else (x, e :: l, [])

/-- Resends that are due leave in order; one waits for credit and is never dropped for want of it (R274). -/
def State.resendDue (s : State) (g : Nat) : State :=
  match resendOver (s.grp g) (s.grp g).retry with
  | (y, kept, gone) =>
    let t := (s.setGrp g { y with retry := kept }).bumpBy OD.resends g gone.length
    { t with mogil := { t.mogil with out := t.mogil.out ++ gone.map (fun e => (g, e.pkt)) } }

/-- Every outstanding packet of a group is to be sent again, in order (R273); after RETRY_LIMIT resends of one packet
the group enters TRAINING. -/
def State.resendAll (s : State) (g : Nat) : State :=
  let x := s.grp g
  if x.retry.any (fun e => decide (s.nat OD.retryLimit ≤ e.resends)) then (s.toTraining g).raise 0x040B g
  else (s.setGrp g { x with retry := x.retry.map (fun e => { e with due := true }), ackAt := s.nowNs }).resendDue g

/-- An authentication failure: 16 within 1 ms put the group in HOLD (R272, R278). -/
def State.authFail (s : State) (g : Nat) : State :=
  let x := s.grp g
  let l := (s.nowNs :: x.authTimes).take 16
  let t := (s.setGrp g { x with authTimes := l }).bump OD.authFails g
  if l.length = 16 ∧ s.nowNs ≤ l.getD 15 0 + 1000000 then
    (t.setGrp g { t.grp g with authTimes := [] }).toHold g 0x040A
  else t

/-- The one NAK of an expected counter (R272). -/
def State.nakOnce (s : State) (g : Nat) : State :=
  let x := s.grp g
  if x.nakSent then s else s.setGrp g { x with nakSent := true, nakDue := true }

end Sys2Proof.Machine
end

