-- ==== Sys2Proof/Machine/Coordinator.lean ====
section
/-!
DEFINITION. The maintenance coordinator (R442, R443): requests, conflicts, grants and returned tokens.
-/

namespace Sys2Proof.Machine

open Sys2Proof

/-- Lanes of a port configuration (Table 08-2). -/
def lanesOfRow (row : Nat) : Nat := [1, 1, 4, 2, 1, 4, 2, 8, 4, 1].getD row 1

/-- The lanes of port `n`, from its configuration in force. -/
def State.portLanes (s : State) (n : Nat) : List Nat :=
  (List.range (lanesOfRow (bits (s.govN OD.portConfig n) 3 0))).map (fun k => n + k)

/-- The enabled port a lane belongs to. -/
def State.portOfLane (s : State) (l : Nat) : Option Nat :=
  s.front.portsOn.find? (fun n => has (s.portLanes n) l)

/-- Port and alternate port of a flow (OD 0x4140.02). -/
def State.flowPort (s : State) (f : Nat) : Nat := bits (s.govN OD.flowMatch f) 4 0
def State.flowAlt (s : State) (f : Nat) : Option Nat :=
  let m := s.govN OD.flowMatch f
  if bit m 41 then some (bits m 40 36) else none

/-- Two ports of which one is the alternate of a flow of the other. -/
def State.alternates (s : State) (p q : Nat) : Bool :=
  s.front.flowsOn.any (fun f => decide (s.flowAlt f = some q ∧ s.flowPort f = p)
    || decide (s.flowAlt f = some p ∧ s.flowPort f = q))

/-- A copy of a slot-store bank is running (R304). -/
def State.bankCopy (s : State) : Bool := s.fab.copying.isSome

/-- Must an activity wait while another holds a token (Table 16-3)? -/
def State.waitsFor (s : State) (a b : Act) : Bool :=
  match a.code with
  | 1 => decide (b.code = 1 ∧ b.inst = a.inst)
  | 2 => decide (b.code = 3) || (decide (b.code = 2) &&
      (match s.portOfLane a.inst, s.portOfLane b.inst with
        | some p, some q => decide (p = q) || s.alternates p q
        | _, _ => false))
  | 3 => decide (b.code = 2) || decide (b.code = 4)
  | 4 => decide (b.code = 3) || decide (b.code = 5) || decide (b.code = 6)
  | 5 => decide (b.code = 4) || decide (b.code = 5)
  | _ => false

/-- Must an activity wait on the state itself (Table 16-3; an upgrade starts from RUN or DEGRADED, row 12 of Table
13-2)? -/
def State.waitsState (s : State) (a : Act) : Bool :=
  (decide (a.code = 5) && decide (s.causes ≠ 0)) || (decide (a.code = 6) && s.bankCopy)
    || (decide (a.code = 4) && (s.inTransition || (decide (s.mode.mode ≠ .run) && decide (s.mode.mode ≠ .degraded))))

/-- Instances of an activity that may hold tokens at once (Table 16-3). -/
def State.tokenLimit (s : State) (code : Nat) : Nat :=
  if code = 0 then 15 else if code = 1 then s.nat OD.rekeyConcurrent
  else if code = 2 then s.nat OD.recalConcurrent else 1

/-- May a waiting request be granted now? None is while the recovery pair does not run (R438, R440). -/
def State.grantable (s : State) (a : Act) : Bool :=
  decide (s.res.recovery = .running) && !s.waitsState a && s.res.held.all (fun b => !s.waitsFor a b && decide (b ≠ a))
    && decide ((s.res.held.filter (fun b => decide (b.code = a.code))).length < s.tokenLimit a.code)

/-- A region. -/
def State.region (s : State) (r : Nat) : Region := Tab.get {} s.sec.regions r

/-- A region replaced. -/
def State.setRegion (s : State) (r : Nat) (x : Region) : State :=
  { s with sec := { s.sec with regions := Tab.put {} s.sec.regions r x } }

/-- The queue in the order it is served (R443): re-keys of regions that hold a write, then the timebase
step, then arrival. -/
def State.queueOrder (s : State) : List Act :=
  let first (a : Act) : Bool := decide (a.code = 1) && !(s.region a.inst).held.isEmpty
  let second (a : Act) : Bool := decide (a.code = 3)
  s.res.queue.filter first ++ s.res.queue.filter (fun a => !first a && second a)
    ++ s.res.queue.filter (fun a => !first a && !second a)

/-- The generation after one (R404): 65,535 is followed by 1. -/
def nextGeneration (g : Nat) : Nat := if 65535 ≤ g then 1 else g + 1

/-- Classes of the drill rotation (R444): VX, ME, TE, LD, LE, PL, TD, HQ. -/
def drillRotation : List Nat := [0, 2, 3, 4, 5, 6, 7, 8]

/-- The unit a drill takes next: the class's next active unit above the one drilled last, in ascending
rotation (R444). -/
def State.drillUnit (s : State) (cls : Nat) : Option Nat :=
  let us := s.activeUnits cls
  let last := Tab.get 0 s.res.drilled cls
  match us.find? (fun u => decide (last ≤ u)) with
  | some u => some u
  | none => us.head?

/-- A slot-store bank; SB23 is the spare of a device whose banks are all sound (R30). -/
def State.bank (s : State) (b : Nat) : Bank :=
  match Tab.find s.fab.banks b with
  | some x => x
  | none => { state := if b = 23 then .spare else .active }

/-- A bank replaced. -/
def State.setBank (s : State) (b : Nat) (x : Bank) : State :=
  { s with fab := { s.fab with banks := Tab.set s.fab.banks b x } }

/-- The bank in a given state, if any. -/
def State.bankIn (s : State) (st : BankState) : Option Nat :=
  (List.range 24).find? (fun b => decide ((s.bank b).state = st))

/-- A key drawn from the DRBG (R398): 768 bits, the two keys of XTS-AES-256 and the key of the MACs.  The spec does not say which
key the MACs take (DESIGN CHOICE: a third one of the same draw). -/
def drawnKey (i : Nat) : Nat := Config.free i % 2 ^ 768

/-- The block of the first held write, which is taken out of order (R406). -/
def Region.heldBlock (r : Region) : Option Nat := r.held.head?.map (fun p => (p.addr - r.base) / 1024)

/-- The block a re-key takes next and its version: that of a held write, else the first in address order that does not carry the
new generation yet (R405, R406). -/
def Region.nextWork (r : Region) : Option (Nat × Nat) :=
  let old (b : Nat) : Bool := decide (Tab.get 1 r.blockGen b ≠ r.generation)
  let b := match r.heldBlock with
    | some b => if old b then some b else (List.range (r.pages * 4)).find? old
    | none => (List.range (r.pages * 4)).find? old
  b.map (fun b => (b, Tab.get 0 r.version b))

/-- The re-key of an ACTIVE region starts: the next generation with a key from the DRBG (R398, R404, R405), and step 1 on its
first block. -/
def State.startRekey (s : State) (k : Nat) : State :=
  let x := s.region k
  if x.state = .active then
    let (i, t) := s.draw
    let x := { x with
      state := .rekeying, generation := nextGeneration x.generation
      key := some (drawnKey i), prevKey := x.key, workAt := s.nowNs }
    t.setRegion k { x with work := x.nextWork }
  else s

/-- What a granted token starts: a re-key takes the next generation (R405), an upgrade enters UPGRADE and
records each core's image (R445), a drill takes its unit (R444), the spare bank goes under test (R307). -/
def State.onGrant (s : State) (a : Act) : State :=
  match a.code with
  | 1 => s.startRekey a.inst
  | 4 =>
    let t := { s with res := { s.res with
      entryImages := (List.range 96).foldl (fun t v => Tab.put 0 t v (s.nat OD.coreImage v)) []
      upgradeWaiting := false, upgradeAt := s.nowNs, newImages := [], recoveryChanged := false, previous := none } }
    if s.mode.mode = .run ∨ s.mode.mode = .degraded then t.enterMode .upgrade 0 else t
  | 5 =>
    match s.drillUnit a.inst with
    | some u => { s with res := { s.res with drill := some (a.inst, u) } }
    | none => s
  | 6 =>
    match s.bankIn .spare with
    | some b =>
      let t := s.setBank b { s.bank b with state := .underTest }
      { t with fab := { t.fab with domains := Tab.put {} t.fab.domains (108 + b) { (Tab.get {} t.fab.domains (108 + b) : Domain) with state := .on } } }
    | none => s
  | _ => s

/-- The key of a request in the table of waiting times. -/
def Act.key (a : Act) : Nat := a.code * 65536 + a.inst

/-- One waiting request granted, or left waiting. -/
def State.grantOne (s : State) (a : Act) : State :=
  if s.grantable a then
    let t := { s with res := { s.res with
      queue := s.res.queue.erase a, held := s.res.held ++ [a], queuedAt := Tab.del s.res.queuedAt a.key } }
    (t.bump OD.grants a.code).onGrant a
  else s

/-- The queue evaluated (R443): in one step every request that conflicts with no held token and none
granted in the step is granted, in queue order. -/
def State.evaluate (s : State) : State := s.queueOrder.foldl State.grantOne s

/-- A request joins the queue (R443): merged into a waiting entry of its instance, and ignored where
ACTIVITY_ENABLE is FALSE. -/
def State.enqueueAct (s : State) (a : Act) : State :=
  if !s.flag OD.activityEnable a.code || s.res.queue.contains a then s
  else { s with res := { s.res with queue := s.res.queue ++ [a], queuedAt := Tab.set s.res.queuedAt a.key s.nowNs } }

/-- A maintenance request made and the queue evaluated. -/
def State.requestToken (s : State) (code inst : Nat) : State := (s.enqueueAct ⟨code, inst⟩).evaluate

/-- A token returned and the queue evaluated. -/
def State.returnToken (s : State) (code inst : Nat) : State :=
  ({ s with res := { s.res with held := s.res.held.erase (Act.mk code inst) }
            time := { s.time with stepDone := s.time.stepDone && decide (code ≠ 3) } }).evaluate

/-- Is a token held? -/
def State.holdsToken (s : State) (code inst : Nat) : Bool := s.res.held.contains ⟨code, inst⟩

end Sys2Proof.Machine
end

