-- ==== Sys2Proof/Machine/Regions.lean ====
section
/-!
DEFINITION. The lines of memory regions (R397–R402, R405): what a region's memory holds as ciphertext, its counter
blocks and MACs, and what a checked read and a counted write do.  `State.mem` holds the plain contents that the crypto
engines serve; `State.cell` is what the memory itself holds (DESIGN CHOICE).
-/

namespace Sys2Proof.Machine

open Sys2Proof

/-- Bytes of a region and of its metadata area, 3/16 of it (R397). -/
def Region.size (r : Region) : Nat := r.pages * 4096
def Region.metaSize (r : Region) : Nat := if r.isProtected then r.pages * 768 else 0

/-- Counter blocks of a region: one for 16 lines (R399). -/
def Region.blocks (r : Region) : Nat := r.pages * 4

/-- Do two ranges of bytes share one? -/
def overlaps (a n b m : Nat) : Bool := decide (0 < n) && decide (0 < m) && decide (a < b + m) && decide (b < a + n)

/-- The enabled region some of whose bytes, or of whose metadata, an access touches; the flag says
metadata. -/
def State.regionAt (s : State) (a n : Nat) : Option (Nat × Region × Bool) :=
  match s.sec.regions.find? (fun e => decide (e.2.state ≠ .disabled) && overlaps a n e.2.base e.2.size) with
  | some e => some (e.1, e.2, false)
  | none =>
    match s.sec.regions.find? (fun e => decide (e.2.state ≠ .disabled) && overlaps a n e.2.metaBase e.2.metaSize) with
    | some e => some (e.1, e.2, true)
    | none => none

/-- Lines of a region that `n` bytes from `a` touch, by their index. -/
def Region.lines (r : Region) (a n : Nat) : List Nat :=
  let lo := (max a r.base - r.base) / 64
  let hi := (min (a + n) (r.base + r.size) - r.base + 63) / 64
  (List.range (hi - lo)).map (lo + ·)

/-- Is a line written whole by `n` bytes from `a`? -/
def Region.whole (r : Region) (a n l : Nat) : Bool := decide (a ≤ r.base + 64 * l ∧ r.base + 64 * l + 64 ≤ a + n)

/-- The metadata lines of a protected line: its counter block and its MAC line.  The spec sizes the area and
leaves the places of its lines open: three lines per block of 16 lines, the counter block first (DESIGN
CHOICE). -/
def Region.metaLines (r : Region) (l : Nat) : List Nat :=
  [(r.metaBase + 192 * (l / 16)) / 64, (r.metaBase + 192 * (l / 16) + 64 + 64 * (l % 16 / 8)) / 64]

/-! ## Keys and ciphertext (R398, R404) -/

/-- The 32 bytes of key `k` of a draw. -/
def keyPart (key k : Nat) : List Byte := leBytes 32 (key / 2 ^ (256 * k))

/-- The generation before one (R404): 1 follows 65,535. -/
def prevGeneration (g : Nat) : Nat := if g ≤ 1 then 65535 else g - 1

/-- The key of a generation: of the current one, or of the previous one while a re-key runs. -/
def Region.keyOf (r : Region) (g : Nat) : Option Nat :=
  if g = r.generation then r.key else if g = prevGeneration r.generation then r.prevKey else none

/-- The generation of a counter block; REGION_INIT_DONE writes 1 (R403). -/
def Region.genOf (r : Region) (b : Nat) : Nat := Tab.get 1 r.blockGen b

/-- The ciphertext of a line (R398): the tweak is the line's address [47:6] above its 24-bit line counter.  A slot-store
address is the logical one, so a bank flip leaves it unchanged. -/
def cipherLine (key addr ctr : Nat) (plain : List Byte) : List Byte :=
  xtsLine (keyPart key 0) (keyPart key 1) (bits addr 47 6 * 2 ^ 24 + ctr % 2 ^ 24) plain

/-- The ciphertext that the memory holds for line `l`, under a key. -/
def State.lineCipher (s : State) (r : Region) (key l : Nat) : List Byte :=
  cipherLine key (r.base + 64 * l) (if r.isProtected then Tab.get 0 r.lineCtr l else 0) (s.load (r.base + 64 * l) 64)

/-! ## MACs (R399) -/

/-- The MAC of a line: GMAC over the ciphertext, the address, the line counter and the generation.  Their widths and order
in the data are a DESIGN CHOICE, and the initialisation vector, which the spec does not give, is left open. -/
def lineMacOf (key addr ctr gen : Nat) (cipher : List Byte) : Nat :=
  gmac64 (keyPart key 2) (leBytes 12 (Config.macIv addr ctr gen)) (cipher ++ leBytes 8 addr ++ leBytes 3 ctr ++ leBytes 2 gen)

/-- Bytes 0–55 of a counter block (Table 14-4). -/
def Region.blockBytes (r : Region) (b : Nat) : List Byte :=
  (List.range 16).flatMap (fun k => leBytes 3 (Tab.get 0 r.lineCtr (16 * b + k))) ++ leBytes 2 (r.genOf b) ++ leBytes 6 0

/-- BLOCK_MAC over the block's bytes 0–55, its address and its version, by the same GMAC (DESIGN CHOICE: the spec names no
algorithm). -/
def Region.blockMacOf (r : Region) (key b : Nat) : Nat :=
  let a := r.metaBase + 192 * b
  let v := Tab.get 0 r.version b
  gmac64 (keyPart key 2) (leBytes 12 (Config.macIv a v (r.genOf b))) (r.blockBytes b ++ leBytes 8 a ++ leBytes 3 v)

/-- The MAC held for a line: the one last written, or that of the encrypted zeros of the initialisation (R403). -/
def Region.heldMac (r : Region) (l : Nat) : Nat :=
  match Tab.find r.lineMac l, r.keyOf 1 with
  | some m, _ => m
  | none, some k => lineMacOf k (r.base + 64 * l) 0 1 (cipherLine k (r.base + 64 * l) 0 (List.replicate 64 0#8))
  | none, none => 0

/-- BLOCK_MAC held for a counter block. -/
def Region.heldBlockMac (r : Region) (b : Nat) : Nat :=
  match Tab.find r.blockMac b, r.keyOf 1 with
  | some m, _ => m
  | none, some k => ({ r with lineCtr := [], version := [], blockGen := [] } : Region).blockMacOf k b
  | none, none => 0

/-- The MACs of a line and of its counter block brought up to its contents. -/
def State.sealLine (s : State) (r : Region) (l : Nat) : Region :=
  match r.keyOf (r.genOf (l / 16)) with
  | some k =>
    { r with
      lineMac := Tab.set r.lineMac l
        (lineMacOf k (r.base + 64 * l) (Tab.get 0 r.lineCtr l) (r.genOf (l / 16)) (s.lineCipher r k l))
      blockMac := Tab.set r.blockMac (l / 16) (r.blockMacOf k (l / 16)) }
  | none => r

/-- Does the check of a line pass (R400): BLOCK_MAC against the version on die, the generation, and the line's MAC? -/
def State.lineOk (s : State) (r : Region) (l : Nat) : Bool :=
  match r.keyOf (r.genOf (l / 16)) with
  | some k =>
    decide (r.blockMacOf k (l / 16) = r.heldBlockMac (l / 16))
      && decide (lineMacOf k (r.base + 64 * l) (Tab.get 0 r.lineCtr l) (r.genOf (l / 16)) (s.lineCipher r k l) = r.heldMac l)
  | none => false

/-- The first of some lines of a protected region whose check fails. -/
def State.badLine (s : State) (r : Region) (ls : List Nat) : Option Nat :=
  if r.isProtected then ls.find? (fun l => !s.lineOk r l) else none

/-- A byte of the metadata area: the counter block, then its two MAC lines of 8 MACs each (R399). -/
def Region.metaByte (r : Region) (o : Nat) : Byte :=
  let b := o / 192
  let at_ := o % 192
  if at_ < 56 then (r.blockBytes b).getD at_ 0#8
  else if at_ < 64 then (leBytes 8 (r.heldBlockMac b)).getD (at_ - 56) 0#8
  else (leBytes 8 (r.heldMac (16 * b + (at_ - 64) / 8))).getD (at_ % 8) 0#8

/-- The byte that the memory itself holds at an address: ciphertext in a region, counters and MACs in a metadata area.  No
requester reads it: sparing copies it as it is (R398, R305). -/
def State.cell (s : State) (a : Nat) : Byte :=
  match s.regionAt a 1 with
  | some (_, r, false) =>
    let l := (a - r.base) / 64
    match r.keyOf (if r.isProtected then r.genOf (l / 16) else r.generation) with
    | some k => (s.lineCipher r k l).getD (a % 64) 0#8
    | none => Memory.byte s.mem a
  | some (_, r, true) => r.metaByte (a - r.metaBase)
  | none => Memory.byte s.mem a

/-! ## Counters and versions (R400, R405, R406) -/

/-- The largest value of a line counter and of a version. -/
def counterMax : Nat := 16777215

/-- Would a write take a line counter or a version past its largest value (R406)? -/
def Region.atLimit (r : Region) (a n : Nat) : Bool :=
  r.isProtected && (r.lines a n).any (fun l =>
    decide (counterMax ≤ Tab.get 0 r.lineCtr l) || decide (counterMax ≤ Tab.get 0 r.version (l / 16)))

/-- A protected write counted: its line counters and block versions rise (R400). -/
def Region.written (r : Region) (a n : Nat) : Region :=
  if r.isProtected then
    (r.lines a n).foldl (fun r l =>
      { r with lineCtr := Tab.put 0 r.lineCtr l (Tab.get 0 r.lineCtr l + 1)
               version := Tab.put 0 r.version (l / 16) (Tab.get 0 r.version (l / 16) + 1) }) r
  else r

/-- The highest line counter of a region, which its root holds, and the highest level-1 version. -/
def Region.topCtr (r : Region) : Nat := r.lineCtr.foldl (fun m e => max m e.2) 0
def Region.topVersion (r : Region) : Nat := r.version.foldl (fun m e => max m e.2) 0

/-- Does the state `r'` of a region ask for a re-key where `r` did not (R405)?  A counter that stands above a REKEY_THRESHOLD
lowered since asks too, where no request of the region runs or waits (DEDUCED). -/
def State.asksRekey (s : State) (k : Nat) (r r' : Region) : Bool :=
  let m := s.nat OD.rekeyThreshold
  let idle := !s.holdsToken 1 k && !s.res.queue.contains (Act.mk 1 k)
  r'.isProtected && (decide (m ≤ r'.topCtr) && (decide (r.topCtr < m) || idle) || decide (r.topVersion < m ∧ m ≤ r'.topVersion))

/-- A write to a protected region counted, and a re-key requested at REKEY_THRESHOLD (R400, R405). -/
def State.countWrite (s : State) (a n : Nat) : State :=
  match s.regionAt a n with
  | some (k, r, _) =>
    let r' := r.written a n
    let t := s.setRegion k r'
    if t.asksRekey k r r' then t.requestToken 1 k else t
  | none => s

/-- Poison is cleared from the words that a write covers whole (R306). -/
def State.unpoison (s : State) (a n : Nat) : State :=
  { s with fab := { s.fab with
      poison := s.fab.poison.filter (fun w => !(decide (a ≤ 64 * w) && decide (64 * w + 64 ≤ a + n))) } }

/-- The MACs of the lines that were written, with their counter blocks and MAC lines written whole (R400). -/
def State.reseal (s : State) (a n : Nat) : State :=
  match s.regionAt a n with
  | some (k, r, _) =>
    if r.isProtected then
      let ls := r.lines a n
      let ws := ls.flatMap r.metaLines
      let t := s.setRegion k (ls.foldl s.sealLine r)
      { t with fab := { t.fab with poison := t.fab.poison.filter (fun w => !ws.contains w) } }
    else s
  | none => s

/-- Bytes that the device itself writes into a buffer it allocated (R243, R244, R282), or a write after its test: counted,
stored, and the lines of a region resealed. -/
def State.deviceWrite (s : State) (a : Nat) (b : List Byte) : State :=
  (((s.countWrite a b.length).unpoison a b.length).storeB a b).reseal a b.length

/-- `n` bytes that the device itself sets to zero. -/
def State.deviceZero (s : State) (a n : Nat) : State :=
  let t := (s.countWrite a n).unpoison a n
  State.reseal { t with mem := Memory.zero t.mem a n } a n

/-! ## A failed check (R402) -/

/-- A region's token returned and its waiting request withdrawn. -/
def State.dropRekey (s : State) (k : Nat) : State :=
  let t := { s with res := { s.res with queue := s.res.queue.erase (Act.mk 1 k), queuedAt := Tab.del s.res.queuedAt (Act.mk 1 k).key } }
  if t.holdsToken 1 k then t.returnToken 1 k else t

/-- The check of line `l` of region `k` fails (R402): counted, MAJOR alarm 0x0B03 with the region in [31:0] and the line in [63:32]
of DETAIL (DESIGN CHOICE, the spec gives no layout); under QUARANTINE_ON_FAIL the region is QUARANTINED and its re-key stops. -/
def State.checkFailed (s : State) (k l : Nat) : State :=
  let t := (s.bump OD.checkFailures k).raise 0x0B03 k (detail := k + l * 2 ^ 32)
  if t.flag OD.quarantineOnFail k then
    ((t.setRegion k { t.region k with state := .quarantined, work := none }).dropRekey k).raise 0x0B04 k
  else t

/-- The oldest trace record of the FIFO written to the ring (R455): TRACE_MODE 1 stops when the ring
is full, and later records count as dropped. -/
def State.traceDrain (s : State) : State :=
  match s.alarms.fifo with
  | [] => s
  | r :: rest =>
    let size := s.govN OD.traceSize * 1048576
    let head := s.nat OD.traceHead
    let t := { s with alarms := { s.alarms with fifo := rest } }
    if s.nat OD.traceMode = 1 ∧ size ≤ head then t.traceCount 0 1
    else
      let at_ := if size = 0 then 0 else head % size
      let t := t.deviceWrite (s.govN OD.traceBase + at_)
        (leBytes 32 (r.src % 256 + r.ev % 256 * 2 ^ 8 + unsigned 48 r.air * 2 ^ 16 + r.data % 2 ^ 192 * 2 ^ 64))
      (t.traceCount 1 0).setNum OD.traceHead 0
        (if s.nat OD.traceMode = 1 then head + 32 else ((head + 32) % size : Nat))

end Sys2Proof.Machine
end

