-- ==== Sys2Proof/Machine/Access.lean ====
section
/-!
DEFINITION. Accesses to the physical address space (R28–R33, R118, R281, R301, R306, R315, R337,
R397–R406): who reaches what, what is answered, and what a write does besides storing its bytes.
-/

namespace Sys2Proof.Machine

open Sys2Proof

/-- Who makes an access: the header fields a target acts on (Table 10-3). -/
structure Acc where
  kind : ReqKind
  unit : Nat
  part : Option Nat
  priv : Bool
  slug : Option (Nat × Nat)
  peer : Bool
  deriving DecidableEq, Repr

/-- The access a packet asks for. -/
def accOf (p : FabPacket) : Acc := ⟨p.kind, p.unit, some p.part, p.priv, p.slug, p.peer⟩

/-! ## The map (Table 01-8) -/

/-- What an address reaches. -/
inductive Zone where
  | hbm (stack : Nat)
  | slotStore
  | cluster (c : Nat)
  | local_ (v : Nat)
  | slugTable
  | devRegs
  | basecamp
  | mogil
  /-- The spare-bank window and every address the table does not list. -/
  | reserved
  deriving DecidableEq, Repr

/-- The zone of an address. -/
def zoneOf (a : Nat) : Zone :=
  if a < 0x600000000 then .hbm 0
  else if a < 0xC00000000 then .hbm 1
  else if 0x1000000000 ≤ a ∧ a < 0x100B800000 then .slotStore
  else if 0x1100000000 ≤ a ∧ a < 0x110C000000 ∧ a % 0x1000000 < 0x400000 then .cluster ((a - 0x1100000000) / 0x1000000)
  else if 0x1200000000 ≤ a ∧ a < 0x1200C00000 then .local_ ((a - 0x1200000000) / 0x20000)
  else if 0x1300000000 ≤ a ∧ a < 0x1300400000 then .slugTable
  else if 0xF000000000 ≤ a ∧ a < 0xF100000000 then .devRegs
  else if 0xF800000000 ≤ a ∧ a < 0xF801000000 then .basecamp
  else if 0x400000000000 ≤ a ∧ a < 0x410000000000 then .mogil
  else .reserved

/-- The zone of `n` bytes from `a`: reserved where they do not lie in one zone (DESIGN CHOICE: R291 allows any 1–512 bytes
and the spec does not say what bytes of two zones, such as those of the two HBM stacks, reach). -/
def spanZone (a n : Nat) : Zone := if zoneOf a = zoneOf (a + (n - 1)) then zoneOf a else .reserved

/-- First address of the local memory of core `v`. -/
def localBase (v : Nat) : Nat := 0x1200000000 + 0x20000 * v

/-- The logical bank of a slot-store address, and its physical bank (R30, R302). -/
def bankOf (a : Nat) : Nat := (a - 0x1000000000) / 0x800000
def State.physBank (s : State) (b : Nat) : Nat := Tab.get b s.fab.bankMap b

/-- The power domain a memory address lies in (Table 01-2). -/
def State.memDomain (s : State) (a : Nat) : Option Nat :=
  match zoneOf a with
  | .hbm k => some (196 + k)
  | .slotStore => some (108 + s.physBank (bankOf a))
  | .cluster c => some (96 + c)
  | .local_ v => some v
  | _ => none

/-- A VX core that wakes restarts at the runtime's entry point with only its local memory kept (Table 15-6). -/
def State.restartCore (s : State) (v : Nat) : State :=
  let c : Core := Tab.get {} s.vx.cores v
  let pc := match s.slotImage c.image with | some i => BitVec.ofNat 64 i.entry | none => 0#64
  let x : Core := { image := c.image, pc := pc, dirty := c.dirty, lastPart := c.lastPart, lastTag := c.lastTag
                    cpen := BitVec.ofNat 64 (s.govN OD.cpenReset) }
  { s with vx := { s.vx with cores := Tab.put {} s.vx.cores v x } }

/-- A sleeping domain woken by an access of a unit that waits for it (R299): the access and the wake are one step.  Packets held
there before stay held until the domain reports ready.  The access ends the idleness of a memory bank (R419). -/
def State.wake (s : State) (d : Nat) : State :=
  let s := if 96 ≤ d ∧ d < 132 then s.setDomain d { s.domain d with usedAt := s.nowNs } else s
  let x := s.domain d
  if x.state = .sleep then
    let t := s.setDomain d { x with state := .on, wakes := if x.waking then x.wakes else x.wakes + 1 }
    let t := if x.waking then t else t.bump OD.wakes
    if d < 96 then t.restartCore d else t
  else s

/-! ## Fences, windows, seals and poison -/

/-- The unit of a requester that can be fenced (R301). -/
def unitOfKind : ReqKind → Nat → Option (Nat × Nat)
  | .vx, n => some (0, n)
  | .cc, n => some (1, n)
  | .engine, n => some (engineUnit n)
  | .fucu, n => some (if n < 4 then (9, n) else (10, n - 4))
  | .dma, n => some (11, n)
  | _, _ => none

/-- The requester's unit is fenced. -/
def State.fenced (s : State) (q : Acc) : Bool :=
  match unitOfKind q.kind q.unit with
  | some (c, u) => (s.unit c u).fenced
  | none => false

/-- A window of a partition in force (OD 0xA400 + n, .0A). -/
def State.window (s : State) (n k : Nat) : Nat := s.govN OD.windowReg (16 * n + k)

/-- Do `n` bytes from `a` lie wholly in an enabled window with the rights needed (R337)? -/
def windowAdmits (w a n : Nat) (rd wr : Bool) : Bool :=
  bit w 62 && (!rd || bit w 60) && (!wr || bit w 61)
    && decide (bits w 35 0 * 4096 ≤ a) && decide (a + n ≤ (bits w 35 0 + bits w 59 36) * 4096)

/-- Do they lie wholly in one buffer of a hamper the partition owns (R337)? -/
def hamperAdmits (h : Hamper) (part a n : Nat) : Bool :=
  decide (h.owner = part) && decide (h.base ≤ a) && decide (a + n ≤ h.base + h.count * h.bytes)
    && decide ((a - h.base) / h.bytes = (a + (n - 1) - h.base) / h.bytes)

/-- Does an access pass the check of its partition (R337)? -/
def State.inWindow (s : State) (part a n : Nat) (rd wr : Bool) : Bool :=
  (List.range 16).any (fun k => windowAdmits (s.window part k) a n rd wr)
    || s.fab.hampers.any (fun e => hamperAdmits e.2 part a n)

/-- Is a requester checked against its partition's windows (R337)? -/
def Acc.checked (q : Acc) : Bool := !q.priv && q.part.isSome && decide (q.kind ≠ .galley) && decide (q.kind ≠ .hamper)

/-- Do some of the bytes lie in a sealed buffer (R315)? -/
def State.sealedAt (s : State) (a n : Nat) : Bool :=
  s.fab.hampers.any (fun e => e.2.sealedB.any (fun b =>
    decide (a < e.2.base + (b + 1) * e.2.bytes ∧ e.2.base + b * e.2.bytes < a + n)))

/-- Does some 64-byte word of the bytes hold poison (R306)? -/
def State.poisoned (s : State) (a n : Nat) : Bool :=
  s.fab.poison.any (fun w => decide (a / 64 ≤ w ∧ w ≤ (a + (n - 1)) / 64))

/-! ## The test of an access -/

/-- A refusal under R32 and R281: bus error and MINOR alarm 0x0B01. -/
def State.refuseAcc (s : State) : Nat × State := (1, s.raise 0x0B01)

/-- May a requester reach the local memory of core `v` from the fabric (R118, R317)? -/
def State.localAdmits (s : State) (q : Acc) (v : Nat) : Bool :=
  match q.kind with
  | .recovery => true
  | .cc => q.priv
  | .dma =>
    let c : Core := Tab.get {} s.vx.cores v
    bit c.ptag.toNat 16 && decide (q.part = some (bits c.ptag.toNat 9 0)) && (s.unit 0 v).held.isSome
  | _ => false

/-- The test of an access to memory behind a region (R400–R403): 0 where it may go on.  A protected read checks the lines it
touches, a write those it covers in part. -/
def State.regionTest (s : State) (q : Acc) (rd : Bool) (a n : Nat) : Nat × State :=
  match s.regionAt a n with
  | none => (0, s)
  | some (k, r, inMeta) =>
    if q.kind = .dma ∨ q.kind = .debug then (1, (s.bump OD.blockedAccesses k).raise 0x0B02 k)
    else if q.peer && r.isProtected then s.refuseAcc
    else if inMeta then (1, s)
    else if r.state = .initialising then (1, s)
    else if r.state = .quarantined then (3, s)
    else
      let ls := (r.lines a n).filter (fun l => rd || !r.whole a n l)
      if r.isProtected && ls.any (fun l => s.fab.poison.contains (r.base / 64 + l)) then (2, s)
      else match s.badLine r ls with
        | some l => (3, s.checkFailed k l)
        | none => (0, s)

/-- The test of an access to HBM, slot store or cluster memory. -/
def State.memTest (s : State) (q : Acc) (rd wr : Bool) (a n : Nat) : Nat × State :=
  let dom := match s.memDomain a with | some d => (s.domain d).state | none => .on
  if dom = .off ∨ dom = .lockedOff then (4, s)
  else
    let part := q.part.getD 0
    if q.checked && !s.inWindow part a n rd wr then
      (1, (s.bump OD.windowViolations part).raiseAtMost oneSecond 0x0907 part (some part))
    else match s.regionTest q rd a n with
      | (0, t) => if wr && t.sealedAt a n then (6, t) else if rd && t.poisoned a n then (2, t) else (0, t)
      | e => e

/-- The test of an access (R31–R33, R118, R281, R301, R337): 0 where it may go on, else the status of Table
10-5; `rd` and `wr` say which rights it needs.  The fence comes first: a write of a fenced unit to a reserved address is
answered FENCED and is not counted as unmapped, since the unit's edge router answers it (DEDUCED: R31 and R301 give no
order). -/
def State.accessTest (s : State) (q : Acc) (rd wr : Bool) (a n : Nat) : Nat × State :=
  if wr && s.fenced q then (7, s)
  else match spanZone a n with
    | .reserved => (1, s.bump OD.unmappedAccesses)
    | .slugTable => if q.kind = .galley ∨ (q.kind = .recovery ∧ q.peer = false) then (0, s) else s.refuseAcc
    | .basecamp => if (q.kind = .basecamp ∨ q.kind = .recovery) ∧ q.peer = false then (0, s) else s.refuseAcc
    | .devRegs => if (q.kind = .recovery ∨ q.kind = .basecamp ∨ (q.kind = .cc ∧ q.priv = true)) ∧ q.peer = false
        then (0, s) else s.refuseAcc
    | .local_ v =>
      if !s.localAdmits q v || q.peer then (if q.kind = .dma then (1, s) else s.refuseAcc)
      else if (s.domain v).state = .off ∨ (s.domain v).state = .lockedOff then (4, s)
      else (0, s)
    | .mogil => if s.linkUp && !q.peer then (0, s) else (8, s)
    | .hbm _ => s.memTest q rd wr a n
    | .slotStore => s.memTest q rd wr a n
    | .cluster _ => s.memTest q rd wr a n

/-! ## Performing accesses -/

/-- Dirty bits of the blocks of local memory above LMSPLIT that a write touches (R134). -/
def State.markDirty (s : State) (a n : Nat) : State :=
  match spanZone a n with
  | .local_ v =>
    let c : Core := Tab.get {} s.vx.cores v
    let lo := (a - localBase v) / 2048
    let hi := (a + (n - 1) - localBase v) / 2048
    let d := (List.range (hi + 1 - lo)).foldl (fun (d : BitVec 64) k =>
      if s.govN OD.lmsplit ≤ lo + k then d ||| (1#64 <<< (lo + k)) else d) c.dirty
    { s with vx := { s.vx with cores := Tab.put {} s.vx.cores v { c with dirty := d } } }
  | _ => s

/-- A packet of an access through the peer window, at the peer's address (R33). -/
def peerPacket (q : Acc) (cmd : FabCmd) (a n : Nat) (data : List Byte) : FabPacket where
  cmd := cmd
  kind := q.kind
  unit := q.unit
  part := q.part.getD 0
  priv := q.priv
  peer := true
  slug := q.slug
  addr := a - 0x400000000000
  bytes := n
  tag := 0
  dst := 0
  status := 0
  arg := 0#64
  data := data
  malformed := false

/-- Free bytes: what a read of another package's memory returns is not this block's to say. -/
def freeBytes : Nat → Nat → List Byte
  | 0, _ => []
  | n + 1, k => BitVec.ofNat 8 (Config.free k) :: freeBytes n (k + 1)

/-- `n` bytes drawn as free values. -/
def State.drawBytes (s : State) (n : Nat) : List Byte × State :=
  (freeBytes n s.freeCtr, { s with freeCtr := s.freeCtr + n })

/-- EMITTED of the slug that makes its first write into the peer window (R135, R317). -/
def State.markEmitted (s : State) (q : Acc) : State :=
  match q.slug with
  | some (h, att) =>
    match s.slug h with
    | some x => if x.attempt = att then s.setSlug h { x with emitted := true } else s
    | none => s
  | none => s

/-! ## The slug table (R83) -/

/-- Is the entry of the slug table at an address fixed: pressed or submitted and not yet FREE? -/
def State.entryAt (s : State) (a : Nat) : Option Slug := s.slug ((a - 0x1300000000) / 64)

/-- A byte of the slug table: of a slug's 512 bits, or of a FREE entry, which keeps what was written to it (DESIGN CHOICE:
the spec gives no contents of a FREE entry but STATE 0). -/
def State.slugByte (s : State) (a : Nat) : Byte :=
  match s.entryAt a with
  | some x => BitVec.ofNat 8 (x.tableWord / 2 ^ (8 * (a % 64)))
  | none => Memory.byte s.mem a

/-- Bytes read from the slug table. -/
def State.slugRead (s : State) (a n : Nat) : List Byte := (List.range n).map (fun k => s.slugByte (a + k))

/-- Bytes written to the slug table: the bits of a slug are fixed and no requester writes a status word (R83). -/
def State.slugWrite (s : State) : Nat → List Byte → State
  | _, [] => s
  | a, b :: t =>
    (if (s.entryAt a).isSome || decide (60 ≤ a % 64) then s else s.storeB a [b]).slugWrite (a + 1) t

/-- A read performed after its test.  What the Basecamp range reads as is not stated (boot ROM, fuses and store have no
layout): free bytes. -/
def State.readAt (s : State) (q : Acc) (a n : Nat) : List Byte × State :=
  match spanZone a n with
  | .mogil => (s.toPeer (peerPacket q .rd a n [])).drawBytes n
  | .devRegs => (leBytes n (Tab.get 0#64 s.fab.regs a).toNat, s)
  | .slugTable => (s.slugRead a n, s)
  | .basecamp => s.drawBytes n
  | _ =>
    let t := match s.memDomain a with | some d => s.wake d | none => s
    (t.load a n, t)

/-- A write performed after its test, by the command `cmd`: held where it would take a counter of its region past its limit
(R406).  A write to the Basecamp range has no effect (DESIGN CHOICE: the spec gives it none). -/
def State.writeAt (s : State) (q : Acc) (a : Nat) (b : List Byte) (cmd : FabCmd := .wr) : State :=
  match spanZone a b.length with
  | .mogil => (s.toPeer (peerPacket q cmd a b.length b)).markEmitted q
  | .devRegs => { s with fab := { s.fab with regs := Tab.put 0#64 s.fab.regs a (BitVec.ofNat 64 (leNat b)) } }
  | .slugTable => s.slugWrite a b
  | .basecamp => s
  | _ =>
    let t := match s.memDomain a with | some d => s.wake d | none => s
    match t.regionAt a b.length with
    | some (k, r, _) =>
      if r.atLimit a b.length then
        let p := { peerPacket q .wr a b.length b with addr := a, peer := q.peer }
        (((t.setRegion k { r with held := r.held ++ [p] }).bump OD.heldWrites k).raise 0x0B0A k).requestToken 1 k
      else (t.deviceWrite a b).markDirty a b.length
    | none => (t.deviceWrite a b).markDirty a b.length

/-- A read: its status and its bytes, none where it is refused. -/
def State.memRead (s : State) (q : Acc) (a n : Nat) : Nat × List Byte × State :=
  match s.accessTest q true false a n with
  | (0, t) => let (b, u) := t.readAt q a n; (0, b, u)
  | (e, t) => (e, [], t)

/-- A write: its status. -/
def State.memWrite (s : State) (q : Acc) (a : Nat) (b : List Byte) : Nat × State :=
  match s.accessTest q false true a b.length with
  | (0, t) => (0, t.writeAt q a b)
  | (e, t) => (e, t)

/-- An 8-byte atomic that replaces the old value by `f old`: its status and the old value.  Through the peer window the
atomic itself is carried (R33), and what it returns is not this block's to say. -/
def State.memAtom (s : State) (q : Acc) (a : Nat) (p : FabPacket) (f : Nat → Nat) : Nat × Nat × State :=
  match s.accessTest q true true a 8 with
  | (0, t) =>
    if spanZone a 8 = .mogil then
      let (b, u) := ((t.toPeer { peerPacket q p.cmd a 8 p.data with arg := p.arg }).markEmitted q).drawBytes 8
      (0, leNat b, u)
    else
      let (b, u) := t.readAt q a 8
      (0, leNat b, u.writeAt q a (leBytes 8 (f (leNat b) % 18446744073709551616)))
  | (e, t) => (e, 0, t)

end Sys2Proof.Machine
end

