-- ==== Sys2Proof/Machine/VxOps.lean ====
section
/-!
DEFINITION. A VX core's registers, configuration, traps and the element-wise frame every vector
instruction shares (R110–R115, R121, R122, R127–R129, R147).
-/

namespace Sys2Proof.Machine

open Sys2Proof

/-! ## Cores -/

/-- CPEN of a core that nothing has written: CPEN_RESET in force (Table 04-4). -/
def State.core (s : State) (v : Nat) : Core := Tab.get {} s.vx.cores v

/-- A core replaced. -/
def State.setCore (s : State) (v : Nat) (c : Core) : State :=
  { s with vx := { s.vx with cores := Tab.put {} s.vx.cores v c } }

/-- Does a core execute instructions now: not halted, and not waiting in vx.wfs (R133, R138)? -/
def Core.live (c : Core) : Bool := !c.halted && !c.waiting

/-- An x register; x0 reads zero. -/
def Core.xr (c : Core) (r : BitVec 5) : BitVec 64 := if r = 0#5 then 0#64 else Tab.get 0#64 c.x r.toNat

/-- An x register written; a write of x0 has no effect. -/
def Core.setX (c : Core) (r : BitVec 5) (v : BitVec 64) : Core :=
  if r = 0#5 then c else { c with x := Tab.put 0#64 c.x r.toNat v }

/-- A standard CSR held as written. -/
def Core.csrOf (c : Core) (n : Nat) : BitVec 64 := Tab.get 0#64 c.csr n

/-- A standard CSR written. -/
def Core.setCsr (c : Core) (n : Nat) (v : BitVec 64) : Core := { c with csr := Tab.put 0#64 c.csr n v }

/-! ## Configuration (Table 04-2) -/

def Core.vill (c : Core) : Bool := c.vcfg.getLsbD 63
def Core.ew (c : Core) : Nat := 8 * 2 ^ bits c.vcfg.toNat 1 0
def Core.g (c : Core) : Nat := 2 ^ bits c.vcfg.toNat 3 2
def Core.tz (c : Core) : Bool := c.vcfg.getLsbD 4
def Core.mz (c : Core) : Bool := c.vcfg.getLsbD 5
def Core.frm (c : Core) : Nat := bits c.vcfg.toNat 8 6
def Core.ftz (c : Core) : Bool := c.vcfg.getLsbD 9

/-- VLMAX (Table 04-3). -/
def Core.vlmax (c : Core) : Nat := 2048 * c.g / c.ew

/-! ## Register groups (R111) -/

/-- The `n` wide registers from `r`, as one number, the lowest register in the low bits. -/
def Core.wide (c : Core) (r : Nat) : Nat → Nat
  | 0 => 0
  | n + 1 => c.wide r n + (Tab.get 0#2048 c.w (r + n)).toNat * 2 ^ (2048 * n)

/-- The `n` wide registers from `r` written. -/
def Core.setWide (c : Core) (r v : Nat) : Nat → Core
  | 0 => c
  | n + 1 =>
    let d := c.setWide r v n
    { d with w := Tab.put 0#2048 d.w (r + n) (BitVec.ofNat 2048 (v / 2 ^ (2048 * n))) }

/-- The `n` predicate registers from `r`. -/
def Core.preds (c : Core) (r : Nat) : Nat → Nat
  | 0 => 0
  | n + 1 => c.preds r n + (Tab.get 0#256 c.p (r + n)).toNat * 2 ^ (256 * n)

/-- The `n` predicate registers from `r` written. -/
def Core.setPreds (c : Core) (r v : Nat) : Nat → Core
  | 0 => c
  | n + 1 =>
    let d := c.setPreds r v n
    { d with p := Tab.put 0#256 d.p (r + n) (BitVec.ofNat 256 (v / 2 ^ (256 * n))) }

/-- Element `i` of `w` bits of a group. -/
def elemOf (v w i : Nat) : Nat := v / 2 ^ (w * i) % 2 ^ w

/-- Elements joined into a group, element 0 in the low bits. -/
def joinElems (w : Nat) : List Nat → Nat
  | [] => 0
  | e :: t => e % 2 ^ w + 2 ^ w * joinElems w t

/-- The group of register `r` under the grouping in force. -/
def Core.group (c : Core) (r : BitVec 5) : Nat := c.wide r.toNat c.g

/-- Is element `i` active under PM and pg (R111, R146)? -/
def Core.active (c : Core) (pm : Bool) (pg : BitVec 3) (i : Nat) : Bool :=
  !pm || bit (c.preds pg.toNat c.g) (i * (c.ew / 8))

/-! ## Traps (R121, R122, R127, R129) -/

/-- A field of mstatus replaced. -/
def setField (v : BitVec 64) (lo n x : Nat) : BitVec 64 :=
  BitVec.ofNat 64 (v.toNat - bits v.toNat (lo + n - 1) lo * 2 ^ lo + x % 2 ^ n * 2 ^ lo)

/-- The code of a privilege level. -/
def Priv.code : Priv → Nat
  | .u => 0 | .s => 1 | .m => 3

/-- The level of a code of mstatus.MPP. -/
def privOf (n : Nat) : Priv := if n = 0 then .u else if n = 1 then .s else .m

/-- Is a trap delegated to S-mode: taken at U or S with its bit of medeleg or mideleg set?  Cause 24 is always
taken in M-mode (R129). -/
def Core.delegated (c : Core) (intr : Bool) (cause : Nat) : Bool :=
  decide (c.priv ≠ .m) && (intr || decide (cause ≠ 24))
    && bit (c.csrOf (if intr then 0x303 else 0x302)).toNat cause

/-- Where a trap goes: the base of the trap vector, and for an interrupt in vectored mode its entry. -/
def trapPc (tvec : BitVec 64) (intr : Bool) (cause : Nat) : BitVec 64 :=
  let base := tvec &&& 0xFFFFFFFFFFFFFFFC#64
  if intr && decide (bits tvec.toNat 1 0 = 1) then base + BitVec.ofNat 64 (4 * cause) else base

/-- A trap taken (R121, R122): pc, cause and value saved, the interrupt enable and the level stacked in
mstatus, VRI copied to MVRI or SVRI and cleared. -/
def Core.trap (c : Core) (intr : Bool) (cause : Nat) (tval : BitVec 64) : Core :=
  let code := BitVec.ofNat 64 (cause + (if intr then 2 ^ 63 else 0))
  let st := c.csrOf 0x300
  if c.delegated intr cause then
    let st := setField (setField (setField st 5 1 (bits st.toNat 1 1)) 1 1 0) 8 1 c.priv.code
    let d := (((c.setCsr 0x141 c.pc).setCsr 0x142 code).setCsr 0x143 tval).setCsr 0x300 st
    { d with pc := trapPc (c.csrOf 0x105) intr cause, priv := .s, svri := BitVec.ofNat 64 c.vri, vri := 0 }
  else
    let st := setField (setField (setField st 7 1 (bits st.toNat 3 3)) 3 1 0) 11 2 c.priv.code
    let d := (((c.setCsr 0x341 c.pc).setCsr 0x342 code).setCsr 0x343 tval).setCsr 0x300 st
    { d with pc := trapPc (c.csrOf 0x305) intr cause, priv := .m, mvri := BitVec.ofNat 64 c.vri, vri := 0 }

/-- A trap taken by a core of the state, counted where VRI is non-zero
(MID_VECTOR_TRAPS). -/
def State.trapCore (s : State) (v : Nat) (c : Core) (intr : Bool) (cause : Nat) (tval : BitVec 64) : State :=
  let t := (s.setCore v (c.trap intr cause tval))
  if c.vri ≠ 0 then t.bump OD.midVectorTraps v else t

/-- An illegal-instruction exception of the word `w`: mtval holds 0 or the word, as the RISC-V privileged specification
leaves open. -/
def State.illegal (s : State) (v w : Nat) : State :=
  let (k, t) := s.draw
  t.trapCore v (s.core v) false 2 (if Config.free k % 2 = 1 then BitVec.ofNat 64 w else 0#64)

/-! ## Physical memory protection (RISC-V privileged specification, 16 entries; PRESUMED) -/

/-- The configuration byte and the address register of entry `i`. -/
def Core.pmpCfg (c : Core) (i : Nat) : Nat := bits (c.csrOf (0x3A0 + i / 8 * 2)).toNat (8 * (i % 8) + 7) (8 * (i % 8))
def Core.pmpAddr (c : Core) (i : Nat) : Nat := bits (c.csrOf (0x3B0 + i)).toNat 53 0

/-- Trailing ones of a value, at most `n`. -/
def trailingOnes (v : Nat) : Nat → Nat
  | 0 => 0
  | n + 1 => if v % 2 = 1 then trailingOnes (v / 2) n + 1 else 0

/-- The range of bytes of entry `i`: its base and length, length 0 where it is off. -/
def Core.pmpRange (c : Core) (i : Nat) : Nat × Nat :=
  match bits (c.pmpCfg i) 4 3 with
  | 0 => (0, 0)
  | 1 =>
    let lo := if i = 0 then 0 else 4 * c.pmpAddr (i - 1)
    (lo, 4 * c.pmpAddr i - lo)
  | 2 => (4 * c.pmpAddr i, 4)
  | _ =>
    let k := trailingOnes (c.pmpAddr i) 54
    (4 * (c.pmpAddr i / 2 ^ (k + 1) * 2 ^ (k + 1)), 8 * 2 ^ k)

/-- Does an access of a level pass PMP?  The lowest entry that matches any byte decides and must match all of
them; with none, only M-mode passes.  `right`: 0 read, 1 write, 2 execute. -/
def Core.pmpOk (c : Core) (lvl : Priv) (right a n : Nat) : Bool :=
  match (List.range 16).find? (fun i => overlaps a n (c.pmpRange i).1 (c.pmpRange i).2) with
  | none => decide (lvl = .m)
  | some i =>
    let r := c.pmpRange i
    decide (r.1 ≤ a) && decide (a + n ≤ r.1 + r.2)
      && ((decide (lvl = .m) && !bit (c.pmpCfg i) 7) || bit (c.pmpCfg i) right)

/-! ## Words (Table 05-1) -/

/-- The words of the formats VV (with a sub-operation, and for compares), VX and VI, VR, LD and ST, and CFG. -/
def encVV (f6 : Nat) (o : VV) : Nat :=
  0x0B + o.wd.toNat * 2 ^ 7 + o.pg.toNat * 2 ^ 12 + o.ws1.toNat * 2 ^ 15 + o.ws2.toNat * 2 ^ 20
    + (if o.pm then 2 ^ 25 else 0) + f6 * 2 ^ 26
def encVU (f6 code : Nat) (o : VU) : Nat := encVV f6 ⟨o.core, o.pm, o.pg, o.wd, o.ws1, BitVec.ofNat 5 code⟩
def encVC (f6 : Nat) (o : VC) : Nat :=
  encVV f6 ⟨o.core, o.pm, o.pg, BitVec.ofNat 5 (o.pd.toNat + 8 * o.cond.toNat), o.ws1, o.ws2⟩
def encVX (f3 op : Nat) (o : VV) : Nat :=
  0x2B + o.wd.toNat * 2 ^ 7 + f3 * 2 ^ 12 + o.ws1.toNat * 2 ^ 15 + o.ws2.toNat * 2 ^ 20 + o.pg.toNat * 2 ^ 25
    + (if o.pm then 2 ^ 28 else 0) + op * 2 ^ 29
def encVR (f3 op : Nat) (r : BitVec 2) (o : VV) : Nat :=
  0x2B + o.wd.toNat * 2 ^ 7 + f3 * 2 ^ 12 + o.ws1.toNat * 2 ^ 15 + o.ws2.toNat * 2 ^ 20 + r.toNat * 2 ^ 25
    + o.pg.toNat * 2 ^ 27 + (if o.pm then 2 ^ 30 else 0) + op * 2 ^ 31
def encCfg (f6 : Nat) (c b a : BitVec 5) : Nat :=
  0x2B + c.toNat * 2 ^ 7 + 6 * 2 ^ 12 + b.toNat * 2 ^ 15 + a.toNat * 2 ^ 20 + f6 * 2 ^ 25 + 2 ^ 31
def encSys (f5 cpn : Nat) (a b c : BitVec 5) : Nat :=
  0x2B + c.toNat * 2 ^ 7 + 7 * 2 ^ 12 + b.toNat * 2 ^ 15 + a.toNat * 2 ^ 20 + cpn * 2 ^ 25 + f5 * 2 ^ 27
def encCsr (n : Nat) (rd : BitVec 5) (f : CsrOp) (src : BitVec 5) : Nat :=
  let f3 := match f with | .rw => 1 | .rs => 2 | .rc => 3 | .rwi => 5 | .rsi => 6 | .rci => 7
  0x73 + rd.toNat * 2 ^ 7 + f3 * 2 ^ 12 + src.toNat * 2 ^ 15 + n * 2 ^ 20

/-! ## Execution -/

/-- A core executes instructions: its domain is powered, and it is neither halted nor waiting in vx.wfs. -/
def State.runs (s : State) (v : Nat) : Bool := s.unitAwake 0 v && (s.core v).live

/-- An instruction of `n` bytes at the pc executed by a core: nothing where the core executes none, an instruction access
fault (cause 1) where PMP forbids the fetch, else `f`. -/
def State.fetched (s : State) (v n : Nat) (f : State → State) : State :=
  let c := s.core v
  if !s.runs v then s
  else if !c.pmpOk c.priv 2 c.pc.toNat n then s.trapCore v c false 1 c.pc
  else f s

/-! ## The frame of a vector instruction -/

/-- An instruction retired is counted in minstret, unless mcountinhibit holds it. -/
def Core.count (c : Core) : Core :=
  { c with instret := if bit (c.csrOf 0x320).toNat 2 then c.instret else c.instret + 1#64 }

/-- An instruction that finishes: pc moves on, VRI is 0 (R122). -/
def Core.retire (c : Core) : Core := { c.count with pc := c.pc + 4#64, vri := 0 }

/-- Flags ORed into VSTATUS (R152). -/
def Core.flags (c : Core) (f : Nat) : Core := { c with vstatus := c.vstatus ||| BitVec.ofNat 64 f }

/-- A register operand of a grouping is well formed: its number is a multiple of it and the group lies within
the file (R111). -/
def okReg (r g : Nat) : Bool := decide (r % g = 0) && decide (r + g ≤ 32)

/-- A predicate operand is well formed: no predicate means pg 0 (R147), and a group starts at a multiple of
the grouping (R111). -/
def okPred (pm : Bool) (pg : BitVec 3) (g : Nat) : Bool :=
  if pm then decide (pg.toNat % g = 0) else decide (pg = 0#3)

/-- Do two register groups overlap? -/
def groupsMeet (a n b m : Nat) : Bool := decide (a < b + m) && decide (b < a + n)

/-- Element widths of the classes of Table 05-3. -/
def ewAll : List Nat := [8, 16, 32, 64]
def ewFloat : List Nat := [16, 32]

/-- The common checks of R147 on a VV instruction whose operands all have the grouping in force. -/
def Core.okVV (c : Core) (ews : List Nat) (o : VV) (vs2 : Bool) : Bool :=
  !c.vill && has ews c.ew && okPred o.pm o.pg c.g && okReg o.wd.toNat c.g && okReg o.ws1.toNat c.g
    && (!vs2 || okReg o.ws2.toNat c.g)

/-- The elements of a destination group after an element-wise instruction: tail elements by TZ, inactive ones
by MZ, elements below VRI unchanged (R114, R122), the others from `f`; none from `f` leaves the element. -/
def Core.newElems (c : Core) (pm : Bool) (pg : BitVec 3) (old : Nat) (f : Nat → Option Nat) : List Nat :=
  (List.range c.vlmax).map (fun i =>
    if c.vl ≤ i then (if c.tz then 0 else elemOf old c.ew i)
    else if i < c.vri then elemOf old c.ew i
    else if c.active pm pg i then (match f i with | some v => v | none => elemOf old c.ew i)
    else if c.mz then 0 else elemOf old c.ew i)

/-- Flags of the elements an instruction performs (R152). -/
def Core.newFlags (c : Core) (pm : Bool) (pg : BitVec 3) (f : Nat → Nat) : Nat :=
  (List.range c.vl).foldl (fun m i => if c.vri ≤ i && c.active pm pg i then m ||| f i else m) 0

/-- An element-wise instruction: nothing but the pc with VL 0 (R113), else every element of the group of `wd`
from `f`, which gives its value and flags. -/
def Core.mapElems (c : Core) (wd : BitVec 5) (pm : Bool) (pg : BitVec 3) (f : Nat → Option Nat × Nat) : Core :=
  if c.vl = 0 then c.retire
  else
    let es := c.newElems pm pg (c.group wd) (fun i => (f i).1)
    ((c.setWide wd.toNat (joinElems c.ew es) c.g).flags (c.newFlags pm pg (fun i => (f i).2))).retire

/-- The instruction `w` executed by a core: `op` answers none for an illegal instruction. -/
def State.vrun (s : State) (v w : Nat) (op : Core → Option Core) : State :=
  s.fetched v 4 (fun s => match op (s.core v) with
    | some d => s.setCore v d
    | none => s.illegal v w)

/-- A VV instruction whose element `i` is a function of the elements of ws1, ws2 and wd. -/
def Core.vv (c : Core) (ews : List Nat) (o : VV) (f : Core → Nat → Nat → Nat → Nat × Nat) : Option Core :=
  if c.okVV ews o true then
    let a := c.group o.ws1
    let b := c.group o.ws2
    let d := c.group o.wd
    some (c.mapElems o.wd o.pm o.pg (fun i =>
      let r := f c (elemOf a c.ew i) (elemOf b c.ew i) (elemOf d c.ew i)
      (some r.1, r.2)))
  else none

/-- A VX or VI instruction: the second operand is the number `y`. -/
def Core.vs (c : Core) (ews : List Nat) (o : VV) (y : Int) (f : Core → Nat → Int → Nat → Nat × Nat) : Option Core :=
  if c.okVV ews o false then
    let a := c.group o.ws1
    let d := c.group o.wd
    some (c.mapElems o.wd o.pm o.pg (fun i =>
      let r := f c (elemOf a c.ew i) y (elemOf d c.ew i)
      (some r.1, r.2)))
  else none

/-- A sub-operation of Table 05-4 on the elements of ws1. -/
def Core.vu (c : Core) (ews : List Nat) (o : VU) (f : Core → Nat → Nat × Nat) : Option Core :=
  if !c.vill && has ews c.ew && okPred o.pm o.pg c.g && okReg o.wd.toNat c.g && okReg o.ws1.toNat c.g then
    let a := c.group o.ws1
    some (c.mapElems o.wd o.pm o.pg (fun i =>
      let r := f c (elemOf a c.ew i)
      (some r.1, r.2)))
  else none

end Sys2Proof.Machine
end

