-- ==== Sys2Proof/Machine/VxArith.lean ====
section
/-!
DEFINITION. Vector arithmetic (R148–R164, R173): integer, shift, fixed-point, complex, floating-point and
block-floating instructions.
-/

namespace Sys2Proof.Machine

open Sys2Proof

/-! ## Reduction to the element width (R151) -/

/-- An exact result wrapped to EW bits. -/
def wrapE (c : Core) (v : Int) : Nat × Nat := (unsigned c.ew v, 0)

/-- An exact result clamped to `w` signed bits, VSAT where it clamps. -/
def satTo (w : Nat) (v : Int) : Int × Nat :=
  let hi : Int := 2 ^ (w - 1) - 1
  let lo : Int := -(2 ^ (w - 1))
  (clamp v lo hi, if v < lo ∨ hi < v then fVSAT else 0)

/-- An exact result saturated to EW bits. -/
def satE (c : Core) (v : Int) : Nat × Nat := let r := satTo c.ew v; (unsigned c.ew r.1, r.2)

/-- An element as a signed integer. -/
def sg (c : Core) (v : Nat) : Int := signed c.ew v

/-! ## Integer operations (R154–R156) -/

def opAdd (c : Core) (a b _d : Nat) : Nat × Nat := wrapE c (sg c a + sg c b)
def opSub (c : Core) (a b _d : Nat) : Nat × Nat := wrapE c (sg c a - sg c b)
def opAdds (c : Core) (a b _d : Nat) : Nat × Nat := satE c (sg c a + sg c b)
def opSubs (c : Core) (a b _d : Nat) : Nat × Nat := satE c (sg c a - sg c b)
def opMul (c : Core) (a b _d : Nat) : Nat × Nat := wrapE c (sg c a * sg c b)
def opMulh (c : Core) (a b _d : Nat) : Nat × Nat := wrapE c ((sg c a * sg c b).fdiv (2 ^ c.ew))
def opMacc (c : Core) (a b d : Nat) : Nat × Nat := wrapE c (sg c d + sg c a * sg c b)
def opNmsac (c : Core) (a b d : Nat) : Nat × Nat := wrapE c (sg c d - sg c a * sg c b)

/-- The quotient towards zero; by zero MAX or MIN with VDZ (R156). -/
def quotient (c : Core) (a b : Nat) : Int × Nat :=
  if sg c b = 0 then ((if 0 ≤ sg c a then 2 ^ (c.ew - 1) - 1 else -(2 ^ (c.ew - 1))), fVDZ)
  else ((sg c a).tdiv (sg c b), 0)

def opDiv (c : Core) (a b _d : Nat) : Nat × Nat := let q := quotient c a b; (unsigned c.ew q.1, q.2)
def opDivs (c : Core) (a b _d : Nat) : Nat × Nat := let q := quotient c a b; let r := satE c q.1; (r.1, r.2 ||| q.2)
def opRem (c : Core) (a b _d : Nat) : Nat × Nat :=
  if sg c b = 0 then (a, fVDZ) else wrapE c ((sg c a).tmod (sg c b))

def opAnd (_c : Core) (a b _d : Nat) : Nat × Nat := (a &&& b, 0)
def opOr (_c : Core) (a b _d : Nat) : Nat × Nat := (a ||| b, 0)
def opXor (_c : Core) (a b _d : Nat) : Nat × Nat := (a ^^^ b, 0)
def opMin (c : Core) (a b _d : Nat) : Nat × Nat := (if sg c b < sg c a then b else a, 0)
def opMax (c : Core) (a b _d : Nat) : Nat × Nat := (if sg c a < sg c b then b else a, 0)

/-- x × 2^k wrapped, 0 from EW upwards. -/
def shlN (c : Core) (a k : Nat) : Nat := if c.ew ≤ k then 0 else a * 2 ^ k % 2 ^ c.ew
/-- ⌊x / 2^k⌋ of the signed value. -/
def sraN (c : Core) (a k : Nat) : Nat := unsigned c.ew ((sg c a).fdiv (2 ^ (min k c.ew)))
/-- ⌊x / 2^k⌋ of the unsigned value. -/
def srlN (c : Core) (a k : Nat) : Nat := if c.ew ≤ k then 0 else a / 2 ^ k

/-- Shifts by a signed amount (R155): a negative one shifts the other way. -/
def shl (c : Core) (a : Nat) (k : Int) (_d : Nat) : Nat × Nat := (if 0 ≤ k then shlN c a k.toNat else sraN c a (-k).toNat, 0)
def sra (c : Core) (a : Nat) (k : Int) (_d : Nat) : Nat × Nat := (if 0 ≤ k then sraN c a k.toNat else shlN c a (-k).toNat, 0)
def srl (c : Core) (a : Nat) (k : Int) (_d : Nat) : Nat × Nat := (if 0 ≤ k then srlN c a k.toNat else shlN c a (-k).toNat, 0)

/-- A state answered as the next one. -/
abbrev Out := Host.Outcome State Fault Refusal

/-- VADD (R148). -/
def execVadd (o : VV) (s : State) : Out := .next (s.vrun o.core (encVV 0x00 o) (·.vv ewAll o opAdd))
/-- VSUB (R148). -/
def execVsub (o : VV) (s : State) : Out := .next (s.vrun o.core (encVV 0x01 o) (·.vv ewAll o opSub))
/-- VADDS (R148, R151). -/
def execVadds (o : VV) (s : State) : Out := .next (s.vrun o.core (encVV 0x02 o) (·.vv ewAll o opAdds))
/-- VSUBS (R148, R151). -/
def execVsubs (o : VV) (s : State) : Out := .next (s.vrun o.core (encVV 0x03 o) (·.vv ewAll o opSubs))
/-- VMUL (R154). -/
def execVmul (o : VV) (s : State) : Out := .next (s.vrun o.core (encVV 0x04 o) (·.vv ewAll o opMul))
/-- VMULH (R154). -/
def execVmulh (o : VV) (s : State) : Out := .next (s.vrun o.core (encVV 0x05 o) (·.vv ewAll o opMulh))
/-- VMACC (R148, R154). -/
def execVmacc (o : VV) (s : State) : Out := .next (s.vrun o.core (encVV 0x06 o) (·.vv ewAll o opMacc))
/-- VNMSAC (R148). -/
def execVnmsac (o : VV) (s : State) : Out := .next (s.vrun o.core (encVV 0x07 o) (·.vv ewAll o opNmsac))
/-- VDIV (R156). -/
def execVdiv (o : VV) (s : State) : Out := .next (s.vrun o.core (encVV 0x08 o) (·.vv ewAll o opDiv))
/-- VDIVS (R156). -/
def execVdivs (o : VV) (s : State) : Out := .next (s.vrun o.core (encVV 0x09 o) (·.vv ewAll o opDivs))
/-- VREM (R156). -/
def execVrem (o : VV) (s : State) : Out := .next (s.vrun o.core (encVV 0x0A o) (·.vv ewAll o opRem))
/-- VAND (R148). -/
def execVand (o : VV) (s : State) : Out := .next (s.vrun o.core (encVV 0x0B o) (·.vv ewAll o opAnd))
/-- VOR (R148). -/
def execVor (o : VV) (s : State) : Out := .next (s.vrun o.core (encVV 0x0C o) (·.vv ewAll o opOr))
/-- VXOR (R148). -/
def execVxor (o : VV) (s : State) : Out := .next (s.vrun o.core (encVV 0x0D o) (·.vv ewAll o opXor))
/-- VSLL (R155). -/
def execVsll (o : VV) (s : State) : Out := .next (s.vrun o.core (encVV 0x0E o) (·.vv ewAll o (fun c a b d => shl c a (sg c b) d)))
/-- VSRA (R155). -/
def execVsra (o : VV) (s : State) : Out := .next (s.vrun o.core (encVV 0x0F o) (·.vv ewAll o (fun c a b d => sra c a (sg c b) d)))
/-- VSRL (R155). -/
def execVsrl (o : VV) (s : State) : Out := .next (s.vrun o.core (encVV 0x30 o) (·.vv ewAll o (fun c a b d => srl c a (sg c b) d)))
/-- VMIN (R154). -/
def execVmin (o : VV) (s : State) : Out := .next (s.vrun o.core (encVV 0x31 o) (·.vv ewAll o opMin))
/-- VMAX (R154). -/
def execVmax (o : VV) (s : State) : Out := .next (s.vrun o.core (encVV 0x32 o) (·.vv ewAll o opMax))

/-! ## Scalar and immediate forms (R150) -/

/-- The scalar operand of an arithmetic .x form: the low EW bits of rs2. -/
def Core.scalar (c : Core) (o : VV) : Int := signed c.ew (c.xr o.ws2).toNat

/-- The scalar operand of a shift .x form: the whole signed rs2. -/
def Core.scalarWhole (c : Core) (o : VV) : Int := signed 64 (c.xr o.ws2).toNat

/-- A VX arithmetic form. -/
def Core.vxa (c : Core) (o : VV) (f : Core → Int → Int → Int → Int) : Option Core :=
  c.vs ewAll o (c.scalar o) (fun c a y d => wrapE c (f c (sg c a) y (sg c d)))

/-- VADD_X (R150). -/
def execVaddX (o : VV) (s : State) : Out := .next (s.vrun o.core (encVX 0 0 o) (·.vxa o (fun _ a y _ => a + y)))
/-- VSUB_X (R150). -/
def execVsubX (o : VV) (s : State) : Out := .next (s.vrun o.core (encVX 0 1 o) (·.vxa o (fun _ a y _ => a - y)))
/-- VRSUB_X (R150). -/
def execVrsubX (o : VV) (s : State) : Out := .next (s.vrun o.core (encVX 0 2 o) (·.vxa o (fun _ a y _ => y - a)))
/-- VMUL_X (R150). -/
def execVmulX (o : VV) (s : State) : Out := .next (s.vrun o.core (encVX 0 3 o) (·.vxa o (fun _ a y _ => a * y)))
/-- VMACC_X (R150). -/
def execVmaccX (o : VV) (s : State) : Out := .next (s.vrun o.core (encVX 0 4 o) (·.vxa o (fun _ a y d => d + a * y)))
/-- VSLL_X (R150, R155). -/
def execVsllX (o : VV) (s : State) : Out := .next (s.vrun o.core (encVX 0 5 o) (fun c => c.vs ewAll o (c.scalarWhole o) shl))
/-- VSRA_X (R150, R155). -/
def execVsraX (o : VV) (s : State) : Out := .next (s.vrun o.core (encVX 0 6 o) (fun c => c.vs ewAll o (c.scalarWhole o) sra))
/-- VSRL_X (R150, R155). -/
def execVsrlX (o : VV) (s : State) : Out := .next (s.vrun o.core (encVX 0 7 o) (fun c => c.vs ewAll o (c.scalarWhole o) srl))
/-- VSLL_I (R150, R155). -/
def execVsllI (o : VV) (s : State) : Out := .next (s.vrun o.core (encVX 1 0 o) (·.vs ewAll o o.ws2.toNat shl))
/-- VSRA_I (R150, R155). -/
def execVsraI (o : VV) (s : State) : Out := .next (s.vrun o.core (encVX 1 1 o) (·.vs ewAll o o.ws2.toNat sra))
/-- VSRL_I (R150, R155). -/
def execVsrlI (o : VV) (s : State) : Out := .next (s.vrun o.core (encVX 1 2 o) (·.vs ewAll o o.ws2.toNat srl))
/-- VADD_I (R150): a sign-extended immediate. -/
def execVaddI (o : VV) (s : State) : Out :=
  .next (s.vrun o.core (encVX 1 5 o) (·.vs ewAll o (signed 5 o.ws2.toNat) (fun c a y _ => wrapE c (sg c a + y))))

/-! ## Unary operations (R149) -/

/-- Leading zeros of a `w`-bit value. -/
def leadingZeros (w v : Nat) : Nat := if v = 0 then w else w - 1 - Nat.log2 v

/-- Set bits among the low `w` bits. -/
def setBitsOf (v : Nat) : Nat → Nat
  | 0 => 0
  | w + 1 => setBitsOf v w + v / 2 ^ w % 2

/-- VNEG (R149, R173). -/
def execVneg (o : VU) (s : State) : Out := .next (s.vrun o.core (encVU 0x33 0 o) (·.vu ewAll o (fun c a => wrapE c (-sg c a))))
/-- VNEGS (R149, R173). -/
def execVnegs (o : VU) (s : State) : Out := .next (s.vrun o.core (encVU 0x33 1 o) (·.vu ewAll o (fun c a => satE c (-sg c a))))
/-- VABS (R149, R173). -/
def execVabs (o : VU) (s : State) : Out := .next (s.vrun o.core (encVU 0x33 2 o) (·.vu ewAll o (fun c a => wrapE c (sg c a).natAbs)))
/-- VABSS (R149, R173). -/
def execVabss (o : VU) (s : State) : Out := .next (s.vrun o.core (encVU 0x33 3 o) (·.vu ewAll o (fun c a => satE c (sg c a).natAbs)))
/-- VNOT (R149). -/
def execVnot (o : VU) (s : State) : Out := .next (s.vrun o.core (encVU 0x33 4 o) (·.vu ewAll o (fun c a => (2 ^ c.ew - 1 - a, 0))))
/-- VCLZ (R149). -/
def execVclz (o : VU) (s : State) : Out := .next (s.vrun o.core (encVU 0x33 5 o) (·.vu ewAll o (fun c a => (leadingZeros c.ew a, 0))))
/-- VCPOP (R149). -/
def execVcpop (o : VU) (s : State) : Out := .next (s.vrun o.core (encVU 0x33 6 o) (·.vu ewAll o (fun c a => (setBitsOf a c.ew, 0))))

/-- I and Q halves of a complex int16 element, and their join (R159). -/
def reI (v : Nat) : Int := signed 16 v
def imQ (v : Nat) : Int := signed 16 (v / 65536)
def complexOf (i q : Int) : Nat := unsigned 16 i + 65536 * unsigned 16 q

/-- VCONJ (R149). -/
def execVconj (o : VU) (s : State) : Out :=
  .next (s.vrun o.core (encVU 0x33 7 o) (·.vu [32] o (fun _ a => (complexOf (reI a) (-imQ a), 0))))
/-- VCONJS (R149). -/
def execVconjs (o : VU) (s : State) : Out :=
  .next (s.vrun o.core (encVU 0x33 8 o) (·.vu [32] o (fun _ a => let r := satTo 16 (-imQ a); (complexOf (reI a) r.1, r.2))))

/-! ## Rounding, fixed point and complex (R157–R159) -/

/-- The function rnd of R157. -/
def rnd (x : Int) (k : Nat) (mode : Nat) : Int :=
  if k = 0 then x
  else
    let q := x.fdiv (2 ^ k)
    let r := x - q * 2 ^ k
    let h : Int := 2 ^ (k - 1)
    if mode = 0 then q
    else if h < r then q + 1
    else if r = h ∧ mode = 1 then q + 1
    else if r = h ∧ mode = 2 ∧ q % 2 = 1 then q + 1
    else q

/-- An instruction with a rounding field: RND 3 is illegal (R147). -/
def rounded (r : BitVec 2) (op : Core → Option Core) (c : Core) : Option Core := if r = 3#2 then none else op c

/-- VMULHR (R158). -/
def execVmulhr (o : VV) (r : BitVec 2) (s : State) : Out :=
  .next (s.vrun o.core (encVV (0x10 + r.toNat) o) (rounded r (·.vv [16, 32] o (fun c a b _ => satE c (rnd (sg c a * sg c b) (c.ew - 1) r.toNat)))))

/-- The rounded parts of a complex product (R159). -/
def cmulParts (r : Nat) (a b : Nat) (conj : Bool) : Int × Int :=
  let bq := if conj then -imQ b else imQ b
  (rnd (reI a * reI b - imQ a * bq) 15 r, rnd (reI a * bq + imQ a * reI b) 15 r)

/-- Two halves saturated to 16 bits each. -/
def satPair (i q : Int) : Nat × Nat :=
  let x := satTo 16 i
  let y := satTo 16 q
  (complexOf x.1 y.1, x.2 ||| y.2)

/-- VCMULR (R159). -/
def execVcmulr (o : VV) (r : BitVec 2) (s : State) : Out :=
  .next (s.vrun o.core (encVV (0x14 + r.toNat) o) (rounded r (·.vv [32] o (fun _ a b _ =>
    let p := cmulParts r.toNat a b false; satPair p.1 p.2))))
/-- VCMACR (R159). -/
def execVcmacr (o : VV) (r : BitVec 2) (s : State) : Out :=
  .next (s.vrun o.core (encVV (0x18 + r.toNat) o) (rounded r (·.vv [32] o (fun _ a b d =>
    let p := cmulParts r.toNat a b false; satPair (reI d + p.1) (imQ d + p.2)))))
/-- VCMULCR (R159). -/
def execVcmulcr (o : VV) (r : BitVec 2) (s : State) : Out :=
  .next (s.vrun o.core (encVV (0x1C + r.toNat) o) (rounded r (·.vv [32] o (fun _ a b _ =>
    let p := cmulParts r.toNat a b true; satPair p.1 p.2))))

/-- VSRAR_I (R158): the shift never leaves the element's range. -/
def execVsrarI (o : VV) (r : BitVec 2) (s : State) : Out :=
  .next (s.vrun o.core (encVR 2 0 r o) (rounded r (·.vs ewAll o o.ws2.toNat (fun c a y _ => satE c (rnd (sg c a) y.toNat r.toNat)))))
/-- VSRAR_V (R158): an amount above EW gives what EW + 1 gives. -/
def execVsrarV (o : VV) (r : BitVec 2) (s : State) : Out :=
  .next (s.vrun o.core (encVR 3 1 r o) (rounded r (·.vv ewAll o (fun c a b _ =>
    if 0 ≤ sg c b then satE c (rnd (sg c a) (min (sg c b).toNat (c.ew + 1)) r.toNat)
    else satE c (sg c a * 2 ^ (min (-sg c b).toNat c.ew))))))

/-- VNCLIP_I (R158): ws1 is a group of grouping 2g with elements of 2·EW bits. -/
def Core.nclip (c : Core) (o : VV) (r : Nat) : Option Core :=
  if !c.vill && has [8, 16, 32] c.ew && decide (c.g ≤ 4) && okPred o.pm o.pg c.g && okReg o.wd.toNat c.g
      && okReg o.ws1.toNat (2 * c.g) then
    let a := c.wide o.ws1.toNat (2 * c.g)
    some (c.mapElems o.wd o.pm o.pg (fun i =>
      let v := satE c (rnd (signed (2 * c.ew) (elemOf a (2 * c.ew) i)) o.ws2.toNat r)
      (some v.1, v.2)))
  else none

/-- VNCLIP_I (R158). -/
def execVnclipI (o : VV) (r : BitVec 2) (s : State) : Out :=
  .next (s.vrun o.core (encVR 2 1 r o) (rounded r (·.nclip o r.toNat)))

/-! ## Floating point (R160–R162) -/

/-- The format of the elements. -/
def Core.fmt (c : Core) : Fmt := fmtOf c.ew

/-- VFADD (R160). -/
def execVfadd (o : VV) (s : State) : Out :=
  .next (s.vrun o.core (encVV 0x20 o) (·.vv ewFloat o (fun c a b _ => c.fmt.add c.frm c.ftz a b)))
/-- VFSUB (R160). -/
def execVfsub (o : VV) (s : State) : Out :=
  .next (s.vrun o.core (encVV 0x21 o) (·.vv ewFloat o (fun c a b _ => c.fmt.sub c.frm c.ftz a b)))
/-- VFMUL (R160). -/
def execVfmul (o : VV) (s : State) : Out :=
  .next (s.vrun o.core (encVV 0x22 o) (·.vv ewFloat o (fun c a b _ => c.fmt.mul c.frm c.ftz a b)))
/-- VFDIV (R161). -/
def execVfdiv (o : VV) (s : State) : Out :=
  .next (s.vrun o.core (encVV 0x23 o) (·.vv ewFloat o (fun c a b _ => c.fmt.div c.frm c.ftz a b)))
/-- VFMA (R160). -/
def execVfma (o : VV) (s : State) : Out :=
  .next (s.vrun o.core (encVV 0x24 o) (·.vv ewFloat o (fun c a b d => c.fmt.fma c.frm c.ftz false a b d)))
/-- VFNMS (R160). -/
def execVfnms (o : VV) (s : State) : Out :=
  .next (s.vrun o.core (encVV 0x25 o) (·.vv ewFloat o (fun c a b d => c.fmt.fma c.frm c.ftz true a b d)))
/-- VFMIN (R161). -/
def execVfmin (o : VV) (s : State) : Out :=
  .next (s.vrun o.core (encVV 0x26 o) (·.vv ewFloat o (fun c a b _ => c.fmt.minmax c.ftz false a b)))
/-- VFMAX (R161). -/
def execVfmax (o : VV) (s : State) : Out :=
  .next (s.vrun o.core (encVV 0x27 o) (·.vv ewFloat o (fun c a b _ => c.fmt.minmax c.ftz true a b)))

/-- Complex fp32 parts: a product and, for vfcmac, the accumulator, each rounded once (R160). -/
def fcmul (c : Core) (acc : Bool) (a b d : Nat) : Nat × Nat :=
  let f := fmtOf 32
  let re (v : Nat) : FV := f.read c.ftz (v % 4294967296)
  let im (v : Nat) : FV := f.read c.ftz (v / 4294967296)
  let rr := (re a).mul (re b)
  let ii := (im a).mul (im b)
  let ri := (re a).mul (im b)
  let ir := (im a).mul (re b)
  let x := f.sum c.frm c.ftz (rr.2 || ii.2) ([rr.1, ii.1.neg] ++ (if acc then [re d] else []))
  let y := f.sum c.frm c.ftz (ri.2 || ir.2) ([ri.1, ir.1] ++ (if acc then [im d] else []))
  (x.1 + 4294967296 * y.1, x.2 ||| y.2)

/-- VFCMUL (R160). -/
def execVfcmul (o : VV) (s : State) : Out := .next (s.vrun o.core (encVV 0x28 o) (·.vv [64] o (fun c a b d => fcmul c false a b d)))
/-- VFCMAC (R160). -/
def execVfcmac (o : VV) (s : State) : Out := .next (s.vrun o.core (encVV 0x29 o) (·.vv [64] o (fun c a b d => fcmul c true a b d)))
/-- VFCVT_F_X (R162). -/
def execVfcvtFX (o : VU) (s : State) : Out :=
  .next (s.vrun o.core (encVU 0x2A 0 o) (·.vu ewFloat o (fun c a => c.fmt.ofInt c.frm c.ftz (sg c a))))
/-- VFCVT_X_F (R162). -/
def execVfcvtXF (o : VU) (s : State) : Out :=
  .next (s.vrun o.core (encVU 0x2A 1 o) (·.vu ewFloat o (fun c a => c.fmt.toInt c.frm c.ftz a)))
/-- VFCVT_X_F_RTZ (R162). -/
def execVfcvtXFRtz (o : VU) (s : State) : Out :=
  .next (s.vrun o.core (encVU 0x2A 2 o) (·.vu ewFloat o (fun c a => c.fmt.toInt 1 c.ftz a)))
/-- VFNEG (R149). -/
def execVfneg (o : VU) (s : State) : Out :=
  .next (s.vrun o.core (encVU 0x2A 3 o) (·.vu ewFloat o (fun c a => (a ^^^ 2 ^ (c.ew - 1), 0))))
/-- VFABS (R149). -/
def execVfabs (o : VU) (s : State) : Out :=
  .next (s.vrun o.core (encVU 0x2A 4 o) (·.vu ewFloat o (fun c a => (a % 2 ^ (c.ew - 1), 0))))

/-! ## Block floating point (R163, R164) -/

/-- The fewest signed bits that hold a value, at least 1. -/
def signedBits (v : Int) : Nat :=
  let m := if v < 0 then (-v - 1).toNat else v.toNat
  if m = 0 then 1 else Nat.log2 m + 2

/-- Block exponent element `k` (R163): max(0, b − m), with m in [12:8]; 0 where no element is active. -/
def Core.blockExp (c : Core) (o : VV) (a k : Nat) : Nat :=
  let m := o.ws2.toNat
  let is := ((List.range 24).map (24 * k + ·)).filter (fun i => decide (i < c.vl) && c.active o.pm o.pg i)
  let b := is.foldl (fun b i => max b (signedBits (signed 16 (elemOf a 16 i)))) 1
  (if is.isEmpty then 0 else b - m) + 256 * m

/-- VBFEXP (R163). -/
def Core.vbfexp (c : Core) (o : VV) : Option Core :=
  if c.okVV [16] o false && decide (2 ≤ o.ws2.toNat ∧ o.ws2.toNat ≤ 16)
      && !groupsMeet o.wd.toNat c.g o.ws1.toNat c.g then
    if c.vl = 0 then some c.retire
    else
      let a := c.group o.ws1
      let old := c.group o.wd
      let n := (c.vl + 23) / 24
      let es := (List.range c.vlmax).map (fun i =>
        if n ≤ i then (if c.tz then 0 else elemOf old 16 i)
        else if i < c.vri then elemOf old 16 i else c.blockExp o a i)
      some (c.setWide o.wd.toNat (joinElems 16 es) c.g).retire
  else none

/-- VBFEXP (R163). -/
def execVbfexp (o : VV) (s : State) : Out := .next (s.vrun o.core (encVX 1 7 o) (·.vbfexp o))

/-- Exponent and mantissa width of an exponent element; a width outside 2–16 is taken as 16 (R164). -/
def expOf (v : Nat) : Nat := bits v 4 0
def widthOf (v : Nat) : Nat := let m := bits v 12 8; if 2 ≤ m ∧ m ≤ 16 then m else 16

/-- A block-floating instruction: element `i` with its block's exponent element. -/
def Core.vbf (c : Core) (o : VV) (f : Int → Nat → Int × Nat) : Option Core :=
  if c.okVV [16] o true && !groupsMeet o.wd.toNat c.g o.ws2.toNat c.g then
    let a := c.group o.ws1
    let b := c.group o.ws2
    some (c.mapElems o.wd o.pm o.pg (fun i =>
      let r := f (signed 16 (elemOf a 16 i)) (elemOf b 16 (i / 24))
      (some (unsigned 16 r.1), r.2)))
  else none

/-- VBFNORM (R164). -/
def execVbfnorm (o : VV) (r : BitVec 2) (s : State) : Out :=
  .next (s.vrun o.core (encVR 3 0 r o) (rounded r (·.vbf o (fun x e => satTo (widthOf e) (rnd x (expOf e) r.toNat)))))
/-- VBFDEN (R164). -/
def execVbfden (o : VV) (s : State) : Out :=
  .next (s.vrun o.core (encVX 1 6 o) (·.vbf o (fun x e => satTo 16 (x * 2 ^ expOf e))))

end Sys2Proof.Machine
end

