-- ==== Sys2Proof/Machine/VxPerm.lean ====
section
/-!
DEFINITION. Compare, select, permute, slide, reduce, configuration, predicate and move instructions
(R165–R167, R169, R170).
-/

namespace Sys2Proof.Machine

open Sys2Proof

/-! ## Compares (R165) -/

/-- A compare: the lanes of each active element take its condition; inactive and tail lanes follow MZ and TZ.
It may not resume (R122). -/
def Core.compare (c : Core) (ews : List Nat) (o : VC) (f : Core → Nat → Nat → Bool × Nat) : Option Core :=
  if !c.vill && has ews c.ew && okPred o.pm o.pg c.g && decide (o.pd.toNat % c.g = 0)
      && okReg o.ws1.toNat c.g && okReg o.ws2.toNat c.g && decide (c.vri = 0) then
    if c.vl = 0 then some c.retire
    else
      let a := c.group o.ws1
      let b := c.group o.ws2
      let e := c.ew / 8
      let old := c.preds o.pd.toNat c.g
      let r (i : Nat) : Bool × Nat := f c (elemOf a c.ew i) (elemOf b c.ew i)
      let lanes := (List.range c.vlmax).map (fun i =>
        if c.vl ≤ i then (if c.tz then 0 else elemOf old e i)
        else if c.active o.pm o.pg i then (if (r i).1 then 2 ^ e - 1 else 0)
        else if c.mz then 0 else elemOf old e i)
      some ((c.setPreds o.pd.toNat (joinElems e lanes) c.g).flags (c.newFlags o.pm o.pg (fun i => (r i).2))).retire
  else none

/-- VCMP (R165). -/
def execVcmp (o : VC) (s : State) : Out :=
  .next (s.vrun o.core (encVC 0x34 o) (·.compare ewAll o (fun c a b =>
    (match o.cond.toNat with
      | 0 => decide (a = b) | 1 => decide (a ≠ b) | 2 => decide (sg c a < sg c b) | _ => decide (sg c a ≤ sg c b), 0))))
/-- VCMPU (R165): conditions 2 and 3 are reserved. -/
def execVcmpu (o : VC) (s : State) : Out :=
  .next (s.vrun o.core (encVC 0x35 o) (fun c => if 2 ≤ o.cond.toNat then none
    else c.compare ewAll o (fun _ a b => (if o.cond.toNat = 0 then decide (a < b) else decide (a ≤ b), 0))))
/-- VFCMP (R165). -/
def execVfcmp (o : VC) (s : State) : Out :=
  .next (s.vrun o.core (encVC 0x36 o) (·.compare ewFloat o (fun c a b => c.fmt.cmp c.ftz o.cond.toNat a b)))

/-! ## Select, permute and slide (R166) -/

/-- VSEL: ws1 where pg marks the element active and ws2 elsewhere; MZ does not apply. -/
def Core.vsel (c : Core) (o : VV) : Option Core :=
  if c.okVV ewAll o true && o.pm then
    let a := c.group o.ws1
    let b := c.group o.ws2
    some (c.mapElems o.wd false 0#3 (fun i =>
      (some (if c.active true o.pg i then elemOf a c.ew i else elemOf b c.ew i), 0)))
  else none

/-- VSEL (R166). -/
def execVsel (o : VV) (s : State) : Out := .next (s.vrun o.core (encVV 0x37 o) (·.vsel o))

/-- A permuting instruction: it may not resume (R122) and refuses the overlaps its entry names. -/
def Core.permute (c : Core) (o : VV) (vs2 : Bool) (f : Core → Nat → Nat → Nat → Option Nat) : Option Core :=
  if c.okVV ewAll o vs2 && decide (c.vri = 0) && !groupsMeet o.wd.toNat c.g o.ws1.toNat c.g
      && (!vs2 || !groupsMeet o.wd.toNat c.g o.ws2.toNat c.g) then
    let a := c.group o.ws1
    let b := c.group o.ws2
    some (c.mapElems o.wd o.pm o.pg (fun i => (f c a b i, 0)))
  else none

/-- VPERM (R166). -/
def execVperm (o : VV) (s : State) : Out :=
  .next (s.vrun o.core (encVV 0x38 o) (·.permute o true (fun c a b i =>
    let k := elemOf b c.ew i
    some (if k < c.vl then elemOf a c.ew k else 0))))
/-- VSLIDEDN_I (R166). -/
def execVslidednI (o : VV) (s : State) : Out :=
  .next (s.vrun o.core (encVX 1 3 o) (·.permute o false (fun c a _ i =>
    some (if i + o.ws2.toNat < c.vl then elemOf a c.ew (i + o.ws2.toNat) else 0))))

/-- VSLIDEUP_I: elements below imm5 are left unchanged, the inactive ones among them too. -/
def Core.slideUp (c : Core) (o : VV) : Option Core :=
  if c.okVV ewAll o false && decide (c.vri = 0) && !groupsMeet o.wd.toNat c.g o.ws1.toNat c.g then
    let a := c.group o.ws1
    let k := o.ws2.toNat
    let c' := c.mapElems o.wd o.pm o.pg (fun i => (if k ≤ i then some (elemOf a c.ew (i - k)) else none, 0))
    if c.vl = 0 then some c'
    else
      let old := c.group o.wd
      let new := c'.wide o.wd.toNat c.g
      let es := (List.range c.vlmax).map (fun i => if i < k ∧ i < c.vl then elemOf old c.ew i else elemOf new c.ew i)
      some (c'.setWide o.wd.toNat (joinElems c.ew es) c.g)
  else none

/-- VSLIDEUP_I (R166). -/
def execVslideupI (o : VV) (s : State) : Out := .next (s.vrun o.core (encVX 1 4 o) (·.slideUp o))

/-! ## Reductions (R167) -/

/-- A reduction: element 0 takes the result and the others are tail elements; with no active element the
result is 0 without flags. -/
def Core.reduce (c : Core) (ews : List Nat) (o : VU) (f : Core → List (Option Nat) → Nat × Nat) : Option Core :=
  if !c.vill && has ews c.ew && okPred o.pm o.pg c.g && okReg o.wd.toNat c.g && okReg o.ws1.toNat c.g
      && decide (c.vri = 0) then
    if c.vl = 0 then some c.retire
    else
      let a := c.group o.ws1
      let es := (List.range c.vl).map (fun i => if c.active o.pm o.pg i then some (elemOf a c.ew i) else none)
      let r := if es.all (·.isNone) then (0, 0) else f c es
      let old := c.group o.wd
      let out := (List.range c.vlmax).map (fun i =>
        if i = 0 then r.1 else if c.tz then 0 else elemOf old c.ew i)
      some ((c.setWide o.wd.toNat (joinElems c.ew out) c.g).flags r.2).retire
  else none

/-- The exact sum of the active elements. -/
def sumOf (c : Core) (es : List (Option Nat)) : Int := (es.filterMap (·.map (sg c))).sum

/-- VREDSUM (R167). -/
def execVredsum (o : VU) (s : State) : Out := .next (s.vrun o.core (encVU 0x39 0 o) (·.reduce ewAll o (fun c es => wrapE c (sumOf c es))))
/-- VREDSUMS (R167). -/
def execVredsums (o : VU) (s : State) : Out := .next (s.vrun o.core (encVU 0x39 1 o) (·.reduce ewAll o (fun c es => satE c (sumOf c es))))

/-- A choice folded over the active elements. -/
def foldElems (f : Nat → Nat → Nat × Nat) (es : List (Option Nat)) : Nat × Nat :=
  match es.filterMap id with
  | [] => (0, 0)
  | x :: t => t.foldl (fun m y => let r := f m.1 y; (r.1, m.2 ||| r.2)) (f x x)

/-- VREDMAX (R149). -/
def execVredmax (o : VU) (s : State) : Out :=
  .next (s.vrun o.core (encVU 0x39 2 o) (·.reduce ewAll o (fun c es => foldElems (fun a b => opMax c a b 0) es)))
/-- VREDMIN (R149). -/
def execVredmin (o : VU) (s : State) : Out :=
  .next (s.vrun o.core (encVU 0x39 3 o) (·.reduce ewAll o (fun c es => foldElems (fun a b => opMin c a b 0) es)))
/-- VREDCSUMS (R167). -/
def execVredcsums (o : VU) (s : State) : Out :=
  .next (s.vrun o.core (encVU 0x39 4 o) (·.reduce [32] o (fun _ es =>
    satPair (es.filterMap (·.map reI)).sum (es.filterMap (·.map imQ)).sum)))

/-- One level of the tree: element 2j + 1 is added to element 2j, an absent one adding nothing. -/
def treeLevel (f : Nat → Nat → Nat × Nat) : List (Option Nat) → List (Option Nat) × Nat
  | [] => ([], 0)
  | [x] => ([x], 0)
  | x :: y :: t =>
    let r := treeLevel f t
    match x, y with
    | some a, some b => let v := f a b; (some v.1 :: r.1, v.2 ||| r.2)
    | some a, none => (some a :: r.1, r.2)
    | none, b => (b :: r.1, r.2)

/-- `n` levels of the tree. -/
def treeSum (f : Nat → Nat → Nat × Nat) : Nat → List (Option Nat) → Nat × Nat
  | 0, es => ((es.filterMap id).headD 0, 0)
  | n + 1, es => let l := treeLevel f es; let r := treeSum f n l.1; (r.1, l.2 ||| r.2)

/-- A sum that no addition has rounded, one active element, as a result: a NaN is canonical (R161), and a subnormal
reads as zero under FTZ (R160). -/
def Core.canon (c : Core) (r : Nat × Nat) : Nat × Nat :=
  match c.fmt.read c.ftz r.1 with
  | .nan sig => (c.fmt.qnan, if sig then r.2 ||| fNV else r.2)
  | x => (c.fmt.back x, r.2)

/-- VFREDSUM (R167). -/
def execVfredsum (o : VU) (s : State) : Out :=
  .next (s.vrun o.core (encVU 0x39 5 o) (·.reduce ewFloat o (fun c es => c.canon (treeSum (fun a b => c.fmt.add c.frm c.ftz a b) 11 es))))
/-- VFREDMAX (R149). -/
def execVfredmax (o : VU) (s : State) : Out :=
  .next (s.vrun o.core (encVU 0x39 6 o) (·.reduce ewFloat o (fun c es => foldElems (fun a b => c.fmt.minmax c.ftz true a b) es)))
/-- VFREDMIN (R149). -/
def execVfredmin (o : VU) (s : State) : Out :=
  .next (s.vrun o.core (encVU 0x39 7 o) (·.reduce ewFloat o (fun c es => foldElems (fun a b => c.fmt.minmax c.ftz false a b) es)))

/-! ## Configuration (R112, R113, R169) -/

/-- VCFG after a value is written: reserved bits or a reserved FRM code set VILL (R112). -/
def vcfgOf (v : BitVec 64) : BitVec 64 :=
  if bits v.toNat 62 10 ≠ 0 ∨ 5 ≤ bits v.toNat 8 6 ∨ v.getLsbD 63 then 0x8000000000000000#64 else v

/-- VCFG written: VILL makes VL 0 (R112). -/
def Core.setVcfg (c : Core) (v : BitVec 64) : Core :=
  let c := { c with vcfg := vcfgOf v }
  if c.vill then { c with vl := 0 } else c

/-- VL set from a request: min(request, VLMAX); x0 requests VLMAX (R113). -/
def Core.setVl (c : Core) (rd rs1 : BitVec 5) (req : BitVec 64) : Core :=
  let vl := if c.vill then 0 else if rs1 = 0#5 then c.vlmax else min req.toNat c.vlmax
  ({ c with vl := vl }).setX rd (BitVec.ofNat 64 vl)

/-- VSETVLI (R169). -/
def execVsetvli (core : Nat) (rd rs1 : BitVec 5) (zimm : BitVec 11) (s : State) : Out :=
  .next (s.vrun core (0x2B + rd.toNat * 2 ^ 7 + 6 * 2 ^ 12 + rs1.toNat * 2 ^ 15 + zimm.toNat * 2 ^ 20) (fun c => some ((c.setVcfg (BitVec.ofNat 64 zimm.toNat)).setVl rd rs1 (c.xr rs1)).retire))
/-- VSETVL (R169): bits [63:10] of rs2 must be zero. -/
def execVsetvl (core : Nat) (rd rs1 rs2 : BitVec 5) (s : State) : Out :=
  .next (s.vrun core (encCfg 0 rd rs1 rs2) (fun c => some ((c.setVcfg (c.xr rs2)).setVl rd rs1 (c.xr rs1)).retire))
/-! ## Moves and predicates (R170) -/

/-- VMV_V_X: elements below VL take the low EW bits of rs1. -/
def execVmvVX (core : Nat) (wd rs1 : BitVec 5) (s : State) : Out :=
  .next (s.vrun core (encCfg 1 wd rs1 0#5) (fun c =>
    if !c.vill && okReg wd.toNat c.g then
      some (c.mapElems wd false 0#3 (fun _ => (some ((c.xr rs1).toNat % 2 ^ c.ew), 0)))
    else none))
/-- VMV_X_V: rd takes element rs2 of the group, sign-extended, 0 from VLMAX upwards. -/
def execVmvXV (core : Nat) (rd ws1 rs2 : BitVec 5) (s : State) : Out :=
  .next (s.vrun core (encCfg 2 rd ws1 rs2) (fun c =>
    if !c.vill && okReg ws1.toNat c.g then
      if c.vl = 0 then some c.retire
      else
        let i := (c.xr rs2).toNat
        let v : Int := if i < c.vlmax then signed c.ew (elemOf (c.group ws1) c.ew i) else 0
        some (c.setX rd (BitVec.ofInt 64 v)).retire
    else none))
/-- VMV_V_V: elements below VL copied. -/
def execVmvVV (core : Nat) (wd ws1 : BitVec 5) (s : State) : Out :=
  .next (s.vrun core (encCfg 3 wd ws1 0#5) (fun c =>
    if !c.vill && okReg wd.toNat c.g && okReg ws1.toNat c.g then
      let a := c.group ws1
      some (c.mapElems wd false 0#3 (fun i => (some (elemOf a c.ew i), 0)))
    else none))

/-- A predicate register field: the low three bits, the others zero (R146), a multiple of the grouping. -/
def Core.okP (c : Core) (r : BitVec 5) : Bool := decide (r.toNat < 8) && decide (r.toNat % c.g = 0)

/-- A predicate group with the lanes of the elements below VRI left as they are (R122). -/
def Core.keepBelow (c : Core) (old new : Nat) : Nat :=
  let n := c.vri * (c.ew / 8)
  new / 2 ^ n * 2 ^ n + old % 2 ^ n

/-- A predicate logic operation on every bit of the groups, whatever VL holds; after a resume the elements below VRI stay. -/
def Core.plogic (c : Core) (pd ps1 ps2 : BitVec 5) (f : Nat → Nat → Nat) : Option Core :=
  if !c.vill && c.okP pd && c.okP ps1 && c.okP ps2 then
    some (c.setPreds pd.toNat (c.keepBelow (c.preds pd.toNat c.g) (f (c.preds ps1.toNat c.g) (c.preds ps2.toNat c.g))) c.g).retire
  else none

/-- VPAND (R170). -/
def execVpand (core : Nat) (pd ps1 ps2 : BitVec 5) (s : State) : Out :=
  .next (s.vrun core (encCfg 4 pd ps1 ps2) (·.plogic pd ps1 ps2 (· &&& ·)))
/-- VPOR (R170). -/
def execVpor (core : Nat) (pd ps1 ps2 : BitVec 5) (s : State) : Out :=
  .next (s.vrun core (encCfg 5 pd ps1 ps2) (·.plogic pd ps1 ps2 (· ||| ·)))
/-- VPXOR (R170). -/
def execVpxor (core : Nat) (pd ps1 ps2 : BitVec 5) (s : State) : Out :=
  .next (s.vrun core (encCfg 6 pd ps1 ps2) (·.plogic pd ps1 ps2 (· ^^^ ·)))
/-- VPANDN (R170): ps1 AND NOT ps2. -/
def execVpandn (core : Nat) (pd ps1 ps2 : BitVec 5) (s : State) : Out :=
  .next (s.vrun core (encCfg 7 pd ps1 ps2) (·.plogic pd ps1 ps2 (fun a b => a ^^^ (a &&& b))))

/-- Active elements of a predicate group below VL and from VRI upwards (R122), by index. -/
def Core.marked (c : Core) (ps : BitVec 5) : List Nat :=
  (List.range c.vl).filter (fun i => decide (c.vri ≤ i) && bit (c.preds ps.toNat c.g) (i * (c.ew / 8)))

/-- An instruction that reads a predicate group into rd; with VL 0 it changes no register (R113). -/
def Core.pread (c : Core) (rd ps : BitVec 5) (f : List Nat → Int) : Option Core :=
  if !c.vill && c.okP ps then
    if c.vl = 0 then some c.retire else some (c.setX rd (BitVec.ofInt 64 (f (c.marked ps)))).retire
  else none

/-- VPCNT (R170). -/
def execVpcnt (core : Nat) (rd ps1 : BitVec 5) (s : State) : Out :=
  .next (s.vrun core (encCfg 8 rd ps1 0#5) (·.pread rd ps1 (fun l => l.length)))
/-- VPFIRST (R170). -/
def execVpfirst (core : Nat) (rd ps1 : BitVec 5) (s : State) : Out :=
  .next (s.vrun core (encCfg 9 rd ps1 0#5) (·.pread rd ps1 (fun l => match l with | [] => -1 | i :: _ => i)))
/-- VPVL (R170): element `i` is active exactly when i < rs1. -/
def execVpvl (core : Nat) (pd rs1 : BitVec 5) (s : State) : Out :=
  .next (s.vrun core (encCfg 10 pd rs1 0#5) (fun c =>
    if !c.vill && c.okP pd then
      if c.vl = 0 then some c.retire
      else
        let n := min (c.xr rs1).toNat c.vlmax
        some (c.setPreds pd.toNat (c.keepBelow (c.preds pd.toNat c.g) (2 ^ (n * (c.ew / 8)) - 1)) c.g).retire
    else none))

end Sys2Proof.Machine
end

