-- ==== Sys2Proof/Machine/VxMem.lean ====
section
/-!
DEFINITION. Memory accesses of a VX core (R118–R121, R123–R125, R168): physical memory protection, loads
and stores of elements and segments, traps at an element boundary, and first-fault loads.
-/

namespace Sys2Proof.Machine

open Sys2Proof

/-! ## One access -/

/-- The level at which loads and stores are checked: mstatus.MPRV lends MPP's to M-mode. -/
def Core.dataLevel (c : Core) : Priv :=
  if c.priv = .m ∧ bit (c.csrOf 0x300).toNat 17 = true then privOf (bits (c.csrOf 0x300).toNat 12 11) else c.priv

/-- The access a core makes: at U and S it carries the partition of PTAG (R118). -/
def Core.acc (c : Core) (v : Nat) : Acc where
  kind := .vx
  unit := v
  part := if c.priv = .m then none else some (bits c.ptag.toNat 9 0)
  priv := false
  slug := if c.slugstat.getLsbD 0 then some (c.handle, bits c.slugstat.toNat 3 2) else none
  peer := false

/-- Do the bytes lie in the core's own local memory? -/
def ownLocal (v a n : Nat) : Bool := decide (localBase v ≤ a) && decide (a + n ≤ localBase v + 0x20000)

/-- A load of `n` bytes: the value, none for an access fault. -/
def State.vxRead (s : State) (v a n : Nat) : Option Nat × State :=
  let c := s.core v
  if !c.pmpOk c.dataLevel 0 a n then (none, s)
  else if ownLocal v a n then (some (s.loadN a n), s)
  else match s.memRead (c.acc v) a n with
    | (0, b, t) => (some (leNat b), t)
    | (_, _, t) => (none, t)

/-! ### The scalar data cache (R119): 128 sets of four lines of 64 bytes; local memory and the peer window are not cached -/

/-- Is an address of a memory the data cache holds lines of? -/
def cacheable (a : Nat) : Bool :=
  match zoneOf a with
  | .hbm _ => true
  | .slotStore => true
  | .cluster _ => true
  | _ => false

/-- The line of an address, where the core holds it. -/
def Core.cachedLine (c : Core) (a : Nat) : Option (Nat × List Byte) := c.dcache.find? (fun l => decide (l.1 = a / 64))

/-- The lines that do not meet the `n` bytes at `a`. -/
def Core.dropLines (c : Core) (a n : Nat) : Core :=
  { c with dcache := c.dcache.filter (fun l => !overlaps (64 * l.1) 64 a n) }

/-- A line filled from memory; of a full set a line gives way, which one the spec does not say: a free value. -/
def State.fillLine (s : State) (v a : Nat) : State :=
  let c := s.core v
  let inSet := c.dcache.filter (fun l => decide (l.1 % 128 = a / 64 % 128))
  let line := (a / 64, s.load (a / 64 * 64) 64)
  if inSet.length < 4 then s.setCore v { c with dcache := line :: c.dcache }
  else
    let (k, t) := s.draw
    let gone := (inSet.getD (Config.free k % 4) line).1
    t.setCore v { c with dcache := line :: c.dcache.filter (fun l => decide (l.1 ≠ gone)) }

/-- What a scalar load returns where memory holds `x`: the line's bytes where it is held, else `x`, and the line is
filled. -/
def State.cacheRead (s : State) (v a n x : Nat) : Nat × State :=
  if !cacheable a then (x, s)
  else match (s.core v).cachedLine a with
    | some l => (leNat ((l.2.drop (a % 64)).take n), s)
    | none => (x, s.fillLine v a)

/-- Written through: a scalar store changes the line where it is held, and fills none. -/
def Core.cacheWrite (c : Core) (held : Option (Nat × List Byte)) (a n x : Nat) : Core :=
  match held with
  | some l => { c with dcache := (l.1, l.2.take (a % 64) ++ leBytes n x ++ l.2.drop (a % 64 + n)) :: c.dcache }
  | none => c

/-- EMITTED in SLUGSTAT after the attempt's first write into the peer window (R135). -/
def State.vxEmitted (s : State) (v a : Nat) : State :=
  if zoneOf a = .mogil then s.setCore v { s.core v with slugstat := (s.core v).slugstat ||| 2#64 } else s

/-- A store of `n` bytes: whether it was performed.  It invalidates the cached lines it overlaps (R119). -/
def State.vxWrite (s : State) (v a n val : Nat) : Bool × State :=
  let c := s.core v
  if !c.pmpOk c.dataLevel 1 a n then (false, s)
  else if ownLocal v a n then (true, (s.storeB a (leBytes n val)).markDirty a n)
  else match s.memWrite (c.acc v) a (leBytes n val) with
    | (0, t) =>
      let u := t.vxEmitted v a
      (true, u.setCore v ((u.core v).dropLines a n))
    | (_, t) => (false, t)

/-! ## Segments -/

/-- A vector memory instruction resolved: what it moves and where element or segment `i` lies. -/
structure VOp where
  store : Bool
  ff : Bool
  nf : Nat
  /-- Byte address of field 0 of segment `i`, as a 64-bit value. -/
  at_ : List (BitVec 64)
  deriving DecidableEq, Repr

/-- The address of field `f` of segment `i`. -/
def VOp.addr (o : VOp) (e i f : Nat) : Nat := ((o.at_.getD i 0#64) + BitVec.ofNat 64 (f * e)).toNat

/-- How a run of elements ended: all performed, a fault at an element with its cause and address, or VL
trimmed by a first-fault load. -/
inductive MStop where
  | finished
  | fault (i cause addr : Nat)
  | trimmed (i : Nat)
  deriving DecidableEq, Repr

/-- The fields of one segment loaded in order: their values, or the fault's cause and address. -/
def loadFields (v e : Nat) (o : VOp) (i : Nat) : Nat → Nat → State → (List Nat × Option (Nat × Nat)) × State
  | 0, _, s => (([], none), s)
  | n + 1, f, s =>
    let a := o.addr e i f
    if a % e ≠ 0 then (([], some (4, a)), s)
    else match s.vxRead v a e with
      | (none, t) => (([], some (5, a)), t)
      | (some x, t) =>
        let r := loadFields v e o i n (f + 1) t
        ((x :: r.1.1, r.1.2), r.2)

/-- The fields of one segment stored in order: the fault's cause and address, if any.  The test of every
field is taken before memory is changed, so that all fields of a segment are performed together (R121). -/
def storeFields (v e : Nat) (o : VOp) (i : Nat) (vals : List Nat) (s : State) : Option (Nat × Nat) × State :=
  (List.range vals.length).foldl (fun r f =>
      match r with
      | (some x, t) => (some x, t)
      | (none, t) =>
        let a := o.addr e i f
        if a % e ≠ 0 then (some (6, a), s)
        else match t.vxWrite v a e (vals.getD f 0) with
          | (true, u) => (none, u)
          | (false, u) => (some (7, a), { u with mem := s.mem })) (none, s)

/-- May a later element of a first-fault load be issued (R124)? -/
def State.issuable (s : State) (v e : Nat) (o : VOp) (i : Nat) : Bool :=
  let c := s.core v
  (List.range o.nf).all (fun f =>
    let a := o.addr e i f
    let inMem := match spanZone a e with | .hbm _ => true | .slotStore => true | .cluster _ => true | _ => false
    (ownLocal v a e || inMem) && c.pmpOk c.dataLevel 0 a e
      && (ownLocal v a e || decide (c.priv = .m) || s.inWindow (bits c.ptag.toNat 9 0) a e true false))

/-- Elements `i` upwards loaded, `n` of them at most: for each its fields, none for an inactive one. -/
def loadRun (v e : Nat) (o : VOp) (act : Nat → Bool) :
    Nat → Nat → Bool → State → List (Option (List Nat)) × MStop × State
  | 0, _, _, s => ([], .finished, s)
  | n + 1, i, first, s =>
    if act i then
      if o.ff && !first && !s.issuable v e o i then ([], .trimmed i, s)
      else match loadFields v e o i o.nf 0 s with
        | ((_, some (cause, a)), t) => ([], .fault i cause a, t)
        | ((vs, none), t) =>
          let r := loadRun v e o act n (i + 1) false t
          (some vs :: r.1, r.2)
    else
      let r := loadRun v e o act n (i + 1) first s
      (none :: r.1, r.2)

/-- Elements `i` upwards stored, `n` of them at most. -/
def storeRun (v e : Nat) (o : VOp) (act : Nat → Bool) (src : Nat → List Nat) : Nat → Nat → State → MStop × State
  | 0, _, s => (.finished, s)
  | n + 1, i, s =>
    if act i then
      match storeFields v e o i (src i) s with
      | (some (cause, a), t) => (.fault i cause a, t)
      | (none, t) => storeRun v e o act src n (i + 1) t
    else storeRun v e o act src n (i + 1) s

/-- The elements of field `f` of a load's destination (R114, R121, R122, R124). -/
def Core.loaded (c : Core) (start vl : Nat) (stopped : Bool) (old : Nat) (vs : List (Option (List Nat))) (f : Nat) : List Nat :=
  (List.range c.vlmax).map (fun i =>
    let o := elemOf old c.ew i
    if i < start then o
    else match vs[i - start]? with
      | some (some l) => l.getD f 0
      | some none => if c.mz then 0 else o
      | none => if stopped then o else if vl ≤ i then (if c.tz then 0 else o) else o)

/-- The destination groups of a load written, one per field. -/
def Core.putLoaded (c : Core) (wd start vl : Nat) (stopped : Bool) (vs : List (Option (List Nat))) : Nat → Core
  | 0 => c
  | f + 1 =>
    let d := c.putLoaded wd start vl stopped vs f
    let r := wd + f * c.g
    d.setWide r (joinElems c.ew (c.loaded start vl stopped (c.wide r c.g) vs f)) c.g

/-- Elements of the data register groups of a store. -/
def Core.storeSrc (c : Core) (wd nf i : Nat) : List Nat :=
  (List.range nf).map (fun f => elemOf (c.wide (wd + f * c.g) c.g) c.ew i)

/-- Addresses of the elements or segments of a form (R125, R168). -/
def Core.memOp (c : Core) (k : VMemKind) (m : VMem) : VOp :=
  let e := c.ew / 8
  let base := c.xr m.rs1
  let unit (nf : Nat) := (List.range c.vl).map (fun i => base + BitVec.ofNat 64 (i * nf * e))
  let strided := (List.range c.vl).map (fun i => base + BitVec.ofNat 64 i * c.xr m.x)
  let indexed := (List.range c.vl).map (fun i => base + BitVec.ofNat 64 (elemOf (c.group m.x) c.ew i * e))
  match k with
  | .le => ⟨false, false, 1, unit 1⟩
  | .leff => ⟨false, true, 1, unit 1⟩
  | .lseg => ⟨false, false, m.nf, unit m.nf⟩
  | .lsegff => ⟨false, true, m.nf, unit m.nf⟩
  | .se => ⟨true, false, 1, unit 1⟩
  | .sseg => ⟨true, false, m.nf, unit m.nf⟩
  | .lse => ⟨false, false, 1, strided⟩
  | .sse => ⟨true, false, 1, strided⟩
  | .lxe => ⟨false, false, 1, indexed⟩
  | .sxe => ⟨true, false, 1, indexed⟩
  | .lsseg => ⟨false, false, m.nf, strided⟩
  | .ssseg => ⟨true, false, m.nf, strided⟩

/-- Is a structure form one? -/
def isSeg : VMemKind → Bool
  | .lseg => true | .lsegff => true | .sseg => true | .lsseg => true | .ssseg => true | _ => false

/-- The checks of R125 and R147 on a vector memory instruction. -/
def Core.okMem (c : Core) (k : VMemKind) (m : VMem) : Bool :=
  !c.vill && okPred m.pm m.pg c.g
    && (if isSeg k then decide (2 ≤ m.nf ∧ m.nf ≤ 4) else decide (m.nf = 1))
    && decide (m.vd.toNat % c.g = 0) && decide (m.vd.toNat + m.nf * c.g ≤ 32)
    && ((k ≠ .lxe && k ≠ .sxe) || okReg m.x.toNat c.g)

/-- What a memory instruction leaves after its elements: finished, trapped at an element, or interrupted at
element `stop` by the interrupt `cause`. -/
def State.endMem (s : State) (v : Nat) (stop : Option (Nat × Nat)) (r : MStop) : State :=
  let c := s.core v
  match r with
  | .fault i cause a => s.trapCore v { c with vri := i } false cause (BitVec.ofNat 64 a)
  | .trimmed i => s.setCore v { c.retire with vl := i }
  | .finished =>
    match stop with
    | some (i, cause) => s.trapCore v { c with vri := i } true cause 0#64
    | none => s.setCore v c.retire

/-- The word of a vector memory instruction (Tables 05-1, 05-5). -/
def encMem (k : VMemKind) (m : VMem) : Nat :=
  let sub (ff : Nat) : BitVec 5 := BitVec.ofNat 5 (m.nf - 1 + 4 * ff)
  let (st, mop, x) := match k with
    | .le => (0, 0, sub 0) | .leff => (0, 0, sub 1) | .lseg => (0, 0, sub 0) | .lsegff => (0, 0, sub 1)
    | .se => (1, 0, sub 0) | .sseg => (1, 0, sub 0)
    | .lse => (0, 1, m.x) | .sse => (1, 1, m.x) | .lxe => (0, 2, m.x) | .sxe => (1, 2, m.x)
    | .lsseg => (0, m.nf + 1, m.x) | .ssseg => (1, m.nf + 1, m.x)
  encVX (4 + st) mop ⟨m.core, m.pm, m.pg, m.vd, m.rs1, x⟩

/-- A vector memory instruction executed from VRI, to its end or to element `stop` where an interrupt is
taken inside it (R121–R124). -/
def State.vmem (s : State) (k : VMemKind) (m : VMem) (stop : Option (Nat × Nat)) : State :=
  s.fetched m.core 4 (fun s =>
  let v := m.core
  let c := s.core v
  if !c.okMem k m then s.illegal v (encMem k m)
  else if c.vl = 0 then s.setCore v c.retire
  else
    let o := c.memOp k m
    let e := c.ew / 8
    let last := match stop with | some (i, _) => min i c.vl | none => c.vl
    let act (i : Nat) : Bool := c.active m.pm m.pg i
    if o.store then
      match storeRun v e o act (c.storeSrc m.vd.toNat o.nf) (last - c.vri) c.vri s with
      | (r, t) => t.endMem v stop r
    else
      let first := !((List.range c.vri).any act)
      match loadRun v e o act (last - c.vri) c.vri first s with
      | (vs, r, t) =>
        let stopped := match r with | .fault .. => true | _ => stop.isSome
        let vl := match r with | .trimmed i => i | _ => c.vl
        let d := (t.core v).putLoaded m.vd.toNat c.vri vl stopped vs o.nf
        (t.setCore v d).endMem v stop r)

/-- VLE (R168). -/
def execVle (m : VMem) (s : State) : Out := .next (s.vmem .le m none)
/-- VLEFF (R124). -/
def execVleff (m : VMem) (s : State) : Out := .next (s.vmem .leff m none)
/-- VLSEG (R125). -/
def execVlseg (m : VMem) (s : State) : Out := .next (s.vmem .lseg m none)
/-- VLSEGFF (R124, R125). -/
def execVlsegff (m : VMem) (s : State) : Out := .next (s.vmem .lsegff m none)
/-- VSE (R168). -/
def execVse (m : VMem) (s : State) : Out := .next (s.vmem .se m none)
/-- VSSEG (R125). -/
def execVsseg (m : VMem) (s : State) : Out := .next (s.vmem .sseg m none)
/-- VLSE (R168). -/
def execVlse (m : VMem) (s : State) : Out := .next (s.vmem .lse m none)
/-- VSSE (R168). -/
def execVsse (m : VMem) (s : State) : Out := .next (s.vmem .sse m none)
/-- VLXE (R168). -/
def execVlxe (m : VMem) (s : State) : Out := .next (s.vmem .lxe m none)
/-- VSXE (R168). -/
def execVsxe (m : VMem) (s : State) : Out := .next (s.vmem .sxe m none)
/-- VLSSEG (R125). -/
def execVlsseg (m : VMem) (s : State) : Out := .next (s.vmem .lsseg m none)
/-- VSSSEG (R125). -/
def execVssseg (m : VMem) (s : State) : Out := .next (s.vmem .ssseg m none)

end Sys2Proof.Machine
end

