-- ==== Sys2Proof/Machine/VxSys.lean ====
section
/-!
DEFINITION. CSRs, interrupts and returns of a VX core, and the slug's begin and end (R115, R121–R123, R128,
R133–R140, R153, R171).
-/

namespace Sys2Proof.Machine

open Sys2Proof

/-! ## Coprocessors becoming free (R128, R172) -/

/-- A coprocessor's operation completes: it stops being busy, and CP2 sets NV where an input was invalid. -/
def Core.cpDone (c : Core) (n : Nat) : Core :=
  let d := { c with cpbusy := BitVec.ofNat 64 (withBit c.cpbusy.toNat n false) }
  if n = 2 ∧ c.cp2nv = true then { d.flags fNV with cp2nv := false } else d

/-- Every operation in flight completes (R153). -/
def Core.cpDrain (c : Core) : Core :=
  [0, 1, 2].foldl (fun c n => if bit c.cpbusy.toNat n then c.cpDone n else c) c

/-- CP_OP_COMPLETE (R128). -/
def execCpOpComplete (core cp : Nat) (s : State) : Out :=
  let c := s.core core
  if bit c.cpbusy.toNat cp && decide (cp < 3) then .next (s.setCore core (c.cpDone cp)) else .next s

/-! ## CSRs (Table 04-4; the standard ones PRESUMED from the RISC-V privileged specification) -/

/-- Writable bits of mstatus, and of its sstatus view. -/
def mstatusMask : Nat := 0x7E19AA
def sstatusMask : Nat := 0xC0122

/-- Writable bits of the standard CSRs; those not listed are not writable. -/
def csrMask (n : Nat) : Nat :=
  if n = 0x300 then mstatusMask
  else if n = 0x320 then 0x5
  else if n = 0x30A ∨ n = 0x10A then 0x1
  else if n = 0x302 then 0xB3FF
  else if n = 0x303 then 0x222
  else if n = 0x304 then 0xAAA
  else if n = 0x344 then 0x222
  else if n = 0x305 ∨ n = 0x105 then 0xFFFFFFFFFFFFFFFD
  else if n = 0x306 ∨ n = 0x106 then 0x7
  else if n = 0x341 ∨ n = 0x141 then 0xFFFFFFFFFFFFFFFE
  else if n = 0x340 ∨ n = 0x140 ∨ n = 0x342 ∨ n = 0x142 ∨ n = 0x343 ∨ n = 0x143 then 0xFFFFFFFFFFFFFFFF
  else if n = 0x3A0 ∨ n = 0x3A2 then 0x9F9F9F9F9F9F9F9F
  else if 0x3B0 ≤ n ∧ n ≤ 0x3BF then 0x3FFFFFFFFFFFFF
  else 0

/-- The hardware performance counters, their shadows and event selectors: the core counts no event, and they are hard-wired
to 0, as the RISC-V privileged specification allows. -/
def hpmCsr (n : Nat) : Bool :=
  decide (0xB03 ≤ n ∧ n ≤ 0xB1F) || decide (0xC03 ≤ n ∧ n ≤ 0xC1F) || decide (0x323 ≤ n ∧ n ≤ 0x33F)

/-- The standard CSRs a core has beside those of Table 04-4. -/
def standardCsr (n : Nat) : Bool :=
  hpmCsr n ||
  has [0x100, 0x104, 0x105, 0x106, 0x140, 0x141, 0x142, 0x143, 0x144, 0x180, 0x300, 0x301, 0x302, 0x303, 0x304,
    0x305, 0x306, 0x30A, 0x10A, 0x320, 0xF15, 0x340, 0x341, 0x342, 0x343, 0x344, 0x3A0, 0x3A2, 0xB00, 0xB02, 0xC00, 0xC01, 0xC02, 0xF11, 0xF12,
    0xF13, 0xF14] n || decide (0x3B0 ≤ n ∧ n ≤ 0x3BF)

/-- The CSRs of Table 04-4. -/
def vxCsr (n : Nat) : Bool :=
  has [0x800, 0xCC0, 0xCC1, 0xCC2, 0xCC3, 0x5C0, 0x5C1, 0x5C4, 0x7C0, 0x7C1, 0x7C2, 0x7C4, 0x7C8, 0xFC0, 0xFC1, 0xFC2,
    0xFC3] n || decide (0x7D0 ≤ n ∧ n ≤ 0x7D7) || decide (0xFC8 ≤ n ∧ n ≤ 0xFCF)

/-- May a core access a CSR at its level: the lowest level is in bits [9:8] of the number, and the counters
at S and U are enabled by mcounteren and scounteren?  mstatus.TVM keeps satp from S-mode. -/
def Core.csrAllowed (c : Core) (n : Nat) : Bool :=
  (standardCsr n || vxCsr n) && decide (bits n 9 8 ≤ c.priv.code)
    && !(decide (n = 0x180 ∧ c.priv = .s) && bit (c.csrOf 0x300).toNat 20)
    && (!(decide (0xC00 ≤ n ∧ n ≤ 0xC1F)) || decide (c.priv = .m)
      || (bit (c.csrOf 0x306).toNat (n - 0xC00) && (decide (c.priv = .s) || bit (c.csrOf 0x106).toNat (n - 0xC00))))

/-- What mcycle reads as: the cycles since it was written or read last are a free value, as the model has no cycles; under
mcountinhibit it stands. -/
def State.cycleRead (s : State) (c : Core) : BitVec 64 :=
  if bit (c.csrOf 0x320).toNat 0 then c.cycle else c.cycle + BitVec.ofNat 64 (Config.free s.freeCtr)

/-- The value a CSR reads as. -/
def State.csrRead (s : State) (v n : Nat) : BitVec 64 :=
  let c := s.core v
  if n = 0x800 then c.vstatus
  else if n = 0xCC0 ∨ n = 0x5C0 then BitVec.ofNat 64 c.vl
  else if n = 0xCC1 ∨ n = 0x5C1 then c.vcfg
  else if n = 0xCC2 then BitVec.ofNat 64 c.vri
  else if n = 0xCC3 then c.cpbusy
  else if n = 0x5C4 then c.svri
  else if n = 0x7C0 then c.cpen
  else if n = 0x7C1 then c.cpctx
  else if n = 0x7C2 then c.cpown
  else if n = 0x7C4 then c.mvri
  else if n = 0x7C8 then c.doneCtl
  else if 0x7D0 ≤ n ∧ n ≤ 0x7D7 then Tab.get 0#64 c.doneBind (n - 0x7D0)
  else if n = 0xFC0 then c.ptag
  else if n = 0xFC1 then BitVec.ofNat 64 (localBase v)
  else if n = 0xFC2 then c.slugstat
  else if n = 0xFC3 then BitVec.ofNat 64 (s.govN OD.lmsplit)
  else if 0xFC8 ≤ n ∧ n ≤ 0xFCF then Tab.get 0#64 c.slug (n - 0xFC8)
  else if n = 0xC01 then BitVec.ofNat 64 (airTickOf s.time.air)
  else if n = 0xC00 ∨ n = 0xB00 then s.cycleRead c
  else if n = 0xC02 ∨ n = 0xB02 then c.instret
  else if hpmCsr n then 0#64
  else if n = 0xF14 then BitVec.ofNat 64 v
  else if has [0xF11, 0xF12, 0xF13] n then Config.vxId n
  else if n = 0x301 then 0x8000000000941104#64
  else if n = 0x300 then c.csrOf 0x300 ||| 0xA00000000#64
  else if n = 0x100 then BitVec.ofNat 64 ((c.csrOf 0x300).toNat &&& sstatusMask) ||| 0x200000000#64
  else if n = 0x104 then BitVec.ofNat 64 ((c.csrOf 0x304).toNat &&& (c.csrOf 0x303).toNat)
  else if n = 0x144 then BitVec.ofNat 64 ((c.csrOf 0x344).toNat &&& (c.csrOf 0x303).toNat)
  else c.csrOf n

/-- Bits of `old` replaced by those of `v` where the mask is set. -/
def maskIn (mask : Nat) (old v : BitVec 64) : BitVec 64 :=
  BitVec.ofNat 64 (old.toNat - (old.toNat &&& mask) + (v.toNat &&& mask))

/-- mstatus written: MPP takes no reserved level. -/
def writeMstatus (mask : Nat) (old v : BitVec 64) : BitVec 64 :=
  let n := maskIn mask old v
  if bits n.toNat 12 11 = 2 then setField n 11 2 (bits old.toNat 12 11) else n

/-- A PMP register written: entries that are locked keep their values. -/
def Core.writePmp (c : Core) (n : Nat) (v : BitVec 64) : Core :=
  if n = 0x3A0 ∨ n = 0x3A2 then
    let first := (n - 0x3A0) * 4
    let w := (List.range 8).foldl (fun (a : Nat) i =>
      let b := if bit (c.pmpCfg (first + i)) 7 then c.pmpCfg (first + i)
        else bits v.toNat (8 * i + 7) (8 * i) &&& 0x9F
      a + b * 2 ^ (8 * i)) 0
    c.setCsr n (BitVec.ofNat 64 w)
  else
    let i := n - 0x3B0
    let locked := bit (c.pmpCfg i) 7 || (decide (i < 15) && bit (c.pmpCfg (i + 1)) 7 && decide (bits (c.pmpCfg (i + 1)) 4 3 = 1))
    if locked then c else c.setCsr n (maskIn (csrMask n) 0#64 v)

/-- A CSR written; VL and the flags follow R112 and R115. -/
def Core.csrWrite (c : Core) (n : Nat) (v : BitVec 64) : Core :=
  if n = 0x800 then { c with vstatus := BitVec.ofNat 64 (bits v.toNat 6 0) }
  else if n = 0xB00 then { c with cycle := v }
  else if n = 0xB02 then { c with instret := v }
  else if hpmCsr n then c
  else if n = 0x5C0 then
    if c.vill ∨ c.vlmax < v.toNat then { c with vcfg := 0x8000000000000000#64, vl := 0 } else { c with vl := v.toNat }
  else if n = 0x5C1 then c.setVcfg v
  else if n = 0x5C4 then { c with svri := v }
  else if n = 0x7C0 then { c with cpen := v }
  else if n = 0x7C1 then { c with cpctx := BitVec.ofNat 64 (bits v.toNat 15 0) }
  else if n = 0x7C2 then { c with cpown := BitVec.ofNat 64 (bits v.toNat 31 0) }
  else if n = 0x7C4 then { c with mvri := v }
  else if n = 0x7C8 then { c with doneCtl := v }
  else if 0x7D0 ≤ n ∧ n ≤ 0x7D7 then { c with doneBind := Tab.put 0#64 c.doneBind (n - 0x7D0) v }
  else if n = 0x300 then c.setCsr 0x300 (writeMstatus mstatusMask (c.csrOf 0x300) v)
  else if n = 0x100 then c.setCsr 0x300 (writeMstatus sstatusMask (c.csrOf 0x300) v)
  else if n = 0x104 then c.setCsr 0x304 (maskIn (c.csrOf 0x303).toNat (c.csrOf 0x304) v)
  else if n = 0x144 then c.setCsr 0x344 (maskIn ((c.csrOf 0x303).toNat &&& 2) (c.csrOf 0x344) v)
  else if n = 0x3A0 ∨ n = 0x3A2 ∨ (0x3B0 ≤ n ∧ n ≤ 0x3BF) then c.writePmp n v
  else c.setCsr n (maskIn (csrMask n) (c.csrOf n) v)

/-- The value a CSR instruction writes: none for a set or clear with no bits to change, which does not
write. -/
def csrNew (f : CsrOp) (old src : BitVec 64) (zero : Bool) : Option (BitVec 64) :=
  match f with
  | .rw => some src
  | .rwi => some src
  | .rs => if zero then none else some (old ||| src)
  | .rsi => if zero then none else some (old ||| src)
  | .rc => if zero then none else some (old &&& ~~~src)
  | .rci => if zero then none else some (old &&& ~~~src)

/-- The source of a CSR instruction: rs1, or the zero-extended immediate. -/
def Core.csrSrc (c : Core) (f : CsrOp) (src : BitVec 5) : BitVec 64 :=
  match f with
  | .rw => c.xr src | .rs => c.xr src | .rc => c.xr src
  | _ => BitVec.ofNat 64 src.toNat

/-- A CSR instruction (Zicsr): illegal where the CSR does not exist, the level is too low or a read-only CSR
would be written.  An access to VSTATUS waits for every earlier vector and coprocessor instruction (R153). -/
def State.csrInstr (s : State) (v n : Nat) (rd : BitVec 5) (f : CsrOp) (src : BitVec 5) : State :=
  let s := if n = 0x800 then s.setCore v (s.core v).cpDrain else s
  let c := s.core v
  let old := s.csrRead v n
  let new := csrNew f old (c.csrSrc f src) (decide (src = 0#5))
  if !c.csrAllowed n || (new.isSome && decide (bits n 11 10 = 3)) then s.illegal v (encCsr n rd f src)
  else
    let read := decide (n = 0xC00) || decide (n = 0xB00)
    let s := if read then { s with freeCtr := s.freeCtr + 1 } else s
    let c := if read then { c with cycle := old } else c
    let d := c.count
    let d := match new with | some x => d.csrWrite n x | none => d
    s.setCore v { (d.setX rd old) with pc := c.pc + 4#64 }

/-- VSTATUS_ACCESS (R153). -/
def execVstatusAccess (core : Nat) (rd : BitVec 5) (f : CsrOp) (src : BitVec 5) (s : State) : Out :=
  .next (s.fetched core 4 (fun s => s.csrInstr core 0x800 rd f src))

/-- VL_W_WRITE (R115): csrrw x0, VL_W, src; a value above VLMAX sets VILL. -/
def execVlWWrite (core : Nat) (src : BitVec 5) (s : State) : Out :=
  .next (s.fetched core 4 (fun s => s.csrInstr core 0x5C0 0#5 .rw src))

/-- VCFG_W_WRITE (R112): csrrw x0, VCFG_W, src. -/
def execVcfgWWrite (core : Nat) (src : BitVec 5) (s : State) : Out :=
  .next (s.fetched core 4 (fun s => s.csrInstr core 0x5C1 0#5 .rw src))

/-! ## Interrupts and returns (R121–R123) -/

/-- Is an interrupt enabled at the core's level (RISC-V privileged specification)? -/
def Core.intEnabled (c : Core) (cause : Nat) : Bool :=
  let st := (c.csrOf 0x300).toNat
  bit (c.csrOf 0x304).toNat cause &&
    (if bit (c.csrOf 0x303).toNat cause then decide (c.priv = .u) || (decide (c.priv = .s) && bit st 1)
     else decide (c.priv ≠ .m) || bit st 3)

/-- Is an address in fabric memory of R123: cluster memory, the slot store or HBM? -/
def fabricMem (a e : Nat) : Bool :=
  match spanZone a e with | .hbm _ => true | .slotStore => true | .cluster _ => true | _ => false

/-- May a memory instruction be interrupted inside, before element `i` (R123): between two 64-byte requests where an active
element lies in cluster memory, slot store or HBM, or between two groups of 16 elements of a strided or indexed one where
an active element lies in local memory? -/
def Core.mayStop (c : Core) (v : Nat) (k : VMemKind) (m : VMem) (i : Nat) : Bool :=
  let o := c.memOp k m
  let e := c.ew / 8
  let act := (List.range c.vl).filter (fun j => decide (c.vri ≤ j) && c.active m.pm m.pg j)
  let strided := match k with | .lse => true | .sse => true | .lxe => true | .sxe => true | .lsseg => true | .ssseg => true | _ => false
  let line (j f : Nat) : Nat := o.addr e j f / 64
  let between := match (act.filter (fun j => decide (j < i))).getLast?, act.find? (fun j => decide (i ≤ j)) with
    | some p, some q => decide (line p (o.nf - 1) ≠ line q 0)
    | _, _ => false
  decide (c.vri < i ∧ i < c.vl) &&
    ((between && act.any (fun j => fabricMem (o.addr e j 0) e))
      || (strided && decide (i % 16 = 0) && act.any (fun j => ownLocal v (o.addr e j 0) e)))

/-- INTERRUPT (R123): taken between instructions, or inside an interruptible vector memory instruction with
VRI at the first element not performed. -/
def execInterruptTaken (core : Nat) (cause : Nat) (within : Option (VMemKind × VMem × Nat)) (s : State) : Out :=
  let c := s.core core
  if c.halted || !s.unitAwake 0 core || !c.intEnabled cause then .next s
  else match within with
    | none => .next (s.trapCore core { c with waiting := false } true cause 0#64)
    | some (k, m, i) =>
      if decide (m.core = core) && c.okMem k m && decide (c.vl ≠ 0) && c.mayStop core k m i then
        .next (s.vmem k m (some (i, cause)))
      else .next s

/-- mret and sret: the level and interrupt enable are restored, and MVRI or SVRI goes back into VRI (R122). -/
def Core.xret (c : Core) (fromM : Bool) : Core :=
  let st := c.csrOf 0x300
  if fromM then
    let lvl := privOf (bits st.toNat 12 11)
    let st := setField (setField (setField st 3 1 (bits st.toNat 7 7)) 7 1 1) 11 2 0
    let st := if lvl = .m then st else setField st 17 1 0
    { c.setCsr 0x300 st with pc := c.csrOf 0x341, priv := lvl, vri := c.mvri.toNat }
  else
    let lvl := privOf (bits st.toNat 8 8)
    let st := setField (setField (setField (setField st 1 1 (bits st.toNat 5 5)) 5 1 1) 8 1 0) 17 1 0
    { c.setCsr 0x300 st with pc := c.csrOf 0x141, priv := lvl, vri := c.svri.toNat }

/-- Is a return permitted at the core's level? -/
def Core.mayXret (c : Core) (fromM : Bool) : Bool :=
  if fromM then decide (c.priv = .m)
  else decide (c.priv = .m) || (decide (c.priv = .s) && !bit (c.csrOf 0x300).toNat 22)

/-- XRET (R122). -/
def execXret (core : Nat) (fromM : Bool) (s : State) : Out :=
  .next (s.fetched core 4 (fun s =>
    let c := s.core core
    if c.mayXret fromM then s.setCore core (c.xret fromM).count
    else s.illegal core (if fromM then 0x30200073 else 0x10200073)))

/-! ## Slugs (R133–R139) -/

/-- Argument `k` of a slug as delivered (R84). -/
def Slug.arg (x : Slug) (k : Nat) : Nat := match x.resolved[k]? with | some (some a) => a | _ => 0

/-- The address argument `k` of a slug names (Table 03-3).  A handle of no buffer names none; an access there meets the
reserved space above the memories. -/
def State.argAt (s : State) (x : Slug) (k : Nat) : Nat := (s.argAddr (x.arg k)).getD 0x1FFFFFFFFFFF

/-- The 512 bits of a slug with its arguments as delivered (Table 03-2, R84). -/
def Slug.bits512 (x : Slug) : Nat :=
  putBits (putBits (putBits x.tableWord 415 384 (x.arg 0)) 447 416 (x.arg 1)) 479 448 (x.arg 2)

/-- The next context tag (R130): 1 to 65,535, skipping the owner tags. -/
def nextTag (own : BitVec 64) : Nat → Nat → Nat
  | 0, t => t
  | n + 1, t =>
    let u := if 65535 ≤ t then 1 else t + 1
    if u = bits own.toNat 15 0 ∨ u = bits own.toNat 31 16 then nextTag own n u else u

/-- Dirty blocks of a core's slug region, the 2 KiB blocks above the first LMSPLIT. -/
def State.dirtyBlocks (s : State) (v : Nat) : List Nat :=
  (List.range 64).filter (fun k => decide (s.govN OD.lmsplit ≤ k) && (s.core v).dirty.getLsbD k)

/-- The clear of R134: dirty blocks of the slug region, w0–w31 and p0–p7 zeroed. -/
def State.clearCore (s : State) (v : Nat) : State :=
  let c := s.core v
  let bs := s.dirtyBlocks v
  let m := bs.foldl (fun m k => Memory.zero m (localBase v + 2048 * k) 2048) s.mem
  let t := ({ s with mem := m }).setCore v { c with
    dirty := bs.foldl (fun (d : BitVec 64) k => d &&& ~~~(1#64 <<< k)) c.dirty, w := [], p := [] }
  (t.bump OD.partitionClears v).bumpBy OD.clearCycles v (8 * bs.length + 4)

/-- A slug delivered to a core waiting in vx.wfs (R133); vx.wfs retires. -/
def State.deliverVx (s : State) (v h : Nat) (x : Slug) : State :=
  let c := s.core v
  let d := x.bits512
  let tag := nextTag c.cpown 3 c.lastTag
  let c' := { c with
    slug := (List.range 8).foldl (fun t k => Tab.put 0#64 t k (BitVec.ofNat 64 (d / 2 ^ (64 * k)))) []
    handle := h, ptag := BitVec.ofNat 64 (x.part + 65536), slugstat := BitVec.ofNat 64 (1 + 4 * x.attempt)
    cpctx := BitVec.ofNat 64 tag, lastTag := tag, cp2 := [], dcache := [], waiting := false, pc := c.pc + 4#64, instret := c.count.instret }
  let t := (s.setCore v c').bump OD.slugsRun v
  let t := t.setNum OD.corePartition v x.part
  let t := if c.lastPart = some x.part then t else t.clearCore v
  t.setCore v { t.core v with lastPart := some x.part }

/-- vx.wfs and vx.done execute in M-mode only, with A, B, C and CPN zero (R171). -/
def Core.okSys (c : Core) (a b d : BitVec 5) (cpn : BitVec 2) : Bool :=
  decide (c.priv = .m ∧ a = 0#5 ∧ b = 0#5 ∧ d = 0#5 ∧ cpn = 0#2)

/-- VX_WFS (R133, R171): it retires with the dispatch. -/
def execVxWfs (core : Nat) (a b c_ : BitVec 5) (cpn : BitVec 2) (s : State) : Out :=
  .next (s.fetched core 4 (fun s =>
    let c := s.core core
    if c.okSys a b c_ cpn then s.setCore core { c with waiting := true, vri := 0 }
    else s.illegal core (encSys 0 cpn.toNat a b c_)))

/-- The binding pairs of DONE_BIND0–7. -/
def donePairs (binds : Tab (BitVec 64)) (n : Nat) : List (Nat × Nat) :=
  (List.range n).map (fun k => let b := (Tab.get 0#64 binds k).toNat; (bits b 9 0, bits b 39 16))

/-- Alarm of a unit fault by class (Tables 04-13, 06-18, 07-14; 0x0A11 for a control core): both copies of a
lockstep pair. -/
def State.unitAlarm (s : State) (cls u : Nat) : State :=
  if cls = 0 then s.raise 0x0601 u
  else if cls = 1 then
    let t := s.raise 0x0A11 u
    if bit (s.govN OD.lockstepPairs) (u / 2) && !has s.res.unpaired (u / 2) then t.raise 0x0A11 (u / 2 * 2 + (1 - u % 2)) else t
  else if cls = 9 ∨ cls = 10 then s.raise 0x0705 (unitNumber cls u)
  else s.raise 0x0701 (unitNumber cls u)

/-- The report of a slug's end by DONE_CTL (R135). -/
def State.sendDone (s : State) (cls u h att : Nat) (ctl : Nat) (binds : Tab (BitVec 64)) (emitted : Bool) : State :=
  if bit ctl 9 then (s.unitFault cls u (some (h, att)) emitted 2).unitAlarm cls u
  else if bit ctl 8 || !has [0, 4, 5] (bits ctl 2 0) then s.slugFaultAlarm h att
  else s.complete ⟨h, att, bits ctl 2 0, donePairs binds (min 8 (bits ctl 6 3)), emitted⟩

/-- VX_DONE (R135, R171). -/
def execVxDone (core : Nat) (a b c_ : BitVec 5) (cpn : BitVec 2) (s : State) : Out :=
  .next (s.fetched core 4 (fun s =>
    let c := s.core core
    if c.okSys a b c_ cpn && c.slugstat.getLsbD 0 then
      let st := c.slugstat.toNat
      let d := { c.retire with
        slugstat := BitVec.ofNat 64 (withBit st 0 false), ptag := BitVec.ofNat 64 (withBit c.ptag.toNat 16 false)
        halted := bit c.doneCtl.toNat 9 }
      (s.setCore core d).sendDone 0 core c.handle (bits st 3 2) c.doneCtl.toNat c.doneBind (bit st 1)
    else s.illegal core (encSys 1 cpn.toNat a b c_)))

/-- VX_UNIT_FAULT (R117, R138, Table 04-9): a corrected error is counted and the core runs on; any other makes the hardware
report and the core halt, a double-bit error being counted. -/
def execVxUnitFault (core : Nat) (err : HwError) (s : State) : Out :=
  let c := s.core core
  if s.unitAwake 0 core = false then .next s
  else match err with
    | .corrected => .next (s.corrected 0 core OD.vxEccCorrected core OD.vxEccThreshold 0x0602 core)
    | _ =>
      if c.halted then .next s
      else
        let t := s.setCore core { c with halted := true, waiting := false }
        let t := if err = .doubleBit then t.bump OD.eccUncorrected core else t
        .next ((t.unitFault 0 core (s.unit 0 core).held (c.slugstat.getLsbD 1) 1).unitAlarm 0 core)

/-- CORE_IMAGE_SWITCH (R140): at an idle moment after the value took effect, the core starts its new image at
its entry point in M mode; an image below its anti-rollback counter is never started (R392). -/
def execCoreImageSwitch (core : Nat) (s : State) : Out :=
  let c := s.core core
  let slot := s.govN OD.coreImage core
  if c.waiting && !c.halted && !c.slugstat.getLsbD 0 && (s.unit 0 core).held.isNone && s.unitAwake 0 core
      && decide (c.image ≠ slot) then
    match s.slotImage slot with
    | some i =>
      if i.rollback < Tab.get 0 s.sec.rollback 3 then .next s
      else .next (s.setCore core { c with
        image := slot, pc := BitVec.ofNat 64 i.entry, priv := .m, waiting := false, vri := 0 })
    | none => .next s
  else .next s

/-- A write of IMAGE_DATA (R142): verification starts when the last byte is written. -/
def writeVxImage (k : Nat) (img : Image) (s : State) : Except Fail State :=
  if s.imageRefusal k ≠ 0 then .error (OD.imageData.fail (s.imageRefusal k))
  else .ok (({ s with vx := { s.vx with slots := Tab.put {} s.vx.slots k ⟨some img⟩ } }).setNum OD.imageState k 1)

/-- VX_IMAGE_WRITE (R142). -/
def execVxImageWrite (who : Requester) (img : Image) (s : State) : Out :=
  .next (s.actSel who OD.imageData 0 (fun k => writeVxImage k img))

end Sys2Proof.Machine
end

