-- ==== Sys2Proof/Machine/VxCp.lean ====
section
/-!
DEFINITION. The coprocessors CP0, CP1 and CP2 of a VX core (R126–R132, R171, R172).
-/

namespace Sys2Proof.Machine

open Sys2Proof

/-! ## The checks of R171 -/

/-- The word of a coprocessor instruction (Table 05-1, format SYS). -/
def cpWord (funct5 cpn : Nat) (a b c : BitVec 5) : BitVec 64 := BitVec.ofNat 64 (encSys funct5 cpn a b c)

/-- CPEN's bit for a coprocessor at the core's level (R127). -/
def Core.cpEnabled (c : Core) (n : Nat) : Bool :=
  bit c.cpen.toNat (4 * n + (match c.priv with | .u => 0 | .s => 1 | .m => 2))

/-- Does the owner check of R129 fail: CP0 or CP1 addressed at U or S by another context than its owner? -/
def Core.firstUse (c : Core) (n : Nat) : Bool :=
  decide (c.priv ≠ .m) && decide (n < 2)
    && decide (bits c.cpown.toNat (16 * n + 15) (16 * n) ≠ bits c.cpctx.toNat 15 0)

/-- Registers of a coprocessor (Table 04-7). -/
def cpRegs (n : Nat) : Nat := if n = 0 then 8 else 16

/-- Longest busy time of a coprocessor [cycles] (Table 04-7). -/
def cpLongest (n : Nat) : Nat := if n = 0 then 8 else if n = 1 then 16 else 12

/-- An instruction addressed to a busy coprocessor stalls until its operation has completed (R128).  How many
cycles that takes lies between 1 and the longest busy time and is otherwise free. -/
def State.cpStall (s : State) (v n : Nat) : State :=
  if bit (s.core v).cpbusy.toNat n then
    let t := s.setCore v ((s.core v).cpDone n)
    ({ t with freeCtr := t.freeCtr + 1 }).bumpBy OD.busyStallCycles 0 (1 + Config.free t.freeCtr % cpLongest n)
  else s

/-- A coprocessor instruction: the enable check (R127), the checks of R147, the first-use check (R129) and the
busy stall (R128), in that order, then what it does. -/
def State.cpRun (s : State) (v n : Nat) (word : BitVec 64) (ok : Core → Bool) (f : State → State) : State :=
  s.fetched v 4 (fun s =>
    let c := s.core v
    if decide (n < 3) && !c.cpEnabled n then s.trapCore v c false 2 word
    else if 3 ≤ n ∨ ok c = false then s.illegal v word.toNat
    else if c.firstUse n then
      (s.trapCore v c false 24 (BitVec.ofNat 64 n)).bump (if n = 0 then OD.firstUseCp0 else OD.firstUseCp1)
    else f (s.cpStall v n))

/-- A core changed by an instruction that retires. -/
def State.onCore (s : State) (v : Nat) (f : Core → Core) : State := s.setCore v (f (s.core v)).retire

/-- A coprocessor operation issued: its result is held at once and the coprocessor is busy until
CP_OP_COMPLETE; every instruction that could tell waits for that (R128). -/
def Core.issue (c : Core) (n : Nat) : Core := { c with cpbusy := BitVec.ofNat 64 (withBit c.cpbusy.toNat n true) }

/-! ## Moves and clear (Table 05-9) -/

/-- Wide register `r`. -/
def Core.wreg (c : Core) (r : BitVec 5) : BitVec 2048 := Tab.get 0#2048 c.w r.toNat

/-- Wide register `r` written. -/
def Core.setW (c : Core) (r : BitVec 5) (v : BitVec 2048) : Core := { c with w := Tab.put 0#2048 c.w r.toNat v }

/-- Register `r` of a coprocessor. -/
def Core.cpReg (c : Core) (n r : Nat) : Nat :=
  if n = 0 then (Tab.get 0#128 c.cp0 r).toNat
  else if n = 1 then (Tab.get 0#256 c.cp1 r).toNat
  else (Tab.get 0#2048 c.cp2 r).toNat

/-- Register `r` of a coprocessor written: the low 128 or 256 bits, or all (R126). -/
def Core.setCpReg (c : Core) (n r v : Nat) : Core :=
  if n = 0 then { c with cp0 := Tab.put 0#128 c.cp0 r (BitVec.ofNat 128 v) }
  else if n = 1 then { c with cp1 := Tab.put 0#256 c.cp1 r (BitVec.ofNat 256 v) }
  else { c with cp2 := Tab.put 0#2048 c.cp2 r (BitVec.ofNat 2048 v) }

/-- VCP_MVTO (R126). -/
def execVcpMvto (core : Nat) (a b c : BitVec 5) (cpn : BitVec 2) (s : State) : Out :=
  .next (s.cpRun core cpn.toNat (cpWord 2 cpn.toNat a b c) (fun _ => decide (a.toNat < cpRegs cpn.toNat))
    (fun t => t.onCore core (fun k => k.setCpReg cpn.toNat a.toNat (k.wreg b).toNat)))

/-- VCP_MVFROM (R126): the bits above the register's width are zeroed. -/
def execVcpMvfrom (core : Nat) (a b c : BitVec 5) (cpn : BitVec 2) (s : State) : Out :=
  .next (s.cpRun core cpn.toNat (cpWord 3 cpn.toNat a b c) (fun _ => decide (a.toNat < cpRegs cpn.toNat))
    (fun t => t.onCore core (fun k => k.setW c (BitVec.ofNat 2048 (k.cpReg cpn.toNat a.toNat)))))

/-- VCP_CLEAR (R171): every register and the hidden state of the coprocessor are zeroed. -/
def execVcpClear (core : Nat) (a b c : BitVec 5) (cpn : BitVec 2) (s : State) : Out :=
  .next (s.cpRun core cpn.toNat (cpWord 4 cpn.toNat a b c) (fun _ => true)
    (fun t => t.onCore core (fun k =>
      if cpn = 0#2 then { k with cp0 := [], sctl := 0#64 }
      else if cpn = 1#2 then { k with cp1 := [], bctl := 0#64 } else { k with cp2 := [] })))

/-! ## CP0: sequences -/

/-- The parity of a number's bits [30:0]. -/
def parity31 (v : Nat) : Bool := (List.range 31).foldl (fun p i => p ^^ bit v i) false

/-- One step of a sequence x of length 31: `taps` are the earlier terms whose sum is the next one. -/
def lfsrStep (taps x : Nat) : Nat := x / 2 + (if parity31 (x &&& taps) then 2 ^ 30 else 0)

/-- Taps of the first and of the second sequence (3GPP TS 38.211 clause 5.2.1). -/
def tapsX1 : Nat := 9
def tapsX2 : Nat := 15

/-- `n` steps of a sequence. -/
def lfsrRun (taps : Nat) : Nat → Nat → Nat
  | 0, x => x
  | n + 1, x => lfsrRun taps n (lfsrStep taps x)

/-- A polynomial of degree below 31 times x, modulo x³¹ + the taps. -/
def polyX (taps p : Nat) : Nat := (2 * p % 2 ^ 31) ^^^ (if bit p 30 then taps else 0)

/-- The product of two polynomials modulo x³¹ + the taps, from the `n` low bits of the second. -/
def polyMul (taps a : Nat) : Nat → Nat → Nat
  | 0, _ => 0
  | n + 1, b => (if b % 2 = 1 then a else 0) ^^^ polyX taps (polyMul taps a n (b / 2))

/-- x to the power `k` of `n` bits, modulo x³¹ + the taps. -/
def polyPow (taps : Nat) : Nat → Nat → Nat
  | 0, _ => 1
  | n + 1, k =>
    let h := polyPow taps n (k / 2)
    let q := polyMul taps h 31 h
    if k % 2 = 1 then polyX taps q else q

/-- The terms x(0) to x(61) of a sequence whose first 31 are given. -/
def lfsrWide (taps x : Nat) : Nat := x + lfsrRun taps 31 x * 2 ^ 31

/-- A sequence advanced by `k` positions: each new term is the sum of those the power of x selects. -/
def lfsrSkip (taps k x : Nat) : Nat :=
  let p := polyPow taps 32 k
  let w := lfsrWide taps x
  (List.range 31).foldl (fun a j => a + (if parity31 ((w / 2 ^ j) &&& p) then 2 ^ j else 0)) 0

/-- SCTL of a Gold generator: the sequences in [30:0] and [61:31], mode 1 in [63:62] (DESIGN CHOICE, the
spec gives no layout of the hidden state). -/
def sctlOf (x1 x2 : Nat) : BitVec 64 := BitVec.ofNat 64 (x1 % 2 ^ 31 + x2 % 2 ^ 31 * 2 ^ 31 + 2 ^ 62)
def sctlX1 (v : BitVec 64) : Nat := bits v.toNat 30 0
def sctlX2 (v : BitVec 64) : Nat := bits v.toNat 61 31

/-- `n` terms c of the sequence from two registers, the first in bit 0. -/
def goldBits : Nat → Nat → Nat → Nat
  | 0, _, _ => 0
  | n + 1, x1, x2 =>
    ((x1 + x2) % 2) + 2 * goldBits n (lfsrStep tapsX1 x1) (lfsrStep tapsX2 x2)

/-- A CP0, CP1 or CP2 operation: the checks, and its effect on the core. -/
def State.cpOp (s : State) (v n a : Nat) (b c : BitVec 5) (ok : Core → Bool) (f : Core → Core) : State :=
  s.cpRun v n (cpWord 5 n (BitVec.ofNat 5 a) b c) ok (fun t => t.onCore v (fun k => (f k).issue n))

/-- CP0_GINIT (R172): c_init from s[B][30:0], with the 1,600 positions of N_C applied. -/
def execCp0Ginit (core : Nat) (b c : BitVec 5) (s : State) : Out :=
  .next (s.cpOp core 0 0 b c (fun _ => decide (b.toNat < 8)) (fun k =>
    { k with sctl := sctlOf (lfsrSkip tapsX1 1600 1) (lfsrSkip tapsX2 1600 (bits (k.cpReg 0 b.toNat) 30 0)) }))

/-- CP0_GOLD (R172): 2,048 terms into w[C]; the generator advances by as many. -/
def execCp0Gold (core : Nat) (b c : BitVec 5) (s : State) : Out :=
  .next (s.cpOp core 0 1 b c (fun _ => true) (fun k =>
    let x1 := sctlX1 k.sctl
    let x2 := sctlX2 k.sctl
    { k.setW c (BitVec.ofNat 2048 (goldBits 2048 x1 x2)) with
        sctl := sctlOf (lfsrSkip tapsX1 2048 x1) (lfsrSkip tapsX2 2048 x2) }))

/-- CP0_GSKIP (R172): the generator advances s[B][31:0] positions. -/
def execCp0Gskip (core : Nat) (b c : BitVec 5) (s : State) : Out :=
  .next (s.cpOp core 0 2 b c (fun _ => decide (b.toNat < 8)) (fun k =>
    let n := bits (k.cpReg 0 b.toNat) 31 0
    { k with sctl := sctlOf (lfsrSkip tapsX1 n (sctlX1 k.sctl)) (lfsrSkip tapsX2 n (sctlX2 k.sctl)) }))

/-- π in units of 2⁻¹²⁰. -/
def piFix : Int := 4175892906503776358826876457663557747

/-- 2¹²⁰, one in the fixed-point form of the sequences. -/
def oneFix : Int := 1329227995784915872903807060280344576

/-- cos(π·m/n) and sin(π·m/n) in units of 2⁻¹²⁰, for 0 ≤ m < 2n. -/
def cosFix (m n : Nat) : Int :=
  let x := piFix * ((m : Int) - (if n < m then 2 * n else 0 : Nat)) / n
  trigTerms oneFix (x * x / oneFix) 40 0 oneFix
def sinFix (m n : Nat) : Int :=
  let x := piFix * ((m : Int) - (if n < m then 2 * n else 0 : Nat)) / n
  trigTerms oneFix (x * x / oneFix) 40 1 x

/-- 32,767 times a value in units of 2⁻¹²⁰, rounded half to even; a value nearer to a half than 2⁻⁶⁰ is
that half, since no other lies so close (DEDUCED). -/
def ampRound (v : Int) : Int :=
  let p := 32767 * v
  let q := p / oneFix
  let r := p % oneFix
  let near := (r - oneFix / 2).natAbs
  if near < 2 ^ 60 then (if q % 2 = 0 then q else q + 1)
  else if oneFix / 2 < r then q + 1 else q

/-- Element `j` of a Zadoff-Chu sequence: x_u(m) = exp(−jπ·u·m·(m + 1)/N), I in the low half. -/
def zcElem (u n m : Nat) : Nat :=
  let t := u * m * (m + 1) % (2 * n)
  unsigned 16 (ampRound (cosFix t n)) + 65536 * unsigned 16 (ampRound (-(sinFix t n)))

/-- The 64 elements from index `k`; of length 0 the spec states none. -/
def zcWord (u n k : Nat) : Nat := joinElems 32 ((List.range 64).map (fun j => zcElem u n ((k + j) % n)))

/-- CP0_ZC (R172). -/
def execCp0Zc (core : Nat) (b c : BitVec 5) (s : State) : Out :=
  .next (s.cpRun core 0 (cpWord 5 0 3#5 b c) (fun _ => decide (b.toNat < 8)) (fun t =>
    let p := (t.core core).cpReg 0 b.toNat
    let (i, u) := t.draw
    let w := if bits p 31 16 = 0 then Config.free i else zcWord (bits p 15 0) (bits p 31 16) (bits p 47 32)
    u.onCore core (fun k => (k.setW c (BitVec.ofNat 2048 w)).issue 0)))

/-! ## CP1: bits -/

/-- Width and polynomial of a CRC, without its highest term (3GPP TS 38.212 clause 5.1). -/
def crcPoly : Nat → Option (Nat × Nat)
  | 0 => some (24, 0x864CFB)
  | 1 => some (24, 0x800063)
  | 2 => some (24, 0xB2B117)
  | 3 => some (16, 0x1021)
  | 4 => some (11, 0x621)
  | 5 => some (6, 0x21)
  | _ => none

/-- One bit accumulated. -/
def crcStep (w g acc : Nat) (b : Bool) : Nat :=
  let top := bit acc (w - 1) != b
  (2 * acc % 2 ^ w) ^^^ (if top then g else 0)

/-- `n` bits of `v` accumulated, bit 0 first. -/
def crcRun (w g : Nat) : Nat → Nat → Nat → Nat
  | 0, _, acc => acc
  | n + 1, v, acc => crcRun w g n (v / 2) (crcStep w g acc (decide (v % 2 = 1)))

/-- BCTL: the accumulator in [23:0] and the code of the polynomial in [34:32] (DESIGN CHOICE). -/
def bctlOf (code acc : Nat) : BitVec 64 := BitVec.ofNat 64 (acc % 2 ^ 24 + code % 8 * 2 ^ 32)

/-- CP1_CRCSEL (R172). -/
def execCp1Crcsel (core : Nat) (b c : BitVec 5) (s : State) : Out :=
  .next (s.cpOp core 1 0 b c (fun _ => decide (b.toNat < 16)) (fun k =>
    { k with bctl := bctlOf (bits (k.cpReg 1 b.toNat) 2 0) 0 }))

/-- CP1_CRC (R172): 256 bits of b[B], bit 0 first; under a polynomial code the spec does not list the
accumulator takes a free value. -/
def execCp1Crc (core : Nat) (b c : BitVec 5) (s : State) : Out :=
  .next (s.cpRun core 1 (cpWord 5 1 1#5 b c) (fun _ => decide (b.toNat < 16)) (fun t =>
    let k := t.core core
    let code := bits k.bctl.toNat 34 32
    let (i, u) := t.draw
    let acc := match crcPoly code with
      | some (w, g) => crcRun w g 256 (k.cpReg 1 b.toNat) (bits k.bctl.toNat 23 0)
      | none => Config.free i
    u.onCore core (fun k => ({ k with bctl := bctlOf code acc }).issue 1)))

/-- CP1_CRCGET (R172). -/
def execCp1Crcget (core : Nat) (b c : BitVec 5) (s : State) : Out :=
  .next (s.cpOp core 1 2 b c (fun _ => decide (c.toNat < 16)) (fun k =>
    k.setCpReg 1 c.toNat (bits k.bctl.toNat 23 0)))

/-- The 8-state turbo trellis (R172; 3GPP TS 36.212 clause 5.1.3.2.1, generators 13 and 15): the parity bit of an input in
a state (bits 2, 1, 0: the delays D1, D2, D3), and the state after it. -/
def turboParity (st u : Nat) : Nat :=
  let fb := (u + st / 2 % 2 + st % 2) % 2
  (fb + st / 4 % 2 + st % 2) % 2
def turboNext (st u : Nat) : Nat := (u + st / 2 % 2 + st % 2) % 2 * 4 + st / 2

/-- The branches into a state: each the state before and its input. -/
def turboInto (st : Nat) : List (Nat × Nat) :=
  (List.range 16).filterMap (fun k => if turboNext (k / 2) (k % 2) = st then some (k / 2, k % 2) else none)

/-- The weight of a branch for a pair of branch metrics: the first for the input bit, the second for the parity bit.  A
weight may be given to either value of a bit; the spec does not say which (Config.trellis 0). -/
def branchWeight (g0 g1 : Int) (st u : Nat) : Int :=
  let one (v : Nat) : Int := if decide (v = 1) = Config.trellis 0 then 1 else 0
  one u * g0 + one (turboParity st u) * g1

/-- A metric held in int16; beyond its range it saturates or wraps, which the spec does not say (Config.trellis 1). -/
def metric16 (v : Int) : Int := if Config.trellis 1 then (satTo 16 v).1 else signed 16 (unsigned 16 v)

/-- One max-log-MAP stage: for each state the larger of its two branches, normalised to state 0, and the decision: the
input bit or the lowest bit of the state before, of equal branches the first or the second (Config.trellis 2, 3). -/
def trellisStage (m : List Int) (g0 g1 : Int) : List Int × List Nat :=
  let best (st : Nat) : Int × Nat :=
    match (turboInto st).map (fun b => (m.getD b.1 0 + branchWeight g0 g1 b.1 b.2, if Config.trellis 2 then b.2 else b.1 % 2)) with
    | [x, y] => if x.1 < y.1 ∨ (x.1 = y.1 ∧ Config.trellis 3 = true) then y else x
    | _ => (0, 0)
  let new := (List.range 8).map best
  let z := (new.getD 0 (0, 0)).1
  (new.map (fun x => metric16 (x.1 - z)), new.map (·.2))

/-- `n` stages, the metric pairs from `k` upwards: the metrics after them and the decisions, stage by stage. -/
def trellisRun (gs : Nat) : Nat → Nat → List Int → List Int × List Nat
  | 0, _, m => (m, [])
  | n + 1, k, m =>
    let r := trellisStage m (signed 8 (gs / 2 ^ (16 * k))) (signed 8 (gs / 2 ^ (16 * k + 8)))
    let rest := trellisRun gs n (k + 1) r.1
    (rest.1, r.2 ++ rest.2)

/-- CP1_TRELLIS (R172): 64 stages from the metrics in b[C][127:0] with the pairs of b[B] to b[B+3], lowest byte first; the
decisions, eight a stage from bit 0 upwards, into b[C+1] and b[C+2] (DESIGN CHOICE: these places). -/
def Core.trellis (k : Core) (b c : Nat) : Core :=
  let gs := (List.range 4).foldl (fun a i => a + k.cpReg 1 (b + i) * 2 ^ (256 * i)) 0
  let old := k.cpReg 1 c
  let r := trellisRun gs 64 0 ((List.range 8).map (fun i => signed 16 (old / 2 ^ (16 * i))))
  let met := old / 2 ^ 128 * 2 ^ 128 + joinElems 16 (r.1.map (unsigned 16))
  let dec := joinElems 1 r.2
  ((k.setCpReg 1 c met).setCpReg 1 (c + 1) (dec % 2 ^ 256)).setCpReg 1 (c + 2) (dec / 2 ^ 256)

/-- CP1_TRELLIS (R172). -/
def execCp1Trellis (core : Nat) (b c : BitVec 5) (s : State) : Out :=
  .next (s.cpOp core 1 3 b c (fun _ => decide (b.toNat + 3 < 16) && decide (c.toNat + 2 < 16))
    (fun k => k.trellis b.toNat c.toNat))

/-! ## CP2: functions -/

/-- Is an operand invalid for a function: a signalling NaN, a negative number under RSQRT or LOG2, an infinity
under SIN or COS (IEEE 754-2019 clause 9.2)? -/
def cp2Invalid (op : Nat) (v : FV) : Bool :=
  match v with
  | .nan sig => sig
  | .inf neg => (neg && (op = 1 || op = 2)) || op = 4 || op = 5
  | .fin neg m _ => neg && decide (m ≠ 0) && (op = 1 || op = 2)

/-- One element of a CP2 operation: its value and whether it is invalid. -/
def cp2Elem (f : Fmt) (ftz : Bool) (op a b : Nat) : Nat × Bool :=
  let x := f.read ftz a
  let y := if op = 6 then f.read ftz b else .fin false 0 0
  let bad := cp2Invalid op x || (op = 6 && cp2Invalid op y)
  if bad || x.isNan || y.isNan then (f.qnan, bad) else (f.cp2 ftz op a b, false)

/-- A CP2 operation on every element of f[B], and f[B+1] for ATAN2, whatever VL holds; NV is set at
completion. -/
def Core.cp2Op (c : Core) (op : Nat) (b d : BitVec 5) : Core :=
  let f := fmtOf c.ew
  let es := (List.range (2048 / c.ew)).map (fun i =>
    cp2Elem f c.ftz op (elemOf (c.cpReg 2 b.toNat) c.ew i) (elemOf (c.cpReg 2 (b.toNat + 1)) c.ew i))
  let k := c.setCpReg 2 d.toNat (joinElems c.ew (es.map (·.1)))
  { k with cp2nv := es.any (·.2) }

/-- A CP2 operation with the checks of R147 and R172: EW 16 or 32 under a valid configuration, registers
within the file. -/
def State.cp2Run (s : State) (v op : Nat) (b c : BitVec 5) : State :=
  s.cpOp v 2 op b c
    (fun k => !k.vill && has [16, 32] k.ew && decide (b.toNat + (if op = 6 then 1 else 0) < 16) && decide (c.toNat < 16))
    (fun k => k.cp2Op op b c)

/-- CP2_RCP (R172). -/
def execCp2Rcp (core : Nat) (b c : BitVec 5) (s : State) : Out := .next (s.cp2Run core 0 b c)
/-- CP2_RSQRT (R172). -/
def execCp2Rsqrt (core : Nat) (b c : BitVec 5) (s : State) : Out := .next (s.cp2Run core 1 b c)
/-- CP2_LOG2 (R172). -/
def execCp2Log2 (core : Nat) (b c : BitVec 5) (s : State) : Out := .next (s.cp2Run core 2 b c)
/-- CP2_EXP2 (R172). -/
def execCp2Exp2 (core : Nat) (b c : BitVec 5) (s : State) : Out := .next (s.cp2Run core 3 b c)
/-- CP2_SIN (R172). -/
def execCp2Sin (core : Nat) (b c : BitVec 5) (s : State) : Out := .next (s.cp2Run core 4 b c)
/-- CP2_COS (R172). -/
def execCp2Cos (core : Nat) (b c : BitVec 5) (s : State) : Out := .next (s.cp2Run core 5 b c)
/-- CP2_ATAN2 (R172). -/
def execCp2Atan2 (core : Nat) (b c : BitVec 5) (s : State) : Out := .next (s.cp2Run core 6 b c)

end Sys2Proof.Machine
end

