-- ==== Sys2Proof/Machine/Numeric.lean ====
section
/-!
DEFINITION. The numeric formats of the engines (R181, R182): elements read as exact values, and exact values written in a
format with one rounding.
-/

namespace Sys2Proof.Machine

open Sys2Proof

/-- Ceiling division. -/
def cdiv (a b : Nat) : Nat := (a + b - 1) / b

/-- An exact complex value. -/
structure Cq where
  re : Rat
  im : Rat
  deriving DecidableEq, Repr

/-- A value an engine computes with; none: not a number, or infinite. -/
abbrev Val := Option Cq

/-- 2 to an integer power. -/
def pow2 (e : Int) : Rat := if e < 0 then 1 / ((2 ^ e.natAbs : Nat) : Rat) else ((2 ^ e.natAbs : Nat) : Rat)

def Cq.add (a b : Cq) : Cq := ⟨a.re + b.re, a.im + b.im⟩
def Cq.sub (a b : Cq) : Cq := ⟨a.re - b.re, a.im - b.im⟩
def Cq.mul (a b : Cq) : Cq := ⟨a.re * b.re - a.im * b.im, a.re * b.im + a.im * b.re⟩
def Cq.conj (a : Cq) : Cq := ⟨a.re, -a.im⟩
def Cq.scale (k : Rat) (a : Cq) : Cq := ⟨k * a.re, k * a.im⟩
def Cq.power (a : Cq) : Rat := a.re * a.re + a.im * a.im

/-- The operations on values, none where an operand is. -/
def vAdd (a b : Val) : Val := a.bind (fun x => b.map x.add)
def vSub (a b : Val) : Val := a.bind (fun x => b.map x.sub)
def vMul (a b : Val) : Val := a.bind (fun x => b.map x.mul)
def vConj (a : Val) : Val := a.map Cq.conj
def vSum (l : List Val) : Val := l.foldl vAdd (some ⟨0, 0⟩)

/-- A unit vector at the angle 2π·num/den (computed in the fixed point of the CP2 functions). -/
def expi (num : Int) (den : Nat) : Cq :=
  let x := 2 * piFx * num / (den : Nat)
  ⟨(cosFx x : Rat) / (unitFx : Rat), (sinFx x : Rat) / (unitFx : Rat)⟩

/-! ## Reading (Table 06-3) -/

/-- Element `k` of `w` bytes. -/
def elemAt (b : List Byte) (w k : Nat) : Nat := leNat ((b.drop (k * w)).take w)

/-- A binary16 or binary32 number as an exact value; subnormal inputs are zero (R182). -/
def Fmt.exact (f : Fmt) (v : Nat) : Option Rat :=
  match f.read true v with
  | .fin n m e => some ((if n then -1 else 1) * (m : Rat) * pow2 e)
  | _ => none

/-- The blocks of an item in BFP16: the block of each element, and their number. -/
structure Blocks where
  n : Nat
  per : Nat
  /-- Elements of a stream, whose blocks start anew; 0: one stream. -/
  stream : Nat := 0
  bias : Int := 0

/-- The block of element `i`. -/
def Blocks.of (k : Blocks) (i : Nat) : Nat :=
  if k.stream = 0 then i / k.per else i / k.stream * cdiv k.stream k.per + i % k.stream / k.per

/-- The `n` elements of an item in a format (Table 06-3). -/
def readElems (fmt n : Nat) (k : Blocks) (b : List Byte) : List Val :=
  (List.range n).map (fun i =>
    if fmt ≤ 1 then
      let v := elemAt b 4 i
      let c : Cq := ⟨(signed 16 (bits v 15 0) : Rat), (signed 16 (bits v 31 16) : Rat)⟩
      some (if fmt = 0 then c else c.scale (pow2 ((elemAt (b.drop (4 * n)) 2 (k.of i) : Nat) - k.bias)))
    else
      let w := if fmt = 2 then 16 else 32
      let v := elemAt b (w / 4) i
      match (fmtOf w).exact (bits v (w - 1) 0), (fmtOf w).exact (v / 2 ^ w) with
      | some x, some y => some ⟨x, y⟩
      | _, _ => none)

/-- An LLR8 value: −128 is taken as −127 (Table 06-3). -/
def llrOf (b : Byte) : Int := max (signed 8 b.toNat) (-127)

/-- The bits of packed bytes, bit 0 of byte 0 first, and bits packed into bytes. -/
def unpackBits (n : Nat) (b : List Byte) : List Bool := (List.range n).map (fun i => bit (b.getD (i / 8) 0#8).toNat (i % 8))
def packBits (l : List Bool) : List Byte :=
  (List.range (cdiv l.length 8)).map (fun i =>
    BitVec.ofNat 8 ((List.range 8).foldl (fun v j => v + if l.getD (8 * i + j) false then 2 ^ j else 0) 0))

/-! ## Writing (R182) -/

/-- The function rnd of R157 on an exact value, shift and mode. -/
def rndQ (x : Rat) (sh : Int) (mode : Nat) : Int :=
  let y := x * pow2 (-sh)
  let q := y.floor
  let r := y - (q : Rat)
  if mode = 0 then q
  else if (1 : Rat) / 2 < r then q + 1
  else if r = 1 / 2 ∧ (mode = 1 ∨ (mode = 2 ∧ q % 2 = 1)) then q + 1
  else q

/-- Is an integer an int16? -/
def isI16 (v : Int) : Bool := decide (-32768 ≤ v ∧ v ≤ 32767)

/-- A value in binary16 or binary32, rounded to nearest even, subnormal results zero (R182). -/
def Fmt.ofRat (f : Fmt) (r : Rat) : Nat :=
  let k := Nat.log2 r.den + 64
  let m := r.num.natAbs * 2 ^ k
  (f.write 0 true (decide (r < 0)) (m / r.den) (-(k : Nat)) (decide (m % r.den ≠ 0))).1

/-- What a component without a value is written as: open (Config.engineOpen). -/
def openComp (seed place w : Nat) : Nat := Config.engineOpen seed place % 2 ^ w

/-- The smallest exponent with which no mantissa of a block clamps (R182). -/
def blockExp (vs : List Rat) (bias : Int) (mode : Nat) : Nat :=
  ((List.range 1000).find? (fun e => vs.all (fun v => isI16 (rndQ v ((e : Nat) - bias) mode)))).getD 1000

/-- The values of an item written in a format, with the descriptor's SHIFT and RND: the bytes, those of BFP16 padded to a multiple of
64, and whether a value was clamped (R181, R182). -/
def writeElems (fmt : Nat) (k : Blocks) (shift mode seed : Nat) (vs : List Val) : List Byte × Bool :=
  let comps := vs.map (fun v => match v with | some c => [some c.re, some c.im] | none => [none, none])
  if fmt = 1 then
    let exps := (List.range k.n).map (fun j =>
      blockExp (((vs.zipIdx.filter (fun e => decide (k.of e.2 = j))).filterMap (fun e => e.1)).flatMap (fun c => [c.re, c.im])) k.bias mode)
    let man := vs.zipIdx.flatMap (fun e =>
      let x := ((exps.getD (k.of e.2) 0 : Nat) : Int) - k.bias
      match e.1 with
      | some c => [unsigned 16 (rndQ c.re x mode), unsigned 16 (rndQ c.im x mode)]
      | none => [openComp seed (2 * e.2) 16, openComp seed (2 * e.2 + 1) 16])
    let b := (man ++ exps).flatMap (leBytes 2)
    (b ++ List.replicate (cdiv b.length 64 * 64 - b.length) 0#8, false)
  else if fmt = 0 then
    let l := comps.flatten.zipIdx.map (fun e => match e.1 with
      | some r => rndQ r shift mode
      | none => signed 16 (openComp seed e.2 16))
    (l.flatMap (fun v => leBytes 2 (unsigned 16 (clamp v (-32768) 32767))), l.any (fun v => !isI16 v))
  else
    let w := if fmt = 2 then 16 else 32
    (comps.flatten.zipIdx.flatMap (fun e => leBytes (w / 8) (match e.1 with
      | some r => (fmtOf w).ofRat r
      | none => openComp seed e.2 w)), false)

/-- A value with the deviation of an engine's internal arithmetic (Config.deviation). -/
def deviate (seed place : Nat) (v : Val) : Val :=
  v.map (fun c => c.add ⟨Config.deviation seed (2 * place), Config.deviation seed (2 * place + 1)⟩)

/-- METRIC of TE and ME (Table 06-2): the mean power of an output, binary32; the order of its sum is not stated. -/
def meanPower (seed : Nat) (vs : List Val) : Nat :=
  let sum := vs.foldl (fun (a : Option Rat) v => a.bind (fun x => v.map (fun c => x + c.power))) (some 0)
  match sum with
  | some x => (fmtOf 32).ofRat (x / ((max 1 vs.length : Nat) : Rat) + Config.deviation seed (2 * vs.length))
  | none => openComp seed (2 * vs.length) 32

/-- What the processing of an item brings: its output and its conditions (Table 06-2).  A METRIC the table does not define for the
class is none, and is written as a free value. -/
structure ItemEnd where
  out : List Byte
  sat : Bool := false
  crc : Bool := false
  sing : Bool := false
  nc : Bool := false
  iters : Nat := 0
  metric : Option Nat := none

end Sys2Proof.Machine
end

