-- ==== Sys2Proof/Machine/Compress.lean ====
section
/-!
DEFINITION. Compression of resource blocks (R221, R223): the bytes of a block in each method and its 24 components.  Fields of a
block are packed most significant bit first, as O-RAN packs them (PRESUMED); methods 2–4 are constants of Config.
-/

namespace Sys2Proof.Machine

open Sys2Proof

/-- The method of a section as its decoder knows it: Table 07-5's codes. -/
def methodShaped : Nat := 5

/-- Bytes of one resource block: its parameter byte, where the method has one, and 24 mantissas.  No compression is 16 bits wide. -/
def prbBytes (method width : Nat) : Nat :=
  if method = 0 then 48 else if method = 4 then 3 * width else 1 + 3 * width

/-- Fields of `w` bits, most significant first. -/
def unpackFields (w n : Nat) (b : List Byte) : List Nat :=
  let v := leNat b.reverse
  (List.range n).map (fun k => v / 2 ^ (8 * b.length - w * (k + 1)) % 2 ^ w)

def packFields (w : Nat) (l : List Nat) : List Byte :=
  let v := l.foldl (fun a x => a * 2 ^ w + x % 2 ^ w) 0
  (leBytes (cdiv (w * l.length) 8) (v * 2 ^ (cdiv (w * l.length) 8 * 8 - w * l.length))).reverse

/-- The exponent of a block for mantissas of `w` bits (R163, R223). -/
def blockExponent (w : Nat) (xs : List Int) : Nat := xs.foldl (fun m x => max m (signedBits x)) 1 - w

/-- A signed 24-bit component. -/
def clamp24 (v : Int) : Int := clamp v (-8388608) 8388607

/-- The 24 components of a block: mantissa × 2^e for block floating point and noise-shaped compression, the exponent in [3:0]. -/
def expandPrb (method width : Nat) (b : List Byte) : List Int :=
  let place (v : Int) : Int := clamp24 (v * 2 ^ Config.expandShift method)
  if method = 0 then (unpackFields 16 24 b).map (fun v => place (signed 16 v))
  else if method = 1 ∨ method = methodShaped then
    let e := (b.getD 0 0#8).toNat % 16
    (unpackFields width 24 (b.drop 1)).map (fun v => place (signed width v * 2 ^ e))
  else (Config.expand method width b).map place

/-- The bytes of a block of int16 components, rounded convergently. -/
def compressPrb (method width : Nat) (xs : List Int) : List Byte :=
  if method = 0 then packFields 16 (xs.map (unsigned 16))
  else if method = 1 ∨ method = methodShaped then
    let e := blockExponent width xs
    BitVec.ofNat 8 (e % 16) :: packFields width (xs.map (fun x =>
      unsigned width (clamp (rnd x e 2) (-(2 ^ (width - 1))) (2 ^ (width - 1) - 1))))
  else Config.compress method width xs

/-- Components in pairs: I and Q in turn. -/
def pairUpIQ : List Int → List (Int × Int)
  | a :: b :: t => (a, b) :: pairUpIQ t
  | _ => []

/-- The samples of a section's blocks, each block of its own width. -/
def expandBlocks (method : Nat) : List Nat → List Byte → List (Int × Int)
  | [], _ => []
  | w :: ws, b => pairUpIQ (expandPrb method w (b.take (prbBytes method w))) ++ expandBlocks method ws (b.drop (prbBytes method w))

/-- The bytes of blocks of int16 components, each of its own width. -/
def compressBlocks (method : Nat) : List Nat → List Int → List Byte
  | [], _ => []
  | w :: ws, xs => compressPrb method w (xs.take 24) ++ compressBlocks method ws (xs.drop 24)

end Sys2Proof.Machine
end

