-- ==== Sys2Proof/Machine/Coding.lean ====
section
/-!
DEFINITION. What the coding engines compute: LDPC decoders and encoders (R189–R191), polar, convolutional and block codes (R192, R193)
and turbo decoders (R194).  Tables of 3GPP that the spec cites without printing are constants of Config; the checks, conditions and
flags follow from the data.
-/

namespace Sys2Proof.Machine

open Sys2Proof

/-- The hard decision of a soft value: positive favours 0 (Table 06-3); a value of 0 is open. -/
def hardBit (v : Int) : Bool := decide (v < 0) || (decide (v = 0) && Config.engineChoice 0)

/-- Parity of a list of bits, and their value, first bit most significant. -/
def parityOf (l : List Bool) : Bool := l.foldl (fun a b => a != b) false
def msbNat (l : List Bool) : Nat := l.foldl (fun a b => 2 * a + b.toNat) 0

/-- Do the last bits of a block hold the CRC of the others, exclusive-or of `mask`?  `start` is the remainder the CRC begins with. -/
def crcPass (code start mask : Nat) (l : List Bool) : Bool :=
  match crcPoly code with
  | some (w, g) =>
    decide (w ≤ l.length)
      && decide ((l.take (l.length - w)).foldl (crcStep w g) start ^^^ mask = msbNat (l.drop (l.length - w)))
  | none => true

/-! ## LDPC -/

/-- Columns of information, columns and rows of a base graph. -/
def bgInfo (bg2 : Bool) : Nat := if bg2 then 10 else 22
def bgCols (bg2 : Bool) : Nat := if bg2 then 52 else 68
def bgRows (bg2 : Bool) : Nat := if bg2 then 42 else 46

/-- The bits of the check of a row and lane: one per entry of the base graph. -/
def checkBits (bg2 : Bool) (z row lane : Nat) : List Nat :=
  (List.range (bgCols bg2)).filterMap (fun c => (Config.baseShift bg2 z row c).map (fun v => c * z + (lane + v) % z))

/-- The checks of rows 0 to r − 1, row by row: the layers of the decoder. -/
def ldChecks (bg2 : Bool) (z r : Nat) : List (List Nat) :=
  (List.range r).flatMap (fun row => (List.range z).map (checkBits bg2 z row))

/-- The soft value each bit enters with, in quarters of an LLR8 step (R189): punctured columns and positions at NIN and above 0,
filler positions +127, the others what ARG1 holds. -/
def ldInput (d : Nat) (llr : List Int) : List Int :=
  let z := bits d 137 129
  let kp := bits d 151 138
  (List.range (bgCols (bit d 128) * z)).map (fun p =>
    4 * (if kp ≤ p ∧ p < kp + bits d 164 152 then 127 else if p < 2 * z ∨ bits d 179 165 ≤ p - 2 * z then 0
         else llr.getD (p - 2 * z) 0))

/-- One check of layered offset min-sum (R189): bit values and the check's messages, before and after. -/
def ldCheck (off : Int) (idx : List Nat) (l : List Int) (r : List Int) : List Int × List Int :=
  let t := idx.zipIdx.map (fun e => l.getD e.1 0 - r.getD e.2 0)
  let r' := t.zipIdx.map (fun e =>
    let o := t.eraseIdx e.2
    let m := o.foldl (fun a v => min a (v.natAbs : Int)) ((o.headD 0).natAbs : Int)
    let v := max (m - off) 0
    Config.ldLimit (if parityOf (o.map (fun v => decide (v < 0))) then -v else v))
  ((idx.zip (t.zip r')).foldl (fun (a : List Int) e => a.set e.1 (Config.ldLimit (e.2.1 + e.2.2))) l, r')

/-- One iteration: the checks in order. -/
def ldIterate (off : Int) : List (List Nat) → List (List Int) → List Int → List Int × List (List Int)
  | [], _, l => (l, [])
  | c :: cs, rs, l =>
    let (l, r) := ldCheck off c l (rs.headD [])
    let (l, rs') := ldIterate off cs (rs.drop 1) l
    (l, r :: rs')

/-- Checks that the hard decisions do not satisfy. -/
def unsatisfied (checks : List (List Nat)) (l : List Int) : Nat :=
  (checks.filter (fun c => parityOf (c.map (fun i => hardBit (l.getD i 0))))).length

/-- Iterations until `stop` holds, at most so many: the last values, the iterations used and whether it stopped (R190). -/
def ldLoop (off : Int) (checks : List (List Nat)) (stop : List Int → Bool) : Nat → Nat → List Int → List (List Int) → List Int × Nat × Bool
  | 0, it, l, _ => (l, it, false)
  | n + 1, it, l, rs =>
    let (l, rs) := ldIterate off checks rs l
    if stop l then (l, it + 1, true) else ldLoop off checks stop n (it + 1) l rs

/-- The rows an LDPC decoder uses (R190). -/
def ldRows (d : Nat) : Nat :=
  let k := cdiv (bits d 179 165) (bits d 137 129) + 2 - bgInfo (bit d 128)
  min (max k 4) (bgRows (bit d 128))

/-- One item of an LDPC decoder (R189, R190). -/
def ldItem (d ldOffset : Nat) (b : List Byte) : ItemEnd :=
  let kp := bits d 151 138
  let checks := ldChecks (bit d 128) (bits d 137 129) (ldRows d)
  let code := bits d 188 187
  let info (l : List Int) : List Bool := (l.take kp).map hardBit
  let crcOk (l : List Int) : Bool := decide (code = 0) || crcPass ([0, 0, 1, 3].getD code 0) 0 0 (info l)
  let et := bits d 186 185
  let stop (l : List Int) : Bool :=
    decide (et ≠ 0) && decide (unsatisfied checks l = 0) && (decide (et ≠ 2) || crcOk l)
  let (l, it, done) := ldLoop ldOffset checks stop (bits d 184 180) 0 (ldInput d (b.map llrOf)) []
  { out := packBits ((info l).take (kp - [0, 24, 24, 16].getD code 0))
    crc := !crcOk l, nc := !done, iters := it, metric := some (unsatisfied checks l) }

/-- Elimination over GF(2): rows as numbers, solved for the columns given; each column with the row solved for it. -/
def gf2Solve : List Nat → List Nat → List (Nat × Nat) → List (Nat × Nat)
  | [], _, done => done
  | c :: cs, rows, done =>
    match rows.find? (fun r => bit r c) with
    | none => gf2Solve cs rows done
    | some p =>
      let clear (r : Nat) : Nat := if bit r c then r ^^^ p else r
      gf2Solve cs ((rows.erase p).map clear) ((c, p) :: done.map (fun e => (e.1, clear e.2)))

/-- An LDPC codeword (R191): the information bits, zeros for the filler bits, and the parity bits that satisfy every check. -/
def ldpcEncode (bg2 : Bool) (z : Nat) (info : List Bool) : List Bool :=
  let k := bgInfo bg2 * z
  let n := bgCols bg2 * z
  let rows := (ldChecks bg2 z (bgRows bg2)).map (fun c =>
    c.foldl (fun a i => if i < k then (if info.getD i false then a ^^^ 2 ^ n else a) else a ^^^ 2 ^ i) 0)
  let sol := gf2Solve ((List.range (n - k)).map (· + k)) rows []
  (List.range n).map (fun i => if i < k then info.getD i false
    else match sol.find? (fun e => decide (e.1 = i)) with | some e => bit e.2 n | none => false)

/-- One item of an LDPC encoder (R191): the circular buffer from column 2Z, filler positions 0. -/
def leItem (d : Nat) (b : List Byte) : ItemEnd :=
  let z := bits d 137 129
  { out := packBits ((ldpcEncode (bit d 128) z (unpackBits (bits d 151 138) b)).drop (2 * z)) }

/-! ## Polar codes (R192, R193) -/

/-- The codeword of 2^n input bits. -/
def polarX : Nat → List Bool → List Bool
  | 0, u => u
  | n + 1, u =>
    let a := polarX n (u.take (2 ^ n))
    let b := polarX n (u.drop (2 ^ n))
    List.zipWith (fun x y => x != y) a b ++ b

/-- The `n` input bits from place `i` on: those of the set take the next bit, the others their fixed value. -/
def polarU (fixed : Nat → List Bool → Bool) (set : List Nat) : Nat → Nat → List Bool → List Bool → List Bool
  | 0, _, _, u => u
  | n + 1, i, c, u =>
    if has set i then polarU fixed set n (i + 1) (c.drop 1) (u ++ [c.headD false])
    else polarU fixed set n (i + 1) c (u ++ [fixed i u])

/-- A path of the list decoder: its metric, the bits decided, and the soft values and codewords of the nodes open. -/
structure PolarPath where
  metric : Nat
  u : List Bool
  llrs : List (List Int)
  outs : List (List Bool)

/-- A path among others by rising metric. -/
def rankPath (p : PolarPath) : List PolarPath → List PolarPath
  | [] => [p]
  | q :: l => if p.metric < q.metric ∨ (p.metric = q.metric ∧ Config.engineChoice 1 = true) then p :: q :: l else q :: rankPath p l

/-- Successive-cancellation list decoding of a node of 2^n bits from place `i`, with 8 paths (R193). -/
def scl (fixed : Nat → List Bool → Bool) (set : List Nat) : Nat → Nat → List PolarPath → List PolarPath
  | 0, i, ps =>
    let branch (p : PolarPath) (v : Bool) : PolarPath :=
      ⟨p.metric + Config.polarPenalty ((p.llrs.headD []).headD 0) v, p.u ++ [v], p.llrs.drop 1, [v] :: p.outs⟩
    let cands := ps.flatMap (fun p => if has set i then [branch p false, branch p true] else [branch p (fixed i p.u)])
    (cands.foldr rankPath []).take 8
  | n + 1, i, ps =>
    let h := 2 ^ n
    let left := scl fixed set n i (ps.map (fun p =>
      let l := p.llrs.headD []
      { p with llrs := List.zipWith Config.polarCheck (l.take h) (l.drop h) :: p.llrs }))
    let right := scl fixed set n (i + h) (left.map (fun p =>
      let l := p.llrs.headD []
      let a := p.outs.headD []
      { p with llrs := (List.range h).map (fun k =>
          l.getD (h + k) 0 + (if a.getD k false then -(l.getD k 0) else l.getD k 0)) :: p.llrs }))
    right.map (fun p =>
      let b := p.outs.headD []
      let a := (p.outs.drop 1).headD []
      { p with llrs := p.llrs.drop 1, outs := (List.zipWith (fun x y => x != y) a b ++ b) :: p.outs.drop 2 })

/-- The permutation that takes each of `n` places from another; the identity where it is not used. -/
def permUsed (on : Bool) (perm : List Nat) (n : Nat) : List Nat := if on then perm else List.range n

/-- The soft values of `n` coded bits from those received, each coded bit the sum of the positions that take it. -/
def gatherLlr (n : Nat) (unsent : Int) (pick : List Nat) (llr : List Int) : List Int :=
  (List.range n).map (fun i =>
    let l := (pick.zip llr).filter (fun e => decide (e.1 = i))
    if l.isEmpty then unsent else (l.map (·.2)).sum)

/-- The coded bit of each position transmitted by a polar code: rate matching, then IBIL. -/
def polarSent (d : Nat) : List Nat :=
  let e := bits d 159 146
  let pick := Config.polarPick (2 ^ bits d 134 131) (bits d 145 135) e
  (permUsed (bit d 163) (Config.polarChannel e) e).map (fun k => pick.getD k 0)

/-- The polynomial of a PL code's CRC (Table 06-7), none where it has none: code 0 is CRC-16 in LTE convolutional codes. -/
def plCrc (d : Nat) : Option Nat :=
  if 2 ≤ bits d 130 128 then (if bits d 161 160 = 0 then some 3 else none)
  else [none, some 5, some 4, some 2].getD (bits d 161 160) none

/-- RNTI, exclusive-or of the last 16 bits of a CRC of at least so many. -/
def plMask (d : Nat) : Nat :=
  match plCrc d with
  | some c => if 16 ≤ ((crcPoly c).getD (0, 0)).1 then bits d 179 164 else 0
  | none => 0

/-- The remainder a PL code's CRC begins with. -/
def plStart (d : Nat) : Nat :=
  if plCrc d = some 2 ∧ Config.engineChoice 2 = true then (List.replicate 24 true).foldl (crcStep 24 0xB2B117) 0 else 0

/-- Does the CRC of a block pass?  A block too short to hold one has none. -/
def plPass (d : Nat) (c : List Bool) : Bool :=
  match plCrc d with
  | some p => decide (c.length < ((crcPoly p).getD (0, 0)).1) || crcPass p (plStart d) (plMask d) c
  | none => true

/-- The input bits with RNTI applied to the last 16: the block of an encoder holds its CRC (DEDUCED from K, 'bits including CRC'). -/
def plMasked (d : Nat) (c : List Bool) : List Bool :=
  c.zipIdx.map (fun e => e.1 != (decide (c.length < e.2 + 17) && bit (plMask d) (c.length - 1 - e.2)))

/-- Polar decoding (R193): the most likely path whose CRC passes; with none, the most likely one and CRC_FAIL. -/
def polarDecode (d : Nat) (llr : List Int) : ItemEnd :=
  let g := bits d 134 131
  let n := 2 ^ g
  let k := bits d 145 135
  let e := bits d 159 146
  let set := Config.polarSet n k e
  let ps := scl (Config.polarFrozen n k e) set g 0
    [⟨0, [], [gatherLlr n (Config.polarUnsent n k e) (polarSent d) llr], []⟩]
  let perm := permUsed (bit d 162) (Config.polarInput k) k
  let block (p : PolarPath) : List Bool :=
    let c := set.map (fun i => p.u.getD i false)
    (List.range k).map (fun b => c.getD (perm.idxOf b) false)
  let best := match ps.find? (fun p => plPass d (block p)) with | some p => some p | none => ps.head?
  match best with
  | some p => { out := packBits (block p), crc := !plPass d (block p), metric := some p.metric }
  | none => { out := List.replicate (cdiv k 8) 0#8 }

/-- Polar encoding (R192). -/
def polarEncode (d : Nat) (c : List Bool) : ItemEnd :=
  let g := bits d 134 131
  let n := 2 ^ g
  let k := bits d 145 135
  let e := bits d 159 146
  let perm := permUsed (bit d 162) (Config.polarInput k) k
  let c := plMasked d c
  let x := polarX g (polarU (Config.polarFrozen n k e) (Config.polarSet n k e) n 0 (perm.map (fun b => c.getD b false)) [])
  { out := packBits ((polarSent d).map (fun i => x.getD i false)) }

/-! ## Tail-biting convolutional code of TS 36.212 (PRESUMED: generators 133, 171 and 165 octal, 64 states) -/

/-- Output `j` of a register whose bit 6 is the newest bit. -/
def convOut (reg j : Nat) : Bool :=
  let t := reg &&& [0o133, 0o171, 0o165].getD j 0
  parityOf ((List.range 7).map (bit t))

/-- Convolutional encoding from a state: three coded bits a step. -/
def convRun : List Bool → Nat → List Bool
  | [], _ => []
  | c :: cs, st =>
    let reg := (if c then 64 else 0) + st
    (List.range 3).map (convOut reg) ++ convRun cs (reg / 2)

/-- The state a tail-biting encoder starts in: the last six bits. -/
def convStart (c : List Bool) : Nat := (c.drop (c.length - 6)).foldl (fun st b => ((if b then 64 else 0) + st) / 2) 0

/-- Encoding and rate matching (R192). -/
def convEncode (d : Nat) (c : List Bool) : ItemEnd :=
  let c := plMasked d c
  let x := convRun c (convStart c)
  { out := packBits ((Config.convPick (bits d 145 135) (bits d 159 146)).map (fun i => x.getD i false)) }

/-- One step of the Viterbi decoder: for each of 64 states the best metric and the bits that lead to it, newest first. -/
def viterbiStep (l : List Int) (m : List (Int × List Bool)) : List (Int × List Bool) :=
  (List.range 64).map (fun st =>
    let cand (reg : Nat) : Int × List Bool :=
      let p := m.getD (reg % 64) (0, [])
      ((List.range 3).foldl (fun a j => a + (if convOut reg j then -(l.getD j 0) else l.getD j 0)) p.1, decide (64 ≤ reg) :: p.2)
    let a := cand (2 * st)
    let b := cand (2 * st + 1)
    if a.1 < b.1 ∨ (a.1 = b.1 ∧ Config.engineChoice 1 = true) then b else a)

/-- Wrap-around Viterbi of two passes (R193): the best state at the end, and the bits of the second pass. -/
def convDecode (d : Nat) (llr : List Int) : ItemEnd :=
  let k := bits d 145 135
  let l := gatherLlr (3 * k) 0 (Config.convPick k (bits d 159 146)) llr
  let pass (m : List (Int × List Bool)) : List (Int × List Bool) :=
    (List.range k).foldl (fun m i => viterbiStep ((l.drop (3 * i)).take 3) m) m
  let m := pass (pass (List.replicate 64 (0, [])))
  let best := m.foldl (fun (a : Int × List Bool) b => if a.1 < b.1 ∨ (a.1 = b.1 ∧ Config.engineChoice 1 = true) then b else a) (m.headD (0, []))
  let c := (best.2.take k).reverse
  { out := packBits c, crc := !plPass d c, metric := some (unsigned 32 best.1) }

/-! ## Reed-Muller code -/

/-- Position `i` of the codeword of a block. -/
def rmBit (k v i : Nat) : Bool := parityOf ((List.range k).map (fun n => bit v n && Config.rmBasis (i % 32) n))

/-- Encoding, the codeword repeated to E bits (R192). -/
def rmEncode (d : Nat) (c : List Bool) : ItemEnd :=
  let v := (c.zipIdx.map (fun e => if e.1 then 2 ^ e.2 else 0)).sum
  { out := packBits ((List.range (bits d 159 146)).map (rmBit (bits d 145 135) v)) }

/-- Decoding: the block whose codeword is most likely. -/
def rmDecode (d : Nat) (llr : List Int) : ItemEnd :=
  let k := bits d 145 135
  let score (v : Nat) : Int := (llr.zipIdx.map (fun e => if rmBit k v e.2 then -e.1 else e.1)).sum
  let best := (List.range (2 ^ k)).foldl (fun a v => if score a < score v ∨ (score a = score v ∧ Config.engineChoice 1 = true) then v else a) 0
  { out := packBits ((List.range k).map (bit best)), metric := some (unsigned 32 (score best)) }

/-- One item of a PL job. -/
def plItem (d : Nat) (b : List Byte) : ItemEnd :=
  let llr := b.map llrOf
  let c := unpackBits (bits d 145 135) b
  match bits d 130 128 with
  | 0 => polarDecode d llr
  | 1 => polarEncode d c
  | 2 => convDecode d llr
  | 3 => convEncode d c
  | 4 => rmDecode d llr
  | _ => rmEncode d c

/-! ## Turbo decoding (R194) -/

/-- One full iteration: a priori values in and out, and the hard decisions after it (DEDUCED: of the systematic value and both
extrinsic values). -/
def tdIterate (scale : Nat) (perm : List Nat) (d0 d1 d2 tails la : List Int) : List Int × List Bool :=
  let scaled (l : List Int) : List Int := l.map (fun v => Config.extRound (v * scale))
  let e1 := scaled (Config.mapExtrinsic d0 d1 la tails)
  let e2 := Config.mapExtrinsic (perm.map (fun i => d0.getD i 0)) d2 (perm.map (fun i => e1.getD i 0)) tails
  let back (l : List Int) : List Int := (List.range d0.length).map (fun i => l.getD (perm.idxOf i) 0)
  let x2 := back e2
  (back (scaled e2), (List.range d0.length).map (fun i => hardBit (d0.getD i 0 + e1.getD i 0 + x2.getD i 0)))

/-- Iterations until the CRC passes, at most so many: the decisions, the iterations used and whether it stopped. -/
def tdLoop (iter : List Int → List Int × List Bool) (stop : List Bool → Bool) : Nat → Nat → List Int → List Bool → List Bool × Nat × Bool
  | 0, it, _, c => (c, it, false)
  | n + 1, it, la, _ =>
    let (la, c) := iter la
    if stop c then (c, it + 1, true) else tdLoop iter stop n (it + 1) la c

/-- One item of a turbo decoder: the CRC is tested after each full iteration where CRC is set (R194). -/
def tdItem (d scale : Nat) (b : List Byte) : ItemEnd :=
  let k := bits d 140 128
  let l := b.map llrOf
  let stream (j : Nat) : List Int := (l.drop (j * (k + 4))).take (k + 4)
  let tails := (List.range 3).flatMap (fun j => (stream j).drop k)
  let code := bits d 146 145
  let pass (c : List Bool) : Bool := crcPass (code - 1) 0 0 c
  let iter := tdIterate scale (Config.turboPerm k) ((stream 0).take k) ((stream 1).take k) ((stream 2).take k) tails
  let (c, it, done) := tdLoop iter (fun c => decide (code ≠ 0) && pass c) (bits d 144 141) 0 (List.replicate k 0) []
  { out := packBits c, crc := decide (code ≠ 0) && !pass c, nc := !done, iters := it }

end Sys2Proof.Machine
end

