-- ==== Sys2Proof/Machine/Harq.lean ====
section
/-!
DEFINITION. Rate matching of the HQ engines (R195, R196): the places of the circular buffer that the rate-matched bits take, their
interleaving and scrambling.  The start positions of LDPC and the bit interleaver are those of TS 38.212 clause 5.4.2, the scrambling
sequence that of TS 38.211 clause 5.2.1 (PRESUMED: the spec cites them without printing them).
-/

namespace Sys2Proof.Machine

open Sys2Proof

/-- Is the code of an HQ descriptor LTE turbo? -/
def hqTurbo (d : Nat) : Bool := decide (bits d 130 129 = 2)

/-- Is position `p` of the circular buffer a filler position, which rate matching skips?  The F filler bits of LDPC end at column
Kb, and the buffer begins at column 2Z. -/
def hqFiller (d p : Nat) : Bool :=
  if hqTurbo d then Config.turboNull (bits d 156 140) p
  else
    let z := bits d 139 131
    let k := bgInfo (decide (bits d 130 129 = 1)) * z - 2 * z
    decide (k - bits d 300 288 ≤ p ∧ p < k)

/-- The position RV starts at. -/
def hqStart (d : Nat) : Nat :=
  let ncb := bits d 156 140
  let rv := bits d 158 157
  let z := bits d 139 131
  if hqTurbo d then Config.turboStart ncb rv
  else if bits d 130 129 = 1 then [0, 13, 25, 43].getD rv 0 * ncb / (50 * z) * z
  else [0, 17, 33, 56].getD rv 0 * ncb / (66 * z) * z

/-- The circular-buffer positions of `e` rate-matched bits before interleaving: from RV's start around the buffer, filler positions
skipped. -/
def hqPlaces (d e : Nat) : List Nat :=
  let ncb := bits d 156 140
  let l := ((List.range ncb).map (fun i => (hqStart d + i) % ncb)).filter (fun p => !hqFiller d p)
  if l.isEmpty then [] else (List.range e).map (fun i => l.getD (i % l.length) 0)

/-- The bit before interleaving that transmitted bit `t` of `e` takes: QM rows, read by columns. -/
def hqInter (qm e t : Nat) : Nat := if qm = 0 then t else t % qm * (e / qm) + t / qm

/-- The scrambling bits of `e` transmitted bits, `skip` bits into the sequence. -/
def scrambleBits (cInit skip e : Nat) : List Bool :=
  let v := goldBits e (lfsrSkip tapsX1 (1600 + skip) 1) (lfsrSkip tapsX2 (1600 + skip) cInit)
  (List.range e).map (bit v)

/-- The scrambling of an item: none where SCRAMBLE is clear; whether the sequence runs on from the items before it is open. -/
def hqScramble (d before e : Nat) : List Bool :=
  if bit d 185 then scrambleBits (bits d 222 192) (if Config.engineChoice 3 then before else 0) e
  else List.replicate e false

/-- Downlink rate matching of one item (R196): E bits selected from the circular buffer, interleaved by QM and scrambled. -/
def hqDown (d before e : Nat) (b : List Byte) : List Byte :=
  let buf := unpackBits (bits d 156 140) b
  let places := hqPlaces d e
  let sc := hqScramble d before e
  packBits ((List.range e).map (fun t =>
    buf.getD (places.getD (hqInter (bits d 162 159) e t) 0) false != sc.getD t false))

/-- What the E received values bring to each position of the circular buffer (R196 step 1): descrambled, de-interleaved and mapped;
none where no value falls. -/
def hqSums (d before : Nat) (llr : List Int) : List (Option Int) :=
  let e := llr.length
  let places := hqPlaces d e
  let sc := hqScramble d before e
  let got := (List.range e).map (fun t =>
    (places[hqInter (bits d 162 159) e t]?, if sc.getD t false then -(llr.getD t 0) else llr.getD t 0))
  (List.range (bits d 156 140)).map (fun p =>
    let l := got.filter (fun x => decide (x.1 = some p))
    if l.isEmpty then none else some (l.map (·.2)).sum)

end Sys2Proof.Machine
end

