-- ==== Sys2Proof/Machine/Matrix.lean ====
section
/-!
DEFINITION. What a matrix engine computes (R186–R188): estimates, weights, products, demapping, Cholesky factors and
inverses.  Products of the MAC array are exact; the binary32 arithmetic of the Cholesky unit adds a deviation, since the spec does
not state the order of its operations.  Matrices and streams lie row by row, antennas or layers outermost (DESIGN CHOICE).
-/

namespace Sys2Proof.Machine

open Sys2Proof

/-- A matrix of values by rows. -/
abbrev Mat := List (List Val)

def Mat.at_ (a : Mat) (i j : Nat) : Val := (a.getD i []).getD j none

/-- The rows of `c` columns of a list of elements. -/
def matRows (r c : Nat) (l : List Val) : Mat := (List.range r).map (fun i => (l.drop (i * c)).take c)

/-- Blocks of a matrix: one, bias 24; of `k` streams of NSC subcarriers: 12 subcarriers of a stream (Table 06-3). -/
def matBlocks (n : Nat) : Blocks := { n := 1, per := max 1 n, bias := 24 }
def streamBlocks (k nsc : Nat) : Blocks := { n := k * cdiv nsc 12, per := 12, stream := nsc }

/-- The hermitian transpose and the product of matrices. -/
def Mat.herm (a : Mat) (cols : Nat) : Mat := (List.range cols).map (fun j => a.map (fun r => vConj (r.getD j none)))
def Mat.times (a b : Mat) (inner cols : Nat) : Mat :=
  a.map (fun r => (List.range cols).map (fun j => vSum ((List.range inner).map (fun k => vMul (r.getD k none) (b.at_ k j)))))

/-! ## The Cholesky unit (R188) -/

/-- A step of a factorisation: the pivot, the column of the unit factor below it, and whether the pivot was replaced. -/
structure Pivot where
  d : Rat
  col : List Val
  replaced : Bool

/-- The factorisation of a Hermitian matrix as L·D·Lᴴ: a pivot below PIVOT_MIN, or not a number, is replaced by it and the
factorisation continues (R188). -/
def factor (pivotMin : Rat) (seed : Nat) : Nat → Mat → List Pivot
  | n + 1, r0 :: rs =>
    let p := (deviate seed (1048576 + n) (r0.getD 0 none)).map Cq.re
    let bad := match p with | some x => decide (x < pivotMin) | none => true
    let d := if bad then pivotMin else p.getD pivotMin
    let col := rs.map (fun r => (r.getD 0 none).map (Cq.scale (1 / d)))
    let rest := (rs.zip col).map (fun e => ((e.1.drop 1).zip col).map (fun x =>
      vSub x.1 ((vMul e.2 (vConj x.2)).map (Cq.scale d))))
    ⟨d, col, bad⟩ :: factor pivotMin seed n rest
  | _, _ => []

/-- The solution of L·D·Lᴴ·x = b. -/
def solveLdl : List Pivot → List Val → List Val
  | p :: ps, b0 :: bs =>
    let rest := solveLdl ps ((bs.zip p.col).map (fun e => vSub e.1 (vMul e.2 b0)))
    vSub (b0.map (Cq.scale (1 / p.d))) (vSum ((p.col.zip rest).map (fun e => vMul (vConj e.1) e.2))) :: rest
  | _, _ => []

/-- The columns solved for, as a matrix by rows. -/
def solveAll (ps : List Pivot) (n : Nat) (b : Mat) (cols : Nat) : Mat :=
  let xs := (List.range cols).map (fun j => solveLdl ps (b.map (fun r => r.getD j none)))
  (List.range n).map (fun i => xs.map (fun x => x.getD i none))

/-- The square root of a non-negative value, far below an ulp of binary32. -/
def sqrtQ (x : Rat) : Rat := (isqrt 700 (x * pow2 800).floor.toNat : Rat) / pow2 400

/-- The lower triangular factor L·√D; the elements above the diagonal are zero (DESIGN CHOICE). -/
def cholFactor (n : Nat) (ps : List Pivot) : Mat :=
  (List.range n).map (fun i => (List.range n).map (fun j =>
    match ps[j]? with
    | some p => if i < j then some ⟨0, 0⟩ else if i = j then some ⟨sqrtQ p.d, 0⟩
        else (p.col.getD (i - j - 1) none).map (Cq.scale (sqrtQ p.d))
    | none => none))

/-- The unit matrix. -/
def unitMat (n : Nat) : Mat := (List.range n).map (fun i => (List.range n).map (fun j => some ⟨if i = j then 1 else 0, 0⟩))

/-! ## Modes (R187) -/

/-- The place of a descriptor's fields. -/
def meNa (d : Nat) : Nat := bits d 137 131
def meNl (d : Nat) : Nat := bits d 143 138
def meNsc (d : Nat) : Nat := bits d 157 145
def meGroups (d : Nat) : Nat := cdiv (meNsc d) (12 * bits d 162 158)

/-- A sequence of `g` matrices of `n` elements, each padded as one item (Table 06-3). -/
def readMats (fmt g n size : Nat) (b : List Byte) : List (List Val) :=
  (List.range g).map (fun k => readElems fmt n (matBlocks n) ((b.drop (k * size)).take size))

/-- CHEST (R187): each received element times the conjugate of its reference, filtered over TAPS subcarriers with the coefficients after
the reference in ARG2 (DESIGN CHOICE: CI16, NSC for each layer, then TAPS).  Which subcarriers a group's taps meet is open
(Config.chestTap). -/
def chest (d : Nat) (y : List Val) (ref coef : List Val) (g : Nat) : List Val :=
  let nsc := meNsc d
  (List.range (meNa d)).flatMap (fun a => (List.range (meNl d)).map (fun l =>
    vSum (coef.zipIdx.map (fun c =>
      let k := Config.chestTap nsc (bits d 162 158) coef.length g c.2
      if k < nsc then vMul c.1 (vMul (y.getD (a * nsc + k) none) (vConj (ref.getD (l * nsc + k) none))) else some ⟨0, 0⟩))))

/-- WEIGHT (R187): W = (HᴴH + σ²I)⁻¹Hᴴ for one group, and whether a pivot was replaced. -/
def weight (d seed : Nat) (pivotMin : Rat) (h : List Val) : List Val × Bool :=
  let na := meNa d
  let nl := meNl d
  let hm := matRows na nl h
  let hh := hm.herm nl
  let noise : Val := ((fmtOf 32).exact (bits d 223 192)).map (fun x => ⟨x, 0⟩)
  let a := (hh.times hm na nl).zipIdx.map (fun r => r.1.zipIdx.map (fun e => if e.2 = r.2 then vAdd e.1 noise else e.1))
  let ps := factor pivotMin seed nl a
  ((solveAll ps nl hh na).flatten, ps.any (·.replaced))

/-- APPLY (R187): y = Wx at each subcarrier, `o` outputs from `i` inputs, W that of the subcarrier's group. -/
def applyW (d i o : Nat) (w : List (List Val)) (x : List Val) : List Val :=
  let nsc := meNsc d
  (List.range o).flatMap (fun r => (List.range nsc).map (fun k =>
    let m := w.getD (k / (12 * bits d 162 158)) []
    vSum ((List.range i).map (fun c => vMul (m.getD (r * i + c) none) (x.getD (c * nsc + k) none)))))

/-- The squared distance from a value to the nearest point whose label has bit `b` equal to `v`. -/
def nearestPoint (qm par b : Nat) (v : Bool) (y : Cq) : Rat :=
  let ds := ((List.range (2 ^ qm)).filter (fun l => bit l b == v)).map (fun l =>
    (y.sub ⟨(Config.constellation qm par l).1, (Config.constellation qm par l).2⟩).power)
  ds.foldl min (ds.headD 0)

/-- Max-log demapping of one value (R187): QM LLR8 values, scaled by LLR_SCALE / 16, clamped at ±127; the rounding before
that is that of RND (DEDUCED), after a deviation. -/
def demap (d seed place par : Nat) (noise : Rat) (y : Val) : List Int :=
  let qm := bits d 171 168
  (List.range qm).map (fun b =>
    match y with
    | some c =>
      if noise ≤ 0 then clamp (signed 8 (openComp seed (place + b) 8)) (-127) 127
      else
        let llr := (nearestPoint qm par b true c - nearestPoint qm par b false c) / noise * (bits d 185 178 : Rat) / 16
        clamp (rndQ (llr + Config.deviation seed (place + b)) 0 (bits d 177 176)) (-127) 127
    | none => clamp (signed 8 (openComp seed (place + b) 8)) (-127) 127)

/-- One item of a matrix job: ARG1's item and the whole of ARG2. -/
def meItem (d seed : Nat) (pivotMin : Rat) (b arg2 : List Byte) : ItemEnd :=
  let mode := bits d 130 128
  let na := meNa d
  let nl := meNl d
  let nsc := meNsc d
  let g := meGroups d
  let inF := bits d 188 186
  let outF := bits d 191 189
  let sh := bits d 175 172
  let rm := bits d 177 176
  let padded (n : Nat) : Nat := cdiv (4 * n + 2) 64 * 64
  let size (fmt n : Nat) : Nat := if fmt = 1 then padded n else if fmt = 3 then 8 * n else 4 * n
  let mats (r : List (List Val)) (sing : Bool) : ItemEnd :=
    let ws := r.zipIdx.map (fun e => writeElems outF (matBlocks (na * nl)) sh rm (seed + e.2) e.1)
    let out := ws.flatMap (·.1)
    { out := out, sat := ws.any (·.2), sing := sing
      metric := some (meanPower seed (readMats outF g (na * nl) (size outF (na * nl)) out).flatten) }
  if mode = 0 then
    let y := readElems inF (na * nsc) (streamBlocks na nsc) b
    let ref := readElems 0 (nl * nsc) {n := 0, per := 1} arg2
    let coef := readElems 0 (bits d 167 163) {n := 0, per := 1} (arg2.drop (4 * (nl * nsc)))
    mats ((List.range g).map (chest d y ref coef)) false
  else if mode = 1 then
    let hs := readMats inF g (na * nl) (size inF (na * nl)) b
    let rs := hs.zipIdx.map (fun e => weight d (seed + e.2) pivotMin e.1)
    mats (rs.zipIdx.map (fun e => e.1.1.zipIdx.map (fun v => deviate (seed + e.2) v.2 v.1))) (rs.any (·.2))
  else if mode ≤ 3 then
    let pre := decide (mode = 2) && bit d 144
    let i := if pre then nl else na
    let o := if pre then na else nl
    let x := readElems inF (i * nsc) (streamBlocks i nsc) b
    let w := readMats 1 g (na * nl) (padded (na * nl)) arg2
    let y := applyW d i o w x
    if mode = 2 then
      let (out, sat) := writeElems outF (streamBlocks o nsc) sh rm seed y
      { out := out, sat := sat, metric := some (meanPower seed (readElems outF y.length (streamBlocks o nsc) out)) }
    else
      let noise := (fmtOf 32).exact (bits d 223 192)
      { out := (y.zipIdx.flatMap (fun e =>
          let ws := (w.getD (e.2 % nsc / (12 * bits d 162 158)) []).map (fun v => match v with | some c => (c.re, c.im) | none => (0, 0))
          let nv := match noise with | some x => Config.effectiveNoise x ws (e.2 / nsc) | none => 0
          demap d seed (16 * e.2) (e.2 % nsc % 2) nv e.1)).map (fun v => BitVec.ofInt 8 v) }
  else
    let a := matRows nl nl (readElems 3 (nl * nl) {n := 0, per := 1} b)
    let ps := factor pivotMin seed nl a
    let r := (if mode = 4 then cholFactor nl ps else solveAll ps nl (unitMat nl) nl).flatten
    let r := r.zipIdx.map (fun e => if mode = 4 ∧ e.2 / nl < e.2 % nl then e.1 else deviate seed e.2 e.1)
    let out := (writeElems 3 {n := 0, per := 1} 0 0 seed r).1
    { out := out, sing := ps.any (·.replaced), metric := some (meanPower seed (readElems 3 r.length {n := 0, per := 1} out)) }

end Sys2Proof.Machine
end

