-- ==== Sys2Proof/Machine/Bursts.lean ====
section
/-!
DEFINITION. Symbols in air time, the downlink mask of a cell, its bursts, and the level of the radio control outputs (R218–R220).
-/

namespace Sys2Proof.Machine

open Sys2Proof

/-- Symbols of a slot: 7 for LTE, else 14. -/
def symbolsOf (num : Nat) : Nat := if num = 4 then 7 else 14

/-- Air ticks from the start of a slot at `slot` (a count) to the start of its symbol `k`: symbols of 3GPP's normal
cyclic prefix, the first of each half subframe longer by 256 ticks (PRESUMED, TS 38.211). -/
def symbolOffset (num : Nat) (slot : Int) (k : Nat) : Int :=
  let len : Int := if num = 0 ∨ num = 4 then 35072 else (35072 / 2 ^ num : Nat)
  let long (n : Nat) : Int := if slot % halfTicks = 0 ∧ n = 0 ∨ num = 0 ∧ n = 7 then 256 else 0
  (List.range k).foldl (fun t n => t + len + long n) 0

/-- The air count at which symbol `k` of a slot, by its number, starts. -/
def symbolTick (num : Nat) (n : Int) (k : Nat) : Int := slotStart num n + symbolOffset num (slotStart num n) k

/-- The symbol of its slot that an air count lies in. -/
def symbolAt (num : Nat) (a : Int) : Nat :=
  ((List.range (symbolsOf num)).filter (fun k => decide (symbolTick num (slotOf num a) k ≤ a))).getLastD 0

/-- Is symbol `k` of slot `n` of a cell a downlink symbol of the mask in force (OD 0x8240.03)? -/
def State.downBit (s : State) (c : Nat) (n : Int) (k : Nat) : Bool :=
  let i := slotIndex (s.govN OD.numerology c) n (s.govN OD.period c)
  bit (leNat (((s.govOct OD.dlMask c).drop (2 * i)).take 2)) k

/-- The downlink symbols of `m` slots of a cell from slot `n` on, as runs of air counts: start and end. -/
def State.downRuns (s : State) (c : Nat) (n : Int) (m : Nat) : List (Int × Int) :=
  let num := s.govN OD.numerology c
  let l := (List.range m).flatMap (fun (i : Nat) => ((List.range (symbolsOf num)).filter (fun k => s.downBit c (n + i) k)).map (fun k =>
    (symbolTick num (n + i) k, if k + 1 < symbolsOf num then symbolTick num (n + i) (k + 1) else slotStart num (n + i + 1))))
  l.foldr (fun x acc => match acc with
    | y :: t => if x.2 = y.1 then (x.1, y.2) :: t else x :: y :: t
    | [] => [x]) []

/-- Is a radio control output asserted at an air count (R219)?  A downlink-active one is from its lead before a burst to its lag
after it, an uplink-active one at any other time; none while the transmit path is idle or without an enabled entry. -/
def State.rcoLevel (s : State) (k : Nat) (a : Int) : Bool :=
  let e := s.govN OD.rcoMap k
  let c := bits e 9 0
  let lead := signed 16 (bits e 31 16)
  let lag := signed 16 (bits e 47 32)
  let burst := (s.downRuns c (slotOf (s.govN OD.numerology c) a - 1) 3).any (fun r =>
    decide ((r.1 - a) * 3125 ≤ lead * 1536 ∧ (a - r.2) * 3125 < lag * 1536))
  s.mode.mode.runs && bit e 12 && (burst != bit e 10)

/-- Does the map let an output sink (R219): asserted low, or released from an active-high assertion?  For an output asserted high the
spec's words on one that sinks while asserted are taken of one that sinks (DEDUCED). -/
def State.rcoWants (s : State) (k : Nat) : Bool :=
  let e := s.govN OD.rcoMap k
  bit e 12 && s.mode.mode.runs && (has s.edge.rcoOn k == bit e 11)

/-- Does a radio control output sink: its driver is not off (R469)? -/
def State.rcoSinks (s : State) (k : Nat) : Bool := s.rcoWants k && !has s.pins.rcoOff k

/-- Since when each output that sinks does, after a change. -/
def State.noteSinks (s : State) : State :=
  { s with pins := { s.pins with rcoSinkAt := (List.range 8).foldl (fun (t : Tab Nat) k =>
      if s.rcoSinks k then (if (Tab.find t k).isSome then t else Tab.set t k s.nowNs) else Tab.del t k) s.pins.rcoSinkAt } }

/-- Every radio control output at the level of the present air count. -/
def State.settleRcos (s : State) : State :=
  ({ s with edge := { s.edge with rcoOn := (List.range 8).filter (fun k => s.rcoLevel k s.time.air) } }).noteSinks

/-! ## Noise tables (R224) -/

/-- Values of a noise table written from group `g` on, in 1/16 dBFS, where the firmware's table is the source of the entry. -/
def State.noiseTable (s : State) (r c g : Nat) (vals : List Int) : State :=
  if s.govN OD.noiseSource r = 1 ∧ !vals.isEmpty then
    let y : Radio := Tab.get {} s.edge.radios r
    let x : WidthSet := Tab.get {} y.sets c
    let x := { x with
      noise := vals.zipIdx.foldl (fun (t : Tab Pow) e => Tab.set t (g + e.2) ⟨2 ^ 46, 1, e.1⟩) x.noise, noiseAt := some s.time.air }
    { s with edge := { s.edge with radios := Tab.put {} s.edge.radios r { y with sets := Tab.put {} y.sets c x } } }
  else s

/-! ## Occasions of the search (R210, R212, R214) -/

/-- A search context, and it replaced. -/
def State.sctx (s : State) (k : Nat) : SearchCtx := Tab.get {} s.edge.ctx k
def State.setSctx (s : State) (k : Nat) (x : SearchCtx) : State :=
  { s with edge := { s.edge with ctx := Tab.put {} s.edge.ctx k x } }

/-- The numerology of a search context's cell, and the number of the slot it is in. -/
def State.contextNum (s : State) (k : Nat) : Nat := s.govN OD.numerology (bits (s.govN OD.groupMap (s.govN OD.contextGroup k)) 9 0)
def State.contextSlot (s : State) (k : Nat) : Int := slotOf (s.contextNum k) s.time.air

/-- Is a slot one of a context's schedule (R212)?  An occasion takes its slot (DESIGN CHOICE: the schedule names slots, and the spec
gives no other length). -/
def State.scheduled (s : State) (k : Nat) (n : Int) : Bool :=
  let sch := s.govN OD.schedule k
  decide (bits sch 15 0 ≠ 0) && decide (n % (bits sch 15 0 : Nat) = (bits sch 31 16 : Nat))

/-- Is an occasion of a search context in progress? -/
def State.occasionNow (s : State) (k : Nat) : Bool := s.scheduled k (s.contextSlot k)

/-- The first occasion of a context that ended at or before an air count and has not been processed (R215). -/
def State.occasionDue (s : State) (k : Nat) (air : Int) : Option Int :=
  let sch := s.govN OD.schedule k
  let from_ := (s.sctx k).last + 1
  let n := from_ + ((bits sch 31 16 : Nat) - from_) % (bits sch 15 0 : Nat)
  if s.scheduled k n ∧ slotStart (s.contextNum k) (n + 1) ≤ air then some n else none

/-- A forward step of air time: no occasion of the slots skipped is processed; one that had ended before stays due. -/
def State.skipOccasions (s : State) (a0 : Int) : State :=
  s.edge.ctxOn.foldl (fun t k =>
    if (s.occasionDue k a0).isSome then t else t.setSctx k { t.sctx k with last := max (t.sctx k).last (t.contextSlot k - 1) }) s

end Sys2Proof.Machine
end

