-- ==== Sys2Proof/Machine/Images.lean ====
section
/-!
DEFINITION. Verification of signed images (R389, R390) and of VX image slots (R142).
-/

namespace Sys2Proof.Machine

open Sys2Proof

/-- The image marker (Table 14-1). -/
def imageMagic : BitVec 32 := 0x5A4E4931#32

/-- Blown anti-rollback level of a class (R387). -/
def SecSt.level (x : SecSt) (cls : Nat) : Nat := Tab.get 0 x.rollback cls

/-- Steps 1 to 4 of R390 for an image expected to be of class `cls`. -/
def SecSt.imageOk (x : SecSt) (cls : Nat) (i : Image) : Bool :=
  decide (i.magic = imageMagic) && decide (i.cls.toNat = cls) && i.reservedZero && i.lengthAgrees
    && (!x.sigPolicy.getLsbD 0 || i.sigPresent.getLsbD 0) && (!x.sigPolicy.getLsbD 1 || i.sigPresent.getLsbD 1)
    && (!i.sigPresent.getLsbD 0 || (i.ecdsaKeyMatches && !x.keyRevoke.getLsbD i.ecdsaSlot.toNat && i.ecdsaVerifies))
    && (!i.sigPresent.getLsbD 1 || (i.mldsaKeyMatches && !x.keyRevoke.getLsbD (4 + i.mldsaSlot.toNat) && i.mldsaVerifies))
    && i.payloadDigestOk

/-- The reason an image is refused with, 0 where it passes (R390, Table 04-12). -/
def SecSt.imageReason (x : SecSt) (cls : Nat) (i : Image) : Nat :=
  if !x.imageOk cls i then (if cls = 3 then 0x0601 else 0x0B01)
  else if i.rollback < x.level cls then (if cls = 3 then 0x0602 else 0x0B02)
  else 0

/-- An image of a class verified: its reason, with WARNING alarm 0x0B07 where one of class 0–2 is refused
(R390). -/
def State.verify (s : State) (cls : Nat) (i : Image) : Nat × State :=
  match s.sec.imageReason cls i with
  | 0 => (0, s)
  | r => (r, if cls < 3 then s.raise 0x0B07 cls else s)

/-- An element of BOOT_MEASUREMENT written: the digest of the image started for a class (R391). -/
def State.measure (s : State) (cls : Nat) (i : Image) : State :=
  let old := s.oct OD.bootMeasurement
  let full := old ++ (List.range (192 - old.length)).map (fun _ => 0#8)
  s.setOct OD.bootMeasurement 0 (full.take (48 * cls) ++ leBytes 48 i.digest.toNat ++ full.drop (48 * cls + 48))

/-- A VX image slot verified (R142): IMAGE_STATE 2 valid, or 3 refused with its reason and WARNING alarm
0x0604. -/
def State.verifySlot (s : State) (k : Nat) (i : Image) : State :=
  match s.verify 3 i with
  | (0, t) =>
    let t := (t.setNum OD.imageState k 2).setNum OD.imageVersion k i.version
    let t := (t.setNum OD.imageFmtMask k i.fmtMask.toNat).setNum OD.imageCaps k i.caps.toNat
    if k = 0 then t.measure 3 i else t
  | (r, t) => ((t.setNum OD.imageState k 3).setNum OD.imageReason k r).raise 0x0604 k

/-- VX_IMAGE_VERIFY_DONE (R142): the verification of a written image ends. -/
def execVxImageVerifyDone (slot : Nat) (s : State) : Out :=
  if s.nat OD.imageState slot = 1 then
    match (Tab.get {} s.vx.slots slot : ImageSlot).img with
    | some i => .next (s.verifySlot slot i)
    | none => .next s
  else .next s

end Sys2Proof.Machine
end

