-- ==== Sys2Proof/Machine/Units.lean ====
section
/-!
DEFINITION. Dispatch to executor units, their fault reports and the watchdog (R82, R84, R99, R100), and the
dispatch windows of the control cores (R108).
-/

namespace Sys2Proof.Machine

open Sys2Proof

/-! ## Selection (R99) -/

/-- A control core's dispatch window. -/
def State.cc (s : State) (n : Nat) : CcWin := Tab.get {} s.galley.ccWin n

/-- A control core's dispatch window replaced. -/
def State.setCc (s : State) (n : Nat) (w : CcWin) : State :=
  { s with galley := { s.galley with ccWin := Tab.put {} s.galley.ccWin n w } }

/-- Does an executor stand ready for a slug: a VX core in vx.wfs (R133), a control core whose window is enabled
and holds none and that is not the second of a pair (R108)? -/
def State.executorReady (s : State) (cls u : Nat) : Bool :=
  if cls = 0 then (s.core u).waiting && !(s.core u).halted
  else if cls = 1 then (s.cc u).enable && (s.cc u).held.isNone && !s.pairedSecond u
    && !has s.sec.dbg.ccHalted u
  else true

/-- Is a unit idle for Galley: powered, holding nothing, neither reserve nor withdrawn nor fenced? -/
def State.unitIdle (s : State) (cls u : Nat) : Bool :=
  let x := s.unit cls u
  decide (cls < 12) && decide (u < unitsOf cls) && decide (x.state = .idle) && x.held.isNone && !x.fenced
    && !x.withdrawn && s.unitAwake cls u && s.executorReady cls u && decide (s.res.drill ≠ some (cls, u))

/-- May a ready slug be dispatched to a unit? -/
def State.eligible (s : State) (x : Slug) (u : Nat) : Bool :=
  s.meets x u && !has x.excluded u && (!s.pastDeadline x || decide (x.expiry = .lateRun))

/-- Units of a class that are idle and awake or waking. -/
def State.awakeIdle (s : State) (cls : Nat) : List Nat :=
  (List.range (unitsOf cls)).filter (fun u =>
    decide ((s.unit cls u).state = .idle) && (s.unit cls u).held.isNone && !(s.unit cls u).withdrawn &&
      (match unitDomain cls u with
        | some d => decide ((s.domain d).state = .on) || (decide ((s.domain d).state = .sleep) && (s.domain d).waking)
        | none => true))

/-- Units of a class whose domain sleeps and is not waking. -/
def State.sleepers (s : State) (cls : Nat) : List Nat :=
  (List.range (unitsOf cls)).filter (fun u =>
    match unitDomain cls u with
    | some d => decide ((s.domain d).state = .sleep) && !(s.domain d).waking
    | none => false)

/-- The wake of a sleeping domain requested (R299, R419). -/
def State.requestWake (s : State) (d : Nat) : State :=
  let x := s.domain d
  if x.state = .sleep ∧ x.waking = false then
    (s.setDomain d { x with waking := true, wakeAt := s.nowNs, wakes := x.wakes + 1 }).bump OD.wakes
  else s

/-- KEEP_AWAKE (R419): the lowest-numbered sleeping units of a class that may sleep are woken while fewer
than KEEP_AWAKE of its units are idle and awake. -/
def State.keepAwake (s : State) (cls : Nat) : State :=
  if bit (s.nat OD.sleepEnable) cls then
    ((s.sleepers cls).take (s.nat OD.keepAwake - (s.awakeIdle cls).length)).foldl (fun t u =>
      match unitDomain cls u with | some d => t.requestWake d | none => t) s
  else s

/-- The slug Galley selects for a unit: from the first 16 entries of each list, priority 0 first. -/
def State.select (s : State) (cls u : Nat) : Option (Nat × Slug) :=
  (List.range 4).findSome? (fun p => ((s.readyList p cls).take 16).find? (fun e => s.eligible e.2 u))

/-- A slug with its arguments as delivered: a binding reference whose entry holds nothing is delivered as none
and sets TAINT (R84). -/
def Slug.deliver (x : Slug) (m : Impression) : Slug :=
  let rs := [resolveArg m x.arg0, resolveArg m x.arg1, resolveArg m x.arg2]
  { x with resolved := rs.map (·.1), taint := x.taint || rs.any (·.2), state := .running, emitted := false }

/-- The window of a control core after a slug is written into it: the write raises the core's machine external interrupt
(R108). -/
def CcWin.take (w : CcWin) (h : Nat) (x : Slug) : CcWin :=
  { w with held := some (h, x.attempt), emitted := false, irq := true
           slug := (List.range 8).map (fun k => x.bits512 / 2 ^ (64 * k) % 2 ^ 64) }

/-- A slug dispatched to a unit: the executor start of R82. -/
def State.dispatchTo (s : State) (cls u h : Nat) (x : Slug) : State :=
  match s.imp x.imp with
  | none => s
  | some m =>
    let y := { x.deliver m with executor := u }
    let t := (s.countDispatch x).setSlug h y
    let t := t.setUnit cls u { t.unit cls u with state := .running, held := some (h, x.attempt), since := s.time.air, start := s.time.air }
    let t := if cls = 0 then t.deliverVx u h y else if cls = 1 then t.setCc u ((t.cc u).take h y) else t
    (t.stallEval x.part).keepAwake cls

/-- Does a class define a KIND (R107, Table 03-17)? -/
def kindDefined (cls kind : Nat) : Bool :=
  match cls with
  | 9 => decide (kind = 1)
  | 10 => decide (1 ≤ kind ∧ kind ≤ 3)
  | 11 => decide (kind = 1 ∨ kind = 2)
  | 12 => decide (1 ≤ kind ∧ kind ≤ 3)
  | 13 => decide (kind = 1)
  | _ => true

/-- A dispatched attempt whose KIND its class does not define ends with a fault of cause SLUG (R107). -/
def State.kindCheck (s : State) (h : Nat) (x : Slug) : State :=
  if kindDefined x.cls x.kind then s else s.slugFaultAlarm h x.attempt

/-- Is unit `v` served ahead of unit `u` of its class: longest idle, then the lower number (R99)? -/
def State.idleBefore (s : State) (cls v u : Nat) : Bool :=
  decide ((s.unit cls v).idleSeq < (s.unit cls u).idleSeq)
    || (decide ((s.unit cls v).idleSeq = (s.unit cls u).idleSeq) && decide (v < u))

/-- Is a unit the first idle one of its class for which Galley finds a slug (R99)? -/
def State.servedNow (s : State) (cls u : Nat) : Bool :=
  s.unitIdle cls u && (List.range (unitsOf cls)).all (fun v =>
    !(s.idleBefore cls v u && s.unitIdle cls v && (s.select cls v).isSome))

/-- A slug of a class without units (HOST, MOGIL) is taken from Galley as if by one unit (R85). -/
def State.takeSlug (s : State) (h : Nat) (x : Slug) : State :=
  match s.imp x.imp with
  | none => s
  | some m => ((s.countDispatch x).setSlug h (x.deliver m)).stallEval x.part

/-- DISPATCH (R99): the unit that is served next takes its slug.  A slug of HOST or MOGIL is dispatched by the command of
its own work; one whose KIND the class does not define is taken and ended here (R107). -/
def execDispatch (cls unit : Nat) (s : State) : Out :=
  if cls = 12 ∨ cls = 13 then
    match s.select cls 0 with
    | some (h, x) => .next (if kindDefined cls x.kind then s else (s.takeSlug h x).kindCheck h x)
    | none => .next s
  else if s.servedNow cls unit then
    match s.select cls unit with
    | some (h, x) => .next ((s.dispatchTo cls unit h x).kindCheck h x)
    | none => .next s
  else .next s

/-! ## Faults (R100, R138, R200, R207, R317, R437) -/

/-- Contexts whose occasion in progress is lost with front unit `u` (R207): each counts it. -/
def State.loseOccasions (s : State) (u : Nat) : State :=
  let ks := s.edge.ctxOn.filter (fun k =>
    decide ((Tab.get {} s.edge.groups (s.govN OD.contextGroup k) : AntGroup).fu = u) && s.occasionNow k)
  let t := ks.foldl (fun (t : State) k => { t with edge := { t.edge with
    ctx := let c : SearchCtx := Tab.get {} t.edge.ctx k
      Tab.put {} t.edge.ctx k { c with lost := c.lost + 1, trigAt := none, last := s.contextSlot k } } }) s
  t.bumpBy OD.occasionsLost u ks.length

/-- What a unit fault does beside R100: a front unit's groups start moving (R207), a VX core halts where its own report says so (R138; after
a watchdog expiry it is only fenced and runs on, R139), a
retired DMA engine sets bit 6 (R317), a control core's window loses its slug and its lockstep mate is retired with it
(R437). -/
def State.faultSide (s : State) (cls u : Nat) (halts : Bool) : State :=
  if cls = 0 then (if halts then s.setCore u { s.core u with halted := true, waiting := false } else s)
  else if cls = 1 then
    let s := s.setCc u { s.cc u with held := none, irq := false }
    let mate := u / 2 * 2 + (1 - u % 2)
    if s.paired (u / 2) && (s.unit 1 mate).healthy then s.retireAndPromote 1 mate (s.unit 1 u).cause else s
  else if cls = 9 then
    let s := s.loseOccasions u
    { s with edge := { s.edge with moving := (s.edge.groupsOn.filter (fun g =>
        decide ((Tab.get {} s.edge.groups g : AntGroup).fu = u))).foldl insertN s.edge.moving } }
  else if cls = 11 then s.setCause 6 true
  else s

/-- A signal engine's unit fault counted (Table 06-15), with the cycles it held its slug. -/
def State.engineFault (s : State) (cls u : Nat) (held : Option (Nat × Nat)) : State :=
  let t := match held.bind (fun p => s.reported p.1 p.2) with | some x => s.engineEnd x none | none => s
  if 2 ≤ cls ∧ cls ≤ 8 ∧ (s.unit cls u).state ≠ .retired then t.bump OD.unitFaults (engineNumber cls u) else t

/-- A unit fault of any class, its alarm included.  The job of a unit that reported it, and so halted, is lost; after a watchdog
expiry the unit is only fenced and runs on (R139, R201): its report will be late. -/
def State.anyFault (s : State) (cls u : Nat) (held : Option (Nat × Nat)) (emitted : Bool) (cause : Nat) : State :=
  let t := ((s.engineFault cls u held).unitFault cls u held emitted cause).faultSide cls u (decide (cause ≠ 3))
  let runsOn (j : Job) : Bool := decide (cause = 3) && !j.waitAlloc
  let t := if (Tab.find s.edge.jobs (unitKey cls u)).any runsOn then t
    else { t with edge := { t.edge with jobs := Tab.del t.edge.jobs (unitKey cls u) } }
  (t.unitAlarm cls u).keepAwake cls

/-- FAULT_REPORT (R100): cause UNIT retires the unit; cause SLUG ends the slug. -/
def execFaultReport (cls unit : Nat) (r : FaultRpt) (s : State) : Out :=
  match r.cause with
  | .unit => .next (s.anyFault cls unit r.held r.emitted (if r.selfCheck then 2 else 1))
  | .slug =>
    match r.held with
    | some (h, att) =>
      let t := if cls = 1 then s.setCc unit { s.cc unit with held := none } else s
      .next ((t.reportSide h att).slugFaultAlarm h att)
    | none => .next s

/-- Has a slug run longer than EST_RUNTIME × 64 × WATCHDOG_FACTOR ticks? -/
def State.overdue (s : State) (x : Slug) : Bool :=
  decide (((x.est * 64 * s.nat OD.watchdogFactor : Nat) : Int) < s.time.air - (s.unit x.cls x.executor).start)

/-- WATCHDOG_EXPIRY (R100): a slug of classes 0–11 ran too long; taken as a unit fault, EMITTED taken as
set. -/
def execWatchdogExpiry (handle : Nat) (s : State) : Out :=
  match s.slug handle with
  | some x =>
    if x.state = .running ∧ x.cls < 12 ∧ s.overdue x = true then
      .next (s.anyFault x.cls x.executor (some (handle, x.attempt)) true 3)
    else .next s
  | none => .next s

/-! ## Control cores (R108) -/

/-- A write to DONE: the held slug's report is sent with its EMITTED, and HELD clears; ignored with none held.  The machine
external interrupt of the slug's write ends with the slug (DESIGN CHOICE: the spec does not say when). -/
def State.ccDone (s : State) (n : Nat) : State :=
  let w := s.cc n
  match w.held with
  | none => s
  | some (h, att) =>
    let em := w.emitted || (match s.slug h with | some x => decide (x.attempt = att) && x.emitted | none => false)
    let t := s.setCc n { w with held := none, emitted := false, irq := false }
    if bit w.doneCtl.toNat 9 then t.anyFault 1 n (some (h, att)) em 2
    else t.sendDone 1 n h att w.doneCtl.toNat w.doneBind em

/-- CC_DONE (R108). -/
def execCcDone (cc : Nat) (s : State) : Out := .next (s.ccDone cc)

/-- The control core and offset a device register address names in the dispatch windows, if it does. -/
def ccReg (a : Nat) : Option (Nat × Nat) :=
  if 0xF000002000 ≤ a ∧ a < 0xF000003000 then some ((a - 0xF000002000) / 512, (a - 0xF000002000) % 512) else none

/-- A word of a dispatch window as it reads. -/
def State.ccRead (s : State) (n off : Nat) : Nat :=
  let w := s.cc n
  if off = 0 then
    (if w.enable then 1 else 0) + (match w.held with | some (_, att) => 2 + 4 * att | none => 0)
      + (match w.held with
          | some (h, _) => (match s.slug h with | some x => if x.emitted || w.emitted then 16 else 0 | none => 0)
          | none => 0)
  else if 0x40 ≤ off ∧ off < 0x80 then w.slug.getD ((off - 0x40) / 8) 0
  else if off = 0x80 then w.doneCtl.toNat
  else if 0x88 ≤ off ∧ off < 0xC8 then (Tab.get 0#64 w.doneBind ((off - 0x88) / 8)).toNat
  else 0

/-- A word of a dispatch window written; read-only words keep their values. -/
def State.ccWrite (s : State) (n off : Nat) (v : BitVec 64) : State :=
  let w := s.cc n
  if off = 0 then s.setCc n { w with enable := v.getLsbD 0 }
  else if off = 0x80 then s.setCc n { w with doneCtl := v }
  else if 0x88 ≤ off ∧ off < 0xC8 then s.setCc n { w with doneBind := Tab.put 0#64 w.doneBind ((off - 0x88) / 8) v }
  else if off = 0xC8 then s.ccDone n
  else s

/-! ## Device registers (R34, R103, R108) -/

/-- The slug handle a device register address submits to (R103), if it lies there. -/
def submitReg (a : Nat) : Option Nat :=
  if 0xF000400000 ≤ a ∧ a < 0xF000800000 then some ((a - 0xF000400000) / 64) else none

/-- The 64 bytes held at a slug's submission registers. -/
def State.submitBytes (s : State) (h : Nat) : List Byte :=
  (List.range 8).flatMap (fun k => leBytes 8 (Tab.get 0#64 s.fab.regs (0xF000400000 + 64 * h + 8 * k)).toNat)

/-- The register that delivers an event of source 4 (R94): the first of the block of hampers and event counters, and the
value written is the event's KEY (DESIGN CHOICE: the spec gives the firmware write no address). -/
def eventReg : Nat := 0xF001000000

/-- Access term of a device register (R13): the slug of a dispatch window, the reservation register, the time-stamp queues
and the firmware rings are read-only (Tables 02-4 and 08-5, R103, R108). -/
def devReadOnly (a : Nat) : Bool :=
  (match ccReg a with | some (_, off) => decide (0x40 ≤ off ∧ off < 0x80) | none => false)
    || decide (a / 8 * 8 = 0xF000001000)
    || (decide (0xF009100000 ≤ a ∧ a < 0xF009100000 + 0x100 * 26) && decide (a % 0x100 < 16))
    || (decide (0xF006000000 ≤ a ∧ a < 0xF006000000 + 0x10000 * 24) && decide (0x8000 ≤ a % 0x10000 ∧ a % 0x10000 < 0x8020))

/-- The set of the noise tables a device register address lies in, and the first of the four groups the 64-bit word there holds as I16
values (R224: at 0x8000 + 0x400 × set of a compression unit's registers; that layout is a DESIGN CHOICE).  CUk is unit 58 + k of the
accelerators' block. -/
def noiseReg (a : Nat) : Option (Nat × Nat) :=
  let off := a % 0x10000
  if 0xF003000000 + 0x10000 * 58 ≤ a ∧ a < 0xF003000000 + 0x10000 * 70 ∧ 0x8000 ≤ off then
    some ((off - 0x8000) / 0x400, (off - 0x8000) % 0x400 / 2) else none

/-- A 64-bit write of a device register: those of Galley act as R94, R103 and R108 say, a read-only one keeps its value
(R13).  An address to which the spec gives no register keeps what is written and reads it back, in the blocks beyond Table
01-9 too (DESIGN CHOICE). -/
def State.devWrite (s : State) (a : Nat) (v : BitVec 64) : State :=
  if devReadOnly a then s
  else match ccReg a with
  | some (n, off) => s.ccWrite n off v
  | none =>
    if a = 0xF000001008 then
      let h := bits v.toNat 15 0
      let p := match s.slug h with | some x => x.part | none => 0
      (s.decrement h false true).stallEval p
    else if a = eventReg then s.firmwareEvent v.toNat
    else
      let t := { s with fab := { s.fab with regs := Tab.put 0#64 s.fab.regs a v } }
      let t := match noiseReg a with
        | some (k, g) =>
          let w := Config.widthSetOf ((a - 0xF003000000) / 0x10000 - 58) k
          t.noiseTable w.1 w.2 g ((List.range 4).map (fun i => signed 16 (bits v.toNat (16 * i + 15) (16 * i))))
        | none => t
      match submitReg a with
      | some h => if a % 64 = 56 then t.submitSlug h (t.submitBytes h) else t
      | none => t

/-! ## Queues popped by a read (R60, R244) -/

/-- An entry as its 128-bit read gives it (Table 02-4). -/
def Stamp.bits128 (e : Stamp) : Nat :=
  e.tag.toNat + 256 + (if e.discarded then 512 else 0) + (if e.oneStep then 1024 else 0)
    + e.time.sec % 65536 * 2 ^ 16 + e.time.ns * 2 ^ 32 + e.time.frac * 2 ^ 64

/-- The oldest entry of a transmit time-stamp queue, removed; of an empty queue, VALID 0 (R60). -/
def State.popStamp (s : State) (p : Nat) : Nat × State :=
  match Tab.get [] s.time.stampQ p with
  | e :: rest => (e.bits128, { s with time := { s.time with stampQ := Tab.put [] s.time.stampQ p rest } })
  | [] => (0, s)

/-- A descriptor as its 32 bytes (Table 08-5). -/
def FwDesc.bits256 (d : FwDesc) : Nat :=
  d.buffer + d.length % 2 ^ 14 * 2 ^ 24 + d.cls % 16 * 2 ^ 38 + (if d.secured then 2 ^ 42 else 0) + d.port % 32 * 2 ^ 43
    + d.stamp.sec % 65536 * 2 ^ 48 + d.stamp.ns * 2 ^ 64 + d.stamp.frac * 2 ^ 96

/-- The oldest descriptor of a port's firmware ring, removed; zeros of an empty ring (R244). -/
def State.popFw (s : State) (p : Nat) : Nat × State :=
  let x : Port := Tab.get {} s.front.ports p
  match x.fwRing with
  | d :: rest => (d.bits256, { s with front := { s.front with ports := Tab.put {} s.front.ports p { x with fwRing := rest } } })
  | [] => (0, s)

/-- A 64-bit read of a device register. -/
def State.devRead (s : State) (a : Nat) : Nat × State :=
  match ccReg a with
  | some (n, off) => (s.ccRead n off, s)
  | none =>
    if a = 0xF000001000 then
      match s.freeHandles 1 with
      | h :: _ => (h + 65536, s.reserveHandle h)
      | [] => (0, s)
    else ((Tab.get 0#64 s.fab.regs a).toNat, s)

/-- A read of `n` bytes of the device-register range: a 128-bit read of a time-stamp queue and a 32-byte read of a
firmware ring pop it; any other is made of 64-bit words. -/
def State.devReadN (s : State) (a n : Nat) : List Byte × State :=
  if n = 16 ∧ 0xF009100000 ≤ a ∧ a < 0xF009100000 + 0x100 * 26 ∧ a % 0x100 = 0 then
    let (v, t) := s.popStamp ((a - 0xF009100000) / 0x100)
    (leBytes 16 v, t)
  else if n = 32 ∧ 0xF006000000 ≤ a ∧ a < 0xF006000000 + 0x10000 * 24 ∧ a % 0x10000 = 0x8000 then
    let (v, t) := s.popFw ((a - 0xF006000000) / 0x10000)
    (leBytes 32 v, t)
  else
    let r := (List.range ((n + 7) / 8)).foldl (fun (r : List Byte × State) k =>
      let (v, t) := r.2.devRead (a + 8 * k)
      (r.1 ++ leBytes 8 v, t)) ([], s)
    (r.1.take n, r.2)

/-- Bytes written to the device-register range, word by word in ascending order. -/
def State.devWriteN (s : State) (a : Nat) (b : List Byte) : State :=
  (List.range ((b.length + 7) / 8)).foldl (fun (t : State) k =>
    t.devWrite (a + 8 * k) (BitVec.ofNat 64 (leNat ((b.drop (8 * k)).take 8)))) s

/-- Do `n` bytes written from a device register on meet a read-only one? -/
def devRefuses (a n : Nat) : Bool := (List.range ((n + 7) / 8)).any (fun k => devReadOnly (a + 8 * k))

/-- A refused write of a read-only register: reason 0x0D04 (R13), and on the fabric a bus error (DESIGN CHOICE: no status
carries a reason code). -/
def State.refuseReadOnly (s : State) : State :=
  let t := s.answerErr 1
  { t with reply := { t.reply with reason := 0x0D04 } }

/-- A write admitted to the device registers, and its answer: a submission's reason code stands in the reply (R103).  Such writes are
the firmware writes that TRACE_SOURCES 7 selects (R455; DESIGN CHOICE: the spec does not say which writes they are). -/
def State.devStore (s : State) (a : Nat) (b : List Byte) : State :=
  if devRefuses a b.length then s.refuseReadOnly
  else
    let t := ((s.answer 0).trace 7).devWriteN a b
    let u := t.answerFab .ack 0 []
    { u with reply := { u.reply with reason := t.reply.reason } }

/-- REGISTER_WRITE (R34): a 64-bit write by a requester of Table 10-3, tested as any access is (R31, R32). -/
def execRegisterWrite (src : ReqKind) (unit : Nat) (priv : Bool) (addr : Nat) (v : BitVec 64) (s : State) : Out :=
  if !s.spineOn then .next s
  else
    let q : Acc := { kind := src, unit := unit, part := none, priv := priv, slug := none, peer := false }
    match s.accessTest q false true addr 8 with
    | (0, t) =>
      if spanZone addr 8 = .devRegs then .next (t.devStore addr (leBytes 8 v.toNat))
      else .next ((t.writeAt q addr (leBytes 8 v.toNat)).answerFab .ack 0 [])
    | (e, t) => .next (t.answerErr e)

end Sys2Proof.Machine
end

