-- ==== Sys2Proof/Machine/Fabric.lean ====
section
/-!
DEFINITION. The fabric and its memories (chapter 10): packets at their targets, links, wakes and lock-offs,
slot-store sparing, scrub, refresh and the enable of hampers.
-/

namespace Sys2Proof.Machine

open Sys2Proof

/-! ## Endpoints (Table 10-1) -/

/-- The power domain of an endpoint: [6:0] router, [11:7] port.  The ports of a router are numbered in the order
in which Table 10-1 lists its units (DESIGN CHOICE). -/
def endpointDomain (dst : Nat) : Option Nat :=
  let r := bits dst 6 0
  let p := bits dst 11 7
  let clusterOf (c : Nat) : Option Nat := some (if p < 8 then 8 * c + p else 96 + c)
  let coding (g : Nat) : Option Nat := some (if p < 4 then 156 + 4 * g + p else 196 + g / 2)
  let small (g : Nat) : Option Nat :=
    some (if p < 2 then 172 + 2 * g + p else if p < 4 then 176 + 2 * g + p - 2 else 180 + g)
  if r < 6 then clusterOf r
  else if r < 12 then some (108 + 2 * (r - 6) + p)
  else if r < 16 then some 196
  else if r < 20 then some (132 + 2 * (r - 16) + p)
  else if r < 22 then some (148 + 2 * (r - 20) + p)
  else if r < 24 then coding (r - 22)
  else if r = 24 then small 0
  else if r < 31 then clusterOf (r - 19)
  else if r < 37 then some (120 + 2 * (r - 31) + p)
  else if r < 41 then some 197
  else if r < 45 then some (140 + 2 * (r - 41) + p)
  else if r < 47 then some (152 + 2 * (r - 45) + p)
  else if r < 49 then coding (r - 45)
  else if r = 49 then small 1
  else if r < 56 then some (186 + r - 50)
  else if r = 56 then some (182 + p)
  else if r < 59 then some (192 + 2 * (r - 57) + p)
  else if r = 59 then some 206
  else if r < 62 then some (198 + 4 * (r - 60) + p)
  else if r = 66 then some (207 + p)
  else if r = 67 then some 211
  else none

/-- Is a command a request (Table 10-4)? -/
def isRequest : FabCmd → Bool
  | .rd | .wr | .atomAdd | .atomSwap | .atomCas | .alloc | .free | .sealCmd | .unsealCmd => true
  | _ => false

/-- Does a command address memory rather than an endpoint? -/
def addressed : FabCmd → Bool
  | .rd | .wr | .wrp | .atomAdd | .atomSwap | .atomCas => true
  | _ => false

/-- The domain a packet goes to: of its address, or of its endpoint for messages and answers. -/
def State.packetDomain (s : State) (p : FabPacket) : Option Nat :=
  if addressed p.cmd then s.memDomain p.addr
  else match p.cmd with
    | .msg | .rdata | .ack | .err => endpointDomain p.dst
    | _ => none

/-- Is a packet dropped at its first router (R292): a reserved command, or data that disagrees with its length? -/
def badPacket (p : FabPacket) : Bool :=
  p.malformed || decide (512 < p.data.length)
    || (addressed p.cmd && (decide (p.bytes < 1) || decide (512 < p.bytes)))
    || ((p.cmd = .wr || p.cmd = .wrp) && decide (p.data.length ≠ p.bytes))

/-! ## Targets -/

/-- The seal bit of a buffer set or cleared by Galley (R315); a SEAL from another requester is refused
(DEDUCED: Table 10-4 sends SEAL from Galley only). -/
def State.sealAt (s : State) (p : FabPacket) (b : Bool) : State :=
  if p.kind = .galley then (s.sealBuf (bits p.arg.toNat 23 0) b).answerFab .ack 0 [] else s.refuseReq

/-- Is a buffer charged to a live attempt other than that of the packet (R316)? -/
def State.chargedElsewhere (s : State) (p : FabPacket) (h : Nat) : Bool :=
  match s.hamper (hampOf h) with
  | some q =>
    match Tab.find q.inUse (bufOf h) with
    | some (.attempt sl att) =>
      (match s.slug sl with | some x => decide (x.attempt = att ∧ x.state = .running) | none => false)
        && decide (p.slug ≠ some (sl, att))
    | _ => false
  | none => false

/-- Is a buffer sealed because a committed binding entry of a live impression holds it (R316)? -/
def State.bound (s : State) (h : Nat) : Bool :=
  s.bufSealed h && s.galley.imps.any (fun e => e.2.bindings.any (fun b => decide (b.2 = h)))

/-- FREE (R316): three requests change nothing, and one of them is counted and raises alarm 0x0807. -/
def State.freeAt (s : State) (p : FabPacket) : State :=
  let h := bits p.arg.toNat 23 0
  let t :=
    if !s.bufUsed h || s.chargedElsewhere p h then s
    else if s.bound h then (s.bump OD.badReleases (hampOf h)).raiseAtMost oneSecond 0x0807 (hampOf h)
    else s.freeBuf h
  t.answerFab .ack 0 []

/-- ALLOC (R314): RDATA with the handle and the buffer's address, or ERR 9. -/
def State.allocAt (s : State) (p : FabPacket) : State :=
  let ch : Charge := match p.slug with | some (h, att) => .attempt h att | none => .unit p.kind p.unit
  match s.allocBuf (bits p.arg.toNat 5 0) p.part p.priv ch with
  | (some h, t) => t.answerFab .rdata 0 (leBytes 8 h ++ leBytes 8 ((t.bufAddr h).getD 0))
  | (none, t) => t.answerErr 9

/-- The read-tracking entry a read of HBM takes and gives back (R295). -/
def State.track (s : State) (a : Nat) : State :=
  match zoneOf a with | .hbm k => s.peak OD.readsPeak k 1 | _ => s

/-! ## What the error code finds (R302, R306, R310) -/

/-- The domain of a slot-store bank brought into a state: the spare sleeps until a copy or its self-test wakes it (R419). -/
def State.bankPower (s : State) (b : Nat) (d : DomState) : State :=
  s.setDomain (108 + b) { s.domain (108 + b) with state := d }

/-- The sparing of a bank starts (R304): an active bank, a spare to copy to, and no copy under way; MAJOR alarm
0x0801. -/
def State.startSpare (s : State) (b : Nat) : State :=
  let spare := (s.bankIn .spare).isSome || (s.bankIn .underTest).isSome
  if (s.bank b).state = .active ∧ spare = true ∧ s.fab.copying = none ∧ b < 24 then
    let t := s.setBank b { s.bank b with state := .copying }
    let t := match s.bankIn .spare with | some k => t.bankPower k .on | none => t
    ({ t with fab := { t.fab with copying := some b, copyAt := s.nowNs } }).raise 0x0801 b
  else s

/-- Times within a window, with the current one first. -/
def recent (now span : Nat) (l : List Nat) : List Nat := now :: l.filter (fun t => decide (now < t + span))

/-- A corrected slot-store word (R302, R304): counted, and its bank spared at 16 corrections of one symbol within
1 ms or beyond SS_SPARE_THRESHOLD words within 1 s. -/
def State.ssCorrect (s : State) (b sym : Nat) : State :=
  let x := s.bank b
  let bySym := recent s.nowNs 1000000 (Tab.get [] x.bySymbol sym)
  let perSec := recent s.nowNs oneSecond x.perSec
  let t := (s.setBank b { x with bySymbol := Tab.put [] x.bySymbol sym bySym, perSec := perSec }).bump OD.ssCorrected b
  if 16 ≤ bySym.length ∨ s.nat OD.ssSpareThreshold < perSec.length then t.startSpare b else t

/-- A corrected HBM line (R310): 256 corrections at one symbol of a pair within 1 s raise MINOR alarm 0x0803. -/
def State.hbmCorrect (s : State) (k addr sym : Nat) : State :=
  let pair := bits addr 11 8
  let key := (k * 16 + pair) * 64 + sym % 64
  let l := recent s.nowNs oneSecond (Tab.get [] s.fab.hbmSymbol key)
  let t := ({ s with fab := { s.fab with hbmSymbol := Tab.put [] s.fab.hbmSymbol key (l.take 256) } }).bump OD.hbmCorrected k
  if 256 ≤ l.length then (t.setNum OD.persistentSymbol k ((pair + sym % 64 * 16 : Nat) : Int)).raise 0x0803 k else t

/-- A corrected word of the memory behind an address. -/
def State.correctAt (s : State) (addr sym : Nat) : State :=
  match zoneOf addr with
  | .slotStore => s.ssCorrect (s.physBank (bankOf addr)) sym
  | .cluster c => s.bump OD.cmCorrected c
  | .hbm k => s.hbmCorrect k addr sym
  | _ => s

/-- The words an uncorrectable word poisons: itself, and in a metadata area the 16 lines of its counter block or the 8 lines of
its MAC line (R402). -/
def State.poisonWords (s : State) (addr : Nat) : List Nat :=
  match s.regionAt (addr / 64 * 64) 64 with
  | some (_, r, true) =>
    let o := addr / 64 * 64 - r.metaBase
    let first := r.base / 64 + 16 * (o / 192)
    addr / 64 :: (if o % 192 < 64 then (List.range 16).map (first + ·)
      else (List.range 8).map (fun k => first + 8 * ((o % 192 - 64) / 64) + k))
  | _ => [addr / 64]

/-- An uncorrectable word (R306, R308, R402): poisoned, counted, MAJOR alarm 0x0802. -/
def State.poisonAt (s : State) (addr : Nat) : State :=
  let t := { s with fab := { s.fab with poison := (s.poisonWords addr).foldl insertN s.fab.poison } }
  match zoneOf addr with
  | .slotStore => (t.bump OD.ssUncorrected (s.physBank (bankOf addr))).raise 0x0802 (108 + s.physBank (bankOf addr))
  | .cluster c => (t.bump OD.cmUncorrected c).raise 0x0802 (96 + c)
  | .hbm k => (t.bump OD.hbmUncorrected k).raise 0x0802 (196 + k)
  | _ => s

/-- What the error code finds in the memory word a read touches: a corrected word is counted, an uncorrectable one
poisoned. -/
def State.eccAt (s : State) (addr : Nat) (e : EccEvent) : State :=
  match e with
  | .clean => s
  | .corrected sym => s.correctAt addr sym
  | .uncorrectable => s.poisonAt addr

/-! ## Reads, writes and atomics -/

/-- A read at its target. -/
def State.readPkt (s : State) (p : FabPacket) : State :=
  match s.accessTest (accOf p) true false p.addr p.bytes with
  | (0, t) =>
    if spanZone p.addr p.bytes = .devRegs then
      let (b, u) := t.devReadN p.addr p.bytes
      u.answerFab .rdata 0 b
    else
      let t := (t.track p.addr).eccAt p.addr p.ecc
      if t.poisoned p.addr p.bytes then t.answerErr 2
      else
        let (b, u) := t.readAt (accOf p) p.addr p.bytes
        u.answerFab .rdata 0 b
  | (e, t) => t.answerErr e

/-- The word a partial write to the slot store reads and merges inside its bank, through the error code (R302). -/
def State.mergeAt (s : State) (p : FabPacket) : State :=
  match zoneOf p.addr with
  | .slotStore => if p.addr % 64 = 0 ∧ p.data.length % 64 = 0 then s else s.eccAt p.addr p.ecc
  | _ => s

/-- A write at its target, and its status; through the peer window the command itself is carried (R33). -/
def State.writePkt (s : State) (p : FabPacket) : Nat × State :=
  match s.accessTest (accOf p) false true p.addr p.data.length with
  | (0, t) =>
    if spanZone p.addr p.data.length = .devRegs then (0, t.devStore p.addr p.data)
    else (0, (t.mergeAt p).writeAt (accOf p) p.addr p.data p.cmd)
  | (e, t) => (e, t)

/-- The answer of a write at its target: a device register answers for itself. -/
def State.writeAck (s : State) (p : FabPacket) : State :=
  match s.writePkt p with
  | (0, t) => if spanZone p.addr p.data.length = .devRegs then t else t.answerFab .ack 0 []
  | (e, t) => t.answerErr e

/-- An atomic at its target; on a device register it reads and writes the register as those do. -/
def State.atomPkt (s : State) (p : FabPacket) (f : Nat → Nat) : State :=
  if spanZone p.addr 8 = .devRegs then
    match s.accessTest (accOf p) true true p.addr 8 with
    | (0, t) =>
      if devRefuses p.addr 8 then t.refuseReadOnly
      else
        let (b, u) := t.devReadN p.addr 8
        let w := u.devWriteN p.addr (leBytes 8 (f (leNat b) % 18446744073709551616))
        w.answerFab .rdata 0 b
    | (e, t) => t.answerErr e
  else
    let s := match s.accessTest (accOf p) true true p.addr 8 with | (0, t) => t.eccAt p.addr p.ecc | _ => s
    match s.memAtom (accOf p) p.addr p f with
    | (0, old, t) => t.answerFab .rdata 0 (leBytes 8 old)
    | (e, _, t) => t.answerErr e

/-- A packet performed at its target, with its answer in the reply (Table 10-4). -/
def State.perform (s : State) (p : FabPacket) : State :=
  match p.cmd with
  | .rd => s.readPkt p
  | .wr => s.writeAck p
  | .wrp => let (e, t) := s.writePkt p; if e = 7 then t.bump OD.fencedDrops else t
  | .atomAdd => s.atomPkt p (fun o => o + p.arg.toNat)
  | .atomSwap => s.atomPkt p (fun _ => p.arg.toNat)
  | .atomCas => s.atomPkt p (fun o => if o = leNat (p.data.take 8) then p.arg.toNat else o)
  | .alloc => s.allocAt p
  | .free => s.freeAt p
  | .sealCmd => s.sealAt p true
  | .unsealCmd => s.sealAt p false
  | _ => { s with fab := { s.fab with delivered := s.fab.delivered ++ [p] } }

/-- A packet that cannot be delivered: a request is answered ERR with a status, WRP and MSG are dropped and
counted (R299, R300).  The count of both rules is LOCKED_OFF_DROPS, and an answer is dropped uncounted (DESIGN CHOICE: R299
names no count, and neither rule speaks of answers). -/
def State.turnAway (s : State) (p : FabPacket) (status : Nat) : State :=
  if isRequest p.cmd then s.answerErr status
  else if p.cmd = .wrp ∨ p.cmd = .msg then s.bump OD.lockedOffDrops
  else s

/-- A packet held in the edge router of a domain that wakes (R299). -/
def State.hold (s : State) (d : Nat) (p : FabPacket) : State :=
  s.setDomain d { s.domain d with held := (s.domain d).held ++ [p] }

/-- A packet on its way (R292, R299–R301): dropped where malformed, answered for a fenced requester, held for a
sleeping domain, turned away by one that is off, else performed.  With the spine off there is no fabric (R18). -/
def State.route (s : State) (p : FabPacket) : State :=
  if !s.spineOn then s
  else if badPacket p then
    let t := s.bump OD.fabMalformed
    if isRequest p.cmd then t.answerErr 1 else t
  else if s.fenced (accOf p) && (isRequest p.cmd && decide (p.cmd ≠ .rd)) then s.answerErr 7
  else if s.fenced (accOf p) && decide (p.cmd = .wrp) then s.bump OD.fencedDrops
  else match s.packetDomain p with
    | none => s.perform p
    | some d =>
      match (s.domain d).state with
      | .on => if (s.domain d).held.isEmpty then s.perform p else s.hold d p
      | .sleep => (s.requestWake d).hold d p
      | _ => s.turnAway p 4

/-- The answer of a packet performed later, delivered to its requester (R293). -/
def State.deliverReply (s : State) (p : FabPacket) : State :=
  match s.reply.fab with
  | some c =>
    if isRequest p.cmd then
      let r := { p with cmd := c, status := s.reply.status, data := s.reply.data, bytes := s.reply.data.length }
      { s with fab := { s.fab with delivered := s.fab.delivered ++ [r] } }
    else s
  | none => s

/-! ## Packets as commands -/

/-- RD (R292). -/
def execRd (p : FabPacket) (s : State) : Out := .next (s.route { p with cmd := .rd })
/-- WR (R292). -/
def execWr (p : FabPacket) (s : State) : Out := .next (s.route { p with cmd := .wr })
/-- WRP (R292). -/
def execWrp (p : FabPacket) (s : State) : Out := .next (s.route { p with cmd := .wrp })
/-- ATOM_ADD (R292). -/
def execAtomAdd (p : FabPacket) (s : State) : Out := .next (s.route { p with cmd := .atomAdd, bytes := 8 })
/-- ATOM_SWAP (R292). -/
def execAtomSwap (p : FabPacket) (s : State) : Out := .next (s.route { p with cmd := .atomSwap, bytes := 8 })
/-- ATOM_COMPARE_SWAP (R292). -/
def execAtomCompareSwap (p : FabPacket) (s : State) : Out := .next (s.route { p with cmd := .atomCas, bytes := 8 })
/-- ALLOC (R314). -/
def execAlloc (p : FabPacket) (s : State) : Out := .next (s.route { p with cmd := .alloc })
/-- FREE (R316). -/
def execFree (p : FabPacket) (s : State) : Out := .next (s.route { p with cmd := .free })
/-- MSG (R292, R295): it sinks at its unit. -/
def execMsg (p : FabPacket) (s : State) : Out := .next (s.route { p with cmd := .msg })
/-- SEAL (R315). -/
def execSealBuf (p : FabPacket) (s : State) : Out := .next (s.route { p with cmd := .sealCmd })
/-- UNSEAL (R315). -/
def execUnsealBuf (p : FabPacket) (s : State) : Out := .next (s.route { p with cmd := .unsealCmd })
/-- RDATA (R292). -/
def execRdata (p : FabPacket) (s : State) : Out := .next (s.route { p with cmd := .rdata })
/-- ACK (R292). -/
def execAck (p : FabPacket) (s : State) : Out := .next (s.route { p with cmd := .ack })
/-- ERR (R293). -/
def execErr (p : FabPacket) (s : State) : Out := .next (s.route { p with cmd := .err })

/-! ## Links (R296, R297) -/

/-- Key of a trunk port of a router. -/
def linkKey (router link : Nat) : Nat := 64 * router + link

/-- The bundles of trunk links at a router, by neighbour (R288), in the order in which its trunk ports are numbered (DESIGN CHOICE):
west, east, north and south in its mesh, the other compute die, the bridge between a compute die and the I/O die. -/
def bundlesOf (r : Nat) : List (Nat × Nat) :=
  let base := if r < 25 then 0 else if r < 50 then 25 else 50
  let rows := if r < 50 then 5 else 4
  let row := (r - base) / 5
  let col := (r - base) % 5
  (if 0 < col then [(r - 1, 4)] else []) ++ (if col < 4 then [(r + 1, 4)] else [])
    ++ (if 0 < row then [(r - 5, 4)] else []) ++ (if row + 1 < rows then [(r + 5, 4)] else [])
    ++ (if base = 0 ∧ col = 4 then [(25 + 5 * row, 10)] else []) ++ (if base = 25 ∧ col = 0 then [(5 * row + 4, 10)] else [])
    ++ (if base = 0 ∧ row = 0 then [(50 + col, 5)] else []) ++ (if base = 25 ∧ row = 0 then [(65 + col, 5)] else [])
    ++ (if base = 50 ∧ row = 0 then [(col, 5)] else []) ++ (if base = 50 ∧ row = 3 then [(25 + col, 5)] else [])

/-- The neighbour a trunk port leads to, the port's place in the bundle and the bundle's links. -/
def portIn : List (Nat × Nat) → Nat → Option (Nat × Nat × Nat)
  | [], _ => none
  | (q, n) :: t, l => if l < n then some (q, l, n) else portIn t (l - n)

/-- The first trunk port of a router's bundle to a neighbour. -/
def bundleStart (r q : Nat) : Nat := (((bundlesOf r).takeWhile (fun e => decide (e.1 ≠ q))).map (·.2)).sum

/-- Both ends of the trunk link at a port of a router below FR70; none where it has no such port. -/
def linkEnds (router link : Nat) : List Nat :=
  match (if router < 70 then portIn (bundlesOf router) link else none) with
  | some (q, i, _) => [linkKey router link, linkKey q (bundleStart q router + i)]
  | none => []

/-- The links of the bundle a trunk port lies in, by their ports at the router. -/
def bundleOf (router link : Nat) : List Nat :=
  match portIn (bundlesOf router) link with
  | some (q, _, n) => (List.range n).map (fun i => linkKey router (bundleStart router q + i))
  | none => []

/-- A trunk link declared down (R296): MAJOR alarm 0x0804, and bit 2 of DEGRADED_CAUSES while any trunk link is down.  Its flows
rehash onto the links that remain in its bundle; without one its routes take their alternate, which REROUTES counts (DESIGN CHOICE:
the table does not say what it counts). -/
def State.declareDown (s : State) (router link : Nat) : State :=
  let down := (linkEnds router link).foldl insertN s.fab.linksDown
  let t := { s with fab := { s.fab with linksDown := down, replayAt := Tab.del s.fab.replayAt (linkKey router link) } }
  let t := if (bundleOf router link).all (has down) then t.bump OD.reroutes else t
  (t.raise 0x0804 router).setCause 2 true

/-- Is a trunk link there and up? -/
def State.trunkUp (s : State) (router link : Nat) : Bool :=
  !(linkEnds router link).isEmpty && !has s.fab.linksDown (linkKey router link)

/-- FLIT_CRC_ERROR (R296): answered by replay and counted; the 16th replay within 1 µs declares the link down. -/
def execFlitCrcError (router link : Nat) (s : State) : Out :=
  if s.trunkUp router link then
    let l := recent s.nowNs 1000 (Tab.get [] s.fab.replayAt (linkKey router link))
    let t := { s with fab := { s.fab with replayAt := Tab.put [] s.fab.replayAt (linkKey router link) l } }.bump OD.replays router
    .next (if 16 ≤ l.length then t.declareDown router link else t)
  else .next s

/-- FABRIC_LINK_DOWN (R296): no acknowledgement came within 1 µs. -/
def execFabricLinkDown (router link : Nat) (s : State) : Out :=
  .next (if s.trunkUp router link then s.declareDown router link else s)

/-- FABRIC_LINK_RETURN (R296): back in service; its routes revert at the next subframe boundary. -/
def execFabricLinkReturn (router link : Nat) (s : State) : Out :=
  if has s.fab.linksDown (linkKey router link) then
    let t := { s with fab := { s.fab with
      linksDown := (linkEnds router link).foldl removeN s.fab.linksDown
      linksBack := (linkEnds router link).foldl insertN s.fab.linksBack } }
    .next (t.setCause 2 (!t.fab.linksDown.isEmpty))
  else .next s

/-- EDGE_LINK_DOWN (R297): the units it cuts off meet their watchdog and are retired, in ascending class and unit number (R433). -/
def execEdgeLinkDown (units : List (Nat × Nat)) (s : State) : Out :=
  .next (((units.map (fun u => unitKey u.1 u.2)).foldl insertN []).foldl (fun t k =>
    t.anyFault (k / 256) (k % 256) (t.unit (k / 256) (k % 256)).held true 5) s)

/-! ## Wakes and lock-offs (R299, R300) -/

/-- A domain comes up from sleep. -/
def State.domainUp (s : State) (d : Nat) : State :=
  let t := s.setDomain d { s.domain d with state := .on, waking := false, held := [], usedAt := s.nowNs }
  if d < 96 then t.restartCore d else t

/-- DOMAIN_WAKE_READY (R299): the held packets are delivered in arrival order. -/
def execDomainWakeReady (dom : Nat) (s : State) : Out :=
  let x := s.domain dom
  if x.waking then
    let t := if x.state = .sleep then s.domainUp dom else s.setDomain dom { x with waking := false, held := [] }
    .next (x.held.foldl (fun t p => (t.perform p).deliverReply p) t)
  else .next s

/-- WAKE_TIMEOUT (R299): a domain not ready within WAKE_TIMEOUT has its held requests answered ERR 5 and its held messages
dropped and counted; MINOR alarm 0x0805. -/
def execWakeTimeout (dom : Nat) (s : State) : Out :=
  let x := s.domain dom
  if x.state = .sleep ∧ x.waking = true ∧ x.wakeAt + s.nat OD.wakeTimeout * 1000 ≤ s.nowNs then
    let t := s.setDomain dom { x with waking := false, held := [] }
    .next ((x.held.foldl (fun t p => (t.turnAway p 5).deliverReply p) t).raise 0x0805 dom)
  else .next s

/-- A domain locked off (R300): its held packets are answered ERR 4 or dropped. -/
def State.lockOff (s : State) (d : Nat) : State :=
  let x := s.domain d
  let t := s.setDomain d { x with state := .lockedOff, waking := false, held := [] }
  x.held.foldl (fun t p => (t.turnAway p 4).deliverReply p) t

/-- DOMAIN_LOCK_OFF (R300): a domain of Table 01-2 that is powered. -/
def execDomainLockOff (dom : Nat) (s : State) : Out :=
  if dom < 212 ∧ (s.domain dom).state ≠ .off then .next (s.lockOff dom) else .next s

/-! ## Slot store (R302–R307) -/

/-- SS_ACCESS_REPEAT (R303): the access is repeated; a second mismatch shuts off one copy of the control path.
Both start the sparing of the bank. -/
def execSsAccessRepeat (bank : Nat) (secondMismatch : Bool) (s : State) : Out :=
  let t := if secondMismatch then s.setBank bank { s.bank bank with pathOff := true } else s
  .next (if bank < 24 then t.startSpare bank else s)

/-- A write of SPARE_NOW (R304): 1 spares the selected bank. -/
def writeSpareNow (b v : Nat) (s : State) : Except Fail State := .ok (if v = 1 then s.startSpare b else s)

/-- SPARE_NOW (R304). -/
def execSpareNow (who : Requester) (v : Nat) (s : State) : Out :=
  .next (s.actSel who OD.spareNow v (fun b => writeSpareNow b v))

/-- Logical bank of a physical one (R30). -/
def State.logicalBank (s : State) (b : Nat) : Option Nat := (List.range 23).find? (fun l => decide (s.physBank l = b))

/-- Nanoseconds the copy of a bank takes: 524,288 cycles of 1.25 GHz (R304). -/
def copyNs : Nat := 419430

/-- SS_SPARE_FLIP (R304, R305): once the copy is complete the logical bank moves to the spare, the faulty bank is retired and
forwards for 1 ms, and no spare remains. -/
def execSsSpareFlip (s : State) : Out :=
  match s.fab.copying with
  | none => .next s
  | some b =>
    if s.passed s.fab.copyAt copyNs = false then .next s else
    let sp := match s.bankIn .spare with | some k => some k | none => s.bankIn .underTest
    match sp, s.logicalBank b with
    | some k, some l =>
      let t := (s.setBank k { s.bank k with state := .active }).setBank b { s.bank b with state := .retired }
      let t := { t with fab := { t.fab with
        bankMap := Tab.put l t.fab.bankMap l k, copying := none, forwarding := some b, forwardAt := s.nowNs } }
      let t := t.setCause 1 true
      .next (if t.holdsToken 6 0 then t.returnToken 6 0 else t.evaluate)
    | _, _ => .next s

/-- SS_FORWARD_END (R305): 1 ms after the flip forwarding ends and the retired bank is locked off. -/
def execSsForwardEnd (s : State) : Out :=
  match s.fab.forwarding with
  | none => .next s
  | some b =>
    if s.passed s.fab.forwardAt 1000000 = false then .next s
    else .next (({ s with fab := { s.fab with forwarding := none } }).lockOff (108 + b))

/-- SPARE_TEST_INTERVAL_EXPIRY (R307): SPARE_TEST_INTERVAL after the last one the self-test's token is requested. -/
def execSpareTestIntervalExpiry (s : State) : Out :=
  if s.fab.testAt + s.nat OD.spareTestInterval * oneSecond ≤ s.nowNs then
    .next ({ s with fab := { s.fab with testAt := s.nowNs } }.requestToken 6 0)
  else .next s

/-- SPARE_BANK_TEST (R307): the march test of the spare under its token; a failure retires it, raises MAJOR alarm
0x0808 and leaves no spare. -/
def execSpareBankTest (pass : Bool) (s : State) : Out :=
  match s.bankIn .underTest with
  | none => .next s
  | some b =>
    if s.fab.copying.isSome || !s.holdsToken 6 0 then .next s
    else if pass then .next (((s.setBank b { s.bank b with state := .spare }).bankPower b .sleep).returnToken 6 0)
    else
      let t := (s.setBank b { s.bank b with state := .retired }).raise 0x0808 b
      .next ((t.setCause 1 true).returnToken 6 0)

/-! ## Scrub and refresh (R306, R310–R312) -/

/-- The memory a scrub instance covers (Table 16-3): 0 the slot store, 1–12 the cluster memories, 13 and 14 the
HBM stacks: first address, bytes, and pass period [s]. -/
def State.scrubRange (s : State) (inst : Nat) : Nat × Nat × Nat :=
  if inst = 0 then (0x1000000000, 0xB800000, s.nat OD.ssScrubPeriod)
  else if inst ≤ 12 then (0x1100000000 + 0x1000000 * (inst - 1), 0x400000, s.nat OD.cmScrubPeriod)
  else (0x600000000 * (inst - 13), 0x600000000, s.nat OD.hbmScrubPeriod)

/-- The next address of a scrub; at the end of a pass its lateness is counted (R312). -/
def State.scrubNext (s : State) (inst addr : Nat) : State :=
  let (base, size, period) := s.scrubRange inst
  let start := Tab.get s.nowNs s.fab.scrubStart inst
  if addr + 64 < base + size then
    { s with fab := { s.fab with scrubAt := Tab.put 0 s.fab.scrubAt inst (addr + 64)
                                 scrubStart := Tab.set s.fab.scrubStart inst start } }
  else
    let t := { s with fab := { s.fab with scrubAt := Tab.put 0 s.fab.scrubAt inst base
                                          scrubStart := Tab.set s.fab.scrubStart inst s.nowNs } }
    if start + 2 * period * oneSecond < s.nowNs then t.bump OD.scrubLate else t

/-- Is the scrub of an address suspended: its bank is copied, or is the spare (R304)? -/
def State.scrubHeld (s : State) (addr : Nat) : Bool :=
  match zoneOf addr with
  | .slotStore => decide (s.fab.copying = some (s.physBank (bankOf addr)))
  | _ => false

/-- SCRUB_STEP (R312): under its token the scrubber reads the next word or line of its pass; `rewritten` says that a requester wrote
it before the write-back, which is then cancelled.  The words of a bank under copy are left (R304). -/
def execScrubStep (inst : Nat) (e : EccEvent) (rewritten : Bool) (s : State) : Out :=
  if 15 ≤ inst ∨ s.holdsToken 0 inst = false then .next s
  else
    let addr := Tab.get (s.scrubRange inst).1 s.fab.scrubAt inst
    let t := if s.scrubHeld addr || rewritten && decide (e = .uncorrectable) then s else s.eccAt addr e
    .next (t.scrubNext inst addr)

/-- HBM_REFRESH (R311): one refresh; the rate doubles above 85 °C, so two are counted then. -/
def execHbmRefresh (stack : Nat) (s : State) : Out :=
  let n := if 850 < Tab.get 0 s.power.hbmTemp stack then 2 else 1
  .next { s with fab := { s.fab with refreshes := Tab.put 0 s.fab.refreshes stack (Tab.get 0 s.fab.refreshes stack + n) } }

/-! ## Hampers (R313) -/

/-- A hamper as its held objects describe it, with every buffer free. -/
def State.hamperOf (s : State) (n : Nat) : Hamper :=
  let c := s.nat OD.hamperConfig n
  { memCode := bits c 1 0, cluster := bits c 5 2, size := bits c 9 6, count := bits c 27 10 + 1
    base := s.nat OD.hamperBase n, owner := s.nat OD.hamperOwner n, fresh := 0, freed := [], inUse := [], sealedB := [] }

/-- The ranges one of which must hold a hamper whole: the usable slot store, a cluster memory, an HBM stack. -/
def Hamper.memories (h : Hamper) : List (Nat × Nat) :=
  match h.memCode with
  | 0 => [(0x1000000000, 0xB800000)]
  | 1 => [(0x1100000000 + 0x1000000 * h.cluster, 0x400000)]
  | _ => [(0, 0x600000000), (0x600000000, 0x600000000)]

/-- Does a hamper lie in its memory, aligned to its buffers? -/
def Hamper.placed (h : Hamper) : Bool :=
  decide (h.base % h.bytes = 0)
    && h.memories.any (fun m => decide (m.1 ≤ h.base) && decide (h.base + h.count * h.bytes ≤ m.1 + m.2))

/-- Do two hampers hold the same values in force? -/
def Hamper.sameValues (h k : Hamper) : Bool :=
  decide (h.memCode = k.memCode ∧ h.cluster = k.cluster ∧ h.size = k.size ∧ h.count = k.count ∧ h.base = k.base
    ∧ h.owner = k.owner)

/-- The enable check of a hamper (R313): the first failing reason, 0 where it accepts. -/
def State.hamperReason (s : State) (n : Nat) : Nat :=
  let h := s.hamperOf n
  let others := s.fab.hampers.filter (fun e => decide (e.1 ≠ n))
  let changed := match s.hamper n with | some k => !k.sameValues h && !k.inUse.isEmpty | none => false
  firstFail [
    (decide (h.size = 15) || decide (h.memCode = 3) || (decide (h.memCode = 1) && decide (11 < h.cluster)), 0x0803),
    (!h.placed || others.any (fun e => overlaps h.base (h.count * h.bytes) e.2.base (e.2.count * e.2.bytes)), 0x0801),
    (decide (1048576 < h.count + (others.map (·.2.count)).sum), 0x0802),
    (changed, 0x0804)]

/-- A hamper enabled: its pool kept where the values are the same, else built with every buffer free. -/
def State.hamperOn (s : State) (n : Nat) : State :=
  let h := s.hamperOf n
  let keep := match s.hamper n with | some k => k.sameValues h | none => false
  let t := (s.takeAll [OD.hamperConfig, OD.hamperBase, OD.hamperOwner] n).setFlag OD.hamperEnable n true
  if keep then t else (t.setHamper n h).setNum OD.freeLow n h.count

/-- A write of HAMPER_ENABLE (R313). -/
def enableHamper (n v : Nat) (s : State) : Except Fail State :=
  if v = 0 then
    match s.hamper n with
    | some h =>
      if h.inUse.isEmpty then
        .ok ({ s with fab := { s.fab with hampers := Tab.del s.fab.hampers n } }.setFlag OD.hamperEnable n false)
      else .error (OD.hamperEnable.fail 0x0804)
    | none => .ok (s.setFlag OD.hamperEnable n false)
  else if !s.enableMode then .error (OD.hamperEnable.fail 0x0A01)
  else match s.hamperReason n with
    | 0 => .ok (s.hamperOn n)
    | r => .error (OD.hamperEnable.fail r)

/-- HAMPER_ENABLE (R313). -/
def execHamperEnable (who : Requester) (s : State) : Out := .next (s.actSel who OD.hamperEnable 1 (fun n => enableHamper n 1))

/-- HAMPER_DISABLE (R313): refused while buffers are in use. -/
def execHamperDisable (who : Requester) (s : State) : Out := .next (s.actSel who OD.hamperEnable 0 (fun n => enableHamper n 0))

end Sys2Proof.Machine
end

