-- ==== Sys2Proof/Machine/Power.lean ====
section
/-!
DEFINITION. Power, clocks and thermal (chapter 15): the caps, the throttle loop, rails and phases, sleep,
droop and the temperature sensors.
-/

namespace Sys2Proof.Machine

open Sys2Proof

/-- The power state replaced. -/
def State.setPower (s : State) (p : PowerSt) : State := { s with power := p }

/-- Is a rail of Table 15-4 powered (R426)? The standby converter's is wherever the device is not OFF. -/
def State.railUp (s : State) (r : Nat) : Bool :=
  decide (s.mode.mode ≠ .off) && (decide (r = 11) || has s.power.railsOn r)

/-! ## Caps (R410, R411, R417) -/

/-- The VIN cap [0.1 W] of a voltage [10 mV] (R410), rounded to the nearest step as Table 15-2 shows it. -/
def vinCapOf (cv : Nat) : Nat :=
  if 1080 ≤ cv then 2900 else if 450 ≤ cv then 1090 + (1810 * (cv - 450) * 2 + 630) / 1260 else 1090

/-- Phases fitted and needed per rail of Table 15-4, 0–11; the LDO rails have none. -/
def railFitted (r : Nat) : Nat := [15, 15, 6, 8, 4, 3, 4, 4, 0, 0, 0, 3].getD r 0
def railNeeded (r : Nat) : Nat := [13, 13, 4, 6, 2, 1, 2, 2, 0, 0, 0, 1].getD r 0

/-- Healthy phases of a rail. -/
def State.railHealthy (s : State) (r : Nat) : Nat := railFitted r - Tab.get 0 s.power.phasesLost r

/-- Rails with fewer healthy phases than they need. -/
def State.shortRails (s : State) : List Nat :=
  (List.range 12).filter (fun r => decide (s.railHealthy r < railNeeded r))

/-- A cap lowered by the shortfall of its worst rail in proportion (R417). -/
def State.shortfall (s : State) (cap : Nat) : Nat :=
  s.shortRails.foldl (fun m r => min m (cap * s.railHealthy r / railNeeded r)) cap

/-- The effective cap [0.1 W] (R411): the lowest of the VIN cap, the thermal cap and POWER_LIMIT, lowered
for a shortfall of phases. -/
def State.effCap (s : State) : Nat :=
  s.shortfall (min s.power.vinCap (min s.power.thermalCap (s.nat OD.powerLimit * 10)))

/-- THROTTLE_CAUSE (Table 15-9): which limits stand below 290 W, the current limit and short rails.  For bit 1 R424 says so; for bits 0
and 2 it is DEDUCED, and bit 3 stands until k is 0 again (DEDUCED). -/
def State.throttleBits (s : State) : Nat :=
  (if s.power.vinCap < 2900 then 1 else 0) + (if s.power.thermalCap < 2900 then 2 else 0)
    + (if s.nat OD.powerLimit < 290 then 4 else 0) + (if s.power.currentLimited then 8 else 0)
    + (if s.shortRails.isEmpty then 0 else 16)

/-- CAP_NOW and THROTTLE_CAUSE follow. -/
def State.capsNow (s : State) : State :=
  (s.setNum OD.capNow 0 (s.effCap : Nat)).setNum OD.throttleCause 0 (s.throttleBits : Nat)

/-- Samples not older than `span` ns. -/
def within (now span : Nat) (l : List (Nat × Nat)) : List (Nat × Nat) := l.filter (fun e => decide (now ≤ e.1 + span))

/-- The lowest value of a window. -/
def lowest (d : Nat) (l : List (Nat × Nat)) : Nat := l.foldl (fun m e => min m e.2) d

/-- VIN_SAMPLE (R409, R410): VIN [10 mV] and input current [10 mA] measured.  The cap is the lowest value
computed in VIN_RISE_HOLD, so that a fall acts at once and a rise after the hold. -/
def execVinSample (cv ca : Nat) (s : State) : Out :=
  if s.mode.mode = .off then .next s else
  let now := s.nowNs
  let vs := (now, cv) :: within now 100000 s.power.vinWin
  let cap := vinCapOf (lowest cv vs)
  let cs := (now, cap) :: within now (s.nat OD.vinRiseHold * 1000000) s.power.capWin
  let t := s.setPower { s.power with vinWin := vs, capWin := cs, vinCap := lowest cap cs }
  let t := (t.setNum OD.vinNow 0 (min 65535 cv : Nat)).setNum OD.iinNow 0 (min 65535 ca : Nat)
  .next (t.capsNow.condition 0x0103 0 (decide (cv < 450) || decide (1800 < cv)))

/-! ## Throttle (R412–R414) -/

/-- The throttle level with what stands while it is above 0: bit 5 of DEGRADED_CAUSES, and alarm 0x0102 with THROTTLE_CAUSE in
[7:0] of DETAIL (DESIGN CHOICE: the spec does not place it). -/
def State.setLevel (s : State) (k : Nat) : State :=
  let t := s.setNum OD.throttleLevel 0 (k : Nat)
  let t := if k = 0 then t.setPower { t.power with currentLimited := false } else t
  let t := if k = s.nat OD.throttleLevel then t else t.trace 6
  let t := if decide (0 < k) = bit t.causes 5 then t else t.setCause 5 (decide (0 < k))
  let t := t.capsNow
  if 0 < k ∧ t.stands 0x0102 0 = false then t.raise 0x0102 0 none t.throttleBits else t.condition 0x0102 0 (decide (0 < k))

/-- POWER_LOOP_EVAL (R412): the average of the last 10 µs [0.1 W] against the effective cap; the loop runs once in 10 µs, so it counts
evaluations for time. -/
def execPowerLoopEval (avgDw : Nat) (s : State) : Out :=
  if s.mode.mode = .off then .next s else
  let cap := s.effCap
  let k := s.nat OD.throttleLevel
  let t := s.setNum OD.powerNow 0 (min 65535 avgDw : Nat)
  let e := t.power.energyUj + avgDw
  let t := (t.setPower { t.power with powerNow := avgDw, energyUj := e }).setNum OD.energy 0 (e / 1000 : Nat)
  if cap < avgDw then
    let t := t.setPower { t.power with below := 0, above := if k = 16 then t.power.above + 1 else 0 }
    .next (t.setLevel (min 16 (k + 1)))
  else
    let b := if avgDw + s.nat OD.capHeadroom * 10 < cap then t.power.below + 1 else 0
    if 100 ≤ b ∧ t.power.withdrawn = [] then
      .next ((t.setPower { t.power with above := 0, below := 0 }).setLevel (k - 1))
    else .next ((t.setPower { t.power with above := 0, below := b }).setLevel k)

/-- CURRENT_LIMIT (R413): k becomes 16 and MAJOR alarm 0x0104. -/
def execCurrentLimit (s : State) : Out :=
  if s.mode.mode = .off then .next s else
  let t := s.setPower { s.power with currentLimited := true, below := 0 }
  .next ((t.setLevel 16).raise 0x0104)

/-- Units of a class that are active and not withdrawn. -/
def State.inService (s : State) (cls : Nat) : List Nat :=
  (s.activeUnits cls).filter (fun u => !(s.unit cls u).withdrawn)

/-- The class a withdrawal takes its unit from: the throttled class with the most active units, the lowest on
a tie; none where no class has two. -/
def State.withdrawClass (s : State) : Option Nat :=
  [0, 2, 3, 4, 5, 6, 7].foldl (fun m c =>
    let n := (s.inService c).length
    match m with
    | some b => if (s.inService b).length < n then some c else m
    | none => if 1 < n then some c else none) none

/-- UNIT_WITHDRAW (R414): after 100 µs above the cap at k = 16 the highest-numbered active unit of that class
is withdrawn; it is locked off at once where it runs nothing. -/
def execUnitWithdraw (s : State) : Out :=
  if s.nat OD.throttleLevel = 16 ∧ 10 ≤ s.power.above then
    match s.withdrawClass with
    | some c =>
      match (s.inService c).getLast? with
      | some u =>
        let x := s.unit c u
        let t := s.setUnit c u { x with withdrawn := true }
        let t := t.setPower { t.power with withdrawn := unitKey c u :: t.power.withdrawn, above := 0 }
        let t := (t.setNum OD.withdrawn 0 (t.power.withdrawn.length : Nat)).trace 6
        match x.held, unitDomain c u with
        | none, some d => .next (t.lockOff d)
        | _, _ => .next t
      | none => .next s
    | none => .next s
  else .next s

/-- UNIT_RETURN (R414): after 1 ms below the cap minus CAP_HEADROOM the unit withdrawn last returns. -/
def execUnitReturn (s : State) : Out :=
  match s.power.withdrawn with
  | key :: rest =>
    if 100 ≤ s.power.below then
      let c := key / 256
      let u := key % 256
      let t := s.setUnit c u { s.unit c u with withdrawn := false }
      let t := t.setPower { t.power with withdrawn := rest, below := 0 }
      let t := (t.setNum OD.withdrawn 0 (rest.length : Nat)).trace 6
      match unitDomain c u with
      | some d => if (t.domain d).state = .lockedOff ∧ (t.unit c u).state ≠ .retired then .next (t.domainUp d) else .next t
      | none => .next t
    else .next s
  | [] => .next s

/-! ## Rails (R416, R417) -/

/-- VCORE_ADJUST (R416): the target of a powered VCORE moves by 5 mV inside 550–850 mV, at most once in 100 µs; which way its monitors
say is the operand. -/
def execVcoreAdjust (rail : Nat) (up : Bool) (s : State) : Out :=
  let due := match Tab.find s.power.vcoreAt rail with | some a => decide (a + 100000 ≤ s.nowNs) | none => true
  if rail < 2 ∧ s.railUp rail = true ∧ due = true then
    let v := s.nat OD.railVoltage rail
    let t := s.setPower { s.power with vcoreAt := Tab.set s.power.vcoreAt rail s.nowNs }
    .next (t.setNum OD.railVoltage rail (clamp (if up then v + 5 else (v : Int) - 5) 550 850))
  else .next s

/-- PHASE_FAULT (R417): a phase of a powered rail is disabled; MAJOR alarm 0x0105, PHASE_FAULTS, and the cap follows a
shortfall. -/
def execPhaseFault (rail : Nat) (s : State) : Out :=
  if s.railUp rail = true ∧ Tab.get 0 s.power.phasesLost rail < railFitted rail then
    let n := Tab.get 0 s.power.phasesLost rail + 1
    let t := s.setPower { s.power with phasesLost := Tab.put 0 s.power.phasesLost rail n }
    .next (((t.bump OD.phaseFaults).raise 0x0105 rail).capsNow)
  else .next s

/-- RAIL_OUT_OF_REGULATION (R417, R427): alarm 0x0109 follows the powered rail, and PG_OUT falls while a rail is
out. -/
def execRailOutOfRegulation (rail : Nat) (out : Bool) (s : State) : Out :=
  if rail < 12 ∧ (s.railUp rail = true ∨ out = false) then
    let t := s.setPower { s.power with railsOut := putN s.power.railsOut rail out }
    let on := s.mode.mode ≠ .off ∧ s.mode.mode ≠ .standby
    let t := t.setPower { t.power with pgOut := t.power.railsOut.isEmpty && decide on
                                         && (t.power.pgOut || (!out && has s.power.railsOut rail)) }
    .next (t.condition 0x0109 rail out)
  else .next s

/-! ## Sleep (R419) -/

/-- The unit of an executor class whose domain a number is, its class first. -/
def unitOfDomain (d : Nat) : Option (Nat × Nat) :=
  [0, 1, 2, 3, 4, 5, 6, 7].findSome? (fun c =>
    ((List.range (unitsOf c)).find? (fun u => decide (unitDomain c u = some d))).map (fun u => (c, u)))

/-- May a powered domain commit to sleep (R299, R419)? A memory bank that was not accessed for IDLE_DELAY may, but for a spare that is
copied to or under test; a control core with nothing in its window may, the command being its firmware's WFI with deep sleep enabled;
an executor may where SLEEP_ENABLE names its class, its unit is no reserve and has been idle for IDLE_DELAY, and more than KEEP_AWAKE
of its class stay awake. -/
def State.maySleep (s : State) (d : Nat) : Bool :=
  let idle (since : Nat) : Bool := decide (since + s.nat OD.idleDelay * 1000 ≤ s.nowNs)
  decide ((s.domain d).state = .on) && (s.domain d).held.isEmpty &&
    (if 96 ≤ d ∧ d < 132 then
       idle (s.domain d).usedAt && !(decide (108 ≤ d) && (decide ((s.bank (d - 108)).state = .underTest)
         || (decide ((s.bank (d - 108)).state = .spare) && s.fab.copying.isSome)))
     else match unitOfDomain d with
       | some (c, u) =>
         let x := s.unit c u
         if c = 1 then x.held.isNone && (s.cc u).held.isNone
         else bit (s.nat OD.sleepEnable) c && decide (x.state = .idle) && x.held.isNone
           && idle (max x.idleAt (s.domain d).usedAt) && decide (s.nat OD.keepAwake < (s.awakeIdle c).length)
       | none => false)

/-- DOMAIN_SLEEP (R419): the domain sleeps; a transform engine's length cache is emptied (R185). -/
def execDomainSleep (dom : Nat) (s : State) : Out :=
  if s.maySleep dom then
    let t := s.setDomain dom { s.domain dom with state := .sleep, waking := false }
    if 148 ≤ dom ∧ dom < 156 then
      .next { t with edge := { t.edge with czt := Tab.del t.edge.czt (dom - 148) } }
    else .next t
  else .next s

/-! ## Droop (R420) -/

/-- Nanoseconds of the last second in which the islands of a sensor were stretched. -/
def State.stretchedNs (s : State) (k : Nat) : Nat :=
  let now := s.nowNs
  let past := (Tab.get [] s.power.stretchLog k).map (fun e => min e.2 (e.1 + oneSecond - now))
  past.sum + (if has s.power.stretched k then min oneSecond (now - Tab.get now s.power.stretchFrom k) else 0)

/-- STRETCH_PPM (R420): the largest fraction of stretched cycles of any island over the last second.  A stretched cycle lasts twice as
long, so an island stretched for x of the second has x / (2 − x) of its cycles stretched. -/
def State.stretchRead (s : State) : Nat :=
  (List.range 64).foldl (fun m k =>
    let x := min oneSecond (s.stretchedNs k)
    max m (1000000 * x / (2 * oneSecond - x))) 0

/-- Alarm 0x0108 follows STRETCH_PPM against STRETCH_ALARM; stretches more than a second old are dropped. -/
def State.stretchEval (s : State) : State :=
  if s.power.stretched = [] ∧ s.power.stretchLog = [] then s
  else
    let keep (l : List (Nat × Nat)) : List (Nat × Nat) := l.filter (fun e => decide (s.nowNs < e.1 + oneSecond))
    let log := (Tab.mapV (fun _ l => keep l) s.power.stretchLog).filter (fun e => !e.2.isEmpty)
    let t := s.setPower { s.power with stretchLog := log }
    t.condition 0x0108 0 (decide (t.nat OD.stretchAlarm < t.stretchRead))

/-- DROOP_STRETCH (R420): the islands of a sensor double their clock period. -/
def execDroopStretch (sensor : Nat) (s : State) : Out :=
  if sensor < 64 ∧ has s.power.stretched sensor = false ∧ s.mode.mode ≠ .off then
    let t := s.setPower { s.power with
      stretched := insertN s.power.stretched sensor, stretchFrom := Tab.set s.power.stretchFrom sensor s.nowNs }
    .next ((t.bump OD.droopEvents).stretchEval)
  else .next s

/-- DROOP_RELEASE (R420): the period returns to nominal. -/
def execDroopRelease (sensor : Nat) (s : State) : Out :=
  if has s.power.stretched sensor then
    let from_ := Tab.get s.nowNs s.power.stretchFrom sensor
    let t := s.setPower { s.power with
      stretched := removeN s.power.stretched sensor, stretchFrom := Tab.del s.power.stretchFrom sensor
      stretchLog := Tab.set s.power.stretchLog sensor ((s.nowNs, s.nowNs - from_) :: Tab.get [] s.power.stretchLog sensor) }
    .next t.stretchEval
  else .next s

/-! ## Thermal (R423, R424) -/

/-- The first sensor and the number of sensors of a sensor's die: 48 on each compute die, 32 on the I/O die,
8 on the power die, numbered in that order (DESIGN CHOICE). -/
def dieOf (k : Nat) : Nat × Nat :=
  if k < 48 then (0, 48) else if k < 96 then (48, 48) else if k < 128 then (96, 32) else (128, 8)

/-- Readings that differ by more than 15 °C [0.1 °C]. -/
def apart (a b : Int) : Bool := decide (150 < a - b) || decide (150 < b - a)

/-- Is a sensor excluded (R423)? Its neighbours are the next numbers on its die, in a ring (DESIGN CHOICE). -/
def sensorBad (rs : List Int) (k : Nat) : Bool :=
  let (b, n) := dieOf k
  let at_ (i : Nat) : Int := rs.getD i 0
  let v := at_ k
  decide (v < -550) || decide (1500 < v)
    || (apart v (at_ (b + (k - b + 1) % n)) && apart v (at_ (b + (k - b + n - 1) % n)))

/-- The grade maximum [0.1 °C] (Table 00-1). -/
def gradeMax : Int := if Config.extendedGrade then 1100 else 1000

/-- The grade minimum [0.1 °C] (R9, Table 00-1), and whether a junction temperature lies in the range of the grade, within
which alone the specifications hold (R11). -/
def gradeMin : Int := if Config.extendedGrade then -400 else 0
def inJunctionRange (tj : Int) : Bool := decide (gradeMin ≤ tj ∧ tj ≤ gradeMax)

/-- THERMAL_SENSOR_SCAN (R423, R425): readings 0–135 of the sensors and 136, 137 of the stacks [0.1 °C]. -/
def execThermalSensorScan (readings : List Int) (s : State) : Out :=
  if readings.length ≠ 138 ∨ s.mode.mode = .off then .next s else
  let bad := (List.range 136).filter (sensorBad readings)
  let good := (List.range 136).filter (fun k => !has bad k)
  let tj := match good with | [] => s.power.tj | k :: r => r.foldl (fun m i => max m (readings.getD i 0)) (readings.getD k 0)
  let t := (bad.filter (fun k => !has s.power.excluded k)).foldl (fun t k => t.raise 0x0107 k) s
  let h := Tab.put 0 (Tab.put 0 t.power.hbmTemp 0 (readings.getD 136 0)) 1 (readings.getD 137 0)
  let peak := max tj (signed 16 (s.nat OD.tjNow / 65536))
  let t := t.setPower { t.power with excluded := bad, tj := tj, hbmTemp := h }
  let t := t.setNum OD.tjNow 0 (unsigned 16 tj + 65536 * unsigned 16 peak : Nat)
  let t := (List.range 138).foldl (fun t k => t.setNum OD.sensorTemp k (if has bad k then -32768 else readings.getD k 0)) t
  .next (t.condition 0x0106 0 (decide (gradeMax < tj)))

/-- THERMAL_CAP_STEP (R424): every 10 ms the thermal cap falls while a throttle point is reached, a fall that begins starting from the
lower of the effective cap and the measured power, and rises while both are 3 °C away. -/
def execThermalCapStep (s : State) : Out :=
  let due := match s.power.thermalAt with | some a => decide (a + 10000000 ≤ s.nowNs) | none => true
  if s.mode.mode = .off ∨ due = false then .next s
  else
    let p := gradeMax - s.nat OD.throttleOffset * 10
    let hbm := max (Tab.get 0 s.power.hbmTemp 0) (Tab.get 0 s.power.hbmTemp 1)
    let d := s.nat OD.thermalStep * 10
    let c := s.power.thermalCap
    let hot := decide (p ≤ s.power.tj ∨ 950 ≤ hbm)
    let c :=
      if hot then (if s.power.falling then c else min c (min s.effCap s.power.powerNow)) - d
      else if s.power.tj ≤ p - 30 ∧ hbm ≤ 950 - 30 then min 2900 (c + d)
      else c
    let t := s.setPower { s.power with thermalCap := c, falling := hot, thermalAt := some s.nowNs }
    .next (if c = s.power.thermalCap then t else t.trace 6).capsNow

end Sys2Proof.Machine
end

