-- ==== Sys2Proof/Machine/SafeOps.lean ====
section
/-!
DEFINITION. What stops the data path (R220, R375, R376): the fronthaul path idle, SAFE entered and a boot
stage failed.
-/

namespace Sys2Proof.Machine

open Sys2Proof

/-! ## GPIO (R465, R466) -/

/-- A bank's state: 0 bank A, 1 bank B. -/
def State.pinBank (s : State) (b : Nat) : BankSt := if b = 0 then s.pins.bankA else s.pins.bankB

/-- The modes in which GPIO outputs drive as written (Table 17-6). -/
def Mode.drives (m : Mode) : Bool := decide (m = .configure) || m.runs

/-- Does a GPIO drive: its output enable written, its bank steady, no contention latched, in a mode that drives; in SAFE
its SAFE_STATE says whether it does? -/
def State.gpioDrives (s : State) (p : Nat) : Bool :=
  let c := s.nat OD.gpioConfig p
  has s.pins.driving p && bit c 0 && decide (s.pinBank (p / 16) = .steady) && !s.pinTri p
    && (s.mode.mode.drives || (decide (s.mode.mode = .safe) && decide (bits c 7 6 ≠ 0)))

/-- The level a GPIO drives as written: its register, the frame strobe or the copy of ALARM_N, which is low while asserted. -/
def State.gpioWritten (s : State) (p : Nat) : Bool :=
  let c := s.nat OD.gpioConfig p
  if bits c 5 4 = 1 then has s.pins.strobe p
  else if bits c 5 4 = 2 then !s.alarmPin
  else bit (s.nat OD.gpioOut) p

/-- The level a GPIO drives; in SAFE that of its SAFE_STATE: the one held since SAFE was entered, low or high. -/
def State.gpioLevel (s : State) (p : Nat) : Bool :=
  if s.mode.mode = .safe then
    (match bits (s.nat OD.gpioConfig p) 7 6 with
     | 1 => has s.pins.heldOut p
     | 2 => false
     | _ => true)
  else s.gpioWritten p

/-- The levels that SAFE_STATE 1 holds from now on. -/
def State.holdOutputs (s : State) : State :=
  { s with pins := { s.pins with heldOut := (List.range 32).filter (fun p => s.gpioWritten p) } }

/-! ## Stops -/

/-- The fronthaul transmit path is idle: every RCO is released and the ramp state reset (R220). -/
def State.stopPath (s : State) : State := { s with edge := { s.edge with rcoOn := [], rampFrom := [] }, pins := { s.pins with rcoSinkAt := [] } }

/-- The timing outputs and frame strobes fall. -/
def State.pinsLow (s : State) : State :=
  { s with time := { s.time with ppsHigh := [], clk10m := false }, pins := { s.pins with strobe := [] } }

/-- SAFE entered (R376): every live impression aborted at once, the outputs as R220 says, SAFE_CAUSE the alarm
of the first cause.  `cause` 0–3 stands until it is cleared; 4 is a request. -/
def State.enterSafe (s : State) (cause alarm : Nat) : State :=
  let s := if cause < 4 then { s with mode := { s.mode with safeCauses := insertN s.mode.safeCauses cause } } else s
  if s.mode.mode = .safe then s
  else
    let t := ((s.abortAll.stopPath).holdOutputs).pinsLow
    (t.setNum OD.safeCause 0 (alarm : Nat)).enterMode .safe alarm

/-- A SAFE cause no longer stands. -/
def State.clearSafe (s : State) (cause : Nat) : State :=
  { s with mode := { s.mode with safeCauses := removeN s.mode.safeCauses cause } }

/-- A boot stage fails (row 7 of Table 13-2): BOOT_RESULT, alarm 0x0A04 and SAFE. -/
def State.bootFail (s : State) (reason : Nat) : State :=
  ((s.setNum OD.bootResult 0 (reason : Nat)).raise 0x0A04).enterSafe 3 0x0A04

end Sys2Proof.Machine
end

