-- ==== Sys2Proof/Machine/TimeOps.lean ====
section
/-!
DEFINITION. The timebase, its steps, the servo law and the selection of references (R36–R52), and the values
that take effect at slot and subframe boundaries (R15).
-/

namespace Sys2Proof.Machine

open Sys2Proof

/-- The timing state replaced. -/
def State.setTime (s : State) (t : TimeSt) : State := { s with time := t }

/-- A free value that is any integer. -/
def State.drawInt (s : State) : Int × State :=
  ((Config.free s.freeCtr : Int) - Config.free (s.freeCtr + 1), { s with freeCtr := s.freeCtr + 2 })

/-- A quotient whose rounding the spec does not name: the exact one, or one of its two neighbours. -/
def State.divOpen (s : State) (n d : Int) : Int × State :=
  let q := n / d
  if n % d = 0 then (q, s)
  else (if Config.roundUp s.freeCtr then q + 1 else q, { s with freeCtr := s.freeCtr + 1 })

/-! ## Steps (R43, R44) -/

/-- Forme entries of a boundary other than 0xFFFF. -/
def entriesOf (v : Nat) : Nat := ((formesOf v).filter (fun f => decide (f ≠ 0xFFFF))).length

/-- The slots of a cell whose boundaries lie after `a0` and before `a1` and were not pressed. -/
def State.skippedSlots (s : State) (c : Nat) (a0 a1 : Int) : List Int :=
  let num := s.govN OD.numerology c
  let first := slotOf num a0 + 1
  let last := nextSlot num a1
  ((List.range (last - first).toNat).map (fun (k : Nat) => first + (k : Int))).filter (fun n =>
    match Tab.find s.galley.lastPress c with | some l => decide (l < n) | none => true)

/-- The skipped boundaries of one cell counted (R92). -/
def State.skipCell (a0 a1 : Int) (s : State) (c : Nat) : State :=
  if s.cellPresses c then
    let ns := s.skippedSlots c a0 a1
    let t := s.bumpBy OD.pressSkipped 0 (ns.foldl (fun k n => k + entriesOf (s.slotEntry c n)) 0)
    match ns.getLast? with
    | some n => { t with galley := { t.galley with lastPress := Tab.set t.galley.lastPress c n } }
    | none => t
  else s

/-- Every slug whose deadline a forward step passed meets its expiry policy at once (R92). -/
def State.expireAll (s : State) : State :=
  (s.galley.slugs.map (·.1)).foldl (fun t h =>
    match t.slug h with
    | some x => if (x.state = .waiting ∨ x.state = .ready) ∧ t.pastDeadline x = true then t.expire h x else t
    | none => t) s

/-- The air-tick count moved forward to `a1`, the ticks between skipped (R44): TIMER slugs whose tick is skipped complete
(R109), and deadlines passed expire (R92), in the order of R81; the radio control outputs take the level of the end (R219). -/
def State.advanceAir (s : State) (a1 : Int) : State :=
  let a0 := s.time.air
  if a1 ≤ a0 then s
  else
    let t := s.galley.cellsOn.foldl (State.skipCell a0 a1) s
    let t := ((t.setTime { t.time with air := a1 }).fireTimers.expireAll).skipOccasions a0
    if t.mode.mode.runs then t.settleRcos else t

/-- `n / d` rounded to the nearest whole number. -/
def nearest (n d : Int) : Int := (2 * n + d) / (2 * d)

/-- The timebase stepped by `d` units of 2⁻⁴⁸ ns (R43, R44): recorded, alarmed, and air time advanced by the
step rounded to whole ticks or held. -/
def State.stepTime (s : State) (d : Int) : State :=
  let t := s.setTime { s.time with tb := ((s.time.tb : Int) + d).toNat }
  let t := t.setNum OD.lastStep 0 (clamp (nearest d 17592186044416) OD.lastStep.lo OD.lastStep.hi)
  let t := (t.setBits OD.statusSticky 0 16).raise 0x0206
  if 0 < d then t.advanceAir (t.time.air + nearest (d * 12288) (25000 * nsUnit)) else t

/-! ## Servo (R40–R43) -/

/-- The scale of the integrator and of y: units of 2⁻²⁰·10⁻¹⁸ ppb in one ppb. -/
def ppbScale : Int := 1048576 * 1000000000000000000

/-- The nominal rate word (R37). -/
def nominalRate : Nat := 0x00019999_9999999A

/-- A rate word kept within the frequency clamp of the nominal one (R38). -/
def State.clampRate (s : State) (r : Nat) : Nat :=
  let c := s.nat OD.freqClamp
  min (max r ((nominalRate * (1000000000 - c) + 999999999) / 1000000000)) (nominalRate * (1000000000 + c) / 1000000000)

/-- The rate word set, within the clamp. -/
def State.setRate (s : State) (r : Nat) : State :=
  (s.setTime { s.time with rate := s.clampRate r }).setNum OD.rateWord 0 (s.clampRate r : Nat)

/-- A correction kept within the frequency clamp. -/
def State.clampY (s : State) (y : Int) : Int :=
  let lim := (s.nat OD.freqClamp : Int) * ppbScale
  clamp y (-lim) lim

/-- The correction set and the rate word with it: nominal · (1 − y/10⁹), its last bit open. -/
def State.setY (s : State) (y : Int) : State :=
  let (r, t) := s.divOpen (nominalRate * (ppbScale * 1000000000 - y)) (ppbScale * 1000000000)
  (t.setTime { t.time with y := y }).setRate r.toNat

/-- A write of FREQ_CLAMP holds the correction and the rate word to the new clamp (R38). -/
def State.reclamp (s : State) : State := (s.setTime { s.time with y := s.clampY s.time.y }).setRate s.time.rate

/-- The rate of a servo in FREERUN: the one stored at lock, or nominal (R41). -/
def State.freeRate (s : State) : State :=
  if s.time.servo = .freerun then s.setRate (if s.nat OD.lockedRate = 0 then nominalRate else s.nat OD.lockedRate) else s

/-- Units of 10⁻⁹/16 ns as units of the timebase. -/
def fineToUnits (b : Int) : Int := b * 17592186044416 / 1000000000

/-- A step is pending: its token has been requested or granted and not yet used (R43, R45). -/
def State.stepPending (s : State) : Bool := s.time.stepWanted || s.time.target.isSome

/-- The token held is one that a pending step may use: that of a step already applied serves no other (R43, Table
16-3). -/
def State.stepReady (s : State) : Bool := s.holdsToken 3 0 && !s.time.stepDone

/-- The step token requested, once for one step (R43, R45). -/
def State.askStep (s : State) : State := if s.stepPending then s else s.requestToken 3 0
def State.wantStep (s : State) : State :=
  let t := s.askStep
  t.setTime { t.time with stepWanted := true }

/-- A phase error beyond the step threshold (R43), in 10⁻⁹/16 ns: a step at once outside RUN, DEGRADED and
UPGRADE; in them the whole difference joins the build-out, with a request for the step token where STEP_IN_RUN
is TRUE. -/
def State.bigError (s : State) (ee : Int) : State :=
  if s.mode.mode.runs then
    let t := s.setTime { s.time with buildOut := s.time.buildOut + ee }
    if s.flag OD.stepInRun then t.wantStep else t
  else s.stepTime (fineToUnits (-ee))

/-- May a timing output run (R68): the mode, OUTPUT_ENABLE and the squelch let it? Bit 0 PPS_OUT0, 1 PPS_OUT1,
2 TOD_OUT, 3 CLK10M_OUT. -/
def State.outputRuns (s : State) (k : Nat) : Bool :=
  let m := s.mode.mode
  (m = .configure || m.runs) && bit (s.nat OD.outputEnable) k
    && !(decide (s.time.servo = .freerun) && bit (s.nat OD.outputEnable) 4)

/-- Outputs that may not run are driven low (R68, R70). -/
def State.dropOutputs (s : State) : State :=
  s.setTime { s.time with
    ppsHigh := s.time.ppsHigh.filter (fun k => s.outputRuns k), clk10m := s.time.clk10m && s.outputRuns 3 }

/-- A change of servo state counted (R41). -/
def State.setServo (s : State) (v : Servo) : State :=
  if s.time.servo = v then s
  else
    let t := (s.setTime { s.time with servo := v, unlockRun := 0, lockRun := none }).bump OD.stateChanges
    let t := if s.time.servo = .locked then (t.setBits OD.statusSticky 0 1).raise 0x0205 else t
    let t := if v = .holdover then t.setTime { t.time with holdoverAt := t.nowNs } else t
    let t := if v = .locked then (t.setTime { t.time with everLocked := true, lockedFor := 0 }).clear 0x0205 else t
    (if s.time.servo = .holdover then (t.clear 0x0203).clear 0x0204 else t).dropOutputs

/-- The magnitude of an integer. -/
def mag (v : Int) : Int := if v < 0 then -v else v

/-- A frequency offset as a correction (R50): 2⁻¹⁶ ppb to the units of `y`. -/
def freqY (f : Int) : Int := f * 16 * 1000000000000000000

/-- The newest part of a history that covers a number of nanoseconds. -/
def histOver : Nat → List (Nat × Nat × Int) → List (Nat × Nat × Int)
  | _, [] => []
  | n, (d, r, y) :: t => if n ≤ d then [(n, r, y)] else (d, r, y) :: histOver (n - d) t

/-- The longest averaging window, 65,535 s, in nanoseconds. -/
def histLimit : Nat := 65535000000000

/-- The mean of a column of the history over its newest `ns` nanoseconds, each value weighted by the time it held; none
where there is none. -/
def State.histMean (s : State) (ns : Nat) (col : Nat × Nat × Int → Int) : Option Int × State :=
  let h := histOver ns s.time.hist
  let w := (h.map (·.1)).sum
  if w = 0 then (none, s)
  else
    match s.divOpen ((h.map (fun e => (e.1 : Int) * col e)).sum) w with | (m, t) => (some m, t)

/-- What the rate word and correction were over the time since the measurement before is kept, and LOCKED lasts longer by
it. -/
def State.noteHeld (s : State) (dtNs : Nat) : State :=
  s.setTime { s.time with
    hist := histOver histLimit ((dtNs, s.time.rate, s.time.y) :: s.time.hist), lockedFor := s.time.lockedFor + dtNs }

/-- The time for which |e − b| has stayed within the lock threshold with b = 0 (R41). -/
def State.noteLock (s : State) (ee : Int) (dtNs : Nat) : State :=
  let within := decide (mag ee ≤ ((s.nat OD.lockThreshold * 16000000000 : Nat) : Int)) && decide (s.time.buildOut = 0)
  let n := match s.time.lockRun with | some n => n + dtNs | none => 0
  s.setTime { s.time with lockRun := if within then some n else none }

/-- An error of a reference entry noted, the last 16 kept (R49). -/
def State.noteErr (e : Int) (s : State) (k : Nat) : State :=
  s.setTime { s.time with errs := Tab.put [] s.time.errs k ((e :: Tab.get [] s.time.errs k).take 16) }

/-- One phase measurement (R40, R42, R43): `e` in 1/16 ns, the time since the one before, and the frequency
offset against the SyncE lane in 2⁻¹⁶ ppb, which takes the integrator's place in hybrid mode (R50). -/
def State.measure_ (s : State) (e : Int) (dtNs : Nat) (freq : Int) : State :=
  let ee := e * 1000000000 - s.time.buildOut
  let (pe, s) := s.divOpen ee 1000000000
  let s := ((s.setNum OD.phaseError 0 (clamp pe OD.phaseError.lo OD.phaseError.hi)).noteHeld dtNs).noteLock ee dtNs
  let beyond := decide ((s.nat OD.unlockThreshold * 16000000000 : Nat) < mag ee)
  let s := s.setTime { s.time with unlockRun := if beyond then s.time.unlockRun + 1 else 0 }
  let s := if s.time.servo = .locked ∧ 3 ≤ s.time.unlockRun then s.setServo .acquiring else s
  let big := decide ((s.nat OD.stepThreshold * 16000000000 : Nat) < mag ee)
  let s := if big then s.bigError ee else s
  let ee := if big then 0 else ee
  let lim := (s.nat OD.freqClamp : Int) * ppbScale
  let hybrid := s.flag OD.hybrid && s.time.freqSel.isSome
  let integ := if hybrid then s.time.integ else clamp (s.time.integ + s.nat OD.ki * ee * dtNs) (-lim) lim
  let term := if hybrid then freqY freq else integ
  let y := clamp (s.nat OD.kp * ee * 1000000000 + term) (-lim) lim
  let b := s.time.buildOut
  let b := b - sgn b * min (mag b) ((s.nat OD.slewLimit * dtNs * 16 : Nat) : Int)
  (s.setTime { s.time with integ := integ, buildOut := b }).setY y

/-- Does the servo apply measurements: a phase reference is selected, OSC_IN is present and the mode runs the
timebase from its references (Table 13-1, R39)? -/
def State.servoRuns (s : State) : Bool :=
  s.time.phaseSel.isSome && !s.time.oscLost && decide (s.mode.mode ≠ .off) && decide (s.mode.mode ≠ .standby)

/-- HOLDOVER's correction (R51): with a frequency reference it follows the offset against it, and until that has been
measured it is a free value; else it is the frozen mean. -/
def State.holdRate (s : State) : State :=
  if s.time.servo = .holdover then
    match s.time.freqSel, s.time.freqOff with
    | none, _ => s.setY (s.clampY s.time.heldY)
    | some _, some f => s.setY (s.clampY (freqY f))
    | some _, none =>
      let (v, t) := s.drawInt
      t.setY (t.clampY v)
  else s

/-- The frequency offset measured against the selected SyncE lane: kept, and followed in HOLDOVER. -/
def State.noteFreq (s : State) (freq : Int) : State :=
  if s.time.freqSel.isSome && !s.time.oscLost then (s.setTime { s.time with freqOff := some freq }).holdRate else s

/-- A measurement of the selected reference. -/
def State.servoMeasure (s : State) (e : Int) (dtNs : Nat) (freq : Int) : State :=
  if s.servoRuns then (s.noteFreq freq).measure_ e dtNs freq else s

/-! ## References (R46–R51) -/

/-- Type, instance, priority and enable of a reference entry (Table 02-2). -/
def refType (v : Nat) : Nat := bits v 3 0
def refInst (v : Nat) : Nat := bits v 11 4
def refPrio (v : Nat) : Nat := bits v 15 12

/-- Does entry `k` take part in the selection of phase or of frequency? -/
def State.refTakes (s : State) (freq : Bool) (k : Nat) : Bool :=
  let v := s.nat OD.reference k
  has s.time.qualified k && bit v 16 &&
    (if freq then decide (refType v = 3) else decide (refType v = 1) || decide (refType v = 2))

/-- The entry R48 chooses: lowest PRIORITY, then lowest number. -/
def State.bestRef (s : State) (freq : Bool) : Option Nat :=
  (List.range 8).foldl (fun m k =>
    if s.refTakes freq k then
      match m with
      | some j => if refPrio (s.nat OD.reference k) < refPrio (s.nat OD.reference j) then some k else m
      | none => some k
    else m) none

/-- SELECTED follows the selections. -/
def State.noteSelected (s : State) : State :=
  s.setNum OD.selectedRef 0 ((s.time.phaseSel.getD 255) + 256 * (s.time.freqSel.getD 255) : Nat)

/-- The mean error of a reference entry over its last 16 measurements, or those there are, in 10⁻⁹/16 ns (R49); a free
value where it has none. -/
def State.errMean (s : State) (k : Nat) : Int × State :=
  match Tab.get [] s.time.errs k with
  | [] => s.drawInt
  | l => s.divOpen (l.sum * 1000000000) l.length

/-- The entry that waits to be restored for phase, or for frequency, with the time its wait began (R48). -/
def State.setWaiting (s : State) (o : Option Nat) : State :=
  if s.time.waiting = o then s else s.setTime { s.time with waiting := o, waitAt := s.nowNs }
def State.setWaitingFreq (s : State) (o : Option Nat) : State :=
  if s.time.waitingFreq = o then s else s.setTime { s.time with waitingFreq := o, waitFreqAt := s.nowNs }

/-- A phase reference selected (R49): hitless, with the build-out the mean error of the new reference where a reference
was followed before; a different one is alarmed and recorded. -/
def State.selectPhase (s : State) (k : Nat) : State :=
  let (b, t) := if s.time.servo = .freerun then (0, s) else s.errMean k
  let t := t.setTime { t.time with
    phaseSel := some k, lastPhase := some k, waiting := none, buildOut := b, lockRun := none }
  let t := match s.time.lastPhase with
    | some o =>
      if o = k then t
      else ((t.setNum OD.lastSwitch 0 (o + 256 * k : Nat)).setBits OD.statusSticky 0 2).raise 0x0202
    | none => t
  let t := if t.time.servo = .locked then t else t.setServo .acquiring
  t.noteSelected

/-- No phase reference is left (R41, R51): HOLDOVER where the servo has been locked, its correction the mean over
HOLDOVER_AVERAGING or the time since LOCKED was entered, whichever is shorter (the correction that stands where that time is
0), or the offset against a frequency reference; else FREERUN at the rate stored at lock or nominal. -/
def State.losePhase (s : State) : State :=
  let t := (s.setTime { s.time with phaseSel := none, waiting := none, buildOut := 0 }).noteSelected
  if t.time.everLocked then
    let (m, t) := t.histMean (min (t.nat OD.holdoverAveraging * 1000000000) t.time.lockedFor) (fun e => e.2.2)
    let t := (t.setTime { t.time with heldY := m.getD t.time.y }).setServo .holdover
    (t.holdRate.setBits OD.statusSticky 0 4).raise 0x0203
  else (t.setServo .freerun).freeRate

/-- The frequency reference selected (R48). -/
def State.setFreq (s : State) (o : Option Nat) : State :=
  if s.time.freqSel = o then s.setTime { s.time with waitingFreq := none }
  else ((s.setTime { s.time with freqSel := o, freqOff := none, waitingFreq := none }).noteSelected).holdRate

/-- The frequency reference chosen anew by the rule of the phase reference (R48): the selected one stays while it is
qualified, one that outranks it waits to be restored where selection is revertive. -/
def State.reselectFreq (s : State) : State :=
  match s.time.freqSel with
  | some k =>
    if s.refTakes true k then
      let w := if s.flag OD.revertive ∧ s.bestRef true ≠ some k then s.bestRef true else none
      s.setWaitingFreq w
    else s.setFreq (s.bestRef true)
  | none => s.setFreq (s.bestRef true)

/-- Entry `k` becomes qualified (R47, R48). -/
def State.qualify (s : State) (k : Nat) : State :=
  let t := (s.setTime { s.time with qualified := insertN s.time.qualified k }).reselectFreq
  if t.refTakes false k then
    match t.time.phaseSel with
    | none => t.selectPhase k
    | some c =>
      if t.flag OD.revertive ∧ t.bestRef false = some k ∧ c ≠ k then t.setWaiting (some k) else t
  else t

/-- Entry `k` is disqualified (R47–R51). -/
def State.disqualify (s : State) (k : Nat) : State :=
  if has s.time.qualified k then
    let t := s.setTime { s.time with
      qualified := removeN s.time.qualified k
      disqAt := Tab.set s.time.disqAt k s.nowNs
      waiting := if s.time.waiting = some k then none else s.time.waiting }
    let t := t.reselectFreq
    if t.time.phaseSel = some k then
      match t.bestRef false with
      | some j => t.selectPhase j
      | none => t.losePhase
    else t
  else s

/-- What the offset engine keeps of a port. -/
def State.ptpPort (s : State) (p : Nat) : PtpPort := Tab.get {} s.time.ptp p

/-- That replaced. -/
def State.setPtp (s : State) (p : Nat) (x : PtpPort) : State :=
  s.setTime { s.time with ptp := Tab.put {} s.time.ptp p x }

/-- PTP runs on a port and its state is SLAVE or UNCALIBRATED, which NOT_SLAVE forbids (R55, R58). -/
def State.ptpSlave (s : State) (p : Nat) : Bool :=
  decide (s.gov OD.ptpEnable p ≠ 0) && decide (s.gov OD.notSlave p = 0)
    && (decide ((s.ptpPort p).state = 8) || decide ((s.ptpPort p).state = 9))

/-- The port that BMCA places in SLAVE, the one an INSTANCE of 0xFF names (Table 02-2): the lowest in SLAVE, else the
lowest in UNCALIBRATED, the way there. -/
def State.slavePort (s : State) : Option Nat :=
  match (List.range 26).find? (fun p => s.ptpSlave p && decide ((s.ptpPort p).state = 9)) with
  | some p => some p
  | none => (List.range 26).find? s.ptpSlave

/-- Does a reference entry name an instance of a type? -/
def State.refNames (s : State) (ty inst k : Nat) : Bool :=
  let v := s.nat OD.reference k
  decide (refType v = ty)
    && (decide (refInst v = inst) || (decide (ty = 1 ∧ refInst v = 255) && decide (s.slavePort = some inst)))

/-- The entries that name an instance of a type. -/
def State.refsNaming (s : State) (ty inst : Nat) : List Nat := (List.range 8).filter (s.refNames ty inst)

/-- Every entry that names an instance disqualified. -/
def State.disqualifyInst (s : State) (ty inst : Nat) : State := (s.refsNaming ty inst).foldl State.disqualify s

/-- A port placed in a state by timing firmware (R53): a port with NOT_SLAVE never enters SLAVE or UNCALIBRATED (R55), and
one that leaves them disqualifies the entries that name it (R47). -/
def State.placePort (s : State) (p place : Nat) : State :=
  let slave := decide (place = 8) || decide (place = 9)
  if slave && decide (s.gov OD.notSlave p ≠ 0) then s
  else
    let t := if s.ptpSlave p && !slave then s.disqualifyInst 1 p else s
    let x := t.ptpPort p
    t.setPtp p { x with state := place, slaveAt := if slave && !s.ptpSlave p then s.nowNs else x.slaveAt }

/-- A write of a reference entry (R46), its reserved bits ignored: a changed type, instance or enable disqualifies it; a
changed priority is taken by R48. -/
def writeReference (k v : Nat) (s : State) : Except Fail State :=
  let v := v % 131072
  let old := s.nat OD.reference k
  let t := s.setNum OD.reference k (v : Nat)
  if bits old 11 0 = bits v 11 0 ∧ bit old 16 = bit v 16 then
    let t := t.reselectFreq
    .ok (if t.flag OD.revertive ∧ t.time.phaseSel.isSome ∧ t.bestRef false ≠ t.time.phaseSel
      then t.setWaiting (t.bestRef false) else t)
  else
    let t := t.disqualify k
    let t := t.setTime { t.time with disqAt := Tab.set t.time.disqAt k t.nowNs }
    .ok (if bits old 11 0 = bits v 11 0 then t else t.setTime { t.time with errs := Tab.put [] t.time.errs k [] })

/-- The values of a PTP port in force from now on (Table 02-9). -/
def State.takePtp (s : State) (p : Nat) : State :=
  s.takeAll [OD.ptpEnable, OD.ptpTransport, OD.oneStep, OD.notSlave, OD.logSyncInterval, OD.logDelayReqInterval,
    OD.announceTimeout] p

end Sys2Proof.Machine
end

