-- ==== Sys2Proof/Machine/Timebase.lean ====
section
/-!
DEFINITION. The commands of air time and synchronisation (chapter 02), and what the timebase does in one cycle
of its clock (R37).
-/

namespace Sys2Proof.Machine

open Sys2Proof

/-! ## The clock -/

/-- Units of 2⁻⁴⁸ ns the timebase slews in one cycle at the phase slew limit (R43, R45). -/
def State.slewUnits (s : State) : Int := ((nominalRate * s.nat OD.slewLimit / 1000000000 : Nat) : Int)

/-- Time since the PPS edge of output `k` of the timebase's current second [1/16 ns]: an edge falls at each whole second
plus the output's offset (R68). -/
def State.sincePps (s : State) (k : Nat) : Int := (s.now16 - s.num OD.ppsOutOffset k) % 16000000000

/-- The level of CLK10M_OUT (R70): a square wave of 100 ns, high in its first half, a rising edge of which falls on each
edge of PPS_OUT0 (DESIGN CHOICE: also while PPS_OUT0 is not enabled), and low where the output may not run. -/
def State.clkLevel (s : State) : Bool := s.outputRuns 3 && decide (s.sincePps 0 % 1600 < 800)

/-- One cycle of the 625 MHz timebase clock (R37): the timebase advances by the rate word and slews towards a
TIME_SET target (R45), the air-tick count follows without ever falling (R44), CLK10M_OUT follows the timebase (R70), alarm 0x0108 its window (R420), and
one trace record leaves the FIFO. OFF and a stopped OSC_IN in STANDBY hold it (R52, R422); timers run on in STANDBY, by
Basecamp's own oscillator (R441; DESIGN CHOICE). -/
def timebaseCycle (s : State) : State :=
  let s := if s.mode.mode = .off then s else s.setTime { s.time with run := s.time.run + s.time.rate }
  if s.mode.mode = .off ∨ s.time.stopped = true then s
  else
    let d := s.time.target.getD 0
    let m := sgn d * min (mag d) s.slewUnits
    let t := s.setTime { s.time with
      tb := ((s.time.tb : Int) + s.time.rate + m).toNat
      target := s.time.target.map (fun x => x - m) }
    let t := t.setTime { t.time with air := max t.time.air t.airFormula }
    ((t.setTime { t.time with clk10m := t.clkLevel }).stretchEval).traceDrain

/-! ## OSC_IN (R39, R422) -/

/-- OSC_IN_LOSS (R39, R422): CRITICAL alarm 0x0201; RUN, DEGRADED and UPGRADE enter SAFE, a boot stage fails,
and in STANDBY the timebase stops and the servo starts the next BOOT in FREERUN.  In OFF nothing is told of it; stage 1 of
the next BOOT finds it absent. -/
def execOscInLoss (s : State) : Out :=
  if s.time.oscLost = true then .next s
  else if s.mode.mode = .off then .next (s.setTime { s.time with oscLost := true })
  else if s.mode.mode = .standby then .next (((s.setTime { s.time with oscLost := true, stopped := true, everLocked := false }).setServo .freerun).freeRate)
  else
    let t := (s.setTime { s.time with oscLost := true }).raise 0x0201
    if s.mode.mode.runs then .next (t.enterSafe 0 0x0201)
    else if s.mode.mode = .boot then .next (t.bootFail 0x0201)
    else .next t

/-- OSC_IN_RETURN (R39): the PLLs relock without a step, the alarm clears, and a servo that held LOCKED resumes
in ACQUIRING. -/
def execOscInReturn (s : State) : Out :=
  if s.time.oscLost then
    let held := decide (s.mode.mode = .standby) && !s.flag OD.holdInStandby
    let t := ((s.setTime { s.time with oscLost := false, stopped := held }).clear 0x0201).clearSafe 0
    .next (if t.time.servo = .locked then t.setServo .acquiring else t)
  else .next s

/-! ## Servo (R40–R45) -/

/-- SERVO_MEASUREMENT (R40, R50): the error and the frequency offset against the SyncE lane as measured.  The error is one
of the selected entry's last 16 (R49); in HOLDOVER only the frequency offset counts (R51). -/
def execServoMeasurement (e : Int) (dtNs : Nat) (freqOffset : Int) (s : State) : Out :=
  match s.time.phaseSel with
  | some k => .next ((s.noteErr e k).servoMeasure e dtNs freqOffset)
  | none => .next (s.noteFreq freqOffset)

/-- SERVO_LOCK (R41, R42): in ACQUIRING, with |e − b| within the lock threshold and b = 0 for the lock time, the servo
enters LOCKED, and the mean rate word of the last 10 s is stored. -/
def execServoLock (s : State) : Out :=
  if s.time.servo = .acquiring ∧ s.time.buildOut = 0 ∧ s.servoRuns = true
      ∧ (match s.time.lockRun with | some n => decide (s.nat OD.lockTime * 1000000000 ≤ n) | none => false) = true then
    let (m, t) := s.histMean 10000000000 (fun e => e.2.1)
    .next ((t.setServo .locked).setNum OD.lockedRate 0 ((m.getD t.time.rate).toNat % 2 ^ 64 : Nat))
  else .next s

/-- TIMEBASE_STEP (R43, R45): at the first frame boundary after the grant the timebase steps by what is left of
the difference; less than 1/16 ns is no step, and returns the token at once. -/
def execTimebaseStep (s : State) : Out :=
  if s.stepReady = false then .next s
  else if s.stepPending = false then .next (s.returnToken 3 0)
  else
    let d := (if s.time.stepWanted then fineToUnits (-s.time.buildOut) else 0) + s.time.target.getD 0
    let t := s.setTime { s.time with
      stepWanted := false, target := none, stepDone := true, buildOut := if s.time.stepWanted then 0 else s.time.buildOut }
    if mag d < 17592186044416 then .next (t.returnToken 3 0) else .next (t.stepTime d)

/-- A write of TIME_SET (R45): outside RUN, DEGRADED and UPGRADE it steps at once, and is the last target there was. -/
def writeTimeSet (v : TB128) (s : State) : Except Fail State :=
  if 1000000000 ≤ v.ns then .error (OD.timeSet.fail 0x0203)
  else
    let d := (v.units : Int) - s.time.tb
    if s.mode.mode.runs then
      if s.flag OD.stepInRun then
        let t := s.askStep
        .ok (t.setTime { t.time with target := some d })
      else .error (OD.timeSet.fail 0x0204)
    else .ok ((s.setTime { s.time with target := none }).stepTime d)

/-- TIME_SET (R45). -/
def execTimeSet (who : Requester) (v : TB128) (s : State) : Out :=
  .next (s.actOn who OD.timeSet 0 OD.timeSet.addr (v.pack : Nat) (writeTimeSet v))

/-! ## References (R46–R51) -/

/-- REFERENCE_QUALIFY (R47, R48): the reference has been valid for QUALIFY_TIME since it was disqualified or written last.  A PTP port
is valid in SLAVE or UNCALIBRATED, a PPS input while accepted edges follow one another within 1.5 s, a SyncE lane in lock. -/
def execReferenceQualify (entry : Nat) (s : State) : Out :=
  let v := s.nat OD.reference entry
  let inst := if refInst v = 255 then s.slavePort else some (refInst v)
  let since : Option Nat := match refType v, inst with
    | 1, some p => if s.ptpSlave p then some (s.ptpPort p).slaveAt else none
    | 2, some i => (match Tab.find s.time.ppsRun i with | some (a, b) => if s.passed b 1500000000 then none else some a | none => none)
    | 3, some l => if (Tab.get {} s.front.lanes l : Lane).lock then some (Tab.get {} s.front.lanes l : Lane).lockAt else none
    | _, _ => none
  let valid := match since with
    | some a => s.passed (max a (Tab.get 0 s.time.disqAt entry)) (s.nat OD.qualifyTime * oneSecond)
    | none => false
  if entry < 8 ∧ has s.time.qualified entry = false ∧ 1 ≤ refType v ∧ refType v ≤ 3 ∧ bit v 16 = true ∧ valid = true then
    .next (s.qualify entry)
  else .next s

/-- REFERENCE_DISQUALIFY (R47). -/
def execReferenceDisqualify (entry : Nat) (s : State) : Out := .next (s.disqualify entry)

/-- ANNOUNCE_TIMEOUT (R47): ANNOUNCE_TIMEOUT announce intervals have passed without an Announce; the entries that name the port are
disqualified, and timing firmware places it anew.  The announce interval is the profile's, which the spec leaves open. -/
def execAnnounceTimeout (port : Nat) (place : Nat) (s : State) : Out :=
  if s.passed (s.ptpPort port).announceAt (s.govN OD.announceTimeout port * Config.announceInterval port) then
    .next ((s.disqualifyInst 1 port).placePort port place)
  else .next s

/-- PPS_LOSS_TIMEOUT (R47): no edge for 1.5 s. -/
def execPpsLossTimeout (input : Nat) (s : State) : Out :=
  if (match Tab.find s.time.ppsRun input with | some e => s.passed e.2 1500000000 | none => true) then
    .next (s.disqualifyInst 2 input)
  else .next s

/-- SYNCE_LOCK_LOSS (R65): the lane's frequency reference is disqualified. -/
def execSynceLockLoss (lane : Nat) (s : State) : Out := .next (s.disqualifyInst 3 lane)

/-- WAIT_TO_RESTORE_EXPIRY (R48, R49): the entry of phase or frequency that has waited WAIT_TO_RESTORE replaces the selected one. -/
def execWaitToRestoreExpiry (freq : Bool) (s : State) : Out :=
  match if freq then s.time.waitingFreq else s.time.waiting with
  | some k =>
    if s.passed (if freq then s.time.waitFreqAt else s.time.waitAt) (s.nat OD.waitToRestore * oneSecond) = false then .next s
    else if s.refTakes freq k ∧ s.bestRef freq = some k then
      .next (if freq then s.setFreq (some k) else s.selectPhase k)
    else .next (s.setTime (if freq then { s.time with waitingFreq := none } else { s.time with waiting := none }))
  | none => .next s

/-- HOLDOVER_LIMIT (R51): HOLDOVER has lasted longer than HOLDOVER_LIMIT; MAJOR alarm 0x0204 and STATUS bit 3. -/
def execHoldoverLimit (s : State) : Out :=
  if s.time.servo = .holdover ∧ s.passed s.time.holdoverAt (s.nat OD.holdoverLimit * oneSecond) = true then .next ((s.setBits OD.statusSticky 0 8).raise 0x0204) else .next s

/-! ## PTP (R54–R61) -/

/-- Is a port the one of the selected phase reference? -/
def State.selectedPort (s : State) (p : Nat) : Bool :=
  match s.time.phaseSel with | some k => s.refNames 1 p k | none => false

/-- Does the hardware recognise a message as PTP (R54): EtherType 0x88F7, or UDP to port 319 or 320 over IPv4 or IPv6,
behind up to two VLAN tags and not inside eCPRI? -/
def ptpRecognised (x : PtpEncap) : Bool :=
  decide (x.vlans ≤ 2) && !x.inEcpri && (decide (x.etherType = 0x88F7) ||
    ((decide (x.etherType = 0x0800) || decide (x.etherType = 0x86DD))
      && (decide (x.udpPort = some 319) || decide (x.udpPort = some 320))))

/-- A message within the police rate counted, or dropped (R54).  How the rate is measured the spec does not say: the model
counts the messages of each whole second of the timebase (DESIGN CHOICE). -/
def State.police (s : State) (p : Nat) : Bool × State :=
  let x := s.ptpPort p
  let n := if x.second = s.nowSec then x.count else 0
  if s.nat OD.policeRate p ≤ n then
    (false, (s.bump OD.policedCount p).raiseAtMost oneSecond 0x020A p)
  else (true, s.setPtp p { x with second := s.nowSec, count := n + 1 })

/-- A whole Sync with the most recent Delay_Resp (R58): path delay and offset, an error of every entry that names the port,
and the measurement of the selected reference; the halves' rounding is open.  Before the first Delay_Resp it gives
nothing. -/
def State.syncOffset (s : State) (p : Nat) (t1 t2 corr : Int) (dtNs : Nat) (freq : Int) : State :=
  match (s.ptpPort p).respDelta with
  | none => s
  | some d =>
    let x := t2 - t1 - (corr + s.num OD.asymmetry p)
    let (mpd, t) := s.divOpen (x + d) 2
    let t := (t.setNum OD.meanPathDelay p mpd).setNum OD.ptpOffset p (x - mpd)
    let t := (t.refsNaming 1 p).foldl (State.noteErr (x - mpd)) t
    if t.selectedPort p then t.servoMeasure (x - mpd) dtNs freq else t

/-- Do two waiting messages make a pair: Sync and Follow_Up, or Delay_Req and Delay_Resp, of one sequenceId? -/
def PtpPend.pairs : PtpPend → PtpPend → Bool
  | .sync a .., .followUp b .. => decide (a = b)
  | .followUp a .., .sync b .. => decide (a = b)
  | .delayReq a .., .delayResp b .. => decide (a = b)
  | .delayResp a .., .delayReq b .. => decide (a = b)
  | _, _ => false

/-- What a pair gives: the offset of a two-step Sync, whose corrections add, or the latest Delay_Resp.  The asymmetry of
the link is added to the correction of Sync and taken from that of Delay_Resp (R57). -/
def State.pairUp (s : State) (p : Nat) : PtpPend → PtpPend → State
  | .sync _ t2 c dtNs freq, .followUp _ t1 d => s.syncOffset p t1 t2 (c + d) dtNs freq
  | .followUp _ t1 d, .sync _ t2 c dtNs freq => s.syncOffset p t1 t2 (c + d) dtNs freq
  | .delayReq _ t3, .delayResp _ t4 c =>
    s.setPtp p { s.ptpPort p with respDelta := some (t4 - t3 - (c - s.num OD.asymmetry p)) }
  | .delayResp _ t4 c, .delayReq _ t3 =>
    s.setPtp p { s.ptpPort p with respDelta := some (t4 - t3 - (c - s.num OD.asymmetry p)) }
  | _, _ => s

/-- A message of a pair: taken with the other where that waits, else it waits itself. -/
def State.pairMsg (s : State) (p : Nat) (m : PtpPend) : State :=
  let x := s.ptpPort p
  match x.pend.find? (fun e => m.pairs e.1) with
  | some o => (s.setPtp p { x with pend := x.pend.erase o }).pairUp p o.1 m
  | none => s.setPtp p { x with pend := x.pend ++ [(m, s.nowNs)] }

/-- A message for the offset engine of a port in SLAVE or UNCALIBRATED (R58). -/
def State.offsetEngine (s : State) (p : Nat) : PtpMsg → State
  | .sync seq twoStep t1 t2 corr dtNs freq =>
    if twoStep then s.pairMsg p (.sync seq t2 corr dtNs freq) else s.syncOffset p t1 t2 corr dtNs freq
  | .followUp seq t1 corr => s.pairMsg p (.followUp seq t1 corr)
  | .delayReqSent seq t3 => s.pairMsg p (.delayReq seq t3)
  | .delayResp seq t4 corr => s.pairMsg p (.delayResp seq t4 corr)
  | .announce _ => s
  | .other => s

/-- A PTP message of an enabled port: an Announce lets timing firmware place the port, the rest goes to the offset engine
of a slave. -/
def State.ptpMessage (s : State) (p : Nat) : PtpMsg → State
  | .announce place => (s.setPtp p { s.ptpPort p with announceAt := s.nowNs }).placePort p place
  | m => if s.ptpSlave p then s.offsetEngine p m else s

/-- PTP_EVENT_MESSAGE_RX (R54, R58): on a port with PTP enabled, a recognised message is policed and paired.  The egress of
a Delay_Req of the port is no received message. -/
def execPtpEventMessageRx (port : Nat) (encap : PtpEncap) (msg : PtpMsg) (s : State) : Out :=
  if 26 ≤ port ∨ s.mode.mode = .off ∨ s.mode.mode = .standby ∨ s.gov OD.ptpEnable port = 0 then .next s
  else match msg with
    | .delayReqSent _ _ => .next (s.ptpMessage port msg)
    | _ =>
      if ptpRecognised encap then
        match s.police port with
        | (false, t) => .next t
        | (true, t) => .next (t.ptpMessage port msg)
      else .next s

/-- The sequenceId of a waiting message. -/
def PtpPend.seq : PtpPend → Nat
  | .sync n .. => n
  | .followUp n .. => n
  | .delayReq n .. => n
  | .delayResp n .. => n

/-- PTP_UNPAIRED_DISCARD (R58): a message still unpaired after 1 s is discarded and counted. -/
def execPtpUnpairedDiscard (port : Nat) (seqId : Nat) (s : State) : Out :=
  let x := s.ptpPort port
  match x.pend.find? (fun m => decide (m.1.seq = seqId) && s.passed m.2 oneSecond) with
  | some m => .next (s.setPtp port { x with pend := x.pend.erase m, unpaired := satInc x.unpaired })
  | none => .next s

/-- A stamp for a frame of a port (R60, R61): queued, or lost where the queue holds 16. -/
def State.stampTx (s : State) (p : Nat) (tag : BitVec 8) (oneStep discarded : Bool) : State :=
  let q := Tab.get [] s.time.stampQ p
  if q.length < 16 then
    let e : Stamp := ⟨tag, discarded, oneStep, if discarded then ⟨0, 0, 0⟩ else s.now⟩
    s.setTime { s.time with stampQ := Tab.put [] s.time.stampQ p (q ++ [e]) }
  else (((s.setFlag OD.stampOverflow p true).bump OD.stampOverflowCount p).raise 0x0207 p)

/-- Is a frame that carries a Sync sent one-step (R56)? -/
def State.oneStepOn (s : State) (p : Nat) (sync : Option Nat) : Bool :=
  sync.isSome && decide (s.gov OD.ptpEnable p ≠ 0) && decide (s.gov OD.oneStep p ≠ 0)

/-- A Sync leaves a port with PTP (R56): in one-step its originTimestamp and correctionField carry the egress, filled in
before any MACsec encryption; else a Follow_Up carries it. -/
def State.syncSent (s : State) (p : Nat) (sync : Option Nat) : State :=
  match sync with
  | some seq =>
    if s.gov OD.ptpEnable p ≠ 0 then
      s.setTime { s.time with syncOut := s.time.syncOut ++ [⟨p, seq, s.now, decide (s.gov OD.oneStep p = 0)⟩] }
    else s
  | none => s

/-- STAMPED_FRAME_TX (R56, R60, R61): a frame with the stamp flag, the sequence of the Sync it carries, if it carries
one. -/
def execStampedFrameTx (port : Nat) (tag : BitVec 8) (sync : Option Nat) (discarded : Bool) (s : State) : Out :=
  if port < 26 then
    .next (if discarded then s.stampTx port tag false true
      else (s.stampTx port tag (s.oneStepOn port sync) false).syncSent port sync)
  else .next s

/-- TX_STAMP_QUEUE_POP (R60): the oldest entry is returned and removed; of an empty queue, VALID 0. -/
def execTxStampQueuePop (port : Nat) (s : State) : Out :=
  let (v, t) := s.popStamp port
  .next (t.answerFab .rdata 0 (leBytes 16 v))

/-! ## PPS and ToD (R66–R69) -/

/-- One second in 1/16 ns. -/
def second16 : Int := 16000000000

/-- Is a PPS input the selected phase reference? -/
def State.selectedPps (s : State) (i : Nat) : Bool :=
  match s.time.phaseSel with
  | some k => decide (refType (s.nat OD.reference k) = 2 ∧ refInst (s.nat OD.reference k) = i)
  | none => false

/-- PPS_IN_EDGE (R66): the corrected stamp's distance from the nearest whole second is the error; outside the
acceptance window of a locked input the edge is rejected, and three in a row disqualify the input.  The compensation is
taken from the stamp: the spec gives it no sign, and the delay of a cable makes the edge late (DESIGN CHOICE). -/
def execPpsInEdge (input : Nat) (stamp : TB128) (dtNs : Nat) (freq : Int) (s : State) : Out :=
  if 2 ≤ input then .next s
  else
    let c := stamp.in16 - s.num OD.ppsInDelay input
    let sec := (c + second16 / 2) / second16
    let e := c - sec * second16
    if s.time.servo = .locked ∧ s.selectedPps input = true ∧ (s.nat OD.ppsWindow * 16 : Nat) < mag e then
      let n := Tab.get 0 s.time.ppsRejRun input + 1
      let t := s.setTime { s.time with ppsRejRun := Tab.put 0 s.time.ppsRejRun input n }
      let t := (t.bump OD.ppsRejected).raise 0x0209 input
      .next (if 3 ≤ n then t.disqualifyInst 2 input else t)
    else
      let t := s.setTime { s.time with
        ppsRejRun := Tab.put 0 s.time.ppsRejRun input 0, ppsEdge := Tab.set s.time.ppsEdge input sec.toNat
        ppsRun := Tab.set s.time.ppsRun input ((match Tab.find s.time.ppsRun input with
          | some (a, b) => if s.passed b 1500000000 then s.nowNs else a
          | none => s.nowNs), s.nowNs) }
      let t := (t.refsNaming 2 input).foldl (State.noteErr e) t
      .next (if t.selectedPps input then t.servoMeasure e dtNs freq else t)

/-- TOD_IN_MESSAGE (R67): a message of the format and rate that TOD_IN_CONFIG sets, paired with the edge of its input;
three messages that disagree with the timebase and agree with one another correct the seconds as a step. -/
def execTodInMessage (seconds : Nat) (utc : Bool) (ownOffset : Option Int) (sinceEdgeMs : Nat) (fmt baud : Nat) (s : State) :
    Out :=
  match Tab.find s.time.ppsEdge (s.nat OD.todInPair) with
  | none => .next s
  | some edge =>
    if 900 < sinceEdgeMs ∨ fmt ≠ bits (s.nat OD.todInConfig) 1 0 ∨ baud ≠ bits (s.nat OD.todInConfig) 3 2 then .next s
    else
      let tai : Int := (seconds : Int) + (if utc then ownOffset.getD (s.num OD.taiUtc) else 0)
      let named : Int := (edge : Int) + (if bit (s.nat OD.todInConfig) 4 then 1 else 0)
      let d := tai - named
      if d = 0 then .next (s.setTime { s.time with todRun := none })
      else
        let n := match s.time.todRun with | some (o, k) => if o = d then k + 1 else 1 | none => 1
        let t := s.setTime { s.time with todRun := some (d, n), todDisagree := satInc s.time.todDisagree }
        if 3 ≤ n then .next ((t.setTime { t.time with todRun := none }).bigError (-d * second16 * 1000000000))
        else .next t

/-- PPS_OUT_EDGE (R68): at the first cycle of the timebase (1.6 ns) at or after a whole second plus the output's
offset. -/
def execPpsOutEdge (out : Nat) (s : State) : Out :=
  if out < 2 ∧ s.outputRuns out = true ∧ s.pinTri (40 + out) = false ∧ s.sincePps out < 26 then
    .next (s.setTime { s.time with ppsHigh := insertN s.time.ppsHigh out })
  else .next s

/-- PPS_OUT_PULSE_END (R68): the output falls once the pulse has lasted PPS_OUT_WIDTH. -/
def execPpsOutPulseEnd (out : Nat) (s : State) : Out :=
  if (s.nat OD.ppsOutWidth * 16000 : Nat) ≤ s.sincePps out then
    .next (s.setTime { s.time with ppsHigh := removeN s.time.ppsHigh out })
  else .next s

/-- TOD_OUT_SEND (R69): one message in each second, which begins the set delay after the PPS_OUT0 edge it describes, in
the format and at the rate of TOD_OUT_CONFIG. -/
def execTodOutSend (s : State) : Out :=
  let cfg := s.nat OD.todOutConfig
  let sec := ((s.now16 - s.num OD.ppsOutOffset 0) / second16).toNat
  if s.outputRuns 2 = true ∧ s.pinTri 42 = false ∧ (bits cfg 24 16 * 16000000 : Nat) ≤ s.sincePps 0
      ∧ (s.time.todSent.getLast?.map TodMsg.second) ≠ some sec then
    .next (s.setTime { s.time with todSent := s.time.todSent ++ [⟨sec, bits cfg 1 0, bits cfg 3 2⟩] })
  else .next s

/-! ## Air time (R71–R75) -/

/-- SLOT_BOUNDARY (R72): next-slot values of the cell take effect. -/
def execSlotBoundary (cell : Nat) (s : State) : Out :=
  let t := s.takeSlot cell
  .next (t.setTime { t.time with slotAt := Tab.set t.time.slotAt cell s.time.air })

/-- SUBFRAME_BOUNDARY (R72, R296): next-slot values bound to no cell take effect and routes revert. -/
def execSubframeBoundary (s : State) : Out :=
  let t := s.takeSubframe
  .next ({ t with fab := { t.fab with linksBack := [] } }.setTime { t.time with subAt := some s.time.air })

/-- The GPIO pins set to the frame strobe that may drive (R466, R471). -/
def State.strobePins (s : State) : List Nat :=
  (List.range 32).filter (fun p =>
    let v := s.nat OD.gpioConfig p
    decide (bits v 5 4 = 1) && bit v 0 && has s.pins.driving p && !s.pinTri p
      && decide ((if p < 16 then s.pins.bankA else s.pins.bankB) = .steady))

/-- FRAME_BOUNDARY (R71, R471): SFN, computed from the count, advances, and every frame strobe rises. -/
def execFrameBoundary (s : State) : Out :=
  if s.mode.mode = .configure ∨ s.mode.mode.runs = true then
    .next { s with pins := { s.pins with strobe := s.strobePins.foldl insertN s.pins.strobe, strobeAt := s.nowNs } }
  else .next s

/-- SFN_WRAP (R75): SFN and HFN are computed from the count, so the wrap changes nothing else. -/
def execSfnWrap (s : State) : Out := .next s

/-- HFN_WRAP (R75): as SFN_WRAP. -/
def execHfnWrap (s : State) : Out := .next s

/-- AIR_TICK_WRAP (R75): the 48-bit count and its era are computed from the full count. -/
def execAirTickWrap (s : State) : Out := .next s

/-! ## Host time (R76–R78) -/

/-- Host time becomes invalid (R78). -/
def State.hostTimeInvalid (s : State) : State :=
  ((s.setTime { s.time with ptmGood := 0, ptmReq := none }).setFlag OD.ptmValid 0 false).condition 0x0208 0 true

/-- PTM_REQUEST (R76): one every PTM interval. -/
def execPtmRequest (s : State) : Out :=
  let due := match s.time.ptmAt with | some a => s.passed a (s.nat OD.ptmInterval * 1000000) | none => true
  if s.time.ptmOn && due then .next (s.setTime { s.time with ptmReq := some s.now16, ptmAt := some s.nowNs }) else .next s

/-- A list of integers in ascending order. -/
def insertI (v : Int) : List Int → List Int
  | [] => [v]
  | a :: t => if v ≤ a then v :: a :: t else a :: insertI v t

/-- The median of a list (R77): of an even number of values the mean of the two in the middle, its rounding
open. -/
def State.median (s : State) (l : List Int) : Int × State :=
  let v := l.foldr insertI []
  let n := v.length
  if n % 2 = 1 then (v.getD (n / 2) 0, s) else s.divOpen (v.getD (n / 2 - 1) 0 + v.getD (n / 2) 0) 2

/-- PTM_RESPONSE (R76–R78): the offset and link delay of the pair; a delay above 10 µs makes host time invalid,
four good pairs in a row make it valid.  The delay and the time of the pair, its response's ingress, are those of the
latest pair; the offsets keep their values while host time is invalid.  DESIGN CHOICE, where R77 is silent: the median is
that of the offsets there are before 8 exist; a pair with a delay above 10 µs gives no offset; offsets from before an
invalidation stay among the last 8; and a delay below 0 is a good pair's, shown as 0. -/
def execPtmResponse (t2 t3 : Int) (t4 : TB128) (s : State) : Out :=
  match s.time.ptmReq with
  | none => .next s
  | some t1 =>
    let d4 := t4.in16
    let (off, t) := s.divOpen ((t2 - t1) + (t3 - d4)) 2
    let (delay, t) := t.divOpen ((d4 - t1) - (t3 - t2)) 2
    let t := (t.setNum OD.ptmLinkDelay 0 (clamp delay 0 OD.ptmLinkDelay.hi)).setNum OD.ptmPairTime 0 (t4.pack : Nat)
    if 160000 < delay then .next t.hostTimeInvalid
    else
      let good := t.time.ptmGood + 1
      let t := t.setTime { t.time with ptmReq := none, ptmGood := good, ptmOffsets := (off :: t.time.ptmOffsets).take 8 }
      let t := if 4 ≤ good then (t.setFlag OD.ptmValid 0 true).clear 0x0208 else t
      if t.flag OD.ptmValid then
        let (m, t) := t.median t.time.ptmOffsets
        .next ((t.setNum OD.hostOffset 0 off).setNum OD.hostOffsetMedian 0 m)
      else .next t

/-- PTM_RESPONSE_TIMEOUT (R78): no ResponseD within 1 ms of the Request. -/
def execPtmResponseTimeout (s : State) : Out :=
  let late := match s.time.ptmAt with | some a => s.passed a 1000000 | none => false
  if s.time.ptmReq.isSome && late then .next s.hostTimeInvalid else .next s

end Sys2Proof.Machine
end

