-- ==== Sys2Proof/Machine/Transform.lean ====
section
/-!
DEFINITION. What a transform engine computes (R183–R185): the exact transform of an item, to which the engine's internal arithmetic
adds a deviation the spec does not bound.
-/

namespace Sys2Proof.Machine

open Sys2Proof

/-- Blocks of sample data: 12 subcarriers, bias 0 (Table 06-3). -/
def sampleBlocks (n : Nat) : Blocks := { n := cdiv n 12, per := 12 }

/-- The phase of item `j` in units of 2π/65,536 (R184). -/
def tePhase (d j : Nat) : Nat := (bits d 239 224 + j * bits d 255 240) % 65536

/-- Bin `k` of the transform of `n` samples, `half` a subcarrier higher where set: HALF_SC, the shift of LTE uplink, puts
subcarrier k at frequency k + 1/2 (DEDUCED from the name: the spec gives no formula). -/
def dftBin (n : Nat) (half : Bool) (xs : List Val) (k : Nat) : Val :=
  vSum (xs.zipIdx.map (fun e => vMul e.1 (some (expi (-(e.2 * (2 * k + if half then 1 else 0) : Nat)) (2 * n)))))

/-- Sample `m` of the inverse transform of `n` bins, without a factor 1/n (DESIGN CHOICE: R184 names none, and SHIFT reaches
log2 of the largest size). -/
def idftSample (n : Nat) (half : Bool) (ys : List (Nat × Val)) (m : Nat) : Val :=
  vSum (ys.map (fun e => vMul e.2 (some (expi (m * (2 * e.1 + if half then 1 else 0) : Nat) (2 * n)))))

/-- The transform bin of subcarrier `i`: FIRST_BIN and on, modulo N. -/
def teBin (d n i : Nat) : Nat := ((signed 16 (bits d 207 192) + i) % (n : Int)).toNat

/-- FWD (R184): the cyclic prefix dropped, transformed, turned by −θ; NUM_SC bins. -/
def teForward (d j : Nat) (xs : List Val) : List Val :=
  let n := 2 ^ bits d 134 131
  let body := (xs.drop (bits d 165 154)).take n
  (List.range (bits d 223 208)).map (fun i =>
    vMul (dftBin n (bit d 181) body (teBin d n i)) (some (expi (-(tePhase d j : Nat)) 65536)))

/-- The useful part of INV (R184): the subcarriers at their bins, every other bin zero, turned by +θ, inverse-transformed. -/
def teInverse (d j : Nat) (xs : List Val) : List Val :=
  let n := 2 ^ bits d 134 131
  let ys := xs.zipIdx.map (fun e => (teBin d n e.2, vMul e.1 (some (expi (tePhase d j : Nat) 65536))))
  (List.range n).map (idftSample n (bit d 181) ys)

/-- The raised-cosine rise over WIN_LEN samples at sample `i`; where its samples lie is open (Config.taperPhase). -/
def taperRise (w i : Nat) : Rat :=
  let x : Int := (2 * piFx * (Config.taperPhase + (i : Rat)).num) / (2 * (w : Int) * ((Config.taperPhase + (i : Rat)).den : Int))
  (1 - (cosFx x : Rat) / (unitFx : Rat)) / 2

/-- INV's output (R184): the last CP_LEN samples in front of the useful part, its first WIN_LEN samples tapered by the rise,
the falling taper of the previous item's WIN_LEN samples after its useful part added. -/
def teWindowed (d : Nat) (body prev : List Val) : List Val :=
  let n := 2 ^ bits d 134 131
  let cp := bits d 165 154
  let w := bits d 174 166
  (List.range (cp + n)).map (fun (i : Nat) =>
    let v := body.getD ((((i : Nat) : Int) - (cp : Int)) % (n : Int)).toNat none
    if w ≤ i then v
    else
      let v := v.map (Cq.scale (taperRise w i))
      if prev.isEmpty then v else vAdd v ((prev.getD (i % n) none).map (Cq.scale (1 - taperRise w i))))

/-- One item of a transform job; `prev` is the useful part of the previous item (INV).  The result, and its own useful part. -/
def teItem (d j seed : Nat) (prev : List Val) (b : List Byte) : ItemEnd × List Val :=
  let mode := bits d 130 128
  let n := 2 ^ bits d 134 131
  let count := if mode = 0 then n + bits d 165 154 else if mode = 1 then bits d 223 208 else bits d 147 135
  let xs := readElems (bits d 150 148) count (sampleBlocks count) b
  let body := if mode = 1 then teInverse d j xs else []
  let ys := if mode = 0 then teForward d j xs else if mode = 1 then teWindowed d body prev
    else (List.range count).map (dftBin count false xs)
  let ys := ys.zipIdx.map (fun e => deviate seed e.2 e.1)
  let fmt := bits d 153 151
  let (out, sat) := writeElems fmt (sampleBlocks ys.length) (bits d 178 175) (bits d 180 179) seed ys
  ({ out := out, sat := sat
     metric := some (meanPower seed (readElems fmt ys.length (sampleBlocks ys.length) out)) }, body)

end Sys2Proof.Machine
end

