-- ==== Sys2Proof/Machine/Engines.lean ====
section
/-!
DEFINITION. The signal engines (chapter 06) and the DMA engines (R317): the job model, the checks of each
descriptor, the sizes of inputs and outputs, and how a job reads and writes its items.  What an item's output holds is computed in
Transform, Matrix, Coding and Harq.
-/

namespace Sys2Proof.Machine

open Sys2Proof

/-! ## Jobs of units -/

/-- The job of a unit. -/
def State.job (s : State) (cls u : Nat) : Option Job := Tab.find s.edge.jobs (unitKey cls u)

/-- The job of a unit set. -/
def State.setJob (s : State) (cls u : Nat) (j : Job) : State :=
  { s with edge := { s.edge with jobs := Tab.set s.edge.jobs (unitKey cls u) j } }

/-- The job of a unit gone. -/
def State.dropJob (s : State) (cls u : Nat) : State :=
  { s with edge := { s.edge with jobs := Tab.del s.edge.jobs (unitKey cls u) } }

/-- A free number drawn. -/
def State.drawNat (s : State) : Nat × State := (Config.free s.freeCtr, { s with freeCtr := s.freeCtr + 1 })

/-! ## Descriptors (Tables 06-1 to 06-9) -/

/-- ITEMS, strides and outputs of a descriptor's header. -/
def dItems (d : Nat) : Nat := bits d 55 44
def dHamper (d : Nat) : Nat := bits d 21 16
def dStatus (d : Nat) : Bool := bit d 23

/-- The header of a descriptor is sound: DESC_LEN 64, ITEMS at least 1, reserved bits zero. -/
def headerOk (d : Nat) : Bool :=
  decide (bits d 15 0 = 64) && decide (1 ≤ dItems d) && decide (bits d 63 56 = 0)

/-- What a descriptor of one mode asks of an engine. -/
structure EngMode where
  /-- No field is out of its range and no reserved bit is set. -/
  valid : Bool
  /-- The mode uses ARG2, of so many bytes. -/
  arg2 : Bool := false
  in2 : Nat := 0
  /-- Bytes of one item of ARG1 and of output 0, packed. -/
  inItem : Nat
  outItem : Nat

/-- Bytes of `n` elements in a numeric format (Table 06-3), with `blocks` exponents in BFP16. -/
def fmtBytes (fmt n blocks : Nat) : Nat :=
  if fmt = 1 then cdiv (4 * n + 2 * blocks) 64 * 64 else if fmt = 3 then 8 * n else 4 * n

/-- Bytes of sample data: a block is 12 subcarriers. -/
def sampleBytes (fmt n : Nat) : Nat := fmtBytes fmt n (cdiv n 12)

/-- A transform engine's descriptor (Table 06-4). -/
def teMode (d : Nat) : EngMode :=
  let mode := bits d 130 128
  let n := 2 ^ bits d 134 131
  let cp := bits d 165 154
  let nsc := bits d 223 208
  let first := signed 16 (bits d 207 192)
  let czt := bits d 147 135
  let nOut := if mode = 0 then nsc else if mode = 1 then n + cp else czt
  let sized := decide (7 ≤ bits d 134 131 ∧ bits d 134 131 ≤ 13) && decide (1 ≤ nsc ∧ nsc ≤ n)
    && decide (-(n / 2 : Nat) ≤ first ∧ first ≤ (n / 2 : Nat) - 1)
  { valid := decide (bits d 150 148 ≤ 3) && decide (bits d 153 151 ≤ 3) && decide (cp ≤ 2048)
      && decide (bits d 174 166 ≤ 256) && decide (mode ≠ 1 ∨ bits d 174 166 ≤ cp) && decide (bits d 178 175 ≤ 13)
      && decide (bits d 180 179 ≠ 3) && decide (bits d 191 182 = 0) && decide (bits d 511 256 = 0)
      && (if mode = 2 then decide (2 ≤ czt ∧ czt ≤ 4096) else sized)
    inItem := sampleBytes (bits d 150 148) (if mode = 0 then n + cp else if mode = 1 then nsc else czt)
    outItem := sampleBytes (bits d 153 151) nOut }

/-- A matrix engine's descriptor (Table 06-5).  The reference of CHEST is NSC elements for each layer and the
interpolator's coefficients (DESIGN CHOICE: the spec does not lay ARG2 out). -/
def meMode (d : Nat) : EngMode :=
  let mode := bits d 130 128
  let na := bits d 137 131
  let nl := bits d 143 138
  let nsc := bits d 157 145
  let gran := bits d 162 158
  let g := cdiv nsc (12 * gran)
  let inF := bits d 188 186
  let outF := bits d 191 189
  let weights := g * fmtBytes 1 (nl * na) 1
  let samples (fmt k : Nat) : Nat := fmtBytes fmt (k * nsc) (k * cdiv nsc 12)
  let square := 8 * nl * nl
  { valid := decide (bits d 177 176 ≠ 3) && decide (bits d 511 224 = 0) && decide (1 ≤ nl)
      && (if 4 ≤ mode then decide (nl ≤ 32)
          else decide (1 ≤ na ∧ na ≤ 64) && decide (nl ≤ 16) && decide (1 ≤ nsc ∧ nsc ≤ 3300)
            && decide (1 ≤ gran ∧ gran ≤ 16) && decide (inF ≤ 1) && has [0, 1, 3] outF
            && decide (mode ≠ 0 ∨ 1 ≤ bits d 167 163) && (decide (mode ≠ 3) || has [1, 2, 4, 6, 8, 10] (bits d 171 168)))
    arg2 := has [0, 2, 3] mode
    in2 := if mode = 0 then 4 * (nl * nsc + bits d 167 163) else weights
    inItem := if mode = 0 then samples inF na else if mode = 1 then g * fmtBytes inF (na * nl) 1
      else if mode = 2 then samples inF (if bit d 144 then nl else na) else if mode = 3 then samples inF na else square
    outItem := if mode = 0 then g * fmtBytes outF (na * nl) 1 else if mode = 1 then g * fmtBytes outF (nl * na) 1
      else if mode = 2 then samples outF (if bit d 144 then na else nl) else if mode = 3 then nl * nsc * bits d 171 168
      else square }

/-- Is Z a lifting size of TS 38.212 Table 5.3.2-1 (PRESUMED: the table is not in the spec)? -/
def liftingSize (z : Nat) : Bool :=
  decide (2 ≤ z ∧ z ≤ 384) && [2, 3, 5, 7, 9, 11, 13, 15].any (fun a => (List.range 8).any (fun j => decide (a * 2 ^ j = z)))

/-- Bits of a CRC code of Table 06-6. -/
def crcBits (c : Nat) : Nat := [0, 24, 24, 16].getD c 0

/-- Positions of the circular buffer after the punctured columns: 66Z or 50Z. -/
def bufferBits (bg2 : Bool) (z : Nat) : Nat := if bg2 then 50 * z else 66 * z

/-- An LDPC decoder's descriptor (Table 06-6). -/
def ldMode (d : Nat) : EngMode :=
  let z := bits d 137 129
  let nin := bits d 179 165
  { valid := liftingSize z && decide (1 ≤ nin ∧ nin ≤ bufferBits (bit d 128) z) && decide (1 ≤ bits d 184 180)
      && decide (bits d 186 185 ≠ 3) && decide (bits d 511 189 = 0)
    inItem := nin
    outItem := cdiv (bits d 151 138 - crcBits (bits d 188 187)) 8 }

/-- An LDPC encoder's descriptor (R191). -/
def leMode (d : Nat) : EngMode :=
  let z := bits d 137 129
  { valid := liftingSize z && decide (bits d 511 165 = 0)
    inItem := cdiv (bits d 151 138) 8
    outItem := cdiv (bufferBits (bit d 128) z) 8 }

/-- A PL descriptor (Table 06-7).  A decode writes its K bits. -/
def plMode (d : Nat) : EngMode :=
  let mode := bits d 130 128
  let k := bits d 145 135
  let e := bits d 159 146
  let dec := decide (mode % 2 = 0)
  { valid := decide (1 ≤ e ∧ e ≤ 8192) && decide (bits d 511 180 = 0)
      && (if mode ≤ 1 then decide (5 ≤ bits d 134 131 ∧ bits d 134 131 ≤ 10) && decide (12 ≤ k ∧ k ≤ 1023)
          else if mode ≤ 3 then decide (1 ≤ k ∧ k ≤ 1023) else decide (3 ≤ k ∧ k ≤ 11))
    inItem := if dec then e else cdiv k 8
    outItem := if dec then cdiv k 8 else cdiv e 8 }

/-- Is K one of the 188 block sizes of TS 36.212 Table 5.1.3-3 (PRESUMED: the table is not in the spec)? -/
def turboSize (k : Nat) : Bool :=
  (decide (40 ≤ k ∧ k ≤ 512) && decide (k % 8 = 0)) || (decide (512 < k ∧ k ≤ 1024) && decide (k % 16 = 0))
    || (decide (1024 < k ∧ k ≤ 2048) && decide (k % 32 = 0)) || (decide (2048 < k ∧ k ≤ 6144) && decide (k % 64 = 0))

/-- A turbo decoder's descriptor (Table 06-8).  A decode writes its K bits. -/
def tdMode (d : Nat) : EngMode :=
  { valid := turboSize (bits d 140 128) && decide (1 ≤ bits d 144 141) && decide (bits d 146 145 ≠ 3)
      && decide (bits d 511 147 = 0)
    inItem := 3 * (bits d 140 128 + 4)
    outItem := cdiv (bits d 140 128) 8 }

/-- Bytes of one soft region (R195). -/
def softBytes (d : Nat) : Nat := 64 * (1 + cdiv (bits d 156 140) 102)

/-- The soft regions of item `j` (R195). -/
def softRd (d j : Nat) : Nat := bits d 252 224 * 128 + j * softBytes d
def softWr (d j : Nat) : Nat := bits d 284 256 * 128 + j * softBytes d

/-- An HQ descriptor (Table 06-9); no region it writes overlaps one it reads, of any of its items (R197; with NDI 1 SOFT_RD is not
read, and the model takes that for no read region: DESIGN CHOICE).  ARG2 holds the items' E where E is 0. -/
def hqMode (d : Nat) : EngMode :=
  let ncb := bits d 156 140
  let e := bits d 180 163
  let up := bit d 128
  { valid := decide (bits d 130 129 ≠ 3) && decide (1 ≤ ncb ∧ ncb ≤ 25344) && decide (bits d 184 182 ≤ 4)
      && (decide (bits d 130 129 = 2) || liftingSize (bits d 139 131))
      && decide (bits d 191 186 = 0) && decide (bit d 223 = false) && decide (bits d 255 253 = 0)
      && decide (bits d 287 285 = 0) && decide (bits d 511 301 = 0)
      && (!up || bit d 181 || !overlaps (softRd d 0) (dItems d * softBytes d) (softWr d 0) (dItems d * softBytes d))
    arg2 := decide (e = 0)
    in2 := 4 * dItems d
    inItem := if up then e else cdiv ncb 8
    outItem := if up then ncb else cdiv e 8 }

/-- The mode of a descriptor for a class; none where its MODE is reserved. -/
def engMode (cls d : Nat) : Option EngMode :=
  match cls with
  | 2 => if bits d 130 128 ≤ 5 then some (meMode d) else none
  | 3 => if bits d 130 128 ≤ 2 then some (teMode d) else none
  | 4 => some (ldMode d)
  | 5 => some (leMode d)
  | 6 => if bits d 130 128 ≤ 5 then some (plMode d) else none
  | 7 => some (tdMode d)
  | 8 => some (hqMode d)
  | _ => none

/-- The number of a descriptor's mode within its class. -/
def modeCode (cls d : Nat) : Nat :=
  if cls = 2 ∨ cls = 3 ∨ cls = 6 then bits d 130 128 else if cls = 8 then bits d 128 128 else 0

/-- The offset of an item of one size at a stride (0: packed). -/
def itemAt (j size stride : Nat) : Nat := if stride = 0 then j * size else j * stride

/-- Bytes of item `j` of ARG1 and of output 0: those of the mode, but for an HQ job whose items' E ARG2 gives. -/
def EngMode.inAt (m : EngMode) (d : Nat) (es : List Nat) (j : Nat) : Nat :=
  if es.isEmpty then m.inItem else if bit d 128 then es.getD j 0 else m.inItem
def EngMode.outAt (m : EngMode) (d : Nat) (es : List Nat) (j : Nat) : Nat :=
  if es.isEmpty then m.outItem else if bit d 128 then m.outItem else cdiv (es.getD j 0) 8

/-- Bytes of the first `j` items of an input or output. -/
def sumBytes (size : Nat → Nat) : Nat → Nat
  | 0 => 0
  | j + 1 => sumBytes size j + size j

/-- The offset of item `j` of ARG1 and of output 0: IN_STRIDE and OUT_STRIDE bytes apart, or packed (Table 06-1). -/
def EngMode.inOff (m : EngMode) (d : Nat) (es : List Nat) (j : Nat) : Nat :=
  if es.isEmpty then itemAt j m.inItem (bits d 95 64) else if bits d 95 64 = 0 then sumBytes (m.inAt d es) j else j * bits d 95 64
def EngMode.outOff (m : EngMode) (d : Nat) (es : List Nat) (j : Nat) : Nat :=
  if es.isEmpty then itemAt j m.outItem (bits d 127 96) else if bits d 127 96 = 0 then sumBytes (m.outAt d es) j else j * bits d 127 96

/-! ## Ends of an attempt -/

/-- The attempt ends with a fault report of cause SLUG. -/
def State.engSlugFault (s : State) (cls u h att : Nat) : State := (s.dropJob cls u).slugFaultAlarm h att

/-- The attempt ends with result INPUT_INVALID. -/
def State.engInvalid (s : State) (cls u h att : Nat) : State := (s.dropJob cls u).complete ⟨h, att, 5, [], false⟩

/-- The attempt completes OK, naming its outputs under OUT_BIND0 and OUT_BIND1. -/
def State.engDone (s : State) (cls u : Nat) (j : Job) (emitted : Bool) : State :=
  let pairs := (j.outs.zip [bits j.desc 33 24, bits j.desc 43 34]).map (fun p => (p.2, p.1))
  let pairs := if j.outs.length = 1 ∧ dStatus j.desc = true ∧ (cls = 10 ∨ cls = 11 ∧ bits j.desc 159 128 = 0)
    then j.outs.map (fun b => (bits j.desc 43 34, b)) else pairs
  (s.dropJob cls u).complete ⟨j.handle, j.attempt, 0, pairs, emitted⟩

/-- The requester of an engine's accesses (R180). -/
def engAcc (cls u part h att : Nat) : Acc where
  kind := if cls = 11 then .dma else if cls = 9 ∨ cls = 10 then .fucu else .engine
  unit := if cls = 10 then 4 + u else if cls = 9 ∨ cls = 11 then u else engineNumber cls u
  part := some part
  priv := false
  slug := some (h, att)
  peer := false

/-! ## Items (R177 step 5, R179) -/

/-- A status record (Table 06-2). -/
def statusRec (item : Nat) (sat crc sing nc : Bool) (iters metric : Nat) : Nat :=
  item % 4096 + (if sat then 2 ^ 12 else 0) + (if crc then 2 ^ 13 else 0) + (if sing then 2 ^ 14 else 0)
    + (if nc then 2 ^ 15 else 0) + iters % 256 * 2 ^ 16 + metric % 2 ^ 32 * 2 ^ 32

/-- An item ends: counted with its conditions (Table 06-15); its status record, whose METRIC is free where Table 06-2 does not define it
for the class. -/
def State.itemStatus (s : State) (cls u : Nat) (r : ItemEnd) (j : Nat) : Nat × State :=
  let n := engineNumber cls u
  let t := s.bump OD.itemsDone n
  let t := if r.sat then t.bump OD.saturatedItems n else t
  let t := if r.crc then t.bump OD.crcFailed n else t
  let t := if r.sing then t.bump OD.singularItems n else t
  match r.metric with
  | some k => (statusRec j r.sat r.crc r.sing r.nc r.iters k, t)
  | none => let (k, t) := t.drawNat; (statusRec j r.sat r.crc r.sing r.nc r.iters k, t)

/-- Clamp to ±127. -/
def sat127 (v : Int) : Int := clamp v (-127) 127

/-- Value `k` of the SOFT5 lines of a region (Table 06-3). -/
def soft5At (lines : List Byte) (k : Nat) : Int :=
  signed 5 (leNat ((lines.drop (k / 102 * 64)).take 64) / 2 ^ (5 * (k % 102)))

/-- A SOFT5 line of 102 values. -/
def soft5Line (vs : List Int) : List Byte :=
  leBytes 64 ((List.range 102).foldl (fun n j => n + unsigned 5 (vs.getD j 0) * 2 ^ (5 * j)) 0)

/-- One item of an uplink HARQ job (R196), its output at `out`, `llr` the values received and `before` those of the items before it: the
status of its accesses, and the state after them. -/
def State.hqItem (s : State) (q : Acc) (d before : Nat) (llr : List Int) (out j : Nat) : Nat × State :=
  let ncb := bits d 156 140
  let sh := bits d 184 182
  let sums := hqSums d before llr
  let reach := (List.range ncb).foldl (fun m k => if (sums.getD k none).isSome then k + 1 else m) 0
  let (e, old, s) := if bit d 181 then (0, [], s) else s.memRead q (softRd d j) (softBytes d)
  if e ≠ 0 then (e, s)
  else
    let x := max (leNat (old.take 4) % (ncb + 1)) reach
    let comb := (List.range x).map (fun k =>
      sat127 ((if bit d 181 then 0 else soft5At (old.drop 64) k * 2 ^ sh) + (sums.getD k none).getD 0))
    let (e, s) := if comb.isEmpty then (0, s) else s.memWrite q out (comb.map (fun v => BitVec.ofInt 8 v))
    if e ≠ 0 then (e, s)
    else
      let soft := comb.map (fun v => clamp (rnd v sh 2) (-15) 15)
      let lines := (List.range (cdiv ncb 102)).flatMap (fun l => soft5Line ((soft.drop (102 * l)).take 102))
      s.memWrite q (softWr d j) (leBytes 64 x ++ lines)

/-- Draws that one item of an engine may take (Config.deviation, Config.engineOpen): one for each of its matrices. -/
def State.drawSeed (s : State) : Nat × State := (s.freeCtr, { s with freeCtr := s.freeCtr + 512 })

/-- What an item of a job computes from its input and ARG2: E bits of rate matching `e`, `before` those of the items before it, and
the useful part of the previous item of INV. -/
def State.engItem (s : State) (cls d j seed e before : Nat) (prev : List Val) (b a2 : List Byte) : ItemEnd × List Val :=
  match cls with
  | 2 => (meItem d seed (((fmtOf 32).exact (s.govN OD.pivotMin)).getD 0) b a2, [])
  | 3 => teItem d j seed prev b
  | 4 => (ldItem d (s.govN OD.ldOffset) b, [])
  | 5 => (leItem d b, [])
  | 6 => (plItem d b, [])
  | 7 => (tdItem d (s.govN OD.tdExtScale) b, [])
  | _ => ({ out := hqDown d before e b }, [])

/-- E of each item of an HQ job, from the bytes of ARG2 that hold them. -/
def hqSizes (items : Nat) (arg2 : List Byte) : List Nat :=
  (List.range items).map (fun j => leNat ((arg2.drop (4 * j)).take 4))

/-- E of item `j` of an HQ job (Table 06-9). -/
def hqE (d : Nat) (es : List Nat) (j : Nat) : Nat := if es.isEmpty then bits d 180 163 else es.getD j 0

/-- Item `j` of a job: its input read, its result computed and written, and its status record; with the status of the access that failed
(0 where none did) and what the next item needs of this one. -/
def State.engOne (s : State) (cls u : Nat) (q : Acc) (m : EngMode) (d : Nat) (es : List Nat) (arg1 out0 out1 : Nat)
    (a2 : List Byte) (prev : List Val) (j : Nat) : Nat × List Val × State :=
  match if m.inAt d es j = 0 then (0, [], s) else s.memRead q (arg1 + m.inOff d es j) (m.inAt d es j) with
  | (0, b, s) =>
    match s.drawSeed with
    | (seed, s) =>
      let outAt := out0 + m.outOff d es j
      let before := sumBytes (hqE d es) j
      let up := decide (cls = 8) && bit d 128
      let r := if up then ({ out := [] }, []) else s.engItem cls d j seed (hqE d es j) before prev b a2
      let out := r.1.out.take (m.outAt d es j)
      match if up then s.hqItem q d before (b.map llrOf) outAt j
        else if out.isEmpty then (0, s) else s.memWrite q outAt out with
      | (0, s) =>
        match s.itemStatus cls u r.1 j with
        | (v, s) =>
          let w := if dStatus d then s.memWrite q (out1 + 8 * j) (leBytes 8 v) else (0, s)
          (w.1, r.2, w.2)
      | (e, s) => (e, [], s)
  | (e, _, s) => (e, [], s)

/-- The items from `j` on, in ascending order; the first access that fails ends them with its status. -/
def State.engItems (s : State) (cls u : Nat) (q : Acc) (m : EngMode) (d : Nat) (es : List Nat) (arg1 out0 out1 : Nat)
    (a2 : List Byte) (prev : List Val) : Nat → Nat → Nat × State
  | 0, _ => (0, s)
  | n + 1, j =>
    match s.engOne cls u q m d es arg1 out0 out1 a2 prev j with
    | (0, prev, s) => s.engItems cls u q m d es arg1 out0 out1 a2 prev n (j + 1)
    | (e, _, s) => (e, s)

/-- The items of a job that holds its outputs (R177 step 5). -/
def State.engProcess (s : State) (cls u : Nat) (m : EngMode) (x : Slug) (j : Job) : State :=
  let q := engAcc cls u x.part j.handle j.attempt
  let addr (k : Nat) : Nat := ((j.outs[k]?).bind (fun b => s.bufAddr b)).getD 0
  let (e, a2, t) := if m.arg2 = true ∧ m.in2 ≠ 0 ∧ cls ≠ 8 then s.memRead q (s.argAt x 2) m.in2 else (0, [], s)
  if e ≠ 0 then t.engSlugFault cls u j.handle j.attempt
  else match t.engItems cls u q m j.desc j.es (t.argAt x 1) (addr 0) (addr 1) a2 [] (dItems j.desc) 0 with
    | (0, t) => t.setJob cls u { j with ready := some 0, items := dItems j.desc }
    | (_, t) => t.engSlugFault cls u j.handle j.attempt

/-- Buffers allocated until the job has what it needs, or waits (R177 step 4, R178). -/
def State.engAlloc (s : State) (part : Nat) : Nat → Job → Job × State
  | 0, j => (j, s)
  | n + 1, j =>
    if j.need ≤ j.outs.length then ({ j with waitAlloc := false }, s)
    else match s.allocBuf (dHamper j.desc) part false (.attempt j.handle j.attempt) with
      | (some h, t) => t.engAlloc part n { j with outs := j.outs ++ [h], waitAlloc := decide (j.outs.length + 1 < j.need) }
      | (none, t) => ({ j with waitAlloc := true }, t)

/-- An argument of a slug is present. -/
def Slug.hasArg (x : Slug) (k : Nat) : Bool := match x.resolved[k]? with | some (some _) => true | _ => false

/-- R177 step 3: ARG1 is used, ARG2 where the mode uses it and only there, and a tainted slug runs only with
TAINT_RUN. -/
def argsOk (x : Slug) (m : EngMode) (d : Nat) : Bool :=
  x.hasArg 1 && decide (x.hasArg 2 = m.arg2) && (!x.taint || bit d 22)

/-- The chirp length a CZT job uses joins the four cached ones (R185). -/
def State.cztUse (s : State) (u len : Nat) : State :=
  let l := len :: (removeN (Tab.get [] s.edge.czt u) len)
  { s with edge := { s.edge with czt := Tab.put [] s.edge.czt u (l.take 4) } }

/-- The size outputs 0 and 1 must have room for: the end of the furthest item, and 8 bytes a status record. -/
def engSize (m : EngMode) (d : Nat) (es : List Nat) : Nat :=
  max (if es.isEmpty ∨ bits d 127 96 ≠ 0 then
      (List.range (dItems d)).foldl (fun n j => max n (m.outOff d es j + m.outAt d es j)) 0 else sumBytes (m.outAt d es) (dItems d))
    (if dStatus d then 8 * dItems d else 0)

/-- Bytes of a buffer of a hamper, 0 where it is not enabled. -/
def State.bufBytes (s : State) (n : Nat) : Nat := match s.hamper n with | some p => p.bytes | none => 0

/-- Outputs allocated and the items processed (R177 steps 4 and 5), where the output fits. -/
def State.engStart (s : State) (cls u h att d : Nat) (x : Slug) (m : EngMode) (es : List Nat) : State :=
  if s.bufBytes (dHamper d) < engSize m d es then s.engSlugFault cls u h att
  else
    let need := if dStatus d then 2 else 1
    let (j, t) := s.engAlloc x.part 2 ⟨h, att, d, need, [], true, none, 0, false, es, s.time.air⟩
    let t := t.setJob cls u j
    let t := if cls = 3 ∧ bits d 130 128 = 2 then t.cztUse u (bits d 147 135) else t
    if j.waitAlloc then t else t.engProcess cls u m x j

/-- The start of an attempt on an engine whose descriptor has been read and names the mode (R177 steps 2–5).  The sizes
of an HQ job whose E is 0 need ARG2, which is read at step 4. -/
def State.engRun (s : State) (cls u h att d : Nat) (x : Slug) : State :=
  match engMode cls d with
  | none => s.engSlugFault cls u h att
  | some m =>
    if !headerOk d || !m.valid then s.engSlugFault cls u h att
    else if !argsOk x m d then s.engInvalid cls u h att
    else if cls = 8 ∧ m.arg2 = true then
      match s.memRead (engAcc cls u x.part h att) (s.argAt x 2) m.in2 with
      | (0, b, t) => t.engStart cls u h att d x m (hqSizes (dItems d) b)
      | (_, _, t) => t.engSlugFault cls u h att
    else s.engStart cls u h att d x m []

/-- A job command of class `cls`, mode `code` (R177): for an engine that holds a slug whose job has not begun.
A descriptor of another mode of the class is another command's. -/
def State.engJob (s : State) (cls code eng : Nat) : State :=
  let u := (engineUnit eng).2
  if (engineUnit eng).1 ≠ cls ∨ 54 ≤ eng ∨ (s.job cls u).isSome then s
  else match (s.unit cls u).held with
    | none => s
    | some (h, att) =>
      match s.slug h with
      | none => s
      | some x =>
        if x.state ≠ .running ∨ x.attempt ≠ att then s
        else
          let t := s.bump OD.jobs eng
          if !x.hasArg 0 then t.engInvalid cls u h att
          else match t.memRead (engAcc cls u x.part h att) (t.argAt x 0) 64 with
            | (0, b, t) =>
              let d := leNat b
              if modeCode cls d = code ∨ engMode cls d = none ∨ headerOk d = false then t.engRun cls u h att d x else s
            | (_, _, t) => t.engSlugFault cls u h att

/-! ## Commands -/

/-- TE_FWD (R184). -/
def execTeFwd (eng : Nat) (s : State) : Out := .next (s.engJob 3 0 eng)
/-- TE_INV (R184). -/
def execTeInv (eng : Nat) (s : State) : Out := .next (s.engJob 3 1 eng)
/-- TE_CZT (R185). -/
def execTeCzt (eng : Nat) (s : State) : Out := .next (s.engJob 3 2 eng)
/-- ME_CHEST (R187). -/
def execMeChest (eng : Nat) (s : State) : Out := .next (s.engJob 2 0 eng)
/-- ME_WEIGHT (R187). -/
def execMeWeight (eng : Nat) (s : State) : Out := .next (s.engJob 2 1 eng)
/-- ME_APPLY (R187). -/
def execMeApply (eng : Nat) (s : State) : Out := .next (s.engJob 2 2 eng)
/-- ME_APPLY_DEMAP (R187). -/
def execMeApplyDemap (eng : Nat) (s : State) : Out := .next (s.engJob 2 3 eng)
/-- ME_CHOL (R188). -/
def execMeChol (eng : Nat) (s : State) : Out := .next (s.engJob 2 4 eng)
/-- ME_INV (R187). -/
def execMeInv (eng : Nat) (s : State) : Out := .next (s.engJob 2 5 eng)
/-- LD_DECODE (R190). -/
def execLdDecode (eng : Nat) (s : State) : Out := .next (s.engJob 4 0 eng)
/-- LE_ENCODE (R191). -/
def execLeEncode (eng : Nat) (s : State) : Out := .next (s.engJob 5 0 eng)
/-- PL_POLAR_DECODE (R193). -/
def execPlPolarDecode (eng : Nat) (s : State) : Out := .next (s.engJob 6 0 eng)
/-- PL_POLAR_ENCODE (R192). -/
def execPlPolarEncode (eng : Nat) (s : State) : Out := .next (s.engJob 6 1 eng)
/-- PL_CONV_DECODE (R193). -/
def execPlConvDecode (eng : Nat) (s : State) : Out := .next (s.engJob 6 2 eng)
/-- PL_CONV_ENCODE (R192). -/
def execPlConvEncode (eng : Nat) (s : State) : Out := .next (s.engJob 6 3 eng)
/-- PL_RM_DECODE (R192). -/
def execPlRmDecode (eng : Nat) (s : State) : Out := .next (s.engJob 6 4 eng)
/-- PL_RM_ENCODE (R192). -/
def execPlRmEncode (eng : Nat) (s : State) : Out := .next (s.engJob 6 5 eng)
/-- TD_DECODE (R194). -/
def execTdDecode (eng : Nat) (s : State) : Out := .next (s.engJob 7 0 eng)
/-- HQ_UPLINK_COMBINE (R196). -/
def execHqUplinkCombine (eng : Nat) (s : State) : Out := .next (s.engJob 8 1 eng)
/-- HQ_DOWNLINK_RATE_MATCH (R196). -/
def execHqDownlinkRateMatch (eng : Nat) (s : State) : Out := .next (s.engJob 8 0 eng)

/-- ENGINE_JOB_COMPLETE (R177 step 6): a job that holds its outputs is processed where it waited for them, and
reports OK. -/
def execEngineJobComplete (eng : Nat) (s : State) : Out :=
  let (cls, u) := engineUnit eng
  match s.job cls u with
  | none => .next s
  | some j =>
    if j.waitAlloc then .next s
    else
      let t := match j.ready, s.slug j.handle, engMode cls j.desc with
        | none, some x, some m => s.engProcess cls u m x j
        | _, _, _ => s
      match t.job cls u with
      | some k => .next (t.engDone cls u k false)
      | none => .next t

/-- ENGINE_ALLOC_TIMEOUT (R178), once ALLOC_WAIT (491.52 air ticks a µs) has passed since the wait began: cause SLUG, counted as a slug fault; MINOR alarm 0x0704 at most once per second
per partition.  Numbers 54–61 stand for DM0–DM7, 62–65 for FU0–FU3 and 66–77 for CU0–CU11, to which R178 applies as
well (R317, R215, R222). -/
def execEngineAllocTimeout (eng : Nat) (s : State) : Out :=
  let (cls, u) := if 66 ≤ eng then (10, eng - 66) else if 62 ≤ eng then (9, eng - 62)
    else if 54 ≤ eng then (11, eng - 54) else engineUnit eng
  match s.job cls u with
  | some j =>
    if j.waitAlloc ∧ (s.govN OD.allocWait : Int) * 49152 ≤ (s.time.air - j.since) * 100 then
      let p := match s.slug j.handle with | some x => x.part | none => 0
      .next ((s.engSlugFault cls u j.handle j.attempt).raiseAtMost oneSecond 0x0704 p (some p))
    else .next s
  | none => .next s

/-- ENGINE_UNIT_FAULT (R200): a corrected error is counted and the engine runs on; any other is reported and halts it, and
Galley retires the engine and promotes a reserve. -/
def execEngineUnitFault (eng : Nat) (err : HwError) (s : State) : Out :=
  let (cls, u) := engineUnit eng
  if 54 ≤ eng ∨ s.unitAwake cls u = false then .next s
  else match err with
    | .corrected => .next (s.corrected cls u OD.engEccCorrected eng OD.engEccThreshold 0x0702 (unitNumber cls u))
    | _ => .next (s.anyFault cls u (s.unit cls u).held false 1)

/-! ## DMA (R317) -/

/-- An element of a DMA list. -/
structure DmaEl where
  src : Nat
  dst : Nat
  pattern : Nat
  len : Nat
  dstOut : Bool
  zeros : Bool

/-- The element at a place of the list, by KIND: 1 COPY, 2 FILL. -/
def dmaEl (kind e : Nat) : DmaEl where
  src := bits e 63 0
  dst := if kind = 1 then bits e 127 64 else bits e 63 0
  pattern := bits e 127 64
  len := bits e 159 128
  dstOut := bit e 160
  zeros := decide (bits e 255 161 = 0)

/-- Does an address lie in a memory a DMA engine moves data among? -/
def dmaZone (a n : Nat) : Bool :=
  match spanZone a n with
  | .hbm _ => true
  | .slotStore => true
  | .cluster _ => true
  | .local_ _ => true
  | .mogil => true
  | _ => false

/-- Is an element sound: its length, its reserved bits, its place in output 0, its memories, and no overlap of
source and destination? `out` is the address of output 0. -/
def DmaEl.ok (e : DmaEl) (kind outBytes out : Nat) : Bool :=
  let dst := if e.dstOut then out + e.dst else e.dst
  e.zeros && decide (1 ≤ e.len ∧ e.len ≤ 16777216) && (decide (kind = 1) || decide (e.len % 8 = 0))
    && (if e.dstOut then decide (e.dst + e.len ≤ outBytes) else dmaZone e.dst e.len)
    && (decide (kind ≠ 1) || (dmaZone e.src e.len && !overlaps e.src e.len dst e.len))

/-- Does the slug's commit mode match the destinations? -/
def dmaCommitOk (c : Commit) (es : List DmaEl) : Bool :=
  if es.all (·.dstOut) then true
  else if es.any (fun e => !e.dstOut && decide (spanZone e.dst e.len = .mogil)) then decide (c = .external)
  else decide (c = .inPlace)

/-- `n` requests of at most 512 bytes that copy or fill, in ascending address order. -/
def State.dmaMove (s : State) (q : Acc) (kind : Nat) (e : DmaEl) (dst : Nat) : Nat → Nat → Nat × State
  | 0, _ => (0, s)
  | n + 1, off =>
    if e.len ≤ off then (0, s)
    else
      let len := min 512 (e.len - off)
      let (st, b, t) := if kind = 1 then s.memRead q (e.src + off) len
        else (0, (List.range (len / 8)).flatMap (fun _ => leBytes 8 e.pattern), s)
      if st ≠ 0 then (st, t)
      else match t.memWrite q (dst + off) b with
        | (0, t) => t.dmaMove q kind e dst n (off + len)
        | (st, t) => (st, t)

/-- The elements in list order, each with its status record where STATUS_EN is set. -/
def State.dmaEls (s : State) (q : Acc) (kind out out1 : Nat) (status : Bool) : Nat → List DmaEl → Nat × State
  | _, [] => (0, s)
  | j, e :: es =>
    match s.dmaMove q kind e (if e.dstOut then out + e.dst else e.dst) (e.len / 512 + 1) 0 with
    | (0, t) =>
      let (k, t) := t.drawNat
      let (st, t) := if status then t.memWrite q (out1 + 8 * j) (leBytes 8 (statusRec j false false false false 0 k)) else (0, t)
      if st ≠ 0 then (st, t) else t.dmaEls q kind out out1 status (j + 1) es
    | (st, t) => (st, t)

/-- A DMA job that holds its outputs: list read, checked, performed and reported. -/
def State.dmaProcess (s : State) (kind u : Nat) (x : Slug) (j : Job) : State :=
  let q := engAcc 11 u x.part j.handle j.attempt
  let ob := bits j.desc 159 128
  let addr (k : Nat) : Nat := ((j.outs[k]?).bind (fun b => s.bufAddr b)).getD 0
  let out := if ob = 0 then 0 else addr 0
  let out1 := if ob = 0 then addr 0 else addr 1
  match s.memRead q (s.argAt x 1) (32 * dItems j.desc) with
  | (0, b, t) =>
    let es := (List.range (dItems j.desc)).map (fun k => dmaEl kind (leNat ((b.drop (32 * k)).take 32)))
    if es.all (fun e => e.ok kind ob out) && dmaCommitOk x.commit es then
      match t.dmaEls q kind out out1 (dStatus j.desc) 0 es with
      | (0, t) =>
        let em := match t.slug j.handle with | some y => y.emitted | none => false
        t.engDone 11 u { j with items := dItems j.desc } em
      | (_, t) => t.engSlugFault 11 u j.handle j.attempt
    else t.engSlugFault 11 u j.handle j.attempt
  | (_, _, t) => t.engSlugFault 11 u j.handle j.attempt

/-- The start of a DMA attempt (R177, R317). -/
def State.dmaRun (s : State) (kind u h att d : Nat) (x : Slug) : State :=
  let ob := bits d 159 128
  if !headerOk d || decide (bits d 511 160 ≠ 0) then s.engSlugFault 11 u h att
  else if !x.hasArg 1 || x.hasArg 2 || (x.taint && !bit d 22) then s.engInvalid 11 u h att
  else
    let need := (if ob = 0 then 0 else 1) + (if dStatus d then 1 else 0)
    if need ≠ 0 ∧ s.bufBytes (dHamper d) < max ob (if dStatus d then 8 * dItems d else 0) then s.engSlugFault 11 u h att
    else
      let (j, t) := s.engAlloc x.part 2 ⟨h, att, d, need, [], decide (need ≠ 0), none, 0, false, [], s.time.air⟩
      let t := t.setJob 11 u j
      if j.waitAlloc then t else t.dmaProcess kind u x j

/-- A DMA command: the slug a DMA engine holds is run to its report; one that waits for buffers runs on once
it has them. -/
def State.dmaJob (s : State) (kind u : Nat) : State :=
  match (s.unit 11 u).held with
  | none => s
  | some (h, att) =>
    match s.slug h with
    | none => s
    | some x =>
      if x.state ≠ .running ∨ x.attempt ≠ att ∨ x.kind ≠ kind then s
      else match s.job 11 u with
        | some j => if j.waitAlloc then s else s.dmaProcess kind u x j
        | none =>
          if !x.hasArg 0 then s.engInvalid 11 u h att
          else match s.memRead (engAcc 11 u x.part h att) (s.argAt x 0) 64 with
            | (0, b, t) => t.dmaRun kind u h att (leNat b) x
            | (_, _, t) => t.engSlugFault 11 u h att

/-- DMA_COPY (R317). -/
def execDmaCopy (dm : Nat) (s : State) : Out := .next (s.dmaJob 1 dm)

/-- DMA_FILL (R317). -/
def execDmaFill (dm : Nat) (s : State) : Out := .next (s.dmaJob 2 dm)

/-- DMA_UNIT_FAULT (R317): the engine is retired without promotion. -/
def execDmaUnitFault (dm : Nat) (s : State) : Out :=
  if dm < 8 then .next (s.anyFault 11 dm (s.unit 11 dm).held (match (s.unit 11 dm).held with
    | some (h, _) => (match s.slug h with | some x => x.emitted | none => false)
    | none => false) 1)
  else .next s

end Sys2Proof.Machine
end

