-- ==== Sys2Proof/Machine/EdgeOps.lean ====
section
/-!
DEFINITION. What the fronthaul and the radio edge share (R205–R228): the gain table and the gain loop, exact
comparisons of powers, antenna groups and their load, width maps, and symbols in air time.
-/

namespace Sys2Proof.Machine

open Sys2Proof

/-! ## Symbols in air time -/

/-- The air count at which a symbol of a slot with a 48-bit boundary tick starts. -/
def State.symbolStart (s : State) (num tick k : Nat) : Int :=
  let slot := s.time.air + distance48 tick s.time.air
  slot + symbolOffset num slot k

/-! ## Gain (R209) -/

/-- g(c): the exact gain with 16 fraction bits, rounded half up: the largest n with
(2n − 1)^40 ≤ 131072^40 · 10^(c − 96). -/
def gainTable (c : Nat) : Nat :=
  let fits (n : Nat) : Bool := decide ((2 * n - 1) ^ 40 * 10 ^ (96 - c) ≤ 131072 ^ 40 * 10 ^ (c - 96))
  (List.range 30).foldr (fun k acc => if fits (acc + 2 ^ k) then acc + 2 ^ k else acc) 0

/-- A component after the gain stage and whether it saturated. -/
def gained (g : Nat) (x : Int) : Int × Bool :=
  let r := rnd (x * g) 24 2
  (clamp r (-32768) 32767, decide (r < -32768 ∨ 32767 < r))

/-- Is code `c` within the gain a window power allows: (c − 96) / 2 ≤ target − power? The power is `sum / n`
squared components relative to full scale 2²³. -/
def rmsAdmits (target : Int) (sum n c : Nat) : Bool :=
  let m : Int := (c : Int) - 96 - 2 * target
  decide (10 ^ m.toNat * sum ^ 20 ≤ 10 ^ (-m).toNat * (2 ^ 46 * n) ^ 20)

/-- Is code `c` within the gain the peak component allows: (c − 96) / 2 ≤ limit − peak? -/
def peakAdmits (limit : Int) (pk c : Nat) : Bool :=
  let m : Int := (c : Int) - 96 - 2 * limit
  decide (10 ^ m.toNat * pk ^ 40 ≤ 10 ^ (-m).toNat * (2 ^ 230) ^ 4)

/-- Windows of one list joined by flow, symbol and window: their sums and counts. -/
def joinWins (l : List (Nat × Nat × Nat × Nat × Nat × Nat)) : List (Nat × Nat × Nat × Nat × Nat × Nat) :=
  l.foldl (fun acc w =>
    if acc.any (fun a => decide (a.1 = w.1 ∧ a.2.1 = w.2.1 ∧ a.2.2.1 = w.2.2.1 ∧ a.2.2.2.1 = w.2.2.2.1)) then
      acc.map (fun a =>
        if a.1 = w.1 ∧ a.2.1 = w.2.1 ∧ a.2.2.1 = w.2.2.1 ∧ a.2.2.2.1 = w.2.2.2.1 then
          (a.1, a.2.1, a.2.2.1, a.2.2.2.1, a.2.2.2.2.1 + w.2.2.2.2.1, a.2.2.2.2.2 + w.2.2.2.2.2) else a)
    else acc ++ [w]) []

/-- The wanted code of R209: the largest of 0–255 that every window and the peak admit, 0 where none does. -/
def wantedCode (target limit : Int) (ws : List (Nat × Nat × Nat × Nat × Nat × Nat)) (pk : Nat) : Nat :=
  let ok (c : Nat) : Bool :=
    peakAdmits limit pk c && ws.all (fun w => rmsAdmits target w.2.2.2.2.1 w.2.2.2.2.2 c)
  (List.range 8).foldr (fun k acc => if ok (acc + 2 ^ k) then acc + 2 ^ k else acc) 0

/-! ## Antenna groups (R206, R213) -/

/-- An antenna group. -/
def State.antGroup (s : State) (g : Nat) : AntGroup := Tab.get {} s.edge.groups g

/-- An antenna group replaced. -/
def State.setGroup (s : State) (g : Nat) (x : AntGroup) : State :=
  { s with edge := { s.edge with groups := Tab.put {} s.edge.groups g x } }

/-- First flow and number of streams of a group's map (OD 0x8220.02). -/
def mapFlow (m : Nat) : Nat := bits m 24 13
def mapStreams (m : Nat) : Nat := bits m 31 25

/-- The enabled receive group a flow belongs to, and its place there. -/
def State.groupOfFlow (s : State) (f : Nat) : Option (Nat × Nat) :=
  match s.edge.groupsOn.find? (fun g =>
      let m := s.govN OD.groupMap g
      !bit m 12 && decide (mapFlow m ≤ f ∧ f < mapFlow m + mapStreams m)) with
  | some g => some (g, f - mapFlow (s.govN OD.groupMap g))
  | none => none

/-- Sample rate of a cell's time-domain streams [kHz]. DEDUCED: Table 07-1 counts a stream at 122.88 Msps and, under it, a stream
"at a lower sample rate" in proportion, so no stream has a higher one (log 50). -/
def cellRate (c : Nat) : Nat := min (Config.cellKsps c) 122880

/-- Kilosamples per second of a front unit's streams in a direction (Table 07-1). -/
def fuStreams (groups : List Nat) (m : Nat → Nat) (transmit : Bool) : Nat :=
  ((groups.filter (fun g => decide (bit (m g) 12 = transmit))).map
    (fun g => mapStreams (m g) * cellRate (bits (m g) 9 0))).sum

/-- Groups a front unit carries now. -/
def State.groupsOf (s : State) (u : Nat) : List Nat :=
  s.edge.groupsOn.filter (fun g => decide ((s.antGroup g).fu = u))

/-- Four times the cost of an occasion of a format per antenna and root (Table 07-3); repetitions of NPRACH are
the configuration's own. -/
def formatCost (ctx fmt : Nat) : Nat :=
  if fmt ≤ 3 then 16
  else if fmt ≤ 12 then 4 * [2, 4, 6, 2, 4, 6, 12, 1, 4].getD (fmt - 4) 0
  else if fmt ≤ 16 then 16
  else if fmt = 17 then 4
  else Config.nprachRepetitions ctx

/-- Search load of a context as a fraction (R213): antennas × roots × cost × occasions per ms.  `gov` reads an
object of the context, `gm` a group's map. -/
def State.ctxLoad (s : State) (k grp fmt roots sched gm : Nat) : Nat × Nat :=
  let spf := slotsPerFrame (s.govN OD.numerology (bits gm 9 0))
  (mapStreams gm * bits roots 16 10 * formatCost k fmt * spf, 40 * bits sched 15 0 + 0 * grp)

/-- A sum of fractions; a fraction over 0 (a schedule without a period) counts nothing. -/
def sumFrac (l : List (Nat × Nat)) : Nat × Nat :=
  l.foldl (fun a f => if f.2 = 0 then a else (a.1 * f.2 + f.1 * a.2, a.2 * f.2)) (0, 1)

/-- The search load of contexts as they are in force, on group maps `gm`. -/
def State.loadOf (s : State) (ctxs : List Nat) (gm : Nat → Nat) : Nat × Nat :=
  sumFrac (ctxs.map (fun k =>
    let g := s.govN OD.contextGroup k
    s.ctxLoad k g (s.govN OD.ctxFormat k) (s.govN OD.roots k) (s.govN OD.schedule k) (gm g)))

/-- Is a front unit within its budget of 16,384 units per ms? -/
def withinBudget (x : Nat × Nat) : Bool := decide (x.1 ≤ 16384 * x.2)

/-- Contexts enabled on groups of a front unit. -/
def State.ctxsOfFu (s : State) (u : Nat) : List Nat :=
  s.edge.ctxOn.filter (fun k => has (s.groupsOf u) (s.govN OD.contextGroup k))

/-- May a front unit carry a list of groups (Table 07-1)? -/
def fuFits (groups : List Nat) (m : Nat → Nat) : Bool :=
  decide (groups.length ≤ 32) && decide (fuStreams groups m false ≤ 192 * 122880)
    && decide (fuStreams groups m true ≤ 192 * 122880)

/-- The code and the freeze that apply at an air count: those of the last change point before it, the default code before the first. -/
def AntGroup.codeAt (x : AntGroup) (start : Int) : Nat × Bool :=
  match x.hist.find? (fun e => decide (e.1 ≤ start)) with
  | some e => e.2
  | none => (96, false)

/-- Does the code of the symbol that starts at an air count differ from the previous symbol's (R211)? -/
def AntGroup.stepAt (x : AntGroup) (start : Int) : Bool := decide ((x.codeAt start).1 ≠ (x.codeAt (start - 1)).1)

/-! ## Powers and widths (R224, R225) -/

/-- The 4,000th power. -/
def pow4000 (n : Nat) : Nat := ((n ^ 20) ^ 20) ^ 10

/-- `a / b ≤ 10^(y / 1000)`, exactly. -/
def Pow.ratioLe (a b : Pow) (y : Int) : Bool :=
  let d : Int := 25 * (a.e - b.e) - 4 * y
  decide (pow4000 (a.num * b.den) * 10 ^ d.toNat ≤ pow4000 (a.den * b.num) * 10 ^ (-d).toNat)

/-- Is one power at least another? -/
def Pow.le (a b : Pow) : Bool := a.ratioLe b 0

/-- The width of a group from its peak and noise (R225): the lowest w of 2–16 with
x ≤ 6.02 w for x = peak + headroom − noise + margin − 1.76. -/
def shapedWidth (margin headroom : Nat) (peak noise : Pow) : Nat :=
  let fits (w : Nat) : Bool := peak.ratioLe noise (((602 * w + 176 : Nat) : Int) - 100 * margin - 100 * headroom)
  ((List.range 15).find? (fun k => fits (k + 2))).elim 16 (fun k => k + 2)

/-- A radio entry. -/
def State.radio (s : State) (r : Nat) : Radio := Tab.get {} s.edge.radios r

/-- A radio entry replaced. -/
def State.setRadio (s : State) (r : Nat) (x : Radio) : State :=
  { s with edge := { s.edge with radios := Tab.put {} s.edge.radios r x } }

/-- The width set of a cell on a radio entry, and it replaced. -/
def State.wset (s : State) (r c : Nat) : WidthSet := Tab.get {} (s.radio r).sets c
def State.setWset (s : State) (r c : Nat) (x : WidthSet) : State :=
  s.setRadio r { s.radio r with sets := Tab.put {} (s.radio r).sets c x }

/-- A peak held over `n` slots: PEAK_DECAY dB less for each (R224). -/
def Pow.decayed (p : Pow) (db n : Nat) : Pow := { p with e := p.e - 16 * (db * n : Nat) }

/-- The slot being received is over where the slot reached, `now`, lies behind it: its probe updates the noise estimate,
σ² ← σ² + (m − σ²) / 2^NOISE_TAU from a free start, and for every slot up to `now` the peaks decay, P ← max(new, P − PEAK_DECAY),
those of the slot received with what it brought (R224). -/
def State.closeSlot (s : State) (r c : Nat) (now : Int) : State :=
  let x := s.wset r c
  match x.slot with
  | none => s
  | some n =>
    if now ≤ n then s
    else
      let cfg := s.govN OD.shapingCfg r
      let tau := bits cfg 23 16
      let probed := !x.probe.isEmpty && decide (s.govN OD.noiseSource r = 0)
      let old (g : Nat) : Pow := (Tab.find x.noise g).getD ⟨Config.free (s.freeCtr + g), 1, 0⟩
      let noise := if probed then x.probe.foldl (fun (t : Tab Pow) e =>
          let o := old e.1
          -- with an estimate in dB from the firmware's table the sum is of unlike forms: the probe replaces it
          let n : Pow := if o.e ≠ 0 ∨ e.2.2 = 0 then ⟨e.2.1, max 1 e.2.2, 0⟩
            else ⟨o.num * (2 ^ tau - 1) * e.2.2 + e.2.1 * o.den, o.den * e.2.2 * 2 ^ tau, 0⟩
          Tab.set t e.1 n) x.noise else x.noise
      let decay := bits cfg 31 24
      let held := x.peak.map (fun e => (e.1, e.2.decayed decay 1))
      let peak := x.slotPeak.foldl (fun (t : Tab Pow) e =>
        let new : Pow := ⟨e.2, 1, 0⟩
        match Tab.find t e.1 with
        | some p => Tab.set t e.1 (if p.le new then new else p)
        | none => Tab.set t e.1 new) held
      let t := s.setWset r c { x with
        noise := noise
        noiseAt := if probed then some s.time.air else x.noiseAt
        peak := peak.map (fun e => (e.1, e.2.decayed decay (now - n - 1).toNat))
        slotPeak := [], probe := [], slot := some now }
      if probed then { t with freeCtr := s.freeCtr + 276 } else t

/-- Groups of resource blocks of a width set whose carrier has `n` blocks. -/
def State.widthGroups (s : State) (r n : Nat) : Nat := cdiv n (max 1 (s.govN OD.groupRb r))

/-- The width map of a set whose carrier has `n` blocks (R225), group 0 first: the fallback width for a group without a valid noise
estimate.  The width of a group for which no peak, or neither a peak nor any noise, was measured is a free value of 2–16: the spec gives
P no start. -/
def State.widthMap (s : State) (r c n : Nat) : List Nat × State :=
  let t := s.closeSlot r c (slotOf (s.govN OD.numerology c) s.time.air)
  let x := t.wset r c
  let cfg := t.govN OD.shapingCfg r
  let ws := (List.range (t.widthGroups r n)).map (fun g =>
    match x.noiseAt, Tab.find x.noise g with
    | some _, some q =>
      match Tab.find x.peak g with
      | some p =>
        if p.num = 0 ∧ q.num = 0 then 2 + Config.free (t.freeCtr + g) % 15
        else shapedWidth (bits cfg 7 0) (bits cfg 15 8) p q
      | none => 2 + Config.free (t.freeCtr + g) % 15
    | _, _ => bits (t.govN OD.fallbackCfg r) 7 4 + 1)
  (ws, { t with freeCtr := t.freeCtr + ws.length })

/-- The state of a radio entry's negotiation changed (Table 07-7); entering FALLBACK raises alarm 0x0706. -/
def State.nsEnter (s : State) (r : Nat) (n : NsState) (v : Nat) : State :=
  let x := s.radio r
  let t := s.setRadio r { x with
    ns := n, agreed := if n = .active then v else 0, since := s.time.air, fbRun := 0, fbTick := none
    fellAt := if x.ns = .active ∧ n = .fallback then some s.time.air else if n = .fallback then x.fellAt else none }
  t.condition 0x0706 r (decide (n = .fallback))

/-- Is downlink of a slot sent in the noise-shaped method (R228)? A fall from ACTIVE takes effect at the next slot. -/
def Radio.shapesDown (x : Radio) (boundary : Int) : Bool :=
  x.ns = .active || (match x.fellAt with | some t => decide (x.ns = .fallback) && decide (boundary ≤ t) | none => false)

/-! ## Compression units (R222, R435) -/

/-- The lane pair a compression unit serves: pair k for CUk, until it replaces another. -/
def State.pairOf (s : State) (k : Nat) : Nat := Tab.get k s.edge.cuPair k

/-- The compression unit that serves a lane. -/
def State.cuOfLane (s : State) (l : Nat) : Option Nat :=
  (List.range 12).find? (fun k => decide (s.pairOf k = l / 2))

/-- A count of the compression unit that serves a port. -/
def State.cuBump (s : State) (p : Nat) (o : Obj) : State :=
  match s.cuOfLane p with
  | some k => s.bump o k
  | none => s

end Sys2Proof.Machine
end

