-- ==== Sys2Proof/Machine/Fronthaul.lean ====
section
/-!
DEFINITION. Fronthaul ports (chapter 08): defects and searches, received frames and U-plane sections, transmission,
MACsec, forwarding, and the enable checks of ports, flows and MACsec.
-/

namespace Sys2Proof.Machine

open Sys2Proof

/-! ## Lanes, ports and flows -/

/-- The fronthaul state replaced. -/
def State.setFront (s : State) (x : FrontSt) : State := { s with front := x }

/-- A line lane, a port and a flow, and each replaced. -/
def State.lane (s : State) (l : Nat) : Lane := Tab.get {} s.front.lanes l
def State.setLane (s : State) (l : Nat) (x : Lane) : State :=
  s.setFront { s.front with lanes := Tab.put {} s.front.lanes l x }
def State.port (s : State) (p : Nat) : Port := Tab.get {} s.front.ports p
def State.setPort (s : State) (p : Nat) (x : Port) : State :=
  s.setFront { s.front with ports := Tab.put {} s.front.ports p x }
def State.flow (s : State) (f : Nat) : Flow := Tab.get {} s.front.flows f
def State.setFlow (s : State) (f : Nat) (x : Flow) : State :=
  s.setFront { s.front with flows := Tab.put {} s.front.flows f x }

/-- Is a port's configuration in force CPRI (row 9)? -/
def State.isCpri (s : State) (p : Nat) : Bool := decide (bits (s.govN OD.portConfig p) 3 0 = 9)

/-- The lanes are powered down in OFF and STANDBY and off in BOOT (Table 13-1). -/
def State.lanesPowered (s : State) : Bool :=
  decide (s.mode.mode ≠ .off ∧ s.mode.mode ≠ .standby ∧ s.mode.mode ≠ .boot)

/-- A port is enabled and up. -/
def State.portOk (s : State) (p : Nat) : Bool := s.lanesPowered && has s.front.portsOn p && (s.port p).up

/-- The port a flow transmits on (R247). -/
def State.activePort (s : State) (f : Nat) : Nat := (s.flow f).active.getD (s.flowPort f)

/-- Bit 3 of DEGRADED_CAUSES: an enabled flow has no usable port (R247, R377). -/
def State.flowCause (s : State) : State :=
  s.setCause 3 (s.front.flowsOn.any (fun f =>
    !(s.portOk (s.flowPort f) || (match s.flowAlt f with | some q => s.portOk q | none => false))))

/-! ## Transmission (R236, R240, R247, R250) -/

/-- The last of the frames of a CU slug has left or was discarded: the slug completes OK (R222, R240). -/
def State.cuFinish (s : State) (h : Nat) : State :=
  if s.front.ports.any (fun e => e.2.txq.any (fun q => q.2.any (fun (x : TxFrame) => decide (x.handle = some h)))) then s
  else match s.edge.jobs.find? (fun e => decide (e.1 / 256 = 10 ∧ e.2.handle = h)) with
    | some (k, j) => s.engDone 10 (k % 256) j j.emitted
    | none => s

/-- EMITTED of a CU slug set with its first frame on the wire (R222). -/
def State.cuEmit (s : State) (h : Nat) : State :=
  { s with edge := { s.edge with jobs := Tab.mapV (fun k (j : Job) =>
      if k / 256 = 10 ∧ j.handle = h then { j with emitted := true } else j) s.edge.jobs } }

/-- A frame dropped before transmission: DISCARDED stamped where it asked for a stamp (R61), and its slug ended with the
last of its frames. -/
def State.dropFrame (s : State) (p : Nat) (x : TxFrame) : State :=
  let t := match x.stamp with | some g => s.stampTx p g false true | none => s
  match x.handle with | some h => t.cuFinish h | none => t

/-- A frame discarded under R240: counted for its flow, with alarm 0x030D, and dropped. -/
def State.discardFrame (s : State) (p : Nat) (x : TxFrame) : State :=
  let t := match x.flow with | some f => s.bump OD.txDiscarded f | none => s
  (t.raiseAtMost oneSecond 0x030D p).dropFrame p x

/-- A transmit queue replaced. -/
def State.setQueue (s : State) (p q : Nat) (l : List TxFrame) : State :=
  let x := s.port p
  s.setPort p { x with txq := Tab.put [] x.txq q l }

/-- A frame handed over to a port: queued, or discarded while the port is down (R256). -/
def State.handOver (s : State) (p q : Nat) (x : TxFrame) : State :=
  if s.portOk p then s.setQueue p q (Tab.get [] (s.port p).txq q ++ [x]) else s.discardFrame p x

/-- Every queued frame of a port discarded. -/
def State.flushPort (s : State) (p : Nat) : State :=
  let l := (s.port p).txq.flatMap (·.2)
  l.foldl (fun t x => t.discardFrame p x) (s.setPort p { s.port p with txq := [] })

/-- May a frame start now: its early edge has come and its late edge has not passed? -/
def TxFrame.startable (x : TxFrame) (air : Int) : Bool :=
  match x.window with | some (a, b) => decide (a ≤ air ∧ air ≤ b) | none => true

/-- Has a frame's late edge passed? -/
def TxFrame.late (x : TxFrame) (air : Int) : Bool := match x.window with | some (_, b) => decide (b < air) | none => false

/-- The SA number of a transmit AN, as SA_SELECT counts it. -/
def State.saInstalled (s : State) (p sa : Nat) : Bool :=
  (Tab.find (s.port p).sas sa).isSome && s.flag OD.saEnable (256 * p + sa)

/-- One more in element `k` of MACSEC_DROPS. -/
def State.macsecDrop (s : State) (p k : Nat) : State :=
  let b := s.oct OD.macsecDrops p
  let old := (b ++ List.replicate (48 - b.length) 0#8)
  let v := min 0xFFFFFFFFFFFFFFFF (leNat ((old.drop (8 * k)).take 8) + 1)
  s.setOct OD.macsecDrops p (old.take (8 * k) ++ leBytes 8 v ++ old.drop (8 * k + 8))

/-- The packet number of the next protected frame taken (R250): none where it would be exhausted or no transmit SA is
installed; alarm 0x030B as it reaches PN_THRESHOLD. -/
def State.takePn (s : State) (p : Nat) : Bool × State :=
  if !has s.front.macsecOn p then (true, s)
  else
    let an := s.nat OD.txAn p % 4
    let pn := s.nat OD.saNextPn (256 * p + an)
    if !s.saInstalled p an then (false, s.macsecDrop p 2)
    else if pn = 0xFFFFFFFFFFFFFFFF then (false, (s.macsecDrop p 5).raise 0x030C p)
    else
      let t := s.setNum OD.saNextPn (256 * p + an) ((pn + 1 : Nat) : Int)
      (true, if pn = s.nat OD.pnThreshold p then t.raise 0x030B p else t)

/-- A frame starts: it takes its packet number, is stamped where it asked for a stamp, and its C-plane sections count
as sent. -/
def State.sendFrame (s : State) (p : Nat) (x : TxFrame) : State :=
  match s.takePn p with
  | (false, t) => t.dropFrame p x
  | (true, t) =>
    let t := t.setFront { t.front with sent := t.front.sent ++ [(p, x)] }
    let t := match x.flow with
      | some f => t.setFlow f { t.flow f with cplane := (t.flow f).cplane ++ x.cplane }
      | none => t
    let t := match x.stamp with | some g => t.stampTx p g (t.oneStepOn p x.sync) false | none => t
    let t := t.syncSent p x.sync
    match x.handle with | some h => (t.cuEmit h).cuFinish h | none => t

/-- May a frame leave in the current mode (Table 13-1): all traffic in RUN, DEGRADED and UPGRADE, PTP in CONFIGURE? -/
def State.mayTransmit (s : State) (x : TxFrame) : Bool :=
  s.mode.mode.runs || (decide (s.mode.mode = .configure) && x.event)

/-- FRAME_TRANSMIT (R236, R240): the first frame of the lowest queue whose head may start. -/
def execFrameTransmit (port : Nat) (s : State) : Out :=
  if s.portOk port then
    match (List.range 4).find? (fun q => match Tab.get [] (s.port port).txq q with
      | x :: _ => x.startable s.time.air && s.mayTransmit x | [] => false) with
    | some q =>
      match Tab.get [] (s.port port).txq q with
      | x :: rest => .next ((s.setQueue port q rest).sendFrame port x)
      | [] => .next s
    | none => .next s
  else .next s

/-- TX_WINDOW_DISCARD (R240): the head of a queue could not start before its late edge. -/
def execTxWindowDiscard (port queue : Nat) (s : State) : Out :=
  match Tab.get [] (s.port port).txq queue with
  | x :: rest => .next (if x.late s.time.air then (s.setQueue port queue rest).discardFrame port x else s)
  | [] => .next s

/-! ## Defects (R256, R257) -/

/-- Alarms 0x0301–0x0306 of a port follow its defects. -/
def State.portAlarms (s : State) (p d : Nat) : State :=
  (List.range 6).foldl (fun t k => t.condition (0x0301 + k) p (bit d k)) s

/-- The flows that leave a port that failed (R247): each with a healthy alternate moves there; MINOR alarm 0x0311. -/
def State.switchOver (s : State) (p : Nat) : State :=
  let other (f : Nat) : Option Nat := if s.flowPort f = p then s.flowAlt f else some (s.flowPort f)
  let movers := s.front.flowsOn.filter (fun f => decide (s.activePort f = p) &&
    (match other f with | some q => s.portOk q | none => false))
  let t := movers.foldl (fun t f => match other f with
    | some q => (t.setFlow f { t.flow f with active := some q }).setNum OD.flowActivePort f (q : Nat)
    | none => t) s
  if movers.isEmpty then t else t.raise 0x0311 p

/-- A defect of row `k + 1` arises or ends on an enabled port; rows 1–4 take it down, and an Ethernet port then sends remote fault
(R234). -/
def State.portDefect (s : State) (p k : Nat) (b : Bool) : State :=
  let x := s.port p
  let d := defectsAfter x.defects.toNat k b
  let down := decide (d % 16 ≠ 0)
  let t := s.setPort p { x with defects := BitVec.ofNat 6 d, up := x.up && !down, remoteFault := down && !s.isCpri p }
  let t := t.portAlarms p d
  let t := if b ∧ k < 4 ∧ d = 2 ^ k then (t.switchOver p).flushPort p else t
  t.flowCause

/-- A defect of a lane is one of its port. -/
def State.laneDefect (s : State) (l k : Nat) (b : Bool) : State :=
  match s.portOfLane l with
  | some p => s.portDefect p k b
  | none => s

/-- The CPRI state of the port of a lane. -/
def State.laneCpri (s : State) (l st : Nat) : State :=
  match s.portOfLane l with
  | some p => if s.isCpri p then s.setPort p { s.port p with cpriState := st, cpriRate := 0, rateAt := s.nowNs } else s
  | none => s

/-- Is a defect of a higher row present on the port of a lane? -/
def State.masked (s : State) (l k : Nat) : Bool :=
  match s.portOfLane l with
  | some p => decide ((s.port p).defects.toNat % 2 ^ k ≠ 0)
  | none => false

/-- Loss of signal on a line lane: the search is aborted and nothing partial is kept. -/
def State.lineLos (s : State) (l : Nat) : State :=
  let x := s.lane l
  let t := s.setLane l { x with signal := false, lock := false, blockLock := false, prbsLock := false, search := .none }
  let t := if x.signal then t.bump OD.losCount l else t
  (t.laneCpri l 0).laneDefect l 0 true

/-- Signal returns: the debounce starts; the defect ends when every lane of the port has signal. -/
def State.lineSignal (s : State) (l : Nat) : State :=
  let x := s.lane l
  if x.signal then s
  else
    let t := s.setLane l { x with signal := true, search := .debounce, signalAt := s.nowNs }
    match t.portOfLane l with
    | some p => if (t.portLanes p).all (fun k => (t.lane k).signal) then t.portDefect p 0 false else t
    | none => t

/-- SIGNAL_DEBOUNCE has passed with signal: the search starts from its first step, a CPRI one at state B with the highest
enabled rate. -/
def State.lineDebounced (s : State) (l : Nat) : State :=
  let x := s.lane l
  if x.signal ∧ x.search = .debounce ∧ x.signalAt + 1000 * s.nat OD.laneDebounce l ≤ s.nowNs then (s.setLane l { x with search := .running }).laneCpri l 1 else s

/-- Loss of lock: the search restarts from clock recovery. -/
def State.lineLol (s : State) (l : Nat) : State :=
  let x := s.lane l
  if x.signal then
    let t := s.setLane l { x with
      lock := false, blockLock := false, prbsLock := false
      search := if x.search = .debounce then .debounce else .running }
    let t := if s.masked l 1 then t else t.bump OD.lolCount l
    (if x.search = .debounce then t else t.laneCpri l 1).laneDefect l 1 true
  else s

/-- Loss of block lock: the search restarts from clock recovery. -/
def State.lineLob (s : State) (l : Nat) : State :=
  let x := s.lane l
  if x.signal then
    let t := s.setLane l { x with blockLock := false, search := if x.search = .debounce then .debounce else .running }
    (if x.search = .debounce then t else t.laneCpri l 1).laneDefect l 2 true
  else s

/-- Every lane of a port searches again. -/
def State.searchPort (s : State) (p : Nat) : State :=
  (s.portLanes p).foldl (fun t l => let x := t.lane l
    t.setLane l { x with search := if x.signal then .running else .none }) s

/-- LOSS_OF_FRAME (R256). -/
def execLossOfFrame (port : Nat) (s : State) : Out :=
  if has s.front.portsOn port then
    let t := (s.searchPort port).portDefect port 3 true
    .next (if s.isCpri port ∧ (s.port port).cpriState = 5 then t.setPort port { t.port port with cpriState := 1, rateAt := t.nowNs } else t)
  else .next s

/-- REMOTE_DEFECT (R256). -/
def execRemoteDefect (port : Nat) (present : Bool) (s : State) : Out :=
  if has s.front.portsOn port then .next (s.portDefect port 4 present) else .next s

/-- PORT_UP (R256): the search of a port whose lanes all have signal finishes; no defect of rows 1–4 is left. -/
def execPortUp (port : Nat) (s : State) : Out :=
  let ls := s.portLanes port
  if has s.front.portsOn port && ls.all (fun l => (s.lane l).signal && decide ((s.lane l).search = .running)) then
    let t := ls.foldl (fun t l => t.setLane l { t.lane l with lock := true, blockLock := true, search := .finished, lockAt := if (t.lane l).lock then (t.lane l).lockAt else t.nowNs }) s
    let x := t.port port
    let d := x.defects.toNat / 16 * 16
    let t := t.setPort port { x with
      defects := BitVec.ofNat 6 d, up := true, remoteFault := false, cpriState := if t.isCpri port then 5 else x.cpriState }
    .next ((t.portAlarms port d).flowCause)
  else .next s

/-- Has a port FEC (Table 08-2)? A 25GbE port only where bit 4 of its configuration is set. -/
def State.hasFec (s : State) (p : Nat) : Bool :=
  let c := s.govN OD.portConfig p
  decide (bits c 3 0 ≠ 0) || bit c 4

/-- The degraded defect of a port (R235, R255): errors / bits above 10^−FEC_DEGRADE over 1 s with FEC, whose codewords are counted; on a
CPRI port the SDI bit, set where `errors` is not 0. -/
def State.portDegrade (s : State) (p errors bits corrected uncorrected : Nat) : State :=
  if has s.front.portsOn p then
    if s.isCpri p then s.portDefect p 5 (decide (errors ≠ 0))
    else if !s.hasFec p then s
    else ((s.bumpBy OD.fecCorrected p corrected).bumpBy OD.fecUncorrected p uncorrected).portDefect p 5
      (decide (bits < errors * 10 ^ s.nat OD.fecDegrade p))
  else s

/-- CPRI_RATE_DWELL (R255): after RATE_DWELL the next enabled rate is tried, highest first, again from the highest after the lowest. -/
def execCpriRateDwell (port : Nat) (s : State) : Out :=
  let x := s.port port
  let n := ((List.range 4).filter (fun k => bit (s.govN OD.cpriRates port) k)).length
  if has s.front.portsOn port ∧ s.isCpri port ∧ x.cpriState = 1 ∧ n ≠ 0 ∧ x.rateAt + 1000000 * s.nat OD.rateDwell port ≤ s.nowNs then
    .next (s.setPort port { x with cpriRate := (x.cpriRate + 1) % n, rateAt := s.nowNs })
  else .next s

/-! ## Flows written -/

/-- A write of FLOW_ACTIVE_PORT (R247): the flow's port or its alternate. -/
def writeFlowActivePort (f v : Nat) (s : State) : Except Fail State :=
  if v = s.flowPort f ∨ s.flowAlt f = some v then
    .ok ((s.setFlow f { s.flow f with active := some v }).setNum OD.flowActivePort f (v : Nat))
  else .error (OD.flowActivePort.fail 0x0D08 f)

/-- FLOW_ACTIVE_PORT (R247). -/
def execFlowActivePort (who : Requester) (v : Nat) (s : State) : Out :=
  .next (s.actSel who OD.flowActivePort v (fun f => writeFlowActivePort f v))

/-- A write of TX_AN (R250): an installed transmit SA. -/
def writeTxAn (p v : Nat) (s : State) : Except Fail State :=
  if v < 4 ∧ s.saInstalled p v then .ok (s.setNum OD.txAn p (v : Nat)) else .error (OD.txAn.fail 0x0307 p)

/-- TX_AN (R250). -/
def execTxAn (who : Requester) (v : Nat) (s : State) : Out :=
  .next (s.actSel who OD.txAn v (fun p => writeTxAn p v))

/-- A write of SA_KEY (R248): SAK of 32 bytes, salt of 12 and SSCI of 4 installed in the selected SA. -/
def writeSaKey (item : Nat) (b : List Byte) (s : State) : Except Fail State :=
  let sa := item % 256
  let p := item / 256
  if b.length ≠ 48 ∨ bits sa 6 5 ≠ 0 ∨ (sa < 128 ∧ 4 ≤ sa) then .error (OD.saKey.fail 0x0307 p)
  else .ok (s.setPort p { s.port p with sas := Tab.set (s.port p).sas sa ⟨b⟩ })

/-- SA_KEY (R248). -/
def execSaKey (who : Requester) (bytes : List (BitVec 8)) (s : State) : Out :=
  .next (s.actOn who OD.saKey (s.itemOf who OD.saKey OD.saKey.addr) OD.saKey.addr 0
    (writeSaKey (s.itemOf who OD.saKey OD.saKey.addr) bytes))

/-- A write of PRBS_CLEAR (R258). -/
def writePrbsClear (l v : Nat) (s : State) : Except Fail State :=
  .ok (if v = 1 then (s.setNum OD.lanePrbsBits l 0).setNum OD.lanePrbsErrors l 0 else s)

/-- PRBS_CLEAR (R258). -/
def execPrbsClear (who : Requester) (v : Nat) (s : State) : Out :=
  .next (s.actSel who OD.prbsClear v (fun l => writePrbsClear l v))

/-- A write of PRBS_CONFIG (R258): refused with 0x0306 where it enables PRBS on a lane of an enabled port. -/
def writePrbsConfig (l v : Nat) (s : State) : Except Fail State :=
  if bits v 5 4 ≠ 0 ∧ (s.portOfLane l).isSome then .error (OD.lanePrbsConfig.fail 0x0306 l)
  else .ok (s.setNum OD.lanePrbsConfig l (v : Nat))

/-! ## Received frames (R234, R244, R245, R249, R251) -/

/-- Cell, radio entry, hamper, EVENT_GROUP, index and BIND_BASE of a flow (OD 0x4140.03). -/
def State.flowMapN (s : State) (f hi lo : Nat) : Nat := bits (s.govN OD.flowMap f) hi lo

/-- The partition of a flow's cell. -/
def State.flowPart (s : State) (f : Nat) : Nat := s.govN OD.cellPartition (s.flowCell f)

/-- A frame of a class put to its token bucket (R245): beyond it or not, the bucket debited where it is not.  The bucket holds the burst at
first and fills at the rate, both in thousandths of a bit; a rate of 0 admits nothing, 0xFF_FFFF everything. -/
def State.beyond (s : State) (p cls len : Nat) : Bool × State :=
  let cfg := s.nat OD.policeRate4100 (8 * p + cls)
  let rate := bits cfg 23 0
  let x := s.port p
  let (used, at_) := Tab.get (0, 0) x.buckets cls
  let used := used - rate * (s.nowNs - at_) + 8000 * len
  if rate = 0xFFFFFF then (false, s)
  else if rate = 0 ∨ bits cfg 31 24 * 32768000 < used then (true, s)
  else (false, s.setPort p { x with buckets := Tab.set x.buckets cls (used, s.nowNs) })

/-- A frame dropped by its bucket (R245). -/
def State.policeDrop (s : State) (p cls : Nat) : State :=
  (s.bump OD.policed (8 * p + cls)).raiseAtMost oneSecond 0x030E p

/-- Of bytes that go to offset `off` of a buffer, those that fit (DESIGN CHOICE: the spec says nothing of a frame or of
samples that a buffer cannot hold). -/
def State.fitting (s : State) (h off : Nat) (b : List Byte) : List Byte :=
  match s.hamper (hampOf h) with
  | some q => b.take (q.bytes - off)
  | none => []

/-- A frame to firmware (R244): a buffer of FW_HAMPER and a descriptor in the ring, dropped and counted where the ring
is full or no buffer is free. -/
def State.toFirmware (p cls : Nat) (secured : Bool) (f : EthFrame) (s : State) : State :=
  let x := s.port p
  if 512 ≤ x.fwRing.length then s.bump OD.fwRingDrops p
  else match s.allocBuf (s.govN OD.fwHamper p) 0xFFFF true (.unit .fucu p) with
    | (none, t) => t.bump OD.fwRingDrops p
    | (some h, t) =>
      let t := match t.bufAddr h with | some a => t.deviceWrite a (t.fitting h 0 (f.bytes.take f.length)) | none => t
      let y := t.port p
      t.setPort p { y with fwRing := y.fwRing ++ [⟨h, f.length, cls, secured, p, f.stamp⟩] }

/-- The MAC address of a port: the one written, else the one its identity gives. -/
def State.macOf (s : State) (p : Nat) : BitVec 48 :=
  let b := s.govOct OD.macAddress p
  let b := if b.isEmpty then Config.fusedOctets OD.macAddress.code p else b
  BitVec.ofNat 48 (leNat (b.take 6).reverse)

/-- The members of the bridge group of a port, none where it is in no group. -/
def State.members (s : State) (p : Nat) : List Nat :=
  let m := s.govOct OD.groupMembers
  match (List.range 8).find? (fun g => bit (leNat ((m.drop (4 * g)).take 4)) p) with
  | some g => (List.range 24).filter (fun q => bit (leNat ((m.drop (4 * g)).take 4)) q)
  | none => []

/-- A forwarded frame sent on a port of the group. -/
def State.forwardTo (s : State) (len p : Nat) : State := s.handOver p 3 { flow := none, handle := none, stamp := none, event := false, length := len }

/-- A frame for forwarding (R251): dropped for a spoofed source, sent to the port of its entry, or flooded. -/
def State.forward (s : State) (p vid : Nat) (src dst : BitVec 48) (len : Nat) : State :=
  if (List.range 24).any (fun q => decide (s.macOf q = src)) then (s.bump OD.spoofDrops).raiseAtMost oneSecond 0x030F p
  else
    let ms := (s.members p).filter (fun q => decide (q ≠ p))
    let mc := decide (dst.toNat / 2 ^ 40 % 2 = 1)
    match s.front.fdb.find? (fun e => !mc && decide (e.vid = vid ∧ e.mac = dst)) with
    | some e => if e.port = p ∨ ¬ ms.contains e.port then s else s.forwardTo len e.port
    | none => ms.foldl (fun t q => t.forwardTo len q) s

/-- Is a destination one that is never forwarded: the port's own address, or 01-80-C2-00-00-00 to -0F? -/
def State.keepsFrame (s : State) (p : Nat) (dst : BitVec 48) : Bool :=
  decide (dst = s.macOf p) || decide (0x0180C2000000 ≤ dst.toNat ∧ dst.toNat ≤ 0x0180C200000F)

/-! ## U-plane sections (R241–R243) -/

/-- The enabled flow a U-plane message matches (R237, R247): the flow's port or its alternate, uplink, VLAN, transport
and eAxC. -/
def State.matchFlow (s : State) (p transport vid eaxc : Nat) : Option Nat :=
  s.front.flowsOn.find? (fun f =>
    let m := s.govN OD.flowMatch f
    (decide (bits m 4 0 = p) || (bit m 41 && decide (bits m 40 36 = p)))
      && !bit m 5 && decide (bits m 17 6 = vid) && decide (bits m 33 18 = eaxc) && decide (bits m 35 34 = transport))

/-- The air count at which the slot a section names starts: the occurrence of its frameId, subframeId, slotId and symbolId nearest the
present (R241). -/
def State.sectionStart (s : State) (f : Nat) (x : Section) : Int :=
  let num := s.govN OD.numerology (s.flowCell f)
  let n : Int := ((x.frameId * 10 + x.subframe) * (slotsPerFrame num / 10) + x.slotId : Nat)
  let off := symbolOffset num (slotStart num n) x.symbol
  let c : Int := 256 * frameTicks
  let d := (slotStart num n + off - s.time.air + c / 2) % c - c / 2
  s.time.air + d - off

/-- The boundary tick of a section's slot. -/
def State.sectionTick (s : State) (f : Nat) (x : Section) : Nat := airTickOf (s.sectionStart f x)

/-- Is a section the probe of its width set (R224): the probe's symbol and slot, uncompressed at 16 bits, where the
estimate is probed? -/
def State.isProbe (s : State) (f : Nat) (x : Section) : Bool :=
  let r := s.flowMapN f 17 10
  let c := s.flowCell f
  let num := s.govN OD.numerology c
  decide (s.govN OD.noiseSource r = 0 ∧ bits (s.govN OD.probeCfg r) 7 0 = x.symbol
    ∧ slotIndex num (slotOf num (s.sectionStart f x)) (s.govN OD.period c) = bits (s.govN OD.probeCfg r) 15 8 ∧ x.method = 0 ∧ x.width = 16)

/-- Does a section use the noise-shaped method of its entry? -/
def State.isShaped (s : State) (r : Nat) (x : Section) : Bool :=
  decide (x.method = bits (s.govN OD.radioProfile r) 11 8) && decide ((s.radio r).ns = .offered ∨ (s.radio r).ns = .active)

/-- Version and map sequence of a noise-shaped section's header (R223). -/
def nsVersionOf (x : Section) : Nat := (x.payload.getD 0 0#8).toNat % 8
def mapSeqOf (x : Section) : Nat := (x.payload.getD 0 0#8).toNat / 8

/-- Is the version of a section one the entry accepts (R228)? -/
def State.versionOk (s : State) (r : Nat) (x : Section) : Bool :=
  decide (bits (s.govN OD.nsVersions r) 2 0 ≤ nsVersionOf x ∧ nsVersionOf x ≤ bits (s.govN OD.nsVersions r) 5 3)

/-- Does a noise-shaped section of a flow name a width map that is held (R227)? -/
def State.mapHeld (s : State) (f : Nat) (x : Section) : Bool :=
  (s.wset (s.flowMapN f 17 10) (s.flowCell f)).maps.any (fun m => decide (m.1 = mapSeqOf x))

/-- The widths of a section's resource blocks: those of the map it names for the noise-shaped method, else its own. -/
def State.sectionWidths (s : State) (f : Nat) (x : Section) : List Nat :=
  let r := s.flowMapN f 17 10
  if s.isShaped r x then
    let ws := match (s.wset r (s.flowCell f)).maps.find? (fun m => decide (m.1 = mapSeqOf x)) with | some m => m.2 | none => []
    (List.range x.numPrb).map (fun k => ws.getD ((x.startPrb + k) / max 1 (s.govN OD.groupRb r)) 0)
  else List.replicate x.numPrb x.width

/-- The method of a section as its decoder knows it, and the bytes of its resource blocks, without the section header of R223. -/
def State.sectionMethod (s : State) (f : Nat) (x : Section) : Nat :=
  if s.isShaped (s.flowMapN f 17 10) x then methodShaped else x.method
def State.sectionBlocks (s : State) (f : Nat) (x : Section) : List Byte :=
  if s.isShaped (s.flowMapN f 17 10) x then x.payload.drop 1 else x.payload

/-- Has the payload the length the header implies (check 8)? -/
def State.lengthOk (s : State) (f : Nat) (x : Section) : Bool :=
  decide ((s.sectionBlocks f x).length = ((s.sectionWidths f x).map (prbBytes (s.sectionMethod f x))).sum)

/-- Are method and width of a section accepted (R227, R228)? -/
def State.methodOk (s : State) (f : Nat) (x : Section) : Bool :=
  let r := s.flowMapN f 17 10
  if s.isShaped r x then s.versionOk r x && s.mapHeld f x
  else (decide (x.method = bits (s.govN OD.fallbackCfg r) 3 0 ∧ x.width = bits (s.govN OD.fallbackCfg r) 7 4 + 1))
    || s.isProbe f x

/-- Do the PRBs of a section lie in a C-plane section with its identifier (check 6)? -/
def State.requested (s : State) (f : Nat) (x : Section) : Bool :=
  (s.flow f).cplane.any (fun c => decide (c.1 = s.sectionTick f x ∧ c.2.1 = x.symbol ∧ c.2.2.1 = x.sectionId
    ∧ c.2.2.2.1 ≤ x.startPrb ∧ x.startPrb + x.numPrb ≤ c.2.2.2.1 + c.2.2.2.2))

/-- Was a PRB of a section received before for the flow-symbol? -/
def State.duplicate (s : State) (f : Nat) (x : Section) : Bool :=
  (s.flow f).got.any (fun g => decide (g.1 = s.sectionTick f x ∧ g.2.1 = x.symbol
    ∧ g.2.2.1 < x.startPrb + x.numPrb ∧ x.startPrb < g.2.2.1 + g.2.2.2))

/-- Is the present before, or after, a time in 0.1 µs from the end of a section's symbol (checks 4 and 5)? -/
def State.symbolEnd (s : State) (f : Nat) (x : Section) : Int :=
  let start := s.sectionStart f x
  start + symbolOffset (s.govN OD.numerology (s.flowCell f)) start (x.symbol + 1)
def State.early (s : State) (f : Nat) (x : Section) (tenths : Nat) : Bool :=
  decide ((s.time.air - s.symbolEnd f x) * 125 < (tenths : Int) * 6144)
def State.late (s : State) (f : Nat) (x : Section) (tenths : Nat) : Bool :=
  decide ((tenths : Int) * 6144 < (s.time.air - s.symbolEnd f x) * 125)

/-- The element of INVALID_COUNTS of the first of checks 3–8 of Table 08-4 that a section fails; 0 where it passes. -/
def State.sectionFails (s : State) (f : Nat) (x : Section) : Nat :=
  firstFail [
    (x.downlink, 1),
    (s.early f x (bits (s.govN OD.rxWindow f) 15 0), 2),
    (s.late f x (bits (s.govN OD.rxWindow f) 31 16), 3),
    (!s.requested f x, 4), (!s.methodOk f x, 5), (!s.lengthOk f x, 6), (s.duplicate f x, 7)]

/-- One more in element `k` (from 1) of INVALID_COUNTS of a flow. -/
def State.countInvalid (s : State) (f k : Nat) : State :=
  let b := s.oct OD.invalidCounts f
  let old := b ++ List.replicate (28 - b.length) 0#8
  let v := satInc (leNat ((old.drop (4 * (k - 1))).take 4))
  s.setOct OD.invalidCounts f (old.take (4 * (k - 1)) ++ leBytes 4 v ++ old.drop (4 * k))

/-- The key of a flow-symbol's event (R242). -/
def State.eventKey (s : State) (f symbol : Nat) : Nat := s.flowMapN f 40 25 + 65536 * symbol

/-- The buffer of a flow-symbol's group that no counter takes is released unless something holds it (R95, R243). -/
def State.lateFill (s : State) (f tick symbol : Nat) : State :=
  match s.front.fills.find? (fun y => decide (y.group = s.flowMapN f 40 25 ∧ y.cell = s.flowCell f
      ∧ y.slotTick = tick ∧ y.symbol = symbol)) with
  | some y => match y.handle with
    | some h => if s.boundElsewhere 0x100000 h || s.countedElsewhere 0x100000 h then s else s.freeBuf h
    | none => s
  | none => s

/-- The buffer of a group's symbol attached to counters: each binds it when it fires (R243). -/
def State.attach (s : State) (cs : List Nat) (entry h : Nat) : State :=
  { s with galley := { s.galley with counters := Tab.mapV (fun k (c : Counter) =>
    if cs.contains k && !c.binds.contains (entry, h) then { c with binds := c.binds ++ [(entry, h)] } else c) s.galley.counters } }

/-- The one event of a flow-symbol (R242): counted by the matching counters, which then bind the buffer, or late, its
buffer then released unless something holds it.  A section that follows the event yields none; the buffer it brought is
released where no counter is left to take it. -/
def State.uEvent (s : State) (f tick symbol : Nat) (invalid : Bool) : State :=
  let x := s.flow f
  let cs := s.uMatching (s.eventKey f symbol) (s.flowCell f) tick
  if x.evented.contains (tick, symbol) then (if cs.isEmpty then s.lateFill f tick symbol else s)
  else
    let t := s.setFlow f { x with evented := x.evented ++ [(tick, symbol)] }
    let part := s.flowPart f
    if cs.isEmpty then
      ((t.bump OD.lateEvents).raiseAtMost oneSecond 0x050A part (some part)).lateFill f tick symbol
    else
      let t := match t.front.fills.find? (fun y => decide (y.group = s.flowMapN f 40 25 ∧ y.cell = s.flowCell f
          ∧ y.slotTick = tick ∧ y.symbol = symbol)) with
        | some y => match y.handle with
          | some h => t.attach cs (s.flowMapN f 56 47 + symbol) h
          | none => t
        | none => t
      cs.foldl (fun t c => t.countEvent 1 invalid [] c) t

/-- A section that failed check `k + 2` (R241): counted, and the flow-symbol's event, marked invalid, where a counter
matches. -/
def State.sectionBad (s : State) (p f k : Nat) (x : Section) : State :=
  let r := s.flowMapN f 17 10
  let t := ((s.countInvalid f k).trace 3).raiseAtMost oneSecond 0x0307 f
  let t := if k = 5 then t.cuBump p OD.sectionsInvalid else t
  let t := if k = 5 ∧ s.isShaped r x ∧ s.versionOk r x ∧ ¬ s.mapHeld f x then
      (t.bump OD.mapUnknown r).raiseAtMost oneSecond 0x0709 r else t
  if (s.uMatching (s.eventKey f x.symbol) (s.flowCell f) (s.sectionTick f x)).isEmpty then t
  else t.uEvent f (s.sectionTick f x) x.symbol true

/-- The buffer of a section's event group and symbol (R243): the one it has, or one allocated from the flow's hamper,
cleared and attached to the matching counters; none where none was free. -/
def State.groupBuffer (s : State) (f tick symbol : Nat) : Option Nat × State :=
  let grp := s.flowMapN f 40 25
  let cell := s.flowCell f
  match s.front.fills.find? (fun y => decide (y.group = grp ∧ y.cell = cell ∧ y.slotTick = tick ∧ y.symbol = symbol)) with
  | some y => (y.handle, s)
  | none =>
    let old := s.front.fills.filter (fun y => !(decide (y.handle = none ∧ y.group = grp ∧ y.cell = cell ∧ y.symbol = symbol)))
    match s.allocBuf (s.flowMapN f 24 19) (s.flowPart f) false (.unit .fucu 0) with
    | (none, t) =>
      (none, t.setFront { t.front with fills := old ++ [⟨grp, cell, tick, symbol, none⟩] })
    | (some h, t) =>
      let t := t.setFront { t.front with fills := old ++ [⟨grp, cell, tick, symbol, some h⟩] }
      let t := match t.bufAddr h, t.hamper (hampOf h) with
        | some a, some q => t.deviceZero a q.bytes
        | _, _ => t
      (some h, t.attach (t.uMatching (t.eventKey f symbol) cell tick) (t.flowMapN f 56 47 + symbol) h)

/-- Pairs of components: I and Q in turn. -/
def pairsOf : List (BitVec 32) → List (Int × Int)
  | a :: b :: t => (a.toInt, b.toInt) :: pairsOf t
  | _ => []

/-- Components of a sample that saturate in the conversion to CI16 (R243). -/
def saturates (shift : Nat) (z : Int × Int) : Nat :=
  (if isI16 (rnd z.1 shift 2) then 0 else 1) + if isI16 (rnd z.2 shift 2) then 0 else 1

/-- A frequency-domain sample as CI16 (R243): rnd(x, RX_SHIFT, convergent), saturated. -/
def toCi16 (shift : Nat) (z : Int × Int) : Nat :=
  unsigned 16 (clamp (rnd z.1 shift 2) (-32768) 32767) + 65536 * unsigned 16 (clamp (rnd z.2 shift 2) (-32768) 32767)

/-- Windows of 64 samples a run of samples from sample `at_` of a symbol touches (R208). -/
def windowsOf (f tick symbol : Nat) : Nat → List (Int × Int) → List (Nat × Nat × Nat × Nat × Nat × Nat)
  | _, [] => []
  | n, z :: t => (f, tick, symbol, n / 64, (z.1 * z.1 + z.2 * z.2).toNat, 1) :: windowsOf f tick symbol (n + 1) t

/-- Streams of a flow's event group in its buffer (R243): up to the highest index an enabled uplink flow of the group and cell has. -/
def State.bufferStreams (s : State) (f : Nat) : Nat :=
  ((s.front.flowsOn.filter (fun e => !bit (s.govN OD.flowMatch e) 5
    && decide (s.flowMapN e 40 25 = s.flowMapN f 40 25 ∧ s.flowCell e = s.flowCell f))).map (fun e => s.flowMapN e 46 41 + 1)).foldl max 0

/-- Samples that clip while the gain is frozen are remembered by the contexts whose occasion they lie in (R216). -/
def State.markClipped (s : State) (g : Nat) (n : Int) : State :=
  (s.edge.ctxOn.filter (fun k => decide (s.govN OD.contextGroup k = g) && s.scheduled k n)).foldl (fun t k =>
    let x := t.sctx k
    t.setSctx k { x with clipAt := if x.clipAt.contains n then x.clipAt else (n :: x.clipAt).take 16 }) s

/-- Samples of a time-domain flow through its front unit (R205, R208, R211): the gain applied, saturations counted, the
loop's windows measured, and the gain trailer record of the stream, behind the last stream of buffer `h` at `base`. -/
def State.gainStage (s : State) (g f tick symbol first : Nat) (zs : List (Int × Int)) (h base : Nat) :
    List Nat × State :=
  let x := s.antGroup g
  let num := s.govN OD.numerology (s.groupCell g)
  let start := s.symbolStart num tick symbol
  let c := x.codeAt start
  let gain := gainTable c.1
  let outs := zs.map (fun z => (gained gain z.1, gained gain z.2))
  let clips := outs.foldl (fun n o => n + (if o.1.2 then 1 else 0) + (if o.2.2 then 1 else 0)) 0
  let y := { x with
    wins := joinWins (x.wins ++ windowsOf f tick symbol first zs)
    pk := zs.foldl (fun m z => max m (max z.1.natAbs z.2.natAbs)) x.pk
    clips := (if x.clipSec = s.nowSec then x.clips else 0) + clips, clipSec := s.nowSec }
  let t := (s.setGroup g y).bumpBy OD.clippedSamples x.fu clips
  let t := if 1000 < y.clips ∧ y.clips ≤ 1000 + clips then t.raise 0x0708 g else t
  let t := if c.2 ∧ clips ≠ 0 then t.markClipped g (slotOf num start) else t
  let size := 4 * Config.symbolSize (s.groupCell g) symbol
  let off := s.bufferStreams f * size + 4 * s.flowMapN f 46 41
  let at_ := base + off
  let n := min 65535 (leNat ((t.load at_ 4).drop 2) + clips)
  let rec_ := c.1 + (if c.2 then 256 else 0) + (if x.stepAt start then 512 else 0) + (if n = 0 then 0 else 1024)
    + 65536 * n
  (outs.map (fun o => unsigned 16 o.1.1 + 65536 * unsigned 16 o.2.1), t.deviceWrite at_ (t.fitting h off (leBytes 4 rec_)))

/-- What an accepted section tells of its width set (R224): probe power and peaks. -/
def State.setMeasure (s : State) (f : Nat) (x : Section) (zs : List (Int × Int)) : State :=
  let r := s.flowMapN f 17 10
  let c := s.flowCell f
  let n := slotOf (s.govN OD.numerology c) (s.sectionStart f x)
  let t := s.closeSlot r c n
  let y := t.wset r c
  let per := 12 * max 1 (t.govN OD.groupRb r)
  let probe := s.isProbe f x
  let at_ (k : Nat) : Nat := (12 * x.startPrb + k) / per
  let add (a : Tab Nat × Tab (Nat × Nat)) (e : (Int × Int) × Nat) : Tab Nat × Tab (Nat × Nat) :=
    let sq := (e.1.1 * e.1.1 + e.1.2 * e.1.2).toNat
    let m := max (e.1.1 * e.1.1).toNat (e.1.2 * e.1.2).toNat
    let q := Tab.get (0, 0) a.2 (at_ e.2)
    (Tab.set a.1 (at_ e.2) (max (Tab.get 0 a.1 (at_ e.2)) m),
      if probe then Tab.set a.2 (at_ e.2) (q.1 + sq, q.2 + 1) else a.2)
  let (pk, pr) := zs.zipIdx.foldl add (y.slotPeak, y.probe)
  t.setWset r c { y with slotPeak := pk, probe := pr, slot := some (y.slot.getD n) }

/-- What an accepted section tells of the negotiation (R228, Table 07-7): a noise-shaped one makes it ACTIVE and its bits below 9-bit block
floating point count as saved; one in the fallback method adds its slot to the run of such slots. -/
def State.shapeTold (s : State) (f : Nat) (x : Section) : State :=
  let r := s.flowMapN f 17 10
  let y := s.radio r
  if s.isShaped r x then
    let t := s.bumpBy OD.ulBitsSaved r (216 * x.numPrb - ((s.sectionWidths f x).map (fun w => 24 * w)).sum)
    let t := t.setRadio r { t.radio r with fbRun := 0, fbTick := none }
    if y.ns = .active ∧ y.agreed = nsVersionOf x then t else t.nsEnter r .active (nsVersionOf x)
  else if (y.ns = .offered ∨ y.ns = .active) ∧ !s.isProbe f x ∧ y.fbTick ≠ some (s.sectionTick f x) then
    s.setRadio r { y with fbRun := y.fbRun + 1, fbTick := some (s.sectionTick f x) }
  else s

/-- Entries of a flow that lie more than a second back are forgotten. -/
def State.tidyFlow (s : State) (f : Nat) : State :=
  let x := s.flow f
  let near (t : Nat) : Bool := decide (-491520000 ≤ distance48 t s.time.air)
  s.setFlow f { x with
    cplane := x.cplane.filter (fun c => near c.1), got := x.got.filter (fun c => near c.1)
    evented := x.evented.filter (fun c => near c.1) }

/-- Has every PRB the C-plane requested for a flow-symbol been received (R242)? -/
def State.symbolComplete (s : State) (f tick symbol : Nat) : Bool :=
  let x := s.flow f
  let asked := (x.cplane.filter (fun c => decide (c.1 = tick ∧ c.2.1 = symbol))).flatMap
    (fun c => (List.range c.2.2.2.2).map (fun k => c.2.2.2.1 + k))
  let got := (x.got.filter (fun g => decide (g.1 = tick ∧ g.2.1 = symbol))).flatMap
    (fun g => (List.range g.2.2.2).map (fun k => g.2.2.1 + k))
  asked.all (fun k => got.contains k)

/-- The unit that writes a flow's samples: the front unit of a time-domain flow's group, else the compression unit that
serves the port (R205, R222); 16, which names none, where no unit serves it. -/
def State.sampleUnit (s : State) (p f : Nat) : Nat :=
  match bit (s.govN OD.flowMap f) 18, s.groupOfFlow f with
  | true, some (g, _) => (s.antGroup g).fu
  | _, _ => match s.cuOfLane p with | some k => 4 + k | none => 16

/-- Samples of a flow written into the buffer of its event group (R243). -/
def State.writeSamples (s : State) (p f h tick symbol first : Nat) (zs : List (Int × Int)) : State :=
  match s.bufAddr h with
  | none => s
  | some a =>
    let size := 4 * Config.symbolSize (s.flowCell f) symbol
    let idx := s.flowMapN f 46 41
    let (out, t) := match bit (s.govN OD.flowMap f) 18, s.groupOfFlow f with
      | true, some (g, _) => s.gainStage g f tick symbol first zs h a
      | _, _ =>
        let n := (zs.map (saturates (s.govN OD.rxShift f))).sum
        (zs.map (toCi16 (s.govN OD.rxShift f)), s.setFlow f { s.flow f with saturated := (s.flow f).saturated + n })
    let q : Acc := ⟨.fucu, s.sampleUnit p f, some (s.flowPart f), false, none, false⟩
    let off := idx * size + 4 * first
    if s.bufSealed h then t
    else (t.memWrite q (a + off) (t.fitting h off (out.flatMap (leBytes 4)))).2

/-- A section dropped because the hamper has no free buffer (R243): no section is counted accepted, the flow-symbol yields
an invalid event, and MINOR alarm 0x0310 is raised once per second and flow. -/
def State.sectionDropped (s : State) (f tick symbol : Nat) : State :=
  (s.raiseAtMost oneSecond 0x0310 f).uEvent f tick symbol true

/-- A section counted as accepted and decoded. -/
def State.sectionCounted (s : State) (p f : Nat) : State := (s.bump OD.sectionsAccepted f).cuBump p OD.sectionsDecoded

/-- A section that passed every check (R242, R243). -/
def State.sectionGood (s : State) (p f : Nat) (x : Section) : State :=
  let tick := s.sectionTick f x
  match (s.tidyFlow f).groupBuffer f tick x.symbol with
  | (none, t) => t.sectionDropped f tick x.symbol
  | (some h, t) =>
    let t := t.sectionCounted p f
    let zs := expandBlocks (s.sectionMethod f x) (s.sectionWidths f x) (s.sectionBlocks f x)
    let t := (t.setMeasure f x zs).shapeTold f x
    let t := t.writeSamples p f h tick x.symbol (12 * x.startPrb) zs
    let t := t.setFlow f { t.flow f with got := (t.flow f).got ++ [(tick, x.symbol, x.startPrb, x.numPrb)] }
    if t.symbolComplete f tick x.symbol || (t.flow f).evented.contains (tick, x.symbol) then t.uEvent f tick x.symbol false
    else t

/-- A U-plane section of a matched flow. -/
def State.section_ (p f : Nat) (s : State) (x : Section) : State :=
  match s.sectionFails f x with
  | 0 => s.sectionGood p f x
  | k => s.sectionBad p f k x

/-- A gap in a flow's ecpriSeqid counted (R238). -/
def State.seqCheck (s : State) (f seq : Nat) : State :=
  let x := s.flow f
  let t := s.setFlow f { x with seqId := some (seq % 256) }
  match x.seqId with
  | some q => if (q + 1) % 256 = seq % 256 then t else t.bump OD.seqGaps f
  | none => t

/-! ## Dispatch of a frame -/

/-- The class of a frame in R245; one of eCPRI is of class 1 where its first message is of type 5 (DESIGN CHOICE for frames that mix
types). -/
def policeClass : FrameBody → Nat
  | .ecpri _ _ _ _ ms => if (ms.map EcpriMsg.kind).head? = some 5 then 1 else 0
  | .firmware _ => 1
  | .managed _ => 2
  | .forward .. => 3
  | _ => 4

/-- A message of an eCPRI frame (R238): malformed, U-plane of a flow or of none, or to firmware. -/
def State.message (p transport vid : Nat) (ipOk secured : Bool) (f : EthFrame) (s : State) (m : EcpriMsg) : State :=
  if m.revision ≠ 1 ∨ m.eBit = false ∨ ipOk = false ∨ (m.kind ≠ 0 ∧ m.kind ≠ 5) then s.bump OD.portMalformed p
  else if m.kind = 5 then s.toFirmware p 0 secured f
  else match s.matchFlow p transport vid m.eaxc with
    | some fl => m.secs.foldl (State.section_ p fl) (s.seqCheck fl m.seqId)
    | none => s.bump OD.unknownFlow p

/-- A frame that passed the MAC, MACsec and its bucket; up to eight messages of a concatenation are processed. -/
def State.frameBody (s : State) (p : Nat) (secured : Bool) (f : EthFrame) : State :=
  match f.body with
  | .ecpri transport vid _ ipOk ms => (ms.take 8).foldl (State.message p transport vid ipOk secured f) s
  | .firmware c => s.toFirmware p c secured f
  | .managed _ => s.toFirmware p 6 secured f
  | .forward vid src dst => s.forward p vid src dst f.length
  | _ => s

/-- The MACsec verification of a received frame (R249): the SA it passes with and the SA's next packet number, or the element of
MACSEC_DROPS it counts in. -/
def State.secVerify (s : State) (p : Nat) : Option SecTag → Except Nat (Nat × Nat)
  | none => .error 0
  | some t =>
    match (List.range 8).find? (fun k => decide (s.nat OD.rxSci (256 * p + 4 * k) = t.sci)) with
    | none => .error 1
    | some k =>
      let sa := 128 + 4 * k + t.an % 4
      let next := s.nat OD.saNextPn (256 * p + sa)
      if !s.saInstalled p sa then .error 2
      else if !t.icvOk then .error 3
      else if t.pn + s.nat OD.replayWindow p < next then .error 4
      else .ok (sa, max next (min 0xFFFFFFFFFFFFFFFF (t.pn + 1)))

/-- The frame's MACsec check: whether it passes, and whether it was verified. -/
def State.macsecCheck (s : State) (p : Nat) (f : EthFrame) : Bool × Bool × State :=
  if !has s.front.macsecOn p ∨ s.nat OD.validate p = 0 then (true, false, s)
  else match s.secVerify p f.sec with
    | .ok (sa, pn) => (true, true, s.setNum OD.saNextPn (256 * p + sa) (pn : Nat))
    | .error k =>
      let t := s.macsecDrop p k
      if s.nat OD.validate p = 2 then (false, false, t.raiseAtMost oneSecond 0x030A p) else (true, false, t)

/-- The body of a frame as the port treats it: eCPRI over UDP on another port than UDP_PORT (R238), PTP that is not recognised (R54), a
VLAN that is not the management VLAN, and a frame for the device itself or on a port of no group (R251) are of no listed class. -/
def State.bodyTaken (s : State) (p : Nat) : FrameBody → FrameBody
  | .ecpri tr vid port ok ms => if tr ≠ 0 ∧ port ≠ s.govN OD.udpPort p then .other else .ecpri tr vid port ok ms
  | .ptp e => if ptpRecognised e then .ptp e else .other
  | .managed vid => if bit (s.govN OD.mgmtVlan p) 15 && decide (bits (s.govN OD.mgmtVlan p) 11 0 = vid) then .managed vid else .other
  | .forward v a d => if s.keepsFrame p d || (s.members p).isEmpty then .other else .forward v a d
  | b => b

/-- A frame as the port takes it: an Ethernet frame with FCS, size and FEC good, of no pause kind, in order MAC, MACsec,
policing, dispatch. -/
def State.frameRx (s : State) (p : Nat) (f : EthFrame) : State :=
  if !f.fcsOk || !f.fecOk || decide (f.length < 64) || decide (s.govN OD.maxFrame p < f.length)
      || decide (f.body = .pause) then s.bump OD.portMalformed p
  else match s.macsecCheck p f with
    | (false, _, t) => t
    | (true, secured, t) =>
      let f := { f with body := t.bodyTaken p f.body }
      match f.body with
      | .ptp _ =>
        match t.police p with
        | (true, t) => t.toFirmware p 5 secured f
        | (false, t) => t
      | b =>
        match t.beyond p (policeClass b) f.length with
        | (true, t) => t.policeDrop p (policeClass b)
        | (false, t) => t.frameBody p secured f

/-- ETH_FRAME_RX (R234): only an enabled port that is up accepts frames (R256); a CPRI port carries only the frames of
its fast C&M channel (R254). -/
def execEthFrameRx (port : Nat) (f : EthFrame) (s : State) : Out :=
  if s.portOk port && (!s.isCpri port || decide (f.body = .firmware 4)) then .next (s.frameRx port f) else .next s

/-- CPRI_SYMBOL_RX (R254): the last sample of a flow-symbol of an enabled CPRI flow. `slot` is its boundary tick. -/
def execCpriSymbolRx (flow : Nat) (slot symbol : Nat) (samples : List (BitVec 32)) (s : State) : Out :=
  if has s.front.flowsOn flow && s.portOk (s.flowPort flow) && s.isCpri (s.flowPort flow) then
    match (s.tidyFlow flow).groupBuffer flow slot symbol with
    | (none, t) => .next (t.sectionDropped flow slot symbol)
    | (some h, t) => .next (((t.sectionCounted (s.flowPort flow) flow).writeSamples (s.flowPort flow) flow h slot symbol 0 (pairsOf samples)).uEvent flow slot symbol false)
  else .next s

/-- FW_RING_POP (R244): the oldest descriptor is returned and removed; zeros of an empty ring. -/
def execFwRingPop (port : Nat) (s : State) : Out :=
  let (v, t) := s.popFw port
  .next (t.answerFab .rdata 0 (leBytes 32 v))

/-! ## Forwarding table (R252, R253) -/

/-- The table replaced, ENTRIES following it. -/
def State.setFdb (s : State) (l : List Fdb) : State :=
  (s.setFront { s.front with fdb := l }).setNum OD.entries 0 (min 65535 l.length : Nat)

/-- Is it the entry of an address? -/
def Fdb.is (e : Fdb) (vid : Nat) (mac : BitVec 48) : Bool := decide (e.vid = vid ∧ e.mac = mac)

/-- More than STORM_LIMIT moves within 1 s declare a storm (R253). -/
def State.stormCheck (s : State) (now : Nat) : State :=
  let l := (now :: s.front.moveTimes).take (s.nat OD.stormLimit + 1)
  let t := (s.setFront { s.front with moveTimes := l }).bump OD.moves
  if l.length = s.nat OD.stormLimit + 1 ∧ now ≤ l.getD (s.nat OD.stormLimit) 0 + 1000000 then
    if t.front.storm then t else (t.setFront { t.front with storm := true, stormAt := now, moveReqs := 0 }).condition 0x0309 0 true
  else t

/-- A learn request (R252). -/
def State.learn (s : State) (port vid : Nat) (mac : BitVec 48) (now : Nat) : State :=
  match s.front.fdb.find? (fun e => e.is vid mac) with
  | none =>
    if 16384 ≤ s.front.fdb.length then s.bump OD.learnFails
    else s.setFdb (s.front.fdb ++ [⟨vid, mac, port, false, false, [], now, now, 0⟩])
  | some e =>
    let put (t : State) (x : Fdb) : State := t.setFdb (t.front.fdb.map (fun y => if y.is vid mac then x else y))
    if e.port = port then put s { e with seen := now }
    else
      let limit := s.nat OD.flapLimit
      let flaps := (now :: e.flaps).take 255
      let refused := e.isStatic || e.pinned || s.front.storm || decide (now < e.moved + s.nat OD.moveHold)
      let t := s.setFront { s.front with moveReqs := s.front.moveReqs + 1 }
      let e := { e with flaps := flaps }
      let (e, t) := if refused then (e, t.bump OD.movesRefused)
        else ({ e with port := port, moved := now, seen := now }, t.stormCheck now)
      let pin := !e.pinned && decide (limit ≤ flaps.length) && decide (now ≤ flaps.getD (limit - 1) 0 + 1000000)
      if pin then (put t { e with pinned := true, pinnedAt := now }).raise 0x0308 port else put t e

/-- Microseconds of the timebase, the clock of the forwarding table. -/
def State.nowUs (s : State) : Nat := s.nowNs / 1000

/-- LEARN_REQUEST (R252): the port is a member of a bridge group and the source a unicast address. -/
def execLearnRequest (port vid : Nat) (mac : BitVec 48) (s : State) : Out :=
  if (s.members port).isEmpty ∨ mac.toNat / 2 ^ 40 % 2 = 1 then .next s else .next (s.learn port vid mac s.nowUs)

/-- ENTRY_AGE_OUT (R252): after AGING without a refresh; AGING 0 never ages, and a static entry does not age (DEDUCED). -/
def execEntryAgeOut (vid : Nat) (mac : BitVec 48) (s : State) : Out :=
  if s.nat OD.aging = 0 then .next s
  else .next (s.setFdb (s.front.fdb.filter (fun e => e.isStatic || !e.is vid mac || decide (s.nowUs < e.seen + 1000000 * s.nat OD.aging))))

/-- PIN_EXPIRY (R252): after PIN_TIME. -/
def execPinExpiry (vid : Nat) (mac : BitVec 48) (s : State) : Out :=
  .next (s.setFdb (s.front.fdb.map (fun e =>
    if e.is vid mac && e.pinned && decide (e.pinnedAt + 1000000 * s.nat OD.pinTime ≤ s.nowUs) then { e with pinned := false, flaps := [] }
    else e)))

/-- MOVE_STORM_END (R253): the end of a full second of a storm, counted from its declaration; the storm ends where the second's move
requests numbered no more than STORM_LIMIT, else the next second is counted. -/
def execMoveStormEnd (s : State) : Out :=
  if s.front.storm ∧ s.front.stormAt + 1000000 ≤ s.nowUs then
    let calm := decide (s.front.moveReqs ≤ s.nat OD.stormLimit)
    let t := s.setFront { s.front with moveReqs := 0, storm := !calm, stormAt := s.nowUs }
    .next (if calm then t.condition 0x0309 0 false else t)
  else .next s

/-- A static entry added or removed (R259); 0x0308 where the table is full. -/
def writeStatic (vid : Nat) (mac : BitVec 48) (port : Nat) (add : Bool) (s : State) : Except Fail State :=
  let rest := s.front.fdb.filter (fun e => !e.is vid mac)
  let now := s.nowUs
  if add then
    if 16384 ≤ rest.length then .error (OD.staticEntry.fail 0x0308 port)
    else .ok (s.setFdb (rest ++ [⟨vid, mac, port, true, false, [], now, now, 0⟩]))
  else .ok (s.setFdb (s.front.fdb.filter (fun e => !(e.is vid mac && e.isStatic))))

/-- STATIC_ENTRY (R259). -/
def execStaticEntry (who : Requester) (vid : Nat) (mac : BitVec 48) (port : Nat) (add : Bool) (s : State) : Out :=
  .next (s.actOn who OD.staticEntry 0 OD.staticEntry.addr 0 (writeStatic vid mac port add))

/-! ## Recalibration (R231) -/

/-- RECAL_INTERVAL_EXPIRY (R231): RECAL_INTERVAL after a lane's last recalibration, a recalibration token is requested for a lane that
runs.  Instances from 24 on are Mogil lanes, for which the spec gives no interval. -/
def execRecalIntervalExpiry (inst : Nat) (s : State) : Out :=
  if 24 ≤ inst then .next (s.requestToken 2 inst)
  else if s.lanesPowered ∧ s.govN OD.laneMode inst ≠ 0 ∧ (s.lane inst).recalAt + s.nat OD.recalInterval inst ≤ s.runSec then
    .next (s.requestToken 2 inst)
  else .next s

/-- LANE_RECALIBRATION (R231): hitless, under its token, which is then returned. -/
def execLaneRecalibration (inst : Nat) (s : State) : Out :=
  if s.holdsToken 2 inst then
    let t := if inst < 24 then s.setLane inst { s.lane inst with recals := satInc (s.lane inst).recals, recalAt := s.runSec } else s
    .next (t.returnToken 2 inst)
  else .next s

/-! ## Enables (R233, R237, R248) -/

/-- Does a port's written configuration fit Table 08-2: row, first lane, lanes present and lane modes? -/
def State.configFits (s : State) (p : Nat) : Bool :=
  let row := bits (s.nat OD.portConfig p) 3 0
  let n := lanesOfRow row
  let mode (k : Nat) : Nat := s.nat OD.laneMode (p + k)
  let modeOk (m : Nat) : Bool :=
    if row = 9 then decide (4 ≤ m ∧ m ≤ 7)
    else decide (m = [1, 2, 1, 2, 3, 2, 3, 2, 3].getD row 0)
  decide (row ≤ 9) && decide (p + n ≤ 24) && decide (p % n = 0) && (List.range n).all (fun k => modeOk (mode k))
    && decide (s.nat OD.portConfig p / 32 = 0)

/-- Lanes of the written configuration. -/
def State.lanesWritten (s : State) (p : Nat) : List Nat :=
  (List.range (lanesOfRow (bits (s.nat OD.portConfig p) 3 0))).map (fun k => p + k)

/-- Bridge groups that name a port in the written members. -/
def State.groupsWritten (s : State) (p : Nat) : List Nat :=
  let m := s.oct OD.groupMembers
  (List.range 8).filter (fun g => bit (leNat ((m.drop (4 * g)).take 4)) p)

/-- The enable check of a port (R233, R251, R255), in the order of Table 08-13: 0 where it accepts. -/
def State.portReason (s : State) (p : Nat) : Nat :=
  let cpri := decide (bits (s.nat OD.portConfig p) 3 0 = 9)
  firstFail [
    ((s.lanesWritten p).any (fun l => match s.portOfLane l with | some q => decide (q ≠ p) | none => false)
      || !s.configFits p, 0x0302),
    (cpri && (s.flag OD.ptpEnable p || s.flag OD.macsecEnable p || !(s.groupsWritten p).isEmpty), 0x0303),
    (decide (2 ≤ (s.groupsWritten p).length), 0x0308),
    (cpri && (decide (bits (s.nat OD.cpriRates p) 3 0 = 0) || decide (16 ≤ s.nat OD.cpriRates p)), 0x0309),
    (decide (s.nat OD.maxFrame p < 1518 ∨ 9216 < s.nat OD.maxFrame p), 0x030A)]

/-- The values of a port in force when it is enabled. -/
def State.takePort (s : State) (p : Nat) : State :=
  let t := s.takeAll [OD.portConfig, OD.macAddress, OD.maxFrame, OD.udpPort, OD.mgmtVlan, OD.fwHamper, OD.macsecEnable,
    OD.confOffset, OD.cpriRates, OD.fastCm, OD.sampleWidth, OD.portEnable] p
  let t := (t.take OD.groupMembers 0).takePtp p
  (t.portLanes p).foldl (fun t l => t.takeAll [OD.laneMode, OD.lanePolarity] l) t

/-- A port enabled: its search starts on lanes that have signal. -/
def State.portOn (s : State) (p : Nat) : State :=
  let t := s.setFlag OD.portEnable p true
  let t := t.takePort p
  let t := t.setFront { t.front with portsOn := insertN t.front.portsOn p }
  let t := t.setFront { t.front with macsecOn := putN t.front.macsecOn p (t.flag OD.macsecEnable p) }
  if (t.port p).up then t
  else
    let t := t.searchPort p
    let t := t.setPort p { t.port p with cpriState := if t.isCpri p then 1 else 0, cpriRate := 0 }
    t.portDefect p 0 (!(t.portLanes p).all (fun l => (t.lane l).signal))

/-- A port disabled: its frames are discarded, its defects and alarms end. -/
def State.portOff (s : State) (p : Nat) : State :=
  let t := (s.setFlag OD.portEnable p false).take OD.portEnable p
  if has s.front.portsOn p then
    let t := t.switchOver p
    let t := t.flushPort p
    let t := t.setFront { t.front with portsOn := removeN t.front.portsOn p }
    let t := (t.portLanes p).foldl (fun t l => let x := t.lane l
      t.setLane l { x with search := if x.search = .debounce then .debounce else .none }) t
    let t := t.setPort p { t.port p with defects := 0#6, up := false, cpriState := 0, cpriRate := 0, remoteFault := false }
    (t.portAlarms p 0).flowCause
  else t

/-- A write of PORT_ENABLE (R233). -/
def enablePort (p v : Nat) (s : State) : Except Fail State :=
  if !s.enableMode then .error (OD.portEnable.fail 0x0A01 p)
  else if 24 ≤ p then .error (OD.portEnable.fail 0x0D08 p)
  else if v = 0 then .ok (s.portOff p)
  else match s.portReason p with
    | 0 => .ok (s.portOn p)
    | r => .error (OD.portEnable.fail r p)

/-- PORT_ENABLE (R233). -/
def execPortEnable (who : Requester) (v : Nat) (s : State) : Out :=
  .next (s.actSel who OD.portEnable v (fun p => enablePort p v))

/-- Antenna streams of a direction in MHz (R26, R237). -/
def State.streamsMhz (s : State) (down : Bool) : Nat :=
  ((s.front.flowsOn.filter (fun f => decide (bit (s.govN OD.flowMatch f) 5 = down))).map
    (fun f => Config.cellMhz (s.flowCell f))).sum

/-- Is a cell configured: does it name a partition that is not ABSENT? -/
def State.cellThere (s : State) (c : Nat) : Bool :=
  decide (c < 1024) && decide ((s.part (s.nat OD.cellPartition c)).state ≠ .absent)

/-- A port is configured: it is enabled. -/
def State.portThere (s : State) (p : Nat) : Bool := has s.front.portsOn p

/-- The enable check of a flow (R237, R240, R228), in the order of Table 08-13 and Table 07-13. -/
def State.flowReason (s : State) (f : Nat) : Nat :=
  let m := s.nat OD.flowMatch f
  let mp := s.nat OD.flowMap f
  let w := s.nat OD.txWindow f
  let others := s.front.flowsOn.filter (fun g => decide (g ≠ f))
  let rowOf (p : Nat) : Nat := bits (s.govN OD.portConfig p) 3 0
  let shaped := s.flag OD.nsEnable (bits mp 17 10)
  firstFail [
    (decide (51200 < ((others.filter (fun g => decide (bit (s.govN OD.flowMatch g) 5 = bit m 5))).map
      (fun g => Config.cellMhz (s.flowCell g))).sum + Config.cellMhz (bits mp 9 0)), 0x0301),
    (others.any (fun g => decide (s.govN OD.flowMatch g % 2 ^ 36 = m % 2 ^ 36)), 0x0304),
    (!s.portThere (bits m 4 0) || (bit m 41 && !s.portThere (bits m 40 36)) || !s.cellThere (bits mp 9 0)
      || (s.hamper (bits mp 24 19)).isNone, 0x0305),
    (decide (bits w 31 16 ≤ bits w 15 0) || decide (bits w 63 48 ≤ bits w 47 32), 0x030B),
    (shaped && (decide (rowOf (bits m 4 0) = 9) || decide (s.nat OD.radioProfile (bits mp 17 10) = 0)), 0x0706)]

/-- A radio entry's values taken with the first flow that names it: its width sets and the negotiation start (Table 07-7). -/
def State.radioOn (s : State) (r : Nat) : State :=
  let t := s.takeAll [OD.nsEnable, OD.nsVersions, OD.radioProfile, OD.groupRb, OD.noiseSource, OD.probeCfg] r
  let t := t.setRadio r { t.radio r with sets := [] }
  t.nsEnter r (if t.flag OD.nsEnable r then .offered else .off) 0

/-- A flow enabled; it starts on its port. -/
def State.flowOn (s : State) (f : Nat) : State :=
  let t := (s.setFlag OD.flowEnable f true).takeAll
    [OD.flowMatch, OD.flowMap, OD.peerAddress, OD.flowEnable] f
  let r := t.flowMapN f 17 10
  let first := !s.front.flowsOn.any (fun g => decide (s.flowMapN g 17 10 = r))
  let t := t.setFront { t.front with flowsOn := insertN t.front.flowsOn f }
  let t := if first then t.radioOn r else t
  let t := t.setFlow f { t.flow f with active := some (t.flowPort f) }
  (t.setNum OD.flowActivePort f (t.flowPort f : Nat)).flowCause

/-- A flow disabled. -/
def State.flowOff (s : State) (f : Nat) : State :=
  let t := (s.setFlag OD.flowEnable f false).take OD.flowEnable f
  (t.setFront { t.front with flowsOn := removeN t.front.flowsOn f, flows := Tab.del t.front.flows f }).flowCause

/-- A write of FLOW_ENABLE (R237). -/
def enableFlow (f v : Nat) (s : State) : Except Fail State :=
  if !s.enableMode then .error (OD.flowEnable.fail 0x0A01 f)
  else if 4096 ≤ f then .error (OD.flowEnable.fail 0x0D08 f)
  else if v = 0 then .ok (s.flowOff f)
  else match s.flowReason f with
    | 0 => .ok (s.flowOn f)
    | r => .error (OD.flowEnable.fail r f)

/-- FLOW_ENABLE (R237). -/
def execFlowEnable (who : Requester) (v : Nat) (s : State) : Out :=
  .next (s.actSel who OD.flowEnable v (fun f => enableFlow f v))

/-- A write of MACSEC_ENABLE (R248): in force when the port is enabled; 0x0303 on a CPRI port, 0x0307 for a confidentiality
offset other than 0, 30 or 50. -/
def enableMacsec (p v : Nat) (s : State) : Except Fail State :=
  if v = 1 ∧ bits (s.nat OD.portConfig p) 3 0 = 9 then .error (OD.macsecEnable.fail 0x0303 p)
  else if v = 1 ∧ ¬ [0, 30, 50].contains (s.nat OD.confOffset p) then .error (OD.macsecEnable.fail 0x0307 p)
  else .ok (s.setFlag OD.macsecEnable p (v = 1))

/-- MACSEC_ENABLE (R248). -/
def execMacsecEnable (who : Requester) (v : Nat) (s : State) : Out :=
  .next (s.actSel who OD.macsecEnable v (fun p => enableMacsec p v))

end Sys2Proof.Machine
end

