-- ==== Sys2Proof/Machine/Edge.lean ====
section
/-!
DEFINITION. Radio-edge processing (chapter 07): the gain loop, the concurrent search and its collection, bursts and
radio control outputs, the slugs of the compression units, noise-shaped negotiation, and the spares of front and
compression units.
-/

namespace Sys2Proof.Machine

open Sys2Proof

/-! ## Gain loop (R209–R211) -/

/-- Contexts that freeze a change point of a group now (R210): one that triggered in the occasion in progress, or whose
OCCASION_FREEZE is set in it. -/
def State.freezers (s : State) (g : Nat) : List Nat :=
  s.edge.ctxOn.filter (fun k => decide (s.govN OD.contextGroup k = g) &&
    (decide ((s.sctx k).trigAt = some (s.contextSlot k)) || (decide (s.gov OD.occasionFreeze k ≠ 0) && s.occasionNow k)))

/-- Is a change point of a group frozen now? -/
def State.frozenNow (s : State) (g : Nat) : Bool := !(s.freezers g).isEmpty

/-- A slot number among the latest 16 of a list. -/
def noteSlot (l : List Int) (n : Int) : List Int := if l.contains n then l else (n :: l).take 16

/-- The occasions that freeze a change point remember it (R216). -/
def State.markFrozen (s : State) (g : Nat) : State :=
  (s.freezers g).foldl (fun t k =>
    t.setSctx k { t.sctx k with frozeAt := noteSlot (t.sctx k).frozeAt (t.contextSlot k) }) s

/-- The change point of a group that is due (R209): the start of the symbol its cell is in, where that is an uplink symbol, one the
downlink mask does not name (DEDUCED), whose bit of CHANGE_MASK is set, and whose change point has not come. -/
def State.changeDue (s : State) (g : Nat) : Option Int :=
  let c := s.groupCell g
  let num := s.govN OD.numerology c
  let n := slotOf num s.time.air
  let k := symbolAt num s.time.air
  let start := symbolTick num n k
  if bit (s.govN OD.changeMask g) k && !s.downBit c n k && !(s.antGroup g).hist.any (fun e => decide (e.1 = start)) then some start
  else none

/-- The code after a change point (R209). -/
def State.nextCode (s : State) (g : Nat) : Nat :=
  let x := s.antGroup g
  if x.wins.isEmpty then x.gain
  else
    let cw := wantedCode (s.gov OD.targetRms g) (s.gov OD.peakLimit g) x.wins x.pk
    if cw < x.gain then max cw (x.gain - s.govN OD.attackMax g)
    else if x.gain < cw then min cw (x.gain + s.govN OD.decayStep g)
    else x.gain

/-- GAIN_CHANGE_POINT (R209, R210). -/
def execGainChangePoint (group : Nat) (s : State) : Out :=
  if has s.edge.groupsOn group && !bit (s.govN OD.groupMap group) 12 then
    match s.changeDue group with
    | some start =>
      let x := s.antGroup group
      let fz := s.frozenNow group
      let c := if fz then x.gain else s.nextCode group
      .next ((s.markFrozen group).setGroup group { x with
        gain := c, frozen := fz, hist := ((start, c, fz) :: x.hist).take 512, wins := [], pk := 0 })
    | none => .next s
  else .next s

/-! ## Search (R210, R214–R217) -/

/-- SEARCH_TRIGGER (R210): over a window of 64 samples of an occasion the power of a context's filtered band exceeds its noise
estimate, both in 1/16 dBFS, by TRIGGER_LEVEL. -/
def execSearchTrigger (ctx : Nat) (band noise : Int) (s : State) : Out :=
  if has s.edge.ctxOn ctx && s.occasionNow ctx && decide (noise + 4 * s.govN OD.triggerLevel ctx < band) then
    .next (s.setSctx ctx { s.sctx ctx with trigAt := some (s.contextSlot ctx) })
  else .next s

/-- 10^(d/20) in units of 2⁻⁶⁴, rounded down (DESIGN CHOICE: R216 gives the scaling no width): what an amplitude scaled by 10^(d/40)
does to a power. -/
def powerScale (d : Int) : Nat :=
  let fits (n : Nat) : Bool := decide (n ^ 20 * 10 ^ (-d).toNat ≤ 2 ^ 1280 * 10 ^ d.toNat)
  (List.range 110).foldr (fun k acc => if fits (acc + 2 ^ k) then acc + 2 ^ k else acc) 0

/-- Bins added place by place. -/
def addBins : List Nat → List Nat → List Nat
  | a :: x, b :: y => (a + b) :: addBins x y
  | [], y => y
  | x, [] => x

/-- The profile of a preamble over an occasion of a group, in units of 2⁻⁶⁴ (R214, R216): each symbol's powers, scaled by its code against
the code at the start, added over symbols and antennas. -/
def AntGroup.combine (x : AntGroup) (num : Nat) (n : Int) (p : Profile) : List Nat :=
  let c0 : Int := (x.codeAt (slotStart num n)).1
  p.parts.foldl (fun acc q =>
    let k := powerScale (c0 - (x.codeAt (symbolTick num n q.1)).1)
    addBins acc ((q.2.foldl addBins []).map (fun b => b * k))) []

/-- The four largest of a list, largest first. -/
def fourLargest (l : List Nat) : List Nat :=
  l.foldl (fun acc b => (acc.takeWhile (fun a => decide (b ≤ a)) ++ b :: acc.dropWhile (fun a => decide (b ≤ a))).take 4) []

/-- 160·log10(a/b) rounded to a whole number of an I16; which way is open (Config.roundUp).  The least one of no power. -/
def dbSteps (a b place : Nat) : Int :=
  let ok (y : Int) : Bool := decide (b ^ 160 * 10 ^ y.toNat ≤ a ^ 160 * 10 ^ (-y).toNat)
  let y : Int := (List.range 16).foldr (fun k acc => if ok (acc + (2 ^ k : Nat)) then acc + (2 ^ k : Nat) else acc) (-32768)
  if a = 0 ∨ b ^ 160 * 10 ^ y.toNat = a ^ 160 * 10 ^ (-y).toNat ∨ !Config.roundUp place then y else min 32767 (y + 1)

/-- The detection a combined profile gives (R214): the strongest bin over the mean of the bins outside the four strongest by more than
THRESHOLD.  A profile of no more than four bins, whose noise the rule does not define, gives none (DESIGN CHOICE). -/
def detectIn (threshold format preamble antennas place : Nat) (bins : List Nat) : Option Detection :=
  let top := fourLargest bins
  let s := top.headD 0
  let sum := bins.sum - top.sum
  let cnt := bins.length - 4
  let over_ (p : Nat) : Bool := decide (sum ^ 40 * 10 ^ p ≤ (s * cnt) ^ 40)
  if bins.length ≤ 4 ∨ (s * cnt) ^ 40 ≤ sum ^ 40 * 10 ^ threshold then none
  else
    let pnr := (List.range 8).foldr (fun k acc => if over_ (acc + 2 ^ k) then acc + 2 ^ k else acc) 0
    let exact := decide (sum ^ 40 * 10 ^ pnr = (s * cnt) ^ 40)
    let first := (bins.findIdx? (fun b => decide (s ^ 5 ≤ b ^ 5 * 1000))).getD 0
    let rs : List Rat := bins.map (fun (b : Nat) => (b : Rat) / ((2 ^ 64 : Nat) : Rat))
    let p := Config.searchPower rs antennas
    some ⟨preamble, decide (bins.length ≤ first + 1), Config.delayTc format rs first,
      if exact ∨ !Config.roundUp place then pnr else min 255 (pnr + 1),
      dbSteps p.num.toNat (p.den * 2 ^ 46) (place + 1), dbSteps sum (cnt * 2 ^ 110) (place + 2)⟩

/-- One detection per preamble, the one of the strongest bin first (R214). -/
def onePerPreamble : List Detection → List Detection
  | [] => []
  | d :: t =>
    let rest := onePerPreamble t
    match rest.find? (fun e => decide (e.preamble = d.preamble)) with
    | some e => if e.pnr ≤ d.pnr then d :: rest.filter (fun x => decide (x.preamble ≠ d.preamble)) else rest
    | none => d :: rest

/-- The detections of an occasion, one per preamble. -/
def State.detections (s : State) (k : Nat) (n : Int) (ps : List Profile) : List Detection :=
  let g := s.govN OD.contextGroup k
  onePerPreamble (ps.zipIdx.filterMap (fun e =>
    detectIn (s.govN OD.threshold k) (s.govN OD.ctxFormat k) e.1.preamble (mapStreams (s.govN OD.groupMap g)) (s.freeCtr + 3 * e.2)
      ((s.antGroup g).combine (s.contextNum k) n e.1)))

/-- SEARCH_OCCASION_END (R214–R217): the first occasion that has ended is processed; the detections enter the ring, or are dropped where
it holds 16 occasions. -/
def execSearchOccasionEnd (ctx : Nat) (profiles : List Profile) (s : State) : Out :=
  match has s.edge.ctxOn ctx, s.occasionDue ctx s.time.air with
  | true, some n =>
    let x := s.sctx ctx
    let num := s.contextNum ctx
    let grp := s.antGroup (s.govN OD.contextGroup ctx)
    let ds := s.detections ctx n profiles
    let s := { s with freeCtr := s.freeCtr + 3 * profiles.length }
    let later (l : List Int) : List Int := l.filter (fun m => decide (n < m))
    let y := { x with
      last := n, trigAt := x.trigAt.filter (fun m => decide (n < m)), frozeAt := later x.frozeAt, clipAt := later x.clipAt }
    if 16 ≤ x.ring.length then
      .next (((s.setSctx ctx { y with dropped := x.dropped + ds.length }).bumpBy OD.reportsDropped grp.fu ds.length).raiseAtMost
        oneSecond 0x0707 ctx)
    else
      let step := (List.range (symbolsOf num)).any (fun k => decide (k ≠ 0) && grp.stepAt (symbolTick num n k))
      let o : Occasion := ⟨sfnOf (slotStart num n), (n % (slotsPerFrame num : Nat)).toNat, step, x.clipAt.contains n, x.frozeAt.contains n, ds⟩
      .next ((s.setSctx ctx { y with ring := x.ring ++ [o] }).bumpBy OD.detections ctx ds.length)
  | _, _ => .next s

/-- A report record (Table 07-4). -/
def reportRec (ctx : Nat) (o : Occasion) (d : Detection) : Nat :=
  d.preamble % 64 + ctx % 256 * 2 ^ 6 + (if o.step then 2 ^ 14 else 0) + (if o.clipped then 2 ^ 15 else 0)
    + (if o.frozen then 2 ^ 16 else 0) + (if d.edge then 2 ^ 17 else 0) + o.sfn % 1024 * 2 ^ 18 + o.slot % 128 * 2 ^ 32
    + d.delay % 2 ^ 24 * 2 ^ 40 + d.pnr % 256 * 2 ^ 64 + unsigned 16 d.power * 2 ^ 80 + unsigned 16 d.noise * 2 ^ 96

/-- Records a context holds. -/
def SearchCtx.records (x : SearchCtx) (k : Nat) : List Nat := x.ring.flatMap (fun o => o.dets.map (reportRec k o))

/-- The bytes a collection writes: the header and every pending record (R215). -/
def SearchCtx.bytes (x : SearchCtx) (k : Nat) : List Byte :=
  let rs := x.records k
  leBytes 16 (min 65535 rs.length + min 65535 x.ring.length * 2 ^ 16 + min 65535 x.lost * 2 ^ 32
    + min 65535 x.dropped * 2 ^ 48) ++ rs.flatMap (leBytes 16)

/-- A COLLECT job that holds its buffers: the reports written and removed from the ring, and the slug reported. -/
def State.collectProcess (s : State) (fu : Nat) (x : Slug) (j : Job) : State :=
  let k := bits j.desc 135 128
  let q := engAcc 9 fu x.part j.handle j.attempt
  let addr (n : Nat) : Nat := ((j.outs[n]?).bind (fun b => s.bufAddr b)).getD 0
  if s.bufBytes (dHamper j.desc) < ((s.sctx k).bytes k).length then s.engSlugFault 9 fu j.handle j.attempt
  else match s.memWrite q (addr 0) ((s.sctx k).bytes k) with
  | (0, t) =>
    let (e, t) := if dStatus j.desc then t.memWrite q (addr 1) (leBytes 8 (statusRec 0 false false false false 0 0)) else (0, t)
    if e ≠ 0 then t.engSlugFault 9 fu j.handle j.attempt
    else
      let t := t.setSctx k { t.sctx k with ring := [], lost := 0, dropped := 0 }
      t.engDone 9 fu { j with items := 1 } false
  | (_, t) => t.engSlugFault 9 fu j.handle j.attempt

/-- Does a COLLECT still wait for an occasion that ended before its dispatch (R215)? -/
def State.collectWaits (s : State) (fu k : Nat) : Bool :=
  (s.occasionDue k (s.unit 9 fu).start).isSome && has s.edge.ctxOn k
    && decide ((s.time.air - (s.unit 9 fu).start) * 25 < s.govN OD.collectWait fu * 12288)

/-- A COLLECT job that holds its buffers goes on, or waits. -/
def State.collectStep (s : State) (fu : Nat) (x : Slug) (j : Job) : State :=
  if s.collectWaits fu (bits j.desc 135 128) then s else s.collectProcess fu x j

/-- The start of a COLLECT attempt whose descriptor has been read (R177, R215). -/
def State.collectRun (s : State) (fu h att d : Nat) (x : Slug) : State :=
  let k := bits d 135 128
  if !headerOk d || decide (dItems d ≠ 1) || decide (bits d 511 136 ≠ 0) then s.engSlugFault 9 fu h att
  else if x.hasArg 1 || x.hasArg 2 || (x.taint && !bit d 22) then s.engInvalid 9 fu h att
  else if s.bufBytes (dHamper d) < ((s.sctx k).bytes k).length then s.engSlugFault 9 fu h att
  else
    let need := if dStatus d then 2 else 1
    let (j, t) := s.engAlloc x.part 2 ⟨h, att, d, need, [], true, none, 0, false, [], s.time.air⟩
    let t := t.setJob 9 fu j
    if j.waitAlloc then t else t.collectStep fu x j

/-- COLLECT (R215): the slug a front unit holds is run to its report; one that waits for buffers runs on once it has
them. -/
def execCollect (fu : Nat) (s : State) : Out :=
  match (s.unit 9 fu).held with
  | none => .next s
  | some (h, att) =>
    match s.slug h with
    | none => .next s
    | some x =>
      if x.state ≠ .running ∨ x.attempt ≠ att ∨ x.kind ≠ 1 then .next s
      else match s.job 9 fu with
        | some j => .next (if j.waitAlloc then s else s.collectStep fu x j)
        | none =>
          if !x.hasArg 0 then .next (s.engInvalid 9 fu h att)
          else match s.memRead (engAcc 9 fu x.part h att) (s.argAt x 0) 64 with
            | (0, b, t) => .next (t.collectRun fu h att (leNat b) x)
            | (_, _, t) => .next (t.engSlugFault 9 fu h att)

/-! ## Slugs of the compression units (R222, R225–R228, R240) -/

/-- Fields of a CU descriptor (Table 07-5). -/
def cuFlow (d : Nat) : Nat := bits d 139 128
def cuSym (d : Nat) : Nat := bits d 143 140
def cuNum (d : Nat) : Nat := bits d 147 144
def cuRb (d : Nat) : Nat := bits d 156 148
def cuRbs (d : Nat) : Nat := bits d 165 157
def cuMethod (d : Nat) : Nat := bits d 169 166

/-- Is a CU descriptor sound for a kind: header, ranges and reserved bits, and an enabled flow of the kind's direction
that has a C-plane? -/
def State.cuOk (s : State) (kind d : Nat) : Bool :=
  headerOk d && decide (dItems d = 1) && decide (bits d 511 174 = 0)
    && decide (cuSym d ≤ 13 ∧ 1 ≤ cuNum d ∧ cuNum d ≤ 14 ∧ cuSym d + cuNum d ≤ 14)
    && decide (cuRb d ≤ 274 ∧ 1 ≤ cuRbs d ∧ cuRbs d ≤ 275) && (decide (cuMethod d ≤ 5) || decide (cuMethod d = 15))
    && has s.front.flowsOn (cuFlow d)
    && decide (bit (s.govN OD.flowMatch (cuFlow d)) 5 = decide (kind ≠ 1))
    && (decide (kind = 3) || !s.isCpri (s.flowPort (cuFlow d)))

/-- The queue of a flow's frames (R236): by its PCP. -/
def State.flowQueue (s : State) (f : Nat) : Nat := if 6 ≤ bits (s.govN OD.flowMatch f) 44 42 then 1 else 2

/-- A window's edges as air counts (R240), of a message whose first symbol starts at `start`. -/
def windowAt (start : Int) (early late : Nat) : Int × Int :=
  (start - ((early * 12288 / 25 : Nat) : Int), start - ((late * 12288 + 24) / 25 : Nat))

/-- The air count at which a symbol of a slug's slot starts. -/
def State.slugSymbol (s : State) (x : Slug) (f k : Nat) : Int :=
  match s.imp x.imp with
  | some m => m.boundary + symbolOffset (s.govN OD.numerology (s.flowCell f)) m.boundary k
  | none => s.time.air

/-- The slot tick of a slug's impression. -/
def State.slugTick (s : State) (x : Slug) : Nat :=
  match s.imp x.imp with | some m => airTickOf m.boundary | none => 0

/-- A length for a message: its layout is O-RAN's. -/
def State.drawLength (s : State) (f : Nat) : Nat × State :=
  let (n, t) := s.drawNat
  (64 + n % (s.govN OD.maxFrame (s.activePort f) - 63), t)

/-- The version of the noise-shaped method a radio entry is offered or agreed (Table 07-7). -/
def State.nsVersion (s : State) (r : Nat) : Nat :=
  if (s.radio r).ns = .active then (s.radio r).agreed else bits (s.govN OD.nsVersions r) 5 3

/-- The width map of an uplink C-plane message and the state that holds it (R225, R227): none outside OFFERED and ACTIVE. -/
def State.cplaneMap (s : State) (f symbol : Nat) : Option WidthExt × State :=
  let r := s.flowMapN f 17 10
  let c := s.flowCell f
  if (s.radio r).ns = .offered ∨ (s.radio r).ns = .active then
    let (ws, t) := s.widthMap r c (cdiv (Config.symbolSize c symbol) 12)
    let y := t.wset r c
    (some ⟨bits (t.govN OD.radioProfile r) 7 0, t.nsVersion r, y.seq, ws.map (fun w => w - 1)⟩,
      t.setWset r c { y with maps := ((y.seq, ws) :: y.maps).take 4, seq := (y.seq + 1) % 32 })
  else (none, s)

/-- The probe symbol an uplink C-plane message asks for (R224): where its slot is the probe's, the estimate is probed, the entry
negotiates (DEDUCED: only then is a width computed), and no message of the flow has asked before. -/
def State.probeAsked (s : State) (f : Nat) (x : Slug) : Option Nat :=
  let r := s.flowMapN f 17 10
  let c := s.flowCell f
  let num := s.govN OD.numerology c
  let sym := bits (s.govN OD.probeCfg r) 7 0
  match s.imp x.imp with
  | some m =>
    if s.govN OD.noiseSource r = 0 ∧ ((s.radio r).ns = .offered ∨ (s.radio r).ns = .active)
        ∧ slotIndex num (slotOf num m.boundary) (s.govN OD.period c) = bits (s.govN OD.probeCfg r) 15 8
        ∧ sym < symbolsOf num ∧ ((s.flow f).cplane.any (fun e => decide (e.1 = s.slugTick x ∧ e.2.1 = sym))) = false then some sym
    else none
  | none => none

/-- A C-plane message handed over (R222, R225, R227): uplink requests its sections under an identifier of the device's
choice, a free value, the probe's under the next one, and carries the width map while the extension is sent. -/
def State.sendCplane (s : State) (h : Nat) (x : Slug) (d : Nat) (up : Bool) : State :=
  let f := cuFlow d
  let (ext, t) := if up then s.cplaneMap f (cuSym d) else (none, s)
  let (sec, t) := t.drawNat
  let (len, t) := t.drawLength f
  let w := s.govN OD.txWindow f
  let tick := s.slugTick x
  let probe := if up then s.probeAsked f x else none
  let syms := ((List.range (cuNum d)).map (fun k => cuSym d + k)).filter (fun k => decide (some k ≠ probe))
  let asked := if up then syms.map (fun k => (tick, k, sec % 4096, cuRb d, cuRbs d)) else []
  let extra := match probe with | some k => [(tick, k, (sec + 1) % 4096, cuRb d, cuRbs d)] | none => []
  let win := windowAt (s.slugSymbol x f (cuSym d)) (bits w 63 48) (bits w 47 32)
  let plain := extra.map (fun e => e.2.2.1)
  let m : TxFrame := { flow := some f, handle := some h, stamp := none, event := false, length := len }
  t.handOver (s.activePort f) (s.flowQueue f) { m with window := some win, cplane := asked ++ extra, ext := ext, plain := plain }

/-! ### Downlink U-plane (R205, R218, R221–R223, R226, R227) -/

/-- The map code of a group and symbol in the modulation map (R222). -/
def mapCode (m : List Byte) (k : Nat) : Nat := leNat (m.drop (k / 2)) / 16 ^ (k % 2) % 16

/-- Groups of a downlink section, counted from its first resource block (DEDUCED). -/
def State.dlGroups (s : State) (d : Nat) : Nat := s.widthGroups (s.flowMapN (cuFlow d) 17 10) (cuRbs d)

/-- The number of a symbol from the frame epoch, and the samples of the symbols of its burst before and after it, as far as `w` symbols
away: those the mask names without a gap, none before the first one sent since the transmit path was reset (R218, R220). -/
def State.symbolIndex (s : State) (c : Nat) (n : Int) (k : Nat) : Int := n * (symbolsOf (s.govN OD.numerology c) : Nat) + k
def State.burstSide (s : State) (c : Nat) (m : Int) (back : Bool) : Nat → Nat
  | 0 => 0
  | w + 1 =>
    let p : Int := symbolsOf (s.govN OD.numerology c)
    let m' := if back then m - 1 else m + 1
    let k := (m' % p).toNat
    if s.downBit c (m' / p) k && (!back || (match Tab.find s.edge.rampFrom c with | some a => decide (a ≤ m') | none => true)) then
      Config.symbolSize c k + s.burstSide c m' back w
    else 0

/-- The ramp length of a cell in samples of its streams, from nanoseconds. -/
def rampLength (c ns : Nat) : Nat := Config.rampSamples (((ns * cellRate c : Nat) : Rat) / ((1000000 : Nat) : Rat))

/-- w(n) of a ramp of `len` samples, in the fixed point of the CP2 functions (R218). -/
def rampWeight (len n : Nat) : Rat :=
  (1 - (cosFx (piFx * ((2 * n + 1 : Nat) : Int) / ((2 * len : Nat) : Int)) : Rat) / (unitFx : Rat)) / 2

/-- A downlink sample of a cell with ramps: sample `i` of a symbol of `size` samples that has `before` samples of its burst before it and
`after` after it. -/
def rampSample (up down before after size i : Nat) (v : Int) : Int :=
  let a := before + i
  let b := size - 1 - i + after
  let w : Rat := (if a < up then rampWeight up a else 1) * (if b < down then rampWeight down b else 1)
  if up ≤ a ∧ down ≤ b then v else Config.rampRound ((v : Rat) * w)

/-- The components of the blocks of a symbol that is sent, from the samples of ARG1 (R205, R218, R220): as they are for a
frequency-domain flow, through the front unit's ramps for a time-domain one of a cell whose ramps are enabled, zero while the transmit
path is idle. -/
def State.downSamples (s : State) (d : Nat) (n : Int) (symbol : Nat) (b : List Byte) : List Int :=
  let f := cuFlow d
  let c := s.flowCell f
  let xs := (List.range (24 * cuRbs d)).map (fun k => signed 16 (elemAt b 2 k))
  if !s.mode.mode.runs then xs.map (fun _ => 0)
  else if bit (s.govN OD.flowMap f) 18 && has s.edge.rampsOn c then
    let m := s.symbolIndex c n symbol
    let up := rampLength c (s.govN OD.rampUp c)
    let down := rampLength c (s.govN OD.rampDown c)
    let before := s.burstSide c m true (symbolsOf (s.govN OD.numerology c))
    let after := s.burstSide c m false (symbolsOf (s.govN OD.numerology c))
    xs.zipIdx.map (fun e => rampSample up down before after (Config.symbolSize c symbol) (12 * cuRb d + e.2 / 2) e.1)
  else xs

/-- Method, width and shape of a downlink job (Table 07-5, R228): method 15 is the noise-shaped one while the entry's downlink is sent in
it, else the fallback. -/
def State.downMethod (s : State) (d : Nat) (boundary : Int) : Nat × Nat :=
  let r := s.flowMapN (cuFlow d) 17 10
  if cuMethod d = 15 then
    if (s.radio r).shapesDown boundary then (methodShaped, 0)
    else (bits (s.govN OD.fallbackCfg r) 3 0, bits (s.govN OD.fallbackCfg r) 7 4 + 1)
  else if cuMethod d = methodShaped then (methodShaped, 0)
  else (cuMethod d, if cuMethod d = 0 then 16 else bits d 173 170 + 1)

/-- The width code of a map code (Table 07-6). -/
def State.dlWidth (s : State) (r code : Nat) : Nat := s.govN OD.dlWidths r / 16 ^ (code - 1) % 16

/-- Maximal runs of consecutive groups that are sent: first group and number. -/
def groupRuns (codes : List Nat) : List (Nat × Nat) :=
  codes.zipIdx.foldr (fun e acc =>
    if e.1 = 0 then acc
    else match acc with
      | r :: t => if r.1 = e.2 + 1 then (e.2, r.2 + 1) :: t else (e.2, 1) :: r :: t
      | [] => [(e.2, 1)]) []

/-- The section of a run of groups of a symbol (R223, R226, R227).  Its map's sequence is a free value `seq`: only the section itself
uses it. -/
def State.downSection (s : State) (d symbol : Nat) (boundary : Int) (seq : Nat) (codes : List Nat) (xs : List Int) (run : Nat × Nat) :
    DlSection :=
  let r := s.flowMapN (cuFlow d) 17 10
  let per := max 1 (s.govN OD.groupRb r)
  let first := run.1 * per
  let count := min (run.2 * per) (cuRbs d - first)
  let (method, width) := s.downMethod d boundary
  let shaped := decide (method = methodShaped)
  let code (k : Nat) : Nat := s.dlWidth r (codes.getD ((first + k) / per) 0)
  let widths := (List.range count).map (fun k => if shaped then code k + 1 else width)
  let body := compressBlocks method widths (xs.drop (24 * first))
  { symbol := symbol, startPrb := cuRb d + first, numPrb := count
    method := if shaped then bits (s.govN OD.radioProfile r) 11 8 else method
    width := width
    ext := if shaped then some ⟨bits (s.govN OD.radioProfile r) 7 0, s.nsVersion r, seq % 32,
      (List.range run.2).map (fun k => s.dlWidth r (codes.getD (run.1 + k) 0))⟩ else none
    payload := if shaped then BitVec.ofNat 8 (s.nsVersion r + 8 * (seq % 32)) :: body else body }

/-- The symbol `k` of a downlink job sent as one message: a section for every run of groups of a code other than 0 (R226); none where
every group is empty. -/
def State.sendSymbol (cu h : Nat) (x : Slug) (d : Nat) (map samples : List Byte) (s : State) (k : Nat) : State :=
  let f := cuFlow d
  let g := s.dlGroups d
  let codes := (List.range g).map (fun i => mapCode map (k * g + i))
  let runs := groupRuns codes
  if runs.isEmpty then s
  else
    let boundary := match s.imp x.imp with | some m => m.boundary | none => s.time.air
    let n := slotOf (s.govN OD.numerology (s.flowCell f)) boundary
    let xs := s.downSamples d n (cuSym d + k) (samples.drop (48 * cuRbs d * k))
    let secs := runs.zipIdx.map (fun e => s.downSection d (cuSym d + k) boundary (Config.free (s.freeCtr + e.2)) codes xs e.1)
    let t := { s with freeCtr := s.freeCtr + runs.length }
    let (len, t) := t.drawLength f
    let w := s.govN OD.txWindow f
    let win := windowAt (s.slugSymbol x f (cuSym d + k)) (bits w 31 16) (bits w 15 0)
    (t.bumpBy OD.sectionsEncoded cu runs.length).handOver (s.activePort f) (s.flowQueue f)
      { flow := some f, handle := some h, stamp := none, event := false, length := len, window := some win, data := secs }

/-- The first symbol a cell sends after its transmit path was reset starts a ramp (R220). -/
def State.startRamp (s : State) (x : Slug) (d : Nat) : State :=
  let c := s.flowCell (cuFlow d)
  match s.imp x.imp with
  | some m =>
    if has s.edge.rampsOn c ∧ s.mode.mode.runs ∧ (Tab.find s.edge.rampFrom c).isNone then
      { s with edge := { s.edge with
        rampFrom := Tab.set s.edge.rampFrom c (s.symbolIndex c (slotOf (s.govN OD.numerology c) m.boundary) (cuSym d)) } }
    else s
  | none => s

/-- Downlink U-plane frames handed over, one message per symbol that is sent. -/
def State.sendUplane (s : State) (cu h : Nat) (x : Slug) (d : Nat) (map samples : List Byte) : State :=
  (List.range (cuNum d)).foldl (State.sendSymbol cu h x d map samples) (s.startRamp x d)

/-- A CU job that holds its buffers: inputs read, frames handed over.  The slug completes when the last of them has left
or was discarded, at once where there is none. -/
def State.cuProcess (s : State) (kind cu : Nat) (x : Slug) (j : Job) : State :=
  let d := j.desc
  let q := engAcc 10 cu x.part j.handle j.attempt
  let addr (n : Nat) : Nat := ((j.outs[n]?).bind (fun b => s.bufAddr b)).getD 0
  let (e, s) := if dStatus d then s.memWrite q (addr 0) (leBytes 8 (statusRec 0 false false false false 0 0)) else (0, s)
  if e ≠ 0 then s.engSlugFault 10 cu j.handle j.attempt
  else
    let s := s.setJob 10 cu { j with waitAlloc := false, ready := some 0, items := 1 }
    if kind ≠ 3 then (s.sendCplane j.handle x d (kind = 1)).cuFinish j.handle
    else match s.memRead q (s.argAt x 2) (cdiv (s.dlGroups d * cuNum d) 2) with
      | (0, m, t) =>
        if (List.range (t.dlGroups d * cuNum d)).any (fun k => decide (6 ≤ mapCode m k)) then
          t.engSlugFault 10 cu j.handle j.attempt
        else match t.memRead q (t.argAt x 1) (48 * cuRbs d * cuNum d) with
          | (0, b, t) => (t.sendUplane cu j.handle x d m b).cuFinish j.handle
          | (_, _, t) => t.engSlugFault 10 cu j.handle j.attempt
      | (_, _, t) => t.engSlugFault 10 cu j.handle j.attempt

/-- The start of a CU attempt whose descriptor has been read (R177, R222). -/
def State.cuRun (s : State) (kind cu h att d : Nat) (x : Slug) : State :=
  if !s.cuOk kind d || decide (x.commit ≠ .external) then s.engSlugFault 10 cu h att
  else if (x.hasArg 1 != decide (kind = 3)) || (x.hasArg 2 != decide (kind = 3)) || (x.taint && !bit d 22) then
    s.engInvalid 10 cu h att
  else
    let need := if dStatus d then 1 else 0
    if need ≠ 0 ∧ s.bufBytes (dHamper d) < 8 then s.engSlugFault 10 cu h att
    else
      let (j, t) := s.engAlloc x.part 1 ⟨h, att, d, need, [], decide (need ≠ 0), none, 0, false, [], s.time.air⟩
      let t := t.setJob 10 cu j
      if j.waitAlloc then t else t.cuProcess kind cu x j

/-- A CU command: the slug a compression unit holds is run until its frames are handed over. -/
def State.cuJob (s : State) (kind cu : Nat) : State :=
  match (s.unit 10 cu).held with
  | none => s
  | some (h, att) =>
    match s.slug h with
    | none => s
    | some x =>
      if x.state ≠ .running ∨ x.attempt ≠ att ∨ x.kind ≠ kind then s
      else match s.job 10 cu with
        | some j => if j.waitAlloc ∨ j.ready.isSome then s else s.cuProcess kind cu x j
        | none =>
          if !x.hasArg 0 then s.engInvalid 10 cu h att
          else match s.memRead (engAcc 10 cu x.part h att) (s.argAt x 0) 64 with
            | (0, b, t) => t.cuRun kind cu h att (leNat b) x
            | (_, _, t) => t.engSlugFault 10 cu h att

/-- UL_CPLANE (R222). -/
def execUlCplane (cu : Nat) (s : State) : Out := .next (s.cuJob 1 cu)
/-- DL_CPLANE (R222). -/
def execDlCplane (cu : Nat) (s : State) : Out := .next (s.cuJob 2 cu)
/-- DL_UPLANE (R222). -/
def execDlUplane (cu : Nat) (s : State) : Out := .next (s.cuJob 3 cu)

/-! ## Noise and negotiation (R224, R228) -/

/-- NOISE_TABLE_WRITE (R224): values in 1/16 dBFS per group, where the firmware table is the source. -/
def execNoiseTableWrite (radio cell : Nat) (vals : List Int) (s : State) : Out :=
  .next (s.noiseTable radio cell 0 vals)

/-- NOISE_ESTIMATE_TIMEOUT (R224): NOISE_TIMEOUT has passed without a probe or a write. -/
def execNoiseEstimateTimeout (radio cell : Nat) (s : State) : Out :=
  let x := s.wset radio cell
  match x.noiseAt with
  | some a =>
    if (s.nat OD.noiseTimeout radio : Int) * 491520 ≤ s.time.air - a then .next (s.setWset radio cell { x with noiseAt := none })
    else .next s
  | none => .next s

/-- NS_FALLBACK (R228): from OFFERED or ACTIVE, once FALLBACK_SLOTS uplink slots in a row have arrived in the fallback method. -/
def execNsFallback (radio : Nat) (s : State) : Out :=
  let x := s.radio radio
  if (x.ns = .offered ∨ x.ns = .active) ∧ s.govN OD.fallbackSlots radio ≤ x.fbRun then .next (s.nsEnter radio .fallback 0)
  else .next s

/-- NS_RETRY_OFFER (R228): from FALLBACK, once RETRY_INTERVAL, which is not 0, has passed there. -/
def execNsRetryOffer (radio : Nat) (s : State) : Out :=
  let x := s.radio radio
  if x.ns = .fallback ∧ s.nat OD.retryInterval radio ≠ 0
      ∧ (s.nat OD.retryInterval radio : Int) * 491520000 ≤ s.time.air - x.since then .next (s.nsEnter radio .offered 0)
  else .next s

/-! ## Spares (R207, R435) -/

/-- A unit fault of a front or compression unit. -/
def State.edgeFault (s : State) (cls u : Nat) : State :=
  let em := match s.job cls u with | some j => j.emitted | none => false
  s.anyFault cls u (s.unit cls u).held em 1

/-- FU_UNIT_FAULT (R207). -/
def execFuUnitFault (fu : Nat) (s : State) : Out := if fu < 4 then .next (s.edgeFault 9 fu) else .next s

/-- CU_UNIT_FAULT (R435). -/
def execCuUnitFault (cu : Nat) (s : State) : Out := if cu < 12 then .next (s.edgeFault 10 cu) else .next s

/-- The healthy front unit with most free capacity that can take a group: the least loaded one, the lowest on a tie. -/
def State.takerOf (s : State) (g : Nat) : Option Nat :=
  let m (k : Nat) : Nat := s.govN OD.groupMap k
  let ok := (s.healthyUnits 9).filter (fun u =>
    let mine := s.edge.ctxOn.filter (fun k => decide (s.govN OD.contextGroup k = g))
    fuFits (s.groupsOf u ++ [g]) m && decide ((s.ctxsOfFu u ++ mine).length ≤ 64)
      && withinBudget (s.loadOf (s.ctxsOfFu u ++ mine) m))
  let load (u : Nat) : Nat := fuStreams (s.groupsOf u) m false + fuStreams (s.groupsOf u) m true
  ok.foldl (fun b u => match b with
    | none => some u
    | some v => if load u < load v then some u else some v) none

/-- FU_GROUP_MOVE (R207): the group moves, its gain code kept; where no unit can take it, bit 4 of DEGRADED_CAUSES. -/
def execFuGroupMove (group : Nat) (s : State) : Out :=
  if has s.edge.moving group then
    match s.takerOf group with
    | some u =>
      let t := s.setGroup group { s.antGroup group with fu := u }
      let l := removeN t.edge.moving group
      let t := { t with edge := { t.edge with moving := l } }
      .next (if l.isEmpty then t.setCause 4 false else t)
    | none => .next (s.setCause 4 true)
  else .next s

/-- CU_REPLACE (R435): the free unit serves the faulted unit's lane pair and answers to its affinity bit. -/
def execCuReplace (cu : Nat) (s : State) : Out :=
  if cu < 12 ∧ (s.unit 10 cu).state = .retired ∧ s.pairOf cu < 12 then
    match s.promote 10 cu with
    | (t, true) =>
      let r := (s.promotable 10).headD 0
      let pair := s.pairOf cu
      let t := { t with edge := { t.edge with cuPair := Tab.set (Tab.set t.edge.cuPair r pair) cu 12 } }
      .next (t.setCause 0 t.reserveGap)
    | (t, false) => .next t
  else .next s

/-! ## Bursts and radio control outputs (R218–R220) -/

/-- The symbols of a cell's downlink mask over its period: downlink or not, and their ticks. -/
def State.maskSymbols (s : State) (c : Nat) : List (Bool × Nat) :=
  let num := s.nat OD.numerology c
  let m := s.oct OD.dlMask c
  (List.range (s.nat OD.period c)).flatMap (fun i =>
    let w := leNat ((m.drop (2 * i)).take 2)
    let slot := slotStart num (i : Nat)
    (List.range (symbolsOf num)).map (fun k =>
      (bit w k, (symbolOffset num slot (k + 1) - symbolOffset num slot k).toNat)))

/-- Ticks of the bursts of a mask that repeats: runs of downlink symbols, one that passes the end joined to the first. -/
def burstTicks (l : List (Bool × Nat)) : List Nat :=
  let runs := l.foldr (fun x (acc : List Nat × Bool) =>
    if x.1 then (match acc with | (n :: t, true) => ((n + x.2) :: t, true) | (t, _) => (x.2 :: t, true)) else (acc.1, false))
    ([], false)
  match l.head?, l.getLast?, runs.1 with
  | some (true, _), some (true, _), a :: b :: t => ((a + (b :: t).getLast (by simp)) :: (b :: t).dropLast)
  | _, _, r => r

/-- The enable check of ramps (R218): 0x0707 for a ramp beyond 8 µs or ramps longer than the shortest burst. -/
def State.rampReason (s : State) (c : Nat) : Nat :=
  let up := s.nat OD.rampUp c
  let down := s.nat OD.rampDown c
  firstFail [
    (decide (8000 < up) || decide (8000 < down)
      || (burstTicks (s.maskSymbols c)).any (fun n => decide (n * 3125 < (up + down) * 1536)), 0x0707)]

/-- The ramps of a cell enabled. -/
def State.rampOn (s : State) (c : Nat) : State :=
  let t := (s.setFlag OD.rampEnable c true).take OD.rampEnable c
  { t with edge := { t.edge with rampsOn := insertN t.edge.rampsOn c } }

/-- A write of RAMP_ENABLE (R218). -/
def enableRamp (c v : Nat) (s : State) : Except Fail State :=
  if !s.enableMode then .error (OD.rampEnable.fail 0x0A01 c)
  else if 1024 ≤ c then .error (OD.rampEnable.fail 0x0D08 c)
  else if v = 0 then
    let t := (s.setFlag OD.rampEnable c false).take OD.rampEnable c
    .ok { t with edge := { t.edge with rampsOn := removeN t.edge.rampsOn c } }
  else match s.rampReason c with
    | 0 => .ok (s.rampOn c)
    | r => .error (OD.rampEnable.fail r c)

/-- RAMP_ENABLE (R218). -/
def execRampEnable (who : Requester) (v : Nat) (s : State) : Out :=
  .next (s.actSel who OD.rampEnable v (fun c => enableRamp c v))

/-- RCO_EDGE (R219, R220): an output takes the level its map entry, the mask and the air count give it. -/
def execRcoEdge (rco : Nat) (s : State) : Out :=
  if rco < 8 then
    .next ({ s with edge := { s.edge with rcoOn := putN s.edge.rcoOn rco (s.rcoLevel rco s.time.air) } }).noteSinks
  else .next s

/-! ## Enables (R206, R213) -/

/-- The enable check of an antenna group (R206, R213). -/
def State.groupReason (s : State) (g : Nat) : Nat :=
  let m := s.nat OD.groupMap g
  let u := bits m 11 10
  let maps (k : Nat) : Nat := if k = g then m else s.govN OD.groupMap k
  let mine := s.edge.ctxOn.filter (fun k => decide (s.govN OD.contextGroup k = g))
  firstFail [
    (!withinBudget (s.loadOf ((s.ctxsOfFu u).filter (fun k => !mine.contains k) ++ mine) maps), 0x0703),
    (decide (8 < mine.length), 0x0704),
    (!fuFits ((s.groupsOf u).filter (fun k => decide (k ≠ g)) ++ [g]) maps
      || decide (64 < (((s.ctxsOfFu u).filter (fun k => !mine.contains k)) ++ mine).length)
      || decide (mapStreams m = 0 ∨ 64 < mapStreams m), 0x0705),
    ((List.range (mapStreams m)).any (fun k => !bit (s.nat OD.flowMap (mapFlow m + k)) 18), 0x0706)]

/-- An antenna group enabled. -/
def State.groupOn (s : State) (g : Nat) : State :=
  let t := (s.setFlag OD.groupEnable g true).takeAll
    [OD.groupMap, OD.changeMask, OD.targetRms, OD.peakLimit, OD.attackMax, OD.decayStep, OD.groupEnable] g
  let t := if has s.edge.groupsOn g then t else t.setGroup g { fu := bits (t.govN OD.groupMap g) 11 10, hist := [(s.time.air, 96, false)] }
  { t with edge := { t.edge with groupsOn := insertN t.edge.groupsOn g } }

/-- A write of GROUP_ENABLE (R206). -/
def enableGroup (g v : Nat) (s : State) : Except Fail State :=
  if !s.enableMode then .error (OD.groupEnable.fail 0x0A01 g)
  else if 128 ≤ g then .error (OD.groupEnable.fail 0x0D08 g)
  else if v = 0 then
    let t := (s.setFlag OD.groupEnable g false).take OD.groupEnable g
    let t := { t with edge := { t.edge with
      groupsOn := removeN t.edge.groupsOn g, moving := removeN t.edge.moving g } }
    .ok (if t.edge.moving.isEmpty then t.setCause 4 false else t)
  else match s.groupReason g with
    | 0 => .ok (s.groupOn g)
    | r => .error (OD.groupEnable.fail r g)

/-- GROUP_ENABLE (R206). -/
def execGroupEnable (who : Requester) (v : Nat) (s : State) : Out :=
  .next (s.actSel who OD.groupEnable v (fun g => enableGroup g v))

/-- The enable check of a search context (R213). -/
def State.contextReason (s : State) (k : Nat) : Nat :=
  let g := s.nat OD.contextGroup k
  let gm := s.govN OD.groupMap g
  let others := s.edge.ctxOn.filter (fun j => decide (j ≠ k))
  let u := (s.antGroup g).fu
  let base := s.loadOf ((s.ctxsOfFu u).filter (fun j => decide (j ≠ k))) (fun j => s.govN OD.groupMap j)
  let own := s.ctxLoad k g (s.nat OD.ctxFormat k) (s.nat OD.roots k) (s.nat OD.schedule k) gm
  firstFail [
    (!withinBudget (sumFrac [base, own]), 0x0703),
    (decide (8 ≤ (others.filter (fun j => decide (s.govN OD.contextGroup j = g))).length), 0x0704),
    (decide (64 ≤ ((s.ctxsOfFu u).filter (fun j => decide (j ≠ k))).length), 0x0705)]

/-- A search context enabled. -/
def State.contextOn (s : State) (k : Nat) : State :=
  let t := (s.setFlag OD.contextEnable k true).takeAll [OD.contextGroup, OD.ctxFormat, OD.roots, OD.freqOffset,
    OD.schedule, OD.threshold, OD.triggerLevel, OD.occasionFreeze, OD.contextEnable] k
  let t := { t with edge := { t.edge with ctxOn := insertN t.edge.ctxOn k } }
  if has s.edge.ctxOn k then t else t.setSctx k { t.sctx k with last := t.contextSlot k }

/-- A write of CONTEXT_ENABLE (R213). -/
def enableContext (k v : Nat) (s : State) : Except Fail State :=
  if !s.enableMode then .error (OD.contextEnable.fail 0x0A01 k)
  else if 256 ≤ k then .error (OD.contextEnable.fail 0x0D08 k)
  else if v = 0 then
    let t := (s.setFlag OD.contextEnable k false).take OD.contextEnable k
    .ok { t with edge := { t.edge with ctxOn := removeN t.edge.ctxOn k } }
  else match s.contextReason k with
    | 0 => .ok (s.contextOn k)
    | r => .error (OD.contextEnable.fail r k)

/-- CONTEXT_ENABLE (R213). -/
def execContextEnable (who : Requester) (v : Nat) (s : State) : Out :=
  .next (s.actSel who OD.contextEnable v (fun k => enableContext k v))

end Sys2Proof.Machine
end

