-- ==== Sys2Proof/Machine/Mogil.lean ====
section
/-!
DEFINITION. The Mogil link's commands (chapter 09, R394): alignment, negotiation and key exchange, packets and link
cells, channels, takeover; and the lane events that line lanes and Mogil lanes share (R256–R258, R270, R284).
-/

namespace Sys2Proof.Machine

open Sys2Proof

/-! ## Lanes of a group (R266, R267, R269) -/

/-- The Mogil state replaced. -/
def State.setMogil (s : State) (m : MogilSt) : State := { s with mogil := m }

/-- A lane after its marker (R266): in frame after LOCK_N markers in a row at one position, 256 blocks apart, with the expected fields, out
after LOSE_M errored ones in a row; and the same for the multiframe sequence of a lane in frame. -/
def MogLane.marked (x : MogLane) (n m grp k : Nat) (r : MarkerRx) : MogLane :=
  let fields := r.present && r.typeOk && decide (r.lane = k) && decide (r.group = grp)
  let ok := fields && decide (x.pos = some r.position)
  let good := if ok then x.good + 1 else if fields && !x.inFrame then 1 else 0
  let bad := if x.inFrame && !ok then x.bad + 1 else 0
  let follows := r.present && decide (r.frame = (x.frame + 1) % 32
    ∧ r.mfn = if r.frame = 0 then (x.mfn + 1) % 16777216 else x.mfn)
  let inFrame := if x.inFrame then decide (bad < m) else decide (n ≤ good)
  let mgood := if inFrame && follows then x.mgood + 1 else 0
  let mbad := if inFrame && !follows then x.mbad + 1 else 0
  let pos := if inFrame && x.inFrame then x.pos else if fields then some r.position else none
  { x with
    inFrame := inFrame, good := min 15 good, bad := min 15 bad
    inMulti := inFrame && (if x.inMulti then decide (mbad < m) else decide (n ≤ mgood))
    mgood := min 15 mgood, mbad := min 15 mbad
    frame := if r.present then r.frame else x.frame, mfn := if r.present then r.mfn else x.mfn
    lock := x.lock || inFrame
    pos := if x.inFrame && !inFrame then none else pos }

/-- Lane `k` of a group. -/
def Group.lane (x : Group) (k : Nat) : MogLane := Tab.get {} x.lanes k

/-- The spread of marker positions of a frame of 256 blocks [blocks] (R267): the shortest stretch of the frame that holds them all. -/
def spread (ps : List Nat) : Nat :=
  (ps.map (fun b => (ps.map (fun p => (p + 256 - b % 256) % 256)).foldl max 0)).foldl min 255

/-- The marker positions of a group's data lanes. -/
def Group.positions (x : Group) : List Nat := (List.range 8).filterMap (fun k => (x.lane k).pos)

/-- Does deskew fail (R267)? -/
def Group.deskewFails (x : Group) (multi : Bool) (grp : Nat) (ms : List MarkerRx) : Bool :=
  decide (32 < spread x.positions) || ms.any (fun m => m.present && decide (m.group ≠ grp))
    || (multi && (List.range 8).any (fun k => decide ((x.lane k).frame ≠ (x.lane 0).frame ∨ (x.lane k).mfn ≠ (x.lane 0).mfn)))

/-- The lanes of a group that take part in its loss of signal: eight data lanes and the clock lane 8. -/
def Group.signal (x : Group) : Bool := (List.range 9).all (fun k => (x.lane k).signal)

/-- The version the link has agreed: that of the first group to agree (R279). -/
def State.linkVersion (s : State) : Option Nat :=
  (List.range 4).findSome? (fun g => (s.grp g).agreed)

/-- A trained group starts to negotiate (R279): the offered range, or the link's version alone, and a VERSION. -/
def State.negotiate (s : State) (g : Nat) : State :=
  let v := s.govN OD.mogilVersions
  let (lo, hi) := match s.linkVersion with | some n => (n, n) | none => (bits v 2 0, bits v 5 3)
  (s.setGrp g { s.grp g with state := .negotiating, offMin := lo, offMax := hi }).sendCell g 2 (lo + 8 * hi)

/-- MOGIL_MARKER_RX (R266, R267, R269): the markers of one frame, lane 0 first. -/
def execMogilMarkerRx (grp : Nat) (ms : List MarkerRx) (s : State) : Out :=
  let x := s.grp grp
  if x.state = .off ∨ x.search = .none ∨ x.search = .debounce ∨ ms.length ≠ 8 ∨ ¬ s.lanesPowered then .next s
  else
    let multi := decide (s.govN OD.alignMode = 1)
    let lanes := ms.zipIdx.foldl (fun t e =>
      Tab.put ({} : MogLane) t e.2 ((Tab.get {} t e.2).marked (s.nat OD.lockN) (s.nat OD.loseM) grp e.2 e.1)) x.lanes
    let y := { x with lanes := lanes, rdiRun := if ms.any (·.rdi) then min 15 (x.rdiRun + 1) else 0 }
    let inAll := (List.range 8).all (fun k => (y.lane k).inFrame)
    let multiAll := !multi || (List.range 8).all (fun k => (y.lane k).inMulti)
    let skewBad := inAll && multiAll && y.deskewFails multi grp ms
    let aligned := inAll && multiAll && !skewBad
    let t := (s.setGrp grp y).bumpBy OD.bipErrors grp (ms.map (·.bipErrors)).sum
    let t := if aligned then t.setNum OD.skew grp (spread y.positions : Nat) else t
    let t := if inAll then (t.setDefect grp 1 false).setDefect grp 2 false else t
    let t := t.setDefect grp 3 (!inAll)
    let t := t.setDefect grp 4 (inAll && !multiAll)
    let t := t.setDefect grp 5 skewBad
    let t := t.setDefect grp 6 (decide (2 ≤ y.rdiRun))
    if (t.grp grp).state = .training ∧ aligned = true ∧ (t.grp grp).defects.toNat % 128 = 0 then
      .next ((t.setGrp grp { t.grp grp with search := .finished }).negotiate grp)
    else .next t

/-! ## Link cells (R272–R276) -/

/-- A link cell accepted or not, and the counter it moves (R276): MSG 0, 2 and 4 unprotected before ACTIVE; else its
tag verifies, its epoch is the current or the next one and its counter exceeds the last one's. -/
def State.acceptCell (s : State) (g : Nat) (c : LinkCell) (msg : Nat) : Bool × State :=
  let x := s.grp g
  let early := x.state = .negotiating || x.state = .securing
  if early && decide (c.epoch = 0) && c.tagZero && [0, 2, 4].contains msg then (true, s)
  else if (x.state = .active || (x.state = .securing && x.secured)) && c.tagOk
      && decide (c.epoch = x.epochRx ∨ c.epoch = x.epochRx + 1) && decide (c.epoch ≠ 0) && decide (x.lcRx ≤ c.lcCounter) then
    (true, s.setGrp g { x with lcRx := c.lcCounter + 1 })
  else (false, s)

/-- ACK and CREDITS of an accepted cell (R273, R274); resends that waited for credit leave. -/
def State.takeAck (s : State) (g : Nat) (c : LinkCell) : State :=
  let x := s.grp g
  let y := if x.state = .active ∧ x.nextTx ≠ 0 then x.ackTo c.ack else x
  let t := s.setGrp g { y with
    retCells := c.credits.zipIdx.foldl (fun t e => Tab.put 0 t e.2 (e.1 % 4096)) y.retCells
    ackAt := if y.retry.length < x.retry.length then s.nowNs else x.ackAt }
  if x.state = .active then t.resendDue g else t

/-- MOGIL_LINK_CELL_RX (R274): a cell with no message. -/
def execMogilLinkCellRx (grp : Nat) (c : LinkCell) (s : State) : Out :=
  match s.acceptCell grp c 0 with
  | (true, t) => .next (t.takeAck grp c)
  | (false, t) => .next t

/-- MOGIL_NAK_RX (R273). -/
def execMogilNakRx (grp : Nat) (c : LinkCell) (s : State) : Out :=
  match s.acceptCell grp c 1 with
  | (true, t) => .next (if (t.grp grp).state = .active then (t.takeAck grp c).resendAll grp else t)
  | (false, t) => .next t

/-- MOGIL_LINK_CELL_SEND (R275). -/
def execMogilLinkCellSend (grp : Nat) (s : State) : Out :=
  if (s.grp grp).state = .off then .next s else .next (s.sendCell grp (if (s.grp grp).nakDue then 1 else 0) 0)

/-! ## Key exchange and confirmation (R276, R279, R394) -/

/-- The fragments of a step of the key exchange sent (R394): 25 bytes each, behind step, index and count. -/
def State.sendKex (s : State) (g step : Nat) : State :=
  let b := (Config.kexData s.freeCtr step).take (if step = 1 then 81 else 145)
  let n := if step = 1 then 4 else 6
  let t := { s with freeCtr := s.freeCtr + 1 }
  (List.range n).foldl (fun t k => t.sendCell g 4 (step + 256 * k + 65536 * n + 2 ^ 24 * leNat ((b.drop (25 * k)).take 25))) t

/-- The key exchange started on the lowest group in SECURING, where none runs and no session stands: SHARE is sent. -/
def State.startKex (s : State) : State :=
  if s.mogil.session || (List.range 4).any (fun g => (s.grp g).kexRunning) then s
  else match (List.range 4).find? (fun g => decide ((s.grp g).state = .securing)) with
    | some g =>
      let t := (s.setGrp g { s.grp g with kexRunning := true, kexTries := 0, kexFrags := [] }).sendKex g 1
      t.setMogil { t.mogil with kexAt := s.nowNs }
    | none => s

/-- CONFIRM sent (R279): both offered ranges and the agreed version, six bits for a range and three for the version (DESIGN CHOICE: the
spec gives the body no layout). -/
def State.sendConfirm (s : State) (g : Nat) : State :=
  let x := s.grp g
  s.sendCell g 3 (x.offMin + 8 * x.offMax + 64 * (x.peerMin + 8 * x.peerMax) + 4096 * x.agreed.getD 0)

/-- Keys derived for the groups in SECURING, which send their CONFIRM. -/
def State.secureAll (s : State) : State :=
  (List.range 4).foldl (fun t g =>
    if (t.grp g).state = .securing then (t.setGrp g { t.grp g with secured := true }).sendConfirm g else t) s

/-- A group starts under a session (R271, R277): epoch 1 and counters from 0. -/
def State.startSession (s : State) (g : Nat) : State := s.setGrp g { s.grp g with
  epochTx := 1, epochRx := 1, epochPkts := 0, nextTx := 0, nextRx := 0, lcTx := 0, lcRx := 0, acked := 0
  nakSent := false, nakDue := false, ackDue := false, sentCells := [], retCells := [], takenCells := []
  kexRunning := false, kexTries := 0, kexFrags := [], old := false }

/-- The session established: every group that is not ACTIVE under the one before starts under it. -/
def State.newSession (s : State) : State :=
  let t := (List.range 4).foldl (fun t g => if (t.grp g).state = .active then t else t.startSession g) s
  (t.setMogil { t.mogil with session := true }).secureAll

/-- On reaching epoch 0xFFFF_FFFF the link runs a new key exchange (R277): the group returns to SECURING, its traffic
handed to the others. -/
def State.renewSession (s : State) (g : Nat) : State :=
  let x := s.grp g
  if s.mogil.session && decide (x.state = .active) && decide (x.epochTx = 0xFFFFFFFF ∨ x.epochRx = 0xFFFFFFFF) then
    let t := (List.range 4).foldl (fun t k =>
      if (t.grp k).state = .active then t.setGrp k { t.grp k with old := true } else t) s
    let t := t.setMogil { t.mogil with session := false }
    (t.leaveTo g .securing).startKex
  else s

/-- The next group that is ACTIVE under the old session returns to SECURING under the new one (R277). -/
def State.renewNext (s : State) : State :=
  if s.mogil.session then
    match s.activeGroups.find? (fun k => (s.grp k).old) with
    | some k =>
      let t := (s.leaveTo k .securing).startSession k
      (t.setGrp k { t.grp k with secured := true }).sendConfirm k
    | none => s
  else s

/-- SECURING entered with an agreed version. -/
def State.toSecuring (s : State) (g v : Nat) : State :=
  let t := (s.setGrp g { s.grp g with state := .securing, agreed := some v, secured := false })
  if t.mogil.session then (t.setGrp g { t.grp g with secured := true }).sendConfirm g else t.startKex

/-- MOGIL_VERSION_RX (R279). -/
def execMogilVersionRx (grp : Nat) (c : LinkCell) (minV maxV : Nat) (s : State) : Out :=
  match s.acceptCell grp c 2 with
  | (true, t) =>
    let x := t.grp grp
    if x.state = .negotiating then
      let t := t.setGrp grp { x with peerMin := minV, peerMax := maxV }
      let hi := min x.offMax maxV
      if max x.offMin minV ≤ hi then .next (t.toSecuring grp hi) else .next (t.toHold grp 0x0409)
    else .next t
  | (false, t) => .next t

/-- The fragments of a step, all of them held. -/
def Group.fragments (x : Group) (stepCode n : Nat) : Option (List Byte) :=
  if (List.range n).all (fun k => (Tab.find x.kexFrags (16 * stepCode + k)).isSome)
  then some ((List.range n).flatMap (fun k => (Tab.find x.kexFrags (16 * stepCode + k)).getD [])) else none

/-- MOGIL_KEX_RX (R394): a fragment of SHARE or PROOF, or FAIL. -/
def execMogilKexRx (grp : Nat) (c : LinkCell) (stepCode frag count : Nat) (data : List (BitVec 8)) (s : State) : Out :=
  match s.acceptCell grp c 4 with
  | (true, t) =>
    let x := t.grp grp
    if x.state ≠ .securing ∨ x.kexRunning = false then .next t
    else if stepCode = 3 then .next (t.toHold grp 0x040A)
    else if (stepCode = 1 ∧ count = 4 ∧ frag < 4) ∨ (stepCode = 2 ∧ count = 6 ∧ frag < 6) then
      let y := { x with kexFrags := Tab.set x.kexFrags (16 * stepCode + frag) (data.take 25) }
      let t := t.setGrp grp y
      let t := if stepCode = 1 ∧ (x.fragments 1 4).isNone ∧ (y.fragments 1 4).isSome then t.sendKex grp 2 else t
      match y.fragments 1 4, y.fragments 2 6 with
      | some a, some b =>
        if Config.peerProof (a.take 81 ++ b.take 145) (t.govOct OD.peerIdentity) then .next t.newSession
        else .next (t.toHold grp 0x040A).startKex
      | _, _ => .next t
    else .next t
  | (false, t) => .next t

/-- MOGIL_KEX_TIMEOUT (R394): not completed within 100 µs, the exchange is sent again whole, up to 8 times; then HOLD with alarm 0x040A. -/
def execMogilKexTimeout (s : State) : Out :=
  match (List.range 4).find? (fun g => (s.grp g).kexRunning) with
  | some g =>
    let x := s.grp g
    if s.nowNs < s.mogil.kexAt + 100000 then .next s
    else if x.kexTries < 8 then
      let t := (s.setGrp g { x with kexTries := x.kexTries + 1, kexFrags := [] }).sendKex g 1
      .next (t.setMogil { t.mogil with kexAt := s.nowNs })
    else .next (s.toHold g 0x040A).startKex
  | none => .next s

/-- MOGIL_CONFIRM_RX (R279): the sender's own range, the range it saw and the agreed version. -/
def execMogilConfirmRx (grp : Nat) (c : LinkCell) (mineMin mineMax peerMin peerMax agreed : Nat) (s : State) : Out :=
  match s.acceptCell grp c 3 with
  | (true, t) =>
    let x := t.grp grp
    if x.state ≠ .securing then .next t
    else if mineMin = x.peerMin ∧ mineMax = x.peerMax ∧ peerMin = x.offMin ∧ peerMax = x.offMax ∧ x.agreed = some agreed then
      let t := t.setGrp grp { x with state := .active, authTimes := [] }
      .next (t.setMogil { t.mogil with downAt := none }).renewNext
    else .next (t.toHold grp 0x040A)
  | (false, t) => .next t

/-- MOGIL_HOLD_EXPIRY (R268): after 1 s. -/
def execMogilHoldExpiry (grp : Nat) (s : State) : Out :=
  let x := s.grp grp
  if x.state = .hold ∧ x.holdAt + oneSecond ≤ s.nowNs then .next (s.setGrp grp { x with state := .training, agreed := none, secured := false })
  else .next s

/-! ## Packets (R271–R274, R280, R282) -/

/-- Cells of a packet of some flits (R271). -/
def cellsOfFlits (n : Nat) : Nat := 1 + n / 2

/-- A buffer for a channel (R282): none where the channel is disabled, names another partition or has no free buffer. -/
def State.openChannel (s : State) (ch part : Nat) : Option Nat × State :=
  let m := s.govN OD.channelMap ch
  if !bit m 31 || decide (bits m 15 6 ≠ part) then (none, s) else s.allocBuf (bits m 5 0) part false (.unit .mogil ch)

/-- A channel being received: opened by its first packet. -/
def State.chanRx (s : State) (ch part : Nat) : ChanRx × State :=
  match Tab.find s.mogil.chanRx ch with
  | some x => (x, s)
  | none => match s.openChannel ch part with | (b, t) => (⟨b, 0⟩, t)

/-- Data of a channel written behind what came before; data its buffer cannot hold reject the transfer (DESIGN CHOICE). -/
def State.chanData (s : State) (ch part : Nat) (data : List Byte) : State :=
  match s.chanRx ch part with
  | (x, t) =>
    let put (t : State) (x : ChanRx) : State := t.setMogil { t.mogil with chanRx := Tab.set t.mogil.chanRx ch x }
    match x.buf with
    | none => put t x
    | some h =>
      if t.bufBytes (hampOf h) < x.got + data.length then put (t.freeBuf h) ⟨none, 0⟩
      else
        let t := match t.bufAddr h with | some a => t.deviceWrite (a + x.got) data | none => t
        put t ⟨some h, x.got + data.length⟩

/-- The event of a channel (R282): counted for counters of source 3, its buffer bound, and acknowledged to the peer; rejected where the
transfer was. -/
def State.chanEvent (s : State) (ch : Nat) (p : FabPacket) : State :=
  match s.chanRx ch p.part with
  | (x, t) =>
    let t := t.setMogil { t.mogil with chanRx := Tab.del t.mogil.chanRx ch }
    let ans (c : FabCmd) (st : Nat) : FabPacket := { p with cmd := c, status := st, data := [], bytes := 0 }
    match x.buf with
    | some h => (t.event 3 ch p.part 1 false [(bits (t.govN OD.channelMap ch) 25 16, h)]).toPeer (ans .ack 0)
    | none => t.toPeer (ans .err 1)

/-- The peer's answer to a channel send: the slug completes, or ends with cause SLUG. -/
def State.channelAnswer (s : State) (h att : Nat) (ok : Bool) : State :=
  if (Tab.find s.mogil.chanSent h).isNone then s
  else
    let t := s.setMogil { s.mogil with chanSent := Tab.del s.mogil.chanSent h }
    if ok then t.complete ⟨h, att, 0, [], true⟩ else t.slugFaultAlarm h att

/-- An accepted packet's effect (R281, R282): a MSG of Mogil is data of channel ARG, or at ARG 256 and up the event of a channel, an answer
to one ends the slug that sent it, and any other packet goes to its target (DESIGN CHOICE: the spec gives channel packets no layout). -/
def State.takePacket (s : State) (p : FabPacket) : State :=
  let arg := p.arg.toNat
  if p.kind = .mogil ∧ arg < 512 then
    match p.cmd, p.slug with
    | .msg, _ => if arg < 256 then s.chanData arg p.part p.data else s.chanEvent (arg - 256) p
    | .ack, some (h, att) => s.channelAnswer h att true
    | .err, some (h, att) => s.channelAnswer h att false
    | _, _ => s.route { p with peer := true }
  else s.route { p with peer := true }

/-- MOGIL_PACKET_RX (R272, R274, R277). -/
def execMogilPacketRx (grp : Nat) (p : MogPacket) (s : State) : Out :=
  let x := s.grp grp
  if x.state ≠ .active then .next s
  else
    let n := cellsOfFlits p.flits
    let t := s.setGrp grp { x with takenCells := Tab.put 0 x.takenCells p.vc ((Tab.get 0 x.takenCells p.vc + n) % 4096) }
    if p.rowError then .next (t.bump OD.seqDrops grp)
    else if p.counter ≠ x.nextRx then .next ((t.bump OD.seqDrops grp).nakOnce grp)
    else if (p.epoch ≠ x.epochRx ∧ p.epoch ≠ x.epochRx + 1) ∨ p.epoch = 0 ∨ p.tagOk = false then
      .next ((t.nakOnce grp).authFail grp)
    else
      let next := decide (p.epoch = x.epochRx + 1)
      let t := t.setGrp grp { t.grp grp with
        nextRx := x.nextRx + 1, nakSent := false, ackDue := true, epochRx := p.epoch }
      let t := t.bump OD.packetsRx grp
      let t := if next then t.raise 0x040C grp else t
      .next ((t.takePacket p.pkt).renewSession grp)

/-- Is a map entry held: packets of a lost group that go there wait for LAST_ACCEPTED (R280)? -/
def State.entryHeld (s : State) (e : Nat) : Bool :=
  (List.range 4).any (fun g => (s.grp g).resuming && (s.grp g).retry.any (fun x => decide (mapEntry x.pkt = e)))

/-- May a waiting packet start on a group: it is the first of its map entry, and the group carries that entry (R280)? -/
def State.startable (s : State) (g : Nat) (p : FabPacket) : Bool :=
  decide (s.mapGroup (mapEntry p) = some g) && !s.entryHeld (mapEntry p) &&
    decide (s.mogil.waitq.find? (fun q => decide (mapEntry q = mapEntry p)) = some p)

/-- EMITTED of a slug whose channel data starts to leave (R282). -/
def State.chanEmit (s : State) (p : FabPacket) : State :=
  match p.slug with
  | some (h, att) =>
    if (Tab.find s.mogil.chanSent h).isSome then
      match s.slug h with | some x => if x.attempt = att then s.setSlug h { x with emitted := true } else s | none => s
    else s
  | none => s

/-- MOGIL_PACKET_SEND (R273, R274): a waiting packet starts on the group of its map entry, with retry room and credit. -/
def execMogilPacketSend (grp : Nat) (p : FabPacket) (s : State) : Out :=
  if (s.grp grp).state = .active ∧ s.startable grp p = true ∧ (s.grp grp).canSend p = true then
    .next (((s.setMogil { s.mogil with waitq := s.mogil.waitq.erase p }).startPacket grp p).chanEmit p |>.renewSession grp)
  else .next s

/-- MOGIL_RETRY_TIMEOUT (R273): RETRY_TIMEOUT has passed without ACK advancing while packets were outstanding. -/
def execMogilRetryTimeout (grp : Nat) (s : State) : Out :=
  let x := s.grp grp
  if x.state = .active ∧ ¬ x.retry.isEmpty ∧ x.ackAt + s.nat OD.retryTimeout ≤ s.nowNs then .next (s.resendAll grp) else .next s

/-- MOGIL_LAST_ACCEPTED_RX (R280): the retry buffer of the lost group is trimmed and the rest put ahead of the packets
that wait. -/
def execMogilLastAcceptedRx (grp : Nat) (c : LinkCell) (lost last : Nat) (s : State) : Out :=
  match s.acceptCell grp c 5 with
  | (true, t) =>
    if (t.grp grp).state ≠ .active ∨ 4 ≤ lost ∨ lost = grp then .next t
    else
      let t := if (t.grp lost).state = .active then t.toTraining lost else t
      let x := t.grp lost
      let rest := (x.retry.filter (fun e => decide (last < e.counter))).map (·.pkt)
      let t := (t.setGrp lost { x with retry := [], resuming := false }).bumpBy OD.resends lost rest.length
      .next ((t.setMogil { t.mogil with waitq := rest ++ t.mogil.waitq }))
  | (false, t) => .next t

/-- MOGIL_RESUME_TIMEOUT (R280): no LAST_ACCEPTED within RESUME_TIMEOUT. -/
def execMogilResumeTimeout (grp : Nat) (s : State) : Out :=
  let x := s.grp grp
  if x.resuming ∧ x.resumeAt + 1000 * s.nat OD.resumeTimeout ≤ s.nowNs then .next (s.discardOut grp) else .next s

/-! ## Channel sends (R282) -/

/-- A READY slug of an interface class and kind taken for its command (R99): its state RUNNING and its arguments as
delivered. -/
def State.takeIfc (s : State) (h cls kind : Nat) : Option (Slug × State) :=
  match s.slug h with
  | none => none
  | some x =>
    match s.imp x.imp with
    | none => none
    | some m =>
      if x.kind = kind ∧ (s.select cls 0).map (·.1) = some h then some (x.deliver m, s.takeSlug h x) else none

/-- The packets of a channel send: the data in 512-byte messages and the event. -/
def channelPackets (x : Slug) (h ch : Nat) (data : List Byte) : List FabPacket :=
  let addr := 0x400000000000 + ch * 256
  (List.range (cdiv data.length 512)).map (fun k =>
    { cmd := .msg, kind := .mogil, unit := 0, part := x.part, priv := false, peer := true, slug := some (h, x.attempt)
      addr := addr, bytes := min 512 (data.length - 512 * k), tag := k % 4096, dst := 0, status := 0
      arg := BitVec.ofNat 64 ch, data := (data.drop (512 * k)).take 512, malformed := false }) ++
  [{ cmd := .msg, kind := .mogil, unit := 0, part := x.part, priv := false, peer := true, slug := some (h, x.attempt)
     addr := addr, bytes := 0, tag := 0, dst := 0, status := 0, arg := BitVec.ofNat 64 (ch + 256), data := [], malformed := false }]

/-- MOGIL_CHANNEL_SEND (R282): a READY slug of class 13 is dispatched and its buffer and event are handed to the link; it ends with the
peer's answer. -/
def execMogilChannelSend (handle : Nat) (s : State) : Out :=
  match s.takeIfc handle 13 1 with
  | none => .next s
  | some (x, t) =>
    let q : Acc := ⟨.mogil, 0, some x.part, false, some (handle, x.attempt), false⟩
    let fail (t : State) : Out := .next (t.slugFaultAlarm handle x.attempt)
    if !x.hasArg 0 then .next (t.complete ⟨handle, x.attempt, 5, [], false⟩)
    else match t.memRead q (t.argAt x 0) 64 with
      | (0, b, t) =>
        let d := leNat b
        if !headerOk d || decide (dItems d ≠ 1) || decide (bits d 511 160 ≠ 0) || decide (x.commit ≠ .external) then fail t
        else if !x.hasArg 1 || x.hasArg 2 || (x.taint && !bit d 22) then .next (t.complete ⟨handle, x.attempt, 5, [], false⟩)
        else if !t.linkUp then fail t
        else match t.memRead q (t.argAt x 1) (bits d 159 136) with
          | (0, data, t) =>
            let t := (channelPackets x handle (bits d 135 128) data).foldl State.toPeer t
            .next (t.setMogil { t.mogil with chanSent := Tab.set t.mogil.chanSent handle s.nowNs })
          | (_, _, t) => fail t
      | (_, _, t) => fail t

/-- MOGIL_CHANNEL_TIMEOUT (R282): no answer within CHANNEL_TIMEOUT. -/
def execMogilChannelTimeout (handle : Nat) (s : State) : Out :=
  match s.slug handle, Tab.find s.mogil.chanSent handle with
  | some x, some at_ =>
    if x.state = .running ∧ x.cls = 13 ∧ at_ + 1000 * s.nat OD.channelTimeout ≤ s.nowNs then
      .next ((s.setMogil { s.mogil with chanSent := Tab.del s.mogil.chanSent handle }).slugFaultAlarm handle x.attempt)
    else .next s
  | _, _ => .next s

/-! ## Enable and takeover (R276, R283) -/

/-- Bytes that are absent or all zero. -/
def blank (b : List Byte) : Bool := b.all (fun x => decide (x = 0#8))

/-- The enable check of the link (R276, R283, Table 09-11). -/
def State.mogilReason (s : State) : Nat :=
  let out (o : Obj) (lo hi : Nat) : Bool := decide (s.nat o < lo ∨ hi < s.nat o)
  firstFail [
    (out OD.mogilGroups 1 15 || out OD.alignMode 0 1 || out OD.lockN 2 15 || out OD.loseM 1 15
      || out OD.rekeyPackets (2 ^ 20) (2 ^ 62) || out OD.retryLimit 1 64 || out OD.minLinkCells 1 16
      || out OD.twinRole 0 3, 0x0401),
    (decide (bits (s.nat OD.mogilVersions) 5 3 < bits (s.nat OD.mogilVersions) 2 0), 0x0402),
    (bit (s.nat OD.takeover) 0 && decide (bits (s.nat OD.takeover) 15 8 = 255), 0x0403),
    (blank (s.oct OD.peerIdentity) || decide ((s.oct OD.peerIdentity).length ≠ 48), 0x0405),
    (!Config.identityKey, 0x0B05)]

/-- The partitions marked in STANDBY_PARTITIONS. -/
def State.standbyParts (s : State) : List Nat :=
  let b := s.govOct OD.standbyPartitions
  (List.range 1024).filter (fun n => bit (leNat ((b.drop (4 * (n / 32))).take 4)) (n % 32))

/-- Does the standby hold a partition PAUSED (R283)? -/
def State.heldByTwin (s : State) (n : Nat) : Bool :=
  s.mogil.on && decide (s.govN OD.twinRole = 2) && !s.mogil.taken && has s.standbyParts n

/-- The link enabled: its groups in TRAINING, their domains powered, the others off; a standby's partitions PAUSED. -/
def State.mogilOn (s : State) : State :=
  let t := (s.setFlag OD.mogilEnable 0 true).takeAll [OD.mogilEnable, OD.mogilGroups, OD.alignMode, OD.mogilVersions,
    OD.peerIdentity, OD.twinRole, OD.standbyPartitions] 0
  let t := (List.range 4).foldl (fun t g =>
    let t := t.take OD.mogilPolarity g
    if bit (t.govN OD.mogilGroups) g then
      let x := t.grp g
      let t := t.setDomain (192 + g) { t.domain (192 + g) with state := .on }
      if x.state = .off then
        let t := t.setGrp g { x with state := .training, search := if x.signal then .running else .none }
        t.setDefect g 0 (!x.signal)
      else t
    else
      let t := t.setDomain (192 + g) { t.domain (192 + g) with state := .lockedOff }
      t.leaveTo g .off) t
  let t := t.setMogil { t.mogil with
    on := true, taken := t.mogil.taken && s.mogil.on
    downAt := if t.linkUp then none else some (t.mogil.downAt.getD s.nowNs) }
  (t.standbyParts.foldl (fun t n =>
    if t.heldByTwin n ∧ (t.part n).state = .enabled then t.setPart n { t.part n with state := .paused } else t) t)

/-- The link disabled: every group OFF, the session ended. -/
def State.mogilOff (s : State) : State :=
  let t := (s.setFlag OD.mogilEnable 0 false).take OD.mogilEnable 0
  let t := (List.range 4).foldl (fun t g =>
    let t := (t.leaveTo g .off).setDomain (192 + g) { t.domain (192 + g) with state := .lockedOff }
    let t := t.setGrp g { t.grp g with defects := 0#8, agreed := none, kexRunning := false }
    t.defectAlarms g 0) t
  (t.setMogil { t.mogil with on := false, session := false, downAt := none, taken := false })

/-- A write of MOGIL_ENABLE (R276). -/
def enableMogil (v : Nat) (s : State) : Except Fail State :=
  if !s.enableMode then .error (OD.mogilEnable.fail 0x0A01)
  else if v = 0 then .ok s.mogilOff
  else match s.mogilReason with
    | 0 => .ok s.mogilOn
    | r => .error (OD.mogilEnable.fail r)

/-- MOGIL_ENABLE (R276). -/
def execMogilEnable (who : Requester) (v : Nat) (s : State) : Out :=
  .next (s.actOn who OD.mogilEnable 0 OD.mogilEnable.addr v (enableMogil v))

/-- Takeover (R283): the standby's partitions are ENABLED and press from the next slot; MAJOR alarm 0x040E. -/
def State.takeOver (s : State) : State :=
  let t := s.standbyParts.foldl (fun t n =>
    if (t.part n).state = .paused then t.setPart n { t.part n with state := .enabled, pauseNext := none } else t) s
  let t := t.setMogil { t.mogil with taken := true }
  (t.bump OD.takeovers).raise 0x040E

/-- Is this package a standby that has not taken over? -/
def State.isStandby (s : State) : Bool := s.mogil.on && decide (s.govN OD.twinRole = 2) && !s.mogil.taken

/-- A write of TAKEOVER_NOW (R283): 1 takes over. -/
def writeTakeoverNow (v : Nat) (s : State) : Except Fail State :=
  .ok (if v = 1 ∧ s.isStandby = true then s.takeOver else s)

/-- TAKEOVER_NOW (R283). -/
def execTakeoverNow (who : Requester) (v : Nat) (s : State) : Out :=
  .next (s.actOn who OD.takeoverNow 0 OD.takeoverNow.addr v (writeTakeoverNow v))

/-- Has the link been inactive for TAKEOVER_DELAY (R283)? -/
def State.linkLost (s : State) : Bool :=
  match s.mogil.downAt with
  | some t => decide (t + 1000 * bits (s.nat OD.takeover) 31 16 ≤ s.nowNs)
  | none => false

/-- Automatic takeover where the link has been inactive for TAKEOVER_DELAY and the peer is unhealthy. -/
def State.tryTakeover (s : State) : State :=
  if s.isStandby && bit (s.nat OD.takeover) 0 && s.linkLost && !s.mogil.peerHealthy then s.takeOver else s

/-- AUTO_TAKEOVER (R283). -/
def execAutoTakeover (s : State) : Out := .next s.tryTakeover

/-- PEER_HEALTH_INPUT_CHANGE (R283): a high level is healthy. -/
def execPeerHealthInputChange (level : Bool) (s : State) : Out :=
  .next (s.setMogil { s.mogil with peerHealthy := level }).tryTakeover

/-- A write of CHANNEL_MAP (R282): an enabled entry names a configured hamper and partition. -/
def writeChannelMap (ch v : Nat) (s : State) : Except Fail State :=
  if bit v 31 ∧ ((s.hamper (bits v 5 0)).isNone ∨ (s.part (bits v 15 6)).state = .absent) then
    .error (OD.channelMap.fail 0x0404 ch)
  else .ok ((s.setNum OD.channelMap ch (v : Nat)).takeTie OD.channelMap ch)

/-- A write of a group's PRBS_CONFIG (R284): only on a group in OFF. -/
def writeMogilPrbs (g v : Nat) (s : State) : Except Fail State :=
  if bits v 5 4 ≠ 0 ∧ (s.grp g).state ≠ .off then .error (OD.mogilPrbsConfig.fail 0x0406 g)
  else .ok (s.setNum OD.mogilPrbsConfig g (v : Nat))

/-! ## Lane events (R256–R258, R270, R284) -/

/-- Signal on a lane of a group. -/
def State.mogilSignal (s : State) (g lane : Nat) : State :=
  let x := s.grp g
  let l : MogLane := x.lane lane
  if l.signal then s
  else
    let y := { x with lanes := Tab.put {} x.lanes lane { l with signal := true } }
    let t := s.setGrp g y
    if x.state ≠ .off ∧ y.signal = true then
      (t.setGrp g { t.grp g with search := .debounce, signalAt := s.nowNs }).setDefect g 0 false
    else t

/-- LOSS_OF_SIGNAL (R257, R270). -/
def execLossOfSignal (l : LaneRef) (s : State) : Out :=
  if ¬ s.lanesPowered then .next s
  else match l with
    | .line n => if n < 24 then .next (s.lineLos n) else .next s
    | .mogil g k =>
      if 4 ≤ g ∨ 9 ≤ k then .next s
      else if (s.grp g).state = .off then
        .next (s.setGrp g { s.grp g with lanes := Tab.put {} (s.grp g).lanes k { (s.grp g).lane k with signal := false } })
      else .next (s.mogilSignalLoss g k)

/-- SIGNAL_RETURN (R257, R270). -/
def execSignalReturn (l : LaneRef) (s : State) : Out :=
  if ¬ s.lanesPowered then .next s
  else match l with
    | .line n => if n < 24 then .next (s.lineSignal n) else .next s
    | .mogil g k => if 4 ≤ g ∨ 9 ≤ k then .next s else .next (s.mogilSignal g k)

/-- SIGNAL_DEBOUNCE_EXPIRY (R257, R270). -/
def execSignalDebounceExpiry (l : LaneRef) (s : State) : Out :=
  match l with
  | .line n => if n < 24 then .next (s.lineDebounced n) else .next s
  | .mogil g _ =>
    if (s.grp g).search = .debounce ∧ (s.grp g).signal = true ∧ (s.grp g).signalAt + 1000 * s.nat OD.mogilDebounce ≤ s.nowNs then
      .next (s.setGrp g { s.grp g with search := .running })
    else .next s

/-- LOSS_OF_LOCK (R256, R269). -/
def execLossOfLock (l : LaneRef) (s : State) : Out :=
  match l with
  | .line n => if n < 24 then .next (s.lineLol n) else .next s
  | .mogil g k =>
    if (s.grp g).state = .off ∨ (s.grp g).signal = false ∨ 9 ≤ k then .next s else .next (s.mogilRelock g k 1)

/-- LOSS_OF_BLOCK_LOCK (R256, R269). -/
def execLossOfBlockLock (l : LaneRef) (s : State) : Out :=
  match l with
  | .line n => if n < 24 then .next (s.lineLob n) else .next s
  | .mogil g k =>
    if (s.grp g).state = .off ∨ (s.grp g).signal = false ∨ 8 ≤ k then .next s else .next (s.mogilRelock g k 2)

/-- DEGRADE_EVAL (R235, R269): the error ratio of the last second. -/
def execDegradeEval (l : PortOrGroup) (errors bits corrected uncorrected : Nat) (s : State) : Out :=
  match l with
  | .port p => .next (s.portDegrade p errors bits corrected uncorrected)
  | .group g =>
    if (s.grp g).state = .off then .next s
    else .next (s.setDefect g 7 (decide (bits < errors * 10 ^ s.nat OD.degrade)))

/-- A PRBS checker's lock on a lane. -/
def State.setPrbsLock (s : State) (l : LaneRef) (b : Bool) : State :=
  match l with
  | .line n => if bit (s.nat OD.lanePrbsConfig n) 5 then s.setLane n { s.lane n with prbsLock := b } else s
  | .mogil g _ => if bit (s.nat OD.mogilPrbsConfig g) 5 then s.setGrp g { s.grp g with prbsLock := b } else s

/-- PRBS_CHECKER_LOCK (R258): after 256 correct bits. -/
def execPrbsCheckerLock (l : LaneRef) (s : State) : Out := .next (s.setPrbsLock l true)

/-- PRBS_CHECKER_LOCK_LOSS (R258): 512 errors within 1,024 bits; how many bits and errors the checker counted while it
was locked is free. -/
def execPrbsCheckerLockLoss (l : LaneRef) (s : State) : Out :=
  let (n, t) := s.drawNat
  let (e, t) := t.drawNat
  match l with
  | .line k =>
    if (s.lane k).prbsLock then
      .next (((t.setPrbsLock l false).bumpBy OD.lanePrbsBits k (1024 + n)).bumpBy OD.lanePrbsErrors k (512 + e % (n + 1)))
    else .next s
  | .mogil g _ =>
    if (s.grp g).prbsLock then
      .next (((t.setPrbsLock l false).bumpBy OD.mogilPrbsBits g (1024 + n)).bumpBy OD.mogilPrbsErrors g (512 + e % (n + 1)))
    else .next s

end Sys2Proof.Machine
end

