-- ==== Sys2Proof/Machine/Host.lean ====
section
/-!
DEFINITION. The host interface (chapter 11, R320–R334): queue pairs and doorbells, HOST slugs, interrupts, reads of
host memory and their tags, Bus Master Enable, function-level resets and configuration space.
-/

namespace Sys2Proof.Machine

open Sys2Proof

/-- The host interface's state replaced. -/
def State.setHost (s : State) (h : HostSt) : State := { s with host := h }

/-! ## Functions (R323) -/

/-- A function. -/
def State.fn (s : State) (f : Nat) : Fn := Tab.get {} s.host.fns f

/-- A function replaced. -/
def State.setFn (s : State) (f : Nat) (x : Fn) : State :=
  s.setHost { s.host with fns := Tab.put {} s.host.fns f x }

/-- Does a function exist (R323)? -/
def State.fnExists (s : State) (f : Nat) : Bool :=
  decide (f = 0) || (s.host.vfEnable && decide (1 ≤ f ∧ f ≤ s.host.numVfs))

/-- Is the host path of a partition available (R323)? -/
def State.pathUp (s : State) (p : Nat) : Bool :=
  let f := s.govN OD.hostFunction p
  decide (f ≠ 0xFFFF) && s.fnExists f && (s.fn f).mse && (s.fn f).bme && !(s.fn f).inFlr

/-! ## Interrupts (R329) -/

/-- A vector's message falls due: sent, or its pending bit set while it is masked, MSI-X disabled or Bus Master
Enable clear. -/
def Fn.message (x : Fn) (vec : Nat) : Fn :=
  if x.msixOn && x.bme && has x.unmasked vec then { x with sent := x.sent ++ [vec] }
  else { x with pending := insertN x.pending vec }

/-- Pending messages that may be sent now are sent once. -/
def Fn.flush (x : Fn) : Fn :=
  if x.msixOn && x.bme then
    { x with sent := x.sent ++ x.pending.filter (fun v => has x.unmasked v)
             pending := x.pending.filter (fun v => !has x.unmasked v) }
  else x

/-- A message of a function falls due. -/
def State.msix (s : State) (f vec : Nat) : State := s.setFn f ((s.fn f).message vec)

/-- MSIX_UNMASK (R329). -/
def execMsixUnmask (f vec : Nat) (s : State) : Out :=
  if f < 1024 ∧ vec < 64 ∧ (s.fn f).inFlr = false then
    .next (s.setFn f ({ s.fn f with unmasked := insertN (s.fn f).unmasked vec } : Fn).flush)
  else .next s

/-! ## Queue pairs (R325, R326) -/

/-- A queue pair. -/
def State.qp (s : State) (g : Nat) : Qp := Tab.get {} s.host.qps g

/-- A queue pair replaced. -/
def State.setQp (s : State) (g : Nat) (q : Qp) : State :=
  s.setHost { s.host with qps := Tab.set s.host.qps g q }

/-- Entries of a ring. -/
def Qp.sqSize (q : Qp) : Nat := 2 ^ q.sqLog
def Qp.cqSize (q : Qp) : Nat := 2 ^ q.cqLog

/-- The number of the queue pair with local index `i` of a partition, one that is not DISABLED first, then the lowest (DESIGN
CHOICE: no check keeps two queue pairs from naming one index). -/
def State.qpOf (s : State) (p i : Nat) : Option Nat :=
  let names (e : Nat × Qp) : Bool := decide (e.2.part = p ∧ e.2.localIdx = i)
  match s.host.qps.find? (fun e => names e && decide (e.2.state ≠ .disabled)) with
  | some e => some e.1
  | none => (s.host.qps.find? names).map (·.1)

/-- A queue pair moved to DISABLED, its heads and tails cleared. -/
def State.qpDown (s : State) (g : Nat) : State :=
  let q := s.qp g
  ((s.setQp g { q with state := .disabled, sqHead := 0, sqTail := 0, cqTail := 0, cqHead := 0, phase := true }).setFlag
    OD.qpEnable g false).condition 0x0905 g false

/-- Every queue pair of a partition moved to DISABLED. -/
def State.qpsDown (s : State) (p : Nat) : State :=
  ((s.host.qps.filter (fun e => decide (e.2.part = p))).map (·.1)).foldl State.qpDown s

/-- The check of a queue pair (Table 11-9), on the written values. -/
def State.qpReason (s : State) (g : Nat) : Nat :=
  let o := s.nat OD.qpOwner g
  let z := s.nat OD.qpSizes g
  firstFail [
    (!bit o 31 || decide (s.govN OD.qpQuota (bits o 9 0) ≤ bits o 21 10), 0x0902),
    (decide (12 < bits z 3 0 ∨ 12 < bits z 7 4) || decide (s.nat OD.sqBase g % 4096 ≠ 0 ∨ s.nat OD.cqBase g % 4096 ≠ 0)
      || decide (s.govN OD.msixQuota (bits o 9 0) ≤ bits z 13 8), 0x0908)]

/-- A queue pair enabled. -/
def State.qpOn (s : State) (g : Nat) : State :=
  let t := (s.takeAll [OD.qpOwner, OD.sqBase, OD.cqBase, OD.qpSizes] g).setFlag OD.qpEnable g true
  let o := s.nat OD.qpOwner g
  let z := s.nat OD.qpSizes g
  t.setQp g { state := .enabled, part := bits o 9 0, localIdx := bits o 21 10
              sqBase := s.nat OD.sqBase g, cqBase := s.nat OD.cqBase g
              sqLog := 4 + bits z 3 0, cqLog := 4 + bits z 7 4, vector := bits z 13 8 }

/-- A write of QP_ENABLE (R325): TRUE takes the values over on a DISABLED queue pair; ERROR is left by disable then
enable. -/
def enableQp (g v : Nat) (s : State) : Except Fail State :=
  if v = 0 then .ok (s.qpDown g)
  else if (s.qp g).state ≠ .disabled then .ok s
  else match s.qpReason g with
    | 0 => .ok (s.qpOn g)
    | r => .error (OD.qpEnable.fail r)

/-- QP_ENABLE (R325). -/
def execQpEnable (who : Requester) (v : Nat) (s : State) : Out :=
  .next (s.actSel who OD.qpEnable v (fun g => enableQp g v))

/-- The test of R326: new position, size, head and old position; none where the write is an error. -/
def advance (new size head old : Nat) : Option Nat :=
  if size ≤ new then none
  else if (new + size - head) % size < (old + size - head) % size then none
  else some ((new + size - old) % size)

/-- The queue pair a doorbell of a function names, where its BAR answers; a doorbell that arrives during a
function-level reset is discarded (R334). -/
def State.doorbell (s : State) (f q : Nat) : Option Nat :=
  if s.fnExists f && (s.fn f).mse && !(s.fn f).inFlr then (s.partOfFn f).bind (fun p => s.qpOf p q) else none

/-- A doorbell write in error (R326): the queue pair enters ERROR with its alarm. -/
def State.qpError (s : State) (g : Nat) : State :=
  ((s.setQp g { s.qp g with state := .error }).bump OD.doorbellErrors g).condition 0x0905 g true

/-- `k` doorbell events of a queue pair, each on its own (R326). -/
def State.doorbellEvents (s : State) (g p k : Nat) : State :=
  (List.range k).foldl (fun t _ => t.event 1 g p 1 false []) s

/-- SQ_TAIL_DOORBELL (R326). -/
def execSqTailDoorbell (f q v size : Nat) (s : State) : Out :=
  match s.doorbell f q with
  | none => .next s
  | some g =>
    let x := s.qp g
    if x.state ≠ .enabled ∨ size ≠ 4 then .next (s.bump OD.doorbellErrors g)
    else match advance v x.sqSize x.sqHead x.sqTail with
      | none => .next (s.qpError g)
      | some k => .next ((s.setQp g { x with sqTail := v }).doorbellEvents g x.part k)

/-! ## Translations (R332) -/

/-- The key of a translation. -/
def atcKey (f a : Nat) : Nat := f * 4503599627370496 + a / 4096

/-- A translation used: found, or requested on a miss.  Whether the answer lacks the permission is the host's doing: a
free value.  The oldest of 4,096 entries gives way (DESIGN CHOICE: the spec names no replacement). -/
def State.translate (s : State) (f a : Nat) : Bool × State :=
  if !(s.fn f).ats || has s.host.atc (atcKey f a) then (true, s)
  else
    let ok := decide (Config.free s.freeCtr % 2 = 0)
    let t := { s with freeCtr := s.freeCtr + 1 }
    (ok, if ok then t.setHost { t.host with atc := (atcKey f a :: t.host.atc).take 4096 } else t)

/-- Does a request outstanding use a translation? -/
def State.translationUsed (s : State) (k : Nat) : Bool :=
  s.host.tags.any (fun e => decide (e.2.req.len ≠ 0) && decide (atcKey e.2.req.fn e.2.req.addr = k))

/-- Invalidations whose requests have all ended complete. -/
def State.finishInvals (s : State) : State :=
  s.setHost { s.host with invals := s.host.invals.filter s.translationUsed }

/-- ATS_INVALIDATE (R332): the translation goes; the invalidation completes once its requests have ended. -/
def execAtsInvalidate (f page : Nat) (s : State) : Out :=
  let k := f * 4503599627370496 + page
  .next ((s.setHost { s.host with atc := removeN s.host.atc k, invals := insertN s.host.invals k }).finishInvals)

/-! ## Tags (R330) -/

/-- Tags of a function in use, quarantined ones apart. -/
def State.tagsOf (s : State) (f : Nat) : Nat :=
  (s.host.tags.filter (fun e => decide (e.2.req.fn = f) && !e.2.quarantined)).length

/-- Tags in quarantine. -/
def State.tagsHeld (s : State) : Nat := (s.host.tags.filter (fun e => e.2.quarantined)).length

/-- The lowest tag of 14 bits that is free (DESIGN CHOICE). -/
def State.freeTag (s : State) : Option Nat := (pickFree (fun t => (Tab.find s.host.tags t).isSome) 16384 0 1).head?

/-- May a request be sent: fewer than 8,192 tags in use, and fewer than NP_QUOTA by its function? -/
def State.mayRequest (s : State) (r : HReq) : Bool :=
  decide (s.host.tags.length < 8192) && decide (s.tagsOf r.fn < s.govN OD.npQuota r.part)

/-- A request sent under a tag, or held. -/
def State.request (s : State) (r : HReq) : State :=
  let hold := s.setHost { s.host with heldReqs := s.host.heldReqs ++ [r] }
  if s.mayRequest r then
    match s.freeTag with
    | some t =>
      let x := s.setHost { s.host with tags := Tab.set s.host.tags t { req := r, sentAt := s.nowNs } }
      x.peak OD.npPeak 0 x.host.tags.length
    | none => hold
  else hold

/-- Held requests tried again, oldest first. -/
def State.pumpHeld (s : State) : State :=
  s.host.heldReqs.foldl State.request (s.setHost { s.host with heldReqs := [] })

/-- A tag becomes free. -/
def State.freeTagOf (s : State) (t : Nat) : State :=
  ((s.setHost { s.host with tags := Tab.del s.host.tags t }).finishInvals).pumpHeld

/-! ## HOST slugs (R327, R328) -/

/-- The key under which the job of a HOST slug is kept. -/
def hostKey (h : Nat) : Nat := 65536 + h

/-- The job of a HOST slug. -/
def State.hostJob (s : State) (h : Nat) : Option Job := Tab.find s.edge.jobs (hostKey h)
def State.setHostJob (s : State) (h : Nat) (j : Job) : State :=
  { s with edge := { s.edge with jobs := Tab.set s.edge.jobs (hostKey h) j } }

/-- What a HOST slug leaves behind when it ends: no job, no held request, its tags waiting only for completions that
are discarded. -/
def State.hostForget (s : State) (h : Nat) : State :=
  let t := { s with edge := { s.edge with jobs := Tab.del s.edge.jobs (hostKey h) } }
  t.setHost { t.host with
    heldReqs := t.host.heldReqs.filter (fun r => decide (r.handle ≠ h))
    cqWaiting := removeN t.host.cqWaiting h
    cqAt := Tab.del t.host.cqAt h
    tags := Tab.mapV (fun _ x => if x.req.handle = h then { x with dead := true } else x) t.host.tags }

/-- A HOST slug ends with a result: 0 OK with its output under OUT_BIND0, 4 HOST_UNAVAILABLE, which its partition
counts, 5 INPUT_INVALID.  EMITTED is what it has reached. -/
def State.hostEnd (s : State) (h res : Nat) : State :=
  match s.slug h with
  | none => s
  | some x =>
    let pairs := match s.hostJob h with
      | some j => j.outs.map (fun b => (bits j.desc 33 24, b))
      | none => []
    let t := (s.hostForget h).complete ⟨h, x.attempt, res, if res = 0 then pairs else [], x.emitted⟩
    if res = 4 then t.bump OD.hostUnavailable x.part else t

/-- A HOST slug ends with a fault report of cause SLUG. -/
def State.hostFault (s : State) (h : Nat) : State :=
  match s.slug h with
  | none => s
  | some x => (s.hostForget h).slugFaultAlarm h x.attempt

/-- The accesses a HOST slug makes. -/
def hostAcc (p h att : Nat) : Acc := ⟨.host, 0, some p, false, some (h, att), false⟩

/-- Running slugs of a class. -/
def State.countRunning (s : State) (cls : Nat) : Nat :=
  (s.galley.slugs.filter (fun e => decide (e.2.cls = cls ∧ e.2.state = .running))).length

/-- A HOST slug taken at dispatch: 64 run at once (Table 11-2). -/
def State.takeHost (s : State) (h kind : Nat) : Option (Slug × State) :=
  if (s.countRunning 12) < 64 then s.takeIfc h 12 kind else none

/-- Its descriptor is sound (Table 11-5): the header, the reserved fields, and for FETCH the number of entries. -/
def hostDescOk (kind d : Nat) : Bool :=
  headerOk d && decide (bits d 143 142 = 0 ∧ bits d 255 160 = 0 ∧ bits d 511 448 = 0)
    && (decide (kind ≠ 1) || decide (1 ≤ bits d 159 144 ∧ bits d 159 144 ≤ 4096))

/-- The enabled queue pair a descriptor names. -/
def State.descQp (s : State) (p d : Nat) : Option Nat :=
  (s.qpOf p (bits d 139 128)).bind (fun g => if (s.qp g).state = .enabled then some g else none)

/-- An element of a list of host addresses (R327): address, length, and whether [127:96] is zero. -/
def hostEl (b : List Byte) (k : Nat) : Nat × Nat × Bool :=
  let e := leNat ((b.drop (16 * k)).take 16)
  (bits e 63 0, bits e 95 64, decide (bits e 127 96 = 0))

/-- A list of `n` elements. -/
def hostList (b : List Byte) (n : Nat) : List (Nat × Nat × Bool) := (List.range n).map (hostEl b)

/-- Its bytes. -/
def listBytes (l : List (Nat × Nat × Bool)) : Nat := (l.map (fun e => e.2.1)).sum

/-- The reads of a span of host memory: at most 4,096 bytes each (Table 11-2), none across a 4 KiB boundary
(PRESUMED, PCIe). -/
def splitReads (f p h : Nat) : Nat → Nat → Nat → Nat → List HReq
  | 0, _, _, _ => []
  | n + 1, a, len, off =>
    if len = 0 then []
    else
      let k := min len (4096 - a % 4096)
      ⟨f, p, h, a, k, off⟩ :: splitReads f p h n (a + k) (len - k) (off + k)

/-- The reads of a list of spans, their data laid out in order from `off`. -/
def listReads (f p h : Nat) : List (Nat × Nat) → Nat → List HReq
  | [], _ => []
  | (a, len) :: t, off => splitReads f p h (len / 4096 + 2) a len off ++ listReads f p h t (off + len)

/-- The spans of the `n` submission entries at a ring's head. -/
def Qp.entries (q : Qp) (n : Nat) : List (Nat × Nat) :=
  let first := min n (q.sqSize - q.sqHead)
  [(q.sqBase + 64 * q.sqHead, 64 * first), (q.sqBase, 64 * (n - first))]

/-- Submission entries available. -/
def Qp.available (q : Qp) : Nat := (q.sqTail + q.sqSize - q.sqHead) % q.sqSize

/-- Requests sent one after another; a translation that cannot be resolved ends the slug (R332). -/
def State.sendReads (s : State) (h : Nat) : List HReq → State
  | [] => s
  | r :: rs =>
    match s.translate r.fn r.addr with
    | (true, t) => (t.request r).sendReads h rs
    | (false, t) => t.hostEnd h 4

/-- The address of output 0 of a job. -/
def State.hostOut (s : State) (j : Job) : Nat := ((j.outs.head?).bind s.bufAddr).getD 0

/-- A FETCH or GATHER whose data have all arrived: FETCH writes its header and advances the head; the slug ends OK. -/
def State.hostFinish (s : State) (h : Nat) : State :=
  match s.hostJob h, s.slug h with
  | some j, some x =>
    if x.kind = 1 then
      match s.descQp x.part j.desc with
      | none => s.hostEnd h 4
      | some g =>
        let q := s.qp g
        let head := (q.sqHead + j.items) % q.sqSize
        match s.memWrite (hostAcc x.part h x.attempt) (s.hostOut j) (leBytes 64 (j.items + head * 65536)) with
        | (0, t) => (t.setQp g { q with sqHead := head }).hostEnd h 0
        | (_, t) => t.hostFault h
    else s.hostEnd h 0
  | _, _ => s

/-- Does a slug still wait for data? -/
def State.hostBusy (s : State) (h : Nat) : Bool :=
  s.host.tags.any (fun e => decide (e.2.req.handle = h) && !e.2.dead) || s.host.heldReqs.any (fun r => decide (r.handle = h))

/-- The requests of a FETCH or GATHER that holds its output are made; one that asks for nothing ends at once. -/
def State.hostIssue (s : State) (h : Nat) (j : Job) (x : Slug) : State :=
  let f := s.govN OD.hostFunction x.part
  let go (t : State) (j : Job) (rs : List HReq) : State :=
    let t := (t.setHostJob h { j with ready := some 0 }).sendReads h rs
    if (t.hostJob h).isSome && !t.hostBusy h then t.hostFinish h else t
  if x.kind = 1 then
    match s.descQp x.part j.desc with
    | none => s.hostEnd h 4
    | some g =>
      let n := min (bits j.desc 159 144) (s.qp g).available
      go s { j with items := n } (listReads f x.part h ((s.qp g).entries n) 64)
  else
    match s.memRead (hostAcc x.part h x.attempt) (s.argAt x 1) (16 * dItems j.desc) with
    | (0, b, t) =>
      let l := hostList b (dItems j.desc)
      if l.all (fun e => e.2.2) && decide (listBytes l ≤ t.bufBytes (dHamper j.desc)) then
        go t j (listReads f x.part h (l.map (fun e => (e.1, e.2.1))) 0)
      else t.hostFault h
    | (_, _, t) => t.hostFault h

/-- The completion entry of a DELIVER (Table 11-4). -/
def Qp.entry (q : Qp) (d : Nat) : List Byte :=
  leBytes 32 (q.sqHead + (if q.phase then 65536 else 0) + q.localIdx * 2 ^ 32 + bits d 447 256 * 2 ^ 64)

/-- A completion ring with no room: one entry stays empty, since equal positions mean an empty ring. -/
def Qp.cqFull (q : Qp) : Bool := decide ((q.cqTail + 1) % q.cqSize = q.cqHead)

/-- The writes of a DELIVER: its data cut along the list. -/
def deliverWrites (f : Nat) : List (Nat × Nat × Bool) → List Byte → List HostWrite
  | [], _ => []
  | (a, len, _) :: t, b => ⟨f, a, b.take len⟩ :: deliverWrites f t (b.drop len)

/-- Every page a DELIVER writes translated. -/
def State.translateAll (s : State) (f : Nat) : List Nat → Bool × State
  | [] => (true, s)
  | a :: as =>
    match s.translate f a with
    | (true, t) => t.translateAll f as
    | e => e

/-- The addresses of the pages of a span. -/
def pagesOf (a len : Nat) : List Nat := (List.range ((a % 4096 + len + 4095) / 4096)).map (fun k => a + 4096 * k)

/-- DELIVER sends: its data writes, its completion entry, its message, in that order (R328); it waits while the
completion ring is full. -/
def State.deliverSend (s : State) (h : Nat) (j : Job) (x : Slug) : State :=
  let f := s.govN OD.hostFunction x.part
  let cqe := bit j.desc 141
  let q := hostAcc x.part h x.attempt
  match s.memRead q (s.argAt x 2) (16 * dItems j.desc) with
  | (0, b, t) =>
    let l := hostList b (dItems j.desc)
    if !l.all (fun e => e.2.2) then t.hostFault h
    else match t.memRead q (t.argAt x 1) (listBytes l) with
      | (0, data, t) =>
        let g := (t.descQp x.part j.desc).getD 16384
        if (cqe || bit j.desc 140) && (t.descQp x.part j.desc).isNone then t.hostEnd h 4
        else if cqe && (t.qp g).cqFull then
          let u := t.setHostJob h j
          u.setHost { u.host with cqWaiting := insertN u.host.cqWaiting h
                                  cqAt := if (Tab.find u.host.cqAt h).isSome then u.host.cqAt else Tab.set u.host.cqAt h u.nowNs }
        else
          let z := t.qp g
          let entry := z.cqBase + 32 * z.cqTail
          match t.translateAll f (l.flatMap (fun e => pagesOf e.1 e.2.1) ++ (if cqe then [entry] else [])) with
          | (false, t) => t.hostEnd h 4
          | (true, t) =>
            let ws := deliverWrites f l data ++ (if cqe then [⟨f, entry, z.entry j.desc⟩] else [])
            let t := t.setHost { t.host with writes := t.host.writes ++ ws }
            let t := if ws.isEmpty then t else (match t.slug h with
              | some y => t.setSlug h { y with emitted := true }
              | none => t)
            let tail := (z.cqTail + 1) % z.cqSize
            let t := if cqe then t.setQp g { z with cqTail := tail, phase := if tail = 0 then !z.phase else z.phase } else t
            let t := if bit j.desc 140 then t.msix f z.vector else t
            t.hostEnd h 0
      | (_, _, t) => t.hostFault h
  | (_, _, t) => t.hostFault h

/-- The start of a HOST slug (R323, R327): HOST_UNAVAILABLE without a path; the descriptor read and checked; the
arguments; the output allocated. -/
def State.hostBegin (s : State) (h : Nat) (x : Slug) : State :=
  if !s.pathUp x.part then s.hostEnd h 4
  else if !x.hasArg 0 then s.hostEnd h 5
  else match s.memRead (hostAcc x.part h x.attempt) (s.argAt x 0) 64 with
    | (0, b, t) =>
      let d := leNat b
      let outBytes := if x.kind = 1 then 64 + 64 * bits d 159 144 else 0
      if !hostDescOk x.kind d || decide (x.commit ≠ .external ∨ x.affinity ≠ 0) then t.hostFault h
      else if (decide (2 ≤ x.kind) && !x.hasArg 1) || (decide (x.kind = 3) && !x.hasArg 2)
        || (x.taint && !bit d 22) then t.hostEnd h 5
      else if x.kind = 3 then t.deliverSend h ⟨h, x.attempt, d, 0, [], false, none, 0, false, [], s.time.air⟩ x
      else if x.kind = 1 ∧ (t.descQp x.part d).isNone then t.hostEnd h 4
      else if t.bufBytes (dHamper d) < outBytes then t.hostFault h
      else
        let (j, t) := t.engAlloc x.part 1 ⟨h, x.attempt, d, 1, [], true, none, 0, false, [], s.time.air⟩
        let t := t.setHostJob h j
        if j.waitAlloc then t else t.hostIssue h j x
    | (_, _, t) => t.hostFault h

/-- A HOST slug dispatched; one that waited for its output goes on once it holds it. -/
def State.hostSlug (s : State) (h kind : Nat) : State :=
  match s.hostJob h, s.slug h with
  | some j, some x =>
    if x.state = .running ∧ x.kind = kind ∧ j.waitAlloc = false ∧ j.ready = none ∧ kind ≠ 3 then s.hostIssue h j x else s
  | _, _ =>
    match s.takeHost h kind with
    | some (x, t) => t.hostBegin h x
    | none => s

/-- FETCH (R327). -/
def execFetch (handle : Nat) (s : State) : Out := .next (s.hostSlug handle 1)

/-- GATHER (R327). -/
def execGather (handle : Nat) (s : State) : Out := .next (s.hostSlug handle 2)

/-- DELIVER (R327, R328). -/
def execDeliver (handle : Nat) (s : State) : Out := .next (s.hostSlug handle 3)

/-- CQ_WAIT_TIMEOUT (R328): a DELIVER that has waited CQ_WAIT for room ends HOST_UNAVAILABLE, having sent nothing. -/
def execCqWaitTimeout (handle : Nat) (s : State) : Out :=
  if has s.host.cqWaiting handle ∧ Tab.get 0 s.host.cqAt handle + s.nat OD.cqWait * 1000 ≤ s.nowNs then
    let p := match s.slug handle with | some x => x.part | none => 0
    .next ((s.hostEnd handle 4).raise 0x0906 p (some p))
  else .next s

/-- A DELIVER that waits tries again. -/
def State.retryDeliver (s : State) (h : Nat) : State :=
  match s.hostJob h, s.slug h with
  | some j, some x => (s.setHost { s.host with cqWaiting := removeN s.host.cqWaiting h }).deliverSend h j x
  | _, _ => s

/-- CQ_HEAD_DOORBELL (R326, R328): completion entries become free, and DELIVERs that waited go on. -/
def execCqHeadDoorbell (f q v size : Nat) (s : State) : Out :=
  match s.doorbell f q with
  | none => .next s
  | some g =>
    let x := s.qp g
    if x.state ≠ .enabled ∨ size ≠ 4 then .next (s.bump OD.doorbellErrors g)
    else if x.cqSize ≤ v ∨ (x.cqTail + x.cqSize - x.cqHead) % x.cqSize < (v + x.cqSize - x.cqHead) % x.cqSize then
      .next (s.qpError g)
    else
      let t := s.setQp g { x with cqHead := v }
      .next (t.host.cqWaiting.foldl State.retryDeliver t)

/-! ## Completions (R331) -/

/-- A request ends in error or by timeout: AER unless the function was reset since, its count, and alarm 0x0904. -/
def State.cplError (s : State) (x : HTag) (o : Obj) : State :=
  let t := if x.wasReset then s else s.setFn x.req.fn { s.fn x.req.fn with aer := (s.fn x.req.fn).aer + 1 }
  (t.bump o).raiseAtMost oneSecond 0x0904 x.req.fn (s.partOfFn x.req.fn)

/-- A request outstanding ends in error: its data are discarded and its slug ends HOST_UNAVAILABLE. -/
def State.cplFail (s : State) (tag : Nat) (x : HTag) (o : Obj) : State :=
  let t := s.cplError x o
  if x.quarantined then t.setHost { t.host with tags := Tab.set t.host.tags tag { x with req := { x.req with len := 0 } } }
  else if x.dead then t.freeTagOf tag
  else (t.freeTagOf tag).hostEnd x.req.handle 4

/-- The data of a completion reach output 0; the last of a slug ends it. -/
def State.cplData (s : State) (tag : Nat) (x : HTag) (data : List Byte) : State :=
  let h := x.req.handle
  match s.hostJob h, s.slug h with
  | some j, some y =>
    let b := data.take x.req.len
    let left := { x.req with addr := x.req.addr + b.length, len := x.req.len - b.length, off := x.req.off + b.length }
    match s.memWrite (hostAcc y.part h y.attempt) (s.hostOut j + x.req.off) b with
    | (0, t) =>
      if left.len ≠ 0 then t.setHost { t.host with tags := Tab.set t.host.tags tag { x with req := left } }
      else
        let t := t.freeTagOf tag
        if t.hostBusy h then t else t.hostFinish h
    | (_, t) => (t.freeTagOf tag).hostFault h
  | _, _ => s.freeTagOf tag

/-- PCIE_COMPLETION_RX (R331, R333, R334): delivered; discarded where the slug has ended, as a late completion after a
clear of Bus Master Enable or a reset; or treated as an error. -/
def execPcieCompletionRx (tag : Nat) (status : CplStatus) (data : List (BitVec 8)) (s : State) : Out :=
  match Tab.find s.host.tags tag with
  | none => .next s
  | some x =>
    if x.req.len = 0 then .next s
    else
      let t := if x.late then s.bump OD.hostLateCompletions else s
      if status ≠ .sc then .next (t.cplFail tag x OD.cplErrors)
      else if x.quarantined then
        .next (t.setHost { t.host with tags := Tab.set t.host.tags tag { x with req := { x.req with len := 0 } } })
      else if x.dead then .next (t.freeTagOf tag)
      else .next (t.cplData tag x data)

/-- The completion timeout [ns] of PF0's Device Control 2 (R331): 16 ms for the value 0, else the least time of the range a value
names (PRESUMED, PCIe: ranges A, B and C of two values each; a value of no range is taken as 0). -/
def State.cplTimeoutNs (s : State) : Nat :=
  match s.host.cplTimeout with
  | 1 => 50000
  | 2 => 1000000
  | 6 => 65000000
  | 9 => 260000000
  | 10 => 1000000000
  | _ => 16000000

/-- PCIE_COMPLETION_TIMEOUT (R331). -/
def execPcieCompletionTimeout (tag : Nat) (s : State) : Out :=
  match Tab.find s.host.tags tag with
  | none => .next s
  | some x =>
    if x.req.len = 0 ∨ s.nowNs < x.sentAt + s.cplTimeoutNs then .next s else .next (s.cplFail tag x OD.cplTimeouts)

/-- TAG_QUARANTINE_END (R334): the completion timeout, counted from the reset, has expired. -/
def execTagQuarantineEnd (tag : Nat) (s : State) : Out :=
  match Tab.find s.host.tags tag with
  | some x => if x.quarantined = true ∧ x.resetAt + s.cplTimeoutNs ≤ s.nowNs then .next (s.freeTagOf tag) else .next s
  | none => .next s

/-! ## Bus Master Enable and function-level reset (R333, R334) -/

/-- Running HOST slugs of a partition. -/
def State.hostSlugs (s : State) (p : Nat) : List Nat :=
  (s.galley.slugs.filter (fun e => decide (e.2.cls = 12 ∧ e.2.part = p ∧ e.2.state = .running))).map (·.1)

/-- The requests of a function treated as after a clear of Bus Master Enable (R333): its running HOST slugs end
HOST_UNAVAILABLE, its tags wait for late completions, and its held requests are never sent. -/
def State.orphan (s : State) (f : Nat) : State :=
  let t := s.setHost { s.host with
    heldReqs := s.host.heldReqs.filter (fun r => decide (r.fn ≠ f))
    tags := Tab.mapV (fun _ x => if x.req.fn = f then { x with dead := true, late := true } else x) s.host.tags }
  match s.partOfFn f with
  | some p => (t.hostSlugs p).foldl (fun t h => t.hostEnd h 4) t
  | none => t

/-- Does a function have a request outstanding? -/
def State.outstanding (s : State) (f : Nat) : Bool := s.host.tags.any (fun e => decide (e.2.req.fn = f) && !e.2.late)

/-- Bus Master Enable cleared (R333), with MINOR alarm 0x0903 where a request was outstanding. -/
def State.bmeOff (s : State) (f : Nat) : State :=
  let t := (s.setFn f { s.fn f with bme := false }).orphan f
  if s.outstanding f then t.raise 0x0903 f (s.partOfFn f) else t

/-- BME_CLEAR (R333). -/
def execBmeClear (f : Nat) (s : State) : Out :=
  if (s.fn f).bme then .next (s.bmeOff f) else .next s

/-- BME_SET (R333): the queue pairs resume where they stood, and messages that were pending are sent. -/
def execBmeSet (f : Nat) (s : State) : Out :=
  if s.fnExists f && !(s.fn f).inFlr then .next (s.setFn f ({ s.fn f with bme := true } : Fn).flush) else .next s

/-- One function reset (R334 steps 1–5). -/
def State.flrOne (s : State) (f : Nat) : State :=
  let p := s.partOfFn f
  let t := s.bmeOff f
  let t := match p with | some n => t.qpsDown n | none => t
  let t := t.setFn f { t.fn f with
    mse := false, bme := false, inFlr := true, msixOn := false, ats := false, unmasked := [], pending := []
    mbRunning := none, mbWait := [], mbDone := false }
  let t := { t with pot := { t.pot with boxes := Tab.del t.pot.boxes f } }
  let t := t.setHost { t.host with
    tags := Tab.mapV (fun _ x => if x.req.fn = f ∧ x.quarantined = false then
      { x with quarantined := true, wasReset := true, resetAt := s.nowNs } else x) t.host.tags }
  (t.bump OD.flrs).raise 0x0902 f p

/-- The VFs that exist. -/
def State.vfs (s : State) : List Nat := if s.host.vfEnable then (List.range s.host.numVfs).map (· + 1) else []

/-- A function-level reset (R334): that of PF0 resets every VF too, clears VF Enable and invalidates host time. -/
def State.flr (s : State) (f : Nat) : State :=
  if f = 0 then
    let t := (s.vfs.foldl State.flrOne s).flrOne 0
    let t := (t.setHost { t.host with vfEnable := false, numVfs := 0, cplTimeout := 0 }).hostTimeInvalid
    t.setTime { t.time with ptmOn := false }
  else s.flrOne f

/-- FLR_INITIATE (R334). -/
def execFlrInitiate (f : Nat) (s : State) : Out := if s.fnExists f then .next (s.flr f) else .next s

/-- FLR_COMPLETE (R334 step 6). -/
def execFlrComplete (f : Nat) (s : State) : Out := .next (s.setFn f { s.fn f with inFlr := false })

/-! ## BAR0 (R322) -/

/-- What the host reads at an offset of a function's BAR0 (Table 11-3), as a 64-bit word: the pending bits, and in PF0 the PTM
mirror and the device's mode with the highest active severity.  The mailbox is chapter 12's; the doorbells and the rest of the range
read as zero (DESIGN CHOICE: the spec gives only their writes).  No command of the table reads the BAR. -/
def State.barWord (s : State) (f off : Nat) : Nat :=
  if off = 0x10800 then (s.fn f).pending.foldl (fun m v => m + 2 ^ v) 0
  else if f ≠ 0 then 0
  else if off = 0x20000 then (if s.flag OD.ptmValid then 1 else 0)
  else if off = 0x20008 then unsigned 64 (s.num OD.hostOffset)
  else if off = 0x20010 then unsigned 64 (s.num OD.hostOffsetMedian)
  else if off = 0x20018 then s.nat OD.ptmLinkDelay
  else if off = 0x20020 then s.nat OD.ptmPairTime % 2 ^ 64
  else if off = 0x20028 then s.nat OD.ptmPairTime / 2 ^ 64
  else if off = 0x21000 then s.mode.mode.code + 256 * s.alarms.highest
  else 0

/-! ## Link and configuration space (R321, R323, R331) -/

/-- The link runs below 16 GT/s or below ×8 (R321); rates are the codes of LINK_STATE. -/
def slowLink (rate width : Nat) : Bool := decide (rate < 4 ∨ width < 8)

/-- PCIE_LINK_TRAINED (R321, R78): a retrain or a change of rate makes host time invalid. -/
def execPcieLinkTrained (rate width : Nat) (retrain : Bool) (s : State) : Out :=
  let changed := retrain || (decide (s.host.rate ≠ 0) && decide (s.host.rate ≠ rate))
  let t := (s.setHost { s.host with rate := rate, width := width }).condition 0x0901 0 (slowLink rate width)
  .next (if changed then t.hostTimeInvalid else t)

/-- PCIE_LINK_RESET (R321): link-down, hot or conventional reset, as a reset of every function. -/
def execPcieLinkReset (s : State) : Out :=
  let t := s.flr 0
  .next ((t.setHost { t.host with rate := 0, width := 0 }).condition 0x0901 0 false)

/-- VF Enable written: the VFs that cease to exist are reset (PRESUMED, SR-IOV). -/
def State.writeVfEnable (s : State) (on : Bool) : State :=
  let t := if !on then s.vfs.foldl State.flrOne s else s
  t.setHost { t.host with vfEnable := on }

/-- PCIE_CONFIG_WRITE (R323, R329, R331, R78, R332): the host writes a field of a function's configuration space. -/
def execPcieConfigWrite (f : Nat) (fld : CfgField) (v : Nat) (s : State) : Out :=
  if !s.fnExists f || (s.fn f).inFlr then .next s
  else match fld with
    | .memorySpace => .next (s.setFn f { s.fn f with mse := decide (v ≠ 0) })
    | .msixEnable => .next (s.setFn f ({ s.fn f with msixOn := decide (v ≠ 0) } : Fn).flush)
    | .atsEnable => .next (s.setFn f { s.fn f with ats := decide (v ≠ 0) })
    | .vfEnable => if f = 0 then .next (s.writeVfEnable (decide (v ≠ 0))) else .next s
    | .numVfs => if f = 0 ∧ s.host.vfEnable = false then .next (s.setHost { s.host with numVfs := min v 1023 }) else .next s
    | .devCtl2 => if f = 0 then .next (s.setHost { s.host with cplTimeout := v % 16 }) else .next s
    | .ptmEnable =>
      if f = 0 then
        let t := s.setTime { s.time with ptmOn := decide (v ≠ 0) }
        .next (if v = 0 then t.hostTimeInvalid else t)
      else .next s

end Sys2Proof.Machine
end

