-- ==== Sys2Proof/Machine/Partitions.lean ====
section
/-!
DEFINITION. Partitions (R335–R339, R378, R379): the enable check, pause, disable and reset.
-/

namespace Sys2Proof.Machine

open Sys2Proof

/-- The place of a partition's object. -/
def partAddr (o : Obj) (n : Nat) : Addr := ⟨0xA400 + n, o.sub⟩

/-- A refusal at a partition's object. -/
def partFail (o : Obj) (n reason : Nat) : Fail := ⟨reason, some (partAddr o n), 0xFFFFFFFF⟩

/-- Does a state hold quotas, windows and a function (an enabled partition)? -/
def PartState.holds (x : PartState) : Bool := decide (x ≠ .absent) && decide (x ≠ .configured)

/-- The other enabled partitions. -/
def State.otherParts (s : State) (n : Nat) : List Nat :=
  (s.parts.filter (fun e => e.2.state.holds && decide (e.1 ≠ n))).map (·.1)

/-- The sum of a quota over partition `n` and the other enabled ones. -/
def State.quotaSum (s : State) (o : Obj) (n : Nat) : Nat := s.nat o n + ((s.otherParts n).map (fun m => s.nat o m)).sum

/-- A window as base, bytes, read and write rights; none where it is not enabled. -/
def windowOf (w : Nat) : Option (Nat × Nat × Bool × Bool) :=
  if bit w 62 then some (bits w 35 0 * 4096, bits w 59 36 * 4096, bit w 60, bit w 61) else none

/-- The written windows of a partition. -/
def State.windowsOf (s : State) (n : Nat) : List (Nat × Nat × Bool × Bool) :=
  (List.range 16).filterMap (fun k => windowOf (s.nat OD.windowReg (16 * n + k)))

/-- The memories one of which must hold a window whole (R336). -/
def windowMemories : List (Nat × Nat) :=
  [(0, 0xC00000000), (0x1000000000, 0xB800000)] ++ (List.range 12).map (fun c => (0x1100000000 + 0x1000000 * c, 0x400000))

/-- Does a range lie wholly in one of them? -/
def windowPlaced (base len : Nat) : Bool :=
  decide (0 < len) && windowMemories.any (fun m => decide (m.1 ≤ base) && decide (base + len ≤ m.1 + m.2))

/-- Does a window of partition `n` meet what R336 forbids: a window of another enabled partition where one of the two
may be written, or, with write right, a hamper that another partition owns? -/
def State.windowMeets (s : State) (n : Nat) (w : Nat × Nat × Bool × Bool) : Bool :=
  (s.otherParts n).any (fun m => (s.windowsOf m).any (fun x =>
      overlaps w.1 w.2.1 x.1 x.2.1 && (w.2.2.2 || x.2.2.2)))
    || (w.2.2.2 && s.fab.hampers.any (fun e => decide (e.2.owner ≠ 0xFFFF ∧ e.2.owner ≠ n)
        && overlaps w.1 w.2.1 e.2.base (e.2.count * e.2.bytes)))

/-- The function of a partition is named by another one. -/
def State.fnTaken (s : State) (n : Nat) : Bool :=
  let f := s.nat OD.hostFunction n
  decide (f ≠ 0xFFFF) && s.parts.any (fun e => decide (e.1 ≠ n) && decide (e.2.state ≠ .absent)
    && decide (s.nat OD.hostFunction e.1 = f))

/-- The enable check of a partition (R335, Table 11-9): the first failing reason, 0 where it accepts. -/
def State.partReason (s : State) (n : Nat) : Nat :=
  let ws := s.windowsOf n
  firstFail [
    (decide (1023 < n), 0x0901),
    (decide (16384 < s.quotaSum OD.qpQuota n), 0x0902),
    (decide (16384 < s.quotaSum OD.msixQuota n), 0x0903),
    (decide (8192 < s.quotaSum OD.npQuota n), 0x0904),
    (s.fnTaken n, 0x0905),
    (ws.any (fun w => !windowPlaced w.1 w.2.1), 0x0906),
    (ws.any (s.windowMeets n), 0x0907)]

/-- A partition's values taken over. -/
def State.takePart (s : State) (n : Nat) : State :=
  (List.range 16).foldl (fun t k => t.take OD.windowReg (16 * n + k))
    (s.takeAll [OD.hostFunction, OD.qpQuota, OD.msixQuota, OD.npQuota] n)

/-- A write of PART_ENABLE (R335, Table 13-6).  TRUE from CONFIGURED runs the check; FALSE from ENABLED or PAUSED closes
the live impressions while the queue pairs keep their state; from any other state it is refused. -/
def enablePart (n v : Nat) (s : State) : Except Fail State :=
  let x := s.part n
  if v = 0 then
    if x.state = .enabled ∨ x.state = .paused then
      .ok ((s.setPart n { x with state := .configured, pauseNext := none, closing := !(s.impsOf n).isEmpty, closeAt := s.nowNs }).setFlag
        OD.partEnable n false)
    else .error (partFail OD.partEnable n 0x0909)
  else if x.state ≠ .configured then .error (partFail OD.partEnable n 0x0909)
  else if !s.enableMode then .error (partFail OD.partEnable n 0x0A01)
  else match s.partReason n with
    | 0 =>
      let t := ((s.takePart n).setFlag OD.partEnable n true).setFlag OD.partPause n false
      .ok (t.setPart n { x with state := if s.heldByTwin n then .paused else .enabled, pauseNext := none, closing := false })
    | r => .error (partFail OD.partEnable n r)

/-- PART_ENABLE (R335). -/
def execPartEnable (who : Requester) (n v : Nat) (s : State) : Out :=
  .next (s.actOn who OD.partEnable n (partAddr OD.partEnable n) v (enablePart n v))

/-- A write of PART_PAUSE (R378): from the next slot; a standby's partition that its twin holds PAUSED is not resumed. -/
def pausePart (n v : Nat) (s : State) : Except Fail State :=
  let x := s.part n
  if v = 1 ∧ x.state = .enabled ∨ v = 0 ∧ x.state = .paused ∧ s.heldByTwin n = false then
    .ok (((s.setPart n { x with pauseNext := some (decide (v = 1)) }).setNum OD.partPause n v).takeTie OD.partPause n)
  else .error (partFail OD.partPause n 0x0909)

/-- PART_PAUSE (R378). -/
def execPartPause (who : Requester) (n v : Nat) (s : State) : Out :=
  .next (s.actOn who OD.partPause n (partAddr OD.partPause n) v (pausePart n v))

/-! ## Reset (R339) -/

/-- The live impressions of a partition aborted. -/
def State.abortPart (s : State) (n : Nat) (counted : Bool) : State :=
  (s.impsOf n).foldl (State.abortImp · counted) s

/-- A write of PART_RESET (R339, R379): TRUE on an ENABLED, PAUSED or FAULTED partition, or on one whose impressions are
still closing; FALSE is outside the object's values. -/
def resetPart (n v : Nat) (s : State) : Except Fail State :=
  let x := s.part n
  if v = 0 then .error (partFail OD.partReset n 0x0D08)
  else if x.state = .enabled ∨ x.state = .paused ∨ x.state = .faulted
      ∨ x.state = .configured ∧ x.closing = true ∧ (s.impsOf n).isEmpty = false then
    let t := s.setPart n { x with state := .resetting, pauseNext := none, closing := false, resetAt := s.nowNs }
    let t := ((t.clear 0x0909 n (some n)).abortPart n true).qpsDown n
    let f := s.govN OD.hostFunction n
    let t := if f = 0xFFFF then t else t.orphan f
    .ok ((t.bump OD.resets n).raise 0x0908 n (some n))
  else .error (partFail OD.partReset n 0x0909)

/-- PART_RESET (R339). -/
def execPartReset (who : Requester) (n v : Nat) (s : State) : Out :=
  .next (s.actOn who OD.partReset n (partAddr OD.partReset n) v (resetPart n v))

/-- Every buffer of the hampers a partition owns is freed (R339 step 4). -/
def State.freePart (s : State) (n : Nat) : State :=
  ((s.fab.hampers.filter (fun e => decide (e.2.owner = n))).map (·.1)).foldl (fun t h => t.freeBufs (t.usedOf h)) s

/-- PART_RESET_COMPLETE (R339 steps 3–5): once no slug of the partition is abort-pending, the buffers are freed and it
is CONFIGURED, its configuration kept. -/
def execPartResetComplete (n : Nat) (s : State) : Out :=
  if (s.part n).state = .resetting ∧ (s.impsOf n).isEmpty then
    .next (((s.freePart n).setPart n { s.part n with state := .configured }).setFlag OD.partEnable n false)
  else .next s

/-- RESET_LIMIT_EXPIRY (R339): the reset has not finished within RESET_LIMIT. -/
def execResetLimitExpiry (n : Nat) (s : State) : Out :=
  if (s.part n).state = .resetting ∧ (s.part n).resetAt + s.nat OD.resetLimit n * 1000000 ≤ s.nowNs then
    .next ((s.setPart n { s.part n with state := .faulted }).raise 0x0909 n (some n))
  else .next s

/-- DISABLE_CLOSE_TIMEOUT (R378): impressions still live RESET_LIMIT after PART_ENABLE FALSE are aborted. -/
def execDisableCloseTimeout (n : Nat) (s : State) : Out :=
  let x := s.part n
  if x.state = .configured ∧ x.closing = true ∧ x.closeAt + s.nat OD.resetLimit n * 1000000 ≤ s.nowNs then
    .next ((s.setPart n { x with closing := false }).abortPart n false)
  else .next s

end Sys2Proof.Machine
end

