-- ==== Sys2Proof/Machine/Pins.lean ====
section
/-!
DEFINITION. Pins (R465–R471) and the hold of ALARM_N (R453).
-/

namespace Sys2Proof.Machine

open Sys2Proof

/-- The pins' state replaced. -/
def State.setPins (s : State) (p : PinSt) : State := { s with pins := p }

/-- A bank's state replaced. -/
def State.setPinBank (s : State) (b : Nat) (x : BankSt) : State :=
  s.setPins (if b = 0 then { s.pins with bankA := x } else { s.pins with bankB := x })

/-- Codes of BANK_STATE. -/
def BankSt.code : BankSt → Nat
  | .steady => 0
  | .changing => 1
  | .outOfRange => 2
  | .unpowered => 3

/-! ## GPIO (R466) -/

/-- A write of GPIO_CONFIG (R466, R471): the pin drives from the write of its output enable on.  A pin of 32 or above
takes SAFE_STATE 0 only and keeps its other fields 0. -/
def writeGpioConfig (p v : Nat) (s : State) : Except Fail State :=
  if 32 ≤ p then (if bits v 7 6 = 0 then .ok s else .error (OD.gpioConfig.fail 0x0C03))
  else if bits v 2 1 = 3 ∨ bits v 5 4 = 3 ∨ v / 256 ≠ 0 then .error (OD.gpioConfig.fail 0x0C03)
  else .ok ((s.setNum OD.gpioConfig p v).setPins { s.pins with driving := putN s.pins.driving p (bit v 0) })

/-- GPIO_CONFIG (R466). -/
def execGpioConfig (who : Requester) (v : Nat) (s : State) : Out :=
  .next (s.actSel who OD.gpioConfig v (fun p => writeGpioConfig p v))

/-- FRAME_STROBE_END (R471): the pulse of a frame strobe ends 1 µs after the frame boundary. -/
def execFrameStrobeEnd (pin : Nat) (s : State) : Out :=
  .next (if s.passed s.pins.strobeAt 1000 then s.setPins { s.pins with strobe := removeN s.pins.strobe pin } else s)

/-- A bit of GPIO_IN: what the pin drives; else the level outside, which is open; in a bank that is not steady the last value
sampled (R467). -/
def State.gpioBit (s : State) (p : Nat) : Bool :=
  if s.pinBank (p / 16) ≠ .steady then has s.pins.heldIn p
  else if s.gpioDrives p then s.gpioLevel p
  else decide (Config.unseen OD.gpioIn.code p s.time.run % 2 = 1)

/-! ## Output states (R465) -/

/-- A level as an output. -/
def levelOut (b : Bool) : PinOut := if b then .high else .low

/-- PPS_OUT0, PPS_OUT1, TOD_OUT and CLK10M_OUT, 0–3 (Table 17-6): high impedance without power and after a contention, low where they
may not run (R68–R70). -/
def State.timingOut (s : State) (k : Nat) : PinOut :=
  if s.mode.mode = .off ∨ s.pinTri (40 + k) = true then .highZ
  else if s.outputRuns k then
    (match k with | 2 => .driven | 3 => levelOut s.time.clk10m | _ => levelOut (has s.time.ppsHigh k))
  else .low

/-- PG_OUT (R427, Table 17-6). -/
def State.pgLevel (s : State) : PinOut :=
  if s.mode.mode = .off then .highZ
  else if s.mode.mode = .standby then .low else levelOut s.power.pgOut

/-- ALARM_N: low while asserted (R453), released without power and while RESET_N is low. -/
def State.alarmOut (s : State) : PinOut :=
  if s.mode.mode = .off ∨ s.mode.resetN = false then .highZ else if s.alarmPin then .low else .highZ

/-- FLASH_* and TDO (Table 17-6). -/
def State.flashOut (s : State) : PinOut := if s.mode.mode = .off ∨ s.mode.resetN = false then .highZ else .driven

/-- The state of an output, numbered as PIN_SELECT numbers pins (R465, R471): 0–31 GPIO, 32–39 RCO, 40–42 PPS_OUT0, PPS_OUT1 and
TOD_OUT; then 43 CLK10M_OUT, 44 PG_OUT, 45 ALARM_N, and 46 FLASH_* and TDO. -/
def State.output (s : State) (p : Nat) : PinOut :=
  if p < 32 then (if s.gpioDrives p then levelOut (s.gpioLevel p) else .highZ)
  else if p < 40 then (if s.rcoSinks (p - 32) then .low else .highZ)
  else if p < 44 then s.timingOut (p - 40)
  else if p = 44 then s.pgLevel
  else if p = 45 then s.alarmOut
  else s.flashOut

/-! ## Bank supplies (R467, R468) -/

/-- Is some pin of a bank in use: a FUNCTION other than 0, or the PEER_HEALTH input of an automatic takeover? -/
def State.pinBankUsed (s : State) (b : Nat) : Bool :=
  let t := s.nat OD.takeover
  (List.range 16).any (fun k => decide (bits (s.nat OD.gpioConfig (16 * b + k)) 5 4 ≠ 0))
    || (bit t 0 && decide (bits t 15 8 / 16 = b))

/-- A bank leaves its steady state: its outputs go to high impedance and its inputs hold their last samples. -/
def State.leaveSteady (s : State) (b : Nat) (x : BankSt) : State :=
  let kept := if s.pinBank b = .steady then
      s.pins.heldIn.filter (fun p => decide (p / 16 ≠ b)) ++ (List.range 32).filter (fun p => decide (p / 16 = b) && s.gpioBit p)
    else s.pins.heldIn
  (s.setPins { s.pins with heldIn := kept, bankAt := Tab.set s.pins.bankAt b s.nowNs }).setPinBank b x

/-- A write of BANK_VOLTAGE (R467): the banks it changes start changing, unless they are unpowered; one in use refuses. -/
def writeBankVoltage (v : Nat) (s : State) : Except Fail State :=
  let changed (b : Nat) : Bool := decide (bit v b ≠ bit (s.nat OD.bankVoltage) b)
  if 3 < v then .error (OD.bankVoltage.fail 0x0C03)
  else if (changed 0 && s.pinBankUsed 0) || (changed 1 && s.pinBankUsed 1) then .error (OD.bankVoltage.fail 0x0C02)
  else
    let go (t : State) (b : Nat) : State :=
      if changed b && decide (t.pinBank b ≠ .unpowered) then (t.leaveSteady b .changing).condition 0x0C03 b false else t
    .ok ((go (go s 0) 1).setNum OD.bankVoltage 0 v)

/-- BANK_VOLTAGE (R467). -/
def execBankVoltage (who : Requester) (v : Nat) (s : State) : Out :=
  .next (s.actOn who OD.bankVoltage 0 OD.bankVoltage.addr v (writeBankVoltage v))

/-- BANK_SETTLE (R467 step 3): the supply has stayed at the new level for 100 µs since the write. -/
def execBankSettle (bank : Nat) (s : State) : Out :=
  if bank < 2 ∧ s.pinBank bank = .changing ∧ s.passed (Tab.get 0 s.pins.bankAt bank) 100000 = true then .next (s.setPinBank bank .steady) else .next s

/-- BANK_SUPPLY_FAULT (R468): outside a change, BANK_STATE 2 and condition alarm 0x0C03. -/
def execBankSupplyFault (bank : Nat) (s : State) : Out :=
  if bank < 2 ∧ s.pinBank bank = .steady then .next ((s.leaveSteady bank .outOfRange).condition 0x0C03 bank true)
  else .next s

/-- BANK_SUPPLY_RETURN (R468). -/
def execBankSupplyReturn (bank : Nat) (s : State) : Out :=
  if bank < 2 ∧ s.pinBank bank = .outOfRange then .next ((s.setPinBank bank .steady).condition 0x0C03 bank false)
  else .next s

/-! ## Protection (R469, R470) -/

/-- RCO_SHORT (R469): an output has sunk for the blanking time of 2 µs and the 2 µs of the mismatch; its driver turns off, its fault
bit is set and alarm 0x0C01 raised. -/
def execRcoShort (rco : Nat) (s : State) : Out :=
  let due := match Tab.find s.pins.rcoSinkAt rco with | some a => s.passed a 4000 | none => true
  if rco < 8 ∧ s.rcoSinks rco = true ∧ due = true then
    .next ((s.setPins { s.pins with
      rcoOff := insertN s.pins.rcoOff rco, rcoOffAt := Tab.set s.pins.rcoOffAt rco s.nowNs
      rcoSinkAt := Tab.del s.pins.rcoSinkAt rco }).condition 0x0C01 rco true)
  else .next s

/-- RCO_RETRY (R469): 10 ms after the driver turned off, while the map lets it sink; a low readback ends the fault with the driver on,
else the driver turns off again at the end of the retry window of 20 µs. -/
def execRcoRetry (rco : Nat) (low : Bool) (s : State) : Out :=
  if has s.pins.rcoOff rco && s.rcoWants rco && s.passed (Tab.get 0 s.pins.rcoOffAt rco) 10000000 then
    let t := s.bump OD.rcoRetries
    .next (if low then
        (t.setPins { t.pins with
          rcoOff := removeN t.pins.rcoOff rco, rcoOffAt := Tab.del t.pins.rcoOffAt rco
          rcoSinkAt := Tab.set t.pins.rcoSinkAt rco t.nowNs }).condition 0x0C01 rco false
      else t.setPins { t.pins with rcoOffAt := Tab.set t.pins.rcoOffAt rco (t.nowNs + 20000) })
  else .next s

/-- Does a push-pull pin drive? -/
def State.pinDrives (s : State) (pin : Nat) : Bool :=
  if pin < 32 then s.gpioDrives pin else !s.pinTri pin && decide (s.mode.mode ≠ .off)

/-- PIN_CONTENTION (R470): four mismatching samples put the pin into high impedance. -/
def execPinContention (pin : Nat) (s : State) : Out :=
  match faultBit pin with
  | some b =>
    if s.pinDrives pin then
      let t := (s.setBits OD.pinFault 0 (2 ^ b)).bump OD.contentionEvents
      .next (t.condition 0x0C02 pin true)
    else .next s
  | none => .next s

/-- The pins with a bit in PIN_FAULT. -/
def faultPins : List Nat := List.range 32 ++ [40, 41, 42]

/-- Bits of PIN_FAULT cleared (R470): their pins drive again, and alarm 0x0C02 clears when no bit remains. -/
def clearPinFault (v : Nat) (s : State) : State :=
  let t := s.setNum OD.pinFault 0 ((s.nat OD.pinFault - (s.nat OD.pinFault &&& v) : Nat) : Int)
  if t.nat OD.pinFault = 0 then faultPins.foldl (fun t p => t.condition 0x0C02 p false) t else t

/-- PIN_FAULT_CLEAR (R470): a bit of `setNow`, which hardware sets in the same cycle, stays set (R14). -/
def execPinFaultClear (who : Requester) (v : Nat) (setNow : Nat) (s : State) : Out :=
  .next (s.actOn who OD.pinFault 0 OD.pinFault.addr v (fun t => .ok (clearPinFault (v - (v &&& setNow)) t)))

/-- ALARM_PIN_HOLD_EXPIRY (R453): 100 ms after the last event alarm ALARM_N follows the condition alarms alone. -/
def execAlarmPinHoldExpiry (s : State) : Out :=
  match s.alarms.pinHold with
  | some a => .next (if s.passed a 100000000 then { s with alarms := { s.alarms with pinHold := none } } else s)
  | none => .next s

end Sys2Proof.Machine
end

