-- ==== Sys2Proof/Machine/Resilience.lean ====
section
/-!
DEFINITION. Resilience and maintenance (chapter 16): diagnosis of units, lockstep pairs, the recovery pair and its
warden, the maintenance coordinator's commands, reserve drills and upgrades.
-/

namespace Sys2Proof.Machine

open Sys2Proof

/-- The resilience state replaced. -/
def State.setRes (s : State) (r : ResSt) : State := { s with res := r }

/-! ## Diagnosis (R436) -/

/-- A unit reset: its fence goes, and a core starts anew with its image, its registers zero (R115); local memory keeps
its contents, and with them its dirty bits and the partition of the previous dispatch (R134). -/
def State.resetUnit (s : State) (cls u : Nat) : State :=
  let t := s.setUnit cls u { s.unit cls u with fenced := false, held := none }
  let t := { t with edge := { t.edge with jobs := Tab.del t.edge.jobs (unitKey cls u) } }
  let t := if cls = 0 then
      let i := s.govN OD.coreImage u
      let pc := match s.slotImage i with | some m => BitVec.ofNat 64 m.entry | none => 0#64
      t.setCore u { image := i, pc := pc, cpen := BitVec.ofNat 64 (s.govN OD.cpenReset)
                    dirty := (s.core u).dirty, lastPart := (s.core u).lastPart }
    else t.emptyCache cls u
  t.freeFenced

/-- Bit 6 of DEGRADED_CAUSES (R23, R317): a retired unit of a class with reserve count 0, or a retired DMA engine. -/
def State.shedFault (s : State) : Bool :=
  [0, 2, 3, 4, 5, 6, 7, 8, 11].any (fun c => (decide (c = 11) || decide (s.govN OD.reserveCount c = 0))
    && (List.range (unitsOf c)).any (fun u => decide ((s.unit c u).state = .retired)))

/-- Does a returning unit join its class as a reserve?  The free compression unit is the reserve of its class (R435); a
control core of a lockstep pair waits for the next entry into RUN (R437). -/
def State.returnsReserve (s : State) (cls u : Nat) : Bool :=
  if hasReserve cls then decide ((s.reserves cls).length < s.govN OD.reserveCount cls)
  else if cls = 10 then (s.reserves 10).isEmpty
  else decide (cls = 1) && bit (s.govN OD.lockstepPairs) (u / 2)

/-- Returns of a unit in the last 24 h. -/
def State.recentReturns (s : State) (x : UnitSt) : List Nat := x.returns.filter (fun t => decide (s.runSec < t + 86400))

/-- A unit that passed returns to service (R436). -/
def State.returnUnit (s : State) (cls u : Nat) : State :=
  let x := s.unit cls u
  let t := s.setUnit cls u { x with
    state := if s.returnsReserve cls u then .reserve else .idle
    testing := none, cause := 0, aliasOf := none, withdrawn := false
    returns := s.runSec :: s.recentReturns x, idleSeq := s.galley.idleSeq }
  let t := { t with galley := { t.galley with idleSeq := s.galley.idleSeq + 1 } }
  let t := (t.bump OD.unitsReturned).raise 0x0A0D (unitNumber cls u)
  (t.setCause 0 t.reserveGap).setCause 6 t.shedFault

/-- The second record of a fault, once (R436). -/
def State.logSecond (s : State) (cls u cause outcome : Nat) : State :=
  if cause = 0 then s else s.logFault (unitNumber cls u) cause outcome

/-- A diagnosis ends: a retired unit returns or stays retired; a reserve that fails is retired with a record of cause 7
and outcome 2. -/
def State.diagEnd (s : State) (cls u : Nat) (pass : Bool) : State :=
  let x := s.unit cls u
  if x.state = .reserve then
    if pass then s.setUnit cls u { x with testing := none }
    else
      let t := s.setUnit cls u { x with state := .retired, fenced := true, testing := none, cause := 0 }
      let t := t.logFault (unitNumber cls u) 7 2
      t.setCause 0 t.reserveGap
  else
    let cause := x.cause
    if pass ∧ (s.recentReturns x).length < s.nat OD.returnLimit then (s.returnUnit cls u).logSecond cls u cause 1
    else (s.setUnit cls u { x with testing := none, cause := 0 }).logSecond cls u cause 2

/-- DIAG_START (R436): the recovery pair resets a retired unit and starts its self-test. -/
def execDiagStart (unit : Nat) (s : State) : Out :=
  match unitOfNumber unit with
  | some (cls, u) =>
    let x := s.unit cls u
    if s.res.recovery = .running ∧ x.state = .retired ∧ x.testing = none ∧ x.cause ≠ 0 then
      let t := s.resetUnit cls u
      .next (t.setUnit cls u { t.unit cls u with testing := some x.cause, testAt := s.nowNs })
    else .next s
  | none => .next s

/-- How long the self-test of a unit takes [ns] (R436): 2 ms for a VX core or control core, else 1 ms; for a DMA engine the spec gives
no time (DESIGN CHOICE: 1 ms). -/
def testNs (cls : Nat) : Nat := if cls < 2 then 2000000 else 1000000

/-- DIAG_COMPLETE (R436): once the self-test has taken its time; the result is kept in DIAG_RESULT. -/
def execDiagComplete (unit : Nat) (pass : Bool) (block : Nat) (s : State) : Out :=
  match unitOfNumber unit with
  | some (cls, u) =>
    if (s.unit cls u).testing = none ∨ s.passed (s.unit cls u).testAt (testNs cls) = false then .next s
    else .next ((s.diagEnd cls u pass).setNum OD.diagResult unit
      ((if pass then 3 else 1 + block % 256 * 256 : Nat) : Int))
  | none => .next s

/-- A write of DIAG_RUN (Table 16-11): a retired or reserve unit is tested; any other is refused. -/
def writeDiagRun (unit v : Nat) (s : State) : Except Fail State :=
  match unitOfNumber unit with
  | some (cls, u) =>
    let x := s.unit cls u
    if v = 0 then .ok s
    else if x.state = .retired then
      let t := s.resetUnit cls u
      .ok (t.setUnit cls u { t.unit cls u with testing := some x.cause, testAt := s.nowNs })
    else if x.state = .reserve then .ok (s.setUnit cls u { x with testing := some 7, testAt := s.nowNs })
    else .error (OD.diagRun.fail 0x0A01)
  | none => .error (OD.diagRun.fail 0x0A01)

/-- DIAG_RUN (R436). -/
def execDiagRun (who : Requester) (v : Nat) (s : State) : Out :=
  .next (s.actSel who OD.diagRun v (fun u => writeDiagRun u v))

/-! ## Lockstep pairs (R437) -/

/-- A halted copy runs on. -/
def State.resumeCc (s : State) (n : Nat) : State :=
  let x := s.unit 1 n
  s.setUnit 1 n { x with state := if x.held.isSome then .running else .idle }

/-- LOCKSTEP_MISMATCH (R437): both copies halt, MAJOR alarm 0x0A06. -/
def execLockstepMismatch (pair : Nat) (s : State) : Out :=
  if pair < 4 ∧ s.paired pair = true ∧ (s.unit 1 (2 * pair)).healthy = true ∧ (s.unit 1 (2 * pair + 1)).healthy = true then
    let t := (s.bump OD.lockstepMismatches).raise 0x0A06 pair
    let halt (t : State) (n : Nat) : State := t.setUnit 1 n { t.unit 1 n with state := .halted }
    let t := halt (halt t (2 * pair)) (2 * pair + 1)
    .next (t.setRes { t.res with pairTest := insertN t.res.pairTest pair, pairAt := Tab.set t.res.pairAt pair s.nowNs })
  else .next s

/-- CC(2k+1) goes on with what the pair ran as CC(2k). -/
def State.moveToOdd (s : State) (pair : Nat) : State :=
  let e := s.unit 1 (2 * pair)
  let t := s.setUnit 1 (2 * pair + 1) { s.unit 1 (2 * pair + 1) with
    held := e.held, since := e.since, start := e.start, aliasOf := some (2 * pair), idleSeq := e.idleSeq }
  let t := (t.setCc (2 * pair + 1) (s.cc (2 * pair))).setCc (2 * pair) {}
  match e.held with
  | some (h, _) => (match t.slug h with | some x => t.setSlug h { x with executor := 2 * pair + 1 } | none => t)
  | none => t

/-- A copy retired after a lockstep compare, covered by its survivor. -/
def State.retireCopy (s : State) (n : Nat) : State := (s.retire 1 n 4).noteFault (unitNumber 1 n) 4 0

/-- LOCKSTEP_TEST_DONE (R437): once the recovery pair has tested the copies for 50 µs, the pair resumes, paired or with its
survivor, or both copies are retired. -/
def execLockstepTestDone (pair : Nat) (passEven passOdd : Bool) (s : State) : Out :=
  if has s.res.pairTest pair && decide (s.res.recovery = .running) && s.passed (Tab.get 0 s.res.pairAt pair) 50000 then
    let even := 2 * pair
    let odd := 2 * pair + 1
    let s := s.setRes { s.res with pairTest := removeN s.res.pairTest pair, pairAt := Tab.del s.res.pairAt pair }
    let alone (t : State) : State := (t.setRes { t.res with unpaired := insertN t.res.unpaired pair }).setCause 7 true
    match passEven, passOdd with
    | true, true => .next ((s.resumeCc even).resumeCc odd)
    | true, false => .next (alone ((s.retireCopy odd).resumeCc even))
    | false, true => .next (alone (((s.moveToOdd pair).retireCopy even).resumeCc odd))
    | false, false =>
      let held := (s.unit 1 even).held
      let em := (s.cc even).emitted
      let t := s.setCc even { s.cc even with held := none, emitted := false }
      let t := t.retireAndPromote 1 odd 4
      .next ((t.unitFault 1 even held em 4).setRes { (t.unitFault 1 even held em 4).res with
        unpaired := insertN t.res.unpaired pair })
  else .next s

/-- CC_UNIT_FAULT (R437): a control core's fault outside a lockstep compare; both copies of a pair are retired. -/
def execCcUnitFault (cc : Nat) (watchdog : Bool) (s : State) : Out :=
  if cc < 8 then .next (s.anyFault 1 cc (s.unit 1 cc).held (watchdog || (s.cc cc).emitted) (if watchdog then 3 else 2))
  else .next s

/-! ## Recovery pair and warden (R439–R441) -/

/-- An attempt of a warden restart with an image: the pair held in reset, MAJOR alarm 0x0A07. -/
def State.wardenAttempt (s : State) (n : Nat) (i : Option Image) : State :=
  (s.setRes { s.res with recovery := .restarting, attempts := n, misses := 0, restartWith := i, attemptAt := s.nowNs }).raise 0x0A07

/-- A warden restart begins with the retained class 1 image. -/
def State.wardenRestart (s : State) (i : Option Image) : State := (s.bump OD.wardenRestarts).wardenAttempt 1 i

/-- The class 1 image retained. -/
def State.retained (s : State) : Option Image := Tab.find s.sec.running 1

/-- The entries of the spine fault queue logged by the restarted pair, with the times of their faults (R440). -/
def State.logSpine (s : State) : State :=
  let l := s.res.faultLog ++ s.res.spineQ
  s.setRes { s.res with spineQ := [], faultLog := l.drop (l.length - 64) }

/-- Does the ROM release the pair with an attempt's image (R439): the retained one agrees with element 1 of BOOT_MEASUREMENT, or it is
another verified one of an upgrade (R447, R448)? -/
def State.romPasses (s : State) : Bool :=
  match s.res.restartWith with
  | some i => decide (s.res.restartWith ≠ s.retained)
      || decide (leNat (((s.oct OD.bootMeasurement).drop 48).take 48) = i.digest.toNat)
  | none => true

/-- Has an attempt of a restart lasted 2 ms (R439)? -/
def State.attemptOver (s : State) : Bool := s.passed s.res.attemptAt 2000000

/-- HEARTBEAT (R439): the first one of an attempt, within 2 ms of it, ends the restart; queued faults are logged and the coordinator
resumes. -/
def execHeartbeat (s : State) : Out :=
  match s.res.recovery with
  | .off => .next s
  | .running => .next (s.setRes { s.res with misses := 0, beatAt := s.nowNs })
  | .restarting =>
    if s.attemptOver || !s.romPasses then .next s else
    let isNew := s.res.previous.isSome && decide (s.res.restartWith = Tab.find s.res.newImages 1)
    let t := s.setRes { s.res with
      recovery := .running, attempts := 0, misses := 0, restartWith := none, recoveryChanged := isNew, beatAt := s.nowNs }
    let t := match s.res.restartWith with
      | some i => ({ t with sec := { t.sec with running := Tab.set t.sec.running 1 i } }).measure 1 i
      | none => t
    .next t.logSpine.evaluate

/-- HEARTBEAT_MISS (R439): 100 µs have passed without a heartbeat; the third consecutive missed one starts a restart. -/
def execHeartbeatMiss (s : State) : Out :=
  if s.res.recovery = .running ∧ s.passed s.res.beatAt (100000 * (s.res.misses + 1)) = true then
    let t := s.setRes { s.res with misses := s.res.misses + 1 }
    .next (if 3 ≤ t.res.misses then t.wardenRestart t.retained else t)
  else .next s

/-- RECOVERY_MISMATCH (R439). -/
def execRecoveryMismatch (s : State) : Out :=
  if s.res.recovery = .running then .next (s.wardenRestart s.retained) else .next s

/-- WARDEN_RESTART_FAIL (R439, R447): no heartbeat within 2 ms; another attempt, with the previous image where the upgrade's was tried; after three
the pair stays off, CRITICAL alarm 0x0A08 and SAFE. -/
def execWardenRestartFail (s : State) : Out :=
  if s.res.recovery = .restarting ∧ s.attemptOver = true then
    if s.res.attempts < 3 then
      .next (s.wardenAttempt (s.res.attempts + 1) (match s.res.previous with | some i => some i | none => s.res.restartWith))
    else .next (((s.setRes { s.res with recovery := .off }).raise 0x0A08).enterSafe 2 0x0A08)
  else .next s

/-- WARDEN_VOTE (R441): the copy that disagrees is reloaded. -/
def execWardenVote (copy : Nat) (s : State) : Out :=
  if copy < 3 then
    .next (((s.setRes { s.res with wardenFix := Tab.put 0 s.res.wardenFix copy (Tab.get 0 s.res.wardenFix copy + 1) }).bump
      OD.wardenVotes).raise 0x0A09)
  else .next s

/-! ## Coordinator (R443) -/

/-- Instances of an activity (Table 16-3). -/
def actInstance (code inst : Nat) : Bool :=
  match code with
  | 0 => decide (inst < 15)
  | 1 => decide (inst < 64)
  | 2 => decide (inst < 28)
  | 3 => decide (inst = 0)
  | 4 => decide (inst = 0)
  | 5 => has drillRotation inst
  | 6 => decide (inst = 0)
  | _ => false

/-- MAINT_REQUEST (R443); an upgrade is requested through MODE_REQUEST. -/
def execMaintRequest (act inst : Nat) (s : State) : Out :=
  if actInstance act inst ∧ act ≠ 4 then .next (s.requestToken act inst) else .next s

/-- TOKEN_RETURN (R443). -/
def execTokenReturn (act inst : Nat) (s : State) : Out :=
  if s.holdsToken act inst then .next (s.returnToken act inst) else .next s

/-- WAIT_ALARM_EXPIRY (R443): WARNING alarm 0x0A0A for a request that has waited WAIT_ALARM. -/
def execWaitAlarmExpiry (act inst : Nat) (s : State) : Out :=
  let a : Act := ⟨act, inst⟩
  if s.res.queue.contains a ∧ s.passed (Tab.get 0 s.res.queuedAt a.key) (s.nat OD.waitAlarm * oneSecond) = true then
    .next (s.raise 0x0A0A)
  else .next s

/-- The rotation from a place on, once round. -/
def rotationFrom (k : Nat) : List Nat := (List.range 8).map (fun i => (k + i) % 8)

/-- DRILL_INTERVAL_EXPIRY (R444): DRILL_INTERVAL has passed, and a drill is requested for the next class of the rotation that holds a
reserve. -/
def execDrillIntervalExpiry (s : State) : Out :=
  if s.nat OD.drillInterval = 0 ∨ s.passed s.res.drillAt (s.nat OD.drillInterval * oneSecond) = false then .next s
  else
    let s := s.setRes { s.res with drillAt := s.nowNs }
    match (rotationFrom s.res.drillClass).find? (fun k => !(s.reserves (drillRotation.getD k 0)).isEmpty) with
    | none => .next s
    | some k => .next ((s.setRes { s.res with drillClass := (k + 1) % 8 }).requestToken 5 (drillRotation.getD k 0))

/-- A drill over: its token returned. -/
def State.drillOver (s : State) (cls : Nat) : State := (s.setRes { s.res with drill := none }).returnToken 5 cls

/-- DRILL_SWAP (R444): the idle unit and the reserve change places; the new reserve is tested, and one that fails is
retired with MAJOR alarm 0x0A0E. -/
def execDrillSwap (pass : Bool) (s : State) : Out :=
  match s.res.drill with
  | none => .next s
  | some (cls, u) =>
    let x := s.unit cls u
    match x.state, s.promotable cls with
    | .idle, r :: _ =>
      let y := s.unit cls r
      let t := s.setUnit cls r { y with state := .idle, aliasOf := some (x.aliasOf.getD u), idleSeq := s.galley.idleSeq }
      let t := (if cls = 0 then t.adoptImage r u else t).emptyCache cls r
      let t := t.setUnit cls u { x with state := .reserve, aliasOf := none }
      let t := t.setRes { t.res with drilled := Tab.put 0 t.res.drilled cls (u + 1), drillWatch := some (unitKey cls r) }
      let t := if pass then t else
        let t := ((t.retire cls u 6).noteFault (unitNumber cls u) 6 0).raise 0x0A0E (unitNumber cls u)
        t.setCause 0 t.reserveGap
      .next (t.drillOver cls)
    | .running, _ => .next s
    | _, _ => .next (s.drillOver cls)

/-! ## UPGRADE (R445–R448) -/

/-- A write of UPGRADE_IMAGE (R445): a class 1 or 2 image, verified. -/
def writeUpgradeImage (img : Image) (s : State) : Except Fail State :=
  if s.mode.mode ≠ .upgrade then .error (OD.upgradeImage.fail 0x0A01)
  else
    let cls := if img.cls = 2#8 then 2 else 1
    match s.verify cls img with
    | (0, t) => .ok (t.setRes { t.res with newImages := Tab.set t.res.newImages cls img })
    | (r, _) => .error (OD.upgradeImage.fail r)

/-- UPGRADE_IMAGE (R445); a refused image raises its alarm (R390). -/
def execUpgradeImage (who : Requester) (img : Image) (s : State) : Out :=
  let t := s.actOn who OD.upgradeImage 0 OD.upgradeImage.addr 0 (writeUpgradeImage img)
  let cls := if img.cls = 2#8 then 2 else 1
  .next (if t.reply.reason = 0x0B01 ∨ t.reply.reason = 0x0B02 then t.raise 0x0B07 cls else t)

/-- A write of UPGRADE_RECOVERY (R447): the recovery pair restarts with the verified class 1 image. -/
def writeUpgradeRecovery (v : Nat) (s : State) : Except Fail State :=
  if s.mode.mode ≠ .upgrade then .error (OD.upgradeRecovery.fail 0x0A01)
  else if v = 0 then .ok s
  else match Tab.find s.res.newImages 1 with
    | some i => .ok ((s.setRes { s.res with previous := (match s.res.previous with | some p => some p | none => s.retained) }).wardenRestart (some i))
    | none => .ok s

/-- UPGRADE_RECOVERY (R447). -/
def execUpgradeRecovery (who : Requester) (v : Nat) (s : State) : Out :=
  .next (s.actOn who OD.upgradeRecovery 0 OD.upgradeRecovery.addr v (writeUpgradeRecovery v))

/-- The upgrade ends: its token returned, INFO alarm 0x0A0C, and RUN or DEGRADED entered (row 13). -/
def State.upgradeEnd (s : State) : State :=
  let t := (s.enterMode s.runMode 0).raise 0x0A0C
  (t.setRes { t.res with newImages := [], previous := none, recoveryChanged := false }).returnToken 4 0

/-- A write of UPGRADE_COMMIT (R448). -/
def writeUpgradeCommit (v : Nat) (s : State) : Except Fail State :=
  if v = 0 then .ok s
  else if s.mode.mode ≠ .upgrade then .error (OD.upgradeCommit.fail 0x0A01)
  else .ok s.upgradeEnd

/-- UPGRADE_COMMIT (R448). -/
def execUpgradeCommit (who : Requester) (v : Nat) (s : State) : Out :=
  .next (s.actOn who OD.upgradeCommit 0 OD.upgradeCommit.addr v (writeUpgradeCommit v))

/-- Would some healthy active core accept a version, were every core to run the slot its CORE_IMAGE names? -/
def State.versionServed (s : State) (ver : Nat) : Bool :=
  (s.activeUnits 0).any (fun v =>
    match s.slotImage (s.nat OD.coreImage v) with | some i => bit i.fmtMask.toNat ver | none => false)

/-- Does an enabled forme carry only versions that some core would accept? -/
def State.formeServed (s : State) (x : FormeOn) : Bool :=
  (templates x.bytes).all (fun y => decide (y.cls ≠ 0) || s.versionServed y.fmtVer)

/-- Every forme whose versions no core accepts disabled; its live impressions run to close (R448). -/
def State.dropFormes (s : State) : State :=
  ((s.galley.formes.filter (fun e => !s.formeServed e.2)).map (·.1)).foldl (fun (t : State) f =>
    ({ t with galley := { t.galley with formes := Tab.del t.galley.formes f } }).setFlag OD.formeEnable f false) s

/-- Every core named its slot of ENTRY_IMAGES again (R448). -/
def State.entryCores (s : State) : State :=
  (List.range 96).foldl (fun t v => t.setNum OD.coreImage v (Tab.get 0 s.res.entryImages v : Nat)) s

/-- A write of UPGRADE_ABANDON (R448): never refused in UPGRADE. -/
def writeUpgradeAbandon (v : Nat) (s : State) : Except Fail State :=
  if v = 0 then .ok s
  else if s.mode.mode ≠ .upgrade then .error (OD.upgradeAbandon.fail 0x0A01)
  else
    let t := s.entryCores.dropFormes
    let t := if s.res.recoveryChanged then t.wardenRestart s.res.previous else t
    .ok t.upgradeEnd

/-- UPGRADE_ABANDON (R448). -/
def execUpgradeAbandon (who : Requester) (v : Nat) (s : State) : Out :=
  .next (s.actOn who OD.upgradeAbandon 0 OD.upgradeAbandon.addr v (writeUpgradeAbandon v))

/-- UPGRADE_LIMIT_EXPIRY (R448): the upgrade has lasted longer than UPGRADE_LIMIT and continues. -/
def execUpgradeLimitExpiry (s : State) : Out :=
  if s.mode.mode = .upgrade ∧ s.passed s.res.upgradeAt (s.nat OD.upgradeLimit * oneSecond) = true then .next (s.raise 0x0A0B)
  else .next s

/-- A write of CORE_IMAGE (R140, R446): in UPGRADE refused where it would leave a slug of an enabled forme with a version
no healthy active core accepts. -/
def writeCoreImage (core v : Nat) (s : State) : Except Fail State :=
  let t := s.setNum OD.coreImage core v
  if s.mode.mode = .upgrade ∧ t.galley.formes.all (fun e => t.formeServed e.2) = false then
    .error (OD.coreImage.fail 0x0A06)
  else .ok (t.takeTie OD.coreImage core)

/-- CORE_IMAGE (R446). -/
def execCoreImage (who : Requester) (v : Nat) (s : State) : Out :=
  .next (s.actSel who OD.coreImage v (fun c => writeCoreImage c v))

end Sys2Proof.Machine
end

