-- ==== Sys2Proof/Machine/Security.lean ====
section
/-!
DEFINITION. Fuses, authenticated debug, and memory regions with their re-key (chapter 14).
-/

namespace Sys2Proof.Machine

open Sys2Proof

/-! ## Fuses (R387, R388, R392) -/

/-- The object of a fuse item. -/
def fuseObj : FuseItem → Obj
  | .sigPolicy => OD.sigPolicy
  | .keyRevoke => OD.keyRevoke
  | .rollback => OD.rollbackCounter
  | .debugForbid => OD.debugForbid

/-- The blown value of an item; `k` is the image class of a rollback counter. -/
def SecSt.fuseVal (x : SecSt) : FuseItem → Nat → Nat
  | .sigPolicy, _ => x.sigPolicy.toNat
  | .keyRevoke, _ => x.keyRevoke.toNat
  | .rollback, k => x.level k
  | .debugForbid, _ => x.debugForbid.toNat

/-- An item with a value blown. -/
def SecSt.blow (x : SecSt) : FuseItem → Nat → Nat → SecSt
  | .sigPolicy, _, v => { x with sigPolicy := BitVec.ofNat 2 v }
  | .keyRevoke, _, v => { x with keyRevoke := BitVec.ofNat 8 v }
  | .rollback, k, v => { x with rollback := Tab.put 0 x.rollback k v }
  | .debugForbid, _, v => { x with debugForbid := BitVec.ofNat 4 v }

/-- Key-slot bits that the signatures of an image use. -/
def slotBits (i : Image) : Nat :=
  (if i.sigPresent.getLsbD 0 then 2 ^ i.ecdsaSlot.toNat else 0) + (if i.sigPresent.getLsbD 1 then 2 ^ (4 + i.mldsaSlot.toNat) else 0)

/-- Key slots of the running recovery-pair and control-core images. -/
def SecSt.slotsInUse (x : SecSt) : Nat :=
  (x.running.filter (fun e => decide (e.1 = 1 ∨ e.1 = 2))).foldl (fun m e => m ||| slotBits e.2) 0

/-- Does a value clear a blown bit, or lower a counter? -/
def clearsFuse (item : FuseItem) (old v : Nat) : Bool :=
  match item with
  | .rollback => decide (v < old)
  | _ => decide (old &&& v ≠ old)

/-- The highest value a class's counter may take (R392): the ROLLBACK of the running image, or of every image
slot that a core names. -/
def State.rollbackLimit (s : State) (k : Nat) : Nat :=
  if k = 3 then
    (List.range 96).foldl (fun m v =>
      match (Tab.get {} s.vx.slots (s.nat OD.coreImage v) : ImageSlot).img with
      | some i => min m i.rollback
      | none => m) 64
  else if k = 0 then match Tab.find s.sec.running 0 with | some i => i.rollback | none => Config.romRollback
  else match Tab.find s.sec.running k with | some i => i.rollback | none => 0

/-- The reason a fuse write is refused with, 0 where it goes on. -/
def State.fuseReason (s : State) (item : FuseItem) (k v : Nat) : Nat :=
  let old := s.sec.fuseVal item k
  firstFail [
    (clearsFuse item old v, 0x0B04),
    (decide (item = .keyRevoke) && decide (v &&& s.sec.slotsInUse &&& (255 - old) ≠ 0), 0x0B04),
    (decide (item = .rollback) && decide (s.rollbackLimit k < v), 0x0B02)]

/-- Every bit of the write under way is blown and read back: its reply is sent, INFO alarm 0x0B08. -/
def State.fuseDone (s : State) : State :=
  match s.sec.fuse with
  | some (item, k, v) => (({ s with sec := { s.sec.blow item k v with fuse := none } }).raise 0x0B08).answer 0
  | none => s

/-- A write of a fuse object starts blowing its bits; the write before it in the serial order has ended by
then. -/
def writeFuse (item : FuseItem) (k v : Nat) (s : State) : Except Fail State :=
  let t := s.fuseDone
  match t.fuseReason item k v with
  | 0 => .ok { t with sec := { t.sec with fuse := some (item, k, v) } }
  | r => .error ((fuseObj item).fail r)

/-- The reply of a request whose outcome comes later. -/
def State.interimIf (s : State) (b : Bool) : State := if b then { s with reply := { interim := true } } else s

/-- FUSE_WRITE (R388): the reply is sent when the bits have been blown. -/
def execFuseWrite (who : Requester) (item : FuseItem) (v : Nat) (s : State) : Out :=
  let t := s.actSel who (fuseObj item) v (fun k => writeFuse item k v)
  .next (t.interimIf (t.sec.fuse.isSome && decide (t.reply.reason = 0)))

/-- Power is lost during a fuse write (R388): any of its bits may have been blown and no others; which is a free
value. -/
def State.fuseCut (s : State) : State :=
  match s.sec.fuse with
  | none => s
  | some (item, k, v) =>
    let (i, t) := s.draw
    let old := s.sec.fuseVal item k
    let n := match item with
      | .rollback => old + Config.free i % (v - old + 1)
      | _ => old ||| (v &&& Config.free i)
    { t with sec := { t.sec.blow item k n with fuse := none } }

/-! ## Debug (R395, R396) -/

/-- The debug session replaced. -/
def State.setDebug (s : State) (d : Debug) : State := { s with sec := { s.sec with dbg := d } }

/-- Every grant withdrawn and the challenge dropped (R396). -/
def State.debugEnd (s : State) : State := s.setDebug { s.sec.dbg with mask := none, nonce := none, granted := 0#4 }

/-- DBG_REQUEST (R395). -/
def execDbgRequest (mask : BitVec 4) (s : State) : Out := .next (s.setDebug { s.sec.dbg with mask := some mask.toNat })

/-- DBG_CHALLENGE (R395): SERIAL, a fresh nonce, the mask and a prefix signed by the identity key, 96 bytes; none
during a lockout.  A new challenge ends the session (R396). -/
def execDbgChallenge (s : State) : Out :=
  let d := s.sec.dbg
  if d.lockout then .next s
  else
    let i := s.freeCtr
    let t := { s with freeCtr := i + 2 }
    let nonce := Config.free i % 2 ^ 256
    let serial := Config.fusedOctets OD.serial.code 0
    let bytes := (serial ++ leBytes 16 0).take 16 ++ leBytes 32 nonce ++ leBytes 1 (d.mask.getD 0) ++ leBytes 47 (Config.free (i + 1))
    .next ((t.setDebug { d with nonce := some nonce, chalMask := d.mask.getD 0, granted := 0#4 }).answerData bytes)

/-- Is a debug response valid: a signature for each algorithm that SIG_POLICY requires, each under the key of its fused slot?
One that the policy does not require must verify too where it is there (DEDUCED from R390). -/
def SecSt.answerOk (x : SecSt) (r : DbgAnswer) : Bool :=
  (!x.sigPolicy.getLsbD 0 || r.ecdsa) && (!x.sigPolicy.getLsbD 1 || r.mldsa)
    && (!r.ecdsa || (r.ecdsaKeyMatches && r.ecdsaVerifies)) && (!r.mldsa || (r.mldsaKeyMatches && r.mldsaVerifies))

/-- DBG_RESPONSE (R395, R396): a challenge that stands is answered once; the mask of the challenge is granted without the bits of
DEBUG_FORBID.  An invalid response grants nothing and is counted, and the third in a row locks the challenge out. -/
def execDbgResponse (r : DbgAnswer) (s : State) : Out :=
  let d := s.sec.dbg
  if s.sec.answerOk r && d.nonce.isSome then
    let g := BitVec.ofNat 4 d.chalMask &&& ~~~s.sec.debugForbid
    .next ((s.setDebug { d with granted := g, nonce := none, failRun := 0, status := 0 }).raise 0x0B06)
  else
    let n := d.failRun + 1
    let t := s.setDebug { d with nonce := none, status := 0x0B03, failRun := n, lockout := d.lockout || decide (3 ≤ n),
                                      lockAt := if d.lockout = false ∧ 3 ≤ n then s.nowNs else d.lockAt }
    .next ((t.bump OD.debugFailures).raise 0x0B05)

/-- DEBUG_LOCKOUT_END (R395): 60 s after the lockout began; the run of failures starts anew (DEDUCED). -/
def execDebugLockoutEnd (s : State) : Out :=
  .next (if s.sec.dbg.lockout && decide (s.sec.dbg.lockAt + 60 * oneSecond ≤ s.nowNs)
    then s.setDebug { s.sec.dbg with lockout := false, failRun := 0 } else s)

/-- TAP_RESET (R396). -/
def execTapReset (s : State) : Out := .next s.debugEnd

/-- A core halted or resumed by run control. -/
def State.runControl (s : State) (kindVx : Bool) (n : Nat) (halt : Bool) : State :=
  if kindVx then
    if halt || decide ((s.unit 0 n).state ≠ .retired) then s.setCore n { s.core n with halted := halt } else s
  else s.setDebug { s.sec.dbg with ccHalted := putN s.sec.dbg.ccHalted n halt }

/-- JTAG_INSTRUCTION (R395): BYPASS and IDCODE need no permission; without its permission every other instruction
has no effect. -/
def execJtagInstruction (ins : JtagIns) (s : State) : Out :=
  let g := s.sec.dbg.granted
  match ins with
  | .bypass => .next s
  | .idcode => .next (s.answerData (leBytes 4 Config.idcode.toNat))
  | .boundaryScan => .next (if g.getLsbD 0 then s.answer 0 else s)
  | .haltCore vx n => .next (if g.getLsbD 1 then s.runControl vx n true else s)
  | .resumeCore vx n => .next (if g.getLsbD 1 then s.runControl vx n false else s)
  | .memory p => .next (if g.getLsbD 2 then s.route { p with kind := .debug, peer := false } else s)
  | .haltRecovery => .next (if g.getLsbD 3 then s.setDebug { s.sec.dbg with haltedRecovery := true } else s)
  | .resumeRecovery => .next (if g.getLsbD 3 then s.setDebug { s.sec.dbg with haltedRecovery := false } else s)

/-! ## Regions (R383, R397, R403) -/

/-- Bytes of HBM and of the usable slot store. -/
def hbmSize : Nat := 0xC00000000
def slotBase : Nat := 0x1000000000
def slotSize : Nat := 0xB800000

/-- Which memory holds `n` bytes from `a` whole: 1 HBM, 2 the usable slot store. -/
def regionMemory (a n : Nat) : Option Nat :=
  if a + n ≤ hbmSize then some 1
  else if slotBase ≤ a ∧ a + n ≤ slotBase + slotSize then some 2 else none

/-- A region as its held objects describe it. -/
def State.regionOf (s : State) (k : Nat) : Region :=
  { base := s.nat OD.regionBase k, pages := s.nat OD.regionSize k, isProtected := decide (s.nat OD.regionMode k ≠ 0)
    metaBase := s.nat OD.metadataBase k }

/-- Enabled regions other than `k`. -/
def State.otherRegions (s : State) (k : Nat) : List Region :=
  (s.sec.regions.filter (fun e => decide (e.1 ≠ k ∧ e.2.state ≠ .disabled))).map (·.2)

/-- Does a metadata area overlap a region, a window or a hamper (R397)? -/
def State.metaMeets (s : State) (k : Nat) (r : Region) : Bool :=
  overlaps r.metaBase r.metaSize r.base r.size
    || (s.otherRegions k).any (fun q => overlaps r.metaBase r.metaSize q.base q.size || overlaps r.metaBase r.metaSize q.metaBase q.metaSize)
    || s.fab.hampers.any (fun e => overlaps r.metaBase r.metaSize e.2.base (e.2.count * e.2.bytes))
    || s.parts.any (fun e => (List.range 16).any (fun w =>
        let x := s.window e.1 w
        bit x 62 && overlaps r.metaBase r.metaSize (bits x 35 0 * 4096) (bits x 59 36 * 4096)))

/-- The enable check of a region (R383, with the conditions of R397 under 0x0807 and 0x0808). -/
def State.regionReason (s : State) (k : Nat) : Nat :=
  let r := s.regionOf k
  let others := s.otherRegions k
  let total := (others.map (fun q => if q.isProtected then q.pages else 0)).sum + (if r.isProtected then r.pages else 0)
  firstFail [
    (decide (r.base % 4096 ≠ 0) || (regionMemory r.base r.size).isNone
      || (r.isProtected && (decide (r.metaBase % 4096 ≠ 0)
          || decide (regionMemory r.metaBase r.metaSize ≠ regionMemory r.base r.size))), 0x0807),
    (others.any (fun q => overlaps r.base r.size q.base q.size || overlaps r.base r.size q.metaBase q.metaSize)
      || (r.isProtected && s.metaMeets k r), 0x0808),
    (decide (64 < others.length + 1), 0x0805),
    (decide (65536 < total), 0x0806)]

/-- A region enabled: its key is drawn and its initialisation starts (R398, R403). -/
def State.regionOn (s : State) (k : Nat) : State :=
  let (i, t) := s.draw
  let t := t.takeAll [OD.regionBase, OD.regionSize, OD.regionMode, OD.metadataBase] k
  (t.setRegion k { s.regionOf k with state := .initialising, key := some (drawnKey i) }).setFlag OD.regionEnable k true

/-- A write of REGION_ENABLE (R403): TRUE on a region that is enabled changes nothing; a disable is never
refused, destroys the keys and zero-fills the range and its metadata. -/
def enableRegion (k v : Nat) (s : State) : Except Fail State :=
  let r := s.region k
  if v = 0 then
    if r.state = .disabled then .ok s
    else
      let m := Memory.zero (Memory.zero s.mem r.base r.size) r.metaBase r.metaSize
      let t := State.unpoison (State.unpoison { s with mem := m } r.base r.size) r.metaBase r.metaSize
      .ok ((((t.setRegion k {}).setFlag OD.regionEnable k false).dropRekey k).clear 0x0B04 k)
  else if r.state ≠ .disabled then .ok s
  else if !s.enableMode then .error (OD.regionEnable.fail 0x0A01)
  else match s.regionReason k with
    | 0 => .ok (s.regionOn k)
    | e => .error (OD.regionEnable.fail e)

/-- REGION_ENABLE (R403): the reply is sent when the region is ACTIVE. -/
def execRegionEnable (who : Requester) (s : State) : Out :=
  let k := s.itemOf who OD.regionEnable OD.regionEnable.addr
  let t := s.actSel who OD.regionEnable 1 (fun k => enableRegion k 1)
  .next (t.interimIf (decide ((s.region k).state = .disabled ∧ (t.region k).state = .initialising)))

/-- REGION_DISABLE (R403). -/
def execRegionDisable (who : Requester) (s : State) : Out :=
  .next (s.actSel who OD.regionEnable 0 (fun k => enableRegion k 0))

/-! ## Re-key (R404–R406) -/

/-- A write of REKEY_NOW (R404, R405): refused on a confidentiality-only region; on one that is not enabled, or that is
QUARANTINED, it changes nothing (DESIGN CHOICE). -/
def writeRekeyNow (k v : Nat) (s : State) : Except Fail State :=
  let r := s.region k
  let prot := if r.state = .disabled then decide (s.nat OD.regionMode k ≠ 0) else r.isProtected
  if !prot then .error (OD.rekeyNow.fail 0x0D08)
  else if v = 1 ∧ r.state ≠ .disabled ∧ r.state ≠ .quarantined then .ok (s.requestToken 1 k) else .ok s

/-- REKEY_NOW (R405). -/
def execRekeyNow (who : Requester) (v : Nat) (s : State) : Out := .next (s.actSel who OD.rekeyNow v (fun k => writeRekeyNow k v))

/-- A block re-encrypted: its line counters are 0 and its version rises; at its largest value it starts anew
under the new key (UNVERIFIED, the spec gives no value past 2²⁴ − 1). -/
def Region.rekeyed (r : Region) (b : Nat) : Region :=
  let v := Tab.get 0 r.version b
  { r with
    lineCtr := r.lineCtr.filter (fun e => decide (e.1 / 16 ≠ b))
    blockGen := Tab.put 1 r.blockGen b r.generation
    version := Tab.put 0 r.version b (if counterMax ≤ v then 0 else v + 1) }

/-- The writes a region holds, performed where no counter stands at its limit any more (R406). -/
def State.releaseHeld (s : State) (k : Nat) : State :=
  let ps := (s.region k).held
  ps.foldl (fun t p =>
      let r := t.region k
      if r.atLimit p.addr p.data.length then t.setRegion k { r with held := r.held ++ [p] }
      else t.writeAt (accOf p) p.addr p.data) (s.setRegion k { s.region k with held := [] })

/-- The block in work written back under the new generation, its lines resealed with the new key; `poisoned` where its check
failed.  A version that reaches REKEY_THRESHOLD asks for the next re-key (R405). -/
def State.writeBack (s : State) (k b : Nat) (poisoned : Bool) : State :=
  let r := s.region k
  let ls := (List.range 16).map (16 * b + ·)
  let q := ls.foldl s.sealLine (r.rekeyed b)
  let t := s.setRegion k { q with work := none }
  let t := if poisoned then { t with fab := { t.fab with poison := (ls.map (r.base / 64 + ·)).foldl insertN t.fab.poison } } else t
  let t := if r.topVersion < t.nat OD.rekeyThreshold ∧ t.nat OD.rekeyThreshold ≤ q.topVersion then t.requestToken 1 k else t
  t.releaseHeld k

/-- Step 1 on the next block; after the last one the previous key is destroyed and the token returned. -/
def State.rekeyOn (s : State) (k : Nat) : State :=
  let r := s.region k
  match r.nextWork with
  | some w => s.setRegion k { r with work := some w, workAt := s.nowNs }
  | none =>
    let t := s.setRegion k { r with state := .active, prevKey := none, work := none }
    ((t.bump OD.rekeys k).raise 0x0B09 k).returnToken 1 k

/-- REKEY_BLOCK (R405, R406): under the region's token, at REKEY_RATE, the block read at step 1 is written back, or repeated where a
requester wrote it meanwhile. -/
def execRekeyBlock (region : Nat) (s : State) : Out :=
  let r := s.region region
  if r.state ≠ .rekeying ∨ s.holdsToken 1 region = false then .next s
  else match r.work with
    | none => .next (s.rekeyOn region)
    | some (b, v) =>
      if s.nowNs < r.workAt + 1024000 / s.nat OD.rekeyRate then .next s
      else if Tab.get 0 r.version b ≠ v then
        .next (s.setRegion region { r with work := some (b, Tab.get 0 r.version b), workAt := s.nowNs })
      else match s.badLine r ((List.range 16).map (16 * b + ·)) with
        | none => .next ((s.writeBack region b false).rekeyOn region)
        | some l =>
          let t := s.checkFailed region l
          .next (if (t.region region).state = .rekeying then (t.writeBack region b true).rekeyOn region else t)

end Sys2Proof.Machine
end

