-- ==== Sys2Proof/Machine/Boot.lean ====
section
/-!
DEFINITION. What STANDBY and BOOT do to the state (R371, R374, R379, R426): values reloaded from the dictionary store, the
data path reset, the timebase in STANDBY (R52), the work of the boot stages and stored values applied.
-/

namespace Sys2Proof.Machine

open Sys2Proof

/-! ## The dictionary store (R351) -/

/-- Is the object of a key stored (R350)? -/
def keyStored (k : Nat) : Bool :=
  match findObj ⟨keyIdx k, keyCode k % 256⟩ with
  | .ok o => o.stored
  | .error _ => false

/-- Objects the device writes and keeps itself: LOCKED_RATE (R351), STORE_SEQUENCE, what the straps gave (R461), GPIO_OUT
(R466). -/
def keyHeld (k : Nat) : Bool :=
  [0x30001B, 0x11000F, 0x110010, 0x20000F, 0xD0000D, 0xD00003].contains (keyCode k)

/-- PIN_FAULT, which stays latched until it is cleared (R470). -/
def keyFault (k : Nat) : Bool := decide (keyCode k = 0xD00008)

/-- A table whose entries that `keep` names stay and whose other stored values come from the store. -/
def mergeStore {α : Type} (keep : Nat → Bool) (t store : Tab α) : Tab α :=
  (store.filter (fun e => !keep e.1)).foldl (fun a e => Tab.set a e.1 e.2) (t.filter (fun e => keep e.1))

/-- Values reloaded from the store but for the keys that `keep` names; the values in force of the management paths are
those loaded, and FRAME_OFFSET keeps its own until the next entry into RUN (R71). -/
def State.reload (s : State) (keep : Nat → Bool) : State :=
  let kp (k : Nat) : Bool := keep k || keyHeld k
  let val := mergeStore kp s.dict.val s.dict.storeA
  let oct := mergeStore kp s.dict.oct s.dict.storeOct
  let early (k : Nat) : Bool := keep k || decide (keyCode k = 0x320001)
  let mp (k : Nat) : Bool := decide (keyIdx k = 0x1100) && !early k
  let t := { s with dict := { s.dict with
    val := val, oct := oct
    force := mergeStore early s.dict.force (val.filter (fun e => mp e.1))
    octForce := mergeStore early s.dict.octForce (oct.filter (fun e => mp e.1)) } }
  { t with pot := { t.pot with mpOn := [0, 1, 2].filter (fun p => t.flag OD.mpEnable p) } }

/-! ## Reset of the data path -/

/-- Condition alarms whose condition lies in the data path end with it; those of VIN, temperature, OSC_IN and the servo
go on by themselves, and faults of outputs stay latched (R469, R470). -/
def State.endConditions (s : State) : State :=
  let goes (i : Nat) : Bool := isCondition i && !List.contains [0x0103, 0x0106, 0x0201, 0x0203, 0x0204, 0x0205, 0x0C01, 0x0C02] i
  let ps := (s.alarms.entries.filter (fun e => e.active && goes e.ident)).map (fun e => (e.ident, e.inst))
    ++ s.alarms.foldedOn.filter (fun e => goes e.1)
  ps.foldl (fun t e => t.clear e.1 e.2) s

/-- A partition that was being reset is CONFIGURED at the next BOOT (R379); the states of the others follow their stored
values in stage 7. -/
def resetParts (t : Tab Part) : Tab Part :=
  (t.filter (fun e => decide (e.2.state = .resetting))).map (fun e => (e.1, { state := .configured }))

/-- Every domain and the spine without power or reset (R18, R418): what they held is lost; the fault log, the fault and
return times of units, fuses, measurements of Basecamp and levels at the pins stay. -/
def State.pathReset (s : State) : State :=
  let units := (s.galley.units.map (fun e => (e.1, ({ returns := e.2.returns, faults := e.2.faults } : UnitSt)))).filter
    (fun e => decide (e.2 ≠ ({} : UnitSt)))
  let p := s.power
  let t := { s with
    galley := { units := units }, vx := {}, edge := {}, front := {}, mogil := { peerHealthy := s.mogil.peerHealthy }
    mem := [], fab := {}, host := {}, pins := { rcoOff := s.pins.rcoOff, rcoOffAt := s.pins.rcoOffAt }, parts := resetParts s.parts
    sec := { s.sec with regions := [], running := s.sec.running.filter (fun e => decide (e.1 = 0)) }
    res := { faultLog := s.res.faultLog }
    power := { vinCap := p.vinCap, vinWin := p.vinWin, capWin := p.capWin, thermalCap := p.thermalCap
               phasesLost := p.phasesLost, energyUj := p.energyUj, excluded := p.excluded, tj := p.tj, hbmTemp := p.hbmTemp } }
  let t := { t with alarms := { t.alarms with fifo := [], dropRun := none } }
  let t := t.setTime { t.time with stampQ := [], ptp := [], ppsHigh := [], slotAt := [], subAt := none, ptmOn := false, ptmReq := none, ptmAt := none,
                                   ptmOffsets := [], ptmGood := 0, stepWanted := false, target := none, stepDone := false, clk10m := false }
  let t := (t.setNum OD.degradedCauses 0 0).setNum OD.throttleLevel 0 0
  (((t.setNum OD.withdrawn 0 0).setNum OD.powerNow 0 0).capsNow.debugEnd).endConditions

/-! ## The timebase without references (R52, R422) -/

/-- Every reference is lost: a servo that was LOCKED goes into HOLDOVER (R51, R52), any other into FREERUN, as never locked
since (R41). -/
def State.dropRefs (s : State) : State :=
  let t := s.setTime { s.time with
    qualified := [], freqSel := none, freqOff := none, waiting := none, waitingFreq := none, ppsRun := []
    disqAt := (List.range 8).map (fun k => (k, s.nowNs)) }
  if s.time.servo = .locked then t.losePhase
  else
    let t := t.setTime { t.time with phaseSel := none, buildOut := 0, everLocked := false }
    (t.setServo .freerun).freeRate.noteSelected

/-- The timebase on entry into STANDBY: it runs on at the holdover rate, or restarts at zero where HOLD_IN_STANDBY is
FALSE, or stops where OSC_IN is lost.  Within STANDBY it stays as it is. -/
def State.standbyTime (s : State) : State :=
  if s.mode.mode = .standby then s
  else
    let t := s.dropRefs
    if !s.flag OD.holdInStandby then
      let t := (t.setServo .freerun).freeRate
      t.setTime { t.time with tb := 0, air := airOf 0 (t.gov OD.frameOffset), stopped := true, everLocked := false }
    else if s.time.oscLost then
      let t := (t.setServo .freerun).freeRate
      t.setTime { t.time with stopped := true, everLocked := false }
    else t

/-! ## Basecamp (R391) -/

/-- On entry into STANDBY the ROM verifies the Basecamp image in flash, and starts it where it passes and is no older than the
image built into the ROM; otherwise it starts the built-in one. -/
def State.startBasecamp (s : State) : State :=
  let builtIn (t : State) : State := { t with sec := { t.sec with running := Tab.del t.sec.running 0 } }
  match Config.flash 0 0 with
  | none => builtIn s
  | some i =>
    match s.verify 0 i with
    | (0, t) =>
      if Config.romVersion ≤ i.version then { t with sec := { t.sec with running := Tab.set t.sec.running 0 i } } else builtIn t
    | (_, t) => builtIn t

/-! ## STANDBY -/

/-- Entry into STANDBY by row 4 or 17 of Table 13-2: the data path off, the values of every index but those served in
STANDBY (R353) as they are stored. -/
def State.enterStandby (s : State) (cause : Nat) : State :=
  let t := (s.abortAll.stopPath).pinsLow
  let t := (t.pathReset.reload (fun k => servedEarly (keyIdx k) || keyFault k)).standbyTime
  let t := { t with mode := { t.mode with safeCauses := [], hostImages := [] } }
  ((t.startBasecamp).setNum OD.bootStage 0 0).enterMode .standby cause

/-- A transition without a drain towards a mode is under way (R373). -/
def State.towards (s : State) (m : Mode) : State := { s with mode := { s.mode with target := some m } }

/-- Row 5 of Table 13-2: with RESET_N high and AUTO_BOOT TRUE the device leaves STANDBY, unless a thermal shutdown holds
it (R425). -/
def State.autoBoot (s : State) : State :=
  if s.mode.mode = .standby ∧ s.mode.resetN = true ∧ s.mode.thermalHold = false ∧ s.flag OD.autoBoot = true
      ∧ s.mode.target = none then s.towards .boot
  else s

/-- The straps sampled as the Basecamp controller leaves reset (R461). -/
def State.sampleStraps (s : State) (straps : BitVec 4) : State :=
  let n := straps.toNat
  ((s.setNum OD.straps 0 (n : Nat)).setNum OD.bootSource 0 (n / 8 : Nat)).setNum OD.smbusAddress 0 (0x58 + n % 8 : Nat)

/-! ## BOOT (R374) -/

/-- Entry into BOOT: stage 1 starts, and fails at once where OSC_IN is absent (R39). -/
def State.enterBoot (s : State) : State :=
  let t := s.pathReset
  let t := if s.mode.mode = .standby then t else
    (t.reload (fun k => servedEarly (keyIdx k) && !keyStored k || keyFault k)).dropRefs
  let t := (t.setTime { t.time with stopped := false }).freeRate
  let t := { t with mode := { t.mode with safeCauses := t.mode.safeCauses.filter (fun c => decide (c = 0)),
                                          thermalHold := false, hostImages := [] }
                    power := { t.power with energyUj := 0 } }
  let t := (t.setNum OD.energy 0 0).setNum OD.tjNow 0 (unsigned 16 t.power.tj * 65537 : Nat)
  let t := ((t.setNum OD.bootStage 0 1).setNum OD.bootResult 0 0).enterMode .boot 0
  if t.time.oscLost then t.bootFail 0x0201 else t

/-- The image stage 3 or 4 starts: the one the host wrote, or the one in flash. -/
def State.stageImage (s : State) (cls : Nat) : Option Image :=
  if s.hostBoot then Tab.find s.mode.hostImages cls else Config.flash cls 0

/-- An image of class 1 or 2 started and measured (R391). -/
def State.startImage (s : State) (cls : Nat) : State :=
  match s.stageImage cls with
  | some i => ({ s with sec := { s.sec with running := Tab.set s.sec.running cls i } }).measure cls i
  | none => s

/-- Stage 1: the rails of the I/O die rise, PG_OUT follows (R427) and the GPIO banks are powered (Table 17-6). -/
def State.stageOne (s : State) : State :=
  let t := s.setPower { s.power with railsOn := [2, 3, 4, 8, 9, 10], pgOut := true }
  t.setPins { t.pins with bankA := .steady, bankB := .steady }

/-- Stage 5: one VX image slot filled from flash and verified; one that fails reads IMAGE_STATE 3 with its reason. -/
def State.slotFromFlash (s : State) (k : Nat) : State :=
  match Config.flash 3 k with
  | none => s
  | some i => ({ s with vx := { s.vx with slots := Tab.put {} s.vx.slots k ⟨some i⟩ } }).verifySlot k i

/-- A unit that failed the self-test of stage 6 is retired; a compression unit leaves its lane pair to the free one. -/
def State.failUnit (s : State) (n : Nat) : State :=
  match unitOfNumber n with
  | some (cls, u) =>
    let t := s.setUnit cls u { s.unit cls u with state := .retired, fenced := true }
    if cls = 10 ∧ (s.unit 10 11).state = .reserve ∧ u ≠ 11 then
      let t := t.setUnit 10 11 { s.unit 10 11 with state := .idle }
      { t with edge := { t.edge with cuPair := Tab.set (Tab.set t.edge.cuPair 11 u) u 12 } }
    else t
  | none => s

/-- Stage 6: every domain powered, every unit fresh, the failed ones retired; the Mogil groups are LOCKED_OFF while not in use and the
spare bank sleeps (R418, R419).  Front units, lane quads, PCIe, crypto engines and telemetry count as in use (DESIGN CHOICE). -/
def State.stageSix (s : State) (failed : List Nat) : State :=
  let doms : Tab Domain := (List.range 212).map (fun d =>
    (d, { state := if d = 131 then .sleep else if 192 ≤ d ∧ d < 196 then .lockedOff else .on, usedAt := s.nowNs }))
  let t := { s with fab := { s.fab with domains := doms }, galley := { s.galley with unitsOn := true } }
  let t := t.setPower { t.power with railsOn := [0, 1, 2, 3, 4, 5, 6, 7, 8, 9, 10] }
  let t := ([0, 1].foldl (fun (t : State) r => let (i, t) := t.draw
    t.setNum OD.railVoltage r (550 + 5 * (Config.free i % 61) : Nat)) t)
  let t := t.setUnit 10 11 { t.unit 10 11 with state := .reserve }
  failed.foldl State.failUnit t

/-- A class without a healthy unit after stage 6. -/
def State.classDead (s : State) : Bool := (List.range 12).any (fun c => (s.healthyUnits c).isEmpty)

/-! ## Stage 7: stored values applied -/

/-- Items of a flag object that are TRUE. -/
def State.itemsTrue (s : State) (o : Obj) : List Nat := (s.itemsOf o).filter (fun i => s.flag o i)

/-- Partitions a written value names (Table 13-6). -/
def State.partsNamed (s : State) : List Nat :=
  let own (e : Nat × Int) : Option Nat :=
    let item := keyItem e.1
    if keyIdx e.1 = 0xA400 then some (if keyCode e.1 = 0xA4000A then item / 16 else item)
    else if keyCode e.1 = OD.cellPartition.code then some e.2.toNat
    else if keyCode e.1 = OD.hamperOwner.code ∧ e.2 ≠ 0xFFFF then some e.2.toNat
    else if keyCode e.1 = OD.qpOwner.code ∧ bit e.2.toNat 31 = true then some (bits e.2.toNat 9 0)
    else none
  let images := (s.itemsOf OD.formeImage).map s.formePart
  (images ++ s.dict.val.filterMap own).foldl insertN []

/-- A partition as its stored values make it: CONFIGURED, or ENABLED or PAUSED where PART_ENABLE is TRUE and no reset was
ended by STANDBY (R379). -/
def State.bootPart (s : State) (n : Nat) : State :=
  if s.flag OD.partEnable n then
    if (s.part n).state = .configured then s.setFlag OD.partEnable n false
    else (s.takePart n).setPart n { state := if s.flag OD.partPause n || s.heldByTwin n then .paused else .enabled }
  else s.setPart n { s.part n with state := .configured }

/-- A core started with the image its CORE_IMAGE names, where that slot is valid. -/
def State.startCore (s : State) (v : Nat) : State :=
  let k := s.govN OD.coreImage v
  match s.slotImage k with
  | some i => s.setCore v { image := k, pc := BitVec.ofNat 64 i.entry, cpen := BitVec.ofNat 64 (s.govN OD.cpenReset) }
  | none => s

/-- Objects that take effect at a slot or an impression: in force from stage 7 on. -/
def slotObjs : List Obj :=
  [OD.period, OD.pressLead, OD.slotFormes, OD.rxWindow, OD.txWindow, OD.rxShift, OD.fallbackCfg, OD.fallbackSlots,
   OD.shapingCfg, OD.dlWidths, OD.channelMap, OD.coreImage, OD.allocWait, OD.pivotMin, OD.ldOffset, OD.tdExtScale,
   OD.collectWait, OD.changeMask, OD.targetRms, OD.peakLimit, OD.attackMax, OD.decayStep, OD.rampUp, OD.dlMask,
   OD.rampDown, OD.rcoMap, OD.threshold, OD.triggerLevel, OD.occasionFreeze, OD.partPause, OD.maxLive]

/-- Stage 7 (R374): stored values in force, enabled items on, GPIO outputs driving (R466), cores started. -/
def State.applyStored (s : State) : State :=
  let each (o : Obj) (f : State → Nat → State) (t : State) : State := (t.itemsTrue o).foldl f t
  let t := slotObjs.foldl (State.takeIf (fun _ => true)) s
  let t := each OD.portEnable State.portOn t
  let t := t.partsNamed.foldl State.bootPart t
  let t := each OD.hamperEnable State.hamperOn t
  let t := each OD.flowEnable State.flowOn t
  let t := each OD.mogilEnable (fun t _ => t.mogilOn) t
  let t := each OD.cellEnable State.cellOn t
  let t := each OD.formeEnable State.formeOn t
  let t := each OD.groupEnable State.groupOn t
  let t := each OD.rampEnable State.rampOn t
  let t := each OD.contextEnable State.contextOn t
  let t := each OD.regionEnable State.regionOn t
  let t := each OD.qpEnable State.qpOn t
  let t := t.setPins { t.pins with driving := (List.range 32).filter (fun p => bit (t.nat OD.gpioConfig p) 0) }
  (List.range 96).foldl State.startCore t

end Sys2Proof.Machine
end

