-- ==== Sys2Proof/Machine/DeviceEnable.lean ====
section
/-!
DEFINITION. The device enable (R382, Table 13-7) and what entering RUN does (row 8 of Table 13-2, R21, R71, R434).
-/

namespace Sys2Proof.Machine

open Sys2Proof

/-- A failing test of the device enable: its reason and detail word; none where the test passes. -/
abbrev Test := Option (Nat × Nat)

/-- A test that names no item. -/
def plainTest (bad : Bool) (reason : Nat) : Test := if bad then some (reason, 0xFFFFFFFF) else none

/-- The detail word of an item (R382): its number, with the index of its select object in [31:16]. -/
def detailOf (idx item : Nat) : Nat := idx * 65536 + item

/-- The first of a list of items that fails its check. -/
def itemTest (idx : Nat) (items : List Nat) (reason : Nat → Nat) : Test :=
  (items.find? (fun n => decide (reason n ≠ 0))).map (fun n => (reason n, detailOf idx n))

/-! ## Table 13-7 -/

/-- Step 3: VIN, and the manager's estimate against the effective cap (R411). -/
def State.powerTest (s : State) (obs : EnableObs) : Test :=
  (plainTest (decide (s.nat OD.vinNow < 450)) 0x0101).or (plainTest (decide (s.effCap < obs.estimateW * 10)) 0x0102)

/-- Step 4: the images the recovery pair and the control cores run, by the fuses as they are now. -/
def State.bootImageTest (s : State) : Test :=
  let reason (cls : Nat) : Nat := match Tab.find s.sec.running cls with | some i => s.sec.imageReason cls i | none => 0x0B01
  (plainTest (decide (reason 1 ≠ 0)) (reason 1)).or (plainTest (decide (reason 2 ≠ 0)) (reason 2))

/-- Classes with reserves (Table 01-4) and the largest count of each (R21). -/
def reserveClasses : List Nat := [0, 2, 3, 4, 5, 6, 7, 8]
def maxReserve (cls : Nat) : Nat := if cls = 0 then 16 else 1

/-- Step 6: a reserve count within its range and not above the healthy units of its class less one. -/
def State.reserveReason (s : State) (cls : Nat) : Nat :=
  let n := s.nat OD.reserveCount cls
  if maxReserve cls < n ∨ (s.healthyUnits cls).length < n + 1 then 0x0A05 else 0

/-- Step 7: a reference entry that names a port or lane that is not enabled, whether the entry is enabled or not (R46). -/
def State.referenceTest (s : State) (k : Nat) : Test :=
  let v := s.nat OD.reference k
  let n := refInst v
  if refType v = 1 then
    if n = 255 ∨ n < 24 ∧ has s.front.portsOn n = true ∨ (n = 24 ∨ n = 25) ∧ has s.pot.mpOn (n - 24) = true then none
    else some (0x0205, if n = 24 ∨ n = 25 then detailOf 0x1100 (n - 24) else detailOf 0x4100 n)
  else if refType v = 3 then
    match s.portOfLane n with
    | some p => if has s.front.portsOn p then none else some (0x0205, detailOf 0x4000 n)
    | none => some (0x0205, detailOf 0x4000 n)
  else none

/-- Step 7: the PTP domain is outside the range of the profile (R53). -/
def State.domainBad (s : State) : Bool :=
  let d := s.nat OD.ptpDomain
  if s.nat OD.ptpProfile = 2 then decide (d < 44 ∨ 63 < d) else decide (d < 24 ∨ 43 < d)

/-- Step 8: antenna streams of a direction by the written values. -/
def State.streamsWritten (s : State) (down : Bool) : Nat :=
  ((s.front.flowsOn.filter (fun f => decide (bit (s.nat OD.flowMatch f) 5 = down))).map
    (fun f => Config.cellMhz (bits (s.nat OD.flowMap f) 9 0))).sum

/-- The sum of a quota over the enabled partitions. -/
def State.quotaTotal (s : State) (o : Obj) : Nat :=
  ((s.parts.filter (fun e => e.2.state.holds)).map (fun e => s.nat o e.1)).sum

/-- Step 8: ceilings of the device. -/
def State.ceilingTest (s : State) : Test :=
  [(decide (1024 < s.galley.cellsOn.length), 0x0207), (decide (16384 < s.quotaTotal OD.qpQuota), 0x0902),
   (decide (16384 < s.quotaTotal OD.msixQuota), 0x0903), (decide (8192 < s.quotaTotal OD.npQuota), 0x0904),
   (decide (51200 < s.streamsWritten true) || decide (51200 < s.streamsWritten false), 0x0301)].findSome?
    (fun e => plainTest e.1 e.2)

/-- Partitions, regions and hampers that are enabled. -/
def State.partsOn (s : State) : List Nat := (s.parts.filter (fun e => e.2.state.holds)).map (·.1)
def State.regionsOn (s : State) : List Nat := (s.sec.regions.filter (fun e => decide (e.2.state ≠ .disabled))).map (·.1)

/-- Step 9: the check of every enabled item again, in ascending index order. -/
def State.itemTests (s : State) : Test :=
  (itemTest 0x4100 s.front.portsOn s.portReason).or <|
  (itemTest 0x4140 s.front.flowsOn s.flowReason).or <|
  (itemTest 0x5000 (if s.mogil.on then [0] else []) (fun _ => s.mogilReason)).or <|
  (itemTest 0x6010 s.galley.cellsOn s.cellReason).or <|
  (itemTest 0x6100 (s.galley.formes.map (·.1)) s.formeReason).or <|
  (itemTest 0x6200 (s.fab.hampers.map (·.1)) s.hamperReason).or <|
  (itemTest 0x8220 s.edge.groupsOn s.groupReason).or <|
  (itemTest 0x8280 s.edge.ctxOn s.contextReason).or <|
  (itemTest 0x9100 s.regionsOn s.regionReason).or
  (itemTest 0xA400 s.partsOn s.partReason)

/-- Step 10: PEER_HEALTH names a GPIO that has another function or drives (R471); a bank that changes or is out of range
(R468). -/
def State.pinTest (s : State) : Test :=
  let p := bits (s.nat OD.takeover) 15 8
  let c := s.nat OD.gpioConfig p
  let off (b : BankSt) : Bool := decide (b = .changing) || decide (b = .outOfRange)
  if p < 32 ∧ (bits c 5 4 ≠ 0 ∨ bit c 0 = true) then some (0x0C01, detailOf 0xD000 p)
  else plainTest (off s.pins.bankA || off s.pins.bankB) 0x0C02

/-- Step 11: a TWIN_ROLE without a link, or automatic takeover without a peer-health input. -/
def State.twinTest (s : State) : Test :=
  let t := s.nat OD.takeover
  plainTest ((decide (s.nat OD.twinRole ≠ 0) && !s.mogil.on) || (bit t 0 && decide (bits t 15 8 = 255))) 0x0403

/-- The trace ring is outside HBM or meets a hamper, a window or a region (R455). -/
def State.traceTest (s : State) : Test :=
  let b := s.nat OD.traceBase
  let n := s.nat OD.traceSize * 1048576
  plainTest (decide (b % 4096 ≠ 0) || decide (0xC00000000 < b + n)
    || s.fab.hampers.any (fun e => overlaps b n e.2.base (e.2.count * e.2.bytes))
    || s.partsOn.any (fun m => (s.windowsOf m).any (fun w => overlaps b n w.1 w.2.1))
    || s.regionsOn.any (fun k => overlaps b n (s.region k).base (s.region k).size)) 0x0A07

/-- The device enable check: the first failing test of Table 13-7, none where it is accepted. -/
def State.enableTest (s : State) (obs : EnableObs) : Test :=
  (plainTest (decide (s.mode.mode ≠ .configure)) 0x0A01).or <|
  (plainTest (s.time.oscLost || !obs.oscActive) 0x0201).or <|
  (plainTest (!obs.oscWithin1pct) 0x0202).or <|
  (s.powerTest obs).or <|
  s.bootImageTest.or <|
  (itemTest 0x7000 (List.range 96) (fun v => if s.nat OD.imageState (s.nat OD.coreImage v) = 2 then 0 else 0x0604)).or <|
  (itemTest 0xB000 reserveClasses s.reserveReason).or <|
  ((List.range 8).findSome? s.referenceTest).or <|
  (plainTest s.domainBad 0x0206).or <|
  s.ceilingTest.or <|
  s.itemTests.or <|
  s.pinTest.or <|
  s.twinTest.or
  s.traceTest

/-! ## Entering RUN -/

/-- The order in which VX reserves are chosen (R434). -/
def vxReserveOrder : List Nat := [7, 15, 23, 31, 55, 63, 71, 79, 39, 47, 87, 95, 6, 14, 54, 62]

/-- The reserves of a class: the first healthy cores of the order for VX, the highest-numbered healthy unit for an engine
class, up to the reserve count (R434). -/
def State.reservePicks (s : State) (cls : Nat) : List Nat :=
  let h := s.healthyUnits cls
  (if cls = 0 then vxReserveOrder.filter (fun u => has h u) else h.reverse).take (s.govN OD.reserveCount cls)

/-- Reserves chosen for a class. -/
def State.chooseReserves (s : State) (cls : Nat) : State :=
  let picks := s.reservePicks cls
  (s.healthyUnits cls).foldl (fun t u =>
    let x := t.unit cls u
    if has picks u then t.setUnit cls u { x with state := .reserve, aliasOf := none }
    else if x.state = .reserve then t.setUnit cls u { x with state := .idle } else t) s

/-- Control-core pairs formed anew (R437): a pair of LOCKSTEP_PAIRS with a retired copy runs unpaired, and a control core
that waited to join a pair is idle. -/
def State.formPairs (s : State) : State :=
  let broken := (List.range 4).filter (fun k =>
    bit (s.govN OD.lockstepPairs) k && !((s.unit 1 (2 * k)).healthy && (s.unit 1 (2 * k + 1)).healthy))
  let t := s.setRes { s.res with unpaired := broken }
  let t := (List.range 8).foldl (fun t n =>
    let x := t.unit 1 n
    if x.state = .reserve then t.setUnit 1 n { x with state := .idle } else t) t
  t.setCause 7 (broken.any (fun k => (s.unit 1 (2 * k)).healthy || (s.unit 1 (2 * k + 1)).healthy))

/-- Does an item hold a written value that is not in force? -/
def State.pendingAt (s : State) (os : List Obj) (item : Nat) : Bool :=
  os.any (fun o => decide (s.num o item ≠ s.gov o item) || decide (s.oct o item ≠ s.govOct o item))

/-- Objects of a flow and of a radio entry that take effect at an enable. -/
def flowObjs : List Obj := [OD.flowMatch, OD.flowMap, OD.peerAddress]
def radioObjs : List Obj := [OD.nsEnable, OD.nsVersions, OD.radioProfile, OD.groupRb, OD.noiseSource, OD.probeCfg]

/-- Values that enabled items hold for their enable taken over (R381). -/
def State.takeItems (s : State) : State :=
  let t := s.front.portsOn.foldl State.portOn s
  let t := (t.front.flowsOn.filter (fun f => t.pendingAt flowObjs f)).foldl State.flowOn t
  let radios := (t.front.flowsOn.map (fun f => t.flowMapN f 17 10)).foldl insertN []
  let t := (radios.filter (fun r => t.pendingAt radioObjs r)).foldl State.radioOn t
  let t := if t.mogil.on then t.mogilOn else t
  let t := t.galley.cellsOn.foldl State.cellOn t
  let t := (t.fab.hampers.map (·.1)).foldl State.hamperOn t
  let t := t.edge.groupsOn.foldl State.groupOn t
  let t := t.edge.ctxOn.foldl State.contextOn t
  let t := t.partsOn.foldl State.takePart t
  [24, 25].foldl (fun t p => if has t.pot.mpOn (p - 24) then t.takePtp p else t) t

/-- Objects that take effect on RUN. -/
def runObjs : List Obj :=
  [OD.oscFrequency, OD.ptpProfile, OD.ptpDomain, OD.timeCore, OD.frameOffset, OD.lmsplit, OD.cpenReset, OD.reserveCount,
   OD.lockstepPairs, OD.traceBase, OD.traceSize]

/-- Row 8 of Table 13-2: on-RUN values and those of enabled items in force, air time moved by a smaller frame offset (R71),
reserves and pairs chosen, cores on the images they name, alarm 0x0A03 for every reserve count of 0 (R23), RUN entered or
DEGRADED. -/
def State.enterRun (s : State) : State :=
  let t := (runObjs.foldl (State.takeIf (fun _ => true)) s).takeItems
  let t := t.advanceAir t.airFormula
  let t := (reserveClasses.foldl State.chooseReserves t).formPairs
  let t := (List.range 96).foldl (fun t v =>
    if (t.core v).image ≠ t.nat OD.coreImage v ∨ (t.core v).pc = 0#64 then (t.take OD.coreImage v).startCore v else t) t
  let t := reserveClasses.foldl (fun t c => t.condition 0x0A03 c (decide (t.govN OD.reserveCount c = 0))) t
  let t := (t.setCause 0 t.reserveGap).setCause 6 t.shedFault
  (t.enterMode t.runMode 0).settleRcos

end Sys2Proof.Machine
end

