-- ==== Sys2Proof/Machine/Modes.lean ====
section
/-!
DEFINITION. Device modes (R369–R377): power, RESET_N and thermal events, mode requests, the device enable, drains and the
stages of BOOT.
-/

namespace Sys2Proof.Machine

open Sys2Proof

/-- A mode state replaced. -/
def State.setMode (s : State) (m : ModeSt) : State := { s with mode := m }

/-! ## Rows 1–4 of Table 13-2 -/

/-- What OFF keeps: the dictionary store, fuses, the fault log and what the device itself stored; and the levels at the
pins. -/
def State.lost (s : State) : State :=
  let sec := s.fuseCut.sec
  { State.reset with
    pending := s.pending, freeCtr := s.fuseCut.freeCtr
    mode := { mode := s.mode.mode, resetN := s.mode.resetN }
    dict := { val := s.dict.val.filter (fun e => decide (keyCode e.1 = 0x30001B ∨ keyCode e.1 = 0x11000F))
              storeA := s.dict.storeA, storeOct := s.dict.storeOct }
    time := { oscLost := s.time.oscLost }
    mogil := { peerHealthy := s.mogil.peerHealthy }
    sec := { sigPolicy := sec.sigPolicy, keyRevoke := sec.keyRevoke, rollback := sec.rollback, debugForbid := sec.debugForbid }
    res := { faultLog := s.res.faultLog } }

/-- VIN_RISE (row 1): above 4.3 V Basecamp starts, samples the straps and loads the dictionary; STANDBY. -/
def execVinRise (cv : Nat) (straps : BitVec 4) (s : State) : Out :=
  if s.mode.mode = .off ∧ 430 < cv then
    let t := (s.reload (fun _ => false)).sampleStraps straps
    let t := (t.setPower { t.power with
      vinCap := vinCapOf cv, vinWin := [(s.nowNs, cv)], capWin := [(s.nowNs, vinCapOf cv)] }).setNum OD.vinNow 0 (min 65535 cv : Nat)
    let t := t.setTime { t.time with stopped := t.time.oscLost }
    .next ((t.capsNow.startBasecamp.enterMode .standby 0).autoBoot)
  else .next s

/-- VIN_FALL (row 2, R428): OFF, all state lost. -/
def execVinFall (s : State) : Out :=
  if s.mode.mode = .off then .next s else .next (s.lost.setMode { s.lost.mode with mode := .off })

/-- RESET_N_ASSERT (row 3): Basecamp restarts from ROM, sessions close, outputs are released; stored values and holdover
are kept. -/
def execResetNAssert (straps : BitVec 4) (s : State) : Out :=
  let s := s.setMode { s.mode with resetN := false }
  if s.mode.mode = .off then .next s
  else
    let t := (s.fuseCut.abortAll.stopPath).pinsLow
    let t := { t.pathReset with alarms := {}, pot := {}, pins := {} }
    let t := { t with dict := { t.dict with selects := [], storing := none }, reply := {} }
    let t := (t.reload (fun _ => false)).sampleStraps straps
    let t := t.standbyTime.startBasecamp
    let t := t.setMode { t.mode with safeCauses := [], hostImages := [], target := none, draining := false }
    .next (if s.mode.mode = .standby then t else t.enterMode .standby 0)

/-- RESET_N_RELEASE (row 5). -/
def execResetNRelease (s : State) : Out := .next (s.setMode { s.mode with resetN := true }).autoBoot

/-- THERMAL_SHUTDOWN (row 4, R425): CRITICAL alarm 0x0101 and STANDBY, held until MODE_REQUEST 2. -/
def execThermalShutdown (s : State) : Out :=
  if s.mode.mode = .off then .next s
  else
    let t := s.raise 0x0101
    let t := if s.mode.mode = .standby then t.setMode { t.mode with target := none } else t.enterStandby 0x0101
    .next (t.setMode { t.mode with thermalHold := true })

/-! ## Requests (R372, R373) -/

/-- A SAFE cause stands (R376): one that has not been cleared, or the loss of OSC_IN. -/
def State.safeStands (s : State) : Bool := !s.mode.safeCauses.isEmpty || s.time.oscLost

/-- The reason a mode request is refused with, 0 where Table 13-2 allows it. -/
def State.requestReason (s : State) (code : Nat) : Nat :=
  let m := s.mode.mode
  let allowed := match code with
    | 1 => decide (m = .configure) || m.runs || decide (m = .safe)
    | 2 => decide (m = .standby) || decide (m = .configure) || decide (m = .safe)
    | 3 => decide (m = .safe)
    | 6 => decide (m = .run) || decide (m = .degraded)
    | _ => decide (m = .configure) || m.runs
  firstFail [
    (!List.contains [1, 2, 3, 6, 7] code, 0x0A03),
    (s.inTransition, 0x0A02),
    (decide (code = 6) && decide (m = .upgrade), 0x0A06),
    (!allowed, 0x0A01),
    (decide (code = 3) && s.safeStands, 0x0A04),
    (decide (code = 6) && s.res.upgradeWaiting, 0x0A06),
    (decide (code = 6) && !s.flag OD.activityEnable 4, 0x0A01)]

/-- A drain begins (R375): no cell presses at any boundary from now on. -/
def State.startDrain (s : State) (m : Mode) : State :=
  s.setMode { s.mode with target := some m, draining := true, drainAt := s.nowNs }

/-- A write of MODE_REQUEST. -/
def writeModeRequest (code : Nat) (s : State) : Except Fail State :=
  match s.requestReason code with
  | 0 =>
    if code = 1 then .ok (if s.mode.mode.runs then s.startDrain .standby else s.towards .standby)
    else if code = 2 then .ok ((s.setMode { s.mode with thermalHold := false }).towards .boot)
    else if code = 3 then .ok (s.towards .configure)
    else if code = 6 then .ok ((s.setRes { s.res with upgradeWaiting := true }).requestToken 4 0)
    else .ok (s.enterSafe 4 0)
  | r => .error (OD.modeRequest.fail r)

/-- MODE_REQUEST (R372). -/
def execModeRequest (who : Requester) (code : Nat) (s : State) : Out :=
  .next (s.actOn who OD.modeRequest 0 OD.modeRequest.addr code (writeModeRequest code))

/-- MODE_TRANSITION_COMPLETE (rows 5, 16, 17 and 18): a transition without a drain ends. -/
def execModeTransitionComplete (s : State) : Out :=
  if s.mode.draining then .next s
  else match s.mode.target with
    | some .boot => .next s.enterBoot
    | some .standby => .next (s.enterStandby 0)
    | some m => .next (s.enterMode m 0)
    | none => .next s

/-! ## Device enable (R382) and drain (R375) -/

/-- The result of a device enable recorded. -/
def State.noteEnable (s : State) (reason detail : Nat) : State :=
  (s.setNum OD.lastEnableReason 0 reason).setNum OD.lastEnableDetail 0 detail

/-- The device enable requested: its reply and the state after it. -/
def State.deviceOn (s : State) (obs : EnableObs) : Option Fail × State :=
  if s.inTransition then (some (OD.deviceEnable.fail 0x0A02), s)
  else match s.enableTest obs with
    | some (r, d) => (some (OD.deviceEnable.fail r d), s.noteEnable r d)
    | none => (none, (s.setFlag OD.deviceEnable 0 true).enterRun.noteEnable 0 0)

/-- DEVICE_ENABLE (R382); the reason and detail of a refusal are also recorded. -/
def execDeviceEnable (who : Requester) (obs : EnableObs) (s : State) : Out :=
  match s.accessReason who OD.deviceEnable 0 OD.deviceEnable.addr true with
  | 0 =>
    match s.deviceOn obs with
    | (none, t) => .next (t.answer 0)
    | (some f, t) => .next (t.refuse f)
  | r => .next (s.refuse (OD.deviceEnable.fail r))

/-- A write of DEVICE_ENABLE FALSE: a drain in RUN and DEGRADED (row 9); refused in UPGRADE, no effect in the other
modes. -/
def deviceOff (s : State) : Except Fail State :=
  if s.inTransition then .error (OD.deviceEnable.fail 0x0A02)
  else if s.mode.mode = .upgrade then .error (OD.deviceEnable.fail 0x0A01)
  else
    let t := s.setFlag OD.deviceEnable 0 false
    .ok (if s.mode.mode.runs then t.startDrain .configure else t)

/-- DEVICE_DISABLE (R375). -/
def execDeviceDisable (who : Requester) (s : State) : Out :=
  .next (s.actOn who OD.deviceEnable 0 OD.deviceEnable.addr 0 deviceOff)

/-- Is a drain over (R375): every impression has closed, or STOP_DRAIN has passed? -/
def State.drained (s : State) : Bool :=
  s.galley.imps.isEmpty || decide (s.mode.drainAt + s.nat OD.stopDrain * 1000000 ≤ s.nowNs)

/-- DRAIN_END (R375): impressions still live after STOP_DRAIN are aborted, the path stops and the new mode is entered. -/
def execDrainEnd (s : State) : Out :=
  if s.mode.draining ∧ s.drained = true then
    match s.mode.target with
    | some .standby => .next (s.enterStandby 0)
    | some m => .next ((s.abortAll.stopPath).enterMode m 0)
    | none => .next s
  else .next s

/-- DEGRADED_EXIT (row 11): at a subframe boundary with no cause left. -/
def execDegradedExit (s : State) : Out :=
  if s.mode.mode = .degraded ∧ s.causes = 0 ∧ s.inTransition = false ∧ s.subNow = true then .next (s.enterMode .run 0) else .next s

/-! ## Boot (R374) -/

/-- BOOT over (row 6): CONFIGURE, and the device's own enable where RUN_AT_BOOT is TRUE. -/
def State.bootDone (s : State) (obs : EnableObs) : State :=
  let t := (s.applyStored.setNum OD.bootStage 0 8).enterMode .configure 0
  if t.flag OD.runAtBoot then (t.deviceOn obs).2 else t

/-- The next stage of BOOT starts. -/
def State.nextStage (s : State) (n : Nat) : State :=
  let t := s.setNum OD.bootStage 0 n
  t.setMode { t.mode with stageAt := s.nowNs }

/-- Why the image of stage 3 or 4 is not started (R390): 0 where it verifies; one that flash does not hold fails as an image without
a valid signature (DESIGN CHOICE: Table 13-4 names no reason of its own). -/
def State.imageFault (s : State) (cls : Nat) : Nat :=
  match s.stageImage cls with
  | some i => s.sec.imageReason cls i
  | none => 0x0B01

/-- The image of stage 3 or 4 verified and started, or the stage failed with the reason of R390 (row 7). -/
def State.imageStage (s : State) (cls : Nat) (go : State → State) : State :=
  match s.stageImage cls with
  | some i =>
    match s.verify cls i with
    | (0, t) => go (t.startImage cls)
    | (r, t) => t.bootFail r
  | none => s.bootFail (s.imageFault cls)

/-- BOOT_STAGE_COMPLETE (R374): the work of the stage done, the next one starts.  `failedUnits` are those that failed the self-test of
stage 6; images are verified here (R390). -/
def execBootStageComplete (failedUnits : List Nat) (obs : EnableObs) (s : State) : Out :=
  if s.awaitsImage then .next s
  else match s.stage with
    | 1 => .next (s.stageOne.nextStage 2)
    | 2 => .next ((s.setPower { s.power with railsOn := [2, 3, 4, 5, 6, 7, 8, 9, 10] }).nextStage 3)
    | 3 => .next (s.imageStage 1 (fun t => (t.setRes { t.res with recovery := .running, attempts := 0, misses := 0, beatAt := s.nowNs, drillAt := s.nowNs }).nextStage 4))
    | 4 => .next (s.imageStage 2 (fun t => t.nextStage 5))
    | 5 => .next ((if s.hostBoot then s else (List.range 16).foldl State.slotFromFlash s).nextStage 6)
    | 6 =>
      let t := s.stageSix failedUnits
      .next (if t.classDead then t.bootFail 0x0A08 else t.nextStage 7)
    | 7 => .next (s.bootDone obs)
    | _ => .next s

/-- The reasons a stage fails with (Table 13-4); stage 5 fails slots, not the boot. -/
def stageReasons (n : Nat) : List Nat :=
  match n with
  | 1 => [0x0101, 0x0201]
  | 2 => [0x0809]
  | 3 => [0x0B01, 0x0B02]
  | 4 => [0x0B01, 0x0B02]
  | 6 => [0x0A08]
  | 7 => [0x0D13]
  | _ => []

/-- BOOT_STAGE_FAIL (row 7): the stage running fails with a reason of its own; stages 3 and 4 with the one their image gives. -/
def execBootStageFail (reason : Nat) (s : State) : Out :=
  let mine := (stageReasons s.stage).contains reason
    && (decide (s.stage ≠ 3 ∧ s.stage ≠ 4) || !s.awaitsImage && decide (s.imageFault (s.stage - 2) = reason))
  .next (if mine then s.bootFail reason else s)

/-- BOOT_HOST_TIMEOUT (R374): no image has arrived within BOOT_HOST_WAIT of the start of its stage. -/
def execBootHostTimeout (s : State) : Out :=
  .next (if s.awaitsImage && decide (s.mode.stageAt + s.nat OD.bootHostWait * oneSecond ≤ s.nowNs) then s.bootFail 0x0B06 else s)

/-- A write of BOOT_IMAGE (R374, R390): taken by stage 3 or 4 of a host boot from PF0; an image that fails its checks fails
the stage. -/
def bootImage (fn : Nat) (img : Image) (s : State) : State :=
  if fn ≠ 0 then s.refuse (OD.bootImage.fail 0x0D03)
  else if !s.awaitsImage then s.refuse (OD.bootImage.fail 0x0A01)
  else
    let cls := if s.stage = 3 then 1 else 2
    match s.verify cls img with
    | (0, t) => (t.setMode { t.mode with hostImages := Tab.set t.mode.hostImages cls img }).answer 0
    | (r, t) => (t.bootFail r).refuse (OD.bootImage.fail r)

/-- BOOT_IMAGE_WRITE (R374). -/
def execBootImageWrite (fn : Nat) (img : Image) (s : State) : Out :=
  match s.accessReason (.mailbox fn) OD.bootImage 0 OD.bootImage.addr true with
  | 0 => .next (bootImage fn img s)
  | r => .next (s.refuse (OD.bootImage.fail r))

end Sys2Proof.Machine
end

