-- ==== Sys2Proof/Machine/Values.lean ====
section
/-!
DEFINITION. What a read of an object returns (R15, R342): the written value, the requester's own copy of a select object,
or, for an object whose home is a typed field of the state, the value computed from it.
-/

namespace Sys2Proof.Machine

open Sys2Proof

/-! ## Codes -/

/-- Codes of SERVO_STATE (Table 02-1). -/
def Servo.code : Servo → Nat
  | .freerun => 0 | .acquiring => 1 | .locked => 2 | .holdover => 3

/-- Codes of CORE_STATE and ENGINE_STATE (Tables 04-10, 06-15). -/
def UnitState.code : UnitState → Nat
  | .off => 0 | .idle => 1 | .running => 2 | .reserve => 3 | .retired => 4 | .halted => 5

/-- Codes of FU_STATE and CU_STATE: 1 running, 3 free (Table 07-11). -/
def UnitState.edgeCode : UnitState → Nat
  | .off => 0 | .idle => 1 | .running => 1 | .reserve => 3 | .retired => 4 | .halted => 5

/-- Codes of NS_STATE (Table 07-7). -/
def NsState.code : NsState → Nat
  | .off => 0 | .offered => 1 | .active => 2 | .fallback => 3

/-- Codes of GROUP_STATE (Table 09-6). -/
def GroupState.code : GroupState → Nat
  | .off => 0 | .training => 1 | .negotiating => 2 | .securing => 3 | .active => 4 | .hold => 5

/-- Codes of the slot store's BANK_STATE (Table 10-7). -/
def BankState.code : BankState → Nat
  | .active => 0 | .spare => 1 | .copying => 2 | .retired => 3 | .underTest => 4

/-- Codes of DOMAIN_STATE (Table 15-5). -/
def DomState.code : DomState → Nat
  | .off => 0 | .on => 1 | .sleep => 2 | .lockedOff => 3

/-- Codes of QP_STATE. -/
def QpState.code : QpState → Nat
  | .disabled => 0 | .enabled => 1 | .error => 2

/-- Codes of PART_STATE. -/
def PartState.code : PartState → Nat
  | .absent => 0 | .configured => 1 | .enabled => 2 | .paused => 3 | .resetting => 4 | .faulted => 5

/-- Codes of REGION_STATE. -/
def RegionState.code : RegionState → Nat
  | .disabled => 0 | .initialising => 1 | .active => 2 | .rekeying => 3 | .quarantined => 4

/-- Codes of RECOVERY_STATE. -/
def Recovery.code : Recovery → Nat
  | .off => 0 | .running => 1 | .restarting => 2

/-! ## Computed numbers -/

/-- Bits `0` to `n - 1` of a number, each from a test. -/
def maskOf (n : Nat) (f : Nat → Bool) : Nat := ((List.range n).map (fun k => if f k then 2 ^ k else 0)).sum

/-- The state of a unit as its class reads it: off until boot stage 6 has powered it. -/
def State.unitRead (s : State) (cls u : Nat) : UnitState :=
  if !s.galley.unitsOn then .off
  else if cls = 0 ∧ (s.core u).halted = true ∧ (s.unit 0 u).state ≠ .retired then .halted
  else (s.unit cls u).state

/-- A number below 2^w that no command drives, at an object's item now. -/
def State.unseen (s : State) (o : Obj) (item : Nat) : Int := (Config.unseen o.code item s.time.tb % ((o.hi + 1).toNat) : Nat)

/-- Bytes of tree-store nodes above `n` nodes of one level: 48 each, until 16 or fewer hang at the root register (R399). -/
def treeAbove (n : Nat) : Nat → Nat
  | 0 => 0
  | f + 1 => if n ≤ 16 then 0 else 48 * ((n + 15) / 16) + treeAbove ((n + 15) / 16) f

/-- Bytes of tree store a region uses: 96 for each level-1 node, 16 counter blocks each (Table 14-5). -/
def Region.treeBytes (r : Region) : Nat :=
  let n := (r.blocks + 15) / 16
  96 * n + treeAbove n 5

/-- Enabled protected regions. -/
def State.protectedRegions (s : State) : List Region :=
  (s.sec.regions.map (·.2)).filter (fun r => decide (r.state ≠ .disabled) && r.isProtected)

/-- LINK_STATE of the host link: rate code and width. -/
def State.pcieRead (s : State) : Nat := s.host.rate + 8 * s.host.width

/-- LINK_STATE of a fronthaul port: up, searching while enabled, else down. -/
def State.portRead (s : State) (p : Nat) : Nat :=
  if (s.port p).up then 2 else if has s.front.portsOn p && decide ((s.port p).defects.toNat % 2 = 0) then 1 else 0

/-- CPRI_RATE: the lane mode tried or in use, the highest enabled option first (R255, Table 08-1). -/
def State.cpriRead (s : State) (p : Nat) : Nat :=
  if (s.port p).cpriState = 0 then 0
  else match (([3, 2, 1, 0].filter (fun k => bit (s.govN OD.cpriRates p) k)).drop (s.port p).cpriRate).head? with
    | some k => 4 + k
    | none => 0

/-- The target of a rail [mV] (Table 15-4), 0 while it is not powered: the VCORE rails' as adjusted, the GPIO banks' as BANK_VOLTAGE
selects; of the two of VSTBY the lower (DESIGN CHOICE). -/
def State.railTarget (s : State) (r : Nat) : Nat :=
  let bank (b : Nat) : Nat := if bit (s.nat OD.bankVoltage) b then 3300 else 1800
  if !s.railUp r then 0
  else if r < 2 then s.nat OD.railVoltage r
  else if r = 9 then bank 0 else if r = 10 then bank 1
  else [0, 0, 750, 750, 1200, 1800, 1100, 400, 900, 0, 0, 750].getD r 0

/-- SEARCH_LOAD of a front unit, rounded up [units per ms]. -/
def State.searchLoadRead (s : State) (u : Nat) : Nat :=
  let x := s.loadOf (s.ctxsOfFu u) (fun g => s.govN OD.groupMap g)
  (x.1 + x.2 - 1) / x.2

/-- Streams a front unit carries in one direction. -/
def State.streamsRead (s : State) (u : Nat) (transmit : Bool) : Nat :=
  ((s.groupsOf u).map (fun g => let m := s.govN OD.groupMap g
    if bit m 12 = transmit then mapStreams m else 0)).sum

/-- Free buffers of a hamper. -/
def State.freeRead (s : State) (n : Nat) : Nat := match s.hamper n with | some h => h.free | none => 0

/-- Faults of a unit in the last 24 h (UNIT_SELECT numbering). -/
def State.faults24 (s : State) (n : Nat) : Nat :=
  match unitOfNumber n with
  | some (cls, u) => ((s.unit cls u).faults.filter (fun t => decide (s.runSec < t + 86400))).length
  | none => 0

/-- ACTIVITY_STATE: running while a token of the activity is held, waiting while a request is queued. -/
def State.activityRead (s : State) (code : Nat) : Nat :=
  if s.res.held.any (fun a => decide (a.code = code)) then 2
  else if s.res.queue.any (fun a => decide (a.code = code)) then 1 else 0

/-- UPGRADE_STATE. -/
def State.upgradeRead (s : State) : Nat := if s.mode.mode = .upgrade then 2 else if s.res.upgradeWaiting then 1 else 0

/-- Numbers whose home is a typed field, or that no command drives: the value of an object, none where the dictionary holds
it. -/
def State.computed (s : State) (o : Obj) (item : Nat) : Option Int :=
  let n (v : Nat) : Option Int := some (v : Nat)
  let free : Option Int := some (s.unseen o item)
  match o.code with
  | 0x100007 => n (match Tab.find s.sec.running 0 with | some i => i.version | none => Config.romVersion)
  | 0x110009 => n s.pot.sessions.length
  | 0x110010 => if s.num o item = 0 then n 0x58 else none
  | 0x200001 => n s.mode.mode.code
  | 0x210012 => n (s.domain item).state.code
  | 0x210013 => n (min 0xFFFFFFFF (s.domain item).wakes)
  | 0x210018 => n s.stretchRead
  | 0x21001B => n (s.railTarget item)
  | 0x21001C => n (s.railHealthy item + 256 * railFitted item)
  | 0x300001 => n s.now.pack
  | 0x300002 => n s.time.servo.code
  | 0x311009 => some (Config.calibrated o.code item)
  | 0x31100A => some (Config.calibrated o.code item)
  | 0x31100B => n (Tab.get ({} : PtpPort) s.time.ptp item).state
  | 0x320002 => n (airTickOf s.time.air)
  | 0x320003 => n (airEraOf s.time.air)
  | 0x320004 => n (sfnOf s.time.air)
  | 0x320005 => n (hfnOf s.time.air)
  | 0x400005 =>
    let l := s.lane item
    n (maskOf 4 (fun k => [l.signal, l.lock, l.blockLock, l.prbsLock].getD k false))
  | 0x410007 => n (s.portRead item)
  | 0x414009 => n ((s.flow item).active.getD (s.flowPort item))
  | 0x420003 => n (s.port item).cpriState
  | 0x420004 => n (s.cpriRead item)
  | 0x420007 => free
  | 0x440004 => n (s.radio item).ns.code
  | 0x440005 => n (s.radio item).agreed
  | 0x500007 => n (s.linkVersion.getD 0)
  | 0x500008 => n (if s.linkUp then 1 else 0)
  | 0x501002 => n (s.grp item).state.code
  | 0x501003 => n (s.grp item).defects.toNat
  | 0x501005 => n (s.grp item).epochTx
  | 0x501006 => n (s.grp item).epochRx
  | 0x600001 => n s.liveSlugs
  | 0x600003 => n s.galley.imps.length
  | 0x600019 => n (s.countSlugs item (fun _ => true))
  | 0x60001A => n (s.countSlugs item (fun x => x.state = .ready))
  | 0x60001B => n (s.countSlugs item (fun x => x.state = .running))
  | 0x60001C => n (s.armedCounters item)
  | 0x610004 => n (s.formePart item)
  | 0x610006 => n (s.galley.imps.filter (fun e => decide (e.2.forme = item))).length
  | 0x610007 => n (formeHdr (s.oct OD.formeImage item)).slugs
  | 0x61000B => n (131072 - (s.galley.formes.map (·.2.slots)).sum)
  | 0x620006 => n (s.freeRead item)
  | 0x630001 => n s.galley.counters.length
  | 0x70000A => n (s.unitRead 0 item).code
  | 0x800002 => n (s.unitRead (engineUnit item).1 (engineUnit item).2).code
  | 0x800004 => n (classCaps (engineUnit item).1)
  | 0x820002 => n (s.unitRead 9 item).edgeCode
  | 0x820003 => n (s.streamsRead item false + 65536 * s.streamsRead item true)
  | 0x820004 => n (s.searchLoadRead item)
  | 0x822008 => n (s.antGroup item).gain
  | 0x830002 => n (s.unitRead 10 item).edgeCode
  | 0x830003 => n (s.pairOf item)
  | 0x900003 => n (s.bank item).state.code
  | 0x903002 => n (maskOf 32 (fun k => has s.fab.linksDown (linkKey item k)))
  | 0x910008 => n (s.region item).state.code
  | 0x910009 => n (s.region item).generation
  | 0x91000C => n (((s.region item).lineCtr.map (·.2)).foldl max 0)
  | 0x910012 => n ((s.protectedRegions.map (·.pages)).sum)
  | 0x910013 => n ((s.protectedRegions.map Region.treeBytes).sum)
  | 0xA00001 => n s.pcieRead
  | 0xA00002 => n s.host.numVfs
  | 0xA00003 => n s.host.tags.length
  | 0xA00005 => n (s.host.tags.filter (fun e => e.2.quarantined)).length
  | 0xA01007 => n (s.qp item).state.code
  | 0xA01008 => n (s.qp item).sqHead
  | 0xA01009 => n (s.qp item).cqTail
  | 0xA40001 => n (s.part item).state.code
  | 0xB00003 => n (s.reserves item).length
  | 0xB00009 => n s.res.recovery.code
  | 0xB10003 => n (s.activityRead item)
  | 0xB1000A => n s.upgradeRead
  | 0xB20003 => n s.alarms.activeCount
  | 0xB20004 => n s.alarms.highest
  | 0xB20005 => n (s.alarms.nextSeq % 2 ^ 32)
  | 0xC00001 => n (s.sec.fuseVal .sigPolicy 0)
  | 0xC00002 => n (s.sec.fuseVal .keyRevoke 0)
  | 0xC00006 => n (s.sec.fuseVal .rollback item)
  | 0xC00007 => n (s.sec.fuseVal .debugForbid 0)
  | 0xC00008 => n s.sec.dbg.granted.toNat
  | 0xD00004 => n (maskOf 32 s.gpioBit)
  | 0xD00005 => n (maskOf 32 (fun p => decide (s.pinBank (p / 16) = .steady)))
  | 0xD00007 => n ((s.pinBank 0).code + 4 * (s.pinBank 1).code)
  | 0xD00009 => n (maskOf 8 (fun k => has s.pins.rcoOff k))
  | 0xD0000A => n (maskOf 8 (fun k => !s.rcoSinks k))
  | 0xE00005 => n (min 255 (s.faults24 item))
  | _ => none

/-- The number a read of an object's item returns. -/
def State.readNum (s : State) (who : Requester) (o : Obj) (item : Nat) (a : Addr) : Int :=
  if o.isSelect then (s.selOf who (selAddr o a) : Nat)
  else match s.computed o item with | some v => v | none => s.num o item

/-! ## Bytes -/

/-- The bytes of a text. -/
def textBytes (t : String) : List Byte := t.toList.map (fun c => BitVec.ofNat 8 c.toNat)

/-- An alarm entry as ALARM_ENTRY returns it (Table 16-10). -/
def AlarmEntry.bytes (e : AlarmEntry) : List Byte :=
  leBytes 2 e.ident ++ leBytes 2 e.inst ++ leBytes 4 ((if e.active then 1 else 0) + 2 * e.sev) ++ leBytes 4 e.count
    ++ leBytes 16 e.first ++ leBytes 16 e.last ++ leBytes 4 0

/-- ALARM_ENTRY: entry `k`, or the fold entry of identifier `k` − 4,096; zeros where there is none. -/
def State.alarmBytes (s : State) (k : Nat) : List Byte :=
  match if k < 4096 then s.alarms.entries[k]? else Tab.find s.alarms.folds (k - 4096) with
  | some e => e.bytes
  | none => leBytes 48 0

/-- A fault record (Table 16-11). -/
def FaultRec.bytes (r : FaultRec) : List Byte :=
  leBytes 16 r.time ++ leBytes 2 r.unit ++ leBytes 1 r.cause ++ leBytes 1 r.outcome ++ leBytes 12 0

/-- FAULT_LOG: 64 records, newest last, the unused ones zero. -/
def State.faultBytes (s : State) : List Byte :=
  leBytes (32 * (64 - s.res.faultLog.length)) 0 ++ s.res.faultLog.flatMap FaultRec.bytes

/-- One byte for each number. -/
def byteList (l : List Nat) : List Byte := l.map (fun n => BitVec.ofNat 8 n)

/-- The bytes written to an object, zeros of `n` bytes where nothing was. -/
def State.octOr (s : State) (o : Obj) (item n : Nat) : List Byte :=
  let b := s.oct o item
  if b.isEmpty then leBytes n 0 else b

/-- The bytes a read of a STRING, OCTETS or ARRAY object's item returns. -/
def State.readOct (s : State) (o : Obj) (item : Nat) : List Byte :=
  match o.code with
  | 0x100001 => textBytes "Garvor Devices"
  | 0x100002 => textBytes "ZNB9600"
  | 0x100003 => textBytes (if Config.extendedGrade then "ZNB9600-X" else "ZNB9600-S")
  | 0x100004 => textBytes "A1"
  | 0x100005 => Config.fusedOctets o.code 0
  | 0x100006 => Config.fusedOctets o.code 0
  | 0x310005 => Config.fusedOctets o.code 0
  | 0x110004 => s.octOr o item 17
  | 0x110005 => s.octOr o item 4
  | 0x110007 => s.octOr o item 52
  | 0x414004 => s.octOr o item 22
  | 0x410004 => (let b := s.oct o item; if b.isEmpty then Config.fusedOctets o.code item else b)
  | 0x41400B => s.octOr o item 28
  | 0x41800C => s.octOr o item 48
  | 0x430001 => s.octOr o item 32
  | 0x50000C => s.octOr o item 128
  | 0x700002 =>
    (let b := s.oct o item
     match b.isEmpty, (Tab.get {} s.vx.slots item : ImageSlot).img with
     | true, some i => Config.imageBytes i
     | _, _ => b)
  | 0x600012 => s.octOr o item 10
  | 0x900007 => byteList ((List.range 23).map s.physBank)
  | 0xB00004 => byteList (s.reserves item)
  | 0xB00005 => byteList ((List.range (unitsOf item)).filter (fun u => decide ((s.unit item u).state = .retired)))
  | 0xB10005 => s.queueOrder.flatMap (fun q => leBytes 4 (q.code + 256 * q.inst))
  | 0xB10010 => byteList ((List.range 96).map (fun v => Tab.get 0 s.res.entryImages v))
  | 0xB20002 => s.alarmBytes item
  | 0xB2000E => s.octOr o item 16
  | 0xC00004 => Config.fusedOctets o.code item
  | 0xC0000D => leBytes 48 (match Tab.find s.sec.running 0 with | some i => i.digest | none => Config.romDigest).toNat ++ (s.octOr o item 192).drop 48
  | 0xC0000C => Config.fusedOctets o.code 0
  | 0xE00001 => s.faultBytes
  | _ => s.oct o item

/-! ## Types on the wire (Table 12-1, R12) -/

/-- Type codes. -/
def tyCode : Ty → Nat
  | .bool => 1 | .u8 => 2 | .u16 => 3 | .u32 => 4 | .u64 => 5 | .i8 => 6 | .i16 => 7 | .i32 => 8 | .i64 => 9
  | .float32 => 10 | .tb128 => 11 | .string => 12 | .octets => 13 | .record => 14 | .array => 15

/-- Bytes of a type of fixed length. -/
def tySize : Ty → Option Nat
  | .bool => some 1 | .u8 => some 1 | .u16 => some 2 | .u32 => some 4 | .u64 => some 8
  | .i8 => some 1 | .i16 => some 2 | .i32 => some 4 | .i64 => some 8
  | .float32 => some 4 | .tb128 => some 16 | _ => none

/-- Is a type signed? -/
def tySigned : Ty → Bool
  | .i8 => true | .i16 => true | .i32 => true | .i64 => true | _ => false

/-- A number as it travels. -/
def tyEncode (t : Ty) (v : Int) : List Byte :=
  match tySize t with | some n => leBytes n (unsigned (8 * n) v) | none => []

/-- A number as it is read from its bytes. -/
def tyDecode (t : Ty) (b : List Byte) : Int :=
  if tySigned t then signed (8 * b.length) (leNat b) else (leNat b : Nat)

/-- The object an access names (R342): subindex 0 of an index is a U8 RO object of its own. -/
def locate (a : Addr) : Except Nat Obj :=
  if a.sub = 0 then
    match (highestSub a.idx).map (fun n => findObj ⟨a.idx, n⟩) with
    | some (.ok o) => .ok { o with sub := 0, nSub := 1, ty := .u8, access := .ro, sel := .unit, stored := false }
    | _ => .error 0x0D01
  else findObj a

/-- The value bytes of an object's item as a requester reads it. -/
def State.readBytes (s : State) (who : Requester) (o : Obj) (item : Nat) (a : Addr) : List Byte :=
  if a.sub = 0 then leBytes 1 ((highestSub a.idx).getD 0)
  else match tySize o.ty with
  | some _ => tyEncode o.ty (s.readNum who o item a)
  | none => s.readOct o item

/-- A read of an address (R473): its type and bytes, or the reason of the first failing test. -/
def State.readAddr (s : State) (who : Requester) (a : Addr) : Except Nat (Ty × List Byte) :=
  match locate a with
  | .error r => .error r
  | .ok o =>
    let item := s.itemOf who o a
    match s.accessReason who o item a false with
    | 0 => .ok (o.ty, s.readBytes who o item a)
    | r => .error r

end Sys2Proof.Machine
end

