-- ==== Sys2Proof/Machine/Dictionary.lean ====
section
/-!
DEFINITION. Requests on the dictionary: reads, writes applied together, enables, segmented transfers and INFO (R343–R349,
R356, R359, R360, R473).
-/

namespace Sys2Proof.Machine

open Sys2Proof

/-! ## Images given as bytes -/

/-- Bytes `lo` to `hi` of a list as a number. -/
def field (b : List Byte) (lo hi : Nat) : Nat := leNat ((b.drop lo).take (hi + 1 - lo))

/-- Bytes of an image (R389): header, payload and the signature blocks present. -/
def imageLength (payload sig : Nat) : Nat :=
  256 + payload + (if bit sig 0 then 193 else 0) + (if bit sig 1 then 7219 else 0)

/-- A signed image as its bytes give it (Table 14-1). -/
def imageOf (b : List Byte) : Image :=
  let flags := field b 7 7
  { magic := BitVec.ofNat 32 (field b 0 3)
    cls := BitVec.ofNat 8 (field b 4 4)
    rollback := field b 5 5
    fmtMask := BitVec.ofNat 8 (field b 6 6)
    sigPresent := BitVec.ofNat 2 flags
    ecdsaSlot := BitVec.ofNat 2 (flags / 4)
    mldsaSlot := BitVec.ofNat 2 (flags / 16)
    reservedZero := decide (flags / 64 = 0 ∧ field b 24 31 = 0 ∧ field b 80 255 = 0)
    lengthAgrees := decide (256 ≤ b.length ∧ b.length = imageLength (field b 12 15) flags)
    version := field b 8 11
    caps := BitVec.ofNat 32 (field b 16 19)
    entry := field b 20 23
    ecdsaKeyMatches := Config.imageProof b 0
    ecdsaVerifies := Config.imageProof b 1
    mldsaKeyMatches := Config.imageProof b 2
    mldsaVerifies := Config.imageProof b 3
    payloadDigestOk := Config.imageProof b 4
    digest := Config.imageDigest b }

/-! ## Writes that act on management objects -/

/-- A role entry (Table 12-10): key digest, role, enable and partition. -/
def roleOfEntry (b : List Byte) : Nat := field b 48 48
def entryEnabled (b : List Byte) : Bool := decide (field b 49 49 = 1)
def entryPart (b : List Byte) : Nat := field b 50 51

/-- The enabled role entries. -/
def State.roleEntries (s : State) : List Nat := (List.range 32).filter (fun k => entryEnabled (s.oct OD.roleEntry k))

/-- A write of ROLE_ENTRY (R366): the only enabled management entry is not removed. -/
def writeRoleEntry (k : Nat) (b : List Byte) (s : State) : Except Fail State :=
  let mgmt (x : List Byte) : Bool := entryEnabled x && decide (roleOfEntry x = 0)
  if !List.contains [0, 1, 3] (roleOfEntry b) || decide (1 < field b 49 49) || decide (1023 < entryPart b) then
    .error (OD.roleEntry.fail 0x0D08)
  else if mgmt (s.oct OD.roleEntry k) && !mgmt b
      && s.roleEntries.all (fun j => decide (j = k) || !mgmt (s.oct OD.roleEntry j)) then
    .error (OD.roleEntry.fail 0x0D03)
  else .ok (s.setOct OD.roleEntry k b)

/-- A write of TRUST_ANCHOR (R393): the last anchor stays while a role entry is enabled. -/
def writeAnchor (k : Nat) (b : List Byte) (s : State) : Except Fail State :=
  let t := s.setOct OD.trustAnchor k b
  if !s.roleEntries.isEmpty && (t.itemsOf OD.trustAnchor).all (fun j => (t.oct OD.trustAnchor j).isEmpty) then
    .error (OD.trustAnchor.fail 0x0B05)
  else .ok t

/-- A write of MP_ENABLE (R366): TRUE brings Pothiquin up on the path with its address values; on the fronthaul ports'
and MP0's, MP1's PTP ports the values of R54 take effect with it. -/
def writeMpEnable (p v : Nat) (s : State) : State :=
  let t := s.setNum OD.mpEnable p v
  if v = 1 then
    let t := t.takeAll [OD.mpEnable, OD.ipv4, OD.ipv6, OD.gateway] p
    let t := { t with pot := { t.pot with mpOn := insertN t.pot.mpOn p } }
    if p < 2 then t.takePtp (24 + p) else t
  else
    let t := t.take OD.mpEnable p
    { t with pot := { t.pot with mpOn := removeN t.pot.mpOn p } }

/-- A write of DEVICE_ENABLE TRUE by a request that carries no observation: what the check observes of OSC_IN's frequency
and the manager's estimate are free values. -/
def writeDeviceOn (s : State) : Except Fail State :=
  let obs : EnableObs := ⟨!s.time.oscLost, decide (Config.free s.freeCtr % 2 = 1), Config.free (s.freeCtr + 1)⟩
  match ({ s with freeCtr := s.freeCtr + 2 } : State).deviceOn obs with
  | (none, t) => .ok t
  | (some f, _) => .error f

/-- A write of PTP_ENABLE: the port's values are in force with it (Table 02-9). -/
def writePtpEnable (p v : Nat) (s : State) : State :=
  let t := s.setNum OD.ptpEnable p v
  if v = 1 then t.takePtp p else t.take OD.ptpEnable p

/-- A write of DOMAIN: one outside the range of the profile is refused (R53). -/
def writePtpDomain (v : Nat) (s : State) : Except Fail State :=
  let t := s.setNum OD.ptpDomain 0 v
  if t.domainBad then .error (OD.ptpDomain.fail 0x0206) else .ok t

/-- A write of BOOT_IMAGE by a requester (R374). -/
def writeBootImage (who : Requester) (b : List Byte) (s : State) : Except Fail State :=
  let t := bootImage (match who with | .mailbox fn => fn | _ => 1) (imageOf b) s
  if t.reply.reason = 0 then .ok t else .error (OD.bootImage.fail t.reply.reason)

/-- A write of STATIC_ENTRY: VID, MAC address, port and the add bit (R259). -/
def writeStaticBytes (b : List Byte) (s : State) : Except Fail State :=
  writeStatic (field b 0 1) (BitVec.ofNat 48 (leNat ((b.drop 2).take 6).reverse)) (field b 8 8) (bit (field b 9 9) 0) s

/-! ## The effect of a written value (R473 tests 9 and 10) -/

/-- The fuse items by their objects (R387). -/
def fuseItemOf (code : Nat) : Option FuseItem :=
  match code with
  | 0xC00001 => some .sigPolicy
  | 0xC00002 => some .keyRevoke
  | 0xC00006 => some .rollback
  | 0xC00007 => some .debugForbid
  | _ => none

/-- A number written to an object that holds it: bits written as 1 are cleared in a W1C object (R14); a partition that
the object belongs to or that the value names is no longer ABSENT (Table 13-6). -/
def State.holdNum (s : State) (o : Obj) (item : Nat) (a : Addr) (v : Int) : State :=
  let n := v.toNat
  if o.access = .w1c then s.setNum o item ((s.nat o item - (s.nat o item &&& n) : Nat) : Int)
  else
    let t := (s.setNum o item v).takeTie o item
    if o.idx = 0xA400 then t.touchPart (a.idx - 0xA400)
    else if o.code = OD.cellPartition.code then t.touchPart n
    else if o.code = OD.hamperOwner.code ∧ n ≠ 0xFFFF then t.touchPart n
    else if o.code = OD.qpOwner.code ∧ bit n 31 = true then t.touchPart (bits n 9 0)
    else t

/-- A number within its range written to an object: what the object's chapter makes of it. -/
def State.applyNum (s : State) (who : Requester) (o : Obj) (item : Nat) (a : Addr) (v : Int) : Except Fail State :=
  let n := v.toNat
  if o.isSelect then
    let t := s.setSel who (selAddr o a) v
    .ok (if o.idx = 0xA400 then t.touchPart (a.idx - 0xA400) else t)
  else match fuseItemOf o.code with
  | some f => writeFuse f item n s
  | none =>
    match o.code with
    | 0x110002 => .ok (writeMpEnable item n s)
    | 0x200002 => writeModeRequest n s
    | 0x200003 => if n = 1 then writeDeviceOn s else deviceOff s
    | 0x210005 => .ok (s.holdNum o item a v).capsNow
    | 0x30000F => .ok (s.holdNum o item a v).reclamp
    | 0x302009 => .ok (s.holdNum o item a v).dropOutputs
    | 0x310002 => writePtpDomain n s
    | 0x300003 => writeTimeSet (TB128.unpack n) s
    | 0x301001 => writeReference item n s
    | 0x311001 => .ok (writePtpEnable item n s)
    | 0x400007 => writePrbsConfig item n s
    | 0x40000A => writePrbsClear item n s
    | 0x410003 => enablePort item n s
    | 0x414008 => enableFlow item n s
    | 0x414009 => writeFlowActivePort item n s
    | 0x418001 => enableMacsec item n s
    | 0x41800A => writeTxAn item n s
    | 0x500001 => enableMogil n s
    | 0x50000F => writeTakeoverNow n s
    | 0x50100F => writeMogilPrbs item n s
    | 0x502002 => writeChannelMap item n s
    | 0x600017 => .ok (if n = 1 then clearCounts s else s)
    | 0x601004 => writePeriod item n s
    | 0x601005 => writePressLead item n s
    | 0x601007 => writeSlotFormes item n s
    | 0x601008 => enableCell item n s
    | 0x610003 => enableForme item n s
    | 0x620005 => enableHamper item n s
    | 0x700009 => writeCoreImage item n s
    | 0x822009 => enableGroup item n s
    | 0x824005 => enableRamp item n s
    | 0x82800A => enableContext item n s
    | 0x900008 => writeSpareNow item n s
    | 0x910007 => enableRegion item n s
    | 0x91000A => writeRekeyNow item n s
    | 0xA01006 => enableQp item n s
    | 0xA40002 => enablePart (a.idx - 0xA400) n s
    | 0xA40003 => pausePart (a.idx - 0xA400) n s
    | 0xA40004 => resetPart (a.idx - 0xA400) n s
    | 0xB1000C => writeUpgradeRecovery n s
    | 0xB1000D => writeUpgradeCommit n s
    | 0xB1000E => writeUpgradeAbandon n s
    | 0xD00002 => writeGpioConfig item n s
    | 0xD00006 => writeBankVoltage n s
    | 0xD00008 => .ok (clearPinFault n s)
    | 0xE00003 => writeDiagRun item n s
    | _ => .ok (s.holdNum o item a v)

/-- Bytes written to an object. -/
def State.applyOct (s : State) (who : Requester) (o : Obj) (item : Nat) (b : List Byte) : Except Fail State :=
  match o.code with
  | 0x110007 => writeRoleEntry item b s
  | 0x200011 => writeBootImage who b s
  | 0x418006 => writeSaKey item b s
  | 0x43000B => writeStaticBytes b s
  | 0x610002 => writeFormeImage item b s
  | 0x700002 => (match writeVxImage item (imageOf b) s with | .ok t => .ok (t.setOct o item b) | .error f => .error f)
  | 0xB1000B => writeUpgradeImage (imageOf b) s
  | 0xC0000B => writeAnchor item b s
  | _ => .ok ((s.setOct o item b).takeTie o item)

/-- The lengths an OCTETS or ARRAY object takes; none where its chapter sets none. -/
def octLengths (code : Nat) : Option (List Nat) :=
  match code with
  | 0x110004 => some [17]
  | 0x110005 => some [4, 16]
  | 0x110007 => some [52]
  | 0x410004 => some [6]
  | 0x414004 => some [22]
  | 0x430001 => some [32]
  | 0x43000B => some [10]
  | 0x50000A => some [48]
  | 0x50000C => some [128]
  | _ => none

/-- Does a length agree with an object's (R473 test 8)? -/
def Obj.lengthOk (o : Obj) (n : Nat) : Bool :=
  match tySize o.ty with
  | some k => decide (n = k)
  | none =>
    match octLengths o.code with
    | some l => l.contains n
    | none => !(o.code = OD.trustAnchor.code && decide (4096 < n))

/-- Tests 9 and 10 and the effect of a value; a refusal names the address written. -/
def State.applyValue (s : State) (who : Requester) (o : Obj) (item : Nat) (a : Addr) (b : List Byte) : Except Fail State :=
  let r := match tySize o.ty with
    | some _ =>
      let v := tyDecode o.ty b
      if o.inRange item v then s.applyNum who o item a v else .error ⟨o.reason, none, 0xFFFFFFFF⟩
    | none => s.applyOct who o item b
  match r with
  | .ok t => .ok t
  | .error f => .error { f with addr := some a }

/-! ## Reads -/

/-- An address as entries carry it: index and subindex, then one byte. -/
def addrBytes (a : Addr) (last : Nat) : List Byte := leBytes 2 a.idx ++ leBytes 1 a.sub ++ leBytes 1 last

/-- Value bytes padded to a multiple of 4. -/
def padded (b : List Byte) : List Byte := b ++ leBytes ((4 - b.length % 4) % 4) 0

/-- The reply entry of a READ (Table 12-4); a value longer than 1,024 bytes is read with SEG_READ (R359). -/
def State.readEntry (s : State) (who : Requester) (a : Addr) : List Byte :=
  match s.readAddr who a with
  | .ok (t, b) =>
    if 1024 < b.length then addrBytes a (tyCode t) ++ leBytes 2 0x0D0D ++ leBytes 2 0
    else addrBytes a (tyCode t) ++ leBytes 2 0 ++ leBytes 2 b.length ++ padded b
  | .error r => addrBytes a 0 ++ leBytes 2 r ++ leBytes 2 0

/-- A request's entries: 1 to 64 (Table 12-4). -/
def countOk (n : Nat) : Bool := decide (1 ≤ n) && decide (n ≤ 64)

/-- READ: one reply entry per entry; a reply longer than a message is refused. -/
def State.readAll (s : State) (who : Requester) (es : List Addr) : State :=
  if !countOk es.length then s.refuse { reason := 0x0D12 }
  else
    let b := es.flatMap (s.readEntry who)
    if 1384 < b.length then s.refuse { reason := 0x0D0D } else s.answerData b

/-! ## Writes (R348) -/

/-- One entry of a WRITE tested and applied to what the entries before it leave. -/
def State.writeEntry (s : State) (who : Requester) (e : WEntry) : Except Fail State :=
  match locate e.addr with
  | .error r => .error ⟨r, some e.addr, 0xFFFFFFFF⟩
  | .ok o =>
    let item := s.itemOf who o e.addr
    match s.accessReason who o item e.addr true e.bytes.length with
    | 0 =>
      if e.ty ≠ o.ty ∨ o.lengthOk e.bytes.length = false then .error ⟨0x0D07, some e.addr, 0xFFFFFFFF⟩
      else s.applyValue who o item e.addr e.bytes
    | r => .error ⟨r, some e.addr, 0xFFFFFFFF⟩

/-- The entries in order: the state after all of them, or the first that fails. -/
def State.writeSeq (who : Requester) : List WEntry → State → Except (WEntry × Fail) State
  | [], s => .ok s
  | e :: es, s =>
    match s.writeEntry who e with
    | .ok t => State.writeSeq who es t
    | .error f => .error (e, f)

/-- What a refused write leaves: LAST_ENABLE_REASON and LAST_ENABLE_DETAIL of a device enable that was checked (R382), the
alarm for a refused image (R390), and the boot that a failed image ends (R374). -/
def State.refusedBy (s : State) (who : Requester) (e : WEntry) (f : Fail) : State :=
  let cls := if (imageOf e.bytes).cls = 2#8 then 2 else 1
  let image := decide (f.reason = 0x0B01 ∨ f.reason = 0x0B02)
  let t := match 256 * e.addr.idx + e.addr.sub with
    | 0x200003 =>
      if e.bytes = [1#8] ∧ f.reason ≠ 0x0A02 ∧ f.reason / 256 ≠ 0x0D then
        ({ s with freeCtr := s.freeCtr + 2 }).noteEnable f.reason f.detail
      else s
    | 0x200011 => if image then (match who with | .mailbox fn => bootImage fn (imageOf e.bytes) s | _ => s) else s
    | 0xB1000B => if image then s.raise 0x0B07 cls else s
    | _ => s
  t

/-- Bytes of a WRITE message: its header and, for each entry, 8 bytes and the padded value. -/
def writeLength (es : List WEntry) : Nat := 16 + (es.map (fun e => 8 + (padded e.bytes).length)).sum

/-- WRITE: every entry or none (R348); the reply names the first entry that failed. -/
def State.writeAll (s : State) (who : Requester) (es : List WEntry) : State :=
  if !countOk es.length || decide (1400 < writeLength es) then s.refuse { reason := 0x0D12 }
  else match State.writeSeq who es s with
    | .ok t => t.answer 0
    | .error (e, f) => (s.refusedBy who e f).refuse { reason := f.reason, addr := some e.addr, detail := 0 }

/-- One value written by a requester, as a WRITE of one entry. -/
def State.writeOne (s : State) (who : Requester) (a : Addr) (t : Ty) (b : List Byte) : State := s.writeAll who [⟨a, t, b⟩]

/-! ## ENABLE (R360) -/

/-- Objects whose enable runs a check: the device's own and every "on enable" object whose name ends in _ENABLE. -/
def enableCodes : List Nat :=
  [0x200003, 0x410003, 0x414008, 0x418001, 0x440002, 0x500001, 0x601008, 0x610003, 0x620005, 0x822009, 0x824005, 0x82800A,
   0x910007, 0xA01006, 0xA40002, 0x110002, 0x311001]

/-- ENABLE: the check of the object, with failing address and detail word. -/
def State.enableReq (s : State) (who : Requester) (a : Addr) (v : Nat) : State :=
  match locate a with
  | .error r => s.refuse { reason := r, addr := some a }
  | .ok o =>
    let item := s.itemOf who o a
    if !enableCodes.contains o.code then s.refuse { reason := 0x0D15, addr := some a }
    else match s.accessReason who o item a true with
      | 0 =>
        let e : WEntry := ⟨a, .bool, leBytes 1 v⟩
        match s.applyValue who o item a e.bytes with
        | .ok t => t.answer 0
        | .error f => (s.refusedBy who e f).refuse f
      | r => s.refuse { reason := r, addr := some a }

/-! ## Segmented transfers (R359) -/

/-- Is this a snapshot of the object's item? -/
def snapIs (a : Addr) (item : Nat) (e : Addr × Nat × List Byte) : Bool := decide (e.1 = a) && decide (e.2.1 = item)

/-- The snapshot of an object's item dropped. -/
def Segments.dropRead (g : Segments) (a : Addr) (item : Nat) : Segments :=
  { g with reads := g.reads.filter (fun e => !snapIs a item e)
           readAt := g.readAt.filter (fun e => decide (e.1 ≠ a) || decide (e.2.1 ≠ item)) }

/-- The write transfer to an object's item ended. -/
def Segments.dropWrite (g : Segments) (a : Addr) (item : Nat) : Segments :=
  { g with writes := g.writes.filter (fun x => !x.is a item) }

/-- A segment of a value: total, offset, length, FINAL and data. -/
def State.segment (s : State) (who : Requester) (a : Addr) (item : Nat) (v : List Byte) (off len : Nat) : State :=
  let d := (v.drop off).take len
  let fin := decide (v.length ≤ off + d.length)
  let g := (s.segsOf who).dropRead a item
  let t := s.setSegs who (if fin then g else
    { g with reads := g.reads ++ [(a, item, v)], readAt := g.readAt ++ [(a, item, s.nowNs)] })
  t.answerData (leBytes 4 v.length ++ leBytes 4 off ++ leBytes 2 d.length ++ leBytes 2 (if fin then 1 else 0) ++ d)

/-- SEG_READ: at offset 0 a snapshot is taken; later offsets read from it. -/
def State.segReadReq (s : State) (who : Requester) (a : Addr) (off len : Nat) : State :=
  if len = 0 ∨ 1024 < len then s.refuse { reason := 0x0D12, addr := some a }
  else match locate a with
  | .error r => s.refuse { reason := r, addr := some a }
  | .ok o =>
    let item := s.itemOf who o a
    if off = 0 then
      match s.readAddr who a with
      | .ok (_, b) => s.segment who a item b 0 len
      | .error r => s.refuse { reason := r, addr := some a }
    else match (s.segsOf who).reads.find? (snapIs a item) with
      | some e => if e.2.2.length < off then s.refuse { reason := 0x0D0B, addr := some a } else s.segment who a item e.2.2 off len
      | none => s.refuse { reason := 0x0D0B, addr := some a }

/-- A segment taken into a transfer: the value is written whole at FINAL.  A segment beyond the total, or a FINAL one that does
not reach it, is refused with 0x0D0D and the transfer stands (DESIGN CHOICE: the spec gives no reason for them). -/
def State.segTake (s : State) (who : Requester) (o : Obj) (x : Transfer) (fin : Bool) (data : List Byte) : State :=
  let d := x.data ++ data
  if x.total < d.length ∨ fin = true ∧ d.length ≠ x.total then s.refuse { reason := 0x0D0D, addr := some x.addr }
  else
    let g := (s.segsOf who).dropWrite x.addr x.item
    if fin then
      let t := s.setSegs who g
      match t.applyValue who o x.item x.addr d with
      | .ok u => u.answerData (leBytes 4 d.length)
      | .error f => (t.refusedBy who ⟨x.addr, o.ty, d⟩ f).refuse { reason := f.reason, addr := some x.addr }
    else (s.setSegs who { g with writes := g.writes ++ [{ x with data := d, lastAt := s.nowNs }] }).answerData (leBytes 4 d.length)

/-- SEG_WRITE: tests 1–8 at offset 0, tests 9 and 10 at FINAL. -/
def State.segWriteReq (s : State) (who : Requester) (a : Addr) (fin : Bool) (off total : Nat) (data : List Byte) : State :=
  if data.isEmpty || decide (1024 < data.length) then s.refuse { reason := 0x0D12, addr := some a }
  else match locate a with
  | .error r => s.refuse { reason := r, addr := some a }
  | .ok o =>
    let item := s.itemOf who o a
    if off = 0 then
      match s.accessReason who o item a true 0 true with
      | 0 =>
        if !o.lengthOk total then s.refuse { reason := 0x0D07, addr := some a }
        else s.segTake who o ⟨a, item, total, [], 0⟩ fin data
      | r => s.refuse { reason := r, addr := some a }
    else match (s.segsOf who).writes.find? (fun x => x.is a item) with
      | some x => if x.data.length = off then s.segTake who o x fin data else s.refuse { reason := 0x0D0B, addr := some a }
      | none => s.refuse { reason := 0x0D0B, addr := some a }

/-- SEG_ABORT: a transfer of the requester ends without effect. -/
def State.segAbortReq (s : State) (who : Requester) (a : Addr) : State :=
  match locate a with
  | .error r => s.refuse { reason := r, addr := some a }
  | .ok o => (s.setSegs who ((s.segsOf who).dropWrite a (s.itemOf who o a))).answer 0

/-! ## INFO (R344) -/

/-- Element type and size of an ARRAY object. -/
def arrayElem (code : Nat) : Ty × Nat :=
  match code with
  | 0x41400B => (.u32, 4)
  | 0x41800C => (.u64, 8)
  | 0x430001 => (.u32, 4)
  | 0x50000C => (.u32, 4)
  | 0xB10005 => (.u32, 4)
  | 0xB2000E => (.u64, 8)
  | 0xC0000D => (.octets, 48)
  | 0xE00001 => (.octets, 32)
  | _ => (.u8, 1)

/-- Places of the terms in the lists of R13, R350 and R15. -/
def Access.place : Access → Nat
  | .ro => 0 | .rw => 1 | .wo => 2 | .rwc => 3 | .w1c => 4
def Takes.place : Takes → Nat
  | .immediately => 0 | .nextSlot => 1 | .nextImpression => 2 | .onEnable => 3 | .onRun => 4

/-- The range of a type. -/
def tyRange (t : Ty) : Int × Int :=
  match tySize t with
  | some n => if tySigned t then (-(2 ^ (8 * n - 1) : Nat), (2 ^ (8 * n - 1) : Nat) - 1) else (0, ((2 ^ (8 * n) : Nat) : Int) - 1)
  | none => (0, 0)

/-- The INFO reply (OD 0x1100.12): codes of the terms, count of an ARRAY, and default and range with their lengths. -/
def State.infoBytes (s : State) (o : Obj) (item : Nat) : List Byte :=
  let num := (tySize o.ty).isSome
  let dflt := if num then tyEncode o.ty (o.dfltAt item) else []
  let ranged := num && decide ((o.lo, o.hi) ≠ tyRange o.ty)
  let lo := if ranged then tyEncode o.ty o.lo else []
  let hi := if ranged then tyEncode o.ty o.hi else []
  let isArr := decide (o.ty = .array)
  let (et, es) := arrayElem o.code
  leBytes 1 (tyCode o.ty) ++ leBytes 1 (if isArr then tyCode et else 0) ++ leBytes 1 (Config.infoCode 0 o.access.place)
    ++ leBytes 1 (Config.infoCode 1 (if o.stored then 1 else 0)) ++ leBytes 1 (Config.infoCode 2 o.takes.place) ++ leBytes 1 0
    ++ leBytes 2 (if isArr then (s.readOct o item).length / es else 0) ++ leBytes 2 dflt.length ++ leBytes 2 lo.length
    ++ dflt ++ lo ++ hi

/-- INFO of any object. -/
def State.infoOf (s : State) (who : Requester) (a : Addr) : State :=
  match locate a with
  | .error r => s.refuse { reason := r, addr := some a }
  | .ok o => s.answerData (s.infoBytes o (s.itemOf who o a))

end Sys2Proof.Machine
end

