-- ==== Sys2Proof/Machine/Store.lean ====
section
/-!
DEFINITION. The dictionary store and RESTORE (R350–R352).
-/

namespace Sys2Proof.Machine

open Sys2Proof

/-! ## STORE (R351) -/

/-- Bytes of the value of a number object's key. -/
def keySize (k : Nat) : Nat :=
  match findObj ⟨keyIdx k, keyCode k % 256⟩ with
  | .ok o => (tySize o.ty).getD 0
  | .error _ => 0

/-- The stored values as they are written now, and their size in bytes. -/
def State.storedVal (s : State) : Tab Int := s.dict.val.filter (fun e => keyStored e.1)
def State.storedOct (s : State) : Tab (List Byte) := s.dict.oct.filter (fun e => keyStored e.1)
def State.storedBytes (s : State) : Nat :=
  (s.storedVal.map (fun e => keySize e.1)).sum + (s.storedOct.map (fun e => e.2.length)).sum

/-- STORE: the set of stored values starts being written to the older copy; refused while another is being written or
where the set exceeds 6 MiB. -/
def State.storeReq (s : State) (who : Requester) (id : Nat) : State :=
  if s.dict.storing.isSome || decide (6291456 < s.storedBytes) then s.refuse { reason := 0x0D13 }
  else
    let d := { s.dict with storing := some (who, id), storeVal := s.storedVal, storeOctets := s.storedOct }
    { s with dict := d, reply := { interim := true } }

/-- The copy is sealed, or writing it failed: the reply and the state with it. -/
def State.seal (s : State) (ok : Bool) : Reply × State :=
  let d := s.dict
  let free := { d with storing := none, storeVal := [], storeOctets := [] }
  if ok then
    let t := ({ s with dict := { free with storeA := d.storeVal, storeOct := d.storeOctets } }).bump OD.storeSequence
    ({ data := leBytes 4 (t.nat OD.storeSequence) }, t)
  else ({ reason := 0x0D13 }, ({ s with dict := free }).raise 0x0D03)

/-! ## RESTORE (R352) -/

/-- A disable that no check refuses. -/
def okOr (s : State) : Except Fail State → State
  | .ok t => t
  | .error _ => s

/-- A disable applied to items. -/
def State.disableAll (f : Nat → State → Except Fail State) (items : List Nat) (s : State) : State :=
  items.foldl (fun t k => okOr t (f k t)) s

/-- A partition taken out of every state that is not CONFIGURED or ABSENT: buffers of one that is RESETTING or FAULTED are
freed, impressions of one that is enabled or closing are aborted. -/
def State.closePart (s : State) (n : Nat) : State :=
  let x := s.part n
  let t := (s.abortPart n false)
  let t := if x.state = .resetting ∨ x.state = .faulted then (t.freePart n).clear 0x0909 n (some n) else t
  if x.state = .absent then t else (t.setPart n { state := .configured }).setFlag OD.partEnable n false

/-- A hamper disabled, its buffers released first. -/
def State.dropHamper (s : State) (h : Nat) : State := okOr s (enableHamper h 0 (s.freeBufs (s.usedOf h)))

/-- Step 2: every enabled item disabled, in descending index order. -/
def State.disableItems (s : State) : State :=
  let t := (s.parts.map (·.1)).foldl State.closePart s
  let t := ((t.host.qps.filter (fun e => decide (e.2.state ≠ .disabled))).map (·.1)).foldl State.qpDown t
  let t := State.disableAll (fun k => enableRegion k 0) (t.sec.regions.map (·.1)) t
  let t := State.disableAll (fun k => enableContext k 0) t.edge.ctxOn t
  let t := State.disableAll (fun k => enableRamp k 0) t.edge.rampsOn t
  let t := State.disableAll (fun k => enableGroup k 0) t.edge.groupsOn t
  let t := (t.fab.hampers.map (·.1)).foldl State.dropHamper t
  let t := State.disableAll (fun k => enableForme k 0) (t.galley.formes.map (·.1)) t
  let t := State.disableAll (fun k => enableCell k 0) t.galley.cellsOn t
  let t := if t.mogil.on then okOr t (enableMogil 0 t) else t
  let t := State.disableAll (fun k => enableMacsec k 0) (t.itemsTrue OD.macsecEnable) t
  let t := State.disableAll (fun k => enableFlow k 0) t.front.flowsOn t
  let t := State.disableAll (fun k => enablePort k 0) t.front.portsOn t
  (t.itemsTrue OD.ptpEnable).foldl (fun t p => writePtpEnable p 0 t) t

/-- Is the object of a key one that RESTORE sets to its default: stored, and not one the device writes? -/
def keyRestored (k : Nat) : Bool :=
  match findObj ⟨keyIdx k, keyCode k % 256⟩ with
  | .ok o => o.stored && decide (o.access ≠ .ro)
  | .error _ => false

/-- Step 3: every stored object at its default, as if written: references are disqualified, bank supplies change, every
management path is up with default addresses and the power cap is computed again. -/
def State.setDefaults (s : State) : State :=
  let later (k : Nat) : Bool := [OD.reference.code, OD.bankVoltage.code].contains (keyCode k)
  let t := { s with dict := { s.dict with
    val := s.dict.val.filter (fun e => later e.1 || !keyRestored e.1)
    oct := s.dict.oct.filter (fun e => !keyRestored e.1) } }
  let t := t.setPins { t.pins with driving := [] }
  let t := State.disableAll (fun k => writeReference k 0) ((List.range 8).filter (fun k => decide (t.nat OD.reference k ≠ 0))) t
  let t := okOr t (writeBankVoltage 0 t)
  let t := [0, 1, 2].foldl (fun t p => writeMpEnable p 1 t) t
  t.capsNow

/-- RESTORE: accepted in CONFIGURE only. -/
def State.restoreReq (s : State) : State :=
  if s.mode.mode ≠ .configure then s.refuse { reason := 0x0D06 }
  else ({ s.disableItems.setDefaults with parts := [] }).answer 0

end Sys2Proof.Machine
end

