-- ==== Sys2Proof/Machine/Pothiquin.lean ====
section
/-!
DEFINITION. Pothiquin sessions and their messages, function mailboxes, telemetry and alarm streams, SMBus (R345, R351–R366,
R452–R454), and the ends of the operations a reply waits for (R388, R403).
-/

namespace Sys2Proof.Machine

open Sys2Proof

/-! ## Sessions -/

/-- A session replaced. -/
def State.setSession (s : State) (n : Nat) (x : Session) : State :=
  { s with pot := { s.pot with sessions := Tab.set s.pot.sessions n x } }

/-- A session's own values changed, where it exists. -/
def State.onSession (s : State) (n : Nat) (f : Session → Session) : State :=
  match Tab.find s.pot.sessions n with
  | some x => s.setSession n (f x)
  | none => s

/-- A session closed (R355): its streams, transfers and select copies end with it, and no record waits for it any more. -/
def State.closeSession (s : State) (n : Nat) : State :=
  let t := { s with pot := { s.pot with sessions := Tab.del s.pot.sessions n } }
  let t := (List.range 8).foldl (fun t k => t.dropSels (.stream n k)) (t.dropSels (.session n))
  t.prune

/-- A datagram outside sessions, or a handshake over the limit (R354, R355). -/
def State.drop (s : State) : State := s.bump OD.dropped

/-! ## Requests of Table 12-4 -/

/-- Does an operation that a reply waits for still run (R388, R403)? -/
def State.waits (s : State) : Wait → Bool
  | .fuse item k v => decide (s.sec.fuse = some (item, k, v))
  | .region n => decide ((s.region n).state = .initialising)

/-- Does a request name an object of the fuses? -/
def namesFuse : Message → Bool
  | .write es => es.any (fun e => (fuseItemOf (256 * e.addr.idx + e.addr.sub)).isSome)
  | .segWrite a _ _ _ _ => (fuseItemOf (256 * a.idx + a.sub)).isSome
  | _ => false

/-- What the reply of a request waits for: the fuse write it started and the regions it enabled. -/
def newWaits (m : Message) (s t : State) : List Wait :=
  let fuse := if namesFuse m && decide (t.reply.reason = 0) then
      (match t.sec.fuse with | some (i, k, v) => [Wait.fuse i k v] | none => []) else []
  fuse ++ (t.sec.regions.filter (fun e => decide (e.2.state = .initialising ∧ (s.region e.1).state ≠ .initialising))).map
    (fun e => Wait.region e.1)

/-- A request of a requester performed; `id` identifies it among the requester's own. -/
def State.performMsg (s : State) (who : Requester) (id : Nat) : Message → State
  | .read es => s.readAll who es
  | .write es => s.writeAll who es
  | .segRead a off len => s.segReadReq who a off len
  | .segWrite a fin off total data => s.segWriteReq who a fin off total data
  | .segAbort a => s.segAbortReq who a
  | .enable a v => s.enableReq who a v
  | .info a => s.infoOf who a
  | .store => s.storeReq who id
  | .restore => s.restoreReq
  | .malformed => s.refuse { reason := 0x0D12 }
  | .hello => s.refuse { reason := 0x0D0E }
  | .subscribe => s.refuse { reason := 0x0D0E }
  | .unsubscribe => s.refuse { reason := 0x0D0E }
  | .alarmAck => s.refuse { reason := 0x0D0E }

/-- A reply kept in a session's cache, which holds the last 32 (R358). -/
def Session.keep (x : Session) (id : Nat) (r : Reply) (ws : List Wait) : Session :=
  { x with cache := ((id, r, ws) :: x.cache).take 32 }

/-- A request's reply given and kept. -/
def State.replied (s : State) (ses id : Nat) (r : Reply) : State :=
  ({ s with reply := r } : State).onSession ses (fun x => x.keep id r [])

/-- The outcome of a request kept: its reply, or what that waits for. -/
def State.finishReq (s t : State) (ses id : Nat) (m : Message) : State :=
  let ws := newWaits m s t
  let t := t.onSession ses (fun x => x.keep id t.reply ws)
  t.interimIf (!ws.isEmpty)

/-- A message of a session (R356–R358): dropped where there is no such session or its path is off; answered from the cache
where its identifier is known; refused before HELLO or with another version; else performed by `run`. -/
def State.sessionMsg (s : State) (ses id ver : Nat) (run : Session → State → State) : State :=
  match Tab.find s.pot.sessions ses with
  | none => s.drop
  | some x =>
    if !has s.pot.mpOn x.path then s.drop
    else
    let s := s.onSession ses (fun y => { y with lastAt := s.nowNs })
    match x.cache.find? (fun e => decide (e.1 = id)) with
    | some (_, r, ws) =>
      if ws.any s.waits || decide (s.dict.storing = some (.session ses, id)) then
        { s with reply := { interim := true, reason := 0x0D0A } }
      else { s with reply := r }
    | none =>
      match x.version with
      | none => s.replied ses id { reason := 0x0D11 }
      | some v => if v ≠ ver then s.replied ses id { reason := 0x0D12 } else run x s

/-- A request on the dictionary by a session. -/
def State.sessionReq (s : State) (ses ver id : Nat) (m : Message) : State :=
  s.sessionMsg ses id ver (fun _ t => State.finishReq t (t.performMsg (.session ses) id m) ses id m)

/-- READ (R356). -/
def execRead (ses ver id : Nat) (es : List Addr) (s : State) : Out := .next (s.sessionReq ses ver id (.read es))

/-- WRITE (R348). -/
def execWrite (ses ver id : Nat) (es : List WEntry) (s : State) : Out := .next (s.sessionReq ses ver id (.write es))

/-- SEG_READ (R359). -/
def execSegRead (ses ver id : Nat) (a : Addr) (off len : Nat) (s : State) : Out :=
  .next (s.sessionReq ses ver id (.segRead a off len))

/-- SEG_WRITE (R359). -/
def execSegWrite (ses ver id : Nat) (a : Addr) (fin : Bool) (off total : Nat) (data : List (BitVec 8)) (s : State) : Out :=
  .next (s.sessionReq ses ver id (.segWrite a fin off total data))

/-- SEG_ABORT (R359). -/
def execSegAbort (ses ver id : Nat) (a : Addr) (s : State) : Out := .next (s.sessionReq ses ver id (.segAbort a))

/-- Time without a segment after which a transfer ends [ns] (R359). -/
def segLimit : Nat := 10000000000

/-- Has a snapshot been without a segment for 10 s? -/
def Segments.stale (g : Segments) (now : Nat) (e : Addr × Nat × List Byte) : Bool :=
  g.readAt.any (fun r => decide (r.1 = e.1 ∧ r.2.1 = e.2.1 ∧ r.2.2 + segLimit ≤ now))

/-- SEG_TRANSFER_TIMEOUT (R359): a requester's transfers and snapshots at an address that have been 10 s without a segment end. -/
def execSegTransferTimeout (who : Requester) (a : Addr) (s : State) : Out :=
  let g := s.segsOf who
  let h : Segments := { g with
    reads := g.reads.filter (fun e => decide (e.1 ≠ a) || !g.stale s.nowNs e)
    writes := g.writes.filter (fun x => decide (x.addr ≠ a) || decide (s.nowNs < x.lastAt + segLimit))
    readAt := g.readAt.filter (fun r => decide (r.1 ≠ a) || decide (s.nowNs < r.2.2 + segLimit)) }
  .next (s.setSegs who h)

/-- INFO (R344). -/
def execInfoReq (ses ver id : Nat) (a : Addr) (s : State) : Out := .next (s.sessionReq ses ver id (.info a))

/-- STORE (R351): the reply is sent when the copy is sealed. -/
def execStore (ses ver id : Nat) (s : State) : Out := .next (s.sessionReq ses ver id .store)

/-- RESTORE (R352). -/
def execRestore (ses ver id : Nat) (s : State) : Out := .next (s.sessionReq ses ver id .restore)

/-- HELLO (R357): the highest version in both ranges; the session is closed where there is none. -/
def execHello (ses id : Nat) (lo hi : Nat) (s : State) : Out :=
  match Tab.find s.pot.sessions ses with
  | none => .next s.drop
  | some x =>
    if !has s.pot.mpOn x.path then .next s.drop
    else
    let s := s.onSession ses (fun y => { y with lastAt := s.nowNs })
    match x.cache.find? (fun e => decide (e.1 = id)) with
    | some (_, r, _) => .next { s with reply := r }
    | none =>
      let offer := s.nat OD.potVersions
      match ((List.range 8).filter (fun v => decide (max lo (bits offer 2 0) ≤ v ∧ v ≤ min hi (bits offer 5 3)))).getLast? with
      | some v => .next ((s.onSession ses (fun x => { x with version := some v })).replied ses id { data := leBytes 1 v })
      | none => .next (({ s with reply := { reason := 0x0D10 } } : State).closeSession ses)

/-! ## Telemetry streams (R361) -/

/-- Periods of the streams that would exist with one of a session replaced. -/
def State.periodsWith (s : State) (ses strm period : Nat) : List Nat :=
  period :: s.pot.sessions.flatMap (fun e =>
    (e.2.streams.filter (fun k => decide (¬ (e.1 = ses ∧ k.1 = strm)))).map (fun k => k.2.period))

/-- Do streams of these periods fit: 64 of them, 2,000 records per second? -/
def streamsFit (ps : List Nat) : Bool :=
  let r := sumFrac (ps.map (fun p => (1000, p)))
  decide (ps.length ≤ 64) && decide (r.1 ≤ 2000 * r.2)

/-- The select copies of a session taken for one of its streams. -/
def State.copySels (s : State) (ses strm : Nat) : State :=
  let t := s.dropSels (.stream ses strm)
  (s.dict.selects.filter (fun e => decide (e.1 / 16777216 = reqCode (.session ses)))).foldl
    (fun t e => t.setSel (.stream ses strm) (e.1 % 16777216) e.2) t

/-- What a SUBSCRIBE does to the device. -/
def State.subscribe (s : State) (ses strm period : Nat) (es : List Addr) : State :=
  if 8 ≤ strm ∨ es.length = 0 ∨ 32 < es.length then s.refuse { reason := 0x0D12 }
  else if period < 10 ∨ 3600000 < period then s.refuse { reason := 0x0D08 }
  else if !streamsFit (s.periodsWith ses strm period) then s.refuse { reason := 0x0D0F }
  else ((s.copySels ses strm).onSession ses (fun x =>
    { x with streams := Tab.set x.streams strm { period := period, entries := es, dueAt := s.nowNs + period * 1000000 } })).answer 0

/-- SUBSCRIBE (R361). -/
def execSubscribe (ses ver id : Nat) (stream period : Nat) (es : List Addr) (s : State) : Out :=
  .next (s.sessionMsg ses id ver (fun _ t => State.finishReq t (t.subscribe ses stream period es) ses id .subscribe))

/-- UNSUBSCRIBE (R356): the stream ends; its select copies are dropped. -/
def execUnsubscribe (ses ver id : Nat) (stream : Nat) (s : State) : Out :=
  .next (s.sessionMsg ses id ver (fun _ t =>
    let u := if 8 ≤ stream then t.refuse { reason := 0x0D12 }
      else ((t.dropSels (.stream ses stream)).onSession ses (fun x => { x with streams := Tab.del x.streams stream })).answer 0
    State.finishReq t u ses id .unsubscribe))

/-- TELEMETRY (R361): the record of a stream that falls due, the time of its samples and their READ reply entries; one that finds the
send queue full is dropped and counted into the next.  The first record falls due one period after SUBSCRIBE, and `sent` says that the
send queue has room: what the network has taken from its 64 messages is not the block's to say (DESIGN CHOICE). -/
def execTelemetry (ses stream : Nat) (sent : Bool) (s : State) : Out :=
  match (Tab.find s.pot.sessions ses).bind (fun x => Tab.find x.streams stream) with
  | none => .next s
  | some k =>
    if s.nowNs < k.dueAt then .next s
    else
    let k := { k with dueAt := k.dueAt + k.period * 1000000 }
    let body := leBytes 16 s.now.pack ++ k.entries.flatMap (s.readEntry (.stream ses stream))
    let put (k : Stream) (t : State) : State := t.onSession ses (fun x => { x with streams := Tab.set x.streams stream k })
    if sent then
      .next { put { k with next := (k.next + 1) % 2 ^ 32, dropped := 0 } s with reply := { reason := min 65535 k.dropped, data := body } }
    else .next ((put { k with next := (k.next + 1) % 2 ^ 32, dropped := k.dropped + 1 } s).raiseAtMost (60 * oneSecond) 0x0D04 ses)

/-! ## Alarm streams (R362, R452–R454) -/

/-- Codes of KIND. -/
def RecKind.code : RecKind → Nat
  | .raised => 0 | .cleared => 1 | .gap => 2 | .summary => 3

/-- The 64 bytes of an alarm record (Table 16-4). -/
def alarmRecord (r : AlarmRec) (detail : Nat) : List Byte :=
  leBytes 4 r.seq ++ leBytes 2 r.ident ++ leBytes 2 (r.sev + 8 * r.kind.code) ++ leBytes 2 r.inst
    ++ leBytes 2 (match r.part with | some p => p + 1024 | none => 0) ++ leBytes 4 r.count ++ leBytes 16 r.time ++ leBytes 32 detail

/-- The GAP record of a run of missing sequences (R453). -/
def gapRecord (first last count time : Nat) : List Byte :=
  alarmRecord ⟨last, 0x0A0F, 2, .gap, 0, none, count, time, 0⟩ (first + last % 2 ^ 32 * 2 ^ 32)

/-- Records queued that a session still waits for, in sequence order. -/
def State.queuedFor (s : State) (x : Session) : List AlarmRec :=
  ((s.alarms.critical ++ s.alarms.general).filter (fun r => x.awaits r)).foldl
    (fun l r => l.filter (fun q => decide (q.seq < r.seq)) ++ [r] ++ l.filter (fun q => decide (r.seq < q.seq))) []

/-- The leading run of missing sequences: those before any queued record that the session waits for; consecutive numbers
for a session that is due every record. -/
def runOf (all : Bool) (bound : Nat) : Nat → List Nat → List Nat
  | _, [] => []
  | prev, m :: ms => if m < bound && (!all || decide (m = prev + 1)) then m :: runOf all bound m ms else []

/-- The first sequence queued for a session after another; beyond every sequence where there is none. -/
def boundAfter (m : Nat) (q : List AlarmRec) (next : Nat) : Nat :=
  match q.find? (fun r => decide (m < r.seq)) with | some r => r.seq | none => next

/-- A record, or a GAP, sent to a session: it waits for its acknowledgement (R362). -/
def Session.send (x : Session) (seq now : Nat) : Session :=
  { x with unacked := insertN x.unacked seq, sentAt := Tab.set x.sentAt seq now, nextAlarm := max x.nextAlarm (seq + 1) }

/-- The next ALARM of a session: a SUMMARY that was not sent, else, with room in the window of 16, the GAP or the record that
stands next in sequence order. -/
def State.nextAlarm (s : State) (ses : Nat) (x : Session) : State :=
  match x.summary with
  | some b => (s.setSession ses { x with summary := none }).answerData b
  | none =>
    let q := s.queuedFor x
    let rec? := q.find? (fun r => decide (x.nextAlarm ≤ r.seq))
    if 16 ≤ x.unacked.length then s
    else match x.missing, rec? with
      | [], none => s
      | [], some r =>
        (s.setSession ses (x.send r.seq s.nowNs)).answerData (alarmRecord r r.detail)
      | m :: ms, _ =>
        if (match rec? with | some r => decide (r.seq < m) | none => false) then
          match rec? with
          | some r =>
            (s.setSession ses (x.send r.seq s.nowNs)).answerData (alarmRecord r r.detail)
          | none => s
        else
          let run := m :: runOf (decide (x.role ≠ 1)) (boundAfter m q (s.alarms.nextSeq + 1)) m ms
          let last := run.getLastD m
          let time := s.now.pack
          (s.setSession ses { x.send last s.nowNs with
            gaps := Tab.set x.gaps last (m, run.length, time)
            missing := x.missing.filter (fun k => !has run k) }).answerData (gapRecord m last run.length time)

/-- ALARM (R362). -/
def execAlarm (ses : Nat) (s : State) : Out :=
  match Tab.find s.pot.sessions ses with
  | some x => .next (s.nextAlarm ses x)
  | none => .next s

/-- ALARM_RESEND (R362): an ALARM that has waited 1 s for its acknowledgement is sent again. -/
def execAlarmResend (ses seq : Nat) (s : State) : Out :=
  match Tab.find s.pot.sessions ses with
  | none => .next s
  | some x =>
    if !has x.unacked seq || decide (s.nowNs < Tab.get 0 x.sentAt seq + oneSecond) then .next s
    else
      let t := s.setSession ses { x with sentAt := Tab.set x.sentAt seq s.nowNs }
      match Tab.find x.gaps seq with
      | some (first, count, time) => .next (t.answerData (gapRecord first seq count time))
      | none =>
        match (s.alarms.critical ++ s.alarms.general).find? (fun r => decide (r.seq = seq)) with
        | some r => .next (t.answerData (alarmRecord r r.detail))
        | none => .next s

/-- ALARM_ACK (R362): a record, or a GAP, is acknowledged with its sequence; sequence 0 is ignored. -/
def execAlarmAck (ses : Nat) (seq : Nat) (s : State) : Out :=
  match Tab.find s.pot.sessions ses with
  | none => .next s.drop
  | some x =>
    if x.version = none then .next (s.refuse { reason := 0x0D11 })
    else if seq = 0 then .next s
    else .next (s.setSession ses { x with
      unacked := removeN x.unacked seq, gaps := Tab.del x.gaps seq, sentAt := Tab.del x.sentAt seq, lastAt := s.nowNs }).prune

/-- The SUMMARY record of the second that has ended (R454). -/
def State.summaryBytes (s : State) : List Byte :=
  let a := s.alarms
  let raises := ((List.range 5).map (fun k => Tab.get 0 a.secRaises (k + 1) * 2 ^ (16 * k))).sum
  let detail := raises + a.secLost * 2 ^ 80 + a.secDropped * 2 ^ 112 + min 65535 a.activeCount * 2 ^ 144
  alarmRecord ⟨0, 0, a.highest, .summary, 0, none, 0, s.nowSec, 0⟩ detail

/-- SUMMARY (R454): at a whole second every session is given it, in place of one not sent yet; the counts of the second start
anew. -/
def execSummary (s : State) : Out :=
  if s.nowSec = s.alarms.summarySec then .next s
  else
    let b := s.summaryBytes
    .next { s with
      pot := { s.pot with sessions := Tab.mapV (fun _ (x : Session) => { x with summary := some b }) s.pot.sessions }
      alarms := { s.alarms with secRaises := [], secLost := 0, secDropped := 0, summarySec := s.nowSec } }

/-! ## Function mailboxes (R363) -/

/-- A mailbox's reply written, DONE set and, with IRQ set, its vector raised where it lies below MSIX_QUOTA (R329); the function of
no partition may use all 64 (DESIGN CHOICE: no quota is its own). -/
def State.deliverBox (s : State) (f seq : Nat) (vec : Option Nat) (r : Reply) : State :=
  let t := s.setFn f { s.fn f with mbRunning := none, mbWait := [], mbDone := true, mbSeq := seq, mbReply := r }
  match vec with
  | some v =>
    let quota := match t.partOfFn f with | some p => t.govN OD.msixQuota p | none => 64
    if v < quota then t.msix f v else t
  | none => t

/-- Mailboxes whose reply waited for what has ended are answered. -/
def State.finishBoxes (s : State) : State :=
  s.host.fns.foldl (fun t e =>
    match e.2.mbRunning with
    | some (seq, vec) => if !e.2.mbWait.isEmpty && !e.2.mbWait.any t.waits then t.deliverBox e.1 seq vec {} else t
    | none => t) s

/-- MAILBOX_GO (R363): ignored and counted while a request runs. -/
def execMailboxGo (fn seq : Nat) (irq : Bool) (vec : Nat) (m : Message) (s : State) : Out :=
  if !(s.fnExists fn && (s.fn fn).mse && !(s.fn fn).inFlr) || decide (s.mode.mode = .off) then .next s
  else
    let s := s.finishBoxes
    let v := if irq then some vec else none
    if (s.fn fn).mbRunning.isSome then .next (s.bump OD.mbIgnored)
    else
      let t := if (s.roleOf (.mailbox fn)).isNone then s.refuse { reason := 0x0D14 } else s.performMsg (.mailbox fn) seq m
      let ws := newWaits m s t
      if !ws.isEmpty || decide (s.dict.storing = none ∧ t.dict.storing = some (.mailbox fn, seq)) then
        .next ((t.setFn fn { t.fn fn with mbRunning := some (seq, v), mbWait := ws, mbDone := false }).interimIf true)
      else .next (t.deliverBox fn seq v t.reply)

/-- STORE_SEALED (R351): the reply of the STORE is sent. -/
def execStoreSealed (ok : Bool) (s : State) : Out :=
  match s.dict.storing with
  | none => .next s
  | some (who, id) =>
    let (r, t) := s.seal ok
    let t := { t with reply := r }
    match who with
    | .session ses => .next (t.onSession ses (fun x => { x with cache := x.cache.map (fun e => if e.1 = id then (id, r, []) else e) }))
    | .mailbox f =>
      match (t.fn f).mbRunning with
      | some (seq, vec) => .next (if seq = id ∧ (t.fn f).mbWait = [] then t.deliverBox f seq vec r else t)
      | none => .next t
    | _ => .next t

/-- FUSE_WRITE_COMPLETE (R388): the bits are blown and read back; the reply of the write is sent. -/
def execFuseWriteComplete (s : State) : Out := .next s.fuseDone.finishBoxes

/-- REGION_INIT_DONE (R403): every line holds encrypted zeros, counters and versions are 0, the generation is 1; the reply of
the enable is sent.  A re-key whose token was granted meanwhile starts (R405). -/
def execRegionInitDone (region : Nat) (s : State) : Out :=
  let r := s.region region
  if r.state = .initialising then
    let t := ({ s with mem := Memory.zero s.mem r.base r.size }).setRegion region
      { r with state := .active, generation := 1, lineCtr := [], version := [], blockGen := [], lineMac := [], blockMac := [] }
    let t := (t.unpoison r.base r.size).unpoison r.metaBase r.metaSize
    let t := if t.holdsToken 1 region then t.startRekey region else t
    .next (t.answer 0).finishBoxes
  else .next s

/-! ## Handshakes (R354, R355) -/

/-- CLIENT_HELLO (R354, R355): a first ClientHello is answered with a cookie and counts as a start, at most 16 per second of
a path; one that carries the cookie goes on.  The rate is counted per whole second of the timebase (DESIGN CHOICE). -/
def execClientHello (path : Nat) (cookie : Bool) (s : State) : Out :=
  if !has s.pot.mpOn path || decide (s.mode.mode = .off) then .next s.drop
  else if cookie then .next { s with pot := { s.pot with pending := s.pot.pending ++ [path] } }
  else
    let n := match Tab.find s.pot.starts path with
      | some (sec, n) => if sec = s.nowSec then n else 0
      | none => 0
    if 16 ≤ n then .next s.drop
    else .next { s with pot := { s.pot with starts := Tab.set s.pot.starts path (s.nowSec, n + 1) } }

/-- HANDSHAKE_COMPLETE (R354, R355): a session opens where its number is free, fewer than MAX_SESSIONS are open, the
certificate chains to a trust anchor and an enabled role entry holds the digest of its key. -/
def execHandshakeComplete (path ses : Nat) (chainOk : Bool) (keyDigest : List (BitVec 8)) (s : State) : Out :=
  if !has s.pot.pending path then .next s.drop
  else if (Tab.find s.pot.sessions ses).isSome then .next s
  else
    let t := { s with pot := { s.pot with pending := s.pot.pending.erase path } }
    if t.nat OD.maxSessions ≤ t.pot.sessions.length then .next (t.drop.raise 0x0D02)
    else match if chainOk then t.roleEntries.find? (fun k => decide ((t.oct OD.roleEntry k).take 48 = keyDigest)) else none with
      | none => .next ((t.bump OD.authFailures).raiseAtMost oneSecond 0x0D01 path)
      | some k =>
        let e := t.oct OD.roleEntry k
        let x : Session := { path := path, role := roleOfEntry e, part := entryPart e, nextAlarm := t.alarms.nextSeq, lastAt := t.nowNs }
        .next (t.setSession ses x)

/-- SESSION_IDLE_TIMEOUT (R355): a session without a valid record for SESSION_IDLE is closed. -/
def execSessionIdleTimeout (ses : Nat) (s : State) : Out :=
  match Tab.find s.pot.sessions ses with
  | some x => .next (if x.lastAt + s.nat OD.sessionIdle * oneSecond ≤ s.nowNs then s.closeSession ses else s)
  | none => .next s

/-! ## SMBus (R364, R365) -/

/-- SMB_POINTER_WRITE (command 0x10). -/
def execSmbPointerWrite (a : Addr) (s : State) : Out :=
  if s.mode.mode = .off then .next s else .next { s with pot := { s.pot with smbPtr := some a } }

/-- SMB_VALUE_READ (command 0x11): type code and at most 31 bytes of the value, or 0x7F and the reason. -/
def execSmbValueRead (s : State) : Out :=
  if s.mode.mode = .off then .next s
  else match (match s.pot.smbPtr with | some a => s.readAddr .smbus a | none => .error 0x0D01) with
  | .ok (t, b) => .next (s.answerData (leBytes 1 (tyCode t + (if 31 < b.length then 128 else 0)) ++ b.take 31))
  | .error r => .next (s.answerData (leBytes 1 0x7F ++ leBytes 2 r))

/-- SMB_STATUS_READ (command 0x12): mode, highest active severity, junction temperature, package power and VIN. -/
def execSmbStatusRead (s : State) : Out :=
  if s.mode.mode = .off then .next s
  else .next (s.answerData (leBytes 1 s.mode.mode.code ++ leBytes 1 s.alarms.highest ++ leBytes 2 (unsigned 16 s.power.tj)
    ++ leBytes 2 (s.nat OD.powerNow) ++ leBytes 2 (s.nat OD.vinNow)))

/-- SMB_TIMEOUT (R364, R365): the port is reset, its pointer with it. -/
def execSmbTimeout (s : State) : Out := .next { s with pot := { s.pot with smbPtr := none } }

/-! ## Writes named by their own commands -/

/-- ROLE_ENTRY (R366). -/
def execRoleEntry (who : Requester) (bytes : List (BitVec 8)) (s : State) : Out :=
  .next (s.writeOne who OD.roleEntry.addr .octets bytes)

/-- W1C_WRITE (R14): a write to a W1C object clears the bits written as 1, but for those of `setNow`, which hardware sets in
the same cycle: they stay set. -/
def execW1cWrite (who : Requester) (a : Addr) (v : Nat) (setNow : Nat) (s : State) : Out :=
  match locate a with
  | .ok o => .next (if o.access = .w1c then s.writeOne who a o.ty (tyEncode o.ty ((v - (v &&& setNow) : Nat) : Int)) else s)
  | .error _ => .next s

/-- MP_ENABLE (R366). -/
def execMpEnable (who : Requester) (v : Nat) (s : State) : Out :=
  .next (s.actSel who OD.mpEnable v (fun p t => .ok (writeMpEnable p v t)))

end Sys2Proof.Machine
end

