-- ==== Sys2Proof/Machine/VxWord.lean ====
section
/-!
DEFINITION. The encodings of the vector instruction set (R146–R150, R168–R172): which instruction a word of the
custom-0 and custom-1 opcodes is, and its execution.  Every code a table leaves reserved raises an illegal-instruction
exception (R147).
-/

namespace Sys2Proof.Machine

open Sys2Proof

/-- Fields of a word. -/
def f5 (w lo : Nat) : BitVec 5 := BitVec.ofNat 5 (bits w (lo + 4) lo)
def f3 (w lo : Nat) : BitVec 3 := BitVec.ofNat 3 (bits w (lo + 2) lo)
def f2 (w lo : Nat) : BitVec 2 := BitVec.ofNat 2 (bits w (lo + 1) lo)

/-- An illegal instruction on a core that executes. -/
def illegalWord (core w : Nat) (s : State) : Out := .next (s.vrun core w (fun _ => none))

/-- The operands of the formats VV; VX and VI; and VR (Table 05-1). -/
def wordVV (core w : Nat) : VV := ⟨core, bit w 25, f3 w 12, f5 w 7, f5 w 15, f5 w 20⟩
def wordVX (core w : Nat) : VV := ⟨core, bit w 28, f3 w 25, f5 w 7, f5 w 15, f5 w 20⟩
def wordVR (core w : Nat) : VV := ⟨core, bit w 30, f3 w 27, f5 w 7, f5 w 15, f5 w 20⟩

/-- Those of a sub-operation, of a compare and of a load or store. -/
def wordVU (core w : Nat) : VU := ⟨core, bit w 25, f3 w 12, f5 w 7, f5 w 15⟩
def wordVC (core w : Nat) : VC := ⟨core, bit w 25, f3 w 12, f3 w 7, f2 w 10, f5 w 15, f5 w 20⟩
def wordMem (core w nf : Nat) : VMem := ⟨core, bit w 28, f3 w 25, f5 w 7, f5 w 15, f5 w 20, nf⟩

/-- vunary, vfunary and vred (Table 05-4). -/
def runUnary (core w : Nat) (s : State) : Out :=
  let o := wordVU core w
  match bits w 24 20 with
  | 0 => execVneg o s | 1 => execVnegs o s | 2 => execVabs o s | 3 => execVabss o s | 4 => execVnot o s
  | 5 => execVclz o s | 6 => execVcpop o s | 7 => execVconj o s | 8 => execVconjs o s
  | _ => illegalWord core w s
def runFunary (core w : Nat) (s : State) : Out :=
  let o := wordVU core w
  match bits w 24 20 with
  | 0 => execVfcvtFX o s | 1 => execVfcvtXF o s | 2 => execVfcvtXFRtz o s | 3 => execVfneg o s | 4 => execVfabs o s
  | _ => illegalWord core w s
def runRed (core w : Nat) (s : State) : Out :=
  let o := wordVU core w
  match bits w 24 20 with
  | 0 => execVredsum o s | 1 => execVredsums o s | 2 => execVredmax o s | 3 => execVredmin o s
  | 4 => execVredcsums o s | 5 => execVfredsum o s | 6 => execVfredmax o s | 7 => execVfredmin o s
  | _ => illegalWord core w s

/-- A word of custom-0 (Table 05-3). -/
def runVV (core w : Nat) (s : State) : Out :=
  let o := wordVV core w
  let c := wordVC core w
  let r := f2 w 26
  match bits w 31 26 with
  | 0x00 => execVadd o s | 0x01 => execVsub o s | 0x02 => execVadds o s | 0x03 => execVsubs o s
  | 0x04 => execVmul o s | 0x05 => execVmulh o s | 0x06 => execVmacc o s | 0x07 => execVnmsac o s
  | 0x08 => execVdiv o s | 0x09 => execVdivs o s | 0x0A => execVrem o s
  | 0x0B => execVand o s | 0x0C => execVor o s | 0x0D => execVxor o s | 0x0E => execVsll o s | 0x0F => execVsra o s
  | 0x10 => execVmulhr o r s | 0x11 => execVmulhr o r s | 0x12 => execVmulhr o r s
  | 0x14 => execVcmulr o r s | 0x15 => execVcmulr o r s | 0x16 => execVcmulr o r s
  | 0x18 => execVcmacr o r s | 0x19 => execVcmacr o r s | 0x1A => execVcmacr o r s
  | 0x1C => execVcmulcr o r s | 0x1D => execVcmulcr o r s | 0x1E => execVcmulcr o r s
  | 0x20 => execVfadd o s | 0x21 => execVfsub o s | 0x22 => execVfmul o s | 0x23 => execVfdiv o s
  | 0x24 => execVfma o s | 0x25 => execVfnms o s | 0x26 => execVfmin o s | 0x27 => execVfmax o s
  | 0x28 => execVfcmul o s | 0x29 => execVfcmac o s | 0x2A => runFunary core w s
  | 0x30 => execVsrl o s | 0x31 => execVmin o s | 0x32 => execVmax o s | 0x33 => runUnary core w s
  | 0x34 => execVcmp c s | 0x35 => execVcmpu c s | 0x36 => execVfcmp c s | 0x37 => execVsel o s
  | 0x38 => execVperm o s | 0x39 => runRed core w s
  | _ => illegalWord core w s

/-- The scalar and immediate forms, funct3 0 to 3 (Table 05-5). -/
def runScalarForms (core w : Nat) (s : State) : Out :=
  let x := wordVX core w
  let v := wordVR core w
  let r := f2 w 25
  match bits w 14 12 * 8 + bits w 31 29 with
  | 0 => execVaddX x s | 1 => execVsubX x s | 2 => execVrsubX x s | 3 => execVmulX x s
  | 4 => execVmaccX x s | 5 => execVsllX x s | 6 => execVsraX x s | 7 => execVsrlX x s
  | 8 => execVsllI x s | 9 => execVsraI x s | 10 => execVsrlI x s | 11 => execVslidednI x s
  | 12 => execVslideupI x s | 13 => execVaddI x s | 14 => execVbfden x s | 15 => execVbfexp x s
  | k =>
    if k < 20 then execVsrarI v r s else if k < 24 then execVnclipI v r s
    else if k < 28 then execVbfnorm v r s else execVsrarV v r s

/-- Loads and stores, funct3 4 and 5: NF and FF from SUB under MOP 0 (Tables 05-1, 05-5). -/
def runMem (core w : Nat) (s : State) : Out :=
  let st := decide (bits w 14 12 = 5)
  let nf := bits w 21 20 + 1
  let m1 := wordMem core w 1
  match bits w 31 29 with
  | 0 =>
    let m := wordMem core w nf
    if bits w 24 23 ≠ 0 ∨ (st && bit w 22) = true then illegalWord core w s
    else if st then (if nf = 1 then execVse m s else execVsseg m s)
    else if bit w 22 then (if nf = 1 then execVleff m s else execVlsegff m s)
    else if nf = 1 then execVle m s else execVlseg m s
  | 1 => if st then execVsse m1 s else execVlse m1 s
  | 2 => if st then execVsxe m1 s else execVlxe m1 s
  | 6 => illegalWord core w s
  | 7 => illegalWord core w s
  | k => let m := wordMem core w (k - 1); if st then execVssseg m s else execVlsseg m s

/-- Configuration, predicates and moves, funct3 6 (Table 05-8). -/
def runCfg (core w : Nat) (s : State) : Out :=
  let c := f5 w 7
  let b := f5 w 15
  let a := f5 w 20
  if !bit w 31 then execVsetvli core c b (BitVec.ofNat 11 (bits w 30 20)) s
  else match bits w 30 25 with
    | 0 => execVsetvl core c b a s
    | 1 => execVmvVX core c b s
    | 2 => execVmvXV core c b a s
    | 3 => execVmvVV core c b s
    | 4 => execVpand core c b a s
    | 5 => execVpor core c b a s
    | 6 => execVpxor core c b a s
    | 7 => execVpandn core c b a s
    | 8 => execVpcnt core c b s
    | 9 => execVpfirst core c b s
    | 10 => execVpvl core c b s
    | _ => illegalWord core w s

/-- Operation A of a coprocessor (Table 05-10). -/
def runCpOp (core w : Nat) (s : State) : Out :=
  let b := f5 w 15
  let c := f5 w 7
  match bits w 26 25 * 32 + bits w 24 20 with
  | 0 => execCp0Ginit core b c s | 1 => execCp0Gold core b c s | 2 => execCp0Gskip core b c s | 3 => execCp0Zc core b c s
  | 32 => execCp1Crcsel core b c s | 33 => execCp1Crc core b c s | 34 => execCp1Crcget core b c s
  | 35 => execCp1Trellis core b c s
  | 64 => execCp2Rcp core b c s | 65 => execCp2Rsqrt core b c s | 66 => execCp2Log2 core b c s
  | 67 => execCp2Exp2 core b c s | 68 => execCp2Sin core b c s | 69 => execCp2Cos core b c s
  | 70 => execCp2Atan2 core b c s
  | _ => .next (s.cpRun core (bits w 26 25) (BitVec.ofNat 64 w) (fun _ => false) (fun t => t))

/-- System and coprocessor instructions, funct3 7 (Table 05-9). -/
def runSys (core w : Nat) (s : State) : Out :=
  let c := f5 w 7
  let b := f5 w 15
  let a := f5 w 20
  let n := f2 w 25
  match bits w 31 27 with
  | 0 => execVxWfs core a b c n s
  | 1 => execVxDone core a b c n s
  | 2 => execVcpMvto core a b c n s
  | 3 => execVcpMvfrom core a b c n s
  | 4 => execVcpClear core a b c n s
  | 5 => runCpOp core w s
  | _ => illegalWord core w s

/-- Is a word one of the custom-0 or custom-1 major opcodes (R110, R146)? -/
def customWord (w : Nat) : Bool := decide (bits w 6 0 = 0x0B) || decide (bits w 6 0 = 0x2B)

/-- A word of the custom opcodes executed (Table 05-1). -/
def runCustom (core w : Nat) (s : State) : Out :=
  if bits w 6 0 = 0x0B then runVV core w s
  else if bits w 14 12 < 4 then runScalarForms core w s
  else if bits w 14 12 < 6 then runMem core w s
  else if bits w 14 12 = 6 then runCfg core w s
  else runSys core w s

end Sys2Proof.Machine
end

