-- ==== Sys2Proof/Machine/VxScalar.lean ====
section
/-!
DEFINITION. Scalar instructions of a VX core (R145): RV64IMC as the RISC-V unprivileged and privileged
specifications define it.
-/

namespace Sys2Proof.Machine

open Sys2Proof

/-! ## Compressed instructions as full words (RV64C; PRESUMED from the RISC-V specification) -/

/-- Words of the R, I, S, B, U and J formats. -/
def encR (f7 rs2 rs1 f3 rd op : Nat) : Nat := f7 * 2 ^ 25 + rs2 * 2 ^ 20 + rs1 * 2 ^ 15 + f3 * 2 ^ 12 + rd * 2 ^ 7 + op
def encI (imm : Int) (rs1 f3 rd op : Nat) : Nat := unsigned 12 imm * 2 ^ 20 + rs1 * 2 ^ 15 + f3 * 2 ^ 12 + rd * 2 ^ 7 + op
def encS (imm : Int) (rs2 rs1 f3 op : Nat) : Nat :=
  let i := unsigned 12 imm
  bits i 11 5 * 2 ^ 25 + rs2 * 2 ^ 20 + rs1 * 2 ^ 15 + f3 * 2 ^ 12 + bits i 4 0 * 2 ^ 7 + op
def encB (imm : Int) (rs2 rs1 f3 : Nat) : Nat :=
  let i := unsigned 13 imm
  bits i 12 12 * 2 ^ 31 + bits i 10 5 * 2 ^ 25 + rs2 * 2 ^ 20 + rs1 * 2 ^ 15 + f3 * 2 ^ 12 + bits i 4 1 * 2 ^ 8
    + bits i 11 11 * 2 ^ 7 + 0x63
def encJ (imm : Int) (rd : Nat) : Nat :=
  let i := unsigned 21 imm
  bits i 20 20 * 2 ^ 31 + bits i 10 1 * 2 ^ 21 + bits i 11 11 * 2 ^ 20 + bits i 19 12 * 2 ^ 12 + rd * 2 ^ 7 + 0x6F

/-- The signed immediate of CI format: bits 12 and 6:2. -/
def ciImm (w : Nat) : Int := signed 6 (bits w 12 12 * 32 + bits w 6 2)

/-- The offset of C.J, and of C.BEQZ and C.BNEZ. -/
def cjImm (w : Nat) : Int :=
  signed 12 (bits w 12 12 * 2048 + bits w 11 11 * 16 + bits w 10 9 * 256 + bits w 8 8 * 1024 + bits w 7 7 * 64
    + bits w 6 6 * 128 + bits w 5 3 * 2 + bits w 2 2 * 32)
def cbImm (w : Nat) : Int :=
  signed 9 (bits w 12 12 * 256 + bits w 11 10 * 8 + bits w 6 5 * 64 + bits w 4 3 * 2 + bits w 2 2 * 32)

/-- Quadrant 0. -/
def expand0 (w : Nat) : Option Nat :=
  let rd' := 8 + bits w 4 2
  let rs1' := 8 + bits w 9 7
  let off4 := bits w 12 10 * 8 + bits w 6 6 * 4 + bits w 5 5 * 64
  let off8 := bits w 12 10 * 8 + bits w 6 5 * 64
  match bits w 15 13 with
  | 0 =>
    let imm := bits w 12 11 * 16 + bits w 10 7 * 64 + bits w 6 6 * 4 + bits w 5 5 * 8
    if imm = 0 then none else some (encI imm 2 0 rd' 0x13)
  | 2 => some (encI off4 rs1' 2 rd' 0x03)
  | 3 => some (encI off8 rs1' 3 rd' 0x03)
  | 6 => some (encS off4 rd' rs1' 2 0x23)
  | 7 => some (encS off8 rd' rs1' 3 0x23)
  | _ => none

/-- The arithmetic group of quadrant 1. -/
def expandArith (w : Nat) : Option Nat :=
  let r := 8 + bits w 9 7
  let r2 := 8 + bits w 4 2
  let sh := bits w 12 12 * 32 + bits w 6 2
  match bits w 11 10 with
  | 0 => some (encI sh r 5 r 0x13)
  | 1 => some (encI (1024 + sh : Nat) r 5 r 0x13)
  | 2 => some (encI (ciImm w) r 7 r 0x13)
  | _ =>
    match bits w 12 12 * 4 + bits w 6 5 with
    | 0 => some (encR 32 r2 r 0 r 0x33)
    | 1 => some (encR 0 r2 r 4 r 0x33)
    | 2 => some (encR 0 r2 r 6 r 0x33)
    | 3 => some (encR 0 r2 r 7 r 0x33)
    | 4 => some (encR 32 r2 r 0 r 0x3B)
    | 5 => some (encR 0 r2 r 0 r 0x3B)
    | _ => none

/-- Quadrant 1. -/
def expand1 (w : Nat) : Option Nat :=
  let rd := bits w 11 7
  match bits w 15 13 with
  | 0 => some (encI (ciImm w) rd 0 rd 0x13)
  | 1 => if rd = 0 then none else some (encI (ciImm w) rd 0 rd 0x1B)
  | 2 => some (encI (ciImm w) 0 0 rd 0x13)
  | 3 =>
    if rd = 2 then
      let i := signed 10 (bits w 12 12 * 512 + bits w 6 6 * 16 + bits w 5 5 * 64 + bits w 4 3 * 128 + bits w 2 2 * 32)
      if i = 0 then none else some (encI i 2 0 2 0x13)
    else if ciImm w = 0 then none
    else some (unsigned 20 (ciImm w) * 2 ^ 12 + rd * 2 ^ 7 + 0x37)
  | 4 => expandArith w
  | 5 => some (encJ (cjImm w) 0)
  | 6 => some (encB (cbImm w) 0 (8 + bits w 9 7) 0)
  | _ => some (encB (cbImm w) 0 (8 + bits w 9 7) 1)

/-- Quadrant 2. -/
def expand2 (w : Nat) : Option Nat :=
  let rd := bits w 11 7
  let r2 := bits w 6 2
  match bits w 15 13 with
  | 0 => some (encI (bits w 12 12 * 32 + r2 : Nat) rd 1 rd 0x13)
  | 2 => if rd = 0 then none else some (encI (bits w 12 12 * 32 + bits w 6 4 * 4 + bits w 3 2 * 64 : Nat) 2 2 rd 0x03)
  | 3 => if rd = 0 then none else some (encI (bits w 12 12 * 32 + bits w 6 5 * 8 + bits w 4 2 * 64 : Nat) 2 3 rd 0x03)
  | 4 =>
    if bit w 12 = false then
      if r2 = 0 then (if rd = 0 then none else some (encI 0 rd 0 0 0x67)) else some (encR 0 r2 0 0 rd 0x33)
    else if r2 = 0 then (if rd = 0 then some 0x00100073 else some (encI 0 rd 0 1 0x67))
    else some (encR 0 r2 rd 0 rd 0x33)
  | 6 => some (encS (bits w 12 9 * 4 + bits w 8 7 * 64 : Nat) r2 2 2 0x23)
  | 7 => some (encS (bits w 12 10 * 8 + bits w 9 7 * 64 : Nat) r2 2 3 0x23)
  | _ => none

/-- The full word of a 16-bit instruction; none where it is reserved or of an extension the core lacks. -/
def expand (w : Nat) : Option Nat :=
  match w % 4 with
  | 0 => expand0 w
  | 1 => expand1 w
  | _ => expand2 w

/-! ## Arithmetic -/

/-- The low 32 bits, sign-extended. -/
def sext32 (v : BitVec 64) : BitVec 64 := (v.setWidth 32).signExtend 64

/-- OP and OP-IMM on 64 bits; `alt` selects SUB and SRA. -/
def alu (f3 : Nat) (alt : Bool) (a b : BitVec 64) : BitVec 64 :=
  match f3 with
  | 0 => if alt then a - b else a + b
  | 1 => a <<< (b.toNat % 64)
  | 2 => if a.slt b then 1#64 else 0#64
  | 3 => if a.ult b then 1#64 else 0#64
  | 4 => a ^^^ b
  | 5 => if alt then a.sshiftRight (b.toNat % 64) else a >>> (b.toNat % 64)
  | 6 => a ||| b
  | _ => a &&& b

/-- OP-32 and OP-IMM-32: the low 32 bits of the operands. -/
def aluW (f3 : Nat) (alt : Bool) (a b : BitVec 64) : BitVec 64 :=
  let x := a.setWidth 32
  let k := b.toNat % 32
  match f3 with
  | 0 => sext32 (if alt then a - b else a + b)
  | 1 => (x <<< k).signExtend 64
  | _ => (if alt then x.sshiftRight k else x >>> k).signExtend 64

/-- The M extension on `w` bits: a division by zero gives all ones and the dividend, an overflow the dividend
and 0. -/
def mulDiv (w f3 : Nat) (a b : Nat) : Nat :=
  let x := signed w a
  let y := signed w b
  let u := a % 2 ^ w
  let z := b % 2 ^ w
  match f3 with
  | 0 => unsigned w (x * y)
  | 1 => unsigned w (x * y / (2 ^ w : Nat))
  | 2 => unsigned w (x * z / (2 ^ w : Nat))
  | 3 => u * z / 2 ^ w
  | 4 => if z = 0 then 2 ^ w - 1 else unsigned w (x.tdiv y)
  | 5 => if z = 0 then 2 ^ w - 1 else u / z
  | 6 => if z = 0 then u else unsigned w (x.tmod y)
  | _ => if z = 0 then u else u % z

/-- The condition of a branch; none for a reserved code. -/
def branchTaken (f3 : Nat) (a b : BitVec 64) : Option Bool :=
  match f3 with
  | 0 => some (a == b)
  | 1 => some (a != b)
  | 4 => some (a.slt b)
  | 5 => some (!a.slt b)
  | 6 => some (a.ult b)
  | 7 => some (!a.ult b)
  | _ => none

/-! ## Execution -/

/-- The immediates of the I, S, B, U and J formats. -/
def immI (w : Nat) : Int := signed 12 (bits w 31 20)
def immS (w : Nat) : Int := signed 12 (bits w 31 25 * 32 + bits w 11 7)
def immB (w : Nat) : Int :=
  signed 13 (bits w 31 31 * 4096 + bits w 7 7 * 2048 + bits w 30 25 * 32 + bits w 11 8 * 2)
def immU (w : Nat) : Int := signed 32 (bits w 31 12 * 4096)
def immJ (w : Nat) : Int :=
  signed 21 (bits w 31 31 * 1048576 + bits w 19 12 * 4096 + bits w 20 20 * 2048 + bits w 30 21 * 2)

/-- An integer as a register value. -/
def i64 (v : Int) : BitVec 64 := BitVec.ofInt 64 v

/-- A core that has run an instruction of `len` bytes. -/
def Core.after (c : Core) (len : Nat) : Core := { c.count with pc := c.pc + BitVec.ofNat 64 len }

/-- A load (misaligned: cause 4; refused: cause 5). -/
def State.scalarLoad (s : State) (v f3 : Nat) (rd : BitVec 5) (a : BitVec 64) (len raw : Nat) : State :=
  let n := 2 ^ (f3 % 4)
  if f3 = 7 then s.illegal v raw
  else if a.toNat % n ≠ 0 then s.trapCore v (s.core v) false 4 a
  else match s.vxRead v a.toNat n with
    | (some m, t) =>
      let (x, t) := t.cacheRead v a.toNat n m
      let r := if f3 < 4 then i64 (signed (8 * n) x) else BitVec.ofNat 64 x
      t.setCore v (((t.core v).setX rd r).after len)
    | (none, t) => t.trapCore v (t.core v) false 5 a

/-- A store (misaligned: cause 6; refused: cause 7). -/
def State.scalarStore (s : State) (v f3 : Nat) (a x : BitVec 64) (len raw : Nat) : State :=
  let n := 2 ^ f3
  if 3 < f3 then s.illegal v raw
  else if a.toNat % n ≠ 0 then s.trapCore v (s.core v) false 6 a
  else match s.vxWrite v a.toNat n (x.toNat % 2 ^ (8 * n)) with
    | (true, t) => t.setCore v (((t.core v).cacheWrite ((s.core v).cachedLine a.toNat) a.toNat n x.toNat).after len)
    | (false, t) => t.trapCore v (t.core v) false 7 a

/-- SYSTEM: ecall, ebreak, mret, sret, wfi, sfence.vma and the CSR instructions.  wfi ends at once, which the
RISC-V specification permits. -/
def State.scalarSystem (s : State) (v w len raw : Nat) : State :=
  let c := s.core v
  let rd := BitVec.ofNat 5 (bits w 11 7)
  let rs1 := BitVec.ofNat 5 (bits w 19 15)
  match bits w 14 12 with
  | 0 =>
    if w = 0x00000073 then s.trapCore v c false (8 + c.priv.code) 0#64
    else if w = 0x00100073 then
      let (k, t) := s.draw
      t.trapCore v c false 3 (if Config.free k % 2 = 1 then c.pc else 0#64)
    else if w = 0x30200073 then (if c.mayXret true then s.setCore v (c.xret true).count else s.illegal v raw)
    else if w = 0x10200073 then (if c.mayXret false then s.setCore v (c.xret false).count else s.illegal v raw)
    else if w = 0x10500073 then s.setCore v (c.after len)
    else if bits w 31 25 = 9 ∧ rd = 0#5 then
      if c.priv = .u ∨ (c.priv = .s ∧ bit (c.csrOf 0x300).toNat 20 = true) then s.illegal v raw else s.setCore v (c.after len)
    else s.illegal v raw
  | 1 => s.csrInstr v (bits w 31 20) rd .rw rs1
  | 2 => s.csrInstr v (bits w 31 20) rd .rs rs1
  | 3 => s.csrInstr v (bits w 31 20) rd .rc rs1
  | 5 => s.csrInstr v (bits w 31 20) rd .rwi rs1
  | 6 => s.csrInstr v (bits w 31 20) rd .rsi rs1
  | 7 => s.csrInstr v (bits w 31 20) rd .rci rs1
  | _ => s.illegal v raw

/-- OP-IMM: the value, none for a reserved shift. -/
def opImm (f3 w : Nat) (a : BitVec 64) : Option (BitVec 64) :=
  if f3 = 1 then (if bits w 31 26 = 0 then some (alu 1 false a (BitVec.ofNat 64 (bits w 25 20))) else none)
  else if f3 = 5 then
    (if bits w 31 26 = 0 ∨ bits w 31 26 = 16 then some (alu 5 (bit w 30) a (BitVec.ofNat 64 (bits w 25 20))) else none)
  else some (alu f3 false a (i64 (immI w)))

/-- OP-IMM-32. -/
def opImm32 (f3 w : Nat) (a : BitVec 64) : Option (BitVec 64) :=
  if f3 = 0 then some (aluW 0 false a (i64 (immI w)))
  else if f3 = 1 then (if bits w 31 25 = 0 then some (aluW 1 false a (BitVec.ofNat 64 (bits w 24 20))) else none)
  else if f3 = 5 then
    (if bits w 31 25 = 0 ∨ bits w 31 25 = 32 then some (aluW 5 (bit w 30) a (BitVec.ofNat 64 (bits w 24 20))) else none)
  else none

/-- OP. -/
def opReg (f3 f7 : Nat) (a b : BitVec 64) : Option (BitVec 64) :=
  if f7 = 1 then some (BitVec.ofNat 64 (mulDiv 64 f3 a.toNat b.toNat))
  else if f7 = 0 then some (alu f3 false a b)
  else if f7 = 32 ∧ (f3 = 0 ∨ f3 = 5) then some (alu f3 true a b)
  else none

/-- OP-32. -/
def opReg32 (f3 f7 : Nat) (a b : BitVec 64) : Option (BitVec 64) :=
  if f7 = 1 ∧ (f3 = 0 ∨ 4 ≤ f3) then some (i64 (signed 32 (mulDiv 32 f3 a.toNat b.toNat)))
  else if f7 = 0 ∧ (f3 = 0 ∨ f3 = 1 ∨ f3 = 5) then some (aluW f3 false a b)
  else if f7 = 32 ∧ (f3 = 0 ∨ f3 = 5) then some (aluW f3 true a b)
  else none

/-- A register result written, or an illegal instruction. -/
def State.putX (s : State) (v : Nat) (rd : BitVec 5) (len raw : Nat) : Option (BitVec 64) → State
  | some x => s.setCore v (((s.core v).setX rd x).after len)
  | none => s.illegal v raw

/-- One full word executed; `len` is what the instruction occupied and `raw` its bits. -/
def State.scalarWord (s : State) (v w len raw : Nat) : State :=
  let c := s.core v
  let rd := BitVec.ofNat 5 (bits w 11 7)
  let f3 := bits w 14 12
  let a := c.xr (BitVec.ofNat 5 (bits w 19 15))
  let b := c.xr (BitVec.ofNat 5 (bits w 24 20))
  let next := c.pc + BitVec.ofNat 64 len
  match bits w 6 0 with
  | 0x37 => s.putX v rd len raw (some (i64 (immU w)))
  | 0x17 => s.putX v rd len raw (some (c.pc + i64 (immU w)))
  | 0x6F => s.setCore v { (c.count).setX rd next with pc := c.pc + i64 (immJ w) }
  | 0x67 =>
    if f3 = 0 then s.setCore v { (c.count).setX rd next with pc := (a + i64 (immI w)) &&& ~~~1#64 } else s.illegal v raw
  | 0x63 =>
    match branchTaken f3 a b with
    | some t => s.setCore v { c.count with pc := if t then c.pc + i64 (immB w) else next }
    | none => s.illegal v raw
  | 0x03 => s.scalarLoad v f3 rd (a + i64 (immI w)) len raw
  | 0x23 => s.scalarStore v f3 (a + i64 (immS w)) b len raw
  | 0x13 => s.putX v rd len raw (opImm f3 w a)
  | 0x1B => s.putX v rd len raw (opImm32 f3 w a)
  | 0x33 => s.putX v rd len raw (opReg f3 (bits w 31 25) a b)
  | 0x3B => s.putX v rd len raw (opReg32 f3 (bits w 31 25) a b)
  | 0x0F => if f3 = 0 ∨ f3 = 1 then s.setCore v (c.after len) else s.illegal v raw
  | 0x73 => s.scalarSystem v w len raw
  | _ => s.illegal v raw

/-- SCALAR_INSTRUCTION (R145): a word of a custom opcode is the instruction its encoding spells (R146). -/
def execScalarInstruction (core : Nat) (w : BitVec 32) (s : State) : Out :=
  let n := w.toNat
  if customWord n then runCustom core n s
  else if n % 4 = 3 then .next (s.fetched core 4 (fun s => s.scalarWord core n 4 n))
  else .next (s.fetched core 2 (fun s => match expand (n % 65536) with
    | some x => s.scalarWord core x 2 (n % 65536)
    | none => s.illegal core (n % 65536)))

end Sys2Proof.Machine
end

