-- ==== Sys2Proof/Machine/Dispatch.lean ====
section
/-!
DEFINITION. The effect of each command, one arm per constructor.
-/

namespace Sys2Proof.Machine

open Sys2Proof

def exec (i : Instr) (s : State) : Host.Outcome State Fault Refusal :=
  match i with
  | .vinRise cv straps => Sys2Proof.Machine.execVinRise cv straps s
  | .vinFall => Sys2Proof.Machine.execVinFall s
  | .resetNAssert straps => Sys2Proof.Machine.execResetNAssert straps s
  | .resetNRelease => Sys2Proof.Machine.execResetNRelease s
  | .thermalShutdown => Sys2Proof.Machine.execThermalShutdown s
  | .modeRequest who code => Sys2Proof.Machine.execModeRequest who code s
  | .deviceEnable who obs => Sys2Proof.Machine.execDeviceEnable who obs s
  | .deviceDisable who => Sys2Proof.Machine.execDeviceDisable who s
  | .drainEnd => Sys2Proof.Machine.execDrainEnd s
  | .bootStageComplete failedUnits obs => Sys2Proof.Machine.execBootStageComplete failedUnits obs s
  | .bootStageFail reason => Sys2Proof.Machine.execBootStageFail reason s
  | .bootHostTimeout => Sys2Proof.Machine.execBootHostTimeout s
  | .bootImageWrite fn img => Sys2Proof.Machine.execBootImageWrite fn img s
  | .degradedExit => Sys2Proof.Machine.execDegradedExit s
  | .oscInLoss => Sys2Proof.Machine.execOscInLoss s
  | .oscInReturn => Sys2Proof.Machine.execOscInReturn s
  | .servoMeasurement e dtNs freqOffset => Sys2Proof.Machine.execServoMeasurement e dtNs freqOffset s
  | .servoLock => Sys2Proof.Machine.execServoLock s
  | .timebaseStep => Sys2Proof.Machine.execTimebaseStep s
  | .timeSet who v => Sys2Proof.Machine.execTimeSet who v s
  | .referenceQualify entry => Sys2Proof.Machine.execReferenceQualify entry s
  | .referenceDisqualify entry => Sys2Proof.Machine.execReferenceDisqualify entry s
  | .announceTimeout port place => Sys2Proof.Machine.execAnnounceTimeout port place s
  | .ppsLossTimeout input => Sys2Proof.Machine.execPpsLossTimeout input s
  | .synceLockLoss lane => Sys2Proof.Machine.execSynceLockLoss lane s
  | .waitToRestoreExpiry freq => Sys2Proof.Machine.execWaitToRestoreExpiry freq s
  | .holdoverLimit => Sys2Proof.Machine.execHoldoverLimit s
  | .ptpEventMessageRx port encap msg => Sys2Proof.Machine.execPtpEventMessageRx port encap msg s
  | .ptpUnpairedDiscard port seqId => Sys2Proof.Machine.execPtpUnpairedDiscard port seqId s
  | .stampedFrameTx port tag sync discarded => Sys2Proof.Machine.execStampedFrameTx port tag sync discarded s
  | .txStampQueuePop port => Sys2Proof.Machine.execTxStampQueuePop port s
  | .ppsInEdge input stamp dtNs freq => Sys2Proof.Machine.execPpsInEdge input stamp dtNs freq s
  | .todInMessage seconds utc ownOffset sinceEdgeMs fmt baud => Sys2Proof.Machine.execTodInMessage seconds utc ownOffset sinceEdgeMs fmt baud s
  | .ppsOutEdge out => Sys2Proof.Machine.execPpsOutEdge out s
  | .ppsOutPulseEnd out => Sys2Proof.Machine.execPpsOutPulseEnd out s
  | .todOutSend => Sys2Proof.Machine.execTodOutSend s
  | .slotBoundary cell => Sys2Proof.Machine.execSlotBoundary cell s
  | .subframeBoundary => Sys2Proof.Machine.execSubframeBoundary s
  | .frameBoundary => Sys2Proof.Machine.execFrameBoundary s
  | .sfnWrap => Sys2Proof.Machine.execSfnWrap s
  | .hfnWrap => Sys2Proof.Machine.execHfnWrap s
  | .airTickWrap => Sys2Proof.Machine.execAirTickWrap s
  | .ptmRequest => Sys2Proof.Machine.execPtmRequest s
  | .ptmResponse t2 t3 t4 => Sys2Proof.Machine.execPtmResponse t2 t3 t4 s
  | .ptmResponseTimeout => Sys2Proof.Machine.execPtmResponseTimeout s
  | .press cell => Sys2Proof.Machine.execPress cell s
  | .impressionRelease imp => Sys2Proof.Machine.execImpressionRelease imp s
  | .counterFireBy ctr => Sys2Proof.Machine.execCounterFireBy ctr s
  | .dispatch cls unit => Sys2Proof.Machine.execDispatch cls unit s
  | .completionReport r => Sys2Proof.Machine.execCompletionReport r s
  | .faultReport cls unit r => Sys2Proof.Machine.execFaultReport cls unit r s
  | .watchdogExpiry handle => Sys2Proof.Machine.execWatchdogExpiry handle s
  | .deadlineExpiry handle => Sys2Proof.Machine.execDeadlineExpiry handle s
  | .lateHorizonExpiry handle => Sys2Proof.Machine.execLateHorizonExpiry handle s
  | .stallDeclare part => Sys2Proof.Machine.execStallDeclare part s
  | .slugHandleReserve kind priv => Sys2Proof.Machine.execSlugHandleReserve kind priv s
  | .slugSubmit handle bytes => Sys2Proof.Machine.execSlugSubmit handle bytes s
  | .slugDecrement handle => Sys2Proof.Machine.execSlugDecrement handle s
  | .handleReserveTimeout handle => Sys2Proof.Machine.execHandleReserveTimeout handle s
  | .timerSlugFire handle => Sys2Proof.Machine.execTimerSlugFire handle s
  | .ccDone cc => Sys2Proof.Machine.execCcDone cc s
  | .countClear who v => Sys2Proof.Machine.execCountClear who v s
  | .loadWindowEnd => Sys2Proof.Machine.execLoadWindowEnd s
  | .formeImage who bytes => Sys2Proof.Machine.execFormeImage who bytes s
  | .formeEnable who => Sys2Proof.Machine.execFormeEnable who s
  | .formeDisable who => Sys2Proof.Machine.execFormeDisable who s
  | .cellEnable who v => Sys2Proof.Machine.execCellEnable who v s
  | .slotFormes who v => Sys2Proof.Machine.execSlotFormes who v s
  | .interruptTaken core cause within => Sys2Proof.Machine.execInterruptTaken core cause within s
  | .xret core fromM => Sys2Proof.Machine.execXret core fromM s
  | .vstatusAccess core rd f src => Sys2Proof.Machine.execVstatusAccess core rd f src s
  | .vlWWrite core src => Sys2Proof.Machine.execVlWWrite core src s
  | .vcfgWWrite core src => Sys2Proof.Machine.execVcfgWWrite core src s
  | .cpOpComplete core cp => Sys2Proof.Machine.execCpOpComplete core cp s
  | .vadd o => Sys2Proof.Machine.execVadd o s
  | .vsub o => Sys2Proof.Machine.execVsub o s
  | .vadds o => Sys2Proof.Machine.execVadds o s
  | .vsubs o => Sys2Proof.Machine.execVsubs o s
  | .vmul o => Sys2Proof.Machine.execVmul o s
  | .vmulh o => Sys2Proof.Machine.execVmulh o s
  | .vmacc o => Sys2Proof.Machine.execVmacc o s
  | .vnmsac o => Sys2Proof.Machine.execVnmsac o s
  | .vdiv o => Sys2Proof.Machine.execVdiv o s
  | .vdivs o => Sys2Proof.Machine.execVdivs o s
  | .vrem o => Sys2Proof.Machine.execVrem o s
  | .vand o => Sys2Proof.Machine.execVand o s
  | .vor o => Sys2Proof.Machine.execVor o s
  | .vxor o => Sys2Proof.Machine.execVxor o s
  | .vsll o => Sys2Proof.Machine.execVsll o s
  | .vsra o => Sys2Proof.Machine.execVsra o s
  | .vsrl o => Sys2Proof.Machine.execVsrl o s
  | .vmin o => Sys2Proof.Machine.execVmin o s
  | .vmax o => Sys2Proof.Machine.execVmax o s
  | .vmulhr o rnd => Sys2Proof.Machine.execVmulhr o rnd s
  | .vcmulr o rnd => Sys2Proof.Machine.execVcmulr o rnd s
  | .vcmacr o rnd => Sys2Proof.Machine.execVcmacr o rnd s
  | .vcmulcr o rnd => Sys2Proof.Machine.execVcmulcr o rnd s
  | .vfadd o => Sys2Proof.Machine.execVfadd o s
  | .vfsub o => Sys2Proof.Machine.execVfsub o s
  | .vfmul o => Sys2Proof.Machine.execVfmul o s
  | .vfdiv o => Sys2Proof.Machine.execVfdiv o s
  | .vfma o => Sys2Proof.Machine.execVfma o s
  | .vfnms o => Sys2Proof.Machine.execVfnms o s
  | .vfmin o => Sys2Proof.Machine.execVfmin o s
  | .vfmax o => Sys2Proof.Machine.execVfmax o s
  | .vfcmul o => Sys2Proof.Machine.execVfcmul o s
  | .vfcmac o => Sys2Proof.Machine.execVfcmac o s
  | .vfcvtFX o => Sys2Proof.Machine.execVfcvtFX o s
  | .vfcvtXF o => Sys2Proof.Machine.execVfcvtXF o s
  | .vfcvtXFRtz o => Sys2Proof.Machine.execVfcvtXFRtz o s
  | .vfneg o => Sys2Proof.Machine.execVfneg o s
  | .vfabs o => Sys2Proof.Machine.execVfabs o s
  | .vneg o => Sys2Proof.Machine.execVneg o s
  | .vnegs o => Sys2Proof.Machine.execVnegs o s
  | .vabs o => Sys2Proof.Machine.execVabs o s
  | .vabss o => Sys2Proof.Machine.execVabss o s
  | .vnot o => Sys2Proof.Machine.execVnot o s
  | .vclz o => Sys2Proof.Machine.execVclz o s
  | .vcpop o => Sys2Proof.Machine.execVcpop o s
  | .vconj o => Sys2Proof.Machine.execVconj o s
  | .vconjs o => Sys2Proof.Machine.execVconjs o s
  | .vcmp o => Sys2Proof.Machine.execVcmp o s
  | .vcmpu o => Sys2Proof.Machine.execVcmpu o s
  | .vfcmp o => Sys2Proof.Machine.execVfcmp o s
  | .vsel o => Sys2Proof.Machine.execVsel o s
  | .vperm o => Sys2Proof.Machine.execVperm o s
  | .vredsum o => Sys2Proof.Machine.execVredsum o s
  | .vredsums o => Sys2Proof.Machine.execVredsums o s
  | .vredmax o => Sys2Proof.Machine.execVredmax o s
  | .vredmin o => Sys2Proof.Machine.execVredmin o s
  | .vredcsums o => Sys2Proof.Machine.execVredcsums o s
  | .vfredsum o => Sys2Proof.Machine.execVfredsum o s
  | .vfredmax o => Sys2Proof.Machine.execVfredmax o s
  | .vfredmin o => Sys2Proof.Machine.execVfredmin o s
  | .vaddX o => Sys2Proof.Machine.execVaddX o s
  | .vsubX o => Sys2Proof.Machine.execVsubX o s
  | .vrsubX o => Sys2Proof.Machine.execVrsubX o s
  | .vmulX o => Sys2Proof.Machine.execVmulX o s
  | .vmaccX o => Sys2Proof.Machine.execVmaccX o s
  | .vsllX o => Sys2Proof.Machine.execVsllX o s
  | .vsraX o => Sys2Proof.Machine.execVsraX o s
  | .vsrlX o => Sys2Proof.Machine.execVsrlX o s
  | .vsllI o => Sys2Proof.Machine.execVsllI o s
  | .vsraI o => Sys2Proof.Machine.execVsraI o s
  | .vsrlI o => Sys2Proof.Machine.execVsrlI o s
  | .vslidednI o => Sys2Proof.Machine.execVslidednI o s
  | .vslideupI o => Sys2Proof.Machine.execVslideupI o s
  | .vaddI o => Sys2Proof.Machine.execVaddI o s
  | .vbfexp o => Sys2Proof.Machine.execVbfexp o s
  | .vbfnorm o rnd => Sys2Proof.Machine.execVbfnorm o rnd s
  | .vbfden o => Sys2Proof.Machine.execVbfden o s
  | .vsrarI o rnd => Sys2Proof.Machine.execVsrarI o rnd s
  | .vsrarV o rnd => Sys2Proof.Machine.execVsrarV o rnd s
  | .vnclipI o rnd => Sys2Proof.Machine.execVnclipI o rnd s
  | .vle m => Sys2Proof.Machine.execVle m s
  | .vleff m => Sys2Proof.Machine.execVleff m s
  | .vlseg m => Sys2Proof.Machine.execVlseg m s
  | .vlsegff m => Sys2Proof.Machine.execVlsegff m s
  | .vse m => Sys2Proof.Machine.execVse m s
  | .vsseg m => Sys2Proof.Machine.execVsseg m s
  | .vlse m => Sys2Proof.Machine.execVlse m s
  | .vsse m => Sys2Proof.Machine.execVsse m s
  | .vlxe m => Sys2Proof.Machine.execVlxe m s
  | .vsxe m => Sys2Proof.Machine.execVsxe m s
  | .vlsseg m => Sys2Proof.Machine.execVlsseg m s
  | .vssseg m => Sys2Proof.Machine.execVssseg m s
  | .vsetvli core rd rs1 zimm => Sys2Proof.Machine.execVsetvli core rd rs1 zimm s
  | .vsetvl core rd rs1 rs2 => Sys2Proof.Machine.execVsetvl core rd rs1 rs2 s
  | .vmvVX core wd rs1 => Sys2Proof.Machine.execVmvVX core wd rs1 s
  | .vmvXV core rd ws1 rs2 => Sys2Proof.Machine.execVmvXV core rd ws1 rs2 s
  | .vmvVV core wd ws1 => Sys2Proof.Machine.execVmvVV core wd ws1 s
  | .vpand core pd ps1 ps2 => Sys2Proof.Machine.execVpand core pd ps1 ps2 s
  | .vpor core pd ps1 ps2 => Sys2Proof.Machine.execVpor core pd ps1 ps2 s
  | .vpxor core pd ps1 ps2 => Sys2Proof.Machine.execVpxor core pd ps1 ps2 s
  | .vpandn core pd ps1 ps2 => Sys2Proof.Machine.execVpandn core pd ps1 ps2 s
  | .vpcnt core rd ps1 => Sys2Proof.Machine.execVpcnt core rd ps1 s
  | .vpfirst core rd ps1 => Sys2Proof.Machine.execVpfirst core rd ps1 s
  | .vpvl core pd rs1 => Sys2Proof.Machine.execVpvl core pd rs1 s
  | .vxWfs core a b c cpn => Sys2Proof.Machine.execVxWfs core a b c cpn s
  | .vxDone core a b c cpn => Sys2Proof.Machine.execVxDone core a b c cpn s
  | .vcpMvto core a b c cpn => Sys2Proof.Machine.execVcpMvto core a b c cpn s
  | .vcpMvfrom core a b c cpn => Sys2Proof.Machine.execVcpMvfrom core a b c cpn s
  | .vcpClear core a b c cpn => Sys2Proof.Machine.execVcpClear core a b c cpn s
  | .cp0Ginit core b c => Sys2Proof.Machine.execCp0Ginit core b c s
  | .cp0Gold core b c => Sys2Proof.Machine.execCp0Gold core b c s
  | .cp0Gskip core b c => Sys2Proof.Machine.execCp0Gskip core b c s
  | .cp0Zc core b c => Sys2Proof.Machine.execCp0Zc core b c s
  | .cp1Crcsel core b c => Sys2Proof.Machine.execCp1Crcsel core b c s
  | .cp1Crc core b c => Sys2Proof.Machine.execCp1Crc core b c s
  | .cp1Crcget core b c => Sys2Proof.Machine.execCp1Crcget core b c s
  | .cp1Trellis core b c => Sys2Proof.Machine.execCp1Trellis core b c s
  | .cp2Rcp core b c => Sys2Proof.Machine.execCp2Rcp core b c s
  | .cp2Rsqrt core b c => Sys2Proof.Machine.execCp2Rsqrt core b c s
  | .cp2Log2 core b c => Sys2Proof.Machine.execCp2Log2 core b c s
  | .cp2Exp2 core b c => Sys2Proof.Machine.execCp2Exp2 core b c s
  | .cp2Sin core b c => Sys2Proof.Machine.execCp2Sin core b c s
  | .cp2Cos core b c => Sys2Proof.Machine.execCp2Cos core b c s
  | .cp2Atan2 core b c => Sys2Proof.Machine.execCp2Atan2 core b c s
  | .vxUnitFault core err => Sys2Proof.Machine.execVxUnitFault core err s
  | .coreImageSwitch core => Sys2Proof.Machine.execCoreImageSwitch core s
  | .vxImageWrite who img => Sys2Proof.Machine.execVxImageWrite who img s
  | .vxImageVerifyDone slot => Sys2Proof.Machine.execVxImageVerifyDone slot s
  | .teFwd eng => Sys2Proof.Machine.execTeFwd eng s
  | .teInv eng => Sys2Proof.Machine.execTeInv eng s
  | .teCzt eng => Sys2Proof.Machine.execTeCzt eng s
  | .meChest eng => Sys2Proof.Machine.execMeChest eng s
  | .meWeight eng => Sys2Proof.Machine.execMeWeight eng s
  | .meApply eng => Sys2Proof.Machine.execMeApply eng s
  | .meApplyDemap eng => Sys2Proof.Machine.execMeApplyDemap eng s
  | .meChol eng => Sys2Proof.Machine.execMeChol eng s
  | .meInv eng => Sys2Proof.Machine.execMeInv eng s
  | .ldDecode eng => Sys2Proof.Machine.execLdDecode eng s
  | .leEncode eng => Sys2Proof.Machine.execLeEncode eng s
  | .plPolarDecode eng => Sys2Proof.Machine.execPlPolarDecode eng s
  | .plPolarEncode eng => Sys2Proof.Machine.execPlPolarEncode eng s
  | .plConvDecode eng => Sys2Proof.Machine.execPlConvDecode eng s
  | .plConvEncode eng => Sys2Proof.Machine.execPlConvEncode eng s
  | .plRmDecode eng => Sys2Proof.Machine.execPlRmDecode eng s
  | .plRmEncode eng => Sys2Proof.Machine.execPlRmEncode eng s
  | .tdDecode eng => Sys2Proof.Machine.execTdDecode eng s
  | .hqUplinkCombine eng => Sys2Proof.Machine.execHqUplinkCombine eng s
  | .hqDownlinkRateMatch eng => Sys2Proof.Machine.execHqDownlinkRateMatch eng s
  | .engineJobComplete eng => Sys2Proof.Machine.execEngineJobComplete eng s
  | .engineAllocTimeout eng => Sys2Proof.Machine.execEngineAllocTimeout eng s
  | .engineUnitFault eng err => Sys2Proof.Machine.execEngineUnitFault eng err s
  | .dmaCopy dm => Sys2Proof.Machine.execDmaCopy dm s
  | .dmaFill dm => Sys2Proof.Machine.execDmaFill dm s
  | .dmaUnitFault dm => Sys2Proof.Machine.execDmaUnitFault dm s
  | .collect fu => Sys2Proof.Machine.execCollect fu s
  | .ulCplane cu => Sys2Proof.Machine.execUlCplane cu s
  | .dlCplane cu => Sys2Proof.Machine.execDlCplane cu s
  | .dlUplane cu => Sys2Proof.Machine.execDlUplane cu s
  | .fetch handle => Sys2Proof.Machine.execFetch handle s
  | .gather handle => Sys2Proof.Machine.execGather handle s
  | .deliver handle => Sys2Proof.Machine.execDeliver handle s
  | .mogilChannelSend handle => Sys2Proof.Machine.execMogilChannelSend handle s
  | .atOffset handle => Sys2Proof.Machine.execAtOffset handle s
  | .atTick handle => Sys2Proof.Machine.execAtTick handle s
  | .gainChangePoint group => Sys2Proof.Machine.execGainChangePoint group s
  | .searchTrigger ctx band noise => Sys2Proof.Machine.execSearchTrigger ctx band noise s
  | .searchOccasionEnd ctx profiles => Sys2Proof.Machine.execSearchOccasionEnd ctx profiles s
  | .fuUnitFault fu => Sys2Proof.Machine.execFuUnitFault fu s
  | .fuGroupMove group => Sys2Proof.Machine.execFuGroupMove group s
  | .cuUnitFault cu => Sys2Proof.Machine.execCuUnitFault cu s
  | .cuReplace cu => Sys2Proof.Machine.execCuReplace cu s
  | .rcoEdge rco => Sys2Proof.Machine.execRcoEdge rco s
  | .noiseTableWrite radio cell vals => Sys2Proof.Machine.execNoiseTableWrite radio cell vals s
  | .noiseEstimateTimeout radio cell => Sys2Proof.Machine.execNoiseEstimateTimeout radio cell s
  | .nsFallback radio => Sys2Proof.Machine.execNsFallback radio s
  | .nsRetryOffer radio => Sys2Proof.Machine.execNsRetryOffer radio s
  | .groupEnable who v => Sys2Proof.Machine.execGroupEnable who v s
  | .contextEnable who v => Sys2Proof.Machine.execContextEnable who v s
  | .rampEnable who v => Sys2Proof.Machine.execRampEnable who v s
  | .ethFrameRx port f => Sys2Proof.Machine.execEthFrameRx port f s
  | .cpriSymbolRx flow slot symbol samples => Sys2Proof.Machine.execCpriSymbolRx flow slot symbol samples s
  | .fwRingPop port => Sys2Proof.Machine.execFwRingPop port s
  | .frameTransmit port => Sys2Proof.Machine.execFrameTransmit port s
  | .txWindowDiscard port queue => Sys2Proof.Machine.execTxWindowDiscard port queue s
  | .lossOfSignal l => Sys2Proof.Machine.execLossOfSignal l s
  | .signalReturn l => Sys2Proof.Machine.execSignalReturn l s
  | .signalDebounceExpiry l => Sys2Proof.Machine.execSignalDebounceExpiry l s
  | .lossOfLock l => Sys2Proof.Machine.execLossOfLock l s
  | .lossOfBlockLock l => Sys2Proof.Machine.execLossOfBlockLock l s
  | .lossOfFrame port => Sys2Proof.Machine.execLossOfFrame port s
  | .remoteDefect port present => Sys2Proof.Machine.execRemoteDefect port present s
  | .portUp port => Sys2Proof.Machine.execPortUp port s
  | .degradeEval l errors bits corrected uncorrected => Sys2Proof.Machine.execDegradeEval l errors bits corrected uncorrected s
  | .flowActivePort who v => Sys2Proof.Machine.execFlowActivePort who v s
  | .txAn who v => Sys2Proof.Machine.execTxAn who v s
  | .saKey who bytes => Sys2Proof.Machine.execSaKey who bytes s
  | .learnRequest port vid mac => Sys2Proof.Machine.execLearnRequest port vid mac s
  | .entryAgeOut vid mac => Sys2Proof.Machine.execEntryAgeOut vid mac s
  | .pinExpiry vid mac => Sys2Proof.Machine.execPinExpiry vid mac s
  | .moveStormEnd => Sys2Proof.Machine.execMoveStormEnd s
  | .staticEntry who vid mac port add => Sys2Proof.Machine.execStaticEntry who vid mac port add s
  | .cpriRateDwell port => Sys2Proof.Machine.execCpriRateDwell port s
  | .recalIntervalExpiry inst => Sys2Proof.Machine.execRecalIntervalExpiry inst s
  | .laneRecalibration inst => Sys2Proof.Machine.execLaneRecalibration inst s
  | .prbsClear who v => Sys2Proof.Machine.execPrbsClear who v s
  | .portEnable who v => Sys2Proof.Machine.execPortEnable who v s
  | .flowEnable who v => Sys2Proof.Machine.execFlowEnable who v s
  | .macsecEnable who v => Sys2Proof.Machine.execMacsecEnable who v s
  | .mogilMarkerRx grp ms => Sys2Proof.Machine.execMogilMarkerRx grp ms s
  | .mogilPacketRx grp p => Sys2Proof.Machine.execMogilPacketRx grp p s
  | .mogilLinkCellRx grp c => Sys2Proof.Machine.execMogilLinkCellRx grp c s
  | .mogilNakRx grp c => Sys2Proof.Machine.execMogilNakRx grp c s
  | .mogilVersionRx grp c minV maxV => Sys2Proof.Machine.execMogilVersionRx grp c minV maxV s
  | .mogilConfirmRx grp c mineMin mineMax peerMin peerMax agreed => Sys2Proof.Machine.execMogilConfirmRx grp c mineMin mineMax peerMin peerMax agreed s
  | .mogilKexRx grp c stepCode frag count data => Sys2Proof.Machine.execMogilKexRx grp c stepCode frag count data s
  | .mogilLastAcceptedRx grp c lost last => Sys2Proof.Machine.execMogilLastAcceptedRx grp c lost last s
  | .mogilPacketSend grp p => Sys2Proof.Machine.execMogilPacketSend grp p s
  | .mogilLinkCellSend grp => Sys2Proof.Machine.execMogilLinkCellSend grp s
  | .mogilRetryTimeout grp => Sys2Proof.Machine.execMogilRetryTimeout grp s
  | .mogilResumeTimeout grp => Sys2Proof.Machine.execMogilResumeTimeout grp s
  | .mogilKexTimeout => Sys2Proof.Machine.execMogilKexTimeout s
  | .mogilHoldExpiry grp => Sys2Proof.Machine.execMogilHoldExpiry grp s
  | .mogilChannelTimeout handle => Sys2Proof.Machine.execMogilChannelTimeout handle s
  | .mogilEnable who v => Sys2Proof.Machine.execMogilEnable who v s
  | .takeoverNow who v => Sys2Proof.Machine.execTakeoverNow who v s
  | .autoTakeover => Sys2Proof.Machine.execAutoTakeover s
  | .rd p => Sys2Proof.Machine.execRd p s
  | .wr p => Sys2Proof.Machine.execWr p s
  | .wrp p => Sys2Proof.Machine.execWrp p s
  | .atomAdd p => Sys2Proof.Machine.execAtomAdd p s
  | .atomSwap p => Sys2Proof.Machine.execAtomSwap p s
  | .atomCompareSwap p => Sys2Proof.Machine.execAtomCompareSwap p s
  | .alloc p => Sys2Proof.Machine.execAlloc p s
  | .free p => Sys2Proof.Machine.execFree p s
  | .msg p => Sys2Proof.Machine.execMsg p s
  | .sealBuf p => Sys2Proof.Machine.execSealBuf p s
  | .unsealBuf p => Sys2Proof.Machine.execUnsealBuf p s
  | .rdata p => Sys2Proof.Machine.execRdata p s
  | .ack p => Sys2Proof.Machine.execAck p s
  | .err p => Sys2Proof.Machine.execErr p s
  | .flitCrcError router link => Sys2Proof.Machine.execFlitCrcError router link s
  | .fabricLinkDown router link => Sys2Proof.Machine.execFabricLinkDown router link s
  | .fabricLinkReturn router link => Sys2Proof.Machine.execFabricLinkReturn router link s
  | .edgeLinkDown units => Sys2Proof.Machine.execEdgeLinkDown units s
  | .domainWakeReady dom => Sys2Proof.Machine.execDomainWakeReady dom s
  | .wakeTimeout dom => Sys2Proof.Machine.execWakeTimeout dom s
  | .domainSleep dom => Sys2Proof.Machine.execDomainSleep dom s
  | .domainLockOff dom => Sys2Proof.Machine.execDomainLockOff dom s
  | .ssAccessRepeat bank secondMismatch => Sys2Proof.Machine.execSsAccessRepeat bank secondMismatch s
  | .spareNow who v => Sys2Proof.Machine.execSpareNow who v s
  | .ssSpareFlip => Sys2Proof.Machine.execSsSpareFlip s
  | .ssForwardEnd => Sys2Proof.Machine.execSsForwardEnd s
  | .spareBankTest pass => Sys2Proof.Machine.execSpareBankTest pass s
  | .scrubStep inst e rewritten => Sys2Proof.Machine.execScrubStep inst e rewritten s
  | .hbmRefresh stack => Sys2Proof.Machine.execHbmRefresh stack s
  | .hamperEnable who => Sys2Proof.Machine.execHamperEnable who s
  | .hamperDisable who => Sys2Proof.Machine.execHamperDisable who s
  | .sqTailDoorbell fn q v size => Sys2Proof.Machine.execSqTailDoorbell fn q v size s
  | .cqHeadDoorbell fn q v size => Sys2Proof.Machine.execCqHeadDoorbell fn q v size s
  | .msixUnmask fn vec => Sys2Proof.Machine.execMsixUnmask fn vec s
  | .bmeClear fn => Sys2Proof.Machine.execBmeClear fn s
  | .bmeSet fn => Sys2Proof.Machine.execBmeSet fn s
  | .flrInitiate fn => Sys2Proof.Machine.execFlrInitiate fn s
  | .flrComplete fn => Sys2Proof.Machine.execFlrComplete fn s
  | .tagQuarantineEnd tag => Sys2Proof.Machine.execTagQuarantineEnd tag s
  | .pcieLinkReset => Sys2Proof.Machine.execPcieLinkReset s
  | .pcieCompletionRx tag status data => Sys2Proof.Machine.execPcieCompletionRx tag status data s
  | .pcieCompletionTimeout tag => Sys2Proof.Machine.execPcieCompletionTimeout tag s
  | .cqWaitTimeout handle => Sys2Proof.Machine.execCqWaitTimeout handle s
  | .atsInvalidate fn page => Sys2Proof.Machine.execAtsInvalidate fn page s
  | .qpEnable who v => Sys2Proof.Machine.execQpEnable who v s
  | .partEnable who n v => Sys2Proof.Machine.execPartEnable who n v s
  | .partPause who n v => Sys2Proof.Machine.execPartPause who n v s
  | .partReset who n v => Sys2Proof.Machine.execPartReset who n v s
  | .partResetComplete n => Sys2Proof.Machine.execPartResetComplete n s
  | .resetLimitExpiry n => Sys2Proof.Machine.execResetLimitExpiry n s
  | .disableCloseTimeout n => Sys2Proof.Machine.execDisableCloseTimeout n s
  | .mailboxGo fn seq irq vec m => Sys2Proof.Machine.execMailboxGo fn seq irq vec m s
  | .hello ses id lo hi => Sys2Proof.Machine.execHello ses id lo hi s
  | .read ses ver id es => Sys2Proof.Machine.execRead ses ver id es s
  | .write ses ver id es => Sys2Proof.Machine.execWrite ses ver id es s
  | .segRead ses ver id a off len => Sys2Proof.Machine.execSegRead ses ver id a off len s
  | .segWrite ses ver id a fin off total data => Sys2Proof.Machine.execSegWrite ses ver id a fin off total data s
  | .segAbort ses ver id a => Sys2Proof.Machine.execSegAbort ses ver id a s
  | .segTransferTimeout who a => Sys2Proof.Machine.execSegTransferTimeout who a s
  | .infoReq ses ver id a => Sys2Proof.Machine.execInfoReq ses ver id a s
  | .store ses ver id => Sys2Proof.Machine.execStore ses ver id s
  | .storeSealed ok => Sys2Proof.Machine.execStoreSealed ok s
  | .restore ses ver id => Sys2Proof.Machine.execRestore ses ver id s
  | .subscribe ses ver id stream period es => Sys2Proof.Machine.execSubscribe ses ver id stream period es s
  | .unsubscribe ses ver id stream => Sys2Proof.Machine.execUnsubscribe ses ver id stream s
  | .telemetry ses stream sent => Sys2Proof.Machine.execTelemetry ses stream sent s
  | .alarmAck ses seq => Sys2Proof.Machine.execAlarmAck ses seq s
  | .alarm ses => Sys2Proof.Machine.execAlarm ses s
  | .alarmResend ses seq => Sys2Proof.Machine.execAlarmResend ses seq s
  | .summary => Sys2Proof.Machine.execSummary s
  | .clientHello path cookie => Sys2Proof.Machine.execClientHello path cookie s
  | .handshakeComplete path ses chainOk keyDigest => Sys2Proof.Machine.execHandshakeComplete path ses chainOk keyDigest s
  | .sessionIdleTimeout ses => Sys2Proof.Machine.execSessionIdleTimeout ses s
  | .smbPointerWrite a => Sys2Proof.Machine.execSmbPointerWrite a s
  | .smbValueRead => Sys2Proof.Machine.execSmbValueRead s
  | .smbStatusRead => Sys2Proof.Machine.execSmbStatusRead s
  | .smbTimeout => Sys2Proof.Machine.execSmbTimeout s
  | .roleEntry who bytes => Sys2Proof.Machine.execRoleEntry who bytes s
  | .registerWrite src unit priv addr v => Sys2Proof.Machine.execRegisterWrite src unit priv addr v s
  | .w1cWrite who a v setNow => Sys2Proof.Machine.execW1cWrite who a v setNow s
  | .fuseWrite who item v => Sys2Proof.Machine.execFuseWrite who item v s
  | .fuseWriteComplete => Sys2Proof.Machine.execFuseWriteComplete s
  | .dbgRequest mask => Sys2Proof.Machine.execDbgRequest mask s
  | .dbgChallenge => Sys2Proof.Machine.execDbgChallenge s
  | .dbgResponse r => Sys2Proof.Machine.execDbgResponse r s
  | .debugLockoutEnd => Sys2Proof.Machine.execDebugLockoutEnd s
  | .tapReset => Sys2Proof.Machine.execTapReset s
  | .regionEnable who => Sys2Proof.Machine.execRegionEnable who s
  | .regionInitDone region => Sys2Proof.Machine.execRegionInitDone region s
  | .regionDisable who => Sys2Proof.Machine.execRegionDisable who s
  | .rekeyNow who v => Sys2Proof.Machine.execRekeyNow who v s
  | .rekeyBlock region => Sys2Proof.Machine.execRekeyBlock region s
  | .vinSample cv ca => Sys2Proof.Machine.execVinSample cv ca s
  | .powerLoopEval avgDw => Sys2Proof.Machine.execPowerLoopEval avgDw s
  | .currentLimit => Sys2Proof.Machine.execCurrentLimit s
  | .unitWithdraw => Sys2Proof.Machine.execUnitWithdraw s
  | .unitReturn => Sys2Proof.Machine.execUnitReturn s
  | .vcoreAdjust rail up => Sys2Proof.Machine.execVcoreAdjust rail up s
  | .phaseFault rail => Sys2Proof.Machine.execPhaseFault rail s
  | .railOutOfRegulation rail out => Sys2Proof.Machine.execRailOutOfRegulation rail out s
  | .droopStretch sensor => Sys2Proof.Machine.execDroopStretch sensor s
  | .droopRelease sensor => Sys2Proof.Machine.execDroopRelease sensor s
  | .thermalSensorScan readings => Sys2Proof.Machine.execThermalSensorScan readings s
  | .thermalCapStep => Sys2Proof.Machine.execThermalCapStep s
  | .diagStart unit => Sys2Proof.Machine.execDiagStart unit s
  | .diagComplete unit pass block => Sys2Proof.Machine.execDiagComplete unit pass block s
  | .diagRun who v => Sys2Proof.Machine.execDiagRun who v s
  | .lockstepMismatch pair => Sys2Proof.Machine.execLockstepMismatch pair s
  | .lockstepTestDone pair passEven passOdd => Sys2Proof.Machine.execLockstepTestDone pair passEven passOdd s
  | .ccUnitFault cc watchdog => Sys2Proof.Machine.execCcUnitFault cc watchdog s
  | .heartbeat => Sys2Proof.Machine.execHeartbeat s
  | .heartbeatMiss => Sys2Proof.Machine.execHeartbeatMiss s
  | .recoveryMismatch => Sys2Proof.Machine.execRecoveryMismatch s
  | .wardenRestartFail => Sys2Proof.Machine.execWardenRestartFail s
  | .wardenVote copy => Sys2Proof.Machine.execWardenVote copy s
  | .maintRequest act inst => Sys2Proof.Machine.execMaintRequest act inst s
  | .tokenReturn act inst => Sys2Proof.Machine.execTokenReturn act inst s
  | .waitAlarmExpiry act inst => Sys2Proof.Machine.execWaitAlarmExpiry act inst s
  | .drillIntervalExpiry => Sys2Proof.Machine.execDrillIntervalExpiry s
  | .drillSwap pass => Sys2Proof.Machine.execDrillSwap pass s
  | .upgradeImage who img => Sys2Proof.Machine.execUpgradeImage who img s
  | .upgradeRecovery who v => Sys2Proof.Machine.execUpgradeRecovery who v s
  | .upgradeCommit who v => Sys2Proof.Machine.execUpgradeCommit who v s
  | .upgradeAbandon who v => Sys2Proof.Machine.execUpgradeAbandon who v s
  | .upgradeLimitExpiry => Sys2Proof.Machine.execUpgradeLimitExpiry s
  | .coreImage who v => Sys2Proof.Machine.execCoreImage who v s
  | .bankVoltage who v => Sys2Proof.Machine.execBankVoltage who v s
  | .bankSettle bank => Sys2Proof.Machine.execBankSettle bank s
  | .bankSupplyFault bank => Sys2Proof.Machine.execBankSupplyFault bank s
  | .bankSupplyReturn bank => Sys2Proof.Machine.execBankSupplyReturn bank s
  | .rcoShort rco => Sys2Proof.Machine.execRcoShort rco s
  | .rcoRetry rco low => Sys2Proof.Machine.execRcoRetry rco low s
  | .pinContention pin => Sys2Proof.Machine.execPinContention pin s
  | .pinFaultClear who v setNow => Sys2Proof.Machine.execPinFaultClear who v setNow s
  | .gpioConfig who v => Sys2Proof.Machine.execGpioConfig who v s
  | .scalarInstruction core w => Sys2Proof.Machine.execScalarInstruction core w s
  | .pcieConfigWrite fn f v => Sys2Proof.Machine.execPcieConfigWrite fn f v s
  | .pcieLinkTrained rate width retrain => Sys2Proof.Machine.execPcieLinkTrained rate width retrain s
  | .peerHealthInputChange level => Sys2Proof.Machine.execPeerHealthInputChange level s
  | .jtagInstruction ins => Sys2Proof.Machine.execJtagInstruction ins s
  | .spareTestIntervalExpiry => Sys2Proof.Machine.execSpareTestIntervalExpiry s
  | .alarmPinHoldExpiry => Sys2Proof.Machine.execAlarmPinHoldExpiry s
  | .frameStrobeEnd pin => Sys2Proof.Machine.execFrameStrobeEnd pin s
  | .prbsCheckerLock l => Sys2Proof.Machine.execPrbsCheckerLock l s
  | .prbsCheckerLockLoss l => Sys2Proof.Machine.execPrbsCheckerLockLoss l s
  | .modeTransitionComplete => Sys2Proof.Machine.execModeTransitionComplete s
  | .mpEnable who v => Sys2Proof.Machine.execMpEnable who v s

end Sys2Proof.Machine
end

