-- ==== Sys2Proof/Machine/Step.lean ====
section
/-!
DEFINITION. One step of the block: the command at the front of the queue, or one cycle of the
625 MHz timebase clock where none waits.
-/

namespace Sys2Proof.Machine

open Sys2Proof

/-- One step.  With a command waiting, the oldest is taken and executed on the state that holds the
queue's rest.  With none, the timebase runs one cycle of its 625 MHz clock (R37): DESIGN CHOICE, the
command table has no row for a tick. -/
def step (s : State) : Host.Outcome State Fault Refusal :=
  match s.pending with
  | c :: rest => exec c { s with pending := rest }
  | [] => .next (timebaseCycle s)

/-- The state with the command a word spells put at the front of the queue; the table gives no row
bits, so no word spells one. -/
def State.withFetchWord (s : State) (nbits w : Nat) : State :=
  match decodeTableWord nbits w with
  | some c => { s with pending := c :: s.pending }
  | none => s

end Sys2Proof.Machine
end

