-- ==== Sys2Proof/Safety.lean ====
section
/-!
DEFINITION. The terms claims use: which parts of the state a command may change, what every step keeps, and what a
request that is served means.
-/

namespace Sys2Proof.Machine

open Sys2Proof

/-! ## What a command changes -/

/-- The parts of the state a frame tells apart: the fields of `State`, the dictionary in five parts. -/
inductive Fld where
  | pending | reply | freeCtr | mode
  /-- Written values of objects that hold a number. -/
  | values
  /-- Written values of objects that hold bytes. -/
  | octets
  /-- Values in force. -/
  | force
  /-- Copies of select objects. -/
  | selects
  /-- The dictionary store and the copy being written. -/
  | store
  | time | galley | vx | edge | front | mogil | mem | fab | host | parts | pot | sec | power | res | pins | alarms
  deriving DecidableEq, Repr

/-- A part of the state is the same in two states. -/
def Fld.same (f : Fld) (s t : State) : Prop :=
  match f with
  | .pending => t.pending = s.pending
  | .reply => t.reply = s.reply
  | .freeCtr => t.freeCtr = s.freeCtr
  | .mode => t.mode = s.mode
  | .values => t.dict.val = s.dict.val
  | .octets => t.dict.oct = s.dict.oct
  | .force => t.dict.force = s.dict.force ∧ t.dict.octForce = s.dict.octForce
  | .selects => t.dict.selects = s.dict.selects
  | .store => t.dict.storeA = s.dict.storeA ∧ t.dict.storeOct = s.dict.storeOct ∧ t.dict.storing = s.dict.storing
      ∧ t.dict.storeVal = s.dict.storeVal ∧ t.dict.storeOctets = s.dict.storeOctets
  | .time => t.time = s.time
  | .galley => t.galley = s.galley
  | .vx => t.vx = s.vx
  | .edge => t.edge = s.edge
  | .front => t.front = s.front
  | .mogil => t.mogil = s.mogil
  | .mem => t.mem = s.mem
  | .fab => t.fab = s.fab
  | .host => t.host = s.host
  | .parts => t.parts = s.parts
  | .pot => t.pot = s.pot
  | .sec => t.sec = s.sec
  | .power => t.power = s.power
  | .res => t.res = s.res
  | .pins => t.pins = s.pins
  | .alarms => t.alarms = s.alarms

/-- Nothing changes from `s` to `t` but the parts `fs` and the numbers of the objects `os`, given by their address codes
(256·index + subindex); where `fs` holds `values`, any number of the dictionary may change. -/
def Frame (fs : List Fld) (os : List Nat) (s t : State) : Prop :=
  (∀ f, f ∉ fs → f ≠ .values → f.same s t)
    ∧ (Fld.values ∈ fs ∨ ∀ k, keyCode k ∉ os → Tab.find t.dict.val k = Tab.find s.dict.val k)

/-! ## Frames of the commands

Sets of parts and of objects that several commands share. -/

/-- The objects an alarm raised may change. -/
def alarmObjects : List Obj := [OD.recordsLost, OD.entriesFull, OD.traceGaps]
def parts0 : List Fld :=
  [.freeCtr, .mode, .values, .octets, .force, .time, .pot, .sec, .power, .alarms]
def parts1 : List Fld :=
  [.reply, .freeCtr, .mode, .values, .octets, .force, .selects, .store, .time, .galley, .vx,
    .edge, .front, .mogil, .mem, .fab, .host, .parts, .pot, .sec, .power, .res, .pins, .alarms]
def parts2 : List Fld :=
  [.freeCtr, .mode, .values, .octets, .force, .time, .galley, .vx, .edge, .front, .mogil,
    .mem, .fab, .host, .parts, .pot, .sec, .power, .res, .pins, .alarms]
def parts3 : List Fld :=
  [.reply, .freeCtr, .mode, .octets, .time, .galley, .edge, .front, .fab, .pot, .sec, .res,
    .pins, .alarms]
def parts4 : List Fld :=
  [.reply, .freeCtr, .mode, .values, .octets, .force, .time, .galley, .vx, .edge, .front,
    .mogil, .fab, .parts, .pot, .res, .pins, .alarms]
def parts5 : List Fld :=
  [.freeCtr, .mode, .values, .octets, .force, .time, .galley, .vx, .edge, .front, .mogil,
    .fab, .host, .parts, .pot, .sec, .power, .res, .pins, .alarms]
def parts6 : List Fld :=
  [.freeCtr, .mode, .octets, .time, .galley, .edge, .front, .fab, .pot, .pins, .alarms]
def parts7 : List Fld :=
  [.reply, .freeCtr, .mode, .octets, .time, .galley, .edge, .front, .fab, .pot, .pins,
    .alarms]
def parts8 : List Fld :=
  [.freeCtr, .mode, .octets, .time, .galley, .edge, .front, .fab, .pot, .sec, .res, .pins,
    .alarms]
def parts9 : List Fld :=
  [.freeCtr, .octets, .galley, .edge, .front, .fab, .pot, .alarms]
def parts10 : List Fld :=
  [.freeCtr, .values, .octets, .galley, .vx, .edge, .front, .mem, .fab, .pot, .res, .alarms]
def parts11 : List Fld :=
  [.freeCtr, .values, .octets, .galley, .edge, .front, .fab, .pot, .res, .alarms]
def parts12 : List Fld :=
  [.freeCtr, .mode, .values, .octets, .force, .galley, .vx, .edge, .front, .fab, .pot, .res,
    .alarms]
def parts13 : List Fld :=
  [.freeCtr, .mode, .octets, .time, .galley, .vx, .mogil, .mem, .fab, .pot, .sec, .res,
    .alarms]
def parts14 : List Fld :=
  [.freeCtr, .mode, .values, .octets, .time, .galley, .vx, .edge, .front, .mogil, .mem,
    .fab, .pot, .sec, .res, .alarms]
def parts15 : List Fld :=
  [.freeCtr, .mode, .values, .octets, .time, .galley, .vx, .edge, .front, .mogil, .mem,
    .fab, .host, .pot, .sec, .res, .alarms]
def parts16 : List Fld :=
  [.freeCtr, .mode, .values, .octets, .time, .galley, .vx, .edge, .front, .mogil, .fab,
    .pot, .sec, .res, .alarms]
def parts17 : List Fld :=
  [.freeCtr, .mode, .octets, .force, .galley, .vx, .edge, .pot, .alarms]
def parts18 : List Fld :=
  [.reply, .freeCtr, .mode, .octets, .force, .edge, .pot, .alarms]
def parts19 : List Fld :=
  [.freeCtr, .mode, .octets, .time, .galley, .vx, .edge, .front, .mogil, .mem, .fab, .pot,
    .sec, .res, .alarms]
def parts20 : List Fld :=
  [.freeCtr, .values, .octets, .time, .galley, .edge, .front, .fab, .pot, .res, .alarms]
def parts21 : List Fld :=
  [.freeCtr, .mode, .values, .octets, .time, .galley, .edge, .front, .mogil, .fab, .pot,
    .res, .alarms]
def parts22 : List Fld :=
  [.freeCtr, .mode, .values, .octets, .time, .galley, .edge, .front, .fab, .pot, .res,
    .alarms]
def parts23 : List Fld :=
  [.freeCtr, .mode, .octets, .fab, .pot, .sec, .res, .alarms]
def parts24 : List Fld :=
  [.freeCtr, .mode, .octets, .time, .front, .fab, .pot, .sec, .res, .alarms]
def parts25 : List Fld :=
  [.reply, .freeCtr, .mode, .values, .octets, .force, .time, .galley, .edge, .front, .fab,
    .pot, .res, .alarms]
def parts26 : List Fld :=
  [.reply, .freeCtr, .mode, .octets, .force, .edge, .front, .pot, .alarms]
def parts27 : List Fld :=
  [.reply, .freeCtr, .mode, .values, .octets, .force, .time, .galley, .vx, .edge, .front,
    .mogil, .mem, .fab, .pot, .sec, .res, .alarms]
def parts28 : List Fld :=
  [.freeCtr, .octets, .galley, .mogil, .fab, .pot, .alarms]
def parts29 : List Fld :=
  [.freeCtr, .values, .octets, .galley, .edge, .front, .mogil, .fab, .pot, .res, .alarms]
def parts30 : List Fld :=
  [.reply, .freeCtr, .octets, .force, .mogil, .fab, .parts, .pot, .alarms]
def parts31 : List Fld :=
  [.reply, .freeCtr, .octets, .mogil, .parts, .pot, .alarms]
def parts32 : List Fld :=
  [.freeCtr, .mode, .octets, .time, .fab, .pot, .sec, .res, .alarms]
def parts33 : List Fld :=
  [.freeCtr, .octets, .galley, .edge, .front, .fab, .host, .pot, .alarms]
def parts34 : List Fld :=
  [.freeCtr, .mode, .values, .octets, .time, .galley, .vx, .edge, .front, .mogil, .fab,
    .host, .pot, .sec, .res, .alarms]
def parts35 : List Fld :=
  [.freeCtr, .values, .octets, .galley, .edge, .front, .fab, .host, .pot, .res, .alarms]
def parts36 : List Fld :=
  [.freeCtr, .values, .octets, .time, .galley, .edge, .front, .fab, .host, .pot, .res,
    .alarms]
def parts37 : List Fld :=
  [.reply, .freeCtr, .octets, .force, .host, .pot, .alarms]
def parts38 : List Fld :=
  [.reply, .freeCtr, .values, .octets, .galley, .edge, .front, .fab, .host, .parts, .pot,
    .res, .alarms]
def parts39 : List Fld :=
  [.freeCtr, .octets, .edge, .front, .fab, .parts, .pot, .alarms]
def parts40 : List Fld :=
  [.freeCtr, .octets, .galley, .edge, .front, .fab, .parts, .pot, .alarms]
def parts41 : List Fld :=
  [.reply, .freeCtr, .mode, .values, .octets, .force, .selects, .store, .time, .galley, .vx,
    .edge, .front, .mogil, .mem, .fab, .host, .parts, .pot, .sec, .res, .pins, .alarms]
def parts42 : List Fld :=
  [.reply, .freeCtr, .values, .octets, .force, .selects, .store, .host, .pot, .alarms]
def parts43 : List Fld :=
  [.reply, .freeCtr, .mode, .values, .octets, .force, .selects, .time, .galley, .vx, .edge,
    .front, .mogil, .mem, .fab, .host, .parts, .pot, .sec, .res, .pins, .alarms]
def parts44 : List Fld :=
  [.reply, .freeCtr, .octets, .host, .pot, .sec, .alarms]
def parts45 : List Fld :=
  [.reply, .freeCtr, .mode, .octets, .force, .time, .mem, .fab, .pot, .sec, .res, .alarms]
def parts46 : List Fld :=
  [.reply, .freeCtr, .mode, .octets, .fab, .pot, .sec, .res, .alarms]
def parts47 : List Fld :=
  [.reply, .freeCtr, .octets, .galley, .fab, .pot, .power, .alarms]
def parts48 : List Fld :=
  [.freeCtr, .octets, .galley, .vx, .fab, .pot, .power, .alarms]
def parts49 : List Fld :=
  [.freeCtr, .octets, .galley, .vx, .edge, .front, .fab, .pot, .alarms]
def parts50 : List Fld :=
  [.freeCtr, .mode, .octets, .galley, .pot, .res, .alarms]
def parts51 : List Fld :=
  [.reply, .freeCtr, .octets, .galley, .vx, .edge, .front, .fab, .pot, .alarms]
def parts52 : List Fld :=
  [.freeCtr, .mode, .octets, .force, .galley, .vx, .edge, .front, .fab, .pot, .res, .alarms]
def parts53 : List Fld :=
  [.freeCtr, .mode, .octets, .time, .galley, .edge, .front, .fab, .pot, .res, .pins, .alarms]
def parts54 : List Fld :=
  [.freeCtr, .mode, .octets, .force, .time, .galley, .vx, .edge, .fab, .pot, .sec, .res,
    .alarms]
def parts55 : List Fld :=
  [.reply, .freeCtr, .mode, .octets, .time, .fab, .pot, .sec, .res, .alarms]
def parts56 : List Fld :=
  [.reply, .freeCtr, .mode, .octets, .time, .galley, .fab, .pot, .sec, .res, .alarms]
def parts57 : List Fld :=
  [.freeCtr, .mode, .values, .octets, .force, .time, .galley, .vx, .edge, .front, .mogil,
    .mem, .fab, .pot, .sec, .res, .alarms]
def objects0 : List Obj :=
  alarmObjects ++ [OD.smbusAddress, OD.lastTransition, OD.lastTransitionTime,
    OD.transitions, OD.bootSource, OD.vinNow, OD.capNow, OD.throttleCause, OD.straps]
def objects1 : List Obj :=
  alarmObjects ++ [OD.smbusAddress, OD.lastTransition, OD.lastTransitionTime,
    OD.transitions, OD.degradedCauses, OD.bootSource, OD.powerNow, OD.capNow, OD.throttleLevel, OD.throttleCause,
    OD.withdrawn, OD.rateWord, OD.statusSticky, OD.selectedRef, OD.stateChanges, OD.completedOk, OD.expiredCount,
    OD.abortedCount, OD.impressionsAborted, OD.allocFails, OD.freeLow, OD.straps]
def objects2 : List Obj :=
  alarmObjects ++ [OD.lastTransition, OD.lastTransitionTime, OD.transitions,
    OD.degradedCauses, OD.bootStage, OD.powerNow, OD.capNow, OD.throttleLevel, OD.throttleCause, OD.withdrawn,
    OD.rateWord, OD.statusSticky, OD.selectedRef, OD.stateChanges, OD.completedOk, OD.expiredCount, OD.abortedCount,
    OD.impressionsAborted, OD.allocFails, OD.freeLow]
def objects3 : List Obj :=
  alarmObjects ++ [OD.lastTransition, OD.lastTransitionTime, OD.transitions, OD.safeCause,
    OD.completedOk, OD.expiredCount, OD.abortedCount, OD.impressionsAborted, OD.allocFails, OD.freeLow, OD.grants]
def objects4 : List Obj :=
  alarmObjects ++ [OD.deviceEnable, OD.lastTransition, OD.lastTransitionTime,
    OD.transitions, OD.degradedCauses, OD.lastEnableReason, OD.lastEnableDetail, OD.stampOverflow,
    OD.stampOverflowCount, OD.portEnable, OD.flowEnable, OD.flowActivePort, OD.txDiscarded, OD.mogilEnable,
    OD.pressSkipped, OD.completedOk, OD.expiredCount, OD.abortedCount, OD.impressionsAborted, OD.lateDiscarded,
    OD.lateCompletions, OD.slackEroded, OD.badDecrements, OD.cellEnable] ++ [OD.hamperEnable, OD.allocFails,
    OD.freeLow, OD.busyCycles, OD.groupEnable, OD.contextEnable]
def objects5 : List Obj :=
  alarmObjects ++ [OD.deviceEnable, OD.lastTransition, OD.lastTransitionTime,
    OD.transitions, OD.degradedCauses, OD.safeCause, OD.bootStage, OD.bootResult, OD.lastEnableReason,
    OD.lastEnableDetail, OD.railVoltage, OD.stampOverflow, OD.stampOverflowCount, OD.portEnable, OD.flowEnable,
    OD.flowActivePort, OD.txDiscarded, OD.mogilEnable, OD.pressSkipped, OD.completedOk, OD.expiredCount,
    OD.abortedCount, OD.impressionsAborted, OD.lateDiscarded] ++ [OD.lateCompletions, OD.slackEroded,
    OD.badDecrements, OD.cellEnable, OD.formeEnable, OD.minMargin, OD.hamperEnable, OD.allocFails, OD.freeLow,
    OD.imageVersion, OD.imageFmtMask, OD.imageCaps, OD.imageState, OD.imageReason, OD.busyCycles, OD.groupEnable,
    OD.rampEnable, OD.contextEnable, OD.regionEnable, OD.qpEnable, OD.partEnable]
def objects6 : List Obj :=
  alarmObjects ++ [OD.lastTransition, OD.lastTransitionTime, OD.transitions, OD.safeCause,
    OD.bootResult, OD.completedOk, OD.expiredCount, OD.abortedCount, OD.impressionsAborted, OD.allocFails, OD.freeLow]
def objects7 : List Obj :=
  alarmObjects ++ [OD.lastTransition, OD.lastTransitionTime, OD.transitions, OD.safeCause,
    OD.bootResult, OD.rateWord, OD.statusSticky, OD.stateChanges, OD.completedOk, OD.expiredCount, OD.abortedCount,
    OD.impressionsAborted, OD.allocFails, OD.freeLow]
def objects8 : List Obj :=
  alarmObjects ++ [OD.lastTransition, OD.lastTransitionTime, OD.transitions, OD.phaseError,
    OD.rateWord, OD.statusSticky, OD.stateChanges, OD.lastStep, OD.pressSkipped, OD.completedOk, OD.expiredCount,
    OD.abortedCount, OD.impressionsAborted, OD.lateCompletions, OD.slackEroded, OD.badDecrements, OD.allocFails,
    OD.freeLow, OD.grants]
def objects9 : List Obj :=
  alarmObjects ++ [OD.lastTransition, OD.lastTransitionTime, OD.transitions,
    OD.statusSticky, OD.lastStep, OD.pressSkipped, OD.completedOk, OD.expiredCount, OD.abortedCount,
    OD.impressionsAborted, OD.lateCompletions, OD.slackEroded, OD.badDecrements, OD.allocFails, OD.freeLow, OD.grants]
def objects10 : List Obj :=
  alarmObjects ++ [OD.rateWord, OD.statusSticky, OD.lastSwitch, OD.selectedRef,
    OD.stateChanges]
def objects11 : List Obj :=
  alarmObjects ++ [OD.lastTransition, OD.lastTransitionTime, OD.transitions,
    OD.phaseError, OD.rateWord, OD.statusSticky, OD.lastSwitch, OD.selectedRef, OD.stateChanges, OD.lastStep,
    OD.policedCount, OD.meanPathDelay, OD.ptpOffset, OD.pressSkipped, OD.completedOk, OD.expiredCount,
    OD.abortedCount, OD.impressionsAborted, OD.lateCompletions, OD.slackEroded, OD.badDecrements, OD.allocFails,
    OD.freeLow, OD.grants]
def objects12 : List Obj :=
  alarmObjects ++ [OD.lastTransition, OD.lastTransitionTime, OD.transitions,
    OD.phaseError, OD.rateWord, OD.statusSticky, OD.lastSwitch, OD.selectedRef, OD.stateChanges, OD.lastStep,
    OD.ppsRejected, OD.pressSkipped, OD.completedOk, OD.expiredCount, OD.abortedCount, OD.impressionsAborted,
    OD.lateCompletions, OD.slackEroded, OD.badDecrements, OD.allocFails, OD.freeLow, OD.grants]
def objects13 : List Obj :=
  alarmObjects ++ [OD.ptmValid, OD.hostOffset, OD.hostOffsetMedian, OD.ptmLinkDelay,
    OD.ptmPairTime]
def objects14 : List Obj :=
  alarmObjects ++ [OD.presses, OD.pressRefused, OD.pressSkipped, OD.pressed,
    OD.lastImpression, OD.counterPeak]
def objects15 : List Obj :=
  alarmObjects ++ [OD.livePeak, OD.badDecrements, OD.allocFails, OD.freeLow,
    OD.shortFires, OD.bindOutOfRange]
def objects16 : List Obj :=
  alarmObjects ++ [OD.badDecrements, OD.allocFails, OD.freeLow, OD.shortFires,
    OD.bindOutOfRange]
def objects17 : List Obj :=
  alarmObjects ++ [OD.dispatches, OD.completedOk, OD.expiredCount, OD.abortedCount,
    OD.lateDiscarded, OD.lateRunStarts, OD.badDecrements, OD.waitHist, OD.allocFails, OD.freeLow, OD.corePartition,
    OD.slugsRun, OD.partitionClears, OD.clearCycles, OD.busyCycles, OD.wakes]
def objects18 : List Obj :=
  alarmObjects ++ [OD.completedOk, OD.expiredCount, OD.abortedCount, OD.lateDiscarded,
    OD.lateCompletions, OD.slackEroded, OD.badDecrements, OD.allocFails, OD.freeLow, OD.busyCycles]
def objects19 : List Obj :=
  alarmObjects ++ [OD.lastTransition, OD.lastTransitionTime, OD.transitions,
    OD.degradedCauses, OD.completedOk, OD.expiredCount, OD.abortedCount, OD.retries, OD.retryRefused,
    OD.lateDiscarded, OD.badDecrements, OD.allocFails, OD.freeLow, OD.coreImage, OD.unitFaults, OD.busyCycles,
    OD.occasionsLost, OD.wakes, OD.spineQueueLost]
def objects20 : List Obj :=
  alarmObjects ++ [OD.completedOk, OD.expiredCount, OD.abortedCount,
    OD.impressionsAborted, OD.badDecrements, OD.allocFails, OD.freeLow]
def objects21 : List Obj :=
  alarmObjects ++ [OD.completedOk, OD.expiredCount, OD.abortedCount, OD.badDecrements,
    OD.allocFails, OD.freeLow]
def objects22 : List Obj :=
  alarmObjects ++ [OD.completedOk, OD.expiredCount, OD.abortedCount,
    OD.impressionsAborted, OD.stalls, OD.allocFails, OD.freeLow]
def objects23 : List Obj :=
  alarmObjects ++ [OD.completedOk, OD.expiredCount, OD.abortedCount, OD.lateCompletions,
    OD.slackEroded, OD.badDecrements, OD.allocFails, OD.freeLow]
def objects24 : List Obj :=
  alarmObjects ++ [OD.lastTransition, OD.lastTransitionTime, OD.transitions,
    OD.degradedCauses, OD.completedOk, OD.expiredCount, OD.abortedCount, OD.retries, OD.retryRefused,
    OD.lateDiscarded, OD.lateCompletions, OD.slackEroded, OD.badDecrements, OD.allocFails, OD.freeLow, OD.coreImage,
    OD.unitFaults, OD.busyCycles, OD.occasionsLost, OD.wakes, OD.spineQueueLost]
def objects25 : List Obj :=
  alarmObjects ++ [OD.lastTransition, OD.lastTransitionTime, OD.transitions,
    OD.midVectorTraps, OD.unmappedAccesses, OD.wakes, OD.checkFailures, OD.blockedAccesses, OD.heldWrites,
    OD.windowViolations, OD.grants]
def objects26 : List Obj :=
  alarmObjects ++ [OD.lastTransition, OD.lastTransitionTime, OD.transitions,
    OD.degradedCauses, OD.completedOk, OD.expiredCount, OD.abortedCount, OD.retries, OD.retryRefused,
    OD.lateDiscarded, OD.lateCompletions, OD.slackEroded, OD.badDecrements, OD.allocFails, OD.freeLow, OD.coreImage,
    OD.midVectorTraps, OD.busyCycles, OD.spineQueueLost]
def objects27 : List Obj :=
  alarmObjects ++ [OD.lastTransition, OD.lastTransitionTime, OD.transitions,
    OD.degradedCauses, OD.completedOk, OD.expiredCount, OD.abortedCount, OD.retries, OD.retryRefused,
    OD.lateDiscarded, OD.badDecrements, OD.allocFails, OD.freeLow, OD.coreImage, OD.eccUncorrected, OD.spineQueueLost]
def objects28 : List Obj :=
  alarmObjects ++ [OD.imageVersion, OD.imageFmtMask, OD.imageCaps, OD.imageState,
    OD.imageReason]
def objects29 : List Obj :=
  alarmObjects ++ [OD.lastTransition, OD.lastTransitionTime, OD.transitions,
    OD.completedOk, OD.expiredCount, OD.abortedCount, OD.lateDiscarded, OD.lateCompletions, OD.slackEroded,
    OD.badDecrements, OD.allocFails, OD.freeLow, OD.jobs, OD.itemsDone, OD.saturatedItems, OD.singularItems,
    OD.crcFailed, OD.busyCycles, OD.unmappedAccesses, OD.wakes, OD.checkFailures, OD.blockedAccesses, OD.heldWrites,
    OD.windowViolations] ++ [OD.grants]
def objects30 : List Obj :=
  alarmObjects ++ [OD.lastTransition, OD.lastTransitionTime, OD.transitions,
    OD.completedOk, OD.expiredCount, OD.abortedCount, OD.lateDiscarded, OD.lateCompletions, OD.slackEroded,
    OD.badDecrements, OD.allocFails, OD.freeLow, OD.itemsDone, OD.saturatedItems, OD.singularItems, OD.crcFailed,
    OD.busyCycles, OD.unmappedAccesses, OD.wakes, OD.checkFailures, OD.blockedAccesses, OD.heldWrites,
    OD.windowViolations, OD.grants]
def objects31 : List Obj :=
  alarmObjects ++ [OD.completedOk, OD.expiredCount, OD.abortedCount, OD.lateDiscarded,
    OD.badDecrements, OD.allocFails, OD.freeLow, OD.busyCycles]
def objects32 : List Obj :=
  alarmObjects ++ [OD.lastTransition, OD.lastTransitionTime, OD.transitions,
    OD.completedOk, OD.expiredCount, OD.abortedCount, OD.lateDiscarded, OD.lateCompletions, OD.slackEroded,
    OD.badDecrements, OD.allocFails, OD.freeLow, OD.busyCycles, OD.unmappedAccesses, OD.wakes, OD.checkFailures,
    OD.blockedAccesses, OD.heldWrites, OD.windowViolations, OD.grants]
def objects33 : List Obj :=
  alarmObjects ++ [OD.lastTransition, OD.lastTransitionTime, OD.transitions,
    OD.stampOverflow, OD.stampOverflowCount, OD.txDiscarded, OD.completedOk, OD.expiredCount, OD.abortedCount,
    OD.lateDiscarded, OD.lateCompletions, OD.slackEroded, OD.badDecrements, OD.allocFails, OD.freeLow, OD.busyCycles,
    OD.sectionsEncoded, OD.unmappedAccesses, OD.wakes, OD.checkFailures, OD.blockedAccesses, OD.heldWrites,
    OD.windowViolations, OD.grants]
def objects34 : List Obj :=
  alarmObjects ++ [OD.lastTransition, OD.lastTransitionTime, OD.transitions,
    OD.dispatches, OD.completedOk, OD.expiredCount, OD.abortedCount, OD.lateDiscarded, OD.lateCompletions,
    OD.lateRunStarts, OD.slackEroded, OD.badDecrements, OD.waitHist, OD.allocFails, OD.freeLow, OD.busyCycles,
    OD.unmappedAccesses, OD.wakes, OD.checkFailures, OD.blockedAccesses, OD.heldWrites, OD.npPeak,
    OD.windowViolations, OD.hostUnavailable] ++ [OD.grants]
def objects35 : List Obj :=
  alarmObjects ++ [OD.lastTransition, OD.lastTransitionTime, OD.transitions,
    OD.dispatches, OD.completedOk, OD.expiredCount, OD.abortedCount, OD.lateDiscarded, OD.lateCompletions,
    OD.lateRunStarts, OD.slackEroded, OD.badDecrements, OD.waitHist, OD.allocFails, OD.freeLow, OD.busyCycles,
    OD.unmappedAccesses, OD.wakes, OD.checkFailures, OD.blockedAccesses, OD.windowViolations, OD.grants]
def objects36 : List Obj :=
  alarmObjects ++ [OD.dispatches, OD.completedOk, OD.expiredCount, OD.abortedCount,
    OD.lateCompletions, OD.lateRunStarts, OD.slackEroded, OD.badDecrements, OD.waitHist, OD.allocFails, OD.freeLow]
def objects37 : List Obj :=
  alarmObjects ++ [OD.lastTransition, OD.lastTransitionTime, OD.transitions,
    OD.degradedCauses, OD.coreImage]
def objects38 : List Obj :=
  alarmObjects ++ [OD.lastTransition, OD.lastTransitionTime, OD.transitions,
    OD.degradedCauses, OD.groupEnable]
def objects39 : List Obj :=
  alarmObjects ++ [OD.lastTransition, OD.lastTransitionTime, OD.transitions,
    OD.stampOverflow, OD.stampOverflowCount, OD.policedCount, OD.portMalformed, OD.unknownFlow, OD.policed,
    OD.fwRingDrops, OD.sectionsAccepted, OD.seqGaps, OD.txDiscarded, OD.saNextPn, OD.spoofDrops, OD.mapUnknown,
    OD.ulBitsSaved, OD.completedOk, OD.expiredCount, OD.abortedCount, OD.lateDiscarded, OD.lateCompletions,
    OD.slackEroded, OD.badDecrements] ++ [OD.allocFails, OD.freeLow, OD.shortFires, OD.lateEvents, OD.bindOutOfRange,
    OD.busyCycles, OD.clippedSamples, OD.sectionsDecoded, OD.sectionsInvalid, OD.unmappedAccesses, OD.wakes,
    OD.checkFailures, OD.blockedAccesses, OD.heldWrites, OD.windowViolations, OD.grants]
def objects40 : List Obj :=
  alarmObjects ++ [OD.lastTransition, OD.lastTransitionTime, OD.transitions,
    OD.sectionsAccepted, OD.badDecrements, OD.allocFails, OD.freeLow, OD.shortFires, OD.lateEvents, OD.bindOutOfRange,
    OD.clippedSamples, OD.sectionsDecoded, OD.unmappedAccesses, OD.wakes, OD.checkFailures, OD.blockedAccesses,
    OD.heldWrites, OD.windowViolations, OD.grants]
def objects41 : List Obj :=
  alarmObjects ++ [OD.stampOverflow, OD.stampOverflowCount, OD.saNextPn, OD.completedOk,
    OD.expiredCount, OD.abortedCount, OD.lateDiscarded, OD.lateCompletions, OD.slackEroded, OD.badDecrements,
    OD.allocFails, OD.freeLow, OD.busyCycles]
def objects42 : List Obj :=
  alarmObjects ++ [OD.stampOverflow, OD.stampOverflowCount, OD.txDiscarded,
    OD.completedOk, OD.expiredCount, OD.abortedCount, OD.lateDiscarded, OD.lateCompletions, OD.slackEroded,
    OD.badDecrements, OD.allocFails, OD.freeLow, OD.busyCycles]
def objects43 : List Obj :=
  alarmObjects ++ [OD.lastTransition, OD.lastTransitionTime, OD.transitions,
    OD.degradedCauses, OD.stampOverflow, OD.stampOverflowCount, OD.losCount, OD.flowActivePort, OD.txDiscarded,
    OD.completedOk, OD.expiredCount, OD.abortedCount, OD.lateDiscarded, OD.lateCompletions, OD.slackEroded,
    OD.badDecrements, OD.allocFails, OD.freeLow, OD.busyCycles]
def objects44 : List Obj :=
  alarmObjects ++ [OD.lastTransition, OD.lastTransitionTime, OD.transitions,
    OD.degradedCauses, OD.stampOverflow, OD.stampOverflowCount, OD.flowActivePort, OD.txDiscarded, OD.completedOk,
    OD.expiredCount, OD.abortedCount, OD.lateDiscarded, OD.lateCompletions, OD.slackEroded, OD.badDecrements,
    OD.allocFails, OD.freeLow, OD.busyCycles]
def objects45 : List Obj :=
  alarmObjects ++ [OD.lastTransition, OD.lastTransitionTime, OD.transitions,
    OD.degradedCauses, OD.stampOverflow, OD.stampOverflowCount, OD.lolCount, OD.flowActivePort, OD.txDiscarded,
    OD.completedOk, OD.expiredCount, OD.abortedCount, OD.lateDiscarded, OD.lateCompletions, OD.slackEroded,
    OD.badDecrements, OD.allocFails, OD.freeLow, OD.busyCycles]
def objects46 : List Obj :=
  alarmObjects ++ [OD.lastTransition, OD.lastTransitionTime, OD.transitions,
    OD.degradedCauses, OD.stampOverflow, OD.stampOverflowCount, OD.fecCorrected, OD.fecUncorrected, OD.flowActivePort,
    OD.txDiscarded, OD.completedOk, OD.expiredCount, OD.abortedCount, OD.lateDiscarded, OD.lateCompletions,
    OD.slackEroded, OD.badDecrements, OD.allocFails, OD.freeLow, OD.busyCycles]
def objects47 : List Obj :=
  alarmObjects ++ [OD.lastTransition, OD.lastTransitionTime, OD.transitions,
    OD.degradedCauses, OD.stampOverflow, OD.stampOverflowCount, OD.portEnable, OD.flowActivePort, OD.txDiscarded,
    OD.completedOk, OD.expiredCount, OD.abortedCount, OD.lateDiscarded, OD.lateCompletions, OD.slackEroded,
    OD.badDecrements, OD.allocFails, OD.freeLow, OD.busyCycles]
def objects48 : List Obj :=
  alarmObjects ++ [OD.lastTransition, OD.lastTransitionTime, OD.transitions,
    OD.degradedCauses, OD.flowEnable, OD.flowActivePort]
def objects49 : List Obj :=
  alarmObjects ++ [OD.lastTransition, OD.lastTransitionTime, OD.transitions,
    OD.degradedCauses, OD.packetsRx, OD.authFails, OD.seqDrops, OD.livePeak, OD.completedOk, OD.expiredCount,
    OD.abortedCount, OD.retries, OD.retryRefused, OD.lateDiscarded, OD.lateCompletions, OD.slackEroded,
    OD.badDecrements, OD.allocFails, OD.badReleases, OD.freeLow, OD.shortFires, OD.lateEvents, OD.bindOutOfRange,
    OD.coreImage] ++ [OD.unitFaults, OD.busyCycles, OD.occasionsLost, OD.unmappedAccesses, OD.ssCorrected,
    OD.ssUncorrected, OD.hbmCorrected, OD.hbmUncorrected, OD.readsPeak, OD.persistentSymbol, OD.cmCorrected,
    OD.cmUncorrected, OD.fabMalformed, OD.wakes, OD.lockedOffDrops, OD.fencedDrops, OD.checkFailures,
    OD.blockedAccesses, OD.heldWrites, OD.windowViolations, OD.grants, OD.spineQueueLost]
def objects50 : List Obj :=
  alarmObjects ++ [OD.lastTransition, OD.lastTransitionTime, OD.transitions,
    OD.degradedCauses, OD.livePeak, OD.completedOk, OD.expiredCount, OD.abortedCount, OD.retries, OD.retryRefused,
    OD.lateDiscarded, OD.lateCompletions, OD.slackEroded, OD.badDecrements, OD.allocFails, OD.badReleases, OD.freeLow,
    OD.shortFires, OD.lateEvents, OD.bindOutOfRange, OD.coreImage, OD.unitFaults, OD.busyCycles, OD.occasionsLost] ++
    [OD.unmappedAccesses, OD.ssCorrected, OD.ssUncorrected, OD.hbmCorrected, OD.hbmUncorrected, OD.readsPeak,
    OD.persistentSymbol, OD.cmCorrected, OD.cmUncorrected, OD.fabMalformed, OD.wakes, OD.lockedOffDrops,
    OD.fencedDrops, OD.checkFailures, OD.blockedAccesses, OD.heldWrites, OD.windowViolations, OD.grants,
    OD.spineQueueLost]
def objects51 : List Obj :=
  alarmObjects ++ [OD.lastTransition, OD.lastTransitionTime, OD.transitions,
    OD.degradedCauses, OD.replays, OD.reroutes]
def objects52 : List Obj :=
  alarmObjects ++ [OD.lastTransition, OD.lastTransitionTime, OD.transitions,
    OD.degradedCauses, OD.reroutes]
def objects53 : List Obj :=
  alarmObjects ++ [OD.lastTransition, OD.lastTransitionTime, OD.transitions,
    OD.degradedCauses, OD.livePeak, OD.completedOk, OD.expiredCount, OD.abortedCount, OD.retries, OD.retryRefused,
    OD.lateDiscarded, OD.lateCompletions, OD.slackEroded, OD.badDecrements, OD.allocFails, OD.badReleases, OD.freeLow,
    OD.shortFires, OD.lateEvents, OD.bindOutOfRange, OD.coreImage, OD.unitFaults, OD.busyCycles, OD.occasionsLost] ++
    [OD.unmappedAccesses, OD.ssCorrected, OD.ssUncorrected, OD.hbmCorrected, OD.hbmUncorrected, OD.readsPeak,
    OD.persistentSymbol, OD.cmCorrected, OD.cmUncorrected, OD.wakes, OD.fencedDrops, OD.checkFailures,
    OD.blockedAccesses, OD.heldWrites, OD.windowViolations, OD.grants, OD.spineQueueLost]
def objects54 : List Obj :=
  alarmObjects ++ [OD.lastTransition, OD.lastTransitionTime, OD.transitions,
    OD.degradedCauses, OD.grants]
def objects55 : List Obj :=
  alarmObjects ++ [OD.ssCorrected, OD.ssUncorrected, OD.scrubLate, OD.hbmCorrected,
    OD.hbmUncorrected, OD.persistentSymbol, OD.cmCorrected, OD.cmUncorrected]
def objects56 : List Obj :=
  alarmObjects ++ [OD.badDecrements, OD.allocFails, OD.freeLow, OD.shortFires,
    OD.lateEvents, OD.bindOutOfRange, OD.doorbellErrors]
def objects57 : List Obj :=
  alarmObjects ++ [OD.lastTransition, OD.lastTransitionTime, OD.transitions,
    OD.completedOk, OD.expiredCount, OD.abortedCount, OD.lateDiscarded, OD.lateCompletions, OD.slackEroded,
    OD.badDecrements, OD.allocFails, OD.freeLow, OD.busyCycles, OD.unmappedAccesses, OD.wakes, OD.checkFailures,
    OD.blockedAccesses, OD.doorbellErrors, OD.windowViolations, OD.hostUnavailable, OD.grants]
def objects58 : List Obj :=
  alarmObjects ++ [OD.completedOk, OD.expiredCount, OD.abortedCount, OD.lateDiscarded,
    OD.lateCompletions, OD.slackEroded, OD.badDecrements, OD.allocFails, OD.freeLow, OD.busyCycles,
    OD.hostUnavailable]
def objects59 : List Obj :=
  alarmObjects ++ [OD.ptmValid, OD.completedOk, OD.expiredCount, OD.abortedCount,
    OD.lateDiscarded, OD.lateCompletions, OD.slackEroded, OD.badDecrements, OD.allocFails, OD.freeLow, OD.busyCycles,
    OD.flrs, OD.qpEnable, OD.hostUnavailable]
def objects60 : List Obj :=
  alarmObjects ++ [OD.lastTransition, OD.lastTransitionTime, OD.transitions,
    OD.completedOk, OD.expiredCount, OD.abortedCount, OD.lateDiscarded, OD.lateCompletions, OD.slackEroded,
    OD.badDecrements, OD.allocFails, OD.freeLow, OD.busyCycles, OD.unmappedAccesses, OD.wakes, OD.checkFailures,
    OD.blockedAccesses, OD.heldWrites, OD.npPeak, OD.hostLateCompletions, OD.windowViolations, OD.hostUnavailable,
    OD.grants]
def objects61 : List Obj :=
  alarmObjects ++ [OD.completedOk, OD.expiredCount, OD.abortedCount, OD.lateDiscarded,
    OD.lateCompletions, OD.slackEroded, OD.badDecrements, OD.allocFails, OD.freeLow, OD.busyCycles, OD.npPeak,
    OD.hostUnavailable]
def objects62 : List Obj :=
  alarmObjects ++ [OD.completedOk, OD.expiredCount, OD.abortedCount,
    OD.impressionsAborted, OD.lateDiscarded, OD.lateCompletions, OD.slackEroded, OD.badDecrements, OD.allocFails,
    OD.freeLow, OD.busyCycles, OD.qpEnable, OD.hostUnavailable, OD.resets]
def objects63 : List Obj :=
  alarmObjects ++ [OD.completedOk, OD.expiredCount, OD.abortedCount,
    OD.impressionsAborted, OD.allocFails, OD.freeLow]
def objects64 : List Obj :=
  alarmObjects ++ [OD.mpEnable, OD.mbIgnored, OD.deviceEnable, OD.lastTransition,
    OD.lastTransitionTime, OD.transitions, OD.degradedCauses, OD.safeCause, OD.bootResult, OD.lastEnableReason,
    OD.lastEnableDetail, OD.capNow, OD.throttleCause, OD.rateWord, OD.statusSticky, OD.lastSwitch, OD.selectedRef,
    OD.stateChanges, OD.lastStep, OD.reference, OD.ptpDomain, OD.ptpEnable, OD.stampOverflow, OD.stampOverflowCount]
    ++ [OD.lanePrbsConfig, OD.lanePrbsBits, OD.lanePrbsErrors, OD.portEnable, OD.flowEnable, OD.flowActivePort,
    OD.txDiscarded, OD.macsecEnable, OD.txAn, OD.entries, OD.mogilEnable, OD.takeovers, OD.mogilPrbsConfig,
    OD.channelMap, OD.livePeak, OD.pressSkipped, OD.completedOk, OD.expiredCount, OD.abortedCount,
    OD.impressionsAborted, OD.lateDiscarded, OD.lateCompletions, OD.slackEroded, OD.badDecrements] ++ [OD.period,
    OD.pressLead, OD.slotFormes, OD.cellEnable, OD.formeEnable, OD.minMargin, OD.hamperEnable, OD.allocFails,
    OD.freeLow, OD.counterPeak, OD.imageState, OD.coreImage, OD.busyCycles, OD.groupEnable, OD.rampEnable,
    OD.contextEnable, OD.regionEnable, OD.qpEnable, OD.partEnable, OD.partPause, OD.hostUnavailable, OD.resets,
    OD.wardenRestarts, OD.grants] ++ [OD.gpioConfig, OD.bankVoltage, OD.pinFault]
def objects65 : List Obj :=
  alarmObjects ++ [OD.mpEnable, OD.dropped, OD.deviceEnable, OD.lastTransition,
    OD.lastTransitionTime, OD.transitions, OD.degradedCauses, OD.safeCause, OD.bootResult, OD.lastEnableReason,
    OD.lastEnableDetail, OD.capNow, OD.throttleCause, OD.rateWord, OD.statusSticky, OD.lastSwitch, OD.selectedRef,
    OD.stateChanges, OD.lastStep, OD.reference, OD.ptpDomain, OD.ptpEnable, OD.stampOverflow, OD.stampOverflowCount]
    ++ [OD.lanePrbsConfig, OD.lanePrbsBits, OD.lanePrbsErrors, OD.portEnable, OD.flowEnable, OD.flowActivePort,
    OD.txDiscarded, OD.macsecEnable, OD.txAn, OD.entries, OD.mogilEnable, OD.takeovers, OD.mogilPrbsConfig,
    OD.channelMap, OD.livePeak, OD.pressSkipped, OD.completedOk, OD.expiredCount, OD.abortedCount,
    OD.impressionsAborted, OD.lateDiscarded, OD.lateCompletions, OD.slackEroded, OD.badDecrements] ++ [OD.period,
    OD.pressLead, OD.slotFormes, OD.cellEnable, OD.formeEnable, OD.minMargin, OD.hamperEnable, OD.allocFails,
    OD.freeLow, OD.counterPeak, OD.imageState, OD.coreImage, OD.busyCycles, OD.groupEnable, OD.rampEnable,
    OD.contextEnable, OD.regionEnable, OD.qpEnable, OD.partEnable, OD.partPause, OD.hostUnavailable, OD.resets,
    OD.wardenRestarts, OD.grants] ++ [OD.gpioConfig, OD.bankVoltage, OD.pinFault]
def objects66 : List Obj :=
  alarmObjects ++ [OD.mpEnable, OD.deviceEnable, OD.lastTransition, OD.lastTransitionTime,
    OD.transitions, OD.degradedCauses, OD.safeCause, OD.bootResult, OD.lastEnableReason, OD.lastEnableDetail,
    OD.capNow, OD.throttleCause, OD.rateWord, OD.statusSticky, OD.lastSwitch, OD.selectedRef, OD.stateChanges,
    OD.lastStep, OD.reference, OD.ptpDomain, OD.ptpEnable, OD.stampOverflow, OD.stampOverflowCount, OD.lanePrbsConfig]
    ++ [OD.lanePrbsBits, OD.lanePrbsErrors, OD.portEnable, OD.flowEnable, OD.flowActivePort, OD.txDiscarded,
    OD.macsecEnable, OD.txAn, OD.entries, OD.mogilEnable, OD.takeovers, OD.mogilPrbsConfig, OD.channelMap,
    OD.livePeak, OD.pressSkipped, OD.completedOk, OD.expiredCount, OD.abortedCount, OD.impressionsAborted,
    OD.lateDiscarded, OD.lateCompletions, OD.slackEroded, OD.badDecrements, OD.period] ++ [OD.pressLead,
    OD.slotFormes, OD.cellEnable, OD.formeEnable, OD.minMargin, OD.hamperEnable, OD.allocFails, OD.freeLow,
    OD.counterPeak, OD.imageState, OD.coreImage, OD.busyCycles, OD.groupEnable, OD.rampEnable, OD.contextEnable,
    OD.regionEnable, OD.qpEnable, OD.partEnable, OD.partPause, OD.hostUnavailable, OD.resets, OD.wardenRestarts,
    OD.grants, OD.gpioConfig] ++ [OD.bankVoltage, OD.pinFault]
def objects67 : List Obj :=
  alarmObjects ++ [OD.lastTransition, OD.lastTransitionTime, OD.transitions,
    OD.degradedCauses, OD.livePeak, OD.completedOk, OD.expiredCount, OD.abortedCount, OD.retries, OD.retryRefused,
    OD.lateDiscarded, OD.lateCompletions, OD.slackEroded, OD.badDecrements, OD.allocFails, OD.freeLow, OD.shortFires,
    OD.lateEvents, OD.bindOutOfRange, OD.coreImage, OD.unitFaults, OD.busyCycles, OD.occasionsLost,
    OD.unmappedAccesses] ++ [OD.wakes, OD.checkFailures, OD.blockedAccesses, OD.heldWrites, OD.windowViolations,
    OD.grants, OD.spineQueueLost]
def objects68 : List Obj :=
  alarmObjects ++ [OD.lastTransition, OD.lastTransitionTime, OD.transitions,
    OD.regionEnable, OD.grants]
def objects69 : List Obj :=
  alarmObjects ++ [OD.lastTransition, OD.lastTransitionTime, OD.transitions, OD.wakes,
    OD.checkFailures, OD.rekeys, OD.heldWrites, OD.grants]
def objects70 : List Obj :=
  alarmObjects ++ [OD.lastTransition, OD.lastTransitionTime, OD.transitions,
    OD.degradedCauses, OD.powerNow, OD.capNow, OD.throttleLevel, OD.throttleCause, OD.energy]
def objects71 : List Obj :=
  alarmObjects ++ [OD.lastTransition, OD.lastTransitionTime, OD.transitions,
    OD.degradedCauses, OD.capNow, OD.throttleLevel, OD.throttleCause]
def objects72 : List Obj :=
  alarmObjects ++ [OD.lastTransition, OD.lastTransitionTime, OD.transitions,
    OD.degradedCauses, OD.unitsReturned, OD.diagResult]
def objects73 : List Obj :=
  alarmObjects ++ [OD.lastTransition, OD.lastTransitionTime, OD.transitions,
    OD.degradedCauses, OD.completedOk, OD.expiredCount, OD.abortedCount, OD.retries, OD.retryRefused,
    OD.lateDiscarded, OD.badDecrements, OD.allocFails, OD.freeLow, OD.coreImage, OD.spineQueueLost]
def objects74 : List Obj :=
  alarmObjects ++ [OD.lastTransition, OD.lastTransitionTime, OD.transitions, OD.safeCause,
    OD.completedOk, OD.expiredCount, OD.abortedCount, OD.impressionsAborted, OD.allocFails, OD.freeLow]
def objects75 : List Obj :=
  alarmObjects ++ [OD.lastTransition, OD.lastTransitionTime, OD.transitions,
    OD.degradedCauses, OD.coreImage, OD.grants, OD.spineQueueLost]
def objects76 : List Obj :=
  alarmObjects ++ [OD.lastTransition, OD.lastTransitionTime, OD.transitions,
    OD.formeEnable, OD.coreImage, OD.wardenRestarts, OD.grants]
def objects77 : List Obj :=
  alarmObjects ++ [OD.lastTransition, OD.lastTransitionTime, OD.transitions,
    OD.degradedCauses, OD.completedOk, OD.expiredCount, OD.abortedCount, OD.retries, OD.retryRefused,
    OD.lateDiscarded, OD.lateCompletions, OD.slackEroded, OD.badDecrements, OD.allocFails, OD.freeLow, OD.coreImage,
    OD.midVectorTraps, OD.firstUseCp0, OD.firstUseCp1, OD.busyStallCycles, OD.busyCycles, OD.unmappedAccesses,
    OD.wakes, OD.checkFailures] ++ [OD.blockedAccesses, OD.heldWrites, OD.windowViolations, OD.grants,
    OD.spineQueueLost]
def objects78 : List Obj :=
  alarmObjects ++ [OD.lastTransition, OD.lastTransitionTime, OD.transitions,
    OD.degradedCauses, OD.safeCause, OD.bootStage, OD.bootResult, OD.powerNow, OD.capNow, OD.throttleLevel,
    OD.throttleCause, OD.withdrawn, OD.energy, OD.tjNow, OD.rateWord, OD.statusSticky, OD.selectedRef,
    OD.stateChanges, OD.completedOk, OD.expiredCount, OD.abortedCount, OD.impressionsAborted, OD.allocFails,
    OD.freeLow]

/-- What each command may change: the parts of the state, and the objects of the dictionary that hold numbers. -/
def frameOf (c : Instr) : List Fld × List Obj :=
  match c with
  | .vinRise .. =>
    (parts0, objects0)
  | .vinFall =>
    (parts1, [])
  | .resetNAssert .. =>
    (parts1, objects1)
  | .resetNRelease =>
    ([.mode], [])
  | .thermalShutdown | .drainEnd =>
    (parts2, objects2)
  | .modeRequest .. =>
    (parts3, objects3)
  | .deviceEnable .. =>
    (parts4, objects4)
  | .deviceDisable .. =>
    ([.reply, .mode], [OD.deviceEnable])
  | .bootStageComplete .. =>
    (parts5, objects5)
  | .bootStageFail .. | .bootHostTimeout =>
    (parts6, objects6)
  | .bootImageWrite .. =>
    (parts7, objects6)
  | .degradedExit =>
    ([.freeCtr, .mode, .octets, .pot, .alarms], alarmObjects ++ [OD.lastTransition, OD.lastTransitionTime, OD.transitions])
  | .oscInLoss =>
    (parts6, objects7)
  | .oscInReturn =>
    ([.freeCtr, .mode, .octets, .time, .pot, .alarms], alarmObjects ++ [OD.statusSticky, OD.stateChanges])
  | .servoMeasurement .. =>
    (parts8, objects8)
  | .servoLock =>
    ([.freeCtr, .octets, .time, .pot, .alarms], alarmObjects ++ [OD.statusSticky, OD.stateChanges, OD.lockedRate])
  | .timebaseStep | .todInMessage .. =>
    (parts8, objects9)
  | .timeSet .. =>
    (parts3, objects9)
  | .referenceQualify .. | .referenceDisqualify .. | .announceTimeout .. | .ppsLossTimeout .. | .synceLockLoss ..
  | .waitToRestoreExpiry .. =>
    ([.freeCtr, .octets, .time, .pot, .alarms], objects10)
  | .holdoverLimit =>
    ([.freeCtr, .octets, .pot, .alarms], alarmObjects ++ [OD.statusSticky])
  | .ptpEventMessageRx .. =>
    (parts8, objects11)
  | .ptpUnpairedDiscard .. | .ppsOutEdge .. | .ppsOutPulseEnd .. | .todOutSend | .ptmRequest =>
    ([.time], [])
  | .stampedFrameTx .. =>
    ([.freeCtr, .octets, .time, .pot, .alarms], alarmObjects ++ [OD.stampOverflow, OD.stampOverflowCount])
  | .txStampQueuePop .. =>
    ([.reply, .time], [])
  | .ppsInEdge .. =>
    (parts8, objects12)
  | .slotBoundary .. =>
    ([.force, .time, .parts], [])
  | .subframeBoundary =>
    ([.force, .time, .fab, .parts], [])
  | .frameBoundary | .bankSettle .. | .frameStrobeEnd .. =>
    ([.pins], [])
  | .sfnWrap | .hfnWrap | .airTickWrap =>
    ([], [])
  | .ptmResponse .. =>
    ([.freeCtr, .octets, .time, .pot, .alarms], objects13)
  | .ptmResponseTimeout =>
    ([.freeCtr, .octets, .time, .pot, .alarms], alarmObjects ++ [OD.ptmValid])
  | .press .. =>
    ([.freeCtr, .octets, .galley, .pot, .alarms], objects14)
  | .impressionRelease .. =>
    (parts9, objects15)
  | .counterFireBy .. =>
    (parts9, objects16)
  | .dispatch .. =>
    (parts10, objects17)
  | .completionReport .. =>
    (parts11, objects18)
  | .faultReport .. | .watchdogExpiry .. | .engineUnitFault .. | .dmaUnitFault .. | .fuUnitFault .. | .cuUnitFault ..
  | .edgeLinkDown .. | .ccUnitFault .. =>
    (parts12, objects19)
  | .deadlineExpiry .. =>
    (parts9, objects20)
  | .lateHorizonExpiry .. =>
    (parts9, objects21)
  | .stallDeclare .. =>
    (parts9, objects22)
  | .slugHandleReserve .. =>
    ([.reply, .freeCtr, .octets, .galley, .pot, .alarms], alarmObjects)
  | .slugSubmit .. =>
    ([.reply, .galley], [OD.livePeak])
  | .slugDecrement .. =>
    ([.galley], [OD.badDecrements])
  | .handleReserveTimeout .. =>
    ([.galley], [])
  | .timerSlugFire .. =>
    (parts9, objects23)
  | .ccDone .. =>
    (parts12, objects24)
  | .countClear .. =>
    ([.reply, .values], [OD.livePeak, OD.counterPeak])
  | .loadWindowEnd =>
    ([.values, .galley], [])
  | .formeImage .. =>
    ([.reply, .octets, .parts], [])
  | .formeEnable .. | .formeDisable .. =>
    ([.reply, .galley], [OD.formeEnable, OD.minMargin])
  | .cellEnable .. =>
    ([.reply, .force, .galley], [OD.cellEnable])
  | .slotFormes .. =>
    ([.reply, .force, .parts], [OD.slotFormes])
  | .interruptTaken .. | .vle .. | .vleff .. | .vlseg .. | .vlsegff .. | .vse .. | .vsseg .. | .vlse .. | .vsse ..
  | .vlxe .. | .vsxe .. | .vlsseg .. | .vssseg .. =>
    (parts13, objects25)
  | .xret .. | .vstatusAccess .. | .vlWWrite .. | .vcfgWWrite .. | .vadd .. | .vsub .. | .vadds .. | .vsubs ..
  | .vmul .. | .vmulh .. | .vmacc .. | .vnmsac .. | .vdiv .. | .vdivs .. | .vrem .. | .vand .. | .vor .. | .vxor ..
  | .vsll .. | .vsra .. | .vsrl .. | .vmin .. | .vmax .. | .vmulhr .. | .vcmulr .. | .vcmacr .. | .vcmulcr ..
  | .vfadd .. | .vfsub .. | .vfmul .. | .vfdiv .. | .vfma .. | .vfnms .. | .vfmin .. | .vfmax .. | .vfcmul ..
  | .vfcmac .. | .vfcvtFX .. | .vfcvtXF .. | .vfcvtXFRtz .. | .vfneg .. | .vfabs .. | .vneg .. | .vnegs .. | .vabs ..
  | .vabss .. | .vnot .. | .vclz .. | .vcpop .. | .vconj .. | .vconjs .. | .vcmp .. | .vcmpu .. | .vfcmp .. | .vsel ..
  | .vperm .. | .vredsum .. | .vredsums .. | .vredmax .. | .vredmin .. | .vredcsums .. | .vfredsum .. | .vfredmax ..
  | .vfredmin .. | .vaddX .. | .vsubX .. | .vrsubX .. | .vmulX .. | .vmaccX .. | .vsllX .. | .vsraX .. | .vsrlX ..
  | .vsllI .. | .vsraI .. | .vsrlI .. | .vslidednI .. | .vslideupI .. | .vaddI .. | .vbfexp .. | .vbfnorm ..
  | .vbfden .. | .vsrarI .. | .vsrarV .. | .vnclipI .. | .vsetvli .. | .vsetvl .. | .vmvVX .. | .vmvXV .. | .vmvVV ..
  | .vpand .. | .vpor .. | .vpxor .. | .vpandn .. | .vpcnt .. | .vpfirst .. | .vpvl .. | .vxWfs .. =>
    ([.freeCtr, .vx], [OD.midVectorTraps])
  | .cpOpComplete .. | .coreImageSwitch .. =>
    ([.vx], [])
  | .vxDone .. =>
    (parts12, objects26)
  | .vcpMvto .. | .vcpMvfrom .. | .vcpClear .. | .cp0Ginit .. | .cp0Gold .. | .cp0Gskip .. | .cp0Zc .. | .cp1Crcsel ..
  | .cp1Crc .. | .cp1Crcget .. | .cp1Trellis .. | .cp2Rcp .. | .cp2Rsqrt .. | .cp2Log2 .. | .cp2Exp2 .. | .cp2Sin ..
  | .cp2Cos .. | .cp2Atan2 .. =>
    ([.freeCtr, .vx], [OD.midVectorTraps, OD.firstUseCp0, OD.firstUseCp1, OD.busyStallCycles])
  | .vxUnitFault .. =>
    (parts12, objects27)
  | .vxImageWrite .. =>
    ([.reply, .vx], [OD.imageState])
  | .vxImageVerifyDone .. =>
    ([.freeCtr, .octets, .pot, .alarms], objects28)
  | .teFwd .. | .teInv .. | .teCzt .. | .meChest .. | .meWeight .. | .meApply .. | .meApplyDemap .. | .meChol ..
  | .meInv .. | .ldDecode .. | .leEncode .. | .plPolarDecode .. | .plPolarEncode .. | .plConvDecode ..
  | .plConvEncode .. | .plRmDecode .. | .plRmEncode .. | .tdDecode .. | .hqUplinkCombine .. | .hqDownlinkRateMatch ..
  =>
    (parts14, objects29)
  | .engineJobComplete .. =>
    (parts14, objects30)
  | .engineAllocTimeout .. =>
    (parts11, objects31)
  | .dmaCopy .. | .dmaFill .. | .collect .. =>
    (parts14, objects32)
  | .ulCplane .. | .dlCplane .. | .dlUplane .. =>
    (parts14, objects33)
  | .fetch .. | .gather .. | .deliver .. =>
    (parts15, objects34)
  | .mogilChannelSend .. =>
    (parts16, objects35)
  | .atOffset .. | .atTick .. =>
    (parts9, objects36)
  | .gainChangePoint .. | .searchTrigger .. | .noiseTableWrite .. | .noiseEstimateTimeout .. =>
    ([.edge], [])
  | .searchOccasionEnd .. =>
    ([.freeCtr, .octets, .edge, .pot, .alarms], alarmObjects ++ [OD.reportsDropped, OD.detections])
  | .fuGroupMove .. =>
    ([.freeCtr, .mode, .octets, .edge, .pot, .alarms], alarmObjects ++ [OD.lastTransition, OD.lastTransitionTime, OD.transitions, OD.degradedCauses])
  | .cuReplace .. =>
    (parts17, objects37)
  | .rcoEdge .. =>
    ([.edge, .pins], [])
  | .nsFallback .. | .nsRetryOffer .. =>
    ([.freeCtr, .octets, .edge, .pot, .alarms], alarmObjects)
  | .groupEnable .. =>
    (parts18, objects38)
  | .contextEnable .. =>
    ([.reply, .force, .edge], [OD.contextEnable])
  | .rampEnable .. =>
    ([.reply, .force, .edge], [OD.rampEnable])
  | .ethFrameRx .. =>
    (parts14, objects39)
  | .cpriSymbolRx .. =>
    (parts19, objects40)
  | .fwRingPop .. | .saKey .. =>
    ([.reply, .front], [])
  | .frameTransmit .. =>
    (parts20, objects41)
  | .txWindowDiscard .. =>
    (parts20, objects42)
  | .lossOfSignal .. =>
    (parts21, objects43)
  | .signalReturn .. | .lossOfBlockLock .. =>
    (parts21, objects44)
  | .signalDebounceExpiry .. | .prbsCheckerLock .. =>
    ([.front, .mogil], [])
  | .lossOfLock .. =>
    (parts21, objects45)
  | .lossOfFrame .. | .remoteDefect .. =>
    (parts22, objects44)
  | .portUp .. =>
    ([.freeCtr, .mode, .octets, .front, .pot, .alarms], alarmObjects ++ [OD.lastTransition, OD.lastTransitionTime, OD.transitions, OD.degradedCauses])
  | .degradeEval .. =>
    (parts21, objects46)
  | .flowActivePort .. =>
    ([.reply, .front], [OD.flowActivePort])
  | .txAn .. =>
    ([.reply], [OD.txAn])
  | .learnRequest .. =>
    ([.freeCtr, .octets, .front, .pot, .alarms], alarmObjects ++ [OD.entries, OD.learnFails, OD.moves, OD.movesRefused])
  | .entryAgeOut .. | .pinExpiry .. =>
    ([.front], [OD.entries])
  | .moveStormEnd =>
    ([.freeCtr, .octets, .front, .pot, .alarms], alarmObjects)
  | .staticEntry .. =>
    ([.reply, .front], [OD.entries])
  | .cpriRateDwell .. =>
    ([.front], [])
  | .recalIntervalExpiry .. | .heartbeat | .maintRequest .. | .drillIntervalExpiry | .spareTestIntervalExpiry =>
    (parts23, alarmObjects ++ [OD.lastTransition, OD.lastTransitionTime, OD.transitions, OD.grants])
  | .laneRecalibration .. =>
    (parts24, alarmObjects ++ [OD.lastTransition, OD.lastTransitionTime, OD.transitions, OD.grants])
  | .prbsClear .. =>
    ([.reply], [OD.lanePrbsBits, OD.lanePrbsErrors])
  | .portEnable .. =>
    (parts25, objects47)
  | .flowEnable .. =>
    (parts26, objects48)
  | .macsecEnable .. =>
    ([.reply], [OD.macsecEnable])
  | .mogilMarkerRx .. =>
    ([.freeCtr, .octets, .mogil, .fab, .pot, .alarms], alarmObjects ++ [OD.skew, OD.bipErrors])
  | .mogilPacketRx .. =>
    (parts27, objects49)
  | .mogilLinkCellRx .. =>
    ([.mogil], [OD.resends])
  | .mogilNakRx .. | .mogilLastAcceptedRx .. | .mogilRetryTimeout .. =>
    ([.freeCtr, .octets, .mogil, .fab, .pot, .alarms], alarmObjects ++ [OD.resends])
  | .mogilVersionRx .. | .mogilConfirmRx .. | .mogilKexRx .. | .mogilResumeTimeout .. | .mogilKexTimeout =>
    ([.freeCtr, .octets, .mogil, .fab, .pot, .alarms], alarmObjects)
  | .mogilPacketSend .. =>
    (parts28, alarmObjects ++ [OD.packetsTx])
  | .mogilLinkCellSend .. | .mogilHoldExpiry .. =>
    ([.mogil], [])
  | .mogilChannelTimeout .. =>
    (parts29, objects31)
  | .mogilEnable .. =>
    (parts30, alarmObjects ++ [OD.mogilEnable])
  | .takeoverNow .. =>
    (parts31, alarmObjects ++ [OD.takeovers])
  | .autoTakeover | .peerHealthInputChange .. =>
    ([.freeCtr, .octets, .mogil, .parts, .pot, .alarms], alarmObjects ++ [OD.takeovers])
  | .rd .. | .wr .. | .wrp .. | .atomAdd .. | .atomSwap .. | .atomCompareSwap .. | .alloc .. | .free .. | .msg ..
  | .sealBuf .. | .unsealBuf .. | .rdata .. | .ack .. | .err .. | .jtagInstruction .. =>
    (parts27, objects50)
  | .flitCrcError .. =>
    ([.freeCtr, .mode, .octets, .fab, .pot, .alarms], objects51)
  | .fabricLinkDown .. =>
    ([.freeCtr, .mode, .octets, .fab, .pot, .alarms], objects52)
  | .fabricLinkReturn .. =>
    ([.freeCtr, .mode, .octets, .fab, .pot, .alarms], alarmObjects ++ [OD.lastTransition, OD.lastTransitionTime, OD.transitions, OD.degradedCauses])
  | .domainWakeReady .. =>
    (parts27, objects53)
  | .wakeTimeout .. =>
    ([.reply, .freeCtr, .octets, .fab, .pot, .alarms], alarmObjects ++ [OD.lockedOffDrops])
  | .domainSleep .. =>
    ([.edge, .fab], [])
  | .domainLockOff .. | .ssForwardEnd =>
    ([.reply, .fab], [OD.lockedOffDrops])
  | .ssAccessRepeat .. =>
    ([.freeCtr, .octets, .fab, .pot, .alarms], alarmObjects)
  | .spareNow .. =>
    ([.reply, .freeCtr, .octets, .fab, .pot, .alarms], alarmObjects)
  | .ssSpareFlip | .spareBankTest .. =>
    (parts32, objects54)
  | .scrubStep .. =>
    ([.freeCtr, .octets, .fab, .pot, .alarms], objects55)
  | .hbmRefresh .. =>
    ([.fab], [])
  | .hamperEnable .. | .hamperDisable .. =>
    ([.reply, .force, .fab], [OD.hamperEnable, OD.freeLow])
  | .sqTailDoorbell .. =>
    (parts33, objects56)
  | .cqHeadDoorbell .. =>
    (parts34, objects57)
  | .msixUnmask .. | .bmeSet .. | .flrComplete .. | .atsInvalidate .. =>
    ([.host], [])
  | .bmeClear .. | .cqWaitTimeout .. =>
    (parts35, objects58)
  | .flrInitiate .. | .pcieLinkReset | .pcieConfigWrite .. =>
    (parts36, objects59)
  | .tagQuarantineEnd .. =>
    ([.host], [OD.npPeak])
  | .pcieCompletionRx .. =>
    (parts15, objects60)
  | .pcieCompletionTimeout .. =>
    (parts35, objects61)
  | .qpEnable .. =>
    (parts37, alarmObjects ++ [OD.qpEnable])
  | .partEnable .. =>
    ([.reply, .force, .parts], [OD.partEnable, OD.partPause])
  | .partPause .. =>
    ([.reply, .force, .parts], [OD.partPause])
  | .partReset .. =>
    (parts38, objects62)
  | .partResetComplete .. =>
    (parts39, alarmObjects ++ [OD.allocFails, OD.freeLow, OD.partEnable])
  | .resetLimitExpiry .. =>
    ([.freeCtr, .octets, .parts, .pot, .alarms], alarmObjects)
  | .disableCloseTimeout .. =>
    (parts40, objects63)
  | .mailboxGo .. =>
    (parts41, objects64)
  | .hello .. =>
    ([.reply, .selects, .pot, .alarms], [OD.dropped])
  | .read .. | .write .. | .segRead .. | .segWrite .. | .segAbort .. | .infoReq .. | .store .. | .restore .. =>
    (parts41, objects65)
  | .segTransferTimeout .. | .smbPointerWrite .. | .smbTimeout =>
    ([.pot], [])
  | .storeSealed .. =>
    (parts42, alarmObjects ++ [OD.storeSequence])
  | .subscribe .. | .unsubscribe .. =>
    ([.reply, .selects, .pot], [OD.dropped])
  | .telemetry .. =>
    ([.reply, .freeCtr, .octets, .pot, .alarms], alarmObjects)
  | .alarmAck .. =>
    ([.reply, .pot, .alarms], [OD.dropped])
  | .alarm .. | .alarmResend .. =>
    ([.reply, .pot], [])
  | .summary =>
    ([.pot, .alarms], [])
  | .clientHello .. =>
    ([.pot], [OD.dropped])
  | .handshakeComplete .. =>
    ([.freeCtr, .octets, .pot, .alarms], alarmObjects ++ [OD.authFailures, OD.dropped])
  | .sessionIdleTimeout .. =>
    ([.selects, .pot, .alarms], [])
  | .smbValueRead | .smbStatusRead =>
    ([.reply], [])
  | .roleEntry .. | .w1cWrite .. =>
    (parts43, objects66)
  | .registerWrite .. =>
    (parts27, objects67)
  | .fuseWrite .. =>
    ([.reply, .freeCtr, .octets, .pot, .sec, .alarms], alarmObjects)
  | .fuseWriteComplete =>
    (parts44, alarmObjects)
  | .dbgRequest .. | .debugLockoutEnd | .tapReset =>
    ([.sec], [])
  | .dbgChallenge =>
    ([.reply, .freeCtr, .sec], [])
  | .dbgResponse .. =>
    ([.freeCtr, .octets, .pot, .sec, .alarms], alarmObjects ++ [OD.debugFailures])
  | .regionEnable .. | .regionDisable .. =>
    (parts45, objects68)
  | .regionInitDone .. =>
    ([.reply, .freeCtr, .mem, .fab, .host, .sec], [])
  | .rekeyNow .. =>
    (parts46, alarmObjects ++ [OD.lastTransition, OD.lastTransitionTime, OD.transitions, OD.grants])
  | .rekeyBlock .. =>
    (parts13, objects69)
  | .vinSample .. =>
    ([.freeCtr, .octets, .pot, .power, .alarms], alarmObjects ++ [OD.vinNow, OD.iinNow, OD.capNow, OD.throttleCause])
  | .powerLoopEval .. =>
    ([.freeCtr, .mode, .octets, .pot, .power, .alarms], objects70)
  | .currentLimit =>
    ([.freeCtr, .mode, .octets, .pot, .power, .alarms], objects71)
  | .unitWithdraw =>
    (parts47, alarmObjects ++ [OD.withdrawn, OD.lockedOffDrops])
  | .unitReturn =>
    (parts48, alarmObjects ++ [OD.withdrawn])
  | .vcoreAdjust .. =>
    ([.power], [OD.railVoltage])
  | .phaseFault .. =>
    ([.freeCtr, .octets, .pot, .power, .alarms], alarmObjects ++ [OD.capNow, OD.throttleCause, OD.phaseFaults])
  | .railOutOfRegulation .. | .droopRelease .. =>
    ([.freeCtr, .octets, .pot, .power, .alarms], alarmObjects)
  | .droopStretch .. =>
    ([.freeCtr, .octets, .pot, .power, .alarms], alarmObjects ++ [OD.droopEvents])
  | .thermalSensorScan .. =>
    ([.freeCtr, .octets, .pot, .power, .alarms], alarmObjects ++ [OD.tjNow, OD.sensorTemp])
  | .thermalCapStep =>
    ([.freeCtr, .octets, .pot, .power, .alarms], alarmObjects ++ [OD.capNow, OD.throttleCause])
  | .diagStart .. =>
    (parts49, alarmObjects ++ [OD.allocFails, OD.freeLow])
  | .diagComplete .. =>
    (parts50, objects72)
  | .diagRun .. =>
    (parts51, alarmObjects ++ [OD.allocFails, OD.freeLow])
  | .lockstepMismatch .. =>
    ([.freeCtr, .octets, .galley, .pot, .res, .alarms], alarmObjects ++ [OD.lockstepMismatches])
  | .lockstepTestDone .. =>
    (parts52, objects73)
  | .heartbeatMiss | .recoveryMismatch =>
    ([.freeCtr, .octets, .pot, .res, .alarms], alarmObjects ++ [OD.wardenRestarts])
  | .wardenRestartFail =>
    (parts53, objects74)
  | .wardenVote .. =>
    ([.freeCtr, .octets, .pot, .res, .alarms], alarmObjects ++ [OD.wardenVotes])
  | .tokenReturn .. =>
    (parts32, alarmObjects ++ [OD.lastTransition, OD.lastTransitionTime, OD.transitions, OD.grants])
  | .waitAlarmExpiry .. | .upgradeLimitExpiry =>
    ([.freeCtr, .octets, .pot, .alarms], alarmObjects)
  | .drillSwap .. =>
    (parts54, objects75)
  | .upgradeImage .. =>
    ([.reply, .freeCtr, .octets, .pot, .res, .alarms], alarmObjects)
  | .upgradeRecovery .. =>
    ([.reply, .freeCtr, .octets, .pot, .res, .alarms], alarmObjects ++ [OD.wardenRestarts])
  | .upgradeCommit .. =>
    (parts55, alarmObjects ++ [OD.lastTransition, OD.lastTransitionTime, OD.transitions, OD.grants])
  | .upgradeAbandon .. =>
    (parts56, objects76)
  | .coreImage .. =>
    ([.reply, .force, .parts], [OD.coreImage])
  | .bankVoltage .. =>
    ([.reply, .freeCtr, .octets, .pot, .pins, .alarms], alarmObjects ++ [OD.bankVoltage])
  | .bankSupplyFault .. | .bankSupplyReturn .. | .rcoShort .. =>
    ([.freeCtr, .octets, .pot, .pins, .alarms], alarmObjects)
  | .rcoRetry .. =>
    ([.freeCtr, .octets, .pot, .pins, .alarms], alarmObjects ++ [OD.rcoRetries])
  | .pinContention .. =>
    ([.freeCtr, .octets, .pot, .alarms], alarmObjects ++ [OD.pinFault, OD.contentionEvents])
  | .pinFaultClear .. =>
    ([.reply, .freeCtr, .octets, .pot, .alarms], alarmObjects ++ [OD.pinFault])
  | .gpioConfig .. =>
    ([.reply, .pins], [OD.gpioConfig])
  | .scalarInstruction .. =>
    (parts57, objects77)
  | .pcieLinkTrained .. =>
    ([.freeCtr, .octets, .time, .host, .pot, .alarms], alarmObjects ++ [OD.ptmValid])
  | .alarmPinHoldExpiry =>
    ([.alarms], [])
  | .prbsCheckerLockLoss .. =>
    ([.freeCtr, .front, .mogil], [OD.lanePrbsBits, OD.lanePrbsErrors, OD.mogilPrbsBits, OD.mogilPrbsErrors])
  | .modeTransitionComplete =>
    (parts2, objects78)
  | .mpEnable .. =>
    ([.reply, .force, .pot], [OD.mpEnable])

/-! ## What every command keeps -/

/-- The fuse write under way, where there is one, clears no blown bit and lowers no counter (R388). -/
def FuseSound (x : SecSt) : Prop :=
  ∀ item k v, x.fuse = some (item, k, v) → clearsFuse item (x.fuseVal item k) v = false

/-- No fuse that is blown in `x` is cleared in `y`, and no counter is lower (R387). -/
def FusesKept (x y : SecSt) : Prop := ∀ item k, clearsFuse item (x.fuseVal item k) (y.fuseVal item k) = false

/-- What every command keeps: the canonical form of memory, the fuses, and the order of the free values. -/
structure Keeps (s t : State) : Prop where
  mem : Memory.wf s.mem = true → Memory.wf t.mem = true
  ctr : s.freeCtr ≤ t.freeCtr
  fuse : FuseSound s.sec → FuseSound t.sec ∧ FusesKept s.sec t.sec

/-! ## Commands that have their effect -/

/-- A command answers a next state with the property. -/
def Runs (c : Instr) (s : State) (P : State → Prop) : Prop := ∃ t, exec c s = .next t ∧ P t

/-- A requester's write of `v` to an object passes the tests of an access (R473): role, mode, access, transfers, the item's
state and the range. -/
def State.admits (s : State) (who : Requester) (o : Obj) (v : Int) : Prop :=
  s.accessReason who o (s.itemOf who o o.addr) o.addr true = 0 ∧ o.inRange (s.itemOf who o o.addr) v = true

/-! ## Vector instructions -/

/-- Element `i` of the group of a register, as bits and as a signed integer. -/
def Core.elem (c : Core) (r : BitVec 5) (i : Nat) : Nat := elemOf (c.group r) c.ew i
def Core.selem (c : Core) (r : BitVec 5) (i : Nat) : Int := signed c.ew (c.elem r i)

/-- A core whose domain is awake and that is neither halted nor waiting fetches the `n` bytes at its pc: the memory protection
lets its level execute them (R110, R133). -/
def State.fetches (s : State) (v n : Nat) : Prop :=
  s.runs v = true ∧ (s.core v).pmpOk (s.core v).priv 2 (s.core v).pc.toNat n = true

/-- A core executes an instruction whose checks pass, with VL above 0. -/
def VecReady (s : State) (core : Nat) (ok : Core → Bool) : Prop :=
  s.fetches core 4 ∧ ok (s.core core) = true ∧ (s.core core).vl ≠ 0

/-- What a core that goes past an instruction leaves of pc, VRI and minstret (R122; minstret by the privileged specification: one
more, unless mcountinhibit holds it). -/
structure Core.went (c d : Core) (len : Nat) : Prop where
  pc : d.pc = c.pc + BitVec.ofNat 64 len
  vri : d.vri = 0
  counted : d.instret = if bit (c.csrOf 0x320).toNat 2 then c.instret else c.instret + 1#64

/-- A core as it was before it went past an instruction, but for what the instruction wrote. -/
def Core.wentBack (c d : Core) : Core := { d with pc := c.pc, vri := c.vri, instret := c.instret }

/-- What a core that goes past a vector instruction keeps: all but its wide registers, VSTATUS, pc, VRI and minstret. -/
def Core.passed (c d : Core) : Prop :=
  c.went d 4 ∧ { c.wentBack d with w := c.w, vstatus := c.vstatus } = c

/-- Nothing changes but one core. -/
def OnlyCore (s t : State) (core : Nat) : Prop := Frame [.vx] [] s t ∧ ∀ x, x ≠ core → t.core x = s.core x

/-- The result of an element-wise instruction (R114, R122, R152): every element of the group of `wd` by TZ, VRI, the
predicate and MZ, the active ones from `f`, which gives value and flags; the flags of the elements performed are set; the
registers outside the group stay. -/
structure VecResult (s t : State) (core : Nat) (wd : BitVec 5) (pm : Bool) (pg : BitVec 3) (f : Nat → Nat × Nat) : Prop where
  elems : ∀ i, i < (s.core core).vlmax → (t.core core).elem wd i =
    if (s.core core).vl ≤ i then (if (s.core core).tz then 0 else (s.core core).elem wd i)
    else if i < (s.core core).vri then (s.core core).elem wd i
    else if (s.core core).active pm pg i then (f i).1 % 2 ^ (s.core core).ew
    else if (s.core core).mz then 0 else (s.core core).elem wd i
  others : ∀ r, r < wd.toNat ∨ wd.toNat + (s.core core).g ≤ r →
    Tab.get 0#2048 (t.core core).w r = Tab.get 0#2048 (s.core core).w r
  flags : ∀ k, k < 64 → (t.core core).vstatus.getLsbD k = ((s.core core).vstatus.getLsbD k ||
    (List.range (s.core core).vl).any (fun i =>
      decide ((s.core core).vri ≤ i) && (s.core core).active pm pg i && (f i).2.testBit k))
  past : (s.core core).passed (t.core core)
  only : OnlyCore s t core

/-- A value held in `w` signed bits, with VSAT (bit 0 of VSTATUS) where it does not fit (R151). -/
def saturated (w : Nat) (v : Int) : Nat × Nat :=
  (unsigned w (clamp v (-(2 ^ (w - 1))) (2 ^ (w - 1) - 1)), if v < -(2 ^ (w - 1)) ∨ 2 ^ (w - 1) - 1 < v then 1 else 0)

/-- A value shifted by a signed amount to the left, or by its negative to the right; `v` is the element as the right shift
takes it, signed or unsigned (R155). -/
def shifted (w : Nat) (v : Int) (k : Int) : Nat :=
  if 0 ≤ k then unsigned w (v * 2 ^ k.toNat) else unsigned w (v.fdiv (2 ^ (-k).toNat))

/-- The lanes of element `i` of a predicate group, as bits. -/
def Core.lanes (c : Core) (p i : Nat) : Nat := elemOf (c.preds p c.g) (c.ew / 8) i

/-- A core that goes past an instruction with the predicate registers (and the sticky flags) written. -/
def Core.passedPred (c d : Core) : Prop :=
  c.went d 4 ∧ { c.wentBack d with p := c.p, vstatus := c.vstatus } = c

/-- A core that goes past an instruction with `v` written to `rd`; x0 takes no write. -/
def Core.passedReg (c d : Core) (rd : BitVec 5) (v : BitVec 64) : Prop :=
  c.went d 4 ∧ (∀ r, d.xr r = if r = rd ∧ r ≠ 0#5 then v else c.xr r) ∧ { c.wentBack d with x := c.x } = c

/-- A core that goes past an instruction and keeps everything else. -/
def Core.passedOnly (c d : Core) : Prop := c.went d 4 ∧ c.wentBack d = c

/-- The indices of the active elements below VL (R111, R114). -/
def Core.actives (c : Core) (pm : Bool) (pg : BitVec 3) : List Nat := (List.range c.vl).filter (c.active pm pg)

/-- The result of a compare (R165): the lanes of each active element all take its condition, the others by MZ and TZ. -/
structure CompareResult (s t : State) (o : VC) (f : Nat → Bool × Nat) : Prop where
  lanes : ∀ i, i < (s.core o.core).vlmax → (t.core o.core).lanes o.pd.toNat i =
    if (s.core o.core).vl ≤ i then (if (s.core o.core).tz then 0 else (s.core o.core).lanes o.pd.toNat i)
    else if (s.core o.core).active o.pm o.pg i then (if (f i).1 then 2 ^ ((s.core o.core).ew / 8) - 1 else 0)
    else if (s.core o.core).mz then 0 else (s.core o.core).lanes o.pd.toNat i
  others : ∀ r, r < o.pd.toNat ∨ o.pd.toNat + (s.core o.core).g ≤ r →
    Tab.get 0#256 (t.core o.core).p r = Tab.get 0#256 (s.core o.core).p r
  flags : ∀ k, k < 64 → (t.core o.core).vstatus.getLsbD k = ((s.core o.core).vstatus.getLsbD k ||
    ((s.core o.core).actives o.pm o.pg).any (fun i => (f i).2.testBit k))
  past : (s.core o.core).passedPred (t.core o.core)
  only : OnlyCore s t o.core

/-- The result of a reduction (R167): element 0 takes `v`, the others are tail elements; 0 and no flags with no active
element. -/
structure ReduceResult (s t : State) (o : VU) (v : Nat × Nat) : Prop where
  elems : ∀ i, i < (s.core o.core).vlmax → (t.core o.core).elem o.wd i =
    if i = 0 then (if (s.core o.core).actives o.pm o.pg = [] then 0 else v.1 % 2 ^ (s.core o.core).ew)
    else if (s.core o.core).tz then 0 else (s.core o.core).elem o.wd i
  others : ∀ r, r < o.wd.toNat ∨ o.wd.toNat + (s.core o.core).g ≤ r →
    Tab.get 0#2048 (t.core o.core).w r = Tab.get 0#2048 (s.core o.core).w r
  flags : ∀ k, k < 64 → (t.core o.core).vstatus.getLsbD k = ((s.core o.core).vstatus.getLsbD k ||
    (decide ((s.core o.core).actives o.pm o.pg ≠ []) && v.2.testBit k))
  past : (s.core o.core).passed (t.core o.core)
  only : OnlyCore s t o.core

/-! ## Vector memory, coprocessors and traps -/

/-- Address of field `f` of segment or element `i`: the base rs1 plus `step i` plus f elements, on 64 bits (R125, R168). -/
def Core.at_ (c : Core) (m : VMem) (step : Nat → BitVec 64) (i f : Nat) : Nat :=
  (c.xr m.rs1 + step i + BitVec.ofNat 64 (f * (c.ew / 8))).toNat

/-- A vector memory instruction whose active elements from VRI on all lie, aligned, in the core's own local memory and pass
its memory protection (`right`: 0 read, 1 write). -/
structure MemReady (s : State) (k : VMemKind) (m : VMem) (step : Nat → BitVec 64) (right : Nat) : Prop where
  fetch : s.fetches m.core 4
  ok : (s.core m.core).okMem k m = true
  start : (s.core m.core).vri ≤ (s.core m.core).vl
  some_ : (s.core m.core).vl ≠ 0
  each : ∀ i, (s.core m.core).vri ≤ i → i < (s.core m.core).vl → (s.core m.core).active m.pm m.pg i = true →
    ∀ f, f < m.nf → (s.core m.core).at_ m step i f % ((s.core m.core).ew / 8) = 0
      ∧ ownLocal m.core ((s.core m.core).at_ m step i f) ((s.core m.core).ew / 8) = true
      ∧ (s.core m.core).pmpOk (s.core m.core).dataLevel right ((s.core m.core).at_ m step i f)
          ((s.core m.core).ew / 8) = true

/-- Element `i` of field `f` of the data register groups of a vector memory instruction. -/
def Core.field (c : Core) (m : VMem) (f i : Nat) : Nat := elemOf (c.wide (m.vd.toNat + f * c.g) c.g) c.ew i

/-- What a load leaves: every active element from VRI on holds the bytes at its address, the others follow VRI, MZ and TZ;
no other register and no memory changes. -/
structure Loaded (s t : State) (m : VMem) (step : Nat → BitVec 64) : Prop where
  elems : ∀ f, f < m.nf → ∀ i, i < (s.core m.core).vlmax → (t.core m.core).field m f i =
    if i < (s.core m.core).vri then (s.core m.core).field m f i
    else if (s.core m.core).vl ≤ i then (if (s.core m.core).tz then 0 else (s.core m.core).field m f i)
    else if (s.core m.core).active m.pm m.pg i then s.loadN ((s.core m.core).at_ m step i f) ((s.core m.core).ew / 8)
    else if (s.core m.core).mz then 0 else (s.core m.core).field m f i
  others : ∀ r, r < m.vd.toNat ∨ m.vd.toNat + m.nf * (s.core m.core).g ≤ r →
    Tab.get 0#2048 (t.core m.core).w r = Tab.get 0#2048 (s.core m.core).w r
  flags : (t.core m.core).vstatus = (s.core m.core).vstatus
  past : (s.core m.core).passed (t.core m.core)
  only : OnlyCore s t m.core

/-- Is element `i` performed by a memory instruction that starts at VRI? -/
def Core.performs (c : Core) (m : VMem) (i : Nat) : Prop := c.vri ≤ i ∧ i < c.vl ∧ c.active m.pm m.pg i = true

/-- What a store leaves: at each address the last element stored there, every other byte of memory as before, the dirty bits
of the blocks above LMSPLIT that were touched; nothing else of the core but pc and VRI. -/
structure Stored (s t : State) (m : VMem) (step : Nat → BitVec 64) : Prop where
  stored : ∀ i f, (s.core m.core).performs m i → f < m.nf →
    (∀ j h, (s.core m.core).performs m j → h < m.nf → (i < j ∨ i = j ∧ f < h) →
      (s.core m.core).at_ m step j h ≠ (s.core m.core).at_ m step i f) →
    t.loadN ((s.core m.core).at_ m step i f) ((s.core m.core).ew / 8) = (s.core m.core).field m f i
  others : ∀ a, (∀ i f, (s.core m.core).performs m i → f < m.nf →
      ¬((s.core m.core).at_ m step i f ≤ a ∧ a < (s.core m.core).at_ m step i f + (s.core m.core).ew / 8)) →
    Memory.byte t.mem a = Memory.byte s.mem a
  marks : ∀ k, k < 64 → ((t.core m.core).dirty.getLsbD k = true ↔ (s.core m.core).dirty.getLsbD k = true
    ∨ s.govN OD.lmsplit ≤ k ∧ ∃ i f, (s.core m.core).performs m i ∧ f < m.nf
      ∧ ((s.core m.core).at_ m step i f - localBase m.core) / 2048 = k)
  past : (s.core m.core).went (t.core m.core) 4
    ∧ { (s.core m.core).wentBack (t.core m.core) with dirty := (s.core m.core).dirty } = s.core m.core
  cores : ∀ x, x ≠ m.core → t.core x = s.core x
  frame : Frame [.vx, .mem] [] s t

/-- What a trap leaves of a core (R121, R122): pc, cause and value saved and VRI copied, at S or at M, where the pc goes to
the vector; the interrupt enable stacked in mstatus with the level it came from; everything else as before. -/
structure Trapped (c d : Core) (intr : Bool) (cause : Nat) (tval : BitVec 64) : Prop where
  epc : d.csrOf (if c.delegated intr cause then 0x141 else 0x341) = c.pc
  code : d.csrOf (if c.delegated intr cause then 0x142 else 0x342) = BitVec.ofNat 64 (cause + (if intr then 2 ^ 63 else 0))
  value : d.csrOf (if c.delegated intr cause then 0x143 else 0x343) = tval
  level : d.priv = if c.delegated intr cause then .s else .m
  vector : d.pc = trapPc (c.csrOf (if c.delegated intr cause then 0x105 else 0x305)) intr cause
  index : d.vri = 0 ∧ (if c.delegated intr cause then d.svri = BitVec.ofNat 64 c.vri ∧ d.mvri = c.mvri
    else d.mvri = BitVec.ofNat 64 c.vri ∧ d.svri = c.svri)
  enables : if c.delegated intr cause then
      bits (d.csrOf 0x300).toNat 5 5 = bits (c.csrOf 0x300).toNat 1 1 ∧ bits (d.csrOf 0x300).toNat 1 1 = 0
        ∧ bits (d.csrOf 0x300).toNat 8 8 = c.priv.code % 2
    else bits (d.csrOf 0x300).toNat 7 7 = bits (c.csrOf 0x300).toNat 3 3 ∧ bits (d.csrOf 0x300).toNat 3 3 = 0
        ∧ bits (d.csrOf 0x300).toNat 12 11 = c.priv.code
  others : ∀ n, n ≠ 0x300 → ¬(if c.delegated intr cause then 0x141 ≤ n ∧ n ≤ 0x143 else 0x341 ≤ n ∧ n ≤ 0x343) →
    d.csrOf n = c.csrOf n
  kept : { d with csr := c.csr, pc := c.pc, priv := c.priv, vri := c.vri, mvri := c.mvri, svri := c.svri } = c

/-- A coprocessor instruction whose checks pass on a core at a coprocessor that is not busy (R127–R129, R147). -/
structure CpReady (s : State) (core n : Nat) : Prop where
  fetch : s.fetches core 4
  number : n < 3
  enabled : (s.core core).cpEnabled n = true
  owner : (s.core core).firstUse n = false
  idle : bit (s.core core).cpbusy.toNat n = false

/-- Width of a coprocessor's registers (Table 04-7). -/
def cpWidth (n : Nat) : Nat := if n = 0 then 128 else if n = 1 then 256 else 2048

/-- The registers of the coprocessors after a write of `v` to register `r` of CPn. -/
def Core.cpWrote (c d : Core) (n r v : Nat) : Prop :=
  ∀ m q, m < 3 → d.cpReg m q = if m = n ∧ q = r then v % 2 ^ cpWidth n else c.cpReg m q

/-! ## Galley -/

/-- A slug has ended with a result; one whose impression has closed with it is FREE again (R93, R97). -/
def State.endedWith (s : State) (h : Nat) (r : SlugResult) : Prop :=
  s.slug h = none ∨ ∃ y, s.slug h = some y ∧ y.state = .done ∧ y.result = r

/-- A slug runs its attempt `att` (R102). -/
def State.runsAttempt (s : State) (h att : Nat) (x : Slug) : Prop := s.slug h = some x ∧ x.state = .running ∧ x.attempt = att

/-- A unit is fenced and retired (R100). -/
def State.retired (s : State) (cls u : Nat) : Prop := (s.unit cls u).state = .retired ∧ (s.unit cls u).fenced = true

/-! ## Accesses that nothing stops -/

/-- An access that nothing stops (R31–R33, R281, R301, R306, R315, R337): HBM, slot store or cluster memory in a domain that is
neither off nor locked off, in the partition's windows where they are checked, in no region, in no sealed buffer where it
writes and in no poisoned word where it reads, by a unit that is not fenced. -/
structure OpenTo (s : State) (q : Acc) (rd wr : Bool) (a n : Nat) : Prop where
  zone : (∃ k, spanZone a n = .hbm k) ∨ spanZone a n = .slotStore ∨ ∃ c, spanZone a n = .cluster c
  powered : ∀ d, s.memDomain a = some d → (s.domain d).state ≠ .off ∧ (s.domain d).state ≠ .lockedOff
  window : q.checked = true → s.inWindow (q.part.getD 0) a n rd wr = true
  region : s.regionAt a n = none
  unsealed : wr = true → s.sealedAt a n = false
  clean : rd = true → s.poisoned a n = false
  free : s.fenced q = false

/-- The same of every part of `n` bytes from `a`. -/
def OpenAll (s : State) (q : Acc) (rd wr : Bool) (a n : Nat) : Prop :=
  ∀ b k, 0 < k → a ≤ b → b + k ≤ a + n → OpenTo s q rd wr b k

/-- The buffers a pool gives out to `n` requests, oldest free first (R314). -/
def Hamper.takes : Nat → Hamper → Option (List Nat)
  | 0, _ => some []
  | n + 1, p => match p.take with
    | some (b, q) => (Hamper.takes n q).map (b :: ·)
    | none => none

/-- Address of buffer `b` of a pool (R313). -/
def Hamper.at_ (p : Hamper) (b : Nat) : Nat := p.base + b * p.bytes

/-- Buffers `bs` of hamper `n`, of at least `size` bytes, that it gives a partition's unit and that the unit may write. -/
structure Outputs (s : State) (q : Acc) (part n size : Nat) (p : Hamper) (bs : List Nat) : Prop where
  pool : s.hamper n = some p
  serves : p.serves part false = true
  takes : p.takes bs.length = some bs
  nodup : bs.Nodup
  size : size ≤ p.bytes
  each : ∀ b ∈ bs, b < p.count ∧ b < 262144 ∧ OpenAll s q false true (p.at_ b) p.bytes

/-- Does an address lie in one of the buffers? -/
def Hamper.covers (p : Hamper) (bs : List Nat) (a : Nat) : Prop := ∃ b ∈ bs, p.at_ b ≤ a ∧ a < p.at_ b + p.bytes

/-! ## Engines -/

/-- Unit `u` of a class holds attempt `att` of slug `h`, which runs, and has not begun it. -/
structure HoldsNew (s : State) (cls u h att : Nat) (x : Slug) : Prop where
  held : (s.unit cls u).held = some (h, att)
  fresh : s.job cls u = none
  runs : s.runsAttempt h att x
  own : x.cls = cls ∧ x.executor = u
  imp : s.imp x.imp ≠ none
  kept : x.abortPending = false

/-- A slug whose descriptor, 64 bytes at ARG0, may be read and holds `d`. -/
structure Described (s : State) (q : Acc) (x : Slug) (d : Nat) : Prop where
  arg0 : x.hasArg 0 = true
  opened : OpenTo s q true false (s.argAt x 0) 64
  holds : s.loadN (s.argAt x 0) 64 = d

/-! ## Fronthaul -/

/-- A frame the MAC and MACsec of a port let through (R234, R249): its FCS, FEC and size good, no pause frame, with MACsec off. -/
structure State.taken (s : State) (p : Nat) (f : EthFrame) : Prop where
  up : s.portOk p = true
  ethernet : s.isCpri p = false
  sound : f.fcsOk = true ∧ f.fecOk = true ∧ 64 ≤ f.length ∧ f.length ≤ s.govN OD.maxFrame p ∧ f.body ≠ .pause
  plain : has s.front.macsecOn p = false

/-- The CI16 words of samples of a flow's symbol (R205, R243): shifted where they are of the frequency domain, else the gain
of the code that applies to the symbol. -/
def State.converted (s : State) (f tick symbol : Nat) (zs : List (Int × Int)) : List Nat :=
  match bit (s.govN OD.flowMap f) 18, s.groupOfFlow f with
  | true, some (g, _) =>
    let c := (s.antGroup g).codeAt (s.symbolStart (s.govN OD.numerology (s.groupCell g)) tick symbol)
    zs.map (fun z => unsigned 16 (gained (gainTable c.1) z.1).1 + 65536 * unsigned 16 (gained (gainTable c.1) z.2).1)
  | _, _ => zs.map (toCi16 (s.govN OD.rxShift f))

/-- A flow-symbol that has no buffer yet gets buffer `b` of its hamper, and samples from `first` of its stream on fit there
and may be written. -/
structure FreshBuffer (s : State) (p f tick symbol first n : Nat) (h : Hamper) (b : Nat) : Prop where
  fresh : ∀ y ∈ s.front.fills, ¬(y.group = s.flowMapN f 40 25 ∧ y.cell = s.flowCell f ∧ y.slotTick = tick ∧ y.symbol = symbol)
  pool : s.hamper (s.flowMapN f 24 19) = some h
  serves : h.serves (s.flowPart f) false = true
  takes : h.takes 1 = some [b]
  count : b < h.count ∧ b < 262144
  unsealed : h.sealedB.contains b = false
  fits : (s.flowMapN f 46 41 * Config.symbolSize (s.flowCell f) symbol + first + n) * 4 ≤ h.bytes
  stream : first + n ≤ Config.symbolSize (s.flowCell f) symbol
  trailer : ∀ g k, bit (s.govN OD.flowMap f) 18 = true → s.groupOfFlow f = some (g, k) →
    s.groupCell g = s.flowCell f ∧ s.flowMapN f 46 41 < s.bufferStreams f
  opened : OpenAll s ⟨.fucu, s.sampleUnit p f, some (s.flowPart f), false, none, false⟩ false true (h.at_ b) h.bytes

end Sys2Proof.Machine
end

