-- ==== Sys2Proof/Certificates/Slice0/Obligations.lean ====
section
/-!
DEFINITION. The statements about the block, for the provers.  Each is about the model's step, its commands or its state;
its docstring names the rules of the spec it rests on.
-/

open Sys2Proof
open Sys2Proof.Machine


/-! ## The block as a whole -/

/-- A step takes the command at the front of the queue and executes it on the state that holds the queue's rest. -/
def Obligations.StepRunsFront : Prop :=
  ∀ (c : Instr) (rest : List Instr) (s : State), step { s with pending := c :: rest } = exec c { s with pending := rest }

/-- On an empty queue a step is one cycle of the 625 MHz clock (R37, R44, R45; that a step on an empty queue is a cycle is the
model's choice, assumption log 1): outside OFF and a stopped clock, without a TIME_SET target, the timebase advances by the
rate word, the air-tick count takes the formula's value or stays where it is ahead, the queue stays empty, and Galley and the
cores stand; with no trace record waiting and no source traced, memory, mode and security stand too.  A stopped clock lets
nothing but the time of the timers run, and OFF changes nothing. -/
def Obligations.StepIdles : Prop :=
  ∀ (s : State), s.pending = [] →
    (s.mode.mode ≠ .off → s.time.stopped = false → s.time.target = none →
      ∃ t, step s = .next t ∧ t.time.tb = s.time.tb + s.time.rate ∧ t.time.run = s.time.run + s.time.rate
        ∧ s.time.air ≤ t.time.air
        ∧ (t.time.air = airOf t.time.tb (s.gov OD.frameOffset) ∨ t.time.air = s.time.air)
        ∧ t.pending = [] ∧ t.vx = s.vx ∧ t.galley = s.galley
        ∧ (s.alarms.fifo = [] → s.nat OD.traceSources = 0 → t.mem = s.mem ∧ t.mode = s.mode ∧ t.sec = s.sec))
    ∧ (s.mode.mode ≠ .off → s.time.stopped = true →
        step s = .next { s with time := { s.time with run := s.time.run + s.time.rate } })
    ∧ (s.mode.mode = .off → step s = .next s)

/-- No command stops the block: every step answers a next state, leaves the queue as it was without its front command, and
draws each free value once: the counter that numbers them never falls. -/
def Obligations.EveryStepGoesOn : Prop :=
  ∀ (s : State), ∃ t, step s = .next t ∧ t.pending = s.pending.tail ∧ s.freeCtr ≤ t.freeCtr

/-- What a command may change: every command answers a next state that differs from the state only in the parts and the
objects that `frameOf` names for it. -/
def Obligations.FramesOfCommands : Prop :=
  ∀ (c : Instr) (s : State), ∃ t, exec c s = .next t ∧ Frame (frameOf c).1 ((frameOf c).2.map Obj.code) s t

/-- Memory keeps its canonical form in every step. -/
def Obligations.MemoryStaysCanonical : Prop :=
  ∀ (s t : State), Memory.wf s.mem = true → step s = .next t → Memory.wf t.mem = true

/-- No step clears a blown fuse or lowers an anti-rollback counter (R387, R388), and the fuse write under way stays one that
clears nothing. -/
def Obligations.FusesAreNeverCleared : Prop :=
  ∀ (s t : State), FuseSound s.sec → step s = .next t → FusesKept s.sec t.sec ∧ FuseSound t.sec

/-- What reset leaves (R41, R52, R83, R91, R115, R369, R371): STANDBY, an empty queue and memory, no slug, impression, counter or
forme, the servo in FREERUN at time 0, cores in M-mode with VILL set and every register zero, no session, no alarm; the
invariants of memory and fuses hold, and every dictionary number is at its default. -/
def Obligations.ResetLeaves : Prop :=
  let s := State.reset
  s.pending = [] ∧ s.mode.mode = .standby ∧ s.mem = [] ∧ Memory.wf s.mem = true ∧ FuseSound s.sec
    ∧ s.galley.slugs = [] ∧ s.galley.imps = [] ∧ s.galley.counters = [] ∧ s.galley.formes = [] ∧ s.galley.nextSeq = 1
    ∧ s.time.tb = 0 ∧ s.time.servo = .freerun ∧ s.time.everLocked = false
    ∧ (∀ v, (s.core v).vill = true ∧ (s.core v).vl = 0 ∧ (s.core v).vri = 0 ∧ (s.core v).priv = .m
      ∧ (∀ r, (s.core v).wide r 1 = 0) ∧ (∀ r, (s.core v).preds r 1 = 0) ∧ (s.core v).vstatus = 0#64)
    ∧ (∀ h, s.slug h = none) ∧ (∀ n, (s.part n).state = .absent) ∧ s.pot.sessions = [] ∧ s.alarms.entries = []
    ∧ (∀ (o : Obj) (k : Nat), s.num o k = o.dfltAt k) ∧ (∀ (o : Obj) (k : Nat), s.gov o k = o.dfltAt k)

/-! ## Galley -/

/-- Pressing, release and counters (R90, R91, R94, R97): PRESS, once air time has reached the boundary minus PRESS_LEAD, puts a
whole impression of an enabled forme beside what is live, with a free handle and the absolute deadline for each template, its
slugs FREE until the release; the release makes every slug that waits on nothing READY and the others WAITING; a counter at
FIRE_BY disarms and meets a dependence of its waiters. -/
def Obligations.GalleyPressing : Prop :=
  ∀ (s : State),
    (∀ (cell f : Nat) (x : FormeOn),
      let n := s.pressSlot cell
      let part := s.govN OD.cellPartition cell
      let h := formeHdr x.bytes
      let boundary := slotStart (s.govN OD.numerology cell) n
      s.cellPresses cell = true → s.pressDue cell n = true → (∀ l, Tab.find s.galley.lastPress cell = some l → l < n) →
      formesOf (s.slotEntry cell n) = [f, 0xFFFF, 0xFFFF, 0xFFFF] → f ≠ 0xFFFF → (s.part part).state ≠ .paused →
      Tab.find s.galley.formes f = some x → x.part = part →
      s.galley.slugs.length + s.galley.reserved.length + h.slugs ≤ 65536 → s.galley.counters.length + h.counters ≤ 4096 →
      s.liveOf f < s.nat OD.maxLive f →
      Runs (.press cell) s (fun t => Tab.find t.galley.lastPress cell = some n ∧ ∃ q m, t.imp q = some m ∧ m.forme = f
        ∧ m.part = h.part ∧ m.boundary = boundary ∧ m.released = false ∧ m.aborted = false ∧ m.bindings = []
        ∧ m.slugs.length = h.slugs ∧ m.slugs.Nodup ∧ m.counters.length = h.counters
        ∧ (∀ i, i < h.slugs → s.slug (m.slugs.getD i 0) = none ∧ ∃ y, t.slug (m.slugs.getD i 0) = some y
          ∧ y.state = .free ∧ y.imp = q ∧ y.forme = f ∧ y.depLive = (templateSlug x.bytes i).initDep
          ∧ y.deadline = low32 (boundary + (templateSlug x.bytes i).deadline))
        ∧ ∀ g, g ∉ m.slugs → t.slug g = s.slug g))
    ∧ (∀ (q h : Nat) (m : Impression) (x : Slug), s.imp q = some m → m.released = false → m.counters = [] → h ∈ m.slugs →
      s.slug h = some x → x.state = .free →
      Runs (.impressionRelease q) s (fun t => t.imp q = some { m with released := true }
        ∧ (t.slug h).map (·.state) = some (if x.depLive = 0 then .ready else .waiting)))
    ∧ (∀ (c : Nat) (x : Counter) (m : Impression), Tab.find s.galley.counters c = some x → x.armed = true →
      s.imp x.imp = some m → m.released = true → x.fireBy ≤ s.time.air → (x.source = 2 ∨ x.hold = false) →
      Runs (.counterFireBy c) s (fun t => Tab.find t.galley.counters c = some { x with armed := false, binds := [] }
        ∧ ∀ h y, x.waiters = [h] → s.slug h = some y → y.state = .waiting →
          ∃ z, t.slug h = some z ∧ z.depLive = y.depLive - 1 ∧ z.state = (if y.depLive ≤ 1 then .ready else .waiting)))

/-- Running (R84, R97–R99, R103, R107–R109): DISPATCH gives the idle unit that is served next the slug Galley selects, and ends one
whose KIND its class does not define, of a class without units too; a completion of the current attempt ends the slug and
writes its binding pairs; a TIMER slug runs to its tick; DONE of a control core's window clears it and ends its slug; a
firmware decrement meets a dependence. -/
def Obligations.GalleyRunning : Prop :=
  ∀ (s : State),
    (∀ (cls u h : Nat) (x : Slug) (m : Impression), s.imp x.imp = some m →
      (cls < 12 → s.servedNow cls u = true → s.select cls u = some (h, x) →
        (kindDefined cls x.kind = true → Runs (.dispatch cls u) s (fun t => (t.unit cls u).state = .running
          ∧ (t.unit cls u).held = some (h, x.attempt) ∧ (t.unit cls u).start = s.time.air
          ∧ t.slug h = some { x with
              resolved := [(resolveArg m x.arg0).1, (resolveArg m x.arg1).1, (resolveArg m x.arg2).1]
              taint := x.taint || ((resolveArg m x.arg0).2 || ((resolveArg m x.arg1).2 || (resolveArg m x.arg2).2))
              state := .running, emitted := false, executor := u }))
        ∧ (kindDefined cls x.kind = false → x.abortPending = false →
          Runs (.dispatch cls u) s (fun t => t.endedWith h .fault ∧ (t.unit cls u).held = none)))
      ∧ (cls = 12 ∨ cls = 13 → s.select cls 0 = some (h, x) → kindDefined cls x.kind = false → x.abortPending = false →
        Runs (.dispatch cls u) s (fun t => t.endedWith h .fault)))
    ∧ (∀ (r : Report) (x : Slug) (m : Impression), s.runsAttempt r.handle r.attempt x → s.imp x.imp = some m →
      x.abortPending = false → (r.result = 0 ∨ r.result = 4 ∨ r.result = 5) → (∀ p ∈ r.pairs, p.1 < m.bindCount) →
      Runs (.completionReport r) s (fun t =>
        t.endedWith r.handle (if r.result = 0 then .ok else if r.result = 4 then .hostUnavailable else .inputInvalid)
        ∧ (x.cls < 12 → (t.unit x.cls x.executor).held = none)
        ∧ (r.result = 0 → (r.pairs.map (·.1)).Nodup → ∀ n, t.imp x.imp = some n → ∀ p ∈ r.pairs, Tab.find n.bindings p.1 = some p.2)))
    ∧ (∀ (h : Nat) (x : Slug), s.slug h = some x → x.state = .ready → x.cls = 14 → s.timerReached x = false →
      (x.kind = 1 → Runs (.atOffset h) s (fun t => t.slug h = some { x with state := .running }))
      ∧ (x.kind = 2 → Runs (.atTick h) s (fun t => t.slug h = some { x with state := .running })))
    ∧ (∀ (h : Nat) (x : Slug), s.slug h = some x → x.cls = 14 → s.timerReached x = true →
      (x.state = .ready → x.kind = 1 → Runs (.atOffset h) s (fun t => t.endedWith h .ok))
      ∧ (x.state = .ready → x.kind = 2 → Runs (.atTick h) s (fun t => t.endedWith h .ok))
      ∧ (x.state = .running → Runs (.timerSlugFire h) s (fun t => t.endedWith h .ok)))
    ∧ (∀ (n h att : Nat) (x : Slug) (m : Impression), (s.cc n).held = some (h, att) → s.runsAttempt h att x →
      s.imp x.imp = some m → x.abortPending = false → bits (s.cc n).doneCtl.toNat 6 3 = 0 → bit (s.cc n).doneCtl.toNat 9 = false →
      Runs (.ccDone n) s (fun t => (t.cc n).held = none ∧ (t.cc n).emitted = false ∧ (t.cc n).irq = false
        ∧ t.endedWith h (if bit (s.cc n).doneCtl.toNat 8 then .fault else match bits (s.cc n).doneCtl.toNat 2 0 with
          | 0 => .ok | 4 => .hostUnavailable | 5 => .inputInvalid | _ => .fault)))
    ∧ (∀ (h : Nat) (x : Slug), s.spineOn = true → s.slug h = some x → x.state = .waiting →
      Runs (.slugDecrement h) s (fun t => ∃ y, t.slug h = some y ∧ y.depLive = x.depLive - 1
        ∧ y.state = (if x.depLive ≤ 1 then .ready else .waiting) ∧ y.taint = x.taint ∧ y.part = x.part))

/-- Faults, expiry and stalls (R97, R100, R104): a unit's fault retires and fences it; a slug's fault ends the slug; a slug past
its deadline meets its policy; a stall that lasts STALL_CONFIRM is recorded, and aborts where the action says so. -/
def Obligations.GalleyFaults : Prop :=
  ∀ (s : State),
    (∀ (cls u : Nat) (r : FaultRpt), r.cause = .unit → (s.unit cls u).state ≠ .retired →
      Runs (.faultReport cls u r) s (fun t => t.retired cls u ∧ t.job cls u = none))
    ∧ (∀ (cls u h att : Nat) (r : FaultRpt) (x : Slug), r.cause = .slug → r.held = some (h, att) → s.runsAttempt h att x →
      x.abortPending = false → Runs (.faultReport cls u r) s (fun t => t.endedWith h .fault
        ∧ (x.cls < 12 → (t.unit x.cls x.executor).held = none)))
    ∧ (∀ (h : Nat) (x : Slug), s.slug h = some x → x.state = .running → x.cls < 12 → s.overdue x = true →
      (s.unit x.cls x.executor).state ≠ .retired → Runs (.watchdogExpiry h) s (fun t => t.retired x.cls x.executor))
    ∧ (∀ (h : Nat) (x : Slug), s.slug h = some x → (x.state = .waiting ∨ x.state = .ready) → s.pastDeadline x = true →
      (x.expiry = .skip → Runs (.deadlineExpiry h) s (fun t => t.endedWith h .expired))
      ∧ (x.expiry = .abortImpression → Runs (.deadlineExpiry h) s (fun t => t.endedWith h .aborted
          ∧ ∀ m, t.imp x.imp = some m → m.aborted = true))
      ∧ (x.expiry = .lateRun → s.withinHorizon x = false →
          Runs (.lateHorizonExpiry h) s (fun t => t.endedWith h .expired)))
    ∧ (∀ (p : Nat) (a : Int), (Tab.get {} s.galley.stalls p : Stall) = ⟨some a, false⟩ → s.stalled p = true →
      (s.nat OD.stallConfirm * 12288 : Nat) ≤ (s.time.air - a) * 25 →
      Runs (.stallDeclare p) s (fun t => t.oct OD.lastStall = s.stallRecord p
        ∧ (s.nat OD.stallAction ≠ 0 → (Tab.get {} t.galley.stalls p : Stall) = ⟨some a, true⟩)
        ∧ (s.nat OD.stallAction = 0 → ∀ q ∈ s.impsOf p, ∀ m, t.imp q = some m → m.aborted = true)))

/-- Firmware's submission, its counts and loads (R103, R105): a reserved handle is free and answered with a valid flag, and is free
again after 1 ms; a slug that passes the checks joins its live impression; COUNT_CLEAR returns every Galley count to its
default; at the end of a window every unit's load is floor(255 × busy / window), at most 255. -/
def Obligations.GalleySubmission : Prop :=
  ∀ (s : State),
    (∀ (kind : ReqKind) (priv : Bool) (h : Nat) (l : List Nat), s.spineOn = true → ReqKind.privileged priv kind = true →
      s.freeHandles 1 = h :: l →
      Runs (.slugHandleReserve kind priv) s (fun t => s.slug h = none ∧ has s.galley.reserved h = false ∧ h < 65536
        ∧ has t.galley.reserved h = true ∧ t.reply.fab = some .rdata ∧ t.reply.data = leBytes 8 (h + 65536)
        ∧ Frame [.galley, .reply] [] s t))
    ∧ (∀ (h : Nat) (b : List (BitVec 8)) (m : Impression),
      let x := slugOf (leNat (b.take 64))
      s.spineOn = true → s.submitReason h (leNat (b.take 64)) = 0 → s.imp x.imp = some m →
      Runs (.slugSubmit h b) s (fun t => t.reply.reason = 0 ∧ t.imp x.imp = some { m with slugs := m.slugs ++ [h] }
        ∧ has t.galley.reserved h = false ∧ ∃ y, t.slug h = some y ∧ y.submitted = true ∧ y.imp = x.imp ∧ y.part = x.part
          ∧ y.state = (if m.released = false then .free else if x.initDep = 0 then .ready else .waiting)))
    ∧ (∀ (h : Nat), s.passed (Tab.get 0 s.galley.reservedAt h) 1000000 = true → Runs (.handleReserveTimeout h) s (fun t => has t.galley.reserved h = false
        ∧ (∀ k, k ≠ h → has t.galley.reserved k = has s.galley.reserved k) ∧ Frame [.galley] [] s t))
    ∧ (∀ (who : Requester), s.admits who OD.countClear 1 →
      Runs (.countClear who 1) s (fun t => t.reply.reason = 0
        ∧ (∀ (o : Obj) (k : Nat), o.code ∈ galleyCounts → t.num o k = o.dfltAt k)
        ∧ t.num OD.livePeak = s.liveSlugs ∧ t.num OD.counterPeak = s.galley.counters.length))
    ∧ (s.galley.loadWindow ≠ some (s.time.air / 491520) → Runs .loadWindowEnd s (fun t => ∀ cls u, cls < 12 → u < unitsOf cls →
        t.nat (loadObj cls) u = min 255 (255 * s.busyTicks (s.unit cls u) / 491520) ∧ (t.unit cls u).busy = 0))

/-- Formes and cells through the dictionary (R86, R87, R90): an accepted image is held; an enabled forme is taken with its
partition, image and size, and a disabled one is gone; a cell's enable and its schedule entries. -/
def Obligations.GalleyFormesAndCells : Prop :=
  ∀ (who : Requester) (s : State),
    (∀ (b : List (BitVec 8)),
      let f := s.itemOf who OD.formeImage OD.formeImage.addr
      s.admits who OD.formeImage 0 → (formeHdr b).id = f →
      Runs (.formeImage who b) s (fun t => t.reply.reason = 0 ∧ t.oct OD.formeImage f = b
        ∧ (t.part (formeHdr b).part).state ≠ .absent))
    ∧ (let f := s.itemOf who OD.formeEnable OD.formeEnable.addr
      (s.admits who OD.formeEnable 1 → s.enableMode = true → s.formeReason f = 0 →
        Runs (.formeEnable who) s (fun t => t.reply.reason = 0 ∧ t.flag OD.formeEnable f = true
          ∧ Tab.find t.galley.formes f = some ⟨(formeHdr (s.oct OD.formeImage f)).part, s.oct OD.formeImage f,
              (formeHdr (s.oct OD.formeImage f)).slugs⟩
          ∧ t.num OD.minMargin f = minMargin (s.oct OD.formeImage f) ∧ t.galley.slugs = s.galley.slugs))
      ∧ (s.admits who OD.formeEnable 0 →
        Runs (.formeDisable who) s (fun t => t.reply.reason = 0 ∧ t.flag OD.formeEnable f = false
          ∧ Tab.find t.galley.formes f = none ∧ t.galley.slugs = s.galley.slugs ∧ t.galley.imps = s.galley.imps)))
    ∧ (let c := s.itemOf who OD.cellEnable OD.cellEnable.addr
      (s.admits who OD.cellEnable 1 → s.enableMode = true → s.cellReason c = 0 →
        Runs (.cellEnable who 1) s (fun t => t.reply.reason = 0 ∧ t.flag OD.cellEnable c = true ∧ has t.galley.cellsOn c = true
          ∧ t.gov OD.numerology c = s.num OD.numerology c ∧ t.gov OD.cellPartition c = s.num OD.cellPartition c))
      ∧ (s.admits who OD.cellEnable 0 →
        Runs (.cellEnable who 0) s (fun t => t.reply.reason = 0 ∧ t.flag OD.cellEnable c = false ∧ has t.galley.cellsOn c = false)))
    ∧ (∀ (v : BitVec 64),
      let i := s.itemOf who OD.slotFormes OD.slotFormes.addr
      s.admits who OD.slotFormes v.toNat →
      (has s.galley.cellsOn (i / 65536) = true → s.formesFit v.toNat (s.nat OD.cellPartition (i / 65536)) = true) →
      Runs (.slotFormes who v) s (fun t => t.reply.reason = 0 ∧ t.nat OD.slotFormes i = v.toNat))

/-! ## Time -/

/-- The servo, steps and OSC_IN (R39–R45, R50): a measurement within the unlock and step thresholds moves integrator, correction,
build-out and rate by the servo's law, within the clamp, and counts towards the lock time; a lock held for LOCK_TIME enters
LOCKED and stores the mean of the rate words of the last 10 s, each weighted by the time it held (the weighting is the model's
choice, assumption log 78).  A granted step moves the timebase by what is left of the difference, air time never back, and one
of less than 1/16 ns moves nothing; a TIME_SET outside RUN, DEGRADED and UPGRADE steps at once, in them it is refused or waits
as the target; loss of OSC_IN leads those modes and BOOT to SAFE, and stops the clock in STANDBY. -/
def Obligations.TimeServo : Prop :=
  ∀ (s : State),
    let x := s.time
    (∀ (e : Int) (dt : Nat) (f : Int),
      let ee := e * 1000000000 - x.buildOut
      let lim : Int := s.nat OD.freqClamp * ppbScale
      let integ := clamp (x.integ + s.nat OD.ki * ee * dt) (-lim) lim
      let y := clamp (s.nat OD.kp * ee * 1000000000 + integ) (-lim) lim
      s.servoRuns = true → s.flag OD.hybrid = false → s.nat OD.freqClamp ≤ 1000000 →
      mag ee ≤ (s.nat OD.unlockThreshold * 16000000000 : Nat) → mag ee ≤ (s.nat OD.stepThreshold * 16000000000 : Nat) →
      Runs (.servoMeasurement e dt f) s (fun t => t.time.integ = integ ∧ t.time.y = y ∧ t.time.unlockRun = 0
        ∧ t.time.buildOut = x.buildOut - sgn x.buildOut * min (mag x.buildOut) ((s.nat OD.slewLimit * dt * 16 : Nat) : Int)
        ∧ t.time.lockRun = (if mag ee ≤ (s.nat OD.lockThreshold * 16000000000 : Nat) ∧ x.buildOut = 0
            then some (match x.lockRun with | some n => n + dt | none => 0) else none)
        ∧ t.time.servo = x.servo ∧ t.time.tb = x.tb ∧ t.mode = s.mode ∧ t.num OD.rateWord = t.time.rate
        ∧ mag (t.time.rate * (ppbScale * 1000000000) - 0x199999999999A * (ppbScale * 1000000000 - y))
            < ppbScale * 1000000000))
    ∧ (∀ (n : Nat), x.servo = .acquiring → x.buildOut = 0 → s.servoRuns = true → x.lockRun = some n →
      s.nat OD.lockTime * 1000000000 ≤ n → (∀ h ∈ x.hist, h.2.1 < 2 ^ 64) →
      let h := histOver 10000000000 x.hist
      let w := (h.map (·.1)).sum
      Runs .servoLock s (fun t => t.time.servo = .locked ∧ t.time.everLocked = true
        ∧ (w = 0 → t.nat OD.lockedRate = x.rate % 2 ^ 64)
        ∧ (w ≠ 0 → mag ((t.nat OD.lockedRate * w : Nat) - ((h.map (fun e => e.1 * e.2.1)).sum : Nat)) < w)))
    ∧ (s.stepReady = true → s.stepPending = true →
      let d := (if x.stepWanted then fineToUnits (-x.buildOut) else 0) + x.target.getD 0
      Runs .timebaseStep s (fun t => t.time.stepWanted = false ∧ t.time.target = none
        ∧ t.time.buildOut = (if x.stepWanted then 0 else x.buildOut) ∧ x.air ≤ t.time.air
        ∧ (if mag d < 2 ^ 44 then t.time.tb = x.tb ∧ t.time.air = x.air
            else t.time.tb = ((x.tb : Int) + d).toNat ∧ t.time.stepDone = true)
        ∧ (d < 0 → t.time.air = x.air)))
    ∧ (s.stepReady = false → Runs .timebaseStep s (· = s))
    ∧ (∀ (who : Requester) (v : TB128), s.admits who OD.timeSet (v.pack : Nat) → v.ns < 1000000000 →
      (s.mode.mode.runs = false → Runs (.timeSet who v) s (fun t => t.reply.reason = 0 ∧ t.time.tb = v.units
          ∧ x.air ≤ t.time.air ∧ t.time.target = none))
      ∧ (s.mode.mode.runs = true → s.flag OD.stepInRun = true → Runs (.timeSet who v) s (fun t => t.reply.reason = 0
          ∧ t.time.target = some ((v.units : Int) - x.tb) ∧ t.time.tb = x.tb ∧ t.time.air = x.air))
      ∧ (s.mode.mode.runs = true → s.flag OD.stepInRun = false →
          Runs (.timeSet who v) s (fun t => t.reply.reason = 0x0204 ∧ t.time = s.time)))
    ∧ (x.oscLost = false → Runs .oscInLoss s (fun t => t.time.oscLost = true
        ∧ (s.mode.mode.runs = true → t.mode.mode = .safe ∧ has t.mode.safeCauses 0 = true)
        ∧ (s.mode.mode = .boot → t.mode.mode = .safe)
        ∧ (s.mode.mode = .standby → t.time.stopped = true ∧ t.time.servo = .freerun ∧ t.mode = s.mode)
        ∧ (s.mode.mode = .configure → t.mode = s.mode ∧ t.stands 0x0201 0 = true)))
    ∧ (x.oscLost = true → Runs .oscInReturn s (fun t => t.time.oscLost = false
        ∧ t.time.stopped = (decide (s.mode.mode = .standby) && !s.flag OD.holdInStandby)
        ∧ t.time.servo = (if x.servo = .locked then .acquiring else x.servo) ∧ has t.mode.safeCauses 0 = false))

/-- References (R46–R51): a reference that has been valid for QUALIFY_TIME qualifies, and with none selected is followed, its
mean error built out; one that is lost is no longer qualified, and with no other the servo holds over where it has been locked
and runs free where not; the entry that has waited WAIT_TO_RESTORE is restored; the holdover limit sets STATUS bit 3. -/
def Obligations.TimeReferences : Prop :=
  ∀ (s : State),
    let v (k : Nat) : Nat := s.nat OD.reference k
    let valid (k a : Nat) : Prop :=
      (refType (v k) = 1 ∧ ∃ p, (if refInst (v k) = 255 then s.slavePort else some (refInst (v k))) = some p
        ∧ s.ptpSlave p = true ∧ a = (s.ptpPort p).slaveAt)
      ∨ (refType (v k) = 2 ∧ refInst (v k) ≠ 255 ∧ ∃ b, Tab.find s.time.ppsRun (refInst (v k)) = some (a, b)
        ∧ s.passed b 1500000000 = false)
      ∨ (refType (v k) = 3 ∧ refInst (v k) ≠ 255 ∧ (Tab.get {} s.front.lanes (refInst (v k)) : Lane).lock = true
        ∧ a = (Tab.get {} s.front.lanes (refInst (v k)) : Lane).lockAt)
    let gone (ty inst : Nat) (t : State) : Prop :=
      ∀ k, k < 8 → refType (v k) = ty → (refInst (v k) = inst ∨ ty = 1 ∧ refInst (v k) = 255 ∧ s.slavePort = some inst) →
        has t.time.qualified k = false
    (∀ (k a : Nat), k < 8 → has s.time.qualified k = false → bit (v k) 16 = true → valid k a →
      s.passed (max a (Tab.get 0 s.time.disqAt k)) (s.nat OD.qualifyTime * 1000000000) = true →
      Runs (.referenceQualify k) s (fun t => has t.time.qualified k = true
        ∧ (s.time.phaseSel = none → refType (v k) ≤ 2 → t.time.phaseSel = some k ∧ t.time.lastPhase = some k
          ∧ t.time.servo = (if s.time.servo = .locked then .locked else .acquiring)
          ∧ (s.time.servo = .freerun → t.time.buildOut = 0)
          ∧ ∀ l, Tab.get [] s.time.errs k = l → l ≠ [] → s.time.servo ≠ .freerun →
              mag (t.time.buildOut * l.length - l.sum * 1000000000) < l.length)
        ∧ (refType (v k) = 3 → t.time.freqSel ≠ none)))
    ∧ (∀ (k : Nat), Runs (.referenceDisqualify k) s (fun t => has t.time.qualified k = false
        ∧ (s.time.qualified = [k] → s.time.phaseSel = some k →
          t.time.phaseSel = none ∧ t.time.servo = (if s.time.everLocked then .holdover else .freerun))))
    ∧ (∀ (p place : Nat), s.passed (s.ptpPort p).announceAt (s.govN OD.announceTimeout p * Config.announceInterval p) = true →
      Runs (.announceTimeout p place) s (fun t => gone 1 p t
        ∧ (s.gov OD.notSlave p = 0 ∨ place ≠ 8 ∧ place ≠ 9 → (t.ptpPort p).state = place)))
    ∧ (∀ (p : Nat), (∀ e, Tab.find s.time.ppsRun p = some e → s.passed e.2 1500000000 = true) →
      Runs (.ppsLossTimeout p) s (gone 2 p))
    ∧ (∀ (l : Nat), Runs (.synceLockLoss l) s (gone 3 l))
    ∧ (∀ (k : Nat), s.time.waiting = some k → s.passed s.time.waitAt (s.nat OD.waitToRestore * 1000000000) = true →
      Runs (.waitToRestoreExpiry false) s (fun t => t.time.waiting = none
        ∧ t.time.phaseSel = (if s.refTakes false k = true ∧ s.bestRef false = some k then some k else s.time.phaseSel)))
    ∧ (∀ (k : Nat), s.time.waitingFreq = some k → s.passed s.time.waitFreqAt (s.nat OD.waitToRestore * 1000000000) = true →
      Runs (.waitToRestoreExpiry true) s (fun t => t.time.waitingFreq = none
        ∧ t.time.freqSel = (if s.refTakes true k = true ∧ s.bestRef true = some k then some k else s.time.freqSel)))
    ∧ (s.time.servo = .holdover → s.passed s.time.holdoverAt (s.nat OD.holdoverLimit * 1000000000) = true →
      Runs .holdoverLimit s (fun t => bit (t.nat OD.statusSticky) 3 = true ∧ t.time = s.time))

/-- PTP (R54–R58, R60, R61): on a port with PTP enabled a recognised message within the police rate is taken: a one-step Sync, or a
Sync with its Follow_Up, gives a slave's offset with the latest Delay_Resp, which its Delay_Req pairs by sequence; a message
of a pair waits for the other, and is discarded and counted after 1 s; one above the rate is dropped and counted; stamps are
queued, 16 at most, and popped oldest first; a Sync that leaves is recorded, in one step or with a Follow_Up. -/
def Obligations.TimePtp : Prop :=
  ∀ (p : Nat) (s : State), p < 26 →
    let x := s.ptpPort p
    let asym := s.num OD.asymmetry p
    let q := Tab.get [] s.time.stampQ p
    let within := (if x.second = s.nowSec then x.count else 0) < s.nat OD.policeRate p
    let offset (t1 t2 c d : Int) (t : State) : Prop :=
      let fwd := t2 - t1 - (c + asym)
      mag (2 * t.num OD.meanPathDelay p - (fwd + d)) ≤ 1 ∧ t.num OD.ptpOffset p = fwd - t.num OD.meanPathDelay p
    (s.mode.mode ≠ .off → s.mode.mode ≠ .standby → s.gov OD.ptpEnable p ≠ 0 →
      (∀ (n : PtpEncap), ptpRecognised n = true → within → s.ptpSlave p = true →
        (∀ (seq dt : Nat) (t1 t2 c d f : Int), x.respDelta = some d →
          Runs (.ptpEventMessageRx p n (.sync seq false t1 t2 c dt f)) s (offset t1 t2 c d))
        ∧ (∀ (seq dt : Nat) (t1 t2 c f : Int), (∀ m ∈ x.pend, m.1.seq ≠ seq) →
          Runs (.ptpEventMessageRx p n (.sync seq true t1 t2 c dt f)) s (fun t =>
            (t.ptpPort p).pend = x.pend ++ [(.sync seq t2 c dt f, s.nowNs)]))
        ∧ (∀ (seq dt a : Nat) (t1 t2 c c' d f : Int), x.respDelta = some d →
          x.pend.find? (fun m => (PtpPend.followUp seq t1 c').pairs m.1) = some (.sync seq t2 c dt f, a) →
          Runs (.ptpEventMessageRx p n (.followUp seq t1 c')) s (fun t => offset t1 t2 (c + c') d t
            ∧ (t.ptpPort p).pend = x.pend.erase (.sync seq t2 c dt f, a)))
        ∧ (∀ (seq a : Nat) (t3 t4 c : Int),
          x.pend.find? (fun m => (PtpPend.delayResp seq t4 c).pairs m.1) = some (.delayReq seq t3, a) →
          Runs (.ptpEventMessageRx p n (.delayResp seq t4 c)) s (fun t =>
            (t.ptpPort p).respDelta = some (t4 - t3 - (c - asym)) ∧ (t.ptpPort p).pend = x.pend.erase (.delayReq seq t3, a))))
      ∧ (∀ (n : PtpEncap) (seq : Nat) (t3 : Int), s.ptpSlave p = true → (∀ m ∈ x.pend, m.1.seq ≠ seq) →
        Runs (.ptpEventMessageRx p n (.delayReqSent seq t3)) s (fun t =>
          (t.ptpPort p).pend = x.pend ++ [(.delayReq seq t3, s.nowNs)]))
      ∧ (∀ (n : PtpEncap) (place : Nat), ptpRecognised n = true → within → Runs (.ptpEventMessageRx p n (.announce place)) s (fun t =>
          (t.ptpPort p).announceAt = s.nowNs
            ∧ (s.gov OD.notSlave p = 0 ∨ place ≠ 8 ∧ place ≠ 9 → (t.ptpPort p).state = place)))
      ∧ (∀ (n : PtpEncap) (place : Nat), ptpRecognised n = true → ¬within → Runs (.ptpEventMessageRx p n (.announce place)) s (fun t =>
          t.time = s.time ∧ t.num OD.policedCount p = min OD.policedCount.hi (s.num OD.policedCount p + 1))))
    ∧ (∀ (seq : Nat) (m : PtpPend × Nat),
      x.pend.find? (fun e => decide (e.1.seq = seq) && s.passed e.2 1000000000) = some m →
      Runs (.ptpUnpairedDiscard p seq) s (fun t => (t.ptpPort p).pend = x.pend.erase m
        ∧ (t.ptpPort p).unpaired = satInc x.unpaired ∧ Frame [.time] [] s t))
    ∧ (∀ (tag : BitVec 8) (sync : Option Nat) (disc : Bool), Runs (.stampedFrameTx p tag sync disc) s (fun t =>
        (if q.length < 16 then Tab.get [] t.time.stampQ p
            = q ++ [⟨tag, disc, !disc && s.oneStepOn p sync, if disc then ⟨0, 0, 0⟩ else s.now⟩]
          else Tab.get [] t.time.stampQ p = q ∧ t.flag OD.stampOverflow p = true)
        ∧ t.time.syncOut = s.time.syncOut ++ (match disc, sync with
          | false, some seq => if s.gov OD.ptpEnable p ≠ 0 then [⟨p, seq, s.now, decide (s.gov OD.oneStep p = 0)⟩] else []
          | _, _ => [])))
    ∧ (∀ (e : Stamp) (l : List Stamp), q = e :: l → Runs (.txStampQueuePop p) s (fun t => Tab.get [] t.time.stampQ p = l
        ∧ t.reply.fab = some .rdata ∧ t.reply.data = leBytes 16 e.bits128 ∧ Frame [.time, .reply] [] s t))
    ∧ (q = [] → Runs (.txStampQueuePop p) s (fun t => t.reply.fab = some .rdata ∧ t.reply.data = leBytes 16 0
        ∧ Frame [.time, .reply] [] s t))

/-- PPS, ToD and PTM (R66–R69, R76–R78): the edge of an input, the third agreeing correction of seconds, the timing outputs at
their offset, width and delay, and host time from Request and Response pairs. -/
def Obligations.TimePinsAndHost : Prop :=
  ∀ (s : State),
    (∀ (i dt : Nat) (stamp : TB128) (f : Int), i < 2 →
      let c := stamp.in16 - s.num OD.ppsInDelay i
      let sec := (c + 8000000000) / 16000000000
      let rejected := s.time.servo = .locked ∧ s.selectedPps i = true
        ∧ (s.nat OD.ppsWindow * 16 : Nat) < mag (c - sec * 16000000000)
      Runs (.ppsInEdge i stamp dt f) s (fun t =>
        (¬rejected → Tab.find t.time.ppsEdge i = some sec.toNat ∧ Tab.get 0 t.time.ppsRejRun i = 0)
        ∧ (rejected → Tab.find t.time.ppsEdge i = Tab.find s.time.ppsEdge i
          ∧ Tab.get 0 t.time.ppsRejRun i = Tab.get 0 s.time.ppsRejRun i + 1
          ∧ (2 ≤ Tab.get 0 s.time.ppsRejRun i → ∀ k, k < 8 → refType (s.nat OD.reference k) = 2 →
            refInst (s.nat OD.reference k) = i → has t.time.qualified k = false))))
    ∧ (∀ (sec ms edge : Nat) (own : Option Int), Tab.find s.time.ppsEdge (s.nat OD.todInPair) = some edge → ms ≤ 900 →
      let d (utc : Bool) : Int := (sec : Int) + (if utc then own.getD (s.num OD.taiUtc) else 0)
        - ((edge : Int) + (if bit (s.nat OD.todInConfig) 4 then 1 else 0))
      ∀ utc, Runs (.todInMessage sec utc own ms (bits (s.nat OD.todInConfig) 1 0) (bits (s.nat OD.todInConfig) 3 2)) s (fun t =>
        (d utc = 0 → t.time.todRun = none ∧ t.time.tb = s.time.tb)
        ∧ (d utc ≠ 0 → t.time.todDisagree = satInc s.time.todDisagree)
        ∧ (d utc ≠ 0 → s.time.todRun = none → t.time.todRun = some (d utc, 1))
        ∧ (s.time.todRun = some (d utc, 2) → d utc ≠ 0 → t.time.todRun = none
          ∧ (s.mode.mode.runs = false → (t.time.tb : Int) = max 0 (s.time.tb + d utc * 1000000000 * nsUnit))
          ∧ (s.mode.mode.runs = true → t.time.buildOut = s.time.buildOut - d utc * 16000000000000000000))))
    ∧ (∀ (o : Nat), o < 2 → s.outputRuns o = true → s.pinTri (40 + o) = false → s.sincePps o < 26 →
      Runs (.ppsOutEdge o) s (fun t => has t.time.ppsHigh o = true ∧ Frame [.time] [] s t))
    ∧ (∀ (o : Nat), (s.nat OD.ppsOutWidth * 16000 : Nat) ≤ s.sincePps o →
      Runs (.ppsOutPulseEnd o) s (fun t => has t.time.ppsHigh o = false ∧ Frame [.time] [] s t))
    ∧ (let c := s.nat OD.todOutConfig
      let sec := ((s.now16 - s.num OD.ppsOutOffset 0) / 16000000000).toNat
      s.outputRuns 2 = true → s.pinTri 42 = false → (bits c 24 16 * 16000000 : Nat) ≤ s.sincePps 0 →
      (∀ m ∈ s.time.todSent, m.second ≠ sec) →
      Runs .todOutSend s (fun t => t.time.todSent = s.time.todSent ++ [⟨sec, bits c 1 0, bits c 3 2⟩] ∧ Frame [.time] [] s t))
    ∧ (s.time.ptmOn = true → (∀ a, s.time.ptmAt = some a → s.passed a (s.nat OD.ptmInterval * 1000000) = true) →
      Runs .ptmRequest s (fun t => t.time.ptmReq = some s.now16 ∧ t.time.ptmAt = some s.nowNs ∧ Frame [.time] [] s t))
    ∧ (∀ (t1 t2 t3 : Int) (t4 : TB128), s.time.ptmReq = some t1 →
      let delay2 := (t4.in16 - t1) - (t3 - t2)
      (delay2 ≤ 320000 → Runs (.ptmResponse t2 t3 t4) s (fun t => t.time.ptmReq = none
        ∧ t.time.ptmGood = s.time.ptmGood + 1 ∧ (3 ≤ s.time.ptmGood → t.flag OD.ptmValid = true)
        ∧ ∃ off, mag (2 * off - ((t2 - t1) + (t3 - t4.in16))) ≤ 1 ∧ t.time.ptmOffsets = (off :: s.time.ptmOffsets).take 8
          ∧ (t.flag OD.ptmValid = true → t.num OD.hostOffset = off)))
      ∧ (320002 ≤ delay2 → Runs (.ptmResponse t2 t3 t4) s (fun t => t.time.ptmReq = none ∧ t.time.ptmGood = 0
        ∧ t.flag OD.ptmValid = false)))
    ∧ (∀ (a : Nat), s.time.ptmReq ≠ none → s.time.ptmAt = some a → s.passed a 1000000 = true →
      Runs .ptmResponseTimeout s (fun t => t.time.ptmReq = none ∧ t.time.ptmGood = 0 ∧ t.flag OD.ptmValid = false))

/-- Boundaries of air time (R15, R71, R72, R75, R296, R378, R471): the next-slot values of a cell, its flows, groups and contexts
govern from its slot boundary on, and those of other cells stand; those bound to no cell govern from a subframe's; a partition's
pause is taken at a boundary of its cells; the frame strobes rise at a frame's and fall after 1 µs; SFN, HFN and the tick count
are computed from one count, so their wraps change nothing else. -/
def Obligations.TimeBoundaries : Prop :=
  ∀ (s : State),
    (∀ (c : Nat), Runs (.slotBoundary c) s (fun t =>
      (∀ o ∈ [OD.period, OD.pressLead, OD.rampUp, OD.dlMask, OD.rampDown], t.gov o c = s.num o c)
      ∧ (∀ i, i / 65536 = c → t.gov OD.slotFormes i = s.num OD.slotFormes i)
      ∧ (∀ o ∈ [OD.rxWindow, OD.txWindow, OD.rxShift], ∀ f, s.flowCell f = c → t.gov o f = s.num o f)
      ∧ (∀ o ∈ [OD.changeMask, OD.targetRms, OD.peakLimit, OD.attackMax, OD.decayStep], ∀ g, s.groupCell g = c → t.gov o g = s.num o g)
      ∧ (∀ o ∈ [OD.threshold, OD.triggerLevel, OD.occasionFreeze], ∀ k, s.ctxCell k = c → t.gov o k = s.num o k)
      ∧ (∀ o ∈ nextSlotObjs, ∀ i, s.slotCell o i ≠ some c → t.gov o i = s.gov o i)
      ∧ (∀ n, s.govN OD.cellPartition c = n → (s.part n).state = .enabled → (s.part n).pauseNext = some true →
        (t.part n).state = .paused ∧ (t.part n).pauseNext = none)
      ∧ Tab.find t.time.slotAt c = some s.time.air
      ∧ (∀ (o : Obj) (i : Nat), t.num o i = s.num o i)))
    ∧ Runs .subframeBoundary s (fun t =>
      (∀ o ∈ [OD.fallbackCfg, OD.fallbackSlots, OD.shapingCfg, OD.dlWidths, OD.channelMap, OD.coreImage, OD.allocWait,
        OD.pivotMin, OD.ldOffset, OD.tdExtScale, OD.collectWait, OD.rcoMap], ∀ i, t.gov o i = s.num o i)
      ∧ t.fab.linksBack = [] ∧ t.time.subAt = some s.time.air ∧ (∀ (o : Obj) (i : Nat), t.num o i = s.num o i))
    ∧ (s.mode.mode = .configure ∨ s.mode.mode.runs = true → Runs .frameBoundary s (fun t =>
      (∀ p, has t.pins.strobe p = (has s.pins.strobe p || has s.strobePins p)) ∧ t.pins.strobeAt = s.nowNs
        ∧ Frame [.pins] [] s t))
    ∧ (∀ (p : Nat), s.passed s.pins.strobeAt 1000 = true →
      Runs (.frameStrobeEnd p) s (fun t => has t.pins.strobe p = false ∧ Frame [.pins] [] s t))
    ∧ Runs .sfnWrap s (· = s) ∧ Runs .hfnWrap s (· = s) ∧ Runs .airTickWrap s (· = s)

/-! ## Modes and boot -/

/-- Power, RESET_N and temperature (R369, R371, R425, R426, R428, R461): what leads to OFF and to STANDBY from any mode, and what it
takes with it; the straps are sampled; RESET_N high lets a device that boots by itself towards BOOT. -/
def Obligations.ModesOfPower : Prop :=
  ∀ (s : State),
    let empty (t : State) : Prop := t.galley.slugs = [] ∧ t.galley.imps = [] ∧ t.galley.formes = [] ∧ t.vx = {} ∧ t.mem = []
      ∧ t.edge = {} ∧ t.front = {} ∧ t.sec.regions = [] ∧ t.host = {}
    (∀ (cv : Nat) (straps : BitVec 4), s.mode.mode = .off → 430 < cv → Runs (.vinRise cv straps) s (fun t =>
      t.mode.mode = .standby ∧ t.nat OD.straps = straps.toNat ∧ t.nat OD.bootSource = straps.toNat / 8
        ∧ t.nat OD.smbusAddress = 0x58 + straps.toNat % 8 ∧ t.time.stopped = t.time.oscLost))
    ∧ (s.mode.mode ≠ .off → Runs .vinFall s (fun t => t.mode.mode = .off ∧ empty t ∧ t.pot.sessions = [] ∧ t.alarms = {}
        ∧ t.res.faultLog = s.res.faultLog ∧ t.dict.storeA = s.dict.storeA ∧ t.dict.storeOct = s.dict.storeOct))
    ∧ (∀ (straps : BitVec 4), Runs (.resetNAssert straps) s (fun t => t.mode.resetN = false
        ∧ (s.mode.mode = .off → t.mode.mode = .off)
        ∧ (s.mode.mode ≠ .off → t.mode.mode = .standby ∧ empty t ∧ t.pot.sessions = [] ∧ t.mode.target = none
          ∧ t.mode.draining = false ∧ t.nat OD.straps = straps.toNat ∧ t.dict.storeA = s.dict.storeA
          ∧ (s.mode.mode = .standby → t.time.tb = s.time.tb ∧ t.time.servo = s.time.servo)
          ∧ (s.mode.mode ≠ .standby → s.time.servo ≠ .locked → t.time.servo = .freerun ∧ t.time.everLocked = false))))
    ∧ Runs .resetNRelease s (fun t => t.mode.resetN = true ∧ t.mode.mode = s.mode.mode
        ∧ t.mode.target = (if s.mode.mode = .standby ∧ s.mode.thermalHold = false ∧ s.flag OD.autoBoot = true
            ∧ s.mode.target = none then some .boot else s.mode.target))
    ∧ (s.mode.mode ≠ .off → Runs .thermalShutdown s (fun t => t.mode.mode = .standby ∧ t.mode.thermalHold = true
        ∧ t.mode.target = none ∧ (s.mode.mode ≠ .standby → empty t)))

/-- Requests and transitions (R370–R373, R375–R377, R382): a mode request that Table 13-2 allows and one it refuses; the device
enable, which enters RUN, or DEGRADED where a cause stands, or records why not; the drain and its end; DEGRADED left. -/
def Obligations.ModesOnRequest : Prop :=
  ∀ (who : Requester) (s : State),
    let m := s.mode.mode
    (∀ (code : Nat), s.admits who OD.modeRequest code →
      let r := s.requestReason code
      (r = 0 → Runs (.modeRequest who code) s (fun t => t.reply.reason = 0
        ∧ (code = 1 → t.mode.target = some .standby ∧ t.mode.draining = (if m.runs then true else s.mode.draining) ∧ t.mode.mode = m)
        ∧ (code = 2 → t.mode.target = some .boot ∧ t.mode.thermalHold = false ∧ t.mode.mode = m)
        ∧ (code = 3 → t.mode.target = some .configure ∧ t.mode.mode = m)
        ∧ (code = 6 → t.mode.mode = .upgrade ∨ t.res.upgradeWaiting = true ∧ t.mode.mode = m)
        ∧ (code = 7 → t.mode.mode = .safe)))
      ∧ (r ≠ 0 → Runs (.modeRequest who code) s (fun t => t.reply.reason = r ∧ Frame [.reply] [] s t)))
    ∧ (∀ (obs : EnableObs), s.accessReason who OD.deviceEnable 0 OD.deviceEnable.addr true = 0 → s.inTransition = false →
      (s.enableTest obs = none → Runs (.deviceEnable who obs) s (fun t => t.reply.reason = 0 ∧ t.flag OD.deviceEnable = true
        ∧ t.nat OD.lastEnableReason = 0 ∧ t.nat OD.lastEnableDetail = 0 ∧ t.mode.mode = (if t.causes = 0 then .run else .degraded)))
      ∧ (∀ r d, s.enableTest obs = some (r, d) → Runs (.deviceEnable who obs) s (fun t => t.reply.reason = r ∧ t.reply.detail = d
        ∧ t.nat OD.lastEnableReason = r ∧ t.nat OD.lastEnableDetail = d ∧ t.mode = s.mode)))
    ∧ (s.admits who OD.deviceEnable 0 → s.inTransition = false → m ≠ .upgrade →
      Runs (.deviceDisable who) s (fun t => t.reply.reason = 0 ∧ t.flag OD.deviceEnable = false ∧ t.mode.mode = m
        ∧ (m.runs = true → t.mode.target = some .configure ∧ t.mode.draining = true)))
    ∧ (∀ g, s.mode.draining = true → s.drained = true → s.mode.target = some g → Runs .drainEnd s (fun t => t.mode.mode = g ∧ t.mode.target = none
        ∧ t.mode.draining = false ∧ ∀ q n, t.imp q = some n → n.aborted = true))
    ∧ (m = .degraded → s.causes = 0 → s.inTransition = false → s.subNow = true → Runs .degradedExit s (fun t => t.mode.mode = .run))
    ∧ (∀ g, s.mode.draining = false → s.mode.target = some g → Runs .modeTransitionComplete s (fun t => t.mode.target = none
        ∧ (g = .boot → t.mode.mode = (if s.time.oscLost then .safe else .boot) ∧ t.nat OD.bootStage = 1)
        ∧ (g ≠ .boot → t.mode.mode = g)))

/-- The stages of BOOT (R374, R379, R390, R427, Table 13-4): a stage completed starts the next, stage 7 ends in CONFIGURE, or in RUN or
DEGRADED where the device enables itself; an image that fails its checks, a class without a healthy unit, a stage's failure and
a host that writes no image in time end in SAFE with the reason. -/
def Obligations.BootStages : Prop :=
  ∀ (s : State),
    let failed (r : Nat) (t : State) : Prop := t.mode.mode = .safe ∧ t.nat OD.bootResult = r ∧ has t.mode.safeCauses 3 = true
    (∀ (units : List Nat) (obs : EnableObs), s.mode.mode = .boot → s.nat OD.bootStage = 1 →
      Runs (.bootStageComplete units obs) s (fun t => t.nat OD.bootStage = 2 ∧ t.mode.mode = .boot
        ∧ t.power.railsOn = [2, 3, 4, 8, 9, 10] ∧ t.power.pgOut = true ∧ t.pins.bankA = .steady ∧ t.pins.bankB = .steady))
    ∧ (∀ (units : List Nat) (obs : EnableObs), s.mode.mode = .boot → s.nat OD.bootStage = 2 →
      Runs (.bootStageComplete units obs) s (fun t => t.nat OD.bootStage = 3 ∧ t.mode.mode = .boot
        ∧ t.power.railsOn = [2, 3, 4, 5, 6, 7, 8, 9, 10]))
    ∧ (∀ (units : List Nat) (obs : EnableObs) (n : Nat), s.mode.mode = .boot → s.awaitsImage = false → (n = 1 ∨ n = 2) →
      s.nat OD.bootStage = n + 2 →
      (s.imageFault n = 0 → Runs (.bootStageComplete units obs) s (fun t => t.nat OD.bootStage = n + 3 ∧ t.mode.mode = .boot
        ∧ Tab.find t.sec.running n = s.stageImage n ∧ (n = 1 → t.res.recovery = .running)))
      ∧ (s.imageFault n ≠ 0 → Runs (.bootStageComplete units obs) s (failed (s.imageFault n))))
    ∧ (∀ (units : List Nat) (obs : EnableObs), s.mode.mode = .boot → s.nat OD.bootStage = 5 →
      Runs (.bootStageComplete units obs) s (fun t => t.nat OD.bootStage = 6 ∧ t.mode.mode = .boot))
    ∧ (∀ (units : List Nat) (obs : EnableObs), s.mode.mode = .boot → s.nat OD.bootStage = 6 →
      Runs (.bootStageComplete units obs) s (fun t => if (s.stageSix units).classDead then failed 0x0A08 t
        else t.nat OD.bootStage = 7 ∧ t.mode.mode = .boot ∧ t.galley.unitsOn = true
          ∧ ∀ n ∈ units, ∀ cls u, unitOfNumber n = some (cls, u) → t.retired cls u))
    ∧ (∀ (units : List Nat) (obs : EnableObs), s.mode.mode = .boot → s.nat OD.bootStage = 7 →
      Runs (.bootStageComplete units obs) s (fun t => t.nat OD.bootStage = 8 ∧ (t.mode.mode = .configure
        ∨ s.flag OD.runAtBoot = true ∧ (t.mode.mode = .run ∨ t.mode.mode = .degraded))))
    ∧ (∀ r, s.mode.mode = .boot → r ∈ stageReasons (s.nat OD.bootStage) →
      (s.nat OD.bootStage ≠ 3 ∧ s.nat OD.bootStage ≠ 4 ∨ s.awaitsImage = false ∧ s.imageFault (s.nat OD.bootStage - 2) = r) →
      Runs (.bootStageFail r) s (failed r))
    ∧ (s.awaitsImage = true → s.mode.stageAt + s.nat OD.bootHostWait * 1000000000 ≤ s.nowNs →
      Runs .bootHostTimeout s (failed 0x0B06))
    ∧ (∀ (img : Image), s.awaitsImage = true → s.accessReason (.mailbox 0) OD.bootImage 0 OD.bootImage.addr true = 0 →
      let cls := if s.nat OD.bootStage = 3 then 1 else 2
      (s.sec.imageReason cls img = 0 → Runs (.bootImageWrite 0 img) s (fun t => t.reply.reason = 0
        ∧ Tab.find t.mode.hostImages cls = some img ∧ t.mode.mode = .boot))
      ∧ (s.sec.imageReason cls img ≠ 0 → Runs (.bootImageWrite 0 img) s (fun t => t.reply.reason = s.sec.imageReason cls img
        ∧ failed (s.sec.imageReason cls img) t)))

/-! ## Vector instructions: elements -/

/-- VADD, VSUB, VMUL, VMULH, VMACC, VNMSAC, VAND, VOR, VXOR, VMIN and VMAX (R148, R151, R154): each active element of the
destination is the exact result wrapped to EW bits, with no flag.  VADD_X, VSUB_X, VRSUB_X, VMUL_X, VMACC_X and VADD_I (R150)
take the low EW bits of rs2, or the sign-extended immediate, as second operand. -/
def Obligations.VxIntegerElements : Prop :=
  (∀ (o : VV) (s : State), VecReady s o.core (·.okVV ewAll o true) →
    let c := s.core o.core
    let a (i : Nat) : Int := c.selem o.ws1 i
    let b (i : Nat) : Int := c.selem o.ws2 i
    let d (i : Nat) : Int := c.selem o.wd i
    let wraps (f : Nat → Int) (t : State) : Prop :=
      VecResult s t o.core o.wd o.pm o.pg (fun i => (unsigned c.ew (f i), 0))
    let bitsOf (f : Nat → Nat → Nat) (t : State) : Prop :=
      VecResult s t o.core o.wd o.pm o.pg (fun i => (f (c.elem o.ws1 i) (c.elem o.ws2 i), 0))
    Runs (.vadd o) s (wraps fun i => a i + b i)
      ∧ Runs (.vsub o) s (wraps fun i => a i - b i)
      ∧ Runs (.vmul o) s (wraps fun i => a i * b i)
      ∧ Runs (.vmulh o) s (wraps fun i => (a i * b i).fdiv (2 ^ c.ew))
      ∧ Runs (.vmacc o) s (wraps fun i => d i + a i * b i)
      ∧ Runs (.vnmsac o) s (wraps fun i => d i - a i * b i)
      ∧ Runs (.vmin o) s (wraps fun i => min (a i) (b i))
      ∧ Runs (.vmax o) s (wraps fun i => max (a i) (b i))
      ∧ Runs (.vand o) s (bitsOf fun x y => x &&& y)
      ∧ Runs (.vor o) s (bitsOf fun x y => x ||| y)
      ∧ Runs (.vxor o) s (bitsOf fun x y => x ^^^ y))
  ∧ (∀ (o : VV) (s : State), VecReady s o.core (·.okVV ewAll o false) →
    let c := s.core o.core
    let a (i : Nat) : Int := c.selem o.ws1 i
    let d (i : Nat) : Int := c.selem o.wd i
    let y : Int := signed c.ew (c.xr o.ws2).toNat
    let wraps (f : Nat → Int) (t : State) : Prop :=
      VecResult s t o.core o.wd o.pm o.pg (fun i => (unsigned c.ew (f i), 0))
    Runs (.vaddX o) s (wraps fun i => a i + y)
      ∧ Runs (.vsubX o) s (wraps fun i => a i - y)
      ∧ Runs (.vrsubX o) s (wraps fun i => y - a i)
      ∧ Runs (.vmulX o) s (wraps fun i => a i * y)
      ∧ Runs (.vmaccX o) s (wraps fun i => d i + a i * y)
      ∧ Runs (.vaddI o) s (wraps fun i => a i + o.ws2.toInt))

/-- The shifts VSLL, VSRA and VSRL in their vector, .x and .i forms (R155): the amount is the signed element of ws2, the
signed rs2 or the unsigned immediate; a negative amount shifts the other way; no flag. -/
def Obligations.VxShifts : Prop :=
  ∀ (o : VV) (s : State),
    let c := s.core o.core
    let x (i : Nat) : Int := c.selem o.ws1 i
    let left (k : Nat → Int) (t : State) : Prop :=
      VecResult s t o.core o.wd o.pm o.pg (fun i => (shifted c.ew (x i) (k i), 0))
    let right (k : Nat → Int) (t : State) : Prop :=
      VecResult s t o.core o.wd o.pm o.pg (fun i => (shifted c.ew (x i) (-(k i)), 0))
    let logical (k : Nat → Int) (t : State) : Prop :=
      VecResult s t o.core o.wd o.pm o.pg (fun i =>
        (if 0 ≤ k i then c.elem o.ws1 i / 2 ^ (k i).toNat else shifted c.ew (x i) (-(k i)), 0))
    let elt (i : Nat) : Int := c.selem o.ws2 i
    let reg (_ : Nat) : Int := (c.xr o.ws2).toInt
    let imm (_ : Nat) : Int := o.ws2.toNat
    (VecReady s o.core (·.okVV ewAll o true) →
      Runs (.vsll o) s (left elt) ∧ Runs (.vsra o) s (right elt) ∧ Runs (.vsrl o) s (logical elt))
    ∧ (VecReady s o.core (·.okVV ewAll o false) →
      Runs (.vsllX o) s (left reg) ∧ Runs (.vsraX o) s (right reg) ∧ Runs (.vsrlX o) s (logical reg)
        ∧ Runs (.vsllI o) s (left imm) ∧ Runs (.vsraI o) s (right imm) ∧ Runs (.vsrlI o) s (logical imm))

/-- VDIV, VDIVS and VREM (R156): the quotient towards zero, the remainder with the sign of the dividend; a divisor of
zero gives MAX or MIN, the dividend as remainder, and VDZ (bit 1); MIN / −1 gives MIN under VDIV without a flag and MAX
under VDIVS with VSAT (bit 0). -/
def Obligations.VxDivision : Prop :=
  ∀ (o : VV) (s : State), VecReady s o.core (·.okVV ewAll o true) →
    let c := s.core o.core
    let a (i : Nat) : Int := c.selem o.ws1 i
    let b (i : Nat) : Int := c.selem o.ws2 i
    let hi : Int := 2 ^ (c.ew - 1) - 1
    let lo : Int := -(2 ^ (c.ew - 1))
    let quo (sat : Bool) (i : Nat) : Nat × Nat :=
      if b i = 0 then (unsigned c.ew (if 0 ≤ a i then hi else lo), 2)
      else if a i = lo ∧ b i = -1 then (if sat then (unsigned c.ew hi, 1) else (unsigned c.ew lo, 0))
      else (unsigned c.ew ((a i).tdiv (b i)), 0)
    let rem (i : Nat) : Nat × Nat :=
      if b i = 0 then (c.elem o.ws1 i, 2) else (unsigned c.ew ((a i).tmod (b i)), 0)
    Runs (.vdiv o) s (fun t => VecResult s t o.core o.wd o.pm o.pg (quo false))
      ∧ Runs (.vdivs o) s (fun t => VecResult s t o.core o.wd o.pm o.pg (quo true))
      ∧ Runs (.vrem o) s (fun t => VecResult s t o.core o.wd o.pm o.pg rem)

/-- VADDS and VSUBS (R151), VMULHR, VSRAR_I, VSRAR_V and VNCLIP_I (R157, R158): the exact value, rounded by RND, held in EW
bits, with VSAT where it is clamped.  VNEG, VNEGS, VABS, VABSS, VNOT, VCLZ, VCPOP, VFNEG, VFABS, VCONJ and VCONJS (R149, R173): the
negative and the magnitude wrapped or held in EW bits, every bit inverted, leading zeros, set bits, the sign bit of a
floating-point element, and the imaginary part negated. -/
def Obligations.VxSaturatingAndUnary : Prop :=
  (∀ (o : VV) (r : BitVec 2) (s : State),
    let c := s.core o.core
    let a (i : Nat) : Int := c.selem o.ws1 i
    let b (i : Nat) : Int := c.selem o.ws2 i
    let holds (f : Nat → Int) (t : State) : Prop :=
      VecResult s t o.core o.wd o.pm o.pg (fun i => saturated c.ew (f i))
    (VecReady s o.core (·.okVV ewAll o true) →
      Runs (.vadds o) s (holds fun i => a i + b i)
        ∧ Runs (.vsubs o) s (holds fun i => a i - b i)
        ∧ (r ≠ 3#2 → Runs (.vsrarV o r) s (holds fun i =>
            if 0 ≤ b i then rnd (a i) (b i).toNat r.toNat else a i * 2 ^ (-(b i)).toNat)))
    ∧ (VecReady s o.core (·.okVV [16, 32] o true) → r ≠ 3#2 →
      Runs (.vmulhr o r) s (holds fun i => rnd (a i * b i) (c.ew - 1) r.toNat))
    ∧ (VecReady s o.core (·.okVV ewAll o false) → r ≠ 3#2 →
      Runs (.vsrarI o r) s (holds fun i => rnd (a i) o.ws2.toNat r.toNat))
    ∧ (VecReady s o.core (fun c => !c.vill && has [8, 16, 32] c.ew && decide (c.g ≤ 4) && okPred o.pm o.pg c.g
        && okReg o.wd.toNat c.g && okReg o.ws1.toNat (2 * c.g)) → r ≠ 3#2 →
      Runs (.vnclipI o r) s (holds fun i =>
        rnd (signed (2 * c.ew) (elemOf (c.wide o.ws1.toNat (2 * c.g)) (2 * c.ew) i)) o.ws2.toNat r.toNat)))
  ∧ (∀ (o : VU) (s : State),
    let ok (ews : List Nat) (c : Core) : Bool :=
      !c.vill && has ews c.ew && okPred o.pm o.pg c.g && okReg o.wd.toNat c.g && okReg o.ws1.toNat c.g
    let c := s.core o.core
    let a (i : Nat) : Int := c.selem o.ws1 i
    let u (i : Nat) : Nat := c.elem o.ws1 i
    let done (f : Nat → Nat × Nat) (t : State) : Prop := VecResult s t o.core o.wd o.pm o.pg f
    (VecReady s o.core (ok ewAll) →
      Runs (.vneg o) s (done fun i => (unsigned c.ew (-(a i)), 0))
        ∧ Runs (.vnegs o) s (done fun i => saturated c.ew (-(a i)))
        ∧ Runs (.vabs o) s (done fun i => (unsigned c.ew (a i).natAbs, 0))
        ∧ Runs (.vabss o) s (done fun i => saturated c.ew (a i).natAbs)
        ∧ Runs (.vnot o) s (done fun i => (2 ^ c.ew - 1 - u i, 0))
        ∧ Runs (.vclz o) s (done fun i => (if u i = 0 then c.ew else c.ew - 1 - Nat.log2 (u i), 0))
        ∧ Runs (.vcpop o) s (done fun i => (((List.range c.ew).filter fun k => (u i).testBit k).length, 0)))
    ∧ (VecReady s o.core (ok ewFloat) →
      Runs (.vfneg o) s (done fun i => (u i ^^^ 2 ^ (c.ew - 1), 0))
        ∧ Runs (.vfabs o) s (done fun i => (u i % 2 ^ (c.ew - 1), 0)))
    ∧ (VecReady s o.core (ok [32]) →
      Runs (.vconj o) s (done fun i => (u i % 65536 + 65536 * unsigned 16 (-(signed 16 (u i / 65536))), 0))
        ∧ Runs (.vconjs o) s (done fun i =>
          (u i % 65536 + 65536 * (saturated 16 (-(signed 16 (u i / 65536)))).1, (saturated 16 (-(signed 16 (u i / 65536)))).2))))

/-- VCMULR, VCMACR and VCMULCR (R159): both parts of the complex product, of ws1 with ws2 or its conjugate, rounded at bit 15
and held in 16 bits each, VCMACR after the addition of the destination; VSAT where a part is clamped. -/
def Obligations.VxComplex : Prop :=
  ∀ (o : VV) (r : BitVec 2) (s : State), VecReady s o.core (·.okVV [32] o true) → r ≠ 3#2 →
    let c := s.core o.core
    let re (w : BitVec 5) (i : Nat) : Int := signed 16 (c.elem w i)
    let im (w : BitVec 5) (i : Nat) : Int := signed 16 (c.elem w i / 65536)
    let product (conj : Int) (i : Nat) : Int × Int :=
      (rnd (re o.ws1 i * re o.ws2 i - im o.ws1 i * (conj * im o.ws2 i)) 15 r.toNat,
        rnd (re o.ws1 i * (conj * im o.ws2 i) + im o.ws1 i * re o.ws2 i) 15 r.toNat)
    let pair (x y : Int) : Nat × Nat :=
      ((saturated 16 x).1 + 65536 * (saturated 16 y).1, (saturated 16 x).2 ||| (saturated 16 y).2)
    let done (f : Nat → Nat × Nat) (t : State) : Prop := VecResult s t o.core o.wd o.pm o.pg f
    Runs (.vcmulr o r) s (done fun i => pair (product 1 i).1 (product 1 i).2)
      ∧ Runs (.vcmulcr o r) s (done fun i => pair (product (-1) i).1 (product (-1) i).2)
      ∧ Runs (.vcmacr o r) s (done fun i => pair (re o.wd i + (product 1 i).1) (im o.wd i + (product 1 i).2))

/-- The floating-point instructions (R160–R162): VFADD, VFSUB, VFMUL, VFDIV, VFMA, VFNMS, VFMIN and VFMAX on binary16 and
binary32, VFCMUL and VFCMAC on pairs of binary32, and the conversions, by the operations of the element format under FRM and
FTZ, with the flags those give.  The block-floating instructions (R163, R164): VBFEXP writes max(0, b − m) and m for each block of
24 elements that lies partly below VL, b the fewest signed bits that hold its active elements; VBFNORM rounds by the block's
exponent and holds the result in m bits; VBFDEN scales back and holds it in 16 bits. -/
def Obligations.VxFloat : Prop :=
  (∀ (o : VV) (u : VU) (s : State),
    let c := s.core o.core
    let x (i : Nat) : Nat := c.elem o.ws1 i
    let y (i : Nat) : Nat := c.elem o.ws2 i
    let z (i : Nat) : Nat := c.elem o.wd i
    let done (f : Nat → Nat × Nat) (t : State) : Prop := VecResult s t o.core o.wd o.pm o.pg f
    let re (v : Nat) : FV := (fmtOf 32).read c.ftz (v % 4294967296)
    let im (v : Nat) : FV := (fmtOf 32).read c.ftz (v / 4294967296)
    let part (p q : FV × Bool) (acc : List FV) : Nat × Nat := (fmtOf 32).sum c.frm c.ftz (p.2 || q.2) ([p.1, q.1] ++ acc)
    let minus (p : FV × Bool) : FV × Bool := (p.1.neg, p.2)
    let pair (p q : Nat × Nat) : Nat × Nat := (p.1 + 4294967296 * q.1, p.2 ||| q.2)
    let product (i : Nat) (ar ai : List FV) : Nat × Nat :=
      pair (part ((re (x i)).mul (re (y i))) (minus ((im (x i)).mul (im (y i)))) ar)
        (part ((re (x i)).mul (im (y i))) ((im (x i)).mul (re (y i))) ai)
    (VecReady s o.core (·.okVV ewFloat o true) →
      Runs (.vfadd o) s (done fun i => c.fmt.add c.frm c.ftz (x i) (y i))
        ∧ Runs (.vfsub o) s (done fun i => c.fmt.sub c.frm c.ftz (x i) (y i))
        ∧ Runs (.vfmul o) s (done fun i => c.fmt.mul c.frm c.ftz (x i) (y i))
        ∧ Runs (.vfdiv o) s (done fun i => c.fmt.div c.frm c.ftz (x i) (y i))
        ∧ Runs (.vfma o) s (done fun i => c.fmt.fma c.frm c.ftz false (x i) (y i) (z i))
        ∧ Runs (.vfnms o) s (done fun i => c.fmt.fma c.frm c.ftz true (x i) (y i) (z i))
        ∧ Runs (.vfmin o) s (done fun i => c.fmt.minmax c.ftz false (x i) (y i))
        ∧ Runs (.vfmax o) s (done fun i => c.fmt.minmax c.ftz true (x i) (y i)))
    ∧ (VecReady s o.core (·.okVV [64] o true) →
      Runs (.vfcmul o) s (done fun i => product i [] [])
        ∧ Runs (.vfcmac o) s (done fun i => product i [re (z i)] [im (z i)]))
    ∧ (VecReady s u.core (fun c => !c.vill && has ewFloat c.ew && okPred u.pm u.pg c.g && okReg u.wd.toNat c.g
        && okReg u.ws1.toNat c.g) →
      let d := s.core u.core
      let one (f : Nat → Nat × Nat) (t : State) : Prop := VecResult s t u.core u.wd u.pm u.pg f
      Runs (.vfcvtFX u) s (one fun i => d.fmt.ofInt d.frm d.ftz (d.selem u.ws1 i))
        ∧ Runs (.vfcvtXF u) s (one fun i => d.fmt.toInt d.frm d.ftz (d.elem u.ws1 i))
        ∧ Runs (.vfcvtXFRtz u) s (one fun i => d.fmt.toInt 1 d.ftz (d.elem u.ws1 i))))
  ∧ (∀ (o : VV) (r : BitVec 2) (s : State),
    let c := s.core o.core
    let a (i : Nat) : Int := c.selem o.ws1 i
    let e (i : Nat) : Nat := c.elem o.ws2 (i / 24) % 32
    let m (i : Nat) : Nat := let n := c.elem o.ws2 (i / 24) / 256 % 32; if 2 ≤ n ∧ n ≤ 16 then n else 16
    let blockMax (k : Nat) : Nat :=
      ((c.actives o.pm o.pg).filter (fun i => decide (i / 24 = k))).foldl (fun b i => max b (signedBits (a i))) 1
    let exponent (k : Nat) : Nat :=
      (if (c.actives o.pm o.pg).any (fun i => decide (i / 24 = k)) then blockMax k - o.ws2.toNat else 0) + 256 * o.ws2.toNat
    (VecReady s o.core (fun c => c.okVV [16] o true && !groupsMeet o.wd.toNat c.g o.ws2.toNat c.g) →
      (r ≠ 3#2 → Runs (.vbfnorm o r) s (fun t => VecResult s t o.core o.wd o.pm o.pg (fun i =>
        (unsigned 16 (clamp (rnd (a i) (e i) r.toNat) (-(2 ^ (m i - 1))) (2 ^ (m i - 1) - 1)),
          (saturated (m i) (rnd (a i) (e i) r.toNat)).2))))
      ∧ Runs (.vbfden o) s (fun t => VecResult s t o.core o.wd o.pm o.pg (fun i => saturated 16 (a i * 2 ^ e i))))
    ∧ (VecReady s o.core (fun c => c.okVV [16] o false && decide (2 ≤ o.ws2.toNat ∧ o.ws2.toNat ≤ 16)
        && !groupsMeet o.wd.toNat c.g o.ws1.toNat c.g) →
      Runs (.vbfexp o) s (fun t => OnlyCore s t o.core ∧ c.passed (t.core o.core)
        ∧ (t.core o.core).vstatus = c.vstatus
        ∧ ∀ k, k < c.vlmax → (t.core o.core).elem o.wd k =
          if (c.vl + 23) / 24 ≤ k then (if c.tz then 0 else c.elem o.wd k)
          else if k < c.vri then c.elem o.wd k else exponent k)))

/-- VSEL, VPERM, VSLIDEDN_I and VSLIDEUP_I (R166): a selection by the predicate, an element by the index in ws2 with 0 from
VL upwards, an element further up with 0 from VL upwards, and an element further down, where those below the distance
stay. -/
def Obligations.VxPermute : Prop :=
  ∀ (o : VV) (s : State),
    let c := s.core o.core
    let x (i : Nat) : Nat := c.elem o.ws1 i
    let k := o.ws2.toNat
    (VecReady s o.core (fun c => c.okVV ewAll o true && o.pm) →
      Runs (.vsel o) s (fun t => VecResult s t o.core o.wd false 0#3
        (fun i => (if c.active true o.pg i then x i else c.elem o.ws2 i, 0))))
    ∧ (VecReady s o.core (fun c => c.okVV ewAll o true && decide (c.vri = 0) && !groupsMeet o.wd.toNat c.g o.ws1.toNat c.g
        && !groupsMeet o.wd.toNat c.g o.ws2.toNat c.g) →
      Runs (.vperm o) s (fun t => VecResult s t o.core o.wd o.pm o.pg
        (fun i => (if c.elem o.ws2 i < c.vl then x (c.elem o.ws2 i) else 0, 0))))
    ∧ (VecReady s o.core (fun c => c.okVV ewAll o false && decide (c.vri = 0)
        && !groupsMeet o.wd.toNat c.g o.ws1.toNat c.g) →
      Runs (.vslidednI o) s (fun t => VecResult s t o.core o.wd o.pm o.pg (fun i => (if i + k < c.vl then x (i + k) else 0, 0)))
      ∧ Runs (.vslideupI o) s (fun t => OnlyCore s t o.core ∧ c.passed (t.core o.core)
        ∧ (t.core o.core).vstatus = c.vstatus
        ∧ ∀ i, i < c.vlmax → (t.core o.core).elem o.wd i =
          if c.vl ≤ i then (if c.tz then 0 else c.elem o.wd i)
          else if i < k then c.elem o.wd i
          else if c.active o.pm o.pg i then x (i - k)
          else if c.mz then 0 else c.elem o.wd i))

/-- VCMP, VCMPU and VFCMP (R165): the conditions that each COND names.  The reductions (R149, R167): sums
that wrap or saturate once, complex sums per component, the largest and the smallest element, and their floating-point forms,
VFREDSUM along the fixed tree. -/
def Obligations.VxCompareAndReduce : Prop :=
  (∀ (o : VC) (s : State),
    let ok (ews : List Nat) (c : Core) : Bool :=
      !c.vill && has ews c.ew && okPred o.pm o.pg c.g && decide (o.pd.toNat % c.g = 0) && okReg o.ws1.toNat c.g
        && okReg o.ws2.toNat c.g && decide (c.vri = 0)
    let c := s.core o.core
    let a (i : Nat) : Int := c.selem o.ws1 i
    let b (i : Nat) : Int := c.selem o.ws2 i
    let x (i : Nat) : Nat := c.elem o.ws1 i
    let y (i : Nat) : Nat := c.elem o.ws2 i
    let plain (f : Nat → Bool) (t : State) : Prop := CompareResult s t o (fun i => (f i, 0))
    (VecReady s o.core (ok ewAll) →
      (o.cond = 0#2 → Runs (.vcmp o) s (plain fun i => decide (x i = y i)) ∧ Runs (.vcmpu o) s (plain fun i => decide (x i < y i)))
      ∧ (o.cond = 1#2 → Runs (.vcmp o) s (plain fun i => decide (x i ≠ y i)) ∧ Runs (.vcmpu o) s (plain fun i => decide (x i ≤ y i)))
      ∧ (o.cond = 2#2 → Runs (.vcmp o) s (plain fun i => decide (a i < b i)))
      ∧ (o.cond = 3#2 → Runs (.vcmp o) s (plain fun i => decide (a i ≤ b i))))
    ∧ (VecReady s o.core (ok ewFloat) →
      Runs (.vfcmp o) s (fun t => CompareResult s t o (fun i => c.fmt.cmp c.ftz o.cond.toNat (x i) (y i)))))
  ∧ (∀ (o : VU) (s : State),
    let ok (ews : List Nat) (c : Core) : Bool :=
      !c.vill && has ews c.ew && okPred o.pm o.pg c.g && okReg o.wd.toNat c.g && okReg o.ws1.toNat c.g && decide (c.vri = 0)
    let c := s.core o.core
    let act := c.actives o.pm o.pg
    let a (i : Nat) : Int := c.selem o.ws1 i
    let part (k : Nat) (i : Nat) : Int := signed 16 (c.elem o.ws1 i / 65536 ^ k)
    let u (i : Nat) : Nat := c.elem o.ws1 i
    let done (v : Nat × Nat) (t : State) : Prop := ReduceResult s t o v
    let sum (f : Nat → Int) : Int := (act.map f).sum
    let tree : List (Option Nat) := (List.range c.vl).map (fun i => if c.active o.pm o.pg i then some (u i) else none)
    (VecReady s o.core (ok ewAll) →
      Runs (.vredsum o) s (done (unsigned c.ew (sum a), 0))
        ∧ Runs (.vredsums o) s (done (saturated c.ew (sum a)))
        ∧ Runs (.vredmax o) s (done (unsigned c.ew ((act.map a).foldl max (a (act.headD 0))), 0))
        ∧ Runs (.vredmin o) s (done (unsigned c.ew ((act.map a).foldl min (a (act.headD 0))), 0)))
    ∧ (VecReady s o.core (ok [32]) →
      Runs (.vredcsums o) s (done ((saturated 16 (sum (part 0))).1 + 65536 * (saturated 16 (sum (part 1))).1,
        (saturated 16 (sum (part 0))).2 ||| (saturated 16 (sum (part 1))).2)))
    ∧ (VecReady s o.core (ok ewFloat) →
      Runs (.vfredsum o) s (done (c.canon (treeSum (fun x y => c.fmt.add c.frm c.ftz x y) 11 tree)))
        ∧ Runs (.vfredmax o) s (done (foldElems (fun x y => c.fmt.minmax c.ftz true x y) tree))
        ∧ Runs (.vfredmin o) s (done (foldElems (fun x y => c.fmt.minmax c.ftz false x y) tree))))

/-- Configuration (R112, R113, R169, Table 04-4): VSETVLI and VSETVL set VCFG and VL = min(request, VLMAX), x0 requesting
VLMAX, and write VL to rd; a reserved configuration sets VILL and VL 0; a write of VL_W or VCFG_W at level S sets them, VL_W
above VLMAX setting VILL, and leaves VRI, as every CSR access.  Moves and predicate instructions (R170): VMV_V_X, VMV_V_V, VMV_X_V, VPAND, VPOR, VPXOR, VPANDN, VPCNT,
VPFIRST and VPVL, which after a resume leave the elements below VRI out (R122). -/
def Obligations.VxConfigurationAndMoves : Prop :=
  (∀ (core : Nat) (rd rs1 rs2 : BitVec 5) (zimm : BitVec 11) (s : State),
    let c := s.core core
    let v := c.xr rs1
    let good (w : BitVec 64) : Prop := bits w.toNat 63 10 = 0 ∧ bits w.toNat 8 6 < 5
    let lmax (w : BitVec 64) : Nat := 2048 * 2 ^ bits w.toNat 3 2 / (8 * 2 ^ bits w.toNat 1 0)
    let set (w : BitVec 64) (n : Nat) (t : State) : Prop :=
      OnlyCore s t core ∧ (t.core core).vcfg = w ∧ (t.core core).vl = n ∧ c.went (t.core core) 4
        ∧ (∀ r, (t.core core).xr r = if r = rd ∧ r ≠ 0#5 then BitVec.ofNat 64 n else c.xr r)
        ∧ { c.wentBack (t.core core) with vcfg := c.vcfg, vl := c.vl, x := c.x } = c
    let wrote (w : BitVec 64) (n : Nat) (t : State) : Prop :=
      OnlyCore s t core ∧ t.core core = { c.count with vcfg := w, vl := n, pc := c.pc + 4#64 }
    let vill : BitVec 64 := 0x8000000000000000#64
    let wi := BitVec.ofNat 64 zimm.toNat
    let wr := c.xr rs2
    let len (w : BitVec 64) : Nat := if rs1 = 0#5 then lmax w else min (c.xr rs1).toNat (lmax w)
    s.fetches core 4 →
      (good wi → Runs (.vsetvli core rd rs1 zimm) s (set wi (len wi)))
      ∧ (¬good wi → Runs (.vsetvli core rd rs1 zimm) s (set vill 0))
      ∧ (good wr → Runs (.vsetvl core rd rs1 rs2) s (set wr (len wr)))
      ∧ (¬good wr → Runs (.vsetvl core rd rs1 rs2) s (set vill 0))
      ∧ (c.priv ≠ .u → (good v → Runs (.vcfgWWrite core rs1) s (wrote v c.vl))
        ∧ (¬good v → Runs (.vcfgWWrite core rs1) s (wrote vill 0))
        ∧ (c.vill = false → v.toNat ≤ c.vlmax → Runs (.vlWWrite core rs1) s (wrote c.vcfg v.toNat))
        ∧ (c.vlmax < v.toNat → Runs (.vlWWrite core rs1) s (wrote vill 0))))
  ∧ (∀ (core : Nat) (a b d : BitVec 5) (s : State),
    let c := s.core core
    let reg (v : BitVec 64) (t : State) : Prop := OnlyCore s t core ∧ c.passedReg (t.core core) a v
    let preds (v : Nat) (t : State) : Prop := OnlyCore s t core ∧ c.passedPred (t.core core)
      ∧ (t.core core).vstatus = c.vstatus ∧ (t.core core).preds a.toNat c.g = v
      ∧ ∀ r, r < a.toNat ∨ a.toNat + c.g ≤ r → Tab.get 0#256 (t.core core).p r = Tab.get 0#256 c.p r
    let keep (v : Nat) : Nat :=
      v / 2 ^ (c.vri * (c.ew / 8)) * 2 ^ (c.vri * (c.ew / 8)) + c.preds a.toNat c.g % 2 ^ (c.vri * (c.ew / 8))
    let marked : List Nat := (List.range c.vl).filter (fun i => decide (c.vri ≤ i) && bit (c.preds b.toNat c.g) (i * (c.ew / 8)))
    (VecReady s core (fun c => !c.vill && okReg a.toNat c.g) →
      Runs (.vmvVX core a b) s (fun t => VecResult s t core a false 0#3 (fun _ => ((c.xr b).toNat, 0))))
    ∧ (VecReady s core (fun c => !c.vill && okReg a.toNat c.g && okReg b.toNat c.g) →
      Runs (.vmvVV core a b) s (fun t => VecResult s t core a false 0#3 (fun i => (c.elem b i, 0))))
    ∧ (VecReady s core (fun c => !c.vill && okReg b.toNat c.g) →
      Runs (.vmvXV core a b d) s (reg (if (c.xr d).toNat < c.vlmax then BitVec.ofInt 64 (c.selem b (c.xr d).toNat) else 0#64)))
    ∧ (VecReady s core (fun c => !c.vill && c.okP b) →
      Runs (.vpcnt core a b) s (reg (BitVec.ofNat 64 marked.length))
        ∧ Runs (.vpfirst core a b) s (reg (match marked with | [] => -1#64 | i :: _ => BitVec.ofNat 64 i)))
    ∧ (s.fetches core 4 → c.vill = false → c.okP a = true → c.okP b = true → c.okP d = true →
      let x := c.preds b.toNat c.g
      let y := c.preds d.toNat c.g
      Runs (.vpand core a b d) s (preds (keep (x &&& y))) ∧ Runs (.vpor core a b d) s (preds (keep (x ||| y)))
        ∧ Runs (.vpxor core a b d) s (preds (keep (x ^^^ y))) ∧ Runs (.vpandn core a b d) s (preds (keep (x - (x &&& y)))))
    ∧ (VecReady s core (fun c => !c.vill && c.okP a) →
      Runs (.vpvl core a b) s (preds (keep (2 ^ (min (c.xr b).toNat c.vlmax * (c.ew / 8)) - 1)))))

/-- What stops an element-wise instruction (R111, R112, R147): a core that fetches it and whose VCFG is invalid, whose element width, or
whose register or predicate numbers, the instruction does not take, raises an illegal-instruction exception (cause 2): mepc
(or sepc where it is delegated) takes the pc; the wide registers, VL, VCFG and VSTATUS stay.  With VL 0 an instruction
whose checks pass moves on and changes no register (R113).  The checks of a coprocessor instruction (R127–R129): one that CPEN
does not enable at the core's level is an illegal instruction; the first use of one traps to level M with cause 24 and is
counted. -/
def Obligations.VxStopped : Prop :=
  (∀ (o : VV) (s : State), s.fetches o.core 4 →
    let c := s.core o.core
    let stopped (t : State) : Prop :=
      let d := t.core o.core
      let deleg := c.delegated false 2
      d.csrOf (if deleg then 0x141 else 0x341) = c.pc ∧ d.csrOf (if deleg then 0x142 else 0x342) = 2#64
        ∧ d.priv = (if deleg then .s else .m) ∧ d.vri = 0
        ∧ d.pc = (c.csrOf (if deleg then 0x105 else 0x305)) &&& 0xFFFFFFFFFFFFFFFC#64
        ∧ d.w = c.w ∧ d.p = c.p ∧ d.x = c.x ∧ d.vl = c.vl ∧ d.vcfg = c.vcfg ∧ d.vstatus = c.vstatus
        ∧ ∀ x, x ≠ o.core → t.core x = s.core x
    let passes (t : State) : Prop := OnlyCore s t o.core ∧ c.passedOnly (t.core o.core)
    (c.okVV ewAll o true = false → Runs (.vadd o) s stopped ∧ Runs (.vmul o) s stopped ∧ Runs (.vand o) s stopped
      ∧ Runs (.vdiv o) s stopped ∧ Runs (.vsll o) s stopped)
    ∧ (c.okVV ewFloat o true = false → Runs (.vfadd o) s stopped ∧ Runs (.vfma o) s stopped)
    ∧ (c.okVV ewAll o true = true → c.vl = 0 → Runs (.vadd o) s passes ∧ Runs (.vmul o) s passes ∧ Runs (.vand o) s passes
      ∧ Runs (.vdiv o) s passes ∧ Runs (.vsll o) s passes))
  ∧ (∀ (core : Nat) (a b d : BitVec 5) (cpn : BitVec 2) (s : State),
    let c := s.core core
    let n := cpn.toNat
    s.fetches core 4 → n < 3 →
    (c.cpEnabled n = false →
      Runs (.vcpMvto core a b d cpn) s (fun t => Trapped c (t.core core) false 2 (cpWord 2 n a b d))
        ∧ Runs (.vcpMvfrom core a b d cpn) s (fun t => Trapped c (t.core core) false 2 (cpWord 3 n a b d))
        ∧ Runs (.vcpClear core a b d cpn) s (fun t => Trapped c (t.core core) false 2 (cpWord 4 n a b d)))
    ∧ (c.cpEnabled n = true → c.firstUse n = true → a.toNat < cpRegs n →
      Runs (.vcpMvto core a b d cpn) s (fun t => Trapped c (t.core core) false 24 (BitVec.ofNat 64 n) ∧ (t.core core).priv = .m
        ∧ t.num (if n = 0 then OD.firstUseCp0 else OD.firstUseCp1)
          = min (if n = 0 then OD.firstUseCp0 else OD.firstUseCp1).hi (s.num (if n = 0 then OD.firstUseCp0 else OD.firstUseCp1) + 1))))

/-! ## Vector memory, coprocessors, traps and slugs of a core -/

/-- The vector loads (R114, R121–R125, R168), where every active element from VRI on lies in the core's own local memory:
unit-stride and segment forms step by NF elements, the strided ones by rs2, the indexed one by the element of wi. -/
def Obligations.VxLoads : Prop :=
  ∀ (m : VMem) (s : State),
    let c := s.core m.core
    let run (i : Nat) : BitVec 64 := BitVec.ofNat 64 (i * m.nf * (c.ew / 8))
    let strided (i : Nat) : BitVec 64 := BitVec.ofNat 64 i * c.xr m.x
    let indexed (i : Nat) : BitVec 64 := BitVec.ofNat 64 (elemOf (c.group m.x) c.ew i * (c.ew / 8))
    (MemReady s .le m run 0 → Runs (.vle m) s (fun t => Loaded s t m run))
      ∧ (MemReady s .leff m run 0 → Runs (.vleff m) s (fun t => Loaded s t m run))
      ∧ (MemReady s .lseg m run 0 → Runs (.vlseg m) s (fun t => Loaded s t m run))
      ∧ (MemReady s .lsegff m run 0 → Runs (.vlsegff m) s (fun t => Loaded s t m run))
      ∧ (MemReady s .lse m strided 0 → Runs (.vlse m) s (fun t => Loaded s t m strided))
      ∧ (MemReady s .lsseg m strided 0 → Runs (.vlsseg m) s (fun t => Loaded s t m strided))
      ∧ (MemReady s .lxe m indexed 0 → Runs (.vlxe m) s (fun t => Loaded s t m indexed))

/-- The vector stores (R121–R123, R125, R134, R168), where every active element from VRI on lies in the core's own local
memory: the bytes of each element at its address, every other byte of memory as before. -/
def Obligations.VxStores : Prop :=
  ∀ (m : VMem) (s : State), m.core < 96 →
    let c := s.core m.core
    let run (i : Nat) : BitVec 64 := BitVec.ofNat 64 (i * m.nf * (c.ew / 8))
    let strided (i : Nat) : BitVec 64 := BitVec.ofNat 64 i * c.xr m.x
    let indexed (i : Nat) : BitVec 64 := BitVec.ofNat 64 (elemOf (c.group m.x) c.ew i * (c.ew / 8))
    (MemReady s .se m run 1 → Runs (.vse m) s (fun t => Stored s t m run))
      ∧ (MemReady s .sseg m run 1 → Runs (.vsseg m) s (fun t => Stored s t m run))
      ∧ (MemReady s .sse m strided 1 → Runs (.vsse m) s (fun t => Stored s t m strided))
      ∧ (MemReady s .ssseg m strided 1 → Runs (.vssseg m) s (fun t => Stored s t m strided))
      ∧ (MemReady s .sxe m indexed 1 → Runs (.vsxe m) s (fun t => Stored s t m indexed))

/-- Coprocessor moves, clear and the operations of CP0 and CP1 (R126, R171, R172).  An operation leaves its coprocessor busy
until CP_OP_COMPLETE; the sequences of CP0 are those of the step of 3GPP TS 38.211, taken 1,600, 2,048 or s[B][31:0]
times.  A TRELLIS runs 64 stages; state 0 ends at metric 0, to which each stage normalises, and the conventions of a stage that
the spec leaves open are free.  The layouts of SCTL and BCTL are the model's (assumption log 35). -/
def Obligations.VxCoprocessors : Prop :=
  ∀ (core : Nat) (a b d : BitVec 5) (cpn : BitVec 2) (s : State),
    let c := s.core core
    let n := cpn.toNat
    let kept (e : Core) : Prop := { c.wentBack e with cp0 := c.cp0, cp1 := c.cp1, cp2 := c.cp2 } = c ∧ c.went e 4
    let busy (e : Core) (k : Nat) : Core :=
      { e.count with cpbusy := BitVec.ofNat 64 (c.cpbusy.toNat + 2 ^ k), pc := c.pc + 4#64, vri := 0 }
    let word (r : BitVec 5) (v : Nat) : Core :=
      { c with w := Tab.put 0#2048 c.w r.toNat (BitVec.ofNat 2048 v) }
    let gold (k : Nat) : BitVec 64 := sctlOf (lfsrRun tapsX1 k (sctlX1 c.sctl)) (lfsrRun tapsX2 k (sctlX2 c.sctl))
    let seed := bits (c.cpReg 0 b.toNat) 30 0
    let acc := bits c.bctl.toNat 23 0
    let code := bits c.bctl.toNat 34 32
    (CpReady s core n → a.toNat < cpRegs n →
      Runs (.vcpMvto core a b d cpn) s (fun t => OnlyCore s t core ∧ kept (t.core core)
          ∧ c.cpWrote (t.core core) n a.toNat (c.wreg b).toNat)
        ∧ Runs (.vcpMvfrom core a b d cpn) s (fun t => OnlyCore s t core
          ∧ t.core core = { (word d (c.cpReg n a.toNat)).count with pc := c.pc + 4#64, vri := 0 }))
    ∧ (CpReady s core n → Runs (.vcpClear core a b d cpn) s (fun t => OnlyCore s t core
        ∧ (∀ m q, m < 3 → (t.core core).cpReg m q = if m = n then 0 else c.cpReg m q)
        ∧ (t.core core).sctl = (if n = 0 then 0#64 else c.sctl) ∧ (t.core core).bctl = (if n = 1 then 0#64 else c.bctl)
        ∧ kept { t.core core with sctl := c.sctl, bctl := c.bctl }))
    ∧ (CpReady s core 0 →
      Runs (.cp0Gold core b d) s (fun t => OnlyCore s t core
          ∧ t.core core = busy { word d (goldBits 2048 (sctlX1 c.sctl) (sctlX2 c.sctl)) with sctl := gold 2048 } 0)
        ∧ (b.toNat < 8 →
          Runs (.cp0Ginit core b d) s (fun t => OnlyCore s t core
            ∧ t.core core = busy { c with sctl := sctlOf (lfsrRun tapsX1 1600 1) (lfsrRun tapsX2 1600 seed) } 0)
          ∧ Runs (.cp0Gskip core b d) s (fun t => OnlyCore s t core
            ∧ t.core core = busy { c with sctl := gold (bits (c.cpReg 0 b.toNat) 31 0) } 0)
          ∧ (bits (c.cpReg 0 b.toNat) 31 16 ≠ 0 →
            let p := c.cpReg 0 b.toNat
            Runs (.cp0Zc core b d) s (fun t => Frame [.vx, .freeCtr] [] s t ∧ (∀ x, x ≠ core → t.core x = s.core x)
              ∧ ∃ v : BitVec 2048, t.core core = busy (word d v.toNat) 0
                ∧ ∀ j, j < 64 → elemOf v.toNat 32 j = zcElem (bits p 15 0) (bits p 31 16) ((bits p 47 32 + j) % bits p 31 16)))))
    ∧ (CpReady s core 1 →
      (b.toNat < 16 →
        Runs (.cp1Crcsel core b d) s (fun t => OnlyCore s t core
          ∧ t.core core = busy { c with bctl := bctlOf (bits (c.cpReg 1 b.toNat) 2 0) 0 } 1)
        ∧ (∀ w g, crcPoly code = some (w, g) → Runs (.cp1Crc core b d) s (fun t =>
          Frame [.vx, .freeCtr] [] s t ∧ (∀ x, x ≠ core → t.core x = s.core x)
          ∧ t.core core = busy { c with bctl := bctlOf code (crcRun w g 256 (c.cpReg 1 b.toNat) acc) } 1)))
      ∧ (d.toNat < 16 → Runs (.cp1Crcget core b d) s (fun t => OnlyCore s t core
          ∧ c.cpWrote (t.core core) 1 d.toNat acc ∧ bit (t.core core).cpbusy.toNat 1 = true
          ∧ kept { t.core core with cpbusy := c.cpbusy }))
      ∧ (b.toNat + 3 < 16 → d.toNat + 2 < 16 → Runs (.cp1Trellis core b d) s (fun t => OnlyCore s t core
          ∧ t.core core = busy (c.trellis b.toNat d.toNat) 1 ∧ (t.core core).cpReg 1 d.toNat % 2 ^ 16 = 0
          ∧ (t.core core).cpReg 1 d.toNat / 2 ^ 128 = c.cpReg 1 d.toNat / 2 ^ 128
          ∧ (∀ m q, m < 3 → ¬(m = 1 ∧ d.toNat ≤ q ∧ q ≤ d.toNat + 2) → (t.core core).cpReg m q = c.cpReg m q)
          ∧ bit (t.core core).cpbusy.toNat 1 = true ∧ kept { t.core core with cpbusy := c.cpbusy })))

/-- The skip of the sequences of CP0 by a power of x is that many single steps of their recurrences, for every count a GSKIP
can ask for (R172). -/
def Obligations.GoldSkipIsSteps : Prop :=
  ∀ (k x : Nat), k < 2 ^ 32 → x < 2 ^ 31 →
    lfsrSkip tapsX1 k x = lfsrRun tapsX1 k x ∧ lfsrSkip tapsX2 k x = lfsrRun tapsX2 k x

/-- The operations of CP2 (R126, R172): every element of f[C], whatever VL holds, from f[B] (and f[B+1] under ATAN2): the quiet
NaN for a NaN or an invalid operand, otherwise the value `Fmt.cp2` gives, an open one that its definition
keeps within 2 ulp of the exact value where there is one; NV at completion where an operand is invalid. -/
def Obligations.VxFunctions : Prop :=
  ∀ (core : Nat) (b d : BitVec 5) (s : State), CpReady s core 2 →
    let c := s.core core
    c.vill = false → (c.ew = 16 ∨ c.ew = 32) → d.toNat < 16 →
    let x (i : Nat) : Nat := elemOf (c.cpReg 2 b.toNat) c.ew i
    let y (i : Nat) : Nat := elemOf (c.cpReg 2 (b.toNat + 1)) c.ew i
    let bad (op i : Nat) : Prop := cp2Invalid op (c.fmt.read c.ftz (x i)) = true
      ∨ op = 6 ∧ cp2Invalid op (c.fmt.read c.ftz (y i)) = true
    let nan (op i : Nat) : Prop := (c.fmt.read c.ftz (x i)).isNan = true ∨ op = 6 ∧ (c.fmt.read c.ftz (y i)).isNan = true
    let done (op : Nat) (t : State) : Prop := OnlyCore s t core
      ∧ (∀ i, i < 2048 / c.ew →
        let v := elemOf ((t.core core).cpReg 2 d.toNat) c.ew i
        (bad op i ∨ nan op i → v = c.fmt.qnan)
        ∧ (¬(bad op i ∨ nan op i) → v = c.fmt.cp2 c.ftz op (x i) (y i) % 2 ^ c.ew))
      ∧ ((t.core core).cp2nv = true ↔ ∃ i, i < 2048 / c.ew ∧ bad op i)
      ∧ (∀ m q, m < 3 → ¬(m = 2 ∧ q = d.toNat) → (t.core core).cpReg m q = c.cpReg m q)
      ∧ bit (t.core core).cpbusy.toNat 2 = true ∧ c.went (t.core core) 4
    (b.toNat < 16 → Runs (.cp2Rcp core b d) s (done 0) ∧ Runs (.cp2Rsqrt core b d) s (done 1)
      ∧ Runs (.cp2Log2 core b d) s (done 2) ∧ Runs (.cp2Exp2 core b d) s (done 3) ∧ Runs (.cp2Sin core b d) s (done 4)
      ∧ Runs (.cp2Cos core b d) s (done 5))
    ∧ (b.toNat + 1 < 16 → Runs (.cp2Atan2 core b d) s (done 6))

/-- A completed coprocessor operation, an access to VSTATUS with none in flight, an interrupt between instructions, a return and
a scalar word of each common format (R110, R121–R123, R128, R145, R153). -/
def Obligations.VxTrapsAndScalars : Prop :=
  ∀ (core : Nat) (s : State),
    let c := s.core core
    let next (e : Core) (t : State) : Prop := OnlyCore s t core ∧ t.core core = e
    (∀ n, n < 3 → bit c.cpbusy.toNat n = true → Runs (.cpOpComplete core n) s (fun t => OnlyCore s t core
      ∧ (∀ k, k < 64 → (t.core core).cpbusy.getLsbD k = (c.cpbusy.getLsbD k && decide (k ≠ n)))
      ∧ (t.core core).vstatus = (if n = 2 ∧ c.cp2nv = true then c.vstatus ||| BitVec.ofNat 64 fNV else c.vstatus)))
    ∧ (∀ (rd src : BitVec 5) (f : CsrOp), s.fetches core 4 → bits c.cpbusy.toNat 2 0 = 0 →
      Runs (.vstatusAccess core rd f src) s (fun t => OnlyCore s t core
        ∧ (∀ r, (t.core core).xr r = if r = rd ∧ r ≠ 0#5 then c.vstatus else c.xr r)
        ∧ (t.core core).vstatus = (match csrNew f c.vstatus (c.csrSrc f src) (decide (src = 0#5)) with
            | some v => v &&& 0x7F#64
            | none => c.vstatus)
        ∧ { t.core core with x := c.x, vstatus := c.vstatus, pc := c.pc, instret := c.instret } = c
        ∧ (t.core core).pc = c.pc + 4#64 ∧ (t.core core).instret = c.count.instret))
    ∧ (∀ cause, s.unitAwake 0 core = true → c.halted = false → c.intEnabled cause = true →
      Runs (.interruptTaken core cause none) s (fun t =>
        Trapped { c with waiting := false } (t.core core) true cause 0#64 ∧ ∀ x, x ≠ core → t.core x = s.core x))
    ∧ (s.fetches core 4 → c.priv = .m → Runs (.xret core true) s (fun t => OnlyCore s t core
        ∧ (t.core core).pc = c.csrOf 0x341 ∧ (t.core core).priv = privOf (bits (c.csrOf 0x300).toNat 12 11)
        ∧ (t.core core).vri = c.mvri.toNat ∧ bits ((t.core core).csrOf 0x300).toNat 3 3 = bits (c.csrOf 0x300).toNat 7 7))
    ∧ (s.fetches core 4 → c.mayXret false = true → Runs (.xret core false) s (fun t => OnlyCore s t core
        ∧ (t.core core).pc = c.csrOf 0x141 ∧ (t.core core).priv = (if bit (c.csrOf 0x300).toNat 8 then .s else .u)
        ∧ (t.core core).vri = c.svri.toNat ∧ bits ((t.core core).csrOf 0x300).toNat 1 1 = bits (c.csrOf 0x300).toNat 5 5))
    ∧ (∀ (w : BitVec 32), s.fetches core 4 →
      let rd := BitVec.ofNat 5 (bits w.toNat 11 7)
      let a := c.xr (BitVec.ofNat 5 (bits w.toNat 19 15))
      let b := c.xr (BitVec.ofNat 5 (bits w.toNat 24 20))
      let imm := i64 (immI w.toNat)
      let put (v : BitVec 64) : Prop := Runs (.scalarInstruction core w) s (next { c.count.setX rd v with pc := c.pc + 4#64 })
      let f3 := bits w.toNat 14 12
      (bits w.toNat 6 0 = 0x13 → (f3 = 0 → put (a + imm)) ∧ (f3 = 4 → put (a ^^^ imm)) ∧ (f3 = 6 → put (a ||| imm))
        ∧ (f3 = 7 → put (a &&& imm)))
      ∧ (bits w.toNat 6 0 = 0x33 → bits w.toNat 31 25 = 0 → (f3 = 0 → put (a + b)) ∧ (f3 = 4 → put (a ^^^ b)) ∧ (f3 = 6 → put (a ||| b))
        ∧ (f3 = 7 → put (a &&& b)))
      ∧ (bits w.toNat 6 0 = 0x33 → bits w.toNat 31 25 = 32 → f3 = 0 → put (a - b))
      ∧ (bits w.toNat 6 0 = 0x33 → bits w.toNat 31 25 = 1 → f3 = 0 → put (a * b))
      ∧ (bits w.toNat 6 0 = 0x37 → put (i64 (immU w.toNat)))
      ∧ (bits w.toNat 6 0 = 0x6F → Runs (.scalarInstruction core w) s
          (next { c.count.setX rd (c.pc + 4#64) with pc := c.pc + i64 (immJ w.toNat) })))

/-- A slug on a core, its images and its faults (R117, R133, R135, R138, R140, R142, R171): vx.wfs waits; vx.done ends the slug; a
corrected error is counted and the core runs on, any other retires and fences the core, which halts; an idle core takes the
image its CORE_IMAGE names at its entry point in M; an image is written and verified. -/
def Obligations.VxSlugsAndImages : Prop :=
  ∀ (core : Nat) (s : State),
    let c := s.core core
    (s.fetches core 4 → c.priv = .m → Runs (.vxWfs core 0#5 0#5 0#5 0#2) s (fun t => OnlyCore s t core
      ∧ t.core core = { c with waiting := true, vri := 0 }))
    ∧ (s.fetches core 4 → c.priv = .m → c.slugstat.getLsbD 0 = true →
      Runs (.vxDone core 0#5 0#5 0#5 0#2) s (fun t => (t.core core).slugstat.getLsbD 0 = false
        ∧ (t.core core).ptag.getLsbD 16 = false ∧ (t.core core).pc = c.pc + 4#64
        ∧ (t.core core).halted = bit c.doneCtl.toNat 9 ∧ (t.core core).w = c.w ∧ (t.core core).x = c.x))
    ∧ (s.unitAwake 0 core = true → Runs (.vxUnitFault core .corrected) s (fun t => t.core core = c ∧ t.galley = s.galley
        ∧ t.num OD.vxEccCorrected core = min OD.vxEccCorrected.hi (s.num OD.vxEccCorrected core + 1)))
    ∧ (∀ err, err ≠ .corrected → s.unitAwake 0 core = true → c.halted = false → (s.unit 0 core).state ≠ .retired →
      Runs (.vxUnitFault core err) s (fun t => t.core core = { c with halted := true, waiting := false }
        ∧ (∀ x, x ≠ core → { t.core x with image := (s.core x).image } = s.core x)
        ∧ (t.unit 0 core).fenced = true ∧ (t.unit 0 core).state = .retired))
    ∧ (∀ i, c.waiting = true → c.halted = false → c.slugstat.getLsbD 0 = false → (s.unit 0 core).held = none →
      s.unitAwake 0 core = true → c.image ≠ s.govN OD.coreImage core →
      s.slotImage (s.govN OD.coreImage core) = some i → s.sec.level 3 ≤ i.rollback →
      Runs (.coreImageSwitch core) s (fun t => OnlyCore s t core ∧ t.core core = { c with
        image := s.govN OD.coreImage core, pc := BitVec.ofNat 64 i.entry, priv := .m, waiting := false, vri := 0 }))
    ∧ (∀ (who : Requester) (img : Image),
      let k := s.itemOf who OD.imageData OD.imageData.addr
      s.admits who OD.imageData 0 →
      (s.mode.mode = .configure ∨ s.mode.mode = .upgrade) → s.slotNamed k = false →
      Runs (.vxImageWrite who img) s (fun t => t.reply.reason = 0 ∧ t.nat OD.imageState k = 1
        ∧ Tab.get {} t.vx.slots k = ⟨some img⟩ ∧ ∀ j, j ≠ k → Tab.get {} t.vx.slots j = Tab.get {} s.vx.slots j))
    ∧ (∀ (k : Nat) (i : Image), s.nat OD.imageState k = 1 → (Tab.get {} s.vx.slots k : ImageSlot).img = some i →
      Runs (.vxImageVerifyDone k) s (fun t => if s.sec.imageReason 3 i = 0 then t.nat OD.imageState k = 2 ∧ t.nat OD.imageVersion k = i.version
        else t.nat OD.imageState k = 3 ∧ t.nat OD.imageReason k = s.sec.imageReason 3 i))

/-! ## Engines -/

/-- The twenty job commands (R175–R180, R195): an engine whose slug's descriptor, arguments and memory are sound takes its
outputs, charged to the attempt, reads every item and writes the outputs and the soft regions and no other byte, a
record for item j at offset 8j of output 1; without ARG0 the slug ends INPUT_INVALID; with no free buffer the engine
waits. -/
def Obligations.EngineJobs : Prop :=
  ∀ (e cls code h att d : Nat) (c : Instr) (x : Slug) (s : State),
    let u := (engineUnit e).2
    let q := engAcc cls u x.part h att
    let commands : List (Nat × Nat × Instr) :=
      [(3, 0, .teFwd e), (3, 1, .teInv e), (3, 2, .teCzt e), (2, 0, .meChest e), (2, 1, .meWeight e), (2, 2, .meApply e),
        (2, 3, .meApplyDemap e), (2, 4, .meChol e), (2, 5, .meInv e), (4, 0, .ldDecode e), (5, 0, .leEncode e),
        (6, 0, .plPolarDecode e), (6, 1, .plPolarEncode e), (6, 2, .plConvDecode e), (6, 3, .plConvEncode e),
        (6, 4, .plRmDecode e), (6, 5, .plRmEncode e), (7, 0, .tdDecode e), (8, 1, .hqUplinkCombine e),
        (8, 0, .hqDownlinkRateMatch e)]
    e < 54 → (engineUnit e).1 = cls → (cls, code, c) ∈ commands → HoldsNew s cls u h att x →
    (x.hasArg 0 = false → Runs c s (fun t => t.endedWith h .inputInvalid ∧ (t.unit cls u).held = none))
    ∧ (∀ (m : EngMode) (p : Hamper), Described s q x d → headerOk d = true → engMode cls d = some m → m.valid = true →
      modeCode cls d = code → argsOk x m d = true → (cls = 8 → bits d 180 163 ≠ 0) →
      (∀ bs, bs.length = (if dStatus d then 2 else 1) → Outputs s q x.part (dHamper d) (engSize m d []) p bs →
        (m.arg2 = true → m.in2 ≠ 0 → OpenTo s q true false (s.argAt x 2) m.in2) →
        (∀ j, j < dItems d → m.inItem ≠ 0 → OpenTo s q true false (s.argAt x 1 + m.inOff d [] j) m.inItem) →
        (cls = 8 → code = 1 → ∀ j, j < dItems d → OpenTo s q false true (softWr d j) (softBytes d)
          ∧ (bit d 181 = false → OpenTo s q true false (softRd d j) (softBytes d))) →
        Runs c s (fun t => t.job cls u = some
              { handle := h, attempt := att, desc := d, need := bs.length, outs := bs.map (handleOf (dHamper d)),
                waitAlloc := false, ready := some 0, items := dItems d, since := s.time.air }
          ∧ t.galley = s.galley ∧ (∀ b ∈ bs, (t.hamper (dHamper d)).bind (fun r => Tab.find r.inUse b) = some (.attempt h att))
          ∧ t.num OD.jobs e = min OD.jobs.hi (s.num OD.jobs e + 1)
          ∧ t.num OD.itemsDone e = min OD.itemsDone.hi (s.num OD.itemsDone e + dItems d)
          ∧ (∀ a, ¬p.covers bs a → (cls = 8 → code = 1 → ∀ j, j < dItems d → ¬(softWr d j ≤ a ∧ a < softWr d j + softBytes d)) →
            Memory.byte t.mem a = Memory.byte s.mem a)
          ∧ (dStatus d = true → (cls = 8 → code = 1 → ∀ j b, j < dItems d → b ∈ bs →
              overlaps (softWr d j) (softBytes d) (p.at_ b) p.bytes = false) →
            ∀ j, j < dItems d → t.loadN (p.at_ (bs.getD 1 0) + 8 * j) 8 % 4096 = j)))
      ∧ (s.hamper (dHamper d) = some p → p.take = none → engSize m d [] ≤ p.bytes →
        Runs c s (fun t => t.job cls u = some
              { handle := h, attempt := att, desc := d, need := if dStatus d then 2 else 1, outs := [],
                waitAlloc := true, ready := none, items := 0, since := s.time.air }
          ∧ t.slug h = some x ∧ t.mem = s.mem)))

/-- The ends of an engine's job (R177, R178, R200, R203): the report of a job that is done ends the slug OK, binds its outputs and
counts the engine's cycles; a wait for a buffer that has lasted ALLOC_WAIT ends it FAULT; a corrected error is counted and the
engine runs on; any other retires the engine. -/
def Obligations.EngineEnds : Prop :=
  ∀ (s : State),
    (∀ (e h att r : Nat) (x : Slug) (m : Impression) (j : Job),
      let cls := (engineUnit e).1
      let u := (engineUnit e).2
      e < 54 → s.job cls u = some j → j.handle = h → j.attempt = att → j.waitAlloc = false → j.ready = some r →
      s.runsAttempt h att x → x.cls = cls → x.executor = u → x.abortPending = false → s.imp x.imp = some m →
      bits j.desc 33 24 < m.bindCount → bits j.desc 43 34 < m.bindCount →
      Runs (.engineJobComplete e) s (fun t => t.endedWith h .ok ∧ (t.unit cls u).held = none ∧ t.job cls u = none
        ∧ t.num OD.busyCycles e = min OD.busyCycles.hi (s.num OD.busyCycles e
            + (((s.time.air - (s.unit cls u).start) * 15625 / 6144).toNat : Nat))
        ∧ ∀ n, t.imp x.imp = some n →
          (∀ a, j.outs = [a] → dStatus j.desc = false → Tab.find n.bindings (bits j.desc 33 24) = some a)
          ∧ (∀ a b, j.outs = [a, b] → bits j.desc 33 24 ≠ bits j.desc 43 34 →
            Tab.find n.bindings (bits j.desc 33 24) = some a ∧ Tab.find n.bindings (bits j.desc 43 34) = some b)))
    ∧ (∀ (e cls u : Nat) (x : Slug) (j : Job),
      (e < 54 ∧ engineUnit e = (cls, u) ∨ 54 ≤ e ∧ e < 62 ∧ cls = 11 ∧ u = e - 54 ∨ 62 ≤ e ∧ e < 66 ∧ cls = 9 ∧ u = e - 62
        ∨ 66 ≤ e ∧ e < 78 ∧ cls = 10 ∧ u = e - 66) →
      s.job cls u = some j → j.waitAlloc = true → (s.govN OD.allocWait : Int) * 49152 ≤ (s.time.air - j.since) * 100 →
      s.runsAttempt j.handle j.attempt x → x.abortPending = false →
      Runs (.engineAllocTimeout e) s (fun t => t.endedWith j.handle .fault ∧ t.job cls u = none))
    ∧ (∀ (e : Nat), e < 54 → s.unitAwake (engineUnit e).1 (engineUnit e).2 = true →
      Runs (.engineUnitFault e .corrected) s (fun t => t.galley = s.galley
        ∧ t.num OD.engEccCorrected e = min OD.engEccCorrected.hi (s.num OD.engEccCorrected e + 1)))
    ∧ (∀ (e : Nat) (err : HwError), e < 54 → err ≠ .corrected → s.unitAwake (engineUnit e).1 (engineUnit e).2 = true →
      (s.unit (engineUnit e).1 (engineUnit e).2).state ≠ .retired →
      Runs (.engineUnitFault e err) s (fun t => t.retired (engineUnit e).1 (engineUnit e).2
        ∧ t.job (engineUnit e).1 (engineUnit e).2 = none
        ∧ t.num OD.unitFaults e = min OD.unitFaults.hi (s.num OD.unitFaults e + 1)))

/-- DMA (R317): a list of sound elements whose places do not meet is copied or filled element by element, every other
byte outside the status buffer as before, and the slug ends OK; a unit fault retires the engine and sets bit 6 of
DEGRADED_CAUSES. -/
def Obligations.DmaMoves : Prop :=
  (∀ (u h att d kind : Nat) (x : Slug) (m : Impression) (p : Hamper) (bs : List Nat) (s : State),
    let q := engAcc 11 u x.part h att
    let ob := bits d 159 128
    let out := if ob = 0 then 0 else p.at_ (bs.getD 0 0)
    let es := (List.range (dItems d)).map (fun k => dmaEl kind (s.loadN (s.argAt x 1 + 32 * k) 32))
    let dst (k : DmaEl) : Nat := if k.dstOut then out + k.dst else k.dst
    let stat := p.at_ (bs.getD (if ob = 0 then 0 else 1) 0)
    let src (k : DmaEl) : Nat := if kind = 1 then k.len else 0
    (kind = 1 ∨ kind = 2) → u < 8 → HoldsNew s 11 u h att x → x.kind = kind → s.imp x.imp = some m →
    Described s q x d → headerOk d = true → bits d 511 160 = 0 → x.hasArg 1 = true → x.hasArg 2 = false →
    (x.taint = true → bit d 22 = true) → OpenTo s q true false (s.argAt x 1) (32 * dItems d) →
    bits d 33 24 < m.bindCount → bits d 43 34 < m.bindCount →
    bs.length = (if ob = 0 then 0 else 1) + (if dStatus d then 1 else 0) →
    (bs ≠ [] → Outputs s q x.part (dHamper d) (max ob (if dStatus d then 8 * dItems d else 0)) p bs) →
    (∀ k ∈ es, k.ok kind ob out = true ∧ OpenAll s q false true (dst k) k.len ∧ (kind = 1 → OpenAll s q true false k.src k.len)
      ∧ (dStatus d = true → overlaps (dst k) k.len stat (8 * dItems d) = false ∧ overlaps k.src (src k) stat (8 * dItems d) = false)) →
    es.Pairwise (fun k l => overlaps (dst k) k.len (dst l) l.len = false ∧ overlaps (dst k) k.len l.src (src l) = false
      ∧ overlaps (dst l) l.len k.src (src k) = false) →
    dmaCommitOk x.commit es = true →
    Runs (if kind = 1 then .dmaCopy u else .dmaFill u) s (fun t => t.endedWith h .ok ∧ (t.unit 11 u).held = none ∧ t.job 11 u = none
      ∧ (∀ k ∈ es, ∀ i, i < k.len → Memory.byte t.mem (dst k + i) =
          if kind = 1 then Memory.byte s.mem (k.src + i) else BitVec.ofNat 8 (k.pattern / 256 ^ (i % 8)))
      ∧ (∀ a, (∀ k ∈ es, ¬(dst k ≤ a ∧ a < dst k + k.len)) → (dStatus d = true → ¬(stat ≤ a ∧ a < stat + 8 * dItems d)) →
        Memory.byte t.mem a = Memory.byte s.mem a)
      ∧ (dStatus d = true → ∀ j, j < dItems d → t.loadN (stat + 8 * j) 4 = j)))
  ∧ ∀ (u : Nat) (s : State), u < 8 → (s.unit 11 u).state ≠ .retired →
    Runs (.dmaUnitFault u) s (fun t => t.retired 11 u ∧ bit (t.nat OD.degradedCauses) 6 = true)

/-! ## Radio edge -/

/-- Gain and search (R209, R210, R214–R216, R224): a change point that is due moves the code towards the largest one that every
window and the peak admit, by ATTACK_MAX and DECAY_STEP at most, or keeps it where it is frozen; a window above the noise by
TRIGGER_LEVEL in an occasion triggers; the end of an occasion adds one detection per preamble, the strongest, with its
conditions, to the ring of 16 or counts them as dropped; COLLECT writes the ring out and empties it; a firmware noise table is
taken, and an estimate ends with NOISE_TIMEOUT. -/
def Obligations.EdgeGainAndSearch : Prop :=
  ∀ (s : State),
    (∀ (g : Nat) (start : Int), has s.edge.groupsOn g = true → bit (s.govN OD.groupMap g) 12 = false → s.changeDue g = some start →
      let x := s.antGroup g
      let ok (c : Nat) : Prop := peakAdmits (s.gov OD.peakLimit g) x.pk c = true
        ∧ ∀ w ∈ x.wins, rmsAdmits (s.gov OD.targetRms g) w.2.2.2.2.1 w.2.2.2.2.2 c = true
      Runs (.gainChangePoint g) s (fun t => (t.antGroup g).wins = [] ∧ (t.antGroup g).pk = 0
        ∧ (t.antGroup g).hist = ((start, (t.antGroup g).gain, s.frozenNow g) :: x.hist).take 512
        ∧ (t.antGroup g).frozen = s.frozenNow g ∧ (∀ k, k ≠ g → t.antGroup k = s.antGroup k) ∧ Frame [.edge] [] s t
        ∧ ((s.frozenNow g = true ∨ x.wins = []) → (t.antGroup g).gain = x.gain)
        ∧ (s.frozenNow g = false → x.wins ≠ [] → ∃ c, c ≤ 255 ∧ (ok c ∨ c = 0) ∧ (∀ k, k ≤ 255 → ok k → k ≤ c)
          ∧ (t.antGroup g).gain = if c < x.gain then max c (x.gain - s.govN OD.attackMax g)
              else min c (x.gain + s.govN OD.decayStep g))))
    ∧ (∀ (k : Nat) (band noise : Int), has s.edge.ctxOn k = true → s.occasionNow k = true →
      (noise + 4 * s.govN OD.triggerLevel k < band → Runs (.searchTrigger k band noise) s (fun t =>
        t.sctx k = { s.sctx k with trigAt := some (s.contextSlot k) } ∧ (∀ j, j ≠ k → t.sctx j = s.sctx j) ∧ Frame [.edge] [] s t))
      ∧ (¬noise + 4 * s.govN OD.triggerLevel k < band → Runs (.searchTrigger k band noise) s (· = s)))
    ∧ (∀ (k : Nat) (n : Int) (ps : List Profile), has s.edge.ctxOn k = true → s.occasionDue k s.time.air = some n →
      let g := s.govN OD.contextGroup k
      let x := s.sctx k
      let num := s.contextNum k
      let one (e : Profile × Nat) : Option Detection :=
        detectIn (s.govN OD.threshold k) (s.govN OD.ctxFormat k) e.1.preamble (mapStreams (s.govN OD.groupMap g)) (s.freeCtr + 3 * e.2)
          ((s.antGroup g).combine num n e.1)
      Runs (.searchOccasionEnd k ps) s (fun t => (t.sctx k).last = n ∧ (t.sctx k).lost = x.lost
        ∧ ∃ l : List Detection, (∀ d, d ∈ l → ∃ e, e ∈ ps.zipIdx ∧ one e = some d) ∧ (l.map (·.preamble)).Nodup
          ∧ (∀ e d, e ∈ ps.zipIdx → one e = some d → ∃ y, y ∈ l ∧ y.preamble = d.preamble ∧ d.pnr ≤ y.pnr)
          ∧ (x.ring.length < 16 → (t.sctx k).dropped = x.dropped
            ∧ t.num OD.detections k = min OD.detections.hi (s.num OD.detections k + l.length)
            ∧ ∃ o : Occasion, (t.sctx k).ring = x.ring ++ [o] ∧ o.dets = l ∧ o.sfn = sfnOf (slotStart num n)
              ∧ o.slot = (n % (slotsPerFrame num : Nat)).toNat ∧ o.clipped = x.clipAt.contains n ∧ o.frozen = x.frozeAt.contains n
              ∧ (o.step = true ↔ ∃ i, i < symbolsOf num ∧ i ≠ 0 ∧ (s.antGroup g).stepAt (symbolTick num n i) = true))
          ∧ (16 ≤ x.ring.length → (t.sctx k).dropped = x.dropped + l.length ∧ (t.sctx k).ring = x.ring)))
    ∧ (∀ (u h att d : Nat) (x : Slug) (m : Impression) (p : Hamper) (bs : List Nat),
      let q := engAcc 9 u x.part h att
      let k := bits d 135 128
      let out := (s.sctx k).bytes k
      HoldsNew s 9 u h att x → x.kind = 1 → s.imp x.imp = some m → Described s q x d → headerOk d = true → dItems d = 1 →
      bits d 511 136 = 0 → x.hasArg 1 = false → x.hasArg 2 = false → (x.taint = true → bit d 22 = true) →
      bits d 33 24 < m.bindCount → bits d 43 34 < m.bindCount →
      bs.length = (if dStatus d then 2 else 1) → Outputs s q x.part (dHamper d) out.length p bs → s.collectWaits u k = false →
      Runs (.collect u) s (fun t => t.endedWith h .ok ∧ (t.unit 9 u).held = none
        ∧ t.sctx k = { s.sctx k with ring := [], lost := 0, dropped := 0 } ∧ (∀ j, j ≠ k → t.sctx j = s.sctx j)
        ∧ (∀ i, i < out.length → Memory.byte t.mem (p.at_ (bs.getD 0 0) + i) = out.getD i 0#8)
        ∧ ∀ a, ¬p.covers bs a → Memory.byte t.mem a = Memory.byte s.mem a))
    ∧ (∀ (r c : Nat) (vals : List Int), s.govN OD.noiseSource r = 1 → vals ≠ [] → Runs (.noiseTableWrite r c vals) s (fun t =>
        (t.wset r c).noiseAt = some s.time.air ∧ Frame [.edge] [] s t
        ∧ (∀ g, Tab.find (t.wset r c).noise g = match vals[g]? with
          | some v => some (⟨2 ^ 46, 1, v⟩ : Pow)
          | none => Tab.find (s.wset r c).noise g)))
    ∧ (∀ (r c : Nat) (a : Int), (s.wset r c).noiseAt = some a → (s.nat OD.noiseTimeout r : Int) * 491520 ≤ s.time.air - a →
      Runs (.noiseEstimateTimeout r c) s (fun t => t.wset r c = { s.wset r c with noiseAt := none }
        ∧ (∀ j, j ≠ c → t.wset r j = s.wset r j) ∧ (∀ k, k ≠ r → t.radio k = s.radio k) ∧ Frame [.edge] [] s t))

/-- Negotiation, spares, control outputs and enables (R206, R207, R213, R218, R219, R228, R435): FALLBACK after FALLBACK_SLOTS
slots in it and an offer after RETRY_INTERVAL; a faulted front unit's groups move, a faulted compression unit is replaced; an
output takes the level that its map entry gives it; groups, contexts and ramps go on and off. -/
def Obligations.EdgeUnits : Prop :=
  ∀ (s : State),
    (∀ (r : Nat), ((s.radio r).ns = .offered ∨ (s.radio r).ns = .active) → s.govN OD.fallbackSlots r ≤ (s.radio r).fbRun →
      Runs (.nsFallback r) s (fun t => (t.radio r).ns = .fallback ∧ (t.radio r).agreed = 0 ∧ (t.radio r).since = s.time.air
        ∧ (t.radio r).fellAt = (if (s.radio r).ns = .active then some s.time.air else (s.radio r).fellAt)
        ∧ (t.radio r).sets = (s.radio r).sets))
    ∧ (∀ (r : Nat), (s.radio r).ns = .fallback → s.nat OD.retryInterval r ≠ 0 →
      (s.nat OD.retryInterval r : Int) * 491520000 ≤ s.time.air - (s.radio r).since →
      Runs (.nsRetryOffer r) s (fun t => (t.radio r).ns = .offered ∧ (t.radio r).agreed = 0 ∧ (t.radio r).since = s.time.air
        ∧ (t.radio r).sets = (s.radio r).sets))
    ∧ (∀ (u : Nat), u < 4 → (s.unit 9 u).state ≠ .retired → Runs (.fuUnitFault u) s (fun t => t.retired 9 u
        ∧ ∀ g, has s.edge.groupsOn g = true → (s.antGroup g).fu = u → has t.edge.moving g = true))
    ∧ (∀ (g : Nat), has s.edge.moving g = true → Runs (.fuGroupMove g) s (fun t =>
        match s.takerOf g with
        | some u => t.antGroup g = { s.antGroup g with fu := u } ∧ has t.edge.moving g = false ∧ (s.unit 9 u).healthy = true
            ∧ (t.edge.moving = [] → bit (t.nat OD.degradedCauses) 4 = false)
        | none => t.edge = s.edge ∧ bit (t.nat OD.degradedCauses) 4 = true))
    ∧ (∀ (u : Nat), u < 12 → (s.unit 10 u).state ≠ .retired → Runs (.cuUnitFault u) s (fun t => t.retired 10 u ∧ t.job 10 u = none))
    ∧ (∀ (u r : Nat) (l : List Nat), u < 12 → (s.unit 10 u).state = .retired → s.pairOf u < 12 → s.promotable 10 = r :: l →
      Runs (.cuReplace u) s (fun t => (t.unit 10 r).state = .idle ∧ t.pairOf r = s.pairOf u ∧ t.pairOf u = 12
        ∧ (t.unit 10 r).aliasOf = some ((s.unit 10 u).aliasOf.getD u)))
    ∧ (∀ (k : Nat), k < 8 →
      let e := s.govN OD.rcoMap k
      let c := bits e 9 0
      let burst := (s.downRuns c (slotOf (s.govN OD.numerology c) s.time.air - 1) 3).any (fun r =>
        decide ((r.1 - s.time.air) * 3125 ≤ signed 16 (bits e 31 16) * 1536 ∧ (s.time.air - r.2) * 3125 < signed 16 (bits e 47 32) * 1536))
      Runs (.rcoEdge k) s (fun t => has t.edge.rcoOn k = (s.mode.mode.runs && bit e 12 && (burst != bit e 10))
        ∧ (∀ j, j ≠ k → has t.edge.rcoOn j = has s.edge.rcoOn j) ∧ Frame [.edge, .pins] [] s t))
    ∧ (∀ (who : Requester),
      (let g := s.itemOf who OD.groupEnable OD.groupEnable.addr
       s.enableMode = true → g < 128 →
        (s.admits who OD.groupEnable 1 → s.groupReason g = 0 → Runs (.groupEnable who 1) s (fun t => t.reply.reason = 0
          ∧ t.flag OD.groupEnable g = true ∧ has t.edge.groupsOn g = true ∧ t.gov OD.groupMap g = s.num OD.groupMap g
          ∧ (has s.edge.groupsOn g = false → (t.antGroup g).gain = 96 ∧ (t.antGroup g).fu = bits (t.govN OD.groupMap g) 11 10)))
        ∧ (s.admits who OD.groupEnable 0 → Runs (.groupEnable who 0) s (fun t => t.reply.reason = 0
          ∧ t.flag OD.groupEnable g = false ∧ has t.edge.groupsOn g = false ∧ has t.edge.moving g = false)))
      ∧ (let k := s.itemOf who OD.contextEnable OD.contextEnable.addr
         s.enableMode = true → k < 256 →
        (s.admits who OD.contextEnable 1 → s.contextReason k = 0 → Runs (.contextEnable who 1) s (fun t => t.reply.reason = 0
          ∧ t.flag OD.contextEnable k = true ∧ has t.edge.ctxOn k = true ∧ t.gov OD.schedule k = s.num OD.schedule k))
        ∧ (s.admits who OD.contextEnable 0 → Runs (.contextEnable who 0) s (fun t => t.reply.reason = 0
          ∧ t.flag OD.contextEnable k = false ∧ has t.edge.ctxOn k = false)))
      ∧ (let c := s.itemOf who OD.rampEnable OD.rampEnable.addr
         s.enableMode = true → c < 1024 →
        (s.admits who OD.rampEnable 1 → s.rampReason c = 0 → Runs (.rampEnable who 1) s (fun t => t.reply.reason = 0
          ∧ t.flag OD.rampEnable c = true ∧ has t.edge.rampsOn c = true))
        ∧ (s.admits who OD.rampEnable 0 → Runs (.rampEnable who 0) s (fun t => t.reply.reason = 0
          ∧ t.flag OD.rampEnable c = false ∧ has t.edge.rampsOn c = false))))

/-- Messages of the compression units (R222, R223, R225–R227, R236, R240): a C-plane job hands one frame to the active port of its
flow with its window and, uplink, the sections it asks for, a probe's among them, and the width map while the radio is offered the
noise-shaped method or uses it; a downlink U-plane job hands over one frame a symbol that is sent, with a section for every
run of groups that are sent, and ends at once where there is none; the slug runs on until its last frame has left. -/
def Obligations.EdgeMessages : Prop :=
  ∀ (kind u h att d : Nat) (c : Instr) (x : Slug) (s : State),
    let q := engAcc 10 u x.part h att
    let f := cuFlow d
    let r := s.flowMapN f 17 10
    let cell := s.flowCell f
    let w := s.govN OD.txWindow f
    let old := Tab.get [] (s.port (s.activePort f)).txq (s.flowQueue f)
    let ask (sec k : Nat) : Nat × Nat × Nat × Nat × Nat := (s.slugTick x, k, sec % 4096, cuRb d, cuRbs d)
    let negotiates : Prop := (s.radio r).ns = .offered ∨ (s.radio r).ns = .active
    (kind, c) ∈ [(1, Instr.ulCplane u), (2, Instr.dlCplane u), (3, Instr.dlUplane u)] → HoldsNew s 10 u h att x → x.kind = kind →
    Described s q x d → s.cuOk kind d = true → x.commit = .external → x.hasArg 1 = decide (kind = 3) →
    x.hasArg 2 = decide (kind = 3) → (x.taint = true → bit d 22 = true) → dStatus d = false → s.portOk (s.activePort f) = true →
    (kind ≠ 3 → Runs c s (fun t => (∃ fr, Tab.get [] (t.port (s.activePort f)).txq (s.flowQueue f) = old ++ [fr]
        ∧ fr.flow = some f ∧ fr.handle = some h ∧ fr.stamp = none ∧ 64 ≤ fr.length ∧ fr.data = []
        ∧ fr.window = some (windowAt (s.slugSymbol x f (cuSym d)) (bits w 63 48) (bits w 47 32))
        ∧ (kind = 2 → fr.cplane = [] ∧ fr.ext = none ∧ fr.plain = [])
        ∧ (kind = 1 → (∃ sec, fr.cplane = (((List.range (cuNum d)).map (fun k => cuSym d + k)).filter
              (fun k => decide (some k ≠ s.probeAsked f x))).map (ask sec)
                ++ (match s.probeAsked f x with | some k => [ask (sec + 1) k] | none => [])
            ∧ fr.plain = (match s.probeAsked f x with | some _ => [(sec + 1) % 4096] | none => []))
          ∧ (¬negotiates → fr.ext = none)
          ∧ (negotiates → ∃ ws : List Nat, ws.length = s.widthGroups r (cdiv (Config.symbolSize cell (cuSym d)) 12)
            ∧ (∀ n ∈ ws, 1 ≤ n ∧ n ≤ 16)
            ∧ fr.ext = some ⟨bits (s.govN OD.radioProfile r) 7 0, s.nsVersion r, (s.wset r cell).seq, ws.map (fun n => n - 1)⟩
            ∧ (t.wset r cell).maps = (((s.wset r cell).seq, ws) :: (s.wset r cell).maps).take 4
            ∧ (t.wset r cell).seq = ((s.wset r cell).seq + 1) % 32)))
      ∧ t.slug h = some x ∧ (t.unit 10 u).held = some (h, att) ∧ t.mem = s.mem
      ∧ (t.job 10 u).map (·.ready) = some (some 0)))
    ∧ (kind = 3 → OpenTo s q true false (s.argAt x 2) (cdiv (s.dlGroups d * cuNum d) 2) →
      OpenTo s q true false (s.argAt x 1) (48 * cuRbs d * cuNum d) →
      let map := s.load (s.argAt x 2) (cdiv (s.dlGroups d * cuNum d) 2)
      let codes (k : Nat) : List Nat := (List.range (s.dlGroups d)).map (fun i => mapCode map (k * s.dlGroups d + i))
      let sent := (List.range (cuNum d)).filter (fun k => (codes k).any (fun v => decide (v ≠ 0)))
      let boundary := match s.imp x.imp with | some m => m.boundary | none => s.time.air
      let samples (k : Nat) : List Int := (s.startRamp x d).downSamples d (slotOf (s.govN OD.numerology cell) boundary) (cuSym d + k)
        ((s.load (s.argAt x 1) (48 * cuRbs d * cuNum d)).drop (48 * cuRbs d * k))
      (∀ k, k < s.dlGroups d * cuNum d → mapCode map k < 6) →
      (sent ≠ [] → Runs c s (fun t => t.slug h = some x ∧ t.mem = s.mem
        ∧ t.num OD.sectionsEncoded u = min OD.sectionsEncoded.hi
            (s.num OD.sectionsEncoded u + ((sent.map (fun k => (groupRuns (codes k)).length)).sum : Nat))
        ∧ ∃ (fs : List TxFrame) (seq : Nat → Nat → Nat), Tab.get [] (t.port (s.activePort f)).txq (s.flowQueue f) = old ++ fs
          ∧ fs.map (fun r => (r.flow, r.handle, r.window, r.cplane)) = sent.map (fun k =>
            (some f, some h, some (windowAt (s.slugSymbol x f (cuSym d + k)) (bits w 31 16) (bits w 15 0)), []))
          ∧ fs.map (·.data) = sent.map (fun k => (groupRuns (codes k)).zipIdx.map (fun e =>
            s.downSection d (cuSym d + k) boundary (seq k e.2) (codes k) (samples k) e.1))))
      ∧ (sent = [] → (∀ y ∈ s.front.ports, ∀ e ∈ y.2.txq, ∀ r ∈ e.2, r.handle ≠ some h) →
        (∀ e ∈ s.edge.jobs, e.1 / 256 = 10 → e.2.handle = h → e.1 = unitKey 10 u) → u < 256 →
        Runs c s (fun t => t.endedWith h .ok ∧ t.mem = s.mem)))

/-! ## Fronthaul -/

/-- Received frames (R205, R221, R234, R237, R238, R241–R245, R254): a malformed frame only counts; a frame beyond its bucket is
dropped; a firmware frame goes to a buffer and the ring; the first section of a flow-symbol that passes every check, and the samples of a CPRI symbol, are converted into
the stream's place of a new buffer and into no other byte outside it; a section that fails is counted by its check; the
firmware ring is popped oldest first. -/
def Obligations.FronthaulReceive : Prop :=
  ∀ (p : Nat) (s : State),
    (∀ (f : EthFrame), s.portOk p = true → s.isCpri p = false → (f.fcsOk = false ∨ f.fecOk = false ∨ f.length < 64 ∨ s.govN OD.maxFrame p < f.length ∨ f.body = .pause) →
      Runs (.ethFrameRx p f) s (fun t => t.num OD.portMalformed p = min OD.portMalformed.hi (s.num OD.portMalformed p + 1)
        ∧ Frame [] [keyCode (OD.portMalformed.key p)] s t))
    ∧ (∀ (f : EthFrame) (c : Nat), s.taken p f → f.body = .firmware c → (s.beyond p 1 f.length).1 = true →
      Runs (.ethFrameRx p f) s (fun t => t.num OD.policed (8 * p + 1) = min OD.policed.hi (s.num OD.policed (8 * p + 1) + 1)
        ∧ t.front = s.front ∧ t.mem = s.mem))
    ∧ (∀ (f : EthFrame) (c b : Nat) (h : Hamper), s.taken p f → f.body = .firmware c → (s.beyond p 1 f.length).1 = false →
      (s.port p).fwRing.length < 512 → s.govN OD.fwHamper p < 64 → s.hamper (s.govN OD.fwHamper p) = some h → h.owner = 0xFFFF → h.takes 1 = some [b] →
      b < h.count → b < 262144 → f.bytes.length = f.length → f.length ≤ h.bytes →
      Runs (.ethFrameRx p f) s (fun t =>
        (t.port p).fwRing = (s.port p).fwRing ++ [⟨handleOf (s.govN OD.fwHamper p) b, f.length, c, false, p, f.stamp⟩]
        ∧ (∀ i, i < f.length → Memory.byte t.mem (h.at_ b + i) = f.bytes.getD i 0#8)
        ∧ ∀ a, ¬(h.at_ b ≤ a ∧ a < h.at_ b + f.length) → Memory.byte t.mem a = Memory.byte s.mem a))
    ∧ (∀ (f : EthFrame) (vid : Nat) (src dst : BitVec 48) (e : Fdb), s.taken p f → f.body = .forward vid src dst →
      s.keepsFrame p dst = false → (s.beyond p 3 f.length).1 = false → (∀ q, q < 24 → s.macOf q ≠ src) → dst.toNat / 2 ^ 40 % 2 = 0 →
      s.front.fdb.find? (fun e => decide (e.vid = vid ∧ e.mac = dst)) = some e → e.port ≠ p → e.port ∈ s.members p → e.port < 24 →
      s.portOk e.port = true → Runs (.ethFrameRx p f) s (fun t =>
        Tab.get [] (t.port e.port).txq 3 = Tab.get [] (s.port e.port).txq 3 ++ [{ flow := none, handle := none, stamp := none, event := false, length := f.length }]
        ∧ Frame [.front] [] s t))
    ∧ (∀ (f : EthFrame) (tr vid port ea seq fl k : Nat) (x : Section), s.taken p f →
      f.body = .ecpri tr vid port true [⟨1, true, 0, ea, seq, [x]⟩] → (tr = 0 ∨ port = s.govN OD.udpPort p) →
      (s.beyond p 0 f.length).1 = false → s.matchFlow p tr vid ea = some fl →
      let tick := s.sectionTick fl x
      (∀ (h : Hamper) (b : Nat) (zs : List (Int × Int)), zs = expandBlocks (s.sectionMethod fl x) (s.sectionWidths fl x) (s.sectionBlocks fl x) →
        s.sectionFails fl x = 0 → k < zs.length → FreshBuffer s p fl tick x.symbol (12 * x.startPrb) zs.length h b →
        Runs (.ethFrameRx p f) s (fun t => t.num OD.sectionsAccepted fl = min OD.sectionsAccepted.hi (s.num OD.sectionsAccepted fl + 1)
          ∧ (tick, x.symbol, x.startPrb, x.numPrb) ∈ (t.flow fl).got ∧ (t.flow fl).seqId = some (seq % 256)
          ∧ t.loadN (h.at_ b + 4 * (s.flowMapN fl 46 41 * Config.symbolSize (s.flowCell fl) x.symbol + 12 * x.startPrb + k)) 4
              = (s.converted fl tick x.symbol zs).getD k 0
          ∧ ∀ a, ¬(h.at_ b ≤ a ∧ a < h.at_ b + h.bytes) → Memory.byte t.mem a = Memory.byte s.mem a))
      ∧ (s.sectionFails fl x = k → 1 ≤ k → k ≤ 7 → (s.oct OD.invalidCounts fl).length ≤ 28 → Runs (.ethFrameRx p f) s (fun t =>
          leNat (((t.oct OD.invalidCounts fl).drop (4 * (k - 1))).take 4) = satInc (leNat (((s.oct OD.invalidCounts fl).drop (4 * (k - 1))).take 4))
          ∧ t.num OD.sectionsAccepted fl = s.num OD.sectionsAccepted fl ∧ (t.flow fl).seqId = some (seq % 256) ∧ t.mem = s.mem)))
    ∧ (∀ (fl tick symbol k b : Nat) (h : Hamper) (l : List (BitVec 32)), has s.front.flowsOn fl = true → s.flowPort fl = p → s.portOk p = true →
      s.isCpri p = true → k < (pairsOf l).length → FreshBuffer s p fl tick symbol 0 (pairsOf l).length h b →
      Runs (.cpriSymbolRx fl tick symbol l) s (fun t => t.num OD.sectionsAccepted fl = min OD.sectionsAccepted.hi (s.num OD.sectionsAccepted fl + 1)
        ∧ (tick, symbol) ∈ (t.flow fl).evented
        ∧ t.loadN (h.at_ b + 4 * (s.flowMapN fl 46 41 * Config.symbolSize (s.flowCell fl) symbol + k)) 4
            = (s.converted fl tick symbol (pairsOf l)).getD k 0
        ∧ ∀ a, ¬(h.at_ b ≤ a ∧ a < h.at_ b + h.bytes) → Memory.byte t.mem a = Memory.byte s.mem a))
    ∧ (∀ (d : FwDesc) (l : List FwDesc), (s.port p).fwRing = d :: l → Runs (.fwRingPop p) s (fun t => (t.port p).fwRing = l
        ∧ t.reply.fab = some .rdata ∧ t.reply.data = leBytes 32 d.bits256 ∧ Frame [.front, .reply] [] s t))
    ∧ ((s.port p).fwRing = [] → Runs (.fwRingPop p) s (fun t => t.reply.fab = some .rdata ∧ t.reply.data = leBytes 32 0
        ∧ Frame [.reply] [] s t))

/-- Sent frames and flows (R236, R240, R247, R248, R250): the head of the lowest queue that may start is sent, its C-plane
sections count as sent and a MACsec port's packet number rises, or is dropped where no transmit SA is installed; a late one is discarded and counted; a flow is moved;
keys and transmit AN are installed. -/
def Obligations.FronthaulTransmit : Prop :=
  ∀ (p : Nat) (s : State),
    (∀ (q : Nat) (x : TxFrame) (l : List TxFrame), s.portOk p = true → q < 4 → Tab.get [] (s.port p).txq q = x :: l →
      x.startable s.time.air = true → s.mayTransmit x = true →
      (∀ k, k < q → ∀ y m, Tab.get [] (s.port p).txq k = y :: m → y.startable s.time.air = false ∨ s.mayTransmit y = false) →
      let an := s.nat OD.txAn p % 4
      (has s.front.macsecOn p = false ∨ s.saInstalled p an = true ∧ s.nat OD.saNextPn (256 * p + an) < 0xFFFFFFFFFFFFFFFF) →
      Runs (.frameTransmit p) s (fun t => Tab.get [] (t.port p).txq q = l ∧ t.front.sent = s.front.sent ++ [(p, x)]
        ∧ (∀ f, x.flow = some f → (t.flow f).cplane = (s.flow f).cplane ++ x.cplane)
        ∧ (has s.front.macsecOn p = true → t.num OD.saNextPn (256 * p + an) = (s.nat OD.saNextPn (256 * p + an) + 1 : Nat))
        ∧ (∀ (h u : Nat) (j : Job) (y : Slug) (m : Impression), x.handle = some h →
          (∀ e ∈ (s.setQueue p q l).front.ports, ∀ r ∈ e.2.txq, ∀ z ∈ r.2, z.handle ≠ some h) →
          s.edge.jobs.find? (fun e => decide (e.1 / 256 = 10 ∧ e.2.handle = h)) = some (2560 + u, j) → u < 256 → j.outs = [] →
          s.runsAttempt h j.attempt y → y.abortPending = false → s.imp y.imp = some m → t.endedWith h .ok)))
    ∧ (∀ (q : Nat) (x : TxFrame) (l : List TxFrame), s.portOk p = true → q < 4 → Tab.get [] (s.port p).txq q = x :: l →
      x.startable s.time.air = true → s.mayTransmit x = true →
      (∀ k, k < q → ∀ y m, Tab.get [] (s.port p).txq k = y :: m → y.startable s.time.air = false ∨ s.mayTransmit y = false) →
      has s.front.macsecOn p = true → s.saInstalled p (s.nat OD.txAn p % 4) = false →
      Runs (.frameTransmit p) s (fun t => Tab.get [] (t.port p).txq q = l ∧ t.front.sent = s.front.sent))
    ∧ (∀ (q : Nat) (x : TxFrame) (l : List TxFrame), Tab.get [] (s.port p).txq q = x :: l → x.late s.time.air = true →
      Runs (.txWindowDiscard p q) s (fun t => Tab.get [] (t.port p).txq q = l ∧ t.front.sent = s.front.sent
        ∧ ∀ f, x.flow = some f → t.num OD.txDiscarded f = min OD.txDiscarded.hi (s.num OD.txDiscarded f + 1)))
    ∧ (∀ (who : Requester),
      (∀ (v : Nat), let f := s.itemOf who OD.flowActivePort OD.flowActivePort.addr
        s.admits who OD.flowActivePort v → (v = s.flowPort f ∨ s.flowAlt f = some v) → Runs (.flowActivePort who v) s (fun t =>
          t.reply.reason = 0 ∧ t.activePort f = v ∧ t.nat OD.flowActivePort f = v))
      ∧ (∀ (v : Nat), let n := s.itemOf who OD.txAn OD.txAn.addr
        s.admits who OD.txAn v → v < 4 → s.saInstalled n v = true →
        Runs (.txAn who v) s (fun t => t.reply.reason = 0 ∧ t.nat OD.txAn n = v ∧ t.front = s.front))
      ∧ (∀ (b : List (BitVec 8)), let i := s.itemOf who OD.saKey OD.saKey.addr
        s.admits who OD.saKey 0 → b.length = 48 → bits (i % 256) 6 5 = 0 → ¬(i % 256 < 128 ∧ 4 ≤ i % 256) →
        Runs (.saKey who b) s (fun t => t.reply.reason = 0 ∧ Tab.find (t.port (i / 256)).sas (i % 256) = some ⟨b⟩
          ∧ Frame [.front, .reply] [] s t))
      ∧ (let n := s.itemOf who OD.macsecEnable OD.macsecEnable.addr
        (s.admits who OD.macsecEnable 1 → bits (s.nat OD.portConfig n) 3 0 ≠ 9 → [0, 30, 50].contains (s.nat OD.confOffset n) = true →
          Runs (.macsecEnable who 1) s (fun t => t.reply.reason = 0 ∧ t.flag OD.macsecEnable n = true ∧ t.front = s.front))
        ∧ (s.admits who OD.macsecEnable 0 → Runs (.macsecEnable who 0) s (fun t => t.reply.reason = 0
          ∧ t.flag OD.macsecEnable n = false ∧ t.front = s.front)))
      ∧ (let n := s.itemOf who OD.portEnable OD.portEnable.addr
        s.enableMode = true → n < 24 →
        (s.admits who OD.portEnable 1 → s.portReason n = 0 → Runs (.portEnable who 1) s (fun t => t.reply.reason = 0
          ∧ t.flag OD.portEnable n = true ∧ has t.front.portsOn n = true ∧ t.gov OD.portConfig n = s.num OD.portConfig n
          ∧ has t.front.macsecOn n = s.flag OD.macsecEnable n))
        ∧ (s.admits who OD.portEnable 0 → Runs (.portEnable who 0) s (fun t => t.reply.reason = 0 ∧ t.flag OD.portEnable n = false
          ∧ has t.front.portsOn n = false ∧ (has s.front.portsOn n = true → (t.port n).up = false ∧ (t.port n).txq = []))))
      ∧ (let f := s.itemOf who OD.flowEnable OD.flowEnable.addr
        s.enableMode = true → f < 4096 →
        (s.admits who OD.flowEnable 1 → s.flowReason f = 0 → Runs (.flowEnable who 1) s (fun t => t.reply.reason = 0
          ∧ t.flag OD.flowEnable f = true ∧ has t.front.flowsOn f = true ∧ t.gov OD.flowMatch f = s.num OD.flowMatch f
          ∧ t.activePort f = t.flowPort f))
        ∧ (s.admits who OD.flowEnable 0 → Runs (.flowEnable who 0) s (fun t => t.reply.reason = 0 ∧ t.flag OD.flowEnable f = false
          ∧ has t.front.flowsOn f = false ∧ t.flow f = {}))))

/-- Lanes, ports, forwarding and recalibration (R231, R235, R252–R258): a defect of rows 1–4 takes the port of its lane down, sends its flows to
a healthy alternate and empties its queues; the search runs after the debounce and brings the port up; learning, ageing,
pins, storms and static entries of the forwarding table; PRBS counts. -/
def Obligations.FronthaulPorts : Prop :=
  ∀ (s : State),
    (∀ (l p : Nat), l < 24 → s.lanesPowered = true → s.portOfLane l = some p →
      Runs (.lossOfSignal (.line l)) s (fun t => t.lane l = { s.lane l with signal := false, lock := false, blockLock := false, prbsLock := false, search := .none }
        ∧ (t.port p).up = false ∧ (t.port p).remoteFault = !s.isCpri p ∧ (t.port p).defects = 1#6 ∧ (t.port p).txq = []
        ∧ ∀ f q, has s.front.flowsOn f = true → s.activePort f = p → s.flowPort f = p → s.flowAlt f = some q → q ≠ p →
            s.portOk q = true → t.activePort f = q))
    ∧ (∀ (l : Nat), l < 24 → s.lanesPowered = true → (s.lane l).signal = false → Runs (.signalReturn (.line l)) s (fun t =>
        t.lane l = { s.lane l with signal := true, search := .debounce, signalAt := s.nowNs }))
    ∧ (∀ (l : Nat), l < 24 → (s.lane l).signal = true → (s.lane l).search = .debounce →
      (s.lane l).signalAt + 1000 * s.nat OD.laneDebounce l ≤ s.nowNs →
      Runs (.signalDebounceExpiry (.line l)) s (fun t => t.lane l = { s.lane l with search := .running }))
    ∧ (∀ (l p : Nat), l < 24 → (s.lane l).signal = true → s.portOfLane l = some p →
      Runs (.lossOfLock (.line l)) s (fun t => (t.lane l).lock = false ∧ (t.lane l).blockLock = false ∧ (t.port p).up = false
        ∧ ((s.lane l).search ≠ .debounce → (t.lane l).search = .running))
      ∧ Runs (.lossOfBlockLock (.line l)) s (fun t => (t.lane l).lock = (s.lane l).lock ∧ (t.lane l).blockLock = false ∧ (t.port p).up = false
        ∧ ((s.lane l).search ≠ .debounce → (t.lane l).search = .running)))
    ∧ (∀ (p : Nat), has s.front.portsOn p = true →
      Runs (.lossOfFrame p) s (fun t => (t.port p).up = false
        ∧ ∀ l ∈ s.portLanes p, (t.lane l).search = if (s.lane l).signal then .running else .none)
      ∧ ((s.port p).defects = 0#6 → ∀ b, Runs (.remoteDefect p b) s (fun t => (t.port p).defects = (if b then 16#6 else 0#6)
          ∧ (t.port p).up = (s.port p).up))
      ∧ ((∀ l ∈ s.portLanes p, (s.lane l).signal = true ∧ (s.lane l).search = .running) → Runs (.portUp p) s (fun t =>
          (t.port p).up = true ∧ (t.port p).remoteFault = false ∧ (t.port p).defects.toNat = (s.port p).defects.toNat / 16 * 16
          ∧ ∀ l ∈ s.portLanes p, (t.lane l).lock = true ∧ (t.lane l).search = .finished))
      ∧ ((s.port p).defects = 0#6 → ∀ errors n good bad,
        (s.isCpri p = false → s.hasFec p = true → Runs (.degradeEval (.port p) errors n good bad) s (fun t =>
          (t.port p).defects = (if n < errors * 10 ^ s.nat OD.fecDegrade p then 32#6 else 0#6) ∧ (t.port p).up = (s.port p).up
          ∧ t.num OD.fecCorrected p = min OD.fecCorrected.hi (s.num OD.fecCorrected p + good)
          ∧ t.num OD.fecUncorrected p = min OD.fecUncorrected.hi (s.num OD.fecUncorrected p + bad)))
        ∧ (s.isCpri p = true → Runs (.degradeEval (.port p) errors n good bad) s (fun t =>
          (t.port p).defects = (if errors ≠ 0 then 32#6 else 0#6) ∧ (t.port p).up = (s.port p).up)))
      ∧ (s.isCpri p = true → (s.port p).cpriState = 1 → ∀ n, n = ((List.range 4).filter (fun k => bit (s.govN OD.cpriRates p) k)).length →
          n ≠ 0 → (s.port p).rateAt + 1000000 * s.nat OD.rateDwell p ≤ s.nowNs →
          Runs (.cpriRateDwell p) s (fun t => t.port p = { s.port p with cpriRate := ((s.port p).cpriRate + 1) % n, rateAt := s.nowNs }
            ∧ Frame [.front] [] s t)))
    ∧ (∀ (p vid : Nat) (mac : BitVec 48), s.members p ≠ [] → mac.toNat / 2 ^ 40 % 2 = 0 →
      let now := s.nowUs
      (s.front.fdb.find? (fun e => e.is vid mac) = none → s.front.fdb.length < 16384 →
        Runs (.learnRequest p vid mac) s (fun t => t.front.fdb = s.front.fdb ++ [⟨vid, mac, p, false, false, [], now, now, 0⟩]))
      ∧ (∀ e, s.front.fdb.find? (fun e => e.is vid mac) = some e →
        (e.port = p → Runs (.learnRequest p vid mac) s (fun t => t.front.fdb.find? (fun e => e.is vid mac) = some { e with seen := now }))
        ∧ (e.port ≠ p → e.isStatic = false → e.pinned = false → s.front.storm = false → e.moved + s.nat OD.moveHold ≤ now →
          e.flaps.length + 1 < s.nat OD.flapLimit → Runs (.learnRequest p vid mac) s (fun t => t.front.fdb.find? (fun e => e.is vid mac)
            = some { e with port := p, moved := now, seen := now, flaps := (now :: e.flaps).take 255 }))
        ∧ (e.port ≠ p → (e.isStatic = true ∨ e.pinned = true ∨ s.front.storm = true) → Runs (.learnRequest p vid mac) s (fun t =>
            (t.front.fdb.find? (fun e => e.is vid mac)).map (·.port) = some e.port
            ∧ t.num OD.movesRefused = min OD.movesRefused.hi (s.num OD.movesRefused + 1)))))
    ∧ (∀ (vid : Nat) (mac : BitVec 48),
      (s.nat OD.aging ≠ 0 → Runs (.entryAgeOut vid mac) s (fun t => ∀ e, e ∈ t.front.fdb ↔ e ∈ s.front.fdb
        ∧ (e.is vid mac = true → e.isStatic = true ∨ s.nowUs < e.seen + 1000000 * s.nat OD.aging)))
      ∧ Runs (.pinExpiry vid mac) s (fun t => (∀ e ∈ t.front.fdb, e.is vid mac = true → e.pinned = true →
          s.nowUs < e.pinnedAt + 1000000 * s.nat OD.pinTime)
        ∧ t.front.fdb.map (fun e => (e.vid, e.mac, e.port)) = s.front.fdb.map (fun e => (e.vid, e.mac, e.port)))
      ∧ (∀ (who : Requester) (p : Nat), s.admits who OD.staticEntry 0 →
        ((s.front.fdb.filter (fun e => !e.is vid mac)).length < 16384 → Runs (.staticEntry who vid mac p true) s (fun t => t.reply.reason = 0
          ∧ ∃ e ∈ t.front.fdb, e.is vid mac = true ∧ e.isStatic = true ∧ e.port = p))
        ∧ Runs (.staticEntry who vid mac p false) s (fun t => t.reply.reason = 0
          ∧ ∀ e, e ∈ t.front.fdb ↔ e ∈ s.front.fdb ∧ ¬(e.is vid mac = true ∧ e.isStatic = true))))
    ∧ (s.front.storm = true → s.front.stormAt + 1000000 ≤ s.nowUs → Runs .moveStormEnd s (fun t => t.front.moveReqs = 0
        ∧ t.front.storm = decide (s.nat OD.stormLimit < s.front.moveReqs) ∧ t.front.fdb = s.front.fdb))
    ∧ (∀ (i : Nat), (24 ≤ i ∨ s.lanesPowered = true ∧ s.govN OD.laneMode i ≠ 0
        ∧ (s.lane i).recalAt + s.nat OD.recalInterval i ≤ s.runSec) → s.flag OD.activityEnable 2 = true → Runs (.recalIntervalExpiry i) s (fun t => (⟨2, i⟩ : Act) ∈ t.res.queue ++ t.res.held))
    ∧ (∀ (i : Nat), i < 24 → s.holdsToken 2 i = true → Runs (.laneRecalibration i) s (fun t => 
        t.lane i = { s.lane i with recals := satInc (s.lane i).recals, recalAt := s.runSec }))
    ∧ (∀ (l : Nat), bit (s.nat OD.lanePrbsConfig l) 5 = true → Runs (.prbsCheckerLock (.line l)) s (fun t => (t.lane l).prbsLock = true
        ∧ Frame [.front] [] s t)
      ∧ ((s.lane l).prbsLock = true → s.num OD.lanePrbsBits l ≤ OD.lanePrbsBits.hi → s.num OD.lanePrbsErrors l ≤ OD.lanePrbsErrors.hi →
        Runs (.prbsCheckerLockLoss (.line l)) s (fun t => (t.lane l).prbsLock = false ∧ s.num OD.lanePrbsBits l ≤ t.num OD.lanePrbsBits l
          ∧ s.num OD.lanePrbsErrors l ≤ t.num OD.lanePrbsErrors l)))
    ∧ (∀ (who : Requester), s.admits who OD.prbsClear 1 → Runs (.prbsClear who 1) s (fun t => t.reply.reason = 0
        ∧ t.num OD.lanePrbsBits (s.itemOf who OD.prbsClear OD.prbsClear.addr) = 0
        ∧ t.num OD.lanePrbsErrors (s.itemOf who OD.prbsClear OD.prbsClear.addr) = 0))

/-! ## The Mogil link -/

/-- Groups of the link (R265–R270, R276, R279, R283, R394): aligned markers start the negotiation; a VERSION that meets the offer moves
the group to SECURING, the last fragment of a proof that verifies establishes the session, a CONFIRM that agrees makes the group
ACTIVE, and what fails leads to HOLD; lanes lose and find signal; the link is enabled and a standby takes over. -/
def Obligations.MogilGroups : Prop :=
  ∀ (g : Nat) (s : State), g < 4 →
    let x := s.grp g
    let early (c : LinkCell) : Prop := c.epoch = 0 ∧ c.tagZero = true
    let sealed_ (c : LinkCell) : Prop := c.tagOk = true ∧ c.epoch = x.epochRx ∧ c.epoch ≠ 0 ∧ x.lcRx ≤ c.lcCounter
    (∀ (ms : List MarkerRx), x.state = .training → x.search = .running → s.lanesPowered = true → s.govN OD.alignMode = 0 → x.defects = 0#8 →
      1 ≤ s.nat OD.loseM → ms.length = 8 → spread (ms.map (·.position)) ≤ 32 →
      (∀ (k : Nat) (r : MarkerRx), ms[k]? = some r → r.present = true ∧ r.typeOk = true ∧ r.lane = k ∧ r.group = g ∧ r.rdi = false
        ∧ (x.lane k).inFrame = true ∧ (x.lane k).pos = some r.position) →
      Runs (.mogilMarkerRx g ms) s (fun t => (t.grp g).state = .negotiating ∧ (t.grp g).search = .finished ∧ (t.grp g).lcTx = x.lcTx + 1
        ∧ (match s.linkVersion with
          | some n => (t.grp g).offMin = n ∧ (t.grp g).offMax = n
          | none => (t.grp g).offMin = bits (s.govN OD.mogilVersions) 2 0 ∧ (t.grp g).offMax = bits (s.govN OD.mogilVersions) 5 3)
        ∧ t.nat OD.skew g = spread (ms.map (·.position))))
    ∧ (∀ (c : LinkCell) (lo hi : Nat), x.state = .negotiating → early c →
      (max x.offMin lo ≤ min x.offMax hi → Runs (.mogilVersionRx g c lo hi) s (fun t => (t.grp g).state = .securing
        ∧ (t.grp g).agreed = some (min x.offMax hi) ∧ (t.grp g).peerMin = lo ∧ (t.grp g).peerMax = hi))
      ∧ (min x.offMax hi < max x.offMin lo → Runs (.mogilVersionRx g c lo hi) s (fun t => (t.grp g).state = .hold)))
    ∧ (∀ (c : LinkCell) (d : List (BitVec 8)) (a b : List (BitVec 8)), x.state = .securing → x.kexRunning = true → early c →
      let y := { x with kexFrags := Tab.set x.kexFrags 37 (d.take 25) }
      y.fragments 1 4 = some a → y.fragments 2 6 = some b →
      (Config.peerProof (a.take 81 ++ b.take 145) (s.govOct OD.peerIdentity) = true →
        Runs (.mogilKexRx g c 2 5 6 d) s (fun t => t.mogil.session = true ∧ ∀ k, k < 4 → (s.grp k).state = .securing →
          (t.grp k).state = .securing ∧ (t.grp k).secured = true ∧ (t.grp k).epochTx = 1 ∧ (t.grp k).epochRx = 1 ∧ (t.grp k).nextTx = 0
            ∧ (t.grp k).kexRunning = false))
      ∧ (Config.peerProof (a.take 81 ++ b.take 145) (s.govOct OD.peerIdentity) = false →
        Runs (.mogilKexRx g c 2 5 6 d) s (fun t => (t.grp g).state = .hold ∧ t.mogil.session = s.mogil.session))
      ∧ Runs (.mogilKexRx g c 3 0 0 d) s (fun t => (t.grp g).state = .hold))
    ∧ (x.kexRunning = true → (∀ k, k < g → (s.grp k).kexRunning = false) → s.mogil.kexAt + 100000 ≤ s.nowNs →
      (x.kexTries < 8 → Runs .mogilKexTimeout s (fun t => (t.grp g).kexTries = x.kexTries + 1 ∧ (t.grp g).kexFrags = []
        ∧ (t.grp g).state = x.state ∧ t.mogil.kexAt = s.nowNs))
      ∧ (8 ≤ x.kexTries → Runs .mogilKexTimeout s (fun t => (t.grp g).state = .hold ∧ (t.grp g).kexRunning = false)))
    ∧ (∀ (c : LinkCell) (a b d e v : Nat), x.state = .securing → x.secured = true → sealed_ c → x.old = false →
      (a = x.peerMin ∧ b = x.peerMax ∧ d = x.offMin ∧ e = x.offMax ∧ x.agreed = some v →
        Runs (.mogilConfirmRx g c a b d e v) s (fun t => (t.grp g).state = .active ∧ t.linkUp = true ∧ t.mogil.downAt = none
          ∧ (t.grp g).lcRx = c.lcCounter + 1))
      ∧ (¬(a = x.peerMin ∧ b = x.peerMax ∧ d = x.offMin ∧ e = x.offMax ∧ x.agreed = some v) →
        Runs (.mogilConfirmRx g c a b d e v) s (fun t => (t.grp g).state = .hold)))
    ∧ (x.state = .hold → x.holdAt + oneSecond ≤ s.nowNs → Runs (.mogilHoldExpiry g) s (fun t => t.grp g = { x with state := .training, agreed := none, secured := false }
        ∧ Frame [.mogil] [] s t))
    ∧ (∀ (k : Nat), k < 9 →
      (s.lanesPowered = true → x.state ≠ .off → Runs (.lossOfSignal (.mogil g k)) s (fun t => ((t.grp g).lane k).signal = false
        ∧ (t.grp g).search = .none ∧ (t.grp g).agreed = none ∧ (t.grp g).secured = false ∧ bit (t.grp g).defects.toNat 0 = true
        ∧ ((x.state = .negotiating ∨ x.state = .securing ∨ x.state = .active) → (t.grp g).state = .training)))
      ∧ (s.lanesPowered = true → (x.lane k).signal = false → Runs (.signalReturn (.mogil g k)) s (fun t => ((t.grp g).lane k).signal = true
          ∧ (t.grp g).state = x.state))
      ∧ (x.search = .debounce → x.signal = true → x.signalAt + 1000 * s.nat OD.mogilDebounce ≤ s.nowNs → Runs (.signalDebounceExpiry (.mogil g k)) s (fun t =>
          t.grp g = { x with search := .running } ∧ Frame [.mogil] [] s t))
      ∧ (x.state ≠ .off → x.signal = true → k < 8 → x.search ≠ .debounce →
        Runs (.lossOfLock (.mogil g k)) s (fun t => ((t.grp g).lane k).lock = false ∧ (t.grp g).search = .running)
        ∧ Runs (.lossOfBlockLock (.mogil g k)) s (fun t => ((t.grp g).lane k).inFrame = false ∧ (t.grp g).search = .running))
      ∧ (bit (s.nat OD.mogilPrbsConfig g) 5 = true → Runs (.prbsCheckerLock (.mogil g k)) s (fun t => (t.grp g).prbsLock = true
          ∧ Frame [.mogil] [] s t)
        ∧ (x.prbsLock = true → Runs (.prbsCheckerLockLoss (.mogil g k)) s (fun t => (t.grp g).prbsLock = false))))
    ∧ (x.state ≠ .off → x.defects = 0#8 → ∀ errors n good bad, Runs (.degradeEval (.group g) errors n good bad) s (fun t =>
        (t.grp g).defects = (if n < errors * 10 ^ s.nat OD.degrade then 128#8 else 0#8) ∧ (t.grp g).state = x.state))
    ∧ (∀ (who : Requester),
      (s.admits who OD.mogilEnable 1 → s.enableMode = true → s.mogilReason = 0 → Runs (.mogilEnable who 1) s (fun t => t.reply.reason = 0
        ∧ t.flag OD.mogilEnable = true ∧ t.mogil.on = true ∧ t.gov OD.mogilGroups = s.num OD.mogilGroups
        ∧ (bit (t.govN OD.mogilGroups) g = true → x.state = .off → (t.grp g).state = .training ∧ (t.domain (192 + g)).state = .on)
        ∧ (bit (t.govN OD.mogilGroups) g = false → (t.grp g).state = .off ∧ (t.domain (192 + g)).state = .lockedOff)))
      ∧ (s.admits who OD.mogilEnable 0 → s.enableMode = true → Runs (.mogilEnable who 0) s (fun t => t.reply.reason = 0
        ∧ t.flag OD.mogilEnable = false ∧ t.mogil.on = false ∧ t.mogil.session = false ∧ (t.grp g).state = .off ∧ (t.grp g).defects = 0#8))
      ∧ (s.admits who OD.takeoverNow 1 → s.isStandby = true → Runs (.takeoverNow who 1) s (fun t => t.reply.reason = 0 ∧ t.mogil.taken = true
        ∧ ∀ n ∈ s.standbyParts, (s.part n).state = .paused → (t.part n).state = .enabled)))
    ∧ (s.isStandby = true → bit (s.nat OD.takeover) 0 = true → s.linkLost = true →
      (s.mogil.peerHealthy = false → Runs .autoTakeover s (fun t => t.mogil.taken = true
        ∧ ∀ n ∈ s.standbyParts, (s.part n).state = .paused → (t.part n).state = .enabled))
      ∧ (s.mogil.peerHealthy = true → Runs .autoTakeover s (· = s)))
    ∧ (∀ (b : Bool), Runs (.peerHealthInputChange b) s (fun t => t.mogil.peerHealthy = b
        ∧ (b = false → s.isStandby = true → bit (s.nat OD.takeover) 0 = true → s.linkLost = true → t.mogil.taken = true)))

/-- Traffic of the link (R271–R275, R277, R280, R282): an accepted packet advances the expected counter, one out of sequence asks
once for a resend; a sent packet joins the retry buffer until it is acknowledged; a NAK or a timeout resends in order as far as
credit lasts; a lost group's packets go to the others; a channel send waits for the peer's answer and ends as it says.  How a
channel's data and event look in a packet is the model's choice (log 88). -/
def Obligations.MogilTraffic : Prop :=
  ∀ (g : Nat) (s : State), g < 4 →
    let x := s.grp g
    let sealed_ (c : LinkCell) : Prop := c.tagOk = true ∧ c.epoch = x.epochRx ∧ c.epoch ≠ 0 ∧ x.lcRx ≤ c.lcCounter
    let resent (l : List Sent) (t : State) : Prop := ∃ n, n ≤ l.length
      ∧ t.mogil.out = s.mogil.out ++ (l.take n).map (fun e => (g, e.pkt))
      ∧ (t.grp g).retry.map (fun e => (e.counter, e.due)) = (l.take n).map (fun e => (e.counter, false)) ++ (l.drop n).map (fun e => (e.counter, true))
      ∧ ∀ e, l[n]? = some e → (t.grp g).credit e.vc e.cells = false
    (∀ (c : LinkCell), x.state = .active → sealed_ c → x.nextTx ≠ 0 →
      Runs (.mogilLinkCellRx g c) s (fun t => (t.grp g).lcRx = c.lcCounter + 1
        ∧ (t.grp g).retry.map (·.counter) = (x.retry.filter (fun e => decide (c.ack < e.counter))).map (·.counter)
        ∧ (∀ k, k < c.credits.length → Tab.get 0 (t.grp g).retCells k = c.credits.getD k 0 % 4096)
        ∧ Frame [.mogil] [keyCode (OD.resends.key g)] s t)
      ∧ ((∀ e ∈ x.retry, e.resends < s.nat OD.retryLimit ∧ e.due = false) →
        Runs (.mogilNakRx g c) s (resent (x.retry.filter (fun e => decide (c.ack < e.counter)))))
      ∧ (∀ (lost last : Nat), lost < 4 → lost ≠ g → (s.grp lost).state ≠ .active → Runs (.mogilLastAcceptedRx g c lost last) s (fun t =>
          (t.grp lost).retry = [] ∧ (t.grp lost).resuming = false
          ∧ t.mogil.waitq = ((s.grp lost).retry.filter (fun e => decide (last < e.counter))).map (·.pkt) ++ s.mogil.waitq)))
    ∧ (x.state ≠ .off → Runs (.mogilLinkCellSend g) s (fun t => t.grp g = { x with lcTx := x.lcTx + 1, ackDue := false, nakDue := false }
        ∧ (∃ c, t.mogil.cells = s.mogil.cells ++ [c] ∧ c.grp = g ∧ c.msg = (if x.nakDue then 1 else 0) ∧ c.ack = x.nextRx - 1
          ∧ c.credits = (List.range 4).map (fun k => Tab.get 0 x.takenCells k) ∧ c.lcCounter = x.lcTx)
        ∧ Frame [.mogil] [] s t))
    ∧ (∀ (p : MogPacket), x.state = .active →
      (p.rowError = false → p.counter = x.nextRx → p.epoch = x.epochRx → p.epoch ≠ 0 → p.tagOk = true → p.epoch ≠ 0xFFFFFFFF →
        x.epochTx ≠ 0xFFFFFFFF →
        (∀ b h, p.pkt.kind = .mogil → p.pkt.cmd = .msg → p.pkt.arg.toNat < 256 →
          let ch := p.pkt.arg.toNat
          let data := p.pkt.data
          let m := s.govN OD.channelMap ch
          Tab.find s.mogil.chanRx ch = none → bit m 31 = true → bits m 15 6 = p.pkt.part → data.length ≤ h.bytes →
          s.hamper (bits m 5 0) = some h → h.serves p.pkt.part false = true →
          h.takes 1 = some [b] → b < h.count → b < 262144 → Runs (.mogilPacketRx g p) s (fun t => (t.grp g).nextRx = x.nextRx + 1
            ∧ (t.grp g).ackDue = true ∧ (t.grp g).nakSent = false
            ∧ t.num OD.packetsRx g = min OD.packetsRx.hi (s.num OD.packetsRx g + 1)
            ∧ Tab.find t.mogil.chanRx ch = some ⟨some (handleOf (bits m 5 0) b), data.length⟩
            ∧ (∀ i, i < data.length → Memory.byte t.mem (h.at_ b + i) = data.getD i 0#8)
            ∧ ∀ a, ¬(h.at_ b ≤ a ∧ a < h.at_ b + data.length) → Memory.byte t.mem a = Memory.byte s.mem a))
        ∧ (∀ (ch : Nat) (z : ChanRx), p.pkt.kind = .mogil → p.pkt.cmd = .msg → ch < 256 → p.pkt.arg.toNat = 256 + ch →
          Tab.find s.mogil.chanRx ch = some z → Runs (.mogilPacketRx g p) s (fun t => Tab.find t.mogil.chanRx ch = none
            ∧ t.mogil.waitq = s.mogil.waitq ++ [if z.buf = none
              then { p.pkt with cmd := .err, status := 1, data := [], bytes := 0 }
              else { p.pkt with cmd := .ack, status := 0, data := [], bytes := 0 }]))
        ∧ (∀ (h att : Nat) (y : Slug), p.pkt.kind = .mogil → p.pkt.arg.toNat < 512 → p.pkt.slug = some (h, att) → s.runsAttempt h att y →
          s.imp y.imp ≠ none → y.abortPending = false → Tab.find s.mogil.chanSent h ≠ none →
          (p.pkt.cmd = .ack → Runs (.mogilPacketRx g p) s (fun t => t.endedWith h .ok ∧ Tab.find t.mogil.chanSent h = none))
          ∧ (p.pkt.cmd = .err → Runs (.mogilPacketRx g p) s (fun t => t.endedWith h .fault ∧ Tab.find t.mogil.chanSent h = none)))
        ∧ (p.pkt.cmd = .rdata → p.pkt.malformed = false → Runs (.mogilPacketRx g p) s (fun t => (t.grp g).nextRx = x.nextRx + 1
            ∧ (t.grp g).ackDue = true ∧ t.mem = s.mem)))
      ∧ (p.rowError = false → p.counter ≠ x.nextRx → Runs (.mogilPacketRx g p) s (fun t => (t.grp g).nextRx = x.nextRx ∧ (t.grp g).nakSent = true
          ∧ (x.nakSent = false → (t.grp g).nakDue = true) ∧ t.mem = s.mem
          ∧ t.num OD.seqDrops g = min OD.seqDrops.hi (s.num OD.seqDrops g + 1))))
    ∧ (∀ (p : FabPacket), x.state = .active → s.startable g p = true → x.canSend p = true → x.epochTx + 1 < 0xFFFFFFFF →
      x.epochRx ≠ 0xFFFFFFFF → Runs (.mogilPacketSend g p) s (fun t => t.mogil.waitq = s.mogil.waitq.erase p ∧ (t.grp g).nextTx = x.nextTx + 1
        ∧ t.mogil.out = s.mogil.out ++ [(g, p)] ∧ ∃ e, (t.grp g).retry = x.retry ++ [e] ∧ e.counter = x.nextTx ∧ e.pkt = p
          ∧ e.resends = 0 ∧ e.due = false
          ∧ e.epoch = (t.grp g).epochTx ∧ (t.grp g).epochTx = if s.nat OD.rekeyPackets ≤ x.epochPkts then x.epochTx + 1 else x.epochTx))
    ∧ (x.state = .active → x.retry ≠ [] → x.ackAt + s.nat OD.retryTimeout ≤ s.nowNs →
      ((∀ e ∈ x.retry, e.resends < s.nat OD.retryLimit) → Runs (.mogilRetryTimeout g) s (fun t => (t.grp g).state = .active
        ∧ (t.grp g).ackAt = s.nowNs ∧ resent x.retry t))
      ∧ ((∃ e ∈ x.retry, s.nat OD.retryLimit ≤ e.resends) → Runs (.mogilRetryTimeout g) s (fun t => (t.grp g).state = .training)))
    ∧ (x.resuming = true → x.resumeAt + 1000 * s.nat OD.resumeTimeout ≤ s.nowNs → Runs (.mogilResumeTimeout g) s (fun t => (t.grp g).retry = [] ∧ (t.grp g).resuming = false
        ∧ ∀ e ∈ x.retry, vcOf e.pkt.cmd = 0 → { e.pkt with cmd := .err, status := 8, data := [], bytes := 0 } ∈ t.fab.delivered))
    ∧ (∀ (h d : Nat) (x0 : Slug) (m : Impression),
      let y := x0.deliver m
      let q : Acc := ⟨.mogil, 0, some y.part, false, some (h, y.attempt), false⟩
      s.slug h = some x0 → s.imp x0.imp = some m → (s.select 13 0).map (·.1) = some h → x0.kind = 1 → x0.abortPending = false →
      Described s q y d → headerOk d = true → dItems d = 1 → bits d 511 160 = 0 → x0.commit = .external → y.hasArg 1 = true →
      y.hasArg 2 = false → (y.taint = true → bit d 22 = true) →
      (s.linkUp = false → Runs (.mogilChannelSend h) s (fun t => t.endedWith h .fault))
      ∧ (s.linkUp = true → OpenTo s q true false (s.argAt y 1) (bits d 159 136) →
        Runs (.mogilChannelSend h) s (fun t => t.mem = s.mem ∧ t.slug h = some y ∧ Tab.find t.mogil.chanSent h = some s.nowNs ∧ t.mogil.waitq
          = s.mogil.waitq ++ channelPackets y h (bits d 135 128) (s.load (s.argAt y 1) (bits d 159 136)))))
    ∧ (∀ (h at_ : Nat) (y : Slug), s.slug h = some y → s.imp y.imp ≠ none → y.state = .running → y.cls = 13 → y.abortPending = false →
      Tab.find s.mogil.chanSent h = some at_ → at_ + 1000 * s.nat OD.channelTimeout ≤ s.nowNs → Runs (.mogilChannelTimeout h) s (fun t => t.endedWith h .fault))

/-! ## Fabric and memories -/

/-- Packets at their targets (R34, R291–R293, R313–R316): a read answers the bytes of memory, a write and an atomic change exactly
their bytes, a hamper gives out, releases, seals and unseals buffers, and every other packet reaches its endpoint. -/
def Obligations.FabricPackets : Prop :=
  ∀ (p : FabPacket) (s : State), p.malformed = false → p.data.length ≤ 512 → p.ecc = .clean → s.spineOn = true →
    let q := accOf p
    let n := p.data.length
    let on (d : Option Nat) : Prop := ∀ k, d = some k → (s.domain k).state = .on ∧ (s.domain k).held = []
    let h := bits p.arg.toNat 23 0
    (1 ≤ p.bytes → p.bytes ≤ 512 → on (s.memDomain p.addr) → OpenTo s q true false p.addr p.bytes →
      Runs (.rd p) s (fun t => t.reply.fab = some .rdata ∧ t.reply.status = 0 ∧ t.reply.data = s.load p.addr p.bytes
        ∧ Frame [.fab, .reply] [OD.readsPeak.code] s t ∧ t.fab.poison = s.fab.poison))
    ∧ (1 ≤ n → p.bytes = n → on (s.memDomain p.addr) → OpenTo s q false true p.addr n →
      let stored (t : State) : Prop := (∀ i, i < n → Memory.byte t.mem (p.addr + i) = p.data.getD i 0#8)
        ∧ (∀ a, ¬(p.addr ≤ a ∧ a < p.addr + n) → Memory.byte t.mem a = Memory.byte s.mem a)
        ∧ ∀ w, w ∈ t.fab.poison ↔ w ∈ s.fab.poison ∧ ¬(p.addr ≤ 64 * w ∧ 64 * w + 64 ≤ p.addr + n)
      Runs (.wr p) s (fun t => t.reply.fab = some .ack ∧ t.reply.status = 0 ∧ stored t ∧ Frame [.mem, .fab, .reply] [] s t)
      ∧ Runs (.wrp p) s (fun t => stored t ∧ Frame [.mem, .fab] [] s t))
    ∧ (on (s.memDomain p.addr) → OpenTo s q true true p.addr 8 →
      let old := s.loadN p.addr 8
      let swapped (v : Nat) (t : State) : Prop := t.reply.fab = some .rdata ∧ t.reply.data = leBytes 8 old ∧ t.loadN p.addr 8 = v % 2 ^ 64
        ∧ (∀ a, ¬(p.addr ≤ a ∧ a < p.addr + 8) → Memory.byte t.mem a = Memory.byte s.mem a) ∧ Frame [.mem, .fab, .reply] [] s t
      Runs (.atomAdd p) s (swapped (old + p.arg.toNat)) ∧ Runs (.atomSwap p) s (swapped p.arg.toNat)
        ∧ Runs (.atomCompareSwap p) s (swapped (if old = leNat (p.data.take 8) then p.arg.toNat else old)))
    ∧ (s.fenced q = false → ∀ r : Hamper,
      (s.hamper (bits p.arg.toNat 5 0) = some r → r.serves p.part p.priv = true →
        (∀ b, r.takes 1 = some [b] → b < r.count → b < 262144 → Runs (.alloc p) s (fun t => t.reply.fab = some .rdata
          ∧ t.reply.data = leBytes 8 (handleOf (bits p.arg.toNat 5 0) b) ++ leBytes 8 (r.at_ b)
          ∧ (t.hamper (bits p.arg.toNat 5 0)).bind (fun k => Tab.find k.inUse b)
              = some (match p.slug with | some (sl, att) => Charge.attempt sl att | none => .unit p.kind p.unit)))
        ∧ (r.takes 1 = none → Runs (.alloc p) s (fun t => t.reply.fab = some .err ∧ t.reply.status = 9 ∧ t.fab = s.fab
          ∧ t.num OD.allocFails (bits p.arg.toNat 5 0) = min OD.allocFails.hi (s.num OD.allocFails (bits p.arg.toNat 5 0) + 1))))
      ∧ (s.bufUsed h = true → s.chargedElsewhere { p with cmd := .free } h = false → s.bound h = false → s.waiters (hampOf h) = [] →
        Runs (.free p) s (fun t => t.reply.fab = some .ack ∧ t.bufUsed h = false ∧ t.bufSealed h = false ∧ t.mem = s.mem))
      ∧ (s.bufUsed h = true → s.chargedElsewhere { p with cmd := .free } h = false → s.bound h = true →
        Runs (.free p) s (fun t => t.reply.fab = some .ack ∧ t.fab = s.fab)))
    ∧ ((s.hamper (hampOf h)).isSome = true → p.kind = .galley →
      Runs (.sealBuf p) s (fun t => t.reply.fab = some .ack ∧ t.bufSealed h = true ∧ Frame [.fab, .reply] [] s t)
      ∧ Runs (.unsealBuf p) s (fun t => t.reply.fab = some .ack ∧ t.bufSealed h = false ∧ Frame [.fab, .reply] [] s t))
    ∧ (on (endpointDomain p.dst) → ∀ c k, (c, k) ∈ [(FabCmd.msg, Instr.msg p), (.rdata, .rdata p), (.ack, .ack p), (.err, .err p)] →
      Runs k s (fun t => t.fab.delivered = s.fab.delivered ++ [{ p with cmd := c }] ∧ Frame [.fab] [] s t))
    ∧ (∀ (src : ReqKind) (u addr : Nat) (priv : Bool) (v : BitVec 64), spanZone addr 8 = .devRegs →
      let r : Acc := ⟨src, u, none, priv, none, false⟩
      (src = .recovery ∨ src = .basecamp ∨ src = .cc ∧ priv = true → s.fenced r = false →
        (devReadOnly addr = false → ccReg addr = none → submitReg addr = none → noiseReg addr = none →
          addr ≠ 0xF000001008 → addr ≠ eventReg → Runs (.registerWrite src u priv addr v) s (fun t => t.reply.fab = some .ack
            ∧ t.reply.status = 0 ∧ t.reply.reason = 0 ∧ Tab.get 0#64 t.fab.regs addr = v
            ∧ (∀ a, a ≠ addr → Tab.get 0#64 t.fab.regs a = Tab.get 0#64 s.fab.regs a) ∧ t.mem = s.mem))
        ∧ (devReadOnly addr = true → Runs (.registerWrite src u priv addr v) s (fun t => t.reply.fab = some .err
            ∧ t.reply.status = 1 ∧ t.reply.reason = 0x0D04 ∧ Frame [.reply] [] s t)))
      ∧ (src ≠ .recovery → src ≠ .basecamp → ¬(src = .cc ∧ priv = true) → s.fenced r = false →
        Runs (.registerWrite src u priv addr v) s (fun t => t.reply.fab = some .err ∧ t.reply.status = 1
          ∧ t.fab.regs = s.fab.regs ∧ t.mem = s.mem)))

/-- Links, domains, banks, scrub and hampers (R296, R299, R300, R303–R307, R311–R313). -/
def Obligations.FabricUpkeep : Prop :=
  ∀ (s : State),
    let failed (p : FabPacket) (e : Nat) : FabPacket := { p with cmd := .err, status := e, data := [], bytes := 0 }
    let spare := (s.bankIn .spare).isSome = true ∨ (s.bankIn .underTest).isSome = true
    (∀ (r l : Nat),
      let lost (t : State) : Prop := (∀ k ∈ linkEnds r l, has t.fab.linksDown k = true)
        ∧ (∀ k, k ∉ linkEnds r l → has t.fab.linksDown k = has s.fab.linksDown k) ∧ bit (t.nat OD.degradedCauses) 2 = true
      (s.trunkUp r l = true →
        let l16 := recent s.nowNs 1000 (Tab.get [] s.fab.replayAt (linkKey r l))
        (l16.length < 16 → Runs (.flitCrcError r l) s (fun t => t.num OD.replays r = min OD.replays.hi (s.num OD.replays r + 1)
          ∧ t.fab.linksDown = s.fab.linksDown ∧ Frame [.fab] [keyCode (OD.replays.key r)] s t))
        ∧ (16 ≤ l16.length → Runs (.flitCrcError r l) s (fun t => t.num OD.replays r = min OD.replays.hi (s.num OD.replays r + 1) ∧ lost t))
        ∧ Runs (.fabricLinkDown r l) s lost)
      ∧ (has s.fab.linksDown (linkKey r l) = true → Runs (.fabricLinkReturn r l) s (fun t =>
          (∀ k, has t.fab.linksDown k = (has s.fab.linksDown k && !(linkEnds r l).contains k))
          ∧ (∀ k ∈ linkEnds r l, has t.fab.linksBack k = true) ∧ bit (t.nat OD.degradedCauses) 2 = !t.fab.linksDown.isEmpty)))
    ∧ (∀ (us : List (Nat × Nat)), (∀ u ∈ us, u.2 < 256 ∧ (s.unit u.1 u.2).state ≠ .retired) →
      Runs (.edgeLinkDown us) s (fun t => ∀ u ∈ us, t.retired u.1 u.2))
    ∧ (∀ (d : Nat), (s.domain d).state = .sleep → (s.domain d).waking = true →
      ((s.domain d).held = [] → Runs (.domainWakeReady d) s (fun t => (t.domain d).state = .on ∧ (t.domain d).waking = false
        ∧ t.fab.delivered = s.fab.delivered))
      ∧ (∀ p, (s.domain d).held = [p] → p.cmd = .rd → p.ecc = .clean → OpenTo s (accOf p) true false p.addr p.bytes →
        Runs (.domainWakeReady d) s (fun t => (t.domain d).state = .on ∧ (t.domain d).held = [] ∧ t.fab.delivered = s.fab.delivered
          ++ [{ p with cmd := .rdata, status := 0, data := s.load p.addr p.bytes, bytes := p.bytes }])))
    ∧ (∀ (d : Nat), (s.domain d).state = .sleep → (s.domain d).waking = true → (s.domain d).wakeAt + s.nat OD.wakeTimeout * 1000 ≤ s.nowNs →
      Runs (.wakeTimeout d) s (fun t => (t.domain d).waking = false ∧ (t.domain d).held = []
        ∧ (∀ p ∈ (s.domain d).held, isRequest p.cmd = true → failed p 5 ∈ t.fab.delivered) ∧ t.mem = s.mem))
    ∧ (∀ (d : Nat), d < 212 → (s.domain d).state ≠ .off → Runs (.domainLockOff d) s (fun t => (t.domain d).state = .lockedOff
        ∧ (t.domain d).held = [] ∧ (∀ p ∈ (s.domain d).held, isRequest p.cmd = true → failed p 4 ∈ t.fab.delivered) ∧ t.mem = s.mem))
    ∧ (∀ (b : Nat), b < 24 → (s.bank b).state = .active → spare → s.fab.copying = none →
      (∀ m, Runs (.ssAccessRepeat b m) s (fun t => (t.bank b).state = .copying ∧ t.fab.copying = some b
        ∧ (m = true → (t.bank b).pathOff = true)))
      ∧ (∀ who, s.admits who OD.spareNow 1 → s.itemOf who OD.spareNow OD.spareNow.addr = b → Runs (.spareNow who 1) s (fun t =>
          t.reply.reason = 0 ∧ (t.bank b).state = .copying ∧ t.fab.copying = some b)))
    ∧ (∀ (b k l : Nat), s.fab.copying = some b → (s.bank b).state = .copying → s.bankIn .spare = some k → s.logicalBank b = some l →
      s.fab.copyAt + copyNs ≤ s.nowNs →
      Runs .ssSpareFlip s (fun t => (t.bank k).state = .active ∧ (t.bank b).state = .retired ∧ t.physBank l = k ∧ t.fab.copying = none
        ∧ t.fab.forwarding = some b ∧ bit (t.nat OD.degradedCauses) 1 = true ∧ t.mem = s.mem))
    ∧ (∀ (b : Nat), s.fab.forwarding = some b → s.fab.forwardAt + 1000000 ≤ s.nowNs → Runs .ssForwardEnd s (fun t => t.fab.forwarding = none
        ∧ (t.domain (108 + b)).state = .lockedOff))
    ∧ (s.flag OD.activityEnable 6 = true → s.fab.testAt + s.nat OD.spareTestInterval * oneSecond ≤ s.nowNs → Runs .spareTestIntervalExpiry s (fun t => (⟨6, 0⟩ : Act) ∈ t.res.queue ++ t.res.held))
    ∧ (∀ (b : Nat), s.bankIn .underTest = some b → s.fab.copying = none → s.holdsToken 6 0 = true → (∀ a ∈ s.res.queue, a.code ≠ 6) →
      Runs (.spareBankTest true) s (fun t => (t.bank b).state = .spare)
      ∧ Runs (.spareBankTest false) s (fun t => (t.bank b).state = .retired ∧ bit (t.nat OD.degradedCauses) 1 = true))
    ∧ (∀ (i : Nat) (e : EccEvent) (w : Bool),
      let r := s.scrubRange i
      let a := Tab.get r.1 s.fab.scrubAt i
      i < 15 → s.holdsToken 0 i = true → s.scrubHeld a = false →
      Runs (.scrubStep i e w) s (fun t => t.mem = s.mem
        ∧ Tab.get 0 t.fab.scrubAt i = (if a + 64 < r.1 + r.2.1 then a + 64 else r.1)
        ∧ (e = .uncorrectable → w = false → (∃ k, zoneOf a = .hbm k) ∨ (∃ c, zoneOf a = .cluster c) ∨ zoneOf a = .slotStore →
            a / 64 ∈ t.fab.poison)
        ∧ ((e = .clean ∨ w = true ∧ e = .uncorrectable) → t.fab.poison = s.fab.poison)))
    ∧ (∀ (k : Nat), Runs (.hbmRefresh k) s (fun t => Tab.get 0 t.fab.refreshes k = Tab.get 0 s.fab.refreshes k
        + (if 850 < Tab.get 0 s.power.hbmTemp k then 2 else 1) ∧ Frame [.fab] [] s t))
    ∧ (∀ (who : Requester),
      let n := s.itemOf who OD.hamperEnable OD.hamperEnable.addr
      let r := s.hamperOf n
      (s.admits who OD.hamperEnable 1 → s.enableMode = true → s.hamperReason n = 0 → Runs (.hamperEnable who) s (fun t => t.reply.reason = 0
        ∧ t.flag OD.hamperEnable n = true ∧ (∃ k, t.hamper n = some k ∧ k.sameValues r = true)
        ∧ (s.hamper n = none → t.hamper n = some r ∧ t.num OD.freeLow n = r.count)))
      ∧ (s.admits who OD.hamperEnable 0 → ∀ k, s.hamper n = some k →
        (k.inUse = [] → Runs (.hamperDisable who) s (fun t => t.reply.reason = 0 ∧ t.hamper n = none ∧ t.flag OD.hamperEnable n = false))
        ∧ (k.inUse ≠ [] → Runs (.hamperDisable who) s (fun t => t.reply.reason = 0x0804 ∧ Frame [.reply] [] s t))))

/-! ## The host interface -/

/-- HOST slugs (R323, R327, R328, R330, R331): without a host path a slug ends HOST_UNAVAILABLE; FETCH asks for the entries that
are available and GATHER for its list, the last completion ends them OK with their data in the output; DELIVER writes its data, its
completion entry and its message, or waits while the completion ring is full; a request that fails or times out ends its slug. -/
def Obligations.HostSlugs : Prop :=
  ∀ (s : State) (h d : Nat),
    (∀ (kind : Nat) (c : Instr) (x0 : Slug) (m : Impression),
      let y := x0.deliver m
      let p := x0.part
      let q : Acc := ⟨.host, 0, some p, false, some (h, x0.attempt), false⟩
      let f := s.govN OD.hostFunction p
      (kind, c) ∈ [(1, Instr.fetch h), (2, Instr.gather h), (3, Instr.deliver h)] → s.slug h = some x0 → s.imp x0.imp = some m →
      (s.select 12 0).map (·.1) = some h → x0.kind = kind → x0.abortPending = false → s.hostJob h = none → s.countRunning 12 < 64 →
      (s.pathUp p = false → Runs c s (fun t => t.endedWith h .hostUnavailable ∧ t.mem = s.mem ∧ t.host.writes = s.host.writes
        ∧ t.num OD.hostUnavailable p = min OD.hostUnavailable.hi (s.num OD.hostUnavailable p + 1)))
      ∧ (s.pathUp p = true → (s.fn f).ats = false → Described s q y d → hostDescOk kind d = true → x0.commit = .external →
        x0.affinity = 0 → y.hasArg 1 = decide (2 ≤ kind) → y.hasArg 2 = decide (kind = 3) → (y.taint = true → bit d 22 = true) →
        (∀ (pool : Hamper) (b : Nat) (rs : List HReq), kind ≠ 3 → s.hostBusy h = false → bits d 33 24 < m.bindCount →
          (∀ g, s.descQp p d = some g →
            let n := min (bits d 159 144) (s.qp g).available
            kind = 1 → Outputs s q p (dHamper d) (64 + 64 * bits d 159 144) pool [b] →
              (rs = listReads f p h ((s.qp g).entries n) 64 → rs ≠ [] → Runs c s (fun t => t.slug h = some y ∧ t.mem = s.mem
                ∧ ∀ r ∈ rs, r ∈ t.host.heldReqs ∨ ∃ k, Tab.find t.host.tags k = some { req := r, sentAt := s.nowNs }))
              ∧ (n = 0 → Runs c s (fun t => t.endedWith h .ok ∧ t.loadN (pool.at_ b) 64 = (s.qp g).sqHead % (s.qp g).sqSize * 65536 % 2 ^ 512
                ∧ ∀ a, ¬(pool.at_ b ≤ a ∧ a < pool.at_ b + 64) → Memory.byte t.mem a = Memory.byte s.mem a)))
          ∧ (let l := hostList (s.load (s.argAt y 1) (16 * dItems d)) (dItems d)
             kind = 2 → OpenTo s q true false (s.argAt y 1) (16 * dItems d) → (∀ e ∈ l, e.2.2 = true) →
             Outputs s q p (dHamper d) (listBytes l) pool [b] →
              (rs = listReads f p h (l.map (fun e => (e.1, e.2.1))) 0 → rs ≠ [] → Runs c s (fun t => t.slug h = some y
                ∧ t.mem = s.mem ∧ ∀ r ∈ rs, r ∈ t.host.heldReqs ∨ ∃ k, Tab.find t.host.tags k = some { req := r, sentAt := s.nowNs }))
              ∧ (listBytes l = 0 → Runs c s (fun t => t.endedWith h .ok ∧ t.mem = s.mem))))
        ∧ (∀ (g : Nat),
          let z := s.qp g
          let l := hostList (s.load (s.argAt y 2) (16 * dItems d)) (dItems d)
          let data := s.load (s.argAt y 1) (listBytes l)
          kind = 3 → (s.descQp p d).getD 16384 = g → ((bit d 141 || bit d 140) = true → (s.descQp p d).isSome = true) → OpenTo s q true false (s.argAt y 2) (16 * dItems d) → (∀ e ∈ l, e.2.2 = true) →
          OpenTo s q true false (s.argAt y 1) (listBytes l) →
            (bit d 141 = true → z.cqFull = true → Runs c s (fun t => t.slug h = some y ∧ has t.host.cqWaiting h = true
              ∧ t.host.writes = s.host.writes ∧ t.mem = s.mem))
            ∧ ((bit d 141 = true → z.cqFull = false) → Runs c s (fun t => t.endedWith h .ok ∧ t.mem = s.mem
              ∧ t.host.writes = s.host.writes ++ deliverWrites f l data
                  ++ (if bit d 141 then [⟨f, z.cqBase + 32 * z.cqTail, z.entry d⟩] else [])
              ∧ (t.qp g).cqTail = (if bit d 141 then (z.cqTail + 1) % z.cqSize else z.cqTail)
              ∧ (t.qp g).phase = (if bit d 141 ∧ (z.cqTail + 1) % z.cqSize = 0 then !z.phase else z.phase)
              ∧ (t.qp g).cqHead = z.cqHead ∧ (t.qp g).sqHead = z.sqHead
              ∧ (bit d 140 = true → (((s.fn f).msixOn && (s.fn f).bme && has (s.fn f).unmasked z.vector) = true →
                  (t.fn f).sent = (s.fn f).sent ++ [z.vector])
                ∧ (((s.fn f).msixOn && (s.fn f).bme && has (s.fn f).unmasked z.vector) = false → has (t.fn f).pending z.vector = true))
              ∧ (bit d 140 = false → t.fn f = s.fn f))))))
    ∧ (∀ (x : Slug), s.slug h = some x → x.state = .running → x.abortPending = false → s.imp x.imp ≠ none →
      (has s.host.cqWaiting h = true → Tab.get 0 s.host.cqAt h + s.nat OD.cqWait * 1000 ≤ s.nowNs → Runs (.cqWaitTimeout h) s (fun t => t.endedWith h .hostUnavailable ∧ has t.host.cqWaiting h = false
        ∧ t.host.writes = s.host.writes ∧ t.mem = s.mem))
      ∧ (∀ (tag : Nat) (z : HTag) (e : CplStatus) (data : List (BitVec 8)), Tab.find s.host.tags tag = some z → z.req.handle = h →
        z.req.len ≠ 0 → z.quarantined = false → z.dead = false → z.late = false → z.wasReset = false →
        (e ≠ .sc → Runs (.pcieCompletionRx tag e data) s (fun t => t.endedWith h .hostUnavailable ∧ t.mem = s.mem
          ∧ (t.fn z.req.fn).aer = (s.fn z.req.fn).aer + 1 ∧ t.num OD.cplErrors = min OD.cplErrors.hi (s.num OD.cplErrors + 1)))
        ∧ (z.sentAt + s.cplTimeoutNs ≤ s.nowNs → Runs (.pcieCompletionTimeout tag) s (fun t => t.endedWith h .hostUnavailable ∧ t.mem = s.mem
          ∧ (t.fn z.req.fn).aer = (s.fn z.req.fn).aer + 1 ∧ t.num OD.cplTimeouts = min OD.cplTimeouts.hi (s.num OD.cplTimeouts + 1)))
        ∧ (∀ (j : Job) (m : Impression),
          let q : Acc := ⟨.host, 0, some x.part, false, some (h, x.attempt), false⟩
          let out := s.hostOut j
          let n := (data.take z.req.len).length
          e = .sc → x.cls = 12 → s.hostJob h = some j → s.imp x.imp = some m → bits j.desc 33 24 < m.bindCount →
          OpenTo s q false true (out + z.req.off) n →
          (0 < n → n < z.req.len → Runs (.pcieCompletionRx tag .sc data) s (fun t => t.slug h = some x
            ∧ Tab.find t.host.tags tag
                = some { z with req := { z.req with addr := z.req.addr + n, len := z.req.len - n, off := z.req.off + n } }
            ∧ (∀ i, i < n → Memory.byte t.mem (out + z.req.off + i) = data.getD i 0#8)
            ∧ ∀ a, ¬(out + z.req.off ≤ a ∧ a < out + z.req.off + n) → Memory.byte t.mem a = Memory.byte s.mem a))
          ∧ (n = z.req.len → (∀ k w, (k, w) ∈ s.host.tags → w.req.handle = h → k = tag) → (∀ r ∈ s.host.heldReqs, r.handle ≠ h) →
            (x.kind ≠ 1 → Runs (.pcieCompletionRx tag .sc data) s (fun t => t.endedWith h .ok
              ∧ (∀ i, i < n → Memory.byte t.mem (out + z.req.off + i) = data.getD i 0#8)
              ∧ ∀ a, ¬(out + z.req.off ≤ a ∧ a < out + z.req.off + n) → Memory.byte t.mem a = Memory.byte s.mem a))
            ∧ (∀ g, x.kind = 1 → s.descQp x.part j.desc = some g → OpenTo s q false true out 64 → 64 ≤ z.req.off →
              let head := ((s.qp g).sqHead + j.items) % (s.qp g).sqSize
              Runs (.pcieCompletionRx tag .sc data) s (fun t => t.endedWith h .ok ∧ (t.qp g).sqHead = head
                ∧ t.loadN out 64 = (j.items + head * 65536) % 2 ^ 512
                ∧ (∀ i, i < n → Memory.byte t.mem (out + z.req.off + i) = data.getD i 0#8)))))))

/-- Queue pairs, functions, tags and the link of the host interface (R321, R323, R325, R326, R329–R334). -/
def Obligations.HostFunctions : Prop :=
  ∀ (s : State),
    (∀ (f q g v : Nat),
      let x := s.qp g
      s.doorbell f q = some g →
      (x.state = .enabled → v < x.sqSize → (x.sqTail + x.sqSize - x.sqHead) % x.sqSize ≤ (v + x.sqSize - x.sqHead) % x.sqSize →
        Runs (.sqTailDoorbell f q v 4) s (fun t =>
          t = (List.range ((v + x.sqSize - x.sqTail) % x.sqSize)).foldl (fun u _ => u.event 1 g x.part 1 false [])
            (s.setQp g { x with sqTail := v })))
      ∧ (x.state = .enabled → v < x.cqSize → (v + x.cqSize - x.cqHead) % x.cqSize ≤ (x.cqTail + x.cqSize - x.cqHead) % x.cqSize →
        s.host.cqWaiting = [] → Runs (.cqHeadDoorbell f q v 4) s (fun t => t.qp g = { x with cqHead := v } ∧ Frame [.host] [] s t))
      ∧ (x.state = .enabled → x.sqSize ≤ v ∨ (v + x.sqSize - x.sqHead) % x.sqSize < (x.sqTail + x.sqSize - x.sqHead) % x.sqSize → Runs (.sqTailDoorbell f q v 4) s (fun t => t.qp g = { x with state := .error }
          ∧ t.stands 0x0905 g = true ∧ t.num OD.doorbellErrors g = min OD.doorbellErrors.hi (s.num OD.doorbellErrors g + 1)))
      ∧ (x.state = .enabled → x.cqSize ≤ v ∨ (x.cqTail + x.cqSize - x.cqHead) % x.cqSize < (v + x.cqSize - x.cqHead) % x.cqSize → Runs (.cqHeadDoorbell f q v 4) s (fun t => t.qp g = { x with state := .error }
          ∧ t.stands 0x0905 g = true))
      ∧ (∀ size, x.state ≠ .enabled ∨ size ≠ 4 → ∀ c ∈ [Instr.sqTailDoorbell f q v size, .cqHeadDoorbell f q v size],
        Runs c s (fun t => t.host = s.host ∧ Frame [] [OD.doorbellErrors.code] s t
          ∧ t.num OD.doorbellErrors g = min OD.doorbellErrors.hi (s.num OD.doorbellErrors g + 1))))
    ∧ (∀ (who : Requester),
      let g := s.itemOf who OD.qpEnable OD.qpEnable.addr
      (s.admits who OD.qpEnable 1 → (s.qp g).state = .disabled → s.qpReason g = 0 → Runs (.qpEnable who 1) s (fun t =>
        t.reply.reason = 0 ∧ t.flag OD.qpEnable g = true ∧ (t.qp g).state = .enabled ∧ (t.qp g).part = bits (s.nat OD.qpOwner g) 9 0
        ∧ (t.qp g).localIdx = bits (s.nat OD.qpOwner g) 21 10 ∧ (t.qp g).sqHead = 0 ∧ (t.qp g).sqTail = 0 ∧ (t.qp g).cqTail = 0
        ∧ (t.qp g).cqHead = 0 ∧ (t.qp g).phase = true ∧ (t.qp g).sqBase = s.nat OD.sqBase g ∧ (t.qp g).cqBase = s.nat OD.cqBase g
        ∧ (t.qp g).sqSize = 2 ^ (4 + bits (s.nat OD.qpSizes g) 3 0) ∧ (t.qp g).cqSize = 2 ^ (4 + bits (s.nat OD.qpSizes g) 7 4)
        ∧ (t.qp g).vector = bits (s.nat OD.qpSizes g) 13 8))
      ∧ (s.admits who OD.qpEnable 1 → (s.qp g).state = .disabled → s.qpReason g ≠ 0 → Runs (.qpEnable who 1) s (fun t =>
        t.reply.reason = s.qpReason g ∧ t.host = s.host))
      ∧ (s.admits who OD.qpEnable 0 → Runs (.qpEnable who 0) s (fun t => t.reply.reason = 0 ∧ t.flag OD.qpEnable g = false
        ∧ (t.qp g).state = .disabled ∧ (t.qp g).sqHead = 0 ∧ (t.qp g).sqTail = 0 ∧ (t.qp g).cqTail = 0 ∧ (t.qp g).cqHead = 0)))
    ∧ (∀ (f : Nat),
      let x := s.fn f
      let waiting (on : List Nat) : List Nat := x.pending.filter (fun v => has on v)
      (∀ v, f < 1024 → v < 64 → x.inFlr = false → Runs (.msixUnmask f v) s (fun t => has (t.fn f).unmasked v = true
          ∧ Frame [.host] [] s t ∧ ((x.msixOn && x.bme) = true → has x.pending v = true →
            v ∈ (t.fn f).sent.drop x.sent.length ∧ has (t.fn f).pending v = false)
          ∧ ((x.msixOn && x.bme) = false → (t.fn f).sent = x.sent ∧ (t.fn f).pending = x.pending)))
      ∧ (s.fnExists f = true → x.inFlr = false →
        Runs (.bmeSet f) s (fun t => (t.fn f).bme = true ∧ Frame [.host] [] s t
          ∧ (x.msixOn = true → (t.fn f).sent = x.sent ++ waiting x.unmasked))
        ∧ (∀ v, Runs (.pcieConfigWrite f .memorySpace v) s (fun t => t.fn f = { x with mse := decide (v ≠ 0) } ∧ Frame [.host] [] s t)
          ∧ Runs (.pcieConfigWrite f .atsEnable v) s (fun t => t.fn f = { x with ats := decide (v ≠ 0) } ∧ Frame [.host] [] s t)
          ∧ Runs (.pcieConfigWrite f .msixEnable v) s (fun t => (t.fn f).msixOn = decide (v ≠ 0) ∧ Frame [.host] [] s t
            ∧ (v ≠ 0 → x.bme = true → (t.fn f).sent = x.sent ++ waiting x.unmasked))))
      ∧ (x.bme = true → Runs (.bmeClear f) s (fun t => (t.fn f).bme = false
          ∧ (∀ k z, Tab.find s.host.tags k = some z → z.req.fn = f → Tab.find t.host.tags k = some { z with dead := true, late := true })
          ∧ (∀ r ∈ t.host.heldReqs, r.fn ≠ f)
          ∧ (∀ p h y, s.partOfFn f = some p → s.hostSlugs p = [h] → s.slug h = some y → y.state = .running → y.abortPending = false →
            s.imp y.imp ≠ none → t.endedWith h .hostUnavailable)))
      ∧ (s.fnExists f = true → f ≠ 0 → Runs (.flrInitiate f) s (fun t => (t.fn f).inFlr = true ∧ (t.fn f).mse = false
          ∧ (t.fn f).bme = false ∧ (t.fn f).msixOn = false ∧ (t.fn f).unmasked = [] ∧ (t.fn f).pending = []
          ∧ t.num OD.flrs = min OD.flrs.hi (s.num OD.flrs + 1)
          ∧ (∀ k z, Tab.find t.host.tags k = some z → z.req.fn = f → z.quarantined = true)
          ∧ (∀ p g y, s.partOfFn f = some p → (g, y) ∈ s.host.qps → y.part = p → Tab.find s.host.qps g = some y →
            (t.qp g).state = .disabled)))
      ∧ Runs (.flrComplete f) s (fun t => t.fn f = { x with inFlr := false } ∧ (∀ k, k ≠ f → t.fn k = s.fn k) ∧ Frame [.host] [] s t))
    ∧ (let dead (t : State) : Prop := t.host.vfEnable = false ∧ t.host.numVfs = 0 ∧ t.host.cplTimeout = 0 ∧ t.time.ptmOn = false
        ∧ t.flag OD.ptmValid = false ∧ ∀ f, s.fnExists f = true → (t.fn f).inFlr = true ∧ (t.fn f).bme = false
       Runs (.flrInitiate 0) s dead ∧ Runs .pcieLinkReset s (fun t => dead t ∧ t.host.rate = 0 ∧ t.host.width = 0))
    ∧ ((s.fn 0).inFlr = false → ∀ v,
      (s.host.vfEnable = false → Runs (.pcieConfigWrite 0 .numVfs v) s (fun t => t.host = { s.host with numVfs := min v 1023 })
        ∧ (v ≠ 0 → Runs (.pcieConfigWrite 0 .vfEnable v) s (fun t => t.host = { s.host with vfEnable := true })))
      ∧ Runs (.pcieConfigWrite 0 .vfEnable 0) s (fun t => t.host.vfEnable = false)
      ∧ Runs (.pcieConfigWrite 0 .devCtl2 v) s (fun t => t.host = { s.host with cplTimeout := v % 16 })
      ∧ Runs (.pcieConfigWrite 0 .ptmEnable v) s (fun t => t.time.ptmOn = decide (v ≠ 0) ∧ (v = 0 → t.flag OD.ptmValid = false)))
    ∧ (∀ rate width retrain, Runs (.pcieLinkTrained rate width retrain) s (fun t => t.host = { s.host with rate := rate, width := width }
        ∧ (rate < 4 ∨ width < 8 → t.stands 0x0901 0 = true) ∧ (retrain = true → t.flag OD.ptmValid = false)))
    ∧ (∀ f page,
      let k := f * 4503599627370496 + page
      Runs (.atsInvalidate f page) s (fun t => has t.host.atc k = false ∧ Frame [.host] [] s t
        ∧ (has t.host.invals k = true ↔ s.translationUsed k = true)))
    ∧ (∀ (tag : Nat) (x : HTag), Tab.find s.host.tags tag = some x → s.host.heldReqs = [] →
      (x.quarantined = true → (x.resetAt + s.cplTimeoutNs ≤ s.nowNs →
          Runs (.tagQuarantineEnd tag) s (fun t => Tab.find t.host.tags tag = none ∧ Frame [.host] [] s t))
        ∧ (x.req.len ≠ 0 → x.late = true → ∀ data, Runs (.pcieCompletionRx tag .sc data) s (fun t =>
          Tab.find t.host.tags tag = some { x with req := { x.req with len := 0 } } ∧ t.mem = s.mem
          ∧ t.num OD.hostLateCompletions = min OD.hostLateCompletions.hi (s.num OD.hostLateCompletions + 1))))
      ∧ (x.quarantined = false → x.dead = true → x.req.len ≠ 0 → ∀ data, Runs (.pcieCompletionRx tag .sc data) s (fun t =>
          Tab.find t.host.tags tag = none ∧ t.mem = s.mem)))

/-! ## Partitions -/

/-- Partition controls (R335–R339, R378, R379, Table 13-6): the enable check takes a CONFIGURED partition to ENABLED with its values
in force; a disable closes it, a pause waits for the next slot, a reset aborts its impressions and stops its queue pairs and
completes with its buffers freed; what a state does not permit is refused with reason 0x0909. -/
def Obligations.PartitionControls : Prop :=
  ∀ (n : Nat) (s : State),
    let x := s.part n
    let may (who : Requester) (o : Obj) (v : Int) : Prop :=
      s.accessReason who o n ⟨0xA400 + n, o.sub⟩ true = 0 ∧ o.inRange n v = true
    let tie : Prop := s.subNow = true ∨ ∃ e ∈ s.time.slotAt, e.2 = s.time.air ∧ s.govN OD.cellPartition e.1 = n
    let aborted (t : State) : Prop := ∀ i m h y, i ∈ s.impsOf n → s.imp i = some m → h ∈ m.slugs → t.slug h = some y →
      y.state = .done ∨ y.state = .running ∧ y.abortPending = true
    (∀ (who : Requester), may who OD.partEnable 1 → x.state = .configured → s.enableMode = true → s.partReason n = 0 →
      Runs (.partEnable who n 1) s (fun t => t.reply.reason = 0 ∧ t.flag OD.partEnable n = true ∧ t.flag OD.partPause n = false
        ∧ (t.part n).state = (if s.heldByTwin n then .paused else .enabled) ∧ (∀ k, k ≠ n → t.part k = s.part k)
        ∧ (∀ o ∈ [OD.hostFunction, OD.qpQuota, OD.msixQuota, OD.npQuota], t.gov o n = s.num o n)
        ∧ (∀ k, k < 16 → t.gov OD.windowReg (16 * n + k) = s.num OD.windowReg (16 * n + k))
        ∧ Frame [.reply, .force, .parts] [OD.partEnable.code, OD.partPause.code] s t))
    ∧ (∀ (who : Requester), may who OD.partEnable 1 → x.state = .configured → s.enableMode = true → s.partReason n ≠ 0 →
      Runs (.partEnable who n 1) s (fun t => t.reply.reason = s.partReason n ∧ Frame [.reply] [] s t))
    ∧ (∀ (who : Requester), may who OD.partEnable 1 → x.state ≠ .configured →
      Runs (.partEnable who n 1) s (fun t => t.reply.reason = 0x0909 ∧ Frame [.reply] [] s t))
    ∧ (∀ (who : Requester), may who OD.partEnable 0 →
      (x.state = .enabled ∨ x.state = .paused → Runs (.partEnable who n 0) s (fun t => t.reply.reason = 0
        ∧ t.flag OD.partEnable n = false 
        ∧ t.part n = { x with state := .configured, pauseNext := none, closing := !(s.impsOf n).isEmpty, closeAt := s.nowNs }
        ∧ t.host = s.host ∧ t.galley = s.galley))
      ∧ (x.state ≠ .enabled → x.state ≠ .paused → Runs (.partEnable who n 0) s (fun t => t.reply.reason = 0x0909
        ∧ Frame [.reply] [] s t)))
    ∧ (∀ (who : Requester),
      (may who OD.partPause 1 → x.state = .enabled → Runs (.partPause who n 1) s (fun t => t.reply.reason = 0
        ∧ (¬tie → t.part n = { x with pauseNext := some true }) ∧ (tie → t.part n = { x with state := .paused, pauseNext := none })
        ∧ Frame [.reply, .force, .parts] [OD.partPause.code] s t))
      ∧ (may who OD.partPause 0 → x.state = .paused → s.heldByTwin n = false → Runs (.partPause who n 0) s (fun t => t.reply.reason = 0
        ∧ (¬tie → t.part n = { x with pauseNext := some false }) ∧ (tie → t.part n = { x with state := .enabled, pauseNext := none })
        ∧ Frame [.reply, .force, .parts] [OD.partPause.code] s t))
      ∧ (may who OD.partPause 1 → x.state ≠ .enabled → Runs (.partPause who n 1) s (fun t => t.reply.reason = 0x0909
        ∧ Frame [.reply] [] s t)))
    ∧ (∀ (who : Requester),
      (may who OD.partReset 1 → x.state = .enabled ∨ x.state = .paused ∨ x.state = .faulted
          ∨ x.state = .configured ∧ x.closing = true ∧ s.impsOf n ≠ [] →
        Runs (.partReset who n 1) s (fun t => t.reply.reason = 0 ∧ (t.part n).state = .resetting ∧ aborted t
          ∧ t.num OD.resets n = min OD.resets.hi (s.num OD.resets n + 1)
          ∧ ∀ g y, (g, y) ∈ s.host.qps → y.part = n → Tab.find s.host.qps g = some y → (t.qp g).state = .disabled))
      ∧ (may who OD.partReset 1 → x.state = .absent ∨ x.state = .resetting ∨ x.state = .configured ∧ x.closing = false → Runs (.partReset who n 1) s (fun t =>
        t.reply.reason = 0x0909 ∧ Frame [.reply] [] s t)))
    ∧ (x.state = .resetting → s.impsOf n = [] → Runs (.partResetComplete n) s (fun t => t.part n = { x with state := .configured }
        ∧ t.flag OD.partEnable n = false ∧ t.mem = s.mem
        ∧ ∀ k r, s.hamper k = some r → r.owner = n → s.waiters k = [] → k < 64 → (∀ u ∈ r.inUse, u.1 < 262144) →
          ∃ q, t.hamper k = some q ∧ q.inUse = []))
    ∧ (x.state = .resetting → s.impsOf n ≠ [] → Runs (.partResetComplete n) s (fun t => t = s))
    ∧ (x.state = .resetting → x.resetAt + s.nat OD.resetLimit n * 1000000 ≤ s.nowNs → Runs (.resetLimitExpiry n) s (fun t => t.part n = { x with state := .faulted } ∧ t.stands 0x0909 n = true))
    ∧ (x.state = .configured → x.closing = true → x.closeAt + s.nat OD.resetLimit n * 1000000 ≤ s.nowNs →
      Runs (.disableCloseTimeout n) s (fun t => t.part n = { x with closing := false } ∧ aborted t))

/-! ## Pothiquin -/

/-- Requests on the dictionary (R14, R344, R348, R351, R352, R356, R358–R360, R363–R366, R473): a session's request is performed and its
reply kept; a WRITE applies every entry or none; segments read one snapshot and write one value whole; the mailboxes and the
SMBus port ask in their own ways. -/
def Obligations.DictionaryRequests : Prop :=
  ∀ (s : State),
    (∀ (ses ver id : Nat) (x : Session),
      let who := Requester.session ses
      let kept (r : Reply) (t : State) : Prop := t.reply = r
        ∧ (Tab.find t.pot.sessions ses).bind (fun y => y.cache.head?) = some (id, r, [])
      Tab.find s.pot.sessions ses = some x → has s.pot.mpOn x.path = true → (∀ e ∈ x.cache, e.1 ≠ id) → x.version = some ver →
      (∀ es, 1 ≤ es.length → es.length ≤ 64 → (es.flatMap (s.readEntry who)).length ≤ 1384 →
        Runs (.read ses ver id es) s (fun t => kept { data := es.flatMap (s.readEntry who) } t ∧ Frame [.reply, .pot] [] s t))
      ∧ (∀ es, es.length = 0 ∨ 64 < es.length → Runs (.read ses ver id es) s (fun t => t.reply.reason = 0x0D12 ∧ Frame [.reply, .pot] [] s t))
      ∧ (∀ (v : Nat), v < 256 → s.accessReason who OD.alarmPinSeverity 0 OD.alarmPinSeverity.addr true 1 = 0 →
        OD.alarmPinSeverity.inRange 0 v = true → Runs (.write ses ver id [⟨OD.alarmPinSeverity.addr, OD.alarmPinSeverity.ty, leBytes 1 v⟩]) s
          (fun t => kept {} t ∧ t.nat OD.alarmPinSeverity = v ∧ Frame [.reply, .pot] [OD.alarmPinSeverity.code] s t))
      ∧ (∀ es e f, 1 ≤ es.length → es.length ≤ 64 → writeLength es ≤ 1400 → State.writeSeq who es s = .error (e, f) → f.reason ≠ 0 →
        256 * e.addr.idx + e.addr.sub ≠ 0x200003 → 256 * e.addr.idx + e.addr.sub ≠ 0x200011 → 256 * e.addr.idx + e.addr.sub ≠ 0xB1000B →
        Runs (.write ses ver id es) s (fun t => kept { reason := f.reason, addr := some e.addr } t ∧ Frame [.reply, .pot] [] s t))
      ∧ (∀ (a : Addr) (o : Obj) (len : Nat) (ty : Ty) (b : List (BitVec 8)), locate a = .ok o → 1 ≤ len → len ≤ 1024 →
        s.readAddr who a = .ok (ty, b) → Runs (.segRead ses ver id a 0 len) s (fun t =>
          t.reply.data = leBytes 4 b.length ++ leBytes 4 0 ++ leBytes 2 (b.take len).length ++ leBytes 2 (if b.length ≤ len then 1 else 0)
              ++ b.take len
          ∧ (len < b.length → (a, s.itemOf who o a, b) ∈ (t.segsOf who).reads) ∧ Frame [.reply, .pot] [] s t))
      ∧ (∀ (a : Addr) (o : Obj) (off len : Nat) (b : List (BitVec 8)), locate a = .ok o → 1 ≤ len → len ≤ 1024 → off ≠ 0 → off ≤ b.length →
        x.segs.reads.find? (snapIs a (s.itemOf who o a)) = some (a, s.itemOf who o a, b) → Runs (.segRead ses ver id a off len) s (fun t =>
          t.reply.data = leBytes 4 b.length ++ leBytes 4 off ++ leBytes 2 ((b.drop off).take len).length
              ++ leBytes 2 (if b.length ≤ off + ((b.drop off).take len).length then 1 else 0) ++ (b.drop off).take len))
      ∧ (∀ (a : Addr) (o : Obj) (total : Nat) (d : List (BitVec 8)), locate a = .ok o → d ≠ [] → d.length ≤ 1024 → d.length < total →
        s.accessReason who o (s.itemOf who o a) a true 0 true = 0 → o.lengthOk total = true →
        Runs (.segWrite ses ver id a false 0 total d) s (fun t => t.reply.data = leBytes 4 d.length
          ∧ ⟨a, s.itemOf who o a, total, d, s.nowNs⟩ ∈ (t.segsOf who).writes ∧ Frame [.reply, .pot] [] s t))
      ∧ (∀ (a : Addr) (o : Obj) (y : Transfer) (d : List (BitVec 8)), locate a = .ok o → d ≠ [] → d.length ≤ 1024 →
        x.segs.writes.find? (fun w => w.is a (s.itemOf who o a)) = some y → y.data.length + d.length = y.total →
        y.data ≠ [] → o.code = OD.dlMask.code → Runs (.segWrite ses ver id a true y.data.length y.total d) s (fun t =>
          t.reply.data = leBytes 4 (y.data.length + d.length) ∧ t.oct o y.item = y.data ++ d
          ∧ ∀ w ∈ (t.segsOf who).writes, w.is a (s.itemOf who o a) = false))
      ∧ (∀ (a : Addr) (o : Obj), locate a = .ok o → Runs (.segAbort ses ver id a) s (fun t => t.reply.reason = 0
        ∧ (∀ w ∈ (t.segsOf who).writes, w.is a (s.itemOf who o a) = false) ∧ Frame [.reply, .pot] [] s t))
      ∧ (∀ (a : Addr) (o : Obj), locate a = .ok o → Runs (.infoReq ses ver id a) s (fun t =>
        kept { data := s.infoBytes o (s.itemOf who o a) } t ∧ Frame [.reply, .pot] [] s t))
      ∧ (∀ (a : Addr) (r : Nat), locate a = .error r → Runs (.infoReq ses ver id a) s (fun t => t.reply.reason = r ∧ t.reply.addr = some a))
      ∧ (s.dict.storing = none → s.storedBytes ≤ 6291456 → Runs (.store ses ver id) s (fun t => t.reply.interim = true
        ∧ t.dict.storing = some (who, id) ∧ t.dict.storeVal = s.storedVal ∧ t.dict.storeOctets = s.storedOct
        ∧ t.dict.storeA = s.dict.storeA ∧ t.dict.val = s.dict.val))
      ∧ (s.dict.storing ≠ none → Runs (.store ses ver id) s (fun t => t.reply.reason = 0x0D13 ∧ t.dict = s.dict))
      ∧ (s.mode.mode = .configure → Runs (.restore ses ver id) s (fun t => t.reply.reason = 0 ∧ t.parts = []
        ∧ ∀ k, keyRestored k = true → keyCode k ≠ OD.reference.code → keyCode k ≠ OD.bankVoltage.code → keyCode k ≠ OD.mpEnable.code →
          Tab.find t.dict.val k = none))
      ∧ (s.mode.mode ≠ .configure → Runs (.restore ses ver id) s (fun t => t.reply.reason = 0x0D06 ∧ Frame [.reply, .pot] [] s t)))
    ∧ (∀ (ses ver id : Nat) (x : Session) (r : Reply) (es : List Addr), Tab.find s.pot.sessions ses = some x → has s.pot.mpOn x.path = true →
      x.cache.find? (fun e => decide (e.1 = id)) = some (id, r, []) → s.dict.storing = none →
      Runs (.read ses ver id es) s (fun t => t.reply = r ∧ Frame [.reply, .pot] [] s t))
    ∧ (∀ (who : Requester) (a : Addr), Runs (.segTransferTimeout who a) s (fun t =>

        (∀ e, e ∈ (t.segsOf who).reads ↔ e ∈ (s.segsOf who).reads ∧ (e.1 = a → (s.segsOf who).stale s.nowNs e = false))
        ∧ (∀ w, w ∈ (t.segsOf who).writes ↔ w ∈ (s.segsOf who).writes ∧ (w.addr = a → s.nowNs < w.lastAt + segLimit)) ∧ Frame [.pot] [] s t))
    ∧ (∀ (who : Requester) (id : Nat), s.dict.storing = some (who, id) →
      Runs (.storeSealed true) s (fun t => t.dict.storing = none ∧ t.dict.storeA = s.dict.storeVal ∧ t.dict.storeOct = s.dict.storeOctets
        ∧ t.num OD.storeSequence = min OD.storeSequence.hi (s.num OD.storeSequence + 1) ∧ t.reply.reason = 0
        ∧ t.reply.data = leBytes 4 (t.nat OD.storeSequence))
      ∧ Runs (.storeSealed false) s (fun t => t.dict.storing = none ∧ t.dict.storeA = s.dict.storeA ∧ t.dict.storeOct = s.dict.storeOct
        ∧ t.num OD.storeSequence = s.num OD.storeSequence ∧ t.reply.reason = 0x0D13))
    ∧ (∀ (f seq vec : Nat) (irq : Bool) (es : List Addr), s.fnExists f = true → (s.fn f).mse = true → (s.fn f).inFlr = false → s.mode.mode ≠ .off →
      (∀ e ∈ s.host.fns, e.2.mbWait = []) →
      let quota := match s.partOfFn f with | some p => s.govN OD.msixQuota p | none => 64
      ((s.fn f).mbRunning = none → (s.roleOf (.mailbox f)).isSome = true → 1 ≤ es.length → es.length ≤ 64 → vec < 64 →
        (es.flatMap (s.readEntry (.mailbox f))).length ≤ 1384 → Runs (.mailboxGo f seq irq vec (.read es)) s (fun t =>
          (t.fn f).mbDone = true ∧ (t.fn f).mbSeq = seq ∧ (t.fn f).mbReply = { data := es.flatMap (s.readEntry (.mailbox f)) }
          ∧ (irq = true → vec < quota → (((s.fn f).msixOn && (s.fn f).bme && has (s.fn f).unmasked vec) = true → (t.fn f).sent = (s.fn f).sent ++ [vec])
            ∧ (((s.fn f).msixOn && (s.fn f).bme && has (s.fn f).unmasked vec) = false → has (t.fn f).pending vec = true))
          ∧ (irq = false ∨ quota ≤ vec → (t.fn f).sent = (s.fn f).sent ∧ (t.fn f).pending = (s.fn f).pending)))
      ∧ (∀ m, (s.fn f).mbRunning ≠ none → Runs (.mailboxGo f seq irq vec m) s (fun t => t.host = s.host
          ∧ t.num OD.mbIgnored = min OD.mbIgnored.hi (s.num OD.mbIgnored + 1))))
    ∧ (∀ (who : Requester) (v setNow : Nat), v < 2 ^ 32 → s.accessReason who OD.statusSticky 0 OD.statusSticky.addr true 4 = 0 →
      Runs (.w1cWrite who OD.statusSticky.addr v setNow) s (fun t => t.reply.reason = 0
        ∧ t.nat OD.statusSticky = s.nat OD.statusSticky - (s.nat OD.statusSticky &&& (v - (v &&& setNow))) ∧ Frame [.reply] [OD.statusSticky.code] s t))
    ∧ (∀ (who : Requester) (b : List (BitVec 8)),
      let k := s.itemOf who OD.roleEntry OD.roleEntry.addr
      let mgmt (e : List (BitVec 8)) : Prop := entryEnabled e = true ∧ roleOfEntry e = 0
      s.accessReason who OD.roleEntry k OD.roleEntry.addr true b.length = 0 → b.length = 52 → roleOfEntry b ∈ [0, 1, 3] → field b 49 49 ≤ 1 →
      entryPart b ≤ 1023 →
      ((mgmt (s.oct OD.roleEntry k) → mgmt b) → Runs (.roleEntry who b) s (fun t => t.reply.reason = 0 ∧ t.oct OD.roleEntry k = b))
      ∧ (mgmt (s.oct OD.roleEntry k) → ¬mgmt b → (∀ j, j < 32 → j ≠ k → ¬mgmt (s.oct OD.roleEntry j)) →
        Runs (.roleEntry who b) s (fun t => t.reply.reason = 0x0D03 ∧ Frame [.reply] [] s t)))
    ∧ (∀ (who : Requester),
      let p := s.itemOf who OD.mpEnable OD.mpEnable.addr
      (s.admits who OD.mpEnable 1 → Runs (.mpEnable who 1) s (fun t => t.reply.reason = 0 ∧ t.flag OD.mpEnable p = true
        ∧ has t.pot.mpOn p = true ∧ t.gov OD.ipv4 p = s.num OD.ipv4 p))
      ∧ (s.admits who OD.mpEnable 0 → Runs (.mpEnable who 0) s (fun t => t.reply.reason = 0 ∧ t.flag OD.mpEnable p = false
        ∧ has t.pot.mpOn p = false)))
    ∧ (s.mode.mode ≠ .off →
      (∀ a, Runs (.smbPointerWrite a) s (fun t => t.pot.smbPtr = some a ∧ Frame [.pot] [] s t))
      ∧ (∀ a ty b, s.pot.smbPtr = some a → s.readAddr .smbus a = .ok (ty, b) → Runs .smbValueRead s (fun t =>
          t.reply.data = leBytes 1 (tyCode ty + (if 31 < b.length then 128 else 0)) ++ b.take 31 ∧ Frame [.reply] [] s t))
      ∧ (∀ a r, s.pot.smbPtr = some a → s.readAddr .smbus a = .error r → Runs .smbValueRead s (fun t =>
          t.reply.data = leBytes 1 0x7F ++ leBytes 2 r ∧ Frame [.reply] [] s t))
      ∧ Runs .smbStatusRead s (fun t => t.reply.data.length = 8 ∧ t.reply.data.head? = some (BitVec.ofNat 8 s.mode.mode.code)
          ∧ t.reply.data.drop 4 = leBytes 2 (s.nat OD.powerNow) ++ leBytes 2 (s.nat OD.vinNow) ∧ Frame [.reply] [] s t))
    ∧ Runs .smbTimeout s (fun t => t.pot.smbPtr = none ∧ Frame [.pot] [] s t)

/-- Sessions, telemetry and alarm streams (R354–R357, R361, R362, R449, R450, R452–R454): handshakes open sessions for known keys,
HELLO agrees on the highest version, subscriptions bring records, alarms go out in sequence and wait for their acknowledgement. -/
def Obligations.PothiquinSessions : Prop :=
  ∀ (s : State),
    (∀ (ses id lo hi v : Nat) (x : Session), Tab.find s.pot.sessions ses = some x → has s.pot.mpOn x.path = true → (∀ e ∈ x.cache, e.1 ≠ id) →
      let shared (k : Nat) : Prop := lo ≤ k ∧ k ≤ hi ∧ bits (s.nat OD.potVersions) 2 0 ≤ k ∧ k ≤ bits (s.nat OD.potVersions) 5 3
      (shared v → (∀ k, shared k → k ≤ v) → Runs (.hello ses id lo hi) s (fun t => t.reply.data = leBytes 1 v
        ∧ (Tab.find t.pot.sessions ses).map (·.version) = some (some v) ∧ Frame [.reply, .pot] [] s t))
      ∧ ((∀ k, ¬shared k) → Runs (.hello ses id lo hi) s (fun t => t.reply.reason = 0x0D10 ∧ Tab.find t.pot.sessions ses = none)))
    ∧ (∀ (ses ver id strm period : Nat) (x : Session) (es : List Addr), Tab.find s.pot.sessions ses = some x → has s.pot.mpOn x.path = true →
      (∀ e ∈ x.cache, e.1 ≠ id) → x.version = some ver → strm < 8 →
      (1 ≤ es.length → es.length ≤ 32 → 10 ≤ period → period ≤ 3600000 → streamsFit (s.periodsWith ses strm period) = true →
        Runs (.subscribe ses ver id strm period es) s (fun t => t.reply.reason = 0
          ∧ (Tab.find t.pot.sessions ses).bind (fun y => Tab.find y.streams strm)
            = some { period := period, entries := es, next := 0, dropped := 0, dueAt := s.nowNs + period * 1000000 } ∧ Frame [.reply, .selects, .pot] [] s t))
      ∧ (1 ≤ es.length → es.length ≤ 32 → (period < 10 ∨ 3600000 < period) →
        Runs (.subscribe ses ver id strm period es) s (fun t => t.reply.reason = 0x0D08 ∧ Frame [.reply, .pot] [] s t))
      ∧ (1 ≤ es.length → es.length ≤ 32 → 10 ≤ period → period ≤ 3600000 → streamsFit (s.periodsWith ses strm period) = false →
        Runs (.subscribe ses ver id strm period es) s (fun t => t.reply.reason = 0x0D0F ∧ Frame [.reply, .pot] [] s t))
      ∧ Runs (.unsubscribe ses ver id strm) s (fun t => t.reply.reason = 0
          ∧ (Tab.find t.pot.sessions ses).bind (fun y => Tab.find y.streams strm) = none ∧ Frame [.reply, .selects, .pot] [] s t))
    ∧ (∀ (ses strm : Nat) (x : Session) (k : Stream),
      let after (t : State) : Option Stream := (Tab.find t.pot.sessions ses).bind (fun y => Tab.find y.streams strm)
      Tab.find s.pot.sessions ses = some x → Tab.find x.streams strm = some k → k.dueAt ≤ s.nowNs →
      Runs (.telemetry ses strm true) s (fun t => after t = some { k with dueAt := k.dueAt + k.period * 1000000, next := (k.next + 1) % 2 ^ 32, dropped := 0 }
        ∧ t.reply.data = leBytes 16 s.now.pack ++ k.entries.flatMap (s.readEntry (.stream ses strm)) ∧ t.reply.reason = min 65535 k.dropped
        ∧ Frame [.reply, .pot] [] s t)
      ∧ Runs (.telemetry ses strm false) s (fun t => (after t).map (·.dropped) = some (k.dropped + 1) ∧ t.reply = s.reply))
    ∧ (∀ (ses : Nat) (x : Session), Tab.find s.pot.sessions ses = some x →
      (∀ (b : List (BitVec 8)), x.summary = some b → Runs (.alarm ses) s (fun t => t.reply.data = b
        ∧ Tab.find t.pot.sessions ses = some { x with summary := none } ∧ Frame [.reply, .pot] [] s t))
      ∧ (∀ (r : AlarmRec), x.summary = none → x.unacked.length < 16 → x.missing = [] → s.queuedFor x = [r] → x.nextAlarm ≤ r.seq →
        Runs (.alarm ses) s (fun t => t.reply.data = alarmRecord r r.detail ∧ Frame [.reply, .pot] [] s t
          ∧ Tab.find t.pot.sessions ses
              = some { x with unacked := insertN x.unacked r.seq, sentAt := Tab.set x.sentAt r.seq s.nowNs, nextAlarm := r.seq + 1 }))
      ∧ (x.summary = none → 16 ≤ x.unacked.length → Runs (.alarm ses) s (fun t => t = s))
      ∧ (∀ (r : AlarmRec), has x.unacked r.seq = true → Tab.find x.gaps r.seq = none →
        (s.alarms.critical ++ s.alarms.general).find? (fun a => decide (a.seq = r.seq)) = some r →
        Tab.get 0 x.sentAt r.seq + oneSecond ≤ s.nowNs →
        Runs (.alarmResend ses r.seq) s (fun t => t.reply.data = alarmRecord r r.detail ∧ Frame [.reply, .pot] [] s t
          ∧ Tab.find t.pot.sessions ses = some { x with sentAt := Tab.set x.sentAt r.seq s.nowNs }))
      ∧ (∀ (q : Nat), x.version ≠ none → q ≠ 0 → Runs (.alarmAck ses q) s (fun t => Frame [.pot, .alarms] [] s t
          ∧ Tab.find t.pot.sessions ses = some { x with unacked := removeN x.unacked q, gaps := Tab.del x.gaps q,
                                                        sentAt := Tab.del x.sentAt q, lastAt := s.nowNs }
          ∧ (∀ r, r ∈ t.alarms.critical ++ t.alarms.general → r ∈ s.alarms.critical ++ s.alarms.general)
          ∧ t.alarms.entries = s.alarms.entries))
      ∧ (x.version ≠ none → Runs (.alarmAck ses 0) s (fun t => t = s)))
    ∧ (s.nowSec ≠ s.alarms.summarySec → Runs .summary s (fun t =>
        t.alarms = { s.alarms with secRaises := [], secLost := 0, secDropped := 0, summarySec := s.nowSec } ∧ Frame [.pot, .alarms] [] s t
        ∧ ∀ ses x, Tab.find s.pot.sessions ses = some x → ∃ b : List (BitVec 8), b.length = 64
          ∧ Tab.find t.pot.sessions ses = some { x with summary := some b }))
    ∧ (∀ (path : Nat), has s.pot.mpOn path = true → s.mode.mode ≠ .off →
      Runs (.clientHello path true) s (fun t => t.pot.pending = s.pot.pending ++ [path] ∧ Frame [.pot] [] s t)
      ∧ (∀ n, Tab.find s.pot.starts path = some (s.nowSec, n) →
        (n < 16 → Runs (.clientHello path false) s (fun t => Tab.find t.pot.starts path = some (s.nowSec, n + 1) ∧ Frame [.pot] [] s t))
        ∧ (16 ≤ n → Runs (.clientHello path false) s (fun t => t.pot = s.pot ∧ t.num OD.dropped = min OD.dropped.hi (s.num OD.dropped + 1)))))
    ∧ (∀ (path ses : Nat) (d : List (BitVec 8)), has s.pot.pending path = true → Tab.find s.pot.sessions ses = none →
      (∀ k, s.pot.sessions.length < s.nat OD.maxSessions →
        s.roleEntries.find? (fun j => decide ((s.oct OD.roleEntry j).take 48 = d)) = some k →
        Runs (.handshakeComplete path ses true d) s (fun t => t.pot.pending = s.pot.pending.erase path
          ∧ Tab.find t.pot.sessions ses = some { path := path, role := roleOfEntry (s.oct OD.roleEntry k), part := entryPart (s.oct OD.roleEntry k),
                                                  nextAlarm := s.alarms.nextSeq, lastAt := s.nowNs }
          ∧ Frame [.pot] [] s t))
      ∧ (s.pot.sessions.length < s.nat OD.maxSessions → Runs (.handshakeComplete path ses false d) s (fun t =>
          Tab.find t.pot.sessions ses = none ∧ t.num OD.authFailures = min OD.authFailures.hi (s.num OD.authFailures + 1)))
      ∧ (s.nat OD.maxSessions ≤ s.pot.sessions.length → ∀ ok, Runs (.handshakeComplete path ses ok d) s (fun t =>
          Tab.find t.pot.sessions ses = none ∧ t.num OD.dropped = min OD.dropped.hi (s.num OD.dropped + 1))))
    ∧ (∀ (ses : Nat) (x : Session), Tab.find s.pot.sessions ses = some x → x.lastAt + s.nat OD.sessionIdle * oneSecond ≤ s.nowNs →
      Runs (.sessionIdleTimeout ses) s (fun t => Tab.find t.pot.sessions ses = none
        ∧ (∀ k, k ≠ ses → Tab.find t.pot.sessions k = Tab.find s.pot.sessions k) ∧ Frame [.selects, .pot, .alarms] [] s t))
    ∧ (∀ (a : Nat), s.alarms.pinHold = some a → s.passed a 100000000 = true →
      Runs .alarmPinHoldExpiry s (fun t => t.alarms = { s.alarms with pinHold := none } ∧ Frame [.alarms] [] s t))

/-! ## Security -/

/-- Fuses, debug and regions (R387, R388, R392, R395, R396, R403–R406): a fuse write only adds bits, in two steps; a signed response
grants what was asked for and DEBUG_FORBID permits; a region comes up zeroed and goes down zeroed, and a re-key takes its
blocks in order under its token. -/
def Obligations.SecurityCommands : Prop :=
  ∀ (s : State),
    (∀ (who : Requester) (item : FuseItem) (v : Nat),
      let o := fuseObj item
      let k := s.itemOf who o o.addr
      s.admits who o v → s.sec.fuse = none →
      (s.fuseReason item k v = 0 → Runs (.fuseWrite who item v) s (fun t => t.reply.interim = true
        ∧ t.sec = { s.sec with fuse := some (item, k, v) } ∧ Frame [.reply, .sec] [] s t))
      ∧ (clearsFuse item (s.sec.fuseVal item k) v = true → Runs (.fuseWrite who item v) s (fun t => t.reply.reason = 0x0B04
        ∧ Frame [.reply] [] s t)))
    ∧ (∀ (item : FuseItem) (k v : Nat), s.sec.fuse = some (item, k, v) → Runs .fuseWriteComplete s (fun t => t.reply.reason = 0
        ∧ t.sec = { s.sec.blow item k v with fuse := none }))
    ∧ (let d := s.sec.dbg
       (∀ (m : BitVec 4), Runs (.dbgRequest m) s (fun t => t.sec.dbg = { d with mask := some m.toNat } ∧ Frame [.sec] [] s t))
       ∧ (d.lockout = false → Runs .dbgChallenge s (fun t => (∃ n, n < 2 ^ 256 ∧ t.sec.dbg = { d with nonce := some n, chalMask := d.mask.getD 0, granted := 0#4 })
           ∧ t.reply.data.length = 96 ∧ Frame [.reply, .freeCtr, .sec] [] s t))
       ∧ (d.lockout = true → Runs .dbgChallenge s (fun t => t = s))
       ∧ (∀ (r : DbgAnswer), d.nonce ≠ none → s.sec.answerOk r = true → Runs (.dbgResponse r) s (fun t =>
           t.sec.dbg = { d with granted := BitVec.ofNat 4 d.chalMask &&& ~~~s.sec.debugForbid, nonce := none, failRun := 0, status := 0 }))
       ∧ (∀ (r : DbgAnswer), d.nonce = none ∨ s.sec.answerOk r = false → Runs (.dbgResponse r) s (fun t => t.sec.dbg.granted = d.granted ∧ t.sec.dbg.nonce = none ∧ t.sec.dbg.status = 0x0B03
           ∧ t.sec.dbg.failRun = d.failRun + 1 ∧ (t.sec.dbg.lockout = true ↔ d.lockout = true ∨ 3 ≤ d.failRun + 1)
           ∧ t.num OD.debugFailures = min OD.debugFailures.hi (s.num OD.debugFailures + 1)))
       ∧ (d.lockout = true → d.lockAt + 60 * oneSecond ≤ s.nowNs →
         Runs .debugLockoutEnd s (fun t => t.sec.dbg = { d with lockout := false, failRun := 0 } ∧ Frame [.sec] [] s t))
       ∧ Runs .tapReset s (fun t => t.sec.dbg = { d with mask := none, nonce := none, granted := 0#4 } ∧ Frame [.sec] [] s t)
       ∧ Runs (.jtagInstruction .bypass) s (fun t => t = s)
       ∧ Runs (.jtagInstruction .idcode) s (fun t => t.reply.data = leBytes 4 Config.idcode.toNat ∧ Frame [.reply] [] s t)
       ∧ (d.granted.getLsbD 0 = true → Runs (.jtagInstruction .boundaryScan) s (fun t => t.reply.reason = 0 ∧ Frame [.reply] [] s t))
       ∧ (∀ (n : Nat), d.granted.getLsbD 1 = true →
         Runs (.jtagInstruction (.haltCore true n)) s (fun t => t.core n = { s.core n with halted := true } ∧ Frame [.vx] [] s t)
         ∧ Runs (.jtagInstruction (.haltCore false n)) s (fun t => has t.sec.dbg.ccHalted n = true ∧ Frame [.sec] [] s t)
         ∧ ((s.unit 0 n).state ≠ .retired → Runs (.jtagInstruction (.resumeCore true n)) s (fun t => t.core n = { s.core n with halted := false }))
         ∧ Runs (.jtagInstruction (.resumeCore false n)) s (fun t => has t.sec.dbg.ccHalted n = false ∧ Frame [.sec] [] s t))
       ∧ (d.granted.getLsbD 3 = true → Runs (.jtagInstruction .haltRecovery) s (fun t => t.sec.dbg = { d with haltedRecovery := true })
         ∧ Runs (.jtagInstruction .resumeRecovery) s (fun t => t.sec.dbg = { d with haltedRecovery := false }))
       ∧ (∀ (p : FabPacket), d.granted.getLsbD 2 = true → p.cmd = .rd → p.malformed = false → p.ecc = .clean → s.spineOn = true → p.data.length ≤ 512 → 1 ≤ p.bytes → p.bytes ≤ 512 →
         (∀ k, s.memDomain p.addr = some k → (s.domain k).state = .on ∧ (s.domain k).held = []) →
         OpenTo s (accOf { p with kind := .debug, peer := false }) true false p.addr p.bytes →
         Runs (.jtagInstruction (.memory p)) s (fun t => t.reply.data = s.load p.addr p.bytes ∧ t.mem = s.mem))
       ∧ (∀ (ins : JtagIns), d.granted = 0#4 → ins ≠ .idcode → Runs (.jtagInstruction ins) s (fun t => t = s)))
    ∧ (∀ (who : Requester),
      let k := s.itemOf who OD.regionEnable OD.regionEnable.addr
      let r := s.region k
      (s.admits who OD.regionEnable 1 → r.state = .disabled → s.enableMode = true → s.regionReason k = 0 →
        Runs (.regionEnable who) s (fun t => t.reply.interim = true ∧ t.flag OD.regionEnable k = true
          ∧ (∃ key, t.region k = { s.regionOf k with state := .initialising, key := some key }) ∧ t.mem = s.mem))
      ∧ (s.admits who OD.regionEnable 1 → r.state = .disabled → s.enableMode = true → s.regionReason k ≠ 0 →
        Runs (.regionEnable who) s (fun t => t.reply.reason = s.regionReason k ∧ t.sec = s.sec ∧ t.mem = s.mem))
      ∧ (s.admits who OD.regionEnable 0 → r.state ≠ .disabled → Runs (.regionDisable who) s (fun t =>
          t.reply.reason = 0 ∧ t.flag OD.regionEnable k = false ∧ t.region k = {}
          ∧ ∀ a, Memory.byte t.mem a = if r.base ≤ a ∧ a < r.base + r.size ∨ r.metaBase ≤ a ∧ a < r.metaBase + r.metaSize then 0#8
              else Memory.byte s.mem a))
      ∧ (s.admits who OD.rekeyNow 1 →
        let j := s.itemOf who OD.rekeyNow OD.rekeyNow.addr
        ((s.region j).state ≠ .disabled → (s.region j).state ≠ .quarantined → (s.region j).isProtected = true → s.flag OD.activityEnable 1 = true →
          Runs (.rekeyNow who 1) s (fun t => t.reply.reason = 0 ∧ (⟨1, j⟩ : Act) ∈ t.res.queue ++ t.res.held))
        ∧ ((s.region j).state ≠ .disabled → (s.region j).isProtected = false →
          Runs (.rekeyNow who 1) s (fun t => t.reply.reason = 0x0D08 ∧ Frame [.reply] [] s t))))
    ∧ (∀ (k : Nat),
      let r := s.region k
      (r.state = .initialising → s.holdsToken 1 k = false → Runs (.regionInitDone k) s (fun t =>
        t.region k = { r with state := .active, generation := 1, lineCtr := [], version := [], blockGen := [], lineMac := [], blockMac := [] }
        ∧ t.reply.reason = 0
        ∧ ∀ a, Memory.byte t.mem a = if r.base ≤ a ∧ a < r.base + r.size then 0#8 else Memory.byte s.mem a))
      ∧ (∀ (b v : Nat), r.state = .rekeying → s.holdsToken 1 k = true → r.work = some (b, v) → r.workAt + 1024000 / s.nat OD.rekeyRate ≤ s.nowNs →
        let ls := (List.range 16).map (16 * b + ·)
        let counted (q : Region) : Prop := (∀ l, l / 16 = b → Tab.find q.lineCtr l = none)
          ∧ (∀ l, l / 16 ≠ b → Tab.find q.lineCtr l = Tab.find r.lineCtr l) ∧ q.genOf b = r.generation ∧ (∀ c, c ≠ b → q.genOf c = r.genOf c)
          ∧ (v < counterMax → Tab.get 0 q.version b = v + 1) ∧ q.generation = r.generation
        (Tab.get 0 r.version b ≠ v → Runs (.rekeyBlock k) s (fun t =>
          t.region k = { r with work := some (b, Tab.get 0 r.version b), workAt := s.nowNs } ∧ Frame [.sec] [] s t))
        ∧ (Tab.get 0 r.version b = v → s.badLine r ls = none → r.held = [] →
          ¬(r.topVersion < s.nat OD.rekeyThreshold ∧ s.nat OD.rekeyThreshold ≤ (r.rekeyed b).topVersion) →
          ((∃ c, c < r.blocks ∧ c ≠ b ∧ r.genOf c ≠ r.generation) → Runs (.rekeyBlock k) s (fun t => (t.region k).state = .rekeying
            ∧ counted (t.region k) ∧ (∃ c, c ≠ b ∧ (t.region k).work = some (c, Tab.get 0 r.version c)) ∧ t.mem = s.mem ∧ Frame [.sec] [] s t))
          ∧ ((∀ c, c < r.blocks → c ≠ b → r.genOf c = r.generation) → (∀ a ∈ s.res.queue, a.code ≠ 1) →
            Runs (.rekeyBlock k) s (fun t => (t.region k).state = .active ∧ counted (t.region k) ∧ (t.region k).prevKey = none
              ∧ t.num OD.rekeys k = min OD.rekeys.hi (s.num OD.rekeys k + 1) ∧ t.mem = s.mem)))
        ∧ (∀ l, Tab.get 0 r.version b = v → s.badLine r ls = some l → s.flag OD.quarantineOnFail k = true →
          Runs (.rekeyBlock k) s (fun t => (t.region k).state = .quarantined ∧ t.stands 0x0B04 k = true ∧ t.mem = s.mem))))
/-! ## Power, clocks and thermal -/

/-- Caps, throttling, rails, sleep, droop and temperature (R409–R414, R416, R417, R419, R420, R423, R424). -/
def Obligations.PowerCommands : Prop :=
  ∀ (s : State), s.mode.mode ≠ .off →
    let k := s.nat OD.throttleLevel
    let p := s.power
    (∀ cv ca, Runs (.vinSample cv ca) s (fun t => t.nat OD.vinNow = min 65535 cv ∧ t.nat OD.iinNow = min 65535 ca
        ∧ t.nat OD.capNow = t.effCap ∧ t.power.vinCap ≤ vinCapOf cv ∧ (p.vinWin = [] → p.capWin = [] → t.power.vinCap = vinCapOf cv)
        ∧ (cv < 450 ∨ 1800 < cv → t.stands 0x0103 0 = true)))
    ∧ (∀ avg,
      (s.effCap < avg → Runs (.powerLoopEval avg) s (fun t => t.nat OD.throttleLevel = min 16 (k + 1)
        ∧ t.nat OD.powerNow = min 65535 avg ∧ t.power.energyUj = p.energyUj + avg ∧ bit (t.nat OD.degradedCauses) 5 = true
        ∧ t.stands 0x0102 0 = true ∧ t.power.above = if k = 16 then p.above + 1 else 0))
      ∧ (avg ≤ s.effCap → k ≤ 16 → ¬(avg + s.nat OD.capHeadroom * 10 < s.effCap ∧ 99 ≤ p.below ∧ p.withdrawn = []) →
        Runs (.powerLoopEval avg) s (fun t => t.nat OD.throttleLevel = k
          ∧ t.power.below = if avg + s.nat OD.capHeadroom * 10 < s.effCap then p.below + 1 else 0))
      ∧ (avg + s.nat OD.capHeadroom * 10 < s.effCap → 99 ≤ p.below → p.withdrawn = [] →
        Runs (.powerLoopEval avg) s (fun t => t.nat OD.throttleLevel = k - 1 ∧ t.power.below = 0
          ∧ (k = 1 → bit (t.nat OD.degradedCauses) 5 = false))))
    ∧ Runs .currentLimit s (fun t => t.nat OD.throttleLevel = 16 ∧ t.power.currentLimited = true ∧ bit (t.nat OD.degradedCauses) 5 = true)
    ∧ (∀ c u, k = 16 → 10 ≤ p.above → s.withdrawClass = some c → (s.inService c).getLast? = some u → Runs .unitWithdraw s (fun t =>
        (t.unit c u).withdrawn = true ∧ t.power.withdrawn = unitKey c u :: p.withdrawn ∧ t.nat OD.withdrawn = p.withdrawn.length + 1
        ∧ (∀ d, (s.unit c u).held = none → unitDomain c u = some d → (t.domain d).state = .lockedOff)))
    ∧ (∀ c u rest, p.withdrawn = unitKey c u :: rest → u < 256 → 100 ≤ p.below → Runs .unitReturn s (fun t => (t.unit c u).withdrawn = false
        ∧ t.power.withdrawn = rest ∧ t.nat OD.withdrawn = rest.length
        ∧ ∀ d, unitDomain c u = some d → (s.domain d).state = .lockedOff → (s.unit c u).state ≠ .retired → (s.domain d).held = [] →
          (t.domain d).state = .on))
    ∧ (∀ rail up, rail < 2 → s.railUp rail = true → (∀ a, Tab.find p.vcoreAt rail = some a → a + 100000 ≤ s.nowNs) →
      Runs (.vcoreAdjust rail up) s (fun t => Frame [.power] [OD.railVoltage.code] s t ∧ Tab.find t.power.vcoreAt rail = some s.nowNs
        ∧ t.num OD.railVoltage rail = (if up then min (max (s.nat OD.railVoltage rail + 5 : Int) 550) 850
            else min (max ((s.nat OD.railVoltage rail : Int) - 5) 550) 850)))
    ∧ (∀ rail, s.railUp rail = true → Tab.get 0 p.phasesLost rail < railFitted rail → Runs (.phaseFault rail) s (fun t =>
        t.railHealthy rail + 1 = s.railHealthy rail ∧ t.num OD.phaseFaults = min OD.phaseFaults.hi (s.num OD.phaseFaults + 1)
        ∧ t.nat OD.capNow = t.effCap))
    ∧ (∀ rail out, rail < 12 → s.railUp rail = true ∨ out = false → Runs (.railOutOfRegulation rail out) s (fun t => has t.power.railsOut rail = out
        ∧ (out = true → t.power.pgOut = false ∧ t.stands 0x0109 rail = true)))
    ∧ (∀ d, s.maySleep d = true → Runs (.domainSleep d) s (fun t => (t.domain d).state = .sleep ∧ (∀ e, e ≠ d → t.domain e = s.domain e)
        ∧ (148 ≤ d → d < 156 → Tab.find t.edge.czt (d - 148) = none) ∧ Frame [.edge, .fab] [] s t))
    ∧ (∀ d, s.maySleep d = false → Runs (.domainSleep d) s (fun t => t = s))
    ∧ (∀ n, n < 64 → has p.stretched n = false → Runs (.droopStretch n) s (fun t => has t.power.stretched n = true
        ∧ Tab.find t.power.stretchFrom n = some s.nowNs ∧ t.num OD.droopEvents = min OD.droopEvents.hi (s.num OD.droopEvents + 1)))
    ∧ (∀ n, has p.stretched n = true → Runs (.droopRelease n) s (fun t => has t.power.stretched n = false
        ∧ min oneSecond (s.nowNs - Tab.get s.nowNs p.stretchFrom n) ≤ t.stretchedNs n
        ∧ (s.nat OD.stretchAlarm < t.stretchRead → t.stands 0x0108 0 = true)))
    ∧ (∀ rs : List Int, rs.length = 138 → (∃ n, n < 136 ∧ sensorBad rs n = false) → Runs (.thermalSensorScan rs) s (fun t =>
        (∀ n, n < 136 → sensorBad rs n = false → rs.getD n 0 ≤ t.power.tj ∧ t.num OD.sensorTemp n = rs.getD n 0)
        ∧ (∃ n, n < 136 ∧ sensorBad rs n = false ∧ t.power.tj = rs.getD n 0)
        ∧ (∀ n, n < 136 → sensorBad rs n = true → t.num OD.sensorTemp n = -32768 ∧ has t.power.excluded n = true)
        ∧ Tab.get 0 t.power.hbmTemp 0 = rs.getD 136 0 ∧ Tab.get 0 t.power.hbmTemp 1 = rs.getD 137 0
        ∧ (gradeMax < t.power.tj → t.stands 0x0106 0 = true)))
    ∧ (let point := gradeMax - s.nat OD.throttleOffset * 10
       let hbm := max (Tab.get 0 p.hbmTemp 0) (Tab.get 0 p.hbmTemp 1)
       let d := s.nat OD.thermalStep * 10
       (∀ a, p.thermalAt = some a → a + 10000000 ≤ s.nowNs) →
       Runs .thermalCapStep s (fun t => t.nat OD.capNow = t.effCap ∧ t.power.thermalAt = some s.nowNs
         ∧ (point ≤ p.tj ∨ 950 ≤ hbm → p.falling = true → t.power.thermalCap = p.thermalCap - d)
         ∧ (point ≤ p.tj ∨ 950 ≤ hbm → p.falling = false → t.power.thermalCap = min p.thermalCap (min s.effCap p.powerNow) - d)
         ∧ (p.tj ≤ point - 30 → hbm ≤ 920 → t.power.thermalCap = min 2900 (p.thermalCap + d))))

/-! ## Resilience, maintenance and pins -/

/-- Units, lockstep pairs, the recovery pair and the warden (R433–R441): a diagnosis returns a unit or leaves it retired, a mismatch halts
a pair until its tests say which copies go on, missed heartbeats restart the recovery pair, and three failed restarts lead to
SAFE. -/
def Obligations.ResilienceCommands : Prop :=
  ∀ (s : State),
    (∀ (n cls u : Nat),
      let x := s.unit cls u
      unitOfNumber n = some (cls, u) →
      (s.res.recovery = .running → x.state = .retired → x.testing = none → x.cause ≠ 0 → Runs (.diagStart n) s (fun t =>
        t.unit cls u = { x with fenced := false, held := none, testing := some x.cause, testAt := s.nowNs } ∧ t.job cls u = none
        ∧ ∀ v w, unitKey v w ≠ unitKey cls u → t.unit v w = s.unit v w))
      ∧ (s.passed x.testAt (testNs cls) = false → ∀ p b, Runs (.diagComplete n p b) s (fun t => t = s))
      ∧ (s.passed x.testAt (testNs cls) = true →
      (∀ b, x.state = .retired → x.testing ≠ none → x.cause ≠ 0 → (s.recentReturns x).length < s.nat OD.returnLimit →
        Runs (.diagComplete n true b) s (fun t => (t.unit cls u).testing = none ∧ (t.unit cls u).cause = 0
          ∧ (t.unit cls u).state = (if s.returnsReserve cls u then .reserve else .idle) ∧ t.nat OD.diagResult n = 3
          ∧ t.num OD.unitsReturned = min OD.unitsReturned.hi (s.num OD.unitsReturned + 1)
          ∧ (⟨s.now.pack, unitNumber cls u, x.cause, 1⟩ : FaultRec) ∈ t.res.faultLog))
      ∧ (∀ b, x.state = .retired → x.testing ≠ none → x.cause ≠ 0 → Runs (.diagComplete n false b) s (fun t =>
          t.unit cls u = { x with testing := none, cause := 0 } ∧ t.nat OD.diagResult n = 1 + b % 256 * 256
          ∧ (⟨s.now.pack, unitNumber cls u, x.cause, 2⟩ : FaultRec) ∈ t.res.faultLog))
      ∧ (∀ b, x.state = .reserve → x.testing ≠ none → Runs (.diagComplete n false b) s (fun t => t.retired cls u
          ∧ (⟨s.now.pack, unitNumber cls u, 7, 2⟩ : FaultRec) ∈ t.res.faultLog)))
      ∧ (∀ who, s.admits who OD.diagRun 1 → s.itemOf who OD.diagRun OD.diagRun.addr = n →
        (x.state = .retired → Runs (.diagRun who 1) s (fun t => t.reply.reason = 0
          ∧ t.unit cls u = { x with fenced := false, held := none, testing := some x.cause, testAt := s.nowNs }))
        ∧ (x.state = .reserve → Runs (.diagRun who 1) s (fun t => t.reply.reason = 0
          ∧ t.unit cls u = { x with testing := some 7, testAt := s.nowNs }))
        ∧ (x.state ≠ .retired → x.state ≠ .reserve → Runs (.diagRun who 1) s (fun t => t.reply.reason = 0x0A01 ∧ Frame [.reply] [] s t))))
    ∧ (∀ (k : Nat),
      let even := 2 * k
      let odd := 2 * k + 1
      let goes (t : State) (n : Nat) (held : Option (Nat × Nat)) : Prop := (t.unit 1 n).held = held
        ∧ (t.unit 1 n).state = if held.isSome then .running else .idle
      k < 4 →
      (s.paired k = true → (s.unit 1 even).healthy = true → (s.unit 1 odd).healthy = true → Runs (.lockstepMismatch k) s (fun t =>
        (t.unit 1 even).state = .halted ∧ (t.unit 1 odd).state = .halted ∧ has t.res.pairTest k = true
        ∧ t.num OD.lockstepMismatches = min OD.lockstepMismatches.hi (s.num OD.lockstepMismatches + 1)))
      ∧ (has s.res.pairTest k = true → s.res.recovery = .running → s.passed (Tab.get 0 s.res.pairAt k) 50000 = true →
        Runs (.lockstepTestDone k true true) s (fun t => goes t even (s.unit 1 even).held ∧ goes t odd (s.unit 1 odd).held
          ∧ has t.res.pairTest k = false ∧ t.res.unpaired = s.res.unpaired)
        ∧ Runs (.lockstepTestDone k true false) s (fun t => goes t even (s.unit 1 even).held ∧ t.retired 1 odd
          ∧ has t.res.unpaired k = true ∧ bit (t.nat OD.degradedCauses) 7 = true)
        ∧ Runs (.lockstepTestDone k false true) s (fun t => goes t odd (s.unit 1 even).held ∧ t.retired 1 even
          ∧ has t.res.unpaired k = true ∧ bit (t.nat OD.degradedCauses) 7 = true)
        ∧ ((s.unit 1 even).state ≠ .retired → Runs (.lockstepTestDone k false false) s (fun t => t.retired 1 even ∧ t.retired 1 odd
          ∧ has t.res.unpaired k = true))))
    ∧ (∀ (cc : Nat) (w : Bool), cc < 8 → (s.unit 1 cc).state ≠ .retired → Runs (.ccUnitFault cc w) s (fun t => t.retired 1 cc
        ∧ (t.cc cc).held = none ∧ (s.paired (cc / 2) = true →
          (s.unit 1 (cc / 2 * 2 + (1 - cc % 2))).healthy = true → t.retired 1 (cc / 2 * 2 + (1 - cc % 2)))))
    ∧ (let again (t : State) : Prop := t.res.recovery = .restarting ∧ t.res.attempts = 1 ∧ t.res.misses = 0 ∧ t.res.attemptAt = s.nowNs
        ∧ t.res.restartWith = Tab.find s.sec.running 1
        ∧ t.num OD.wardenRestarts = min OD.wardenRestarts.hi (s.num OD.wardenRestarts + 1)
       (s.res.recovery = .running → Runs .heartbeat s (fun t => t.res = { s.res with misses := 0, beatAt := s.nowNs } ∧ Frame [.res] [] s t)
        ∧ (s.passed s.res.beatAt (100000 * (s.res.misses + 1)) = true → s.res.misses < 2 → Runs .heartbeatMiss s (fun t => t.res = { s.res with misses := s.res.misses + 1 } ∧ Frame [.res] [] s t))
        ∧ (s.passed s.res.beatAt (100000 * (s.res.misses + 1)) = true → 2 ≤ s.res.misses → Runs .heartbeatMiss s again) ∧ Runs .recoveryMismatch s again)
       ∧ (let logged := s.res.faultLog ++ s.res.spineQ
          s.res.recovery = .restarting → s.attemptOver = false → s.romPasses = true → s.res.queue = [] → Runs .heartbeat s (fun t => t.res.recovery = .running ∧ t.res.attempts = 0
          ∧ t.res.misses = 0 ∧ t.res.spineQ = [] ∧ t.res.faultLog = logged.drop (logged.length - 64)
          ∧ (∀ i, s.res.restartWith = some i → Tab.find t.sec.running 1 = some i)))
       ∧ (s.res.recovery = .restarting → s.attemptOver = true →
          (s.res.attempts < 3 → Runs .wardenRestartFail s (fun t => t.res.recovery = .restarting ∧ t.res.attempts = s.res.attempts + 1
            ∧ t.res.restartWith = (match s.res.previous with | some i => some i | none => s.res.restartWith)))
          ∧ (3 ≤ s.res.attempts → Runs .wardenRestartFail s (fun t => t.res.recovery = .off ∧ t.mode.mode = .safe))))
    ∧ (∀ n, n < 3 → Runs (.wardenVote n) s (fun t => Tab.get 0 t.res.wardenFix n = Tab.get 0 s.res.wardenFix n + 1
        ∧ t.num OD.wardenVotes = min OD.wardenVotes.hi (s.num OD.wardenVotes + 1)))

/-- The maintenance coordinator, drills and upgrades (R140, R442–R448): a request waits or holds its token, a returned token is free
again, a drill exchanges a unit and a reserve, an upgrade is committed or abandoned. -/
def Obligations.MaintenanceCommands : Prop :=
  ∀ (s : State),
    let asked (a : Act) (t : State) : Prop := a ∈ t.res.queue ++ t.res.held
    (∀ c i, actInstance c i = true → c ≠ 4 → s.flag OD.activityEnable c = true → Runs (.maintRequest c i) s (asked ⟨c, i⟩))
    ∧ (∀ c i, s.holdsToken c i = true → s.res.queue = [] → Runs (.tokenReturn c i) s (fun t =>
        t.res = { s.res with held := s.res.held.erase ⟨c, i⟩ }
        ∧ t.time = { s.time with stepDone := s.time.stepDone && decide (c ≠ 3) } ∧ Frame [.res, .time] [] s t))
    ∧ (∀ c i, (⟨c, i⟩ : Act) ∈ s.res.queue → s.alarms.entries.length < 4090 →
      s.passed (Tab.get 0 s.res.queuedAt (Act.mk c i).key) (s.nat OD.waitAlarm * oneSecond) = true → Runs (.waitAlarmExpiry c i) s (fun t =>
        t.res = s.res ∧ ∃ e ∈ t.alarms.entries, e.is 0x0A0A 0 = true))
    ∧ (s.nat OD.drillInterval ≠ 0 → s.passed s.res.drillAt (s.nat OD.drillInterval * oneSecond) = true → s.flag OD.activityEnable 5 = true →
      ∀ k, (rotationFrom s.res.drillClass).find? (fun j => !(s.reserves (drillRotation.getD j 0)).isEmpty) = some k →
        Runs .drillIntervalExpiry s (fun t => asked ⟨5, drillRotation.getD k 0⟩ t ∧ t.res.drillClass = (k + 1) % 8
          ∧ t.res.drillAt = s.nowNs))
    ∧ (∀ cls u r l,
      let x := s.unit cls u
      s.res.drill = some (cls, u) → (x.state = .running → ∀ p, Runs (.drillSwap p) s (fun t => t = s)) ∧ (x.state = .idle → s.promotable cls = r :: l → s.res.queue = [] → u < 256 → r < 256 →
      Runs (.drillSwap true) s (fun t => (t.unit cls r).state = .idle ∧ (t.unit cls r).aliasOf = some (x.aliasOf.getD u)
        ∧ t.unit cls u = { x with state := .reserve, aliasOf := none } ∧ t.res.drill = none ∧ t.res.drillWatch = some (unitKey cls r))
      ∧ Runs (.drillSwap false) s (fun t => (t.unit cls r).state = .idle ∧ t.retired cls u ∧ t.res.drill = none)))
    ∧ (∀ (who : Requester) (img : Image), s.admits who OD.upgradeImage 0 → s.mode.mode = .upgrade →
      let cls := if img.cls = 2#8 then 2 else 1
      (s.sec.imageReason cls img = 0 → Runs (.upgradeImage who img) s (fun t => t.reply.reason = 0 ∧ Tab.find t.res.newImages cls = some img
        ∧ Frame [.reply, .res] [] s t))
      ∧ (s.sec.imageReason cls img ≠ 0 → Runs (.upgradeImage who img) s (fun t => t.reply.reason = s.sec.imageReason cls img ∧ t.res = s.res)))
    ∧ (∀ (who : Requester) (o : Obj) (c : Instr), (o, c) ∈ [(OD.upgradeRecovery, Instr.upgradeRecovery who 1),
        (OD.upgradeCommit, .upgradeCommit who 1), (OD.upgradeAbandon, .upgradeAbandon who 1)] → s.admits who o 1 → s.mode.mode ≠ .upgrade →
      Runs c s (fun t => t.reply.reason = 0x0A01 ∧ Frame [.reply] [] s t))
    ∧ (s.mode.mode = .upgrade → ∀ (who : Requester),
      let ended (t : State) : Prop := t.reply.reason = 0 ∧ t.mode.mode = (if s.nat OD.degradedCauses = 0 then .run else .degraded)
        ∧ t.res.newImages = [] ∧ t.res.previous = none ∧ t.res.held = s.res.held.erase ⟨4, 0⟩
      (s.admits who OD.upgradeRecovery 1 → ∀ i, Tab.find s.res.newImages 1 = some i → Runs (.upgradeRecovery who 1) s (fun t =>
        t.reply.reason = 0 ∧ t.res.recovery = .restarting ∧ t.res.restartWith = some i
        ∧ t.res.previous = (match s.res.previous with | some p => some p | none => Tab.find s.sec.running 1)))
      ∧ (s.admits who OD.upgradeCommit 1 → s.res.queue = [] → Runs (.upgradeCommit who 1) s ended)
      ∧ (s.admits who OD.upgradeAbandon 1 → s.res.queue = [] → Runs (.upgradeAbandon who 1) s (fun t => ended t
        ∧ (∀ v, v < 96 → t.nat OD.coreImage v = Tab.get 0 s.res.entryImages v)
        ∧ (s.res.recoveryChanged = true → t.res.recovery = .restarting ∧ t.res.restartWith = s.res.previous))))
    ∧ (s.mode.mode = .upgrade → s.passed s.res.upgradeAt (s.nat OD.upgradeLimit * oneSecond) = true →
      s.alarms.entries.length < 4090 → Runs .upgradeLimitExpiry s (fun t => t.mode = s.mode
        ∧ ∃ e ∈ t.alarms.entries, e.is 0x0A0B 0 = true))
    ∧ (∀ (who : Requester) (v : Nat),
      let c := s.itemOf who OD.coreImage OD.coreImage.addr
      let u := s.setNum OD.coreImage c v
      s.admits who OD.coreImage v →
      ((s.mode.mode ≠ .upgrade ∨ ∀ e ∈ s.galley.formes, u.formeServed e.2 = true) → Runs (.coreImage who v) s (fun t => t.reply.reason = 0
        ∧ t.nat OD.coreImage c = v ∧ Frame [.reply, .force] [OD.coreImage.code] s t))
      ∧ (s.mode.mode = .upgrade → (∃ e ∈ s.galley.formes, u.formeServed e.2 = false) → Runs (.coreImage who v) s (fun t =>
          t.reply.reason = 0x0A06 ∧ Frame [.reply] [] s t)))

/-- GPIO, bank supplies, control outputs and contention (R14, R466–R471). -/
def Obligations.PinCommands : Prop :=
  ∀ (s : State),
    (∀ (who : Requester) (v : Nat),
      let p := s.itemOf who OD.gpioConfig OD.gpioConfig.addr
      s.admits who OD.gpioConfig v →
      (32 ≤ p → bits v 7 6 = 0 → Runs (.gpioConfig who v) s (fun t => t.reply.reason = 0 ∧ Frame [.reply] [] s t))
      ∧ (p < 32 → bits v 2 1 ≠ 3 → bits v 5 4 ≠ 3 → v / 256 = 0 → Runs (.gpioConfig who v) s (fun t => t.reply.reason = 0
        ∧ t.nat OD.gpioConfig p = v ∧ has t.pins.driving p = bit v 0 ∧ Frame [.reply, .pins] [OD.gpioConfig.code] s t))
      ∧ ((32 ≤ p ∧ bits v 7 6 ≠ 0) ∨ (p < 32 ∧ (bits v 2 1 = 3 ∨ bits v 5 4 = 3 ∨ v / 256 ≠ 0)) → Runs (.gpioConfig who v) s (fun t => t.reply.reason = 0x0C03
        ∧ Frame [.reply] [] s t)))
    ∧ (∀ (who : Requester) (v : Nat),
      let old := s.nat OD.bankVoltage
      s.admits who OD.bankVoltage v →
      (v ≤ 3 → (∀ b, b < 2 → bit v b ≠ bit old b → s.pinBankUsed b = false) → Runs (.bankVoltage who v) s (fun t => t.reply.reason = 0
        ∧ t.nat OD.bankVoltage = v ∧ ∀ b, b < 2 →
          t.pinBank b = if bit v b ≠ bit old b ∧ s.pinBank b ≠ .unpowered then .changing else s.pinBank b))
      ∧ (v ≤ 3 → (∃ b, b < 2 ∧ bit v b ≠ bit old b ∧ s.pinBankUsed b = true) → Runs (.bankVoltage who v) s (fun t =>
          t.reply.reason = 0x0C02 ∧ Frame [.reply] [] s t))
      ∧ (3 < v → Runs (.bankVoltage who v) s (fun t => t.reply.reason = 0x0C03 ∧ Frame [.reply] [] s t)))
    ∧ (∀ b, b < 2 →
      (s.pinBank b = .changing → s.passed (Tab.get 0 s.pins.bankAt b) 100000 = true → Runs (.bankSettle b) s (fun t => t.pinBank b = .steady ∧ t.pinBank (1 - b) = s.pinBank (1 - b)
        ∧ Frame [.pins] [] s t))
      ∧ (s.pinBank b = .steady → Runs (.bankSupplyFault b) s (fun t => t.pinBank b = .outOfRange ∧ t.stands 0x0C03 b = true))
      ∧ (s.pinBank b = .outOfRange → Runs (.bankSupplyReturn b) s (fun t => t.pinBank b = .steady)))
    ∧ (∀ k, k < 8 →
      (s.rcoSinks k = true → (∀ a, Tab.find s.pins.rcoSinkAt k = some a → s.passed a 4000 = true) →
        Runs (.rcoShort k) s (fun t => has t.pins.rcoOff k = true ∧ t.rcoSinks k = false ∧ t.stands 0x0C01 k = true))
      ∧ (has s.pins.rcoOff k = true → s.rcoWants k = true → s.passed (Tab.get 0 s.pins.rcoOffAt k) 10000000 = true → ∀ low, Runs (.rcoRetry k low) s (fun t =>
          has t.pins.rcoOff k = !low ∧ t.rcoSinks k = low ∧ t.num OD.rcoRetries = min OD.rcoRetries.hi (s.num OD.rcoRetries + 1))))
    ∧ (∀ pin b, faultBit pin = some b → s.pinDrives pin = true → Runs (.pinContention pin) s (fun t =>
        bit (t.nat OD.pinFault) b = true ∧ t.pinDrives pin = false ∧ t.stands 0x0C02 pin = true
        ∧ t.num OD.contentionEvents = min OD.contentionEvents.hi (s.num OD.contentionEvents + 1)))
    ∧ (∀ (who : Requester) (v now : Nat), s.admits who OD.pinFault v → Runs (.pinFaultClear who v now) s (fun t => t.reply.reason = 0
        ∧ ∀ b, bit (t.nat OD.pinFault) b = (bit (s.nat OD.pinFault) b && (!bit v b || bit now b))))
end

