-- ==== Sys2Proof/Laws/Exec.lean ====
section
/-!
SUPPORT. Each command runs its meaning: one equation per constructor.
-/

namespace Sys2Proof.Machine

open Sys2Proof

@[simp] theorem exec_vinRise (cv straps s) : exec (.vinRise cv straps) s = execVinRise cv straps s := rfl
@[simp] theorem exec_vinFall (s) : exec .vinFall s = execVinFall s := rfl
@[simp] theorem exec_resetNAssert (straps s) : exec (.resetNAssert straps) s = execResetNAssert straps s := rfl
@[simp] theorem exec_resetNRelease (s) : exec .resetNRelease s = execResetNRelease s := rfl
@[simp] theorem exec_thermalShutdown (s) : exec .thermalShutdown s = execThermalShutdown s := rfl
@[simp] theorem exec_modeRequest (who code s) : exec (.modeRequest who code) s = execModeRequest who code s := rfl
@[simp] theorem exec_deviceEnable (who obs s) : exec (.deviceEnable who obs) s = execDeviceEnable who obs s := rfl
@[simp] theorem exec_deviceDisable (who s) : exec (.deviceDisable who) s = execDeviceDisable who s := rfl
@[simp] theorem exec_drainEnd (s) : exec .drainEnd s = execDrainEnd s := rfl
@[simp] theorem exec_bootStageComplete (failedUnits obs s) : exec (.bootStageComplete failedUnits obs) s = execBootStageComplete failedUnits obs s := rfl
@[simp] theorem exec_bootStageFail (reason s) : exec (.bootStageFail reason) s = execBootStageFail reason s := rfl
@[simp] theorem exec_bootHostTimeout (s) : exec .bootHostTimeout s = execBootHostTimeout s := rfl
@[simp] theorem exec_bootImageWrite (fn img s) : exec (.bootImageWrite fn img) s = execBootImageWrite fn img s := rfl
@[simp] theorem exec_degradedExit (s) : exec .degradedExit s = execDegradedExit s := rfl
@[simp] theorem exec_oscInLoss (s) : exec .oscInLoss s = execOscInLoss s := rfl
@[simp] theorem exec_oscInReturn (s) : exec .oscInReturn s = execOscInReturn s := rfl
@[simp] theorem exec_servoMeasurement (e dtNs freqOffset s) : exec (.servoMeasurement e dtNs freqOffset) s = execServoMeasurement e dtNs freqOffset s := rfl
@[simp] theorem exec_servoLock (s) : exec .servoLock s = execServoLock s := rfl
@[simp] theorem exec_timebaseStep (s) : exec .timebaseStep s = execTimebaseStep s := rfl
@[simp] theorem exec_timeSet (who v s) : exec (.timeSet who v) s = execTimeSet who v s := rfl
@[simp] theorem exec_referenceQualify (entry s) : exec (.referenceQualify entry) s = execReferenceQualify entry s := rfl
@[simp] theorem exec_referenceDisqualify (entry s) : exec (.referenceDisqualify entry) s = execReferenceDisqualify entry s := rfl
@[simp] theorem exec_announceTimeout (port place s) : exec (.announceTimeout port place) s = execAnnounceTimeout port place s := rfl
@[simp] theorem exec_ppsLossTimeout (input s) : exec (.ppsLossTimeout input) s = execPpsLossTimeout input s := rfl
@[simp] theorem exec_synceLockLoss (lane s) : exec (.synceLockLoss lane) s = execSynceLockLoss lane s := rfl
@[simp] theorem exec_waitToRestoreExpiry (freq s) : exec (.waitToRestoreExpiry freq) s = execWaitToRestoreExpiry freq s := rfl
@[simp] theorem exec_holdoverLimit (s) : exec .holdoverLimit s = execHoldoverLimit s := rfl
@[simp] theorem exec_ptpEventMessageRx (port encap msg s) : exec (.ptpEventMessageRx port encap msg) s = execPtpEventMessageRx port encap msg s := rfl
@[simp] theorem exec_ptpUnpairedDiscard (port seqId s) : exec (.ptpUnpairedDiscard port seqId) s = execPtpUnpairedDiscard port seqId s := rfl
@[simp] theorem exec_stampedFrameTx (port tag sync discarded s) : exec (.stampedFrameTx port tag sync discarded) s = execStampedFrameTx port tag sync discarded s := rfl
@[simp] theorem exec_txStampQueuePop (port s) : exec (.txStampQueuePop port) s = execTxStampQueuePop port s := rfl
@[simp] theorem exec_ppsInEdge (input stamp dtNs freq s) : exec (.ppsInEdge input stamp dtNs freq) s = execPpsInEdge input stamp dtNs freq s := rfl
@[simp] theorem exec_todInMessage (seconds utc ownOffset sinceEdgeMs fmt baud s) : exec (.todInMessage seconds utc ownOffset sinceEdgeMs fmt baud) s = execTodInMessage seconds utc ownOffset sinceEdgeMs fmt baud s := rfl
@[simp] theorem exec_ppsOutEdge (out s) : exec (.ppsOutEdge out) s = execPpsOutEdge out s := rfl
@[simp] theorem exec_ppsOutPulseEnd (out s) : exec (.ppsOutPulseEnd out) s = execPpsOutPulseEnd out s := rfl
@[simp] theorem exec_todOutSend (s) : exec .todOutSend s = execTodOutSend s := rfl
@[simp] theorem exec_slotBoundary (cell s) : exec (.slotBoundary cell) s = execSlotBoundary cell s := rfl
@[simp] theorem exec_subframeBoundary (s) : exec .subframeBoundary s = execSubframeBoundary s := rfl
@[simp] theorem exec_frameBoundary (s) : exec .frameBoundary s = execFrameBoundary s := rfl
@[simp] theorem exec_sfnWrap (s) : exec .sfnWrap s = execSfnWrap s := rfl
@[simp] theorem exec_hfnWrap (s) : exec .hfnWrap s = execHfnWrap s := rfl
@[simp] theorem exec_airTickWrap (s) : exec .airTickWrap s = execAirTickWrap s := rfl
@[simp] theorem exec_ptmRequest (s) : exec .ptmRequest s = execPtmRequest s := rfl
@[simp] theorem exec_ptmResponse (t2 t3 t4 s) : exec (.ptmResponse t2 t3 t4) s = execPtmResponse t2 t3 t4 s := rfl
@[simp] theorem exec_ptmResponseTimeout (s) : exec .ptmResponseTimeout s = execPtmResponseTimeout s := rfl
@[simp] theorem exec_press (cell s) : exec (.press cell) s = execPress cell s := rfl
@[simp] theorem exec_impressionRelease (imp s) : exec (.impressionRelease imp) s = execImpressionRelease imp s := rfl
@[simp] theorem exec_counterFireBy (ctr s) : exec (.counterFireBy ctr) s = execCounterFireBy ctr s := rfl
@[simp] theorem exec_dispatch (cls unit s) : exec (.dispatch cls unit) s = execDispatch cls unit s := rfl
@[simp] theorem exec_completionReport (r s) : exec (.completionReport r) s = execCompletionReport r s := rfl
@[simp] theorem exec_faultReport (cls unit r s) : exec (.faultReport cls unit r) s = execFaultReport cls unit r s := rfl
@[simp] theorem exec_watchdogExpiry (handle s) : exec (.watchdogExpiry handle) s = execWatchdogExpiry handle s := rfl
@[simp] theorem exec_deadlineExpiry (handle s) : exec (.deadlineExpiry handle) s = execDeadlineExpiry handle s := rfl
@[simp] theorem exec_lateHorizonExpiry (handle s) : exec (.lateHorizonExpiry handle) s = execLateHorizonExpiry handle s := rfl
@[simp] theorem exec_stallDeclare (part s) : exec (.stallDeclare part) s = execStallDeclare part s := rfl
@[simp] theorem exec_slugHandleReserve (kind priv s) : exec (.slugHandleReserve kind priv) s = execSlugHandleReserve kind priv s := rfl
@[simp] theorem exec_slugSubmit (handle bytes s) : exec (.slugSubmit handle bytes) s = execSlugSubmit handle bytes s := rfl
@[simp] theorem exec_slugDecrement (handle s) : exec (.slugDecrement handle) s = execSlugDecrement handle s := rfl
@[simp] theorem exec_handleReserveTimeout (handle s) : exec (.handleReserveTimeout handle) s = execHandleReserveTimeout handle s := rfl
@[simp] theorem exec_timerSlugFire (handle s) : exec (.timerSlugFire handle) s = execTimerSlugFire handle s := rfl
@[simp] theorem exec_ccDone (cc s) : exec (.ccDone cc) s = execCcDone cc s := rfl
@[simp] theorem exec_countClear (who v s) : exec (.countClear who v) s = execCountClear who v s := rfl
@[simp] theorem exec_loadWindowEnd (s) : exec .loadWindowEnd s = execLoadWindowEnd s := rfl
@[simp] theorem exec_formeImage (who bytes s) : exec (.formeImage who bytes) s = execFormeImage who bytes s := rfl
@[simp] theorem exec_formeEnable (who s) : exec (.formeEnable who) s = execFormeEnable who s := rfl
@[simp] theorem exec_formeDisable (who s) : exec (.formeDisable who) s = execFormeDisable who s := rfl
@[simp] theorem exec_cellEnable (who v s) : exec (.cellEnable who v) s = execCellEnable who v s := rfl
@[simp] theorem exec_slotFormes (who v s) : exec (.slotFormes who v) s = execSlotFormes who v s := rfl
@[simp] theorem exec_interruptTaken (core cause within s) : exec (.interruptTaken core cause within) s = execInterruptTaken core cause within s := rfl
@[simp] theorem exec_xret (core fromM s) : exec (.xret core fromM) s = execXret core fromM s := rfl
@[simp] theorem exec_vstatusAccess (core rd f src s) : exec (.vstatusAccess core rd f src) s = execVstatusAccess core rd f src s := rfl
@[simp] theorem exec_vlWWrite (core src s) : exec (.vlWWrite core src) s = execVlWWrite core src s := rfl
@[simp] theorem exec_vcfgWWrite (core src s) : exec (.vcfgWWrite core src) s = execVcfgWWrite core src s := rfl
@[simp] theorem exec_cpOpComplete (core cp s) : exec (.cpOpComplete core cp) s = execCpOpComplete core cp s := rfl
@[simp] theorem exec_vadd (o s) : exec (.vadd o) s = execVadd o s := rfl
@[simp] theorem exec_vsub (o s) : exec (.vsub o) s = execVsub o s := rfl
@[simp] theorem exec_vadds (o s) : exec (.vadds o) s = execVadds o s := rfl
@[simp] theorem exec_vsubs (o s) : exec (.vsubs o) s = execVsubs o s := rfl
@[simp] theorem exec_vmul (o s) : exec (.vmul o) s = execVmul o s := rfl
@[simp] theorem exec_vmulh (o s) : exec (.vmulh o) s = execVmulh o s := rfl
@[simp] theorem exec_vmacc (o s) : exec (.vmacc o) s = execVmacc o s := rfl
@[simp] theorem exec_vnmsac (o s) : exec (.vnmsac o) s = execVnmsac o s := rfl
@[simp] theorem exec_vdiv (o s) : exec (.vdiv o) s = execVdiv o s := rfl
@[simp] theorem exec_vdivs (o s) : exec (.vdivs o) s = execVdivs o s := rfl
@[simp] theorem exec_vrem (o s) : exec (.vrem o) s = execVrem o s := rfl
@[simp] theorem exec_vand (o s) : exec (.vand o) s = execVand o s := rfl
@[simp] theorem exec_vor (o s) : exec (.vor o) s = execVor o s := rfl
@[simp] theorem exec_vxor (o s) : exec (.vxor o) s = execVxor o s := rfl
@[simp] theorem exec_vsll (o s) : exec (.vsll o) s = execVsll o s := rfl
@[simp] theorem exec_vsra (o s) : exec (.vsra o) s = execVsra o s := rfl
@[simp] theorem exec_vsrl (o s) : exec (.vsrl o) s = execVsrl o s := rfl
@[simp] theorem exec_vmin (o s) : exec (.vmin o) s = execVmin o s := rfl
@[simp] theorem exec_vmax (o s) : exec (.vmax o) s = execVmax o s := rfl
@[simp] theorem exec_vmulhr (o rnd s) : exec (.vmulhr o rnd) s = execVmulhr o rnd s := rfl
@[simp] theorem exec_vcmulr (o rnd s) : exec (.vcmulr o rnd) s = execVcmulr o rnd s := rfl
@[simp] theorem exec_vcmacr (o rnd s) : exec (.vcmacr o rnd) s = execVcmacr o rnd s := rfl
@[simp] theorem exec_vcmulcr (o rnd s) : exec (.vcmulcr o rnd) s = execVcmulcr o rnd s := rfl
@[simp] theorem exec_vfadd (o s) : exec (.vfadd o) s = execVfadd o s := rfl
@[simp] theorem exec_vfsub (o s) : exec (.vfsub o) s = execVfsub o s := rfl
@[simp] theorem exec_vfmul (o s) : exec (.vfmul o) s = execVfmul o s := rfl
@[simp] theorem exec_vfdiv (o s) : exec (.vfdiv o) s = execVfdiv o s := rfl
@[simp] theorem exec_vfma (o s) : exec (.vfma o) s = execVfma o s := rfl
@[simp] theorem exec_vfnms (o s) : exec (.vfnms o) s = execVfnms o s := rfl
@[simp] theorem exec_vfmin (o s) : exec (.vfmin o) s = execVfmin o s := rfl
@[simp] theorem exec_vfmax (o s) : exec (.vfmax o) s = execVfmax o s := rfl
@[simp] theorem exec_vfcmul (o s) : exec (.vfcmul o) s = execVfcmul o s := rfl
@[simp] theorem exec_vfcmac (o s) : exec (.vfcmac o) s = execVfcmac o s := rfl
@[simp] theorem exec_vfcvtFX (o s) : exec (.vfcvtFX o) s = execVfcvtFX o s := rfl
@[simp] theorem exec_vfcvtXF (o s) : exec (.vfcvtXF o) s = execVfcvtXF o s := rfl
@[simp] theorem exec_vfcvtXFRtz (o s) : exec (.vfcvtXFRtz o) s = execVfcvtXFRtz o s := rfl
@[simp] theorem exec_vfneg (o s) : exec (.vfneg o) s = execVfneg o s := rfl
@[simp] theorem exec_vfabs (o s) : exec (.vfabs o) s = execVfabs o s := rfl
@[simp] theorem exec_vneg (o s) : exec (.vneg o) s = execVneg o s := rfl
@[simp] theorem exec_vnegs (o s) : exec (.vnegs o) s = execVnegs o s := rfl
@[simp] theorem exec_vabs (o s) : exec (.vabs o) s = execVabs o s := rfl
@[simp] theorem exec_vabss (o s) : exec (.vabss o) s = execVabss o s := rfl
@[simp] theorem exec_vnot (o s) : exec (.vnot o) s = execVnot o s := rfl
@[simp] theorem exec_vclz (o s) : exec (.vclz o) s = execVclz o s := rfl
@[simp] theorem exec_vcpop (o s) : exec (.vcpop o) s = execVcpop o s := rfl
@[simp] theorem exec_vconj (o s) : exec (.vconj o) s = execVconj o s := rfl
@[simp] theorem exec_vconjs (o s) : exec (.vconjs o) s = execVconjs o s := rfl
@[simp] theorem exec_vcmp (o s) : exec (.vcmp o) s = execVcmp o s := rfl
@[simp] theorem exec_vcmpu (o s) : exec (.vcmpu o) s = execVcmpu o s := rfl
@[simp] theorem exec_vfcmp (o s) : exec (.vfcmp o) s = execVfcmp o s := rfl
@[simp] theorem exec_vsel (o s) : exec (.vsel o) s = execVsel o s := rfl
@[simp] theorem exec_vperm (o s) : exec (.vperm o) s = execVperm o s := rfl
@[simp] theorem exec_vredsum (o s) : exec (.vredsum o) s = execVredsum o s := rfl
@[simp] theorem exec_vredsums (o s) : exec (.vredsums o) s = execVredsums o s := rfl
@[simp] theorem exec_vredmax (o s) : exec (.vredmax o) s = execVredmax o s := rfl
@[simp] theorem exec_vredmin (o s) : exec (.vredmin o) s = execVredmin o s := rfl
@[simp] theorem exec_vredcsums (o s) : exec (.vredcsums o) s = execVredcsums o s := rfl
@[simp] theorem exec_vfredsum (o s) : exec (.vfredsum o) s = execVfredsum o s := rfl
@[simp] theorem exec_vfredmax (o s) : exec (.vfredmax o) s = execVfredmax o s := rfl
@[simp] theorem exec_vfredmin (o s) : exec (.vfredmin o) s = execVfredmin o s := rfl
@[simp] theorem exec_vaddX (o s) : exec (.vaddX o) s = execVaddX o s := rfl
@[simp] theorem exec_vsubX (o s) : exec (.vsubX o) s = execVsubX o s := rfl
@[simp] theorem exec_vrsubX (o s) : exec (.vrsubX o) s = execVrsubX o s := rfl
@[simp] theorem exec_vmulX (o s) : exec (.vmulX o) s = execVmulX o s := rfl
@[simp] theorem exec_vmaccX (o s) : exec (.vmaccX o) s = execVmaccX o s := rfl
@[simp] theorem exec_vsllX (o s) : exec (.vsllX o) s = execVsllX o s := rfl
@[simp] theorem exec_vsraX (o s) : exec (.vsraX o) s = execVsraX o s := rfl
@[simp] theorem exec_vsrlX (o s) : exec (.vsrlX o) s = execVsrlX o s := rfl
@[simp] theorem exec_vsllI (o s) : exec (.vsllI o) s = execVsllI o s := rfl
@[simp] theorem exec_vsraI (o s) : exec (.vsraI o) s = execVsraI o s := rfl
@[simp] theorem exec_vsrlI (o s) : exec (.vsrlI o) s = execVsrlI o s := rfl
@[simp] theorem exec_vslidednI (o s) : exec (.vslidednI o) s = execVslidednI o s := rfl
@[simp] theorem exec_vslideupI (o s) : exec (.vslideupI o) s = execVslideupI o s := rfl
@[simp] theorem exec_vaddI (o s) : exec (.vaddI o) s = execVaddI o s := rfl
@[simp] theorem exec_vbfexp (o s) : exec (.vbfexp o) s = execVbfexp o s := rfl
@[simp] theorem exec_vbfnorm (o rnd s) : exec (.vbfnorm o rnd) s = execVbfnorm o rnd s := rfl
@[simp] theorem exec_vbfden (o s) : exec (.vbfden o) s = execVbfden o s := rfl
@[simp] theorem exec_vsrarI (o rnd s) : exec (.vsrarI o rnd) s = execVsrarI o rnd s := rfl
@[simp] theorem exec_vsrarV (o rnd s) : exec (.vsrarV o rnd) s = execVsrarV o rnd s := rfl
@[simp] theorem exec_vnclipI (o rnd s) : exec (.vnclipI o rnd) s = execVnclipI o rnd s := rfl
@[simp] theorem exec_vle (m s) : exec (.vle m) s = execVle m s := rfl
@[simp] theorem exec_vleff (m s) : exec (.vleff m) s = execVleff m s := rfl
@[simp] theorem exec_vlseg (m s) : exec (.vlseg m) s = execVlseg m s := rfl
@[simp] theorem exec_vlsegff (m s) : exec (.vlsegff m) s = execVlsegff m s := rfl
@[simp] theorem exec_vse (m s) : exec (.vse m) s = execVse m s := rfl
@[simp] theorem exec_vsseg (m s) : exec (.vsseg m) s = execVsseg m s := rfl
@[simp] theorem exec_vlse (m s) : exec (.vlse m) s = execVlse m s := rfl
@[simp] theorem exec_vsse (m s) : exec (.vsse m) s = execVsse m s := rfl
@[simp] theorem exec_vlxe (m s) : exec (.vlxe m) s = execVlxe m s := rfl
@[simp] theorem exec_vsxe (m s) : exec (.vsxe m) s = execVsxe m s := rfl
@[simp] theorem exec_vlsseg (m s) : exec (.vlsseg m) s = execVlsseg m s := rfl
@[simp] theorem exec_vssseg (m s) : exec (.vssseg m) s = execVssseg m s := rfl
@[simp] theorem exec_vsetvli (core rd rs1 zimm s) : exec (.vsetvli core rd rs1 zimm) s = execVsetvli core rd rs1 zimm s := rfl
@[simp] theorem exec_vsetvl (core rd rs1 rs2 s) : exec (.vsetvl core rd rs1 rs2) s = execVsetvl core rd rs1 rs2 s := rfl
@[simp] theorem exec_vmvVX (core wd rs1 s) : exec (.vmvVX core wd rs1) s = execVmvVX core wd rs1 s := rfl
@[simp] theorem exec_vmvXV (core rd ws1 rs2 s) : exec (.vmvXV core rd ws1 rs2) s = execVmvXV core rd ws1 rs2 s := rfl
@[simp] theorem exec_vmvVV (core wd ws1 s) : exec (.vmvVV core wd ws1) s = execVmvVV core wd ws1 s := rfl
@[simp] theorem exec_vpand (core pd ps1 ps2 s) : exec (.vpand core pd ps1 ps2) s = execVpand core pd ps1 ps2 s := rfl
@[simp] theorem exec_vpor (core pd ps1 ps2 s) : exec (.vpor core pd ps1 ps2) s = execVpor core pd ps1 ps2 s := rfl
@[simp] theorem exec_vpxor (core pd ps1 ps2 s) : exec (.vpxor core pd ps1 ps2) s = execVpxor core pd ps1 ps2 s := rfl
@[simp] theorem exec_vpandn (core pd ps1 ps2 s) : exec (.vpandn core pd ps1 ps2) s = execVpandn core pd ps1 ps2 s := rfl
@[simp] theorem exec_vpcnt (core rd ps1 s) : exec (.vpcnt core rd ps1) s = execVpcnt core rd ps1 s := rfl
@[simp] theorem exec_vpfirst (core rd ps1 s) : exec (.vpfirst core rd ps1) s = execVpfirst core rd ps1 s := rfl
@[simp] theorem exec_vpvl (core pd rs1 s) : exec (.vpvl core pd rs1) s = execVpvl core pd rs1 s := rfl
@[simp] theorem exec_vxWfs (core a b c cpn s) : exec (.vxWfs core a b c cpn) s = execVxWfs core a b c cpn s := rfl
@[simp] theorem exec_vxDone (core a b c cpn s) : exec (.vxDone core a b c cpn) s = execVxDone core a b c cpn s := rfl
@[simp] theorem exec_vcpMvto (core a b c cpn s) : exec (.vcpMvto core a b c cpn) s = execVcpMvto core a b c cpn s := rfl
@[simp] theorem exec_vcpMvfrom (core a b c cpn s) : exec (.vcpMvfrom core a b c cpn) s = execVcpMvfrom core a b c cpn s := rfl
@[simp] theorem exec_vcpClear (core a b c cpn s) : exec (.vcpClear core a b c cpn) s = execVcpClear core a b c cpn s := rfl
@[simp] theorem exec_cp0Ginit (core b c s) : exec (.cp0Ginit core b c) s = execCp0Ginit core b c s := rfl
@[simp] theorem exec_cp0Gold (core b c s) : exec (.cp0Gold core b c) s = execCp0Gold core b c s := rfl
@[simp] theorem exec_cp0Gskip (core b c s) : exec (.cp0Gskip core b c) s = execCp0Gskip core b c s := rfl
@[simp] theorem exec_cp0Zc (core b c s) : exec (.cp0Zc core b c) s = execCp0Zc core b c s := rfl
@[simp] theorem exec_cp1Crcsel (core b c s) : exec (.cp1Crcsel core b c) s = execCp1Crcsel core b c s := rfl
@[simp] theorem exec_cp1Crc (core b c s) : exec (.cp1Crc core b c) s = execCp1Crc core b c s := rfl
@[simp] theorem exec_cp1Crcget (core b c s) : exec (.cp1Crcget core b c) s = execCp1Crcget core b c s := rfl
@[simp] theorem exec_cp1Trellis (core b c s) : exec (.cp1Trellis core b c) s = execCp1Trellis core b c s := rfl
@[simp] theorem exec_cp2Rcp (core b c s) : exec (.cp2Rcp core b c) s = execCp2Rcp core b c s := rfl
@[simp] theorem exec_cp2Rsqrt (core b c s) : exec (.cp2Rsqrt core b c) s = execCp2Rsqrt core b c s := rfl
@[simp] theorem exec_cp2Log2 (core b c s) : exec (.cp2Log2 core b c) s = execCp2Log2 core b c s := rfl
@[simp] theorem exec_cp2Exp2 (core b c s) : exec (.cp2Exp2 core b c) s = execCp2Exp2 core b c s := rfl
@[simp] theorem exec_cp2Sin (core b c s) : exec (.cp2Sin core b c) s = execCp2Sin core b c s := rfl
@[simp] theorem exec_cp2Cos (core b c s) : exec (.cp2Cos core b c) s = execCp2Cos core b c s := rfl
@[simp] theorem exec_cp2Atan2 (core b c s) : exec (.cp2Atan2 core b c) s = execCp2Atan2 core b c s := rfl
@[simp] theorem exec_vxUnitFault (core err s) : exec (.vxUnitFault core err) s = execVxUnitFault core err s := rfl
@[simp] theorem exec_coreImageSwitch (core s) : exec (.coreImageSwitch core) s = execCoreImageSwitch core s := rfl
@[simp] theorem exec_vxImageWrite (who img s) : exec (.vxImageWrite who img) s = execVxImageWrite who img s := rfl
@[simp] theorem exec_vxImageVerifyDone (slot s) : exec (.vxImageVerifyDone slot) s = execVxImageVerifyDone slot s := rfl
@[simp] theorem exec_teFwd (eng s) : exec (.teFwd eng) s = execTeFwd eng s := rfl
@[simp] theorem exec_teInv (eng s) : exec (.teInv eng) s = execTeInv eng s := rfl
@[simp] theorem exec_teCzt (eng s) : exec (.teCzt eng) s = execTeCzt eng s := rfl
@[simp] theorem exec_meChest (eng s) : exec (.meChest eng) s = execMeChest eng s := rfl
@[simp] theorem exec_meWeight (eng s) : exec (.meWeight eng) s = execMeWeight eng s := rfl
@[simp] theorem exec_meApply (eng s) : exec (.meApply eng) s = execMeApply eng s := rfl
@[simp] theorem exec_meApplyDemap (eng s) : exec (.meApplyDemap eng) s = execMeApplyDemap eng s := rfl
@[simp] theorem exec_meChol (eng s) : exec (.meChol eng) s = execMeChol eng s := rfl
@[simp] theorem exec_meInv (eng s) : exec (.meInv eng) s = execMeInv eng s := rfl
@[simp] theorem exec_ldDecode (eng s) : exec (.ldDecode eng) s = execLdDecode eng s := rfl
@[simp] theorem exec_leEncode (eng s) : exec (.leEncode eng) s = execLeEncode eng s := rfl
@[simp] theorem exec_plPolarDecode (eng s) : exec (.plPolarDecode eng) s = execPlPolarDecode eng s := rfl
@[simp] theorem exec_plPolarEncode (eng s) : exec (.plPolarEncode eng) s = execPlPolarEncode eng s := rfl
@[simp] theorem exec_plConvDecode (eng s) : exec (.plConvDecode eng) s = execPlConvDecode eng s := rfl
@[simp] theorem exec_plConvEncode (eng s) : exec (.plConvEncode eng) s = execPlConvEncode eng s := rfl
@[simp] theorem exec_plRmDecode (eng s) : exec (.plRmDecode eng) s = execPlRmDecode eng s := rfl
@[simp] theorem exec_plRmEncode (eng s) : exec (.plRmEncode eng) s = execPlRmEncode eng s := rfl
@[simp] theorem exec_tdDecode (eng s) : exec (.tdDecode eng) s = execTdDecode eng s := rfl
@[simp] theorem exec_hqUplinkCombine (eng s) : exec (.hqUplinkCombine eng) s = execHqUplinkCombine eng s := rfl
@[simp] theorem exec_hqDownlinkRateMatch (eng s) : exec (.hqDownlinkRateMatch eng) s = execHqDownlinkRateMatch eng s := rfl
@[simp] theorem exec_engineJobComplete (eng s) : exec (.engineJobComplete eng) s = execEngineJobComplete eng s := rfl
@[simp] theorem exec_engineAllocTimeout (eng s) : exec (.engineAllocTimeout eng) s = execEngineAllocTimeout eng s := rfl
@[simp] theorem exec_engineUnitFault (eng err s) : exec (.engineUnitFault eng err) s = execEngineUnitFault eng err s := rfl
@[simp] theorem exec_dmaCopy (dm s) : exec (.dmaCopy dm) s = execDmaCopy dm s := rfl
@[simp] theorem exec_dmaFill (dm s) : exec (.dmaFill dm) s = execDmaFill dm s := rfl
@[simp] theorem exec_dmaUnitFault (dm s) : exec (.dmaUnitFault dm) s = execDmaUnitFault dm s := rfl
@[simp] theorem exec_collect (fu s) : exec (.collect fu) s = execCollect fu s := rfl
@[simp] theorem exec_ulCplane (cu s) : exec (.ulCplane cu) s = execUlCplane cu s := rfl
@[simp] theorem exec_dlCplane (cu s) : exec (.dlCplane cu) s = execDlCplane cu s := rfl
@[simp] theorem exec_dlUplane (cu s) : exec (.dlUplane cu) s = execDlUplane cu s := rfl
@[simp] theorem exec_fetch (handle s) : exec (.fetch handle) s = execFetch handle s := rfl
@[simp] theorem exec_gather (handle s) : exec (.gather handle) s = execGather handle s := rfl
@[simp] theorem exec_deliver (handle s) : exec (.deliver handle) s = execDeliver handle s := rfl
@[simp] theorem exec_mogilChannelSend (handle s) : exec (.mogilChannelSend handle) s = execMogilChannelSend handle s := rfl
@[simp] theorem exec_atOffset (handle s) : exec (.atOffset handle) s = execAtOffset handle s := rfl
@[simp] theorem exec_atTick (handle s) : exec (.atTick handle) s = execAtTick handle s := rfl
@[simp] theorem exec_gainChangePoint (group s) : exec (.gainChangePoint group) s = execGainChangePoint group s := rfl
@[simp] theorem exec_searchTrigger (ctx band noise s) : exec (.searchTrigger ctx band noise) s = execSearchTrigger ctx band noise s := rfl
@[simp] theorem exec_searchOccasionEnd (ctx profiles s) : exec (.searchOccasionEnd ctx profiles) s = execSearchOccasionEnd ctx profiles s := rfl
@[simp] theorem exec_fuUnitFault (fu s) : exec (.fuUnitFault fu) s = execFuUnitFault fu s := rfl
@[simp] theorem exec_fuGroupMove (group s) : exec (.fuGroupMove group) s = execFuGroupMove group s := rfl
@[simp] theorem exec_cuUnitFault (cu s) : exec (.cuUnitFault cu) s = execCuUnitFault cu s := rfl
@[simp] theorem exec_cuReplace (cu s) : exec (.cuReplace cu) s = execCuReplace cu s := rfl
@[simp] theorem exec_rcoEdge (rco s) : exec (.rcoEdge rco) s = execRcoEdge rco s := rfl
@[simp] theorem exec_noiseTableWrite (radio cell vals s) : exec (.noiseTableWrite radio cell vals) s = execNoiseTableWrite radio cell vals s := rfl
@[simp] theorem exec_noiseEstimateTimeout (radio cell s) : exec (.noiseEstimateTimeout radio cell) s = execNoiseEstimateTimeout radio cell s := rfl
@[simp] theorem exec_nsFallback (radio s) : exec (.nsFallback radio) s = execNsFallback radio s := rfl
@[simp] theorem exec_nsRetryOffer (radio s) : exec (.nsRetryOffer radio) s = execNsRetryOffer radio s := rfl
@[simp] theorem exec_groupEnable (who v s) : exec (.groupEnable who v) s = execGroupEnable who v s := rfl
@[simp] theorem exec_contextEnable (who v s) : exec (.contextEnable who v) s = execContextEnable who v s := rfl
@[simp] theorem exec_rampEnable (who v s) : exec (.rampEnable who v) s = execRampEnable who v s := rfl
@[simp] theorem exec_ethFrameRx (port f s) : exec (.ethFrameRx port f) s = execEthFrameRx port f s := rfl
@[simp] theorem exec_cpriSymbolRx (flow slot symbol samples s) : exec (.cpriSymbolRx flow slot symbol samples) s = execCpriSymbolRx flow slot symbol samples s := rfl
@[simp] theorem exec_fwRingPop (port s) : exec (.fwRingPop port) s = execFwRingPop port s := rfl
@[simp] theorem exec_frameTransmit (port s) : exec (.frameTransmit port) s = execFrameTransmit port s := rfl
@[simp] theorem exec_txWindowDiscard (port queue s) : exec (.txWindowDiscard port queue) s = execTxWindowDiscard port queue s := rfl
@[simp] theorem exec_lossOfSignal (l s) : exec (.lossOfSignal l) s = execLossOfSignal l s := rfl
@[simp] theorem exec_signalReturn (l s) : exec (.signalReturn l) s = execSignalReturn l s := rfl
@[simp] theorem exec_signalDebounceExpiry (l s) : exec (.signalDebounceExpiry l) s = execSignalDebounceExpiry l s := rfl
@[simp] theorem exec_lossOfLock (l s) : exec (.lossOfLock l) s = execLossOfLock l s := rfl
@[simp] theorem exec_lossOfBlockLock (l s) : exec (.lossOfBlockLock l) s = execLossOfBlockLock l s := rfl
@[simp] theorem exec_lossOfFrame (port s) : exec (.lossOfFrame port) s = execLossOfFrame port s := rfl
@[simp] theorem exec_remoteDefect (port present s) : exec (.remoteDefect port present) s = execRemoteDefect port present s := rfl
@[simp] theorem exec_portUp (port s) : exec (.portUp port) s = execPortUp port s := rfl
@[simp] theorem exec_degradeEval (l errors bits corrected uncorrected s) : exec (.degradeEval l errors bits corrected uncorrected) s = execDegradeEval l errors bits corrected uncorrected s := rfl
@[simp] theorem exec_flowActivePort (who v s) : exec (.flowActivePort who v) s = execFlowActivePort who v s := rfl
@[simp] theorem exec_txAn (who v s) : exec (.txAn who v) s = execTxAn who v s := rfl
@[simp] theorem exec_saKey (who bytes s) : exec (.saKey who bytes) s = execSaKey who bytes s := rfl
@[simp] theorem exec_learnRequest (port vid mac s) : exec (.learnRequest port vid mac) s = execLearnRequest port vid mac s := rfl
@[simp] theorem exec_entryAgeOut (vid mac s) : exec (.entryAgeOut vid mac) s = execEntryAgeOut vid mac s := rfl
@[simp] theorem exec_pinExpiry (vid mac s) : exec (.pinExpiry vid mac) s = execPinExpiry vid mac s := rfl
@[simp] theorem exec_moveStormEnd (s) : exec .moveStormEnd s = execMoveStormEnd s := rfl
@[simp] theorem exec_staticEntry (who vid mac port add s) : exec (.staticEntry who vid mac port add) s = execStaticEntry who vid mac port add s := rfl
@[simp] theorem exec_cpriRateDwell (port s) : exec (.cpriRateDwell port) s = execCpriRateDwell port s := rfl
@[simp] theorem exec_recalIntervalExpiry (inst s) : exec (.recalIntervalExpiry inst) s = execRecalIntervalExpiry inst s := rfl
@[simp] theorem exec_laneRecalibration (inst s) : exec (.laneRecalibration inst) s = execLaneRecalibration inst s := rfl
@[simp] theorem exec_prbsClear (who v s) : exec (.prbsClear who v) s = execPrbsClear who v s := rfl
@[simp] theorem exec_portEnable (who v s) : exec (.portEnable who v) s = execPortEnable who v s := rfl
@[simp] theorem exec_flowEnable (who v s) : exec (.flowEnable who v) s = execFlowEnable who v s := rfl
@[simp] theorem exec_macsecEnable (who v s) : exec (.macsecEnable who v) s = execMacsecEnable who v s := rfl
@[simp] theorem exec_mogilMarkerRx (grp ms s) : exec (.mogilMarkerRx grp ms) s = execMogilMarkerRx grp ms s := rfl
@[simp] theorem exec_mogilPacketRx (grp p s) : exec (.mogilPacketRx grp p) s = execMogilPacketRx grp p s := rfl
@[simp] theorem exec_mogilLinkCellRx (grp c s) : exec (.mogilLinkCellRx grp c) s = execMogilLinkCellRx grp c s := rfl
@[simp] theorem exec_mogilNakRx (grp c s) : exec (.mogilNakRx grp c) s = execMogilNakRx grp c s := rfl
@[simp] theorem exec_mogilVersionRx (grp c minV maxV s) : exec (.mogilVersionRx grp c minV maxV) s = execMogilVersionRx grp c minV maxV s := rfl
@[simp] theorem exec_mogilConfirmRx (grp c mineMin mineMax peerMin peerMax agreed s) : exec (.mogilConfirmRx grp c mineMin mineMax peerMin peerMax agreed) s = execMogilConfirmRx grp c mineMin mineMax peerMin peerMax agreed s := rfl
@[simp] theorem exec_mogilKexRx (grp c stepCode frag count data s) : exec (.mogilKexRx grp c stepCode frag count data) s = execMogilKexRx grp c stepCode frag count data s := rfl
@[simp] theorem exec_mogilLastAcceptedRx (grp c lost last s) : exec (.mogilLastAcceptedRx grp c lost last) s = execMogilLastAcceptedRx grp c lost last s := rfl
@[simp] theorem exec_mogilPacketSend (grp p s) : exec (.mogilPacketSend grp p) s = execMogilPacketSend grp p s := rfl
@[simp] theorem exec_mogilLinkCellSend (grp s) : exec (.mogilLinkCellSend grp) s = execMogilLinkCellSend grp s := rfl
@[simp] theorem exec_mogilRetryTimeout (grp s) : exec (.mogilRetryTimeout grp) s = execMogilRetryTimeout grp s := rfl
@[simp] theorem exec_mogilResumeTimeout (grp s) : exec (.mogilResumeTimeout grp) s = execMogilResumeTimeout grp s := rfl
@[simp] theorem exec_mogilKexTimeout (s) : exec .mogilKexTimeout s = execMogilKexTimeout s := rfl
@[simp] theorem exec_mogilHoldExpiry (grp s) : exec (.mogilHoldExpiry grp) s = execMogilHoldExpiry grp s := rfl
@[simp] theorem exec_mogilChannelTimeout (handle s) : exec (.mogilChannelTimeout handle) s = execMogilChannelTimeout handle s := rfl
@[simp] theorem exec_mogilEnable (who v s) : exec (.mogilEnable who v) s = execMogilEnable who v s := rfl
@[simp] theorem exec_takeoverNow (who v s) : exec (.takeoverNow who v) s = execTakeoverNow who v s := rfl
@[simp] theorem exec_autoTakeover (s) : exec .autoTakeover s = execAutoTakeover s := rfl
@[simp] theorem exec_rd (p s) : exec (.rd p) s = execRd p s := rfl
@[simp] theorem exec_wr (p s) : exec (.wr p) s = execWr p s := rfl
@[simp] theorem exec_wrp (p s) : exec (.wrp p) s = execWrp p s := rfl
@[simp] theorem exec_atomAdd (p s) : exec (.atomAdd p) s = execAtomAdd p s := rfl
@[simp] theorem exec_atomSwap (p s) : exec (.atomSwap p) s = execAtomSwap p s := rfl
@[simp] theorem exec_atomCompareSwap (p s) : exec (.atomCompareSwap p) s = execAtomCompareSwap p s := rfl
@[simp] theorem exec_alloc (p s) : exec (.alloc p) s = execAlloc p s := rfl
@[simp] theorem exec_free (p s) : exec (.free p) s = execFree p s := rfl
@[simp] theorem exec_msg (p s) : exec (.msg p) s = execMsg p s := rfl
@[simp] theorem exec_sealBuf (p s) : exec (.sealBuf p) s = execSealBuf p s := rfl
@[simp] theorem exec_unsealBuf (p s) : exec (.unsealBuf p) s = execUnsealBuf p s := rfl
@[simp] theorem exec_rdata (p s) : exec (.rdata p) s = execRdata p s := rfl
@[simp] theorem exec_ack (p s) : exec (.ack p) s = execAck p s := rfl
@[simp] theorem exec_err (p s) : exec (.err p) s = execErr p s := rfl
@[simp] theorem exec_flitCrcError (router link s) : exec (.flitCrcError router link) s = execFlitCrcError router link s := rfl
@[simp] theorem exec_fabricLinkDown (router link s) : exec (.fabricLinkDown router link) s = execFabricLinkDown router link s := rfl
@[simp] theorem exec_fabricLinkReturn (router link s) : exec (.fabricLinkReturn router link) s = execFabricLinkReturn router link s := rfl
@[simp] theorem exec_edgeLinkDown (units s) : exec (.edgeLinkDown units) s = execEdgeLinkDown units s := rfl
@[simp] theorem exec_domainWakeReady (dom s) : exec (.domainWakeReady dom) s = execDomainWakeReady dom s := rfl
@[simp] theorem exec_wakeTimeout (dom s) : exec (.wakeTimeout dom) s = execWakeTimeout dom s := rfl
@[simp] theorem exec_domainSleep (dom s) : exec (.domainSleep dom) s = execDomainSleep dom s := rfl
@[simp] theorem exec_domainLockOff (dom s) : exec (.domainLockOff dom) s = execDomainLockOff dom s := rfl
@[simp] theorem exec_ssAccessRepeat (bank secondMismatch s) : exec (.ssAccessRepeat bank secondMismatch) s = execSsAccessRepeat bank secondMismatch s := rfl
@[simp] theorem exec_spareNow (who v s) : exec (.spareNow who v) s = execSpareNow who v s := rfl
@[simp] theorem exec_ssSpareFlip (s) : exec .ssSpareFlip s = execSsSpareFlip s := rfl
@[simp] theorem exec_ssForwardEnd (s) : exec .ssForwardEnd s = execSsForwardEnd s := rfl
@[simp] theorem exec_spareBankTest (pass s) : exec (.spareBankTest pass) s = execSpareBankTest pass s := rfl
@[simp] theorem exec_scrubStep (inst e rewritten s) : exec (.scrubStep inst e rewritten) s = execScrubStep inst e rewritten s := rfl
@[simp] theorem exec_hbmRefresh (stack s) : exec (.hbmRefresh stack) s = execHbmRefresh stack s := rfl
@[simp] theorem exec_hamperEnable (who s) : exec (.hamperEnable who) s = execHamperEnable who s := rfl
@[simp] theorem exec_hamperDisable (who s) : exec (.hamperDisable who) s = execHamperDisable who s := rfl
@[simp] theorem exec_sqTailDoorbell (fn q v size s) : exec (.sqTailDoorbell fn q v size) s = execSqTailDoorbell fn q v size s := rfl
@[simp] theorem exec_cqHeadDoorbell (fn q v size s) : exec (.cqHeadDoorbell fn q v size) s = execCqHeadDoorbell fn q v size s := rfl
@[simp] theorem exec_msixUnmask (fn vec s) : exec (.msixUnmask fn vec) s = execMsixUnmask fn vec s := rfl
@[simp] theorem exec_bmeClear (fn s) : exec (.bmeClear fn) s = execBmeClear fn s := rfl
@[simp] theorem exec_bmeSet (fn s) : exec (.bmeSet fn) s = execBmeSet fn s := rfl
@[simp] theorem exec_flrInitiate (fn s) : exec (.flrInitiate fn) s = execFlrInitiate fn s := rfl
@[simp] theorem exec_flrComplete (fn s) : exec (.flrComplete fn) s = execFlrComplete fn s := rfl
@[simp] theorem exec_tagQuarantineEnd (tag s) : exec (.tagQuarantineEnd tag) s = execTagQuarantineEnd tag s := rfl
@[simp] theorem exec_pcieLinkReset (s) : exec .pcieLinkReset s = execPcieLinkReset s := rfl
@[simp] theorem exec_pcieCompletionRx (tag status data s) : exec (.pcieCompletionRx tag status data) s = execPcieCompletionRx tag status data s := rfl
@[simp] theorem exec_pcieCompletionTimeout (tag s) : exec (.pcieCompletionTimeout tag) s = execPcieCompletionTimeout tag s := rfl
@[simp] theorem exec_cqWaitTimeout (handle s) : exec (.cqWaitTimeout handle) s = execCqWaitTimeout handle s := rfl
@[simp] theorem exec_atsInvalidate (fn page s) : exec (.atsInvalidate fn page) s = execAtsInvalidate fn page s := rfl
@[simp] theorem exec_qpEnable (who v s) : exec (.qpEnable who v) s = execQpEnable who v s := rfl
@[simp] theorem exec_partEnable (who n v s) : exec (.partEnable who n v) s = execPartEnable who n v s := rfl
@[simp] theorem exec_partPause (who n v s) : exec (.partPause who n v) s = execPartPause who n v s := rfl
@[simp] theorem exec_partReset (who n v s) : exec (.partReset who n v) s = execPartReset who n v s := rfl
@[simp] theorem exec_partResetComplete (n s) : exec (.partResetComplete n) s = execPartResetComplete n s := rfl
@[simp] theorem exec_resetLimitExpiry (n s) : exec (.resetLimitExpiry n) s = execResetLimitExpiry n s := rfl
@[simp] theorem exec_disableCloseTimeout (n s) : exec (.disableCloseTimeout n) s = execDisableCloseTimeout n s := rfl
@[simp] theorem exec_mailboxGo (fn seq irq vec m s) : exec (.mailboxGo fn seq irq vec m) s = execMailboxGo fn seq irq vec m s := rfl
@[simp] theorem exec_hello (ses id lo hi s) : exec (.hello ses id lo hi) s = execHello ses id lo hi s := rfl
@[simp] theorem exec_read (ses ver id es s) : exec (.read ses ver id es) s = execRead ses ver id es s := rfl
@[simp] theorem exec_write (ses ver id es s) : exec (.write ses ver id es) s = execWrite ses ver id es s := rfl
@[simp] theorem exec_segRead (ses ver id a off len s) : exec (.segRead ses ver id a off len) s = execSegRead ses ver id a off len s := rfl
@[simp] theorem exec_segWrite (ses ver id a fin off total data s) : exec (.segWrite ses ver id a fin off total data) s = execSegWrite ses ver id a fin off total data s := rfl
@[simp] theorem exec_segAbort (ses ver id a s) : exec (.segAbort ses ver id a) s = execSegAbort ses ver id a s := rfl
@[simp] theorem exec_segTransferTimeout (who a s) : exec (.segTransferTimeout who a) s = execSegTransferTimeout who a s := rfl
@[simp] theorem exec_infoReq (ses ver id a s) : exec (.infoReq ses ver id a) s = execInfoReq ses ver id a s := rfl
@[simp] theorem exec_store (ses ver id s) : exec (.store ses ver id) s = execStore ses ver id s := rfl
@[simp] theorem exec_storeSealed (ok s) : exec (.storeSealed ok) s = execStoreSealed ok s := rfl
@[simp] theorem exec_restore (ses ver id s) : exec (.restore ses ver id) s = execRestore ses ver id s := rfl
@[simp] theorem exec_subscribe (ses ver id stream period es s) : exec (.subscribe ses ver id stream period es) s = execSubscribe ses ver id stream period es s := rfl
@[simp] theorem exec_unsubscribe (ses ver id stream s) : exec (.unsubscribe ses ver id stream) s = execUnsubscribe ses ver id stream s := rfl
@[simp] theorem exec_telemetry (ses stream sent s) : exec (.telemetry ses stream sent) s = execTelemetry ses stream sent s := rfl
@[simp] theorem exec_alarmAck (ses seq s) : exec (.alarmAck ses seq) s = execAlarmAck ses seq s := rfl
@[simp] theorem exec_alarm (ses s) : exec (.alarm ses) s = execAlarm ses s := rfl
@[simp] theorem exec_alarmResend (ses seq s) : exec (.alarmResend ses seq) s = execAlarmResend ses seq s := rfl
@[simp] theorem exec_summary (s) : exec .summary s = execSummary s := rfl
@[simp] theorem exec_clientHello (path cookie s) : exec (.clientHello path cookie) s = execClientHello path cookie s := rfl
@[simp] theorem exec_handshakeComplete (path ses chainOk keyDigest s) : exec (.handshakeComplete path ses chainOk keyDigest) s = execHandshakeComplete path ses chainOk keyDigest s := rfl
@[simp] theorem exec_sessionIdleTimeout (ses s) : exec (.sessionIdleTimeout ses) s = execSessionIdleTimeout ses s := rfl
@[simp] theorem exec_smbPointerWrite (a s) : exec (.smbPointerWrite a) s = execSmbPointerWrite a s := rfl
@[simp] theorem exec_smbValueRead (s) : exec .smbValueRead s = execSmbValueRead s := rfl
@[simp] theorem exec_smbStatusRead (s) : exec .smbStatusRead s = execSmbStatusRead s := rfl
@[simp] theorem exec_smbTimeout (s) : exec .smbTimeout s = execSmbTimeout s := rfl
@[simp] theorem exec_roleEntry (who bytes s) : exec (.roleEntry who bytes) s = execRoleEntry who bytes s := rfl
@[simp] theorem exec_registerWrite (src unit priv addr v s) : exec (.registerWrite src unit priv addr v) s = execRegisterWrite src unit priv addr v s := rfl
@[simp] theorem exec_w1cWrite (who a v setNow s) : exec (.w1cWrite who a v setNow) s = execW1cWrite who a v setNow s := rfl
@[simp] theorem exec_fuseWrite (who item v s) : exec (.fuseWrite who item v) s = execFuseWrite who item v s := rfl
@[simp] theorem exec_fuseWriteComplete (s) : exec .fuseWriteComplete s = execFuseWriteComplete s := rfl
@[simp] theorem exec_dbgRequest (mask s) : exec (.dbgRequest mask) s = execDbgRequest mask s := rfl
@[simp] theorem exec_dbgChallenge (s) : exec .dbgChallenge s = execDbgChallenge s := rfl
@[simp] theorem exec_dbgResponse (r s) : exec (.dbgResponse r) s = execDbgResponse r s := rfl
@[simp] theorem exec_debugLockoutEnd (s) : exec .debugLockoutEnd s = execDebugLockoutEnd s := rfl
@[simp] theorem exec_tapReset (s) : exec .tapReset s = execTapReset s := rfl
@[simp] theorem exec_regionEnable (who s) : exec (.regionEnable who) s = execRegionEnable who s := rfl
@[simp] theorem exec_regionInitDone (region s) : exec (.regionInitDone region) s = execRegionInitDone region s := rfl
@[simp] theorem exec_regionDisable (who s) : exec (.regionDisable who) s = execRegionDisable who s := rfl
@[simp] theorem exec_rekeyNow (who v s) : exec (.rekeyNow who v) s = execRekeyNow who v s := rfl
@[simp] theorem exec_rekeyBlock (region s) : exec (.rekeyBlock region) s = execRekeyBlock region s := rfl
@[simp] theorem exec_vinSample (cv ca s) : exec (.vinSample cv ca) s = execVinSample cv ca s := rfl
@[simp] theorem exec_powerLoopEval (avgDw s) : exec (.powerLoopEval avgDw) s = execPowerLoopEval avgDw s := rfl
@[simp] theorem exec_currentLimit (s) : exec .currentLimit s = execCurrentLimit s := rfl
@[simp] theorem exec_unitWithdraw (s) : exec .unitWithdraw s = execUnitWithdraw s := rfl
@[simp] theorem exec_unitReturn (s) : exec .unitReturn s = execUnitReturn s := rfl
@[simp] theorem exec_vcoreAdjust (rail up s) : exec (.vcoreAdjust rail up) s = execVcoreAdjust rail up s := rfl
@[simp] theorem exec_phaseFault (rail s) : exec (.phaseFault rail) s = execPhaseFault rail s := rfl
@[simp] theorem exec_railOutOfRegulation (rail out s) : exec (.railOutOfRegulation rail out) s = execRailOutOfRegulation rail out s := rfl
@[simp] theorem exec_droopStretch (sensor s) : exec (.droopStretch sensor) s = execDroopStretch sensor s := rfl
@[simp] theorem exec_droopRelease (sensor s) : exec (.droopRelease sensor) s = execDroopRelease sensor s := rfl
@[simp] theorem exec_thermalSensorScan (readings s) : exec (.thermalSensorScan readings) s = execThermalSensorScan readings s := rfl
@[simp] theorem exec_thermalCapStep (s) : exec .thermalCapStep s = execThermalCapStep s := rfl
@[simp] theorem exec_diagStart (unit s) : exec (.diagStart unit) s = execDiagStart unit s := rfl
@[simp] theorem exec_diagComplete (unit pass block s) : exec (.diagComplete unit pass block) s = execDiagComplete unit pass block s := rfl
@[simp] theorem exec_diagRun (who v s) : exec (.diagRun who v) s = execDiagRun who v s := rfl
@[simp] theorem exec_lockstepMismatch (pair s) : exec (.lockstepMismatch pair) s = execLockstepMismatch pair s := rfl
@[simp] theorem exec_lockstepTestDone (pair passEven passOdd s) : exec (.lockstepTestDone pair passEven passOdd) s = execLockstepTestDone pair passEven passOdd s := rfl
@[simp] theorem exec_ccUnitFault (cc watchdog s) : exec (.ccUnitFault cc watchdog) s = execCcUnitFault cc watchdog s := rfl
@[simp] theorem exec_heartbeat (s) : exec .heartbeat s = execHeartbeat s := rfl
@[simp] theorem exec_heartbeatMiss (s) : exec .heartbeatMiss s = execHeartbeatMiss s := rfl
@[simp] theorem exec_recoveryMismatch (s) : exec .recoveryMismatch s = execRecoveryMismatch s := rfl
@[simp] theorem exec_wardenRestartFail (s) : exec .wardenRestartFail s = execWardenRestartFail s := rfl
@[simp] theorem exec_wardenVote (copy s) : exec (.wardenVote copy) s = execWardenVote copy s := rfl
@[simp] theorem exec_maintRequest (act inst s) : exec (.maintRequest act inst) s = execMaintRequest act inst s := rfl
@[simp] theorem exec_tokenReturn (act inst s) : exec (.tokenReturn act inst) s = execTokenReturn act inst s := rfl
@[simp] theorem exec_waitAlarmExpiry (act inst s) : exec (.waitAlarmExpiry act inst) s = execWaitAlarmExpiry act inst s := rfl
@[simp] theorem exec_drillIntervalExpiry (s) : exec .drillIntervalExpiry s = execDrillIntervalExpiry s := rfl
@[simp] theorem exec_drillSwap (pass s) : exec (.drillSwap pass) s = execDrillSwap pass s := rfl
@[simp] theorem exec_upgradeImage (who img s) : exec (.upgradeImage who img) s = execUpgradeImage who img s := rfl
@[simp] theorem exec_upgradeRecovery (who v s) : exec (.upgradeRecovery who v) s = execUpgradeRecovery who v s := rfl
@[simp] theorem exec_upgradeCommit (who v s) : exec (.upgradeCommit who v) s = execUpgradeCommit who v s := rfl
@[simp] theorem exec_upgradeAbandon (who v s) : exec (.upgradeAbandon who v) s = execUpgradeAbandon who v s := rfl
@[simp] theorem exec_upgradeLimitExpiry (s) : exec .upgradeLimitExpiry s = execUpgradeLimitExpiry s := rfl
@[simp] theorem exec_coreImage (who v s) : exec (.coreImage who v) s = execCoreImage who v s := rfl
@[simp] theorem exec_bankVoltage (who v s) : exec (.bankVoltage who v) s = execBankVoltage who v s := rfl
@[simp] theorem exec_bankSettle (bank s) : exec (.bankSettle bank) s = execBankSettle bank s := rfl
@[simp] theorem exec_bankSupplyFault (bank s) : exec (.bankSupplyFault bank) s = execBankSupplyFault bank s := rfl
@[simp] theorem exec_bankSupplyReturn (bank s) : exec (.bankSupplyReturn bank) s = execBankSupplyReturn bank s := rfl
@[simp] theorem exec_rcoShort (rco s) : exec (.rcoShort rco) s = execRcoShort rco s := rfl
@[simp] theorem exec_rcoRetry (rco low s) : exec (.rcoRetry rco low) s = execRcoRetry rco low s := rfl
@[simp] theorem exec_pinContention (pin s) : exec (.pinContention pin) s = execPinContention pin s := rfl
@[simp] theorem exec_pinFaultClear (who v setNow s) : exec (.pinFaultClear who v setNow) s = execPinFaultClear who v setNow s := rfl
@[simp] theorem exec_gpioConfig (who v s) : exec (.gpioConfig who v) s = execGpioConfig who v s := rfl
@[simp] theorem exec_scalarInstruction (core w s) : exec (.scalarInstruction core w) s = execScalarInstruction core w s := rfl
@[simp] theorem exec_pcieConfigWrite (fn f v s) : exec (.pcieConfigWrite fn f v) s = execPcieConfigWrite fn f v s := rfl
@[simp] theorem exec_pcieLinkTrained (rate width retrain s) : exec (.pcieLinkTrained rate width retrain) s = execPcieLinkTrained rate width retrain s := rfl
@[simp] theorem exec_peerHealthInputChange (level s) : exec (.peerHealthInputChange level) s = execPeerHealthInputChange level s := rfl
@[simp] theorem exec_jtagInstruction (ins s) : exec (.jtagInstruction ins) s = execJtagInstruction ins s := rfl
@[simp] theorem exec_spareTestIntervalExpiry (s) : exec .spareTestIntervalExpiry s = execSpareTestIntervalExpiry s := rfl
@[simp] theorem exec_alarmPinHoldExpiry (s) : exec .alarmPinHoldExpiry s = execAlarmPinHoldExpiry s := rfl
@[simp] theorem exec_frameStrobeEnd (pin s) : exec (.frameStrobeEnd pin) s = execFrameStrobeEnd pin s := rfl
@[simp] theorem exec_prbsCheckerLock (l s) : exec (.prbsCheckerLock l) s = execPrbsCheckerLock l s := rfl
@[simp] theorem exec_prbsCheckerLockLoss (l s) : exec (.prbsCheckerLockLoss l) s = execPrbsCheckerLockLoss l s := rfl
@[simp] theorem exec_modeTransitionComplete (s) : exec .modeTransitionComplete s = execModeTransitionComplete s := rfl
@[simp] theorem exec_mpEnable (who v s) : exec (.mpEnable who v) s = execMpEnable who v s := rfl

end Sys2Proof.Machine
end

