-- ==== Sys2Proof/Laws/Tab.lean ====
section
/-!
SUPPORT. Laws of the sparse tables: what a read gives after a write, on every table, and that writes keep the canonical
form.
-/

namespace Sys2Proof

variable {α : Type}

@[simp] theorem Tab.get_nil (d : α) (q : Nat) : Tab.get d [] q = d := rfl
@[simp] theorem Tab.find_nil (q : Nat) : Tab.find ([] : Tab α) q = none := rfl

/-- A read is the entry, or the default where none is listed. -/
theorem Tab.get_find (d : α) (t : Tab α) (q : Nat) : Tab.get d t q = (Tab.find t q).getD d := by
  induction t with
  | nil => rfl
  | cons e t ih => by_cases h : q = e.1 <;> simp [Tab.get, Tab.find, h, ← ih]

/-! ## Entries set and deleted -/

@[simp] theorem Tab.find_set_same (t : Tab α) (q : Nat) (v : α) : Tab.find (Tab.set t q v) q = some v := by
  induction t with
  | nil => simp [Tab.set, Tab.find]
  | cons e t ih =>
    simp only [Tab.set]
    split
    · simp [Tab.find]
    · split
      · simp [Tab.find]
      · simp [Tab.find, *]

theorem Tab.find_set_other (t : Tab α) (q p : Nat) (v : α) (h : p ≠ q) : Tab.find (Tab.set t q v) p = Tab.find t p := by
  induction t with
  | nil => simp [Tab.set, Tab.find, h]
  | cons e t ih =>
    simp only [Tab.set]
    split
    · simp [Tab.find, h]
    · split
      · next h2 => subst h2; simp [Tab.find, h]
      · simp [Tab.find, ih]

/-- An entry that passes a test of its key is found among those that pass. -/
theorem Tab.find_filter_key (f : Nat → Bool) (t : Tab α) (p : Nat) :
    Tab.find (t.filter (fun e => f e.1)) p = if f p then Tab.find t p else none := by
  induction t with
  | nil => simp
  | cons e t ih =>
    by_cases h : f e.1 <;> by_cases h2 : p = e.1
    · subst h2; simp [h, Tab.find]
    · simp [h, Tab.find, h2, ih]
    · subst h2; simp [h, ih]
    · simp [h, Tab.find, h2, ih]

@[simp] theorem Tab.find_del_same (t : Tab α) (q : Nat) : Tab.find (Tab.del t q) q = none := by
  have := Tab.find_filter_key (fun k => decide (k ≠ q)) t q
  simpa [Tab.del] using this

theorem Tab.find_del_other (t : Tab α) (q p : Nat) (h : p ≠ q) : Tab.find (Tab.del t q) p = Tab.find t p := by
  have := Tab.find_filter_key (fun k => decide (k ≠ q)) t p
  simpa [Tab.del, h] using this

/-! ## Values read after a write -/

/-- What was written is read back. -/
@[simp] theorem Tab.get_put_same [DecidableEq α] (d : α) (t : Tab α) (q : Nat) (v : α) :
    Tab.get d (Tab.put d t q v) q = v := by
  rw [Tab.get_find, Tab.put]
  split <;> simp [*]

/-- Every other key lists what it listed. -/
theorem Tab.find_put_other [DecidableEq α] (d : α) (t : Tab α) (q p : Nat) (v : α) (hp : p ≠ q) :
    Tab.find (Tab.put d t q v) p = Tab.find t p := by
  rw [Tab.put]
  split
  · exact Tab.find_del_other t q p hp
  · exact Tab.find_set_other t q p v hp

/-- Every other key reads as before. -/
theorem Tab.get_put_other [DecidableEq α] (d e : α) (t : Tab α) (q p : Nat) (v : α) (hp : p ≠ q) :
    Tab.get e (Tab.put d t q v) p = Tab.get e t p := by
  rw [Tab.get_find, Tab.get_find, Tab.find_put_other d t q p v hp]

/-! ## The canonical form -/

/-- Rising keys above a lower bound rise above any smaller one. -/
theorem Tab.risingFrom_mono (t : Tab α) (lo lo' : Nat) (h : Tab.risingFrom lo t = true) (hl : lo' ≤ lo) :
    Tab.risingFrom lo' t = true := by
  cases t with
  | nil => rfl
  | cons e t =>
    obtain ⟨k, v⟩ := e
    simp only [Tab.risingFrom, Bool.and_eq_true, decide_eq_true_eq] at h ⊢
    exact ⟨by omega, h.2⟩

/-- An entry set keeps the keys rising. -/
theorem Tab.risingFrom_set (t : Tab α) (q : Nat) (v : α) (lo : Nat) (h : Tab.risingFrom lo t = true) (hq : lo ≤ q) :
    Tab.risingFrom lo (Tab.set t q v) = true := by
  induction t generalizing lo with
  | nil => simp [Tab.set, Tab.risingFrom, hq]
  | cons e t ih =>
    obtain ⟨k, w⟩ := e
    have h' := h
    simp only [Tab.risingFrom, Bool.and_eq_true, decide_eq_true_eq] at h
    simp only [Tab.set]
    by_cases h1 : q < k
    · simp only [h1, if_true, Tab.risingFrom, Bool.and_eq_true, decide_eq_true_eq]
      exact ⟨hq, by omega, h.2⟩
    · by_cases h2 : q = k
      · subst h2; simp [Tab.risingFrom, h.1, h.2]
      · simp only [h1, h2, if_false, Tab.risingFrom, Bool.and_eq_true, decide_eq_true_eq]
        exact ⟨h.1, ih (k + 1) h.2 (by omega)⟩

/-- Entries taken out keep the keys rising. -/
theorem Tab.risingFrom_filter (p : Nat × α → Bool) (t : Tab α) (lo : Nat) (h : Tab.risingFrom lo t = true) :
    Tab.risingFrom lo (t.filter p) = true := by
  induction t generalizing lo with
  | nil => rfl
  | cons e t ih =>
    obtain ⟨k, w⟩ := e
    simp only [Tab.risingFrom, Bool.and_eq_true, decide_eq_true_eq] at h
    by_cases hp : p (k, w) = true
    · rw [List.filter_cons_of_pos hp]
      simp only [Tab.risingFrom, Bool.and_eq_true, decide_eq_true_eq]
      exact ⟨h.1, ih (k + 1) h.2⟩
    · rw [List.filter_cons_of_neg hp]
      exact Tab.risingFrom_mono _ (k + 1) lo (ih (k + 1) h.2) (by omega)

/-- Entries taken out keep the canonical form. -/
theorem Tab.wf_filter [DecidableEq α] (d : α) (p : Nat × α → Bool) (t : Tab α) (h : Tab.wf d t = true) :
    Tab.wf d (t.filter p) = true := by
  simp only [Tab.wf, Bool.and_eq_true, List.all_eq_true] at h ⊢
  exact ⟨Tab.risingFrom_filter p t 0 h.1, fun e he => h.2 e (List.mem_filter.mp he).1⟩

/-- A value other than the default, set, lists no default. -/
theorem Tab.all_set (f : α → Bool) (t : Tab α) (q : Nat) (v : α) (hv : f v = true)
    (h : t.all (fun e => f e.2) = true) : (Tab.set t q v).all (fun e => f e.2) = true := by
  induction t with
  | nil => simp [Tab.set, hv]
  | cons e t ih =>
    simp only [List.all_cons, Bool.and_eq_true] at h
    simp only [Tab.set]
    split
    · simp only [List.all_cons, Bool.and_eq_true]; exact ⟨hv, h⟩
    · split
      · simp only [List.all_cons, Bool.and_eq_true]; exact ⟨hv, h.2⟩
      · simp only [List.all_cons, Bool.and_eq_true]; exact ⟨h.1, ih h.2⟩

/-- A write keeps the canonical form. -/
theorem Tab.wf_put [DecidableEq α] (d : α) (t : Tab α) (q : Nat) (v : α) (h : Tab.wf d t = true) :
    Tab.wf d (Tab.put d t q v) = true := by
  rw [Tab.put]
  split
  · exact Tab.wf_filter d _ t h
  · next hv =>
    simp only [Tab.wf, Bool.and_eq_true] at h ⊢
    exact ⟨Tab.risingFrom_set t q v 0 h.1 (Nat.zero_le q),
      Tab.all_set (fun x => decide (x ≠ d)) t q v (by simpa using hv) h.2⟩

end Sys2Proof
end

