-- ==== Sys2Proof/Laws/Memory.lean ====
section
/-!
SUPPORT. Laws of memory: every operation keeps the canonical form, a write stores its bytes and leaves every other byte as
it was.
-/

namespace Sys2Proof.Machine

open Sys2Proof

/-- A byte written keeps the canonical form. -/
theorem Memory.wf_setByte (m : List Host.Cell) (a : Nat) (b : Byte) (h : Memory.wf m = true) :
    Memory.wf (Memory.setByte m a b) = true := Tab.wf_put _ m a b h

/-- Bytes written keep the canonical form. -/
theorem Memory.wf_write (m : List Host.Cell) (a : Nat) (b : List Byte) (h : Memory.wf m = true) :
    Memory.wf (Memory.write m a b) = true := by
  induction b generalizing m a with
  | nil => exact h
  | cons x t ih => exact ih _ _ (Memory.wf_setByte m a x h)

/-- Bytes set to zero keep the canonical form. -/
theorem Memory.wf_zero (m : List Host.Cell) (a n : Nat) (h : Memory.wf m = true) :
    Memory.wf (Memory.zero m a n) = true := Tab.wf_filter _ _ m h

/-- Ranges set to zero, one after another, keep the canonical form. -/
theorem Memory.wf_zeros (m : List Host.Cell) (l : List Nat) (f : Nat → Nat) (n : Nat) (h : Memory.wf m = true) :
    Memory.wf (l.foldl (fun m k => Memory.zero m (f k) n) m) = true := by
  induction l generalizing m with
  | nil => exact h
  | cons k l ih => exact ih _ (Memory.wf_zero m (f k) n h)

/-- Empty memory has the canonical form. -/
theorem Memory.wf_nil : Memory.wf [] = true := rfl

/-- A store of the state keeps the canonical form. -/
theorem State.storeB_wf (s : State) (a : Nat) (b : List Byte) (h : Memory.wf s.mem = true) :
    Memory.wf (s.storeB a b).mem = true := Memory.wf_write s.mem a b h

/-- Every byte outside those written reads as before. -/
theorem Memory.byte_write_other (m : List Host.Cell) (a : Nat) (b : List Byte) (p : Nat)
    (h : p < a ∨ a + b.length ≤ p) : Memory.byte (Memory.write m a b) p = Memory.byte m p := by
  induction b generalizing m a with
  | nil => rfl
  | cons x t ih =>
    simp only [List.length_cons] at h
    simp only [Memory.write]
    rw [ih _ _ (by omega)]
    exact Tab.get_put_other _ _ m a p x (by omega)

/-- The byte written at a place is read back there. -/
theorem Memory.byte_write_at (m : List Host.Cell) (a : Nat) (b : List Byte) (k : Nat) (x : Byte)
    (hk : b[k]? = some x) : Memory.byte (Memory.write m a b) (a + k) = x := by
  induction b generalizing m a k with
  | nil => simp at hk
  | cons y t ih =>
    simp only [Memory.write]
    cases k with
    | zero =>
      simp only [List.getElem?_cons_zero, Option.some.injEq] at hk
      subst hk
      rw [Nat.add_zero, Memory.byte_write_other _ _ _ _ (by omega)]
      exact Tab.get_put_same _ m a y
    | succ k =>
      simp only [List.getElem?_cons_succ] at hk
      have := ih (Memory.setByte m a y) (a + 1) k hk
      rw [show a + (k + 1) = a + 1 + k by omega]
      exact this

/-- Memory right after reset has the canonical form. -/
theorem State.reset_mem_wf : Memory.wf State.reset.mem = true := rfl

end Sys2Proof.Machine
end

