-- ==== Sys2Proof/Laws/Frame.lean ====
section
/-!
SUPPORT. Laws of frames: how the frame of a composite follows from the frames of its parts.  `RF V F O s r` says it of a
result `r` of any form: every state that `V` finds in `r` changes no more of `s` than `F` and `O` allow.
-/

namespace Sys2Proof.Machine

set_option Elab.async false

open Sys2Proof

/-! ## Frames -/

theorem Frame.refl (F : List Fld) (O : List Nat) (s : State) : Frame F O s s :=
  ⟨fun f _ _ => by cases f <;> simp [Fld.same], Or.inr fun _ _ => rfl⟩

theorem Fld.same_trans {f : Fld} {s t u : State} (h : f.same s t) (k : f.same t u) : f.same s u := by
  cases f <;> simp_all [Fld.same]

theorem Frame.trans {F : List Fld} {O : List Nat} {s t u : State} (h : Frame F O s t) (k : Frame F O t u) :
    Frame F O s u :=
  ⟨fun f hf hv => Fld.same_trans (h.1 f hf hv) (k.1 f hf hv),
    h.2.elim Or.inl fun a => k.2.elim Or.inl fun b => Or.inr fun q hq => (b q hq).trans (a q hq)⟩

/-- A list of parts, or of objects, lies within another. -/
def within? {α : Type} [BEq α] (a b : List α) : Bool := a.all (fun x => b.contains x)

theorem mem_of_within {α : Type} [BEq α] [LawfulBEq α] {a b : List α} (h : within? a b = true) {x : α} (hx : x ∈ a) :
    x ∈ b := by
  simp only [within?, List.all_eq_true] at h
  simpa using h x hx

theorem within_trans {α : Type} [BEq α] [LawfulBEq α] {a b c : List α} (k : within? b c = true) (h : within? a b = true) :
    within? a c = true := by
  rw [within?, List.all_eq_true]
  intro x hx
  simpa using mem_of_within k (mem_of_within h hx)

theorem Frame.mono {F F' : List Fld} {O O' : List Nat} {s t : State} (h : Frame F O s t) (hF : within? F F' = true)
    (hO : within? O O' = true) : Frame F' O' s t :=
  ⟨fun f hf hv => h.1 f (fun m => hf (mem_of_within hF m)) hv,
    h.2.elim (fun m => Or.inl (mem_of_within hF m)) fun a => Or.inr fun q hq => a q (fun m => hq (mem_of_within hO m))⟩

/-! ## What every operation keeps -/

/-- Parts of the security state that the fuses take. -/
def SecSt.fuses (x : SecSt) : Option (FuseItem × Nat × Nat) × BitVec 2 × BitVec 8 × Tab Nat × BitVec 4 :=
  (x.fuse, x.sigPolicy, x.keyRevoke, x.rollback, x.debugForbid)

theorem clearsFuse_self (item : FuseItem) (v : Nat) : clearsFuse item v v = false := by
  cases item <;> simp [clearsFuse]

theorem and_eq_trans {a b c : Nat} (h : a &&& b = a) (k : b &&& c = b) : a &&& c = a := by
  rw [← h, Nat.and_assoc, k]

theorem clearsFuse_trans {item : FuseItem} {a b c : Nat} (h : clearsFuse item a b = false)
    (k : clearsFuse item b c = false) : clearsFuse item a c = false := by
  cases item <;> simp only [clearsFuse, decide_eq_false_iff_not, Decidable.not_not, Nat.not_lt] at *
  case rollback => exact Nat.le_trans h k
  all_goals exact and_eq_trans h k

theorem SecSt.fuses_val {x y : SecSt} (h : y.fuses = x.fuses) (item : FuseItem) (k : Nat) :
    y.fuseVal item k = x.fuseVal item k := by
  simp only [SecSt.fuses, Prod.mk.injEq] at h
  cases item <;> simp [SecSt.fuseVal, SecSt.level, h]

theorem FusesKept.trans {x y z : SecSt} (h : FusesKept x y) (k : FusesKept y z) : FusesKept x z :=
  fun i n => clearsFuse_trans (h i n) (k i n)

theorem Keeps.trans {s t u : State} (h : Keeps s t) (k : Keeps t u) : Keeps s u :=
  ⟨fun w => k.mem (h.mem w), Nat.le_trans h.ctr k.ctr, fun w =>
    ⟨(k.fuse (h.fuse w).1).1, (h.fuse w).2.trans (k.fuse (h.fuse w).1).2⟩⟩

/-- A change of other parts. -/
theorem Keeps.of {s t : State} (m : t.mem = s.mem) (c : s.freeCtr ≤ t.freeCtr) (f : t.sec.fuses = s.sec.fuses) :
    Keeps s t where
  mem := fun w => by rw [m]; exact w
  ctr := c
  fuse := fun w => ⟨fun item k v e => by
      rw [SecSt.fuses_val f]
      have g := f
      simp only [SecSt.fuses, Prod.mk.injEq] at g
      exact w item k v (g.1 ▸ e),
    fun item k => by rw [SecSt.fuses_val f]; exact clearsFuse_self item _⟩

/-- A change of memory and other parts. -/
theorem Keeps.ofMem {s t : State} (m : Memory.wf s.mem = true → Memory.wf t.mem = true) (c : t.freeCtr = s.freeCtr)
    (f : t.sec.fuses = s.sec.fuses) : Keeps s t :=
  ⟨m, Nat.le_of_eq c.symm, (Keeps.of (s := s) (t := { t with mem := s.mem }) rfl (Nat.le_of_eq c.symm) f).fuse⟩

/-- A change of the fuses and other parts. -/
theorem Keeps.ofFuse {s t : State} (m : t.mem = s.mem) (c : s.freeCtr ≤ t.freeCtr)
    (f : FuseSound s.sec → FuseSound t.sec ∧ FusesKept s.sec t.sec) : Keeps s t :=
  ⟨fun w => by rw [m]; exact w, c, f⟩

theorem Keeps.refl (s : State) : Keeps s s := Keeps.of rfl (Nat.le_refl _) rfl

/-! ## Results -/

/-- The state in a result of each form. -/
def vS (r t : State) : Prop := r = t
def vOut (r : Out) (t : State) : Prop := r = .next t
def vOk {ε : Type} (r : Except ε State) (t : State) : Prop := r = .ok t
def vSnd {α : Type} (r : α × State) (t : State) : Prop := r.2 = t
def vFst {α : Type} (r : State × α) (t : State) : Prop := r.1 = t
def v22 {α β : Type} (r : α × β × State) (t : State) : Prop := r.2.2 = t
def vSomeSnd {α : Type} (r : Option (α × State)) (t : State) : Prop := ∃ a, r = some (a, t)

/-- Every state found in a result keeps to the frame, and keeps what every operation keeps. -/
structure RF {ρ : Type} (V : ρ → State → Prop) (F : List Fld) (O : List Nat) (s : State) (r : ρ) : Prop where
  of : ∀ t, V r t → Frame F O s t
  keeps : ∀ t, V r t → Keeps s t

section
variable {ρ σ α β : Type} {V : ρ → State → Prop} {W : σ → State → Prop} {F F' : List Fld} {O O' : List Nat} {s b t : State}

theorem RF.mk1 (h : Frame F O s t) (k : Keeps s t) : RF vS F O s t := ⟨fun _ e => e ▸ h, fun _ e => e ▸ k⟩
theorem RF.frame (h : RF vS F O s t) : Frame F O s t := h.of t rfl
theorem RF.kept (h : RF vS F O s t) : Keeps s t := h.keeps t rfl
theorem rf_refl : RF vS F O s s := RF.mk1 (Frame.refl F O s) (Keeps.refl s)
theorem RF.view {r : ρ} (h : RF V F O s r) (e : V r t) : RF vS F O s t := RF.mk1 (h.of t e) (h.keeps t e)
theorem RF.ofS {r : ρ} (h : ∀ t, V r t → RF vS F O s t) : RF V F O s r :=
  ⟨fun t e => (h t e).frame, fun t e => (h t e).kept⟩
theorem RF.mono (h : RF vS F' O' s t) (hF : within? F' F = true) (hO : within? O' O = true) : RF vS F O s t :=
  RF.mk1 (h.frame.mono hF hO) h.kept
theorem RF.then (h : RF vS F O s b) (k : RF vS F O b t) : RF vS F O s t :=
  RF.mk1 (h.frame.trans k.frame) (h.kept.trans k.kept)
theorem RF.field (h : RF vS F O s t) (f : Fld) (hf : f ∉ F) (hv : f ≠ .values) : f.same s t := h.frame.1 f hf hv
theorem Obj.keyCode_key (o : Obj) (k : Nat) : keyCode (o.key k) = o.code % 16777216 := by
  simp [keyCode, Obj.key]
theorem RF.num (h : RF vS F O s t) (hv : .values ∉ F) {o : Obj} (ho : o.code % 16777216 ∉ O) (k : Nat) :
    t.num o k = s.num o k := by
  have := (h.frame.2.resolve_left hv) (o.key k) (by rwa [Obj.keyCode_key])
  simp only [State.num, Tab.get_find, this]
theorem RF.nat (h : RF vS F O s t) (hv : .values ∉ F) {o : Obj} (ho : o.code % 16777216 ∉ O) (k : Nat) :
    t.nat o k = s.nat o k := by simp [State.nat, h.num hv ho]
theorem RF.flag (h : RF vS F O s t) (hv : .values ∉ F) {o : Obj} (ho : o.code % 16777216 ∉ O) (k : Nat) :
    t.flag o k = s.flag o k := by simp [State.flag, h.num hv ho]
theorem RF.gov (h : RF vS F O s t) (hv : .values ∉ F) (hf : .force ∉ F) {o : Obj} (ho : o.code % 16777216 ∉ O) (k : Nat) :
    t.gov o k = s.gov o k := by
  have := (h.field .force hf (by decide)).1
  simp [State.gov, h.num hv ho, this]
theorem RF.govN (h : RF vS F O s t) (hv : .values ∉ F) (hf : .force ∉ F) {o : Obj} (ho : o.code % 16777216 ∉ O) (k : Nat) :
    t.govN o k = s.govN o k := by simp [State.govN, h.gov hv hf ho]
theorem RF.oct (h : RF vS F O s t) (hv : .octets ∉ F) (o : Obj) (k : Nat) : t.oct o k = s.oct o k := by
  have : t.dict.oct = s.dict.oct := h.field .octets hv (by decide)
  simp [State.oct, this]
theorem rf_cut (v : σ) (h : RF W F O s v) {r : ρ} (k : RF W F O s v → RF V F O s r) : RF V F O s r := k h
theorem rf_ite {c : Prop} [Decidable c] {r r' : ρ} (h : c → RF V F O s r) (k : ¬c → RF V F O s r') :
    RF V F O s (if c then r else r') := by
  split
  · exact h ‹_›
  · exact k ‹_›
theorem rf_trans {r : ρ} (k : RF vS F O s b) (h : RF V F O b r) : RF V F O s r :=
  RF.ofS fun _ e => k.then (h.view e)
theorem rf_step {r : ρ} (h : RF V F' O' b r) (hF : within? F' F = true) (hO : within? O' O = true) (k : RF vS F O s b) :
    RF V F O s r := RF.ofS fun _ e => k.then ((h.view e).mono hF hO)
theorem rf_upd (k : RF vS F O s b) (h : Frame F O b t) (q : Keeps b t) : RF vS F O s t := k.then (RF.mk1 h q)
theorem rf_next (h : RF vS F O s t) : RF vOut F O s (.next t) := RF.ofS fun _ e => by cases e; exact h
theorem rf_ok {ε : Type} (h : RF vS F O s t) : RF vOk F O s (Except.ok t : Except ε State) :=
  RF.ofS fun _ e => by cases e; exact h
theorem rf_error {ε : Type} (e : ε) : RF vOk F O s (Except.error e : Except ε State) := RF.ofS fun _ h => by cases h
theorem rf_snd {a : α} (h : RF vS F O s t) : RF vSnd F O s (a, t) := RF.ofS fun _ e => by cases e; exact h
theorem rf_fst {a : α} (h : RF vS F O s t) : RF vFst F O s (t, a) := RF.ofS fun _ e => by cases e; exact h
theorem rf_22 {a : α} {p : β × State} (h : RF vSnd F O s p) : RF v22 F O s (a, p) := RF.ofS fun _ e => h.view e
theorem rf_none : RF vSomeSnd F O s (none : Option (α × State)) := RF.ofS fun _ e => by obtain ⟨_, e⟩ := e; cases e
theorem rf_some {p : α × State} (h : RF vSnd F O s p) : RF vSomeSnd F O s (some p) :=
  RF.ofS fun _ e => by obtain ⟨_, e⟩ := e; cases e; exact h.view rfl
theorem rf_of_snd {p : α × State} (h : RF vSnd F O s p) : RF vS F O s p.2 := h.view rfl
theorem rf_of_fst {p : State × α} (h : RF vFst F O s p) : RF vS F O s p.1 := h.view rfl
theorem rf_of_22 {p : α × β × State} (h : RF v22 F O s p) : RF vSnd F O s p.2 := RF.ofS fun _ e => h.view e
theorem rf_pair_snd {d : α × State} {a : α} (e : d = (a, t)) (h : RF vSnd F O s d) {r : ρ}
    (k : RF vS F O s t → RF V F O s r) : RF V F O s r := by subst e; exact k (rf_of_snd h)
theorem rf_pair_fst {d : State × α} {a : α} (e : d = (t, a)) (h : RF vFst F O s d) {r : ρ}
    (k : RF vS F O s t → RF V F O s r) : RF V F O s r := by subst e; exact k (rf_of_fst h)
theorem rf_pair_22 {d : α × β × State} {a : α} {c : β} (e : d = (a, c, t)) (h : RF v22 F O s d) {r : ρ}
    (k : RF vS F O s t → RF V F O s r) : RF V F O s r := by subst e; exact k (rf_of_snd (rf_of_22 h))
theorem rf_pair_ok {ε : Type} {d : Except ε State} (e : d = .ok t) (h : RF vOk F O s d) {r : ρ}
    (k : RF vS F O s t → RF V F O s r) : RF V F O s r := by subst e; exact k (h.view rfl)
theorem rf_pair_some {d : Option (α × State)} {a : α} (e : d = some (a, t)) (h : RF vSomeSnd F O s d) {r : ρ}
    (k : RF vS F O s t → RF V F O s r) : RF V F O s r := by subst e; exact k (h.view ⟨a, rfl⟩)
theorem rf_foldl {ι : Type} {f : State → ι → State} {l : List ι} (k : RF vS F O s b)
    (h : ∀ t x, RF vS F O s t → RF vS F O s (f t x)) : RF vS F O s (l.foldl f b) := by
  induction l generalizing b with
  | nil => exact k
  | cons x l ih => exact ih (h b x k)
theorem rf_foldl_snd {ι : Type} {f : α × State → ι → α × State} {l : List ι} {p : α × State} (k : RF vSnd F O s p)
    (h : ∀ a t x, RF vS F O s t → RF vSnd F O s (f (a, t) x)) : RF vSnd F O s (l.foldl f p) := by
  induction l generalizing p with
  | nil => exact k
  | cons x l ih => exact ih (h p.1 p.2 x (rf_of_snd k))
end

/-! ## Objects -/

/-- A write of a number reaches no other object. -/
theorem State.setNum_rf (s : State) (o : Obj) (item : Nat) (v : Int) :
    RF vS [] [o.code % 16777216] s (s.setNum o item v) := by
  refine RF.mk1 ⟨fun f _ hv => ?_, Or.inr fun k hk => ?_⟩ (Keeps.of rfl (Nat.le_refl _) rfl)
  · cases f <;> first | rfl | exact ⟨rfl, rfl⟩ | exact ⟨rfl, rfl, rfl, rfl, rfl⟩ | exact absurd rfl hv
  · refine Tab.find_put_other _ _ _ _ _ ?_
    rintro rfl
    simp [keyCode, Obj.key] at hk

theorem State.setFlag_rf (s : State) (o : Obj) (item : Nat) (b : Bool) :
    RF vS [] [o.code % 16777216] s (s.setFlag o item b) := State.setNum_rf _ _ _ _
theorem State.bumpBy_rf (s : State) (o : Obj) (item n : Nat) :
    RF vS [] [o.code % 16777216] s (s.bumpBy o item n) := State.setNum_rf _ _ _ _
theorem State.bump_rf (s : State) (o : Obj) (item : Nat) :
    RF vS [] [o.code % 16777216] s (s.bump o item) := State.setNum_rf _ _ _ _
theorem State.peak_rf (s : State) (o : Obj) (item n : Nat) :
    RF vS [] [o.code % 16777216] s (s.peak o item n) := State.setNum_rf _ _ _ _
theorem State.setBits_rf (s : State) (o : Obj) (item n : Nat) :
    RF vS [] [o.code % 16777216] s (s.setBits o item n) := State.setNum_rf _ _ _ _

/-- A number written to an object that is not told. -/
theorem State.setNum_rfv (s : State) (o : Obj) (item : Nat) (v : Int) : RF vS [.values] [] s (s.setNum o item v) :=
  RF.mk1 ⟨fun f _ hv => (State.setNum_rf s o item v).frame.1 f (by simp) hv, Or.inl (by simp)⟩
    (State.setNum_rf s o item v).kept
theorem State.setFlag_rfv (s : State) (o : Obj) (item : Nat) (b : Bool) : RF vS [.values] [] s (s.setFlag o item b) :=
  State.setNum_rfv _ _ _ _
theorem State.bumpBy_rfv (s : State) (o : Obj) (item n : Nat) : RF vS [.values] [] s (s.bumpBy o item n) :=
  State.setNum_rfv _ _ _ _
theorem State.bump_rfv (s : State) (o : Obj) (item : Nat) : RF vS [.values] [] s (s.bump o item) := State.setNum_rfv _ _ _ _

end Sys2Proof.Machine
end

