-- ==== Sys2Proof/Laws/FrameHand.lean ====
section
/-!
SUPPORT. Frames of operations that take another operation, or an object, as an argument.
-/

namespace Sys2Proof.Machine

set_option Elab.async false

open Sys2Proof

section
variable {F : List Fld} {O : List Nat} {s b : State}

theorem State.cuBump_rf (s : State) (p : Nat) (o : Obj) : RF vS [] [o.code % 16777216] s (s.cuBump p o) := by
  unfold State.cuBump
  split
  · exact State.bump_rf _ _ _
  · exact rf_refl

/-- An answer changes the reply alone. -/
theorem replyOnly (x : State) (r : Reply) : RF vS [.reply] [] x { x with reply := r } :=
  RF.mk1 ⟨fun f hf hv => by
    cases f <;> first
      | rfl | exact ⟨rfl, rfl⟩ | exact ⟨rfl, rfl, rfl, rfl, rfl⟩ | exact absurd rfl hv | exact absurd (by decide) hf,
    Or.inr fun _ _ => rfl⟩ (Keeps.of rfl (Nat.le_refl _) rfl)

/-- A write that acts: its frame is that of the action, and the reply changes. -/
theorem State.actOn_rf (hF : within? [.reply] F = true) {who : Requester} {o : Obj} {item : Nat} {a : Addr} {v : Int}
    {act : State → Except Fail State} (h0 : RF vS F O s b) (h : ∀ u, RF vOk F O u (act u)) :
    RF vS F O s (b.actOn who o item a v act) := by
  have hr (x : State) (r : Reply) : RF vS F O x { x with reply := r } := (replyOnly x r).mono hF rfl
  unfold State.actOn
  split
  · refine rf_ite (fun _ => ?_) (fun _ => ?_)
    · exact h0.then (hr _ _)
    · split
      · next t he => exact (h0.then ((h b).view he)).then (hr _ _)
      · exact h0.then (hr _ _)
  · exact h0.then (hr _ _)

theorem State.actSel_rf (hF : within? [.reply] F = true) {who : Requester} {o : Obj} {v : Int}
    {act : Nat → State → Except Fail State} (h0 : RF vS F O s b) (h : ∀ k u, RF vOk F O u (act k u)) :
    RF vS F O s (b.actSel who o v act) := State.actOn_rf hF h0 (fun u => h _ u)

theorem okOr_rf {r : Except Fail State} (h0 : RF vS F O s b) (h : RF vOk F O s r) : RF vS F O s (okOr b r) := by
  unfold okOr
  split
  · next t => exact h.view rfl
  · exact h0

theorem State.disableAll_rf {f : Nat → State → Except Fail State} {l : List Nat} (h0 : RF vS F O s b)
    (h : ∀ k u, RF vOk F O u (f k u)) : RF vS F O s (State.disableAll f l b) := by
  unfold State.disableAll
  exact rf_foldl h0 (fun t x k => okOr_rf k (rf_trans k (h x t)))

end

end Sys2Proof.Machine
end

