-- ==== Sys2Proof/Laws/FramesOps.lean ====
section
/-!
SUPPORT. What each operation of Machine/Ops.lean may change, one lemma each.
-/

namespace Sys2Proof.Machine

set_option Elab.async false

open Sys2Proof

theorem State.withVal_rf (s x1) :
    RF vS [.values] [] s (State.withVal s x1) := by
  unfold State.withVal
  extract_lets v0
  refine rf_upd (b := s) ?_ ⟨fun f hf hv => by cases f <;> first | exact absurd (by decide) hf | exact absurd rfl hv | rfl | exact ⟨rfl, rfl⟩ | exact ⟨rfl, rfl, rfl, rfl, rfl⟩, Or.inl (by decide)⟩ (Keeps.of rfl (Nat.le_refl _) rfl)
  exact rf_refl

theorem State.take_rf (s x1 x2) :
    RF vS [.force] [] s (State.take s x1 x2) := by
  unfold State.take
  extract_lets v0
  refine rf_upd (b := s) ?_ ⟨fun f hf hv => by cases f <;> first | exact absurd (by decide) hf | exact absurd rfl hv | rfl | exact ⟨rfl, rfl⟩ | exact ⟨rfl, rfl, rfl, rfl, rfl⟩, Or.inr fun _ _ => rfl⟩ (Keeps.of rfl (Nat.le_refl _) rfl)
  exact rf_refl

theorem State.takeAll_rf (s x1 x2) :
    RF vS [.force] [] s (State.takeAll s x1 x2) := by
  unfold State.takeAll
  refine rf_foldl ?_ (fun t0 x1 h2 => ?_)
  · exact rf_refl
  · refine rf_step (State.take_rf _ _ _) rfl rfl ?_
    exact h2

theorem State.setOct_rf (s x1 x2 x3) :
    RF vS [.octets] [] s (State.setOct s x1 x2 x3) := by
  unfold State.setOct
  extract_lets v0
  refine rf_upd (b := s) ?_ ⟨fun f hf hv => by cases f <;> first | exact absurd (by decide) hf | exact absurd rfl hv | rfl | exact ⟨rfl, rfl⟩ | exact ⟨rfl, rfl, rfl, rfl, rfl⟩, Or.inr fun _ _ => rfl⟩ (Keeps.of rfl (Nat.le_refl _) rfl)
  exact rf_refl

theorem State.storeB_rf (s x1 x2) :
    RF vS [.mem] [] s (State.storeB s x1 x2) := by
  unfold State.storeB
  refine rf_upd (b := s) ?_ ⟨fun f hf hv => by cases f <;> first | exact absurd (by decide) hf | exact absurd rfl hv | rfl | exact ⟨rfl, rfl⟩ | exact ⟨rfl, rfl, rfl, rfl, rfl⟩, Or.inr fun _ _ => rfl⟩ (Keeps.ofMem (fun w => Memory.wf_write _ _ _ w) rfl rfl)
  exact rf_refl

theorem State.answer_rf (s x1) :
    RF vS [.reply] [] s (State.answer s x1) := by
  unfold State.answer
  refine rf_upd (b := s) ?_ ⟨fun f hf hv => by cases f <;> first | exact absurd (by decide) hf | exact absurd rfl hv | rfl | exact ⟨rfl, rfl⟩ | exact ⟨rfl, rfl, rfl, rfl, rfl⟩, Or.inr fun _ _ => rfl⟩ (Keeps.of rfl (Nat.le_refl _) rfl)
  exact rf_refl

theorem State.refuse_rf (s x1) :
    RF vS [.reply] [] s (State.refuse s x1) := by
  unfold State.refuse
  refine rf_upd (b := s) ?_ ⟨fun f hf hv => by cases f <;> first | exact absurd (by decide) hf | exact absurd rfl hv | rfl | exact ⟨rfl, rfl⟩ | exact ⟨rfl, rfl, rfl, rfl, rfl⟩, Or.inr fun _ _ => rfl⟩ (Keeps.of rfl (Nat.le_refl _) rfl)
  exact rf_refl

theorem State.answerData_rf (s x1) :
    RF vS [.reply] [] s (State.answerData s x1) := by
  unfold State.answerData
  refine rf_upd (b := s) ?_ ⟨fun f hf hv => by cases f <;> first | exact absurd (by decide) hf | exact absurd rfl hv | rfl | exact ⟨rfl, rfl⟩ | exact ⟨rfl, rfl, rfl, rfl, rfl⟩, Or.inr fun _ _ => rfl⟩ (Keeps.of rfl (Nat.le_refl _) rfl)
  exact rf_refl

theorem State.answerFab_rf (s x1 x2 x3) :
    RF vS [.reply] [] s (State.answerFab s x1 x2 x3) := by
  unfold State.answerFab
  refine rf_upd (b := s) ?_ ⟨fun f hf hv => by cases f <;> first | exact absurd (by decide) hf | exact absurd rfl hv | rfl | exact ⟨rfl, rfl⟩ | exact ⟨rfl, rfl, rfl, rfl, rfl⟩, Or.inr fun _ _ => rfl⟩ (Keeps.of rfl (Nat.le_refl _) rfl)
  exact rf_refl

theorem State.answerErr_rf (s x1) :
    RF vS [.reply] [] s (State.answerErr s x1) := by
  unfold State.answerErr
  refine rf_step (State.answerFab_rf _ _ _ _) rfl rfl ?_
  exact rf_refl

theorem State.draw_rf (s) :
    RF vSnd [.freeCtr] [] s (State.draw s) := by
  unfold State.draw
  refine rf_snd ?_
  refine rf_upd (b := s) ?_ ⟨fun f hf hv => by cases f <;> first | exact absurd (by decide) hf | exact absurd rfl hv | rfl | exact ⟨rfl, rfl⟩ | exact ⟨rfl, rfl, rfl, rfl, rfl⟩, Or.inr fun _ _ => rfl⟩ (Keeps.of rfl (Nat.le_add_right _ _) rfl)
  exact rf_refl

end Sys2Proof.Machine
end

