-- ==== Sys2Proof/Laws/FramesAlarms.lean ====
section
/-!
SUPPORT. What each operation of Machine/Alarms.lean may change, one lemma each.
-/

namespace Sys2Proof.Machine

set_option Elab.async false

open Sys2Proof

theorem State.prune_rf (s) :
    RF vS [.alarms] [] s (State.prune s) := by
  unfold State.prune
  extract_lets v0
  refine rf_upd (b := s) ?_ ⟨fun f hf hv => by cases f <;> first | exact absurd (by decide) hf | exact absurd rfl hv | rfl | exact ⟨rfl, rfl⟩ | exact ⟨rfl, rfl, rfl, rfl, rfl⟩, Or.inr fun _ _ => rfl⟩ (Keeps.of rfl (Nat.le_refl _) rfl)
  exact rf_refl

theorem State.displace_rf (s x1) :
    RF vS [.pot] [] s (State.displace s x1) := by
  unfold State.displace
  extract_lets v0
  refine rf_upd (b := s) ?_ ⟨fun f hf hv => by cases f <;> first | exact absurd (by decide) hf | exact absurd rfl hv | rfl | exact ⟨rfl, rfl⟩ | exact ⟨rfl, rfl, rfl, rfl, rfl⟩, Or.inr fun _ _ => rfl⟩ (Keeps.of rfl (Nat.le_refl _) rfl)
  exact rf_refl

theorem State.issue_rf (s x1) :
    RF vFst [.pot, .alarms] [0xB20006] s (State.issue s x1) := by
  unfold State.issue
  extract_lets v0
  refine rf_ite (fun _h1 => ?_) (fun _h2 => ?_)
  · split
    rename_i w3 w4 w5 w6
    extract_lets v7
    refine rf_cut (W := vS) v7 ?_ (fun h8 => ?_)
    · unfold v7
      refine rf_upd (b := s) ?_ ⟨fun f hf hv => by cases f <;> first | exact absurd (by decide) hf | exact absurd rfl hv | rfl | exact ⟨rfl, rfl⟩ | exact ⟨rfl, rfl, rfl, rfl, rfl⟩, Or.inr fun _ _ => rfl⟩ (Keeps.of rfl (Nat.le_refl _) rfl)
      exact rf_refl
    refine rf_fst ?_
    refine rf_step (State.bumpBy_rf _ _ _ _) rfl rfl ?_
    refine rf_step (State.displace_rf _ _) rfl rfl ?_
    exact h8
  · refine rf_fst ?_
    refine rf_upd (b := s) ?_ ⟨fun f hf hv => by cases f <;> first | exact absurd (by decide) hf | exact absurd rfl hv | rfl | exact ⟨rfl, rfl⟩ | exact ⟨rfl, rfl, rfl, rfl, rfl⟩, Or.inr fun _ _ => rfl⟩ (Keeps.of rfl (Nat.le_refl _) rfl)
    exact rf_refl

theorem State.traceCount_rf (s x1 x2) :
    RF vS [.octets] [] s (State.traceCount s x1 x2) := by
  unfold State.traceCount
  extract_lets v0
  refine rf_step (State.setOct_rf _ _ _ _) rfl rfl ?_
  exact rf_refl

theorem State.traceRec_rf (s x1) :
    RF vS [.octets, .alarms] [0xB2000F] s (State.traceRec s x1) := by
  unfold State.traceRec
  extract_lets v0 v1
  refine rf_cut (W := vS) v1 ?_ (fun h2 => ?_)
  · unfold v1
    refine rf_step (State.traceCount_rf _ _ _) rfl rfl ?_
    exact rf_refl
  refine rf_ite (fun _h3 => ?_) (fun _h4 => ?_)
  · split
    · rename_i w5 w6
      refine rf_upd (b := s) ?_ ⟨fun f hf hv => by cases f <;> first | exact absurd (by decide) hf | exact absurd rfl hv | rfl | exact ⟨rfl, rfl⟩ | exact ⟨rfl, rfl, rfl, rfl, rfl⟩, Or.inr fun _ _ => rfl⟩ (Keeps.of rfl (Nat.le_refl _) rfl)
      exact rf_refl
    · rename_i w7 w8 w9 w10 w11
      extract_lets v12 v13
      refine rf_cut (W := vS) v13 ?_ (fun h14 => ?_)
      · unfold v13
        refine rf_upd (b := s) ?_ ⟨fun f hf hv => by cases f <;> first | exact absurd (by decide) hf | exact absurd rfl hv | rfl | exact ⟨rfl, rfl⟩ | exact ⟨rfl, rfl, rfl, rfl, rfl⟩, Or.inr fun _ _ => rfl⟩ (Keeps.of rfl (Nat.le_refl _) rfl)
        exact rf_refl
      refine rf_step (State.bump_rf _ _ _) rfl rfl ?_
      exact h14
  · clear_value v1
    refine rf_upd (b := v1) ?_ ⟨fun f hf hv => by cases f <;> first | exact absurd (by decide) hf | exact absurd rfl hv | rfl | exact ⟨rfl, rfl⟩ | exact ⟨rfl, rfl, rfl, rfl, rfl⟩, Or.inr fun _ _ => rfl⟩ (Keeps.of rfl (Nat.le_refl _) rfl)
    exact h2

theorem State.traceRaw_rf (s x1) :
    RF vS [.freeCtr, .octets, .alarms] [0xB2000F] s (State.traceRaw s x1) := by
  unfold State.traceRaw
  extract_lets v0
  refine rf_cut (W := vS) v0 ?_ (fun h1 => ?_)
  · unfold v0
    refine rf_step (State.traceRec_rf _ _) rfl rfl ?_
    exact rf_refl
  refine rf_ite (fun _h2 => ?_) (fun _h3 => ?_)
  · have hc : v0.freeCtr = s.freeCtr := (State.traceRec_rf s _).frame.1 .freeCtr (by decide) (by decide)
    clear_value v0
    refine rf_upd (b := v0) ?_ ⟨fun f hf hv => by cases f <;> first | exact absurd (by decide) hf | exact absurd rfl hv | rfl | exact ⟨rfl, rfl⟩ | exact ⟨rfl, rfl, rfl, rfl, rfl⟩, Or.inr fun _ _ => rfl⟩ (Keeps.of rfl (by rw [hc]; exact Nat.le_add_right _ _) rfl)
    exact h1
  · exact rf_refl

theorem State.inPlace_rf (s x1 x2 x3 x4) :
    RF vS [.alarms] [] s (State.inPlace s x1 x2 x3 x4) := by
  unfold State.inPlace
  extract_lets v0
  refine rf_upd (b := s) ?_ ⟨fun f hf hv => by cases f <;> first | exact absurd (by decide) hf | exact absurd rfl hv | rfl | exact ⟨rfl, rfl⟩ | exact ⟨rfl, rfl, rfl, rfl, rfl⟩, Or.inr fun _ _ => rfl⟩ (Keeps.of rfl (Nat.le_refl _) rfl)
  exact rf_refl

theorem State.raiseOnce_rf (s x1 x2 x3 x4) :
    RF vFst [.freeCtr, .octets, .pot, .alarms] [0xB20006, 0xB20007, 0xB2000F] s (State.raiseOnce s x1 x2 x3 x4) := by
  unfold State.raiseOnce
  extract_lets v0 v1
  split
  rename_i w2 w3 w4 w5 w6 w7
  extract_lets v8 v9 v10
  refine rf_cut (W := vS) v9 ?_ (fun h11 => ?_)
  · unfold v9
    refine rf_upd (b := s) ?_ ⟨fun f hf hv => by cases f <;> first | exact absurd (by decide) hf | exact absurd rfl hv | rfl | exact ⟨rfl, rfl⟩ | exact ⟨rfl, rfl, rfl, rfl, rfl⟩, Or.inr fun _ _ => rfl⟩ (Keeps.of rfl (Nat.le_refl _) rfl)
    exact rf_refl
  refine rf_cut (W := vS) v10 ?_ (fun h12 => ?_)
  · unfold v10
    refine rf_ite (fun _h13 => ?_) (fun _h14 => ?_)
    · refine rf_step (State.bump_rf _ _ _) rfl rfl ?_
      exact h11
    · exact h11
  split
  rename_i w15 w16 w17 w18
  refine rf_pair_fst w18 ?_ (fun h19 => ?_)
  · refine rf_ite (fun _h20 => ?_) (fun _h21 => ?_)
    · refine rf_step (State.issue_rf _ _) rfl rfl ?_
      exact h12
    · refine rf_fst ?_
      refine rf_step (State.inPlace_rf _ _ _ _ _) rfl rfl ?_
      exact h12
  refine rf_fst ?_
  refine rf_step (State.traceRaw_rf _ _) rfl rfl ?_
  exact h19

theorem State.noteRaise_rf (s x1 x2) :
    RF vS [.alarms] [] s (State.noteRaise s x1 x2) := by
  unfold State.noteRaise
  extract_lets v0
  refine rf_upd (b := s) ?_ ⟨fun f hf hv => by cases f <;> first | exact absurd (by decide) hf | exact absurd rfl hv | rfl | exact ⟨rfl, rfl⟩ | exact ⟨rfl, rfl, rfl, rfl, rfl⟩, Or.inr fun _ _ => rfl⟩ (Keeps.of rfl (Nat.le_refl _) rfl)
  exact rf_refl

theorem State.gapAlarm_rf (x0 s) :
    RF vS [.freeCtr, .octets, .pot, .alarms] [0xB20006, 0xB20007, 0xB2000F] s (State.gapAlarm x0 s) := by
  unfold State.gapAlarm
  refine rf_ite (fun _h0 => ?_) (fun _h1 => ?_)
  · refine rf_of_fst ?_
    refine rf_step (State.raiseOnce_rf _ _ _ _ _) rfl rfl ?_
    refine rf_step (State.noteRaise_rf _ _ _) rfl rfl ?_
    exact rf_refl
  · exact rf_refl

theorem State.raise_rf (s x1 x2 x3 x4) :
    RF vS [.freeCtr, .octets, .pot, .alarms] [0xB20006, 0xB20007, 0xB2000F] s (State.raise s x1 x2 x3 x4) := by
  unfold State.raise
  split
  rename_i w0 w1 w2 w3
  refine rf_pair_fst w3 ?_ (fun h4 => ?_)
  · refine rf_step (State.raiseOnce_rf _ _ _ _ _) rfl rfl ?_
    exact rf_refl
  extract_lets v5
  refine rf_cut (W := vS) v5 ?_ (fun h6 => ?_)
  · unfold v5
    refine rf_ite (fun _h7 => ?_) (fun _h8 => ?_)
    · refine rf_of_fst ?_
      refine rf_step (State.raiseOnce_rf _ _ _ _ _) rfl rfl ?_
      refine rf_step (State.noteRaise_rf _ _ _) rfl rfl ?_
      exact h4
    · exact h4
  refine rf_step (State.gapAlarm_rf _ _) rfl rfl ?_
  exact h6

theorem State.trace_rf (s x1) :
    RF vS [.freeCtr, .octets, .pot, .alarms] [0xB20006, 0xB20007, 0xB2000F] s (State.trace s x1) := by
  unfold State.trace
  refine rf_step (State.gapAlarm_rf _ _) rfl rfl ?_
  refine rf_step (State.traceRaw_rf _ _) rfl rfl ?_
  exact rf_refl

theorem State.raiseAtMost_rf (s x1 x2 x3 x4) :
    RF vS [.freeCtr, .octets, .pot, .alarms] [0xB20006, 0xB20007, 0xB2000F] s (State.raiseAtMost s x1 x2 x3 x4) := by
  unfold State.raiseAtMost
  refine rf_ite (fun _h0 => ?_) (fun _h1 => ?_)
  · refine rf_step (State.raise_rf _ _ _ _ _) rfl rfl ?_
    refine rf_step (State.noteRaise_rf _ _ _) rfl rfl ?_
    exact rf_refl
  · exact rf_refl

theorem State.clear_rf (s x1 x2 x3) :
    RF vS [.pot, .alarms] [0xB20006] s (State.clear s x1 x2 x3) := by
  unfold State.clear
  extract_lets v0 v1 v2 v3
  split
  · rename_i w4 w5 w6
    refine rf_ite (fun _h7 => ?_) (fun _h8 => ?_)
    · unfold v0
      refine rf_of_fst ?_
      refine rf_step (State.issue_rf _ _) rfl rfl ?_
      refine rf_upd (b := s) ?_ ⟨fun f hf hv => by cases f <;> first | exact absurd (by decide) hf | exact absurd rfl hv | rfl | exact ⟨rfl, rfl⟩ | exact ⟨rfl, rfl, rfl, rfl, rfl⟩, Or.inr fun _ _ => rfl⟩ (Keeps.of rfl (Nat.le_refl _) rfl)
      exact rf_refl
    · exact rf_refl
  · rename_i w9 w10
    refine rf_ite (fun _h11 => ?_) (fun _h12 => ?_)
    · unfold v0
      refine rf_of_fst ?_
      refine rf_step (State.issue_rf _ _) rfl rfl ?_
      refine rf_upd (b := s) ?_ ⟨fun f hf hv => by cases f <;> first | exact absurd (by decide) hf | exact absurd rfl hv | rfl | exact ⟨rfl, rfl⟩ | exact ⟨rfl, rfl, rfl, rfl, rfl⟩, Or.inr fun _ _ => rfl⟩ (Keeps.of rfl (Nat.le_refl _) rfl)
      exact rf_refl
    · exact rf_refl

theorem State.condition_rf (s x1 x2 x3) :
    RF vS [.freeCtr, .octets, .pot, .alarms] [0xB20006, 0xB20007, 0xB2000F] s (State.condition s x1 x2 x3) := by
  unfold State.condition
  extract_lets v0
  refine rf_ite (fun _h1 => ?_) (fun _h2 => ?_)
  · refine rf_ite (fun _h3 => ?_) (fun _h4 => ?_)
    · exact rf_refl
    · refine rf_step (State.raise_rf _ _ _ _ _) rfl rfl ?_
      exact rf_refl
  · refine rf_step (State.clear_rf _ _ _ _) rfl rfl ?_
    exact rf_refl

end Sys2Proof.Machine
end

