-- ==== Sys2Proof/Laws/FramesModeOps.lean ====
section
/-!
SUPPORT. What each operation of Machine/ModeOps.lean may change, one lemma each.
-/

namespace Sys2Proof.Machine

set_option Elab.async false

open Sys2Proof

theorem State.enterMode_rf (s x1 x2) :
    RF vS [.freeCtr, .mode, .octets, .pot, .alarms] [0x200004, 0x200005, 0x200006, 0xB20006, 0xB20007, 0xB2000F] s (State.enterMode s x1 x2) := by
  unfold State.enterMode
  extract_lets v0 v1 v2 v3 v4 v5 v6 v7
  refine rf_cut (W := vS) v2 ?_ (fun h8 => ?_)
  · unfold v2
    refine rf_upd (b := s) ?_ ⟨fun f hf hv => by cases f <;> first | exact absurd (by decide) hf | exact absurd rfl hv | rfl | exact ⟨rfl, rfl⟩ | exact ⟨rfl, rfl, rfl, rfl, rfl⟩, Or.inr fun _ _ => rfl⟩ (Keeps.of rfl (Nat.le_refl _) rfl)
    exact rf_refl
  refine rf_cut (W := vS) v3 ?_ (fun h9 => ?_)
  · unfold v3
    refine rf_step (State.setNum_rf _ _ _ _) rfl rfl ?_
    exact h8
  refine rf_cut (W := vS) v4 ?_ (fun h10 => ?_)
  · unfold v4
    refine rf_step (State.setNum_rf _ _ _ _) rfl rfl ?_
    exact h9
  refine rf_cut (W := vS) v5 ?_ (fun h11 => ?_)
  · unfold v5
    refine rf_step (State.bump_rf _ _ _) rfl rfl ?_
    exact h10
  refine rf_cut (W := vS) v6 ?_ (fun h12 => ?_)
  · unfold v6
    refine rf_ite (fun _h13 => ?_) (fun _h14 => ?_)
    · refine rf_ite (fun _h15 => ?_) (fun _h16 => ?_)
      · exact h11
      · refine rf_step (State.raise_rf _ _ _ _ _) rfl rfl ?_
        exact h11
    · refine rf_step (State.clear_rf _ _ _ _) rfl rfl ?_
      exact h11
  refine rf_cut (W := vS) v7 ?_ (fun h17 => ?_)
  · unfold v7
    refine rf_ite (fun _h18 => ?_) (fun _h19 => ?_)
    · refine rf_ite (fun _h20 => ?_) (fun _h21 => ?_)
      · exact h12
      · refine rf_step (State.raise_rf _ _ _ _ _) rfl rfl ?_
        exact h12
    · refine rf_step (State.clear_rf _ _ _ _) rfl rfl ?_
      exact h12
  refine rf_ite (fun _h22 => ?_) (fun _h23 => ?_)
  · refine rf_step (State.raise_rf _ _ _ _ _) rfl rfl ?_
    exact h17
  · exact h17

theorem State.setCause_rf (s x1 x2) :
    RF vS [.freeCtr, .mode, .octets, .pot, .alarms] [0x200004, 0x200005, 0x200006, 0x200007, 0xB20006, 0xB20007, 0xB2000F] s (State.setCause s x1 x2) := by
  unfold State.setCause
  extract_lets v0 v1 v2
  refine rf_cut (W := vS) v0 ?_ (fun h3 => ?_)
  · unfold v0
    refine rf_step (State.setNum_rf _ _ _ _) rfl rfl ?_
    exact rf_refl
  refine rf_cut (W := vS) v1 ?_ (fun h4 => ?_)
  · unfold v1
    refine rf_step (State.enterMode_rf _ _ _) rfl rfl ?_
    exact h3
  refine rf_ite (fun _h5 => ?_) (fun _h6 => ?_)
  · clear_value v1
    refine rf_upd (b := v1) ?_ ⟨fun f hf hv => by cases f <;> first | exact absurd (by decide) hf | exact absurd rfl hv | rfl | exact ⟨rfl, rfl⟩ | exact ⟨rfl, rfl, rfl, rfl, rfl⟩, Or.inr fun _ _ => rfl⟩ (Keeps.of rfl (Nat.le_refl _) rfl)
    exact h4
  · exact h3

end Sys2Proof.Machine
end

