-- ==== Sys2Proof/Laws/FramesCoordinator.lean ====
section
/-!
SUPPORT. What each operation of Machine/Coordinator.lean may change, one lemma each.
-/

namespace Sys2Proof.Machine

set_option Elab.async false

open Sys2Proof

theorem State.setRegion_rf (s x1 x2) :
    RF vS [.sec] [] s (State.setRegion s x1 x2) := by
  unfold State.setRegion
  extract_lets v0
  refine rf_upd (b := s) ?_ ⟨fun f hf hv => by cases f <;> first | exact absurd (by decide) hf | exact absurd rfl hv | rfl | exact ⟨rfl, rfl⟩ | exact ⟨rfl, rfl, rfl, rfl, rfl⟩, Or.inr fun _ _ => rfl⟩ (Keeps.of rfl (Nat.le_refl _) rfl)
  exact rf_refl

theorem State.setBank_rf (s x1 x2) :
    RF vS [.fab] [] s (State.setBank s x1 x2) := by
  unfold State.setBank
  extract_lets v0
  refine rf_upd (b := s) ?_ ⟨fun f hf hv => by cases f <;> first | exact absurd (by decide) hf | exact absurd rfl hv | rfl | exact ⟨rfl, rfl⟩ | exact ⟨rfl, rfl, rfl, rfl, rfl⟩, Or.inr fun _ _ => rfl⟩ (Keeps.of rfl (Nat.le_refl _) rfl)
  exact rf_refl

theorem State.startRekey_rf (s x1) :
    RF vS [.freeCtr, .sec] [] s (State.startRekey s x1) := by
  unfold State.startRekey
  extract_lets v0
  refine rf_ite (fun _h1 => ?_) (fun _h2 => ?_)
  · split
    rename_i w3 w4 w5 w6
    refine rf_pair_snd w6 ?_ (fun h7 => ?_)
    · refine rf_step (State.draw_rf _) rfl rfl ?_
      exact rf_refl
    extract_lets v8
    refine rf_step (State.setRegion_rf _ _ _) rfl rfl ?_
    exact h7
  · exact rf_refl

theorem State.onGrant_rf (s x1) :
    RF vS [.freeCtr, .mode, .octets, .fab, .pot, .sec, .res, .alarms] [0x200004, 0x200005, 0x200006, 0xB20006, 0xB20007, 0xB2000F] s (State.onGrant s x1) := by
  unfold State.onGrant
  extract_lets v0 v1
  refine rf_cut (W := vS) v1 ?_ (fun h2 => ?_)
  · unfold v1
    refine rf_upd (b := s) ?_ ⟨fun f hf hv => by cases f <;> first | exact absurd (by decide) hf | exact absurd rfl hv | rfl | exact ⟨rfl, rfl⟩ | exact ⟨rfl, rfl, rfl, rfl, rfl⟩, Or.inr fun _ _ => rfl⟩ (Keeps.of rfl (Nat.le_refl _) rfl)
    exact rf_refl
  split
  · rename_i w3 w4
    refine rf_step (State.startRekey_rf _ _) rfl rfl ?_
    exact rf_refl
  · rename_i w5 w6
    refine rf_ite (fun _h7 => ?_) (fun _h8 => ?_)
    · refine rf_step (State.enterMode_rf _ _ _) rfl rfl ?_
      exact h2
    · exact h2
  · rename_i w9 w10
    split
    · rename_i w11 w12 w13
      refine rf_upd (b := s) ?_ ⟨fun f hf hv => by cases f <;> first | exact absurd (by decide) hf | exact absurd rfl hv | rfl | exact ⟨rfl, rfl⟩ | exact ⟨rfl, rfl, rfl, rfl, rfl⟩, Or.inr fun _ _ => rfl⟩ (Keeps.of rfl (Nat.le_refl _) rfl)
      exact rf_refl
    · rename_i w14 w15
      exact rf_refl
  · rename_i w16 w17
    split
    · rename_i w18 w19 w20
      extract_lets v21 v22 v23 v24
      refine rf_cut (W := vS) v22 ?_ (fun h25 => ?_)
      · unfold v22
        refine rf_step (State.setBank_rf _ _ _) rfl rfl ?_
        exact rf_refl
      clear_value v22
      refine rf_upd (b := v22) ?_ ⟨fun f hf hv => by cases f <;> first | exact absurd (by decide) hf | exact absurd rfl hv | rfl | exact ⟨rfl, rfl⟩ | exact ⟨rfl, rfl, rfl, rfl, rfl⟩, Or.inr fun _ _ => rfl⟩ (Keeps.of rfl (Nat.le_refl _) rfl)
      exact h25
    · rename_i w26 w27
      exact rf_refl
  · rename_i w28 w29 w30 w31 w32
    exact rf_refl

theorem State.grantOne_rf (s x1) :
    RF vS [.freeCtr, .mode, .octets, .fab, .pot, .sec, .res, .alarms] [0x200004, 0x200005, 0x200006, 0xB10004, 0xB20006, 0xB20007, 0xB2000F] s (State.grantOne s x1) := by
  unfold State.grantOne
  extract_lets v0 v1
  refine rf_cut (W := vS) v1 ?_ (fun h2 => ?_)
  · unfold v1
    refine rf_upd (b := s) ?_ ⟨fun f hf hv => by cases f <;> first | exact absurd (by decide) hf | exact absurd rfl hv | rfl | exact ⟨rfl, rfl⟩ | exact ⟨rfl, rfl, rfl, rfl, rfl⟩, Or.inr fun _ _ => rfl⟩ (Keeps.of rfl (Nat.le_refl _) rfl)
    exact rf_refl
  refine rf_ite (fun _h3 => ?_) (fun _h4 => ?_)
  · refine rf_step (State.onGrant_rf _ _) rfl rfl ?_
    refine rf_step (State.bump_rf _ _ _) rfl rfl ?_
    exact h2
  · exact rf_refl

theorem State.evaluate_rf (s) :
    RF vS [.freeCtr, .mode, .octets, .fab, .pot, .sec, .res, .alarms] [0x200004, 0x200005, 0x200006, 0xB10004, 0xB20006, 0xB20007, 0xB2000F] s (State.evaluate s) := by
  unfold State.evaluate
  refine rf_foldl ?_ (fun t0 x1 h2 => ?_)
  · exact rf_refl
  · refine rf_step (State.grantOne_rf _ _) rfl rfl ?_
    exact h2

theorem State.enqueueAct_rf (s x1) :
    RF vS [.res] [] s (State.enqueueAct s x1) := by
  unfold State.enqueueAct
  extract_lets v0
  refine rf_ite (fun _h1 => ?_) (fun _h2 => ?_)
  · exact rf_refl
  · refine rf_upd (b := s) ?_ ⟨fun f hf hv => by cases f <;> first | exact absurd (by decide) hf | exact absurd rfl hv | rfl | exact ⟨rfl, rfl⟩ | exact ⟨rfl, rfl, rfl, rfl, rfl⟩, Or.inr fun _ _ => rfl⟩ (Keeps.of rfl (Nat.le_refl _) rfl)
    exact rf_refl

theorem State.requestToken_rf (s x1 x2) :
    RF vS [.freeCtr, .mode, .octets, .fab, .pot, .sec, .res, .alarms] [0x200004, 0x200005, 0x200006, 0xB10004, 0xB20006, 0xB20007, 0xB2000F] s (State.requestToken s x1 x2) := by
  unfold State.requestToken
  refine rf_step (State.evaluate_rf _) rfl rfl ?_
  refine rf_step (State.enqueueAct_rf _ _) rfl rfl ?_
  exact rf_refl

theorem State.returnToken_rf (s x1 x2) :
    RF vS [.freeCtr, .mode, .octets, .time, .fab, .pot, .sec, .res, .alarms] [0x200004, 0x200005, 0x200006, 0xB10004, 0xB20006, 0xB20007, 0xB2000F] s (State.returnToken s x1 x2) := by
  unfold State.returnToken
  extract_lets v0 v1
  refine rf_step (State.evaluate_rf _) rfl rfl ?_
  refine rf_upd (b := s) ?_ ⟨fun f hf hv => by cases f <;> first | exact absurd (by decide) hf | exact absurd rfl hv | rfl | exact ⟨rfl, rfl⟩ | exact ⟨rfl, rfl, rfl, rfl, rfl⟩, Or.inr fun _ _ => rfl⟩ (Keeps.of rfl (Nat.le_refl _) rfl)
  exact rf_refl

end Sys2Proof.Machine
end

