-- ==== Sys2Proof/Laws/FramesHampers.lean ====
section
/-!
SUPPORT. What each operation of Machine/Hampers.lean may change, one lemma each.
-/

namespace Sys2Proof.Machine

set_option Elab.async false

open Sys2Proof

theorem State.setHamper_rf (s x1 x2) :
    RF vS [.fab] [] s (State.setHamper s x1 x2) := by
  unfold State.setHamper
  extract_lets v0
  refine rf_upd (b := s) ?_ ⟨fun f hf hv => by cases f <;> first | exact absurd (by decide) hf | exact absurd rfl hv | rfl | exact ⟨rfl, rfl⟩ | exact ⟨rfl, rfl, rfl, rfl, rfl⟩, Or.inr fun _ _ => rfl⟩ (Keeps.of rfl (Nat.le_refl _) rfl)
  exact rf_refl

theorem State.allocBuf_rf (s x1 x2 x3 x4) :
    RF vSnd [.freeCtr, .octets, .fab, .pot, .alarms] [0x620007, 0x620009, 0xB20006, 0xB20007, 0xB2000F] s (State.allocBuf s x1 x2 x3 x4) := by
  unfold State.allocBuf
  extract_lets v0
  split
  · rename_i w1 w2
    refine rf_snd ?_
    refine rf_step (State.trace_rf _ _) rfl rfl ?_
    refine rf_step (State.bump_rf _ _ _) rfl rfl ?_
    exact rf_refl
  · rename_i w3 w4 w5
    refine rf_ite (fun _h6 => ?_) (fun _h7 => ?_)
    · split
      · rename_i w8 w9
        refine rf_snd ?_
        refine rf_step (State.trace_rf _ _) rfl rfl ?_
        refine rf_step (State.bump_rf _ _ _) rfl rfl ?_
        exact rf_refl
      · rename_i w10 w11 w12 w13
        extract_lets v14 v15 v16
        refine rf_cut (W := vS) v15 ?_ (fun h17 => ?_)
        · unfold v15
          refine rf_step (State.setHamper_rf _ _ _) rfl rfl ?_
          exact rf_refl
        refine rf_cut (W := vS) v16 ?_ (fun h18 => ?_)
        · unfold v16
          refine rf_step (State.setNum_rf _ _ _ _) rfl rfl ?_
          exact h17
        refine rf_snd ?_
        refine rf_ite (fun _h19 => ?_) (fun _h20 => ?_)
        · refine rf_step (State.raise_rf _ _ _ _ _) rfl rfl ?_
          exact h18
        · exact h18
    · refine rf_snd ?_
      refine rf_step (State.trace_rf _ _) rfl rfl ?_
      refine rf_step (State.bump_rf _ _ _) rfl rfl ?_
      exact rf_refl

theorem State.giveWaiter_rf (s x1 x2) :
    RF vS [.freeCtr, .octets, .edge, .fab, .pot, .alarms] [0x620007, 0x620009, 0xB20006, 0xB20007, 0xB2000F] s (State.giveWaiter s x1 x2) := by
  unfold State.giveWaiter
  split
  · rename_i w0 w1
    exact rf_refl
  · rename_i w2 w3 w4
    split
    · rename_i w5 w6
      exact rf_refl
    · rename_i w7 w8 w9
      split
      · rename_i w10 w11 w12 w13
        refine rf_pair_snd w13 ?_ (fun h14 => ?_)
        · refine rf_step (State.allocBuf_rf _ _ _ _ _) rfl rfl ?_
          exact rf_refl
        extract_lets v15 v16 v17
        refine rf_upd (b := w12) ?_ ⟨fun f hf hv => by cases f <;> first | exact absurd (by decide) hf | exact absurd rfl hv | rfl | exact ⟨rfl, rfl⟩ | exact ⟨rfl, rfl, rfl, rfl, rfl⟩, Or.inr fun _ _ => rfl⟩ (Keeps.of rfl (Nat.le_refl _) rfl)
        exact h14
      · rename_i w18 w19 w20
        refine rf_pair_snd w20 ?_ (fun h21 => ?_)
        · refine rf_step (State.allocBuf_rf _ _ _ _ _) rfl rfl ?_
          exact rf_refl
        exact rf_refl

theorem State.offer_rf (s x1) :
    RF vS [.freeCtr, .octets, .edge, .fab, .pot, .alarms] [0x620007, 0x620009, 0xB20006, 0xB20007, 0xB2000F] s (State.offer s x1) := by
  unfold State.offer
  split
  · rename_i w0 w1
    exact rf_refl
  · rename_i w2 w3 w4 w5
    extract_lets v6
    refine rf_step (State.giveWaiter_rf _ _ _) rfl rfl ?_
    refine rf_upd (b := s) ?_ ⟨fun f hf hv => by cases f <;> first | exact absurd (by decide) hf | exact absurd rfl hv | rfl | exact ⟨rfl, rfl⟩ | exact ⟨rfl, rfl, rfl, rfl, rfl⟩, Or.inr fun _ _ => rfl⟩ (Keeps.of rfl (Nat.le_add_right _ _) rfl)
    exact rf_refl

theorem State.freeBuf_rf (s x1) :
    RF vS [.freeCtr, .octets, .edge, .front, .fab, .pot, .alarms] [0x620007, 0x620009, 0xB20006, 0xB20007, 0xB2000F] s (State.freeBuf s x1) := by
  unfold State.freeBuf
  split
  · rename_i w0 w1
    exact rf_refl
  · rename_i w2 w3 w4
    extract_lets v5 v6
    refine rf_cut (W := vS) v5 ?_ (fun h7 => ?_)
    · unfold v5
      refine rf_step (State.setHamper_rf _ _ _) rfl rfl ?_
      exact rf_refl
    refine rf_ite (fun _h8 => ?_) (fun _h9 => ?_)
    · refine rf_step (State.offer_rf _ _) rfl rfl ?_
      clear_value v5
      refine rf_upd (b := v5) ?_ ⟨fun f hf hv => by cases f <;> first | exact absurd (by decide) hf | exact absurd rfl hv | rfl | exact ⟨rfl, rfl⟩ | exact ⟨rfl, rfl, rfl, rfl, rfl⟩, Or.inr fun _ _ => rfl⟩ (Keeps.of rfl (Nat.le_refl _) rfl)
      exact h7
    · exact rf_refl

theorem State.freeBufs_rf (s x1) :
    RF vS [.freeCtr, .octets, .edge, .front, .fab, .pot, .alarms] [0x620007, 0x620009, 0xB20006, 0xB20007, 0xB2000F] s (State.freeBufs s x1) := by
  unfold State.freeBufs
  refine rf_foldl ?_ (fun t0 x1 h2 => ?_)
  · exact rf_refl
  · refine rf_step (State.freeBuf_rf _ _) rfl rfl ?_
    exact h2

theorem State.sealBuf_rf (s x1 x2) :
    RF vS [.fab] [] s (State.sealBuf s x1 x2) := by
  unfold State.sealBuf
  split
  · rename_i w0 w1
    exact rf_refl
  · rename_i w2 w3 w4
    refine rf_step (State.setHamper_rf _ _ _) rfl rfl ?_
    exact rf_refl

theorem State.chargeBuf_rf (s x1 x2) :
    RF vS [.fab] [] s (State.chargeBuf s x1 x2) := by
  unfold State.chargeBuf
  split
  · rename_i w0 w1
    exact rf_refl
  · rename_i w2 w3 w4
    refine rf_step (State.setHamper_rf _ _ _) rfl rfl ?_
    exact rf_refl

theorem State.freeAttempt_rf (s x1 x2) :
    RF vS [.freeCtr, .octets, .edge, .front, .fab, .pot, .alarms] [0x620007, 0x620009, 0xB20006, 0xB20007, 0xB2000F] s (State.freeAttempt s x1 x2) := by
  unfold State.freeAttempt
  refine rf_step (State.freeBufs_rf _ _) rfl rfl ?_
  exact rf_refl

end Sys2Proof.Machine
end

