-- ==== Sys2Proof/Laws/FramesGalleyOps.lean ====
section
/-!
SUPPORT. What each operation of Machine/GalleyOps.lean may change, one lemma each.
-/

namespace Sys2Proof.Machine

set_option Elab.async false

open Sys2Proof

theorem State.setDomain_rf (s x1 x2) :
    RF vS [.fab] [] s (State.setDomain s x1 x2) := by
  unfold State.setDomain
  extract_lets v0
  refine rf_upd (b := s) ?_ ⟨fun f hf hv => by cases f <;> first | exact absurd (by decide) hf | exact absurd rfl hv | rfl | exact ⟨rfl, rfl⟩ | exact ⟨rfl, rfl, rfl, rfl, rfl⟩, Or.inr fun _ _ => rfl⟩ (Keeps.of rfl (Nat.le_refl _) rfl)
  exact rf_refl

theorem State.setUnit_rf (s x1 x2 x3) :
    RF vS [.galley] [] s (State.setUnit s x1 x2 x3) := by
  unfold State.setUnit
  extract_lets v0
  refine rf_upd (b := s) ?_ ⟨fun f hf hv => by cases f <;> first | exact absurd (by decide) hf | exact absurd rfl hv | rfl | exact ⟨rfl, rfl⟩ | exact ⟨rfl, rfl, rfl, rfl, rfl⟩, Or.inr fun _ _ => rfl⟩ (Keeps.of rfl (Nat.le_refl _) rfl)
  exact rf_refl

theorem State.setSlug_rf (s x1 x2) :
    RF vS [.galley] [] s (State.setSlug s x1 x2) := by
  unfold State.setSlug
  extract_lets v0
  refine rf_upd (b := s) ?_ ⟨fun f hf hv => by cases f <;> first | exact absurd (by decide) hf | exact absurd rfl hv | rfl | exact ⟨rfl, rfl⟩ | exact ⟨rfl, rfl, rfl, rfl, rfl⟩, Or.inr fun _ _ => rfl⟩ (Keeps.of rfl (Nat.le_refl _) rfl)
  exact rf_refl

theorem State.setImp_rf (s x1 x2) :
    RF vS [.galley] [] s (State.setImp s x1 x2) := by
  unfold State.setImp
  extract_lets v0
  refine rf_upd (b := s) ?_ ⟨fun f hf hv => by cases f <;> first | exact absurd (by decide) hf | exact absurd rfl hv | rfl | exact ⟨rfl, rfl⟩ | exact ⟨rfl, rfl, rfl, rfl, rfl⟩, Or.inr fun _ _ => rfl⟩ (Keeps.of rfl (Nat.le_refl _) rfl)
  exact rf_refl

theorem State.makeReady_rf (s x1 x2) :
    RF vS [.galley] [] s (State.makeReady s x1 x2) := by
  unfold State.makeReady
  extract_lets v0 v1 v2
  refine rf_upd (b := s) ?_ ⟨fun f hf hv => by cases f <;> first | exact absurd (by decide) hf | exact absurd rfl hv | rfl | exact ⟨rfl, rfl⟩ | exact ⟨rfl, rfl, rfl, rfl, rfl⟩, Or.inr fun _ _ => rfl⟩ (Keeps.of rfl (Nat.le_refl _) rfl)
  exact rf_refl

theorem State.stallEval_rf (s x1) :
    RF vS [.galley] [] s (State.stallEval s x1) := by
  unfold State.stallEval
  extract_lets v0 v1 v2
  refine rf_upd (b := s) ?_ ⟨fun f hf hv => by cases f <;> first | exact absurd (by decide) hf | exact absurd rfl hv | rfl | exact ⟨rfl, rfl⟩ | exact ⟨rfl, rfl, rfl, rfl, rfl⟩, Or.inr fun _ _ => rfl⟩ (Keeps.of rfl (Nat.le_refl _) rfl)
  exact rf_refl

theorem State.decrement_rf (s x1 x2 x3) :
    RF vS [.galley] [0x60001D] s (State.decrement s x1 x2 x3) := by
  unfold State.decrement
  split
  · rename_i w0 w1 w2
    extract_lets v3
    refine rf_ite (fun _h4 => ?_) (fun _h5 => ?_)
    · refine rf_ite (fun _h6 => ?_) (fun _h7 => ?_)
      · refine rf_step (State.makeReady_rf _ _ _) rfl rfl ?_
        exact rf_refl
      · refine rf_step (State.setSlug_rf _ _ _) rfl rfl ?_
        exact rf_refl
    · refine rf_ite (fun _h8 => ?_) (fun _h9 => ?_)
      · refine rf_step (State.bump_rf _ _ _) rfl rfl ?_
        exact rf_refl
      · exact rf_refl
  · rename_i w10 w11
    refine rf_ite (fun _h12 => ?_) (fun _h13 => ?_)
    · refine rf_step (State.bump_rf _ _ _) rfl rfl ?_
      exact rf_refl
    · exact rf_refl

theorem State.decrementSuccs_rf (s x1 x2) :
    RF vS [.galley] [0x60001D] s (State.decrementSuccs s x1 x2) := by
  unfold State.decrementSuccs
  refine rf_foldl ?_ (fun t0 x1 h2 => ?_)
  · exact rf_refl
  · refine rf_step (State.decrement_rf _ _ _ _) rfl rfl ?_
    exact h2

theorem State.countResult_rf (s x1) :
    RF vS [] [0x600008, 0x600009, 0x60000A] s (State.countResult s x1) := by
  unfold State.countResult
  split
  · rename_i w0
    refine rf_step (State.bump_rf _ _ _) rfl rfl ?_
    exact rf_refl
  · rename_i w1
    refine rf_step (State.bump_rf _ _ _) rfl rfl ?_
    exact rf_refl
  · rename_i w2
    refine rf_step (State.bump_rf _ _ _) rfl rfl ?_
    exact rf_refl
  · rename_i w3 w4 w5 w6
    exact rf_refl

theorem State.endSlug_rf (s x1 x2 x3) :
    RF vS [.galley] [0x600008, 0x600009, 0x60000A] s (State.endSlug s x1 x2 x3) := by
  unfold State.endSlug
  refine rf_step (State.countResult_rf _ _) rfl rfl ?_
  refine rf_step (State.setSlug_rf _ _ _) rfl rfl ?_
  exact rf_refl

theorem State.freeFenced_rf (s) :
    RF vS [.freeCtr, .octets, .galley, .edge, .front, .fab, .pot, .alarms] [0x620007, 0x620009, 0xB20006, 0xB20007, 0xB2000F] s (State.freeFenced s) := by
  unfold State.freeFenced
  extract_lets v0 v1 v2
  refine rf_cut (W := vS) v2 ?_ (fun h3 => ?_)
  · unfold v2
    refine rf_upd (b := s) ?_ ⟨fun f hf hv => by cases f <;> first | exact absurd (by decide) hf | exact absurd rfl hv | rfl | exact ⟨rfl, rfl⟩ | exact ⟨rfl, rfl, rfl, rfl, rfl⟩, Or.inr fun _ _ => rfl⟩ (Keeps.of rfl (Nat.le_refl _) rfl)
    exact rf_refl
  refine rf_step (State.freeBufs_rf _ _) rfl rfl ?_
  exact h3

theorem State.closeImp_rf (s x1 x2) :
    RF vS [.freeCtr, .octets, .galley, .edge, .front, .fab, .pot, .alarms] [0x620007, 0x620009, 0xB20006, 0xB20007, 0xB2000F] s (State.closeImp s x1 x2) := by
  unfold State.closeImp
  extract_lets v0 v1 v2 v3
  refine rf_cut (W := vS) v3 ?_ (fun h4 => ?_)
  · unfold v3
    refine rf_upd (b := s) ?_ ⟨fun f hf hv => by cases f <;> first | exact absurd (by decide) hf | exact absurd rfl hv | rfl | exact ⟨rfl, rfl⟩ | exact ⟨rfl, rfl, rfl, rfl, rfl⟩, Or.inr fun _ _ => rfl⟩ (Keeps.of rfl (Nat.le_refl _) rfl)
    exact rf_refl
  refine rf_step (State.stallEval_rf _ _) rfl rfl ?_
  refine rf_step (State.freeFenced_rf _) rfl rfl ?_
  refine rf_step (State.freeBufs_rf _ _) rfl rfl ?_
  exact h4

theorem State.settle_rf (s x1) :
    RF vS [.freeCtr, .octets, .galley, .edge, .front, .fab, .pot, .alarms] [0x620007, 0x620009, 0xB20006, 0xB20007, 0xB2000F] s (State.settle s x1) := by
  unfold State.settle
  split
  · rename_i w0 w1 w2
    refine rf_ite (fun _h3 => ?_) (fun _h4 => ?_)
    · refine rf_step (State.closeImp_rf _ _ _) rfl rfl ?_
      exact rf_refl
    · refine rf_step (State.stallEval_rf _ _) rfl rfl ?_
      exact rf_refl
  · rename_i w5 w6
    exact rf_refl

theorem State.endTainted_rf (s x1 x2 x3) :
    RF vS [.freeCtr, .octets, .galley, .edge, .front, .fab, .pot, .alarms] [0x600008, 0x600009, 0x60000A, 0x60001D, 0x620007, 0x620009, 0xB20006, 0xB20007, 0xB2000F] s (State.endTainted s x1 x2 x3) := by
  unfold State.endTainted
  refine rf_step (State.settle_rf _ _) rfl rfl ?_
  refine rf_step (State.decrementSuccs_rf _ _ _) rfl rfl ?_
  refine rf_step (State.freeAttempt_rf _ _ _) rfl rfl ?_
  refine rf_step (State.endSlug_rf _ _ _ _) rfl rfl ?_
  exact rf_refl

theorem State.endAborted_rf (s x1 x2) :
    RF vS [.freeCtr, .octets, .galley, .edge, .front, .fab, .pot, .alarms] [0x600008, 0x600009, 0x60000A, 0x620007, 0x620009, 0xB20006, 0xB20007, 0xB2000F] s (State.endAborted s x1 x2) := by
  unfold State.endAborted
  refine rf_step (State.settle_rf _ _) rfl rfl ?_
  refine rf_step (State.freeAttempt_rf _ _ _) rfl rfl ?_
  refine rf_step (State.endSlug_rf _ _ _ _) rfl rfl ?_
  exact rf_refl

theorem State.abortSlug_rf (s x1) :
    RF vS [.galley] [0x600008, 0x600009, 0x60000A] s (State.abortSlug s x1) := by
  unfold State.abortSlug
  split
  · rename_i w0 w1 w2
    split
    · rename_i w3 w4
      refine rf_step (State.endSlug_rf _ _ _ _) rfl rfl ?_
      exact rf_refl
    · rename_i w5 w6
      refine rf_step (State.endSlug_rf _ _ _ _) rfl rfl ?_
      exact rf_refl
    · rename_i w7 w8
      refine rf_step (State.endSlug_rf _ _ _ _) rfl rfl ?_
      exact rf_refl
    · rename_i w9 w10
      refine rf_ite (fun _h11 => ?_) (fun _h12 => ?_)
      · refine rf_step (State.endSlug_rf _ _ _ _) rfl rfl ?_
        exact rf_refl
      · refine rf_step (State.setSlug_rf _ _ _) rfl rfl ?_
        exact rf_refl
    · rename_i w13 w14
      exact rf_refl
  · rename_i w15 w16
    exact rf_refl

theorem State.abortImp_rf (s x1 x2) :
    RF vS [.freeCtr, .octets, .galley, .edge, .front, .fab, .pot, .alarms] [0x600008, 0x600009, 0x60000A, 0x60000B, 0x620007, 0x620009, 0xB20006, 0xB20007, 0xB2000F] s (State.abortImp s x1 x2) := by
  unfold State.abortImp
  split
  · rename_i w0 w1
    exact rf_refl
  · rename_i w2 w3 w4
    extract_lets v5 v6 v7
    refine rf_cut (W := vS) v5 ?_ (fun h8 => ?_)
    · unfold v5
      refine rf_foldl ?_ (fun t9 x10 h11 => ?_)
      · exact rf_refl
      · refine rf_step (State.abortSlug_rf _ _) rfl rfl ?_
        exact h11
    refine rf_cut (W := vS) v6 ?_ (fun h12 => ?_)
    · unfold v6
      refine rf_step (State.setImp_rf _ _ _) rfl rfl ?_
      exact h8
    refine rf_cut (W := vS) v7 ?_ (fun h13 => ?_)
    · unfold v7
      refine rf_ite (fun _h14 => ?_) (fun _h15 => ?_)
      · refine rf_step (State.raise_rf _ _ _ _ _) rfl rfl ?_
        refine rf_step (State.bump_rf _ _ _) rfl rfl ?_
        exact h12
      · exact h12
    refine rf_step (State.settle_rf _ _) rfl rfl ?_
    exact h13

theorem State.abortAll_rf (s) :
    RF vS [.freeCtr, .octets, .galley, .edge, .front, .fab, .pot, .alarms] [0x600008, 0x600009, 0x60000A, 0x60000B, 0x620007, 0x620009, 0xB20006, 0xB20007, 0xB2000F] s (State.abortAll s) := by
  unfold State.abortAll
  refine rf_foldl ?_ (fun t0 x1 h2 => ?_)
  · exact rf_refl
  · refine rf_step (State.abortImp_rf _ _ _) rfl rfl ?_
    exact h2

theorem State.bindAll_rf (s x1 x2) :
    RF vS [.freeCtr, .octets, .galley, .edge, .front, .fab, .pot, .alarms] [0x620007, 0x620009, 0x630005, 0xB20006, 0xB20007, 0xB2000F] s (State.bindAll s x1 x2) := by
  unfold State.bindAll
  refine rf_foldl ?_ (fun t0 x1 h2 => ?_)
  · exact rf_refl
  · split
    · rename_i w3 w4 w5
      refine rf_ite (fun _h6 => ?_) (fun _h7 => ?_)
      · refine rf_step (State.chargeBuf_rf _ _ _) rfl rfl ?_
        refine rf_step (State.sealBuf_rf _ _ _) rfl rfl ?_
        refine rf_step (State.setImp_rf _ _ _) rfl rfl ?_
        exact h2
      · refine rf_step (State.bump_rf _ _ _) rfl rfl ?_
        refine rf_ite (fun _h8 => ?_) (fun _h9 => ?_)
        · exact h2
        · refine rf_step (State.freeBuf_rf _ _) rfl rfl ?_
          exact h2
    · rename_i w10 w11
      exact h2

theorem State.fireCounter_rf (s x1 x2) :
    RF vS [.freeCtr, .octets, .galley, .edge, .front, .fab, .pot, .alarms] [0x60001D, 0x620007, 0x620009, 0x630003, 0x630005, 0xB20006, 0xB20007, 0xB2000F] s (State.fireCounter s x1 x2) := by
  unfold State.fireCounter
  extract_lets v0
  split
  · rename_i w1 w2
    exact rf_refl
  · rename_i w3 w4 w5
    extract_lets v6 v7 v8 v9 v10
    refine rf_cut (W := vS) v6 ?_ (fun h11 => ?_)
    · unfold v6
      refine rf_upd (b := s) ?_ ⟨fun f hf hv => by cases f <;> first | exact absurd (by decide) hf | exact absurd rfl hv | rfl | exact ⟨rfl, rfl⟩ | exact ⟨rfl, rfl, rfl, rfl, rfl⟩, Or.inr fun _ _ => rfl⟩ (Keeps.of rfl (Nat.le_refl _) rfl)
      exact rf_refl
    refine rf_cut (W := vS) v7 ?_ (fun h12 => ?_)
    · unfold v7
      refine rf_ite (fun _h13 => ?_) (fun _h14 => ?_)
      · refine rf_step (State.bump_rf _ _ _) rfl rfl ?_
        exact h11
      · exact h11
    refine rf_cut (W := vS) v9 ?_ (fun h15 => ?_)
    · unfold v9
      refine rf_step (State.bindAll_rf _ _ _) rfl rfl ?_
      exact h12
    refine rf_cut (W := vS) v10 ?_ (fun h16 => ?_)
    · unfold v10
      refine rf_foldl ?_ (fun t17 x18 h19 => ?_)
      · exact h15
      · refine rf_step (State.decrement_rf _ _ _ _) rfl rfl ?_
        exact h19
    refine rf_step (State.stallEval_rf _ _) rfl rfl ?_
    refine rf_step (State.trace_rf _ _) rfl rfl ?_
    exact h16

theorem State.countEvent_rf (s x1 x2 x3 x4) :
    RF vS [.freeCtr, .octets, .galley, .edge, .front, .fab, .pot, .alarms] [0x60001D, 0x620007, 0x620009, 0x630003, 0x630005, 0xB20006, 0xB20007, 0xB2000F] s (State.countEvent s x1 x2 x3 x4) := by
  unfold State.countEvent
  extract_lets v0
  split
  · rename_i w1 w2
    exact rf_refl
  · rename_i w3 w4 w5
    extract_lets v6 v7 v8
    refine rf_cut (W := vS) v7 ?_ (fun h9 => ?_)
    · unfold v7
      refine rf_upd (b := s) ?_ ⟨fun f hf hv => by cases f <;> first | exact absurd (by decide) hf | exact absurd rfl hv | rfl | exact ⟨rfl, rfl⟩ | exact ⟨rfl, rfl, rfl, rfl, rfl⟩, Or.inr fun _ _ => rfl⟩ (Keeps.of rfl (Nat.le_refl _) rfl)
      exact rf_refl
    refine rf_ite (fun _h10 => ?_) (fun _h11 => ?_)
    · refine rf_step (State.fireCounter_rf _ _ _) rfl rfl ?_
      exact h9
    · exact h9

theorem State.event_rf (s x1 x2 x3 x4 x5 x6) :
    RF vS [.freeCtr, .octets, .galley, .edge, .front, .fab, .pot, .alarms] [0x60001D, 0x620007, 0x620009, 0x630003, 0x630004, 0x630005, 0xB20006, 0xB20007, 0xB2000F] s (State.event s x1 x2 x3 x4 x5 x6) := by
  unfold State.event
  split
  · rename_i w0 w1
    refine rf_step (State.raiseAtMost_rf _ _ _ _ _) rfl rfl ?_
    refine rf_step (State.bump_rf _ _ _) rfl rfl ?_
    refine rf_step (State.freeBufs_rf _ _) rfl rfl ?_
    exact rf_refl
  · rename_i w2 w3
    refine rf_foldl ?_ (fun t4 x5 h6 => ?_)
    · exact rf_refl
    · refine rf_step (State.countEvent_rf _ _ _ _ _) rfl rfl ?_
      exact h6

theorem State.firmwareEvent_rf (s x1) :
    RF vS [.freeCtr, .octets, .galley, .edge, .front, .fab, .pot, .alarms] [0x60001D, 0x620007, 0x620009, 0x630003, 0x630004, 0x630005, 0xB20006, 0xB20007, 0xB2000F] s (State.firmwareEvent s x1) := by
  unfold State.firmwareEvent
  split
  · rename_i w0 w1
    refine rf_step (State.raiseAtMost_rf _ _ _ _ _) rfl rfl ?_
    refine rf_step (State.bump_rf _ _ _) rfl rfl ?_
    exact rf_refl
  · rename_i w2 w3
    refine rf_foldl ?_ (fun t4 x5 h6 => ?_)
    · exact rf_refl
    · refine rf_step (State.countEvent_rf _ _ _ _ _) rfl rfl ?_
      exact h6

theorem State.logFault_rf (s x1 x2 x3) :
    RF vS [.res] [] s (State.logFault s x1 x2 x3) := by
  unfold State.logFault
  extract_lets v0 v1
  refine rf_upd (b := s) ?_ ⟨fun f hf hv => by cases f <;> first | exact absurd (by decide) hf | exact absurd rfl hv | rfl | exact ⟨rfl, rfl⟩ | exact ⟨rfl, rfl, rfl, rfl, rfl⟩, Or.inr fun _ _ => rfl⟩ (Keeps.of rfl (Nat.le_refl _) rfl)
  exact rf_refl

theorem State.noteFault_rf (s x1 x2 x3) :
    RF vS [.res] [0xE00006] s (State.noteFault s x1 x2 x3) := by
  unfold State.noteFault
  extract_lets v0
  refine rf_ite (fun _h1 => ?_) (fun _h2 => ?_)
  · refine rf_step (State.logFault_rf _ _ _ _) rfl rfl ?_
    exact rf_refl
  · refine rf_ite (fun _h3 => ?_) (fun _h4 => ?_)
    · refine rf_upd (b := s) ?_ ⟨fun f hf hv => by cases f <;> first | exact absurd (by decide) hf | exact absurd rfl hv | rfl | exact ⟨rfl, rfl⟩ | exact ⟨rfl, rfl, rfl, rfl, rfl⟩, Or.inr fun _ _ => rfl⟩ (Keeps.of rfl (Nat.le_refl _) rfl)
      exact rf_refl
    · refine rf_step (State.bump_rf _ _ _) rfl rfl ?_
      exact rf_refl

theorem State.corrected_rf (s x1 x2 x3 x4 x5 x6 x7) :
    RF vS [.freeCtr, .values, .octets, .pot, .res, .alarms] [0xB20006, 0xB20007, 0xB2000F] s (State.corrected s x1 x2 x3 x4 x5 x6 x7) := by
  unfold State.corrected
  extract_lets v0 v1 v2
  refine rf_cut (W := vS) v2 ?_ (fun h3 => ?_)
  · unfold v2
    refine rf_step (State.bump_rfv _ _ _) rfl rfl ?_
    refine rf_upd (b := s) ?_ ⟨fun f hf hv => by cases f <;> first | exact absurd (by decide) hf | exact absurd rfl hv | rfl | exact ⟨rfl, rfl⟩ | exact ⟨rfl, rfl, rfl, rfl, rfl⟩, Or.inr fun _ _ => rfl⟩ (Keeps.of rfl (Nat.le_refl _) rfl)
    exact rf_refl
  refine rf_ite (fun _h4 => ?_) (fun _h5 => ?_)
  · refine rf_step (State.raise_rf _ _ _ _ _) rfl rfl ?_
    exact h3
  · exact h3

theorem State.retire_rf (s x1 x2 x3) :
    RF vS [.galley] [] s (State.retire s x1 x2 x3) := by
  unfold State.retire
  extract_lets v0
  refine rf_step (State.setUnit_rf _ _ _ _) rfl rfl ?_
  exact rf_refl

theorem State.emptyCache_rf (s x1 x2) :
    RF vS [.edge] [] s (State.emptyCache s x1 x2) := by
  unfold State.emptyCache
  extract_lets v0
  refine rf_ite (fun _h1 => ?_) (fun _h2 => ?_)
  · refine rf_upd (b := s) ?_ ⟨fun f hf hv => by cases f <;> first | exact absurd (by decide) hf | exact absurd rfl hv | rfl | exact ⟨rfl, rfl⟩ | exact ⟨rfl, rfl, rfl, rfl, rfl⟩, Or.inr fun _ _ => rfl⟩ (Keeps.of rfl (Nat.le_refl _) rfl)
    exact rf_refl
  · exact rf_refl

theorem State.adoptImage_rf (s x1 x2) :
    RF vS [.force, .vx] [0x700009] s (State.adoptImage s x1 x2) := by
  unfold State.adoptImage
  extract_lets v0 v1 v2 v3 v4
  refine rf_cut (W := vS) v1 ?_ (fun h5 => ?_)
  · unfold v1
    refine rf_step (State.take_rf _ _ _) rfl rfl ?_
    refine rf_step (State.setNum_rf _ _ _ _) rfl rfl ?_
    exact rf_refl
  refine rf_cut (W := vS) v2 ?_ (fun h6 => ?_)
  · unfold v2
    refine rf_step (State.setNum_rf _ _ _ _) rfl rfl ?_
    exact h5
  clear_value v2
  refine rf_upd (b := v2) ?_ ⟨fun f hf hv => by cases f <;> first | exact absurd (by decide) hf | exact absurd rfl hv | rfl | exact ⟨rfl, rfl⟩ | exact ⟨rfl, rfl, rfl, rfl, rfl⟩, Or.inr fun _ _ => rfl⟩ (Keeps.of rfl (Nat.le_refl _) rfl)
  exact h6

theorem State.promote_rf (s x1 x2) :
    RF vFst [.force, .galley, .vx, .edge] [0x700009] s (State.promote s x1 x2) := by
  unfold State.promote
  split
  · rename_i w0 w1 w2 w3
    extract_lets v4 v5
    refine rf_cut (W := vS) v5 ?_ (fun h6 => ?_)
    · unfold v5
      refine rf_step (State.setUnit_rf _ _ _ _) rfl rfl ?_
      exact rf_refl
    refine rf_fst ?_
    refine rf_step (State.emptyCache_rf _ _ _) rfl rfl ?_
    refine rf_ite (fun _h7 => ?_) (fun _h8 => ?_)
    · refine rf_step (State.adoptImage_rf _ _ _) rfl rfl ?_
      exact h6
    · exact h6
  · rename_i w9 w10
    refine rf_fst ?_
    exact rf_refl

theorem State.retireAndPromote_rf (s x1 x2 x3) :
    RF vS [.freeCtr, .mode, .octets, .force, .galley, .vx, .edge, .pot, .res, .alarms] [0x200004, 0x200005, 0x200006, 0x200007, 0x700009, 0xB20006, 0xB20007, 0xB2000F, 0xE00006] s (State.retireAndPromote s x1 x2 x3) := by
  unfold State.retireAndPromote
  extract_lets v0
  refine rf_cut (W := vS) v0 ?_ (fun h1 => ?_)
  · unfold v0
    refine rf_step (State.retire_rf _ _ _ _) rfl rfl ?_
    exact rf_refl
  split
  rename_i w2 w3 w4 w5
  refine rf_pair_fst w5 ?_ (fun h6 => ?_)
  · refine rf_ite (fun _h7 => ?_) (fun _h8 => ?_)
    · refine rf_step (State.promote_rf _ _ _) rfl rfl ?_
      exact h1
    · refine rf_fst ?_
      exact h1
  extract_lets v9 v10 v11 v12 v13
  refine rf_cut (W := vS) v10 ?_ (fun h14 => ?_)
  · unfold v10
    refine rf_step (State.noteFault_rf _ _ _ _) rfl rfl ?_
    exact h6
  refine rf_cut (W := vS) v11 ?_ (fun h15 => ?_)
  · unfold v11
    refine rf_ite (fun _h16 => ?_) (fun _h17 => ?_)
    · refine rf_step (State.setCause_rf _ _ _) rfl rfl ?_
      exact h14
    · exact h14
  refine rf_cut (W := vS) v13 ?_ (fun h18 => ?_)
  · unfold v13
    refine rf_ite (fun _h19 => ?_) (fun _h20 => ?_)
    · refine rf_step (State.raise_rf _ _ _ _ _) rfl rfl ?_
      clear_value v11
      refine rf_upd (b := v11) ?_ ⟨fun f hf hv => by cases f <;> first | exact absurd (by decide) hf | exact absurd rfl hv | rfl | exact ⟨rfl, rfl⟩ | exact ⟨rfl, rfl, rfl, rfl, rfl⟩, Or.inr fun _ _ => rfl⟩ (Keeps.of rfl (Nat.le_refl _) rfl)
      exact h15
    · exact h15
  refine rf_step (State.trace_rf _ _) rfl rfl ?_
  refine rf_step (State.setCause_rf _ _ _) rfl rfl ?_
  exact h18

theorem State.idleUnit_rf (s x1 x2) :
    RF vS [.galley, .fab, .res] [] s (State.idleUnit s x1 x2) := by
  unfold State.idleUnit
  extract_lets v0 v1 v2 v3 v4 v5
  refine rf_cut (W := vS) v1 ?_ (fun h6 => ?_)
  · unfold v1
    refine rf_step (State.setUnit_rf _ _ _ _) rfl rfl ?_
    exact rf_refl
  refine rf_cut (W := vS) v3 ?_ (fun h7 => ?_)
  · unfold v3
    clear_value v1
    refine rf_upd (b := v1) ?_ ⟨fun f hf hv => by cases f <;> first | exact absurd (by decide) hf | exact absurd rfl hv | rfl | exact ⟨rfl, rfl⟩ | exact ⟨rfl, rfl, rfl, rfl, rfl⟩, Or.inr fun _ _ => rfl⟩ (Keeps.of rfl (Nat.le_refl _) rfl)
    exact h6
  refine rf_cut (W := vS) v5 ?_ (fun h8 => ?_)
  · unfold v5
    refine rf_ite (fun _h9 => ?_) (fun _h10 => ?_)
    · clear_value v3
      refine rf_upd (b := v3) ?_ ⟨fun f hf hv => by cases f <;> first | exact absurd (by decide) hf | exact absurd rfl hv | rfl | exact ⟨rfl, rfl⟩ | exact ⟨rfl, rfl, rfl, rfl, rfl⟩, Or.inr fun _ _ => rfl⟩ (Keeps.of rfl (Nat.le_refl _) rfl)
      exact h7
    · exact h7
  refine rf_ite (fun _h11 => ?_) (fun _h12 => ?_)
  · exact rf_refl
  · split
    · rename_i w13 w14 w15 w16 w17
      extract_lets v18
      refine rf_step (State.setDomain_rf _ _ _) rfl rfl ?_
      exact h8
    · rename_i w19 w20 w21
      exact h8

theorem State.faultSlug_rf (s x1 x2 x3 x4 x5) :
    RF vS [.freeCtr, .octets, .galley, .edge, .front, .fab, .pot, .alarms] [0x600008, 0x600009, 0x60000A, 0x60000C, 0x60000D, 0x60001D, 0x620007, 0x620009, 0xB20006, 0xB20007, 0xB2000F] s (State.faultSlug s x1 x2 x3 x4 x5) := by
  unfold State.faultSlug
  extract_lets v0 v1 v2
  refine rf_cut (W := vS) v1 ?_ (fun h3 => ?_)
  · unfold v1
    refine rf_upd (b := s) ?_ ⟨fun f hf hv => by cases f <;> first | exact absurd (by decide) hf | exact absurd rfl hv | rfl | exact ⟨rfl, rfl⟩ | exact ⟨rfl, rfl, rfl, rfl, rfl⟩, Or.inr fun _ _ => rfl⟩ (Keeps.of rfl (Nat.le_refl _) rfl)
    exact rf_refl
  refine rf_cut (W := vS) v2 ?_ (fun h4 => ?_)
  · unfold v2
    refine rf_step (State.makeReady_rf _ _ _) rfl rfl ?_
    exact h3
  refine rf_ite (fun _h5 => ?_) (fun _h6 => ?_)
  · refine rf_step (State.endAborted_rf _ _ _) rfl rfl ?_
    exact rf_refl
  · refine rf_ite (fun _h7 => ?_) (fun _h8 => ?_)
    · refine rf_step (State.stallEval_rf _ _) rfl rfl ?_
      refine rf_step (State.trace_rf _ _) rfl rfl ?_
      refine rf_step (State.raise_rf _ _ _ _ _) rfl rfl ?_
      refine rf_step (State.bump_rf _ _ _) rfl rfl ?_
      exact h4
    · refine rf_step (State.raise_rf _ _ _ _ _) rfl rfl ?_
      refine rf_step (State.bump_rf _ _ _) rfl rfl ?_
      refine rf_step (State.endTainted_rf _ _ _ _) rfl rfl ?_
      exact rf_refl

theorem State.unitFault_rf (s x1 x2 x3 x4 x5) :
    RF vS [.freeCtr, .mode, .octets, .force, .galley, .vx, .edge, .front, .fab, .pot, .res, .alarms] [0x200004, 0x200005, 0x200006, 0x200007, 0x600008, 0x600009, 0x60000A, 0x60000C, 0x60000D, 0x60000E, 0x60001D, 0x620007, 0x620009, 0x700009, 0xB20006, 0xB20007, 0xB2000F, 0xE00006] s (State.unitFault s x1 x2 x3 x4 x5) := by
  unfold State.unitFault
  extract_lets v0
  refine rf_cut (W := vS) v0 ?_ (fun h1 => ?_)
  · unfold v0
    refine rf_ite (fun _h2 => ?_) (fun _h3 => ?_)
    · exact rf_refl
    · refine rf_step (State.retireAndPromote_rf _ _ _ _) rfl rfl ?_
      exact rf_refl
  split
  · rename_i w4
    exact h1
  · rename_i w5 w6 w7
    split
    · rename_i w8 w9 w10
      refine rf_ite (fun _h11 => ?_) (fun _h12 => ?_)
      · refine rf_step (State.faultSlug_rf _ _ _ _ _ _) rfl rfl ?_
        exact h1
      · refine rf_step (State.raise_rf _ _ _ _ _) rfl rfl ?_
        refine rf_step (State.bump_rf _ _ _) rfl rfl ?_
        exact h1
    · rename_i w13 w14
      refine rf_step (State.raise_rf _ _ _ _ _) rfl rfl ?_
      refine rf_step (State.bump_rf _ _ _) rfl rfl ?_
      exact h1

theorem State.slugFault_rf (s x1 x2) :
    RF vS [.freeCtr, .octets, .galley, .edge, .front, .fab, .pot, .res, .alarms] [0x600008, 0x600009, 0x60000A, 0x60000E, 0x60001D, 0x620007, 0x620009, 0xB20006, 0xB20007, 0xB2000F] s (State.slugFault s x1 x2) := by
  unfold State.slugFault
  split
  · rename_i w0 w1 w2
    extract_lets v3
    refine rf_cut (W := vS) v3 ?_ (fun h4 => ?_)
    · unfold v3
      refine rf_step (State.idleUnit_rf _ _ _) rfl rfl ?_
      exact rf_refl
    refine rf_ite (fun _h5 => ?_) (fun _h6 => ?_)
    · refine rf_ite (fun _h7 => ?_) (fun _h8 => ?_)
      · refine rf_step (State.endAborted_rf _ _ _) rfl rfl ?_
        exact h4
      · refine rf_step (State.endTainted_rf _ _ _ _) rfl rfl ?_
        exact h4
    · refine rf_step (State.raise_rf _ _ _ _ _) rfl rfl ?_
      refine rf_step (State.bump_rf _ _ _) rfl rfl ?_
      exact rf_refl
  · rename_i w9 w10
    refine rf_step (State.raise_rf _ _ _ _ _) rfl rfl ?_
    refine rf_step (State.bump_rf _ _ _) rfl rfl ?_
    exact rf_refl

theorem State.expireSlug_rf (s x1 x2) :
    RF vS [.freeCtr, .octets, .galley, .edge, .front, .fab, .pot, .alarms] [0x600008, 0x600009, 0x60000A, 0x60001D, 0x620007, 0x620009, 0xB20006, 0xB20007, 0xB2000F] s (State.expireSlug s x1 x2) := by
  unfold State.expireSlug
  refine rf_step (State.trace_rf _ _) rfl rfl ?_
  refine rf_step (State.raiseAtMost_rf _ _ _ _ _) rfl rfl ?_
  refine rf_step (State.endTainted_rf _ _ _ _) rfl rfl ?_
  exact rf_refl

theorem State.commitPairs_rf (s x1 x2) :
    RF vS [.galley, .fab] [] s (State.commitPairs s x1 x2) := by
  unfold State.commitPairs
  refine rf_foldl ?_ (fun t0 x1 h2 => ?_)
  · exact rf_refl
  · split
    · rename_i w3 w4 w5
      refine rf_step (State.chargeBuf_rf _ _ _) rfl rfl ?_
      refine rf_step (State.sealBuf_rf _ _ _) rfl rfl ?_
      refine rf_step (State.setImp_rf _ _ _) rfl rfl ?_
      exact h2
    · rename_i w6 w7
      exact h2

theorem State.lateCount_rf (s x1) :
    RF vS [] [0x60000F] s (State.lateCount s x1) := by
  unfold State.lateCount
  refine rf_ite (fun _h0 => ?_) (fun _h1 => ?_)
  · refine rf_step (State.bump_rf _ _ _) rfl rfl ?_
    exact rf_refl
  · exact rf_refl

theorem State.completeOk_rf (s x1 x2 x3 x4) :
    RF vS [.freeCtr, .octets, .galley, .edge, .front, .fab, .pot, .alarms] [0x600008, 0x600009, 0x60000A, 0x600013, 0x60001D, 0x620007, 0x620009, 0xB20006, 0xB20007, 0xB2000F] s (State.completeOk s x1 x2 x3 x4) := by
  unfold State.completeOk
  extract_lets v0 v1 v2 v3
  refine rf_cut (W := vS) v0 ?_ (fun h4 => ?_)
  · unfold v0
    refine rf_step (State.commitPairs_rf _ _ _) rfl rfl ?_
    exact rf_refl
  refine rf_cut (W := vS) v1 ?_ (fun h5 => ?_)
  · unfold v1
    refine rf_step (State.freeAttempt_rf _ _ _) rfl rfl ?_
    exact h4
  refine rf_cut (W := vS) v2 ?_ (fun h6 => ?_)
  · unfold v2
    refine rf_step (State.endSlug_rf _ _ _ _) rfl rfl ?_
    exact h5
  refine rf_cut (W := vS) v3 ?_ (fun h7 => ?_)
  · unfold v3
    refine rf_ite (fun _h8 => ?_) (fun _h9 => ?_)
    · refine rf_step (State.raiseAtMost_rf _ _ _ _ _) rfl rfl ?_
      refine rf_step (State.bump_rf _ _ _) rfl rfl ?_
      exact h6
    · exact h6
  refine rf_step (State.settle_rf _ _) rfl rfl ?_
  refine rf_step (State.trace_rf _ _) rfl rfl ?_
  refine rf_step (State.decrementSuccs_rf _ _ _) rfl rfl ?_
  exact h7

theorem State.engineEnd_rf (s x1 x2) :
    RF vS [.values] [0x80000E] s (State.engineEnd s x1 x2) := by
  unfold State.engineEnd
  extract_lets v0 v1
  refine rf_cut (W := vS) v1 ?_ (fun h2 => ?_)
  · unfold v1
    refine rf_step (State.bumpBy_rf _ _ _ _) rfl rfl ?_
    exact rf_refl
  refine rf_ite (fun _h3 => ?_) (fun _h4 => ?_)
  · split
    · rename_i w5 w6
      refine rf_step (State.bump_rfv _ _ _) rfl rfl ?_
      exact h2
    · rename_i w7
      exact h2
  · exact rf_refl

theorem State.slugFaultAlarm_rf (s x1 x2) :
    RF vS [.freeCtr, .values, .octets, .galley, .edge, .front, .fab, .pot, .res, .alarms] [0x600008, 0x600009, 0x60000A, 0x60000E, 0x60001D, 0x620007, 0x620009, 0x80000E, 0xB20006, 0xB20007, 0xB2000F] s (State.slugFaultAlarm s x1 x2) := by
  unfold State.slugFaultAlarm
  split
  · rename_i w0 w1 w2
    extract_lets v3
    refine rf_cut (W := vS) v3 ?_ (fun h4 => ?_)
    · unfold v3
      refine rf_step (State.slugFault_rf _ _ _) rfl rfl ?_
      refine rf_step (State.engineEnd_rf _ _ _) rfl rfl ?_
      exact rf_refl
    refine rf_ite (fun _h5 => ?_) (fun _h6 => ?_)
    · refine rf_step (State.raiseAtMost_rf _ _ _ _ _) rfl rfl ?_
      exact h4
    · refine rf_ite (fun _h7 => ?_) (fun _h8 => ?_)
      · refine rf_step (State.raiseAtMost_rf _ _ _ _ _) rfl rfl ?_
        exact h4
      · exact h4
  · rename_i w9 w10
    refine rf_step (State.slugFault_rf _ _ _) rfl rfl ?_
    exact rf_refl

theorem State.complete_rf (s x1) :
    RF vS [.freeCtr, .values, .octets, .galley, .edge, .front, .fab, .pot, .res, .alarms] [0x600008, 0x600009, 0x60000A, 0x60000E, 0x60000F, 0x600013, 0x60001D, 0x620007, 0x620009, 0x80000E, 0xB20006, 0xB20007, 0xB2000F] s (State.complete s x1) := by
  unfold State.complete
  split
  · rename_i w0 w1
    refine rf_step (State.raise_rf _ _ _ _ _) rfl rfl ?_
    refine rf_step (State.bump_rf _ _ _) rfl rfl ?_
    exact rf_refl
  · rename_i w2 w3 w4
    extract_lets v5
    refine rf_cut (W := vS) v5 ?_ (fun h6 => ?_)
    · unfold v5
      refine rf_step (State.lateCount_rf _ _) rfl rfl ?_
      refine rf_step (State.idleUnit_rf _ _ _) rfl rfl ?_
      refine rf_step (State.engineEnd_rf _ _ _) rfl rfl ?_
      exact rf_refl
    refine rf_ite (fun _h7 => ?_) (fun _h8 => ?_)
    · split
      · rename_i w9 w10
        exact rf_refl
      · rename_i w11 w12 w13
        refine rf_ite (fun _h14 => ?_) (fun _h15 => ?_)
        · refine rf_step (State.slugFaultAlarm_rf _ _ _) rfl rfl ?_
          exact rf_refl
        · refine rf_ite (fun _h16 => ?_) (fun _h17 => ?_)
          · refine rf_step (State.endAborted_rf _ _ _) rfl rfl ?_
            exact h6
          · refine rf_ite (fun _h18 => ?_) (fun _h19 => ?_)
            · refine rf_step (State.completeOk_rf _ _ _ _ _) rfl rfl ?_
              exact h6
            · refine rf_step (State.endTainted_rf _ _ _ _) rfl rfl ?_
              exact h6
    · refine rf_step (State.raise_rf _ _ _ _ _) rfl rfl ?_
      refine rf_step (State.bump_rf _ _ _) rfl rfl ?_
      exact rf_refl

theorem State.reportSide_rf (s x1 x2) :
    RF vS [.edge] [] s (State.reportSide s x1 x2) := by
  unfold State.reportSide
  extract_lets v0
  split
  · rename_i w1 w2 w3
    refine rf_upd (b := s) ?_ ⟨fun f hf hv => by cases f <;> first | exact absurd (by decide) hf | exact absurd rfl hv | rfl | exact ⟨rfl, rfl⟩ | exact ⟨rfl, rfl, rfl, rfl, rfl⟩, Or.inr fun _ _ => rfl⟩ (Keeps.of rfl (Nat.le_refl _) rfl)
    exact rf_refl
  · rename_i w4 w5
    exact rf_refl

end Sys2Proof.Machine
end

