-- ==== Sys2Proof/Laws/FramesMogilLink.lean ====
section
/-!
SUPPORT. What each operation of Machine/MogilLink.lean may change, one lemma each.
-/

namespace Sys2Proof.Machine

set_option Elab.async false

open Sys2Proof

theorem State.setGrp_rf (s x1 x2) :
    RF vS [.mogil] [] s (State.setGrp s x1 x2) := by
  unfold State.setGrp
  extract_lets v0
  refine rf_upd (b := s) ?_ ⟨fun f hf hv => by cases f <;> first | exact absurd (by decide) hf | exact absurd rfl hv | rfl | exact ⟨rfl, rfl⟩ | exact ⟨rfl, rfl, rfl, rfl, rfl⟩, Or.inr fun _ _ => rfl⟩ (Keeps.of rfl (Nat.le_refl _) rfl)
  exact rf_refl

theorem State.startPacket_rf (s x1 x2) :
    RF vS [.freeCtr, .octets, .mogil, .pot, .alarms] [0x501007, 0xB20006, 0xB20007, 0xB2000F] s (State.startPacket s x1 x2) := by
  unfold State.startPacket
  extract_lets v0 v1 v2 v3 v4 v5 v6 v7
  refine rf_cut (W := vS) v5 ?_ (fun h8 => ?_)
  · unfold v5
    refine rf_step (State.bump_rf _ _ _) rfl rfl ?_
    refine rf_step (State.setGrp_rf _ _ _) rfl rfl ?_
    exact rf_refl
  refine rf_cut (W := vS) v7 ?_ (fun h9 => ?_)
  · unfold v7
    clear_value v5
    refine rf_upd (b := v5) ?_ ⟨fun f hf hv => by cases f <;> first | exact absurd (by decide) hf | exact absurd rfl hv | rfl | exact ⟨rfl, rfl⟩ | exact ⟨rfl, rfl, rfl, rfl, rfl⟩, Or.inr fun _ _ => rfl⟩ (Keeps.of rfl (Nat.le_refl _) rfl)
    exact h8
  refine rf_ite (fun _h10 => ?_) (fun _h11 => ?_)
  · refine rf_step (State.raise_rf _ _ _ _ _) rfl rfl ?_
    exact h9
  · exact h9

theorem State.toPeer_rf (s x1) :
    RF vS [.mogil] [] s (State.toPeer s x1) := by
  unfold State.toPeer
  extract_lets v0
  refine rf_upd (b := s) ?_ ⟨fun f hf hv => by cases f <;> first | exact absurd (by decide) hf | exact absurd rfl hv | rfl | exact ⟨rfl, rfl⟩ | exact ⟨rfl, rfl, rfl, rfl, rfl⟩, Or.inr fun _ _ => rfl⟩ (Keeps.of rfl (Nat.le_refl _) rfl)
  exact rf_refl

theorem State.sendCell_rf (s x1 x2 x3) :
    RF vS [.mogil] [] s (State.sendCell s x1 x2 x3) := by
  unfold State.sendCell
  extract_lets v0 v1 v2 v3
  refine rf_cut (W := vS) v2 ?_ (fun h4 => ?_)
  · unfold v2
    refine rf_step (State.setGrp_rf _ _ _) rfl rfl ?_
    exact rf_refl
  clear_value v2
  refine rf_upd (b := v2) ?_ ⟨fun f hf hv => by cases f <;> first | exact absurd (by decide) hf | exact absurd rfl hv | rfl | exact ⟨rfl, rfl⟩ | exact ⟨rfl, rfl, rfl, rfl, rfl⟩, Or.inr fun _ _ => rfl⟩ (Keeps.of rfl (Nat.le_refl _) rfl)
  exact h4

theorem State.failPackets_rf (s x1) :
    RF vS [.fab] [] s (State.failPackets s x1) := by
  unfold State.failPackets
  extract_lets v0 v1
  refine rf_upd (b := s) ?_ ⟨fun f hf hv => by cases f <;> first | exact absurd (by decide) hf | exact absurd rfl hv | rfl | exact ⟨rfl, rfl⟩ | exact ⟨rfl, rfl, rfl, rfl, rfl⟩, Or.inr fun _ _ => rfl⟩ (Keeps.of rfl (Nat.le_refl _) rfl)
  exact rf_refl

theorem State.discardOut_rf (s x1) :
    RF vS [.freeCtr, .octets, .mogil, .fab, .pot, .alarms] [0xB20006, 0xB20007, 0xB2000F] s (State.discardOut s x1) := by
  unfold State.discardOut
  extract_lets v0 v1
  refine rf_cut (W := vS) v1 ?_ (fun h2 => ?_)
  · unfold v1
    refine rf_step (State.setGrp_rf _ _ _) rfl rfl ?_
    exact rf_refl
  refine rf_ite (fun _h3 => ?_) (fun _h4 => ?_)
  · exact h2
  · refine rf_step (State.raise_rf _ _ _ _ _) rfl rfl ?_
    refine rf_step (State.failPackets_rf _ _) rfl rfl ?_
    exact h2

theorem State.afterActive_rf (s x1) :
    RF vS [.freeCtr, .octets, .mogil, .fab, .pot, .alarms] [0xB20006, 0xB20007, 0xB2000F] s (State.afterActive s x1) := by
  unfold State.afterActive
  extract_lets v0 v1 v2
  refine rf_cut (W := vS) v0 ?_ (fun h3 => ?_)
  · unfold v0
    refine rf_foldl ?_ (fun t4 x5 h6 => ?_)
    · exact rf_refl
    · refine rf_step (State.discardOut_rf _ _) rfl rfl ?_
      exact h6
  split
  · rename_i w7 w8
    clear_value v0
    refine rf_upd (b := v0) ?_ ⟨fun f hf hv => by cases f <;> first | exact absurd (by decide) hf | exact absurd rfl hv | rfl | exact ⟨rfl, rfl⟩ | exact ⟨rfl, rfl, rfl, rfl, rfl⟩, Or.inr fun _ _ => rfl⟩ (Keeps.of rfl (Nat.le_refl _) rfl)
    exact h3
  · rename_i w9 w10
    refine rf_step (State.setGrp_rf _ _ _) rfl rfl ?_
    refine rf_foldl ?_ (fun t11 x12 h13 => ?_)
    · exact rf_refl
    · refine rf_step (State.sendCell_rf _ _ _ _) rfl rfl ?_
      exact h13

theorem State.leaveTo_rf (s x1 x2) :
    RF vS [.freeCtr, .octets, .mogil, .fab, .pot, .alarms] [0xB20006, 0xB20007, 0xB2000F] s (State.leaveTo s x1 x2) := by
  unfold State.leaveTo
  extract_lets v0 v1
  refine rf_cut (W := vS) v1 ?_ (fun h2 => ?_)
  · unfold v1
    refine rf_step (State.setGrp_rf _ _ _) rfl rfl ?_
    exact rf_refl
  refine rf_ite (fun _h3 => ?_) (fun _h4 => ?_)
  · refine rf_step (State.afterActive_rf _ _) rfl rfl ?_
    exact h2
  · exact h2

theorem State.toTraining_rf (s x1) :
    RF vS [.freeCtr, .octets, .mogil, .fab, .pot, .alarms] [0xB20006, 0xB20007, 0xB2000F] s (State.toTraining s x1) := by
  unfold State.toTraining
  refine rf_step (State.leaveTo_rf _ _ _) rfl rfl ?_
  exact rf_refl

theorem State.toHold_rf (s x1 x2) :
    RF vS [.freeCtr, .octets, .mogil, .fab, .pot, .alarms] [0xB20006, 0xB20007, 0xB2000F] s (State.toHold s x1 x2) := by
  unfold State.toHold
  extract_lets v0 v1
  refine rf_cut (W := vS) v0 ?_ (fun h2 => ?_)
  · unfold v0
    refine rf_step (State.leaveTo_rf _ _ _) rfl rfl ?_
    exact rf_refl
  refine rf_step (State.raise_rf _ _ _ _ _) rfl rfl ?_
  refine rf_step (State.setGrp_rf _ _ _) rfl rfl ?_
  exact h2

theorem State.defectAlarms_rf (s x1 x2) :
    RF vS [.freeCtr, .octets, .pot, .alarms] [0xB20006, 0xB20007, 0xB2000F] s (State.defectAlarms s x1 x2) := by
  unfold State.defectAlarms
  refine rf_foldl ?_ (fun t0 x1 h2 => ?_)
  · exact rf_refl
  · refine rf_step (State.condition_rf _ _ _ _) rfl rfl ?_
    exact h2

theorem State.setDefect_rf (s x1 x2 x3) :
    RF vS [.freeCtr, .octets, .mogil, .fab, .pot, .alarms] [0xB20006, 0xB20007, 0xB2000F] s (State.setDefect s x1 x2 x3) := by
  unfold State.setDefect
  extract_lets v0 v1 v2 v3
  refine rf_cut (W := vS) v2 ?_ (fun h4 => ?_)
  · unfold v2
    refine rf_step (State.setGrp_rf _ _ _) rfl rfl ?_
    exact rf_refl
  refine rf_cut (W := vS) v3 ?_ (fun h5 => ?_)
  · unfold v3
    refine rf_step (State.defectAlarms_rf _ _ _) rfl rfl ?_
    exact h4
  refine rf_ite (fun _h6 => ?_) (fun _h7 => ?_)
  · refine rf_step (State.toTraining_rf _ _) rfl rfl ?_
    exact h5
  · exact h5

theorem State.mogilSignalLoss_rf (s x1 x2) :
    RF vS [.freeCtr, .octets, .mogil, .fab, .pot, .alarms] [0xB20006, 0xB20007, 0xB2000F] s (State.mogilSignalLoss s x1 x2) := by
  unfold State.mogilSignalLoss
  extract_lets v0 v1 v2 v3 v4
  refine rf_cut (W := vS) v0 ?_ (fun h5 => ?_)
  · unfold v0
    refine rf_step (State.setDefect_rf _ _ _ _) rfl rfl ?_
    exact rf_refl
  refine rf_step (State.setGrp_rf _ _ _) rfl rfl ?_
  exact h5

theorem State.mogilRelock_rf (s x1 x2 x3) :
    RF vS [.freeCtr, .octets, .mogil, .fab, .pot, .alarms] [0xB20006, 0xB20007, 0xB2000F] s (State.mogilRelock s x1 x2 x3) := by
  unfold State.mogilRelock
  extract_lets v0 v1 v2
  refine rf_cut (W := vS) v0 ?_ (fun h3 => ?_)
  · unfold v0
    refine rf_step (State.setDefect_rf _ _ _ _) rfl rfl ?_
    exact rf_refl
  refine rf_step (State.setGrp_rf _ _ _) rfl rfl ?_
  exact h3

theorem State.resendDue_rf (s x1) :
    RF vS [.mogil] [0x501009] s (State.resendDue s x1) := by
  unfold State.resendDue
  split
  rename_i w0 w1 w2 w3 w4
  extract_lets v5 v6
  refine rf_cut (W := vS) v5 ?_ (fun h7 => ?_)
  · unfold v5
    refine rf_step (State.bumpBy_rf _ _ _ _) rfl rfl ?_
    refine rf_step (State.setGrp_rf _ _ _) rfl rfl ?_
    exact rf_refl
  clear_value v5
  refine rf_upd (b := v5) ?_ ⟨fun f hf hv => by cases f <;> first | exact absurd (by decide) hf | exact absurd rfl hv | rfl | exact ⟨rfl, rfl⟩ | exact ⟨rfl, rfl, rfl, rfl, rfl⟩, Or.inr fun _ _ => rfl⟩ (Keeps.of rfl (Nat.le_refl _) rfl)
  exact h7

theorem State.resendAll_rf (s x1) :
    RF vS [.freeCtr, .octets, .mogil, .fab, .pot, .alarms] [0x501009, 0xB20006, 0xB20007, 0xB2000F] s (State.resendAll s x1) := by
  unfold State.resendAll
  extract_lets v0
  refine rf_ite (fun _h1 => ?_) (fun _h2 => ?_)
  · refine rf_step (State.raise_rf _ _ _ _ _) rfl rfl ?_
    refine rf_step (State.toTraining_rf _ _) rfl rfl ?_
    exact rf_refl
  · refine rf_step (State.resendDue_rf _ _) rfl rfl ?_
    refine rf_step (State.setGrp_rf _ _ _) rfl rfl ?_
    exact rf_refl

theorem State.authFail_rf (s x1) :
    RF vS [.freeCtr, .octets, .mogil, .fab, .pot, .alarms] [0x50100A, 0xB20006, 0xB20007, 0xB2000F] s (State.authFail s x1) := by
  unfold State.authFail
  extract_lets v0 v1 v2 v3
  refine rf_cut (W := vS) v2 ?_ (fun h4 => ?_)
  · unfold v2
    refine rf_step (State.bump_rf _ _ _) rfl rfl ?_
    refine rf_step (State.setGrp_rf _ _ _) rfl rfl ?_
    exact rf_refl
  refine rf_ite (fun _h5 => ?_) (fun _h6 => ?_)
  · refine rf_step (State.toHold_rf _ _ _) rfl rfl ?_
    refine rf_step (State.setGrp_rf _ _ _) rfl rfl ?_
    exact h4
  · exact h4

theorem State.nakOnce_rf (s x1) :
    RF vS [.mogil] [] s (State.nakOnce s x1) := by
  unfold State.nakOnce
  extract_lets v0
  refine rf_ite (fun _h1 => ?_) (fun _h2 => ?_)
  · exact rf_refl
  · refine rf_step (State.setGrp_rf _ _ _) rfl rfl ?_
    exact rf_refl

end Sys2Proof.Machine
end

