-- ==== Sys2Proof/Laws/FramesRegions.lean ====
section
/-!
SUPPORT. What each operation of Machine/Regions.lean may change, one lemma each.
-/

namespace Sys2Proof.Machine

set_option Elab.async false

open Sys2Proof

theorem State.countWrite_rf (s x1 x2) :
    RF vS [.freeCtr, .mode, .octets, .fab, .pot, .sec, .res, .alarms] [0x200004, 0x200005, 0x200006, 0xB10004, 0xB20006, 0xB20007, 0xB2000F] s (State.countWrite s x1 x2) := by
  unfold State.countWrite
  split
  · rename_i w0 w1 w2 w3 w4
    extract_lets v5 v6
    refine rf_cut (W := vS) v6 ?_ (fun h7 => ?_)
    · unfold v6
      refine rf_step (State.setRegion_rf _ _ _) rfl rfl ?_
      exact rf_refl
    refine rf_ite (fun _h8 => ?_) (fun _h9 => ?_)
    · refine rf_step (State.requestToken_rf _ _ _) rfl rfl ?_
      exact h7
    · exact h7
  · rename_i w10 w11
    exact rf_refl

theorem State.unpoison_rf (s x1 x2) :
    RF vS [.fab] [] s (State.unpoison s x1 x2) := by
  unfold State.unpoison
  extract_lets v0
  refine rf_upd (b := s) ?_ ⟨fun f hf hv => by cases f <;> first | exact absurd (by decide) hf | exact absurd rfl hv | rfl | exact ⟨rfl, rfl⟩ | exact ⟨rfl, rfl, rfl, rfl, rfl⟩, Or.inr fun _ _ => rfl⟩ (Keeps.of rfl (Nat.le_refl _) rfl)
  exact rf_refl

theorem State.reseal_rf (s x1 x2) :
    RF vS [.fab, .sec] [] s (State.reseal s x1 x2) := by
  unfold State.reseal
  split
  · rename_i w0 w1 w2 w3 w4
    extract_lets v5 v6 v7 v8
    refine rf_cut (W := vS) v7 ?_ (fun h9 => ?_)
    · unfold v7
      refine rf_step (State.setRegion_rf _ _ _) rfl rfl ?_
      exact rf_refl
    refine rf_ite (fun _h10 => ?_) (fun _h11 => ?_)
    · clear_value v7
      refine rf_upd (b := v7) ?_ ⟨fun f hf hv => by cases f <;> first | exact absurd (by decide) hf | exact absurd rfl hv | rfl | exact ⟨rfl, rfl⟩ | exact ⟨rfl, rfl, rfl, rfl, rfl⟩, Or.inr fun _ _ => rfl⟩ (Keeps.of rfl (Nat.le_refl _) rfl)
      exact h9
    · exact rf_refl
  · rename_i w12 w13
    exact rf_refl

theorem State.deviceWrite_rf (s x1 x2) :
    RF vS [.freeCtr, .mode, .octets, .mem, .fab, .pot, .sec, .res, .alarms] [0x200004, 0x200005, 0x200006, 0xB10004, 0xB20006, 0xB20007, 0xB2000F] s (State.deviceWrite s x1 x2) := by
  unfold State.deviceWrite
  refine rf_step (State.reseal_rf _ _ _) rfl rfl ?_
  refine rf_step (State.storeB_rf _ _ _) rfl rfl ?_
  refine rf_step (State.unpoison_rf _ _ _) rfl rfl ?_
  refine rf_step (State.countWrite_rf _ _ _) rfl rfl ?_
  exact rf_refl

theorem State.deviceZero_rf (s x1 x2) :
    RF vS [.freeCtr, .mode, .octets, .mem, .fab, .pot, .sec, .res, .alarms] [0x200004, 0x200005, 0x200006, 0xB10004, 0xB20006, 0xB20007, 0xB2000F] s (State.deviceZero s x1 x2) := by
  unfold State.deviceZero
  extract_lets t
  refine rf_step (State.reseal_rf _ _ _) rfl rfl ?_
  refine rf_cut (W := vS) t ?_ (fun h => ?_)
  · unfold t
    exact rf_step (State.unpoison_rf _ _ _) rfl rfl (rf_step (State.countWrite_rf _ _ _) rfl rfl rf_refl)
  · clear_value t
    exact rf_upd (b := t) h ⟨fun f hf hv => by cases f <;> first | exact absurd (by decide) hf | exact absurd rfl hv | rfl | exact ⟨rfl, rfl⟩ | exact ⟨rfl, rfl, rfl, rfl, rfl⟩, Or.inr fun _ _ => rfl⟩ (Keeps.ofMem (fun w => Memory.wf_zero _ _ _ w) rfl rfl)

theorem State.dropRekey_rf (s x1) :
    RF vS [.freeCtr, .mode, .octets, .time, .fab, .pot, .sec, .res, .alarms] [0x200004, 0x200005, 0x200006, 0xB10004, 0xB20006, 0xB20007, 0xB2000F] s (State.dropRekey s x1) := by
  unfold State.dropRekey
  extract_lets v0 v1
  refine rf_cut (W := vS) v1 ?_ (fun h2 => ?_)
  · unfold v1
    refine rf_upd (b := s) ?_ ⟨fun f hf hv => by cases f <;> first | exact absurd (by decide) hf | exact absurd rfl hv | rfl | exact ⟨rfl, rfl⟩ | exact ⟨rfl, rfl, rfl, rfl, rfl⟩, Or.inr fun _ _ => rfl⟩ (Keeps.of rfl (Nat.le_refl _) rfl)
    exact rf_refl
  refine rf_ite (fun _h3 => ?_) (fun _h4 => ?_)
  · refine rf_step (State.returnToken_rf _ _ _) rfl rfl ?_
    exact h2
  · exact h2

theorem State.checkFailed_rf (s x1 x2) :
    RF vS [.freeCtr, .mode, .octets, .time, .fab, .pot, .sec, .res, .alarms] [0x200004, 0x200005, 0x200006, 0x91000B, 0xB10004, 0xB20006, 0xB20007, 0xB2000F] s (State.checkFailed s x1 x2) := by
  unfold State.checkFailed
  extract_lets v0 v1
  refine rf_cut (W := vS) v0 ?_ (fun h2 => ?_)
  · unfold v0
    refine rf_step (State.raise_rf _ _ _ _ _) rfl rfl ?_
    refine rf_step (State.bump_rf _ _ _) rfl rfl ?_
    exact rf_refl
  refine rf_ite (fun _h3 => ?_) (fun _h4 => ?_)
  · refine rf_step (State.raise_rf _ _ _ _ _) rfl rfl ?_
    refine rf_step (State.dropRekey_rf _ _) rfl rfl ?_
    refine rf_step (State.setRegion_rf _ _ _) rfl rfl ?_
    exact h2
  · exact h2

theorem State.traceDrain_rf (s) :
    RF vS [.freeCtr, .mode, .octets, .mem, .fab, .pot, .sec, .res, .alarms] [0x200004, 0x200005, 0x200006, 0xB10004, 0xB20006, 0xB20007, 0xB2000D, 0xB2000F] s (State.traceDrain s) := by
  unfold State.traceDrain
  extract_lets v0 v1 v2 v3
  split
  · rename_i w4 w5
    exact rf_refl
  · rename_i w6 w7 w8 w9
    extract_lets v10 v11
    refine rf_cut (W := vS) v10 ?_ (fun h12 => ?_)
    · unfold v10
      refine rf_upd (b := s) ?_ ⟨fun f hf hv => by cases f <;> first | exact absurd (by decide) hf | exact absurd rfl hv | rfl | exact ⟨rfl, rfl⟩ | exact ⟨rfl, rfl, rfl, rfl, rfl⟩, Or.inr fun _ _ => rfl⟩ (Keeps.of rfl (Nat.le_refl _) rfl)
      exact rf_refl
    refine rf_cut (W := vS) v11 ?_ (fun h13 => ?_)
    · unfold v11
      refine rf_step (State.deviceWrite_rf _ _ _) rfl rfl ?_
      exact h12
    refine rf_ite (fun _h14 => ?_) (fun _h15 => ?_)
    · refine rf_step (State.traceCount_rf _ _ _) rfl rfl ?_
      exact h12
    · refine rf_step (State.setNum_rf _ _ _ _) rfl rfl ?_
      refine rf_step (State.traceCount_rf _ _ _) rfl rfl ?_
      exact h13

end Sys2Proof.Machine
end

