-- ==== Sys2Proof/Laws/FramesAccess.lean ====
section
/-!
SUPPORT. What each operation of Machine/Access.lean may change, one lemma each.
-/

namespace Sys2Proof.Machine

set_option Elab.async false

open Sys2Proof

theorem State.restartCore_rf (s x1) :
    RF vS [.vx] [] s (State.restartCore s x1) := by
  unfold State.restartCore
  extract_lets v0 v1 v2 v3
  refine rf_upd (b := s) ?_ ⟨fun f hf hv => by cases f <;> first | exact absurd (by decide) hf | exact absurd rfl hv | rfl | exact ⟨rfl, rfl⟩ | exact ⟨rfl, rfl, rfl, rfl, rfl⟩, Or.inr fun _ _ => rfl⟩ (Keeps.of rfl (Nat.le_refl _) rfl)
  exact rf_refl

theorem State.wake_rf (s x1) :
    RF vS [.vx, .fab] [0x903007] s (State.wake s x1) := by
  unfold State.wake
  extract_lets v0 v1 v2 v3 v4
  refine rf_cut (W := vS) v1 ?_ (fun h5 => ?_)
  · unfold v1
    refine rf_ite (fun _h6 => ?_) (fun _h7 => ?_)
    · refine rf_step (State.setDomain_rf _ _ _) rfl rfl ?_
      exact rf_refl
    · exact rf_refl
  refine rf_cut (W := vS) v3 ?_ (fun h8 => ?_)
  · unfold v3
    refine rf_step (State.setDomain_rf _ _ _) rfl rfl ?_
    exact h5
  refine rf_cut (W := vS) v4 ?_ (fun h9 => ?_)
  · unfold v4
    refine rf_ite (fun _h10 => ?_) (fun _h11 => ?_)
    · exact h8
    · refine rf_step (State.bump_rf _ _ _) rfl rfl ?_
      exact h8
  refine rf_ite (fun _h12 => ?_) (fun _h13 => ?_)
  · refine rf_ite (fun _h14 => ?_) (fun _h15 => ?_)
    · refine rf_step (State.restartCore_rf _ _) rfl rfl ?_
      exact h9
    · exact h9
  · exact h5

theorem State.refuseAcc_rf (s) :
    RF vSnd [.freeCtr, .octets, .pot, .alarms] [0xB20006, 0xB20007, 0xB2000F] s (State.refuseAcc s) := by
  unfold State.refuseAcc
  refine rf_snd ?_
  refine rf_step (State.raise_rf _ _ _ _ _) rfl rfl ?_
  exact rf_refl

theorem State.regionTest_rf (s x1 x2 x3 x4) :
    RF vSnd [.freeCtr, .mode, .octets, .time, .fab, .pot, .sec, .res, .alarms] [0x200004, 0x200005, 0x200006, 0x91000B, 0x91000E, 0xB10004, 0xB20006, 0xB20007, 0xB2000F] s (State.regionTest s x1 x2 x3 x4) := by
  unfold State.regionTest
  split
  · rename_i w0 w1
    refine rf_snd ?_
    exact rf_refl
  · rename_i w2 w3 w4 w5 w6
    extract_lets v7
    refine rf_ite (fun _h8 => ?_) (fun _h9 => ?_)
    · refine rf_snd ?_
      refine rf_step (State.raise_rf _ _ _ _ _) rfl rfl ?_
      refine rf_step (State.bump_rf _ _ _) rfl rfl ?_
      exact rf_refl
    · refine rf_ite (fun _h10 => ?_) (fun _h11 => ?_)
      · refine rf_step (State.refuseAcc_rf _) rfl rfl ?_
        exact rf_refl
      · refine rf_ite (fun _h12 => ?_) (fun _h13 => ?_)
        · refine rf_snd ?_
          exact rf_refl
        · refine rf_ite (fun _h14 => ?_) (fun _h15 => ?_)
          · refine rf_snd ?_
            exact rf_refl
          · refine rf_ite (fun _h16 => ?_) (fun _h17 => ?_)
            · refine rf_snd ?_
              exact rf_refl
            · refine rf_ite (fun _h18 => ?_) (fun _h19 => ?_)
              · refine rf_snd ?_
                exact rf_refl
              · split
                · rename_i w20 w21 w22
                  refine rf_snd ?_
                  refine rf_step (State.checkFailed_rf _ _ _) rfl rfl ?_
                  exact rf_refl
                · rename_i w23 w24
                  refine rf_snd ?_
                  exact rf_refl

theorem State.memTest_rf (s x1 x2 x3 x4 x5) :
    RF vSnd [.freeCtr, .mode, .octets, .time, .fab, .pot, .sec, .res, .alarms] [0x200004, 0x200005, 0x200006, 0x91000B, 0x91000E, 0xA4000C, 0xB10004, 0xB20006, 0xB20007, 0xB2000F] s (State.memTest s x1 x2 x3 x4 x5) := by
  unfold State.memTest
  extract_lets v0 v1
  refine rf_ite (fun _h2 => ?_) (fun _h3 => ?_)
  · refine rf_snd ?_
    exact rf_refl
  · refine rf_ite (fun _h4 => ?_) (fun _h5 => ?_)
    · refine rf_snd ?_
      refine rf_step (State.raiseAtMost_rf _ _ _ _ _) rfl rfl ?_
      refine rf_step (State.bump_rf _ _ _) rfl rfl ?_
      exact rf_refl
    · split
      · rename_i w6 w7 w8
        refine rf_pair_snd w8 ?_ (fun h9 => ?_)
        · refine rf_step (State.regionTest_rf _ _ _ _ _) rfl rfl ?_
          exact rf_refl
        refine rf_ite (fun _h10 => ?_) (fun _h11 => ?_)
        · refine rf_snd ?_
          exact h9
        · refine rf_ite (fun _h12 => ?_) (fun _h13 => ?_)
          · refine rf_snd ?_
            exact h9
          · refine rf_snd ?_
            exact h9
      · rename_i w14 w15
        refine rf_step (State.regionTest_rf _ _ _ _ _) rfl rfl ?_
        exact rf_refl

theorem State.accessTest_rf (s x1 x2 x3 x4 x5) :
    RF vSnd [.freeCtr, .mode, .octets, .time, .fab, .pot, .sec, .res, .alarms] [0x200004, 0x200005, 0x200006, 0x900001, 0x91000B, 0x91000E, 0xA4000C, 0xB10004, 0xB20006, 0xB20007, 0xB2000F] s (State.accessTest s x1 x2 x3 x4 x5) := by
  unfold State.accessTest
  refine rf_ite (fun _h0 => ?_) (fun _h1 => ?_)
  · refine rf_snd ?_
    exact rf_refl
  · split
    · rename_i w2 w3
      refine rf_snd ?_
      refine rf_step (State.bump_rf _ _ _) rfl rfl ?_
      exact rf_refl
    · rename_i w4 w5
      refine rf_ite (fun _h6 => ?_) (fun _h7 => ?_)
      · refine rf_snd ?_
        exact rf_refl
      · refine rf_step (State.refuseAcc_rf _) rfl rfl ?_
        exact rf_refl
    · rename_i w8 w9
      refine rf_ite (fun _h10 => ?_) (fun _h11 => ?_)
      · refine rf_snd ?_
        exact rf_refl
      · refine rf_step (State.refuseAcc_rf _) rfl rfl ?_
        exact rf_refl
    · rename_i w12 w13
      refine rf_ite (fun _h14 => ?_) (fun _h15 => ?_)
      · refine rf_snd ?_
        exact rf_refl
      · refine rf_step (State.refuseAcc_rf _) rfl rfl ?_
        exact rf_refl
    · rename_i w16 w17 w18
      refine rf_ite (fun _h19 => ?_) (fun _h20 => ?_)
      · refine rf_ite (fun _h21 => ?_) (fun _h22 => ?_)
        · refine rf_snd ?_
          exact rf_refl
        · refine rf_step (State.refuseAcc_rf _) rfl rfl ?_
          exact rf_refl
      · refine rf_ite (fun _h23 => ?_) (fun _h24 => ?_)
        · refine rf_snd ?_
          exact rf_refl
        · refine rf_snd ?_
          exact rf_refl
    · rename_i w25 w26
      refine rf_ite (fun _h27 => ?_) (fun _h28 => ?_)
      · refine rf_snd ?_
        exact rf_refl
      · refine rf_snd ?_
        exact rf_refl
    · rename_i w29 w30 w31
      refine rf_step (State.memTest_rf _ _ _ _ _ _) rfl rfl ?_
      exact rf_refl
    · rename_i w32 w33
      refine rf_step (State.memTest_rf _ _ _ _ _ _) rfl rfl ?_
      exact rf_refl
    · rename_i w34 w35 w36
      refine rf_step (State.memTest_rf _ _ _ _ _ _) rfl rfl ?_
      exact rf_refl

theorem State.markDirty_rf (s x1 x2) :
    RF vS [.vx] [] s (State.markDirty s x1 x2) := by
  unfold State.markDirty
  extract_lets v0
  split
  · rename_i w1 w2 w3
    extract_lets v4 v5 v6 v7
    refine rf_upd (b := s) ?_ ⟨fun f hf hv => by cases f <;> first | exact absurd (by decide) hf | exact absurd rfl hv | rfl | exact ⟨rfl, rfl⟩ | exact ⟨rfl, rfl, rfl, rfl, rfl⟩, Or.inr fun _ _ => rfl⟩ (Keeps.of rfl (Nat.le_refl _) rfl)
    exact rf_refl
  · rename_i w8 w9
    exact rf_refl

theorem State.drawBytes_rf (s x1) :
    RF vSnd [.freeCtr] [] s (State.drawBytes s x1) := by
  unfold State.drawBytes
  refine rf_snd ?_
  refine rf_upd (b := s) ?_ ⟨fun f hf hv => by cases f <;> first | exact absurd (by decide) hf | exact absurd rfl hv | rfl | exact ⟨rfl, rfl⟩ | exact ⟨rfl, rfl, rfl, rfl, rfl⟩, Or.inr fun _ _ => rfl⟩ (Keeps.of rfl (Nat.le_add_right _ _) rfl)
  exact rf_refl

theorem State.markEmitted_rf (s x1) :
    RF vS [.galley] [] s (State.markEmitted s x1) := by
  unfold State.markEmitted
  split
  · rename_i w0 w1 w2 w3
    split
    · rename_i w4 w5 w6
      refine rf_ite (fun _h7 => ?_) (fun _h8 => ?_)
      · refine rf_step (State.setSlug_rf _ _ _) rfl rfl ?_
        exact rf_refl
      · exact rf_refl
    · rename_i w9 w10
      exact rf_refl
  · rename_i w11 w12
    exact rf_refl

theorem State.slugWrite_rf (s x1 x2) :
    RF vS [.mem] [] s (State.slugWrite s x1 x2) := by
  induction x2 generalizing s x1
  · unfold State.slugWrite
    exact rf_refl
  · rename_i y ys ih
    unfold State.slugWrite
    refine rf_trans ?_ (ih ..)
    refine rf_ite (fun _h0 => ?_) (fun _h1 => ?_)
    · exact rf_refl
    · refine rf_step (State.storeB_rf _ _ _) rfl rfl ?_
      exact rf_refl

theorem State.readAt_rf (s x1 x2 x3) :
    RF vSnd [.freeCtr, .vx, .mogil, .fab] [0x903007] s (State.readAt s x1 x2 x3) := by
  unfold State.readAt
  extract_lets v0
  refine rf_cut (W := vS) v0 ?_ (fun h1 => ?_)
  · unfold v0
    split
    · rename_i w2 w3 w4
      refine rf_step (State.wake_rf _ _) rfl rfl ?_
      exact rf_refl
    · rename_i w5 w6
      exact rf_refl
  split
  · rename_i w7 w8
    refine rf_step (State.drawBytes_rf _ _) rfl rfl ?_
    refine rf_step (State.toPeer_rf _ _) rfl rfl ?_
    exact rf_refl
  · rename_i w9 w10
    refine rf_snd ?_
    exact rf_refl
  · rename_i w11 w12
    refine rf_snd ?_
    exact rf_refl
  · rename_i w13 w14
    refine rf_step (State.drawBytes_rf _ _) rfl rfl ?_
    exact rf_refl
  · rename_i w15 w16 w17 w18 w19
    refine rf_snd ?_
    exact h1

theorem State.writeAt_rf (s x1 x2 x3 x4) :
    RF vS [.freeCtr, .mode, .octets, .galley, .vx, .mogil, .mem, .fab, .pot, .sec, .res, .alarms] [0x200004, 0x200005, 0x200006, 0x903007, 0x91000F, 0xB10004, 0xB20006, 0xB20007, 0xB2000F] s (State.writeAt s x1 x2 x3 x4) := by
  unfold State.writeAt
  extract_lets v0 v1 v2 v3
  refine rf_cut (W := vS) v1 ?_ (fun h4 => ?_)
  · unfold v1
    split
    · rename_i w5 w6 w7
      refine rf_step (State.wake_rf _ _) rfl rfl ?_
      exact rf_refl
    · rename_i w8 w9
      exact rf_refl
  split
  · rename_i w10 w11
    refine rf_step (State.markEmitted_rf _ _) rfl rfl ?_
    refine rf_step (State.toPeer_rf _ _) rfl rfl ?_
    exact rf_refl
  · rename_i w12 w13
    refine rf_upd (b := s) ?_ ⟨fun f hf hv => by cases f <;> first | exact absurd (by decide) hf | exact absurd rfl hv | rfl | exact ⟨rfl, rfl⟩ | exact ⟨rfl, rfl, rfl, rfl, rfl⟩, Or.inr fun _ _ => rfl⟩ (Keeps.of rfl (Nat.le_refl _) rfl)
    exact rf_refl
  · rename_i w14 w15
    refine rf_step (State.slugWrite_rf _ _ _) rfl rfl ?_
    exact rf_refl
  · rename_i w16 w17
    exact rf_refl
  · rename_i w18 w19 w20 w21 w22
    split
    · rename_i w23 w24 w25 w26 w27
      refine rf_ite (fun _h28 => ?_) (fun _h29 => ?_)
      · refine rf_step (State.requestToken_rf _ _ _) rfl rfl ?_
        refine rf_step (State.raise_rf _ _ _ _ _) rfl rfl ?_
        refine rf_step (State.bump_rf _ _ _) rfl rfl ?_
        refine rf_step (State.setRegion_rf _ _ _) rfl rfl ?_
        exact h4
      · refine rf_step (State.markDirty_rf _ _ _) rfl rfl ?_
        refine rf_step (State.deviceWrite_rf _ _ _) rfl rfl ?_
        exact h4
    · rename_i w30 w31
      refine rf_step (State.markDirty_rf _ _ _) rfl rfl ?_
      refine rf_step (State.deviceWrite_rf _ _ _) rfl rfl ?_
      exact h4

theorem State.memRead_rf (s x1 x2 x3) :
    RF v22 [.freeCtr, .mode, .octets, .time, .vx, .mogil, .fab, .pot, .sec, .res, .alarms] [0x200004, 0x200005, 0x200006, 0x900001, 0x903007, 0x91000B, 0x91000E, 0xA4000C, 0xB10004, 0xB20006, 0xB20007, 0xB2000F] s (State.memRead s x1 x2 x3) := by
  unfold State.memRead
  split
  · rename_i w0 w1 w2
    refine rf_pair_snd w2 ?_ (fun h3 => ?_)
    · refine rf_step (State.accessTest_rf _ _ _ _ _ _) rfl rfl ?_
      exact rf_refl
    split
    rename_i w4 w5 w6 w7
    refine rf_pair_snd w7 ?_ (fun h8 => ?_)
    · refine rf_step (State.readAt_rf _ _ _ _) rfl rfl ?_
      exact h3
    refine rf_22 ?_
    refine rf_snd ?_
    exact h8
  · rename_i w9 w10 w11 w12 w13
    refine rf_pair_snd w13 ?_ (fun h14 => ?_)
    · refine rf_step (State.accessTest_rf _ _ _ _ _ _) rfl rfl ?_
      exact rf_refl
    refine rf_22 ?_
    refine rf_snd ?_
    exact h14

theorem State.memWrite_rf (s x1 x2 x3) :
    RF vSnd [.freeCtr, .mode, .octets, .time, .galley, .vx, .mogil, .mem, .fab, .pot, .sec, .res, .alarms] [0x200004, 0x200005, 0x200006, 0x900001, 0x903007, 0x91000B, 0x91000E, 0x91000F, 0xA4000C, 0xB10004, 0xB20006, 0xB20007, 0xB2000F] s (State.memWrite s x1 x2 x3) := by
  unfold State.memWrite
  split
  · rename_i w0 w1 w2
    refine rf_pair_snd w2 ?_ (fun h3 => ?_)
    · refine rf_step (State.accessTest_rf _ _ _ _ _ _) rfl rfl ?_
      exact rf_refl
    refine rf_snd ?_
    refine rf_step (State.writeAt_rf _ _ _ _ _) rfl rfl ?_
    exact h3
  · rename_i w4 w5 w6 w7 w8
    refine rf_pair_snd w8 ?_ (fun h9 => ?_)
    · refine rf_step (State.accessTest_rf _ _ _ _ _ _) rfl rfl ?_
      exact rf_refl
    refine rf_snd ?_
    exact h9

theorem State.memAtom_rf (s x1 x2 x3 x4) :
    RF v22 [.freeCtr, .mode, .octets, .time, .galley, .vx, .mogil, .mem, .fab, .pot, .sec, .res, .alarms] [0x200004, 0x200005, 0x200006, 0x900001, 0x903007, 0x91000B, 0x91000E, 0x91000F, 0xA4000C, 0xB10004, 0xB20006, 0xB20007, 0xB2000F] s (State.memAtom s x1 x2 x3 x4) := by
  unfold State.memAtom
  extract_lets v0
  split
  · rename_i w1 w2 w3
    refine rf_pair_snd w3 ?_ (fun h4 => ?_)
    · refine rf_step (State.accessTest_rf _ _ _ _ _ _) rfl rfl ?_
      exact rf_refl
    refine rf_ite (fun _h5 => ?_) (fun _h6 => ?_)
    · split
      rename_i w7 w8 w9 w10
      refine rf_pair_snd w10 ?_ (fun h11 => ?_)
      · refine rf_step (State.drawBytes_rf _ _) rfl rfl ?_
        refine rf_step (State.markEmitted_rf _ _) rfl rfl ?_
        refine rf_step (State.toPeer_rf _ _) rfl rfl ?_
        exact h4
      refine rf_22 ?_
      refine rf_snd ?_
      exact h11
    · split
      rename_i w12 w13 w14 w15
      refine rf_pair_snd w15 ?_ (fun h16 => ?_)
      · refine rf_step (State.readAt_rf _ _ _ _) rfl rfl ?_
        exact h4
      refine rf_22 ?_
      refine rf_snd ?_
      refine rf_step (State.writeAt_rf _ _ _ _ _) rfl rfl ?_
      exact h16
  · rename_i w17 w18 w19 w20 w21
    refine rf_pair_snd w21 ?_ (fun h22 => ?_)
    · refine rf_step (State.accessTest_rf _ _ _ _ _ _) rfl rfl ?_
      exact rf_refl
    refine rf_22 ?_
    refine rf_snd ?_
    exact h22

end Sys2Proof.Machine
end

