-- ==== Sys2Proof/Laws/FramesDictOps.lean ====
section
/-!
SUPPORT. What each operation of Machine/DictOps.lean may change, one lemma each.
-/

namespace Sys2Proof.Machine

set_option Elab.async false

open Sys2Proof

theorem State.setSel_rf (s x1 x2 x3) :
    RF vS [.selects] [] s (State.setSel s x1 x2 x3) := by
  unfold State.setSel
  extract_lets v0
  refine rf_upd (b := s) ?_ ⟨fun f hf hv => by cases f <;> first | exact absurd (by decide) hf | exact absurd rfl hv | rfl | exact ⟨rfl, rfl⟩ | exact ⟨rfl, rfl, rfl, rfl, rfl⟩, Or.inr fun _ _ => rfl⟩ (Keeps.of rfl (Nat.le_refl _) rfl)
  exact rf_refl

theorem State.dropSels_rf (s x1) :
    RF vS [.selects] [] s (State.dropSels s x1) := by
  unfold State.dropSels
  extract_lets v0
  refine rf_upd (b := s) ?_ ⟨fun f hf hv => by cases f <;> first | exact absurd (by decide) hf | exact absurd rfl hv | rfl | exact ⟨rfl, rfl⟩ | exact ⟨rfl, rfl, rfl, rfl, rfl⟩, Or.inr fun _ _ => rfl⟩ (Keeps.of rfl (Nat.le_refl _) rfl)
  exact rf_refl

theorem State.setSegs_rf (s x1 x2) :
    RF vS [.pot] [] s (State.setSegs s x1 x2) := by
  unfold State.setSegs
  extract_lets v0
  split
  · rename_i w1 w2
    split
    · rename_i w3 w4 w5
      refine rf_upd (b := s) ?_ ⟨fun f hf hv => by cases f <;> first | exact absurd (by decide) hf | exact absurd rfl hv | rfl | exact ⟨rfl, rfl⟩ | exact ⟨rfl, rfl, rfl, rfl, rfl⟩, Or.inr fun _ _ => rfl⟩ (Keeps.of rfl (Nat.le_refl _) rfl)
      exact rf_refl
    · rename_i w6 w7
      exact rf_refl
  · rename_i w8 w9
    refine rf_upd (b := s) ?_ ⟨fun f hf hv => by cases f <;> first | exact absurd (by decide) hf | exact absurd rfl hv | rfl | exact ⟨rfl, rfl⟩ | exact ⟨rfl, rfl, rfl, rfl, rfl⟩, Or.inr fun _ _ => rfl⟩ (Keeps.of rfl (Nat.le_refl _) rfl)
    exact rf_refl
  · rename_i w10 w11 w12
    exact rf_refl

theorem State.touchPart_rf (s x1) :
    RF vS [.parts] [] s (State.touchPart s x1) := by
  unfold State.touchPart
  extract_lets v0
  refine rf_ite (fun _h1 => ?_) (fun _h2 => ?_)
  · refine rf_upd (b := s) ?_ ⟨fun f hf hv => by cases f <;> first | exact absurd (by decide) hf | exact absurd rfl hv | rfl | exact ⟨rfl, rfl⟩ | exact ⟨rfl, rfl, rfl, rfl, rfl⟩, Or.inr fun _ _ => rfl⟩ (Keeps.of rfl (Nat.le_refl _) rfl)
    exact rf_refl
  · exact rf_refl

theorem State.setPart_rf (s x1 x2) :
    RF vS [.parts] [] s (State.setPart s x1 x2) := by
  unfold State.setPart
  refine rf_upd (b := s) ?_ ⟨fun f hf hv => by cases f <;> first | exact absurd (by decide) hf | exact absurd rfl hv | rfl | exact ⟨rfl, rfl⟩ | exact ⟨rfl, rfl, rfl, rfl, rfl⟩, Or.inr fun _ _ => rfl⟩ (Keeps.of rfl (Nat.le_refl _) rfl)
  exact rf_refl

theorem State.takeIf_rf (x0 s x2) :
    RF vS [.force] [] s (State.takeIf x0 s x2) := by
  unfold State.takeIf
  refine rf_foldl ?_ (fun t0 x1 h2 => ?_)
  · exact rf_refl
  · refine rf_step (State.take_rf _ _ _) rfl rfl ?_
    exact h2

theorem State.takePause_rf (s x1) :
    RF vS [.force, .parts] [] s (State.takePause s x1) := by
  unfold State.takePause
  extract_lets v0
  split
  · rename_i w1 w2 w3
    extract_lets v4
    refine rf_step (State.take_rf _ _ _) rfl rfl ?_
    refine rf_step (State.setPart_rf _ _ _) rfl rfl ?_
    exact rf_refl
  · rename_i w5 w6
    exact rf_refl

theorem State.takeTie_rf (s x1 x2) :
    RF vS [.force, .parts] [] s (State.takeTie s x1 x2) := by
  unfold State.takeTie
  refine rf_ite (fun _h0 => ?_) (fun _h1 => ?_)
  · exact rf_refl
  · refine rf_ite (fun _h2 => ?_) (fun _h3 => ?_)
    · refine rf_ite (fun _h4 => ?_) (fun _h5 => ?_)
      · refine rf_step (State.takePause_rf _ _) rfl rfl ?_
        exact rf_refl
      · exact rf_refl
    · split
      · rename_i w6 w7 w8
        refine rf_ite (fun _h9 => ?_) (fun _h10 => ?_)
        · refine rf_step (State.take_rf _ _ _) rfl rfl ?_
          exact rf_refl
        · exact rf_refl
      · rename_i w11 w12
        refine rf_ite (fun _h13 => ?_) (fun _h14 => ?_)
        · refine rf_step (State.take_rf _ _ _) rfl rfl ?_
          exact rf_refl
        · exact rf_refl

theorem State.takeSlot_rf (s x1) :
    RF vS [.force, .parts] [] s (State.takeSlot s x1) := by
  unfold State.takeSlot
  refine rf_step (State.takePause_rf _ _) rfl rfl ?_
  refine rf_foldl ?_ (fun t0 x1 h2 => ?_)
  · exact rf_refl
  · refine rf_step (State.takeIf_rf _ _ _) rfl rfl ?_
    exact h2

theorem State.takeSubframe_rf (s) :
    RF vS [.force, .parts] [] s (State.takeSubframe s) := by
  unfold State.takeSubframe
  refine rf_foldl ?_ (fun t0 x1 h2 => ?_)
  · refine rf_foldl ?_ (fun t3 x4 h5 => ?_)
    · exact rf_refl
    · refine rf_step (State.takeIf_rf _ _ _) rfl rfl ?_
      exact h5
  · refine rf_step (State.takePause_rf _ _) rfl rfl ?_
    exact h2

end Sys2Proof.Machine
end

