-- ==== Sys2Proof/Laws/FramesBursts.lean ====
section
/-!
SUPPORT. What each operation of Machine/Bursts.lean may change, one lemma each.
-/

namespace Sys2Proof.Machine

set_option Elab.async false

open Sys2Proof

theorem State.noteSinks_rf (s) :
    RF vS [.pins] [] s (State.noteSinks s) := by
  unfold State.noteSinks
  extract_lets v0
  refine rf_upd (b := s) ?_ ⟨fun f hf hv => by cases f <;> first | exact absurd (by decide) hf | exact absurd rfl hv | rfl | exact ⟨rfl, rfl⟩ | exact ⟨rfl, rfl, rfl, rfl, rfl⟩, Or.inr fun _ _ => rfl⟩ (Keeps.of rfl (Nat.le_refl _) rfl)
  exact rf_refl

theorem State.settleRcos_rf (s) :
    RF vS [.edge, .pins] [] s (State.settleRcos s) := by
  unfold State.settleRcos
  extract_lets v0
  refine rf_step (State.noteSinks_rf _) rfl rfl ?_
  refine rf_upd (b := s) ?_ ⟨fun f hf hv => by cases f <;> first | exact absurd (by decide) hf | exact absurd rfl hv | rfl | exact ⟨rfl, rfl⟩ | exact ⟨rfl, rfl, rfl, rfl, rfl⟩, Or.inr fun _ _ => rfl⟩ (Keeps.of rfl (Nat.le_refl _) rfl)
  exact rf_refl

theorem State.noiseTable_rf (s x1 x2 x3 x4) :
    RF vS [.edge] [] s (State.noiseTable s x1 x2 x3 x4) := by
  unfold State.noiseTable
  extract_lets v0 v1 v2 v3
  refine rf_ite (fun _h4 => ?_) (fun _h5 => ?_)
  · refine rf_upd (b := s) ?_ ⟨fun f hf hv => by cases f <;> first | exact absurd (by decide) hf | exact absurd rfl hv | rfl | exact ⟨rfl, rfl⟩ | exact ⟨rfl, rfl, rfl, rfl, rfl⟩, Or.inr fun _ _ => rfl⟩ (Keeps.of rfl (Nat.le_refl _) rfl)
    exact rf_refl
  · exact rf_refl

theorem State.setSctx_rf (s x1 x2) :
    RF vS [.edge] [] s (State.setSctx s x1 x2) := by
  unfold State.setSctx
  extract_lets v0
  refine rf_upd (b := s) ?_ ⟨fun f hf hv => by cases f <;> first | exact absurd (by decide) hf | exact absurd rfl hv | rfl | exact ⟨rfl, rfl⟩ | exact ⟨rfl, rfl, rfl, rfl, rfl⟩, Or.inr fun _ _ => rfl⟩ (Keeps.of rfl (Nat.le_refl _) rfl)
  exact rf_refl

theorem State.skipOccasions_rf (s x1) :
    RF vS [.edge] [] s (State.skipOccasions s x1) := by
  unfold State.skipOccasions
  refine rf_foldl ?_ (fun t0 x1 h2 => ?_)
  · exact rf_refl
  · extract_lets v3
    refine rf_ite (fun _h4 => ?_) (fun _h5 => ?_)
    · exact h2
    · refine rf_step (State.setSctx_rf _ _ _) rfl rfl ?_
      exact h2

end Sys2Proof.Machine
end

