-- ==== Sys2Proof/Laws/FramesEdgeOps.lean ====
section
/-!
SUPPORT. What each operation of Machine/EdgeOps.lean may change, one lemma each.
-/

namespace Sys2Proof.Machine

set_option Elab.async false

open Sys2Proof

theorem State.setGroup_rf (s x1 x2) :
    RF vS [.edge] [] s (State.setGroup s x1 x2) := by
  unfold State.setGroup
  extract_lets v0
  refine rf_upd (b := s) ?_ ⟨fun f hf hv => by cases f <;> first | exact absurd (by decide) hf | exact absurd rfl hv | rfl | exact ⟨rfl, rfl⟩ | exact ⟨rfl, rfl, rfl, rfl, rfl⟩, Or.inr fun _ _ => rfl⟩ (Keeps.of rfl (Nat.le_refl _) rfl)
  exact rf_refl

theorem State.setRadio_rf (s x1 x2) :
    RF vS [.edge] [] s (State.setRadio s x1 x2) := by
  unfold State.setRadio
  extract_lets v0
  refine rf_upd (b := s) ?_ ⟨fun f hf hv => by cases f <;> first | exact absurd (by decide) hf | exact absurd rfl hv | rfl | exact ⟨rfl, rfl⟩ | exact ⟨rfl, rfl, rfl, rfl, rfl⟩, Or.inr fun _ _ => rfl⟩ (Keeps.of rfl (Nat.le_refl _) rfl)
  exact rf_refl

theorem State.setWset_rf (s x1 x2 x3) :
    RF vS [.edge] [] s (State.setWset s x1 x2 x3) := by
  unfold State.setWset
  extract_lets v0
  refine rf_step (State.setRadio_rf _ _ _) rfl rfl ?_
  exact rf_refl

theorem State.closeSlot_rf (s x1 x2 x3) :
    RF vS [.freeCtr, .edge] [] s (State.closeSlot s x1 x2 x3) := by
  unfold State.closeSlot
  extract_lets v0 v1 v2 v3 v4 v5 v6 v7 v8
  split
  · rename_i w9 w10
    exact rf_refl
  · rename_i w11 w12 w13
    extract_lets v14
    refine rf_cut (W := vS) v14 ?_ (fun h15 => ?_)
    · unfold v14
      refine rf_step (State.setWset_rf _ _ _ _) rfl rfl ?_
      exact rf_refl
    refine rf_ite (fun _h16 => ?_) (fun _h17 => ?_)
    · exact rf_refl
    · refine rf_ite (fun _h18 => ?_) (fun _h19 => ?_)
      · refine rf_upd (b := v14) ?_ ⟨fun f hf hv => by cases f <;> first | exact absurd (by decide) hf | exact absurd rfl hv | rfl | exact ⟨rfl, rfl⟩ | exact ⟨rfl, rfl, rfl, rfl, rfl⟩, Or.inr fun _ _ => rfl⟩ (Keeps.of rfl (Nat.le_add_right _ _) rfl)
        exact h15
      · exact h15

theorem State.widthMap_rf (s x1 x2 x3) :
    RF vSnd [.freeCtr, .edge] [] s (State.widthMap s x1 x2 x3) := by
  unfold State.widthMap
  extract_lets v0 v1 v2 v3
  refine rf_cut (W := vS) v0 ?_ (fun h4 => ?_)
  · unfold v0
    refine rf_step (State.closeSlot_rf _ _ _ _) rfl rfl ?_
    exact rf_refl
  refine rf_snd ?_
  refine rf_upd (b := v0) ?_ ⟨fun f hf hv => by cases f <;> first | exact absurd (by decide) hf | exact absurd rfl hv | rfl | exact ⟨rfl, rfl⟩ | exact ⟨rfl, rfl, rfl, rfl, rfl⟩, Or.inr fun _ _ => rfl⟩ (Keeps.of rfl (Nat.le_add_right _ _) rfl)
  exact h4

theorem State.nsEnter_rf (s x1 x2 x3) :
    RF vS [.freeCtr, .octets, .edge, .pot, .alarms] [0xB20006, 0xB20007, 0xB2000F] s (State.nsEnter s x1 x2 x3) := by
  unfold State.nsEnter
  extract_lets v0 v1
  refine rf_cut (W := vS) v1 ?_ (fun h2 => ?_)
  · unfold v1
    refine rf_step (State.setRadio_rf _ _ _) rfl rfl ?_
    exact rf_refl
  refine rf_step (State.condition_rf _ _ _ _) rfl rfl ?_
  exact h2

end Sys2Proof.Machine
end

