-- ==== Sys2Proof/Laws/FramesFormes.lean ====
section
/-!
SUPPORT. What each operation of Machine/Formes.lean may change, one lemma each.
-/

namespace Sys2Proof.Machine

set_option Elab.async false

open Sys2Proof

theorem State.formeOn_rf (s x1) :
    RF vS [.galley] [0x610003, 0x610008] s (State.formeOn s x1) := by
  unfold State.formeOn
  extract_lets v0 v1 v2 v3 v4
  refine rf_cut (W := vS) v3 ?_ (fun h5 => ?_)
  · unfold v3
    refine rf_upd (b := s) ?_ ⟨fun f hf hv => by cases f <;> first | exact absurd (by decide) hf | exact absurd rfl hv | rfl | exact ⟨rfl, rfl⟩ | exact ⟨rfl, rfl, rfl, rfl, rfl⟩, Or.inr fun _ _ => rfl⟩ (Keeps.of rfl (Nat.le_refl _) rfl)
    exact rf_refl
  refine rf_cut (W := vS) v4 ?_ (fun h6 => ?_)
  · unfold v4
    refine rf_step (State.setNum_rf _ _ _ _) rfl rfl ?_
    exact h5
  refine rf_step (State.setFlag_rf _ _ _ _) rfl rfl ?_
  exact h6

theorem enableForme_rf (x0 x1 s) :
    RF vOk [.galley] [0x610003, 0x610008] s (enableForme x0 x1 s) := by
  unfold enableForme
  extract_lets v0
  refine rf_ite (fun _h1 => ?_) (fun _h2 => ?_)
  · refine rf_ok ?_
    refine rf_step (State.setFlag_rf _ _ _ _) rfl rfl ?_
    refine rf_upd (b := s) ?_ ⟨fun f hf hv => by cases f <;> first | exact absurd (by decide) hf | exact absurd rfl hv | rfl | exact ⟨rfl, rfl⟩ | exact ⟨rfl, rfl, rfl, rfl, rfl⟩, Or.inr fun _ _ => rfl⟩ (Keeps.of rfl (Nat.le_refl _) rfl)
    exact rf_refl
  · refine rf_ite (fun _h3 => ?_) (fun _h4 => ?_)
    · exact rf_error _
    · split
      · rename_i w5 w6
        refine rf_ok ?_
        refine rf_step (State.formeOn_rf _ _) rfl rfl ?_
        exact rf_refl
      · rename_i w7 w8
        exact rf_error _

theorem writeFormeImage_rf (x0 x1 s) :
    RF vOk [.octets, .parts] [] s (writeFormeImage x0 x1 s) := by
  unfold writeFormeImage
  refine rf_ite (fun _h0 => ?_) (fun _h1 => ?_)
  · exact rf_error _
  · refine rf_ok ?_
    refine rf_step (State.touchPart_rf _ _) rfl rfl ?_
    refine rf_step (State.setOct_rf _ _ _ _) rfl rfl ?_
    exact rf_refl

theorem State.takeCell_rf (s x1) :
    RF vS [.force] [] s (State.takeCell s x1) := by
  unfold State.takeCell
  refine rf_step (State.takeAll_rf _ _ _) rfl rfl ?_
  exact rf_refl

theorem State.cellOn_rf (s x1) :
    RF vS [.force, .galley] [0x601008] s (State.cellOn s x1) := by
  have h : RF vS [.force, .galley] [0x601008] s (s.takeCell x1) := rf_step (State.takeCell_rf _ _) rfl rfl rf_refl
  unfold State.cellOn
  generalize s.takeCell x1 = t at h
  exact rf_step (State.setFlag_rf _ _ _ _) rfl rfl (rf_upd (b := t) h ⟨fun f hf hv => by cases f <;> first | exact absurd (by decide) hf | exact absurd rfl hv | rfl | exact ⟨rfl, rfl⟩ | exact ⟨rfl, rfl, rfl, rfl, rfl⟩, Or.inr fun _ _ => rfl⟩ (Keeps.of rfl (Nat.le_refl _) rfl))

theorem enableCell_rf (x0 x1 s) :
    RF vOk [.force, .galley] [0x601008] s (enableCell x0 x1 s) := by
  unfold enableCell
  extract_lets v0
  refine rf_ite (fun _h1 => ?_) (fun _h2 => ?_)
  · refine rf_ok ?_
    refine rf_step (State.setFlag_rf _ _ _ _) rfl rfl ?_
    refine rf_upd (b := s) ?_ ⟨fun f hf hv => by cases f <;> first | exact absurd (by decide) hf | exact absurd rfl hv | rfl | exact ⟨rfl, rfl⟩ | exact ⟨rfl, rfl, rfl, rfl, rfl⟩, Or.inr fun _ _ => rfl⟩ (Keeps.of rfl (Nat.le_refl _) rfl)
    exact rf_refl
  · refine rf_ite (fun _h3 => ?_) (fun _h4 => ?_)
    · exact rf_error _
    · split
      · rename_i w5 w6
        refine rf_ok ?_
        refine rf_step (State.cellOn_rf _ _) rfl rfl ?_
        exact rf_refl
      · rename_i w7 w8
        exact rf_error _

theorem writeSlotFormes_rf (x0 x1 s) :
    RF vOk [.force, .parts] [0x601007] s (writeSlotFormes x0 x1 s) := by
  unfold writeSlotFormes
  extract_lets v0
  refine rf_ite (fun _h1 => ?_) (fun _h2 => ?_)
  · exact rf_error _
  · refine rf_ok ?_
    refine rf_step (State.takeTie_rf _ _ _) rfl rfl ?_
    refine rf_step (State.setNum_rf _ _ _ _) rfl rfl ?_
    exact rf_refl

theorem writePeriod_rf (x0 x1 s) :
    RF vOk [.force, .parts] [0x601004] s (writePeriod x0 x1 s) := by
  unfold writePeriod
  refine rf_ite (fun _h0 => ?_) (fun _h1 => ?_)
  · refine rf_ok ?_
    refine rf_step (State.takeTie_rf _ _ _) rfl rfl ?_
    refine rf_step (State.setNum_rf _ _ _ _) rfl rfl ?_
    exact rf_refl
  · exact rf_error _

theorem writePressLead_rf (x0 x1 s) :
    RF vOk [.force, .parts] [0x601005] s (writePressLead x0 x1 s) := by
  unfold writePressLead
  refine rf_ite (fun _h0 => ?_) (fun _h1 => ?_)
  · refine rf_ok ?_
    refine rf_step (State.takeTie_rf _ _ _) rfl rfl ?_
    refine rf_step (State.setNum_rf _ _ _ _) rfl rfl ?_
    exact rf_refl
  · exact rf_error _

end Sys2Proof.Machine
end

