-- ==== Sys2Proof/Laws/FramesGalley.lean ====
section
/-!
SUPPORT. What each operation of Machine/Galley.lean may change, one lemma each.
-/

namespace Sys2Proof.Machine

set_option Elab.async false

open Sys2Proof

theorem State.pressImp_rf (s x1 x2 x3 x4) :
    RF vS [.freeCtr, .octets, .galley, .pot, .alarms] [0x600004, 0x610009, 0x61000A, 0x630002, 0xB20006, 0xB20007, 0xB2000F] s (State.pressImp s x1 x2 x3 x4) := by
  unfold State.pressImp
  extract_lets v0 v1 v2 v3 v4 v5 v6 v7 v8 v9 v10 v11
  refine rf_cut (W := vS) v8 ?_ (fun h12 => ?_)
  · unfold v8
    refine rf_upd (b := s) ?_ ⟨fun f hf hv => by cases f <;> first | exact absurd (by decide) hf | exact absurd rfl hv | rfl | exact ⟨rfl, rfl⟩ | exact ⟨rfl, rfl, rfl, rfl, rfl⟩, Or.inr fun _ _ => rfl⟩ (Keeps.of rfl (Nat.le_refl _) rfl)
    exact rf_refl
  refine rf_cut (W := vS) v9 ?_ (fun h13 => ?_)
  · unfold v9
    refine rf_step (State.bump_rf _ _ _) rfl rfl ?_
    exact h12
  refine rf_cut (W := vS) v10 ?_ (fun h14 => ?_)
  · unfold v10
    refine rf_step (State.bump_rf _ _ _) rfl rfl ?_
    exact h13
  refine rf_cut (W := vS) v11 ?_ (fun h15 => ?_)
  · unfold v11
    refine rf_step (State.setNum_rf _ _ _ _) rfl rfl ?_
    exact h14
  refine rf_step (State.stallEval_rf _ _) rfl rfl ?_
  refine rf_step (State.trace_rf _ _) rfl rfl ?_
  refine rf_step (State.peak_rf _ _ _ _) rfl rfl ?_
  exact h15

theorem State.pressEntry_rf (x0 x1 x2 s x4) :
    RF vS [.freeCtr, .octets, .galley, .pot, .alarms] [0x600004, 0x600005, 0x600006, 0x610009, 0x61000A, 0x630002, 0xB20006, 0xB20007, 0xB2000F] s (State.pressEntry x0 x1 x2 s x4) := by
  unfold State.pressEntry
  refine rf_ite (fun _h0 => ?_) (fun _h1 => ?_)
  · exact rf_refl
  · refine rf_ite (fun _h2 => ?_) (fun _h3 => ?_)
    · refine rf_step (State.bump_rf _ _ _) rfl rfl ?_
      exact rf_refl
    · split
      · rename_i w4 w5
        refine rf_step (State.bump_rf _ _ _) rfl rfl ?_
        exact rf_refl
      · rename_i w6 w7 w8
        extract_lets v9
        refine rf_ite (fun _h10 => ?_) (fun _h11 => ?_)
        · refine rf_step (State.bump_rf _ _ _) rfl rfl ?_
          exact rf_refl
        · refine rf_ite (fun _h12 => ?_) (fun _h13 => ?_)
          · refine rf_step (State.raise_rf _ _ _ _ _) rfl rfl ?_
            refine rf_step (State.bump_rf _ _ _) rfl rfl ?_
            exact rf_refl
          · refine rf_ite (fun _h14 => ?_) (fun _h15 => ?_)
            · refine rf_step (State.raise_rf _ _ _ _ _) rfl rfl ?_
              refine rf_step (State.bump_rf _ _ _) rfl rfl ?_
              exact rf_refl
            · refine rf_step (State.pressImp_rf _ _ _ _ _) rfl rfl ?_
              exact rf_refl

theorem execPress_rf (x0 s) :
    RF vOut [.freeCtr, .octets, .galley, .pot, .alarms] [0x600004, 0x600005, 0x600006, 0x610009, 0x61000A, 0x630002, 0xB20006, 0xB20007, 0xB2000F] s (execPress x0 s) := by
  unfold execPress
  extract_lets v0 v1 v2
  refine rf_cut (W := vS) v2 ?_ (fun h3 => ?_)
  · unfold v2
    refine rf_upd (b := s) ?_ ⟨fun f hf hv => by cases f <;> first | exact absurd (by decide) hf | exact absurd rfl hv | rfl | exact ⟨rfl, rfl⟩ | exact ⟨rfl, rfl, rfl, rfl, rfl⟩, Or.inr fun _ _ => rfl⟩ (Keeps.of rfl (Nat.le_refl _) rfl)
    exact rf_refl
  refine rf_ite (fun _h4 => ?_) (fun _h5 => ?_)
  · refine rf_next ?_
    refine rf_foldl ?_ (fun t6 x7 h8 => ?_)
    · exact h3
    · refine rf_step (State.pressEntry_rf _ _ _ _ _) rfl rfl ?_
      exact h8
  · refine rf_next ?_
    exact rf_refl

theorem State.releaseSlug_rf (s x1) :
    RF vS [.galley] [] s (State.releaseSlug s x1) := by
  unfold State.releaseSlug
  split
  · rename_i w0 w1 w2
    refine rf_ite (fun _h3 => ?_) (fun _h4 => ?_)
    · refine rf_ite (fun _h5 => ?_) (fun _h6 => ?_)
      · refine rf_step (State.makeReady_rf _ _ _) rfl rfl ?_
        exact rf_refl
      · refine rf_step (State.setSlug_rf _ _ _) rfl rfl ?_
        exact rf_refl
    · exact rf_refl
  · rename_i w7 w8
    exact rf_refl

theorem State.releaseCounter_rf (s x1) :
    RF vS [.freeCtr, .octets, .galley, .edge, .front, .fab, .pot, .alarms] [0x60001D, 0x620007, 0x620009, 0x630003, 0x630005, 0xB20006, 0xB20007, 0xB2000F] s (State.releaseCounter s x1) := by
  unfold State.releaseCounter
  split
  · rename_i w0 w1 w2
    refine rf_ite (fun _h3 => ?_) (fun _h4 => ?_)
    · refine rf_step (State.fireCounter_rf _ _ _) rfl rfl ?_
      exact rf_refl
    · exact rf_refl
  · rename_i w5 w6
    exact rf_refl

theorem execImpressionRelease_rf (x0 s) :
    RF vOut [.freeCtr, .octets, .galley, .edge, .front, .fab, .pot, .alarms] [0x600002, 0x60001D, 0x620007, 0x620009, 0x630003, 0x630005, 0xB20006, 0xB20007, 0xB2000F] s (execImpressionRelease x0 s) := by
  unfold execImpressionRelease
  split
  · rename_i w0 w1
    refine rf_next ?_
    exact rf_refl
  · rename_i w2 w3 w4
    extract_lets v5 v6 v7 v8
    refine rf_cut (W := vS) v5 ?_ (fun h9 => ?_)
    · unfold v5
      refine rf_step (State.setImp_rf _ _ _) rfl rfl ?_
      exact rf_refl
    refine rf_cut (W := vS) v6 ?_ (fun h10 => ?_)
    · unfold v6
      refine rf_foldl ?_ (fun t11 x12 h13 => ?_)
      · exact h9
      · refine rf_step (State.releaseSlug_rf _ _) rfl rfl ?_
        exact h13
    refine rf_cut (W := vS) v7 ?_ (fun h14 => ?_)
    · unfold v7
      refine rf_step (State.peak_rf _ _ _ _) rfl rfl ?_
      exact h10
    refine rf_cut (W := vS) v8 ?_ (fun h15 => ?_)
    · unfold v8
      refine rf_foldl ?_ (fun t16 x17 h18 => ?_)
      · exact h14
      · refine rf_step (State.releaseCounter_rf _ _) rfl rfl ?_
        exact h18
    refine rf_ite (fun _h19 => ?_) (fun _h20 => ?_)
    · refine rf_next ?_
      exact rf_refl
    · refine rf_next ?_
      refine rf_step (State.settle_rf _ _) rfl rfl ?_
      exact h15

theorem execCounterFireBy_rf (x0 s) :
    RF vOut [.freeCtr, .octets, .galley, .edge, .front, .fab, .pot, .alarms] [0x60001D, 0x620007, 0x620009, 0x630003, 0x630005, 0xB20006, 0xB20007, 0xB2000F] s (execCounterFireBy x0 s) := by
  unfold execCounterFireBy
  split
  · rename_i w0 w1
    refine rf_next ?_
    exact rf_refl
  · rename_i w2 w3 w4
    extract_lets v5
    refine rf_ite (fun _h6 => ?_) (fun _h7 => ?_)
    · refine rf_ite (fun _h8 => ?_) (fun _h9 => ?_)
      · refine rf_next ?_
        refine rf_step (State.fireCounter_rf _ _ _) rfl rfl ?_
        exact rf_refl
      · refine rf_ite (fun _h10 => ?_) (fun _h11 => ?_)
        · refine rf_next ?_
          exact rf_refl
        · refine rf_next ?_
          refine rf_step (State.fireCounter_rf _ _ _) rfl rfl ?_
          exact rf_refl
    · refine rf_next ?_
      exact rf_refl

theorem execCompletionReport_rf (x0 s) :
    RF vOut [.freeCtr, .values, .octets, .galley, .edge, .front, .fab, .pot, .res, .alarms] [0x600008, 0x600009, 0x60000A, 0x60000E, 0x60000F, 0x600013, 0x60001D, 0x620007, 0x620009, 0x80000E, 0xB20006, 0xB20007, 0xB2000F] s (execCompletionReport x0 s) := by
  unfold execCompletionReport
  refine rf_next ?_
  refine rf_step (State.complete_rf _ _) rfl rfl ?_
  refine rf_step (State.reportSide_rf _ _ _) rfl rfl ?_
  exact rf_refl

theorem State.expire_rf (s x1 x2) :
    RF vS [.freeCtr, .octets, .galley, .edge, .front, .fab, .pot, .alarms] [0x600008, 0x600009, 0x60000A, 0x60000B, 0x60001D, 0x620007, 0x620009, 0xB20006, 0xB20007, 0xB2000F] s (State.expire s x1 x2) := by
  unfold State.expire
  split
  · rename_i w0 w1
    refine rf_step (State.expireSlug_rf _ _ _) rfl rfl ?_
    exact rf_refl
  · rename_i w2 w3
    refine rf_step (State.abortImp_rf _ _ _) rfl rfl ?_
    refine rf_step (State.endSlug_rf _ _ _ _) rfl rfl ?_
    exact rf_refl
  · rename_i w4 w5
    exact rf_refl

theorem execDeadlineExpiry_rf (x0 s) :
    RF vOut [.freeCtr, .octets, .galley, .edge, .front, .fab, .pot, .alarms] [0x600008, 0x600009, 0x60000A, 0x60000B, 0x60001D, 0x620007, 0x620009, 0xB20006, 0xB20007, 0xB2000F] s (execDeadlineExpiry x0 s) := by
  unfold execDeadlineExpiry
  split
  · rename_i w0 w1 w2
    refine rf_ite (fun _h3 => ?_) (fun _h4 => ?_)
    · refine rf_next ?_
      refine rf_step (State.expire_rf _ _ _) rfl rfl ?_
      exact rf_refl
    · refine rf_next ?_
      exact rf_refl
  · rename_i w5 w6
    refine rf_next ?_
    exact rf_refl

theorem execLateHorizonExpiry_rf (x0 s) :
    RF vOut [.freeCtr, .octets, .galley, .edge, .front, .fab, .pot, .alarms] [0x600008, 0x600009, 0x60000A, 0x60001D, 0x620007, 0x620009, 0xB20006, 0xB20007, 0xB2000F] s (execLateHorizonExpiry x0 s) := by
  unfold execLateHorizonExpiry
  split
  · rename_i w0 w1 w2
    refine rf_ite (fun _h3 => ?_) (fun _h4 => ?_)
    · refine rf_next ?_
      refine rf_step (State.expireSlug_rf _ _ _) rfl rfl ?_
      exact rf_refl
    · refine rf_next ?_
      exact rf_refl
  · rename_i w5 w6
    refine rf_next ?_
    exact rf_refl

theorem execStallDeclare_rf (x0 s) :
    RF vOut [.freeCtr, .octets, .galley, .edge, .front, .fab, .pot, .alarms] [0x600008, 0x600009, 0x60000A, 0x60000B, 0x600011, 0x620007, 0x620009, 0xB20006, 0xB20007, 0xB2000F] s (execStallDeclare x0 s) := by
  unfold execStallDeclare
  extract_lets v0 v1 v2 v3 v4
  refine rf_cut (W := vS) v2 ?_ (fun h5 => ?_)
  · unfold v2
    refine rf_upd (b := s) ?_ ⟨fun f hf hv => by cases f <;> first | exact absurd (by decide) hf | exact absurd rfl hv | rfl | exact ⟨rfl, rfl⟩ | exact ⟨rfl, rfl, rfl, rfl, rfl⟩, Or.inr fun _ _ => rfl⟩ (Keeps.of rfl (Nat.le_refl _) rfl)
    exact rf_refl
  refine rf_cut (W := vS) v3 ?_ (fun h6 => ?_)
  · unfold v3
    refine rf_step (State.setOct_rf _ _ _ _) rfl rfl ?_
    exact h5
  refine rf_cut (W := vS) v4 ?_ (fun h7 => ?_)
  · unfold v4
    refine rf_step (State.raise_rf _ _ _ _ _) rfl rfl ?_
    refine rf_step (State.bump_rf _ _ _) rfl rfl ?_
    exact h6
  split
  · rename_i w8 w9
    refine rf_next ?_
    exact rf_refl
  · rename_i w10 w11 w12
    refine rf_ite (fun _h13 => ?_) (fun _h14 => ?_)
    · refine rf_ite (fun _h15 => ?_) (fun _h16 => ?_)
      · refine rf_next ?_
        refine rf_foldl ?_ (fun t17 x18 h19 => ?_)
        · exact h7
        · refine rf_step (State.abortImp_rf _ _ _) rfl rfl ?_
          exact h19
      · refine rf_next ?_
        exact h7
    · refine rf_next ?_
      exact rf_refl

theorem State.refuseReq_rf (s) :
    RF vS [.reply, .freeCtr, .octets, .pot, .alarms] [0xB20006, 0xB20007, 0xB2000F] s (State.refuseReq s) := by
  unfold State.refuseReq
  refine rf_step (State.raise_rf _ _ _ _ _) rfl rfl ?_
  refine rf_step (State.answerErr_rf _ _) rfl rfl ?_
  exact rf_refl

theorem State.reserveHandle_rf (s x1) :
    RF vS [.galley] [] s (State.reserveHandle s x1) := by
  unfold State.reserveHandle
  extract_lets v0
  refine rf_upd (b := s) ?_ ⟨fun f hf hv => by cases f <;> first | exact absurd (by decide) hf | exact absurd rfl hv | rfl | exact ⟨rfl, rfl⟩ | exact ⟨rfl, rfl, rfl, rfl, rfl⟩, Or.inr fun _ _ => rfl⟩ (Keeps.of rfl (Nat.le_refl _) rfl)
  exact rf_refl

theorem State.dropHandle_rf (s x1) :
    RF vS [.galley] [] s (State.dropHandle s x1) := by
  unfold State.dropHandle
  extract_lets v0
  refine rf_upd (b := s) ?_ ⟨fun f hf hv => by cases f <;> first | exact absurd (by decide) hf | exact absurd rfl hv | rfl | exact ⟨rfl, rfl⟩ | exact ⟨rfl, rfl, rfl, rfl, rfl⟩, Or.inr fun _ _ => rfl⟩ (Keeps.of rfl (Nat.le_refl _) rfl)
  exact rf_refl

theorem execSlugHandleReserve_rf (x0 x1 s) :
    RF vOut [.reply, .freeCtr, .octets, .galley, .pot, .alarms] [0xB20006, 0xB20007, 0xB2000F] s (execSlugHandleReserve x0 x1 s) := by
  unfold execSlugHandleReserve
  refine rf_ite (fun _h0 => ?_) (fun _h1 => ?_)
  · refine rf_next ?_
    exact rf_refl
  · refine rf_ite (fun _h2 => ?_) (fun _h3 => ?_)
    · split
      · rename_i w4 w5 w6 w7
        refine rf_next ?_
        refine rf_step (State.answerFab_rf _ _ _ _) rfl rfl ?_
        refine rf_step (State.reserveHandle_rf _ _) rfl rfl ?_
        exact rf_refl
      · rename_i w8 w9
        refine rf_next ?_
        refine rf_step (State.answerFab_rf _ _ _ _) rfl rfl ?_
        exact rf_refl
    · refine rf_next ?_
      refine rf_step (State.refuseReq_rf _) rfl rfl ?_
      exact rf_refl

theorem State.submitSlug_rf (s x1 x2) :
    RF vS [.reply, .galley] [0x600002] s (State.submitSlug s x1 x2) := by
  unfold State.submitSlug
  extract_lets v0 v1 v2 v3 v4
  refine rf_cut (W := vS) v3 ?_ (fun h5 => ?_)
  · unfold v3
    refine rf_step (State.dropHandle_rf _ _) rfl rfl ?_
    exact rf_refl
  split
  · rename_i w6 w7
    split
    · rename_i w8 w9
      exact rf_refl
    · rename_i w10 w11 w12
      extract_lets v13 v14 v15
      refine rf_cut (W := vS) v13 ?_ (fun h16 => ?_)
      · unfold v13
        clear_value v3
        refine rf_upd (b := v3) ?_ ⟨fun f hf hv => by cases f <;> first | exact absurd (by decide) hf | exact absurd rfl hv | rfl | exact ⟨rfl, rfl⟩ | exact ⟨rfl, rfl, rfl, rfl, rfl⟩, Or.inr fun _ _ => rfl⟩ (Keeps.of rfl (Nat.le_refl _) rfl)
        exact h5
      refine rf_cut (W := vS) v14 ?_ (fun h17 => ?_)
      · unfold v14
        refine rf_ite (fun _h18 => ?_) (fun _h19 => ?_)
        · refine rf_step (State.setSlug_rf _ _ _) rfl rfl ?_
          exact h16
        · refine rf_ite (fun _h20 => ?_) (fun _h21 => ?_)
          · refine rf_step (State.makeReady_rf _ _ _) rfl rfl ?_
            exact h16
          · exact h16
      refine rf_cut (W := vS) v15 ?_ (fun h22 => ?_)
      · unfold v15
        refine rf_step (State.peak_rf _ _ _ _) rfl rfl ?_
        exact h17
      refine rf_step (State.answer_rf _ _) rfl rfl ?_
      refine rf_step (State.stallEval_rf _ _) rfl rfl ?_
      exact h22
  · rename_i w23 w24
    refine rf_step (State.answer_rf _ _) rfl rfl ?_
    exact rf_refl

theorem execSlugSubmit_rf (x0 x1 s) :
    RF vOut [.reply, .galley] [0x600002] s (execSlugSubmit x0 x1 s) := by
  unfold execSlugSubmit
  refine rf_next ?_
  refine rf_ite (fun _h0 => ?_) (fun _h1 => ?_)
  · refine rf_step (State.submitSlug_rf _ _ _) rfl rfl ?_
    exact rf_refl
  · exact rf_refl

theorem execSlugDecrement_rf (x0 s) :
    RF vOut [.galley] [0x60001D] s (execSlugDecrement x0 s) := by
  unfold execSlugDecrement
  extract_lets v0
  refine rf_next ?_
  refine rf_ite (fun _h1 => ?_) (fun _h2 => ?_)
  · refine rf_step (State.stallEval_rf _ _) rfl rfl ?_
    refine rf_step (State.decrement_rf _ _ _ _) rfl rfl ?_
    exact rf_refl
  · exact rf_refl

theorem execHandleReserveTimeout_rf (x0 s) :
    RF vOut [.galley] [] s (execHandleReserveTimeout x0 s) := by
  unfold execHandleReserveTimeout
  refine rf_next ?_
  refine rf_ite (fun _h0 => ?_) (fun _h1 => ?_)
  · refine rf_step (State.dropHandle_rf _ _) rfl rfl ?_
    exact rf_refl
  · exact rf_refl

theorem State.countDispatch_rf (s x1) :
    RF vS [.freeCtr, .octets, .pot, .alarms] [0x600007, 0x600010, 0x602001, 0xB20006, 0xB20007, 0xB2000F] s (State.countDispatch s x1) := by
  unfold State.countDispatch
  extract_lets v0 v1
  refine rf_cut (W := vS) v0 ?_ (fun h2 => ?_)
  · unfold v0
    refine rf_step (State.bump_rf _ _ _) rfl rfl ?_
    refine rf_step (State.bump_rf _ _ _) rfl rfl ?_
    exact rf_refl
  refine rf_cut (W := vS) v1 ?_ (fun h3 => ?_)
  · unfold v1
    refine rf_ite (fun _h4 => ?_) (fun _h5 => ?_)
    · refine rf_step (State.bump_rf _ _ _) rfl rfl ?_
      exact h2
    · exact h2
  refine rf_step (State.trace_rf _ _) rfl rfl ?_
  exact h3

theorem State.timerDone_rf (s x1 x2) :
    RF vS [.freeCtr, .octets, .galley, .edge, .front, .fab, .pot, .alarms] [0x600008, 0x600009, 0x60000A, 0x60000F, 0x600013, 0x60001D, 0x620007, 0x620009, 0xB20006, 0xB20007, 0xB2000F] s (State.timerDone s x1 x2) := by
  unfold State.timerDone
  split
  · rename_i w0 w1 w2
    refine rf_step (State.completeOk_rf _ _ _ _ _) rfl rfl ?_
    refine rf_step (State.lateCount_rf _ _) rfl rfl ?_
    exact rf_refl
  · rename_i w3 w4
    exact rf_refl

theorem State.timerDispatch_rf (s x1 x2) :
    RF vS [.freeCtr, .octets, .galley, .edge, .front, .fab, .pot, .alarms] [0x600007, 0x600008, 0x600009, 0x60000A, 0x60000F, 0x600010, 0x600013, 0x60001D, 0x602001, 0x620007, 0x620009, 0xB20006, 0xB20007, 0xB2000F] s (State.timerDispatch s x1 x2) := by
  unfold State.timerDispatch
  split
  · rename_i w0 w1 w2
    extract_lets v3 v4
    refine rf_cut (W := vS) v3 ?_ (fun h5 => ?_)
    · unfold v3
      refine rf_step (State.setSlug_rf _ _ _) rfl rfl ?_
      refine rf_step (State.countDispatch_rf _ _) rfl rfl ?_
      exact rf_refl
    refine rf_cut (W := vS) v4 ?_ (fun h6 => ?_)
    · unfold v4
      refine rf_step (State.stallEval_rf _ _) rfl rfl ?_
      exact h5
    refine rf_ite (fun _h7 => ?_) (fun _h8 => ?_)
    · refine rf_ite (fun _h9 => ?_) (fun _h10 => ?_)
      · refine rf_step (State.timerDone_rf _ _ _) rfl rfl ?_
        exact h6
      · exact h6
    · exact rf_refl
  · rename_i w11 w12
    exact rf_refl

theorem execAtOffset_rf (x0 s) :
    RF vOut [.freeCtr, .octets, .galley, .edge, .front, .fab, .pot, .alarms] [0x600007, 0x600008, 0x600009, 0x60000A, 0x60000F, 0x600010, 0x600013, 0x60001D, 0x602001, 0x620007, 0x620009, 0xB20006, 0xB20007, 0xB2000F] s (execAtOffset x0 s) := by
  unfold execAtOffset
  refine rf_next ?_
  refine rf_step (State.timerDispatch_rf _ _ _) rfl rfl ?_
  exact rf_refl

theorem execAtTick_rf (x0 s) :
    RF vOut [.freeCtr, .octets, .galley, .edge, .front, .fab, .pot, .alarms] [0x600007, 0x600008, 0x600009, 0x60000A, 0x60000F, 0x600010, 0x600013, 0x60001D, 0x602001, 0x620007, 0x620009, 0xB20006, 0xB20007, 0xB2000F] s (execAtTick x0 s) := by
  unfold execAtTick
  refine rf_next ?_
  refine rf_step (State.timerDispatch_rf _ _ _) rfl rfl ?_
  exact rf_refl

theorem execTimerSlugFire_rf (x0 s) :
    RF vOut [.freeCtr, .octets, .galley, .edge, .front, .fab, .pot, .alarms] [0x600008, 0x600009, 0x60000A, 0x60000F, 0x600013, 0x60001D, 0x620007, 0x620009, 0xB20006, 0xB20007, 0xB2000F] s (execTimerSlugFire x0 s) := by
  unfold execTimerSlugFire
  split
  · rename_i w0 w1 w2
    refine rf_ite (fun _h3 => ?_) (fun _h4 => ?_)
    · refine rf_next ?_
      refine rf_step (State.timerDone_rf _ _ _) rfl rfl ?_
      exact rf_refl
    · refine rf_next ?_
      exact rf_refl
  · rename_i w5 w6
    refine rf_next ?_
    exact rf_refl

theorem State.fireTimers_rf (s) :
    RF vS [.freeCtr, .octets, .galley, .edge, .front, .fab, .pot, .alarms] [0x600008, 0x600009, 0x60000A, 0x60000F, 0x600013, 0x60001D, 0x620007, 0x620009, 0xB20006, 0xB20007, 0xB2000F] s (State.fireTimers s) := by
  unfold State.fireTimers
  refine rf_foldl ?_ (fun t0 x1 h2 => ?_)
  · exact rf_refl
  · split
    · rename_i w3 w4 w5
      refine rf_ite (fun _h6 => ?_) (fun _h7 => ?_)
      · refine rf_step (State.timerDone_rf _ _ _) rfl rfl ?_
        exact h2
      · exact h2
    · rename_i w8 w9
      exact h2

theorem clearCounts_rf (s) :
    RF vS [.values] [0x600002, 0x630002] s (clearCounts s) := by
  unfold clearCounts
  extract_lets v0
  refine rf_cut (W := vS) v0 ?_ (fun h1 => ?_)
  · unfold v0
    refine rf_step (State.withVal_rf _ _) rfl rfl ?_
    exact rf_refl
  refine rf_step (State.setNum_rf _ _ _ _) rfl rfl ?_
  refine rf_step (State.setNum_rf _ _ _ _) rfl rfl ?_
  exact h1

theorem execCountClear_rf (x0 x1 s) :
    RF vOut [.reply, .values] [0x600002, 0x630002] s (execCountClear x0 x1 s) := by
  unfold execCountClear
  refine rf_next ?_
  refine State.actSel_rf rfl ?_ (fun k1 u0 => ?_)
  · exact rf_refl
  · refine rf_ok ?_
    refine rf_ite (fun _h2 => ?_) (fun _h3 => ?_)
    · refine rf_step (clearCounts_rf _) rfl rfl ?_
      exact rf_refl
    · exact rf_refl

theorem State.loadUnit_rf (x0 s x2) :
    RF vS [.values, .galley] [] s (State.loadUnit x0 s x2) := by
  unfold State.loadUnit
  extract_lets v0 v1
  refine rf_cut (W := vS) v1 ?_ (fun h2 => ?_)
  · unfold v1
    refine rf_step (State.setNum_rfv _ _ _ _) rfl rfl ?_
    exact rf_refl
  refine rf_step (State.setUnit_rf _ _ _ _) rfl rfl ?_
  exact h2

theorem execLoadWindowEnd_rf (s) :
    RF vOut [.values, .galley] [] s (execLoadWindowEnd s) := by
  unfold execLoadWindowEnd
  extract_lets v0 v1 v2
  refine rf_cut (W := vS) v1 ?_ (fun h3 => ?_)
  · unfold v1
    refine rf_foldl ?_ (fun t4 x5 h6 => ?_)
    · exact rf_refl
    · refine rf_foldl ?_ (fun t7 x8 h9 => ?_)
      · exact h6
      · refine rf_step (State.loadUnit_rf _ _ _) rfl rfl ?_
        exact h9
  refine rf_ite (fun _h10 => ?_) (fun _h11 => ?_)
  · refine rf_next ?_
    exact rf_refl
  · refine rf_next ?_
    clear_value v1
    refine rf_upd (b := v1) ?_ ⟨fun f hf hv => by cases f <;> first | exact absurd (by decide) hf | exact absurd rfl hv | rfl | exact ⟨rfl, rfl⟩ | exact ⟨rfl, rfl, rfl, rfl, rfl⟩, Or.inr fun _ _ => rfl⟩ (Keeps.of rfl (Nat.le_refl _) rfl)
    exact h3

theorem execFormeImage_rf (x0 x1 s) :
    RF vOut [.reply, .octets, .parts] [] s (execFormeImage x0 x1 s) := by
  unfold execFormeImage
  refine rf_next ?_
  refine State.actSel_rf rfl ?_ (fun k1 u0 => ?_)
  · exact rf_refl
  · refine rf_step (writeFormeImage_rf _ _ _) rfl rfl ?_
    exact rf_refl

theorem execFormeEnable_rf (x0 s) :
    RF vOut [.reply, .galley] [0x610003, 0x610008] s (execFormeEnable x0 s) := by
  unfold execFormeEnable
  refine rf_next ?_
  refine State.actSel_rf rfl ?_ (fun k1 u0 => ?_)
  · exact rf_refl
  · refine rf_step (enableForme_rf _ _ _) rfl rfl ?_
    exact rf_refl

theorem execFormeDisable_rf (x0 s) :
    RF vOut [.reply, .galley] [0x610003, 0x610008] s (execFormeDisable x0 s) := by
  unfold execFormeDisable
  refine rf_next ?_
  refine State.actSel_rf rfl ?_ (fun k1 u0 => ?_)
  · exact rf_refl
  · refine rf_step (enableForme_rf _ _ _) rfl rfl ?_
    exact rf_refl

theorem execCellEnable_rf (x0 x1 s) :
    RF vOut [.reply, .force, .galley] [0x601008] s (execCellEnable x0 x1 s) := by
  unfold execCellEnable
  refine rf_next ?_
  refine State.actSel_rf rfl ?_ (fun k1 u0 => ?_)
  · exact rf_refl
  · refine rf_step (enableCell_rf _ _ _) rfl rfl ?_
    exact rf_refl

theorem execSlotFormes_rf (x0 x1 s) :
    RF vOut [.reply, .force, .parts] [0x601007] s (execSlotFormes x0 x1 s) := by
  unfold execSlotFormes
  refine rf_next ?_
  refine State.actSel_rf rfl ?_ (fun k1 u0 => ?_)
  · exact rf_refl
  · refine rf_step (writeSlotFormes_rf _ _ _) rfl rfl ?_
    exact rf_refl

end Sys2Proof.Machine
end

