-- ==== Sys2Proof/Laws/FramesVxOps.lean ====
section
/-!
SUPPORT. What each operation of Machine/VxOps.lean may change, one lemma each.
-/

namespace Sys2Proof.Machine

set_option Elab.async false

open Sys2Proof

theorem State.setCore_rf (s x1 x2) :
    RF vS [.vx] [] s (State.setCore s x1 x2) := by
  unfold State.setCore
  extract_lets v0
  refine rf_upd (b := s) ?_ ⟨fun f hf hv => by cases f <;> first | exact absurd (by decide) hf | exact absurd rfl hv | rfl | exact ⟨rfl, rfl⟩ | exact ⟨rfl, rfl, rfl, rfl, rfl⟩, Or.inr fun _ _ => rfl⟩ (Keeps.of rfl (Nat.le_refl _) rfl)
  exact rf_refl

theorem State.trapCore_rf (s x1 x2 x3 x4 x5) :
    RF vS [.vx] [0x700010] s (State.trapCore s x1 x2 x3 x4 x5) := by
  unfold State.trapCore
  extract_lets v0
  refine rf_cut (W := vS) v0 ?_ (fun h1 => ?_)
  · unfold v0
    refine rf_step (State.setCore_rf _ _ _) rfl rfl ?_
    exact rf_refl
  refine rf_ite (fun _h2 => ?_) (fun _h3 => ?_)
  · refine rf_step (State.bump_rf _ _ _) rfl rfl ?_
    exact h1
  · exact h1

theorem State.illegal_rf (s x1 x2) :
    RF vS [.freeCtr, .vx] [0x700010] s (State.illegal s x1 x2) := by
  unfold State.illegal
  split
  rename_i w0 w1 w2 w3
  refine rf_pair_snd w3 ?_ (fun h4 => ?_)
  · refine rf_step (State.draw_rf _) rfl rfl ?_
    exact rf_refl
  refine rf_step (State.trapCore_rf _ _ _ _ _ _) rfl rfl ?_
  exact h4

theorem State.fetched_rf {F : List Fld} {O : List Nat} {s b : State} (hF : within? [.vx] F = true)
    (hO : within? [0x700010] O = true) {v n : Nat} {f : State → State}
    (h0 : RF vS F O s b) (h : ∀ u, RF vS F O u (f u)) : RF vS F O s (b.fetched v n f) := by
  unfold State.fetched
  extract_lets c
  refine rf_ite (fun _ => h0) (fun _ => ?_)
  exact rf_ite (fun _ => h0.then ((State.trapCore_rf _ _ _ _ _ _).mono hF hO)) (fun _ => rf_trans h0 (h _))

theorem State.vrun_rf (s x1 x2 x3) :
    RF vS [.freeCtr, .vx] [0x700010] s (State.vrun s x1 x2 x3) := by
  unfold State.vrun
  refine State.fetched_rf rfl rfl ?_ (fun u0 => ?_)
  · exact rf_refl
  · split
    · rename_i w1 w2 w3
      refine rf_step (State.setCore_rf _ _ _) rfl rfl ?_
      exact rf_refl
    · rename_i w4 w5
      refine rf_step (State.illegal_rf _ _ _) rfl rfl ?_
      exact rf_refl

end Sys2Proof.Machine
end

