-- ==== Sys2Proof/Laws/FramesVxMem.lean ====
section
/-!
SUPPORT. What each operation of Machine/VxMem.lean may change, one lemma each.
-/

namespace Sys2Proof.Machine

set_option Elab.async false

open Sys2Proof

theorem State.vxRead_rf (s x1 x2 x3) :
    RF vSnd [.freeCtr, .mode, .octets, .time, .vx, .mogil, .fab, .pot, .sec, .res, .alarms] [0x200004, 0x200005, 0x200006, 0x900001, 0x903007, 0x91000B, 0x91000E, 0xA4000C, 0xB10004, 0xB20006, 0xB20007, 0xB2000F] s (State.vxRead s x1 x2 x3) := by
  unfold State.vxRead
  extract_lets v0
  refine rf_ite (fun _h1 => ?_) (fun _h2 => ?_)
  · refine rf_snd ?_
    exact rf_refl
  · refine rf_ite (fun _h3 => ?_) (fun _h4 => ?_)
    · refine rf_snd ?_
      exact rf_refl
    · split
      · rename_i w5 w6 w7 w8
        refine rf_pair_22 w8 ?_ (fun h9 => ?_)
        · refine rf_step (State.memRead_rf _ _ _ _) rfl rfl ?_
          exact rf_refl
        refine rf_snd ?_
        exact h9
      · rename_i w10 w11 w12 w13 w14 w15
        refine rf_pair_22 w15 ?_ (fun h16 => ?_)
        · refine rf_step (State.memRead_rf _ _ _ _) rfl rfl ?_
          exact rf_refl
        refine rf_snd ?_
        exact h16

theorem State.fillLine_rf (s x1 x2) :
    RF vS [.freeCtr, .vx] [] s (State.fillLine s x1 x2) := by
  unfold State.fillLine
  extract_lets v0 v1 v2
  refine rf_ite (fun _h3 => ?_) (fun _h4 => ?_)
  · refine rf_step (State.setCore_rf _ _ _) rfl rfl ?_
    exact rf_refl
  · split
    rename_i w5 w6 w7 w8
    refine rf_pair_snd w8 ?_ (fun h9 => ?_)
    · refine rf_step (State.draw_rf _) rfl rfl ?_
      exact rf_refl
    extract_lets v10
    refine rf_step (State.setCore_rf _ _ _) rfl rfl ?_
    exact h9

theorem State.cacheRead_rf (s x1 x2 x3 x4) :
    RF vSnd [.freeCtr, .vx] [] s (State.cacheRead s x1 x2 x3 x4) := by
  unfold State.cacheRead
  refine rf_ite (fun _h0 => ?_) (fun _h1 => ?_)
  · refine rf_snd ?_
    exact rf_refl
  · split
    · rename_i w2 w3 w4
      refine rf_snd ?_
      exact rf_refl
    · rename_i w5 w6
      refine rf_snd ?_
      refine rf_step (State.fillLine_rf _ _ _) rfl rfl ?_
      exact rf_refl

theorem State.vxEmitted_rf (s x1 x2) :
    RF vS [.vx] [] s (State.vxEmitted s x1 x2) := by
  unfold State.vxEmitted
  extract_lets v0
  refine rf_ite (fun _h1 => ?_) (fun _h2 => ?_)
  · refine rf_step (State.setCore_rf _ _ _) rfl rfl ?_
    exact rf_refl
  · exact rf_refl

theorem State.vxWrite_rf (s x1 x2 x3 x4) :
    RF vSnd [.freeCtr, .mode, .octets, .time, .galley, .vx, .mogil, .mem, .fab, .pot, .sec, .res, .alarms] [0x200004, 0x200005, 0x200006, 0x900001, 0x903007, 0x91000B, 0x91000E, 0x91000F, 0xA4000C, 0xB10004, 0xB20006, 0xB20007, 0xB2000F] s (State.vxWrite s x1 x2 x3 x4) := by
  unfold State.vxWrite
  extract_lets v0
  refine rf_ite (fun _h1 => ?_) (fun _h2 => ?_)
  · refine rf_snd ?_
    exact rf_refl
  · refine rf_ite (fun _h3 => ?_) (fun _h4 => ?_)
    · refine rf_snd ?_
      refine rf_step (State.markDirty_rf _ _ _) rfl rfl ?_
      refine rf_step (State.storeB_rf _ _ _) rfl rfl ?_
      exact rf_refl
    · split
      · rename_i w5 w6 w7
        refine rf_pair_snd w7 ?_ (fun h8 => ?_)
        · refine rf_step (State.memWrite_rf _ _ _ _) rfl rfl ?_
          exact rf_refl
        extract_lets v9
        refine rf_cut (W := vS) v9 ?_ (fun h10 => ?_)
        · unfold v9
          refine rf_step (State.vxEmitted_rf _ _ _) rfl rfl ?_
          exact h8
        refine rf_snd ?_
        refine rf_step (State.setCore_rf _ _ _) rfl rfl ?_
        exact h10
      · rename_i w11 w12 w13 w14 w15
        refine rf_pair_snd w15 ?_ (fun h16 => ?_)
        · refine rf_step (State.memWrite_rf _ _ _ _) rfl rfl ?_
          exact rf_refl
        refine rf_snd ?_
        exact h16

theorem loadFields_rf (x0 x1 x2 x3 x4 x5 s) :
    RF vSnd [.freeCtr, .mode, .octets, .time, .vx, .mogil, .fab, .pot, .sec, .res, .alarms] [0x200004, 0x200005, 0x200006, 0x900001, 0x903007, 0x91000B, 0x91000E, 0xA4000C, 0xB10004, 0xB20006, 0xB20007, 0xB2000F] s (loadFields x0 x1 x2 x3 x4 x5 s) := by
  induction x4 generalizing x0 x1 x2 x3 x5 s
  · unfold loadFields
    refine rf_snd ?_
    exact rf_refl
  · rename_i n ih
    unfold loadFields
    dsimp only
    refine rf_ite (fun _h0 => ?_) (fun _h1 => ?_)
    · refine rf_snd ?_
      exact rf_refl
    · split
      · rename_i w2 w3 w4
        refine rf_pair_snd w4 ?_ (fun h5 => ?_)
        · refine rf_step (State.vxRead_rf _ _ _ _) rfl rfl ?_
          exact rf_refl
        refine rf_snd ?_
        exact h5
      · rename_i w6 w7 w8 w9
        refine rf_pair_snd w9 ?_ (fun h10 => ?_)
        · refine rf_step (State.vxRead_rf _ _ _ _) rfl rfl ?_
          exact rf_refl
        refine rf_snd ?_
        refine rf_of_snd ?_
        refine rf_trans ?_ (ih ..)
        exact h10

theorem storeFields_rf (x0 x1 x2 x3 x4 s) :
    RF vSnd [.freeCtr, .mode, .octets, .time, .galley, .vx, .mogil, .mem, .fab, .pot, .sec, .res, .alarms] [0x200004, 0x200005, 0x200006, 0x900001, 0x903007, 0x91000B, 0x91000E, 0x91000F, 0xA4000C, 0xB10004, 0xB20006, 0xB20007, 0xB2000F] s (storeFields x0 x1 x2 x3 x4 s) := by
  unfold storeFields
  refine rf_foldl_snd ?_ (fun a3 t0 x1 h2 => ?_)
  · refine rf_snd ?_
    exact rf_refl
  · extract_lets v4
    split
    · rename_i w5 w6 w7 w8
      refine rf_pair_snd w8 ?_ (fun h9 => ?_)
      · refine rf_snd ?_
        exact h2
      refine rf_snd ?_
      exact h9
    · rename_i w10 w11 w12
      refine rf_pair_snd w12 ?_ (fun h13 => ?_)
      · refine rf_snd ?_
        exact h2
      refine rf_ite (fun _h14 => ?_) (fun _h15 => ?_)
      · refine rf_snd ?_
        exact rf_refl
      · split
        · rename_i w16 w17 w18
          refine rf_pair_snd w18 ?_ (fun h19 => ?_)
          · refine rf_step (State.vxWrite_rf _ _ _ _ _) rfl rfl ?_
            exact h13
          refine rf_snd ?_
          exact h19
        · rename_i w20 w21 w22
          refine rf_pair_snd w22 ?_ (fun h23 => ?_)
          · refine rf_step (State.vxWrite_rf _ _ _ _ _) rfl rfl ?_
            exact h13
          refine rf_snd ?_
          exact RF.mk1 ((RF.frame h23).trans ⟨fun f hf hv => by cases f <;> first | exact absurd (by decide) hf | exact absurd rfl hv | rfl | exact ⟨rfl, rfl⟩ | exact ⟨rfl, rfl, rfl, rfl, rfl⟩, Or.inr fun _ _ => rfl⟩) ⟨fun w => w, h23.kept.ctr, h23.kept.fuse⟩

theorem loadRun_rf (x0 x1 x2 x3 x4 x5 x6 s) :
    RF v22 [.freeCtr, .mode, .octets, .time, .vx, .mogil, .fab, .pot, .sec, .res, .alarms] [0x200004, 0x200005, 0x200006, 0x900001, 0x903007, 0x91000B, 0x91000E, 0xA4000C, 0xB10004, 0xB20006, 0xB20007, 0xB2000F] s (loadRun x0 x1 x2 x3 x4 x5 x6 s) := by
  induction x4 generalizing x0 x1 x2 x3 x5 x6 s
  · unfold loadRun
    refine rf_22 ?_
    refine rf_snd ?_
    exact rf_refl
  · rename_i n ih
    unfold loadRun
    dsimp only
    refine rf_ite (fun _h0 => ?_) (fun _h1 => ?_)
    · refine rf_ite (fun _h2 => ?_) (fun _h3 => ?_)
      · refine rf_22 ?_
        refine rf_snd ?_
        exact rf_refl
      · split
        · rename_i w4 w5 w6 w7 w8 w9
          refine rf_pair_snd w9 ?_ (fun h10 => ?_)
          · refine rf_step (loadFields_rf _ _ _ _ _ _ _) rfl rfl ?_
            exact rf_refl
          refine rf_22 ?_
          refine rf_snd ?_
          exact h10
        · rename_i w11 w12 w13 w14
          refine rf_pair_snd w14 ?_ (fun h15 => ?_)
          · refine rf_step (loadFields_rf _ _ _ _ _ _ _) rfl rfl ?_
            exact rf_refl
          refine rf_22 ?_
          refine rf_of_22 ?_
          refine rf_trans ?_ (ih ..)
          exact h15
    · refine rf_22 ?_
      refine rf_of_22 ?_
      refine rf_trans ?_ (ih ..)
      exact rf_refl

theorem storeRun_rf (x0 x1 x2 x3 x4 x5 x6 s) :
    RF vSnd [.freeCtr, .mode, .octets, .time, .galley, .vx, .mogil, .mem, .fab, .pot, .sec, .res, .alarms] [0x200004, 0x200005, 0x200006, 0x900001, 0x903007, 0x91000B, 0x91000E, 0x91000F, 0xA4000C, 0xB10004, 0xB20006, 0xB20007, 0xB2000F] s (storeRun x0 x1 x2 x3 x4 x5 x6 s) := by
  induction x5 generalizing x0 x1 x2 x3 x4 x6 s
  · unfold storeRun
    refine rf_snd ?_
    exact rf_refl
  · rename_i n ih
    unfold storeRun
    refine rf_ite (fun _h0 => ?_) (fun _h1 => ?_)
    · split
      · rename_i w2 w3 w4 w5 w6
        refine rf_pair_snd w6 ?_ (fun h7 => ?_)
        · refine rf_step (storeFields_rf _ _ _ _ _ _) rfl rfl ?_
          exact rf_refl
        refine rf_snd ?_
        exact h7
      · rename_i w8 w9 w10
        refine rf_pair_snd w10 ?_ (fun h11 => ?_)
        · refine rf_step (storeFields_rf _ _ _ _ _ _) rfl rfl ?_
          exact rf_refl
        refine rf_trans ?_ (ih ..)
        exact h11
    · refine rf_trans ?_ (ih ..)
      exact rf_refl

theorem State.endMem_rf (s x1 x2 x3) :
    RF vS [.vx] [0x700010] s (State.endMem s x1 x2 x3) := by
  unfold State.endMem
  extract_lets v0 v1
  split
  · rename_i w2 w3 w4 w5
    refine rf_step (State.trapCore_rf _ _ _ _ _ _) rfl rfl ?_
    exact rf_refl
  · rename_i w6 w7
    refine rf_step (State.setCore_rf _ _ _) rfl rfl ?_
    exact rf_refl
  · rename_i w8
    split
    · rename_i w9 w10 w11
      refine rf_step (State.trapCore_rf _ _ _ _ _ _) rfl rfl ?_
      exact rf_refl
    · rename_i w12
      refine rf_step (State.setCore_rf _ _ _) rfl rfl ?_
      exact rf_refl

theorem State.vmem_rf (s x1 x2 x3) :
    RF vS [.freeCtr, .mode, .octets, .time, .galley, .vx, .mogil, .mem, .fab, .pot, .sec, .res, .alarms] [0x200004, 0x200005, 0x200006, 0x700010, 0x900001, 0x903007, 0x91000B, 0x91000E, 0x91000F, 0xA4000C, 0xB10004, 0xB20006, 0xB20007, 0xB2000F] s (State.vmem s x1 x2 x3) := by
  unfold State.vmem
  extract_lets v0
  refine State.fetched_rf rfl rfl ?_ (fun u1 => ?_)
  · exact rf_refl
  · extract_lets v2 v3 v4 v5 v6 v7
    refine rf_ite (fun _h8 => ?_) (fun _h9 => ?_)
    · refine rf_step (State.illegal_rf _ _ _) rfl rfl ?_
      exact rf_refl
    · refine rf_ite (fun _h10 => ?_) (fun _h11 => ?_)
      · refine rf_step (State.setCore_rf _ _ _) rfl rfl ?_
        exact rf_refl
      · refine rf_ite (fun _h12 => ?_) (fun _h13 => ?_)
        · split
          rename_i w14 w15 w16 w17
          refine rf_pair_snd w17 ?_ (fun h18 => ?_)
          · refine rf_step (storeRun_rf _ _ _ _ _ _ _ _) rfl rfl ?_
            exact rf_refl
          refine rf_step (State.endMem_rf _ _ _ _) rfl rfl ?_
          exact h18
        · split
          rename_i w19 w20 w21 w22 w23
          refine rf_pair_22 w23 ?_ (fun h24 => ?_)
          · refine rf_step (loadRun_rf _ _ _ _ _ _ _ _) rfl rfl ?_
            exact rf_refl
          extract_lets v25 v26 v27
          refine rf_step (State.endMem_rf _ _ _ _) rfl rfl ?_
          refine rf_step (State.setCore_rf _ _ _) rfl rfl ?_
          exact h24

theorem execVle_rf (x0 s) :
    RF vOut [.freeCtr, .mode, .octets, .time, .galley, .vx, .mogil, .mem, .fab, .pot, .sec, .res, .alarms] [0x200004, 0x200005, 0x200006, 0x700010, 0x900001, 0x903007, 0x91000B, 0x91000E, 0x91000F, 0xA4000C, 0xB10004, 0xB20006, 0xB20007, 0xB2000F] s (execVle x0 s) := by
  unfold execVle
  refine rf_next ?_
  refine rf_step (State.vmem_rf _ _ _ _) rfl rfl ?_
  exact rf_refl

theorem execVleff_rf (x0 s) :
    RF vOut [.freeCtr, .mode, .octets, .time, .galley, .vx, .mogil, .mem, .fab, .pot, .sec, .res, .alarms] [0x200004, 0x200005, 0x200006, 0x700010, 0x900001, 0x903007, 0x91000B, 0x91000E, 0x91000F, 0xA4000C, 0xB10004, 0xB20006, 0xB20007, 0xB2000F] s (execVleff x0 s) := by
  unfold execVleff
  refine rf_next ?_
  refine rf_step (State.vmem_rf _ _ _ _) rfl rfl ?_
  exact rf_refl

theorem execVlseg_rf (x0 s) :
    RF vOut [.freeCtr, .mode, .octets, .time, .galley, .vx, .mogil, .mem, .fab, .pot, .sec, .res, .alarms] [0x200004, 0x200005, 0x200006, 0x700010, 0x900001, 0x903007, 0x91000B, 0x91000E, 0x91000F, 0xA4000C, 0xB10004, 0xB20006, 0xB20007, 0xB2000F] s (execVlseg x0 s) := by
  unfold execVlseg
  refine rf_next ?_
  refine rf_step (State.vmem_rf _ _ _ _) rfl rfl ?_
  exact rf_refl

theorem execVlsegff_rf (x0 s) :
    RF vOut [.freeCtr, .mode, .octets, .time, .galley, .vx, .mogil, .mem, .fab, .pot, .sec, .res, .alarms] [0x200004, 0x200005, 0x200006, 0x700010, 0x900001, 0x903007, 0x91000B, 0x91000E, 0x91000F, 0xA4000C, 0xB10004, 0xB20006, 0xB20007, 0xB2000F] s (execVlsegff x0 s) := by
  unfold execVlsegff
  refine rf_next ?_
  refine rf_step (State.vmem_rf _ _ _ _) rfl rfl ?_
  exact rf_refl

theorem execVse_rf (x0 s) :
    RF vOut [.freeCtr, .mode, .octets, .time, .galley, .vx, .mogil, .mem, .fab, .pot, .sec, .res, .alarms] [0x200004, 0x200005, 0x200006, 0x700010, 0x900001, 0x903007, 0x91000B, 0x91000E, 0x91000F, 0xA4000C, 0xB10004, 0xB20006, 0xB20007, 0xB2000F] s (execVse x0 s) := by
  unfold execVse
  refine rf_next ?_
  refine rf_step (State.vmem_rf _ _ _ _) rfl rfl ?_
  exact rf_refl

theorem execVsseg_rf (x0 s) :
    RF vOut [.freeCtr, .mode, .octets, .time, .galley, .vx, .mogil, .mem, .fab, .pot, .sec, .res, .alarms] [0x200004, 0x200005, 0x200006, 0x700010, 0x900001, 0x903007, 0x91000B, 0x91000E, 0x91000F, 0xA4000C, 0xB10004, 0xB20006, 0xB20007, 0xB2000F] s (execVsseg x0 s) := by
  unfold execVsseg
  refine rf_next ?_
  refine rf_step (State.vmem_rf _ _ _ _) rfl rfl ?_
  exact rf_refl

theorem execVlse_rf (x0 s) :
    RF vOut [.freeCtr, .mode, .octets, .time, .galley, .vx, .mogil, .mem, .fab, .pot, .sec, .res, .alarms] [0x200004, 0x200005, 0x200006, 0x700010, 0x900001, 0x903007, 0x91000B, 0x91000E, 0x91000F, 0xA4000C, 0xB10004, 0xB20006, 0xB20007, 0xB2000F] s (execVlse x0 s) := by
  unfold execVlse
  refine rf_next ?_
  refine rf_step (State.vmem_rf _ _ _ _) rfl rfl ?_
  exact rf_refl

theorem execVsse_rf (x0 s) :
    RF vOut [.freeCtr, .mode, .octets, .time, .galley, .vx, .mogil, .mem, .fab, .pot, .sec, .res, .alarms] [0x200004, 0x200005, 0x200006, 0x700010, 0x900001, 0x903007, 0x91000B, 0x91000E, 0x91000F, 0xA4000C, 0xB10004, 0xB20006, 0xB20007, 0xB2000F] s (execVsse x0 s) := by
  unfold execVsse
  refine rf_next ?_
  refine rf_step (State.vmem_rf _ _ _ _) rfl rfl ?_
  exact rf_refl

theorem execVlxe_rf (x0 s) :
    RF vOut [.freeCtr, .mode, .octets, .time, .galley, .vx, .mogil, .mem, .fab, .pot, .sec, .res, .alarms] [0x200004, 0x200005, 0x200006, 0x700010, 0x900001, 0x903007, 0x91000B, 0x91000E, 0x91000F, 0xA4000C, 0xB10004, 0xB20006, 0xB20007, 0xB2000F] s (execVlxe x0 s) := by
  unfold execVlxe
  refine rf_next ?_
  refine rf_step (State.vmem_rf _ _ _ _) rfl rfl ?_
  exact rf_refl

theorem execVsxe_rf (x0 s) :
    RF vOut [.freeCtr, .mode, .octets, .time, .galley, .vx, .mogil, .mem, .fab, .pot, .sec, .res, .alarms] [0x200004, 0x200005, 0x200006, 0x700010, 0x900001, 0x903007, 0x91000B, 0x91000E, 0x91000F, 0xA4000C, 0xB10004, 0xB20006, 0xB20007, 0xB2000F] s (execVsxe x0 s) := by
  unfold execVsxe
  refine rf_next ?_
  refine rf_step (State.vmem_rf _ _ _ _) rfl rfl ?_
  exact rf_refl

theorem execVlsseg_rf (x0 s) :
    RF vOut [.freeCtr, .mode, .octets, .time, .galley, .vx, .mogil, .mem, .fab, .pot, .sec, .res, .alarms] [0x200004, 0x200005, 0x200006, 0x700010, 0x900001, 0x903007, 0x91000B, 0x91000E, 0x91000F, 0xA4000C, 0xB10004, 0xB20006, 0xB20007, 0xB2000F] s (execVlsseg x0 s) := by
  unfold execVlsseg
  refine rf_next ?_
  refine rf_step (State.vmem_rf _ _ _ _) rfl rfl ?_
  exact rf_refl

theorem execVssseg_rf (x0 s) :
    RF vOut [.freeCtr, .mode, .octets, .time, .galley, .vx, .mogil, .mem, .fab, .pot, .sec, .res, .alarms] [0x200004, 0x200005, 0x200006, 0x700010, 0x900001, 0x903007, 0x91000B, 0x91000E, 0x91000F, 0xA4000C, 0xB10004, 0xB20006, 0xB20007, 0xB2000F] s (execVssseg x0 s) := by
  unfold execVssseg
  refine rf_next ?_
  refine rf_step (State.vmem_rf _ _ _ _) rfl rfl ?_
  exact rf_refl

end Sys2Proof.Machine
end

