-- ==== Sys2Proof/Laws/FramesVxSys.lean ====
section
/-!
SUPPORT. What each operation of Machine/VxSys.lean may change, one lemma each.
-/

namespace Sys2Proof.Machine

set_option Elab.async false

open Sys2Proof

theorem execCpOpComplete_rf (x0 x1 s) :
    RF vOut [.vx] [] s (execCpOpComplete x0 x1 s) := by
  unfold execCpOpComplete
  extract_lets v0
  refine rf_ite (fun _h1 => ?_) (fun _h2 => ?_)
  · refine rf_next ?_
    refine rf_step (State.setCore_rf _ _ _) rfl rfl ?_
    exact rf_refl
  · refine rf_next ?_
    exact rf_refl

theorem State.csrInstr_rf (s x1 x2 x3 x4 x5) :
    RF vS [.freeCtr, .vx] [0x700010] s (State.csrInstr s x1 x2 x3 x4 x5) := by
  unfold State.csrInstr
  extract_lets v0 v1 v2 v3 v4 v5 v6 v7 v8 v9
  refine rf_cut (W := vS) v0 ?_ (fun h10 => ?_)
  · unfold v0
    refine rf_ite (fun _h11 => ?_) (fun _h12 => ?_)
    · refine rf_step (State.setCore_rf _ _ _) rfl rfl ?_
      exact rf_refl
    · exact rf_refl
  refine rf_cut (W := vS) v5 ?_ (fun h13 => ?_)
  · unfold v5
    refine rf_ite (fun _h14 => ?_) (fun _h15 => ?_)
    · refine rf_upd (b := v0) ?_ ⟨fun f hf hv => by cases f <;> first | exact absurd (by decide) hf | exact absurd rfl hv | rfl | exact ⟨rfl, rfl⟩ | exact ⟨rfl, rfl, rfl, rfl, rfl⟩, Or.inr fun _ _ => rfl⟩ (Keeps.of rfl (Nat.le_add_right _ _) rfl)
      exact h10
    · exact h10
  refine rf_ite (fun _h16 => ?_) (fun _h17 => ?_)
  · refine rf_step (State.illegal_rf _ _ _) rfl rfl ?_
    exact h10
  · refine rf_step (State.setCore_rf _ _ _) rfl rfl ?_
    exact h13

theorem execVstatusAccess_rf (x0 x1 x2 x3 s) :
    RF vOut [.freeCtr, .vx] [0x700010] s (execVstatusAccess x0 x1 x2 x3 s) := by
  unfold execVstatusAccess
  refine rf_next ?_
  refine State.fetched_rf rfl rfl ?_ (fun u0 => ?_)
  · exact rf_refl
  · refine rf_step (State.csrInstr_rf _ _ _ _ _ _) rfl rfl ?_
    exact rf_refl

theorem execVlWWrite_rf (x0 x1 s) :
    RF vOut [.freeCtr, .vx] [0x700010] s (execVlWWrite x0 x1 s) := by
  unfold execVlWWrite
  refine rf_next ?_
  refine State.fetched_rf rfl rfl ?_ (fun u0 => ?_)
  · exact rf_refl
  · refine rf_step (State.csrInstr_rf _ _ _ _ _ _) rfl rfl ?_
    exact rf_refl

theorem execVcfgWWrite_rf (x0 x1 s) :
    RF vOut [.freeCtr, .vx] [0x700010] s (execVcfgWWrite x0 x1 s) := by
  unfold execVcfgWWrite
  refine rf_next ?_
  refine State.fetched_rf rfl rfl ?_ (fun u0 => ?_)
  · exact rf_refl
  · refine rf_step (State.csrInstr_rf _ _ _ _ _ _) rfl rfl ?_
    exact rf_refl

theorem execInterruptTaken_rf (x0 x1 x2 s) :
    RF vOut [.freeCtr, .mode, .octets, .time, .galley, .vx, .mogil, .mem, .fab, .pot, .sec, .res, .alarms] [0x200004, 0x200005, 0x200006, 0x700010, 0x900001, 0x903007, 0x91000B, 0x91000E, 0x91000F, 0xA4000C, 0xB10004, 0xB20006, 0xB20007, 0xB2000F] s (execInterruptTaken x0 x1 x2 s) := by
  unfold execInterruptTaken
  extract_lets v0
  refine rf_ite (fun _h1 => ?_) (fun _h2 => ?_)
  · refine rf_next ?_
    exact rf_refl
  · split
    · rename_i w3
      refine rf_next ?_
      refine rf_step (State.trapCore_rf _ _ _ _ _ _) rfl rfl ?_
      exact rf_refl
    · rename_i w4 w5 w6 w7
      refine rf_ite (fun _h8 => ?_) (fun _h9 => ?_)
      · refine rf_next ?_
        refine rf_step (State.vmem_rf _ _ _ _) rfl rfl ?_
        exact rf_refl
      · refine rf_next ?_
        exact rf_refl

theorem execXret_rf (x0 x1 s) :
    RF vOut [.freeCtr, .vx] [0x700010] s (execXret x0 x1 s) := by
  unfold execXret
  refine rf_next ?_
  refine State.fetched_rf rfl rfl ?_ (fun u0 => ?_)
  · exact rf_refl
  · extract_lets v1
    refine rf_ite (fun _h2 => ?_) (fun _h3 => ?_)
    · refine rf_step (State.setCore_rf _ _ _) rfl rfl ?_
      exact rf_refl
    · refine rf_step (State.illegal_rf _ _ _) rfl rfl ?_
      exact rf_refl

theorem State.clearCore_rf (s x1) :
    RF vS [.vx, .mem] [0x700011, 0x700012] s (State.clearCore s x1) := by
  unfold State.clearCore
  extract_lets v0 v1 v2 v3
  refine rf_cut (W := vS) v3 ?_ (fun h4 => ?_)
  · unfold v3
    refine rf_step (State.setCore_rf _ _ _) rfl rfl ?_
    refine rf_upd (b := s) ?_ ⟨fun f hf hv => by cases f <;> first | exact absurd (by decide) hf | exact absurd rfl hv | rfl | exact ⟨rfl, rfl⟩ | exact ⟨rfl, rfl, rfl, rfl, rfl⟩, Or.inr fun _ _ => rfl⟩ (Keeps.ofMem (fun w => Memory.wf_zeros _ _ (fun k => localBase x1 + 2048 * k) _ w) rfl rfl)
    exact rf_refl
  refine rf_step (State.bumpBy_rf _ _ _ _) rfl rfl ?_
  refine rf_step (State.bump_rf _ _ _) rfl rfl ?_
  exact h4

theorem State.deliverVx_rf (s x1 x2 x3) :
    RF vS [.vx, .mem] [0x70000B, 0x70000D, 0x700011, 0x700012] s (State.deliverVx s x1 x2 x3) := by
  unfold State.deliverVx
  extract_lets v0 v1 v2 v3 v4 v5 v6 v7
  refine rf_cut (W := vS) v4 ?_ (fun h8 => ?_)
  · unfold v4
    refine rf_step (State.bump_rf _ _ _) rfl rfl ?_
    refine rf_step (State.setCore_rf _ _ _) rfl rfl ?_
    exact rf_refl
  refine rf_cut (W := vS) v5 ?_ (fun h9 => ?_)
  · unfold v5
    refine rf_step (State.setNum_rf _ _ _ _) rfl rfl ?_
    exact h8
  refine rf_cut (W := vS) v6 ?_ (fun h10 => ?_)
  · unfold v6
    refine rf_ite (fun _h11 => ?_) (fun _h12 => ?_)
    · exact h9
    · refine rf_step (State.clearCore_rf _ _) rfl rfl ?_
      exact h9
  refine rf_step (State.setCore_rf _ _ _) rfl rfl ?_
  exact h10

theorem execVxWfs_rf (x0 x1 x2 x3 x4 s) :
    RF vOut [.freeCtr, .vx] [0x700010] s (execVxWfs x0 x1 x2 x3 x4 s) := by
  unfold execVxWfs
  refine rf_next ?_
  refine State.fetched_rf rfl rfl ?_ (fun u0 => ?_)
  · exact rf_refl
  · extract_lets v1
    refine rf_ite (fun _h2 => ?_) (fun _h3 => ?_)
    · refine rf_step (State.setCore_rf _ _ _) rfl rfl ?_
      exact rf_refl
    · refine rf_step (State.illegal_rf _ _ _) rfl rfl ?_
      exact rf_refl

theorem State.unitAlarm_rf (s x1 x2) :
    RF vS [.freeCtr, .octets, .pot, .alarms] [0xB20006, 0xB20007, 0xB2000F] s (State.unitAlarm s x1 x2) := by
  unfold State.unitAlarm
  extract_lets v0
  refine rf_cut (W := vS) v0 ?_ (fun h1 => ?_)
  · unfold v0
    refine rf_step (State.raise_rf _ _ _ _ _) rfl rfl ?_
    exact rf_refl
  refine rf_ite (fun _h2 => ?_) (fun _h3 => ?_)
  · refine rf_step (State.raise_rf _ _ _ _ _) rfl rfl ?_
    exact rf_refl
  · refine rf_ite (fun _h4 => ?_) (fun _h5 => ?_)
    · refine rf_ite (fun _h6 => ?_) (fun _h7 => ?_)
      · refine rf_step (State.raise_rf _ _ _ _ _) rfl rfl ?_
        exact h1
      · exact h1
    · refine rf_ite (fun _h8 => ?_) (fun _h9 => ?_)
      · refine rf_step (State.raise_rf _ _ _ _ _) rfl rfl ?_
        exact rf_refl
      · refine rf_step (State.raise_rf _ _ _ _ _) rfl rfl ?_
        exact rf_refl

theorem State.sendDone_rf (s x1 x2 x3 x4 x5 x6 x7) :
    RF vS [.freeCtr, .mode, .values, .octets, .force, .galley, .vx, .edge, .front, .fab, .pot, .res, .alarms] [0x200004, 0x200005, 0x200006, 0x200007, 0x600008, 0x600009, 0x60000A, 0x60000C, 0x60000D, 0x60000E, 0x60000F, 0x600013, 0x60001D, 0x620007, 0x620009, 0x700009, 0x80000E, 0xB20006, 0xB20007, 0xB2000F, 0xE00006] s (State.sendDone s x1 x2 x3 x4 x5 x6 x7) := by
  unfold State.sendDone
  refine rf_ite (fun _h0 => ?_) (fun _h1 => ?_)
  · refine rf_step (State.unitAlarm_rf _ _ _) rfl rfl ?_
    refine rf_step (State.unitFault_rf _ _ _ _ _ _) rfl rfl ?_
    exact rf_refl
  · refine rf_ite (fun _h2 => ?_) (fun _h3 => ?_)
    · refine rf_step (State.slugFaultAlarm_rf _ _ _) rfl rfl ?_
      exact rf_refl
    · refine rf_step (State.complete_rf _ _) rfl rfl ?_
      exact rf_refl

theorem execVxDone_rf (x0 x1 x2 x3 x4 s) :
    RF vOut [.freeCtr, .mode, .values, .octets, .force, .galley, .vx, .edge, .front, .fab, .pot, .res, .alarms] [0x200004, 0x200005, 0x200006, 0x200007, 0x600008, 0x600009, 0x60000A, 0x60000C, 0x60000D, 0x60000E, 0x60000F, 0x600013, 0x60001D, 0x620007, 0x620009, 0x700009, 0x700010, 0x80000E, 0xB20006, 0xB20007, 0xB2000F, 0xE00006] s (execVxDone x0 x1 x2 x3 x4 s) := by
  unfold execVxDone
  refine rf_next ?_
  refine State.fetched_rf rfl rfl ?_ (fun u0 => ?_)
  · exact rf_refl
  · extract_lets v1 v2 v3 v4
    refine rf_ite (fun _h5 => ?_) (fun _h6 => ?_)
    · refine rf_step (State.sendDone_rf _ _ _ _ _ _ _ _) rfl rfl ?_
      refine rf_step (State.setCore_rf _ _ _) rfl rfl ?_
      exact rf_refl
    · refine rf_step (State.illegal_rf _ _ _) rfl rfl ?_
      exact rf_refl

theorem execVxUnitFault_rf (x0 x1 s) :
    RF vOut [.freeCtr, .mode, .values, .octets, .force, .galley, .vx, .edge, .front, .fab, .pot, .res, .alarms] [0x200004, 0x200005, 0x200006, 0x200007, 0x600008, 0x600009, 0x60000A, 0x60000C, 0x60000D, 0x60000E, 0x60001D, 0x620007, 0x620009, 0x700009, 0x70000F, 0xB20006, 0xB20007, 0xB2000F, 0xE00006] s (execVxUnitFault x0 x1 s) := by
  unfold execVxUnitFault
  extract_lets v0 v1 v2
  refine rf_cut (W := vS) v1 ?_ (fun h3 => ?_)
  · unfold v1
    refine rf_step (State.setCore_rf _ _ _) rfl rfl ?_
    exact rf_refl
  refine rf_cut (W := vS) v2 ?_ (fun h4 => ?_)
  · unfold v2
    refine rf_ite (fun _h5 => ?_) (fun _h6 => ?_)
    · refine rf_step (State.bump_rf _ _ _) rfl rfl ?_
      exact h3
    · exact h3
  refine rf_ite (fun _h7 => ?_) (fun _h8 => ?_)
  · refine rf_next ?_
    exact rf_refl
  · split
    · rename_i w9
      refine rf_next ?_
      refine rf_step (State.corrected_rf _ _ _ _ _ _ _ _) rfl rfl ?_
      exact rf_refl
    · rename_i w10 w11
      refine rf_ite (fun _h12 => ?_) (fun _h13 => ?_)
      · refine rf_next ?_
        exact rf_refl
      · refine rf_next ?_
        refine rf_step (State.unitAlarm_rf _ _ _) rfl rfl ?_
        refine rf_step (State.unitFault_rf _ _ _ _ _ _) rfl rfl ?_
        exact h4

theorem execCoreImageSwitch_rf (x0 s) :
    RF vOut [.vx] [] s (execCoreImageSwitch x0 s) := by
  unfold execCoreImageSwitch
  extract_lets v0 v1
  refine rf_ite (fun _h2 => ?_) (fun _h3 => ?_)
  · split
    · rename_i w4 w5 w6
      refine rf_ite (fun _h7 => ?_) (fun _h8 => ?_)
      · refine rf_next ?_
        exact rf_refl
      · refine rf_next ?_
        refine rf_step (State.setCore_rf _ _ _) rfl rfl ?_
        exact rf_refl
    · rename_i w9 w10
      refine rf_next ?_
      exact rf_refl
  · refine rf_next ?_
    exact rf_refl

theorem writeVxImage_rf (x0 x1 s) :
    RF vOk [.vx] [0x700006] s (writeVxImage x0 x1 s) := by
  unfold writeVxImage
  extract_lets v0
  refine rf_ite (fun _h1 => ?_) (fun _h2 => ?_)
  · exact rf_error _
  · refine rf_ok ?_
    refine rf_step (State.setNum_rf _ _ _ _) rfl rfl ?_
    refine rf_upd (b := s) ?_ ⟨fun f hf hv => by cases f <;> first | exact absurd (by decide) hf | exact absurd rfl hv | rfl | exact ⟨rfl, rfl⟩ | exact ⟨rfl, rfl, rfl, rfl, rfl⟩, Or.inr fun _ _ => rfl⟩ (Keeps.of rfl (Nat.le_refl _) rfl)
    exact rf_refl

theorem execVxImageWrite_rf (x0 x1 s) :
    RF vOut [.reply, .vx] [0x700006] s (execVxImageWrite x0 x1 s) := by
  unfold execVxImageWrite
  refine rf_next ?_
  refine State.actSel_rf rfl ?_ (fun k1 u0 => ?_)
  · exact rf_refl
  · refine rf_step (writeVxImage_rf _ _ _) rfl rfl ?_
    exact rf_refl

end Sys2Proof.Machine
end

