-- ==== Sys2Proof/Laws/FramesUnits.lean ====
section
/-!
SUPPORT. What each operation of Machine/Units.lean may change, one lemma each.
-/

namespace Sys2Proof.Machine

set_option Elab.async false

open Sys2Proof

theorem State.setCc_rf (s x1 x2) :
    RF vS [.galley] [] s (State.setCc s x1 x2) := by
  unfold State.setCc
  extract_lets v0
  refine rf_upd (b := s) ?_ ⟨fun f hf hv => by cases f <;> first | exact absurd (by decide) hf | exact absurd rfl hv | rfl | exact ⟨rfl, rfl⟩ | exact ⟨rfl, rfl, rfl, rfl, rfl⟩, Or.inr fun _ _ => rfl⟩ (Keeps.of rfl (Nat.le_refl _) rfl)
  exact rf_refl

theorem State.requestWake_rf (s x1) :
    RF vS [.fab] [0x903007] s (State.requestWake s x1) := by
  unfold State.requestWake
  extract_lets v0
  refine rf_ite (fun _h1 => ?_) (fun _h2 => ?_)
  · refine rf_step (State.bump_rf _ _ _) rfl rfl ?_
    refine rf_step (State.setDomain_rf _ _ _) rfl rfl ?_
    exact rf_refl
  · exact rf_refl

theorem State.keepAwake_rf (s x1) :
    RF vS [.fab] [0x903007] s (State.keepAwake s x1) := by
  unfold State.keepAwake
  refine rf_ite (fun _h0 => ?_) (fun _h1 => ?_)
  · refine rf_foldl ?_ (fun t2 x3 h4 => ?_)
    · exact rf_refl
    · split
      · rename_i w5 w6 w7
        refine rf_step (State.requestWake_rf _ _) rfl rfl ?_
        exact h4
      · rename_i w8 w9
        exact h4
  · exact rf_refl

theorem State.dispatchTo_rf (s x1 x2 x3 x4) :
    RF vS [.freeCtr, .octets, .galley, .vx, .mem, .fab, .pot, .alarms] [0x600007, 0x600010, 0x602001, 0x70000B, 0x70000D, 0x700011, 0x700012, 0x903007, 0xB20006, 0xB20007, 0xB2000F] s (State.dispatchTo s x1 x2 x3 x4) := by
  unfold State.dispatchTo
  split
  · rename_i w0 w1
    exact rf_refl
  · rename_i w2 w3 w4
    extract_lets v5 v6 v7 v8 v9 v10
    refine rf_cut (W := vS) v7 ?_ (fun h11 => ?_)
    · unfold v7
      refine rf_step (State.setSlug_rf _ _ _) rfl rfl ?_
      refine rf_step (State.countDispatch_rf _ _) rfl rfl ?_
      exact rf_refl
    refine rf_cut (W := vS) v9 ?_ (fun h12 => ?_)
    · unfold v9
      refine rf_step (State.setUnit_rf _ _ _ _) rfl rfl ?_
      exact h11
    refine rf_cut (W := vS) v10 ?_ (fun h13 => ?_)
    · unfold v10
      refine rf_ite (fun _h14 => ?_) (fun _h15 => ?_)
      · refine rf_step (State.deliverVx_rf _ _ _ _) rfl rfl ?_
        exact h12
      · refine rf_ite (fun _h16 => ?_) (fun _h17 => ?_)
        · refine rf_step (State.setCc_rf _ _ _) rfl rfl ?_
          exact h12
        · exact h12
    refine rf_step (State.keepAwake_rf _ _) rfl rfl ?_
    refine rf_step (State.stallEval_rf _ _) rfl rfl ?_
    exact h13

theorem State.kindCheck_rf (s x1 x2) :
    RF vS [.freeCtr, .values, .octets, .galley, .edge, .front, .fab, .pot, .res, .alarms] [0x600008, 0x600009, 0x60000A, 0x60000E, 0x60001D, 0x620007, 0x620009, 0x80000E, 0xB20006, 0xB20007, 0xB2000F] s (State.kindCheck s x1 x2) := by
  unfold State.kindCheck
  refine rf_ite (fun _h0 => ?_) (fun _h1 => ?_)
  · exact rf_refl
  · refine rf_step (State.slugFaultAlarm_rf _ _ _) rfl rfl ?_
    exact rf_refl

theorem State.takeSlug_rf (s x1 x2) :
    RF vS [.freeCtr, .octets, .galley, .pot, .alarms] [0x600007, 0x600010, 0x602001, 0xB20006, 0xB20007, 0xB2000F] s (State.takeSlug s x1 x2) := by
  unfold State.takeSlug
  split
  · rename_i w0 w1
    exact rf_refl
  · rename_i w2 w3 w4
    refine rf_step (State.stallEval_rf _ _) rfl rfl ?_
    refine rf_step (State.setSlug_rf _ _ _) rfl rfl ?_
    refine rf_step (State.countDispatch_rf _ _) rfl rfl ?_
    exact rf_refl

theorem execDispatch_rf (x0 x1 s) :
    RF vOut [.freeCtr, .values, .octets, .galley, .vx, .edge, .front, .mem, .fab, .pot, .res, .alarms] [0x600007, 0x600008, 0x600009, 0x60000A, 0x60000E, 0x600010, 0x60001D, 0x602001, 0x620007, 0x620009, 0x70000B, 0x70000D, 0x700011, 0x700012, 0x80000E, 0x903007, 0xB20006, 0xB20007, 0xB2000F] s (execDispatch x0 x1 s) := by
  unfold execDispatch
  refine rf_ite (fun _h0 => ?_) (fun _h1 => ?_)
  · split
    · rename_i w2 w3 w4 w5
      refine rf_next ?_
      refine rf_ite (fun _h6 => ?_) (fun _h7 => ?_)
      · exact rf_refl
      · refine rf_step (State.kindCheck_rf _ _ _) rfl rfl ?_
        refine rf_step (State.takeSlug_rf _ _ _) rfl rfl ?_
        exact rf_refl
    · rename_i w8 w9
      refine rf_next ?_
      exact rf_refl
  · refine rf_ite (fun _h10 => ?_) (fun _h11 => ?_)
    · split
      · rename_i w12 w13 w14 w15
        refine rf_next ?_
        refine rf_step (State.kindCheck_rf _ _ _) rfl rfl ?_
        refine rf_step (State.dispatchTo_rf _ _ _ _ _) rfl rfl ?_
        exact rf_refl
      · rename_i w16 w17
        refine rf_next ?_
        exact rf_refl
    · refine rf_next ?_
      exact rf_refl

theorem State.loseOccasions_rf (s x1) :
    RF vS [.edge] [0x82000B] s (State.loseOccasions s x1) := by
  unfold State.loseOccasions
  extract_lets v0 v1
  refine rf_cut (W := vS) v1 ?_ (fun h2 => ?_)
  · unfold v1
    refine rf_foldl ?_ (fun t3 x4 h5 => ?_)
    · exact rf_refl
    · extract_lets v6 v7
      refine rf_upd (b := t3) ?_ ⟨fun f hf hv => by cases f <;> first | exact absurd (by decide) hf | exact absurd rfl hv | rfl | exact ⟨rfl, rfl⟩ | exact ⟨rfl, rfl, rfl, rfl, rfl⟩, Or.inr fun _ _ => rfl⟩ (Keeps.of rfl (Nat.le_refl _) rfl)
      exact h5
  refine rf_step (State.bumpBy_rf _ _ _ _) rfl rfl ?_
  exact h2

theorem State.faultSide_rf (s x1 x2 x3) :
    RF vS [.freeCtr, .mode, .octets, .force, .galley, .vx, .edge, .pot, .res, .alarms] [0x200004, 0x200005, 0x200006, 0x200007, 0x700009, 0x82000B, 0xB20006, 0xB20007, 0xB2000F, 0xE00006] s (State.faultSide s x1 x2 x3) := by
  unfold State.faultSide
  extract_lets v0 v1 v2 v3 v4 v5
  refine rf_cut (W := vS) v2 ?_ (fun h6 => ?_)
  · unfold v2
    refine rf_step (State.setCc_rf _ _ _) rfl rfl ?_
    exact rf_refl
  refine rf_cut (W := vS) v4 ?_ (fun h7 => ?_)
  · unfold v4
    refine rf_step (State.loseOccasions_rf _ _) rfl rfl ?_
    exact rf_refl
  refine rf_ite (fun _h8 => ?_) (fun _h9 => ?_)
  · refine rf_ite (fun _h10 => ?_) (fun _h11 => ?_)
    · refine rf_step (State.setCore_rf _ _ _) rfl rfl ?_
      exact rf_refl
    · exact rf_refl
  · refine rf_ite (fun _h12 => ?_) (fun _h13 => ?_)
    · refine rf_ite (fun _h14 => ?_) (fun _h15 => ?_)
      · refine rf_step (State.retireAndPromote_rf _ _ _ _) rfl rfl ?_
        exact h6
      · exact h6
    · refine rf_ite (fun _h16 => ?_) (fun _h17 => ?_)
      · clear_value v4
        refine rf_upd (b := v4) ?_ ⟨fun f hf hv => by cases f <;> first | exact absurd (by decide) hf | exact absurd rfl hv | rfl | exact ⟨rfl, rfl⟩ | exact ⟨rfl, rfl, rfl, rfl, rfl⟩, Or.inr fun _ _ => rfl⟩ (Keeps.of rfl (Nat.le_refl _) rfl)
        exact h7
      · refine rf_ite (fun _h18 => ?_) (fun _h19 => ?_)
        · refine rf_step (State.setCause_rf _ _ _) rfl rfl ?_
          exact rf_refl
        · exact rf_refl

theorem State.engineFault_rf (s x1 x2 x3) :
    RF vS [.values] [0x800007, 0x80000E] s (State.engineFault s x1 x2 x3) := by
  unfold State.engineFault
  extract_lets v0
  refine rf_cut (W := vS) v0 ?_ (fun h1 => ?_)
  · unfold v0
    split
    · rename_i w2 w3 w4
      refine rf_step (State.engineEnd_rf _ _ _) rfl rfl ?_
      exact rf_refl
    · rename_i w5 w6
      exact rf_refl
  refine rf_ite (fun _h7 => ?_) (fun _h8 => ?_)
  · refine rf_step (State.bump_rf _ _ _) rfl rfl ?_
    exact h1
  · exact h1

theorem State.anyFault_rf (s x1 x2 x3 x4 x5) :
    RF vS [.freeCtr, .mode, .values, .octets, .force, .galley, .vx, .edge, .front, .fab, .pot, .res, .alarms] [0x200004, 0x200005, 0x200006, 0x200007, 0x600008, 0x600009, 0x60000A, 0x60000C, 0x60000D, 0x60000E, 0x60001D, 0x620007, 0x620009, 0x700009, 0x800007, 0x80000E, 0x82000B, 0x903007, 0xB20006, 0xB20007, 0xB2000F, 0xE00006] s (State.anyFault s x1 x2 x3 x4 x5) := by
  unfold State.anyFault
  extract_lets v0 v1 v2 v3
  refine rf_cut (W := vS) v0 ?_ (fun h4 => ?_)
  · unfold v0
    refine rf_step (State.faultSide_rf _ _ _ _) rfl rfl ?_
    refine rf_step (State.unitFault_rf _ _ _ _ _ _) rfl rfl ?_
    refine rf_step (State.engineFault_rf _ _ _ _) rfl rfl ?_
    exact rf_refl
  refine rf_cut (W := vS) v3 ?_ (fun h5 => ?_)
  · unfold v3
    refine rf_ite (fun _h6 => ?_) (fun _h7 => ?_)
    · exact h4
    · clear_value v0
      refine rf_upd (b := v0) ?_ ⟨fun f hf hv => by cases f <;> first | exact absurd (by decide) hf | exact absurd rfl hv | rfl | exact ⟨rfl, rfl⟩ | exact ⟨rfl, rfl, rfl, rfl, rfl⟩, Or.inr fun _ _ => rfl⟩ (Keeps.of rfl (Nat.le_refl _) rfl)
      exact h4
  refine rf_step (State.keepAwake_rf _ _) rfl rfl ?_
  refine rf_step (State.unitAlarm_rf _ _ _) rfl rfl ?_
  exact h5

theorem execFaultReport_rf (x0 x1 x2 s) :
    RF vOut [.freeCtr, .mode, .values, .octets, .force, .galley, .vx, .edge, .front, .fab, .pot, .res, .alarms] [0x200004, 0x200005, 0x200006, 0x200007, 0x600008, 0x600009, 0x60000A, 0x60000C, 0x60000D, 0x60000E, 0x60001D, 0x620007, 0x620009, 0x700009, 0x800007, 0x80000E, 0x82000B, 0x903007, 0xB20006, 0xB20007, 0xB2000F, 0xE00006] s (execFaultReport x0 x1 x2 s) := by
  unfold execFaultReport
  extract_lets v0 v1
  refine rf_cut (W := vS) v1 ?_ (fun h2 => ?_)
  · unfold v1
    refine rf_ite (fun _h3 => ?_) (fun _h4 => ?_)
    · refine rf_step (State.setCc_rf _ _ _) rfl rfl ?_
      exact rf_refl
    · exact rf_refl
  split
  · rename_i w5 w6
    refine rf_next ?_
    refine rf_step (State.anyFault_rf _ _ _ _ _ _) rfl rfl ?_
    exact rf_refl
  · rename_i w7 w8
    split
    · rename_i w9 w10 w11 w12
      refine rf_next ?_
      refine rf_step (State.slugFaultAlarm_rf _ _ _) rfl rfl ?_
      refine rf_step (State.reportSide_rf _ _ _) rfl rfl ?_
      exact h2
    · rename_i w13 w14
      refine rf_next ?_
      exact rf_refl

theorem execWatchdogExpiry_rf (x0 s) :
    RF vOut [.freeCtr, .mode, .values, .octets, .force, .galley, .vx, .edge, .front, .fab, .pot, .res, .alarms] [0x200004, 0x200005, 0x200006, 0x200007, 0x600008, 0x600009, 0x60000A, 0x60000C, 0x60000D, 0x60000E, 0x60001D, 0x620007, 0x620009, 0x700009, 0x800007, 0x80000E, 0x82000B, 0x903007, 0xB20006, 0xB20007, 0xB2000F, 0xE00006] s (execWatchdogExpiry x0 s) := by
  unfold execWatchdogExpiry
  split
  · rename_i w0 w1 w2
    refine rf_ite (fun _h3 => ?_) (fun _h4 => ?_)
    · refine rf_next ?_
      refine rf_step (State.anyFault_rf _ _ _ _ _ _) rfl rfl ?_
      exact rf_refl
    · refine rf_next ?_
      exact rf_refl
  · rename_i w5 w6
    refine rf_next ?_
    exact rf_refl

theorem State.ccDone_rf (s x1) :
    RF vS [.freeCtr, .mode, .values, .octets, .force, .galley, .vx, .edge, .front, .fab, .pot, .res, .alarms] [0x200004, 0x200005, 0x200006, 0x200007, 0x600008, 0x600009, 0x60000A, 0x60000C, 0x60000D, 0x60000E, 0x60000F, 0x600013, 0x60001D, 0x620007, 0x620009, 0x700009, 0x800007, 0x80000E, 0x82000B, 0x903007, 0xB20006, 0xB20007, 0xB2000F, 0xE00006] s (State.ccDone s x1) := by
  unfold State.ccDone
  extract_lets v0 v1
  refine rf_cut (W := vS) v1 ?_ (fun h2 => ?_)
  · unfold v1
    refine rf_step (State.setCc_rf _ _ _) rfl rfl ?_
    exact rf_refl
  split
  · rename_i w3 w4
    exact rf_refl
  · rename_i w5 w6 w7 w8
    extract_lets v9
    refine rf_ite (fun _h10 => ?_) (fun _h11 => ?_)
    · refine rf_step (State.anyFault_rf _ _ _ _ _ _) rfl rfl ?_
      exact h2
    · refine rf_step (State.sendDone_rf _ _ _ _ _ _ _ _) rfl rfl ?_
      exact h2

theorem execCcDone_rf (x0 s) :
    RF vOut [.freeCtr, .mode, .values, .octets, .force, .galley, .vx, .edge, .front, .fab, .pot, .res, .alarms] [0x200004, 0x200005, 0x200006, 0x200007, 0x600008, 0x600009, 0x60000A, 0x60000C, 0x60000D, 0x60000E, 0x60000F, 0x600013, 0x60001D, 0x620007, 0x620009, 0x700009, 0x800007, 0x80000E, 0x82000B, 0x903007, 0xB20006, 0xB20007, 0xB2000F, 0xE00006] s (execCcDone x0 s) := by
  unfold execCcDone
  refine rf_next ?_
  refine rf_step (State.ccDone_rf _ _) rfl rfl ?_
  exact rf_refl

theorem State.ccWrite_rf (s x1 x2 x3) :
    RF vS [.freeCtr, .mode, .values, .octets, .force, .galley, .vx, .edge, .front, .fab, .pot, .res, .alarms] [0x200004, 0x200005, 0x200006, 0x200007, 0x600008, 0x600009, 0x60000A, 0x60000C, 0x60000D, 0x60000E, 0x60000F, 0x600013, 0x60001D, 0x620007, 0x620009, 0x700009, 0x800007, 0x80000E, 0x82000B, 0x903007, 0xB20006, 0xB20007, 0xB2000F, 0xE00006] s (State.ccWrite s x1 x2 x3) := by
  unfold State.ccWrite
  extract_lets v0
  refine rf_ite (fun _h1 => ?_) (fun _h2 => ?_)
  · refine rf_step (State.setCc_rf _ _ _) rfl rfl ?_
    exact rf_refl
  · refine rf_ite (fun _h3 => ?_) (fun _h4 => ?_)
    · refine rf_step (State.setCc_rf _ _ _) rfl rfl ?_
      exact rf_refl
    · refine rf_ite (fun _h5 => ?_) (fun _h6 => ?_)
      · refine rf_step (State.setCc_rf _ _ _) rfl rfl ?_
        exact rf_refl
      · refine rf_ite (fun _h7 => ?_) (fun _h8 => ?_)
        · refine rf_step (State.ccDone_rf _ _) rfl rfl ?_
          exact rf_refl
        · exact rf_refl

theorem State.devWrite_rf (s x1 x2) :
    RF vS [.reply, .freeCtr, .mode, .values, .octets, .force, .galley, .vx, .edge, .front, .fab, .pot, .res, .alarms] [0x200004, 0x200005, 0x200006, 0x200007, 0x600002, 0x600008, 0x600009, 0x60000A, 0x60000C, 0x60000D, 0x60000E, 0x60000F, 0x600013, 0x60001D, 0x620007, 0x620009, 0x630003, 0x630004, 0x630005, 0x700009, 0x800007, 0x80000E, 0x82000B, 0x903007, 0xB20006, 0xB20007, 0xB2000F, 0xE00006] s (State.devWrite s x1 x2) := by
  unfold State.devWrite
  extract_lets v0 v1 v2 v3 v4
  refine rf_cut (W := vS) v3 ?_ (fun h5 => ?_)
  · unfold v3
    refine rf_upd (b := s) ?_ ⟨fun f hf hv => by cases f <;> first | exact absurd (by decide) hf | exact absurd rfl hv | rfl | exact ⟨rfl, rfl⟩ | exact ⟨rfl, rfl, rfl, rfl, rfl⟩, Or.inr fun _ _ => rfl⟩ (Keeps.of rfl (Nat.le_refl _) rfl)
    exact rf_refl
  refine rf_cut (W := vS) v4 ?_ (fun h6 => ?_)
  · unfold v4
    split
    · rename_i w7 w8 w9 w10
      extract_lets v11
      refine rf_step (State.noiseTable_rf _ _ _ _ _) rfl rfl ?_
      exact h5
    · rename_i w12 w13
      exact h5
  refine rf_ite (fun _h14 => ?_) (fun _h15 => ?_)
  · exact rf_refl
  · split
    · rename_i w16 w17 w18 w19
      refine rf_step (State.ccWrite_rf _ _ _ _) rfl rfl ?_
      exact rf_refl
    · rename_i w20 w21
      refine rf_ite (fun _h22 => ?_) (fun _h23 => ?_)
      · refine rf_step (State.stallEval_rf _ _) rfl rfl ?_
        refine rf_step (State.decrement_rf _ _ _ _) rfl rfl ?_
        exact rf_refl
      · refine rf_ite (fun _h24 => ?_) (fun _h25 => ?_)
        · refine rf_step (State.firmwareEvent_rf _ _) rfl rfl ?_
          exact rf_refl
        · split
          · rename_i w26 w27 w28
            refine rf_ite (fun _h29 => ?_) (fun _h30 => ?_)
            · refine rf_step (State.submitSlug_rf _ _ _) rfl rfl ?_
              exact h6
            · exact h6
          · rename_i w31 w32
            exact h6

theorem State.popStamp_rf (s x1) :
    RF vSnd [.time] [] s (State.popStamp s x1) := by
  unfold State.popStamp
  extract_lets v0
  split
  · rename_i w1 w2 w3 w4
    refine rf_snd ?_
    refine rf_upd (b := s) ?_ ⟨fun f hf hv => by cases f <;> first | exact absurd (by decide) hf | exact absurd rfl hv | rfl | exact ⟨rfl, rfl⟩ | exact ⟨rfl, rfl, rfl, rfl, rfl⟩, Or.inr fun _ _ => rfl⟩ (Keeps.of rfl (Nat.le_refl _) rfl)
    exact rf_refl
  · rename_i w5 w6
    refine rf_snd ?_
    exact rf_refl

theorem State.popFw_rf (s x1) :
    RF vSnd [.front] [] s (State.popFw s x1) := by
  unfold State.popFw
  extract_lets v0 v1
  split
  · rename_i w2 w3 w4 w5
    refine rf_snd ?_
    refine rf_upd (b := s) ?_ ⟨fun f hf hv => by cases f <;> first | exact absurd (by decide) hf | exact absurd rfl hv | rfl | exact ⟨rfl, rfl⟩ | exact ⟨rfl, rfl, rfl, rfl, rfl⟩, Or.inr fun _ _ => rfl⟩ (Keeps.of rfl (Nat.le_refl _) rfl)
    exact rf_refl
  · rename_i w6 w7
    refine rf_snd ?_
    exact rf_refl

theorem State.devRead_rf (s x1) :
    RF vSnd [.galley] [] s (State.devRead s x1) := by
  unfold State.devRead
  split
  · rename_i w0 w1 w2 w3
    refine rf_snd ?_
    exact rf_refl
  · rename_i w4 w5
    refine rf_ite (fun _h6 => ?_) (fun _h7 => ?_)
    · split
      · rename_i w8 w9 w10 w11
        refine rf_snd ?_
        refine rf_step (State.reserveHandle_rf _ _) rfl rfl ?_
        exact rf_refl
      · rename_i w12 w13
        refine rf_snd ?_
        exact rf_refl
    · refine rf_snd ?_
      exact rf_refl

theorem State.devReadN_rf (s x1 x2) :
    RF vSnd [.time, .galley, .front] [] s (State.devReadN s x1 x2) := by
  unfold State.devReadN
  extract_lets v0
  refine rf_cut (W := vSnd) v0 ?_ (fun h1 => ?_)
  · unfold v0
    refine rf_foldl_snd ?_ (fun a5 t2 x3 h4 => ?_)
    · refine rf_snd ?_
      exact rf_refl
    · split
      rename_i w6 w7 w8 w9
      refine rf_pair_snd w9 ?_ (fun h10 => ?_)
      · refine rf_step (State.devRead_rf _ _) rfl rfl ?_
        refine rf_of_snd ?_
        refine rf_snd ?_
        exact h4
      refine rf_snd ?_
      exact h10
  refine rf_ite (fun _h11 => ?_) (fun _h12 => ?_)
  · split
    rename_i w13 w14 w15 w16
    refine rf_pair_snd w16 ?_ (fun h17 => ?_)
    · refine rf_step (State.popStamp_rf _ _) rfl rfl ?_
      exact rf_refl
    refine rf_snd ?_
    exact h17
  · refine rf_ite (fun _h18 => ?_) (fun _h19 => ?_)
    · split
      rename_i w20 w21 w22 w23
      refine rf_pair_snd w23 ?_ (fun h24 => ?_)
      · refine rf_step (State.popFw_rf _ _) rfl rfl ?_
        exact rf_refl
      refine rf_snd ?_
      exact h24
    · refine rf_snd ?_
      refine rf_of_snd ?_
      exact h1

theorem State.devWriteN_rf (s x1 x2) :
    RF vS [.reply, .freeCtr, .mode, .values, .octets, .force, .galley, .vx, .edge, .front, .fab, .pot, .res, .alarms] [0x200004, 0x200005, 0x200006, 0x200007, 0x600002, 0x600008, 0x600009, 0x60000A, 0x60000C, 0x60000D, 0x60000E, 0x60000F, 0x600013, 0x60001D, 0x620007, 0x620009, 0x630003, 0x630004, 0x630005, 0x700009, 0x800007, 0x80000E, 0x82000B, 0x903007, 0xB20006, 0xB20007, 0xB2000F, 0xE00006] s (State.devWriteN s x1 x2) := by
  unfold State.devWriteN
  refine rf_foldl ?_ (fun t0 x1 h2 => ?_)
  · exact rf_refl
  · refine rf_step (State.devWrite_rf _ _ _) rfl rfl ?_
    exact h2

theorem State.refuseReadOnly_rf (s) :
    RF vS [.reply] [] s (State.refuseReadOnly s) := by
  unfold State.refuseReadOnly
  extract_lets v0 v1
  refine rf_cut (W := vS) v0 ?_ (fun h2 => ?_)
  · unfold v0
    refine rf_step (State.answerErr_rf _ _) rfl rfl ?_
    exact rf_refl
  clear_value v0
  refine rf_upd (b := v0) ?_ ⟨fun f hf hv => by cases f <;> first | exact absurd (by decide) hf | exact absurd rfl hv | rfl | exact ⟨rfl, rfl⟩ | exact ⟨rfl, rfl, rfl, rfl, rfl⟩, Or.inr fun _ _ => rfl⟩ (Keeps.of rfl (Nat.le_refl _) rfl)
  exact h2

theorem State.devStore_rf (s x1 x2) :
    RF vS [.reply, .freeCtr, .mode, .values, .octets, .force, .galley, .vx, .edge, .front, .fab, .pot, .res, .alarms] [0x200004, 0x200005, 0x200006, 0x200007, 0x600002, 0x600008, 0x600009, 0x60000A, 0x60000C, 0x60000D, 0x60000E, 0x60000F, 0x600013, 0x60001D, 0x620007, 0x620009, 0x630003, 0x630004, 0x630005, 0x700009, 0x800007, 0x80000E, 0x82000B, 0x903007, 0xB20006, 0xB20007, 0xB2000F, 0xE00006] s (State.devStore s x1 x2) := by
  unfold State.devStore
  extract_lets v0 v1 v2
  refine rf_cut (W := vS) v0 ?_ (fun h3 => ?_)
  · unfold v0
    refine rf_step (State.devWriteN_rf _ _ _) rfl rfl ?_
    refine rf_step (State.trace_rf _ _) rfl rfl ?_
    refine rf_step (State.answer_rf _ _) rfl rfl ?_
    exact rf_refl
  refine rf_cut (W := vS) v1 ?_ (fun h4 => ?_)
  · unfold v1
    refine rf_step (State.answerFab_rf _ _ _ _) rfl rfl ?_
    exact h3
  refine rf_ite (fun _h5 => ?_) (fun _h6 => ?_)
  · refine rf_step (State.refuseReadOnly_rf _) rfl rfl ?_
    exact rf_refl
  · clear_value v1
    refine rf_upd (b := v1) ?_ ⟨fun f hf hv => by cases f <;> first | exact absurd (by decide) hf | exact absurd rfl hv | rfl | exact ⟨rfl, rfl⟩ | exact ⟨rfl, rfl, rfl, rfl, rfl⟩, Or.inr fun _ _ => rfl⟩ (Keeps.of rfl (Nat.le_refl _) rfl)
    exact h4

theorem execRegisterWrite_rf (x0 x1 x2 x3 x4 s) :
    RF vOut [.reply, .freeCtr, .mode, .values, .octets, .force, .time, .galley, .vx, .edge, .front, .mogil, .mem, .fab, .pot, .sec, .res, .alarms] (0x200004 :: 0x200005 :: 0x200006 :: 0x200007 :: 0x600002 :: 0x600008 :: 0x600009 :: 0x60000A :: 0x60000C :: 0x60000D :: 0x60000E :: 0x60000F :: 0x600013 :: 0x60001D :: 0x620007 :: 0x620009 :: 0x630003 :: 0x630004 :: 0x630005 :: 0x700009 :: 0x800007 :: 0x80000E :: 0x82000B :: 0x900001 :: 0x903007 :: 0x91000B :: 0x91000E :: 0x91000F :: 0xA4000C :: 0xB10004 :: 0xB20006 :: 0xB20007 :: 0xB2000F :: 0xE00006 :: []) s (execRegisterWrite x0 x1 x2 x3 x4 s) := by
  unfold execRegisterWrite
  extract_lets v0
  refine rf_ite (fun _h1 => ?_) (fun _h2 => ?_)
  · refine rf_next ?_
    exact rf_refl
  · split
    · rename_i w3 w4 w5
      refine rf_pair_snd w5 ?_ (fun h6 => ?_)
      · refine rf_step (State.accessTest_rf _ _ _ _ _ _) rfl rfl ?_
        exact rf_refl
      refine rf_ite (fun _h7 => ?_) (fun _h8 => ?_)
      · refine rf_next ?_
        refine rf_step (State.devStore_rf _ _ _) rfl rfl ?_
        exact h6
      · refine rf_next ?_
        refine rf_step (State.answerFab_rf _ _ _ _) rfl rfl ?_
        refine rf_step (State.writeAt_rf _ _ _ _ _) rfl rfl ?_
        exact h6
    · rename_i w9 w10 w11 w12 w13
      refine rf_pair_snd w13 ?_ (fun h14 => ?_)
      · refine rf_step (State.accessTest_rf _ _ _ _ _ _) rfl rfl ?_
        exact rf_refl
      refine rf_next ?_
      refine rf_step (State.answerErr_rf _ _) rfl rfl ?_
      exact h14

end Sys2Proof.Machine
end

