-- ==== Sys2Proof/Laws/FramesEngines.lean ====
section
/-!
SUPPORT. What each operation of Machine/Engines.lean may change, one lemma each.
-/

namespace Sys2Proof.Machine

set_option Elab.async false

open Sys2Proof

theorem State.setJob_rf (s x1 x2 x3) :
    RF vS [.edge] [] s (State.setJob s x1 x2 x3) := by
  unfold State.setJob
  extract_lets v0
  refine rf_upd (b := s) ?_ ⟨fun f hf hv => by cases f <;> first | exact absurd (by decide) hf | exact absurd rfl hv | rfl | exact ⟨rfl, rfl⟩ | exact ⟨rfl, rfl, rfl, rfl, rfl⟩, Or.inr fun _ _ => rfl⟩ (Keeps.of rfl (Nat.le_refl _) rfl)
  exact rf_refl

theorem State.dropJob_rf (s x1 x2) :
    RF vS [.edge] [] s (State.dropJob s x1 x2) := by
  unfold State.dropJob
  extract_lets v0
  refine rf_upd (b := s) ?_ ⟨fun f hf hv => by cases f <;> first | exact absurd (by decide) hf | exact absurd rfl hv | rfl | exact ⟨rfl, rfl⟩ | exact ⟨rfl, rfl, rfl, rfl, rfl⟩, Or.inr fun _ _ => rfl⟩ (Keeps.of rfl (Nat.le_refl _) rfl)
  exact rf_refl

theorem State.drawNat_rf (s) :
    RF vSnd [.freeCtr] [] s (State.drawNat s) := by
  unfold State.drawNat
  refine rf_snd ?_
  refine rf_upd (b := s) ?_ ⟨fun f hf hv => by cases f <;> first | exact absurd (by decide) hf | exact absurd rfl hv | rfl | exact ⟨rfl, rfl⟩ | exact ⟨rfl, rfl, rfl, rfl, rfl⟩, Or.inr fun _ _ => rfl⟩ (Keeps.of rfl (Nat.le_add_right _ _) rfl)
  exact rf_refl

theorem State.engSlugFault_rf (s x1 x2 x3 x4) :
    RF vS [.freeCtr, .values, .octets, .galley, .edge, .front, .fab, .pot, .res, .alarms] [0x600008, 0x600009, 0x60000A, 0x60000E, 0x60001D, 0x620007, 0x620009, 0x80000E, 0xB20006, 0xB20007, 0xB2000F] s (State.engSlugFault s x1 x2 x3 x4) := by
  unfold State.engSlugFault
  refine rf_step (State.slugFaultAlarm_rf _ _ _) rfl rfl ?_
  refine rf_step (State.dropJob_rf _ _ _) rfl rfl ?_
  exact rf_refl

theorem State.engInvalid_rf (s x1 x2 x3 x4) :
    RF vS [.freeCtr, .values, .octets, .galley, .edge, .front, .fab, .pot, .res, .alarms] [0x600008, 0x600009, 0x60000A, 0x60000E, 0x60000F, 0x600013, 0x60001D, 0x620007, 0x620009, 0x80000E, 0xB20006, 0xB20007, 0xB2000F] s (State.engInvalid s x1 x2 x3 x4) := by
  unfold State.engInvalid
  refine rf_step (State.complete_rf _ _) rfl rfl ?_
  refine rf_step (State.dropJob_rf _ _ _) rfl rfl ?_
  exact rf_refl

theorem State.engDone_rf (s x1 x2 x3 x4) :
    RF vS [.freeCtr, .values, .octets, .galley, .edge, .front, .fab, .pot, .res, .alarms] [0x600008, 0x600009, 0x60000A, 0x60000E, 0x60000F, 0x600013, 0x60001D, 0x620007, 0x620009, 0x80000E, 0xB20006, 0xB20007, 0xB2000F] s (State.engDone s x1 x2 x3 x4) := by
  unfold State.engDone
  extract_lets v0 v1
  refine rf_step (State.complete_rf _ _) rfl rfl ?_
  refine rf_step (State.dropJob_rf _ _ _) rfl rfl ?_
  exact rf_refl

theorem State.itemStatus_rf (s x1 x2 x3 x4) :
    RF vSnd [.freeCtr] [0x800006, 0x80000A, 0x80000B, 0x80000D] s (State.itemStatus s x1 x2 x3 x4) := by
  unfold State.itemStatus
  extract_lets v0 v1 v2 v3 v4
  refine rf_cut (W := vS) v1 ?_ (fun h5 => ?_)
  · unfold v1
    refine rf_step (State.bump_rf _ _ _) rfl rfl ?_
    exact rf_refl
  refine rf_cut (W := vS) v2 ?_ (fun h6 => ?_)
  · unfold v2
    refine rf_ite (fun _h7 => ?_) (fun _h8 => ?_)
    · refine rf_step (State.bump_rf _ _ _) rfl rfl ?_
      exact h5
    · exact h5
  refine rf_cut (W := vS) v3 ?_ (fun h9 => ?_)
  · unfold v3
    refine rf_ite (fun _h10 => ?_) (fun _h11 => ?_)
    · refine rf_step (State.bump_rf _ _ _) rfl rfl ?_
      exact h6
    · exact h6
  refine rf_cut (W := vS) v4 ?_ (fun h12 => ?_)
  · unfold v4
    refine rf_ite (fun _h13 => ?_) (fun _h14 => ?_)
    · refine rf_step (State.bump_rf _ _ _) rfl rfl ?_
      exact h9
    · exact h9
  split
  · rename_i w15 w16 w17
    refine rf_snd ?_
    exact h12
  · rename_i w18 w19
    split
    rename_i w20 w21 w22 w23
    refine rf_pair_snd w23 ?_ (fun h24 => ?_)
    · refine rf_step (State.drawNat_rf _) rfl rfl ?_
      exact h12
    refine rf_snd ?_
    exact h24

theorem State.hqItem_rf (s x1 x2 x3 x4 x5 x6) :
    RF vSnd [.freeCtr, .mode, .octets, .time, .galley, .vx, .mogil, .mem, .fab, .pot, .sec, .res, .alarms] [0x200004, 0x200005, 0x200006, 0x900001, 0x903007, 0x91000B, 0x91000E, 0x91000F, 0xA4000C, 0xB10004, 0xB20006, 0xB20007, 0xB2000F] s (State.hqItem s x1 x2 x3 x4 x5 x6) := by
  unfold State.hqItem
  extract_lets v0 v1 v2 v3
  split
  rename_i w4 w5 w6 w7 w8
  refine rf_pair_22 w8 ?_ (fun h9 => ?_)
  · refine rf_ite (fun _h10 => ?_) (fun _h11 => ?_)
    · refine rf_22 ?_
      refine rf_snd ?_
      exact rf_refl
    · refine rf_step (State.memRead_rf _ _ _ _) rfl rfl ?_
      exact rf_refl
  extract_lets v12 v13 v14 v15
  refine rf_ite (fun _h16 => ?_) (fun _h17 => ?_)
  · refine rf_snd ?_
    exact h9
  · split
    rename_i w18 w19 w20 w21
    refine rf_pair_snd w21 ?_ (fun h22 => ?_)
    · refine rf_ite (fun _h23 => ?_) (fun _h24 => ?_)
      · refine rf_snd ?_
        exact h9
      · refine rf_step (State.memWrite_rf _ _ _ _) rfl rfl ?_
        exact h9
    refine rf_ite (fun _h25 => ?_) (fun _h26 => ?_)
    · refine rf_snd ?_
      exact h22
    · refine rf_step (State.memWrite_rf _ _ _ _) rfl rfl ?_
      exact h22

theorem State.drawSeed_rf (s) :
    RF vSnd [.freeCtr] [] s (State.drawSeed s) := by
  unfold State.drawSeed
  refine rf_snd ?_
  refine rf_upd (b := s) ?_ ⟨fun f hf hv => by cases f <;> first | exact absurd (by decide) hf | exact absurd rfl hv | rfl | exact ⟨rfl, rfl⟩ | exact ⟨rfl, rfl, rfl, rfl, rfl⟩, Or.inr fun _ _ => rfl⟩ (Keeps.of rfl (Nat.le_add_right _ _) rfl)
  exact rf_refl

theorem State.engOne_rf (s x1 x2 x3 x4 x5 x6 x7 x8 x9 x10 x11 x12) :
    RF v22 [.freeCtr, .mode, .octets, .time, .galley, .vx, .mogil, .mem, .fab, .pot, .sec, .res, .alarms] [0x200004, 0x200005, 0x200006, 0x800006, 0x80000A, 0x80000B, 0x80000D, 0x900001, 0x903007, 0x91000B, 0x91000E, 0x91000F, 0xA4000C, 0xB10004, 0xB20006, 0xB20007, 0xB2000F] s (State.engOne s x1 x2 x3 x4 x5 x6 x7 x8 x9 x10 x11 x12) := by
  unfold State.engOne
  extract_lets v0 v1 v2
  split
  · rename_i w3 w4 w5 w6
    refine rf_pair_22 w6 ?_ (fun h7 => ?_)
    · refine rf_ite (fun _h8 => ?_) (fun _h9 => ?_)
      · refine rf_22 ?_
        refine rf_snd ?_
        exact rf_refl
      · refine rf_step (State.memRead_rf _ _ _ _) rfl rfl ?_
        exact rf_refl
    split
    rename_i w10 w11 w12 w13
    refine rf_pair_snd w13 ?_ (fun h14 => ?_)
    · refine rf_step (State.drawSeed_rf _) rfl rfl ?_
      exact h7
    extract_lets v15 v16
    split
    · rename_i w17 w18 w19
      refine rf_pair_snd w19 ?_ (fun h20 => ?_)
      · refine rf_ite (fun _h21 => ?_) (fun _h22 => ?_)
        · refine rf_step (State.hqItem_rf _ _ _ _ _ _ _) rfl rfl ?_
          exact h14
        · refine rf_ite (fun _h23 => ?_) (fun _h24 => ?_)
          · refine rf_snd ?_
            exact h14
          · refine rf_step (State.memWrite_rf _ _ _ _) rfl rfl ?_
            exact h14
      split
      rename_i w25 w26 w27 w28
      refine rf_pair_snd w28 ?_ (fun h29 => ?_)
      · refine rf_step (State.itemStatus_rf _ _ _ _ _) rfl rfl ?_
        exact h20
      extract_lets v30
      refine rf_cut (W := vSnd) v30 ?_ (fun h31 => ?_)
      · unfold v30
        refine rf_ite (fun _h32 => ?_) (fun _h33 => ?_)
        · refine rf_step (State.memWrite_rf _ _ _ _) rfl rfl ?_
          exact h29
        · refine rf_snd ?_
          exact h29
      refine rf_22 ?_
      refine rf_snd ?_
      refine rf_of_snd ?_
      exact h31
    · rename_i w34 w35 w36 w37 w38
      refine rf_pair_snd w38 ?_ (fun h39 => ?_)
      · refine rf_ite (fun _h40 => ?_) (fun _h41 => ?_)
        · refine rf_step (State.hqItem_rf _ _ _ _ _ _ _) rfl rfl ?_
          exact h14
        · refine rf_ite (fun _h42 => ?_) (fun _h43 => ?_)
          · refine rf_snd ?_
            exact h14
          · refine rf_step (State.memWrite_rf _ _ _ _) rfl rfl ?_
            exact h14
      refine rf_22 ?_
      refine rf_snd ?_
      exact h39
  · rename_i w44 w45 w46 w47 w48 w49
    refine rf_pair_22 w49 ?_ (fun h50 => ?_)
    · refine rf_ite (fun _h51 => ?_) (fun _h52 => ?_)
      · refine rf_22 ?_
        refine rf_snd ?_
        exact rf_refl
      · refine rf_step (State.memRead_rf _ _ _ _) rfl rfl ?_
        exact rf_refl
    refine rf_22 ?_
    refine rf_snd ?_
    exact h50

theorem State.engItems_rf (s x1 x2 x3 x4 x5 x6 x7 x8 x9 x10 x11 x12 x13) :
    RF vSnd [.freeCtr, .mode, .octets, .time, .galley, .vx, .mogil, .mem, .fab, .pot, .sec, .res, .alarms] [0x200004, 0x200005, 0x200006, 0x800006, 0x80000A, 0x80000B, 0x80000D, 0x900001, 0x903007, 0x91000B, 0x91000E, 0x91000F, 0xA4000C, 0xB10004, 0xB20006, 0xB20007, 0xB2000F] s (State.engItems s x1 x2 x3 x4 x5 x6 x7 x8 x9 x10 x11 x12 x13) := by
  induction x12 generalizing s x1 x2 x3 x4 x5 x6 x7 x8 x9 x10 x11 x13
  · unfold State.engItems
    refine rf_snd ?_
    exact rf_refl
  · rename_i n ih
    unfold State.engItems
    split
    · rename_i w0 w1 w2 w3
      refine rf_pair_22 w3 ?_ (fun h4 => ?_)
      · refine rf_step (State.engOne_rf _ _ _ _ _ _ _ _ _ _ _ _ _) rfl rfl ?_
        exact rf_refl
      refine rf_trans ?_ (ih ..)
      exact h4
    · rename_i w5 w6 w7 w8 w9 w10
      refine rf_pair_22 w10 ?_ (fun h11 => ?_)
      · refine rf_step (State.engOne_rf _ _ _ _ _ _ _ _ _ _ _ _ _) rfl rfl ?_
        exact rf_refl
      refine rf_snd ?_
      exact h11

theorem State.engProcess_rf (s x1 x2 x3 x4 x5) :
    RF vS [.freeCtr, .mode, .values, .octets, .time, .galley, .vx, .edge, .front, .mogil, .mem, .fab, .pot, .sec, .res, .alarms] [0x200004, 0x200005, 0x200006, 0x600008, 0x600009, 0x60000A, 0x60000E, 0x60001D, 0x620007, 0x620009, 0x800006, 0x80000A, 0x80000B, 0x80000D, 0x80000E, 0x900001, 0x903007, 0x91000B, 0x91000E, 0x91000F, 0xA4000C, 0xB10004, 0xB20006, 0xB20007, 0xB2000F] s (State.engProcess s x1 x2 x3 x4 x5) := by
  unfold State.engProcess
  extract_lets v0 v1
  split
  rename_i w2 w3 w4 w5 w6
  refine rf_pair_22 w6 ?_ (fun h7 => ?_)
  · refine rf_ite (fun _h8 => ?_) (fun _h9 => ?_)
    · refine rf_step (State.memRead_rf _ _ _ _) rfl rfl ?_
      exact rf_refl
    · refine rf_22 ?_
      refine rf_snd ?_
      exact rf_refl
  refine rf_ite (fun _h10 => ?_) (fun _h11 => ?_)
  · refine rf_step (State.engSlugFault_rf _ _ _ _ _) rfl rfl ?_
    exact h7
  · split
    · rename_i w12 w13 w14
      refine rf_pair_snd w14 ?_ (fun h15 => ?_)
      · refine rf_step (State.engItems_rf _ _ _ _ _ _ _ _ _ _ _ _ _ _) rfl rfl ?_
        exact h7
      refine rf_step (State.setJob_rf _ _ _ _) rfl rfl ?_
      exact h15
    · rename_i w16 w17 w18 w19 w20
      refine rf_pair_snd w20 ?_ (fun h21 => ?_)
      · refine rf_step (State.engItems_rf _ _ _ _ _ _ _ _ _ _ _ _ _ _) rfl rfl ?_
        exact h7
      refine rf_step (State.engSlugFault_rf _ _ _ _ _) rfl rfl ?_
      exact h21

theorem State.engAlloc_rf (s x1 x2 x3) :
    RF vSnd [.freeCtr, .octets, .fab, .pot, .alarms] [0x620007, 0x620009, 0xB20006, 0xB20007, 0xB2000F] s (State.engAlloc s x1 x2 x3) := by
  induction x2 generalizing s x1 x3
  · unfold State.engAlloc
    refine rf_snd ?_
    exact rf_refl
  · rename_i n ih
    unfold State.engAlloc
    refine rf_ite (fun _h0 => ?_) (fun _h1 => ?_)
    · refine rf_snd ?_
      exact rf_refl
    · split
      · rename_i w2 w3 w4 w5
        refine rf_pair_snd w5 ?_ (fun h6 => ?_)
        · refine rf_step (State.allocBuf_rf _ _ _ _ _) rfl rfl ?_
          exact rf_refl
        refine rf_trans ?_ (ih ..)
        exact h6
      · rename_i w7 w8 w9
        refine rf_pair_snd w9 ?_ (fun h10 => ?_)
        · refine rf_step (State.allocBuf_rf _ _ _ _ _) rfl rfl ?_
          exact rf_refl
        refine rf_snd ?_
        exact h10

theorem State.cztUse_rf (s x1 x2) :
    RF vS [.edge] [] s (State.cztUse s x1 x2) := by
  unfold State.cztUse
  extract_lets v0 v1
  refine rf_upd (b := s) ?_ ⟨fun f hf hv => by cases f <;> first | exact absurd (by decide) hf | exact absurd rfl hv | rfl | exact ⟨rfl, rfl⟩ | exact ⟨rfl, rfl, rfl, rfl, rfl⟩, Or.inr fun _ _ => rfl⟩ (Keeps.of rfl (Nat.le_refl _) rfl)
  exact rf_refl

theorem State.engStart_rf (s x1 x2 x3 x4 x5 x6 x7 x8) :
    RF vS [.freeCtr, .mode, .values, .octets, .time, .galley, .vx, .edge, .front, .mogil, .mem, .fab, .pot, .sec, .res, .alarms] [0x200004, 0x200005, 0x200006, 0x600008, 0x600009, 0x60000A, 0x60000E, 0x60001D, 0x620007, 0x620009, 0x800006, 0x80000A, 0x80000B, 0x80000D, 0x80000E, 0x900001, 0x903007, 0x91000B, 0x91000E, 0x91000F, 0xA4000C, 0xB10004, 0xB20006, 0xB20007, 0xB2000F] s (State.engStart s x1 x2 x3 x4 x5 x6 x7 x8) := by
  unfold State.engStart
  extract_lets v0
  refine rf_ite (fun _h1 => ?_) (fun _h2 => ?_)
  · refine rf_step (State.engSlugFault_rf _ _ _ _ _) rfl rfl ?_
    exact rf_refl
  · split
    rename_i w3 w4 w5 w6
    refine rf_pair_snd w6 ?_ (fun h7 => ?_)
    · refine rf_step (State.engAlloc_rf _ _ _ _) rfl rfl ?_
      exact rf_refl
    extract_lets v8 v9
    refine rf_cut (W := vS) v8 ?_ (fun h10 => ?_)
    · unfold v8
      refine rf_step (State.setJob_rf _ _ _ _) rfl rfl ?_
      exact h7
    refine rf_cut (W := vS) v9 ?_ (fun h11 => ?_)
    · unfold v9
      refine rf_ite (fun _h12 => ?_) (fun _h13 => ?_)
      · refine rf_step (State.cztUse_rf _ _ _) rfl rfl ?_
        exact h10
      · exact h10
    refine rf_ite (fun _h14 => ?_) (fun _h15 => ?_)
    · exact h11
    · refine rf_step (State.engProcess_rf _ _ _ _ _ _) rfl rfl ?_
      exact h11

theorem State.engRun_rf (s x1 x2 x3 x4 x5 x6) :
    RF vS [.freeCtr, .mode, .values, .octets, .time, .galley, .vx, .edge, .front, .mogil, .mem, .fab, .pot, .sec, .res, .alarms] [0x200004, 0x200005, 0x200006, 0x600008, 0x600009, 0x60000A, 0x60000E, 0x60000F, 0x600013, 0x60001D, 0x620007, 0x620009, 0x800006, 0x80000A, 0x80000B, 0x80000D, 0x80000E, 0x900001, 0x903007, 0x91000B, 0x91000E, 0x91000F, 0xA4000C, 0xB10004, 0xB20006, 0xB20007, 0xB2000F] s (State.engRun s x1 x2 x3 x4 x5 x6) := by
  unfold State.engRun
  split
  · rename_i w0 w1
    refine rf_step (State.engSlugFault_rf _ _ _ _ _) rfl rfl ?_
    exact rf_refl
  · rename_i w2 w3 w4
    refine rf_ite (fun _h5 => ?_) (fun _h6 => ?_)
    · refine rf_step (State.engSlugFault_rf _ _ _ _ _) rfl rfl ?_
      exact rf_refl
    · refine rf_ite (fun _h7 => ?_) (fun _h8 => ?_)
      · refine rf_step (State.engInvalid_rf _ _ _ _ _) rfl rfl ?_
        exact rf_refl
      · refine rf_ite (fun _h9 => ?_) (fun _h10 => ?_)
        · split
          · rename_i w11 w12 w13 w14
            refine rf_pair_22 w14 ?_ (fun h15 => ?_)
            · refine rf_step (State.memRead_rf _ _ _ _) rfl rfl ?_
              exact rf_refl
            refine rf_step (State.engStart_rf _ _ _ _ _ _ _ _ _) rfl rfl ?_
            exact h15
          · rename_i w16 w17 w18 w19 w20 w21
            refine rf_pair_22 w21 ?_ (fun h22 => ?_)
            · refine rf_step (State.memRead_rf _ _ _ _) rfl rfl ?_
              exact rf_refl
            refine rf_step (State.engSlugFault_rf _ _ _ _ _) rfl rfl ?_
            exact h22
        · refine rf_step (State.engStart_rf _ _ _ _ _ _ _ _ _) rfl rfl ?_
          exact rf_refl

theorem State.engJob_rf (s x1 x2 x3) :
    RF vS [.freeCtr, .mode, .values, .octets, .time, .galley, .vx, .edge, .front, .mogil, .mem, .fab, .pot, .sec, .res, .alarms] [0x200004, 0x200005, 0x200006, 0x600008, 0x600009, 0x60000A, 0x60000E, 0x60000F, 0x600013, 0x60001D, 0x620007, 0x620009, 0x800005, 0x800006, 0x80000A, 0x80000B, 0x80000D, 0x80000E, 0x900001, 0x903007, 0x91000B, 0x91000E, 0x91000F, 0xA4000C, 0xB10004, 0xB20006, 0xB20007, 0xB2000F] s (State.engJob s x1 x2 x3) := by
  unfold State.engJob
  extract_lets v0 v1
  refine rf_cut (W := vS) v1 ?_ (fun h2 => ?_)
  · unfold v1
    refine rf_step (State.bump_rf _ _ _) rfl rfl ?_
    exact rf_refl
  refine rf_ite (fun _h3 => ?_) (fun _h4 => ?_)
  · exact rf_refl
  · split
    · rename_i w5 w6
      exact rf_refl
    · rename_i w7 w8 w9 w10
      split
      · rename_i w11 w12
        exact rf_refl
      · rename_i w13 w14 w15
        refine rf_ite (fun _h16 => ?_) (fun _h17 => ?_)
        · exact rf_refl
        · refine rf_ite (fun _h18 => ?_) (fun _h19 => ?_)
          · refine rf_step (State.engInvalid_rf _ _ _ _ _) rfl rfl ?_
            exact h2
          · split
            · rename_i w20 w21 w22 w23
              refine rf_pair_22 w23 ?_ (fun h24 => ?_)
              · refine rf_step (State.memRead_rf _ _ _ _) rfl rfl ?_
                exact h2
              extract_lets v25
              refine rf_ite (fun _h26 => ?_) (fun _h27 => ?_)
              · refine rf_step (State.engRun_rf _ _ _ _ _ _ _) rfl rfl ?_
                exact h24
              · exact rf_refl
            · rename_i w28 w29 w30 w31 w32 w33
              refine rf_pair_22 w33 ?_ (fun h34 => ?_)
              · refine rf_step (State.memRead_rf _ _ _ _) rfl rfl ?_
                exact h2
              refine rf_step (State.engSlugFault_rf _ _ _ _ _) rfl rfl ?_
              exact h34

theorem execTeFwd_rf (x0 s) :
    RF vOut [.freeCtr, .mode, .values, .octets, .time, .galley, .vx, .edge, .front, .mogil, .mem, .fab, .pot, .sec, .res, .alarms] [0x200004, 0x200005, 0x200006, 0x600008, 0x600009, 0x60000A, 0x60000E, 0x60000F, 0x600013, 0x60001D, 0x620007, 0x620009, 0x800005, 0x800006, 0x80000A, 0x80000B, 0x80000D, 0x80000E, 0x900001, 0x903007, 0x91000B, 0x91000E, 0x91000F, 0xA4000C, 0xB10004, 0xB20006, 0xB20007, 0xB2000F] s (execTeFwd x0 s) := by
  unfold execTeFwd
  refine rf_next ?_
  refine rf_step (State.engJob_rf _ _ _ _) rfl rfl ?_
  exact rf_refl

theorem execTeInv_rf (x0 s) :
    RF vOut [.freeCtr, .mode, .values, .octets, .time, .galley, .vx, .edge, .front, .mogil, .mem, .fab, .pot, .sec, .res, .alarms] [0x200004, 0x200005, 0x200006, 0x600008, 0x600009, 0x60000A, 0x60000E, 0x60000F, 0x600013, 0x60001D, 0x620007, 0x620009, 0x800005, 0x800006, 0x80000A, 0x80000B, 0x80000D, 0x80000E, 0x900001, 0x903007, 0x91000B, 0x91000E, 0x91000F, 0xA4000C, 0xB10004, 0xB20006, 0xB20007, 0xB2000F] s (execTeInv x0 s) := by
  unfold execTeInv
  refine rf_next ?_
  refine rf_step (State.engJob_rf _ _ _ _) rfl rfl ?_
  exact rf_refl

theorem execTeCzt_rf (x0 s) :
    RF vOut [.freeCtr, .mode, .values, .octets, .time, .galley, .vx, .edge, .front, .mogil, .mem, .fab, .pot, .sec, .res, .alarms] [0x200004, 0x200005, 0x200006, 0x600008, 0x600009, 0x60000A, 0x60000E, 0x60000F, 0x600013, 0x60001D, 0x620007, 0x620009, 0x800005, 0x800006, 0x80000A, 0x80000B, 0x80000D, 0x80000E, 0x900001, 0x903007, 0x91000B, 0x91000E, 0x91000F, 0xA4000C, 0xB10004, 0xB20006, 0xB20007, 0xB2000F] s (execTeCzt x0 s) := by
  unfold execTeCzt
  refine rf_next ?_
  refine rf_step (State.engJob_rf _ _ _ _) rfl rfl ?_
  exact rf_refl

theorem execMeChest_rf (x0 s) :
    RF vOut [.freeCtr, .mode, .values, .octets, .time, .galley, .vx, .edge, .front, .mogil, .mem, .fab, .pot, .sec, .res, .alarms] [0x200004, 0x200005, 0x200006, 0x600008, 0x600009, 0x60000A, 0x60000E, 0x60000F, 0x600013, 0x60001D, 0x620007, 0x620009, 0x800005, 0x800006, 0x80000A, 0x80000B, 0x80000D, 0x80000E, 0x900001, 0x903007, 0x91000B, 0x91000E, 0x91000F, 0xA4000C, 0xB10004, 0xB20006, 0xB20007, 0xB2000F] s (execMeChest x0 s) := by
  unfold execMeChest
  refine rf_next ?_
  refine rf_step (State.engJob_rf _ _ _ _) rfl rfl ?_
  exact rf_refl

theorem execMeWeight_rf (x0 s) :
    RF vOut [.freeCtr, .mode, .values, .octets, .time, .galley, .vx, .edge, .front, .mogil, .mem, .fab, .pot, .sec, .res, .alarms] [0x200004, 0x200005, 0x200006, 0x600008, 0x600009, 0x60000A, 0x60000E, 0x60000F, 0x600013, 0x60001D, 0x620007, 0x620009, 0x800005, 0x800006, 0x80000A, 0x80000B, 0x80000D, 0x80000E, 0x900001, 0x903007, 0x91000B, 0x91000E, 0x91000F, 0xA4000C, 0xB10004, 0xB20006, 0xB20007, 0xB2000F] s (execMeWeight x0 s) := by
  unfold execMeWeight
  refine rf_next ?_
  refine rf_step (State.engJob_rf _ _ _ _) rfl rfl ?_
  exact rf_refl

theorem execMeApply_rf (x0 s) :
    RF vOut [.freeCtr, .mode, .values, .octets, .time, .galley, .vx, .edge, .front, .mogil, .mem, .fab, .pot, .sec, .res, .alarms] [0x200004, 0x200005, 0x200006, 0x600008, 0x600009, 0x60000A, 0x60000E, 0x60000F, 0x600013, 0x60001D, 0x620007, 0x620009, 0x800005, 0x800006, 0x80000A, 0x80000B, 0x80000D, 0x80000E, 0x900001, 0x903007, 0x91000B, 0x91000E, 0x91000F, 0xA4000C, 0xB10004, 0xB20006, 0xB20007, 0xB2000F] s (execMeApply x0 s) := by
  unfold execMeApply
  refine rf_next ?_
  refine rf_step (State.engJob_rf _ _ _ _) rfl rfl ?_
  exact rf_refl

theorem execMeApplyDemap_rf (x0 s) :
    RF vOut [.freeCtr, .mode, .values, .octets, .time, .galley, .vx, .edge, .front, .mogil, .mem, .fab, .pot, .sec, .res, .alarms] [0x200004, 0x200005, 0x200006, 0x600008, 0x600009, 0x60000A, 0x60000E, 0x60000F, 0x600013, 0x60001D, 0x620007, 0x620009, 0x800005, 0x800006, 0x80000A, 0x80000B, 0x80000D, 0x80000E, 0x900001, 0x903007, 0x91000B, 0x91000E, 0x91000F, 0xA4000C, 0xB10004, 0xB20006, 0xB20007, 0xB2000F] s (execMeApplyDemap x0 s) := by
  unfold execMeApplyDemap
  refine rf_next ?_
  refine rf_step (State.engJob_rf _ _ _ _) rfl rfl ?_
  exact rf_refl

theorem execMeChol_rf (x0 s) :
    RF vOut [.freeCtr, .mode, .values, .octets, .time, .galley, .vx, .edge, .front, .mogil, .mem, .fab, .pot, .sec, .res, .alarms] [0x200004, 0x200005, 0x200006, 0x600008, 0x600009, 0x60000A, 0x60000E, 0x60000F, 0x600013, 0x60001D, 0x620007, 0x620009, 0x800005, 0x800006, 0x80000A, 0x80000B, 0x80000D, 0x80000E, 0x900001, 0x903007, 0x91000B, 0x91000E, 0x91000F, 0xA4000C, 0xB10004, 0xB20006, 0xB20007, 0xB2000F] s (execMeChol x0 s) := by
  unfold execMeChol
  refine rf_next ?_
  refine rf_step (State.engJob_rf _ _ _ _) rfl rfl ?_
  exact rf_refl

theorem execMeInv_rf (x0 s) :
    RF vOut [.freeCtr, .mode, .values, .octets, .time, .galley, .vx, .edge, .front, .mogil, .mem, .fab, .pot, .sec, .res, .alarms] [0x200004, 0x200005, 0x200006, 0x600008, 0x600009, 0x60000A, 0x60000E, 0x60000F, 0x600013, 0x60001D, 0x620007, 0x620009, 0x800005, 0x800006, 0x80000A, 0x80000B, 0x80000D, 0x80000E, 0x900001, 0x903007, 0x91000B, 0x91000E, 0x91000F, 0xA4000C, 0xB10004, 0xB20006, 0xB20007, 0xB2000F] s (execMeInv x0 s) := by
  unfold execMeInv
  refine rf_next ?_
  refine rf_step (State.engJob_rf _ _ _ _) rfl rfl ?_
  exact rf_refl

theorem execLdDecode_rf (x0 s) :
    RF vOut [.freeCtr, .mode, .values, .octets, .time, .galley, .vx, .edge, .front, .mogil, .mem, .fab, .pot, .sec, .res, .alarms] [0x200004, 0x200005, 0x200006, 0x600008, 0x600009, 0x60000A, 0x60000E, 0x60000F, 0x600013, 0x60001D, 0x620007, 0x620009, 0x800005, 0x800006, 0x80000A, 0x80000B, 0x80000D, 0x80000E, 0x900001, 0x903007, 0x91000B, 0x91000E, 0x91000F, 0xA4000C, 0xB10004, 0xB20006, 0xB20007, 0xB2000F] s (execLdDecode x0 s) := by
  unfold execLdDecode
  refine rf_next ?_
  refine rf_step (State.engJob_rf _ _ _ _) rfl rfl ?_
  exact rf_refl

theorem execLeEncode_rf (x0 s) :
    RF vOut [.freeCtr, .mode, .values, .octets, .time, .galley, .vx, .edge, .front, .mogil, .mem, .fab, .pot, .sec, .res, .alarms] [0x200004, 0x200005, 0x200006, 0x600008, 0x600009, 0x60000A, 0x60000E, 0x60000F, 0x600013, 0x60001D, 0x620007, 0x620009, 0x800005, 0x800006, 0x80000A, 0x80000B, 0x80000D, 0x80000E, 0x900001, 0x903007, 0x91000B, 0x91000E, 0x91000F, 0xA4000C, 0xB10004, 0xB20006, 0xB20007, 0xB2000F] s (execLeEncode x0 s) := by
  unfold execLeEncode
  refine rf_next ?_
  refine rf_step (State.engJob_rf _ _ _ _) rfl rfl ?_
  exact rf_refl

theorem execPlPolarDecode_rf (x0 s) :
    RF vOut [.freeCtr, .mode, .values, .octets, .time, .galley, .vx, .edge, .front, .mogil, .mem, .fab, .pot, .sec, .res, .alarms] [0x200004, 0x200005, 0x200006, 0x600008, 0x600009, 0x60000A, 0x60000E, 0x60000F, 0x600013, 0x60001D, 0x620007, 0x620009, 0x800005, 0x800006, 0x80000A, 0x80000B, 0x80000D, 0x80000E, 0x900001, 0x903007, 0x91000B, 0x91000E, 0x91000F, 0xA4000C, 0xB10004, 0xB20006, 0xB20007, 0xB2000F] s (execPlPolarDecode x0 s) := by
  unfold execPlPolarDecode
  refine rf_next ?_
  refine rf_step (State.engJob_rf _ _ _ _) rfl rfl ?_
  exact rf_refl

theorem execPlPolarEncode_rf (x0 s) :
    RF vOut [.freeCtr, .mode, .values, .octets, .time, .galley, .vx, .edge, .front, .mogil, .mem, .fab, .pot, .sec, .res, .alarms] [0x200004, 0x200005, 0x200006, 0x600008, 0x600009, 0x60000A, 0x60000E, 0x60000F, 0x600013, 0x60001D, 0x620007, 0x620009, 0x800005, 0x800006, 0x80000A, 0x80000B, 0x80000D, 0x80000E, 0x900001, 0x903007, 0x91000B, 0x91000E, 0x91000F, 0xA4000C, 0xB10004, 0xB20006, 0xB20007, 0xB2000F] s (execPlPolarEncode x0 s) := by
  unfold execPlPolarEncode
  refine rf_next ?_
  refine rf_step (State.engJob_rf _ _ _ _) rfl rfl ?_
  exact rf_refl

theorem execPlConvDecode_rf (x0 s) :
    RF vOut [.freeCtr, .mode, .values, .octets, .time, .galley, .vx, .edge, .front, .mogil, .mem, .fab, .pot, .sec, .res, .alarms] [0x200004, 0x200005, 0x200006, 0x600008, 0x600009, 0x60000A, 0x60000E, 0x60000F, 0x600013, 0x60001D, 0x620007, 0x620009, 0x800005, 0x800006, 0x80000A, 0x80000B, 0x80000D, 0x80000E, 0x900001, 0x903007, 0x91000B, 0x91000E, 0x91000F, 0xA4000C, 0xB10004, 0xB20006, 0xB20007, 0xB2000F] s (execPlConvDecode x0 s) := by
  unfold execPlConvDecode
  refine rf_next ?_
  refine rf_step (State.engJob_rf _ _ _ _) rfl rfl ?_
  exact rf_refl

theorem execPlConvEncode_rf (x0 s) :
    RF vOut [.freeCtr, .mode, .values, .octets, .time, .galley, .vx, .edge, .front, .mogil, .mem, .fab, .pot, .sec, .res, .alarms] [0x200004, 0x200005, 0x200006, 0x600008, 0x600009, 0x60000A, 0x60000E, 0x60000F, 0x600013, 0x60001D, 0x620007, 0x620009, 0x800005, 0x800006, 0x80000A, 0x80000B, 0x80000D, 0x80000E, 0x900001, 0x903007, 0x91000B, 0x91000E, 0x91000F, 0xA4000C, 0xB10004, 0xB20006, 0xB20007, 0xB2000F] s (execPlConvEncode x0 s) := by
  unfold execPlConvEncode
  refine rf_next ?_
  refine rf_step (State.engJob_rf _ _ _ _) rfl rfl ?_
  exact rf_refl

theorem execPlRmDecode_rf (x0 s) :
    RF vOut [.freeCtr, .mode, .values, .octets, .time, .galley, .vx, .edge, .front, .mogil, .mem, .fab, .pot, .sec, .res, .alarms] [0x200004, 0x200005, 0x200006, 0x600008, 0x600009, 0x60000A, 0x60000E, 0x60000F, 0x600013, 0x60001D, 0x620007, 0x620009, 0x800005, 0x800006, 0x80000A, 0x80000B, 0x80000D, 0x80000E, 0x900001, 0x903007, 0x91000B, 0x91000E, 0x91000F, 0xA4000C, 0xB10004, 0xB20006, 0xB20007, 0xB2000F] s (execPlRmDecode x0 s) := by
  unfold execPlRmDecode
  refine rf_next ?_
  refine rf_step (State.engJob_rf _ _ _ _) rfl rfl ?_
  exact rf_refl

theorem execPlRmEncode_rf (x0 s) :
    RF vOut [.freeCtr, .mode, .values, .octets, .time, .galley, .vx, .edge, .front, .mogil, .mem, .fab, .pot, .sec, .res, .alarms] [0x200004, 0x200005, 0x200006, 0x600008, 0x600009, 0x60000A, 0x60000E, 0x60000F, 0x600013, 0x60001D, 0x620007, 0x620009, 0x800005, 0x800006, 0x80000A, 0x80000B, 0x80000D, 0x80000E, 0x900001, 0x903007, 0x91000B, 0x91000E, 0x91000F, 0xA4000C, 0xB10004, 0xB20006, 0xB20007, 0xB2000F] s (execPlRmEncode x0 s) := by
  unfold execPlRmEncode
  refine rf_next ?_
  refine rf_step (State.engJob_rf _ _ _ _) rfl rfl ?_
  exact rf_refl

theorem execTdDecode_rf (x0 s) :
    RF vOut [.freeCtr, .mode, .values, .octets, .time, .galley, .vx, .edge, .front, .mogil, .mem, .fab, .pot, .sec, .res, .alarms] [0x200004, 0x200005, 0x200006, 0x600008, 0x600009, 0x60000A, 0x60000E, 0x60000F, 0x600013, 0x60001D, 0x620007, 0x620009, 0x800005, 0x800006, 0x80000A, 0x80000B, 0x80000D, 0x80000E, 0x900001, 0x903007, 0x91000B, 0x91000E, 0x91000F, 0xA4000C, 0xB10004, 0xB20006, 0xB20007, 0xB2000F] s (execTdDecode x0 s) := by
  unfold execTdDecode
  refine rf_next ?_
  refine rf_step (State.engJob_rf _ _ _ _) rfl rfl ?_
  exact rf_refl

theorem execHqUplinkCombine_rf (x0 s) :
    RF vOut [.freeCtr, .mode, .values, .octets, .time, .galley, .vx, .edge, .front, .mogil, .mem, .fab, .pot, .sec, .res, .alarms] [0x200004, 0x200005, 0x200006, 0x600008, 0x600009, 0x60000A, 0x60000E, 0x60000F, 0x600013, 0x60001D, 0x620007, 0x620009, 0x800005, 0x800006, 0x80000A, 0x80000B, 0x80000D, 0x80000E, 0x900001, 0x903007, 0x91000B, 0x91000E, 0x91000F, 0xA4000C, 0xB10004, 0xB20006, 0xB20007, 0xB2000F] s (execHqUplinkCombine x0 s) := by
  unfold execHqUplinkCombine
  refine rf_next ?_
  refine rf_step (State.engJob_rf _ _ _ _) rfl rfl ?_
  exact rf_refl

theorem execHqDownlinkRateMatch_rf (x0 s) :
    RF vOut [.freeCtr, .mode, .values, .octets, .time, .galley, .vx, .edge, .front, .mogil, .mem, .fab, .pot, .sec, .res, .alarms] [0x200004, 0x200005, 0x200006, 0x600008, 0x600009, 0x60000A, 0x60000E, 0x60000F, 0x600013, 0x60001D, 0x620007, 0x620009, 0x800005, 0x800006, 0x80000A, 0x80000B, 0x80000D, 0x80000E, 0x900001, 0x903007, 0x91000B, 0x91000E, 0x91000F, 0xA4000C, 0xB10004, 0xB20006, 0xB20007, 0xB2000F] s (execHqDownlinkRateMatch x0 s) := by
  unfold execHqDownlinkRateMatch
  refine rf_next ?_
  refine rf_step (State.engJob_rf _ _ _ _) rfl rfl ?_
  exact rf_refl

theorem execEngineJobComplete_rf (x0 s) :
    RF vOut [.freeCtr, .mode, .values, .octets, .time, .galley, .vx, .edge, .front, .mogil, .mem, .fab, .pot, .sec, .res, .alarms] [0x200004, 0x200005, 0x200006, 0x600008, 0x600009, 0x60000A, 0x60000E, 0x60000F, 0x600013, 0x60001D, 0x620007, 0x620009, 0x800006, 0x80000A, 0x80000B, 0x80000D, 0x80000E, 0x900001, 0x903007, 0x91000B, 0x91000E, 0x91000F, 0xA4000C, 0xB10004, 0xB20006, 0xB20007, 0xB2000F] s (execEngineJobComplete x0 s) := by
  unfold execEngineJobComplete
  split
  rename_i w0 w1 w2 w3
  split
  · rename_i w4 w5
    refine rf_next ?_
    exact rf_refl
  · rename_i w6 w7 w8
    extract_lets v9
    refine rf_cut (W := vS) v9 ?_ (fun h10 => ?_)
    · unfold v9
      split
      · rename_i w11 w12 w13 w14 w15 w16 w17 w18
        refine rf_step (State.engProcess_rf _ _ _ _ _ _) rfl rfl ?_
        exact rf_refl
      · rename_i w19 w20 w21 w22
        exact rf_refl
    refine rf_ite (fun _h23 => ?_) (fun _h24 => ?_)
    · refine rf_next ?_
      exact rf_refl
    · split
      · rename_i w25 w26 w27
        refine rf_next ?_
        refine rf_step (State.engDone_rf _ _ _ _ _) rfl rfl ?_
        exact h10
      · rename_i w28 w29
        refine rf_next ?_
        exact h10

theorem execEngineAllocTimeout_rf (x0 s) :
    RF vOut [.freeCtr, .values, .octets, .galley, .edge, .front, .fab, .pot, .res, .alarms] [0x600008, 0x600009, 0x60000A, 0x60000E, 0x60001D, 0x620007, 0x620009, 0x80000E, 0xB20006, 0xB20007, 0xB2000F] s (execEngineAllocTimeout x0 s) := by
  unfold execEngineAllocTimeout
  split
  rename_i w0 w1 w2 w3
  split
  · rename_i w4 w5 w6
    extract_lets v7
    refine rf_ite (fun _h8 => ?_) (fun _h9 => ?_)
    · refine rf_next ?_
      refine rf_step (State.raiseAtMost_rf _ _ _ _ _) rfl rfl ?_
      refine rf_step (State.engSlugFault_rf _ _ _ _ _) rfl rfl ?_
      exact rf_refl
    · refine rf_next ?_
      exact rf_refl
  · rename_i w10 w11
    refine rf_next ?_
    exact rf_refl

theorem execEngineUnitFault_rf (x0 x1 s) :
    RF vOut [.freeCtr, .mode, .values, .octets, .force, .galley, .vx, .edge, .front, .fab, .pot, .res, .alarms] [0x200004, 0x200005, 0x200006, 0x200007, 0x600008, 0x600009, 0x60000A, 0x60000C, 0x60000D, 0x60000E, 0x60001D, 0x620007, 0x620009, 0x700009, 0x800007, 0x80000E, 0x82000B, 0x903007, 0xB20006, 0xB20007, 0xB2000F, 0xE00006] s (execEngineUnitFault x0 x1 s) := by
  unfold execEngineUnitFault
  split
  rename_i w0 w1 w2 w3
  refine rf_ite (fun _h4 => ?_) (fun _h5 => ?_)
  · refine rf_next ?_
    exact rf_refl
  · split
    · rename_i w6
      refine rf_next ?_
      refine rf_step (State.corrected_rf _ _ _ _ _ _ _ _) rfl rfl ?_
      exact rf_refl
    · rename_i w7 w8
      refine rf_next ?_
      refine rf_step (State.anyFault_rf _ _ _ _ _ _) rfl rfl ?_
      exact rf_refl

theorem State.dmaMove_rf (s x1 x2 x3 x4 x5 x6) :
    RF vSnd [.freeCtr, .mode, .octets, .time, .galley, .vx, .mogil, .mem, .fab, .pot, .sec, .res, .alarms] [0x200004, 0x200005, 0x200006, 0x900001, 0x903007, 0x91000B, 0x91000E, 0x91000F, 0xA4000C, 0xB10004, 0xB20006, 0xB20007, 0xB2000F] s (State.dmaMove s x1 x2 x3 x4 x5 x6) := by
  induction x5 generalizing s x1 x2 x3 x4 x6
  · unfold State.dmaMove
    refine rf_snd ?_
    exact rf_refl
  · rename_i n ih
    unfold State.dmaMove
    dsimp only
    refine rf_ite (fun _h0 => ?_) (fun _h1 => ?_)
    · refine rf_snd ?_
      exact rf_refl
    · refine rf_ite (fun _h2 => ?_) (fun _h3 => ?_)
      · refine rf_snd ?_
        refine rf_of_snd ?_
        refine rf_of_22 ?_
        refine rf_ite (fun _h4 => ?_) (fun _h5 => ?_)
        · refine rf_step (State.memRead_rf _ _ _ _) rfl rfl ?_
          exact rf_refl
        · refine rf_22 ?_
          refine rf_snd ?_
          exact rf_refl
      · split
        · rename_i w6 w7 w8
          refine rf_pair_snd w8 ?_ (fun h9 => ?_)
          · refine rf_step (State.memWrite_rf _ _ _ _) rfl rfl ?_
            refine rf_of_snd ?_
            refine rf_of_22 ?_
            refine rf_ite (fun _h10 => ?_) (fun _h11 => ?_)
            · refine rf_step (State.memRead_rf _ _ _ _) rfl rfl ?_
              exact rf_refl
            · refine rf_22 ?_
              refine rf_snd ?_
              exact rf_refl
          refine rf_trans ?_ (ih ..)
          exact h9
        · rename_i w12 w13 w14 w15 w16
          refine rf_pair_snd w16 ?_ (fun h17 => ?_)
          · refine rf_step (State.memWrite_rf _ _ _ _) rfl rfl ?_
            refine rf_of_snd ?_
            refine rf_of_22 ?_
            refine rf_ite (fun _h18 => ?_) (fun _h19 => ?_)
            · refine rf_step (State.memRead_rf _ _ _ _) rfl rfl ?_
              exact rf_refl
            · refine rf_22 ?_
              refine rf_snd ?_
              exact rf_refl
          refine rf_snd ?_
          exact h17

theorem State.dmaEls_rf (s x1 x2 x3 x4 x5 x6 x7) :
    RF vSnd [.freeCtr, .mode, .octets, .time, .galley, .vx, .mogil, .mem, .fab, .pot, .sec, .res, .alarms] [0x200004, 0x200005, 0x200006, 0x900001, 0x903007, 0x91000B, 0x91000E, 0x91000F, 0xA4000C, 0xB10004, 0xB20006, 0xB20007, 0xB2000F] s (State.dmaEls s x1 x2 x3 x4 x5 x6 x7) := by
  induction x7 generalizing s x1 x2 x3 x4 x5 x6
  · unfold State.dmaEls
    refine rf_snd ?_
    exact rf_refl
  · rename_i y ys ih
    unfold State.dmaEls
    dsimp only
    split
    · rename_i w0 w1 w2
      refine rf_pair_snd w2 ?_ (fun h3 => ?_)
      · refine rf_step (State.dmaMove_rf _ _ _ _ _ _ _) rfl rfl ?_
        exact rf_refl
      refine rf_ite (fun _h4 => ?_) (fun _h5 => ?_)
      · refine rf_snd ?_
        refine rf_of_snd ?_
        refine rf_ite (fun _h6 => ?_) (fun _h7 => ?_)
        · refine rf_step (State.memWrite_rf _ _ _ _) rfl rfl ?_
          refine rf_of_snd ?_
          refine rf_step (State.drawNat_rf _) rfl rfl ?_
          exact h3
        · refine rf_snd ?_
          refine rf_of_snd ?_
          refine rf_step (State.drawNat_rf _) rfl rfl ?_
          exact h3
      · refine rf_trans ?_ (ih ..)
        refine rf_of_snd ?_
        refine rf_ite (fun _h8 => ?_) (fun _h9 => ?_)
        · refine rf_step (State.memWrite_rf _ _ _ _) rfl rfl ?_
          refine rf_of_snd ?_
          refine rf_step (State.drawNat_rf _) rfl rfl ?_
          exact h3
        · refine rf_snd ?_
          refine rf_of_snd ?_
          refine rf_step (State.drawNat_rf _) rfl rfl ?_
          exact h3
    · rename_i w10 w11 w12 w13 w14
      refine rf_pair_snd w14 ?_ (fun h15 => ?_)
      · refine rf_step (State.dmaMove_rf _ _ _ _ _ _ _) rfl rfl ?_
        exact rf_refl
      refine rf_snd ?_
      exact h15

theorem State.dmaProcess_rf (s x1 x2 x3 x4) :
    RF vS [.freeCtr, .mode, .values, .octets, .time, .galley, .vx, .edge, .front, .mogil, .mem, .fab, .pot, .sec, .res, .alarms] [0x200004, 0x200005, 0x200006, 0x600008, 0x600009, 0x60000A, 0x60000E, 0x60000F, 0x600013, 0x60001D, 0x620007, 0x620009, 0x80000E, 0x900001, 0x903007, 0x91000B, 0x91000E, 0x91000F, 0xA4000C, 0xB10004, 0xB20006, 0xB20007, 0xB2000F] s (State.dmaProcess s x1 x2 x3 x4) := by
  unfold State.dmaProcess
  extract_lets v0 v1 v2 v3 v4
  split
  · rename_i w5 w6 w7 w8
    refine rf_pair_22 w8 ?_ (fun h9 => ?_)
    · refine rf_step (State.memRead_rf _ _ _ _) rfl rfl ?_
      exact rf_refl
    extract_lets v10
    refine rf_ite (fun _h11 => ?_) (fun _h12 => ?_)
    · split
      · rename_i w13 w14 w15
        refine rf_pair_snd w15 ?_ (fun h16 => ?_)
        · refine rf_step (State.dmaEls_rf _ _ _ _ _ _ _ _) rfl rfl ?_
          exact h9
        extract_lets v17
        refine rf_step (State.engDone_rf _ _ _ _ _) rfl rfl ?_
        exact h16
      · rename_i w18 w19 w20 w21 w22
        refine rf_pair_snd w22 ?_ (fun h23 => ?_)
        · refine rf_step (State.dmaEls_rf _ _ _ _ _ _ _ _) rfl rfl ?_
          exact h9
        refine rf_step (State.engSlugFault_rf _ _ _ _ _) rfl rfl ?_
        exact h23
    · refine rf_step (State.engSlugFault_rf _ _ _ _ _) rfl rfl ?_
      exact h9
  · rename_i w24 w25 w26 w27 w28 w29
    refine rf_pair_22 w29 ?_ (fun h30 => ?_)
    · refine rf_step (State.memRead_rf _ _ _ _) rfl rfl ?_
      exact rf_refl
    refine rf_step (State.engSlugFault_rf _ _ _ _ _) rfl rfl ?_
    exact h30

theorem State.dmaRun_rf (s x1 x2 x3 x4 x5 x6) :
    RF vS [.freeCtr, .mode, .values, .octets, .time, .galley, .vx, .edge, .front, .mogil, .mem, .fab, .pot, .sec, .res, .alarms] [0x200004, 0x200005, 0x200006, 0x600008, 0x600009, 0x60000A, 0x60000E, 0x60000F, 0x600013, 0x60001D, 0x620007, 0x620009, 0x80000E, 0x900001, 0x903007, 0x91000B, 0x91000E, 0x91000F, 0xA4000C, 0xB10004, 0xB20006, 0xB20007, 0xB2000F] s (State.dmaRun s x1 x2 x3 x4 x5 x6) := by
  unfold State.dmaRun
  extract_lets v0 v1
  refine rf_ite (fun _h2 => ?_) (fun _h3 => ?_)
  · refine rf_step (State.engSlugFault_rf _ _ _ _ _) rfl rfl ?_
    exact rf_refl
  · refine rf_ite (fun _h4 => ?_) (fun _h5 => ?_)
    · refine rf_step (State.engInvalid_rf _ _ _ _ _) rfl rfl ?_
      exact rf_refl
    · refine rf_ite (fun _h6 => ?_) (fun _h7 => ?_)
      · refine rf_step (State.engSlugFault_rf _ _ _ _ _) rfl rfl ?_
        exact rf_refl
      · split
        rename_i w8 w9 w10 w11
        refine rf_pair_snd w11 ?_ (fun h12 => ?_)
        · refine rf_step (State.engAlloc_rf _ _ _ _) rfl rfl ?_
          exact rf_refl
        extract_lets v13
        refine rf_cut (W := vS) v13 ?_ (fun h14 => ?_)
        · unfold v13
          refine rf_step (State.setJob_rf _ _ _ _) rfl rfl ?_
          exact h12
        refine rf_ite (fun _h15 => ?_) (fun _h16 => ?_)
        · exact h14
        · refine rf_step (State.dmaProcess_rf _ _ _ _ _) rfl rfl ?_
          exact h14

theorem State.dmaJob_rf (s x1 x2) :
    RF vS [.freeCtr, .mode, .values, .octets, .time, .galley, .vx, .edge, .front, .mogil, .mem, .fab, .pot, .sec, .res, .alarms] [0x200004, 0x200005, 0x200006, 0x600008, 0x600009, 0x60000A, 0x60000E, 0x60000F, 0x600013, 0x60001D, 0x620007, 0x620009, 0x80000E, 0x900001, 0x903007, 0x91000B, 0x91000E, 0x91000F, 0xA4000C, 0xB10004, 0xB20006, 0xB20007, 0xB2000F] s (State.dmaJob s x1 x2) := by
  unfold State.dmaJob
  split
  · rename_i w0 w1
    exact rf_refl
  · rename_i w2 w3 w4 w5
    split
    · rename_i w6 w7
      exact rf_refl
    · rename_i w8 w9 w10
      refine rf_ite (fun _h11 => ?_) (fun _h12 => ?_)
      · exact rf_refl
      · split
        · rename_i w13 w14 w15
          refine rf_ite (fun _h16 => ?_) (fun _h17 => ?_)
          · exact rf_refl
          · refine rf_step (State.dmaProcess_rf _ _ _ _ _) rfl rfl ?_
            exact rf_refl
        · rename_i w18 w19
          refine rf_ite (fun _h20 => ?_) (fun _h21 => ?_)
          · refine rf_step (State.engInvalid_rf _ _ _ _ _) rfl rfl ?_
            exact rf_refl
          · split
            · rename_i w22 w23 w24 w25
              refine rf_pair_22 w25 ?_ (fun h26 => ?_)
              · refine rf_step (State.memRead_rf _ _ _ _) rfl rfl ?_
                exact rf_refl
              refine rf_step (State.dmaRun_rf _ _ _ _ _ _ _) rfl rfl ?_
              exact h26
            · rename_i w27 w28 w29 w30 w31 w32
              refine rf_pair_22 w32 ?_ (fun h33 => ?_)
              · refine rf_step (State.memRead_rf _ _ _ _) rfl rfl ?_
                exact rf_refl
              refine rf_step (State.engSlugFault_rf _ _ _ _ _) rfl rfl ?_
              exact h33

theorem execDmaCopy_rf (x0 s) :
    RF vOut [.freeCtr, .mode, .values, .octets, .time, .galley, .vx, .edge, .front, .mogil, .mem, .fab, .pot, .sec, .res, .alarms] [0x200004, 0x200005, 0x200006, 0x600008, 0x600009, 0x60000A, 0x60000E, 0x60000F, 0x600013, 0x60001D, 0x620007, 0x620009, 0x80000E, 0x900001, 0x903007, 0x91000B, 0x91000E, 0x91000F, 0xA4000C, 0xB10004, 0xB20006, 0xB20007, 0xB2000F] s (execDmaCopy x0 s) := by
  unfold execDmaCopy
  refine rf_next ?_
  refine rf_step (State.dmaJob_rf _ _ _) rfl rfl ?_
  exact rf_refl

theorem execDmaFill_rf (x0 s) :
    RF vOut [.freeCtr, .mode, .values, .octets, .time, .galley, .vx, .edge, .front, .mogil, .mem, .fab, .pot, .sec, .res, .alarms] [0x200004, 0x200005, 0x200006, 0x600008, 0x600009, 0x60000A, 0x60000E, 0x60000F, 0x600013, 0x60001D, 0x620007, 0x620009, 0x80000E, 0x900001, 0x903007, 0x91000B, 0x91000E, 0x91000F, 0xA4000C, 0xB10004, 0xB20006, 0xB20007, 0xB2000F] s (execDmaFill x0 s) := by
  unfold execDmaFill
  refine rf_next ?_
  refine rf_step (State.dmaJob_rf _ _ _) rfl rfl ?_
  exact rf_refl

theorem execDmaUnitFault_rf (x0 s) :
    RF vOut [.freeCtr, .mode, .values, .octets, .force, .galley, .vx, .edge, .front, .fab, .pot, .res, .alarms] [0x200004, 0x200005, 0x200006, 0x200007, 0x600008, 0x600009, 0x60000A, 0x60000C, 0x60000D, 0x60000E, 0x60001D, 0x620007, 0x620009, 0x700009, 0x800007, 0x80000E, 0x82000B, 0x903007, 0xB20006, 0xB20007, 0xB2000F, 0xE00006] s (execDmaUnitFault x0 s) := by
  unfold execDmaUnitFault
  refine rf_ite (fun _h0 => ?_) (fun _h1 => ?_)
  · refine rf_next ?_
    refine rf_step (State.anyFault_rf _ _ _ _ _ _) rfl rfl ?_
    exact rf_refl
  · refine rf_next ?_
    exact rf_refl

end Sys2Proof.Machine
end

