-- ==== Sys2Proof/Laws/FramesTimeOps.lean ====
section
/-!
SUPPORT. What each operation of Machine/TimeOps.lean may change, one lemma each.
-/

namespace Sys2Proof.Machine

set_option Elab.async false

open Sys2Proof

theorem State.setTime_rf (s x1) :
    RF vS [.time] [] s (State.setTime s x1) := by
  unfold State.setTime
  refine rf_upd (b := s) ?_ ⟨fun f hf hv => by cases f <;> first | exact absurd (by decide) hf | exact absurd rfl hv | rfl | exact ⟨rfl, rfl⟩ | exact ⟨rfl, rfl, rfl, rfl, rfl⟩, Or.inr fun _ _ => rfl⟩ (Keeps.of rfl (Nat.le_refl _) rfl)
  exact rf_refl

theorem State.drawInt_rf (s) :
    RF vSnd [.freeCtr] [] s (State.drawInt s) := by
  unfold State.drawInt
  refine rf_snd ?_
  refine rf_upd (b := s) ?_ ⟨fun f hf hv => by cases f <;> first | exact absurd (by decide) hf | exact absurd rfl hv | rfl | exact ⟨rfl, rfl⟩ | exact ⟨rfl, rfl, rfl, rfl, rfl⟩, Or.inr fun _ _ => rfl⟩ (Keeps.of rfl (Nat.le_add_right _ _) rfl)
  exact rf_refl

theorem State.divOpen_rf (s x1 x2) :
    RF vSnd [.freeCtr] [] s (State.divOpen s x1 x2) := by
  unfold State.divOpen
  extract_lets v0
  refine rf_ite (fun _h1 => ?_) (fun _h2 => ?_)
  · refine rf_snd ?_
    exact rf_refl
  · refine rf_snd ?_
    refine rf_upd (b := s) ?_ ⟨fun f hf hv => by cases f <;> first | exact absurd (by decide) hf | exact absurd rfl hv | rfl | exact ⟨rfl, rfl⟩ | exact ⟨rfl, rfl, rfl, rfl, rfl⟩, Or.inr fun _ _ => rfl⟩ (Keeps.of rfl (Nat.le_add_right _ _) rfl)
    exact rf_refl

theorem State.skipCell_rf (x0 x1 s x3) :
    RF vS [.galley] [0x600006] s (State.skipCell x0 x1 s x3) := by
  unfold State.skipCell
  extract_lets v0 v1 v2
  refine rf_cut (W := vS) v1 ?_ (fun h3 => ?_)
  · unfold v1
    refine rf_step (State.bumpBy_rf _ _ _ _) rfl rfl ?_
    exact rf_refl
  refine rf_ite (fun _h4 => ?_) (fun _h5 => ?_)
  · split
    · rename_i w6 w7 w8
      clear_value v1
      refine rf_upd (b := v1) ?_ ⟨fun f hf hv => by cases f <;> first | exact absurd (by decide) hf | exact absurd rfl hv | rfl | exact ⟨rfl, rfl⟩ | exact ⟨rfl, rfl, rfl, rfl, rfl⟩, Or.inr fun _ _ => rfl⟩ (Keeps.of rfl (Nat.le_refl _) rfl)
      exact h3
    · rename_i w9 w10
      exact h3
  · exact rf_refl

theorem State.expireAll_rf (s) :
    RF vS [.freeCtr, .octets, .galley, .edge, .front, .fab, .pot, .alarms] [0x600008, 0x600009, 0x60000A, 0x60000B, 0x60001D, 0x620007, 0x620009, 0xB20006, 0xB20007, 0xB2000F] s (State.expireAll s) := by
  unfold State.expireAll
  refine rf_foldl ?_ (fun t0 x1 h2 => ?_)
  · exact rf_refl
  · split
    · rename_i w3 w4 w5
      refine rf_ite (fun _h6 => ?_) (fun _h7 => ?_)
      · refine rf_step (State.expire_rf _ _ _) rfl rfl ?_
        exact h2
      · exact h2
    · rename_i w8 w9
      exact h2

theorem State.advanceAir_rf (s x1) :
    RF vS [.freeCtr, .octets, .time, .galley, .edge, .front, .fab, .pot, .pins, .alarms] [0x600006, 0x600008, 0x600009, 0x60000A, 0x60000B, 0x60000F, 0x600013, 0x60001D, 0x620007, 0x620009, 0xB20006, 0xB20007, 0xB2000F] s (State.advanceAir s x1) := by
  unfold State.advanceAir
  extract_lets v0 v1 v2 v3
  refine rf_cut (W := vS) v1 ?_ (fun h4 => ?_)
  · unfold v1
    refine rf_foldl ?_ (fun t5 x6 h7 => ?_)
    · exact rf_refl
    · refine rf_step (State.skipCell_rf _ _ _ _) rfl rfl ?_
      exact h7
  refine rf_cut (W := vS) v3 ?_ (fun h8 => ?_)
  · unfold v3
    refine rf_step (State.skipOccasions_rf _ _) rfl rfl ?_
    refine rf_step (State.expireAll_rf _) rfl rfl ?_
    refine rf_step (State.fireTimers_rf _) rfl rfl ?_
    refine rf_step (State.setTime_rf _ _) rfl rfl ?_
    exact h4
  refine rf_ite (fun _h9 => ?_) (fun _h10 => ?_)
  · exact rf_refl
  · refine rf_ite (fun _h11 => ?_) (fun _h12 => ?_)
    · refine rf_step (State.settleRcos_rf _) rfl rfl ?_
      exact h8
    · exact h8

theorem State.stepTime_rf (s x1) :
    RF vS [.freeCtr, .octets, .time, .galley, .edge, .front, .fab, .pot, .pins, .alarms] [0x300013, 0x30001C, 0x600006, 0x600008, 0x600009, 0x60000A, 0x60000B, 0x60000F, 0x600013, 0x60001D, 0x620007, 0x620009, 0xB20006, 0xB20007, 0xB2000F] s (State.stepTime s x1) := by
  unfold State.stepTime
  extract_lets v0 v1 v2 v3
  refine rf_cut (W := vS) v1 ?_ (fun h4 => ?_)
  · unfold v1
    refine rf_step (State.setTime_rf _ _) rfl rfl ?_
    exact rf_refl
  refine rf_cut (W := vS) v2 ?_ (fun h5 => ?_)
  · unfold v2
    refine rf_step (State.setNum_rf _ _ _ _) rfl rfl ?_
    exact h4
  refine rf_cut (W := vS) v3 ?_ (fun h6 => ?_)
  · unfold v3
    refine rf_step (State.raise_rf _ _ _ _ _) rfl rfl ?_
    refine rf_step (State.setBits_rf _ _ _ _) rfl rfl ?_
    exact h5
  refine rf_ite (fun _h7 => ?_) (fun _h8 => ?_)
  · refine rf_step (State.advanceAir_rf _ _) rfl rfl ?_
    exact h6
  · exact h6

theorem State.setRate_rf (s x1) :
    RF vS [.time] [0x300005] s (State.setRate s x1) := by
  unfold State.setRate
  extract_lets v0
  refine rf_step (State.setNum_rf _ _ _ _) rfl rfl ?_
  refine rf_step (State.setTime_rf _ _) rfl rfl ?_
  exact rf_refl

theorem State.setY_rf (s x1) :
    RF vS [.freeCtr, .time] [0x300005] s (State.setY s x1) := by
  unfold State.setY
  split
  rename_i w0 w1 w2 w3
  refine rf_pair_snd w3 ?_ (fun h4 => ?_)
  · refine rf_step (State.divOpen_rf _ _ _) rfl rfl ?_
    exact rf_refl
  extract_lets v5
  refine rf_step (State.setRate_rf _ _) rfl rfl ?_
  refine rf_step (State.setTime_rf _ _) rfl rfl ?_
  exact h4

theorem State.reclamp_rf (s) :
    RF vS [.time] [0x300005] s (State.reclamp s) := by
  unfold State.reclamp
  extract_lets v0
  refine rf_step (State.setRate_rf _ _) rfl rfl ?_
  refine rf_step (State.setTime_rf _ _) rfl rfl ?_
  exact rf_refl

theorem State.freeRate_rf (s) :
    RF vS [.time] [0x300005] s (State.freeRate s) := by
  unfold State.freeRate
  refine rf_ite (fun _h0 => ?_) (fun _h1 => ?_)
  · refine rf_step (State.setRate_rf _ _) rfl rfl ?_
    exact rf_refl
  · exact rf_refl

theorem State.askStep_rf (s) :
    RF vS [.freeCtr, .mode, .octets, .fab, .pot, .sec, .res, .alarms] [0x200004, 0x200005, 0x200006, 0xB10004, 0xB20006, 0xB20007, 0xB2000F] s (State.askStep s) := by
  unfold State.askStep
  refine rf_ite (fun _h0 => ?_) (fun _h1 => ?_)
  · exact rf_refl
  · refine rf_step (State.requestToken_rf _ _ _) rfl rfl ?_
    exact rf_refl

theorem State.wantStep_rf (s) :
    RF vS [.freeCtr, .mode, .octets, .time, .fab, .pot, .sec, .res, .alarms] [0x200004, 0x200005, 0x200006, 0xB10004, 0xB20006, 0xB20007, 0xB2000F] s (State.wantStep s) := by
  unfold State.wantStep
  extract_lets v0 v1
  refine rf_cut (W := vS) v0 ?_ (fun h2 => ?_)
  · unfold v0
    refine rf_step (State.askStep_rf _) rfl rfl ?_
    exact rf_refl
  refine rf_step (State.setTime_rf _ _) rfl rfl ?_
  exact h2

theorem State.bigError_rf (s x1) :
    RF vS [.freeCtr, .mode, .octets, .time, .galley, .edge, .front, .fab, .pot, .sec, .res, .pins, .alarms] [0x200004, 0x200005, 0x200006, 0x300013, 0x30001C, 0x600006, 0x600008, 0x600009, 0x60000A, 0x60000B, 0x60000F, 0x600013, 0x60001D, 0x620007, 0x620009, 0xB10004, 0xB20006, 0xB20007, 0xB2000F] s (State.bigError s x1) := by
  unfold State.bigError
  extract_lets v0 v1
  refine rf_cut (W := vS) v1 ?_ (fun h2 => ?_)
  · unfold v1
    refine rf_step (State.setTime_rf _ _) rfl rfl ?_
    exact rf_refl
  refine rf_ite (fun _h3 => ?_) (fun _h4 => ?_)
  · refine rf_ite (fun _h5 => ?_) (fun _h6 => ?_)
    · refine rf_step (State.wantStep_rf _) rfl rfl ?_
      exact h2
    · exact h2
  · refine rf_step (State.stepTime_rf _ _) rfl rfl ?_
    exact rf_refl

theorem State.dropOutputs_rf (s) :
    RF vS [.time] [] s (State.dropOutputs s) := by
  unfold State.dropOutputs
  extract_lets v0
  refine rf_step (State.setTime_rf _ _) rfl rfl ?_
  exact rf_refl

theorem State.setServo_rf (s x1) :
    RF vS [.freeCtr, .octets, .time, .pot, .alarms] [0x300013, 0x30001A, 0xB20006, 0xB20007, 0xB2000F] s (State.setServo s x1) := by
  unfold State.setServo
  extract_lets v0 v1 v2 v3 v4 v5 v6
  refine rf_cut (W := vS) v1 ?_ (fun h7 => ?_)
  · unfold v1
    refine rf_step (State.bump_rf _ _ _) rfl rfl ?_
    refine rf_step (State.setTime_rf _ _) rfl rfl ?_
    exact rf_refl
  refine rf_cut (W := vS) v2 ?_ (fun h8 => ?_)
  · unfold v2
    refine rf_ite (fun _h9 => ?_) (fun _h10 => ?_)
    · refine rf_step (State.raise_rf _ _ _ _ _) rfl rfl ?_
      refine rf_step (State.setBits_rf _ _ _ _) rfl rfl ?_
      exact h7
    · exact h7
  refine rf_cut (W := vS) v4 ?_ (fun h11 => ?_)
  · unfold v4
    refine rf_ite (fun _h12 => ?_) (fun _h13 => ?_)
    · refine rf_step (State.setTime_rf _ _) rfl rfl ?_
      exact h8
    · exact h8
  refine rf_cut (W := vS) v6 ?_ (fun h14 => ?_)
  · unfold v6
    refine rf_ite (fun _h15 => ?_) (fun _h16 => ?_)
    · refine rf_step (State.clear_rf _ _ _ _) rfl rfl ?_
      refine rf_step (State.setTime_rf _ _) rfl rfl ?_
      exact h11
    · exact h11
  refine rf_ite (fun _h17 => ?_) (fun _h18 => ?_)
  · exact rf_refl
  · refine rf_step (State.dropOutputs_rf _) rfl rfl ?_
    refine rf_ite (fun _h19 => ?_) (fun _h20 => ?_)
    · refine rf_step (State.clear_rf _ _ _ _) rfl rfl ?_
      refine rf_step (State.clear_rf _ _ _ _) rfl rfl ?_
      exact h14
    · exact h14

theorem State.histMean_rf (s x1 x2) :
    RF vSnd [.freeCtr] [] s (State.histMean s x1 x2) := by
  unfold State.histMean
  extract_lets v0 v1
  refine rf_ite (fun _h2 => ?_) (fun _h3 => ?_)
  · refine rf_snd ?_
    exact rf_refl
  · split
    rename_i w4 w5 w6 w7
    refine rf_pair_snd w7 ?_ (fun h8 => ?_)
    · refine rf_step (State.divOpen_rf _ _ _) rfl rfl ?_
      exact rf_refl
    refine rf_snd ?_
    exact h8

theorem State.noteHeld_rf (s x1) :
    RF vS [.time] [] s (State.noteHeld s x1) := by
  unfold State.noteHeld
  extract_lets v0
  refine rf_step (State.setTime_rf _ _) rfl rfl ?_
  exact rf_refl

theorem State.noteLock_rf (s x1 x2) :
    RF vS [.time] [] s (State.noteLock s x1 x2) := by
  unfold State.noteLock
  extract_lets v0 v1 v2
  refine rf_step (State.setTime_rf _ _) rfl rfl ?_
  exact rf_refl

theorem State.noteErr_rf (x0 s x2) :
    RF vS [.time] [] s (State.noteErr x0 s x2) := by
  unfold State.noteErr
  extract_lets v0
  refine rf_step (State.setTime_rf _ _) rfl rfl ?_
  exact rf_refl

theorem State.measure__rf (s x1 x2 x3) :
    RF vS [.freeCtr, .mode, .octets, .time, .galley, .edge, .front, .fab, .pot, .sec, .res, .pins, .alarms] [0x200004, 0x200005, 0x200006, 0x300004, 0x300005, 0x300013, 0x30001A, 0x30001C, 0x600006, 0x600008, 0x600009, 0x60000A, 0x60000B, 0x60000F, 0x600013, 0x60001D, 0x620007, 0x620009, 0xB10004, 0xB20006, 0xB20007, 0xB2000F] s (State.measure_ s x1 x2 x3) := by
  unfold State.measure_
  extract_lets v0
  split
  rename_i w1 w2 w3 w4
  refine rf_pair_snd w4 ?_ (fun h5 => ?_)
  · refine rf_step (State.divOpen_rf _ _ _) rfl rfl ?_
    exact rf_refl
  extract_lets v6 v7 v8 v9 v10 v11 v12 v13 v14 v15 v16 v17 v18 v19 v20 v21
  refine rf_cut (W := vS) v6 ?_ (fun h22 => ?_)
  · unfold v6
    refine rf_step (State.noteLock_rf _ _ _) rfl rfl ?_
    refine rf_step (State.noteHeld_rf _ _) rfl rfl ?_
    refine rf_step (State.setNum_rf _ _ _ _) rfl rfl ?_
    exact h5
  refine rf_cut (W := vS) v9 ?_ (fun h23 => ?_)
  · unfold v9
    refine rf_step (State.setTime_rf _ _) rfl rfl ?_
    exact h22
  refine rf_cut (W := vS) v10 ?_ (fun h24 => ?_)
  · unfold v10
    refine rf_ite (fun _h25 => ?_) (fun _h26 => ?_)
    · refine rf_step (State.setServo_rf _ _) rfl rfl ?_
      exact h23
    · exact h23
  refine rf_cut (W := vS) v12 ?_ (fun h27 => ?_)
  · unfold v12
    refine rf_ite (fun _h28 => ?_) (fun _h29 => ?_)
    · refine rf_step (State.bigError_rf _ _) rfl rfl ?_
      exact h24
    · exact h24
  refine rf_step (State.setY_rf _ _) rfl rfl ?_
  refine rf_step (State.setTime_rf _ _) rfl rfl ?_
  exact h27

theorem State.holdRate_rf (s) :
    RF vS [.freeCtr, .time] [0x300005] s (State.holdRate s) := by
  unfold State.holdRate
  refine rf_ite (fun _h0 => ?_) (fun _h1 => ?_)
  · split
    · rename_i w2 w3 w4
      refine rf_step (State.setY_rf _ _) rfl rfl ?_
      exact rf_refl
    · rename_i w5 w6 w7 w8 w9 w10
      refine rf_step (State.setY_rf _ _) rfl rfl ?_
      exact rf_refl
    · rename_i w11 w12 w13 w14 w15
      split
      rename_i w16 w17 w18 w19
      refine rf_pair_snd w19 ?_ (fun h20 => ?_)
      · refine rf_step (State.drawInt_rf _) rfl rfl ?_
        exact rf_refl
      refine rf_step (State.setY_rf _ _) rfl rfl ?_
      exact h20
  · exact rf_refl

theorem State.noteFreq_rf (s x1) :
    RF vS [.freeCtr, .time] [0x300005] s (State.noteFreq s x1) := by
  unfold State.noteFreq
  extract_lets v0
  refine rf_ite (fun _h1 => ?_) (fun _h2 => ?_)
  · refine rf_step (State.holdRate_rf _) rfl rfl ?_
    refine rf_step (State.setTime_rf _ _) rfl rfl ?_
    exact rf_refl
  · exact rf_refl

theorem State.servoMeasure_rf (s x1 x2 x3) :
    RF vS [.freeCtr, .mode, .octets, .time, .galley, .edge, .front, .fab, .pot, .sec, .res, .pins, .alarms] [0x200004, 0x200005, 0x200006, 0x300004, 0x300005, 0x300013, 0x30001A, 0x30001C, 0x600006, 0x600008, 0x600009, 0x60000A, 0x60000B, 0x60000F, 0x600013, 0x60001D, 0x620007, 0x620009, 0xB10004, 0xB20006, 0xB20007, 0xB2000F] s (State.servoMeasure s x1 x2 x3) := by
  unfold State.servoMeasure
  refine rf_ite (fun _h0 => ?_) (fun _h1 => ?_)
  · refine rf_step (State.measure__rf _ _ _ _) rfl rfl ?_
    refine rf_step (State.noteFreq_rf _ _) rfl rfl ?_
    exact rf_refl
  · exact rf_refl

theorem State.noteSelected_rf (s) :
    RF vS [] [0x300018] s (State.noteSelected s) := by
  unfold State.noteSelected
  refine rf_step (State.setNum_rf _ _ _ _) rfl rfl ?_
  exact rf_refl

theorem State.errMean_rf (s x1) :
    RF vSnd [.freeCtr] [] s (State.errMean s x1) := by
  unfold State.errMean
  split
  · rename_i w0 w1
    refine rf_step (State.drawInt_rf _) rfl rfl ?_
    exact rf_refl
  · rename_i w2 w3
    refine rf_step (State.divOpen_rf _ _ _) rfl rfl ?_
    exact rf_refl

theorem State.setWaiting_rf (s x1) :
    RF vS [.time] [] s (State.setWaiting s x1) := by
  unfold State.setWaiting
  extract_lets v0
  refine rf_ite (fun _h1 => ?_) (fun _h2 => ?_)
  · exact rf_refl
  · refine rf_step (State.setTime_rf _ _) rfl rfl ?_
    exact rf_refl

theorem State.setWaitingFreq_rf (s x1) :
    RF vS [.time] [] s (State.setWaitingFreq s x1) := by
  unfold State.setWaitingFreq
  extract_lets v0
  refine rf_ite (fun _h1 => ?_) (fun _h2 => ?_)
  · exact rf_refl
  · refine rf_step (State.setTime_rf _ _) rfl rfl ?_
    exact rf_refl

theorem State.selectPhase_rf (s x1) :
    RF vS [.freeCtr, .octets, .time, .pot, .alarms] [0x300013, 0x300014, 0x300018, 0x30001A, 0xB20006, 0xB20007, 0xB2000F] s (State.selectPhase s x1) := by
  unfold State.selectPhase
  split
  rename_i w0 w1 w2 w3
  refine rf_pair_snd w3 ?_ (fun h4 => ?_)
  · refine rf_ite (fun _h5 => ?_) (fun _h6 => ?_)
    · refine rf_snd ?_
      exact rf_refl
    · refine rf_step (State.errMean_rf _ _) rfl rfl ?_
      exact rf_refl
  extract_lets v7 v8 v9 v10
  refine rf_cut (W := vS) v8 ?_ (fun h11 => ?_)
  · unfold v8
    refine rf_step (State.setTime_rf _ _) rfl rfl ?_
    exact h4
  refine rf_cut (W := vS) v9 ?_ (fun h12 => ?_)
  · unfold v9
    split
    · rename_i w13 w14 w15
      refine rf_ite (fun _h16 => ?_) (fun _h17 => ?_)
      · exact h11
      · refine rf_step (State.raise_rf _ _ _ _ _) rfl rfl ?_
        refine rf_step (State.setBits_rf _ _ _ _) rfl rfl ?_
        refine rf_step (State.setNum_rf _ _ _ _) rfl rfl ?_
        exact h11
    · rename_i w18 w19
      exact h11
  refine rf_cut (W := vS) v10 ?_ (fun h20 => ?_)
  · unfold v10
    refine rf_ite (fun _h21 => ?_) (fun _h22 => ?_)
    · exact h12
    · refine rf_step (State.setServo_rf _ _) rfl rfl ?_
      exact h12
  refine rf_step (State.noteSelected_rf _) rfl rfl ?_
  exact h20

theorem State.losePhase_rf (s) :
    RF vS [.freeCtr, .octets, .time, .pot, .alarms] [0x300005, 0x300013, 0x300018, 0x30001A, 0xB20006, 0xB20007, 0xB2000F] s (State.losePhase s) := by
  unfold State.losePhase
  extract_lets v0 v1
  refine rf_cut (W := vS) v1 ?_ (fun h2 => ?_)
  · unfold v1
    refine rf_step (State.noteSelected_rf _) rfl rfl ?_
    refine rf_step (State.setTime_rf _ _) rfl rfl ?_
    exact rf_refl
  refine rf_ite (fun _h3 => ?_) (fun _h4 => ?_)
  · split
    rename_i w5 w6 w7 w8
    refine rf_pair_snd w8 ?_ (fun h9 => ?_)
    · refine rf_step (State.histMean_rf _ _ _) rfl rfl ?_
      exact h2
    extract_lets v10 v11
    refine rf_cut (W := vS) v11 ?_ (fun h12 => ?_)
    · unfold v11
      refine rf_step (State.setServo_rf _ _) rfl rfl ?_
      refine rf_step (State.setTime_rf _ _) rfl rfl ?_
      exact h9
    refine rf_step (State.raise_rf _ _ _ _ _) rfl rfl ?_
    refine rf_step (State.setBits_rf _ _ _ _) rfl rfl ?_
    refine rf_step (State.holdRate_rf _) rfl rfl ?_
    exact h12
  · refine rf_step (State.freeRate_rf _) rfl rfl ?_
    refine rf_step (State.setServo_rf _ _) rfl rfl ?_
    exact h2

theorem State.setFreq_rf (s x1) :
    RF vS [.freeCtr, .time] [0x300005, 0x300018] s (State.setFreq s x1) := by
  unfold State.setFreq
  extract_lets v0
  refine rf_ite (fun _h1 => ?_) (fun _h2 => ?_)
  · refine rf_step (State.setTime_rf _ _) rfl rfl ?_
    exact rf_refl
  · refine rf_step (State.holdRate_rf _) rfl rfl ?_
    refine rf_step (State.noteSelected_rf _) rfl rfl ?_
    refine rf_step (State.setTime_rf _ _) rfl rfl ?_
    exact rf_refl

theorem State.reselectFreq_rf (s) :
    RF vS [.freeCtr, .time] [0x300005, 0x300018] s (State.reselectFreq s) := by
  unfold State.reselectFreq
  split
  · rename_i w0 w1 w2
    extract_lets v3
    refine rf_ite (fun _h4 => ?_) (fun _h5 => ?_)
    · refine rf_step (State.setWaitingFreq_rf _ _) rfl rfl ?_
      exact rf_refl
    · refine rf_step (State.setFreq_rf _ _) rfl rfl ?_
      exact rf_refl
  · rename_i w6 w7
    refine rf_step (State.setFreq_rf _ _) rfl rfl ?_
    exact rf_refl

theorem State.qualify_rf (s x1) :
    RF vS [.freeCtr, .octets, .time, .pot, .alarms] [0x300005, 0x300013, 0x300014, 0x300018, 0x30001A, 0xB20006, 0xB20007, 0xB2000F] s (State.qualify s x1) := by
  unfold State.qualify
  extract_lets v0 v1
  refine rf_cut (W := vS) v1 ?_ (fun h2 => ?_)
  · unfold v1
    refine rf_step (State.reselectFreq_rf _) rfl rfl ?_
    refine rf_step (State.setTime_rf _ _) rfl rfl ?_
    exact rf_refl
  refine rf_ite (fun _h3 => ?_) (fun _h4 => ?_)
  · split
    · rename_i w5 w6
      refine rf_step (State.selectPhase_rf _ _) rfl rfl ?_
      exact h2
    · rename_i w7 w8 w9
      refine rf_ite (fun _h10 => ?_) (fun _h11 => ?_)
      · refine rf_step (State.setWaiting_rf _ _) rfl rfl ?_
        exact h2
      · exact h2
  · exact h2

theorem State.disqualify_rf (s x1) :
    RF vS [.freeCtr, .octets, .time, .pot, .alarms] [0x300005, 0x300013, 0x300014, 0x300018, 0x30001A, 0xB20006, 0xB20007, 0xB2000F] s (State.disqualify s x1) := by
  unfold State.disqualify
  extract_lets v0 v1 v2
  refine rf_cut (W := vS) v1 ?_ (fun h3 => ?_)
  · unfold v1
    refine rf_step (State.setTime_rf _ _) rfl rfl ?_
    exact rf_refl
  refine rf_cut (W := vS) v2 ?_ (fun h4 => ?_)
  · unfold v2
    refine rf_step (State.reselectFreq_rf _) rfl rfl ?_
    exact h3
  refine rf_ite (fun _h5 => ?_) (fun _h6 => ?_)
  · refine rf_ite (fun _h7 => ?_) (fun _h8 => ?_)
    · split
      · rename_i w9 w10 w11
        refine rf_step (State.selectPhase_rf _ _) rfl rfl ?_
        exact h4
      · rename_i w12 w13
        refine rf_step (State.losePhase_rf _) rfl rfl ?_
        exact h4
    · exact h4
  · exact rf_refl

theorem State.setPtp_rf (s x1 x2) :
    RF vS [.time] [] s (State.setPtp s x1 x2) := by
  unfold State.setPtp
  extract_lets v0
  refine rf_step (State.setTime_rf _ _) rfl rfl ?_
  exact rf_refl

theorem State.disqualifyInst_rf (s x1 x2) :
    RF vS [.freeCtr, .octets, .time, .pot, .alarms] [0x300005, 0x300013, 0x300014, 0x300018, 0x30001A, 0xB20006, 0xB20007, 0xB2000F] s (State.disqualifyInst s x1 x2) := by
  unfold State.disqualifyInst
  refine rf_foldl ?_ (fun t0 x1 h2 => ?_)
  · exact rf_refl
  · refine rf_step (State.disqualify_rf _ _) rfl rfl ?_
    exact h2

theorem State.placePort_rf (s x1 x2) :
    RF vS [.freeCtr, .octets, .time, .pot, .alarms] [0x300005, 0x300013, 0x300014, 0x300018, 0x30001A, 0xB20006, 0xB20007, 0xB2000F] s (State.placePort s x1 x2) := by
  unfold State.placePort
  extract_lets v0 v1 v2
  refine rf_cut (W := vS) v1 ?_ (fun h3 => ?_)
  · unfold v1
    refine rf_ite (fun _h4 => ?_) (fun _h5 => ?_)
    · refine rf_step (State.disqualifyInst_rf _ _ _) rfl rfl ?_
      exact rf_refl
    · exact rf_refl
  refine rf_ite (fun _h6 => ?_) (fun _h7 => ?_)
  · exact rf_refl
  · refine rf_step (State.setPtp_rf _ _ _) rfl rfl ?_
    exact h3

theorem writeReference_rf (x0 x1 s) :
    RF vOk [.freeCtr, .octets, .time, .pot, .alarms] [0x300005, 0x300013, 0x300014, 0x300018, 0x30001A, 0x301001, 0xB20006, 0xB20007, 0xB2000F] s (writeReference x0 x1 s) := by
  unfold writeReference
  extract_lets v0 v1 v2 v3 v4 v5 v6 v7
  refine rf_cut (W := vS) v2 ?_ (fun h8 => ?_)
  · unfold v2
    refine rf_step (State.setNum_rf _ _ _ _) rfl rfl ?_
    exact rf_refl
  refine rf_cut (W := vS) v3 ?_ (fun h9 => ?_)
  · unfold v3
    refine rf_step (State.reselectFreq_rf _) rfl rfl ?_
    exact h8
  refine rf_cut (W := vS) v4 ?_ (fun h10 => ?_)
  · unfold v4
    refine rf_step (State.disqualify_rf _ _) rfl rfl ?_
    exact h8
  refine rf_cut (W := vS) v6 ?_ (fun h11 => ?_)
  · unfold v6
    refine rf_step (State.setTime_rf _ _) rfl rfl ?_
    exact h10
  refine rf_ite (fun _h12 => ?_) (fun _h13 => ?_)
  · refine rf_ok ?_
    refine rf_ite (fun _h14 => ?_) (fun _h15 => ?_)
    · refine rf_step (State.setWaiting_rf _ _) rfl rfl ?_
      exact h9
    · exact h9
  · refine rf_ok ?_
    refine rf_ite (fun _h16 => ?_) (fun _h17 => ?_)
    · exact h11
    · refine rf_step (State.setTime_rf _ _) rfl rfl ?_
      exact h11

theorem State.takePtp_rf (s x1) :
    RF vS [.force] [] s (State.takePtp s x1) := by
  unfold State.takePtp
  refine rf_step (State.takeAll_rf _ _ _) rfl rfl ?_
  exact rf_refl

end Sys2Proof.Machine
end

