-- ==== Sys2Proof/Laws/FramesFabric.lean ====
section
/-!
SUPPORT. What each operation of Machine/Fabric.lean may change, one lemma each.
-/

namespace Sys2Proof.Machine

set_option Elab.async false

open Sys2Proof

theorem State.sealAt_rf (s x1 x2) :
    RF vS [.reply, .freeCtr, .octets, .fab, .pot, .alarms] [0xB20006, 0xB20007, 0xB2000F] s (State.sealAt s x1 x2) := by
  unfold State.sealAt
  refine rf_ite (fun _h0 => ?_) (fun _h1 => ?_)
  · refine rf_step (State.answerFab_rf _ _ _ _) rfl rfl ?_
    refine rf_step (State.sealBuf_rf _ _ _) rfl rfl ?_
    exact rf_refl
  · refine rf_step (State.refuseReq_rf _) rfl rfl ?_
    exact rf_refl

theorem State.freeAt_rf (s x1) :
    RF vS [.reply, .freeCtr, .octets, .edge, .front, .fab, .pot, .alarms] [0x620007, 0x620008, 0x620009, 0xB20006, 0xB20007, 0xB2000F] s (State.freeAt s x1) := by
  unfold State.freeAt
  extract_lets v0 v1
  refine rf_cut (W := vS) v1 ?_ (fun h2 => ?_)
  · unfold v1
    refine rf_ite (fun _h3 => ?_) (fun _h4 => ?_)
    · exact rf_refl
    · refine rf_ite (fun _h5 => ?_) (fun _h6 => ?_)
      · refine rf_step (State.raiseAtMost_rf _ _ _ _ _) rfl rfl ?_
        refine rf_step (State.bump_rf _ _ _) rfl rfl ?_
        exact rf_refl
      · refine rf_step (State.freeBuf_rf _ _) rfl rfl ?_
        exact rf_refl
  refine rf_step (State.answerFab_rf _ _ _ _) rfl rfl ?_
  exact h2

theorem State.allocAt_rf (s x1) :
    RF vS [.reply, .freeCtr, .octets, .fab, .pot, .alarms] [0x620007, 0x620009, 0xB20006, 0xB20007, 0xB2000F] s (State.allocAt s x1) := by
  unfold State.allocAt
  extract_lets v0
  split
  · rename_i w1 w2 w3 w4
    refine rf_pair_snd w4 ?_ (fun h5 => ?_)
    · refine rf_step (State.allocBuf_rf _ _ _ _ _) rfl rfl ?_
      exact rf_refl
    refine rf_step (State.answerFab_rf _ _ _ _) rfl rfl ?_
    exact h5
  · rename_i w6 w7 w8
    refine rf_pair_snd w8 ?_ (fun h9 => ?_)
    · refine rf_step (State.allocBuf_rf _ _ _ _ _) rfl rfl ?_
      exact rf_refl
    refine rf_step (State.answerErr_rf _ _) rfl rfl ?_
    exact h9

theorem State.track_rf (s x1) :
    RF vS [] [0x901005] s (State.track s x1) := by
  unfold State.track
  split
  · rename_i w0 w1 w2
    refine rf_step (State.peak_rf _ _ _ _) rfl rfl ?_
    exact rf_refl
  · rename_i w3 w4
    exact rf_refl

theorem State.bankPower_rf (s x1 x2) :
    RF vS [.fab] [] s (State.bankPower s x1 x2) := by
  unfold State.bankPower
  extract_lets v0
  refine rf_step (State.setDomain_rf _ _ _) rfl rfl ?_
  exact rf_refl

theorem State.startSpare_rf (s x1) :
    RF vS [.freeCtr, .octets, .fab, .pot, .alarms] [0xB20006, 0xB20007, 0xB2000F] s (State.startSpare s x1) := by
  unfold State.startSpare
  extract_lets v0 v1 v2 v3 v4
  refine rf_cut (W := vS) v2 ?_ (fun h5 => ?_)
  · unfold v2
    refine rf_step (State.setBank_rf _ _ _) rfl rfl ?_
    exact rf_refl
  refine rf_cut (W := vS) v3 ?_ (fun h6 => ?_)
  · unfold v3
    split
    · rename_i w7 w8 w9
      refine rf_step (State.bankPower_rf _ _ _) rfl rfl ?_
      exact h5
    · rename_i w10 w11
      exact h5
  refine rf_ite (fun _h12 => ?_) (fun _h13 => ?_)
  · refine rf_step (State.raise_rf _ _ _ _ _) rfl rfl ?_
    clear_value v3
    refine rf_upd (b := v3) ?_ ⟨fun f hf hv => by cases f <;> first | exact absurd (by decide) hf | exact absurd rfl hv | rfl | exact ⟨rfl, rfl⟩ | exact ⟨rfl, rfl, rfl, rfl, rfl⟩, Or.inr fun _ _ => rfl⟩ (Keeps.of rfl (Nat.le_refl _) rfl)
    exact h6
  · exact rf_refl

theorem State.ssCorrect_rf (s x1 x2) :
    RF vS [.freeCtr, .octets, .fab, .pot, .alarms] [0x900004, 0xB20006, 0xB20007, 0xB2000F] s (State.ssCorrect s x1 x2) := by
  unfold State.ssCorrect
  extract_lets v0 v1 v2 v3
  refine rf_cut (W := vS) v3 ?_ (fun h4 => ?_)
  · unfold v3
    refine rf_step (State.bump_rf _ _ _) rfl rfl ?_
    refine rf_step (State.setBank_rf _ _ _) rfl rfl ?_
    exact rf_refl
  refine rf_ite (fun _h5 => ?_) (fun _h6 => ?_)
  · refine rf_step (State.startSpare_rf _ _) rfl rfl ?_
    exact h4
  · exact h4

theorem State.hbmCorrect_rf (s x1 x2 x3) :
    RF vS [.freeCtr, .octets, .fab, .pot, .alarms] [0x901002, 0x901006, 0xB20006, 0xB20007, 0xB2000F] s (State.hbmCorrect s x1 x2 x3) := by
  unfold State.hbmCorrect
  extract_lets v0 v1 v2 v3 v4
  refine rf_cut (W := vS) v4 ?_ (fun h5 => ?_)
  · unfold v4
    refine rf_step (State.bump_rf _ _ _) rfl rfl ?_
    refine rf_upd (b := s) ?_ ⟨fun f hf hv => by cases f <;> first | exact absurd (by decide) hf | exact absurd rfl hv | rfl | exact ⟨rfl, rfl⟩ | exact ⟨rfl, rfl, rfl, rfl, rfl⟩, Or.inr fun _ _ => rfl⟩ (Keeps.of rfl (Nat.le_refl _) rfl)
    exact rf_refl
  refine rf_ite (fun _h6 => ?_) (fun _h7 => ?_)
  · refine rf_step (State.raise_rf _ _ _ _ _) rfl rfl ?_
    refine rf_step (State.setNum_rf _ _ _ _) rfl rfl ?_
    exact h5
  · exact h5

theorem State.correctAt_rf (s x1 x2) :
    RF vS [.freeCtr, .octets, .fab, .pot, .alarms] [0x900004, 0x901002, 0x901006, 0x902002, 0xB20006, 0xB20007, 0xB2000F] s (State.correctAt s x1 x2) := by
  unfold State.correctAt
  split
  · rename_i w0 w1
    refine rf_step (State.ssCorrect_rf _ _ _) rfl rfl ?_
    exact rf_refl
  · rename_i w2 w3 w4
    refine rf_step (State.bump_rf _ _ _) rfl rfl ?_
    exact rf_refl
  · rename_i w5 w6 w7
    refine rf_step (State.hbmCorrect_rf _ _ _ _) rfl rfl ?_
    exact rf_refl
  · rename_i w8 w9 w10 w11
    exact rf_refl

theorem State.poisonAt_rf (s x1) :
    RF vS [.freeCtr, .octets, .fab, .pot, .alarms] [0x900005, 0x901003, 0x902003, 0xB20006, 0xB20007, 0xB2000F] s (State.poisonAt s x1) := by
  unfold State.poisonAt
  extract_lets v0 v1
  refine rf_cut (W := vS) v1 ?_ (fun h2 => ?_)
  · unfold v1
    refine rf_upd (b := s) ?_ ⟨fun f hf hv => by cases f <;> first | exact absurd (by decide) hf | exact absurd rfl hv | rfl | exact ⟨rfl, rfl⟩ | exact ⟨rfl, rfl, rfl, rfl, rfl⟩, Or.inr fun _ _ => rfl⟩ (Keeps.of rfl (Nat.le_refl _) rfl)
    exact rf_refl
  split
  · rename_i w3 w4
    refine rf_step (State.raise_rf _ _ _ _ _) rfl rfl ?_
    refine rf_step (State.bump_rf _ _ _) rfl rfl ?_
    exact h2
  · rename_i w5 w6 w7
    refine rf_step (State.raise_rf _ _ _ _ _) rfl rfl ?_
    refine rf_step (State.bump_rf _ _ _) rfl rfl ?_
    exact h2
  · rename_i w8 w9 w10
    refine rf_step (State.raise_rf _ _ _ _ _) rfl rfl ?_
    refine rf_step (State.bump_rf _ _ _) rfl rfl ?_
    exact h2
  · rename_i w11 w12 w13 w14
    exact rf_refl

theorem State.eccAt_rf (s x1 x2) :
    RF vS [.freeCtr, .octets, .fab, .pot, .alarms] [0x900004, 0x900005, 0x901002, 0x901003, 0x901006, 0x902002, 0x902003, 0xB20006, 0xB20007, 0xB2000F] s (State.eccAt s x1 x2) := by
  unfold State.eccAt
  split
  · rename_i w0
    exact rf_refl
  · rename_i w1 w2
    refine rf_step (State.correctAt_rf _ _ _) rfl rfl ?_
    exact rf_refl
  · rename_i w3
    refine rf_step (State.poisonAt_rf _ _) rfl rfl ?_
    exact rf_refl

theorem State.readPkt_rf (s x1) :
    RF vS [.reply, .freeCtr, .mode, .octets, .time, .galley, .vx, .front, .mogil, .fab, .pot, .sec, .res, .alarms] [0x200004, 0x200005, 0x200006, 0x900001, 0x900004, 0x900005, 0x901002, 0x901003, 0x901005, 0x901006, 0x902002, 0x902003, 0x903007, 0x91000B, 0x91000E, 0xA4000C, 0xB10004, 0xB20006, 0xB20007, 0xB2000F] s (State.readPkt s x1) := by
  unfold State.readPkt
  split
  · rename_i w0 w1 w2
    refine rf_pair_snd w2 ?_ (fun h3 => ?_)
    · refine rf_step (State.accessTest_rf _ _ _ _ _ _) rfl rfl ?_
      exact rf_refl
    extract_lets v4
    refine rf_cut (W := vS) v4 ?_ (fun h5 => ?_)
    · unfold v4
      refine rf_step (State.eccAt_rf _ _ _) rfl rfl ?_
      refine rf_step (State.track_rf _ _) rfl rfl ?_
      exact h3
    refine rf_ite (fun _h6 => ?_) (fun _h7 => ?_)
    · split
      rename_i w8 w9 w10 w11
      refine rf_pair_snd w11 ?_ (fun h12 => ?_)
      · refine rf_step (State.devReadN_rf _ _ _) rfl rfl ?_
        exact h3
      refine rf_step (State.answerFab_rf _ _ _ _) rfl rfl ?_
      exact h12
    · refine rf_ite (fun _h13 => ?_) (fun _h14 => ?_)
      · refine rf_step (State.answerErr_rf _ _) rfl rfl ?_
        exact h5
      · split
        rename_i w15 w16 w17 w18
        refine rf_pair_snd w18 ?_ (fun h19 => ?_)
        · refine rf_step (State.readAt_rf _ _ _ _) rfl rfl ?_
          exact h5
        refine rf_step (State.answerFab_rf _ _ _ _) rfl rfl ?_
        exact h19
  · rename_i w20 w21 w22 w23 w24
    refine rf_pair_snd w24 ?_ (fun h25 => ?_)
    · refine rf_step (State.accessTest_rf _ _ _ _ _ _) rfl rfl ?_
      exact rf_refl
    refine rf_step (State.answerErr_rf _ _) rfl rfl ?_
    exact h25

theorem State.mergeAt_rf (s x1) :
    RF vS [.freeCtr, .octets, .fab, .pot, .alarms] [0x900004, 0x900005, 0x901002, 0x901003, 0x901006, 0x902002, 0x902003, 0xB20006, 0xB20007, 0xB2000F] s (State.mergeAt s x1) := by
  unfold State.mergeAt
  split
  · rename_i w0 w1
    refine rf_ite (fun _h2 => ?_) (fun _h3 => ?_)
    · exact rf_refl
    · refine rf_step (State.eccAt_rf _ _ _) rfl rfl ?_
      exact rf_refl
  · rename_i w4 w5
    exact rf_refl

theorem State.writePkt_rf (s x1) :
    RF vSnd [.reply, .freeCtr, .mode, .values, .octets, .force, .time, .galley, .vx, .edge, .front, .mogil, .mem, .fab, .pot, .sec, .res, .alarms] (0x200004 :: 0x200005 :: 0x200006 :: 0x200007 :: 0x600002 :: 0x600008 :: 0x600009 :: 0x60000A :: 0x60000C :: 0x60000D :: 0x60000E :: 0x60000F :: 0x600013 :: 0x60001D :: 0x620007 :: 0x620009 :: 0x630003 :: 0x630004 :: 0x630005 :: 0x700009 :: 0x800007 :: 0x80000E :: 0x82000B :: 0x900001 :: 0x900004 :: 0x900005 :: 0x901002 :: 0x901003 :: 0x901006 :: 0x902002 :: 0x902003 :: 0x903007 :: 0x91000B :: 0x91000E :: 0x91000F :: 0xA4000C :: 0xB10004 :: 0xB20006 :: 0xB20007 :: 0xB2000F :: 0xE00006 :: []) s (State.writePkt s x1) := by
  unfold State.writePkt
  split
  · rename_i w0 w1 w2
    refine rf_pair_snd w2 ?_ (fun h3 => ?_)
    · refine rf_step (State.accessTest_rf _ _ _ _ _ _) rfl rfl ?_
      exact rf_refl
    refine rf_ite (fun _h4 => ?_) (fun _h5 => ?_)
    · refine rf_snd ?_
      refine rf_step (State.devStore_rf _ _ _) rfl rfl ?_
      exact h3
    · refine rf_snd ?_
      refine rf_step (State.writeAt_rf _ _ _ _ _) rfl rfl ?_
      refine rf_step (State.mergeAt_rf _ _) rfl rfl ?_
      exact h3
  · rename_i w6 w7 w8 w9 w10
    refine rf_pair_snd w10 ?_ (fun h11 => ?_)
    · refine rf_step (State.accessTest_rf _ _ _ _ _ _) rfl rfl ?_
      exact rf_refl
    refine rf_snd ?_
    exact h11

theorem State.writeAck_rf (s x1) :
    RF vS [.reply, .freeCtr, .mode, .values, .octets, .force, .time, .galley, .vx, .edge, .front, .mogil, .mem, .fab, .pot, .sec, .res, .alarms] (0x200004 :: 0x200005 :: 0x200006 :: 0x200007 :: 0x600002 :: 0x600008 :: 0x600009 :: 0x60000A :: 0x60000C :: 0x60000D :: 0x60000E :: 0x60000F :: 0x600013 :: 0x60001D :: 0x620007 :: 0x620009 :: 0x630003 :: 0x630004 :: 0x630005 :: 0x700009 :: 0x800007 :: 0x80000E :: 0x82000B :: 0x900001 :: 0x900004 :: 0x900005 :: 0x901002 :: 0x901003 :: 0x901006 :: 0x902002 :: 0x902003 :: 0x903007 :: 0x91000B :: 0x91000E :: 0x91000F :: 0xA4000C :: 0xB10004 :: 0xB20006 :: 0xB20007 :: 0xB2000F :: 0xE00006 :: []) s (State.writeAck s x1) := by
  unfold State.writeAck
  split
  · rename_i w0 w1 w2
    refine rf_pair_snd w2 ?_ (fun h3 => ?_)
    · refine rf_step (State.writePkt_rf _ _) rfl rfl ?_
      exact rf_refl
    refine rf_ite (fun _h4 => ?_) (fun _h5 => ?_)
    · exact h3
    · refine rf_step (State.answerFab_rf _ _ _ _) rfl rfl ?_
      exact h3
  · rename_i w6 w7 w8 w9 w10
    refine rf_pair_snd w10 ?_ (fun h11 => ?_)
    · refine rf_step (State.writePkt_rf _ _) rfl rfl ?_
      exact rf_refl
    refine rf_step (State.answerErr_rf _ _) rfl rfl ?_
    exact h11

theorem State.atomPkt_rf (s x1 x2) :
    RF vS [.reply, .freeCtr, .mode, .values, .octets, .force, .time, .galley, .vx, .edge, .front, .mogil, .mem, .fab, .pot, .sec, .res, .alarms] (0x200004 :: 0x200005 :: 0x200006 :: 0x200007 :: 0x600002 :: 0x600008 :: 0x600009 :: 0x60000A :: 0x60000C :: 0x60000D :: 0x60000E :: 0x60000F :: 0x600013 :: 0x60001D :: 0x620007 :: 0x620009 :: 0x630003 :: 0x630004 :: 0x630005 :: 0x700009 :: 0x800007 :: 0x80000E :: 0x82000B :: 0x900001 :: 0x900004 :: 0x900005 :: 0x901002 :: 0x901003 :: 0x901006 :: 0x902002 :: 0x902003 :: 0x903007 :: 0x91000B :: 0x91000E :: 0x91000F :: 0xA4000C :: 0xB10004 :: 0xB20006 :: 0xB20007 :: 0xB2000F :: 0xE00006 :: []) s (State.atomPkt s x1 x2) := by
  unfold State.atomPkt
  extract_lets v0
  refine rf_cut (W := vS) v0 ?_ (fun h1 => ?_)
  · unfold v0
    split
    · rename_i w2 w3 w4
      refine rf_pair_snd w4 ?_ (fun h5 => ?_)
      · refine rf_step (State.accessTest_rf _ _ _ _ _ _) rfl rfl ?_
        exact rf_refl
      refine rf_step (State.eccAt_rf _ _ _) rfl rfl ?_
      exact h5
    · rename_i w6 w7
      exact rf_refl
  refine rf_ite (fun _h8 => ?_) (fun _h9 => ?_)
  · split
    · rename_i w10 w11 w12
      refine rf_pair_snd w12 ?_ (fun h13 => ?_)
      · refine rf_step (State.accessTest_rf _ _ _ _ _ _) rfl rfl ?_
        exact rf_refl
      refine rf_ite (fun _h14 => ?_) (fun _h15 => ?_)
      · refine rf_step (State.refuseReadOnly_rf _) rfl rfl ?_
        exact h13
      · split
        rename_i w16 w17 w18 w19
        refine rf_pair_snd w19 ?_ (fun h20 => ?_)
        · refine rf_step (State.devReadN_rf _ _ _) rfl rfl ?_
          exact h13
        extract_lets v21
        refine rf_cut (W := vS) v21 ?_ (fun h22 => ?_)
        · unfold v21
          refine rf_step (State.devWriteN_rf _ _ _) rfl rfl ?_
          exact h20
        refine rf_step (State.answerFab_rf _ _ _ _) rfl rfl ?_
        exact h22
    · rename_i w23 w24 w25 w26 w27
      refine rf_pair_snd w27 ?_ (fun h28 => ?_)
      · refine rf_step (State.accessTest_rf _ _ _ _ _ _) rfl rfl ?_
        exact rf_refl
      refine rf_step (State.answerErr_rf _ _) rfl rfl ?_
      exact h28
  · split
    · rename_i w29 w30 w31 w32
      refine rf_pair_22 w32 ?_ (fun h33 => ?_)
      · refine rf_step (State.memAtom_rf _ _ _ _ _) rfl rfl ?_
        exact h1
      refine rf_step (State.answerFab_rf _ _ _ _) rfl rfl ?_
      exact h33
    · rename_i w34 w35 w36 w37 w38 w39
      refine rf_pair_22 w39 ?_ (fun h40 => ?_)
      · refine rf_step (State.memAtom_rf _ _ _ _ _) rfl rfl ?_
        exact h1
      refine rf_step (State.answerErr_rf _ _) rfl rfl ?_
      exact h40

theorem State.perform_rf (s x1) :
    RF vS [.reply, .freeCtr, .mode, .values, .octets, .force, .time, .galley, .vx, .edge, .front, .mogil, .mem, .fab, .pot, .sec, .res, .alarms] (0x200004 :: 0x200005 :: 0x200006 :: 0x200007 :: 0x600002 :: 0x600008 :: 0x600009 :: 0x60000A :: 0x60000C :: 0x60000D :: 0x60000E :: 0x60000F :: 0x600013 :: 0x60001D :: 0x620007 :: 0x620008 :: 0x620009 :: 0x630003 :: 0x630004 :: 0x630005 :: 0x700009 :: 0x800007 :: 0x80000E :: 0x82000B :: 0x900001 :: 0x900004 :: 0x900005 :: 0x901002 :: 0x901003 :: 0x901005 :: 0x901006 :: 0x902002 :: 0x902003 :: 0x903007 :: 0x903009 :: 0x91000B :: 0x91000E :: 0x91000F :: 0xA4000C :: 0xB10004 :: 0xB20006 :: 0xB20007 :: 0xB2000F :: 0xE00006 :: []) s (State.perform s x1) := by
  unfold State.perform
  extract_lets v0
  split
  · rename_i w1 w2
    refine rf_step (State.readPkt_rf _ _) rfl rfl ?_
    exact rf_refl
  · rename_i w3 w4
    refine rf_step (State.writeAck_rf _ _) rfl rfl ?_
    exact rf_refl
  · rename_i w5 w6
    split
    rename_i w7 w8 w9 w10
    refine rf_pair_snd w10 ?_ (fun h11 => ?_)
    · refine rf_step (State.writePkt_rf _ _) rfl rfl ?_
      exact rf_refl
    refine rf_ite (fun _h12 => ?_) (fun _h13 => ?_)
    · refine rf_step (State.bump_rf _ _ _) rfl rfl ?_
      exact h11
    · exact h11
  · rename_i w14 w15
    refine rf_step (State.atomPkt_rf _ _ _) rfl rfl ?_
    exact rf_refl
  · rename_i w16 w17
    refine rf_step (State.atomPkt_rf _ _ _) rfl rfl ?_
    exact rf_refl
  · rename_i w18 w19
    refine rf_step (State.atomPkt_rf _ _ _) rfl rfl ?_
    exact rf_refl
  · rename_i w20 w21
    refine rf_step (State.allocAt_rf _ _) rfl rfl ?_
    exact rf_refl
  · rename_i w22 w23
    refine rf_step (State.freeAt_rf _ _) rfl rfl ?_
    exact rf_refl
  · rename_i w24 w25
    refine rf_step (State.sealAt_rf _ _ _) rfl rfl ?_
    exact rf_refl
  · rename_i w26 w27
    refine rf_step (State.sealAt_rf _ _ _) rfl rfl ?_
    exact rf_refl
  · rename_i w28 w29 w30 w31 w32 w33 w34 w35 w36 w37 w38
    refine rf_upd (b := s) ?_ ⟨fun f hf hv => by cases f <;> first | exact absurd (by decide) hf | exact absurd rfl hv | rfl | exact ⟨rfl, rfl⟩ | exact ⟨rfl, rfl, rfl, rfl, rfl⟩, Or.inr fun _ _ => rfl⟩ (Keeps.of rfl (Nat.le_refl _) rfl)
    exact rf_refl

theorem State.turnAway_rf (s x1 x2) :
    RF vS [.reply] [0x903008] s (State.turnAway s x1 x2) := by
  unfold State.turnAway
  refine rf_ite (fun _h0 => ?_) (fun _h1 => ?_)
  · refine rf_step (State.answerErr_rf _ _) rfl rfl ?_
    exact rf_refl
  · refine rf_ite (fun _h2 => ?_) (fun _h3 => ?_)
    · refine rf_step (State.bump_rf _ _ _) rfl rfl ?_
      exact rf_refl
    · exact rf_refl

theorem State.hold_rf (s x1 x2) :
    RF vS [.fab] [] s (State.hold s x1 x2) := by
  unfold State.hold
  extract_lets v0
  refine rf_step (State.setDomain_rf _ _ _) rfl rfl ?_
  exact rf_refl

theorem State.route_rf (s x1) :
    RF vS [.reply, .freeCtr, .mode, .values, .octets, .force, .time, .galley, .vx, .edge, .front, .mogil, .mem, .fab, .pot, .sec, .res, .alarms] (0x200004 :: 0x200005 :: 0x200006 :: 0x200007 :: 0x600002 :: 0x600008 :: 0x600009 :: 0x60000A :: 0x60000C :: 0x60000D :: 0x60000E :: 0x60000F :: 0x600013 :: 0x60001D :: 0x620007 :: 0x620008 :: 0x620009 :: 0x630003 :: 0x630004 :: 0x630005 :: 0x700009 :: 0x800007 :: 0x80000E :: 0x82000B :: 0x900001 :: 0x900004 :: 0x900005 :: 0x901002 :: 0x901003 :: 0x901005 :: 0x901006 :: 0x902002 :: 0x902003 :: 0x903006 :: 0x903007 :: 0x903008 :: 0x903009 :: 0x91000B :: 0x91000E :: 0x91000F :: 0xA4000C :: 0xB10004 :: 0xB20006 :: 0xB20007 :: 0xB2000F :: 0xE00006 :: []) s (State.route s x1) := by
  unfold State.route
  extract_lets v0
  refine rf_cut (W := vS) v0 ?_ (fun h1 => ?_)
  · unfold v0
    refine rf_step (State.bump_rf _ _ _) rfl rfl ?_
    exact rf_refl
  refine rf_ite (fun _h2 => ?_) (fun _h3 => ?_)
  · exact rf_refl
  · refine rf_ite (fun _h4 => ?_) (fun _h5 => ?_)
    · refine rf_ite (fun _h6 => ?_) (fun _h7 => ?_)
      · refine rf_step (State.answerErr_rf _ _) rfl rfl ?_
        exact h1
      · exact h1
    · refine rf_ite (fun _h8 => ?_) (fun _h9 => ?_)
      · refine rf_step (State.answerErr_rf _ _) rfl rfl ?_
        exact rf_refl
      · refine rf_ite (fun _h10 => ?_) (fun _h11 => ?_)
        · refine rf_step (State.bump_rf _ _ _) rfl rfl ?_
          exact rf_refl
        · split
          · rename_i w12 w13
            refine rf_step (State.perform_rf _ _) rfl rfl ?_
            exact rf_refl
          · rename_i w14 w15 w16
            split
            · rename_i w17 w18
              refine rf_ite (fun _h19 => ?_) (fun _h20 => ?_)
              · refine rf_step (State.perform_rf _ _) rfl rfl ?_
                exact rf_refl
              · refine rf_step (State.hold_rf _ _ _) rfl rfl ?_
                exact rf_refl
            · rename_i w21 w22
              refine rf_step (State.hold_rf _ _ _) rfl rfl ?_
              refine rf_step (State.requestWake_rf _ _) rfl rfl ?_
              exact rf_refl
            · rename_i w23 w24 w25
              refine rf_step (State.turnAway_rf _ _ _) rfl rfl ?_
              exact rf_refl

theorem State.deliverReply_rf (s x1) :
    RF vS [.fab] [] s (State.deliverReply s x1) := by
  unfold State.deliverReply
  extract_lets v0
  split
  · rename_i w1 w2 w3
    extract_lets v4
    refine rf_ite (fun _h5 => ?_) (fun _h6 => ?_)
    · refine rf_upd (b := s) ?_ ⟨fun f hf hv => by cases f <;> first | exact absurd (by decide) hf | exact absurd rfl hv | rfl | exact ⟨rfl, rfl⟩ | exact ⟨rfl, rfl, rfl, rfl, rfl⟩, Or.inr fun _ _ => rfl⟩ (Keeps.of rfl (Nat.le_refl _) rfl)
      exact rf_refl
    · exact rf_refl
  · rename_i w7 w8
    exact rf_refl

theorem execRd_rf (x0 s) :
    RF vOut [.reply, .freeCtr, .mode, .values, .octets, .force, .time, .galley, .vx, .edge, .front, .mogil, .mem, .fab, .pot, .sec, .res, .alarms] (0x200004 :: 0x200005 :: 0x200006 :: 0x200007 :: 0x600002 :: 0x600008 :: 0x600009 :: 0x60000A :: 0x60000C :: 0x60000D :: 0x60000E :: 0x60000F :: 0x600013 :: 0x60001D :: 0x620007 :: 0x620008 :: 0x620009 :: 0x630003 :: 0x630004 :: 0x630005 :: 0x700009 :: 0x800007 :: 0x80000E :: 0x82000B :: 0x900001 :: 0x900004 :: 0x900005 :: 0x901002 :: 0x901003 :: 0x901005 :: 0x901006 :: 0x902002 :: 0x902003 :: 0x903006 :: 0x903007 :: 0x903008 :: 0x903009 :: 0x91000B :: 0x91000E :: 0x91000F :: 0xA4000C :: 0xB10004 :: 0xB20006 :: 0xB20007 :: 0xB2000F :: 0xE00006 :: []) s (execRd x0 s) := by
  unfold execRd
  refine rf_next ?_
  refine rf_step (State.route_rf _ _) rfl rfl ?_
  exact rf_refl

theorem execWr_rf (x0 s) :
    RF vOut [.reply, .freeCtr, .mode, .values, .octets, .force, .time, .galley, .vx, .edge, .front, .mogil, .mem, .fab, .pot, .sec, .res, .alarms] (0x200004 :: 0x200005 :: 0x200006 :: 0x200007 :: 0x600002 :: 0x600008 :: 0x600009 :: 0x60000A :: 0x60000C :: 0x60000D :: 0x60000E :: 0x60000F :: 0x600013 :: 0x60001D :: 0x620007 :: 0x620008 :: 0x620009 :: 0x630003 :: 0x630004 :: 0x630005 :: 0x700009 :: 0x800007 :: 0x80000E :: 0x82000B :: 0x900001 :: 0x900004 :: 0x900005 :: 0x901002 :: 0x901003 :: 0x901005 :: 0x901006 :: 0x902002 :: 0x902003 :: 0x903006 :: 0x903007 :: 0x903008 :: 0x903009 :: 0x91000B :: 0x91000E :: 0x91000F :: 0xA4000C :: 0xB10004 :: 0xB20006 :: 0xB20007 :: 0xB2000F :: 0xE00006 :: []) s (execWr x0 s) := by
  unfold execWr
  refine rf_next ?_
  refine rf_step (State.route_rf _ _) rfl rfl ?_
  exact rf_refl

theorem execWrp_rf (x0 s) :
    RF vOut [.reply, .freeCtr, .mode, .values, .octets, .force, .time, .galley, .vx, .edge, .front, .mogil, .mem, .fab, .pot, .sec, .res, .alarms] (0x200004 :: 0x200005 :: 0x200006 :: 0x200007 :: 0x600002 :: 0x600008 :: 0x600009 :: 0x60000A :: 0x60000C :: 0x60000D :: 0x60000E :: 0x60000F :: 0x600013 :: 0x60001D :: 0x620007 :: 0x620008 :: 0x620009 :: 0x630003 :: 0x630004 :: 0x630005 :: 0x700009 :: 0x800007 :: 0x80000E :: 0x82000B :: 0x900001 :: 0x900004 :: 0x900005 :: 0x901002 :: 0x901003 :: 0x901005 :: 0x901006 :: 0x902002 :: 0x902003 :: 0x903006 :: 0x903007 :: 0x903008 :: 0x903009 :: 0x91000B :: 0x91000E :: 0x91000F :: 0xA4000C :: 0xB10004 :: 0xB20006 :: 0xB20007 :: 0xB2000F :: 0xE00006 :: []) s (execWrp x0 s) := by
  unfold execWrp
  refine rf_next ?_
  refine rf_step (State.route_rf _ _) rfl rfl ?_
  exact rf_refl

theorem execAtomAdd_rf (x0 s) :
    RF vOut [.reply, .freeCtr, .mode, .values, .octets, .force, .time, .galley, .vx, .edge, .front, .mogil, .mem, .fab, .pot, .sec, .res, .alarms] (0x200004 :: 0x200005 :: 0x200006 :: 0x200007 :: 0x600002 :: 0x600008 :: 0x600009 :: 0x60000A :: 0x60000C :: 0x60000D :: 0x60000E :: 0x60000F :: 0x600013 :: 0x60001D :: 0x620007 :: 0x620008 :: 0x620009 :: 0x630003 :: 0x630004 :: 0x630005 :: 0x700009 :: 0x800007 :: 0x80000E :: 0x82000B :: 0x900001 :: 0x900004 :: 0x900005 :: 0x901002 :: 0x901003 :: 0x901005 :: 0x901006 :: 0x902002 :: 0x902003 :: 0x903006 :: 0x903007 :: 0x903008 :: 0x903009 :: 0x91000B :: 0x91000E :: 0x91000F :: 0xA4000C :: 0xB10004 :: 0xB20006 :: 0xB20007 :: 0xB2000F :: 0xE00006 :: []) s (execAtomAdd x0 s) := by
  unfold execAtomAdd
  refine rf_next ?_
  refine rf_step (State.route_rf _ _) rfl rfl ?_
  exact rf_refl

theorem execAtomSwap_rf (x0 s) :
    RF vOut [.reply, .freeCtr, .mode, .values, .octets, .force, .time, .galley, .vx, .edge, .front, .mogil, .mem, .fab, .pot, .sec, .res, .alarms] (0x200004 :: 0x200005 :: 0x200006 :: 0x200007 :: 0x600002 :: 0x600008 :: 0x600009 :: 0x60000A :: 0x60000C :: 0x60000D :: 0x60000E :: 0x60000F :: 0x600013 :: 0x60001D :: 0x620007 :: 0x620008 :: 0x620009 :: 0x630003 :: 0x630004 :: 0x630005 :: 0x700009 :: 0x800007 :: 0x80000E :: 0x82000B :: 0x900001 :: 0x900004 :: 0x900005 :: 0x901002 :: 0x901003 :: 0x901005 :: 0x901006 :: 0x902002 :: 0x902003 :: 0x903006 :: 0x903007 :: 0x903008 :: 0x903009 :: 0x91000B :: 0x91000E :: 0x91000F :: 0xA4000C :: 0xB10004 :: 0xB20006 :: 0xB20007 :: 0xB2000F :: 0xE00006 :: []) s (execAtomSwap x0 s) := by
  unfold execAtomSwap
  refine rf_next ?_
  refine rf_step (State.route_rf _ _) rfl rfl ?_
  exact rf_refl

theorem execAtomCompareSwap_rf (x0 s) :
    RF vOut [.reply, .freeCtr, .mode, .values, .octets, .force, .time, .galley, .vx, .edge, .front, .mogil, .mem, .fab, .pot, .sec, .res, .alarms] (0x200004 :: 0x200005 :: 0x200006 :: 0x200007 :: 0x600002 :: 0x600008 :: 0x600009 :: 0x60000A :: 0x60000C :: 0x60000D :: 0x60000E :: 0x60000F :: 0x600013 :: 0x60001D :: 0x620007 :: 0x620008 :: 0x620009 :: 0x630003 :: 0x630004 :: 0x630005 :: 0x700009 :: 0x800007 :: 0x80000E :: 0x82000B :: 0x900001 :: 0x900004 :: 0x900005 :: 0x901002 :: 0x901003 :: 0x901005 :: 0x901006 :: 0x902002 :: 0x902003 :: 0x903006 :: 0x903007 :: 0x903008 :: 0x903009 :: 0x91000B :: 0x91000E :: 0x91000F :: 0xA4000C :: 0xB10004 :: 0xB20006 :: 0xB20007 :: 0xB2000F :: 0xE00006 :: []) s (execAtomCompareSwap x0 s) := by
  unfold execAtomCompareSwap
  refine rf_next ?_
  refine rf_step (State.route_rf _ _) rfl rfl ?_
  exact rf_refl

theorem execAlloc_rf (x0 s) :
    RF vOut [.reply, .freeCtr, .mode, .values, .octets, .force, .time, .galley, .vx, .edge, .front, .mogil, .mem, .fab, .pot, .sec, .res, .alarms] (0x200004 :: 0x200005 :: 0x200006 :: 0x200007 :: 0x600002 :: 0x600008 :: 0x600009 :: 0x60000A :: 0x60000C :: 0x60000D :: 0x60000E :: 0x60000F :: 0x600013 :: 0x60001D :: 0x620007 :: 0x620008 :: 0x620009 :: 0x630003 :: 0x630004 :: 0x630005 :: 0x700009 :: 0x800007 :: 0x80000E :: 0x82000B :: 0x900001 :: 0x900004 :: 0x900005 :: 0x901002 :: 0x901003 :: 0x901005 :: 0x901006 :: 0x902002 :: 0x902003 :: 0x903006 :: 0x903007 :: 0x903008 :: 0x903009 :: 0x91000B :: 0x91000E :: 0x91000F :: 0xA4000C :: 0xB10004 :: 0xB20006 :: 0xB20007 :: 0xB2000F :: 0xE00006 :: []) s (execAlloc x0 s) := by
  unfold execAlloc
  refine rf_next ?_
  refine rf_step (State.route_rf _ _) rfl rfl ?_
  exact rf_refl

theorem execFree_rf (x0 s) :
    RF vOut [.reply, .freeCtr, .mode, .values, .octets, .force, .time, .galley, .vx, .edge, .front, .mogil, .mem, .fab, .pot, .sec, .res, .alarms] (0x200004 :: 0x200005 :: 0x200006 :: 0x200007 :: 0x600002 :: 0x600008 :: 0x600009 :: 0x60000A :: 0x60000C :: 0x60000D :: 0x60000E :: 0x60000F :: 0x600013 :: 0x60001D :: 0x620007 :: 0x620008 :: 0x620009 :: 0x630003 :: 0x630004 :: 0x630005 :: 0x700009 :: 0x800007 :: 0x80000E :: 0x82000B :: 0x900001 :: 0x900004 :: 0x900005 :: 0x901002 :: 0x901003 :: 0x901005 :: 0x901006 :: 0x902002 :: 0x902003 :: 0x903006 :: 0x903007 :: 0x903008 :: 0x903009 :: 0x91000B :: 0x91000E :: 0x91000F :: 0xA4000C :: 0xB10004 :: 0xB20006 :: 0xB20007 :: 0xB2000F :: 0xE00006 :: []) s (execFree x0 s) := by
  unfold execFree
  refine rf_next ?_
  refine rf_step (State.route_rf _ _) rfl rfl ?_
  exact rf_refl

theorem execMsg_rf (x0 s) :
    RF vOut [.reply, .freeCtr, .mode, .values, .octets, .force, .time, .galley, .vx, .edge, .front, .mogil, .mem, .fab, .pot, .sec, .res, .alarms] (0x200004 :: 0x200005 :: 0x200006 :: 0x200007 :: 0x600002 :: 0x600008 :: 0x600009 :: 0x60000A :: 0x60000C :: 0x60000D :: 0x60000E :: 0x60000F :: 0x600013 :: 0x60001D :: 0x620007 :: 0x620008 :: 0x620009 :: 0x630003 :: 0x630004 :: 0x630005 :: 0x700009 :: 0x800007 :: 0x80000E :: 0x82000B :: 0x900001 :: 0x900004 :: 0x900005 :: 0x901002 :: 0x901003 :: 0x901005 :: 0x901006 :: 0x902002 :: 0x902003 :: 0x903006 :: 0x903007 :: 0x903008 :: 0x903009 :: 0x91000B :: 0x91000E :: 0x91000F :: 0xA4000C :: 0xB10004 :: 0xB20006 :: 0xB20007 :: 0xB2000F :: 0xE00006 :: []) s (execMsg x0 s) := by
  unfold execMsg
  refine rf_next ?_
  refine rf_step (State.route_rf _ _) rfl rfl ?_
  exact rf_refl

theorem execSealBuf_rf (x0 s) :
    RF vOut [.reply, .freeCtr, .mode, .values, .octets, .force, .time, .galley, .vx, .edge, .front, .mogil, .mem, .fab, .pot, .sec, .res, .alarms] (0x200004 :: 0x200005 :: 0x200006 :: 0x200007 :: 0x600002 :: 0x600008 :: 0x600009 :: 0x60000A :: 0x60000C :: 0x60000D :: 0x60000E :: 0x60000F :: 0x600013 :: 0x60001D :: 0x620007 :: 0x620008 :: 0x620009 :: 0x630003 :: 0x630004 :: 0x630005 :: 0x700009 :: 0x800007 :: 0x80000E :: 0x82000B :: 0x900001 :: 0x900004 :: 0x900005 :: 0x901002 :: 0x901003 :: 0x901005 :: 0x901006 :: 0x902002 :: 0x902003 :: 0x903006 :: 0x903007 :: 0x903008 :: 0x903009 :: 0x91000B :: 0x91000E :: 0x91000F :: 0xA4000C :: 0xB10004 :: 0xB20006 :: 0xB20007 :: 0xB2000F :: 0xE00006 :: []) s (execSealBuf x0 s) := by
  unfold execSealBuf
  refine rf_next ?_
  refine rf_step (State.route_rf _ _) rfl rfl ?_
  exact rf_refl

theorem execUnsealBuf_rf (x0 s) :
    RF vOut [.reply, .freeCtr, .mode, .values, .octets, .force, .time, .galley, .vx, .edge, .front, .mogil, .mem, .fab, .pot, .sec, .res, .alarms] (0x200004 :: 0x200005 :: 0x200006 :: 0x200007 :: 0x600002 :: 0x600008 :: 0x600009 :: 0x60000A :: 0x60000C :: 0x60000D :: 0x60000E :: 0x60000F :: 0x600013 :: 0x60001D :: 0x620007 :: 0x620008 :: 0x620009 :: 0x630003 :: 0x630004 :: 0x630005 :: 0x700009 :: 0x800007 :: 0x80000E :: 0x82000B :: 0x900001 :: 0x900004 :: 0x900005 :: 0x901002 :: 0x901003 :: 0x901005 :: 0x901006 :: 0x902002 :: 0x902003 :: 0x903006 :: 0x903007 :: 0x903008 :: 0x903009 :: 0x91000B :: 0x91000E :: 0x91000F :: 0xA4000C :: 0xB10004 :: 0xB20006 :: 0xB20007 :: 0xB2000F :: 0xE00006 :: []) s (execUnsealBuf x0 s) := by
  unfold execUnsealBuf
  refine rf_next ?_
  refine rf_step (State.route_rf _ _) rfl rfl ?_
  exact rf_refl

theorem execRdata_rf (x0 s) :
    RF vOut [.reply, .freeCtr, .mode, .values, .octets, .force, .time, .galley, .vx, .edge, .front, .mogil, .mem, .fab, .pot, .sec, .res, .alarms] (0x200004 :: 0x200005 :: 0x200006 :: 0x200007 :: 0x600002 :: 0x600008 :: 0x600009 :: 0x60000A :: 0x60000C :: 0x60000D :: 0x60000E :: 0x60000F :: 0x600013 :: 0x60001D :: 0x620007 :: 0x620008 :: 0x620009 :: 0x630003 :: 0x630004 :: 0x630005 :: 0x700009 :: 0x800007 :: 0x80000E :: 0x82000B :: 0x900001 :: 0x900004 :: 0x900005 :: 0x901002 :: 0x901003 :: 0x901005 :: 0x901006 :: 0x902002 :: 0x902003 :: 0x903006 :: 0x903007 :: 0x903008 :: 0x903009 :: 0x91000B :: 0x91000E :: 0x91000F :: 0xA4000C :: 0xB10004 :: 0xB20006 :: 0xB20007 :: 0xB2000F :: 0xE00006 :: []) s (execRdata x0 s) := by
  unfold execRdata
  refine rf_next ?_
  refine rf_step (State.route_rf _ _) rfl rfl ?_
  exact rf_refl

theorem execAck_rf (x0 s) :
    RF vOut [.reply, .freeCtr, .mode, .values, .octets, .force, .time, .galley, .vx, .edge, .front, .mogil, .mem, .fab, .pot, .sec, .res, .alarms] (0x200004 :: 0x200005 :: 0x200006 :: 0x200007 :: 0x600002 :: 0x600008 :: 0x600009 :: 0x60000A :: 0x60000C :: 0x60000D :: 0x60000E :: 0x60000F :: 0x600013 :: 0x60001D :: 0x620007 :: 0x620008 :: 0x620009 :: 0x630003 :: 0x630004 :: 0x630005 :: 0x700009 :: 0x800007 :: 0x80000E :: 0x82000B :: 0x900001 :: 0x900004 :: 0x900005 :: 0x901002 :: 0x901003 :: 0x901005 :: 0x901006 :: 0x902002 :: 0x902003 :: 0x903006 :: 0x903007 :: 0x903008 :: 0x903009 :: 0x91000B :: 0x91000E :: 0x91000F :: 0xA4000C :: 0xB10004 :: 0xB20006 :: 0xB20007 :: 0xB2000F :: 0xE00006 :: []) s (execAck x0 s) := by
  unfold execAck
  refine rf_next ?_
  refine rf_step (State.route_rf _ _) rfl rfl ?_
  exact rf_refl

theorem execErr_rf (x0 s) :
    RF vOut [.reply, .freeCtr, .mode, .values, .octets, .force, .time, .galley, .vx, .edge, .front, .mogil, .mem, .fab, .pot, .sec, .res, .alarms] (0x200004 :: 0x200005 :: 0x200006 :: 0x200007 :: 0x600002 :: 0x600008 :: 0x600009 :: 0x60000A :: 0x60000C :: 0x60000D :: 0x60000E :: 0x60000F :: 0x600013 :: 0x60001D :: 0x620007 :: 0x620008 :: 0x620009 :: 0x630003 :: 0x630004 :: 0x630005 :: 0x700009 :: 0x800007 :: 0x80000E :: 0x82000B :: 0x900001 :: 0x900004 :: 0x900005 :: 0x901002 :: 0x901003 :: 0x901005 :: 0x901006 :: 0x902002 :: 0x902003 :: 0x903006 :: 0x903007 :: 0x903008 :: 0x903009 :: 0x91000B :: 0x91000E :: 0x91000F :: 0xA4000C :: 0xB10004 :: 0xB20006 :: 0xB20007 :: 0xB2000F :: 0xE00006 :: []) s (execErr x0 s) := by
  unfold execErr
  refine rf_next ?_
  refine rf_step (State.route_rf _ _) rfl rfl ?_
  exact rf_refl

theorem State.declareDown_rf (s x1 x2) :
    RF vS [.freeCtr, .mode, .octets, .fab, .pot, .alarms] [0x200004, 0x200005, 0x200006, 0x200007, 0x903004, 0xB20006, 0xB20007, 0xB2000F] s (State.declareDown s x1 x2) := by
  unfold State.declareDown
  extract_lets v0 v1 v2 v3
  refine rf_cut (W := vS) v2 ?_ (fun h4 => ?_)
  · unfold v2
    refine rf_upd (b := s) ?_ ⟨fun f hf hv => by cases f <;> first | exact absurd (by decide) hf | exact absurd rfl hv | rfl | exact ⟨rfl, rfl⟩ | exact ⟨rfl, rfl, rfl, rfl, rfl⟩, Or.inr fun _ _ => rfl⟩ (Keeps.of rfl (Nat.le_refl _) rfl)
    exact rf_refl
  refine rf_cut (W := vS) v3 ?_ (fun h5 => ?_)
  · unfold v3
    refine rf_ite (fun _h6 => ?_) (fun _h7 => ?_)
    · refine rf_step (State.bump_rf _ _ _) rfl rfl ?_
      exact h4
    · exact h4
  refine rf_step (State.setCause_rf _ _ _) rfl rfl ?_
  refine rf_step (State.raise_rf _ _ _ _ _) rfl rfl ?_
  exact h5

theorem execFlitCrcError_rf (x0 x1 s) :
    RF vOut [.freeCtr, .mode, .octets, .fab, .pot, .alarms] [0x200004, 0x200005, 0x200006, 0x200007, 0x903003, 0x903004, 0xB20006, 0xB20007, 0xB2000F] s (execFlitCrcError x0 x1 s) := by
  unfold execFlitCrcError
  extract_lets v0 v1 v2
  refine rf_cut (W := vS) v2 ?_ (fun h3 => ?_)
  · unfold v2
    refine rf_step (State.bump_rf _ _ _) rfl rfl ?_
    refine rf_upd (b := s) ?_ ⟨fun f hf hv => by cases f <;> first | exact absurd (by decide) hf | exact absurd rfl hv | rfl | exact ⟨rfl, rfl⟩ | exact ⟨rfl, rfl, rfl, rfl, rfl⟩, Or.inr fun _ _ => rfl⟩ (Keeps.of rfl (Nat.le_refl _) rfl)
    exact rf_refl
  refine rf_ite (fun _h4 => ?_) (fun _h5 => ?_)
  · refine rf_next ?_
    refine rf_ite (fun _h6 => ?_) (fun _h7 => ?_)
    · refine rf_step (State.declareDown_rf _ _ _) rfl rfl ?_
      exact h3
    · exact h3
  · refine rf_next ?_
    exact rf_refl

theorem execFabricLinkDown_rf (x0 x1 s) :
    RF vOut [.freeCtr, .mode, .octets, .fab, .pot, .alarms] [0x200004, 0x200005, 0x200006, 0x200007, 0x903004, 0xB20006, 0xB20007, 0xB2000F] s (execFabricLinkDown x0 x1 s) := by
  unfold execFabricLinkDown
  refine rf_next ?_
  refine rf_ite (fun _h0 => ?_) (fun _h1 => ?_)
  · refine rf_step (State.declareDown_rf _ _ _) rfl rfl ?_
    exact rf_refl
  · exact rf_refl

theorem execFabricLinkReturn_rf (x0 x1 s) :
    RF vOut [.freeCtr, .mode, .octets, .fab, .pot, .alarms] [0x200004, 0x200005, 0x200006, 0x200007, 0xB20006, 0xB20007, 0xB2000F] s (execFabricLinkReturn x0 x1 s) := by
  unfold execFabricLinkReturn
  extract_lets v0 v1
  refine rf_cut (W := vS) v1 ?_ (fun h2 => ?_)
  · unfold v1
    refine rf_upd (b := s) ?_ ⟨fun f hf hv => by cases f <;> first | exact absurd (by decide) hf | exact absurd rfl hv | rfl | exact ⟨rfl, rfl⟩ | exact ⟨rfl, rfl, rfl, rfl, rfl⟩, Or.inr fun _ _ => rfl⟩ (Keeps.of rfl (Nat.le_refl _) rfl)
    exact rf_refl
  refine rf_ite (fun _h3 => ?_) (fun _h4 => ?_)
  · refine rf_next ?_
    refine rf_step (State.setCause_rf _ _ _) rfl rfl ?_
    exact h2
  · refine rf_next ?_
    exact rf_refl

theorem execEdgeLinkDown_rf (x0 s) :
    RF vOut [.freeCtr, .mode, .values, .octets, .force, .galley, .vx, .edge, .front, .fab, .pot, .res, .alarms] [0x200004, 0x200005, 0x200006, 0x200007, 0x600008, 0x600009, 0x60000A, 0x60000C, 0x60000D, 0x60000E, 0x60001D, 0x620007, 0x620009, 0x700009, 0x800007, 0x80000E, 0x82000B, 0x903007, 0xB20006, 0xB20007, 0xB2000F, 0xE00006] s (execEdgeLinkDown x0 s) := by
  unfold execEdgeLinkDown
  refine rf_next ?_
  refine rf_foldl ?_ (fun t0 x1 h2 => ?_)
  · exact rf_refl
  · refine rf_step (State.anyFault_rf _ _ _ _ _ _) rfl rfl ?_
    exact h2

theorem State.domainUp_rf (s x1) :
    RF vS [.vx, .fab] [] s (State.domainUp s x1) := by
  unfold State.domainUp
  extract_lets v0 v1
  refine rf_cut (W := vS) v1 ?_ (fun h2 => ?_)
  · unfold v1
    refine rf_step (State.setDomain_rf _ _ _) rfl rfl ?_
    exact rf_refl
  refine rf_ite (fun _h3 => ?_) (fun _h4 => ?_)
  · refine rf_step (State.restartCore_rf _ _) rfl rfl ?_
    exact h2
  · exact h2

theorem execDomainWakeReady_rf (x0 s) :
    RF vOut [.reply, .freeCtr, .mode, .values, .octets, .force, .time, .galley, .vx, .edge, .front, .mogil, .mem, .fab, .pot, .sec, .res, .alarms] (0x200004 :: 0x200005 :: 0x200006 :: 0x200007 :: 0x600002 :: 0x600008 :: 0x600009 :: 0x60000A :: 0x60000C :: 0x60000D :: 0x60000E :: 0x60000F :: 0x600013 :: 0x60001D :: 0x620007 :: 0x620008 :: 0x620009 :: 0x630003 :: 0x630004 :: 0x630005 :: 0x700009 :: 0x800007 :: 0x80000E :: 0x82000B :: 0x900001 :: 0x900004 :: 0x900005 :: 0x901002 :: 0x901003 :: 0x901005 :: 0x901006 :: 0x902002 :: 0x902003 :: 0x903007 :: 0x903009 :: 0x91000B :: 0x91000E :: 0x91000F :: 0xA4000C :: 0xB10004 :: 0xB20006 :: 0xB20007 :: 0xB2000F :: 0xE00006 :: []) s (execDomainWakeReady x0 s) := by
  unfold execDomainWakeReady
  extract_lets v0 v1
  refine rf_cut (W := vS) v1 ?_ (fun h2 => ?_)
  · unfold v1
    refine rf_ite (fun _h3 => ?_) (fun _h4 => ?_)
    · refine rf_step (State.domainUp_rf _ _) rfl rfl ?_
      exact rf_refl
    · refine rf_step (State.setDomain_rf _ _ _) rfl rfl ?_
      exact rf_refl
  refine rf_ite (fun _h5 => ?_) (fun _h6 => ?_)
  · refine rf_next ?_
    refine rf_foldl ?_ (fun t7 x8 h9 => ?_)
    · exact h2
    · refine rf_step (State.deliverReply_rf _ _) rfl rfl ?_
      refine rf_step (State.perform_rf _ _) rfl rfl ?_
      exact h9
  · refine rf_next ?_
    exact rf_refl

theorem execWakeTimeout_rf (x0 s) :
    RF vOut [.reply, .freeCtr, .octets, .fab, .pot, .alarms] [0x903008, 0xB20006, 0xB20007, 0xB2000F] s (execWakeTimeout x0 s) := by
  unfold execWakeTimeout
  extract_lets v0 v1
  refine rf_cut (W := vS) v1 ?_ (fun h2 => ?_)
  · unfold v1
    refine rf_step (State.setDomain_rf _ _ _) rfl rfl ?_
    exact rf_refl
  refine rf_ite (fun _h3 => ?_) (fun _h4 => ?_)
  · refine rf_next ?_
    refine rf_step (State.raise_rf _ _ _ _ _) rfl rfl ?_
    refine rf_foldl ?_ (fun t5 x6 h7 => ?_)
    · exact h2
    · refine rf_step (State.deliverReply_rf _ _) rfl rfl ?_
      refine rf_step (State.turnAway_rf _ _ _) rfl rfl ?_
      exact h7
  · refine rf_next ?_
    exact rf_refl

theorem State.lockOff_rf (s x1) :
    RF vS [.reply, .fab] [0x903008] s (State.lockOff s x1) := by
  unfold State.lockOff
  extract_lets v0 v1
  refine rf_cut (W := vS) v1 ?_ (fun h2 => ?_)
  · unfold v1
    refine rf_step (State.setDomain_rf _ _ _) rfl rfl ?_
    exact rf_refl
  refine rf_foldl ?_ (fun t3 x4 h5 => ?_)
  · exact h2
  · refine rf_step (State.deliverReply_rf _ _) rfl rfl ?_
    refine rf_step (State.turnAway_rf _ _ _) rfl rfl ?_
    exact h5

theorem execDomainLockOff_rf (x0 s) :
    RF vOut [.reply, .fab] [0x903008] s (execDomainLockOff x0 s) := by
  unfold execDomainLockOff
  refine rf_ite (fun _h0 => ?_) (fun _h1 => ?_)
  · refine rf_next ?_
    refine rf_step (State.lockOff_rf _ _) rfl rfl ?_
    exact rf_refl
  · refine rf_next ?_
    exact rf_refl

theorem execSsAccessRepeat_rf (x0 x1 s) :
    RF vOut [.freeCtr, .octets, .fab, .pot, .alarms] [0xB20006, 0xB20007, 0xB2000F] s (execSsAccessRepeat x0 x1 s) := by
  unfold execSsAccessRepeat
  extract_lets v0 v1
  refine rf_cut (W := vS) v1 ?_ (fun h2 => ?_)
  · unfold v1
    refine rf_ite (fun _h3 => ?_) (fun _h4 => ?_)
    · refine rf_step (State.setBank_rf _ _ _) rfl rfl ?_
      exact rf_refl
    · exact rf_refl
  refine rf_next ?_
  refine rf_ite (fun _h5 => ?_) (fun _h6 => ?_)
  · refine rf_step (State.startSpare_rf _ _) rfl rfl ?_
    exact h2
  · exact rf_refl

theorem writeSpareNow_rf (x0 x1 s) :
    RF vOk [.freeCtr, .octets, .fab, .pot, .alarms] [0xB20006, 0xB20007, 0xB2000F] s (writeSpareNow x0 x1 s) := by
  unfold writeSpareNow
  refine rf_ok ?_
  refine rf_ite (fun _h0 => ?_) (fun _h1 => ?_)
  · refine rf_step (State.startSpare_rf _ _) rfl rfl ?_
    exact rf_refl
  · exact rf_refl

theorem execSpareNow_rf (x0 x1 s) :
    RF vOut [.reply, .freeCtr, .octets, .fab, .pot, .alarms] [0xB20006, 0xB20007, 0xB2000F] s (execSpareNow x0 x1 s) := by
  unfold execSpareNow
  refine rf_next ?_
  refine State.actSel_rf rfl ?_ (fun k1 u0 => ?_)
  · exact rf_refl
  · refine rf_step (writeSpareNow_rf _ _ _) rfl rfl ?_
    exact rf_refl

theorem execSsSpareFlip_rf (s) :
    RF vOut [.freeCtr, .mode, .octets, .time, .fab, .pot, .sec, .res, .alarms] [0x200004, 0x200005, 0x200006, 0x200007, 0xB10004, 0xB20006, 0xB20007, 0xB2000F] s (execSsSpareFlip s) := by
  unfold execSsSpareFlip
  split
  · rename_i w1 w2
    refine rf_next ?_
    exact rf_refl
  · rename_i w3 w4 w5
    refine rf_ite (fun _h1 => ?_) (fun _h2 => ?_)
    · refine rf_next ?_
      exact rf_refl
    extract_lets v6
    split
    · rename_i w7 w8 w9 w10 w11 w12
      extract_lets v13 v14 v15 v16 v17
      refine rf_cut (W := vS) v14 ?_ (fun h18 => ?_)
      · unfold v14
        refine rf_step (State.setBank_rf _ _ _) rfl rfl ?_
        refine rf_step (State.setBank_rf _ _ _) rfl rfl ?_
        exact rf_refl
      refine rf_cut (W := vS) v16 ?_ (fun h19 => ?_)
      · unfold v16
        clear_value v14
        refine rf_upd (b := v14) ?_ ⟨fun f hf hv => by cases f <;> first | exact absurd (by decide) hf | exact absurd rfl hv | rfl | exact ⟨rfl, rfl⟩ | exact ⟨rfl, rfl, rfl, rfl, rfl⟩, Or.inr fun _ _ => rfl⟩ (Keeps.of rfl (Nat.le_refl _) rfl)
        exact h18
      refine rf_cut (W := vS) v17 ?_ (fun h20 => ?_)
      · unfold v17
        refine rf_step (State.setCause_rf _ _ _) rfl rfl ?_
        exact h19
      refine rf_next ?_
      refine rf_ite (fun _h21 => ?_) (fun _h22 => ?_)
      · refine rf_step (State.returnToken_rf _ _ _) rfl rfl ?_
        exact h20
      · refine rf_step (State.evaluate_rf _) rfl rfl ?_
        exact h20
    · rename_i w23 w24 w25
      refine rf_next ?_
      exact rf_refl

theorem execSsForwardEnd_rf (s) :
    RF vOut [.reply, .fab] [0x903008] s (execSsForwardEnd s) := by
  unfold execSsForwardEnd
  split
  · rename_i w1 w2
    refine rf_next ?_
    exact rf_refl
  · rename_i w3 w4 w5
    refine rf_ite (fun _h1 => ?_) (fun _h2 => ?_)
    · refine rf_next ?_
      exact rf_refl
    · refine rf_next ?_
      refine rf_step (State.lockOff_rf _ _) rfl rfl ?_
      refine rf_upd (b := s) ?_ ⟨fun f hf hv => by cases f <;> first | exact absurd (by decide) hf | exact absurd rfl hv | rfl | exact ⟨rfl, rfl⟩ | exact ⟨rfl, rfl, rfl, rfl, rfl⟩, Or.inr fun _ _ => rfl⟩ (Keeps.of rfl (Nat.le_refl _) rfl)
      exact rf_refl

theorem execSpareTestIntervalExpiry_rf (s) :
    RF vOut [.freeCtr, .mode, .octets, .fab, .pot, .sec, .res, .alarms] [0x200004, 0x200005, 0x200006, 0xB10004, 0xB20006, 0xB20007, 0xB2000F] s (execSpareTestIntervalExpiry s) := by
  unfold execSpareTestIntervalExpiry
  extract_lets v0
  refine rf_ite (fun _h1 => ?_) (fun _h2 => ?_)
  · refine rf_next ?_
    refine rf_step (State.requestToken_rf _ _ _) rfl rfl ?_
    refine rf_upd (b := s) ?_ ⟨fun f hf hv => by cases f <;> first | exact absurd (by decide) hf | exact absurd rfl hv | rfl | exact ⟨rfl, rfl⟩ | exact ⟨rfl, rfl, rfl, rfl, rfl⟩, Or.inr fun _ _ => rfl⟩ (Keeps.of rfl (Nat.le_refl _) rfl)
    exact rf_refl
  · refine rf_next ?_
    exact rf_refl

theorem execSpareBankTest_rf (x0 s) :
    RF vOut [.freeCtr, .mode, .octets, .time, .fab, .pot, .sec, .res, .alarms] [0x200004, 0x200005, 0x200006, 0x200007, 0xB10004, 0xB20006, 0xB20007, 0xB2000F] s (execSpareBankTest x0 s) := by
  unfold execSpareBankTest
  split
  · rename_i w0 w1
    refine rf_next ?_
    exact rf_refl
  · rename_i w2 w3 w4
    extract_lets v5 v6
    refine rf_cut (W := vS) v6 ?_ (fun h7 => ?_)
    · unfold v6
      refine rf_step (State.raise_rf _ _ _ _ _) rfl rfl ?_
      refine rf_step (State.setBank_rf _ _ _) rfl rfl ?_
      exact rf_refl
    refine rf_ite (fun _h8 => ?_) (fun _h9 => ?_)
    · refine rf_next ?_
      exact rf_refl
    · refine rf_ite (fun _h10 => ?_) (fun _h11 => ?_)
      · refine rf_next ?_
        refine rf_step (State.returnToken_rf _ _ _) rfl rfl ?_
        refine rf_step (State.bankPower_rf _ _ _) rfl rfl ?_
        refine rf_step (State.setBank_rf _ _ _) rfl rfl ?_
        exact rf_refl
      · refine rf_next ?_
        refine rf_step (State.returnToken_rf _ _ _) rfl rfl ?_
        refine rf_step (State.setCause_rf _ _ _) rfl rfl ?_
        exact h7

theorem State.scrubNext_rf (s x1 x2) :
    RF vS [.fab] [0x90000A] s (State.scrubNext s x1 x2) := by
  unfold State.scrubNext
  extract_lets v0 v1
  split
  rename_i w2 w3 w4 w5 w6
  extract_lets v7
  refine rf_cut (W := vS) v7 ?_ (fun h8 => ?_)
  · unfold v7
    refine rf_upd (b := s) ?_ ⟨fun f hf hv => by cases f <;> first | exact absurd (by decide) hf | exact absurd rfl hv | rfl | exact ⟨rfl, rfl⟩ | exact ⟨rfl, rfl, rfl, rfl, rfl⟩, Or.inr fun _ _ => rfl⟩ (Keeps.of rfl (Nat.le_refl _) rfl)
    exact rf_refl
  refine rf_ite (fun _h9 => ?_) (fun _h10 => ?_)
  · refine rf_upd (b := s) ?_ ⟨fun f hf hv => by cases f <;> first | exact absurd (by decide) hf | exact absurd rfl hv | rfl | exact ⟨rfl, rfl⟩ | exact ⟨rfl, rfl, rfl, rfl, rfl⟩, Or.inr fun _ _ => rfl⟩ (Keeps.of rfl (Nat.le_refl _) rfl)
    exact rf_refl
  · refine rf_ite (fun _h11 => ?_) (fun _h12 => ?_)
    · refine rf_step (State.bump_rf _ _ _) rfl rfl ?_
      exact h8
    · exact h8

theorem execScrubStep_rf (x0 x1 x2 s) :
    RF vOut [.freeCtr, .octets, .fab, .pot, .alarms] [0x900004, 0x900005, 0x90000A, 0x901002, 0x901003, 0x901006, 0x902002, 0x902003, 0xB20006, 0xB20007, 0xB2000F] s (execScrubStep x0 x1 x2 s) := by
  unfold execScrubStep
  extract_lets v0 v1
  refine rf_cut (W := vS) v1 ?_ (fun h2 => ?_)
  · unfold v1
    refine rf_ite (fun _h3 => ?_) (fun _h4 => ?_)
    · exact rf_refl
    · refine rf_step (State.eccAt_rf _ _ _) rfl rfl ?_
      exact rf_refl
  refine rf_ite (fun _h5 => ?_) (fun _h6 => ?_)
  · refine rf_next ?_
    exact rf_refl
  · refine rf_next ?_
    refine rf_step (State.scrubNext_rf _ _ _) rfl rfl ?_
    exact h2

theorem execHbmRefresh_rf (x0 s) :
    RF vOut [.fab] [] s (execHbmRefresh x0 s) := by
  unfold execHbmRefresh
  extract_lets v0 v1
  refine rf_next ?_
  refine rf_upd (b := s) ?_ ⟨fun f hf hv => by cases f <;> first | exact absurd (by decide) hf | exact absurd rfl hv | rfl | exact ⟨rfl, rfl⟩ | exact ⟨rfl, rfl, rfl, rfl, rfl⟩, Or.inr fun _ _ => rfl⟩ (Keeps.of rfl (Nat.le_refl _) rfl)
  exact rf_refl

theorem State.hamperOn_rf (s x1) :
    RF vS [.force, .fab] [0x620005, 0x620009] s (State.hamperOn s x1) := by
  unfold State.hamperOn
  extract_lets v0 v1 v2
  refine rf_cut (W := vS) v2 ?_ (fun h3 => ?_)
  · unfold v2
    refine rf_step (State.setFlag_rf _ _ _ _) rfl rfl ?_
    refine rf_step (State.takeAll_rf _ _ _) rfl rfl ?_
    exact rf_refl
  refine rf_ite (fun _h4 => ?_) (fun _h5 => ?_)
  · exact h3
  · refine rf_step (State.setNum_rf _ _ _ _) rfl rfl ?_
    refine rf_step (State.setHamper_rf _ _ _) rfl rfl ?_
    exact h3

theorem enableHamper_rf (x0 x1 s) :
    RF vOk [.force, .fab] [0x620005, 0x620009] s (enableHamper x0 x1 s) := by
  unfold enableHamper
  extract_lets v0
  refine rf_ite (fun _h1 => ?_) (fun _h2 => ?_)
  · split
    · rename_i w3 w4 w5
      refine rf_ite (fun _h6 => ?_) (fun _h7 => ?_)
      · refine rf_ok ?_
        refine rf_step (State.setFlag_rf _ _ _ _) rfl rfl ?_
        refine rf_upd (b := s) ?_ ⟨fun f hf hv => by cases f <;> first | exact absurd (by decide) hf | exact absurd rfl hv | rfl | exact ⟨rfl, rfl⟩ | exact ⟨rfl, rfl, rfl, rfl, rfl⟩, Or.inr fun _ _ => rfl⟩ (Keeps.of rfl (Nat.le_refl _) rfl)
        exact rf_refl
      · exact rf_error _
    · rename_i w8 w9
      refine rf_ok ?_
      refine rf_step (State.setFlag_rf _ _ _ _) rfl rfl ?_
      exact rf_refl
  · refine rf_ite (fun _h10 => ?_) (fun _h11 => ?_)
    · exact rf_error _
    · split
      · rename_i w12 w13
        refine rf_ok ?_
        refine rf_step (State.hamperOn_rf _ _) rfl rfl ?_
        exact rf_refl
      · rename_i w14 w15
        exact rf_error _

theorem execHamperEnable_rf (x0 s) :
    RF vOut [.reply, .force, .fab] [0x620005, 0x620009] s (execHamperEnable x0 s) := by
  unfold execHamperEnable
  refine rf_next ?_
  refine State.actSel_rf rfl ?_ (fun k1 u0 => ?_)
  · exact rf_refl
  · refine rf_step (enableHamper_rf _ _ _) rfl rfl ?_
    exact rf_refl

theorem execHamperDisable_rf (x0 s) :
    RF vOut [.reply, .force, .fab] [0x620005, 0x620009] s (execHamperDisable x0 s) := by
  unfold execHamperDisable
  refine rf_next ?_
  refine State.actSel_rf rfl ?_ (fun k1 u0 => ?_)
  · exact rf_refl
  · refine rf_step (enableHamper_rf _ _ _) rfl rfl ?_
    exact rf_refl

end Sys2Proof.Machine
end

