-- ==== Sys2Proof/Laws/FramesPower.lean ====
section
/-!
SUPPORT. What each operation of Machine/Power.lean may change, one lemma each.
-/

namespace Sys2Proof.Machine

set_option Elab.async false

open Sys2Proof

theorem State.setPower_rf (s x1) :
    RF vS [.power] [] s (State.setPower s x1) := by
  unfold State.setPower
  refine rf_upd (b := s) ?_ ⟨fun f hf hv => by cases f <;> first | exact absurd (by decide) hf | exact absurd rfl hv | rfl | exact ⟨rfl, rfl⟩ | exact ⟨rfl, rfl, rfl, rfl, rfl⟩, Or.inr fun _ _ => rfl⟩ (Keeps.of rfl (Nat.le_refl _) rfl)
  exact rf_refl

theorem State.capsNow_rf (s) :
    RF vS [] [0x210004, 0x210007] s (State.capsNow s) := by
  unfold State.capsNow
  refine rf_step (State.setNum_rf _ _ _ _) rfl rfl ?_
  refine rf_step (State.setNum_rf _ _ _ _) rfl rfl ?_
  exact rf_refl

theorem execVinSample_rf (x0 x1 s) :
    RF vOut [.freeCtr, .octets, .pot, .power, .alarms] [0x210002, 0x210003, 0x210004, 0x210007, 0xB20006, 0xB20007, 0xB2000F] s (execVinSample x0 x1 s) := by
  unfold execVinSample
  extract_lets v0 v1 v2 v3 v4 v5 v6
  refine rf_cut (W := vS) v5 ?_ (fun h7 => ?_)
  · unfold v5
    refine rf_step (State.setPower_rf _ _) rfl rfl ?_
    exact rf_refl
  refine rf_cut (W := vS) v6 ?_ (fun h8 => ?_)
  · unfold v6
    refine rf_step (State.setNum_rf _ _ _ _) rfl rfl ?_
    refine rf_step (State.setNum_rf _ _ _ _) rfl rfl ?_
    exact h7
  refine rf_ite (fun _h9 => ?_) (fun _h10 => ?_)
  · refine rf_next ?_
    exact rf_refl
  · refine rf_next ?_
    refine rf_step (State.condition_rf _ _ _ _) rfl rfl ?_
    refine rf_step (State.capsNow_rf _) rfl rfl ?_
    exact h8

theorem State.setLevel_rf (s x1) :
    RF vS [.freeCtr, .mode, .octets, .pot, .power, .alarms] [0x200004, 0x200005, 0x200006, 0x200007, 0x210004, 0x210006, 0x210007, 0xB20006, 0xB20007, 0xB2000F] s (State.setLevel s x1) := by
  unfold State.setLevel
  extract_lets v0 v1 v2 v3 v4 v5
  refine rf_cut (W := vS) v0 ?_ (fun h6 => ?_)
  · unfold v0
    refine rf_step (State.setNum_rf _ _ _ _) rfl rfl ?_
    exact rf_refl
  refine rf_cut (W := vS) v2 ?_ (fun h7 => ?_)
  · unfold v2
    refine rf_ite (fun _h8 => ?_) (fun _h9 => ?_)
    · refine rf_step (State.setPower_rf _ _) rfl rfl ?_
      exact h6
    · exact h6
  refine rf_cut (W := vS) v3 ?_ (fun h10 => ?_)
  · unfold v3
    refine rf_ite (fun _h11 => ?_) (fun _h12 => ?_)
    · exact h7
    · refine rf_step (State.trace_rf _ _) rfl rfl ?_
      exact h7
  refine rf_cut (W := vS) v4 ?_ (fun h13 => ?_)
  · unfold v4
    refine rf_ite (fun _h14 => ?_) (fun _h15 => ?_)
    · exact h10
    · refine rf_step (State.setCause_rf _ _ _) rfl rfl ?_
      exact h10
  refine rf_cut (W := vS) v5 ?_ (fun h16 => ?_)
  · unfold v5
    refine rf_step (State.capsNow_rf _) rfl rfl ?_
    exact h13
  refine rf_ite (fun _h17 => ?_) (fun _h18 => ?_)
  · refine rf_step (State.raise_rf _ _ _ _ _) rfl rfl ?_
    exact h16
  · refine rf_step (State.condition_rf _ _ _ _) rfl rfl ?_
    exact h16

theorem execPowerLoopEval_rf (x0 s) :
    RF vOut [.freeCtr, .mode, .octets, .pot, .power, .alarms] [0x200004, 0x200005, 0x200006, 0x200007, 0x210001, 0x210004, 0x210006, 0x210007, 0x21000B, 0xB20006, 0xB20007, 0xB2000F] s (execPowerLoopEval x0 s) := by
  unfold execPowerLoopEval
  extract_lets v0 v1 v2 v3 v4 v5 v6 v7 v8
  refine rf_cut (W := vS) v2 ?_ (fun h9 => ?_)
  · unfold v2
    refine rf_step (State.setNum_rf _ _ _ _) rfl rfl ?_
    exact rf_refl
  refine rf_cut (W := vS) v5 ?_ (fun h10 => ?_)
  · unfold v5
    refine rf_step (State.setNum_rf _ _ _ _) rfl rfl ?_
    refine rf_step (State.setPower_rf _ _) rfl rfl ?_
    exact h9
  refine rf_cut (W := vS) v7 ?_ (fun h11 => ?_)
  · unfold v7
    refine rf_step (State.setPower_rf _ _) rfl rfl ?_
    exact h10
  refine rf_ite (fun _h12 => ?_) (fun _h13 => ?_)
  · refine rf_next ?_
    exact rf_refl
  · refine rf_ite (fun _h14 => ?_) (fun _h15 => ?_)
    · refine rf_next ?_
      refine rf_step (State.setLevel_rf _ _) rfl rfl ?_
      exact h11
    · refine rf_ite (fun _h16 => ?_) (fun _h17 => ?_)
      · refine rf_next ?_
        refine rf_step (State.setLevel_rf _ _) rfl rfl ?_
        refine rf_step (State.setPower_rf _ _) rfl rfl ?_
        exact h10
      · refine rf_next ?_
        refine rf_step (State.setLevel_rf _ _) rfl rfl ?_
        refine rf_step (State.setPower_rf _ _) rfl rfl ?_
        exact h10

theorem execCurrentLimit_rf (s) :
    RF vOut [.freeCtr, .mode, .octets, .pot, .power, .alarms] [0x200004, 0x200005, 0x200006, 0x200007, 0x210004, 0x210006, 0x210007, 0xB20006, 0xB20007, 0xB2000F] s (execCurrentLimit s) := by
  unfold execCurrentLimit
  extract_lets v0 v1
  refine rf_cut (W := vS) v1 ?_ (fun h2 => ?_)
  · unfold v1
    refine rf_step (State.setPower_rf _ _) rfl rfl ?_
    exact rf_refl
  refine rf_ite (fun _h3 => ?_) (fun _h4 => ?_)
  · refine rf_next ?_
    exact rf_refl
  · refine rf_next ?_
    refine rf_step (State.raise_rf _ _ _ _ _) rfl rfl ?_
    refine rf_step (State.setLevel_rf _ _) rfl rfl ?_
    exact h2

theorem execUnitWithdraw_rf (s) :
    RF vOut [.reply, .freeCtr, .octets, .galley, .fab, .pot, .power, .alarms] [0x210008, 0x903008, 0xB20006, 0xB20007, 0xB2000F] s (execUnitWithdraw s) := by
  unfold execUnitWithdraw
  refine rf_ite (fun _h0 => ?_) (fun _h1 => ?_)
  · split
    · rename_i w2 w3 w4
      split
      · rename_i w5 w6 w7
        extract_lets v8 v9 v10 v11 v12
        refine rf_cut (W := vS) v9 ?_ (fun h13 => ?_)
        · unfold v9
          refine rf_step (State.setUnit_rf _ _ _ _) rfl rfl ?_
          exact rf_refl
        refine rf_cut (W := vS) v11 ?_ (fun h14 => ?_)
        · unfold v11
          refine rf_step (State.setPower_rf _ _) rfl rfl ?_
          exact h13
        refine rf_cut (W := vS) v12 ?_ (fun h15 => ?_)
        · unfold v12
          refine rf_step (State.trace_rf _ _) rfl rfl ?_
          refine rf_step (State.setNum_rf _ _ _ _) rfl rfl ?_
          exact h14
        split
        · rename_i w16 w17 w18 w19 w20
          refine rf_next ?_
          refine rf_step (State.lockOff_rf _ _) rfl rfl ?_
          exact h15
        · rename_i w21 w22 w23
          refine rf_next ?_
          exact h15
      · rename_i w24 w25
        refine rf_next ?_
        exact rf_refl
    · rename_i w26 w27
      refine rf_next ?_
      exact rf_refl
  · refine rf_next ?_
    exact rf_refl

theorem execUnitReturn_rf (s) :
    RF vOut [.freeCtr, .octets, .galley, .vx, .fab, .pot, .power, .alarms] [0x210008, 0xB20006, 0xB20007, 0xB2000F] s (execUnitReturn s) := by
  unfold execUnitReturn
  split
  · rename_i w0 w1 w2 w3
    extract_lets v4 v5 v6 v7 v8 v9 v10
    refine rf_cut (W := vS) v7 ?_ (fun h11 => ?_)
    · unfold v7
      refine rf_step (State.setUnit_rf _ _ _ _) rfl rfl ?_
      exact rf_refl
    refine rf_cut (W := vS) v9 ?_ (fun h12 => ?_)
    · unfold v9
      refine rf_step (State.setPower_rf _ _) rfl rfl ?_
      exact h11
    refine rf_cut (W := vS) v10 ?_ (fun h13 => ?_)
    · unfold v10
      refine rf_step (State.trace_rf _ _) rfl rfl ?_
      refine rf_step (State.setNum_rf _ _ _ _) rfl rfl ?_
      exact h12
    refine rf_ite (fun _h14 => ?_) (fun _h15 => ?_)
    · split
      · rename_i w16 w17 w18
        refine rf_ite (fun _h19 => ?_) (fun _h20 => ?_)
        · refine rf_next ?_
          refine rf_step (State.domainUp_rf _ _) rfl rfl ?_
          exact h13
        · refine rf_next ?_
          exact h13
      · rename_i w21 w22
        refine rf_next ?_
        exact h13
    · refine rf_next ?_
      exact rf_refl
  · rename_i w23 w24
    refine rf_next ?_
    exact rf_refl

theorem execVcoreAdjust_rf (x0 x1 s) :
    RF vOut [.power] [0x21001B] s (execVcoreAdjust x0 x1 s) := by
  unfold execVcoreAdjust
  extract_lets v0 v1 v2 v3
  refine rf_cut (W := vS) v3 ?_ (fun h4 => ?_)
  · unfold v3
    refine rf_step (State.setPower_rf _ _) rfl rfl ?_
    exact rf_refl
  refine rf_ite (fun _h5 => ?_) (fun _h6 => ?_)
  · refine rf_next ?_
    refine rf_step (State.setNum_rf _ _ _ _) rfl rfl ?_
    exact h4
  · refine rf_next ?_
    exact rf_refl

theorem execPhaseFault_rf (x0 s) :
    RF vOut [.freeCtr, .octets, .pot, .power, .alarms] [0x210004, 0x210007, 0x21001D, 0xB20006, 0xB20007, 0xB2000F] s (execPhaseFault x0 s) := by
  unfold execPhaseFault
  extract_lets v0 v1 v2
  refine rf_cut (W := vS) v2 ?_ (fun h3 => ?_)
  · unfold v2
    refine rf_step (State.setPower_rf _ _) rfl rfl ?_
    exact rf_refl
  refine rf_ite (fun _h4 => ?_) (fun _h5 => ?_)
  · refine rf_next ?_
    refine rf_step (State.capsNow_rf _) rfl rfl ?_
    refine rf_step (State.raise_rf _ _ _ _ _) rfl rfl ?_
    refine rf_step (State.bump_rf _ _ _) rfl rfl ?_
    exact h3
  · refine rf_next ?_
    exact rf_refl

theorem execRailOutOfRegulation_rf (x0 x1 s) :
    RF vOut [.freeCtr, .octets, .pot, .power, .alarms] [0xB20006, 0xB20007, 0xB2000F] s (execRailOutOfRegulation x0 x1 s) := by
  unfold execRailOutOfRegulation
  extract_lets v0 v1 v2 v3 v4
  refine rf_cut (W := vS) v1 ?_ (fun h5 => ?_)
  · unfold v1
    refine rf_step (State.setPower_rf _ _) rfl rfl ?_
    exact rf_refl
  refine rf_cut (W := vS) v4 ?_ (fun h6 => ?_)
  · unfold v4
    refine rf_step (State.setPower_rf _ _) rfl rfl ?_
    exact h5
  refine rf_ite (fun _h7 => ?_) (fun _h8 => ?_)
  · refine rf_next ?_
    refine rf_step (State.condition_rf _ _ _ _) rfl rfl ?_
    exact h6
  · refine rf_next ?_
    exact rf_refl

theorem execDomainSleep_rf (x0 s) :
    RF vOut [.edge, .fab] [] s (execDomainSleep x0 s) := by
  unfold execDomainSleep
  extract_lets v0 v1 v2
  refine rf_cut (W := vS) v1 ?_ (fun h3 => ?_)
  · unfold v1
    refine rf_step (State.setDomain_rf _ _ _) rfl rfl ?_
    exact rf_refl
  refine rf_ite (fun _h4 => ?_) (fun _h5 => ?_)
  · refine rf_ite (fun _h6 => ?_) (fun _h7 => ?_)
    · refine rf_next ?_
      clear_value v1
      refine rf_upd (b := v1) ?_ ⟨fun f hf hv => by cases f <;> first | exact absurd (by decide) hf | exact absurd rfl hv | rfl | exact ⟨rfl, rfl⟩ | exact ⟨rfl, rfl, rfl, rfl, rfl⟩, Or.inr fun _ _ => rfl⟩ (Keeps.of rfl (Nat.le_refl _) rfl)
      exact h3
    · refine rf_next ?_
      exact h3
  · refine rf_next ?_
    exact rf_refl

theorem State.stretchEval_rf (s) :
    RF vS [.freeCtr, .octets, .pot, .power, .alarms] [0xB20006, 0xB20007, 0xB2000F] s (State.stretchEval s) := by
  unfold State.stretchEval
  extract_lets v0 v1 v2 v3
  refine rf_cut (W := vS) v3 ?_ (fun h4 => ?_)
  · unfold v3
    refine rf_step (State.setPower_rf _ _) rfl rfl ?_
    exact rf_refl
  refine rf_ite (fun _h5 => ?_) (fun _h6 => ?_)
  · exact rf_refl
  · refine rf_step (State.condition_rf _ _ _ _) rfl rfl ?_
    exact h4

theorem execDroopStretch_rf (x0 s) :
    RF vOut [.freeCtr, .octets, .pot, .power, .alarms] [0x210017, 0xB20006, 0xB20007, 0xB2000F] s (execDroopStretch x0 s) := by
  unfold execDroopStretch
  extract_lets v0 v1
  refine rf_cut (W := vS) v1 ?_ (fun h2 => ?_)
  · unfold v1
    refine rf_step (State.setPower_rf _ _) rfl rfl ?_
    exact rf_refl
  refine rf_ite (fun _h3 => ?_) (fun _h4 => ?_)
  · refine rf_next ?_
    refine rf_step (State.stretchEval_rf _) rfl rfl ?_
    refine rf_step (State.bump_rf _ _ _) rfl rfl ?_
    exact h2
  · refine rf_next ?_
    exact rf_refl

theorem execDroopRelease_rf (x0 s) :
    RF vOut [.freeCtr, .octets, .pot, .power, .alarms] [0xB20006, 0xB20007, 0xB2000F] s (execDroopRelease x0 s) := by
  unfold execDroopRelease
  extract_lets v0 v1 v2
  refine rf_cut (W := vS) v2 ?_ (fun h3 => ?_)
  · unfold v2
    refine rf_step (State.setPower_rf _ _) rfl rfl ?_
    exact rf_refl
  refine rf_ite (fun _h4 => ?_) (fun _h5 => ?_)
  · refine rf_next ?_
    refine rf_step (State.stretchEval_rf _) rfl rfl ?_
    exact h3
  · refine rf_next ?_
    exact rf_refl

theorem execThermalSensorScan_rf (x0 s) :
    RF vOut [.freeCtr, .octets, .pot, .power, .alarms] [0x21000C, 0x21000E, 0xB20006, 0xB20007, 0xB2000F] s (execThermalSensorScan x0 s) := by
  unfold execThermalSensorScan
  extract_lets v0 v1 v2 v3 v4 v5 v6 v7 v8 v9
  refine rf_cut (W := vS) v3 ?_ (fun h10 => ?_)
  · unfold v3
    refine rf_foldl ?_ (fun t11 x12 h13 => ?_)
    · exact rf_refl
    · refine rf_step (State.raise_rf _ _ _ _ _) rfl rfl ?_
      exact h13
  refine rf_cut (W := vS) v7 ?_ (fun h14 => ?_)
  · unfold v7
    refine rf_step (State.setPower_rf _ _) rfl rfl ?_
    exact h10
  refine rf_cut (W := vS) v8 ?_ (fun h15 => ?_)
  · unfold v8
    refine rf_step (State.setNum_rf _ _ _ _) rfl rfl ?_
    exact h14
  refine rf_cut (W := vS) v9 ?_ (fun h16 => ?_)
  · unfold v9
    refine rf_foldl ?_ (fun t17 x18 h19 => ?_)
    · exact h15
    · refine rf_step (State.setNum_rf _ _ _ _) rfl rfl ?_
      exact h19
  refine rf_ite (fun _h20 => ?_) (fun _h21 => ?_)
  · refine rf_next ?_
    exact rf_refl
  · refine rf_next ?_
    refine rf_step (State.condition_rf _ _ _ _) rfl rfl ?_
    exact h16

theorem execThermalCapStep_rf (s) :
    RF vOut [.freeCtr, .octets, .pot, .power, .alarms] [0x210004, 0x210007, 0xB20006, 0xB20007, 0xB2000F] s (execThermalCapStep s) := by
  unfold execThermalCapStep
  extract_lets v0 v1 v2 v3 v4 v5 v6 v7 v8
  refine rf_cut (W := vS) v8 ?_ (fun h9 => ?_)
  · unfold v8
    refine rf_step (State.setPower_rf _ _) rfl rfl ?_
    exact rf_refl
  refine rf_ite (fun _h10 => ?_) (fun _h11 => ?_)
  · refine rf_next ?_
    exact rf_refl
  · refine rf_next ?_
    refine rf_step (State.capsNow_rf _) rfl rfl ?_
    refine rf_ite (fun _h12 => ?_) (fun _h13 => ?_)
    · exact h9
    · refine rf_step (State.trace_rf _ _) rfl rfl ?_
      exact h9

end Sys2Proof.Machine
end

