-- ==== Sys2Proof/Laws/FramesSafeOps.lean ====
section
/-!
SUPPORT. What each operation of Machine/SafeOps.lean may change, one lemma each.
-/

namespace Sys2Proof.Machine

set_option Elab.async false

open Sys2Proof

theorem State.holdOutputs_rf (s) :
    RF vS [.pins] [] s (State.holdOutputs s) := by
  unfold State.holdOutputs
  extract_lets v0
  refine rf_upd (b := s) ?_ ⟨fun f hf hv => by cases f <;> first | exact absurd (by decide) hf | exact absurd rfl hv | rfl | exact ⟨rfl, rfl⟩ | exact ⟨rfl, rfl, rfl, rfl, rfl⟩, Or.inr fun _ _ => rfl⟩ (Keeps.of rfl (Nat.le_refl _) rfl)
  exact rf_refl

theorem State.stopPath_rf (s) :
    RF vS [.edge, .pins] [] s (State.stopPath s) := by
  unfold State.stopPath
  extract_lets v0 v1
  refine rf_upd (b := s) ?_ ⟨fun f hf hv => by cases f <;> first | exact absurd (by decide) hf | exact absurd rfl hv | rfl | exact ⟨rfl, rfl⟩ | exact ⟨rfl, rfl, rfl, rfl, rfl⟩, Or.inr fun _ _ => rfl⟩ (Keeps.of rfl (Nat.le_refl _) rfl)
  exact rf_refl

theorem State.pinsLow_rf (s) :
    RF vS [.time, .pins] [] s (State.pinsLow s) := by
  unfold State.pinsLow
  extract_lets v0 v1
  refine rf_upd (b := s) ?_ ⟨fun f hf hv => by cases f <;> first | exact absurd (by decide) hf | exact absurd rfl hv | rfl | exact ⟨rfl, rfl⟩ | exact ⟨rfl, rfl, rfl, rfl, rfl⟩, Or.inr fun _ _ => rfl⟩ (Keeps.of rfl (Nat.le_refl _) rfl)
  exact rf_refl

theorem State.enterSafe_rf (s x1 x2) :
    RF vS [.freeCtr, .mode, .octets, .time, .galley, .edge, .front, .fab, .pot, .pins, .alarms] [0x200004, 0x200005, 0x200006, 0x200008, 0x600008, 0x600009, 0x60000A, 0x60000B, 0x620007, 0x620009, 0xB20006, 0xB20007, 0xB2000F] s (State.enterSafe s x1 x2) := by
  unfold State.enterSafe
  extract_lets v0 v1 v2
  refine rf_cut (W := vS) v1 ?_ (fun h3 => ?_)
  · unfold v1
    refine rf_ite (fun _h4 => ?_) (fun _h5 => ?_)
    · refine rf_upd (b := s) ?_ ⟨fun f hf hv => by cases f <;> first | exact absurd (by decide) hf | exact absurd rfl hv | rfl | exact ⟨rfl, rfl⟩ | exact ⟨rfl, rfl, rfl, rfl, rfl⟩, Or.inr fun _ _ => rfl⟩ (Keeps.of rfl (Nat.le_refl _) rfl)
      exact rf_refl
    · exact rf_refl
  refine rf_cut (W := vS) v2 ?_ (fun h6 => ?_)
  · unfold v2
    refine rf_step (State.pinsLow_rf _) rfl rfl ?_
    refine rf_step (State.holdOutputs_rf _) rfl rfl ?_
    refine rf_step (State.stopPath_rf _) rfl rfl ?_
    refine rf_step (State.abortAll_rf _) rfl rfl ?_
    exact h3
  refine rf_ite (fun _h7 => ?_) (fun _h8 => ?_)
  · exact h3
  · refine rf_step (State.enterMode_rf _ _ _) rfl rfl ?_
    refine rf_step (State.setNum_rf _ _ _ _) rfl rfl ?_
    exact h6

theorem State.clearSafe_rf (s x1) :
    RF vS [.mode] [] s (State.clearSafe s x1) := by
  unfold State.clearSafe
  extract_lets v0
  refine rf_upd (b := s) ?_ ⟨fun f hf hv => by cases f <;> first | exact absurd (by decide) hf | exact absurd rfl hv | rfl | exact ⟨rfl, rfl⟩ | exact ⟨rfl, rfl, rfl, rfl, rfl⟩, Or.inr fun _ _ => rfl⟩ (Keeps.of rfl (Nat.le_refl _) rfl)
  exact rf_refl

theorem State.bootFail_rf (s x1) :
    RF vS [.freeCtr, .mode, .octets, .time, .galley, .edge, .front, .fab, .pot, .pins, .alarms] [0x200004, 0x200005, 0x200006, 0x200008, 0x20000A, 0x600008, 0x600009, 0x60000A, 0x60000B, 0x620007, 0x620009, 0xB20006, 0xB20007, 0xB2000F] s (State.bootFail s x1) := by
  unfold State.bootFail
  refine rf_step (State.enterSafe_rf _ _ _) rfl rfl ?_
  refine rf_step (State.raise_rf _ _ _ _ _) rfl rfl ?_
  refine rf_step (State.setNum_rf _ _ _ _) rfl rfl ?_
  exact rf_refl

end Sys2Proof.Machine
end

