-- ==== Sys2Proof/Laws/FramesTimebase.lean ====
section
/-!
SUPPORT. What each operation of Machine/Timebase.lean may change, one lemma each.
-/

namespace Sys2Proof.Machine

set_option Elab.async false

open Sys2Proof

theorem timebaseCycle_rf (s) :
    RF vS [.freeCtr, .mode, .octets, .time, .mem, .fab, .pot, .sec, .power, .res, .alarms] [0x200004, 0x200005, 0x200006, 0xB10004, 0xB20006, 0xB20007, 0xB2000D, 0xB2000F] s (timebaseCycle s) := by
  unfold timebaseCycle
  extract_lets v0 v1 v2 v3 v4 v5 v6 v7 v8
  refine rf_cut (W := vS) v1 ?_ (fun h9 => ?_)
  · unfold v1
    refine rf_ite (fun _h10 => ?_) (fun _h11 => ?_)
    · exact rf_refl
    · refine rf_step (State.setTime_rf _ _) rfl rfl ?_
      exact rf_refl
  refine rf_cut (W := vS) v5 ?_ (fun h12 => ?_)
  · unfold v5
    refine rf_step (State.setTime_rf _ _) rfl rfl ?_
    exact h9
  refine rf_cut (W := vS) v7 ?_ (fun h13 => ?_)
  · unfold v7
    refine rf_step (State.setTime_rf _ _) rfl rfl ?_
    exact h12
  refine rf_ite (fun _h14 => ?_) (fun _h15 => ?_)
  · exact h9
  · refine rf_step (State.traceDrain_rf _) rfl rfl ?_
    refine rf_step (State.stretchEval_rf _) rfl rfl ?_
    refine rf_step (State.setTime_rf _ _) rfl rfl ?_
    exact h13

theorem execOscInLoss_rf (s) :
    RF vOut [.freeCtr, .mode, .octets, .time, .galley, .edge, .front, .fab, .pot, .pins, .alarms] [0x200004, 0x200005, 0x200006, 0x200008, 0x20000A, 0x300005, 0x300013, 0x30001A, 0x600008, 0x600009, 0x60000A, 0x60000B, 0x620007, 0x620009, 0xB20006, 0xB20007, 0xB2000F] s (execOscInLoss s) := by
  unfold execOscInLoss
  extract_lets v0 v1
  refine rf_cut (W := vS) v1 ?_ (fun h2 => ?_)
  · unfold v1
    refine rf_step (State.raise_rf _ _ _ _ _) rfl rfl ?_
    refine rf_step (State.setTime_rf _ _) rfl rfl ?_
    exact rf_refl
  refine rf_ite (fun _h3 => ?_) (fun _h4 => ?_)
  · refine rf_next ?_
    exact rf_refl
  · refine rf_ite (fun _h5 => ?_) (fun _h6 => ?_)
    · refine rf_next ?_
      refine rf_step (State.setTime_rf _ _) rfl rfl ?_
      exact rf_refl
    · refine rf_ite (fun _h7 => ?_) (fun _h8 => ?_)
      · refine rf_next ?_
        refine rf_step (State.freeRate_rf _) rfl rfl ?_
        refine rf_step (State.setServo_rf _ _) rfl rfl ?_
        refine rf_step (State.setTime_rf _ _) rfl rfl ?_
        exact rf_refl
      · refine rf_ite (fun _h9 => ?_) (fun _h10 => ?_)
        · refine rf_next ?_
          refine rf_step (State.enterSafe_rf _ _ _) rfl rfl ?_
          exact h2
        · refine rf_ite (fun _h11 => ?_) (fun _h12 => ?_)
          · refine rf_next ?_
            refine rf_step (State.bootFail_rf _ _) rfl rfl ?_
            exact h2
          · refine rf_next ?_
            exact h2

theorem execOscInReturn_rf (s) :
    RF vOut [.freeCtr, .mode, .octets, .time, .pot, .alarms] [0x300013, 0x30001A, 0xB20006, 0xB20007, 0xB2000F] s (execOscInReturn s) := by
  unfold execOscInReturn
  extract_lets v0 v1 v2
  refine rf_cut (W := vS) v2 ?_ (fun h3 => ?_)
  · unfold v2
    refine rf_step (State.clearSafe_rf _ _) rfl rfl ?_
    refine rf_step (State.clear_rf _ _ _ _) rfl rfl ?_
    refine rf_step (State.setTime_rf _ _) rfl rfl ?_
    exact rf_refl
  refine rf_ite (fun _h4 => ?_) (fun _h5 => ?_)
  · refine rf_next ?_
    refine rf_ite (fun _h6 => ?_) (fun _h7 => ?_)
    · refine rf_step (State.setServo_rf _ _) rfl rfl ?_
      exact h3
    · exact h3
  · refine rf_next ?_
    exact rf_refl

theorem execServoMeasurement_rf (x0 x1 x2 s) :
    RF vOut [.freeCtr, .mode, .octets, .time, .galley, .edge, .front, .fab, .pot, .sec, .res, .pins, .alarms] [0x200004, 0x200005, 0x200006, 0x300004, 0x300005, 0x300013, 0x30001A, 0x30001C, 0x600006, 0x600008, 0x600009, 0x60000A, 0x60000B, 0x60000F, 0x600013, 0x60001D, 0x620007, 0x620009, 0xB10004, 0xB20006, 0xB20007, 0xB2000F] s (execServoMeasurement x0 x1 x2 s) := by
  unfold execServoMeasurement
  split
  · rename_i w0 w1 w2
    refine rf_next ?_
    refine rf_step (State.servoMeasure_rf _ _ _ _) rfl rfl ?_
    refine rf_step (State.noteErr_rf _ _ _) rfl rfl ?_
    exact rf_refl
  · rename_i w3 w4
    refine rf_next ?_
    refine rf_step (State.noteFreq_rf _ _) rfl rfl ?_
    exact rf_refl

theorem execServoLock_rf (s) :
    RF vOut [.freeCtr, .octets, .time, .pot, .alarms] [0x300013, 0x30001A, 0x30001B, 0xB20006, 0xB20007, 0xB2000F] s (execServoLock s) := by
  unfold execServoLock
  refine rf_ite (fun _h0 => ?_) (fun _h1 => ?_)
  · split
    rename_i w2 w3 w4 w5
    refine rf_pair_snd w5 ?_ (fun h6 => ?_)
    · refine rf_step (State.histMean_rf _ _ _) rfl rfl ?_
      exact rf_refl
    refine rf_next ?_
    refine rf_step (State.setNum_rf _ _ _ _) rfl rfl ?_
    refine rf_step (State.setServo_rf _ _) rfl rfl ?_
    exact h6
  · refine rf_next ?_
    exact rf_refl

theorem execTimebaseStep_rf (s) :
    RF vOut [.freeCtr, .mode, .octets, .time, .galley, .edge, .front, .fab, .pot, .sec, .res, .pins, .alarms] [0x200004, 0x200005, 0x200006, 0x300013, 0x30001C, 0x600006, 0x600008, 0x600009, 0x60000A, 0x60000B, 0x60000F, 0x600013, 0x60001D, 0x620007, 0x620009, 0xB10004, 0xB20006, 0xB20007, 0xB2000F] s (execTimebaseStep s) := by
  unfold execTimebaseStep
  extract_lets v0 v1 v2
  refine rf_cut (W := vS) v2 ?_ (fun h3 => ?_)
  · unfold v2
    refine rf_step (State.setTime_rf _ _) rfl rfl ?_
    exact rf_refl
  refine rf_ite (fun _h4 => ?_) (fun _h5 => ?_)
  · refine rf_next ?_
    exact rf_refl
  · refine rf_ite (fun _h6 => ?_) (fun _h7 => ?_)
    · refine rf_next ?_
      refine rf_step (State.returnToken_rf _ _ _) rfl rfl ?_
      exact rf_refl
    · refine rf_ite (fun _h8 => ?_) (fun _h9 => ?_)
      · refine rf_next ?_
        refine rf_step (State.returnToken_rf _ _ _) rfl rfl ?_
        exact h3
      · refine rf_next ?_
        refine rf_step (State.stepTime_rf _ _) rfl rfl ?_
        exact h3

theorem writeTimeSet_rf (x0 s) :
    RF vOk [.freeCtr, .mode, .octets, .time, .galley, .edge, .front, .fab, .pot, .sec, .res, .pins, .alarms] [0x200004, 0x200005, 0x200006, 0x300013, 0x30001C, 0x600006, 0x600008, 0x600009, 0x60000A, 0x60000B, 0x60000F, 0x600013, 0x60001D, 0x620007, 0x620009, 0xB10004, 0xB20006, 0xB20007, 0xB2000F] s (writeTimeSet x0 s) := by
  unfold writeTimeSet
  extract_lets v0 v1 v2 v3
  refine rf_cut (W := vS) v1 ?_ (fun h4 => ?_)
  · unfold v1
    refine rf_step (State.askStep_rf _) rfl rfl ?_
    exact rf_refl
  refine rf_ite (fun _h5 => ?_) (fun _h6 => ?_)
  · exact rf_error _
  · refine rf_ite (fun _h7 => ?_) (fun _h8 => ?_)
    · refine rf_ite (fun _h9 => ?_) (fun _h10 => ?_)
      · refine rf_ok ?_
        refine rf_step (State.setTime_rf _ _) rfl rfl ?_
        exact h4
      · exact rf_error _
    · refine rf_ok ?_
      refine rf_step (State.stepTime_rf _ _) rfl rfl ?_
      refine rf_step (State.setTime_rf _ _) rfl rfl ?_
      exact rf_refl

theorem execTimeSet_rf (x0 x1 s) :
    RF vOut [.reply, .freeCtr, .mode, .octets, .time, .galley, .edge, .front, .fab, .pot, .sec, .res, .pins, .alarms] [0x200004, 0x200005, 0x200006, 0x300013, 0x30001C, 0x600006, 0x600008, 0x600009, 0x60000A, 0x60000B, 0x60000F, 0x600013, 0x60001D, 0x620007, 0x620009, 0xB10004, 0xB20006, 0xB20007, 0xB2000F] s (execTimeSet x0 x1 s) := by
  unfold execTimeSet
  refine rf_next ?_
  refine State.actOn_rf rfl ?_ (fun u0 => ?_)
  · exact rf_refl
  · refine rf_step (writeTimeSet_rf _ _) rfl rfl ?_
    exact rf_refl

theorem execReferenceQualify_rf (x0 s) :
    RF vOut [.freeCtr, .octets, .time, .pot, .alarms] [0x300005, 0x300013, 0x300014, 0x300018, 0x30001A, 0xB20006, 0xB20007, 0xB2000F] s (execReferenceQualify x0 s) := by
  unfold execReferenceQualify
  extract_lets v0 v1 v2 v3
  refine rf_ite (fun _h4 => ?_) (fun _h5 => ?_)
  · refine rf_next ?_
    refine rf_step (State.qualify_rf _ _) rfl rfl ?_
    exact rf_refl
  · refine rf_next ?_
    exact rf_refl

theorem execReferenceDisqualify_rf (x0 s) :
    RF vOut [.freeCtr, .octets, .time, .pot, .alarms] [0x300005, 0x300013, 0x300014, 0x300018, 0x30001A, 0xB20006, 0xB20007, 0xB2000F] s (execReferenceDisqualify x0 s) := by
  unfold execReferenceDisqualify
  refine rf_next ?_
  refine rf_step (State.disqualify_rf _ _) rfl rfl ?_
  exact rf_refl

theorem execAnnounceTimeout_rf (x0 x1 s) :
    RF vOut [.freeCtr, .octets, .time, .pot, .alarms] [0x300005, 0x300013, 0x300014, 0x300018, 0x30001A, 0xB20006, 0xB20007, 0xB2000F] s (execAnnounceTimeout x0 x1 s) := by
  unfold execAnnounceTimeout
  refine rf_ite (fun _h0 => ?_) (fun _h1 => ?_)
  · refine rf_next ?_
    refine rf_step (State.placePort_rf _ _ _) rfl rfl ?_
    refine rf_step (State.disqualifyInst_rf _ _ _) rfl rfl ?_
    exact rf_refl
  · refine rf_next ?_
    exact rf_refl

theorem execPpsLossTimeout_rf (x0 s) :
    RF vOut [.freeCtr, .octets, .time, .pot, .alarms] [0x300005, 0x300013, 0x300014, 0x300018, 0x30001A, 0xB20006, 0xB20007, 0xB2000F] s (execPpsLossTimeout x0 s) := by
  unfold execPpsLossTimeout
  refine rf_ite (fun _h0 => ?_) (fun _h1 => ?_)
  · refine rf_next ?_
    refine rf_step (State.disqualifyInst_rf _ _ _) rfl rfl ?_
    exact rf_refl
  · refine rf_next ?_
    exact rf_refl

theorem execSynceLockLoss_rf (x0 s) :
    RF vOut [.freeCtr, .octets, .time, .pot, .alarms] [0x300005, 0x300013, 0x300014, 0x300018, 0x30001A, 0xB20006, 0xB20007, 0xB2000F] s (execSynceLockLoss x0 s) := by
  unfold execSynceLockLoss
  refine rf_next ?_
  refine rf_step (State.disqualifyInst_rf _ _ _) rfl rfl ?_
  exact rf_refl

theorem execWaitToRestoreExpiry_rf (x0 s) :
    RF vOut [.freeCtr, .octets, .time, .pot, .alarms] [0x300005, 0x300013, 0x300014, 0x300018, 0x30001A, 0xB20006, 0xB20007, 0xB2000F] s (execWaitToRestoreExpiry x0 s) := by
  unfold execWaitToRestoreExpiry
  extract_lets v0
  split
  · rename_i w1 w2 w3
    refine rf_ite (fun _h4 => ?_) (fun _h5 => ?_)
    · refine rf_next ?_
      exact rf_refl
    · refine rf_ite (fun _h6 => ?_) (fun _h7 => ?_)
      · refine rf_next ?_
        refine rf_ite (fun _h8 => ?_) (fun _h9 => ?_)
        · refine rf_step (State.setFreq_rf _ _) rfl rfl ?_
          exact rf_refl
        · refine rf_step (State.selectPhase_rf _ _) rfl rfl ?_
          exact rf_refl
      · refine rf_next ?_
        refine rf_step (State.setTime_rf _ _) rfl rfl ?_
        exact rf_refl
  · rename_i w10 w11
    refine rf_next ?_
    exact rf_refl

theorem execHoldoverLimit_rf (s) :
    RF vOut [.freeCtr, .octets, .pot, .alarms] [0x300013, 0xB20006, 0xB20007, 0xB2000F] s (execHoldoverLimit s) := by
  unfold execHoldoverLimit
  refine rf_ite (fun _h0 => ?_) (fun _h1 => ?_)
  · refine rf_next ?_
    refine rf_step (State.raise_rf _ _ _ _ _) rfl rfl ?_
    refine rf_step (State.setBits_rf _ _ _ _) rfl rfl ?_
    exact rf_refl
  · refine rf_next ?_
    exact rf_refl

theorem State.police_rf (s x1) :
    RF vSnd [.freeCtr, .octets, .time, .pot, .alarms] [0x31100F, 0xB20006, 0xB20007, 0xB2000F] s (State.police s x1) := by
  unfold State.police
  extract_lets v0 v1
  refine rf_ite (fun _h2 => ?_) (fun _h3 => ?_)
  · refine rf_snd ?_
    refine rf_step (State.raiseAtMost_rf _ _ _ _ _) rfl rfl ?_
    refine rf_step (State.bump_rf _ _ _) rfl rfl ?_
    exact rf_refl
  · refine rf_snd ?_
    refine rf_step (State.setPtp_rf _ _ _) rfl rfl ?_
    exact rf_refl

theorem State.syncOffset_rf (s x1 x2 x3 x4 x5 x6) :
    RF vS [.freeCtr, .mode, .octets, .time, .galley, .edge, .front, .fab, .pot, .sec, .res, .pins, .alarms] [0x200004, 0x200005, 0x200006, 0x300004, 0x300005, 0x300013, 0x30001A, 0x30001C, 0x311010, 0x311011, 0x600006, 0x600008, 0x600009, 0x60000A, 0x60000B, 0x60000F, 0x600013, 0x60001D, 0x620007, 0x620009, 0xB10004, 0xB20006, 0xB20007, 0xB2000F] s (State.syncOffset s x1 x2 x3 x4 x5 x6) := by
  unfold State.syncOffset
  extract_lets v0
  split
  · rename_i w1 w2
    exact rf_refl
  · rename_i w3 w4 w5
    split
    rename_i w6 w7 w8 w9
    refine rf_pair_snd w9 ?_ (fun h10 => ?_)
    · refine rf_step (State.divOpen_rf _ _ _) rfl rfl ?_
      exact rf_refl
    extract_lets v11 v12
    refine rf_cut (W := vS) v11 ?_ (fun h13 => ?_)
    · unfold v11
      refine rf_step (State.setNum_rf _ _ _ _) rfl rfl ?_
      refine rf_step (State.setNum_rf _ _ _ _) rfl rfl ?_
      exact h10
    refine rf_cut (W := vS) v12 ?_ (fun h14 => ?_)
    · unfold v12
      refine rf_foldl ?_ (fun t15 x16 h17 => ?_)
      · exact h13
      · refine rf_step (State.noteErr_rf _ _ _) rfl rfl ?_
        exact h17
    refine rf_ite (fun _h18 => ?_) (fun _h19 => ?_)
    · refine rf_step (State.servoMeasure_rf _ _ _ _) rfl rfl ?_
      exact h14
    · exact h14

theorem State.pairUp_rf (s x1 x2 x3) :
    RF vS [.freeCtr, .mode, .octets, .time, .galley, .edge, .front, .fab, .pot, .sec, .res, .pins, .alarms] [0x200004, 0x200005, 0x200006, 0x300004, 0x300005, 0x300013, 0x30001A, 0x30001C, 0x311010, 0x311011, 0x600006, 0x600008, 0x600009, 0x60000A, 0x60000B, 0x60000F, 0x600013, 0x60001D, 0x620007, 0x620009, 0xB10004, 0xB20006, 0xB20007, 0xB2000F] s (State.pairUp s x1 x2 x3) := by
  unfold State.pairUp
  extract_lets v0
  split
  · rename_i w1 w2 w3 w4 w5 w6 w7 w8 w9 w10
    refine rf_step (State.syncOffset_rf _ _ _ _ _ _ _) rfl rfl ?_
    exact rf_refl
  · rename_i w11 w12 w13 w14 w15 w16 w17 w18 w19 w20
    refine rf_step (State.syncOffset_rf _ _ _ _ _ _ _) rfl rfl ?_
    exact rf_refl
  · rename_i w21 w22 w23 w24 w25 w26 w27
    refine rf_step (State.setPtp_rf _ _ _) rfl rfl ?_
    exact rf_refl
  · rename_i w28 w29 w30 w31 w32 w33 w34
    refine rf_step (State.setPtp_rf _ _ _) rfl rfl ?_
    exact rf_refl
  · rename_i w35 w36 w37 w38 w39 w40
    exact rf_refl

theorem State.pairMsg_rf (s x1 x2) :
    RF vS [.freeCtr, .mode, .octets, .time, .galley, .edge, .front, .fab, .pot, .sec, .res, .pins, .alarms] [0x200004, 0x200005, 0x200006, 0x300004, 0x300005, 0x300013, 0x30001A, 0x30001C, 0x311010, 0x311011, 0x600006, 0x600008, 0x600009, 0x60000A, 0x60000B, 0x60000F, 0x600013, 0x60001D, 0x620007, 0x620009, 0xB10004, 0xB20006, 0xB20007, 0xB2000F] s (State.pairMsg s x1 x2) := by
  unfold State.pairMsg
  extract_lets v0
  split
  · rename_i w1 w2 w3
    refine rf_step (State.pairUp_rf _ _ _ _) rfl rfl ?_
    refine rf_step (State.setPtp_rf _ _ _) rfl rfl ?_
    exact rf_refl
  · rename_i w4 w5
    refine rf_step (State.setPtp_rf _ _ _) rfl rfl ?_
    exact rf_refl

theorem State.offsetEngine_rf (s x1 x2) :
    RF vS [.freeCtr, .mode, .octets, .time, .galley, .edge, .front, .fab, .pot, .sec, .res, .pins, .alarms] [0x200004, 0x200005, 0x200006, 0x300004, 0x300005, 0x300013, 0x30001A, 0x30001C, 0x311010, 0x311011, 0x600006, 0x600008, 0x600009, 0x60000A, 0x60000B, 0x60000F, 0x600013, 0x60001D, 0x620007, 0x620009, 0xB10004, 0xB20006, 0xB20007, 0xB2000F] s (State.offsetEngine s x1 x2) := by
  unfold State.offsetEngine
  split
  · rename_i w0 w1 w2 w3 w4 w5 w6 w7
    refine rf_ite (fun _h8 => ?_) (fun _h9 => ?_)
    · refine rf_step (State.pairMsg_rf _ _ _) rfl rfl ?_
      exact rf_refl
    · refine rf_step (State.syncOffset_rf _ _ _ _ _ _ _) rfl rfl ?_
      exact rf_refl
  · rename_i w10 w11 w12 w13
    refine rf_step (State.pairMsg_rf _ _ _) rfl rfl ?_
    exact rf_refl
  · rename_i w14 w15 w16
    refine rf_step (State.pairMsg_rf _ _ _) rfl rfl ?_
    exact rf_refl
  · rename_i w17 w18 w19 w20
    refine rf_step (State.pairMsg_rf _ _ _) rfl rfl ?_
    exact rf_refl
  · rename_i w21 w22
    exact rf_refl
  · rename_i w23
    exact rf_refl

theorem State.ptpMessage_rf (s x1 x2) :
    RF vS [.freeCtr, .mode, .octets, .time, .galley, .edge, .front, .fab, .pot, .sec, .res, .pins, .alarms] [0x200004, 0x200005, 0x200006, 0x300004, 0x300005, 0x300013, 0x300014, 0x300018, 0x30001A, 0x30001C, 0x311010, 0x311011, 0x600006, 0x600008, 0x600009, 0x60000A, 0x60000B, 0x60000F, 0x600013, 0x60001D, 0x620007, 0x620009, 0xB10004, 0xB20006, 0xB20007, 0xB2000F] s (State.ptpMessage s x1 x2) := by
  unfold State.ptpMessage
  extract_lets v0
  split
  · rename_i w1 w2
    refine rf_step (State.placePort_rf _ _ _) rfl rfl ?_
    refine rf_step (State.setPtp_rf _ _ _) rfl rfl ?_
    exact rf_refl
  · rename_i w3 w4
    refine rf_ite (fun _h5 => ?_) (fun _h6 => ?_)
    · refine rf_step (State.offsetEngine_rf _ _ _) rfl rfl ?_
      exact rf_refl
    · exact rf_refl

theorem execPtpEventMessageRx_rf (x0 x1 x2 s) :
    RF vOut [.freeCtr, .mode, .octets, .time, .galley, .edge, .front, .fab, .pot, .sec, .res, .pins, .alarms] [0x200004, 0x200005, 0x200006, 0x300004, 0x300005, 0x300013, 0x300014, 0x300018, 0x30001A, 0x30001C, 0x31100F, 0x311010, 0x311011, 0x600006, 0x600008, 0x600009, 0x60000A, 0x60000B, 0x60000F, 0x600013, 0x60001D, 0x620007, 0x620009, 0xB10004, 0xB20006, 0xB20007, 0xB2000F] s (execPtpEventMessageRx x0 x1 x2 s) := by
  unfold execPtpEventMessageRx
  refine rf_ite (fun _h0 => ?_) (fun _h1 => ?_)
  · refine rf_next ?_
    exact rf_refl
  · split
    · rename_i w2 w3 w4
      refine rf_next ?_
      refine rf_step (State.ptpMessage_rf _ _ _) rfl rfl ?_
      exact rf_refl
    · rename_i w5 w6
      refine rf_ite (fun _h7 => ?_) (fun _h8 => ?_)
      · split
        · rename_i w9 w10 w11
          refine rf_pair_snd w11 ?_ (fun h12 => ?_)
          · refine rf_step (State.police_rf _ _) rfl rfl ?_
            exact rf_refl
          refine rf_next ?_
          exact h12
        · rename_i w13 w14 w15
          refine rf_pair_snd w15 ?_ (fun h16 => ?_)
          · refine rf_step (State.police_rf _ _) rfl rfl ?_
            exact rf_refl
          refine rf_next ?_
          refine rf_step (State.ptpMessage_rf _ _ _) rfl rfl ?_
          exact h16
      · refine rf_next ?_
        exact rf_refl

theorem execPtpUnpairedDiscard_rf (x0 x1 s) :
    RF vOut [.time] [] s (execPtpUnpairedDiscard x0 x1 s) := by
  unfold execPtpUnpairedDiscard
  extract_lets v0
  split
  · rename_i w1 w2 w3
    refine rf_next ?_
    refine rf_step (State.setPtp_rf _ _ _) rfl rfl ?_
    exact rf_refl
  · rename_i w4 w5
    refine rf_next ?_
    exact rf_refl

theorem State.stampTx_rf (s x1 x2 x3 x4) :
    RF vS [.freeCtr, .octets, .time, .pot, .alarms] [0x31100C, 0x31100D, 0xB20006, 0xB20007, 0xB2000F] s (State.stampTx s x1 x2 x3 x4) := by
  unfold State.stampTx
  extract_lets v0 v1 v2
  refine rf_ite (fun _h3 => ?_) (fun _h4 => ?_)
  · refine rf_step (State.setTime_rf _ _) rfl rfl ?_
    exact rf_refl
  · refine rf_step (State.raise_rf _ _ _ _ _) rfl rfl ?_
    refine rf_step (State.bump_rf _ _ _) rfl rfl ?_
    refine rf_step (State.setFlag_rf _ _ _ _) rfl rfl ?_
    exact rf_refl

theorem State.syncSent_rf (s x1 x2) :
    RF vS [.time] [] s (State.syncSent s x1 x2) := by
  unfold State.syncSent
  extract_lets v0
  split
  · rename_i w1 w2
    refine rf_ite (fun _h3 => ?_) (fun _h4 => ?_)
    · refine rf_step (State.setTime_rf _ _) rfl rfl ?_
      exact rf_refl
    · exact rf_refl
  · rename_i w5
    exact rf_refl

theorem execStampedFrameTx_rf (x0 x1 x2 x3 s) :
    RF vOut [.freeCtr, .octets, .time, .pot, .alarms] [0x31100C, 0x31100D, 0xB20006, 0xB20007, 0xB2000F] s (execStampedFrameTx x0 x1 x2 x3 s) := by
  unfold execStampedFrameTx
  refine rf_ite (fun _h0 => ?_) (fun _h1 => ?_)
  · refine rf_next ?_
    refine rf_ite (fun _h2 => ?_) (fun _h3 => ?_)
    · refine rf_step (State.stampTx_rf _ _ _ _ _) rfl rfl ?_
      exact rf_refl
    · refine rf_step (State.syncSent_rf _ _ _) rfl rfl ?_
      refine rf_step (State.stampTx_rf _ _ _ _ _) rfl rfl ?_
      exact rf_refl
  · refine rf_next ?_
    exact rf_refl

theorem execTxStampQueuePop_rf (x0 s) :
    RF vOut [.reply, .time] [] s (execTxStampQueuePop x0 s) := by
  unfold execTxStampQueuePop
  split
  rename_i w0 w1 w2 w3
  refine rf_pair_snd w3 ?_ (fun h4 => ?_)
  · refine rf_step (State.popStamp_rf _ _) rfl rfl ?_
    exact rf_refl
  refine rf_next ?_
  refine rf_step (State.answerFab_rf _ _ _ _) rfl rfl ?_
  exact h4

theorem execPpsInEdge_rf (x0 x1 x2 x3 s) :
    RF vOut [.freeCtr, .mode, .octets, .time, .galley, .edge, .front, .fab, .pot, .sec, .res, .pins, .alarms] [0x200004, 0x200005, 0x200006, 0x300004, 0x300005, 0x300013, 0x300014, 0x300018, 0x30001A, 0x30001C, 0x30200B, 0x600006, 0x600008, 0x600009, 0x60000A, 0x60000B, 0x60000F, 0x600013, 0x60001D, 0x620007, 0x620009, 0xB10004, 0xB20006, 0xB20007, 0xB2000F] s (execPpsInEdge x0 x1 x2 x3 s) := by
  unfold execPpsInEdge
  extract_lets v0 v1 v2 v3 v4 v5 v6 v7 v8
  refine rf_cut (W := vS) v5 ?_ (fun h9 => ?_)
  · unfold v5
    refine rf_step (State.setTime_rf _ _) rfl rfl ?_
    exact rf_refl
  refine rf_cut (W := vS) v6 ?_ (fun h10 => ?_)
  · unfold v6
    refine rf_step (State.raise_rf _ _ _ _ _) rfl rfl ?_
    refine rf_step (State.bump_rf _ _ _) rfl rfl ?_
    exact h9
  refine rf_cut (W := vS) v7 ?_ (fun h11 => ?_)
  · unfold v7
    refine rf_step (State.setTime_rf _ _) rfl rfl ?_
    exact rf_refl
  refine rf_cut (W := vS) v8 ?_ (fun h12 => ?_)
  · unfold v8
    refine rf_foldl ?_ (fun t13 x14 h15 => ?_)
    · exact h11
    · refine rf_step (State.noteErr_rf _ _ _) rfl rfl ?_
      exact h15
  refine rf_ite (fun _h16 => ?_) (fun _h17 => ?_)
  · refine rf_next ?_
    exact rf_refl
  · refine rf_ite (fun _h18 => ?_) (fun _h19 => ?_)
    · refine rf_next ?_
      refine rf_ite (fun _h20 => ?_) (fun _h21 => ?_)
      · refine rf_step (State.disqualifyInst_rf _ _ _) rfl rfl ?_
        exact h10
      · exact h10
    · refine rf_next ?_
      refine rf_ite (fun _h22 => ?_) (fun _h23 => ?_)
      · refine rf_step (State.servoMeasure_rf _ _ _ _) rfl rfl ?_
        exact h12
      · exact h12

theorem execTodInMessage_rf (x0 x1 x2 x3 x4 x5 s) :
    RF vOut [.freeCtr, .mode, .octets, .time, .galley, .edge, .front, .fab, .pot, .sec, .res, .pins, .alarms] [0x200004, 0x200005, 0x200006, 0x300013, 0x30001C, 0x600006, 0x600008, 0x600009, 0x60000A, 0x60000B, 0x60000F, 0x600013, 0x60001D, 0x620007, 0x620009, 0xB10004, 0xB20006, 0xB20007, 0xB2000F] s (execTodInMessage x0 x1 x2 x3 x4 x5 s) := by
  unfold execTodInMessage
  extract_lets v0 v1
  split
  · rename_i w2 w3
    refine rf_next ?_
    exact rf_refl
  · rename_i w4 w5 w6
    extract_lets v7 v8 v9 v10 v11
    refine rf_cut (W := vS) v10 ?_ (fun h12 => ?_)
    · unfold v10
      refine rf_step (State.setTime_rf _ _) rfl rfl ?_
      exact rf_refl
    refine rf_ite (fun _h13 => ?_) (fun _h14 => ?_)
    · refine rf_next ?_
      exact rf_refl
    · refine rf_ite (fun _h15 => ?_) (fun _h16 => ?_)
      · refine rf_next ?_
        refine rf_step (State.setTime_rf _ _) rfl rfl ?_
        exact rf_refl
      · refine rf_ite (fun _h17 => ?_) (fun _h18 => ?_)
        · refine rf_next ?_
          refine rf_step (State.bigError_rf _ _) rfl rfl ?_
          refine rf_step (State.setTime_rf _ _) rfl rfl ?_
          exact h12
        · refine rf_next ?_
          exact h12

theorem execPpsOutEdge_rf (x0 s) :
    RF vOut [.time] [] s (execPpsOutEdge x0 s) := by
  unfold execPpsOutEdge
  extract_lets v0
  refine rf_ite (fun _h1 => ?_) (fun _h2 => ?_)
  · refine rf_next ?_
    refine rf_step (State.setTime_rf _ _) rfl rfl ?_
    exact rf_refl
  · refine rf_next ?_
    exact rf_refl

theorem execPpsOutPulseEnd_rf (x0 s) :
    RF vOut [.time] [] s (execPpsOutPulseEnd x0 s) := by
  unfold execPpsOutPulseEnd
  extract_lets v0
  refine rf_ite (fun _h1 => ?_) (fun _h2 => ?_)
  · refine rf_next ?_
    refine rf_step (State.setTime_rf _ _) rfl rfl ?_
    exact rf_refl
  · refine rf_next ?_
    exact rf_refl

theorem execTodOutSend_rf (s) :
    RF vOut [.time] [] s (execTodOutSend s) := by
  unfold execTodOutSend
  extract_lets v0 v1 v2
  refine rf_ite (fun _h3 => ?_) (fun _h4 => ?_)
  · refine rf_next ?_
    refine rf_step (State.setTime_rf _ _) rfl rfl ?_
    exact rf_refl
  · refine rf_next ?_
    exact rf_refl

theorem execSlotBoundary_rf (x0 s) :
    RF vOut [.force, .time, .parts] [] s (execSlotBoundary x0 s) := by
  unfold execSlotBoundary
  extract_lets v0 v1
  refine rf_cut (W := vS) v0 ?_ (fun h2 => ?_)
  · unfold v0
    refine rf_step (State.takeSlot_rf _ _) rfl rfl ?_
    exact rf_refl
  refine rf_next ?_
  refine rf_step (State.setTime_rf _ _) rfl rfl ?_
  exact h2

theorem execSubframeBoundary_rf (s) :
    RF vOut [.force, .time, .fab, .parts] [] s (execSubframeBoundary s) := by
  unfold execSubframeBoundary
  extract_lets v0 v1 v2
  refine rf_cut (W := vS) v0 ?_ (fun h3 => ?_)
  · unfold v0
    refine rf_step (State.takeSubframe_rf _) rfl rfl ?_
    exact rf_refl
  refine rf_next ?_
  refine rf_step (State.setTime_rf _ _) rfl rfl ?_
  clear_value v0
  refine rf_upd (b := v0) ?_ ⟨fun f hf hv => by cases f <;> first | exact absurd (by decide) hf | exact absurd rfl hv | rfl | exact ⟨rfl, rfl⟩ | exact ⟨rfl, rfl, rfl, rfl, rfl⟩, Or.inr fun _ _ => rfl⟩ (Keeps.of rfl (Nat.le_refl _) rfl)
  exact h3

theorem execFrameBoundary_rf (s) :
    RF vOut [.pins] [] s (execFrameBoundary s) := by
  unfold execFrameBoundary
  extract_lets v0
  refine rf_ite (fun _h1 => ?_) (fun _h2 => ?_)
  · refine rf_next ?_
    refine rf_upd (b := s) ?_ ⟨fun f hf hv => by cases f <;> first | exact absurd (by decide) hf | exact absurd rfl hv | rfl | exact ⟨rfl, rfl⟩ | exact ⟨rfl, rfl, rfl, rfl, rfl⟩, Or.inr fun _ _ => rfl⟩ (Keeps.of rfl (Nat.le_refl _) rfl)
    exact rf_refl
  · refine rf_next ?_
    exact rf_refl

theorem execSfnWrap_rf (s) :
    RF vOut [] [] s (execSfnWrap s) := by
  unfold execSfnWrap
  refine rf_next ?_
  exact rf_refl

theorem execHfnWrap_rf (s) :
    RF vOut [] [] s (execHfnWrap s) := by
  unfold execHfnWrap
  refine rf_next ?_
  exact rf_refl

theorem execAirTickWrap_rf (s) :
    RF vOut [] [] s (execAirTickWrap s) := by
  unfold execAirTickWrap
  refine rf_next ?_
  exact rf_refl

theorem State.hostTimeInvalid_rf (s) :
    RF vS [.freeCtr, .octets, .time, .pot, .alarms] [0x304002, 0xB20006, 0xB20007, 0xB2000F] s (State.hostTimeInvalid s) := by
  unfold State.hostTimeInvalid
  extract_lets v0
  refine rf_step (State.condition_rf _ _ _ _) rfl rfl ?_
  refine rf_step (State.setFlag_rf _ _ _ _) rfl rfl ?_
  refine rf_step (State.setTime_rf _ _) rfl rfl ?_
  exact rf_refl

theorem execPtmRequest_rf (s) :
    RF vOut [.time] [] s (execPtmRequest s) := by
  unfold execPtmRequest
  extract_lets v0 v1
  refine rf_ite (fun _h2 => ?_) (fun _h3 => ?_)
  · refine rf_next ?_
    refine rf_step (State.setTime_rf _ _) rfl rfl ?_
    exact rf_refl
  · refine rf_next ?_
    exact rf_refl

theorem State.median_rf (s x1) :
    RF vSnd [.freeCtr] [] s (State.median s x1) := by
  unfold State.median
  extract_lets v0 v1
  refine rf_ite (fun _h2 => ?_) (fun _h3 => ?_)
  · refine rf_snd ?_
    exact rf_refl
  · refine rf_step (State.divOpen_rf _ _ _) rfl rfl ?_
    exact rf_refl

theorem execPtmResponse_rf (x0 x1 x2 s) :
    RF vOut [.freeCtr, .octets, .time, .pot, .alarms] [0x304002, 0x304003, 0x304004, 0x304005, 0x304006, 0xB20006, 0xB20007, 0xB2000F] s (execPtmResponse x0 x1 x2 s) := by
  unfold execPtmResponse
  extract_lets v0
  split
  · rename_i w1 w2
    refine rf_next ?_
    exact rf_refl
  · rename_i w3 w4 w5
    split
    rename_i w6 w7 w8 w9
    refine rf_pair_snd w9 ?_ (fun h10 => ?_)
    · refine rf_step (State.divOpen_rf _ _ _) rfl rfl ?_
      exact rf_refl
    split
    rename_i w11 w12 w13 w14
    refine rf_pair_snd w14 ?_ (fun h15 => ?_)
    · refine rf_step (State.divOpen_rf _ _ _) rfl rfl ?_
      exact h10
    extract_lets v16 v17 v18 v19 v20
    refine rf_cut (W := vS) v16 ?_ (fun h21 => ?_)
    · unfold v16
      refine rf_step (State.setNum_rf _ _ _ _) rfl rfl ?_
      refine rf_step (State.setNum_rf _ _ _ _) rfl rfl ?_
      exact h15
    refine rf_cut (W := vS) v19 ?_ (fun h22 => ?_)
    · unfold v19
      refine rf_step (State.setTime_rf _ _) rfl rfl ?_
      exact h21
    refine rf_cut (W := vS) v20 ?_ (fun h23 => ?_)
    · unfold v20
      refine rf_ite (fun _h24 => ?_) (fun _h25 => ?_)
      · refine rf_step (State.clear_rf _ _ _ _) rfl rfl ?_
        refine rf_step (State.setFlag_rf _ _ _ _) rfl rfl ?_
        exact h22
      · exact h22
    refine rf_ite (fun _h26 => ?_) (fun _h27 => ?_)
    · refine rf_next ?_
      refine rf_step (State.hostTimeInvalid_rf _) rfl rfl ?_
      exact h21
    · refine rf_ite (fun _h28 => ?_) (fun _h29 => ?_)
      · split
        rename_i w30 w31 w32 w33
        refine rf_pair_snd w33 ?_ (fun h34 => ?_)
        · refine rf_step (State.median_rf _ _) rfl rfl ?_
          exact h23
        refine rf_next ?_
        refine rf_step (State.setNum_rf _ _ _ _) rfl rfl ?_
        refine rf_step (State.setNum_rf _ _ _ _) rfl rfl ?_
        exact h34
      · refine rf_next ?_
        exact h23

theorem execPtmResponseTimeout_rf (s) :
    RF vOut [.freeCtr, .octets, .time, .pot, .alarms] [0x304002, 0xB20006, 0xB20007, 0xB2000F] s (execPtmResponseTimeout s) := by
  unfold execPtmResponseTimeout
  extract_lets v0
  refine rf_ite (fun _h1 => ?_) (fun _h2 => ?_)
  · refine rf_next ?_
    refine rf_step (State.hostTimeInvalid_rf _) rfl rfl ?_
    exact rf_refl
  · refine rf_next ?_
    exact rf_refl

end Sys2Proof.Machine
end

