-- ==== Sys2Proof/Laws/FramesFronthaul.lean ====
section
/-!
SUPPORT. What each operation of Machine/Fronthaul.lean may change, one lemma each.
-/

namespace Sys2Proof.Machine

set_option Elab.async false

open Sys2Proof

theorem State.setFront_rf (s x1) :
    RF vS [.front] [] s (State.setFront s x1) := by
  unfold State.setFront
  refine rf_upd (b := s) ?_ ⟨fun f hf hv => by cases f <;> first | exact absurd (by decide) hf | exact absurd rfl hv | rfl | exact ⟨rfl, rfl⟩ | exact ⟨rfl, rfl, rfl, rfl, rfl⟩, Or.inr fun _ _ => rfl⟩ (Keeps.of rfl (Nat.le_refl _) rfl)
  exact rf_refl

theorem State.setLane_rf (s x1 x2) :
    RF vS [.front] [] s (State.setLane s x1 x2) := by
  unfold State.setLane
  extract_lets v0
  refine rf_step (State.setFront_rf _ _) rfl rfl ?_
  exact rf_refl

theorem State.setPort_rf (s x1 x2) :
    RF vS [.front] [] s (State.setPort s x1 x2) := by
  unfold State.setPort
  extract_lets v0
  refine rf_step (State.setFront_rf _ _) rfl rfl ?_
  exact rf_refl

theorem State.setFlow_rf (s x1 x2) :
    RF vS [.front] [] s (State.setFlow s x1 x2) := by
  unfold State.setFlow
  extract_lets v0
  refine rf_step (State.setFront_rf _ _) rfl rfl ?_
  exact rf_refl

theorem State.flowCause_rf (s) :
    RF vS [.freeCtr, .mode, .octets, .pot, .alarms] [0x200004, 0x200005, 0x200006, 0x200007, 0xB20006, 0xB20007, 0xB2000F] s (State.flowCause s) := by
  unfold State.flowCause
  refine rf_step (State.setCause_rf _ _ _) rfl rfl ?_
  exact rf_refl

theorem State.cuFinish_rf (s x1) :
    RF vS [.freeCtr, .values, .octets, .galley, .edge, .front, .fab, .pot, .res, .alarms] [0x600008, 0x600009, 0x60000A, 0x60000E, 0x60000F, 0x600013, 0x60001D, 0x620007, 0x620009, 0x80000E, 0xB20006, 0xB20007, 0xB2000F] s (State.cuFinish s x1) := by
  unfold State.cuFinish
  refine rf_ite (fun _h0 => ?_) (fun _h1 => ?_)
  · exact rf_refl
  · split
    · rename_i w2 w3 w4 w5
      refine rf_step (State.engDone_rf _ _ _ _ _) rfl rfl ?_
      exact rf_refl
    · rename_i w6 w7
      exact rf_refl

theorem State.cuEmit_rf (s x1) :
    RF vS [.edge] [] s (State.cuEmit s x1) := by
  unfold State.cuEmit
  extract_lets v0
  refine rf_upd (b := s) ?_ ⟨fun f hf hv => by cases f <;> first | exact absurd (by decide) hf | exact absurd rfl hv | rfl | exact ⟨rfl, rfl⟩ | exact ⟨rfl, rfl, rfl, rfl, rfl⟩, Or.inr fun _ _ => rfl⟩ (Keeps.of rfl (Nat.le_refl _) rfl)
  exact rf_refl

theorem State.dropFrame_rf (s x1 x2) :
    RF vS [.freeCtr, .values, .octets, .time, .galley, .edge, .front, .fab, .pot, .res, .alarms] [0x31100C, 0x31100D, 0x600008, 0x600009, 0x60000A, 0x60000E, 0x60000F, 0x600013, 0x60001D, 0x620007, 0x620009, 0x80000E, 0xB20006, 0xB20007, 0xB2000F] s (State.dropFrame s x1 x2) := by
  unfold State.dropFrame
  extract_lets v0
  refine rf_cut (W := vS) v0 ?_ (fun h1 => ?_)
  · unfold v0
    split
    · rename_i w2 w3 w4
      refine rf_step (State.stampTx_rf _ _ _ _ _) rfl rfl ?_
      exact rf_refl
    · rename_i w5 w6
      exact rf_refl
  split
  · rename_i w7 w8 w9
    refine rf_step (State.cuFinish_rf _ _) rfl rfl ?_
    exact h1
  · rename_i w10 w11
    exact h1

theorem State.discardFrame_rf (s x1 x2) :
    RF vS [.freeCtr, .values, .octets, .time, .galley, .edge, .front, .fab, .pot, .res, .alarms] [0x31100C, 0x31100D, 0x41400D, 0x600008, 0x600009, 0x60000A, 0x60000E, 0x60000F, 0x600013, 0x60001D, 0x620007, 0x620009, 0x80000E, 0xB20006, 0xB20007, 0xB2000F] s (State.discardFrame s x1 x2) := by
  unfold State.discardFrame
  extract_lets v0
  refine rf_cut (W := vS) v0 ?_ (fun h1 => ?_)
  · unfold v0
    split
    · rename_i w2 w3 w4
      refine rf_step (State.bump_rf _ _ _) rfl rfl ?_
      exact rf_refl
    · rename_i w5 w6
      exact rf_refl
  refine rf_step (State.dropFrame_rf _ _ _) rfl rfl ?_
  refine rf_step (State.raiseAtMost_rf _ _ _ _ _) rfl rfl ?_
  exact h1

theorem State.setQueue_rf (s x1 x2 x3) :
    RF vS [.front] [] s (State.setQueue s x1 x2 x3) := by
  unfold State.setQueue
  extract_lets v0
  refine rf_step (State.setPort_rf _ _ _) rfl rfl ?_
  exact rf_refl

theorem State.handOver_rf (s x1 x2 x3) :
    RF vS [.freeCtr, .values, .octets, .time, .galley, .edge, .front, .fab, .pot, .res, .alarms] [0x31100C, 0x31100D, 0x41400D, 0x600008, 0x600009, 0x60000A, 0x60000E, 0x60000F, 0x600013, 0x60001D, 0x620007, 0x620009, 0x80000E, 0xB20006, 0xB20007, 0xB2000F] s (State.handOver s x1 x2 x3) := by
  unfold State.handOver
  refine rf_ite (fun _h0 => ?_) (fun _h1 => ?_)
  · refine rf_step (State.setQueue_rf _ _ _ _) rfl rfl ?_
    exact rf_refl
  · refine rf_step (State.discardFrame_rf _ _ _) rfl rfl ?_
    exact rf_refl

theorem State.flushPort_rf (s x1) :
    RF vS [.freeCtr, .values, .octets, .time, .galley, .edge, .front, .fab, .pot, .res, .alarms] [0x31100C, 0x31100D, 0x41400D, 0x600008, 0x600009, 0x60000A, 0x60000E, 0x60000F, 0x600013, 0x60001D, 0x620007, 0x620009, 0x80000E, 0xB20006, 0xB20007, 0xB2000F] s (State.flushPort s x1) := by
  unfold State.flushPort
  extract_lets v0 v1
  refine rf_foldl ?_ (fun t2 x3 h4 => ?_)
  · refine rf_step (State.setPort_rf _ _ _) rfl rfl ?_
    exact rf_refl
  · refine rf_step (State.discardFrame_rf _ _ _) rfl rfl ?_
    exact h4

theorem State.macsecDrop_rf (s x1 x2) :
    RF vS [.octets] [] s (State.macsecDrop s x1 x2) := by
  unfold State.macsecDrop
  extract_lets v0 v1 v2
  refine rf_step (State.setOct_rf _ _ _ _) rfl rfl ?_
  exact rf_refl

theorem State.takePn_rf (s x1) :
    RF vSnd [.freeCtr, .octets, .pot, .alarms] [0x418008, 0xB20006, 0xB20007, 0xB2000F] s (State.takePn s x1) := by
  unfold State.takePn
  extract_lets v0 v1 v2
  refine rf_cut (W := vS) v2 ?_ (fun h3 => ?_)
  · unfold v2
    refine rf_step (State.setNum_rf _ _ _ _) rfl rfl ?_
    exact rf_refl
  refine rf_ite (fun _h4 => ?_) (fun _h5 => ?_)
  · refine rf_snd ?_
    exact rf_refl
  · refine rf_ite (fun _h6 => ?_) (fun _h7 => ?_)
    · refine rf_snd ?_
      refine rf_step (State.macsecDrop_rf _ _ _) rfl rfl ?_
      exact rf_refl
    · refine rf_ite (fun _h8 => ?_) (fun _h9 => ?_)
      · refine rf_snd ?_
        refine rf_step (State.raise_rf _ _ _ _ _) rfl rfl ?_
        refine rf_step (State.macsecDrop_rf _ _ _) rfl rfl ?_
        exact rf_refl
      · refine rf_snd ?_
        refine rf_ite (fun _h10 => ?_) (fun _h11 => ?_)
        · refine rf_step (State.raise_rf _ _ _ _ _) rfl rfl ?_
          exact h3
        · exact h3

theorem State.sendFrame_rf (s x1 x2) :
    RF vS [.freeCtr, .values, .octets, .time, .galley, .edge, .front, .fab, .pot, .res, .alarms] [0x31100C, 0x31100D, 0x418008, 0x600008, 0x600009, 0x60000A, 0x60000E, 0x60000F, 0x600013, 0x60001D, 0x620007, 0x620009, 0x80000E, 0xB20006, 0xB20007, 0xB2000F] s (State.sendFrame s x1 x2) := by
  unfold State.sendFrame
  split
  · rename_i w0 w1 w2
    refine rf_pair_snd w2 ?_ (fun h3 => ?_)
    · refine rf_step (State.takePn_rf _ _) rfl rfl ?_
      exact rf_refl
    refine rf_step (State.dropFrame_rf _ _ _) rfl rfl ?_
    exact h3
  · rename_i w4 w5 w6
    refine rf_pair_snd w6 ?_ (fun h7 => ?_)
    · refine rf_step (State.takePn_rf _ _) rfl rfl ?_
      exact rf_refl
    extract_lets v8 v9 v10 v11 v12
    refine rf_cut (W := vS) v9 ?_ (fun h13 => ?_)
    · unfold v9
      refine rf_step (State.setFront_rf _ _) rfl rfl ?_
      exact h7
    refine rf_cut (W := vS) v10 ?_ (fun h14 => ?_)
    · unfold v10
      split
      · rename_i w15 w16 w17
        extract_lets v18
        refine rf_step (State.setFlow_rf _ _ _) rfl rfl ?_
        exact h13
      · rename_i w19 w20
        exact h13
    refine rf_cut (W := vS) v11 ?_ (fun h21 => ?_)
    · unfold v11
      split
      · rename_i w22 w23 w24
        refine rf_step (State.stampTx_rf _ _ _ _ _) rfl rfl ?_
        exact h14
      · rename_i w25 w26
        exact h14
    refine rf_cut (W := vS) v12 ?_ (fun h27 => ?_)
    · unfold v12
      refine rf_step (State.syncSent_rf _ _ _) rfl rfl ?_
      exact h21
    split
    · rename_i w28 w29 w30
      refine rf_step (State.cuFinish_rf _ _) rfl rfl ?_
      refine rf_step (State.cuEmit_rf _ _) rfl rfl ?_
      exact h27
    · rename_i w31 w32
      exact h27

theorem execFrameTransmit_rf (x0 s) :
    RF vOut [.freeCtr, .values, .octets, .time, .galley, .edge, .front, .fab, .pot, .res, .alarms] [0x31100C, 0x31100D, 0x418008, 0x600008, 0x600009, 0x60000A, 0x60000E, 0x60000F, 0x600013, 0x60001D, 0x620007, 0x620009, 0x80000E, 0xB20006, 0xB20007, 0xB2000F] s (execFrameTransmit x0 s) := by
  unfold execFrameTransmit
  refine rf_ite (fun _h0 => ?_) (fun _h1 => ?_)
  · split
    · rename_i w2 w3 w4
      split
      · rename_i w5 w6 w7 w8
        refine rf_next ?_
        refine rf_step (State.sendFrame_rf _ _ _) rfl rfl ?_
        refine rf_step (State.setQueue_rf _ _ _ _) rfl rfl ?_
        exact rf_refl
      · rename_i w9 w10
        refine rf_next ?_
        exact rf_refl
    · rename_i w11 w12
      refine rf_next ?_
      exact rf_refl
  · refine rf_next ?_
    exact rf_refl

theorem execTxWindowDiscard_rf (x0 x1 s) :
    RF vOut [.freeCtr, .values, .octets, .time, .galley, .edge, .front, .fab, .pot, .res, .alarms] [0x31100C, 0x31100D, 0x41400D, 0x600008, 0x600009, 0x60000A, 0x60000E, 0x60000F, 0x600013, 0x60001D, 0x620007, 0x620009, 0x80000E, 0xB20006, 0xB20007, 0xB2000F] s (execTxWindowDiscard x0 x1 s) := by
  unfold execTxWindowDiscard
  split
  · rename_i w0 w1 w2 w3
    refine rf_next ?_
    refine rf_ite (fun _h4 => ?_) (fun _h5 => ?_)
    · refine rf_step (State.discardFrame_rf _ _ _) rfl rfl ?_
      refine rf_step (State.setQueue_rf _ _ _ _) rfl rfl ?_
      exact rf_refl
    · exact rf_refl
  · rename_i w6 w7
    refine rf_next ?_
    exact rf_refl

theorem State.portAlarms_rf (s x1 x2) :
    RF vS [.freeCtr, .octets, .pot, .alarms] [0xB20006, 0xB20007, 0xB2000F] s (State.portAlarms s x1 x2) := by
  unfold State.portAlarms
  refine rf_foldl ?_ (fun t0 x1 h2 => ?_)
  · exact rf_refl
  · refine rf_step (State.condition_rf _ _ _ _) rfl rfl ?_
    exact h2

theorem State.switchOver_rf (s x1) :
    RF vS [.freeCtr, .octets, .front, .pot, .alarms] [0x414009, 0xB20006, 0xB20007, 0xB2000F] s (State.switchOver s x1) := by
  unfold State.switchOver
  extract_lets v0 v1 v2
  refine rf_cut (W := vS) v2 ?_ (fun h3 => ?_)
  · unfold v2
    refine rf_foldl ?_ (fun t4 x5 h6 => ?_)
    · exact rf_refl
    · extract_lets v7
      split
      · rename_i w8 w9 w10
        refine rf_step (State.setNum_rf _ _ _ _) rfl rfl ?_
        refine rf_step (State.setFlow_rf _ _ _) rfl rfl ?_
        exact h6
      · rename_i w11 w12
        exact h6
  refine rf_ite (fun _h13 => ?_) (fun _h14 => ?_)
  · exact h3
  · refine rf_step (State.raise_rf _ _ _ _ _) rfl rfl ?_
    exact h3

theorem State.portDefect_rf (s x1 x2 x3) :
    RF vS [.freeCtr, .mode, .values, .octets, .time, .galley, .edge, .front, .fab, .pot, .res, .alarms] [0x200004, 0x200005, 0x200006, 0x200007, 0x31100C, 0x31100D, 0x414009, 0x41400D, 0x600008, 0x600009, 0x60000A, 0x60000E, 0x60000F, 0x600013, 0x60001D, 0x620007, 0x620009, 0x80000E, 0xB20006, 0xB20007, 0xB2000F] s (State.portDefect s x1 x2 x3) := by
  unfold State.portDefect
  extract_lets v0 v1 v2 v3 v4 v5
  refine rf_cut (W := vS) v3 ?_ (fun h6 => ?_)
  · unfold v3
    refine rf_step (State.setPort_rf _ _ _) rfl rfl ?_
    exact rf_refl
  refine rf_cut (W := vS) v4 ?_ (fun h7 => ?_)
  · unfold v4
    refine rf_step (State.portAlarms_rf _ _ _) rfl rfl ?_
    exact h6
  refine rf_cut (W := vS) v5 ?_ (fun h8 => ?_)
  · unfold v5
    refine rf_ite (fun _h9 => ?_) (fun _h10 => ?_)
    · refine rf_step (State.flushPort_rf _ _) rfl rfl ?_
      refine rf_step (State.switchOver_rf _ _) rfl rfl ?_
      exact h7
    · exact h7
  refine rf_step (State.flowCause_rf _) rfl rfl ?_
  exact h8

theorem State.laneDefect_rf (s x1 x2 x3) :
    RF vS [.freeCtr, .mode, .values, .octets, .time, .galley, .edge, .front, .fab, .pot, .res, .alarms] [0x200004, 0x200005, 0x200006, 0x200007, 0x31100C, 0x31100D, 0x414009, 0x41400D, 0x600008, 0x600009, 0x60000A, 0x60000E, 0x60000F, 0x600013, 0x60001D, 0x620007, 0x620009, 0x80000E, 0xB20006, 0xB20007, 0xB2000F] s (State.laneDefect s x1 x2 x3) := by
  unfold State.laneDefect
  split
  · rename_i w0 w1 w2
    refine rf_step (State.portDefect_rf _ _ _ _) rfl rfl ?_
    exact rf_refl
  · rename_i w3 w4
    exact rf_refl

theorem State.laneCpri_rf (s x1 x2) :
    RF vS [.front] [] s (State.laneCpri s x1 x2) := by
  unfold State.laneCpri
  split
  · rename_i w0 w1 w2
    extract_lets v3
    refine rf_ite (fun _h4 => ?_) (fun _h5 => ?_)
    · refine rf_step (State.setPort_rf _ _ _) rfl rfl ?_
      exact rf_refl
    · exact rf_refl
  · rename_i w6 w7
    exact rf_refl

theorem State.lineLos_rf (s x1) :
    RF vS [.freeCtr, .mode, .values, .octets, .time, .galley, .edge, .front, .fab, .pot, .res, .alarms] [0x200004, 0x200005, 0x200006, 0x200007, 0x31100C, 0x31100D, 0x40000B, 0x414009, 0x41400D, 0x600008, 0x600009, 0x60000A, 0x60000E, 0x60000F, 0x600013, 0x60001D, 0x620007, 0x620009, 0x80000E, 0xB20006, 0xB20007, 0xB2000F] s (State.lineLos s x1) := by
  unfold State.lineLos
  extract_lets v0 v1 v2
  refine rf_cut (W := vS) v1 ?_ (fun h3 => ?_)
  · unfold v1
    refine rf_step (State.setLane_rf _ _ _) rfl rfl ?_
    exact rf_refl
  refine rf_cut (W := vS) v2 ?_ (fun h4 => ?_)
  · unfold v2
    refine rf_ite (fun _h5 => ?_) (fun _h6 => ?_)
    · refine rf_step (State.bump_rf _ _ _) rfl rfl ?_
      exact h3
    · exact h3
  refine rf_step (State.laneDefect_rf _ _ _ _) rfl rfl ?_
  refine rf_step (State.laneCpri_rf _ _ _) rfl rfl ?_
  exact h4

theorem State.lineSignal_rf (s x1) :
    RF vS [.freeCtr, .mode, .values, .octets, .time, .galley, .edge, .front, .fab, .pot, .res, .alarms] [0x200004, 0x200005, 0x200006, 0x200007, 0x31100C, 0x31100D, 0x414009, 0x41400D, 0x600008, 0x600009, 0x60000A, 0x60000E, 0x60000F, 0x600013, 0x60001D, 0x620007, 0x620009, 0x80000E, 0xB20006, 0xB20007, 0xB2000F] s (State.lineSignal s x1) := by
  unfold State.lineSignal
  extract_lets v0 v1
  refine rf_cut (W := vS) v1 ?_ (fun h2 => ?_)
  · unfold v1
    refine rf_step (State.setLane_rf _ _ _) rfl rfl ?_
    exact rf_refl
  refine rf_ite (fun _h3 => ?_) (fun _h4 => ?_)
  · exact rf_refl
  · split
    · rename_i w5 w6 w7
      refine rf_ite (fun _h8 => ?_) (fun _h9 => ?_)
      · refine rf_step (State.portDefect_rf _ _ _ _) rfl rfl ?_
        exact h2
      · exact h2
    · rename_i w10 w11
      exact h2

theorem State.lineDebounced_rf (s x1) :
    RF vS [.front] [] s (State.lineDebounced s x1) := by
  unfold State.lineDebounced
  extract_lets v0
  refine rf_ite (fun _h1 => ?_) (fun _h2 => ?_)
  · refine rf_step (State.laneCpri_rf _ _ _) rfl rfl ?_
    refine rf_step (State.setLane_rf _ _ _) rfl rfl ?_
    exact rf_refl
  · exact rf_refl

theorem State.lineLol_rf (s x1) :
    RF vS [.freeCtr, .mode, .values, .octets, .time, .galley, .edge, .front, .fab, .pot, .res, .alarms] [0x200004, 0x200005, 0x200006, 0x200007, 0x31100C, 0x31100D, 0x40000C, 0x414009, 0x41400D, 0x600008, 0x600009, 0x60000A, 0x60000E, 0x60000F, 0x600013, 0x60001D, 0x620007, 0x620009, 0x80000E, 0xB20006, 0xB20007, 0xB2000F] s (State.lineLol s x1) := by
  unfold State.lineLol
  extract_lets v0 v1 v2
  refine rf_cut (W := vS) v1 ?_ (fun h3 => ?_)
  · unfold v1
    refine rf_step (State.setLane_rf _ _ _) rfl rfl ?_
    exact rf_refl
  refine rf_cut (W := vS) v2 ?_ (fun h4 => ?_)
  · unfold v2
    refine rf_ite (fun _h5 => ?_) (fun _h6 => ?_)
    · exact h3
    · refine rf_step (State.bump_rf _ _ _) rfl rfl ?_
      exact h3
  refine rf_ite (fun _h7 => ?_) (fun _h8 => ?_)
  · refine rf_step (State.laneDefect_rf _ _ _ _) rfl rfl ?_
    refine rf_ite (fun _h9 => ?_) (fun _h10 => ?_)
    · exact h4
    · refine rf_step (State.laneCpri_rf _ _ _) rfl rfl ?_
      exact h4
  · exact rf_refl

theorem State.lineLob_rf (s x1) :
    RF vS [.freeCtr, .mode, .values, .octets, .time, .galley, .edge, .front, .fab, .pot, .res, .alarms] [0x200004, 0x200005, 0x200006, 0x200007, 0x31100C, 0x31100D, 0x414009, 0x41400D, 0x600008, 0x600009, 0x60000A, 0x60000E, 0x60000F, 0x600013, 0x60001D, 0x620007, 0x620009, 0x80000E, 0xB20006, 0xB20007, 0xB2000F] s (State.lineLob s x1) := by
  unfold State.lineLob
  extract_lets v0 v1
  refine rf_cut (W := vS) v1 ?_ (fun h2 => ?_)
  · unfold v1
    refine rf_step (State.setLane_rf _ _ _) rfl rfl ?_
    exact rf_refl
  refine rf_ite (fun _h3 => ?_) (fun _h4 => ?_)
  · refine rf_step (State.laneDefect_rf _ _ _ _) rfl rfl ?_
    refine rf_ite (fun _h5 => ?_) (fun _h6 => ?_)
    · exact h2
    · refine rf_step (State.laneCpri_rf _ _ _) rfl rfl ?_
      exact h2
  · exact rf_refl

theorem State.searchPort_rf (s x1) :
    RF vS [.front] [] s (State.searchPort s x1) := by
  unfold State.searchPort
  refine rf_foldl ?_ (fun t0 x1 h2 => ?_)
  · exact rf_refl
  · extract_lets v3
    refine rf_step (State.setLane_rf _ _ _) rfl rfl ?_
    exact h2

theorem execLossOfFrame_rf (x0 s) :
    RF vOut [.freeCtr, .mode, .values, .octets, .time, .galley, .edge, .front, .fab, .pot, .res, .alarms] [0x200004, 0x200005, 0x200006, 0x200007, 0x31100C, 0x31100D, 0x414009, 0x41400D, 0x600008, 0x600009, 0x60000A, 0x60000E, 0x60000F, 0x600013, 0x60001D, 0x620007, 0x620009, 0x80000E, 0xB20006, 0xB20007, 0xB2000F] s (execLossOfFrame x0 s) := by
  unfold execLossOfFrame
  extract_lets v0 v1
  refine rf_cut (W := vS) v0 ?_ (fun h2 => ?_)
  · unfold v0
    refine rf_step (State.portDefect_rf _ _ _ _) rfl rfl ?_
    refine rf_step (State.searchPort_rf _ _) rfl rfl ?_
    exact rf_refl
  refine rf_ite (fun _h3 => ?_) (fun _h4 => ?_)
  · refine rf_next ?_
    refine rf_ite (fun _h5 => ?_) (fun _h6 => ?_)
    · refine rf_step (State.setPort_rf _ _ _) rfl rfl ?_
      exact h2
    · exact h2
  · refine rf_next ?_
    exact rf_refl

theorem execRemoteDefect_rf (x0 x1 s) :
    RF vOut [.freeCtr, .mode, .values, .octets, .time, .galley, .edge, .front, .fab, .pot, .res, .alarms] [0x200004, 0x200005, 0x200006, 0x200007, 0x31100C, 0x31100D, 0x414009, 0x41400D, 0x600008, 0x600009, 0x60000A, 0x60000E, 0x60000F, 0x600013, 0x60001D, 0x620007, 0x620009, 0x80000E, 0xB20006, 0xB20007, 0xB2000F] s (execRemoteDefect x0 x1 s) := by
  unfold execRemoteDefect
  refine rf_ite (fun _h0 => ?_) (fun _h1 => ?_)
  · refine rf_next ?_
    refine rf_step (State.portDefect_rf _ _ _ _) rfl rfl ?_
    exact rf_refl
  · refine rf_next ?_
    exact rf_refl

theorem execPortUp_rf (x0 s) :
    RF vOut [.freeCtr, .mode, .octets, .front, .pot, .alarms] [0x200004, 0x200005, 0x200006, 0x200007, 0xB20006, 0xB20007, 0xB2000F] s (execPortUp x0 s) := by
  unfold execPortUp
  extract_lets v0 v1 v2 v3 v4
  refine rf_cut (W := vS) v1 ?_ (fun h5 => ?_)
  · unfold v1
    refine rf_foldl ?_ (fun t6 x7 h8 => ?_)
    · exact rf_refl
    · extract_lets v9
      refine rf_step (State.setLane_rf _ _ _) rfl rfl ?_
      exact h8
  refine rf_cut (W := vS) v4 ?_ (fun h10 => ?_)
  · unfold v4
    refine rf_step (State.setPort_rf _ _ _) rfl rfl ?_
    exact h5
  refine rf_ite (fun _h11 => ?_) (fun _h12 => ?_)
  · refine rf_next ?_
    refine rf_step (State.flowCause_rf _) rfl rfl ?_
    refine rf_step (State.portAlarms_rf _ _ _) rfl rfl ?_
    exact h10
  · refine rf_next ?_
    exact rf_refl

theorem State.portDegrade_rf (s x1 x2 x3 x4 x5) :
    RF vS [.freeCtr, .mode, .values, .octets, .time, .galley, .edge, .front, .fab, .pot, .res, .alarms] [0x200004, 0x200005, 0x200006, 0x200007, 0x31100C, 0x31100D, 0x410008, 0x410009, 0x414009, 0x41400D, 0x600008, 0x600009, 0x60000A, 0x60000E, 0x60000F, 0x600013, 0x60001D, 0x620007, 0x620009, 0x80000E, 0xB20006, 0xB20007, 0xB2000F] s (State.portDegrade s x1 x2 x3 x4 x5) := by
  unfold State.portDegrade
  refine rf_ite (fun _h0 => ?_) (fun _h1 => ?_)
  · refine rf_ite (fun _h2 => ?_) (fun _h3 => ?_)
    · refine rf_step (State.portDefect_rf _ _ _ _) rfl rfl ?_
      exact rf_refl
    · refine rf_ite (fun _h4 => ?_) (fun _h5 => ?_)
      · exact rf_refl
      · refine rf_step (State.portDefect_rf _ _ _ _) rfl rfl ?_
        refine rf_step (State.bumpBy_rf _ _ _ _) rfl rfl ?_
        refine rf_step (State.bumpBy_rf _ _ _ _) rfl rfl ?_
        exact rf_refl
  · exact rf_refl

theorem execCpriRateDwell_rf (x0 s) :
    RF vOut [.front] [] s (execCpriRateDwell x0 s) := by
  unfold execCpriRateDwell
  extract_lets v0 v1
  refine rf_ite (fun _h2 => ?_) (fun _h3 => ?_)
  · refine rf_next ?_
    refine rf_step (State.setPort_rf _ _ _) rfl rfl ?_
    exact rf_refl
  · refine rf_next ?_
    exact rf_refl

theorem writeFlowActivePort_rf (x0 x1 s) :
    RF vOk [.front] [0x414009] s (writeFlowActivePort x0 x1 s) := by
  unfold writeFlowActivePort
  extract_lets v0
  refine rf_ite (fun _h1 => ?_) (fun _h2 => ?_)
  · refine rf_ok ?_
    refine rf_step (State.setNum_rf _ _ _ _) rfl rfl ?_
    refine rf_step (State.setFlow_rf _ _ _) rfl rfl ?_
    exact rf_refl
  · exact rf_error _

theorem execFlowActivePort_rf (x0 x1 s) :
    RF vOut [.reply, .front] [0x414009] s (execFlowActivePort x0 x1 s) := by
  unfold execFlowActivePort
  refine rf_next ?_
  refine State.actSel_rf rfl ?_ (fun k1 u0 => ?_)
  · exact rf_refl
  · refine rf_step (writeFlowActivePort_rf _ _ _) rfl rfl ?_
    exact rf_refl

theorem writeTxAn_rf (x0 x1 s) :
    RF vOk [] [0x41800A] s (writeTxAn x0 x1 s) := by
  unfold writeTxAn
  refine rf_ite (fun _h0 => ?_) (fun _h1 => ?_)
  · refine rf_ok ?_
    refine rf_step (State.setNum_rf _ _ _ _) rfl rfl ?_
    exact rf_refl
  · exact rf_error _

theorem execTxAn_rf (x0 x1 s) :
    RF vOut [.reply] [0x41800A] s (execTxAn x0 x1 s) := by
  unfold execTxAn
  refine rf_next ?_
  refine State.actSel_rf rfl ?_ (fun k1 u0 => ?_)
  · exact rf_refl
  · refine rf_step (writeTxAn_rf _ _ _) rfl rfl ?_
    exact rf_refl

theorem writeSaKey_rf (x0 x1 s) :
    RF vOk [.front] [] s (writeSaKey x0 x1 s) := by
  unfold writeSaKey
  extract_lets v0 v1 v2
  refine rf_ite (fun _h3 => ?_) (fun _h4 => ?_)
  · exact rf_error _
  · refine rf_ok ?_
    refine rf_step (State.setPort_rf _ _ _) rfl rfl ?_
    exact rf_refl

theorem execSaKey_rf (x0 x1 s) :
    RF vOut [.reply, .front] [] s (execSaKey x0 x1 s) := by
  unfold execSaKey
  refine rf_next ?_
  refine State.actOn_rf rfl ?_ (fun u0 => ?_)
  · exact rf_refl
  · refine rf_step (writeSaKey_rf _ _ _) rfl rfl ?_
    exact rf_refl

theorem writePrbsClear_rf (x0 x1 s) :
    RF vOk [] [0x400008, 0x400009] s (writePrbsClear x0 x1 s) := by
  unfold writePrbsClear
  refine rf_ok ?_
  refine rf_ite (fun _h0 => ?_) (fun _h1 => ?_)
  · refine rf_step (State.setNum_rf _ _ _ _) rfl rfl ?_
    refine rf_step (State.setNum_rf _ _ _ _) rfl rfl ?_
    exact rf_refl
  · exact rf_refl

theorem execPrbsClear_rf (x0 x1 s) :
    RF vOut [.reply] [0x400008, 0x400009] s (execPrbsClear x0 x1 s) := by
  unfold execPrbsClear
  refine rf_next ?_
  refine State.actSel_rf rfl ?_ (fun k1 u0 => ?_)
  · exact rf_refl
  · refine rf_step (writePrbsClear_rf _ _ _) rfl rfl ?_
    exact rf_refl

theorem writePrbsConfig_rf (x0 x1 s) :
    RF vOk [] [0x400007] s (writePrbsConfig x0 x1 s) := by
  unfold writePrbsConfig
  refine rf_ite (fun _h0 => ?_) (fun _h1 => ?_)
  · exact rf_error _
  · refine rf_ok ?_
    refine rf_step (State.setNum_rf _ _ _ _) rfl rfl ?_
    exact rf_refl

theorem State.beyond_rf (s x1 x2 x3) :
    RF vSnd [.front] [] s (State.beyond s x1 x2 x3) := by
  unfold State.beyond
  extract_lets v0 v1 v2
  split
  rename_i w3 w4 w5 w6
  extract_lets v7
  refine rf_ite (fun _h8 => ?_) (fun _h9 => ?_)
  · refine rf_snd ?_
    exact rf_refl
  · refine rf_ite (fun _h10 => ?_) (fun _h11 => ?_)
    · refine rf_snd ?_
      exact rf_refl
    · refine rf_snd ?_
      refine rf_step (State.setPort_rf _ _ _) rfl rfl ?_
      exact rf_refl

theorem State.policeDrop_rf (s x1 x2) :
    RF vS [.freeCtr, .octets, .pot, .alarms] [0x41000F, 0xB20006, 0xB20007, 0xB2000F] s (State.policeDrop s x1 x2) := by
  unfold State.policeDrop
  refine rf_step (State.raiseAtMost_rf _ _ _ _ _) rfl rfl ?_
  refine rf_step (State.bump_rf _ _ _) rfl rfl ?_
  exact rf_refl

theorem State.toFirmware_rf (x0 x1 x2 x3 s) :
    RF vS [.freeCtr, .mode, .octets, .front, .mem, .fab, .pot, .sec, .res, .alarms] [0x200004, 0x200005, 0x200006, 0x410012, 0x620007, 0x620009, 0xB10004, 0xB20006, 0xB20007, 0xB2000F] s (State.toFirmware x0 x1 x2 x3 s) := by
  unfold State.toFirmware
  extract_lets v0
  refine rf_ite (fun _h1 => ?_) (fun _h2 => ?_)
  · refine rf_step (State.bump_rf _ _ _) rfl rfl ?_
    exact rf_refl
  · split
    · rename_i w3 w4 w5
      refine rf_pair_snd w5 ?_ (fun h6 => ?_)
      · refine rf_step (State.allocBuf_rf _ _ _ _ _) rfl rfl ?_
        exact rf_refl
      refine rf_step (State.bump_rf _ _ _) rfl rfl ?_
      exact h6
    · rename_i w7 w8 w9 w10
      refine rf_pair_snd w10 ?_ (fun h11 => ?_)
      · refine rf_step (State.allocBuf_rf _ _ _ _ _) rfl rfl ?_
        exact rf_refl
      extract_lets v12 v13
      refine rf_cut (W := vS) v12 ?_ (fun h14 => ?_)
      · unfold v12
        split
        · rename_i w15 w16 w17
          refine rf_step (State.deviceWrite_rf _ _ _) rfl rfl ?_
          exact h11
        · rename_i w18 w19
          exact h11
      refine rf_step (State.setPort_rf _ _ _) rfl rfl ?_
      exact h14

theorem State.forwardTo_rf (s x1 x2) :
    RF vS [.freeCtr, .values, .octets, .time, .galley, .edge, .front, .fab, .pot, .res, .alarms] [0x31100C, 0x31100D, 0x41400D, 0x600008, 0x600009, 0x60000A, 0x60000E, 0x60000F, 0x600013, 0x60001D, 0x620007, 0x620009, 0x80000E, 0xB20006, 0xB20007, 0xB2000F] s (State.forwardTo s x1 x2) := by
  unfold State.forwardTo
  refine rf_step (State.handOver_rf _ _ _ _) rfl rfl ?_
  exact rf_refl

theorem State.forward_rf (s x1 x2 x3 x4 x5) :
    RF vS [.freeCtr, .values, .octets, .time, .galley, .edge, .front, .fab, .pot, .res, .alarms] [0x31100C, 0x31100D, 0x41400D, 0x43000D, 0x600008, 0x600009, 0x60000A, 0x60000E, 0x60000F, 0x600013, 0x60001D, 0x620007, 0x620009, 0x80000E, 0xB20006, 0xB20007, 0xB2000F] s (State.forward s x1 x2 x3 x4 x5) := by
  unfold State.forward
  extract_lets v0 v1
  refine rf_ite (fun _h2 => ?_) (fun _h3 => ?_)
  · refine rf_step (State.raiseAtMost_rf _ _ _ _ _) rfl rfl ?_
    refine rf_step (State.bump_rf _ _ _) rfl rfl ?_
    exact rf_refl
  · split
    · rename_i w4 w5 w6
      refine rf_ite (fun _h7 => ?_) (fun _h8 => ?_)
      · exact rf_refl
      · refine rf_step (State.forwardTo_rf _ _ _) rfl rfl ?_
        exact rf_refl
    · rename_i w9 w10
      refine rf_foldl ?_ (fun t11 x12 h13 => ?_)
      · exact rf_refl
      · refine rf_step (State.forwardTo_rf _ _ _) rfl rfl ?_
        exact h13

theorem State.countInvalid_rf (s x1 x2) :
    RF vS [.octets] [] s (State.countInvalid s x1 x2) := by
  unfold State.countInvalid
  extract_lets v0 v1 v2
  refine rf_step (State.setOct_rf _ _ _ _) rfl rfl ?_
  exact rf_refl

theorem State.lateFill_rf (s x1 x2 x3) :
    RF vS [.freeCtr, .octets, .edge, .front, .fab, .pot, .alarms] [0x620007, 0x620009, 0xB20006, 0xB20007, 0xB2000F] s (State.lateFill s x1 x2 x3) := by
  unfold State.lateFill
  split
  · rename_i w0 w1 w2
    split
    · rename_i w3 w4 w5
      refine rf_ite (fun _h6 => ?_) (fun _h7 => ?_)
      · exact rf_refl
      · refine rf_step (State.freeBuf_rf _ _) rfl rfl ?_
        exact rf_refl
    · rename_i w8 w9
      exact rf_refl
  · rename_i w10 w11
    exact rf_refl

theorem State.attach_rf (s x1 x2 x3) :
    RF vS [.galley] [] s (State.attach s x1 x2 x3) := by
  unfold State.attach
  extract_lets v0
  refine rf_upd (b := s) ?_ ⟨fun f hf hv => by cases f <;> first | exact absurd (by decide) hf | exact absurd rfl hv | rfl | exact ⟨rfl, rfl⟩ | exact ⟨rfl, rfl, rfl, rfl, rfl⟩, Or.inr fun _ _ => rfl⟩ (Keeps.of rfl (Nat.le_refl _) rfl)
  exact rf_refl

theorem State.uEvent_rf (s x1 x2 x3 x4) :
    RF vS [.freeCtr, .octets, .galley, .edge, .front, .fab, .pot, .alarms] [0x60001D, 0x620007, 0x620009, 0x630003, 0x630004, 0x630005, 0xB20006, 0xB20007, 0xB2000F] s (State.uEvent s x1 x2 x3 x4) := by
  unfold State.uEvent
  extract_lets v0 v1 v2 v3 v4
  refine rf_cut (W := vS) v2 ?_ (fun h5 => ?_)
  · unfold v2
    refine rf_step (State.setFlow_rf _ _ _) rfl rfl ?_
    exact rf_refl
  refine rf_cut (W := vS) v4 ?_ (fun h6 => ?_)
  · unfold v4
    split
    · rename_i w7 w8 w9
      split
      · rename_i w10 w11 w12
        refine rf_step (State.attach_rf _ _ _ _) rfl rfl ?_
        exact h5
      · rename_i w13 w14
        exact h5
    · rename_i w15 w16
      exact h5
  refine rf_ite (fun _h17 => ?_) (fun _h18 => ?_)
  · refine rf_ite (fun _h19 => ?_) (fun _h20 => ?_)
    · refine rf_step (State.lateFill_rf _ _ _ _) rfl rfl ?_
      exact rf_refl
    · exact rf_refl
  · refine rf_ite (fun _h21 => ?_) (fun _h22 => ?_)
    · refine rf_step (State.lateFill_rf _ _ _ _) rfl rfl ?_
      refine rf_step (State.raiseAtMost_rf _ _ _ _ _) rfl rfl ?_
      refine rf_step (State.bump_rf _ _ _) rfl rfl ?_
      exact h5
    · refine rf_foldl ?_ (fun t23 x24 h25 => ?_)
      · exact h6
      · refine rf_step (State.countEvent_rf _ _ _ _ _) rfl rfl ?_
        exact h25

theorem State.sectionBad_rf (s x1 x2 x3 x4) :
    RF vS [.freeCtr, .octets, .galley, .edge, .front, .fab, .pot, .alarms] [0x440010, 0x60001D, 0x620007, 0x620009, 0x630003, 0x630004, 0x630005, 0x830006, 0xB20006, 0xB20007, 0xB2000F] s (State.sectionBad s x1 x2 x3 x4) := by
  unfold State.sectionBad
  extract_lets v0 v1 v2 v3
  refine rf_cut (W := vS) v1 ?_ (fun h4 => ?_)
  · unfold v1
    refine rf_step (State.raiseAtMost_rf _ _ _ _ _) rfl rfl ?_
    refine rf_step (State.trace_rf _ _) rfl rfl ?_
    refine rf_step (State.countInvalid_rf _ _ _) rfl rfl ?_
    exact rf_refl
  refine rf_cut (W := vS) v2 ?_ (fun h5 => ?_)
  · unfold v2
    refine rf_ite (fun _h6 => ?_) (fun _h7 => ?_)
    · refine rf_step (State.cuBump_rf _ _ _) rfl rfl ?_
      exact h4
    · exact h4
  refine rf_cut (W := vS) v3 ?_ (fun h8 => ?_)
  · unfold v3
    refine rf_ite (fun _h9 => ?_) (fun _h10 => ?_)
    · refine rf_step (State.raiseAtMost_rf _ _ _ _ _) rfl rfl ?_
      refine rf_step (State.bump_rf _ _ _) rfl rfl ?_
      exact h5
    · exact h5
  refine rf_ite (fun _h11 => ?_) (fun _h12 => ?_)
  · exact h8
  · refine rf_step (State.uEvent_rf _ _ _ _ _) rfl rfl ?_
    exact h8

theorem State.groupBuffer_rf (s x1 x2 x3) :
    RF vSnd [.freeCtr, .mode, .octets, .galley, .front, .mem, .fab, .pot, .sec, .res, .alarms] [0x200004, 0x200005, 0x200006, 0x620007, 0x620009, 0xB10004, 0xB20006, 0xB20007, 0xB2000F] s (State.groupBuffer s x1 x2 x3) := by
  unfold State.groupBuffer
  extract_lets v0 v1 v2
  split
  · rename_i w3 w4 w5
    refine rf_snd ?_
    exact rf_refl
  · rename_i w6 w7
    split
    · rename_i w8 w9 w10
      refine rf_pair_snd w10 ?_ (fun h11 => ?_)
      · refine rf_step (State.allocBuf_rf _ _ _ _ _) rfl rfl ?_
        exact rf_refl
      extract_lets v12
      refine rf_snd ?_
      refine rf_step (State.setFront_rf _ _) rfl rfl ?_
      exact h11
    · rename_i w13 w14 w15 w16
      refine rf_pair_snd w16 ?_ (fun h17 => ?_)
      · refine rf_step (State.allocBuf_rf _ _ _ _ _) rfl rfl ?_
        exact rf_refl
      extract_lets v18 v19 v20
      refine rf_cut (W := vS) v19 ?_ (fun h21 => ?_)
      · unfold v19
        refine rf_step (State.setFront_rf _ _) rfl rfl ?_
        exact h17
      refine rf_cut (W := vS) v20 ?_ (fun h22 => ?_)
      · unfold v20
        split
        · rename_i w23 w24 w25 w26 w27 w28
          refine rf_step (State.deviceZero_rf _ _ _) rfl rfl ?_
          exact h21
        · rename_i w29 w30 w31
          exact h21
      refine rf_snd ?_
      refine rf_step (State.attach_rf _ _ _ _) rfl rfl ?_
      exact h22

theorem State.markClipped_rf (s x1 x2) :
    RF vS [.edge] [] s (State.markClipped s x1 x2) := by
  unfold State.markClipped
  refine rf_foldl ?_ (fun t0 x1 h2 => ?_)
  · exact rf_refl
  · extract_lets v3
    refine rf_step (State.setSctx_rf _ _ _) rfl rfl ?_
    exact h2

theorem State.gainStage_rf (s x1 x2 x3 x4 x5 x6 x7 x8) :
    RF vSnd [.freeCtr, .mode, .octets, .edge, .mem, .fab, .pot, .sec, .res, .alarms] [0x200004, 0x200005, 0x200006, 0x82000A, 0xB10004, 0xB20006, 0xB20007, 0xB2000F] s (State.gainStage s x1 x2 x3 x4 x5 x6 x7 x8) := by
  unfold State.gainStage
  extract_lets v0 v1 v2 v3 v4 v5 v6 v7 v8 v9 v10 v11 v12 v13 v14 v15
  refine rf_cut (W := vS) v8 ?_ (fun h16 => ?_)
  · unfold v8
    refine rf_step (State.bumpBy_rf _ _ _ _) rfl rfl ?_
    refine rf_step (State.setGroup_rf _ _ _) rfl rfl ?_
    exact rf_refl
  refine rf_cut (W := vS) v9 ?_ (fun h17 => ?_)
  · unfold v9
    refine rf_ite (fun _h18 => ?_) (fun _h19 => ?_)
    · refine rf_step (State.raise_rf _ _ _ _ _) rfl rfl ?_
      exact h16
    · exact h16
  refine rf_cut (W := vS) v10 ?_ (fun h20 => ?_)
  · unfold v10
    refine rf_ite (fun _h21 => ?_) (fun _h22 => ?_)
    · refine rf_step (State.markClipped_rf _ _ _) rfl rfl ?_
      exact h17
    · exact h17
  refine rf_snd ?_
  refine rf_step (State.deviceWrite_rf _ _ _) rfl rfl ?_
  exact h20

theorem State.setMeasure_rf (s x1 x2 x3) :
    RF vS [.freeCtr, .edge] [] s (State.setMeasure s x1 x2 x3) := by
  unfold State.setMeasure
  extract_lets v0 v1 v2 v3 v4 v5 v6 v7 v8
  refine rf_cut (W := vS) v3 ?_ (fun h9 => ?_)
  · unfold v3
    refine rf_step (State.closeSlot_rf _ _ _ _) rfl rfl ?_
    exact rf_refl
  split
  rename_i w10 w11 w12 w13
  refine rf_step (State.setWset_rf _ _ _ _) rfl rfl ?_
  exact h9

theorem State.shapeTold_rf (s x1 x2) :
    RF vS [.freeCtr, .octets, .edge, .pot, .alarms] [0x440011, 0xB20006, 0xB20007, 0xB2000F] s (State.shapeTold s x1 x2) := by
  unfold State.shapeTold
  extract_lets v0 v1 v2 v3 v4
  refine rf_cut (W := vS) v2 ?_ (fun h5 => ?_)
  · unfold v2
    refine rf_step (State.bumpBy_rf _ _ _ _) rfl rfl ?_
    exact rf_refl
  refine rf_cut (W := vS) v4 ?_ (fun h6 => ?_)
  · unfold v4
    refine rf_step (State.setRadio_rf _ _ _) rfl rfl ?_
    exact h5
  refine rf_ite (fun _h7 => ?_) (fun _h8 => ?_)
  · refine rf_ite (fun _h9 => ?_) (fun _h10 => ?_)
    · exact h6
    · refine rf_step (State.nsEnter_rf _ _ _ _) rfl rfl ?_
      exact h6
  · refine rf_ite (fun _h11 => ?_) (fun _h12 => ?_)
    · refine rf_step (State.setRadio_rf _ _ _) rfl rfl ?_
      exact rf_refl
    · exact rf_refl

theorem State.tidyFlow_rf (s x1) :
    RF vS [.front] [] s (State.tidyFlow s x1) := by
  unfold State.tidyFlow
  extract_lets v0 v1
  refine rf_step (State.setFlow_rf _ _ _) rfl rfl ?_
  exact rf_refl

theorem State.writeSamples_rf (s x1 x2 x3 x4 x5 x6 x7) :
    RF vS [.freeCtr, .mode, .octets, .time, .galley, .vx, .edge, .front, .mogil, .mem, .fab, .pot, .sec, .res, .alarms] [0x200004, 0x200005, 0x200006, 0x82000A, 0x900001, 0x903007, 0x91000B, 0x91000E, 0x91000F, 0xA4000C, 0xB10004, 0xB20006, 0xB20007, 0xB2000F] s (State.writeSamples s x1 x2 x3 x4 x5 x6 x7) := by
  unfold State.writeSamples
  cases s.bufAddr x3 with
  | none => exact rf_refl
  | some a =>
    extract_lets size idx
    dsimp only
    have h : RF vSnd [.freeCtr, .mode, .octets, .time, .galley, .vx, .edge, .front, .mogil, .mem, .fab, .pot, .sec, .res, .alarms] [0x200004, 0x200005, 0x200006, 0x82000A, 0x900001, 0x903007, 0x91000B, 0x91000E, 0x91000F, 0xA4000C, 0xB10004, 0xB20006, 0xB20007, 0xB2000F] s (match bit (s.govN OD.flowMap x2) 18, s.groupOfFlow x2 with
        | true, some (g, _) => s.gainStage g x2 x4 x5 x6 x7 x3 a
        | _, _ =>
          let n := (x7.map (saturates (s.govN OD.rxShift x2))).sum
          (x7.map (toCi16 (s.govN OD.rxShift x2)), s.setFlow x2 { s.flow x2 with saturated := (s.flow x2).saturated + n })) := by
      split
      · exact rf_step (State.gainStage_rf _ _ _ _ _ _ _ _ _) rfl rfl rf_refl
      · exact rf_snd (rf_step (State.setFlow_rf _ _ _) rfl rfl rf_refl)
    refine rf_ite (fun _ => rf_of_snd h) (fun _ => ?_)
    exact rf_of_snd (rf_step (State.memWrite_rf _ _ _ _) rfl rfl (rf_of_snd h))

theorem State.sectionDropped_rf (s x1 x2 x3) :
    RF vS [.freeCtr, .octets, .galley, .edge, .front, .fab, .pot, .alarms] [0x60001D, 0x620007, 0x620009, 0x630003, 0x630004, 0x630005, 0xB20006, 0xB20007, 0xB2000F] s (State.sectionDropped s x1 x2 x3) := by
  unfold State.sectionDropped
  refine rf_step (State.uEvent_rf _ _ _ _ _) rfl rfl ?_
  refine rf_step (State.raiseAtMost_rf _ _ _ _ _) rfl rfl ?_
  exact rf_refl

theorem State.sectionCounted_rf (s x1 x2) :
    RF vS [] [0x41400A, 0x830004] s (State.sectionCounted s x1 x2) := by
  unfold State.sectionCounted
  refine rf_step (State.cuBump_rf _ _ _) rfl rfl ?_
  refine rf_step (State.bump_rf _ _ _) rfl rfl ?_
  exact rf_refl

theorem State.sectionGood_rf (s x1 x2 x3) :
    RF vS [.freeCtr, .mode, .octets, .time, .galley, .vx, .edge, .front, .mogil, .mem, .fab, .pot, .sec, .res, .alarms] [0x200004, 0x200005, 0x200006, 0x41400A, 0x440011, 0x60001D, 0x620007, 0x620009, 0x630003, 0x630004, 0x630005, 0x82000A, 0x830004, 0x900001, 0x903007, 0x91000B, 0x91000E, 0x91000F, 0xA4000C, 0xB10004, 0xB20006, 0xB20007, 0xB2000F] s (State.sectionGood s x1 x2 x3) := by
  unfold State.sectionGood
  extract_lets v0 v1
  split
  · rename_i w2 w3 w4
    refine rf_pair_snd w4 ?_ (fun h5 => ?_)
    · refine rf_step (State.groupBuffer_rf _ _ _ _) rfl rfl ?_
      refine rf_step (State.tidyFlow_rf _ _) rfl rfl ?_
      exact rf_refl
    refine rf_step (State.sectionDropped_rf _ _ _ _) rfl rfl ?_
    exact h5
  · rename_i w6 w7 w8 w9
    refine rf_pair_snd w9 ?_ (fun h10 => ?_)
    · refine rf_step (State.groupBuffer_rf _ _ _ _) rfl rfl ?_
      refine rf_step (State.tidyFlow_rf _ _) rfl rfl ?_
      exact rf_refl
    extract_lets v11 v12 v13 v14 v15
    refine rf_cut (W := vS) v11 ?_ (fun h16 => ?_)
    · unfold v11
      refine rf_step (State.sectionCounted_rf _ _ _) rfl rfl ?_
      exact h10
    refine rf_cut (W := vS) v12 ?_ (fun h17 => ?_)
    · unfold v12
      refine rf_step (State.shapeTold_rf _ _ _) rfl rfl ?_
      refine rf_step (State.setMeasure_rf _ _ _ _) rfl rfl ?_
      exact h16
    refine rf_cut (W := vS) v13 ?_ (fun h18 => ?_)
    · unfold v13
      refine rf_step (State.writeSamples_rf _ _ _ _ _ _ _ _) rfl rfl ?_
      exact h17
    refine rf_cut (W := vS) v15 ?_ (fun h19 => ?_)
    · unfold v15
      refine rf_step (State.setFlow_rf _ _ _) rfl rfl ?_
      exact h18
    refine rf_ite (fun _h20 => ?_) (fun _h21 => ?_)
    · refine rf_step (State.uEvent_rf _ _ _ _ _) rfl rfl ?_
      exact h19
    · exact h19

theorem State.section__rf (x0 x1 s x3) :
    RF vS [.freeCtr, .mode, .octets, .time, .galley, .vx, .edge, .front, .mogil, .mem, .fab, .pot, .sec, .res, .alarms] [0x200004, 0x200005, 0x200006, 0x41400A, 0x440010, 0x440011, 0x60001D, 0x620007, 0x620009, 0x630003, 0x630004, 0x630005, 0x82000A, 0x830004, 0x830006, 0x900001, 0x903007, 0x91000B, 0x91000E, 0x91000F, 0xA4000C, 0xB10004, 0xB20006, 0xB20007, 0xB2000F] s (State.section_ x0 x1 s x3) := by
  unfold State.section_
  split
  · rename_i w0 w1
    refine rf_step (State.sectionGood_rf _ _ _ _) rfl rfl ?_
    exact rf_refl
  · rename_i w2 w3
    refine rf_step (State.sectionBad_rf _ _ _ _ _) rfl rfl ?_
    exact rf_refl

theorem State.seqCheck_rf (s x1 x2) :
    RF vS [.front] [0x41400C] s (State.seqCheck s x1 x2) := by
  unfold State.seqCheck
  extract_lets v0 v1
  refine rf_cut (W := vS) v1 ?_ (fun h2 => ?_)
  · unfold v1
    refine rf_step (State.setFlow_rf _ _ _) rfl rfl ?_
    exact rf_refl
  split
  · rename_i w3 w4 w5
    refine rf_ite (fun _h6 => ?_) (fun _h7 => ?_)
    · exact h2
    · refine rf_step (State.bump_rf _ _ _) rfl rfl ?_
      exact h2
  · rename_i w8 w9
    exact h2

theorem State.message_rf (x0 x1 x2 x3 x4 x5 s x7) :
    RF vS [.freeCtr, .mode, .octets, .time, .galley, .vx, .edge, .front, .mogil, .mem, .fab, .pot, .sec, .res, .alarms] (0x200004 :: 0x200005 :: 0x200006 :: 0x41000B :: 0x41000C :: 0x410012 :: 0x41400A :: 0x41400C :: 0x440010 :: 0x440011 :: 0x60001D :: 0x620007 :: 0x620009 :: 0x630003 :: 0x630004 :: 0x630005 :: 0x82000A :: 0x830004 :: 0x830006 :: 0x900001 :: 0x903007 :: 0x91000B :: 0x91000E :: 0x91000F :: 0xA4000C :: 0xB10004 :: 0xB20006 :: 0xB20007 :: 0xB2000F :: []) s (State.message x0 x1 x2 x3 x4 x5 s x7) := by
  unfold State.message
  refine rf_ite (fun _h0 => ?_) (fun _h1 => ?_)
  · refine rf_step (State.bump_rf _ _ _) rfl rfl ?_
    exact rf_refl
  · refine rf_ite (fun _h2 => ?_) (fun _h3 => ?_)
    · refine rf_step (State.toFirmware_rf _ _ _ _ _) rfl rfl ?_
      exact rf_refl
    · split
      · rename_i w4 w5 w6
        refine rf_foldl ?_ (fun t7 x8 h9 => ?_)
        · refine rf_step (State.seqCheck_rf _ _ _) rfl rfl ?_
          exact rf_refl
        · refine rf_step (State.section__rf _ _ _ _) rfl rfl ?_
          exact h9
      · rename_i w10 w11
        refine rf_step (State.bump_rf _ _ _) rfl rfl ?_
        exact rf_refl

theorem State.frameBody_rf (s x1 x2 x3) :
    RF vS [.freeCtr, .mode, .values, .octets, .time, .galley, .vx, .edge, .front, .mogil, .mem, .fab, .pot, .sec, .res, .alarms] (0x200004 :: 0x200005 :: 0x200006 :: 0x31100C :: 0x31100D :: 0x41000B :: 0x41000C :: 0x410012 :: 0x41400A :: 0x41400C :: 0x41400D :: 0x43000D :: 0x440010 :: 0x440011 :: 0x600008 :: 0x600009 :: 0x60000A :: 0x60000E :: 0x60000F :: 0x600013 :: 0x60001D :: 0x620007 :: 0x620009 :: 0x630003 :: 0x630004 :: 0x630005 :: 0x80000E :: 0x82000A :: 0x830004 :: 0x830006 :: 0x900001 :: 0x903007 :: 0x91000B :: 0x91000E :: 0x91000F :: 0xA4000C :: 0xB10004 :: 0xB20006 :: 0xB20007 :: 0xB2000F :: []) s (State.frameBody s x1 x2 x3) := by
  unfold State.frameBody
  split
  · rename_i w0 w1 w2 w3 w4 w5 w6
    refine rf_foldl ?_ (fun t7 x8 h9 => ?_)
    · exact rf_refl
    · refine rf_step (State.message_rf _ _ _ _ _ _ _ _) rfl rfl ?_
      exact h9
  · rename_i w10 w11 w12
    refine rf_step (State.toFirmware_rf _ _ _ _ _) rfl rfl ?_
    exact rf_refl
  · rename_i w13 w14 w15
    refine rf_step (State.toFirmware_rf _ _ _ _ _) rfl rfl ?_
    exact rf_refl
  · rename_i w16 w17 w18 w19 w20
    refine rf_step (State.forward_rf _ _ _ _ _ _) rfl rfl ?_
    exact rf_refl
  · rename_i w21 w22 w23 w24 w25
    exact rf_refl

theorem State.macsecCheck_rf (s x1 x2) :
    RF v22 [.freeCtr, .octets, .pot, .alarms] [0x418008, 0xB20006, 0xB20007, 0xB2000F] s (State.macsecCheck s x1 x2) := by
  unfold State.macsecCheck
  refine rf_ite (fun _h0 => ?_) (fun _h1 => ?_)
  · refine rf_22 ?_
    refine rf_snd ?_
    exact rf_refl
  · split
    · rename_i w2 w3 w4 w5
      refine rf_22 ?_
      refine rf_snd ?_
      refine rf_step (State.setNum_rf _ _ _ _) rfl rfl ?_
      exact rf_refl
    · rename_i w6 w7 w8
      extract_lets v9
      refine rf_cut (W := vS) v9 ?_ (fun h10 => ?_)
      · unfold v9
        refine rf_step (State.macsecDrop_rf _ _ _) rfl rfl ?_
        exact rf_refl
      refine rf_ite (fun _h11 => ?_) (fun _h12 => ?_)
      · refine rf_22 ?_
        refine rf_snd ?_
        refine rf_step (State.raiseAtMost_rf _ _ _ _ _) rfl rfl ?_
        exact h10
      · refine rf_22 ?_
        refine rf_snd ?_
        exact h10

theorem State.frameRx_rf (s x1 x2) :
    RF vS [.freeCtr, .mode, .values, .octets, .time, .galley, .vx, .edge, .front, .mogil, .mem, .fab, .pot, .sec, .res, .alarms] (0x200004 :: 0x200005 :: 0x200006 :: 0x31100C :: 0x31100D :: 0x31100F :: 0x41000B :: 0x41000C :: 0x41000F :: 0x410012 :: 0x41400A :: 0x41400C :: 0x41400D :: 0x418008 :: 0x43000D :: 0x440010 :: 0x440011 :: 0x600008 :: 0x600009 :: 0x60000A :: 0x60000E :: 0x60000F :: 0x600013 :: 0x60001D :: 0x620007 :: 0x620009 :: 0x630003 :: 0x630004 :: 0x630005 :: 0x80000E :: 0x82000A :: 0x830004 :: 0x830006 :: 0x900001 :: 0x903007 :: 0x91000B :: 0x91000E :: 0x91000F :: 0xA4000C :: 0xB10004 :: 0xB20006 :: 0xB20007 :: 0xB2000F :: []) s (State.frameRx s x1 x2) := by
  unfold State.frameRx
  refine rf_ite (fun _h0 => ?_) (fun _h1 => ?_)
  · refine rf_step (State.bump_rf _ _ _) rfl rfl ?_
    exact rf_refl
  · split
    · rename_i w2 w3 w4 w5
      refine rf_pair_22 w5 ?_ (fun h6 => ?_)
      · refine rf_step (State.macsecCheck_rf _ _ _) rfl rfl ?_
        exact rf_refl
      exact h6
    · rename_i w7 w8 w9 w10
      refine rf_pair_22 w10 ?_ (fun h11 => ?_)
      · refine rf_step (State.macsecCheck_rf _ _ _) rfl rfl ?_
        exact rf_refl
      extract_lets v12
      split
      · rename_i w13 w14 w15
        split
        · rename_i w16 w17 w18
          refine rf_pair_snd w18 ?_ (fun h19 => ?_)
          · refine rf_step (State.police_rf _ _) rfl rfl ?_
            exact h11
          refine rf_step (State.toFirmware_rf _ _ _ _ _) rfl rfl ?_
          exact h19
        · rename_i w20 w21 w22
          refine rf_pair_snd w22 ?_ (fun h23 => ?_)
          · refine rf_step (State.police_rf _ _) rfl rfl ?_
            exact h11
          exact h23
      · rename_i w24 w25
        split
        · rename_i w26 w27 w28
          refine rf_pair_snd w28 ?_ (fun h29 => ?_)
          · refine rf_step (State.beyond_rf _ _ _ _) rfl rfl ?_
            exact h11
          refine rf_step (State.policeDrop_rf _ _ _) rfl rfl ?_
          exact h29
        · rename_i w30 w31 w32
          refine rf_pair_snd w32 ?_ (fun h33 => ?_)
          · refine rf_step (State.beyond_rf _ _ _ _) rfl rfl ?_
            exact h11
          refine rf_step (State.frameBody_rf _ _ _ _) rfl rfl ?_
          exact h33

theorem execEthFrameRx_rf (x0 x1 s) :
    RF vOut [.freeCtr, .mode, .values, .octets, .time, .galley, .vx, .edge, .front, .mogil, .mem, .fab, .pot, .sec, .res, .alarms] (0x200004 :: 0x200005 :: 0x200006 :: 0x31100C :: 0x31100D :: 0x31100F :: 0x41000B :: 0x41000C :: 0x41000F :: 0x410012 :: 0x41400A :: 0x41400C :: 0x41400D :: 0x418008 :: 0x43000D :: 0x440010 :: 0x440011 :: 0x600008 :: 0x600009 :: 0x60000A :: 0x60000E :: 0x60000F :: 0x600013 :: 0x60001D :: 0x620007 :: 0x620009 :: 0x630003 :: 0x630004 :: 0x630005 :: 0x80000E :: 0x82000A :: 0x830004 :: 0x830006 :: 0x900001 :: 0x903007 :: 0x91000B :: 0x91000E :: 0x91000F :: 0xA4000C :: 0xB10004 :: 0xB20006 :: 0xB20007 :: 0xB2000F :: []) s (execEthFrameRx x0 x1 s) := by
  unfold execEthFrameRx
  refine rf_ite (fun _h0 => ?_) (fun _h1 => ?_)
  · refine rf_next ?_
    refine rf_step (State.frameRx_rf _ _ _) rfl rfl ?_
    exact rf_refl
  · refine rf_next ?_
    exact rf_refl

theorem execCpriSymbolRx_rf (x0 x1 x2 x3 s) :
    RF vOut [.freeCtr, .mode, .octets, .time, .galley, .vx, .edge, .front, .mogil, .mem, .fab, .pot, .sec, .res, .alarms] [0x200004, 0x200005, 0x200006, 0x41400A, 0x60001D, 0x620007, 0x620009, 0x630003, 0x630004, 0x630005, 0x82000A, 0x830004, 0x900001, 0x903007, 0x91000B, 0x91000E, 0x91000F, 0xA4000C, 0xB10004, 0xB20006, 0xB20007, 0xB2000F] s (execCpriSymbolRx x0 x1 x2 x3 s) := by
  unfold execCpriSymbolRx
  refine rf_ite (fun _h0 => ?_) (fun _h1 => ?_)
  · split
    · rename_i w2 w3 w4
      refine rf_pair_snd w4 ?_ (fun h5 => ?_)
      · refine rf_step (State.groupBuffer_rf _ _ _ _) rfl rfl ?_
        refine rf_step (State.tidyFlow_rf _ _) rfl rfl ?_
        exact rf_refl
      refine rf_next ?_
      refine rf_step (State.sectionDropped_rf _ _ _ _) rfl rfl ?_
      exact h5
    · rename_i w6 w7 w8 w9
      refine rf_pair_snd w9 ?_ (fun h10 => ?_)
      · refine rf_step (State.groupBuffer_rf _ _ _ _) rfl rfl ?_
        refine rf_step (State.tidyFlow_rf _ _) rfl rfl ?_
        exact rf_refl
      refine rf_next ?_
      refine rf_step (State.uEvent_rf _ _ _ _ _) rfl rfl ?_
      refine rf_step (State.writeSamples_rf _ _ _ _ _ _ _ _) rfl rfl ?_
      refine rf_step (State.sectionCounted_rf _ _ _) rfl rfl ?_
      exact h10
  · refine rf_next ?_
    exact rf_refl

theorem execFwRingPop_rf (x0 s) :
    RF vOut [.reply, .front] [] s (execFwRingPop x0 s) := by
  unfold execFwRingPop
  split
  rename_i w0 w1 w2 w3
  refine rf_pair_snd w3 ?_ (fun h4 => ?_)
  · refine rf_step (State.popFw_rf _ _) rfl rfl ?_
    exact rf_refl
  refine rf_next ?_
  refine rf_step (State.answerFab_rf _ _ _ _) rfl rfl ?_
  exact h4

theorem State.setFdb_rf (s x1) :
    RF vS [.front] [0x430007] s (State.setFdb s x1) := by
  unfold State.setFdb
  extract_lets v0
  refine rf_step (State.setNum_rf _ _ _ _) rfl rfl ?_
  refine rf_step (State.setFront_rf _ _) rfl rfl ?_
  exact rf_refl

theorem State.stormCheck_rf (s x1) :
    RF vS [.freeCtr, .octets, .front, .pot, .alarms] [0x430009, 0xB20006, 0xB20007, 0xB2000F] s (State.stormCheck s x1) := by
  unfold State.stormCheck
  extract_lets v0 v1 v2 v3
  refine rf_cut (W := vS) v2 ?_ (fun h4 => ?_)
  · unfold v2
    refine rf_step (State.bump_rf _ _ _) rfl rfl ?_
    refine rf_step (State.setFront_rf _ _) rfl rfl ?_
    exact rf_refl
  refine rf_ite (fun _h5 => ?_) (fun _h6 => ?_)
  · refine rf_ite (fun _h7 => ?_) (fun _h8 => ?_)
    · exact h4
    · refine rf_step (State.condition_rf _ _ _ _) rfl rfl ?_
      refine rf_step (State.setFront_rf _ _) rfl rfl ?_
      exact h4
  · exact h4

theorem State.learn_rf (s x1 x2 x3 x4) :
    RF vS [.freeCtr, .octets, .front, .pot, .alarms] [0x430007, 0x430008, 0x430009, 0x43000A, 0xB20006, 0xB20007, 0xB2000F] s (State.learn s x1 x2 x3 x4) := by
  unfold State.learn
  extract_lets v0 v1 v2 v3
  refine rf_cut (W := vS) v3 ?_ (fun h4 => ?_)
  · unfold v3
    refine rf_step (State.setFront_rf _ _) rfl rfl ?_
    exact rf_refl
  split
  · rename_i w5 w6
    refine rf_ite (fun _h7 => ?_) (fun _h8 => ?_)
    · refine rf_step (State.bump_rf _ _ _) rfl rfl ?_
      exact rf_refl
    · refine rf_step (State.setFdb_rf _ _) rfl rfl ?_
      exact rf_refl
  · rename_i w9 w10 w11
    extract_lets v12 v13 v14
    refine rf_ite (fun _h15 => ?_) (fun _h16 => ?_)
    · unfold v0
      refine rf_step (State.setFdb_rf _ _) rfl rfl ?_
      exact rf_refl
    · split
      rename_i w17 w18 w19 w20
      refine rf_pair_snd w20 ?_ (fun h21 => ?_)
      · refine rf_ite (fun _h22 => ?_) (fun _h23 => ?_)
        · refine rf_snd ?_
          refine rf_step (State.bump_rf _ _ _) rfl rfl ?_
          exact h4
        · refine rf_snd ?_
          refine rf_step (State.stormCheck_rf _ _) rfl rfl ?_
          exact h4
      extract_lets v24
      refine rf_ite (fun _h25 => ?_) (fun _h26 => ?_)
      · refine rf_step (State.raise_rf _ _ _ _ _) rfl rfl ?_
        unfold v0
        refine rf_step (State.setFdb_rf _ _) rfl rfl ?_
        exact h21
      · unfold v0
        refine rf_step (State.setFdb_rf _ _) rfl rfl ?_
        exact h21

theorem execLearnRequest_rf (x0 x1 x2 s) :
    RF vOut [.freeCtr, .octets, .front, .pot, .alarms] [0x430007, 0x430008, 0x430009, 0x43000A, 0xB20006, 0xB20007, 0xB2000F] s (execLearnRequest x0 x1 x2 s) := by
  unfold execLearnRequest
  refine rf_ite (fun _h0 => ?_) (fun _h1 => ?_)
  · refine rf_next ?_
    exact rf_refl
  · refine rf_next ?_
    refine rf_step (State.learn_rf _ _ _ _ _) rfl rfl ?_
    exact rf_refl

theorem execEntryAgeOut_rf (x0 x1 s) :
    RF vOut [.front] [0x430007] s (execEntryAgeOut x0 x1 s) := by
  unfold execEntryAgeOut
  refine rf_ite (fun _h0 => ?_) (fun _h1 => ?_)
  · refine rf_next ?_
    exact rf_refl
  · refine rf_next ?_
    refine rf_step (State.setFdb_rf _ _) rfl rfl ?_
    exact rf_refl

theorem execPinExpiry_rf (x0 x1 s) :
    RF vOut [.front] [0x430007] s (execPinExpiry x0 x1 s) := by
  unfold execPinExpiry
  refine rf_next ?_
  refine rf_step (State.setFdb_rf _ _) rfl rfl ?_
  exact rf_refl

theorem execMoveStormEnd_rf (s) :
    RF vOut [.freeCtr, .octets, .front, .pot, .alarms] [0xB20006, 0xB20007, 0xB2000F] s (execMoveStormEnd s) := by
  unfold execMoveStormEnd
  extract_lets v0 v1 v2
  refine rf_cut (W := vS) v2 ?_ (fun h3 => ?_)
  · unfold v2
    refine rf_step (State.setFront_rf _ _) rfl rfl ?_
    exact rf_refl
  refine rf_ite (fun _h4 => ?_) (fun _h5 => ?_)
  · refine rf_next ?_
    refine rf_ite (fun _h6 => ?_) (fun _h7 => ?_)
    · refine rf_step (State.condition_rf _ _ _ _) rfl rfl ?_
      exact h3
    · exact h3
  · refine rf_next ?_
    exact rf_refl

theorem writeStatic_rf (x0 x1 x2 x3 s) :
    RF vOk [.front] [0x430007] s (writeStatic x0 x1 x2 x3 s) := by
  unfold writeStatic
  extract_lets v0 v1
  refine rf_ite (fun _h2 => ?_) (fun _h3 => ?_)
  · refine rf_ite (fun _h4 => ?_) (fun _h5 => ?_)
    · exact rf_error _
    · refine rf_ok ?_
      refine rf_step (State.setFdb_rf _ _) rfl rfl ?_
      exact rf_refl
  · refine rf_ok ?_
    refine rf_step (State.setFdb_rf _ _) rfl rfl ?_
    exact rf_refl

theorem execStaticEntry_rf (x0 x1 x2 x3 x4 s) :
    RF vOut [.reply, .front] [0x430007] s (execStaticEntry x0 x1 x2 x3 x4 s) := by
  unfold execStaticEntry
  refine rf_next ?_
  refine State.actOn_rf rfl ?_ (fun u0 => ?_)
  · exact rf_refl
  · refine rf_step (writeStatic_rf _ _ _ _ _) rfl rfl ?_
    exact rf_refl

theorem execRecalIntervalExpiry_rf (x0 s) :
    RF vOut [.freeCtr, .mode, .octets, .fab, .pot, .sec, .res, .alarms] [0x200004, 0x200005, 0x200006, 0xB10004, 0xB20006, 0xB20007, 0xB2000F] s (execRecalIntervalExpiry x0 s) := by
  unfold execRecalIntervalExpiry
  refine rf_ite (fun _h0 => ?_) (fun _h1 => ?_)
  · refine rf_next ?_
    refine rf_step (State.requestToken_rf _ _ _) rfl rfl ?_
    exact rf_refl
  · refine rf_ite (fun _h2 => ?_) (fun _h3 => ?_)
    · refine rf_next ?_
      refine rf_step (State.requestToken_rf _ _ _) rfl rfl ?_
      exact rf_refl
    · refine rf_next ?_
      exact rf_refl

theorem execLaneRecalibration_rf (x0 s) :
    RF vOut [.freeCtr, .mode, .octets, .time, .front, .fab, .pot, .sec, .res, .alarms] [0x200004, 0x200005, 0x200006, 0xB10004, 0xB20006, 0xB20007, 0xB2000F] s (execLaneRecalibration x0 s) := by
  unfold execLaneRecalibration
  extract_lets v0 v1
  refine rf_cut (W := vS) v1 ?_ (fun h2 => ?_)
  · unfold v1
    refine rf_ite (fun _h3 => ?_) (fun _h4 => ?_)
    · refine rf_step (State.setLane_rf _ _ _) rfl rfl ?_
      exact rf_refl
    · exact rf_refl
  refine rf_ite (fun _h5 => ?_) (fun _h6 => ?_)
  · refine rf_next ?_
    refine rf_step (State.returnToken_rf _ _ _) rfl rfl ?_
    exact h2
  · refine rf_next ?_
    exact rf_refl

theorem State.takePort_rf (s x1) :
    RF vS [.force] [] s (State.takePort s x1) := by
  unfold State.takePort
  extract_lets v0 v1
  refine rf_cut (W := vS) v0 ?_ (fun h2 => ?_)
  · unfold v0
    refine rf_step (State.takeAll_rf _ _ _) rfl rfl ?_
    exact rf_refl
  refine rf_cut (W := vS) v1 ?_ (fun h3 => ?_)
  · unfold v1
    refine rf_step (State.takePtp_rf _ _) rfl rfl ?_
    refine rf_step (State.take_rf _ _ _) rfl rfl ?_
    exact h2
  refine rf_foldl ?_ (fun t4 x5 h6 => ?_)
  · exact h3
  · refine rf_step (State.takeAll_rf _ _ _) rfl rfl ?_
    exact h6

theorem State.portOn_rf (s x1) :
    RF vS [.freeCtr, .mode, .values, .octets, .force, .time, .galley, .edge, .front, .fab, .pot, .res, .alarms] [0x200004, 0x200005, 0x200006, 0x200007, 0x31100C, 0x31100D, 0x410003, 0x414009, 0x41400D, 0x600008, 0x600009, 0x60000A, 0x60000E, 0x60000F, 0x600013, 0x60001D, 0x620007, 0x620009, 0x80000E, 0xB20006, 0xB20007, 0xB2000F] s (State.portOn s x1) := by
  unfold State.portOn
  extract_lets v0 v1 v2 v3 v4 v5 v6 v7 v8
  refine rf_cut (W := vS) v0 ?_ (fun h9 => ?_)
  · unfold v0
    refine rf_step (State.setFlag_rf _ _ _ _) rfl rfl ?_
    exact rf_refl
  refine rf_cut (W := vS) v1 ?_ (fun h10 => ?_)
  · unfold v1
    refine rf_step (State.takePort_rf _ _) rfl rfl ?_
    exact h9
  refine rf_cut (W := vS) v3 ?_ (fun h11 => ?_)
  · unfold v3
    refine rf_step (State.setFront_rf _ _) rfl rfl ?_
    exact h10
  refine rf_cut (W := vS) v5 ?_ (fun h12 => ?_)
  · unfold v5
    refine rf_step (State.setFront_rf _ _) rfl rfl ?_
    exact h11
  refine rf_cut (W := vS) v6 ?_ (fun h13 => ?_)
  · unfold v6
    refine rf_step (State.searchPort_rf _ _) rfl rfl ?_
    exact h12
  refine rf_cut (W := vS) v8 ?_ (fun h14 => ?_)
  · unfold v8
    refine rf_step (State.setPort_rf _ _ _) rfl rfl ?_
    exact h13
  refine rf_ite (fun _h15 => ?_) (fun _h16 => ?_)
  · exact h12
  · refine rf_step (State.portDefect_rf _ _ _ _) rfl rfl ?_
    exact h14

theorem State.portOff_rf (s x1) :
    RF vS [.freeCtr, .mode, .values, .octets, .force, .time, .galley, .edge, .front, .fab, .pot, .res, .alarms] [0x200004, 0x200005, 0x200006, 0x200007, 0x31100C, 0x31100D, 0x410003, 0x414009, 0x41400D, 0x600008, 0x600009, 0x60000A, 0x60000E, 0x60000F, 0x600013, 0x60001D, 0x620007, 0x620009, 0x80000E, 0xB20006, 0xB20007, 0xB2000F] s (State.portOff s x1) := by
  unfold State.portOff
  extract_lets v0 v1 v2 v3 v4 v5 v6 v7
  refine rf_cut (W := vS) v0 ?_ (fun h8 => ?_)
  · unfold v0
    refine rf_step (State.take_rf _ _ _) rfl rfl ?_
    refine rf_step (State.setFlag_rf _ _ _ _) rfl rfl ?_
    exact rf_refl
  refine rf_cut (W := vS) v1 ?_ (fun h9 => ?_)
  · unfold v1
    refine rf_step (State.switchOver_rf _ _) rfl rfl ?_
    exact h8
  refine rf_cut (W := vS) v2 ?_ (fun h10 => ?_)
  · unfold v2
    refine rf_step (State.flushPort_rf _ _) rfl rfl ?_
    exact h9
  refine rf_cut (W := vS) v4 ?_ (fun h11 => ?_)
  · unfold v4
    refine rf_step (State.setFront_rf _ _) rfl rfl ?_
    exact h10
  refine rf_cut (W := vS) v5 ?_ (fun h12 => ?_)
  · unfold v5
    refine rf_foldl ?_ (fun t13 x14 h15 => ?_)
    · exact h11
    · extract_lets v16
      refine rf_step (State.setLane_rf _ _ _) rfl rfl ?_
      exact h15
  refine rf_cut (W := vS) v7 ?_ (fun h17 => ?_)
  · unfold v7
    refine rf_step (State.setPort_rf _ _ _) rfl rfl ?_
    exact h12
  refine rf_ite (fun _h18 => ?_) (fun _h19 => ?_)
  · refine rf_step (State.flowCause_rf _) rfl rfl ?_
    refine rf_step (State.portAlarms_rf _ _ _) rfl rfl ?_
    exact h17
  · exact h8

theorem enablePort_rf (x0 x1 s) :
    RF vOk [.freeCtr, .mode, .values, .octets, .force, .time, .galley, .edge, .front, .fab, .pot, .res, .alarms] [0x200004, 0x200005, 0x200006, 0x200007, 0x31100C, 0x31100D, 0x410003, 0x414009, 0x41400D, 0x600008, 0x600009, 0x60000A, 0x60000E, 0x60000F, 0x600013, 0x60001D, 0x620007, 0x620009, 0x80000E, 0xB20006, 0xB20007, 0xB2000F] s (enablePort x0 x1 s) := by
  unfold enablePort
  refine rf_ite (fun _h0 => ?_) (fun _h1 => ?_)
  · exact rf_error _
  · refine rf_ite (fun _h2 => ?_) (fun _h3 => ?_)
    · exact rf_error _
    · refine rf_ite (fun _h4 => ?_) (fun _h5 => ?_)
      · refine rf_ok ?_
        refine rf_step (State.portOff_rf _ _) rfl rfl ?_
        exact rf_refl
      · split
        · rename_i w6 w7
          refine rf_ok ?_
          refine rf_step (State.portOn_rf _ _) rfl rfl ?_
          exact rf_refl
        · rename_i w8 w9
          exact rf_error _

theorem execPortEnable_rf (x0 x1 s) :
    RF vOut [.reply, .freeCtr, .mode, .values, .octets, .force, .time, .galley, .edge, .front, .fab, .pot, .res, .alarms] [0x200004, 0x200005, 0x200006, 0x200007, 0x31100C, 0x31100D, 0x410003, 0x414009, 0x41400D, 0x600008, 0x600009, 0x60000A, 0x60000E, 0x60000F, 0x600013, 0x60001D, 0x620007, 0x620009, 0x80000E, 0xB20006, 0xB20007, 0xB2000F] s (execPortEnable x0 x1 s) := by
  unfold execPortEnable
  refine rf_next ?_
  refine State.actSel_rf rfl ?_ (fun k1 u0 => ?_)
  · exact rf_refl
  · refine rf_step (enablePort_rf _ _ _) rfl rfl ?_
    exact rf_refl

theorem State.radioOn_rf (s x1) :
    RF vS [.freeCtr, .octets, .force, .edge, .pot, .alarms] [0xB20006, 0xB20007, 0xB2000F] s (State.radioOn s x1) := by
  unfold State.radioOn
  extract_lets v0 v1 v2
  refine rf_cut (W := vS) v0 ?_ (fun h3 => ?_)
  · unfold v0
    refine rf_step (State.takeAll_rf _ _ _) rfl rfl ?_
    exact rf_refl
  refine rf_cut (W := vS) v2 ?_ (fun h4 => ?_)
  · unfold v2
    refine rf_step (State.setRadio_rf _ _ _) rfl rfl ?_
    exact h3
  refine rf_step (State.nsEnter_rf _ _ _ _) rfl rfl ?_
  exact h4

theorem State.flowOn_rf (s x1) :
    RF vS [.freeCtr, .mode, .octets, .force, .edge, .front, .pot, .alarms] [0x200004, 0x200005, 0x200006, 0x200007, 0x414008, 0x414009, 0xB20006, 0xB20007, 0xB2000F] s (State.flowOn s x1) := by
  unfold State.flowOn
  extract_lets v0 v1 v2 v3 v4 v5 v6 v7
  refine rf_cut (W := vS) v0 ?_ (fun h8 => ?_)
  · unfold v0
    refine rf_step (State.takeAll_rf _ _ _) rfl rfl ?_
    refine rf_step (State.setFlag_rf _ _ _ _) rfl rfl ?_
    exact rf_refl
  refine rf_cut (W := vS) v4 ?_ (fun h9 => ?_)
  · unfold v4
    refine rf_step (State.setFront_rf _ _) rfl rfl ?_
    exact h8
  refine rf_cut (W := vS) v5 ?_ (fun h10 => ?_)
  · unfold v5
    refine rf_ite (fun _h11 => ?_) (fun _h12 => ?_)
    · refine rf_step (State.radioOn_rf _ _) rfl rfl ?_
      exact h9
    · exact h9
  refine rf_cut (W := vS) v7 ?_ (fun h13 => ?_)
  · unfold v7
    refine rf_step (State.setFlow_rf _ _ _) rfl rfl ?_
    exact h10
  refine rf_step (State.flowCause_rf _) rfl rfl ?_
  refine rf_step (State.setNum_rf _ _ _ _) rfl rfl ?_
  exact h13

theorem State.flowOff_rf (s x1) :
    RF vS [.freeCtr, .mode, .octets, .force, .front, .pot, .alarms] [0x200004, 0x200005, 0x200006, 0x200007, 0x414008, 0xB20006, 0xB20007, 0xB2000F] s (State.flowOff s x1) := by
  unfold State.flowOff
  extract_lets v0 v1
  refine rf_cut (W := vS) v0 ?_ (fun h2 => ?_)
  · unfold v0
    refine rf_step (State.take_rf _ _ _) rfl rfl ?_
    refine rf_step (State.setFlag_rf _ _ _ _) rfl rfl ?_
    exact rf_refl
  refine rf_step (State.flowCause_rf _) rfl rfl ?_
  refine rf_step (State.setFront_rf _ _) rfl rfl ?_
  exact h2

theorem enableFlow_rf (x0 x1 s) :
    RF vOk [.freeCtr, .mode, .octets, .force, .edge, .front, .pot, .alarms] [0x200004, 0x200005, 0x200006, 0x200007, 0x414008, 0x414009, 0xB20006, 0xB20007, 0xB2000F] s (enableFlow x0 x1 s) := by
  unfold enableFlow
  refine rf_ite (fun _h0 => ?_) (fun _h1 => ?_)
  · exact rf_error _
  · refine rf_ite (fun _h2 => ?_) (fun _h3 => ?_)
    · exact rf_error _
    · refine rf_ite (fun _h4 => ?_) (fun _h5 => ?_)
      · refine rf_ok ?_
        refine rf_step (State.flowOff_rf _ _) rfl rfl ?_
        exact rf_refl
      · split
        · rename_i w6 w7
          refine rf_ok ?_
          refine rf_step (State.flowOn_rf _ _) rfl rfl ?_
          exact rf_refl
        · rename_i w8 w9
          exact rf_error _

theorem execFlowEnable_rf (x0 x1 s) :
    RF vOut [.reply, .freeCtr, .mode, .octets, .force, .edge, .front, .pot, .alarms] [0x200004, 0x200005, 0x200006, 0x200007, 0x414008, 0x414009, 0xB20006, 0xB20007, 0xB2000F] s (execFlowEnable x0 x1 s) := by
  unfold execFlowEnable
  refine rf_next ?_
  refine State.actSel_rf rfl ?_ (fun k1 u0 => ?_)
  · exact rf_refl
  · refine rf_step (enableFlow_rf _ _ _) rfl rfl ?_
    exact rf_refl

theorem enableMacsec_rf (x0 x1 s) :
    RF vOk [] [0x418001] s (enableMacsec x0 x1 s) := by
  unfold enableMacsec
  refine rf_ite (fun _h0 => ?_) (fun _h1 => ?_)
  · exact rf_error _
  · refine rf_ite (fun _h2 => ?_) (fun _h3 => ?_)
    · exact rf_error _
    · refine rf_ok ?_
      refine rf_step (State.setFlag_rf _ _ _ _) rfl rfl ?_
      exact rf_refl

theorem execMacsecEnable_rf (x0 x1 s) :
    RF vOut [.reply] [0x418001] s (execMacsecEnable x0 x1 s) := by
  unfold execMacsecEnable
  refine rf_next ?_
  refine State.actSel_rf rfl ?_ (fun k1 u0 => ?_)
  · exact rf_refl
  · refine rf_step (enableMacsec_rf _ _ _) rfl rfl ?_
    exact rf_refl

end Sys2Proof.Machine
end

