-- ==== Sys2Proof/Laws/FramesEdge.lean ====
section
/-!
SUPPORT. What each operation of Machine/Edge.lean may change, one lemma each.
-/

namespace Sys2Proof.Machine

set_option Elab.async false

open Sys2Proof

theorem State.markFrozen_rf (s x1) :
    RF vS [.edge] [] s (State.markFrozen s x1) := by
  unfold State.markFrozen
  refine rf_foldl ?_ (fun t0 x1 h2 => ?_)
  · exact rf_refl
  · extract_lets v3
    refine rf_step (State.setSctx_rf _ _ _) rfl rfl ?_
    exact h2

theorem execGainChangePoint_rf (x0 s) :
    RF vOut [.edge] [] s (execGainChangePoint x0 s) := by
  unfold execGainChangePoint
  extract_lets v0 v1 v2
  refine rf_ite (fun _h3 => ?_) (fun _h4 => ?_)
  · split
    · rename_i w5 w6 w7
      refine rf_next ?_
      refine rf_step (State.setGroup_rf _ _ _) rfl rfl ?_
      refine rf_step (State.markFrozen_rf _ _) rfl rfl ?_
      exact rf_refl
    · rename_i w8 w9
      refine rf_next ?_
      exact rf_refl
  · refine rf_next ?_
    exact rf_refl

theorem execSearchTrigger_rf (x0 x1 x2 s) :
    RF vOut [.edge] [] s (execSearchTrigger x0 x1 x2 s) := by
  unfold execSearchTrigger
  extract_lets v0
  refine rf_ite (fun _h1 => ?_) (fun _h2 => ?_)
  · refine rf_next ?_
    refine rf_step (State.setSctx_rf _ _ _) rfl rfl ?_
    exact rf_refl
  · refine rf_next ?_
    exact rf_refl

theorem execSearchOccasionEnd_rf (x0 x1 s) :
    RF vOut [.freeCtr, .octets, .edge, .pot, .alarms] [0x82000C, 0x82800B, 0xB20006, 0xB20007, 0xB2000F] s (execSearchOccasionEnd x0 x1 s) := by
  unfold execSearchOccasionEnd
  extract_lets v0 v1 v2 v3
  refine rf_cut (W := vS) v3 ?_ (fun h4 => ?_)
  · unfold v3
    refine rf_upd (b := s) ?_ ⟨fun f hf hv => by cases f <;> first | exact absurd (by decide) hf | exact absurd rfl hv | rfl | exact ⟨rfl, rfl⟩ | exact ⟨rfl, rfl, rfl, rfl, rfl⟩, Or.inr fun _ _ => rfl⟩ (Keeps.of rfl (Nat.le_add_right _ _) rfl)
    exact rf_refl
  split
  · rename_i w5 w6 w7 w8 w9
    extract_lets v10 v11 v12 v13 v14
    refine rf_ite (fun _h15 => ?_) (fun _h16 => ?_)
    · refine rf_next ?_
      refine rf_step (State.raiseAtMost_rf _ _ _ _ _) rfl rfl ?_
      refine rf_step (State.bumpBy_rf _ _ _ _) rfl rfl ?_
      refine rf_step (State.setSctx_rf _ _ _) rfl rfl ?_
      exact h4
    · refine rf_next ?_
      refine rf_step (State.bumpBy_rf _ _ _ _) rfl rfl ?_
      refine rf_step (State.setSctx_rf _ _ _) rfl rfl ?_
      exact h4
  · rename_i w17 w18 w19
    refine rf_next ?_
    exact rf_refl

theorem State.collectProcess_rf (s x1 x2 x3) :
    RF vS [.freeCtr, .mode, .values, .octets, .time, .galley, .vx, .edge, .front, .mogil, .mem, .fab, .pot, .sec, .res, .alarms] [0x200004, 0x200005, 0x200006, 0x600008, 0x600009, 0x60000A, 0x60000E, 0x60000F, 0x600013, 0x60001D, 0x620007, 0x620009, 0x80000E, 0x900001, 0x903007, 0x91000B, 0x91000E, 0x91000F, 0xA4000C, 0xB10004, 0xB20006, 0xB20007, 0xB2000F] s (State.collectProcess s x1 x2 x3) := by
  unfold State.collectProcess
  extract_lets v0 v1 v2
  refine rf_ite (fun _h3 => ?_) (fun _h4 => ?_)
  · refine rf_step (State.engSlugFault_rf _ _ _ _ _) rfl rfl ?_
    exact rf_refl
  · split
    · rename_i w5 w6 w7
      refine rf_pair_snd w7 ?_ (fun h8 => ?_)
      · refine rf_step (State.memWrite_rf _ _ _ _) rfl rfl ?_
        exact rf_refl
      split
      rename_i w9 w10 w11 w12
      refine rf_pair_snd w12 ?_ (fun h13 => ?_)
      · refine rf_ite (fun _h14 => ?_) (fun _h15 => ?_)
        · refine rf_step (State.memWrite_rf _ _ _ _) rfl rfl ?_
          exact h8
        · refine rf_snd ?_
          exact h8
      extract_lets v16 v17
      refine rf_cut (W := vS) v17 ?_ (fun h18 => ?_)
      · unfold v17
        refine rf_step (State.setSctx_rf _ _ _) rfl rfl ?_
        exact h13
      refine rf_ite (fun _h19 => ?_) (fun _h20 => ?_)
      · refine rf_step (State.engSlugFault_rf _ _ _ _ _) rfl rfl ?_
        exact h13
      · refine rf_step (State.engDone_rf _ _ _ _ _) rfl rfl ?_
        exact h18
    · rename_i w21 w22 w23 w24 w25
      refine rf_pair_snd w25 ?_ (fun h26 => ?_)
      · refine rf_step (State.memWrite_rf _ _ _ _) rfl rfl ?_
        exact rf_refl
      refine rf_step (State.engSlugFault_rf _ _ _ _ _) rfl rfl ?_
      exact h26

theorem State.collectStep_rf (s x1 x2 x3) :
    RF vS [.freeCtr, .mode, .values, .octets, .time, .galley, .vx, .edge, .front, .mogil, .mem, .fab, .pot, .sec, .res, .alarms] [0x200004, 0x200005, 0x200006, 0x600008, 0x600009, 0x60000A, 0x60000E, 0x60000F, 0x600013, 0x60001D, 0x620007, 0x620009, 0x80000E, 0x900001, 0x903007, 0x91000B, 0x91000E, 0x91000F, 0xA4000C, 0xB10004, 0xB20006, 0xB20007, 0xB2000F] s (State.collectStep s x1 x2 x3) := by
  unfold State.collectStep
  refine rf_ite (fun _h0 => ?_) (fun _h1 => ?_)
  · exact rf_refl
  · refine rf_step (State.collectProcess_rf _ _ _ _) rfl rfl ?_
    exact rf_refl

theorem State.collectRun_rf (s x1 x2 x3 x4 x5) :
    RF vS [.freeCtr, .mode, .values, .octets, .time, .galley, .vx, .edge, .front, .mogil, .mem, .fab, .pot, .sec, .res, .alarms] [0x200004, 0x200005, 0x200006, 0x600008, 0x600009, 0x60000A, 0x60000E, 0x60000F, 0x600013, 0x60001D, 0x620007, 0x620009, 0x80000E, 0x900001, 0x903007, 0x91000B, 0x91000E, 0x91000F, 0xA4000C, 0xB10004, 0xB20006, 0xB20007, 0xB2000F] s (State.collectRun s x1 x2 x3 x4 x5) := by
  unfold State.collectRun
  extract_lets v0 v1
  refine rf_ite (fun _h2 => ?_) (fun _h3 => ?_)
  · refine rf_step (State.engSlugFault_rf _ _ _ _ _) rfl rfl ?_
    exact rf_refl
  · refine rf_ite (fun _h4 => ?_) (fun _h5 => ?_)
    · refine rf_step (State.engInvalid_rf _ _ _ _ _) rfl rfl ?_
      exact rf_refl
    · refine rf_ite (fun _h6 => ?_) (fun _h7 => ?_)
      · refine rf_step (State.engSlugFault_rf _ _ _ _ _) rfl rfl ?_
        exact rf_refl
      · split
        rename_i w8 w9 w10 w11
        refine rf_pair_snd w11 ?_ (fun h12 => ?_)
        · refine rf_step (State.engAlloc_rf _ _ _ _) rfl rfl ?_
          exact rf_refl
        extract_lets v13
        refine rf_cut (W := vS) v13 ?_ (fun h14 => ?_)
        · unfold v13
          refine rf_step (State.setJob_rf _ _ _ _) rfl rfl ?_
          exact h12
        refine rf_ite (fun _h15 => ?_) (fun _h16 => ?_)
        · exact h14
        · refine rf_step (State.collectStep_rf _ _ _ _) rfl rfl ?_
          exact h14

theorem execCollect_rf (x0 s) :
    RF vOut [.freeCtr, .mode, .values, .octets, .time, .galley, .vx, .edge, .front, .mogil, .mem, .fab, .pot, .sec, .res, .alarms] [0x200004, 0x200005, 0x200006, 0x600008, 0x600009, 0x60000A, 0x60000E, 0x60000F, 0x600013, 0x60001D, 0x620007, 0x620009, 0x80000E, 0x900001, 0x903007, 0x91000B, 0x91000E, 0x91000F, 0xA4000C, 0xB10004, 0xB20006, 0xB20007, 0xB2000F] s (execCollect x0 s) := by
  unfold execCollect
  split
  · rename_i w0 w1
    refine rf_next ?_
    exact rf_refl
  · rename_i w2 w3 w4 w5
    split
    · rename_i w6 w7
      refine rf_next ?_
      exact rf_refl
    · rename_i w8 w9 w10
      refine rf_ite (fun _h11 => ?_) (fun _h12 => ?_)
      · refine rf_next ?_
        exact rf_refl
      · split
        · rename_i w13 w14 w15
          refine rf_next ?_
          refine rf_ite (fun _h16 => ?_) (fun _h17 => ?_)
          · exact rf_refl
          · refine rf_step (State.collectStep_rf _ _ _ _) rfl rfl ?_
            exact rf_refl
        · rename_i w18 w19
          refine rf_ite (fun _h20 => ?_) (fun _h21 => ?_)
          · refine rf_next ?_
            refine rf_step (State.engInvalid_rf _ _ _ _ _) rfl rfl ?_
            exact rf_refl
          · split
            · rename_i w22 w23 w24 w25
              refine rf_pair_22 w25 ?_ (fun h26 => ?_)
              · refine rf_step (State.memRead_rf _ _ _ _) rfl rfl ?_
                exact rf_refl
              refine rf_next ?_
              refine rf_step (State.collectRun_rf _ _ _ _ _ _) rfl rfl ?_
              exact h26
            · rename_i w27 w28 w29 w30 w31 w32
              refine rf_pair_22 w32 ?_ (fun h33 => ?_)
              · refine rf_step (State.memRead_rf _ _ _ _) rfl rfl ?_
                exact rf_refl
              refine rf_next ?_
              refine rf_step (State.engSlugFault_rf _ _ _ _ _) rfl rfl ?_
              exact h33

theorem State.drawLength_rf (s x1) :
    RF vSnd [.freeCtr] [] s (State.drawLength s x1) := by
  unfold State.drawLength
  split
  rename_i w0 w1 w2 w3
  refine rf_pair_snd w3 ?_ (fun h4 => ?_)
  · refine rf_step (State.drawNat_rf _) rfl rfl ?_
    exact rf_refl
  refine rf_snd ?_
  exact h4

theorem State.cplaneMap_rf (s x1 x2) :
    RF vSnd [.freeCtr, .edge] [] s (State.cplaneMap s x1 x2) := by
  unfold State.cplaneMap
  extract_lets v0 v1
  refine rf_ite (fun _h2 => ?_) (fun _h3 => ?_)
  · split
    rename_i w4 w5 w6 w7
    refine rf_pair_snd w7 ?_ (fun h8 => ?_)
    · refine rf_step (State.widthMap_rf _ _ _ _) rfl rfl ?_
      exact rf_refl
    extract_lets v9
    refine rf_snd ?_
    refine rf_step (State.setWset_rf _ _ _ _) rfl rfl ?_
    exact h8
  · refine rf_snd ?_
    exact rf_refl

theorem State.sendCplane_rf (s x1 x2 x3 x4) :
    RF vS [.freeCtr, .values, .octets, .time, .galley, .edge, .front, .fab, .pot, .res, .alarms] [0x31100C, 0x31100D, 0x41400D, 0x600008, 0x600009, 0x60000A, 0x60000E, 0x60000F, 0x600013, 0x60001D, 0x620007, 0x620009, 0x80000E, 0xB20006, 0xB20007, 0xB2000F] s (State.sendCplane s x1 x2 x3 x4) := by
  unfold State.sendCplane
  extract_lets v0 v1 v2 v3 v4 v5
  split
  rename_i w6 w7 w8 w9
  refine rf_pair_snd w9 ?_ (fun h10 => ?_)
  · refine rf_ite (fun _h11 => ?_) (fun _h12 => ?_)
    · refine rf_step (State.cplaneMap_rf _ _ _) rfl rfl ?_
      exact rf_refl
    · refine rf_snd ?_
      exact rf_refl
  split
  rename_i w13 w14 w15 w16
  refine rf_pair_snd w16 ?_ (fun h17 => ?_)
  · refine rf_step (State.drawNat_rf _) rfl rfl ?_
    exact h10
  extract_lets v18 v19 v20
  split
  rename_i w21 w22 w23 w24
  refine rf_pair_snd w24 ?_ (fun h25 => ?_)
  · refine rf_step (State.drawLength_rf _ _) rfl rfl ?_
    exact h17
  extract_lets v26
  refine rf_step (State.handOver_rf _ _ _ _) rfl rfl ?_
  exact h25

theorem State.sendSymbol_rf (x0 x1 x2 x3 x4 x5 s x7) :
    RF vS [.freeCtr, .values, .octets, .time, .galley, .edge, .front, .fab, .pot, .res, .alarms] [0x31100C, 0x31100D, 0x41400D, 0x600008, 0x600009, 0x60000A, 0x60000E, 0x60000F, 0x600013, 0x60001D, 0x620007, 0x620009, 0x80000E, 0x830005, 0xB20006, 0xB20007, 0xB2000F] s (State.sendSymbol x0 x1 x2 x3 x4 x5 s x7) := by
  unfold State.sendSymbol
  extract_lets v0 v1 v2 v3 v4 v5 v6 v7 v8 v9 v10
  refine rf_cut (W := vS) v8 ?_ (fun h11 => ?_)
  · unfold v8
    refine rf_upd (b := s) ?_ ⟨fun f hf hv => by cases f <;> first | exact absurd (by decide) hf | exact absurd rfl hv | rfl | exact ⟨rfl, rfl⟩ | exact ⟨rfl, rfl, rfl, rfl, rfl⟩, Or.inr fun _ _ => rfl⟩ (Keeps.of rfl (Nat.le_add_right _ _) rfl)
    exact rf_refl
  refine rf_ite (fun _h12 => ?_) (fun _h13 => ?_)
  · exact rf_refl
  · split
    rename_i w14 w15 w16 w17
    refine rf_pair_snd w17 ?_ (fun h18 => ?_)
    · refine rf_step (State.drawLength_rf _ _) rfl rfl ?_
      exact h11
    refine rf_step (State.handOver_rf _ _ _ _) rfl rfl ?_
    refine rf_step (State.bumpBy_rf _ _ _ _) rfl rfl ?_
    exact h18

theorem State.startRamp_rf (s x1 x2) :
    RF vS [.edge] [] s (State.startRamp s x1 x2) := by
  unfold State.startRamp
  extract_lets v0 v1
  split
  · rename_i w2 w3 w4
    refine rf_ite (fun _h5 => ?_) (fun _h6 => ?_)
    · refine rf_upd (b := s) ?_ ⟨fun f hf hv => by cases f <;> first | exact absurd (by decide) hf | exact absurd rfl hv | rfl | exact ⟨rfl, rfl⟩ | exact ⟨rfl, rfl, rfl, rfl, rfl⟩, Or.inr fun _ _ => rfl⟩ (Keeps.of rfl (Nat.le_refl _) rfl)
      exact rf_refl
    · exact rf_refl
  · rename_i w7 w8
    exact rf_refl

theorem State.sendUplane_rf (s x1 x2 x3 x4 x5 x6) :
    RF vS [.freeCtr, .values, .octets, .time, .galley, .edge, .front, .fab, .pot, .res, .alarms] [0x31100C, 0x31100D, 0x41400D, 0x600008, 0x600009, 0x60000A, 0x60000E, 0x60000F, 0x600013, 0x60001D, 0x620007, 0x620009, 0x80000E, 0x830005, 0xB20006, 0xB20007, 0xB2000F] s (State.sendUplane s x1 x2 x3 x4 x5 x6) := by
  unfold State.sendUplane
  refine rf_foldl ?_ (fun t0 x1 h2 => ?_)
  · refine rf_step (State.startRamp_rf _ _ _) rfl rfl ?_
    exact rf_refl
  · refine rf_step (State.sendSymbol_rf _ _ _ _ _ _ _ _) rfl rfl ?_
    exact h2

theorem State.cuProcess_rf (s x1 x2 x3 x4) :
    RF vS [.freeCtr, .mode, .values, .octets, .time, .galley, .vx, .edge, .front, .mogil, .mem, .fab, .pot, .sec, .res, .alarms] [0x200004, 0x200005, 0x200006, 0x31100C, 0x31100D, 0x41400D, 0x600008, 0x600009, 0x60000A, 0x60000E, 0x60000F, 0x600013, 0x60001D, 0x620007, 0x620009, 0x80000E, 0x830005, 0x900001, 0x903007, 0x91000B, 0x91000E, 0x91000F, 0xA4000C, 0xB10004, 0xB20006, 0xB20007, 0xB2000F] s (State.cuProcess s x1 x2 x3 x4) := by
  unfold State.cuProcess
  extract_lets v0 v1 v2
  split
  rename_i w3 w4 w5 w6
  refine rf_pair_snd w6 ?_ (fun h7 => ?_)
  · refine rf_ite (fun _h8 => ?_) (fun _h9 => ?_)
    · refine rf_step (State.memWrite_rf _ _ _ _) rfl rfl ?_
      exact rf_refl
    · refine rf_snd ?_
      exact rf_refl
  extract_lets v10
  refine rf_cut (W := vS) v10 ?_ (fun h11 => ?_)
  · unfold v10
    refine rf_step (State.setJob_rf _ _ _ _) rfl rfl ?_
    exact h7
  refine rf_ite (fun _h12 => ?_) (fun _h13 => ?_)
  · refine rf_step (State.engSlugFault_rf _ _ _ _ _) rfl rfl ?_
    exact h7
  · refine rf_ite (fun _h14 => ?_) (fun _h15 => ?_)
    · refine rf_step (State.cuFinish_rf _ _) rfl rfl ?_
      refine rf_step (State.sendCplane_rf _ _ _ _ _) rfl rfl ?_
      exact h11
    · split
      · rename_i w16 w17 w18 w19
        refine rf_pair_22 w19 ?_ (fun h20 => ?_)
        · refine rf_step (State.memRead_rf _ _ _ _) rfl rfl ?_
          exact h11
        refine rf_ite (fun _h21 => ?_) (fun _h22 => ?_)
        · refine rf_step (State.engSlugFault_rf _ _ _ _ _) rfl rfl ?_
          exact h20
        · split
          · rename_i w23 w24 w25 w26
            refine rf_pair_22 w26 ?_ (fun h27 => ?_)
            · refine rf_step (State.memRead_rf _ _ _ _) rfl rfl ?_
              exact h20
            refine rf_step (State.cuFinish_rf _ _) rfl rfl ?_
            refine rf_step (State.sendUplane_rf _ _ _ _ _ _ _) rfl rfl ?_
            exact h27
          · rename_i w28 w29 w30 w31 w32 w33
            refine rf_pair_22 w33 ?_ (fun h34 => ?_)
            · refine rf_step (State.memRead_rf _ _ _ _) rfl rfl ?_
              exact h20
            refine rf_step (State.engSlugFault_rf _ _ _ _ _) rfl rfl ?_
            exact h34
      · rename_i w35 w36 w37 w38 w39 w40
        refine rf_pair_22 w40 ?_ (fun h41 => ?_)
        · refine rf_step (State.memRead_rf _ _ _ _) rfl rfl ?_
          exact h11
        refine rf_step (State.engSlugFault_rf _ _ _ _ _) rfl rfl ?_
        exact h41

theorem State.cuRun_rf (s x1 x2 x3 x4 x5 x6) :
    RF vS [.freeCtr, .mode, .values, .octets, .time, .galley, .vx, .edge, .front, .mogil, .mem, .fab, .pot, .sec, .res, .alarms] [0x200004, 0x200005, 0x200006, 0x31100C, 0x31100D, 0x41400D, 0x600008, 0x600009, 0x60000A, 0x60000E, 0x60000F, 0x600013, 0x60001D, 0x620007, 0x620009, 0x80000E, 0x830005, 0x900001, 0x903007, 0x91000B, 0x91000E, 0x91000F, 0xA4000C, 0xB10004, 0xB20006, 0xB20007, 0xB2000F] s (State.cuRun s x1 x2 x3 x4 x5 x6) := by
  unfold State.cuRun
  extract_lets v0
  refine rf_ite (fun _h1 => ?_) (fun _h2 => ?_)
  · refine rf_step (State.engSlugFault_rf _ _ _ _ _) rfl rfl ?_
    exact rf_refl
  · refine rf_ite (fun _h3 => ?_) (fun _h4 => ?_)
    · refine rf_step (State.engInvalid_rf _ _ _ _ _) rfl rfl ?_
      exact rf_refl
    · refine rf_ite (fun _h5 => ?_) (fun _h6 => ?_)
      · refine rf_step (State.engSlugFault_rf _ _ _ _ _) rfl rfl ?_
        exact rf_refl
      · split
        rename_i w7 w8 w9 w10
        refine rf_pair_snd w10 ?_ (fun h11 => ?_)
        · refine rf_step (State.engAlloc_rf _ _ _ _) rfl rfl ?_
          exact rf_refl
        extract_lets v12
        refine rf_cut (W := vS) v12 ?_ (fun h13 => ?_)
        · unfold v12
          refine rf_step (State.setJob_rf _ _ _ _) rfl rfl ?_
          exact h11
        refine rf_ite (fun _h14 => ?_) (fun _h15 => ?_)
        · exact h13
        · refine rf_step (State.cuProcess_rf _ _ _ _ _) rfl rfl ?_
          exact h13

theorem State.cuJob_rf (s x1 x2) :
    RF vS [.freeCtr, .mode, .values, .octets, .time, .galley, .vx, .edge, .front, .mogil, .mem, .fab, .pot, .sec, .res, .alarms] [0x200004, 0x200005, 0x200006, 0x31100C, 0x31100D, 0x41400D, 0x600008, 0x600009, 0x60000A, 0x60000E, 0x60000F, 0x600013, 0x60001D, 0x620007, 0x620009, 0x80000E, 0x830005, 0x900001, 0x903007, 0x91000B, 0x91000E, 0x91000F, 0xA4000C, 0xB10004, 0xB20006, 0xB20007, 0xB2000F] s (State.cuJob s x1 x2) := by
  unfold State.cuJob
  split
  · rename_i w0 w1
    exact rf_refl
  · rename_i w2 w3 w4 w5
    split
    · rename_i w6 w7
      exact rf_refl
    · rename_i w8 w9 w10
      refine rf_ite (fun _h11 => ?_) (fun _h12 => ?_)
      · exact rf_refl
      · split
        · rename_i w13 w14 w15
          refine rf_ite (fun _h16 => ?_) (fun _h17 => ?_)
          · exact rf_refl
          · refine rf_step (State.cuProcess_rf _ _ _ _ _) rfl rfl ?_
            exact rf_refl
        · rename_i w18 w19
          refine rf_ite (fun _h20 => ?_) (fun _h21 => ?_)
          · refine rf_step (State.engInvalid_rf _ _ _ _ _) rfl rfl ?_
            exact rf_refl
          · split
            · rename_i w22 w23 w24 w25
              refine rf_pair_22 w25 ?_ (fun h26 => ?_)
              · refine rf_step (State.memRead_rf _ _ _ _) rfl rfl ?_
                exact rf_refl
              refine rf_step (State.cuRun_rf _ _ _ _ _ _ _) rfl rfl ?_
              exact h26
            · rename_i w27 w28 w29 w30 w31 w32
              refine rf_pair_22 w32 ?_ (fun h33 => ?_)
              · refine rf_step (State.memRead_rf _ _ _ _) rfl rfl ?_
                exact rf_refl
              refine rf_step (State.engSlugFault_rf _ _ _ _ _) rfl rfl ?_
              exact h33

theorem execUlCplane_rf (x0 s) :
    RF vOut [.freeCtr, .mode, .values, .octets, .time, .galley, .vx, .edge, .front, .mogil, .mem, .fab, .pot, .sec, .res, .alarms] [0x200004, 0x200005, 0x200006, 0x31100C, 0x31100D, 0x41400D, 0x600008, 0x600009, 0x60000A, 0x60000E, 0x60000F, 0x600013, 0x60001D, 0x620007, 0x620009, 0x80000E, 0x830005, 0x900001, 0x903007, 0x91000B, 0x91000E, 0x91000F, 0xA4000C, 0xB10004, 0xB20006, 0xB20007, 0xB2000F] s (execUlCplane x0 s) := by
  unfold execUlCplane
  refine rf_next ?_
  refine rf_step (State.cuJob_rf _ _ _) rfl rfl ?_
  exact rf_refl

theorem execDlCplane_rf (x0 s) :
    RF vOut [.freeCtr, .mode, .values, .octets, .time, .galley, .vx, .edge, .front, .mogil, .mem, .fab, .pot, .sec, .res, .alarms] [0x200004, 0x200005, 0x200006, 0x31100C, 0x31100D, 0x41400D, 0x600008, 0x600009, 0x60000A, 0x60000E, 0x60000F, 0x600013, 0x60001D, 0x620007, 0x620009, 0x80000E, 0x830005, 0x900001, 0x903007, 0x91000B, 0x91000E, 0x91000F, 0xA4000C, 0xB10004, 0xB20006, 0xB20007, 0xB2000F] s (execDlCplane x0 s) := by
  unfold execDlCplane
  refine rf_next ?_
  refine rf_step (State.cuJob_rf _ _ _) rfl rfl ?_
  exact rf_refl

theorem execDlUplane_rf (x0 s) :
    RF vOut [.freeCtr, .mode, .values, .octets, .time, .galley, .vx, .edge, .front, .mogil, .mem, .fab, .pot, .sec, .res, .alarms] [0x200004, 0x200005, 0x200006, 0x31100C, 0x31100D, 0x41400D, 0x600008, 0x600009, 0x60000A, 0x60000E, 0x60000F, 0x600013, 0x60001D, 0x620007, 0x620009, 0x80000E, 0x830005, 0x900001, 0x903007, 0x91000B, 0x91000E, 0x91000F, 0xA4000C, 0xB10004, 0xB20006, 0xB20007, 0xB2000F] s (execDlUplane x0 s) := by
  unfold execDlUplane
  refine rf_next ?_
  refine rf_step (State.cuJob_rf _ _ _) rfl rfl ?_
  exact rf_refl

theorem execNoiseTableWrite_rf (x0 x1 x2 s) :
    RF vOut [.edge] [] s (execNoiseTableWrite x0 x1 x2 s) := by
  unfold execNoiseTableWrite
  refine rf_next ?_
  refine rf_step (State.noiseTable_rf _ _ _ _ _) rfl rfl ?_
  exact rf_refl

theorem execNoiseEstimateTimeout_rf (x0 x1 s) :
    RF vOut [.edge] [] s (execNoiseEstimateTimeout x0 x1 s) := by
  unfold execNoiseEstimateTimeout
  extract_lets v0
  split
  · rename_i w1 w2 w3
    refine rf_ite (fun _h4 => ?_) (fun _h5 => ?_)
    · refine rf_next ?_
      refine rf_step (State.setWset_rf _ _ _ _) rfl rfl ?_
      exact rf_refl
    · refine rf_next ?_
      exact rf_refl
  · rename_i w6 w7
    refine rf_next ?_
    exact rf_refl

theorem execNsFallback_rf (x0 s) :
    RF vOut [.freeCtr, .octets, .edge, .pot, .alarms] [0xB20006, 0xB20007, 0xB2000F] s (execNsFallback x0 s) := by
  unfold execNsFallback
  extract_lets v0
  refine rf_ite (fun _h1 => ?_) (fun _h2 => ?_)
  · refine rf_next ?_
    refine rf_step (State.nsEnter_rf _ _ _ _) rfl rfl ?_
    exact rf_refl
  · refine rf_next ?_
    exact rf_refl

theorem execNsRetryOffer_rf (x0 s) :
    RF vOut [.freeCtr, .octets, .edge, .pot, .alarms] [0xB20006, 0xB20007, 0xB2000F] s (execNsRetryOffer x0 s) := by
  unfold execNsRetryOffer
  extract_lets v0
  refine rf_ite (fun _h1 => ?_) (fun _h2 => ?_)
  · refine rf_next ?_
    refine rf_step (State.nsEnter_rf _ _ _ _) rfl rfl ?_
    exact rf_refl
  · refine rf_next ?_
    exact rf_refl

theorem State.edgeFault_rf (s x1 x2) :
    RF vS [.freeCtr, .mode, .values, .octets, .force, .galley, .vx, .edge, .front, .fab, .pot, .res, .alarms] [0x200004, 0x200005, 0x200006, 0x200007, 0x600008, 0x600009, 0x60000A, 0x60000C, 0x60000D, 0x60000E, 0x60001D, 0x620007, 0x620009, 0x700009, 0x800007, 0x80000E, 0x82000B, 0x903007, 0xB20006, 0xB20007, 0xB2000F, 0xE00006] s (State.edgeFault s x1 x2) := by
  unfold State.edgeFault
  extract_lets v0
  refine rf_step (State.anyFault_rf _ _ _ _ _ _) rfl rfl ?_
  exact rf_refl

theorem execFuUnitFault_rf (x0 s) :
    RF vOut [.freeCtr, .mode, .values, .octets, .force, .galley, .vx, .edge, .front, .fab, .pot, .res, .alarms] [0x200004, 0x200005, 0x200006, 0x200007, 0x600008, 0x600009, 0x60000A, 0x60000C, 0x60000D, 0x60000E, 0x60001D, 0x620007, 0x620009, 0x700009, 0x800007, 0x80000E, 0x82000B, 0x903007, 0xB20006, 0xB20007, 0xB2000F, 0xE00006] s (execFuUnitFault x0 s) := by
  unfold execFuUnitFault
  refine rf_ite (fun _h0 => ?_) (fun _h1 => ?_)
  · refine rf_next ?_
    refine rf_step (State.edgeFault_rf _ _ _) rfl rfl ?_
    exact rf_refl
  · refine rf_next ?_
    exact rf_refl

theorem execCuUnitFault_rf (x0 s) :
    RF vOut [.freeCtr, .mode, .values, .octets, .force, .galley, .vx, .edge, .front, .fab, .pot, .res, .alarms] [0x200004, 0x200005, 0x200006, 0x200007, 0x600008, 0x600009, 0x60000A, 0x60000C, 0x60000D, 0x60000E, 0x60001D, 0x620007, 0x620009, 0x700009, 0x800007, 0x80000E, 0x82000B, 0x903007, 0xB20006, 0xB20007, 0xB2000F, 0xE00006] s (execCuUnitFault x0 s) := by
  unfold execCuUnitFault
  refine rf_ite (fun _h0 => ?_) (fun _h1 => ?_)
  · refine rf_next ?_
    refine rf_step (State.edgeFault_rf _ _ _) rfl rfl ?_
    exact rf_refl
  · refine rf_next ?_
    exact rf_refl

theorem execFuGroupMove_rf (x0 s) :
    RF vOut [.freeCtr, .mode, .octets, .edge, .pot, .alarms] [0x200004, 0x200005, 0x200006, 0x200007, 0xB20006, 0xB20007, 0xB2000F] s (execFuGroupMove x0 s) := by
  unfold execFuGroupMove
  extract_lets v0
  refine rf_ite (fun _h1 => ?_) (fun _h2 => ?_)
  · split
    · rename_i w3 w4 w5
      extract_lets v6 v7 v8 v9
      refine rf_cut (W := vS) v6 ?_ (fun h10 => ?_)
      · unfold v6
        refine rf_step (State.setGroup_rf _ _ _) rfl rfl ?_
        exact rf_refl
      refine rf_cut (W := vS) v9 ?_ (fun h11 => ?_)
      · unfold v9
        clear_value v6
        refine rf_upd (b := v6) ?_ ⟨fun f hf hv => by cases f <;> first | exact absurd (by decide) hf | exact absurd rfl hv | rfl | exact ⟨rfl, rfl⟩ | exact ⟨rfl, rfl, rfl, rfl, rfl⟩, Or.inr fun _ _ => rfl⟩ (Keeps.of rfl (Nat.le_refl _) rfl)
        exact h10
      refine rf_next ?_
      refine rf_ite (fun _h12 => ?_) (fun _h13 => ?_)
      · refine rf_step (State.setCause_rf _ _ _) rfl rfl ?_
        exact h11
      · exact h11
    · rename_i w14 w15
      refine rf_next ?_
      refine rf_step (State.setCause_rf _ _ _) rfl rfl ?_
      exact rf_refl
  · refine rf_next ?_
    exact rf_refl

theorem execCuReplace_rf (x0 s) :
    RF vOut [.freeCtr, .mode, .octets, .force, .galley, .vx, .edge, .pot, .alarms] [0x200004, 0x200005, 0x200006, 0x200007, 0x700009, 0xB20006, 0xB20007, 0xB2000F] s (execCuReplace x0 s) := by
  unfold execCuReplace
  extract_lets v0 v1
  refine rf_ite (fun _h2 => ?_) (fun _h3 => ?_)
  · split
    · rename_i w4 w5 w6
      refine rf_pair_fst w6 ?_ (fun h7 => ?_)
      · refine rf_step (State.promote_rf _ _ _) rfl rfl ?_
        exact rf_refl
      extract_lets v8 v9
      refine rf_cut (W := vS) v9 ?_ (fun h10 => ?_)
      · unfold v9
        refine rf_upd (b := w5) ?_ ⟨fun f hf hv => by cases f <;> first | exact absurd (by decide) hf | exact absurd rfl hv | rfl | exact ⟨rfl, rfl⟩ | exact ⟨rfl, rfl, rfl, rfl, rfl⟩, Or.inr fun _ _ => rfl⟩ (Keeps.of rfl (Nat.le_refl _) rfl)
        exact h7
      refine rf_next ?_
      refine rf_step (State.setCause_rf _ _ _) rfl rfl ?_
      exact h10
    · rename_i w11 w12 w13
      refine rf_pair_fst w13 ?_ (fun h14 => ?_)
      · refine rf_step (State.promote_rf _ _ _) rfl rfl ?_
        exact rf_refl
      refine rf_next ?_
      exact h14
  · refine rf_next ?_
    exact rf_refl

theorem State.rampOn_rf (s x1) :
    RF vS [.force, .edge] [0x824005] s (State.rampOn s x1) := by
  unfold State.rampOn
  extract_lets v0 v1
  refine rf_cut (W := vS) v0 ?_ (fun h2 => ?_)
  · unfold v0
    refine rf_step (State.take_rf _ _ _) rfl rfl ?_
    refine rf_step (State.setFlag_rf _ _ _ _) rfl rfl ?_
    exact rf_refl
  clear_value v0
  refine rf_upd (b := v0) ?_ ⟨fun f hf hv => by cases f <;> first | exact absurd (by decide) hf | exact absurd rfl hv | rfl | exact ⟨rfl, rfl⟩ | exact ⟨rfl, rfl, rfl, rfl, rfl⟩, Or.inr fun _ _ => rfl⟩ (Keeps.of rfl (Nat.le_refl _) rfl)
  exact h2

theorem enableRamp_rf (x0 x1 s) :
    RF vOk [.force, .edge] [0x824005] s (enableRamp x0 x1 s) := by
  unfold enableRamp
  extract_lets v0 v1
  refine rf_cut (W := vS) v0 ?_ (fun h2 => ?_)
  · unfold v0
    refine rf_step (State.take_rf _ _ _) rfl rfl ?_
    refine rf_step (State.setFlag_rf _ _ _ _) rfl rfl ?_
    exact rf_refl
  refine rf_ite (fun _h3 => ?_) (fun _h4 => ?_)
  · exact rf_error _
  · refine rf_ite (fun _h5 => ?_) (fun _h6 => ?_)
    · exact rf_error _
    · refine rf_ite (fun _h7 => ?_) (fun _h8 => ?_)
      · refine rf_ok ?_
        clear_value v0
        refine rf_upd (b := v0) ?_ ⟨fun f hf hv => by cases f <;> first | exact absurd (by decide) hf | exact absurd rfl hv | rfl | exact ⟨rfl, rfl⟩ | exact ⟨rfl, rfl, rfl, rfl, rfl⟩, Or.inr fun _ _ => rfl⟩ (Keeps.of rfl (Nat.le_refl _) rfl)
        exact h2
      · split
        · rename_i w9 w10
          refine rf_ok ?_
          refine rf_step (State.rampOn_rf _ _) rfl rfl ?_
          exact rf_refl
        · rename_i w11 w12
          exact rf_error _

theorem execRampEnable_rf (x0 x1 s) :
    RF vOut [.reply, .force, .edge] [0x824005] s (execRampEnable x0 x1 s) := by
  unfold execRampEnable
  refine rf_next ?_
  refine State.actSel_rf rfl ?_ (fun k1 u0 => ?_)
  · exact rf_refl
  · refine rf_step (enableRamp_rf _ _ _) rfl rfl ?_
    exact rf_refl

theorem execRcoEdge_rf (x0 s) :
    RF vOut [.edge, .pins] [] s (execRcoEdge x0 s) := by
  unfold execRcoEdge
  extract_lets v0
  refine rf_ite (fun _h1 => ?_) (fun _h2 => ?_)
  · refine rf_next ?_
    refine rf_step (State.noteSinks_rf _) rfl rfl ?_
    refine rf_upd (b := s) ?_ ⟨fun f hf hv => by cases f <;> first | exact absurd (by decide) hf | exact absurd rfl hv | rfl | exact ⟨rfl, rfl⟩ | exact ⟨rfl, rfl, rfl, rfl, rfl⟩, Or.inr fun _ _ => rfl⟩ (Keeps.of rfl (Nat.le_refl _) rfl)
    exact rf_refl
  · refine rf_next ?_
    exact rf_refl

theorem State.groupOn_rf (s x1) :
    RF vS [.force, .edge] [0x822009] s (State.groupOn s x1) := by
  unfold State.groupOn
  extract_lets v0 v1 v2
  refine rf_cut (W := vS) v0 ?_ (fun h3 => ?_)
  · unfold v0
    refine rf_step (State.takeAll_rf _ _ _) rfl rfl ?_
    refine rf_step (State.setFlag_rf _ _ _ _) rfl rfl ?_
    exact rf_refl
  refine rf_cut (W := vS) v1 ?_ (fun h4 => ?_)
  · unfold v1
    refine rf_ite (fun _h5 => ?_) (fun _h6 => ?_)
    · exact h3
    · refine rf_step (State.setGroup_rf _ _ _) rfl rfl ?_
      exact h3
  clear_value v1
  refine rf_upd (b := v1) ?_ ⟨fun f hf hv => by cases f <;> first | exact absurd (by decide) hf | exact absurd rfl hv | rfl | exact ⟨rfl, rfl⟩ | exact ⟨rfl, rfl, rfl, rfl, rfl⟩, Or.inr fun _ _ => rfl⟩ (Keeps.of rfl (Nat.le_refl _) rfl)
  exact h4

theorem enableGroup_rf (x0 x1 s) :
    RF vOk [.freeCtr, .mode, .octets, .force, .edge, .pot, .alarms] [0x200004, 0x200005, 0x200006, 0x200007, 0x822009, 0xB20006, 0xB20007, 0xB2000F] s (enableGroup x0 x1 s) := by
  unfold enableGroup
  extract_lets v0 v1 v2
  refine rf_cut (W := vS) v0 ?_ (fun h3 => ?_)
  · unfold v0
    refine rf_step (State.take_rf _ _ _) rfl rfl ?_
    refine rf_step (State.setFlag_rf _ _ _ _) rfl rfl ?_
    exact rf_refl
  refine rf_cut (W := vS) v2 ?_ (fun h4 => ?_)
  · unfold v2
    clear_value v0
    refine rf_upd (b := v0) ?_ ⟨fun f hf hv => by cases f <;> first | exact absurd (by decide) hf | exact absurd rfl hv | rfl | exact ⟨rfl, rfl⟩ | exact ⟨rfl, rfl, rfl, rfl, rfl⟩, Or.inr fun _ _ => rfl⟩ (Keeps.of rfl (Nat.le_refl _) rfl)
    exact h3
  refine rf_ite (fun _h5 => ?_) (fun _h6 => ?_)
  · exact rf_error _
  · refine rf_ite (fun _h7 => ?_) (fun _h8 => ?_)
    · exact rf_error _
    · refine rf_ite (fun _h9 => ?_) (fun _h10 => ?_)
      · refine rf_ok ?_
        refine rf_ite (fun _h11 => ?_) (fun _h12 => ?_)
        · refine rf_step (State.setCause_rf _ _ _) rfl rfl ?_
          exact h4
        · exact h4
      · split
        · rename_i w13 w14
          refine rf_ok ?_
          refine rf_step (State.groupOn_rf _ _) rfl rfl ?_
          exact rf_refl
        · rename_i w15 w16
          exact rf_error _

theorem execGroupEnable_rf (x0 x1 s) :
    RF vOut [.reply, .freeCtr, .mode, .octets, .force, .edge, .pot, .alarms] [0x200004, 0x200005, 0x200006, 0x200007, 0x822009, 0xB20006, 0xB20007, 0xB2000F] s (execGroupEnable x0 x1 s) := by
  unfold execGroupEnable
  refine rf_next ?_
  refine State.actSel_rf rfl ?_ (fun k1 u0 => ?_)
  · exact rf_refl
  · refine rf_step (enableGroup_rf _ _ _) rfl rfl ?_
    exact rf_refl

theorem State.contextOn_rf (s x1) :
    RF vS [.force, .edge] [0x82800A] s (State.contextOn s x1) := by
  have h : RF vS [.force, .edge] [0x82800A] s ((s.setFlag OD.contextEnable x1 true).takeAll [OD.contextGroup, OD.ctxFormat, OD.roots,
    OD.freqOffset, OD.schedule, OD.threshold, OD.triggerLevel, OD.occasionFreeze, OD.contextEnable] x1) :=
    rf_step (State.takeAll_rf _ _ x1) rfl rfl (rf_step (State.setFlag_rf _ _ _ _) rfl rfl rf_refl)
  unfold State.contextOn
  generalize (s.setFlag OD.contextEnable x1 true).takeAll [OD.contextGroup, OD.ctxFormat, OD.roots,
    OD.freqOffset, OD.schedule, OD.threshold, OD.triggerLevel, OD.occasionFreeze, OD.contextEnable] x1 = t at h
  have h' (e : EdgeSt) : RF vS [.force, .edge] [0x82800A] s { t with edge := e } :=
    rf_upd (b := t) h ⟨fun f hf hv => by cases f <;> first | exact absurd (by decide) hf | exact absurd rfl hv | rfl | exact ⟨rfl, rfl⟩ | exact ⟨rfl, rfl, rfl, rfl, rfl⟩, Or.inr fun _ _ => rfl⟩ (Keeps.of rfl (Nat.le_refl _) rfl)
  extract_lets _ e t'
  replace h' : RF vS [.force, .edge] [0x82800A] s t' := h' _
  clear_value t'
  exact rf_ite (fun _ => h') (fun _ => rf_step (State.setSctx_rf _ _ _) rfl rfl h')

theorem enableContext_rf (x0 x1 s) :
    RF vOk [.force, .edge] [0x82800A] s (enableContext x0 x1 s) := by
  unfold enableContext
  extract_lets v0 v1
  refine rf_cut (W := vS) v0 ?_ (fun h2 => ?_)
  · unfold v0
    refine rf_step (State.take_rf _ _ _) rfl rfl ?_
    refine rf_step (State.setFlag_rf _ _ _ _) rfl rfl ?_
    exact rf_refl
  refine rf_ite (fun _h3 => ?_) (fun _h4 => ?_)
  · exact rf_error _
  · refine rf_ite (fun _h5 => ?_) (fun _h6 => ?_)
    · exact rf_error _
    · refine rf_ite (fun _h7 => ?_) (fun _h8 => ?_)
      · refine rf_ok ?_
        clear_value v0
        refine rf_upd (b := v0) ?_ ⟨fun f hf hv => by cases f <;> first | exact absurd (by decide) hf | exact absurd rfl hv | rfl | exact ⟨rfl, rfl⟩ | exact ⟨rfl, rfl, rfl, rfl, rfl⟩, Or.inr fun _ _ => rfl⟩ (Keeps.of rfl (Nat.le_refl _) rfl)
        exact h2
      · split
        · rename_i w9 w10
          refine rf_ok ?_
          refine rf_step (State.contextOn_rf _ _) rfl rfl ?_
          exact rf_refl
        · rename_i w11 w12
          exact rf_error _

theorem execContextEnable_rf (x0 x1 s) :
    RF vOut [.reply, .force, .edge] [0x82800A] s (execContextEnable x0 x1 s) := by
  unfold execContextEnable
  refine rf_next ?_
  refine State.actSel_rf rfl ?_ (fun k1 u0 => ?_)
  · exact rf_refl
  · refine rf_step (enableContext_rf _ _ _) rfl rfl ?_
    exact rf_refl

end Sys2Proof.Machine
end

