-- ==== Sys2Proof/Laws/FramesMogil.lean ====
section
/-!
SUPPORT. What each operation of Machine/Mogil.lean may change, one lemma each.
-/

namespace Sys2Proof.Machine

set_option Elab.async false

open Sys2Proof

theorem State.setMogil_rf (s x1) :
    RF vS [.mogil] [] s (State.setMogil s x1) := by
  unfold State.setMogil
  refine rf_upd (b := s) ?_ ⟨fun f hf hv => by cases f <;> first | exact absurd (by decide) hf | exact absurd rfl hv | rfl | exact ⟨rfl, rfl⟩ | exact ⟨rfl, rfl, rfl, rfl, rfl⟩, Or.inr fun _ _ => rfl⟩ (Keeps.of rfl (Nat.le_refl _) rfl)
  exact rf_refl

theorem State.negotiate_rf (s x1) :
    RF vS [.mogil] [] s (State.negotiate s x1) := by
  unfold State.negotiate
  extract_lets v0 v1
  split
  rename_i w2 w3 w4 w5
  refine rf_step (State.sendCell_rf _ _ _ _) rfl rfl ?_
  refine rf_step (State.setGrp_rf _ _ _) rfl rfl ?_
  exact rf_refl

theorem execMogilMarkerRx_rf (x0 x1 s) :
    RF vOut [.freeCtr, .octets, .mogil, .fab, .pot, .alarms] [0x501004, 0x50100C, 0xB20006, 0xB20007, 0xB2000F] s (execMogilMarkerRx x0 x1 s) := by
  unfold execMogilMarkerRx
  extract_lets v0 v1 v2 v3 v4 v5 v6 v7 v8 v9 v10 v11 v12 v13 v14 v15
  refine rf_cut (W := vS) v8 ?_ (fun h16 => ?_)
  · unfold v8
    refine rf_step (State.bumpBy_rf _ _ _ _) rfl rfl ?_
    refine rf_step (State.setGrp_rf _ _ _) rfl rfl ?_
    exact rf_refl
  refine rf_cut (W := vS) v9 ?_ (fun h17 => ?_)
  · unfold v9
    refine rf_ite (fun _h18 => ?_) (fun _h19 => ?_)
    · refine rf_step (State.setNum_rf _ _ _ _) rfl rfl ?_
      exact h16
    · exact h16
  refine rf_cut (W := vS) v10 ?_ (fun h20 => ?_)
  · unfold v10
    refine rf_ite (fun _h21 => ?_) (fun _h22 => ?_)
    · refine rf_step (State.setDefect_rf _ _ _ _) rfl rfl ?_
      refine rf_step (State.setDefect_rf _ _ _ _) rfl rfl ?_
      exact h17
    · exact h17
  refine rf_cut (W := vS) v11 ?_ (fun h23 => ?_)
  · unfold v11
    refine rf_step (State.setDefect_rf _ _ _ _) rfl rfl ?_
    exact h20
  refine rf_cut (W := vS) v12 ?_ (fun h24 => ?_)
  · unfold v12
    refine rf_step (State.setDefect_rf _ _ _ _) rfl rfl ?_
    exact h23
  refine rf_cut (W := vS) v13 ?_ (fun h25 => ?_)
  · unfold v13
    refine rf_step (State.setDefect_rf _ _ _ _) rfl rfl ?_
    exact h24
  refine rf_cut (W := vS) v14 ?_ (fun h26 => ?_)
  · unfold v14
    refine rf_step (State.setDefect_rf _ _ _ _) rfl rfl ?_
    exact h25
  refine rf_ite (fun _h27 => ?_) (fun _h28 => ?_)
  · refine rf_next ?_
    exact rf_refl
  · refine rf_ite (fun _h29 => ?_) (fun _h30 => ?_)
    · refine rf_next ?_
      refine rf_step (State.negotiate_rf _ _) rfl rfl ?_
      refine rf_step (State.setGrp_rf _ _ _) rfl rfl ?_
      exact h26
    · refine rf_next ?_
      exact h26

theorem State.acceptCell_rf (s x1 x2 x3) :
    RF vSnd [.mogil] [] s (State.acceptCell s x1 x2 x3) := by
  unfold State.acceptCell
  extract_lets v0 v1
  refine rf_ite (fun _h2 => ?_) (fun _h3 => ?_)
  · refine rf_snd ?_
    exact rf_refl
  · refine rf_ite (fun _h4 => ?_) (fun _h5 => ?_)
    · refine rf_snd ?_
      refine rf_step (State.setGrp_rf _ _ _) rfl rfl ?_
      exact rf_refl
    · refine rf_snd ?_
      exact rf_refl

theorem State.takeAck_rf (s x1 x2) :
    RF vS [.mogil] [0x501009] s (State.takeAck s x1 x2) := by
  unfold State.takeAck
  extract_lets v0 v1 v2
  refine rf_cut (W := vS) v2 ?_ (fun h3 => ?_)
  · unfold v2
    refine rf_step (State.setGrp_rf _ _ _) rfl rfl ?_
    exact rf_refl
  refine rf_ite (fun _h4 => ?_) (fun _h5 => ?_)
  · refine rf_step (State.resendDue_rf _ _) rfl rfl ?_
    exact h3
  · exact h3

theorem execMogilLinkCellRx_rf (x0 x1 s) :
    RF vOut [.mogil] [0x501009] s (execMogilLinkCellRx x0 x1 s) := by
  unfold execMogilLinkCellRx
  split
  · rename_i w0 w1 w2
    refine rf_pair_snd w2 ?_ (fun h3 => ?_)
    · refine rf_step (State.acceptCell_rf _ _ _ _) rfl rfl ?_
      exact rf_refl
    refine rf_next ?_
    refine rf_step (State.takeAck_rf _ _ _) rfl rfl ?_
    exact h3
  · rename_i w4 w5 w6
    refine rf_pair_snd w6 ?_ (fun h7 => ?_)
    · refine rf_step (State.acceptCell_rf _ _ _ _) rfl rfl ?_
      exact rf_refl
    refine rf_next ?_
    exact h7

theorem execMogilNakRx_rf (x0 x1 s) :
    RF vOut [.freeCtr, .octets, .mogil, .fab, .pot, .alarms] [0x501009, 0xB20006, 0xB20007, 0xB2000F] s (execMogilNakRx x0 x1 s) := by
  unfold execMogilNakRx
  split
  · rename_i w0 w1 w2
    refine rf_pair_snd w2 ?_ (fun h3 => ?_)
    · refine rf_step (State.acceptCell_rf _ _ _ _) rfl rfl ?_
      exact rf_refl
    refine rf_next ?_
    refine rf_ite (fun _h4 => ?_) (fun _h5 => ?_)
    · refine rf_step (State.resendAll_rf _ _) rfl rfl ?_
      refine rf_step (State.takeAck_rf _ _ _) rfl rfl ?_
      exact h3
    · exact h3
  · rename_i w6 w7 w8
    refine rf_pair_snd w8 ?_ (fun h9 => ?_)
    · refine rf_step (State.acceptCell_rf _ _ _ _) rfl rfl ?_
      exact rf_refl
    refine rf_next ?_
    exact h9

theorem execMogilLinkCellSend_rf (x0 s) :
    RF vOut [.mogil] [] s (execMogilLinkCellSend x0 s) := by
  unfold execMogilLinkCellSend
  refine rf_ite (fun _h0 => ?_) (fun _h1 => ?_)
  · refine rf_next ?_
    exact rf_refl
  · refine rf_next ?_
    refine rf_step (State.sendCell_rf _ _ _ _) rfl rfl ?_
    exact rf_refl

theorem State.sendKex_rf (s x1 x2) :
    RF vS [.freeCtr, .mogil] [] s (State.sendKex s x1 x2) := by
  unfold State.sendKex
  extract_lets v0 v1 v2
  refine rf_cut (W := vS) v2 ?_ (fun h3 => ?_)
  · unfold v2
    refine rf_upd (b := s) ?_ ⟨fun f hf hv => by cases f <;> first | exact absurd (by decide) hf | exact absurd rfl hv | rfl | exact ⟨rfl, rfl⟩ | exact ⟨rfl, rfl, rfl, rfl, rfl⟩, Or.inr fun _ _ => rfl⟩ (Keeps.of rfl (Nat.le_add_right _ _) rfl)
    exact rf_refl
  refine rf_foldl ?_ (fun t4 x5 h6 => ?_)
  · exact h3
  · refine rf_step (State.sendCell_rf _ _ _ _) rfl rfl ?_
    exact h6

theorem State.startKex_rf (s) :
    RF vS [.freeCtr, .mogil] [] s (State.startKex s) := by
  unfold State.startKex
  refine rf_ite (fun _h0 => ?_) (fun _h1 => ?_)
  · exact rf_refl
  · split
    · rename_i w2 w3 w4
      extract_lets v5 v6 v7
      refine rf_cut (W := vS) v6 ?_ (fun h8 => ?_)
      · unfold v6
        refine rf_step (State.sendKex_rf _ _ _) rfl rfl ?_
        refine rf_step (State.setGrp_rf _ _ _) rfl rfl ?_
        exact rf_refl
      refine rf_step (State.setMogil_rf _ _) rfl rfl ?_
      exact h8
    · rename_i w9 w10
      exact rf_refl

theorem State.sendConfirm_rf (s x1) :
    RF vS [.mogil] [] s (State.sendConfirm s x1) := by
  unfold State.sendConfirm
  extract_lets v0
  refine rf_step (State.sendCell_rf _ _ _ _) rfl rfl ?_
  exact rf_refl

theorem State.secureAll_rf (s) :
    RF vS [.mogil] [] s (State.secureAll s) := by
  unfold State.secureAll
  refine rf_foldl ?_ (fun t0 x1 h2 => ?_)
  · exact rf_refl
  · extract_lets v3
    refine rf_ite (fun _h4 => ?_) (fun _h5 => ?_)
    · refine rf_step (State.sendConfirm_rf _ _) rfl rfl ?_
      refine rf_step (State.setGrp_rf _ _ _) rfl rfl ?_
      exact h2
    · exact h2

theorem State.startSession_rf (s x1) :
    RF vS [.mogil] [] s (State.startSession s x1) := by
  unfold State.startSession
  extract_lets v0
  refine rf_step (State.setGrp_rf _ _ _) rfl rfl ?_
  exact rf_refl

theorem State.newSession_rf (s) :
    RF vS [.mogil] [] s (State.newSession s) := by
  unfold State.newSession
  extract_lets v0 v1
  refine rf_cut (W := vS) v0 ?_ (fun h2 => ?_)
  · unfold v0
    refine rf_foldl ?_ (fun t3 x4 h5 => ?_)
    · exact rf_refl
    · refine rf_ite (fun _h6 => ?_) (fun _h7 => ?_)
      · exact h5
      · refine rf_step (State.startSession_rf _ _) rfl rfl ?_
        exact h5
  refine rf_step (State.secureAll_rf _) rfl rfl ?_
  refine rf_step (State.setMogil_rf _ _) rfl rfl ?_
  exact h2

theorem State.renewSession_rf (s x1) :
    RF vS [.freeCtr, .octets, .mogil, .fab, .pot, .alarms] [0xB20006, 0xB20007, 0xB2000F] s (State.renewSession s x1) := by
  unfold State.renewSession
  extract_lets v0 v1 v2 v3
  refine rf_cut (W := vS) v1 ?_ (fun h4 => ?_)
  · unfold v1
    refine rf_foldl ?_ (fun t5 x6 h7 => ?_)
    · exact rf_refl
    · extract_lets v8
      refine rf_ite (fun _h9 => ?_) (fun _h10 => ?_)
      · refine rf_step (State.setGrp_rf _ _ _) rfl rfl ?_
        exact h7
      · exact h7
  refine rf_cut (W := vS) v3 ?_ (fun h11 => ?_)
  · unfold v3
    refine rf_step (State.setMogil_rf _ _) rfl rfl ?_
    exact h4
  refine rf_ite (fun _h12 => ?_) (fun _h13 => ?_)
  · refine rf_step (State.startKex_rf _) rfl rfl ?_
    refine rf_step (State.leaveTo_rf _ _ _) rfl rfl ?_
    exact h11
  · exact rf_refl

theorem State.renewNext_rf (s) :
    RF vS [.freeCtr, .octets, .mogil, .fab, .pot, .alarms] [0xB20006, 0xB20007, 0xB2000F] s (State.renewNext s) := by
  unfold State.renewNext
  refine rf_ite (fun _h0 => ?_) (fun _h1 => ?_)
  · split
    · rename_i w2 w3 w4
      extract_lets v5 v6
      refine rf_cut (W := vS) v5 ?_ (fun h7 => ?_)
      · unfold v5
        refine rf_step (State.startSession_rf _ _) rfl rfl ?_
        refine rf_step (State.leaveTo_rf _ _ _) rfl rfl ?_
        exact rf_refl
      refine rf_step (State.sendConfirm_rf _ _) rfl rfl ?_
      refine rf_step (State.setGrp_rf _ _ _) rfl rfl ?_
      exact h7
    · rename_i w8 w9
      exact rf_refl
  · exact rf_refl

theorem State.toSecuring_rf (s x1 x2) :
    RF vS [.freeCtr, .mogil] [] s (State.toSecuring s x1 x2) := by
  unfold State.toSecuring
  extract_lets v0 v1 v2
  refine rf_cut (W := vS) v1 ?_ (fun h3 => ?_)
  · unfold v1
    refine rf_step (State.setGrp_rf _ _ _) rfl rfl ?_
    exact rf_refl
  refine rf_ite (fun _h4 => ?_) (fun _h5 => ?_)
  · refine rf_step (State.sendConfirm_rf _ _) rfl rfl ?_
    refine rf_step (State.setGrp_rf _ _ _) rfl rfl ?_
    exact h3
  · refine rf_step (State.startKex_rf _) rfl rfl ?_
    exact h3

theorem execMogilVersionRx_rf (x0 x1 x2 x3 s) :
    RF vOut [.freeCtr, .octets, .mogil, .fab, .pot, .alarms] [0xB20006, 0xB20007, 0xB2000F] s (execMogilVersionRx x0 x1 x2 x3 s) := by
  unfold execMogilVersionRx
  split
  · rename_i w0 w1 w2
    refine rf_pair_snd w2 ?_ (fun h3 => ?_)
    · refine rf_step (State.acceptCell_rf _ _ _ _) rfl rfl ?_
      exact rf_refl
    extract_lets v4 v5 v6
    refine rf_cut (W := vS) v5 ?_ (fun h7 => ?_)
    · unfold v5
      refine rf_step (State.setGrp_rf _ _ _) rfl rfl ?_
      exact h3
    refine rf_ite (fun _h8 => ?_) (fun _h9 => ?_)
    · refine rf_ite (fun _h10 => ?_) (fun _h11 => ?_)
      · refine rf_next ?_
        refine rf_step (State.toSecuring_rf _ _ _) rfl rfl ?_
        exact h7
      · refine rf_next ?_
        refine rf_step (State.toHold_rf _ _ _) rfl rfl ?_
        exact h7
    · refine rf_next ?_
      exact h3
  · rename_i w12 w13 w14
    refine rf_pair_snd w14 ?_ (fun h15 => ?_)
    · refine rf_step (State.acceptCell_rf _ _ _ _) rfl rfl ?_
      exact rf_refl
    refine rf_next ?_
    exact h15

theorem execMogilKexRx_rf (x0 x1 x2 x3 x4 x5 s) :
    RF vOut [.freeCtr, .octets, .mogil, .fab, .pot, .alarms] [0xB20006, 0xB20007, 0xB2000F] s (execMogilKexRx x0 x1 x2 x3 x4 x5 s) := by
  unfold execMogilKexRx
  split
  · rename_i w0 w1 w2
    refine rf_pair_snd w2 ?_ (fun h3 => ?_)
    · refine rf_step (State.acceptCell_rf _ _ _ _) rfl rfl ?_
      exact rf_refl
    extract_lets v4 v5 v6 v7
    refine rf_cut (W := vS) v6 ?_ (fun h8 => ?_)
    · unfold v6
      refine rf_step (State.setGrp_rf _ _ _) rfl rfl ?_
      exact h3
    refine rf_cut (W := vS) v7 ?_ (fun h9 => ?_)
    · unfold v7
      refine rf_ite (fun _h10 => ?_) (fun _h11 => ?_)
      · refine rf_step (State.sendKex_rf _ _ _) rfl rfl ?_
        exact h8
      · exact h8
    refine rf_ite (fun _h12 => ?_) (fun _h13 => ?_)
    · refine rf_next ?_
      exact h3
    · refine rf_ite (fun _h14 => ?_) (fun _h15 => ?_)
      · refine rf_next ?_
        refine rf_step (State.toHold_rf _ _ _) rfl rfl ?_
        exact h3
      · refine rf_ite (fun _h16 => ?_) (fun _h17 => ?_)
        · split
          · rename_i w18 w19 w20 w21 w22 w23
            refine rf_ite (fun _h24 => ?_) (fun _h25 => ?_)
            · refine rf_next ?_
              refine rf_step (State.newSession_rf _) rfl rfl ?_
              exact h9
            · refine rf_next ?_
              refine rf_step (State.startKex_rf _) rfl rfl ?_
              refine rf_step (State.toHold_rf _ _ _) rfl rfl ?_
              exact h9
          · rename_i w26 w27 w28
            refine rf_next ?_
            exact h9
        · refine rf_next ?_
          exact h3
  · rename_i w29 w30 w31
    refine rf_pair_snd w31 ?_ (fun h32 => ?_)
    · refine rf_step (State.acceptCell_rf _ _ _ _) rfl rfl ?_
      exact rf_refl
    refine rf_next ?_
    exact h32

theorem execMogilKexTimeout_rf (s) :
    RF vOut [.freeCtr, .octets, .mogil, .fab, .pot, .alarms] [0xB20006, 0xB20007, 0xB2000F] s (execMogilKexTimeout s) := by
  unfold execMogilKexTimeout
  split
  · rename_i w0 w1 w2
    extract_lets v3 v4 v5
    refine rf_cut (W := vS) v4 ?_ (fun h6 => ?_)
    · unfold v4
      refine rf_step (State.sendKex_rf _ _ _) rfl rfl ?_
      refine rf_step (State.setGrp_rf _ _ _) rfl rfl ?_
      exact rf_refl
    refine rf_ite (fun _h7 => ?_) (fun _h8 => ?_)
    · refine rf_next ?_
      exact rf_refl
    · refine rf_ite (fun _h9 => ?_) (fun _h10 => ?_)
      · refine rf_next ?_
        refine rf_step (State.setMogil_rf _ _) rfl rfl ?_
        exact h6
      · refine rf_next ?_
        refine rf_step (State.startKex_rf _) rfl rfl ?_
        refine rf_step (State.toHold_rf _ _ _) rfl rfl ?_
        exact rf_refl
  · rename_i w11 w12
    refine rf_next ?_
    exact rf_refl

theorem execMogilConfirmRx_rf (x0 x1 x2 x3 x4 x5 x6 s) :
    RF vOut [.freeCtr, .octets, .mogil, .fab, .pot, .alarms] [0xB20006, 0xB20007, 0xB2000F] s (execMogilConfirmRx x0 x1 x2 x3 x4 x5 x6 s) := by
  unfold execMogilConfirmRx
  split
  · rename_i w0 w1 w2
    refine rf_pair_snd w2 ?_ (fun h3 => ?_)
    · refine rf_step (State.acceptCell_rf _ _ _ _) rfl rfl ?_
      exact rf_refl
    extract_lets v4 v5 v6
    refine rf_cut (W := vS) v5 ?_ (fun h7 => ?_)
    · unfold v5
      refine rf_step (State.setGrp_rf _ _ _) rfl rfl ?_
      exact h3
    refine rf_ite (fun _h8 => ?_) (fun _h9 => ?_)
    · refine rf_next ?_
      exact h3
    · refine rf_ite (fun _h10 => ?_) (fun _h11 => ?_)
      · refine rf_next ?_
        refine rf_step (State.renewNext_rf _) rfl rfl ?_
        refine rf_step (State.setMogil_rf _ _) rfl rfl ?_
        exact h7
      · refine rf_next ?_
        refine rf_step (State.toHold_rf _ _ _) rfl rfl ?_
        exact h3
  · rename_i w12 w13 w14
    refine rf_pair_snd w14 ?_ (fun h15 => ?_)
    · refine rf_step (State.acceptCell_rf _ _ _ _) rfl rfl ?_
      exact rf_refl
    refine rf_next ?_
    exact h15

theorem execMogilHoldExpiry_rf (x0 s) :
    RF vOut [.mogil] [] s (execMogilHoldExpiry x0 s) := by
  unfold execMogilHoldExpiry
  extract_lets v0
  refine rf_ite (fun _h1 => ?_) (fun _h2 => ?_)
  · refine rf_next ?_
    refine rf_step (State.setGrp_rf _ _ _) rfl rfl ?_
    exact rf_refl
  · refine rf_next ?_
    exact rf_refl

theorem State.openChannel_rf (s x1 x2) :
    RF vSnd [.freeCtr, .octets, .fab, .pot, .alarms] [0x620007, 0x620009, 0xB20006, 0xB20007, 0xB2000F] s (State.openChannel s x1 x2) := by
  unfold State.openChannel
  extract_lets v0
  refine rf_ite (fun _h1 => ?_) (fun _h2 => ?_)
  · refine rf_snd ?_
    exact rf_refl
  · refine rf_step (State.allocBuf_rf _ _ _ _ _) rfl rfl ?_
    exact rf_refl

theorem State.chanRx_rf (s x1 x2) :
    RF vSnd [.freeCtr, .octets, .fab, .pot, .alarms] [0x620007, 0x620009, 0xB20006, 0xB20007, 0xB2000F] s (State.chanRx s x1 x2) := by
  unfold State.chanRx
  split
  · rename_i w0 w1 w2
    refine rf_snd ?_
    exact rf_refl
  · rename_i w3 w4
    split
    rename_i w5 w6 w7 w8
    refine rf_pair_snd w8 ?_ (fun h9 => ?_)
    · refine rf_step (State.openChannel_rf _ _ _) rfl rfl ?_
      exact rf_refl
    refine rf_snd ?_
    exact h9

theorem State.chanData_rf (s x1 x2 x3) :
    RF vS [.freeCtr, .mode, .octets, .edge, .front, .mogil, .mem, .fab, .pot, .sec, .res, .alarms] [0x200004, 0x200005, 0x200006, 0x620007, 0x620009, 0xB10004, 0xB20006, 0xB20007, 0xB2000F] s (State.chanData s x1 x2 x3) := by
  unfold State.chanData
  extract_lets v0
  split
  rename_i w1 w2 w3 w4
  refine rf_pair_snd w4 ?_ (fun h5 => ?_)
  · refine rf_step (State.chanRx_rf _ _ _) rfl rfl ?_
    exact rf_refl
  split
  · rename_i w6 w7
    unfold v0
    extract_lets v8
    refine rf_step (State.setMogil_rf _ _) rfl rfl ?_
    exact h5
  · rename_i w9 w10 w11
    extract_lets v12
    refine rf_cut (W := vS) v12 ?_ (fun h13 => ?_)
    · unfold v12
      split
      · rename_i w14 w15 w16
        refine rf_step (State.deviceWrite_rf _ _ _) rfl rfl ?_
        exact h5
      · rename_i w17 w18
        exact h5
    refine rf_ite (fun _h19 => ?_) (fun _h20 => ?_)
    · unfold v0
      extract_lets v21
      refine rf_step (State.setMogil_rf _ _) rfl rfl ?_
      refine rf_step (State.freeBuf_rf _ _) rfl rfl ?_
      exact h5
    · unfold v0
      extract_lets v22
      refine rf_step (State.setMogil_rf _ _) rfl rfl ?_
      exact h13

theorem State.chanEvent_rf (s x1 x2) :
    RF vS [.freeCtr, .octets, .galley, .edge, .front, .mogil, .fab, .pot, .alarms] [0x60001D, 0x620007, 0x620009, 0x630003, 0x630004, 0x630005, 0xB20006, 0xB20007, 0xB2000F] s (State.chanEvent s x1 x2) := by
  unfold State.chanEvent
  extract_lets v0
  split
  rename_i w1 w2 w3 w4
  refine rf_pair_snd w4 ?_ (fun h5 => ?_)
  · refine rf_step (State.chanRx_rf _ _ _) rfl rfl ?_
    exact rf_refl
  extract_lets v6 v7
  refine rf_cut (W := vS) v7 ?_ (fun h8 => ?_)
  · unfold v7
    refine rf_step (State.setMogil_rf _ _) rfl rfl ?_
    exact h5
  split
  · rename_i w9 w10 w11
    refine rf_step (State.toPeer_rf _ _) rfl rfl ?_
    refine rf_step (State.event_rf _ _ _ _ _ _ _) rfl rfl ?_
    exact h8
  · rename_i w12 w13
    refine rf_step (State.toPeer_rf _ _) rfl rfl ?_
    exact h8

theorem State.channelAnswer_rf (s x1 x2 x3) :
    RF vS [.freeCtr, .values, .octets, .galley, .edge, .front, .mogil, .fab, .pot, .res, .alarms] [0x600008, 0x600009, 0x60000A, 0x60000E, 0x60000F, 0x600013, 0x60001D, 0x620007, 0x620009, 0x80000E, 0xB20006, 0xB20007, 0xB2000F] s (State.channelAnswer s x1 x2 x3) := by
  unfold State.channelAnswer
  extract_lets v0 v1
  refine rf_cut (W := vS) v1 ?_ (fun h2 => ?_)
  · unfold v1
    refine rf_step (State.setMogil_rf _ _) rfl rfl ?_
    exact rf_refl
  refine rf_ite (fun _h3 => ?_) (fun _h4 => ?_)
  · exact rf_refl
  · refine rf_ite (fun _h5 => ?_) (fun _h6 => ?_)
    · refine rf_step (State.complete_rf _ _) rfl rfl ?_
      exact h2
    · refine rf_step (State.slugFaultAlarm_rf _ _ _) rfl rfl ?_
      exact h2

theorem State.takePacket_rf (s x1) :
    RF vS [.reply, .freeCtr, .mode, .values, .octets, .force, .time, .galley, .vx, .edge, .front, .mogil, .mem, .fab, .pot, .sec, .res, .alarms] (0x200004 :: 0x200005 :: 0x200006 :: 0x200007 :: 0x600002 :: 0x600008 :: 0x600009 :: 0x60000A :: 0x60000C :: 0x60000D :: 0x60000E :: 0x60000F :: 0x600013 :: 0x60001D :: 0x620007 :: 0x620008 :: 0x620009 :: 0x630003 :: 0x630004 :: 0x630005 :: 0x700009 :: 0x800007 :: 0x80000E :: 0x82000B :: 0x900001 :: 0x900004 :: 0x900005 :: 0x901002 :: 0x901003 :: 0x901005 :: 0x901006 :: 0x902002 :: 0x902003 :: 0x903006 :: 0x903007 :: 0x903008 :: 0x903009 :: 0x91000B :: 0x91000E :: 0x91000F :: 0xA4000C :: 0xB10004 :: 0xB20006 :: 0xB20007 :: 0xB2000F :: 0xE00006 :: []) s (State.takePacket s x1) := by
  unfold State.takePacket
  extract_lets v0
  refine rf_ite (fun _h1 => ?_) (fun _h2 => ?_)
  · split
    · rename_i w3 w4 w5
      refine rf_ite (fun _h6 => ?_) (fun _h7 => ?_)
      · refine rf_step (State.chanData_rf _ _ _ _) rfl rfl ?_
        exact rf_refl
      · refine rf_step (State.chanEvent_rf _ _ _) rfl rfl ?_
        exact rf_refl
    · rename_i w8 w9 w10 w11 w12 w13
      refine rf_step (State.channelAnswer_rf _ _ _ _) rfl rfl ?_
      exact rf_refl
    · rename_i w14 w15 w16 w17 w18 w19
      refine rf_step (State.channelAnswer_rf _ _ _ _) rfl rfl ?_
      exact rf_refl
    · rename_i w20 w21 w22 w23 w24
      refine rf_step (State.route_rf _ _) rfl rfl ?_
      exact rf_refl
  · refine rf_step (State.route_rf _ _) rfl rfl ?_
    exact rf_refl

theorem execMogilPacketRx_rf (x0 x1 s) :
    RF vOut [.reply, .freeCtr, .mode, .values, .octets, .force, .time, .galley, .vx, .edge, .front, .mogil, .mem, .fab, .pot, .sec, .res, .alarms] (0x200004 :: 0x200005 :: 0x200006 :: 0x200007 :: 0x501008 :: 0x50100A :: 0x50100B :: 0x600002 :: 0x600008 :: 0x600009 :: 0x60000A :: 0x60000C :: 0x60000D :: 0x60000E :: 0x60000F :: 0x600013 :: 0x60001D :: 0x620007 :: 0x620008 :: 0x620009 :: 0x630003 :: 0x630004 :: 0x630005 :: 0x700009 :: 0x800007 :: 0x80000E :: 0x82000B :: 0x900001 :: 0x900004 :: 0x900005 :: 0x901002 :: 0x901003 :: 0x901005 :: 0x901006 :: 0x902002 :: 0x902003 :: 0x903006 :: 0x903007 :: 0x903008 :: 0x903009 :: 0x91000B :: 0x91000E :: 0x91000F :: 0xA4000C :: 0xB10004 :: 0xB20006 :: 0xB20007 :: 0xB2000F :: 0xE00006 :: []) s (execMogilPacketRx x0 x1 s) := by
  unfold execMogilPacketRx
  extract_lets v0 v1 v2 v3 v4 v5 v6 v7
  refine rf_cut (W := vS) v2 ?_ (fun h8 => ?_)
  · unfold v2
    refine rf_step (State.setGrp_rf _ _ _) rfl rfl ?_
    exact rf_refl
  refine rf_cut (W := vS) v5 ?_ (fun h9 => ?_)
  · unfold v5
    refine rf_step (State.setGrp_rf _ _ _) rfl rfl ?_
    exact h8
  refine rf_cut (W := vS) v6 ?_ (fun h10 => ?_)
  · unfold v6
    refine rf_step (State.bump_rf _ _ _) rfl rfl ?_
    exact h9
  refine rf_cut (W := vS) v7 ?_ (fun h11 => ?_)
  · unfold v7
    refine rf_ite (fun _h12 => ?_) (fun _h13 => ?_)
    · refine rf_step (State.raise_rf _ _ _ _ _) rfl rfl ?_
      exact h10
    · exact h10
  refine rf_ite (fun _h14 => ?_) (fun _h15 => ?_)
  · refine rf_next ?_
    exact rf_refl
  · refine rf_ite (fun _h16 => ?_) (fun _h17 => ?_)
    · refine rf_next ?_
      refine rf_step (State.bump_rf _ _ _) rfl rfl ?_
      exact h8
    · refine rf_ite (fun _h18 => ?_) (fun _h19 => ?_)
      · refine rf_next ?_
        refine rf_step (State.nakOnce_rf _ _) rfl rfl ?_
        refine rf_step (State.bump_rf _ _ _) rfl rfl ?_
        exact h8
      · refine rf_ite (fun _h20 => ?_) (fun _h21 => ?_)
        · refine rf_next ?_
          refine rf_step (State.authFail_rf _ _) rfl rfl ?_
          refine rf_step (State.nakOnce_rf _ _) rfl rfl ?_
          exact h8
        · refine rf_next ?_
          refine rf_step (State.renewSession_rf _ _) rfl rfl ?_
          refine rf_step (State.takePacket_rf _ _) rfl rfl ?_
          exact h11

theorem State.chanEmit_rf (s x1) :
    RF vS [.galley] [] s (State.chanEmit s x1) := by
  unfold State.chanEmit
  split
  · rename_i w0 w1 w2 w3
    refine rf_ite (fun _h4 => ?_) (fun _h5 => ?_)
    · split
      · rename_i w6 w7 w8
        refine rf_ite (fun _h9 => ?_) (fun _h10 => ?_)
        · refine rf_step (State.setSlug_rf _ _ _) rfl rfl ?_
          exact rf_refl
        · exact rf_refl
      · rename_i w11 w12
        exact rf_refl
    · exact rf_refl
  · rename_i w13 w14
    exact rf_refl

theorem execMogilPacketSend_rf (x0 x1 s) :
    RF vOut [.freeCtr, .octets, .galley, .mogil, .fab, .pot, .alarms] [0x501007, 0xB20006, 0xB20007, 0xB2000F] s (execMogilPacketSend x0 x1 s) := by
  unfold execMogilPacketSend
  extract_lets v0
  refine rf_ite (fun _h1 => ?_) (fun _h2 => ?_)
  · refine rf_next ?_
    refine rf_step (State.renewSession_rf _ _) rfl rfl ?_
    refine rf_step (State.chanEmit_rf _ _) rfl rfl ?_
    refine rf_step (State.startPacket_rf _ _ _) rfl rfl ?_
    refine rf_step (State.setMogil_rf _ _) rfl rfl ?_
    exact rf_refl
  · refine rf_next ?_
    exact rf_refl

theorem execMogilRetryTimeout_rf (x0 s) :
    RF vOut [.freeCtr, .octets, .mogil, .fab, .pot, .alarms] [0x501009, 0xB20006, 0xB20007, 0xB2000F] s (execMogilRetryTimeout x0 s) := by
  unfold execMogilRetryTimeout
  extract_lets v0
  refine rf_ite (fun _h1 => ?_) (fun _h2 => ?_)
  · refine rf_next ?_
    refine rf_step (State.resendAll_rf _ _) rfl rfl ?_
    exact rf_refl
  · refine rf_next ?_
    exact rf_refl

theorem execMogilLastAcceptedRx_rf (x0 x1 x2 x3 s) :
    RF vOut [.freeCtr, .octets, .mogil, .fab, .pot, .alarms] [0x501009, 0xB20006, 0xB20007, 0xB2000F] s (execMogilLastAcceptedRx x0 x1 x2 x3 s) := by
  unfold execMogilLastAcceptedRx
  split
  · rename_i w0 w1 w2
    refine rf_pair_snd w2 ?_ (fun h3 => ?_)
    · refine rf_step (State.acceptCell_rf _ _ _ _) rfl rfl ?_
      exact rf_refl
    extract_lets v4 v5 v6 v7 v8
    refine rf_cut (W := vS) v4 ?_ (fun h9 => ?_)
    · unfold v4
      refine rf_ite (fun _h10 => ?_) (fun _h11 => ?_)
      · refine rf_step (State.toTraining_rf _ _) rfl rfl ?_
        exact h3
      · exact h3
    refine rf_cut (W := vS) v7 ?_ (fun h12 => ?_)
    · unfold v7
      refine rf_step (State.bumpBy_rf _ _ _ _) rfl rfl ?_
      refine rf_step (State.setGrp_rf _ _ _) rfl rfl ?_
      exact h9
    refine rf_ite (fun _h13 => ?_) (fun _h14 => ?_)
    · refine rf_next ?_
      exact h3
    · refine rf_next ?_
      refine rf_step (State.setMogil_rf _ _) rfl rfl ?_
      exact h12
  · rename_i w15 w16 w17
    refine rf_pair_snd w17 ?_ (fun h18 => ?_)
    · refine rf_step (State.acceptCell_rf _ _ _ _) rfl rfl ?_
      exact rf_refl
    refine rf_next ?_
    exact h18

theorem execMogilResumeTimeout_rf (x0 s) :
    RF vOut [.freeCtr, .octets, .mogil, .fab, .pot, .alarms] [0xB20006, 0xB20007, 0xB2000F] s (execMogilResumeTimeout x0 s) := by
  unfold execMogilResumeTimeout
  extract_lets v0
  refine rf_ite (fun _h1 => ?_) (fun _h2 => ?_)
  · refine rf_next ?_
    refine rf_step (State.discardOut_rf _ _) rfl rfl ?_
    exact rf_refl
  · refine rf_next ?_
    exact rf_refl

theorem State.takeIfc_rf (s x1 x2 x3) :
    RF vSomeSnd [.freeCtr, .octets, .galley, .pot, .alarms] [0x600007, 0x600010, 0x602001, 0xB20006, 0xB20007, 0xB2000F] s (State.takeIfc s x1 x2 x3) := by
  unfold State.takeIfc
  split
  · rename_i w0 w1
    exact rf_none
  · rename_i w2 w3 w4
    split
    · rename_i w5 w6
      exact rf_none
    · rename_i w7 w8 w9
      refine rf_ite (fun _h10 => ?_) (fun _h11 => ?_)
      · refine rf_some ?_
        refine rf_snd ?_
        refine rf_step (State.takeSlug_rf _ _ _) rfl rfl ?_
        exact rf_refl
      · exact rf_none

theorem execMogilChannelSend_rf (x0 s) :
    RF vOut [.freeCtr, .mode, .values, .octets, .time, .galley, .vx, .edge, .front, .mogil, .fab, .pot, .sec, .res, .alarms] [0x200004, 0x200005, 0x200006, 0x600007, 0x600008, 0x600009, 0x60000A, 0x60000E, 0x60000F, 0x600010, 0x600013, 0x60001D, 0x602001, 0x620007, 0x620009, 0x80000E, 0x900001, 0x903007, 0x91000B, 0x91000E, 0xA4000C, 0xB10004, 0xB20006, 0xB20007, 0xB2000F] s (execMogilChannelSend x0 s) := by
  unfold execMogilChannelSend
  split
  · rename_i w0 w1
    refine rf_next ?_
    exact rf_refl
  · rename_i w2 w3 w4 w5
    refine rf_pair_some w5 ?_ (fun h6 => ?_)
    · refine rf_step (State.takeIfc_rf _ _ _ _) rfl rfl ?_
      exact rf_refl
    extract_lets v7 v8
    refine rf_ite (fun _h9 => ?_) (fun _h10 => ?_)
    · refine rf_next ?_
      refine rf_step (State.complete_rf _ _) rfl rfl ?_
      exact h6
    · split
      · rename_i w11 w12 w13 w14
        refine rf_pair_22 w14 ?_ (fun h15 => ?_)
        · refine rf_step (State.memRead_rf _ _ _ _) rfl rfl ?_
          exact h6
        extract_lets v16
        refine rf_ite (fun _h17 => ?_) (fun _h18 => ?_)
        · unfold v8
          refine rf_next ?_
          refine rf_step (State.slugFaultAlarm_rf _ _ _) rfl rfl ?_
          exact h15
        · refine rf_ite (fun _h19 => ?_) (fun _h20 => ?_)
          · refine rf_next ?_
            refine rf_step (State.complete_rf _ _) rfl rfl ?_
            exact h15
          · refine rf_ite (fun _h21 => ?_) (fun _h22 => ?_)
            · unfold v8
              refine rf_next ?_
              refine rf_step (State.slugFaultAlarm_rf _ _ _) rfl rfl ?_
              exact h15
            · split
              · rename_i w23 w24 w25 w26
                refine rf_pair_22 w26 ?_ (fun h27 => ?_)
                · refine rf_step (State.memRead_rf _ _ _ _) rfl rfl ?_
                  exact h15
                extract_lets v28 v29
                refine rf_cut (W := vS) v28 ?_ (fun h30 => ?_)
                · unfold v28
                  refine rf_foldl ?_ (fun t31 x32 h33 => ?_)
                  · exact h27
                  · refine rf_step (State.toPeer_rf _ _) rfl rfl ?_
                    exact h33
                refine rf_next ?_
                refine rf_step (State.setMogil_rf _ _) rfl rfl ?_
                exact h30
              · rename_i w34 w35 w36 w37 w38 w39
                refine rf_pair_22 w39 ?_ (fun h40 => ?_)
                · refine rf_step (State.memRead_rf _ _ _ _) rfl rfl ?_
                  exact h15
                unfold v8
                refine rf_next ?_
                refine rf_step (State.slugFaultAlarm_rf _ _ _) rfl rfl ?_
                exact h40
      · rename_i w41 w42 w43 w44 w45 w46
        refine rf_pair_22 w46 ?_ (fun h47 => ?_)
        · refine rf_step (State.memRead_rf _ _ _ _) rfl rfl ?_
          exact h6
        unfold v8
        refine rf_next ?_
        refine rf_step (State.slugFaultAlarm_rf _ _ _) rfl rfl ?_
        exact h47

theorem execMogilChannelTimeout_rf (x0 s) :
    RF vOut [.freeCtr, .values, .octets, .galley, .edge, .front, .mogil, .fab, .pot, .res, .alarms] [0x600008, 0x600009, 0x60000A, 0x60000E, 0x60001D, 0x620007, 0x620009, 0x80000E, 0xB20006, 0xB20007, 0xB2000F] s (execMogilChannelTimeout x0 s) := by
  unfold execMogilChannelTimeout
  extract_lets v0
  split
  · rename_i w1 w2 w3 w4 w5 w6
    refine rf_ite (fun _h7 => ?_) (fun _h8 => ?_)
    · refine rf_next ?_
      refine rf_step (State.slugFaultAlarm_rf _ _ _) rfl rfl ?_
      refine rf_step (State.setMogil_rf _ _) rfl rfl ?_
      exact rf_refl
    · refine rf_next ?_
      exact rf_refl
  · rename_i w9 w10 w11
    refine rf_next ?_
    exact rf_refl

theorem State.mogilOn_rf (s) :
    RF vS [.freeCtr, .octets, .force, .mogil, .fab, .parts, .pot, .alarms] [0x500001, 0xB20006, 0xB20007, 0xB2000F] s (State.mogilOn s) := by
  unfold State.mogilOn
  extract_lets v0 v1 v2 v3
  refine rf_cut (W := vS) v0 ?_ (fun h4 => ?_)
  · unfold v0
    refine rf_step (State.takeAll_rf _ _ _) rfl rfl ?_
    refine rf_step (State.setFlag_rf _ _ _ _) rfl rfl ?_
    exact rf_refl
  refine rf_cut (W := vS) v1 ?_ (fun h5 => ?_)
  · unfold v1
    refine rf_foldl ?_ (fun t6 x7 h8 => ?_)
    · exact h4
    · extract_lets v9 v10 v11 v12 v13 v14
      refine rf_cut (W := vS) v9 ?_ (fun h15 => ?_)
      · unfold v9
        refine rf_step (State.take_rf _ _ _) rfl rfl ?_
        exact h8
      refine rf_cut (W := vS) v12 ?_ (fun h16 => ?_)
      · unfold v12
        refine rf_step (State.setDomain_rf _ _ _) rfl rfl ?_
        exact h15
      refine rf_cut (W := vS) v13 ?_ (fun h17 => ?_)
      · unfold v13
        refine rf_step (State.setGrp_rf _ _ _) rfl rfl ?_
        exact h16
      refine rf_cut (W := vS) v14 ?_ (fun h18 => ?_)
      · unfold v14
        refine rf_step (State.setDomain_rf _ _ _) rfl rfl ?_
        exact h15
      refine rf_ite (fun _h19 => ?_) (fun _h20 => ?_)
      · refine rf_ite (fun _h21 => ?_) (fun _h22 => ?_)
        · refine rf_step (State.setDefect_rf _ _ _ _) rfl rfl ?_
          exact h17
        · exact h16
      · refine rf_step (State.leaveTo_rf _ _ _) rfl rfl ?_
        exact h18
  refine rf_cut (W := vS) v3 ?_ (fun h23 => ?_)
  · unfold v3
    refine rf_step (State.setMogil_rf _ _) rfl rfl ?_
    exact h5
  refine rf_foldl ?_ (fun t24 x25 h26 => ?_)
  · exact h23
  · extract_lets v27
    refine rf_ite (fun _h28 => ?_) (fun _h29 => ?_)
    · refine rf_step (State.setPart_rf _ _ _) rfl rfl ?_
      exact h26
    · exact h26

theorem State.mogilOff_rf (s) :
    RF vS [.freeCtr, .octets, .force, .mogil, .fab, .pot, .alarms] [0x500001, 0xB20006, 0xB20007, 0xB2000F] s (State.mogilOff s) := by
  unfold State.mogilOff
  extract_lets v0 v1 v2
  refine rf_cut (W := vS) v0 ?_ (fun h3 => ?_)
  · unfold v0
    refine rf_step (State.take_rf _ _ _) rfl rfl ?_
    refine rf_step (State.setFlag_rf _ _ _ _) rfl rfl ?_
    exact rf_refl
  refine rf_cut (W := vS) v1 ?_ (fun h4 => ?_)
  · unfold v1
    refine rf_foldl ?_ (fun t5 x6 h7 => ?_)
    · exact h3
    · extract_lets v8 v9 v10 v11
      refine rf_cut (W := vS) v9 ?_ (fun h12 => ?_)
      · unfold v9
        refine rf_step (State.setDomain_rf _ _ _) rfl rfl ?_
        refine rf_step (State.leaveTo_rf _ _ _) rfl rfl ?_
        exact h7
      refine rf_cut (W := vS) v11 ?_ (fun h13 => ?_)
      · unfold v11
        refine rf_step (State.setGrp_rf _ _ _) rfl rfl ?_
        exact h12
      refine rf_step (State.defectAlarms_rf _ _ _) rfl rfl ?_
      exact h13
  refine rf_step (State.setMogil_rf _ _) rfl rfl ?_
  exact h4

theorem enableMogil_rf (x0 s) :
    RF vOk [.freeCtr, .octets, .force, .mogil, .fab, .parts, .pot, .alarms] [0x500001, 0xB20006, 0xB20007, 0xB2000F] s (enableMogil x0 s) := by
  unfold enableMogil
  refine rf_ite (fun _h0 => ?_) (fun _h1 => ?_)
  · exact rf_error _
  · refine rf_ite (fun _h2 => ?_) (fun _h3 => ?_)
    · refine rf_ok ?_
      refine rf_step (State.mogilOff_rf _) rfl rfl ?_
      exact rf_refl
    · split
      · rename_i w4 w5
        refine rf_ok ?_
        refine rf_step (State.mogilOn_rf _) rfl rfl ?_
        exact rf_refl
      · rename_i w6 w7
        exact rf_error _

theorem execMogilEnable_rf (x0 x1 s) :
    RF vOut [.reply, .freeCtr, .octets, .force, .mogil, .fab, .parts, .pot, .alarms] [0x500001, 0xB20006, 0xB20007, 0xB2000F] s (execMogilEnable x0 x1 s) := by
  unfold execMogilEnable
  refine rf_next ?_
  refine State.actOn_rf rfl ?_ (fun u0 => ?_)
  · exact rf_refl
  · refine rf_step (enableMogil_rf _ _) rfl rfl ?_
    exact rf_refl

theorem State.takeOver_rf (s) :
    RF vS [.freeCtr, .octets, .mogil, .parts, .pot, .alarms] [0x50000E, 0xB20006, 0xB20007, 0xB2000F] s (State.takeOver s) := by
  unfold State.takeOver
  extract_lets v0 v1 v2
  refine rf_cut (W := vS) v0 ?_ (fun h3 => ?_)
  · unfold v0
    refine rf_foldl ?_ (fun t4 x5 h6 => ?_)
    · exact rf_refl
    · extract_lets v7
      refine rf_ite (fun _h8 => ?_) (fun _h9 => ?_)
      · refine rf_step (State.setPart_rf _ _ _) rfl rfl ?_
        exact h6
      · exact h6
  refine rf_cut (W := vS) v2 ?_ (fun h10 => ?_)
  · unfold v2
    refine rf_step (State.setMogil_rf _ _) rfl rfl ?_
    exact h3
  refine rf_step (State.raise_rf _ _ _ _ _) rfl rfl ?_
  refine rf_step (State.bump_rf _ _ _) rfl rfl ?_
  exact h10

theorem writeTakeoverNow_rf (x0 s) :
    RF vOk [.freeCtr, .octets, .mogil, .parts, .pot, .alarms] [0x50000E, 0xB20006, 0xB20007, 0xB2000F] s (writeTakeoverNow x0 s) := by
  unfold writeTakeoverNow
  refine rf_ok ?_
  refine rf_ite (fun _h0 => ?_) (fun _h1 => ?_)
  · refine rf_step (State.takeOver_rf _) rfl rfl ?_
    exact rf_refl
  · exact rf_refl

theorem execTakeoverNow_rf (x0 x1 s) :
    RF vOut [.reply, .freeCtr, .octets, .mogil, .parts, .pot, .alarms] [0x50000E, 0xB20006, 0xB20007, 0xB2000F] s (execTakeoverNow x0 x1 s) := by
  unfold execTakeoverNow
  refine rf_next ?_
  refine State.actOn_rf rfl ?_ (fun u0 => ?_)
  · exact rf_refl
  · refine rf_step (writeTakeoverNow_rf _ _) rfl rfl ?_
    exact rf_refl

theorem State.tryTakeover_rf (s) :
    RF vS [.freeCtr, .octets, .mogil, .parts, .pot, .alarms] [0x50000E, 0xB20006, 0xB20007, 0xB2000F] s (State.tryTakeover s) := by
  unfold State.tryTakeover
  refine rf_ite (fun _h0 => ?_) (fun _h1 => ?_)
  · refine rf_step (State.takeOver_rf _) rfl rfl ?_
    exact rf_refl
  · exact rf_refl

theorem execAutoTakeover_rf (s) :
    RF vOut [.freeCtr, .octets, .mogil, .parts, .pot, .alarms] [0x50000E, 0xB20006, 0xB20007, 0xB2000F] s (execAutoTakeover s) := by
  unfold execAutoTakeover
  refine rf_next ?_
  refine rf_step (State.tryTakeover_rf _) rfl rfl ?_
  exact rf_refl

theorem execPeerHealthInputChange_rf (x0 s) :
    RF vOut [.freeCtr, .octets, .mogil, .parts, .pot, .alarms] [0x50000E, 0xB20006, 0xB20007, 0xB2000F] s (execPeerHealthInputChange x0 s) := by
  unfold execPeerHealthInputChange
  extract_lets v0
  refine rf_next ?_
  refine rf_step (State.tryTakeover_rf _) rfl rfl ?_
  refine rf_step (State.setMogil_rf _ _) rfl rfl ?_
  exact rf_refl

theorem writeChannelMap_rf (x0 x1 s) :
    RF vOk [.force, .parts] [0x502002] s (writeChannelMap x0 x1 s) := by
  unfold writeChannelMap
  refine rf_ite (fun _h0 => ?_) (fun _h1 => ?_)
  · exact rf_error _
  · refine rf_ok ?_
    refine rf_step (State.takeTie_rf _ _ _) rfl rfl ?_
    refine rf_step (State.setNum_rf _ _ _ _) rfl rfl ?_
    exact rf_refl

theorem writeMogilPrbs_rf (x0 x1 s) :
    RF vOk [] [0x50100F] s (writeMogilPrbs x0 x1 s) := by
  unfold writeMogilPrbs
  refine rf_ite (fun _h0 => ?_) (fun _h1 => ?_)
  · exact rf_error _
  · refine rf_ok ?_
    refine rf_step (State.setNum_rf _ _ _ _) rfl rfl ?_
    exact rf_refl

theorem State.mogilSignal_rf (s x1 x2) :
    RF vS [.freeCtr, .octets, .mogil, .fab, .pot, .alarms] [0xB20006, 0xB20007, 0xB2000F] s (State.mogilSignal s x1 x2) := by
  unfold State.mogilSignal
  extract_lets v0 v1 v2 v3 v4
  refine rf_cut (W := vS) v3 ?_ (fun h5 => ?_)
  · unfold v3
    refine rf_step (State.setGrp_rf _ _ _) rfl rfl ?_
    exact rf_refl
  refine rf_ite (fun _h6 => ?_) (fun _h7 => ?_)
  · exact rf_refl
  · refine rf_ite (fun _h8 => ?_) (fun _h9 => ?_)
    · refine rf_step (State.setDefect_rf _ _ _ _) rfl rfl ?_
      refine rf_step (State.setGrp_rf _ _ _) rfl rfl ?_
      exact h5
    · exact h5

theorem execLossOfSignal_rf (x0 s) :
    RF vOut [.freeCtr, .mode, .values, .octets, .time, .galley, .edge, .front, .mogil, .fab, .pot, .res, .alarms] [0x200004, 0x200005, 0x200006, 0x200007, 0x31100C, 0x31100D, 0x40000B, 0x414009, 0x41400D, 0x600008, 0x600009, 0x60000A, 0x60000E, 0x60000F, 0x600013, 0x60001D, 0x620007, 0x620009, 0x80000E, 0xB20006, 0xB20007, 0xB2000F] s (execLossOfSignal x0 s) := by
  unfold execLossOfSignal
  refine rf_ite (fun _h0 => ?_) (fun _h1 => ?_)
  · refine rf_next ?_
    exact rf_refl
  · split
    · rename_i w2 w3
      refine rf_ite (fun _h4 => ?_) (fun _h5 => ?_)
      · refine rf_next ?_
        refine rf_step (State.lineLos_rf _ _) rfl rfl ?_
        exact rf_refl
      · refine rf_next ?_
        exact rf_refl
    · rename_i w6 w7 w8
      extract_lets v9 v10
      refine rf_ite (fun _h11 => ?_) (fun _h12 => ?_)
      · refine rf_next ?_
        exact rf_refl
      · refine rf_ite (fun _h13 => ?_) (fun _h14 => ?_)
        · refine rf_next ?_
          refine rf_step (State.setGrp_rf _ _ _) rfl rfl ?_
          exact rf_refl
        · refine rf_next ?_
          refine rf_step (State.mogilSignalLoss_rf _ _ _) rfl rfl ?_
          exact rf_refl

theorem execSignalReturn_rf (x0 s) :
    RF vOut [.freeCtr, .mode, .values, .octets, .time, .galley, .edge, .front, .mogil, .fab, .pot, .res, .alarms] [0x200004, 0x200005, 0x200006, 0x200007, 0x31100C, 0x31100D, 0x414009, 0x41400D, 0x600008, 0x600009, 0x60000A, 0x60000E, 0x60000F, 0x600013, 0x60001D, 0x620007, 0x620009, 0x80000E, 0xB20006, 0xB20007, 0xB2000F] s (execSignalReturn x0 s) := by
  unfold execSignalReturn
  refine rf_ite (fun _h0 => ?_) (fun _h1 => ?_)
  · refine rf_next ?_
    exact rf_refl
  · split
    · rename_i w2 w3
      refine rf_ite (fun _h4 => ?_) (fun _h5 => ?_)
      · refine rf_next ?_
        refine rf_step (State.lineSignal_rf _ _) rfl rfl ?_
        exact rf_refl
      · refine rf_next ?_
        exact rf_refl
    · rename_i w6 w7 w8
      refine rf_ite (fun _h9 => ?_) (fun _h10 => ?_)
      · refine rf_next ?_
        exact rf_refl
      · refine rf_next ?_
        refine rf_step (State.mogilSignal_rf _ _ _) rfl rfl ?_
        exact rf_refl

theorem execSignalDebounceExpiry_rf (x0 s) :
    RF vOut [.front, .mogil] [] s (execSignalDebounceExpiry x0 s) := by
  unfold execSignalDebounceExpiry
  split
  · rename_i w0 w1
    refine rf_ite (fun _h2 => ?_) (fun _h3 => ?_)
    · refine rf_next ?_
      refine rf_step (State.lineDebounced_rf _ _) rfl rfl ?_
      exact rf_refl
    · refine rf_next ?_
      exact rf_refl
  · rename_i w4 w5 w6
    extract_lets v7
    refine rf_ite (fun _h8 => ?_) (fun _h9 => ?_)
    · refine rf_next ?_
      refine rf_step (State.setGrp_rf _ _ _) rfl rfl ?_
      exact rf_refl
    · refine rf_next ?_
      exact rf_refl

theorem execLossOfLock_rf (x0 s) :
    RF vOut [.freeCtr, .mode, .values, .octets, .time, .galley, .edge, .front, .mogil, .fab, .pot, .res, .alarms] [0x200004, 0x200005, 0x200006, 0x200007, 0x31100C, 0x31100D, 0x40000C, 0x414009, 0x41400D, 0x600008, 0x600009, 0x60000A, 0x60000E, 0x60000F, 0x600013, 0x60001D, 0x620007, 0x620009, 0x80000E, 0xB20006, 0xB20007, 0xB2000F] s (execLossOfLock x0 s) := by
  unfold execLossOfLock
  split
  · rename_i w0 w1
    refine rf_ite (fun _h2 => ?_) (fun _h3 => ?_)
    · refine rf_next ?_
      refine rf_step (State.lineLol_rf _ _) rfl rfl ?_
      exact rf_refl
    · refine rf_next ?_
      exact rf_refl
  · rename_i w4 w5 w6
    refine rf_ite (fun _h7 => ?_) (fun _h8 => ?_)
    · refine rf_next ?_
      exact rf_refl
    · refine rf_next ?_
      refine rf_step (State.mogilRelock_rf _ _ _ _) rfl rfl ?_
      exact rf_refl

theorem execLossOfBlockLock_rf (x0 s) :
    RF vOut [.freeCtr, .mode, .values, .octets, .time, .galley, .edge, .front, .mogil, .fab, .pot, .res, .alarms] [0x200004, 0x200005, 0x200006, 0x200007, 0x31100C, 0x31100D, 0x414009, 0x41400D, 0x600008, 0x600009, 0x60000A, 0x60000E, 0x60000F, 0x600013, 0x60001D, 0x620007, 0x620009, 0x80000E, 0xB20006, 0xB20007, 0xB2000F] s (execLossOfBlockLock x0 s) := by
  unfold execLossOfBlockLock
  split
  · rename_i w0 w1
    refine rf_ite (fun _h2 => ?_) (fun _h3 => ?_)
    · refine rf_next ?_
      refine rf_step (State.lineLob_rf _ _) rfl rfl ?_
      exact rf_refl
    · refine rf_next ?_
      exact rf_refl
  · rename_i w4 w5 w6
    refine rf_ite (fun _h7 => ?_) (fun _h8 => ?_)
    · refine rf_next ?_
      exact rf_refl
    · refine rf_next ?_
      refine rf_step (State.mogilRelock_rf _ _ _ _) rfl rfl ?_
      exact rf_refl

theorem execDegradeEval_rf (x0 x1 x2 x3 x4 s) :
    RF vOut [.freeCtr, .mode, .values, .octets, .time, .galley, .edge, .front, .mogil, .fab, .pot, .res, .alarms] [0x200004, 0x200005, 0x200006, 0x200007, 0x31100C, 0x31100D, 0x410008, 0x410009, 0x414009, 0x41400D, 0x600008, 0x600009, 0x60000A, 0x60000E, 0x60000F, 0x600013, 0x60001D, 0x620007, 0x620009, 0x80000E, 0xB20006, 0xB20007, 0xB2000F] s (execDegradeEval x0 x1 x2 x3 x4 s) := by
  unfold execDegradeEval
  split
  · rename_i w0 w1
    refine rf_next ?_
    refine rf_step (State.portDegrade_rf _ _ _ _ _ _) rfl rfl ?_
    exact rf_refl
  · rename_i w2 w3
    refine rf_ite (fun _h4 => ?_) (fun _h5 => ?_)
    · refine rf_next ?_
      exact rf_refl
    · refine rf_next ?_
      refine rf_step (State.setDefect_rf _ _ _ _) rfl rfl ?_
      exact rf_refl

theorem State.setPrbsLock_rf (s x1 x2) :
    RF vS [.front, .mogil] [] s (State.setPrbsLock s x1 x2) := by
  unfold State.setPrbsLock
  split
  · rename_i w0 w1
    extract_lets v2
    refine rf_ite (fun _h3 => ?_) (fun _h4 => ?_)
    · refine rf_step (State.setLane_rf _ _ _) rfl rfl ?_
      exact rf_refl
    · exact rf_refl
  · rename_i w5 w6 w7
    extract_lets v8
    refine rf_ite (fun _h9 => ?_) (fun _h10 => ?_)
    · refine rf_step (State.setGrp_rf _ _ _) rfl rfl ?_
      exact rf_refl
    · exact rf_refl

theorem execPrbsCheckerLock_rf (x0 s) :
    RF vOut [.front, .mogil] [] s (execPrbsCheckerLock x0 s) := by
  unfold execPrbsCheckerLock
  refine rf_next ?_
  refine rf_step (State.setPrbsLock_rf _ _ _) rfl rfl ?_
  exact rf_refl

theorem execPrbsCheckerLockLoss_rf (x0 s) :
    RF vOut [.freeCtr, .front, .mogil] [0x400008, 0x400009, 0x501010, 0x501011] s (execPrbsCheckerLockLoss x0 s) := by
  unfold execPrbsCheckerLockLoss
  split
  rename_i w0 w1 w2 w3
  refine rf_pair_snd w3 ?_ (fun h4 => ?_)
  · refine rf_step (State.drawNat_rf _) rfl rfl ?_
    exact rf_refl
  split
  rename_i w5 w6 w7 w8
  refine rf_pair_snd w8 ?_ (fun h9 => ?_)
  · refine rf_step (State.drawNat_rf _) rfl rfl ?_
    exact h4
  split
  · rename_i w10 w11
    refine rf_ite (fun _h12 => ?_) (fun _h13 => ?_)
    · refine rf_next ?_
      refine rf_step (State.bumpBy_rf _ _ _ _) rfl rfl ?_
      refine rf_step (State.bumpBy_rf _ _ _ _) rfl rfl ?_
      refine rf_step (State.setPrbsLock_rf _ _ _) rfl rfl ?_
      exact h9
    · refine rf_next ?_
      exact rf_refl
  · rename_i w14 w15 w16
    refine rf_ite (fun _h17 => ?_) (fun _h18 => ?_)
    · refine rf_next ?_
      refine rf_step (State.bumpBy_rf _ _ _ _) rfl rfl ?_
      refine rf_step (State.bumpBy_rf _ _ _ _) rfl rfl ?_
      refine rf_step (State.setPrbsLock_rf _ _ _) rfl rfl ?_
      exact h9
    · refine rf_next ?_
      exact rf_refl

end Sys2Proof.Machine
end

