-- ==== Sys2Proof/Laws/FramesHost.lean ====
section
/-!
SUPPORT. What each operation of Machine/Host.lean may change, one lemma each.
-/

namespace Sys2Proof.Machine

set_option Elab.async false

open Sys2Proof

theorem State.setHost_rf (s x1) :
    RF vS [.host] [] s (State.setHost s x1) := by
  unfold State.setHost
  refine rf_upd (b := s) ?_ ⟨fun f hf hv => by cases f <;> first | exact absurd (by decide) hf | exact absurd rfl hv | rfl | exact ⟨rfl, rfl⟩ | exact ⟨rfl, rfl, rfl, rfl, rfl⟩, Or.inr fun _ _ => rfl⟩ (Keeps.of rfl (Nat.le_refl _) rfl)
  exact rf_refl

theorem State.setFn_rf (s x1 x2) :
    RF vS [.host] [] s (State.setFn s x1 x2) := by
  unfold State.setFn
  extract_lets v0
  refine rf_step (State.setHost_rf _ _) rfl rfl ?_
  exact rf_refl

theorem State.msix_rf (s x1 x2) :
    RF vS [.host] [] s (State.msix s x1 x2) := by
  unfold State.msix
  refine rf_step (State.setFn_rf _ _ _) rfl rfl ?_
  exact rf_refl

theorem execMsixUnmask_rf (x0 x1 s) :
    RF vOut [.host] [] s (execMsixUnmask x0 x1 s) := by
  unfold execMsixUnmask
  extract_lets v0
  refine rf_ite (fun _h1 => ?_) (fun _h2 => ?_)
  · refine rf_next ?_
    refine rf_step (State.setFn_rf _ _ _) rfl rfl ?_
    exact rf_refl
  · refine rf_next ?_
    exact rf_refl

theorem State.setQp_rf (s x1 x2) :
    RF vS [.host] [] s (State.setQp s x1 x2) := by
  unfold State.setQp
  extract_lets v0
  refine rf_step (State.setHost_rf _ _) rfl rfl ?_
  exact rf_refl

theorem State.qpDown_rf (s x1) :
    RF vS [.freeCtr, .octets, .host, .pot, .alarms] [0xA01006, 0xB20006, 0xB20007, 0xB2000F] s (State.qpDown s x1) := by
  unfold State.qpDown
  extract_lets v0
  refine rf_step (State.condition_rf _ _ _ _) rfl rfl ?_
  refine rf_step (State.setFlag_rf _ _ _ _) rfl rfl ?_
  refine rf_step (State.setQp_rf _ _ _) rfl rfl ?_
  exact rf_refl

theorem State.qpsDown_rf (s x1) :
    RF vS [.freeCtr, .octets, .host, .pot, .alarms] [0xA01006, 0xB20006, 0xB20007, 0xB2000F] s (State.qpsDown s x1) := by
  unfold State.qpsDown
  refine rf_foldl ?_ (fun t0 x1 h2 => ?_)
  · exact rf_refl
  · refine rf_step (State.qpDown_rf _ _) rfl rfl ?_
    exact h2

theorem State.qpOn_rf (s x1) :
    RF vS [.force, .host] [0xA01006] s (State.qpOn s x1) := by
  unfold State.qpOn
  extract_lets v0 v1 v2
  refine rf_cut (W := vS) v0 ?_ (fun h3 => ?_)
  · unfold v0
    refine rf_step (State.setFlag_rf _ _ _ _) rfl rfl ?_
    refine rf_step (State.takeAll_rf _ _ _) rfl rfl ?_
    exact rf_refl
  refine rf_step (State.setQp_rf _ _ _) rfl rfl ?_
  exact h3

theorem enableQp_rf (x0 x1 s) :
    RF vOk [.freeCtr, .octets, .force, .host, .pot, .alarms] [0xA01006, 0xB20006, 0xB20007, 0xB2000F] s (enableQp x0 x1 s) := by
  unfold enableQp
  refine rf_ite (fun _h0 => ?_) (fun _h1 => ?_)
  · refine rf_ok ?_
    refine rf_step (State.qpDown_rf _ _) rfl rfl ?_
    exact rf_refl
  · refine rf_ite (fun _h2 => ?_) (fun _h3 => ?_)
    · refine rf_ok ?_
      exact rf_refl
    · split
      · rename_i w4 w5
        refine rf_ok ?_
        refine rf_step (State.qpOn_rf _ _) rfl rfl ?_
        exact rf_refl
      · rename_i w6 w7
        exact rf_error _

theorem execQpEnable_rf (x0 x1 s) :
    RF vOut [.reply, .freeCtr, .octets, .force, .host, .pot, .alarms] [0xA01006, 0xB20006, 0xB20007, 0xB2000F] s (execQpEnable x0 x1 s) := by
  unfold execQpEnable
  refine rf_next ?_
  refine State.actSel_rf rfl ?_ (fun k1 u0 => ?_)
  · exact rf_refl
  · refine rf_step (enableQp_rf _ _ _) rfl rfl ?_
    exact rf_refl

theorem State.qpError_rf (s x1) :
    RF vS [.freeCtr, .octets, .host, .pot, .alarms] [0xA0100A, 0xB20006, 0xB20007, 0xB2000F] s (State.qpError s x1) := by
  unfold State.qpError
  extract_lets v0
  refine rf_step (State.condition_rf _ _ _ _) rfl rfl ?_
  refine rf_step (State.bump_rf _ _ _) rfl rfl ?_
  refine rf_step (State.setQp_rf _ _ _) rfl rfl ?_
  exact rf_refl

theorem State.doorbellEvents_rf (s x1 x2 x3) :
    RF vS [.freeCtr, .octets, .galley, .edge, .front, .fab, .pot, .alarms] [0x60001D, 0x620007, 0x620009, 0x630003, 0x630004, 0x630005, 0xB20006, 0xB20007, 0xB2000F] s (State.doorbellEvents s x1 x2 x3) := by
  unfold State.doorbellEvents
  refine rf_foldl ?_ (fun t0 x1 h2 => ?_)
  · exact rf_refl
  · refine rf_step (State.event_rf _ _ _ _ _ _ _) rfl rfl ?_
    exact h2

theorem execSqTailDoorbell_rf (x0 x1 x2 x3 s) :
    RF vOut [.freeCtr, .octets, .galley, .edge, .front, .fab, .host, .pot, .alarms] [0x60001D, 0x620007, 0x620009, 0x630003, 0x630004, 0x630005, 0xA0100A, 0xB20006, 0xB20007, 0xB2000F] s (execSqTailDoorbell x0 x1 x2 x3 s) := by
  unfold execSqTailDoorbell
  split
  · rename_i w0 w1
    refine rf_next ?_
    exact rf_refl
  · rename_i w2 w3 w4
    extract_lets v5
    refine rf_ite (fun _h6 => ?_) (fun _h7 => ?_)
    · refine rf_next ?_
      refine rf_step (State.bump_rf _ _ _) rfl rfl ?_
      exact rf_refl
    · split
      · rename_i w8 w9
        refine rf_next ?_
        refine rf_step (State.qpError_rf _ _) rfl rfl ?_
        exact rf_refl
      · rename_i w10 w11 w12
        refine rf_next ?_
        refine rf_step (State.doorbellEvents_rf _ _ _ _) rfl rfl ?_
        refine rf_step (State.setQp_rf _ _ _) rfl rfl ?_
        exact rf_refl

theorem State.translate_rf (s x1 x2) :
    RF vSnd [.freeCtr, .host] [] s (State.translate s x1 x2) := by
  unfold State.translate
  extract_lets v0 v1 v2
  refine rf_cut (W := vS) v1 ?_ (fun h3 => ?_)
  · unfold v1
    refine rf_upd (b := s) ?_ ⟨fun f hf hv => by cases f <;> first | exact absurd (by decide) hf | exact absurd rfl hv | rfl | exact ⟨rfl, rfl⟩ | exact ⟨rfl, rfl, rfl, rfl, rfl⟩, Or.inr fun _ _ => rfl⟩ (Keeps.of rfl (Nat.le_add_right _ _) rfl)
    exact rf_refl
  refine rf_ite (fun _h4 => ?_) (fun _h5 => ?_)
  · refine rf_snd ?_
    exact rf_refl
  · refine rf_snd ?_
    refine rf_ite (fun _h6 => ?_) (fun _h7 => ?_)
    · refine rf_step (State.setHost_rf _ _) rfl rfl ?_
      exact h3
    · exact h3

theorem State.finishInvals_rf (s) :
    RF vS [.host] [] s (State.finishInvals s) := by
  unfold State.finishInvals
  extract_lets v0
  refine rf_step (State.setHost_rf _ _) rfl rfl ?_
  exact rf_refl

theorem execAtsInvalidate_rf (x0 x1 s) :
    RF vOut [.host] [] s (execAtsInvalidate x0 x1 s) := by
  unfold execAtsInvalidate
  extract_lets v0 v1
  refine rf_next ?_
  refine rf_step (State.finishInvals_rf _) rfl rfl ?_
  refine rf_step (State.setHost_rf _ _) rfl rfl ?_
  exact rf_refl

theorem State.request_rf (s x1) :
    RF vS [.host] [0xA00004] s (State.request s x1) := by
  unfold State.request
  extract_lets v0 v1
  refine rf_cut (W := vS) v1 ?_ (fun h2 => ?_)
  · unfold v1
    refine rf_step (State.setHost_rf _ _) rfl rfl ?_
    exact rf_refl
  refine rf_ite (fun _h3 => ?_) (fun _h4 => ?_)
  · split
    · rename_i w5 w6 w7
      extract_lets v8
      refine rf_cut (W := vS) v8 ?_ (fun h9 => ?_)
      · unfold v8
        refine rf_step (State.setHost_rf _ _) rfl rfl ?_
        exact rf_refl
      refine rf_step (State.peak_rf _ _ _ _) rfl rfl ?_
      exact h9
    · rename_i w10 w11
      exact h2
  · exact h2

theorem State.pumpHeld_rf (s) :
    RF vS [.host] [0xA00004] s (State.pumpHeld s) := by
  unfold State.pumpHeld
  extract_lets v0
  refine rf_foldl ?_ (fun t1 x2 h3 => ?_)
  · refine rf_step (State.setHost_rf _ _) rfl rfl ?_
    exact rf_refl
  · refine rf_step (State.request_rf _ _) rfl rfl ?_
    exact h3

theorem State.freeTagOf_rf (s x1) :
    RF vS [.host] [0xA00004] s (State.freeTagOf s x1) := by
  unfold State.freeTagOf
  extract_lets v0
  refine rf_step (State.pumpHeld_rf _) rfl rfl ?_
  refine rf_step (State.finishInvals_rf _) rfl rfl ?_
  refine rf_step (State.setHost_rf _ _) rfl rfl ?_
  exact rf_refl

theorem State.setHostJob_rf (s x1 x2) :
    RF vS [.edge] [] s (State.setHostJob s x1 x2) := by
  unfold State.setHostJob
  extract_lets v0
  refine rf_upd (b := s) ?_ ⟨fun f hf hv => by cases f <;> first | exact absurd (by decide) hf | exact absurd rfl hv | rfl | exact ⟨rfl, rfl⟩ | exact ⟨rfl, rfl, rfl, rfl, rfl⟩, Or.inr fun _ _ => rfl⟩ (Keeps.of rfl (Nat.le_refl _) rfl)
  exact rf_refl

theorem State.hostForget_rf (s x1) :
    RF vS [.edge, .host] [] s (State.hostForget s x1) := by
  unfold State.hostForget
  extract_lets v0 v1 v2
  refine rf_cut (W := vS) v1 ?_ (fun h3 => ?_)
  · unfold v1
    refine rf_upd (b := s) ?_ ⟨fun f hf hv => by cases f <;> first | exact absurd (by decide) hf | exact absurd rfl hv | rfl | exact ⟨rfl, rfl⟩ | exact ⟨rfl, rfl, rfl, rfl, rfl⟩, Or.inr fun _ _ => rfl⟩ (Keeps.of rfl (Nat.le_refl _) rfl)
    exact rf_refl
  refine rf_step (State.setHost_rf _ _) rfl rfl ?_
  exact h3

theorem State.hostEnd_rf (s x1 x2) :
    RF vS [.freeCtr, .values, .octets, .galley, .edge, .front, .fab, .host, .pot, .res, .alarms] [0x600008, 0x600009, 0x60000A, 0x60000E, 0x60000F, 0x600013, 0x60001D, 0x620007, 0x620009, 0x80000E, 0xA4000D, 0xB20006, 0xB20007, 0xB2000F] s (State.hostEnd s x1 x2) := by
  unfold State.hostEnd
  extract_lets v0
  split
  · rename_i w1 w2
    exact rf_refl
  · rename_i w3 w4 w5
    extract_lets v6
    refine rf_cut (W := vS) v6 ?_ (fun h7 => ?_)
    · unfold v6
      refine rf_step (State.complete_rf _ _) rfl rfl ?_
      refine rf_step (State.hostForget_rf _ _) rfl rfl ?_
      exact rf_refl
    refine rf_ite (fun _h8 => ?_) (fun _h9 => ?_)
    · refine rf_step (State.bump_rf _ _ _) rfl rfl ?_
      exact h7
    · exact h7

theorem State.hostFault_rf (s x1) :
    RF vS [.freeCtr, .values, .octets, .galley, .edge, .front, .fab, .host, .pot, .res, .alarms] [0x600008, 0x600009, 0x60000A, 0x60000E, 0x60001D, 0x620007, 0x620009, 0x80000E, 0xB20006, 0xB20007, 0xB2000F] s (State.hostFault s x1) := by
  unfold State.hostFault
  split
  · rename_i w0 w1
    exact rf_refl
  · rename_i w2 w3 w4
    refine rf_step (State.slugFaultAlarm_rf _ _ _) rfl rfl ?_
    refine rf_step (State.hostForget_rf _ _) rfl rfl ?_
    exact rf_refl

theorem State.takeHost_rf (s x1 x2) :
    RF vSomeSnd [.freeCtr, .octets, .galley, .pot, .alarms] [0x600007, 0x600010, 0x602001, 0xB20006, 0xB20007, 0xB2000F] s (State.takeHost s x1 x2) := by
  unfold State.takeHost
  refine rf_ite (fun _h0 => ?_) (fun _h1 => ?_)
  · refine rf_step (State.takeIfc_rf _ _ _ _) rfl rfl ?_
    exact rf_refl
  · exact rf_none

theorem State.sendReads_rf (s x1 x2) :
    RF vS [.freeCtr, .values, .octets, .galley, .edge, .front, .fab, .host, .pot, .res, .alarms] [0x600008, 0x600009, 0x60000A, 0x60000E, 0x60000F, 0x600013, 0x60001D, 0x620007, 0x620009, 0x80000E, 0xA00004, 0xA4000D, 0xB20006, 0xB20007, 0xB2000F] s (State.sendReads s x1 x2) := by
  induction x2 generalizing s x1
  · unfold State.sendReads
    exact rf_refl
  · rename_i y ys ih
    unfold State.sendReads
    split
    · rename_i w0 w1 w2
      refine rf_pair_snd w2 ?_ (fun h3 => ?_)
      · refine rf_step (State.translate_rf _ _ _) rfl rfl ?_
        exact rf_refl
      refine rf_trans ?_ (ih ..)
      refine rf_step (State.request_rf _ _) rfl rfl ?_
      exact h3
    · rename_i w4 w5 w6
      refine rf_pair_snd w6 ?_ (fun h7 => ?_)
      · refine rf_step (State.translate_rf _ _ _) rfl rfl ?_
        exact rf_refl
      refine rf_step (State.hostEnd_rf _ _ _) rfl rfl ?_
      exact h7

theorem State.hostFinish_rf (s x1) :
    RF vS [.freeCtr, .mode, .values, .octets, .time, .galley, .vx, .edge, .front, .mogil, .mem, .fab, .host, .pot, .sec, .res, .alarms] [0x200004, 0x200005, 0x200006, 0x600008, 0x600009, 0x60000A, 0x60000E, 0x60000F, 0x600013, 0x60001D, 0x620007, 0x620009, 0x80000E, 0x900001, 0x903007, 0x91000B, 0x91000E, 0x91000F, 0xA4000C, 0xA4000D, 0xB10004, 0xB20006, 0xB20007, 0xB2000F] s (State.hostFinish s x1) := by
  unfold State.hostFinish
  split
  · rename_i w0 w1 w2 w3 w4 w5
    refine rf_ite (fun _h6 => ?_) (fun _h7 => ?_)
    · split
      · rename_i w8 w9
        refine rf_step (State.hostEnd_rf _ _ _) rfl rfl ?_
        exact rf_refl
      · rename_i w10 w11 w12
        extract_lets v13 v14
        split
        · rename_i w15 w16 w17
          refine rf_pair_snd w17 ?_ (fun h18 => ?_)
          · refine rf_step (State.memWrite_rf _ _ _ _) rfl rfl ?_
            exact rf_refl
          refine rf_step (State.hostEnd_rf _ _ _) rfl rfl ?_
          refine rf_step (State.setQp_rf _ _ _) rfl rfl ?_
          exact h18
        · rename_i w19 w20 w21 w22 w23
          refine rf_pair_snd w23 ?_ (fun h24 => ?_)
          · refine rf_step (State.memWrite_rf _ _ _ _) rfl rfl ?_
            exact rf_refl
          refine rf_step (State.hostFault_rf _ _) rfl rfl ?_
          exact h24
    · refine rf_step (State.hostEnd_rf _ _ _) rfl rfl ?_
      exact rf_refl
  · rename_i w25 w26 w27
    exact rf_refl

theorem State.hostIssue_rf (s x1 x2 x3) :
    RF vS [.freeCtr, .mode, .values, .octets, .time, .galley, .vx, .edge, .front, .mogil, .mem, .fab, .host, .pot, .sec, .res, .alarms] [0x200004, 0x200005, 0x200006, 0x600008, 0x600009, 0x60000A, 0x60000E, 0x60000F, 0x600013, 0x60001D, 0x620007, 0x620009, 0x80000E, 0x900001, 0x903007, 0x91000B, 0x91000E, 0x91000F, 0xA00004, 0xA4000C, 0xA4000D, 0xB10004, 0xB20006, 0xB20007, 0xB2000F] s (State.hostIssue s x1 x2 x3) := by
  unfold State.hostIssue
  extract_lets v0 v1
  refine rf_ite (fun _h2 => ?_) (fun _h3 => ?_)
  · split
    · rename_i w4 w5
      refine rf_step (State.hostEnd_rf _ _ _) rfl rfl ?_
      exact rf_refl
    · rename_i w6 w7 w8
      extract_lets v9
      unfold v1
      extract_lets v10
      refine rf_cut (W := vS) v10 ?_ (fun h11 => ?_)
      · unfold v10
        refine rf_step (State.sendReads_rf _ _ _) rfl rfl ?_
        refine rf_step (State.setHostJob_rf _ _ _) rfl rfl ?_
        exact rf_refl
      refine rf_ite (fun _h12 => ?_) (fun _h13 => ?_)
      · refine rf_step (State.hostFinish_rf _ _) rfl rfl ?_
        exact h11
      · exact h11
  · split
    · rename_i w14 w15 w16 w17
      refine rf_pair_22 w17 ?_ (fun h18 => ?_)
      · refine rf_step (State.memRead_rf _ _ _ _) rfl rfl ?_
        exact rf_refl
      extract_lets v19
      refine rf_ite (fun _h20 => ?_) (fun _h21 => ?_)
      · unfold v1
        extract_lets v22
        refine rf_cut (W := vS) v22 ?_ (fun h23 => ?_)
        · unfold v22
          refine rf_step (State.sendReads_rf _ _ _) rfl rfl ?_
          refine rf_step (State.setHostJob_rf _ _ _) rfl rfl ?_
          exact h18
        refine rf_ite (fun _h24 => ?_) (fun _h25 => ?_)
        · refine rf_step (State.hostFinish_rf _ _) rfl rfl ?_
          exact h23
        · exact h23
      · refine rf_step (State.hostFault_rf _ _) rfl rfl ?_
        exact h18
    · rename_i w26 w27 w28 w29 w30 w31
      refine rf_pair_22 w31 ?_ (fun h32 => ?_)
      · refine rf_step (State.memRead_rf _ _ _ _) rfl rfl ?_
        exact rf_refl
      refine rf_step (State.hostFault_rf _ _) rfl rfl ?_
      exact h32

theorem State.translateAll_rf (s x1 x2) :
    RF vSnd [.freeCtr, .host] [] s (State.translateAll s x1 x2) := by
  induction x2 generalizing s x1
  · unfold State.translateAll
    refine rf_snd ?_
    exact rf_refl
  · rename_i y ys ih
    unfold State.translateAll
    split
    · rename_i w0 w1 w2
      refine rf_pair_snd w2 ?_ (fun h3 => ?_)
      · refine rf_step (State.translate_rf _ _ _) rfl rfl ?_
        exact rf_refl
      refine rf_trans ?_ (ih ..)
      exact h3
    · rename_i w4 w5
      refine rf_step (State.translate_rf _ _ _) rfl rfl ?_
      exact rf_refl

theorem State.deliverSend_rf (s x1 x2 x3) :
    RF vS [.freeCtr, .mode, .values, .octets, .time, .galley, .vx, .edge, .front, .mogil, .fab, .host, .pot, .sec, .res, .alarms] [0x200004, 0x200005, 0x200006, 0x600008, 0x600009, 0x60000A, 0x60000E, 0x60000F, 0x600013, 0x60001D, 0x620007, 0x620009, 0x80000E, 0x900001, 0x903007, 0x91000B, 0x91000E, 0xA4000C, 0xA4000D, 0xB10004, 0xB20006, 0xB20007, 0xB2000F] s (State.deliverSend s x1 x2 x3) := by
  unfold State.deliverSend
  extract_lets v0 v1 v2
  split
  · rename_i w3 w4 w5 w6
    refine rf_pair_22 w6 ?_ (fun h7 => ?_)
    · refine rf_step (State.memRead_rf _ _ _ _) rfl rfl ?_
      exact rf_refl
    extract_lets v8
    refine rf_ite (fun _h9 => ?_) (fun _h10 => ?_)
    · refine rf_step (State.hostFault_rf _ _) rfl rfl ?_
      exact h7
    · split
      · rename_i w11 w12 w13 w14
        refine rf_pair_22 w14 ?_ (fun h15 => ?_)
        · refine rf_step (State.memRead_rf _ _ _ _) rfl rfl ?_
          exact h7
        extract_lets v16 v17 v18 v19 v20 v21 v22
        refine rf_cut (W := vS) v17 ?_ (fun h23 => ?_)
        · unfold v17
          refine rf_step (State.setHostJob_rf _ _ _) rfl rfl ?_
          exact h15
        refine rf_ite (fun _h24 => ?_) (fun _h25 => ?_)
        · refine rf_step (State.hostEnd_rf _ _ _) rfl rfl ?_
          exact h15
        · refine rf_ite (fun _h26 => ?_) (fun _h27 => ?_)
          · refine rf_step (State.setHost_rf _ _) rfl rfl ?_
            exact h23
          · split
            · rename_i w28 w29 w30
              refine rf_pair_snd w30 ?_ (fun h31 => ?_)
              · refine rf_step (State.translateAll_rf _ _ _) rfl rfl ?_
                exact h15
              refine rf_step (State.hostEnd_rf _ _ _) rfl rfl ?_
              exact h31
            · rename_i w32 w33 w34
              refine rf_pair_snd w34 ?_ (fun h35 => ?_)
              · refine rf_step (State.translateAll_rf _ _ _) rfl rfl ?_
                exact h15
              extract_lets v36 v37 v38 v39 v40
              refine rf_cut (W := vS) v37 ?_ (fun h41 => ?_)
              · unfold v37
                refine rf_step (State.setHost_rf _ _) rfl rfl ?_
                exact h35
              refine rf_cut (W := vS) v38 ?_ (fun h42 => ?_)
              · unfold v38
                refine rf_ite (fun _h43 => ?_) (fun _h44 => ?_)
                · exact h41
                · split
                  · rename_i w45 w46 w47
                    refine rf_step (State.setSlug_rf _ _ _) rfl rfl ?_
                    exact h41
                  · rename_i w48 w49
                    exact h41
              refine rf_cut (W := vS) v39 ?_ (fun h50 => ?_)
              · unfold v39
                refine rf_ite (fun _h51 => ?_) (fun _h52 => ?_)
                · refine rf_step (State.setQp_rf _ _ _) rfl rfl ?_
                  exact h42
                · exact h42
              refine rf_cut (W := vS) v40 ?_ (fun h53 => ?_)
              · unfold v40
                refine rf_ite (fun _h54 => ?_) (fun _h55 => ?_)
                · refine rf_step (State.msix_rf _ _ _) rfl rfl ?_
                  exact h50
                · exact h50
              refine rf_step (State.hostEnd_rf _ _ _) rfl rfl ?_
              exact h53
      · rename_i w56 w57 w58 w59 w60 w61
        refine rf_pair_22 w61 ?_ (fun h62 => ?_)
        · refine rf_step (State.memRead_rf _ _ _ _) rfl rfl ?_
          exact h7
        refine rf_step (State.hostFault_rf _ _) rfl rfl ?_
        exact h62
  · rename_i w63 w64 w65 w66 w67 w68
    refine rf_pair_22 w68 ?_ (fun h69 => ?_)
    · refine rf_step (State.memRead_rf _ _ _ _) rfl rfl ?_
      exact rf_refl
    refine rf_step (State.hostFault_rf _ _) rfl rfl ?_
    exact h69

theorem State.hostBegin_rf (s x1 x2) :
    RF vS [.freeCtr, .mode, .values, .octets, .time, .galley, .vx, .edge, .front, .mogil, .mem, .fab, .host, .pot, .sec, .res, .alarms] [0x200004, 0x200005, 0x200006, 0x600008, 0x600009, 0x60000A, 0x60000E, 0x60000F, 0x600013, 0x60001D, 0x620007, 0x620009, 0x80000E, 0x900001, 0x903007, 0x91000B, 0x91000E, 0x91000F, 0xA00004, 0xA4000C, 0xA4000D, 0xB10004, 0xB20006, 0xB20007, 0xB2000F] s (State.hostBegin s x1 x2) := by
  unfold State.hostBegin
  refine rf_ite (fun _h0 => ?_) (fun _h1 => ?_)
  · refine rf_step (State.hostEnd_rf _ _ _) rfl rfl ?_
    exact rf_refl
  · refine rf_ite (fun _h2 => ?_) (fun _h3 => ?_)
    · refine rf_step (State.hostEnd_rf _ _ _) rfl rfl ?_
      exact rf_refl
    · split
      · rename_i w4 w5 w6 w7
        refine rf_pair_22 w7 ?_ (fun h8 => ?_)
        · refine rf_step (State.memRead_rf _ _ _ _) rfl rfl ?_
          exact rf_refl
        extract_lets v9 v10
        refine rf_ite (fun _h11 => ?_) (fun _h12 => ?_)
        · refine rf_step (State.hostFault_rf _ _) rfl rfl ?_
          exact h8
        · refine rf_ite (fun _h13 => ?_) (fun _h14 => ?_)
          · refine rf_step (State.hostEnd_rf _ _ _) rfl rfl ?_
            exact h8
          · refine rf_ite (fun _h15 => ?_) (fun _h16 => ?_)
            · refine rf_step (State.deliverSend_rf _ _ _ _) rfl rfl ?_
              exact h8
            · refine rf_ite (fun _h17 => ?_) (fun _h18 => ?_)
              · refine rf_step (State.hostEnd_rf _ _ _) rfl rfl ?_
                exact h8
              · refine rf_ite (fun _h19 => ?_) (fun _h20 => ?_)
                · refine rf_step (State.hostFault_rf _ _) rfl rfl ?_
                  exact h8
                · split
                  rename_i w21 w22 w23 w24
                  refine rf_pair_snd w24 ?_ (fun h25 => ?_)
                  · refine rf_step (State.engAlloc_rf _ _ _ _) rfl rfl ?_
                    exact h8
                  extract_lets v26
                  refine rf_cut (W := vS) v26 ?_ (fun h27 => ?_)
                  · unfold v26
                    refine rf_step (State.setHostJob_rf _ _ _) rfl rfl ?_
                    exact h25
                  refine rf_ite (fun _h28 => ?_) (fun _h29 => ?_)
                  · exact h27
                  · refine rf_step (State.hostIssue_rf _ _ _ _) rfl rfl ?_
                    exact h27
      · rename_i w30 w31 w32 w33 w34 w35
        refine rf_pair_22 w35 ?_ (fun h36 => ?_)
        · refine rf_step (State.memRead_rf _ _ _ _) rfl rfl ?_
          exact rf_refl
        refine rf_step (State.hostFault_rf _ _) rfl rfl ?_
        exact h36

theorem State.hostSlug_rf (s x1 x2) :
    RF vS [.freeCtr, .mode, .values, .octets, .time, .galley, .vx, .edge, .front, .mogil, .mem, .fab, .host, .pot, .sec, .res, .alarms] [0x200004, 0x200005, 0x200006, 0x600007, 0x600008, 0x600009, 0x60000A, 0x60000E, 0x60000F, 0x600010, 0x600013, 0x60001D, 0x602001, 0x620007, 0x620009, 0x80000E, 0x900001, 0x903007, 0x91000B, 0x91000E, 0x91000F, 0xA00004, 0xA4000C, 0xA4000D, 0xB10004, 0xB20006, 0xB20007, 0xB2000F] s (State.hostSlug s x1 x2) := by
  unfold State.hostSlug
  split
  · rename_i w0 w1 w2 w3 w4 w5
    refine rf_ite (fun _h6 => ?_) (fun _h7 => ?_)
    · refine rf_step (State.hostIssue_rf _ _ _ _) rfl rfl ?_
      exact rf_refl
    · exact rf_refl
  · rename_i w8 w9 w10
    split
    · rename_i w11 w12 w13 w14
      refine rf_pair_some w14 ?_ (fun h15 => ?_)
      · refine rf_step (State.takeHost_rf _ _ _) rfl rfl ?_
        exact rf_refl
      refine rf_step (State.hostBegin_rf _ _ _) rfl rfl ?_
      exact h15
    · rename_i w16 w17
      exact rf_refl

theorem execFetch_rf (x0 s) :
    RF vOut [.freeCtr, .mode, .values, .octets, .time, .galley, .vx, .edge, .front, .mogil, .mem, .fab, .host, .pot, .sec, .res, .alarms] [0x200004, 0x200005, 0x200006, 0x600007, 0x600008, 0x600009, 0x60000A, 0x60000E, 0x60000F, 0x600010, 0x600013, 0x60001D, 0x602001, 0x620007, 0x620009, 0x80000E, 0x900001, 0x903007, 0x91000B, 0x91000E, 0x91000F, 0xA00004, 0xA4000C, 0xA4000D, 0xB10004, 0xB20006, 0xB20007, 0xB2000F] s (execFetch x0 s) := by
  unfold execFetch
  refine rf_next ?_
  refine rf_step (State.hostSlug_rf _ _ _) rfl rfl ?_
  exact rf_refl

theorem execGather_rf (x0 s) :
    RF vOut [.freeCtr, .mode, .values, .octets, .time, .galley, .vx, .edge, .front, .mogil, .mem, .fab, .host, .pot, .sec, .res, .alarms] [0x200004, 0x200005, 0x200006, 0x600007, 0x600008, 0x600009, 0x60000A, 0x60000E, 0x60000F, 0x600010, 0x600013, 0x60001D, 0x602001, 0x620007, 0x620009, 0x80000E, 0x900001, 0x903007, 0x91000B, 0x91000E, 0x91000F, 0xA00004, 0xA4000C, 0xA4000D, 0xB10004, 0xB20006, 0xB20007, 0xB2000F] s (execGather x0 s) := by
  unfold execGather
  refine rf_next ?_
  refine rf_step (State.hostSlug_rf _ _ _) rfl rfl ?_
  exact rf_refl

theorem execDeliver_rf (x0 s) :
    RF vOut [.freeCtr, .mode, .values, .octets, .time, .galley, .vx, .edge, .front, .mogil, .mem, .fab, .host, .pot, .sec, .res, .alarms] [0x200004, 0x200005, 0x200006, 0x600007, 0x600008, 0x600009, 0x60000A, 0x60000E, 0x60000F, 0x600010, 0x600013, 0x60001D, 0x602001, 0x620007, 0x620009, 0x80000E, 0x900001, 0x903007, 0x91000B, 0x91000E, 0x91000F, 0xA00004, 0xA4000C, 0xA4000D, 0xB10004, 0xB20006, 0xB20007, 0xB2000F] s (execDeliver x0 s) := by
  unfold execDeliver
  refine rf_next ?_
  refine rf_step (State.hostSlug_rf _ _ _) rfl rfl ?_
  exact rf_refl

theorem execCqWaitTimeout_rf (x0 s) :
    RF vOut [.freeCtr, .values, .octets, .galley, .edge, .front, .fab, .host, .pot, .res, .alarms] [0x600008, 0x600009, 0x60000A, 0x60000E, 0x60000F, 0x600013, 0x60001D, 0x620007, 0x620009, 0x80000E, 0xA4000D, 0xB20006, 0xB20007, 0xB2000F] s (execCqWaitTimeout x0 s) := by
  unfold execCqWaitTimeout
  extract_lets v0
  refine rf_ite (fun _h1 => ?_) (fun _h2 => ?_)
  · refine rf_next ?_
    refine rf_step (State.raise_rf _ _ _ _ _) rfl rfl ?_
    refine rf_step (State.hostEnd_rf _ _ _) rfl rfl ?_
    exact rf_refl
  · refine rf_next ?_
    exact rf_refl

theorem State.retryDeliver_rf (s x1) :
    RF vS [.freeCtr, .mode, .values, .octets, .time, .galley, .vx, .edge, .front, .mogil, .fab, .host, .pot, .sec, .res, .alarms] [0x200004, 0x200005, 0x200006, 0x600008, 0x600009, 0x60000A, 0x60000E, 0x60000F, 0x600013, 0x60001D, 0x620007, 0x620009, 0x80000E, 0x900001, 0x903007, 0x91000B, 0x91000E, 0xA4000C, 0xA4000D, 0xB10004, 0xB20006, 0xB20007, 0xB2000F] s (State.retryDeliver s x1) := by
  unfold State.retryDeliver
  extract_lets v0
  split
  · rename_i w1 w2 w3 w4 w5 w6
    refine rf_step (State.deliverSend_rf _ _ _ _) rfl rfl ?_
    refine rf_step (State.setHost_rf _ _) rfl rfl ?_
    exact rf_refl
  · rename_i w7 w8 w9
    exact rf_refl

theorem execCqHeadDoorbell_rf (x0 x1 x2 x3 s) :
    RF vOut [.freeCtr, .mode, .values, .octets, .time, .galley, .vx, .edge, .front, .mogil, .fab, .host, .pot, .sec, .res, .alarms] [0x200004, 0x200005, 0x200006, 0x600008, 0x600009, 0x60000A, 0x60000E, 0x60000F, 0x600013, 0x60001D, 0x620007, 0x620009, 0x80000E, 0x900001, 0x903007, 0x91000B, 0x91000E, 0xA0100A, 0xA4000C, 0xA4000D, 0xB10004, 0xB20006, 0xB20007, 0xB2000F] s (execCqHeadDoorbell x0 x1 x2 x3 s) := by
  unfold execCqHeadDoorbell
  split
  · rename_i w0 w1
    refine rf_next ?_
    exact rf_refl
  · rename_i w2 w3 w4
    extract_lets v5 v6
    refine rf_cut (W := vS) v6 ?_ (fun h7 => ?_)
    · unfold v6
      refine rf_step (State.setQp_rf _ _ _) rfl rfl ?_
      exact rf_refl
    refine rf_ite (fun _h8 => ?_) (fun _h9 => ?_)
    · refine rf_next ?_
      refine rf_step (State.bump_rf _ _ _) rfl rfl ?_
      exact rf_refl
    · refine rf_ite (fun _h10 => ?_) (fun _h11 => ?_)
      · refine rf_next ?_
        refine rf_step (State.qpError_rf _ _) rfl rfl ?_
        exact rf_refl
      · refine rf_next ?_
        refine rf_foldl ?_ (fun t12 x13 h14 => ?_)
        · exact h7
        · refine rf_step (State.retryDeliver_rf _ _) rfl rfl ?_
          exact h14

theorem State.cplError_rf (s x1 x2) :
    RF vS [.freeCtr, .values, .octets, .host, .pot, .alarms] [0xB20006, 0xB20007, 0xB2000F] s (State.cplError s x1 x2) := by
  unfold State.cplError
  extract_lets v0 v1
  refine rf_cut (W := vS) v1 ?_ (fun h2 => ?_)
  · unfold v1
    refine rf_ite (fun _h3 => ?_) (fun _h4 => ?_)
    · exact rf_refl
    · refine rf_step (State.setFn_rf _ _ _) rfl rfl ?_
      exact rf_refl
  refine rf_step (State.raiseAtMost_rf _ _ _ _ _) rfl rfl ?_
  refine rf_step (State.bump_rfv _ _ _) rfl rfl ?_
  exact h2

theorem State.cplFail_rf (s x1 x2 x3) :
    RF vS [.freeCtr, .values, .octets, .galley, .edge, .front, .fab, .host, .pot, .res, .alarms] [0x600008, 0x600009, 0x60000A, 0x60000E, 0x60000F, 0x600013, 0x60001D, 0x620007, 0x620009, 0x80000E, 0xA00004, 0xA4000D, 0xB20006, 0xB20007, 0xB2000F] s (State.cplFail s x1 x2 x3) := by
  unfold State.cplFail
  extract_lets v0 v1 v2
  refine rf_cut (W := vS) v0 ?_ (fun h3 => ?_)
  · unfold v0
    refine rf_step (State.cplError_rf _ _ _) rfl rfl ?_
    exact rf_refl
  refine rf_ite (fun _h4 => ?_) (fun _h5 => ?_)
  · refine rf_step (State.setHost_rf _ _) rfl rfl ?_
    exact h3
  · refine rf_ite (fun _h6 => ?_) (fun _h7 => ?_)
    · refine rf_step (State.freeTagOf_rf _ _) rfl rfl ?_
      exact h3
    · refine rf_step (State.hostEnd_rf _ _ _) rfl rfl ?_
      refine rf_step (State.freeTagOf_rf _ _) rfl rfl ?_
      exact h3

theorem State.cplData_rf (s x1 x2 x3) :
    RF vS [.freeCtr, .mode, .values, .octets, .time, .galley, .vx, .edge, .front, .mogil, .mem, .fab, .host, .pot, .sec, .res, .alarms] [0x200004, 0x200005, 0x200006, 0x600008, 0x600009, 0x60000A, 0x60000E, 0x60000F, 0x600013, 0x60001D, 0x620007, 0x620009, 0x80000E, 0x900001, 0x903007, 0x91000B, 0x91000E, 0x91000F, 0xA00004, 0xA4000C, 0xA4000D, 0xB10004, 0xB20006, 0xB20007, 0xB2000F] s (State.cplData s x1 x2 x3) := by
  unfold State.cplData
  extract_lets v0 v1 v2 v3
  split
  · rename_i w4 w5 w6 w7 w8 w9
    split
    · rename_i w10 w11 w12
      refine rf_pair_snd w12 ?_ (fun h13 => ?_)
      · refine rf_step (State.memWrite_rf _ _ _ _) rfl rfl ?_
        exact rf_refl
      extract_lets v14 v15
      refine rf_cut (W := vS) v15 ?_ (fun h16 => ?_)
      · unfold v15
        refine rf_step (State.freeTagOf_rf _ _) rfl rfl ?_
        exact h13
      refine rf_ite (fun _h17 => ?_) (fun _h18 => ?_)
      · refine rf_step (State.setHost_rf _ _) rfl rfl ?_
        exact h13
      · refine rf_ite (fun _h19 => ?_) (fun _h20 => ?_)
        · exact h16
        · refine rf_step (State.hostFinish_rf _ _) rfl rfl ?_
          exact h16
    · rename_i w21 w22 w23 w24 w25
      refine rf_pair_snd w25 ?_ (fun h26 => ?_)
      · refine rf_step (State.memWrite_rf _ _ _ _) rfl rfl ?_
        exact rf_refl
      refine rf_step (State.hostFault_rf _ _) rfl rfl ?_
      refine rf_step (State.freeTagOf_rf _ _) rfl rfl ?_
      exact h26
  · rename_i w27 w28 w29
    refine rf_step (State.freeTagOf_rf _ _) rfl rfl ?_
    exact rf_refl

theorem execPcieCompletionRx_rf (x0 x1 x2 s) :
    RF vOut [.freeCtr, .mode, .values, .octets, .time, .galley, .vx, .edge, .front, .mogil, .mem, .fab, .host, .pot, .sec, .res, .alarms] [0x200004, 0x200005, 0x200006, 0x600008, 0x600009, 0x60000A, 0x60000E, 0x60000F, 0x600013, 0x60001D, 0x620007, 0x620009, 0x80000E, 0x900001, 0x903007, 0x91000B, 0x91000E, 0x91000F, 0xA00004, 0xA00006, 0xA4000C, 0xA4000D, 0xB10004, 0xB20006, 0xB20007, 0xB2000F] s (execPcieCompletionRx x0 x1 x2 s) := by
  unfold execPcieCompletionRx
  split
  · rename_i w0 w1
    refine rf_next ?_
    exact rf_refl
  · rename_i w2 w3 w4
    extract_lets v5 v6 v7
    refine rf_cut (W := vS) v5 ?_ (fun h8 => ?_)
    · unfold v5
      refine rf_ite (fun _h9 => ?_) (fun _h10 => ?_)
      · refine rf_step (State.bump_rf _ _ _) rfl rfl ?_
        exact rf_refl
      · exact rf_refl
    refine rf_ite (fun _h11 => ?_) (fun _h12 => ?_)
    · refine rf_next ?_
      exact rf_refl
    · refine rf_ite (fun _h13 => ?_) (fun _h14 => ?_)
      · refine rf_next ?_
        refine rf_step (State.cplFail_rf _ _ _ _) rfl rfl ?_
        exact h8
      · refine rf_ite (fun _h15 => ?_) (fun _h16 => ?_)
        · refine rf_next ?_
          refine rf_step (State.setHost_rf _ _) rfl rfl ?_
          exact h8
        · refine rf_ite (fun _h17 => ?_) (fun _h18 => ?_)
          · refine rf_next ?_
            refine rf_step (State.freeTagOf_rf _ _) rfl rfl ?_
            exact h8
          · refine rf_next ?_
            refine rf_step (State.cplData_rf _ _ _ _) rfl rfl ?_
            exact h8

theorem execPcieCompletionTimeout_rf (x0 s) :
    RF vOut [.freeCtr, .values, .octets, .galley, .edge, .front, .fab, .host, .pot, .res, .alarms] [0x600008, 0x600009, 0x60000A, 0x60000E, 0x60000F, 0x600013, 0x60001D, 0x620007, 0x620009, 0x80000E, 0xA00004, 0xA4000D, 0xB20006, 0xB20007, 0xB2000F] s (execPcieCompletionTimeout x0 s) := by
  unfold execPcieCompletionTimeout
  split
  · rename_i w0 w1
    refine rf_next ?_
    exact rf_refl
  · rename_i w2 w3 w4
    refine rf_ite (fun _h5 => ?_) (fun _h6 => ?_)
    · refine rf_next ?_
      exact rf_refl
    · refine rf_next ?_
      refine rf_step (State.cplFail_rf _ _ _ _) rfl rfl ?_
      exact rf_refl

theorem execTagQuarantineEnd_rf (x0 s) :
    RF vOut [.host] [0xA00004] s (execTagQuarantineEnd x0 s) := by
  unfold execTagQuarantineEnd
  split
  · rename_i w0 w1 w2
    refine rf_ite (fun _h3 => ?_) (fun _h4 => ?_)
    · refine rf_next ?_
      refine rf_step (State.freeTagOf_rf _ _) rfl rfl ?_
      exact rf_refl
    · refine rf_next ?_
      exact rf_refl
  · rename_i w5 w6
    refine rf_next ?_
    exact rf_refl

theorem State.orphan_rf (s x1) :
    RF vS [.freeCtr, .values, .octets, .galley, .edge, .front, .fab, .host, .pot, .res, .alarms] [0x600008, 0x600009, 0x60000A, 0x60000E, 0x60000F, 0x600013, 0x60001D, 0x620007, 0x620009, 0x80000E, 0xA4000D, 0xB20006, 0xB20007, 0xB2000F] s (State.orphan s x1) := by
  unfold State.orphan
  extract_lets v0 v1
  refine rf_cut (W := vS) v1 ?_ (fun h2 => ?_)
  · unfold v1
    refine rf_step (State.setHost_rf _ _) rfl rfl ?_
    exact rf_refl
  split
  · rename_i w3 w4 w5
    refine rf_foldl ?_ (fun t6 x7 h8 => ?_)
    · exact h2
    · refine rf_step (State.hostEnd_rf _ _ _) rfl rfl ?_
      exact h8
  · rename_i w9 w10
    exact h2

theorem State.bmeOff_rf (s x1) :
    RF vS [.freeCtr, .values, .octets, .galley, .edge, .front, .fab, .host, .pot, .res, .alarms] [0x600008, 0x600009, 0x60000A, 0x60000E, 0x60000F, 0x600013, 0x60001D, 0x620007, 0x620009, 0x80000E, 0xA4000D, 0xB20006, 0xB20007, 0xB2000F] s (State.bmeOff s x1) := by
  unfold State.bmeOff
  extract_lets v0 v1
  refine rf_cut (W := vS) v1 ?_ (fun h2 => ?_)
  · unfold v1
    refine rf_step (State.orphan_rf _ _) rfl rfl ?_
    refine rf_step (State.setFn_rf _ _ _) rfl rfl ?_
    exact rf_refl
  refine rf_ite (fun _h3 => ?_) (fun _h4 => ?_)
  · refine rf_step (State.raise_rf _ _ _ _ _) rfl rfl ?_
    exact h2
  · exact h2

theorem execBmeClear_rf (x0 s) :
    RF vOut [.freeCtr, .values, .octets, .galley, .edge, .front, .fab, .host, .pot, .res, .alarms] [0x600008, 0x600009, 0x60000A, 0x60000E, 0x60000F, 0x600013, 0x60001D, 0x620007, 0x620009, 0x80000E, 0xA4000D, 0xB20006, 0xB20007, 0xB2000F] s (execBmeClear x0 s) := by
  unfold execBmeClear
  refine rf_ite (fun _h0 => ?_) (fun _h1 => ?_)
  · refine rf_next ?_
    refine rf_step (State.bmeOff_rf _ _) rfl rfl ?_
    exact rf_refl
  · refine rf_next ?_
    exact rf_refl

theorem execBmeSet_rf (x0 s) :
    RF vOut [.host] [] s (execBmeSet x0 s) := by
  unfold execBmeSet
  extract_lets v0
  refine rf_ite (fun _h1 => ?_) (fun _h2 => ?_)
  · refine rf_next ?_
    refine rf_step (State.setFn_rf _ _ _) rfl rfl ?_
    exact rf_refl
  · refine rf_next ?_
    exact rf_refl

theorem State.flrOne_rf (s x1) :
    RF vS [.freeCtr, .values, .octets, .galley, .edge, .front, .fab, .host, .pot, .res, .alarms] [0x600008, 0x600009, 0x60000A, 0x60000E, 0x60000F, 0x600013, 0x60001D, 0x620007, 0x620009, 0x80000E, 0xA00009, 0xA01006, 0xA4000D, 0xB20006, 0xB20007, 0xB2000F] s (State.flrOne s x1) := by
  unfold State.flrOne
  extract_lets p t1 t2 fn t3 t4 t5
  refine rf_step (State.raise_rf _ _ _ _ _) rfl rfl ?_
  refine rf_step (State.bump_rf _ _ _) rfl rfl ?_
  refine rf_step (State.setHost_rf _ _) rfl rfl ?_
  refine rf_upd (b := t3) ?_ ⟨fun f hf hv => by cases f <;> first | exact absurd (by decide) hf | exact absurd rfl hv | rfl | exact ⟨rfl, rfl⟩ | exact ⟨rfl, rfl, rfl, rfl, rfl⟩, Or.inr fun _ _ => rfl⟩ (Keeps.of rfl (Nat.le_refl _) rfl)
  refine rf_step (State.setFn_rf _ _ _) rfl rfl ?_
  have h1 : RF vS [.freeCtr, .values, .octets, .galley, .edge, .front, .fab, .host, .pot, .res, .alarms] [0x600008, 0x600009, 0x60000A, 0x60000E, 0x60000F, 0x600013, 0x60001D, 0x620007, 0x620009, 0x80000E, 0xA00009, 0xA01006, 0xA4000D, 0xB20006, 0xB20007, 0xB2000F] s t1 :=
    rf_step (State.bmeOff_rf _ _) rfl rfl rf_refl
  unfold t2
  clear_value p
  cases p with
  | none => exact h1
  | some n => exact rf_step (State.qpsDown_rf _ _) rfl rfl h1

theorem State.flr_rf (s x1) :
    RF vS [.freeCtr, .values, .octets, .time, .galley, .edge, .front, .fab, .host, .pot, .res, .alarms] [0x304002, 0x600008, 0x600009, 0x60000A, 0x60000E, 0x60000F, 0x600013, 0x60001D, 0x620007, 0x620009, 0x80000E, 0xA00009, 0xA01006, 0xA4000D, 0xB20006, 0xB20007, 0xB2000F] s (State.flr s x1) := by
  unfold State.flr
  extract_lets v0 v1 v2 v3
  refine rf_cut (W := vS) v0 ?_ (fun h4 => ?_)
  · unfold v0
    refine rf_step (State.flrOne_rf _ _) rfl rfl ?_
    refine rf_foldl ?_ (fun t5 x6 h7 => ?_)
    · exact rf_refl
    · refine rf_step (State.flrOne_rf _ _) rfl rfl ?_
      exact h7
  refine rf_cut (W := vS) v2 ?_ (fun h8 => ?_)
  · unfold v2
    refine rf_step (State.hostTimeInvalid_rf _) rfl rfl ?_
    refine rf_step (State.setHost_rf _ _) rfl rfl ?_
    exact h4
  refine rf_ite (fun _h9 => ?_) (fun _h10 => ?_)
  · refine rf_step (State.setTime_rf _ _) rfl rfl ?_
    exact h8
  · refine rf_step (State.flrOne_rf _ _) rfl rfl ?_
    exact rf_refl

theorem execFlrInitiate_rf (x0 s) :
    RF vOut [.freeCtr, .values, .octets, .time, .galley, .edge, .front, .fab, .host, .pot, .res, .alarms] [0x304002, 0x600008, 0x600009, 0x60000A, 0x60000E, 0x60000F, 0x600013, 0x60001D, 0x620007, 0x620009, 0x80000E, 0xA00009, 0xA01006, 0xA4000D, 0xB20006, 0xB20007, 0xB2000F] s (execFlrInitiate x0 s) := by
  unfold execFlrInitiate
  refine rf_ite (fun _h0 => ?_) (fun _h1 => ?_)
  · refine rf_next ?_
    refine rf_step (State.flr_rf _ _) rfl rfl ?_
    exact rf_refl
  · refine rf_next ?_
    exact rf_refl

theorem execFlrComplete_rf (x0 s) :
    RF vOut [.host] [] s (execFlrComplete x0 s) := by
  unfold execFlrComplete
  extract_lets v0
  refine rf_next ?_
  refine rf_step (State.setFn_rf _ _ _) rfl rfl ?_
  exact rf_refl

theorem execPcieLinkTrained_rf (x0 x1 x2 s) :
    RF vOut [.freeCtr, .octets, .time, .host, .pot, .alarms] [0x304002, 0xB20006, 0xB20007, 0xB2000F] s (execPcieLinkTrained x0 x1 x2 s) := by
  unfold execPcieLinkTrained
  extract_lets v0 v1 v2
  refine rf_cut (W := vS) v2 ?_ (fun h3 => ?_)
  · unfold v2
    refine rf_step (State.condition_rf _ _ _ _) rfl rfl ?_
    refine rf_step (State.setHost_rf _ _) rfl rfl ?_
    exact rf_refl
  refine rf_next ?_
  refine rf_ite (fun _h4 => ?_) (fun _h5 => ?_)
  · refine rf_step (State.hostTimeInvalid_rf _) rfl rfl ?_
    exact h3
  · exact h3

theorem execPcieLinkReset_rf (s) :
    RF vOut [.freeCtr, .values, .octets, .time, .galley, .edge, .front, .fab, .host, .pot, .res, .alarms] [0x304002, 0x600008, 0x600009, 0x60000A, 0x60000E, 0x60000F, 0x600013, 0x60001D, 0x620007, 0x620009, 0x80000E, 0xA00009, 0xA01006, 0xA4000D, 0xB20006, 0xB20007, 0xB2000F] s (execPcieLinkReset s) := by
  unfold execPcieLinkReset
  extract_lets v0 v1
  refine rf_cut (W := vS) v0 ?_ (fun h2 => ?_)
  · unfold v0
    refine rf_step (State.flr_rf _ _) rfl rfl ?_
    exact rf_refl
  refine rf_next ?_
  refine rf_step (State.condition_rf _ _ _ _) rfl rfl ?_
  refine rf_step (State.setHost_rf _ _) rfl rfl ?_
  exact h2

theorem State.writeVfEnable_rf (s x1) :
    RF vS [.freeCtr, .values, .octets, .galley, .edge, .front, .fab, .host, .pot, .res, .alarms] [0x600008, 0x600009, 0x60000A, 0x60000E, 0x60000F, 0x600013, 0x60001D, 0x620007, 0x620009, 0x80000E, 0xA00009, 0xA01006, 0xA4000D, 0xB20006, 0xB20007, 0xB2000F] s (State.writeVfEnable s x1) := by
  unfold State.writeVfEnable
  extract_lets v0 v1
  refine rf_cut (W := vS) v0 ?_ (fun h2 => ?_)
  · unfold v0
    refine rf_ite (fun _h3 => ?_) (fun _h4 => ?_)
    · refine rf_foldl ?_ (fun t5 x6 h7 => ?_)
      · exact rf_refl
      · refine rf_step (State.flrOne_rf _ _) rfl rfl ?_
        exact h7
    · exact rf_refl
  refine rf_step (State.setHost_rf _ _) rfl rfl ?_
  exact h2

theorem execPcieConfigWrite_rf (x0 x1 x2 s) :
    RF vOut [.freeCtr, .values, .octets, .time, .galley, .edge, .front, .fab, .host, .pot, .res, .alarms] [0x304002, 0x600008, 0x600009, 0x60000A, 0x60000E, 0x60000F, 0x600013, 0x60001D, 0x620007, 0x620009, 0x80000E, 0xA00009, 0xA01006, 0xA4000D, 0xB20006, 0xB20007, 0xB2000F] s (execPcieConfigWrite x0 x1 x2 s) := by
  unfold execPcieConfigWrite
  extract_lets v0 v1 v2 v3
  refine rf_cut (W := vS) v3 ?_ (fun h4 => ?_)
  · unfold v3
    refine rf_step (State.setTime_rf _ _) rfl rfl ?_
    exact rf_refl
  refine rf_ite (fun _h5 => ?_) (fun _h6 => ?_)
  · refine rf_next ?_
    exact rf_refl
  · split
    · rename_i w7
      refine rf_next ?_
      refine rf_step (State.setFn_rf _ _ _) rfl rfl ?_
      exact rf_refl
    · rename_i w8
      refine rf_next ?_
      refine rf_step (State.setFn_rf _ _ _) rfl rfl ?_
      exact rf_refl
    · rename_i w9
      refine rf_next ?_
      refine rf_step (State.setFn_rf _ _ _) rfl rfl ?_
      exact rf_refl
    · rename_i w10
      refine rf_ite (fun _h11 => ?_) (fun _h12 => ?_)
      · refine rf_next ?_
        refine rf_step (State.writeVfEnable_rf _ _) rfl rfl ?_
        exact rf_refl
      · refine rf_next ?_
        exact rf_refl
    · rename_i w13
      refine rf_ite (fun _h14 => ?_) (fun _h15 => ?_)
      · refine rf_next ?_
        refine rf_step (State.setHost_rf _ _) rfl rfl ?_
        exact rf_refl
      · refine rf_next ?_
        exact rf_refl
    · rename_i w16
      refine rf_ite (fun _h17 => ?_) (fun _h18 => ?_)
      · refine rf_next ?_
        refine rf_step (State.setHost_rf _ _) rfl rfl ?_
        exact rf_refl
      · refine rf_next ?_
        exact rf_refl
    · rename_i w19
      refine rf_ite (fun _h20 => ?_) (fun _h21 => ?_)
      · refine rf_next ?_
        refine rf_ite (fun _h22 => ?_) (fun _h23 => ?_)
        · refine rf_step (State.hostTimeInvalid_rf _) rfl rfl ?_
          exact h4
        · exact h4
      · refine rf_next ?_
        exact rf_refl

end Sys2Proof.Machine
end

