-- ==== Sys2Proof/Laws/FramesImages.lean ====
section
/-!
SUPPORT. What each operation of Machine/Images.lean may change, one lemma each.
-/

namespace Sys2Proof.Machine

set_option Elab.async false

open Sys2Proof

theorem State.verify_rf (s x1 x2) :
    RF vSnd [.freeCtr, .octets, .pot, .alarms] [0xB20006, 0xB20007, 0xB2000F] s (State.verify s x1 x2) := by
  unfold State.verify
  split
  · rename_i w0 w1
    refine rf_snd ?_
    exact rf_refl
  · rename_i w2 w3
    refine rf_snd ?_
    refine rf_ite (fun _h4 => ?_) (fun _h5 => ?_)
    · refine rf_step (State.raise_rf _ _ _ _ _) rfl rfl ?_
      exact rf_refl
    · exact rf_refl

theorem State.measure_rf (s x1 x2) :
    RF vS [.octets] [] s (State.measure s x1 x2) := by
  unfold State.measure
  extract_lets v0 v1
  refine rf_step (State.setOct_rf _ _ _ _) rfl rfl ?_
  exact rf_refl

theorem State.verifySlot_rf (s x1 x2) :
    RF vS [.freeCtr, .octets, .pot, .alarms] [0x700003, 0x700004, 0x700005, 0x700006, 0x700007, 0xB20006, 0xB20007, 0xB2000F] s (State.verifySlot s x1 x2) := by
  unfold State.verifySlot
  split
  · rename_i w0 w1 w2
    refine rf_pair_snd w2 ?_ (fun h3 => ?_)
    · refine rf_step (State.verify_rf _ _ _) rfl rfl ?_
      exact rf_refl
    extract_lets v4 v5
    refine rf_cut (W := vS) v4 ?_ (fun h6 => ?_)
    · unfold v4
      refine rf_step (State.setNum_rf _ _ _ _) rfl rfl ?_
      refine rf_step (State.setNum_rf _ _ _ _) rfl rfl ?_
      exact h3
    refine rf_cut (W := vS) v5 ?_ (fun h7 => ?_)
    · unfold v5
      refine rf_step (State.setNum_rf _ _ _ _) rfl rfl ?_
      refine rf_step (State.setNum_rf _ _ _ _) rfl rfl ?_
      exact h6
    refine rf_ite (fun _h8 => ?_) (fun _h9 => ?_)
    · refine rf_step (State.measure_rf _ _ _) rfl rfl ?_
      exact h7
    · exact h7
  · rename_i w10 w11 w12 w13 w14
    refine rf_pair_snd w14 ?_ (fun h15 => ?_)
    · refine rf_step (State.verify_rf _ _ _) rfl rfl ?_
      exact rf_refl
    refine rf_step (State.raise_rf _ _ _ _ _) rfl rfl ?_
    refine rf_step (State.setNum_rf _ _ _ _) rfl rfl ?_
    refine rf_step (State.setNum_rf _ _ _ _) rfl rfl ?_
    exact h15

theorem execVxImageVerifyDone_rf (x0 s) :
    RF vOut [.freeCtr, .octets, .pot, .alarms] [0x700003, 0x700004, 0x700005, 0x700006, 0x700007, 0xB20006, 0xB20007, 0xB2000F] s (execVxImageVerifyDone x0 s) := by
  unfold execVxImageVerifyDone
  refine rf_ite (fun _h0 => ?_) (fun _h1 => ?_)
  · split
    · rename_i w2 w3 w4
      refine rf_next ?_
      refine rf_step (State.verifySlot_rf _ _ _) rfl rfl ?_
      exact rf_refl
    · rename_i w5 w6
      refine rf_next ?_
      exact rf_refl
  · refine rf_next ?_
    exact rf_refl

end Sys2Proof.Machine
end

