-- ==== Sys2Proof/Laws/FramesPartitions.lean ====
section
/-!
SUPPORT. What each operation of Machine/Partitions.lean may change, one lemma each.
-/

namespace Sys2Proof.Machine

set_option Elab.async false

open Sys2Proof

theorem State.takePart_rf (s x1) :
    RF vS [.force] [] s (State.takePart s x1) := by
  unfold State.takePart
  refine rf_foldl ?_ (fun t0 x1 h2 => ?_)
  · refine rf_step (State.takeAll_rf _ _ _) rfl rfl ?_
    exact rf_refl
  · refine rf_step (State.take_rf _ _ _) rfl rfl ?_
    exact h2

theorem enablePart_rf (x0 x1 s) :
    RF vOk [.force, .parts] [0xA40002, 0xA40003] s (enablePart x0 x1 s) := by
  unfold enablePart
  extract_lets v0 v1
  refine rf_cut (W := vS) v1 ?_ (fun h2 => ?_)
  · unfold v1
    refine rf_step (State.setFlag_rf _ _ _ _) rfl rfl ?_
    refine rf_step (State.setFlag_rf _ _ _ _) rfl rfl ?_
    refine rf_step (State.takePart_rf _ _) rfl rfl ?_
    exact rf_refl
  refine rf_ite (fun _h3 => ?_) (fun _h4 => ?_)
  · refine rf_ite (fun _h5 => ?_) (fun _h6 => ?_)
    · refine rf_ok ?_
      refine rf_step (State.setFlag_rf _ _ _ _) rfl rfl ?_
      refine rf_step (State.setPart_rf _ _ _) rfl rfl ?_
      exact rf_refl
    · exact rf_error _
  · refine rf_ite (fun _h7 => ?_) (fun _h8 => ?_)
    · exact rf_error _
    · refine rf_ite (fun _h9 => ?_) (fun _h10 => ?_)
      · exact rf_error _
      · split
        · rename_i w11 w12
          refine rf_ok ?_
          refine rf_step (State.setPart_rf _ _ _) rfl rfl ?_
          exact h2
        · rename_i w13 w14
          exact rf_error _

theorem execPartEnable_rf (x0 x1 x2 s) :
    RF vOut [.reply, .force, .parts] [0xA40002, 0xA40003] s (execPartEnable x0 x1 x2 s) := by
  unfold execPartEnable
  refine rf_next ?_
  refine State.actOn_rf rfl ?_ (fun u0 => ?_)
  · exact rf_refl
  · refine rf_step (enablePart_rf _ _ _) rfl rfl ?_
    exact rf_refl

theorem pausePart_rf (x0 x1 s) :
    RF vOk [.force, .parts] [0xA40003] s (pausePart x0 x1 s) := by
  unfold pausePart
  extract_lets v0
  refine rf_ite (fun _h1 => ?_) (fun _h2 => ?_)
  · refine rf_ok ?_
    refine rf_step (State.takeTie_rf _ _ _) rfl rfl ?_
    refine rf_step (State.setNum_rf _ _ _ _) rfl rfl ?_
    refine rf_step (State.setPart_rf _ _ _) rfl rfl ?_
    exact rf_refl
  · exact rf_error _

theorem execPartPause_rf (x0 x1 x2 s) :
    RF vOut [.reply, .force, .parts] [0xA40003] s (execPartPause x0 x1 x2 s) := by
  unfold execPartPause
  refine rf_next ?_
  refine State.actOn_rf rfl ?_ (fun u0 => ?_)
  · exact rf_refl
  · refine rf_step (pausePart_rf _ _ _) rfl rfl ?_
    exact rf_refl

theorem State.abortPart_rf (s x1 x2) :
    RF vS [.freeCtr, .octets, .galley, .edge, .front, .fab, .pot, .alarms] [0x600008, 0x600009, 0x60000A, 0x60000B, 0x620007, 0x620009, 0xB20006, 0xB20007, 0xB2000F] s (State.abortPart s x1 x2) := by
  unfold State.abortPart
  refine rf_foldl ?_ (fun t0 x1 h2 => ?_)
  · exact rf_refl
  · refine rf_step (State.abortImp_rf _ _ _) rfl rfl ?_
    exact h2

theorem resetPart_rf (x0 x1 s) :
    RF vOk [.freeCtr, .values, .octets, .galley, .edge, .front, .fab, .host, .parts, .pot, .res, .alarms] [0x600008, 0x600009, 0x60000A, 0x60000B, 0x60000E, 0x60000F, 0x600013, 0x60001D, 0x620007, 0x620009, 0x80000E, 0xA01006, 0xA4000D, 0xA4000E, 0xB20006, 0xB20007, 0xB2000F] s (resetPart x0 x1 s) := by
  unfold resetPart
  extract_lets v0 v1 v2 v3 v4
  refine rf_cut (W := vS) v1 ?_ (fun h5 => ?_)
  · unfold v1
    refine rf_step (State.setPart_rf _ _ _) rfl rfl ?_
    exact rf_refl
  refine rf_cut (W := vS) v2 ?_ (fun h6 => ?_)
  · unfold v2
    refine rf_step (State.qpsDown_rf _ _) rfl rfl ?_
    refine rf_step (State.abortPart_rf _ _ _) rfl rfl ?_
    refine rf_step (State.clear_rf _ _ _ _) rfl rfl ?_
    exact h5
  refine rf_cut (W := vS) v4 ?_ (fun h7 => ?_)
  · unfold v4
    refine rf_ite (fun _h8 => ?_) (fun _h9 => ?_)
    · exact h6
    · refine rf_step (State.orphan_rf _ _) rfl rfl ?_
      exact h6
  refine rf_ite (fun _h10 => ?_) (fun _h11 => ?_)
  · exact rf_error _
  · refine rf_ite (fun _h12 => ?_) (fun _h13 => ?_)
    · refine rf_ok ?_
      refine rf_step (State.raise_rf _ _ _ _ _) rfl rfl ?_
      refine rf_step (State.bump_rf _ _ _) rfl rfl ?_
      exact h7
    · exact rf_error _

theorem execPartReset_rf (x0 x1 x2 s) :
    RF vOut [.reply, .freeCtr, .values, .octets, .galley, .edge, .front, .fab, .host, .parts, .pot, .res, .alarms] [0x600008, 0x600009, 0x60000A, 0x60000B, 0x60000E, 0x60000F, 0x600013, 0x60001D, 0x620007, 0x620009, 0x80000E, 0xA01006, 0xA4000D, 0xA4000E, 0xB20006, 0xB20007, 0xB2000F] s (execPartReset x0 x1 x2 s) := by
  unfold execPartReset
  refine rf_next ?_
  refine State.actOn_rf rfl ?_ (fun u0 => ?_)
  · exact rf_refl
  · refine rf_step (resetPart_rf _ _ _) rfl rfl ?_
    exact rf_refl

theorem State.freePart_rf (s x1) :
    RF vS [.freeCtr, .octets, .edge, .front, .fab, .pot, .alarms] [0x620007, 0x620009, 0xB20006, 0xB20007, 0xB2000F] s (State.freePart s x1) := by
  unfold State.freePart
  refine rf_foldl ?_ (fun t0 x1 h2 => ?_)
  · exact rf_refl
  · refine rf_step (State.freeBufs_rf _ _) rfl rfl ?_
    exact h2

theorem execPartResetComplete_rf (x0 s) :
    RF vOut [.freeCtr, .octets, .edge, .front, .fab, .parts, .pot, .alarms] [0x620007, 0x620009, 0xA40002, 0xB20006, 0xB20007, 0xB2000F] s (execPartResetComplete x0 s) := by
  unfold execPartResetComplete
  extract_lets v0
  refine rf_ite (fun _h1 => ?_) (fun _h2 => ?_)
  · refine rf_next ?_
    refine rf_step (State.setFlag_rf _ _ _ _) rfl rfl ?_
    refine rf_step (State.setPart_rf _ _ _) rfl rfl ?_
    refine rf_step (State.freePart_rf _ _) rfl rfl ?_
    exact rf_refl
  · refine rf_next ?_
    exact rf_refl

theorem execResetLimitExpiry_rf (x0 s) :
    RF vOut [.freeCtr, .octets, .parts, .pot, .alarms] [0xB20006, 0xB20007, 0xB2000F] s (execResetLimitExpiry x0 s) := by
  unfold execResetLimitExpiry
  extract_lets v0
  refine rf_ite (fun _h1 => ?_) (fun _h2 => ?_)
  · refine rf_next ?_
    refine rf_step (State.raise_rf _ _ _ _ _) rfl rfl ?_
    refine rf_step (State.setPart_rf _ _ _) rfl rfl ?_
    exact rf_refl
  · refine rf_next ?_
    exact rf_refl

theorem execDisableCloseTimeout_rf (x0 s) :
    RF vOut [.freeCtr, .octets, .galley, .edge, .front, .fab, .parts, .pot, .alarms] [0x600008, 0x600009, 0x60000A, 0x60000B, 0x620007, 0x620009, 0xB20006, 0xB20007, 0xB2000F] s (execDisableCloseTimeout x0 s) := by
  unfold execDisableCloseTimeout
  extract_lets v0
  refine rf_ite (fun _h1 => ?_) (fun _h2 => ?_)
  · refine rf_next ?_
    refine rf_step (State.abortPart_rf _ _ _) rfl rfl ?_
    refine rf_step (State.setPart_rf _ _ _) rfl rfl ?_
    exact rf_refl
  · refine rf_next ?_
    exact rf_refl

end Sys2Proof.Machine
end

