-- ==== Sys2Proof/Laws/FramesPins.lean ====
section
/-!
SUPPORT. What each operation of Machine/Pins.lean may change, one lemma each.
-/

namespace Sys2Proof.Machine

set_option Elab.async false

open Sys2Proof

theorem State.setPins_rf (s x1) :
    RF vS [.pins] [] s (State.setPins s x1) := by
  unfold State.setPins
  refine rf_upd (b := s) ?_ ⟨fun f hf hv => by cases f <;> first | exact absurd (by decide) hf | exact absurd rfl hv | rfl | exact ⟨rfl, rfl⟩ | exact ⟨rfl, rfl, rfl, rfl, rfl⟩, Or.inr fun _ _ => rfl⟩ (Keeps.of rfl (Nat.le_refl _) rfl)
  exact rf_refl

theorem State.setPinBank_rf (s x1 x2) :
    RF vS [.pins] [] s (State.setPinBank s x1 x2) := by
  unfold State.setPinBank
  extract_lets v0
  refine rf_step (State.setPins_rf _ _) rfl rfl ?_
  exact rf_refl

theorem writeGpioConfig_rf (x0 x1 s) :
    RF vOk [.pins] [0xD00002] s (writeGpioConfig x0 x1 s) := by
  unfold writeGpioConfig
  extract_lets v0
  refine rf_ite (fun _h1 => ?_) (fun _h2 => ?_)
  · refine rf_ite (fun _h3 => ?_) (fun _h4 => ?_)
    · refine rf_ok ?_
      exact rf_refl
    · exact rf_error _
  · refine rf_ite (fun _h5 => ?_) (fun _h6 => ?_)
    · exact rf_error _
    · refine rf_ok ?_
      refine rf_step (State.setPins_rf _ _) rfl rfl ?_
      refine rf_step (State.setNum_rf _ _ _ _) rfl rfl ?_
      exact rf_refl

theorem execGpioConfig_rf (x0 x1 s) :
    RF vOut [.reply, .pins] [0xD00002] s (execGpioConfig x0 x1 s) := by
  unfold execGpioConfig
  refine rf_next ?_
  refine State.actSel_rf rfl ?_ (fun k1 u0 => ?_)
  · exact rf_refl
  · refine rf_step (writeGpioConfig_rf _ _ _) rfl rfl ?_
    exact rf_refl

theorem execFrameStrobeEnd_rf (x0 s) :
    RF vOut [.pins] [] s (execFrameStrobeEnd x0 s) := by
  unfold execFrameStrobeEnd
  extract_lets v0
  refine rf_next ?_
  refine rf_ite (fun _h1 => ?_) (fun _h2 => ?_)
  · refine rf_step (State.setPins_rf _ _) rfl rfl ?_
    exact rf_refl
  · exact rf_refl

theorem State.leaveSteady_rf (s x1 x2) :
    RF vS [.pins] [] s (State.leaveSteady s x1 x2) := by
  unfold State.leaveSteady
  extract_lets v0 v1
  refine rf_step (State.setPinBank_rf _ _ _) rfl rfl ?_
  refine rf_step (State.setPins_rf _ _) rfl rfl ?_
  exact rf_refl

theorem writeBankVoltage_rf (x0 s) :
    RF vOk [.freeCtr, .octets, .pot, .pins, .alarms] [0xB20006, 0xB20007, 0xB2000F, 0xD00006] s (writeBankVoltage x0 s) := by
  unfold writeBankVoltage
  extract_lets v0 v1
  refine rf_ite (fun _h2 => ?_) (fun _h3 => ?_)
  · exact rf_error _
  · refine rf_ite (fun _h4 => ?_) (fun _h5 => ?_)
    · exact rf_error _
    · refine rf_ok ?_
      refine rf_step (State.setNum_rf _ _ _ _) rfl rfl ?_
      unfold v1
      refine rf_ite (fun _h6 => ?_) (fun _h7 => ?_)
      · refine rf_step (State.condition_rf _ _ _ _) rfl rfl ?_
        refine rf_step (State.leaveSteady_rf _ _ _) rfl rfl ?_
        refine rf_ite (fun _h8 => ?_) (fun _h9 => ?_)
        · refine rf_step (State.condition_rf _ _ _ _) rfl rfl ?_
          refine rf_step (State.leaveSteady_rf _ _ _) rfl rfl ?_
          exact rf_refl
        · exact rf_refl
      · refine rf_ite (fun _h10 => ?_) (fun _h11 => ?_)
        · refine rf_step (State.condition_rf _ _ _ _) rfl rfl ?_
          refine rf_step (State.leaveSteady_rf _ _ _) rfl rfl ?_
          exact rf_refl
        · exact rf_refl

theorem execBankVoltage_rf (x0 x1 s) :
    RF vOut [.reply, .freeCtr, .octets, .pot, .pins, .alarms] [0xB20006, 0xB20007, 0xB2000F, 0xD00006] s (execBankVoltage x0 x1 s) := by
  unfold execBankVoltage
  refine rf_next ?_
  refine State.actOn_rf rfl ?_ (fun u0 => ?_)
  · exact rf_refl
  · refine rf_step (writeBankVoltage_rf _ _) rfl rfl ?_
    exact rf_refl

theorem execBankSettle_rf (x0 s) :
    RF vOut [.pins] [] s (execBankSettle x0 s) := by
  unfold execBankSettle
  refine rf_ite (fun _h0 => ?_) (fun _h1 => ?_)
  · refine rf_next ?_
    refine rf_step (State.setPinBank_rf _ _ _) rfl rfl ?_
    exact rf_refl
  · refine rf_next ?_
    exact rf_refl

theorem execBankSupplyFault_rf (x0 s) :
    RF vOut [.freeCtr, .octets, .pot, .pins, .alarms] [0xB20006, 0xB20007, 0xB2000F] s (execBankSupplyFault x0 s) := by
  unfold execBankSupplyFault
  refine rf_ite (fun _h0 => ?_) (fun _h1 => ?_)
  · refine rf_next ?_
    refine rf_step (State.condition_rf _ _ _ _) rfl rfl ?_
    refine rf_step (State.leaveSteady_rf _ _ _) rfl rfl ?_
    exact rf_refl
  · refine rf_next ?_
    exact rf_refl

theorem execBankSupplyReturn_rf (x0 s) :
    RF vOut [.freeCtr, .octets, .pot, .pins, .alarms] [0xB20006, 0xB20007, 0xB2000F] s (execBankSupplyReturn x0 s) := by
  unfold execBankSupplyReturn
  refine rf_ite (fun _h0 => ?_) (fun _h1 => ?_)
  · refine rf_next ?_
    refine rf_step (State.condition_rf _ _ _ _) rfl rfl ?_
    refine rf_step (State.setPinBank_rf _ _ _) rfl rfl ?_
    exact rf_refl
  · refine rf_next ?_
    exact rf_refl

theorem execRcoShort_rf (x0 s) :
    RF vOut [.freeCtr, .octets, .pot, .pins, .alarms] [0xB20006, 0xB20007, 0xB2000F] s (execRcoShort x0 s) := by
  unfold execRcoShort
  extract_lets v0 v1
  refine rf_ite (fun _h2 => ?_) (fun _h3 => ?_)
  · refine rf_next ?_
    refine rf_step (State.condition_rf _ _ _ _) rfl rfl ?_
    refine rf_step (State.setPins_rf _ _) rfl rfl ?_
    exact rf_refl
  · refine rf_next ?_
    exact rf_refl

theorem execRcoRetry_rf (x0 x1 s) :
    RF vOut [.freeCtr, .octets, .pot, .pins, .alarms] [0xB20006, 0xB20007, 0xB2000F, 0xD0000B] s (execRcoRetry x0 x1 s) := by
  unfold execRcoRetry
  extract_lets v0 v1
  refine rf_cut (W := vS) v0 ?_ (fun h2 => ?_)
  · unfold v0
    refine rf_step (State.bump_rf _ _ _) rfl rfl ?_
    exact rf_refl
  refine rf_ite (fun _h3 => ?_) (fun _h4 => ?_)
  · refine rf_next ?_
    refine rf_ite (fun _h5 => ?_) (fun _h6 => ?_)
    · refine rf_step (State.condition_rf _ _ _ _) rfl rfl ?_
      refine rf_step (State.setPins_rf _ _) rfl rfl ?_
      exact h2
    · refine rf_step (State.setPins_rf _ _) rfl rfl ?_
      exact h2
  · refine rf_next ?_
    exact rf_refl

theorem execPinContention_rf (x0 s) :
    RF vOut [.freeCtr, .octets, .pot, .alarms] [0xB20006, 0xB20007, 0xB2000F, 0xD00008, 0xD0000C] s (execPinContention x0 s) := by
  unfold execPinContention
  split
  · rename_i w0 w1 w2
    extract_lets v3
    refine rf_cut (W := vS) v3 ?_ (fun h4 => ?_)
    · unfold v3
      refine rf_step (State.bump_rf _ _ _) rfl rfl ?_
      refine rf_step (State.setBits_rf _ _ _ _) rfl rfl ?_
      exact rf_refl
    refine rf_ite (fun _h5 => ?_) (fun _h6 => ?_)
    · refine rf_next ?_
      refine rf_step (State.condition_rf _ _ _ _) rfl rfl ?_
      exact h4
    · refine rf_next ?_
      exact rf_refl
  · rename_i w7 w8
    refine rf_next ?_
    exact rf_refl

theorem clearPinFault_rf (x0 s) :
    RF vS [.freeCtr, .octets, .pot, .alarms] [0xB20006, 0xB20007, 0xB2000F, 0xD00008] s (clearPinFault x0 s) := by
  unfold clearPinFault
  extract_lets v0
  refine rf_cut (W := vS) v0 ?_ (fun h1 => ?_)
  · unfold v0
    refine rf_step (State.setNum_rf _ _ _ _) rfl rfl ?_
    exact rf_refl
  refine rf_ite (fun _h2 => ?_) (fun _h3 => ?_)
  · refine rf_foldl ?_ (fun t4 x5 h6 => ?_)
    · exact h1
    · refine rf_step (State.condition_rf _ _ _ _) rfl rfl ?_
      exact h6
  · exact h1

theorem execPinFaultClear_rf (x0 x1 x2 s) :
    RF vOut [.reply, .freeCtr, .octets, .pot, .alarms] [0xB20006, 0xB20007, 0xB2000F, 0xD00008] s (execPinFaultClear x0 x1 x2 s) := by
  unfold execPinFaultClear
  refine rf_next ?_
  refine State.actOn_rf rfl ?_ (fun u0 => ?_)
  · exact rf_refl
  · refine rf_ok ?_
    refine rf_step (clearPinFault_rf _ _) rfl rfl ?_
    exact rf_refl

theorem execAlarmPinHoldExpiry_rf (s) :
    RF vOut [.alarms] [] s (execAlarmPinHoldExpiry s) := by
  unfold execAlarmPinHoldExpiry
  extract_lets v0
  split
  · rename_i w1 w2 w3
    refine rf_next ?_
    refine rf_ite (fun _h4 => ?_) (fun _h5 => ?_)
    · refine rf_upd (b := s) ?_ ⟨fun f hf hv => by cases f <;> first | exact absurd (by decide) hf | exact absurd rfl hv | rfl | exact ⟨rfl, rfl⟩ | exact ⟨rfl, rfl, rfl, rfl, rfl⟩, Or.inr fun _ _ => rfl⟩ (Keeps.of rfl (Nat.le_refl _) rfl)
      exact rf_refl
    · exact rf_refl
  · rename_i w6 w7
    refine rf_next ?_
    exact rf_refl

end Sys2Proof.Machine
end

