-- ==== Sys2Proof/Laws/Fuses.lean ====
section
/-!
SUPPORT. Laws of the fuses: what a write blows is never less than what was blown (R387, R388).
-/

namespace Sys2Proof.Machine

open Sys2Proof

theorem and_eq_left_lt {a v n : Nat} (h : a &&& v = a) (l : a < 2 ^ n) : a &&& (v % 2 ^ n) = a := by
  have e : a &&& (v % 2 ^ n) = (a &&& v) % 2 ^ n := by
    rw [Nat.and_mod_two_pow, Nat.mod_eq_of_lt l]
  rw [e, h, Nat.mod_eq_of_lt l]

theorem and_or_absorb (a b : Nat) : a &&& (a ||| b) = a := by
  apply Nat.eq_of_testBit_eq
  intro i
  simp only [Nat.testBit_and, Nat.testBit_or]
  cases a.testBit i <;> simp

theorem clearsFuse_rollback {a v : Nat} : clearsFuse .rollback a v = false ↔ a ≤ v := by simp [clearsFuse]

theorem clearsFuse_bits {item : FuseItem} (hi : item ≠ .rollback) {a v : Nat} :
    clearsFuse item a v = false ↔ a &&& v = a := by
  cases item <;> first | exact absurd rfl hi | simp [clearsFuse]

/-- The value read after a write of the same item. -/
theorem SecSt.blow_same (x : SecSt) (item : FuseItem) (k v : Nat) :
    ({ x.blow item k v with fuse := none } : SecSt).fuseVal item k = v ∨
      ∃ n, item ≠ .rollback ∧ x.fuseVal item k < 2 ^ n ∧
        ({ x.blow item k v with fuse := none } : SecSt).fuseVal item k = v % 2 ^ n := by
  cases item
  case rollback =>
    left
    exact Tab.get_put_same _ _ _ _
  all_goals right
  · exact ⟨2, nofun, BitVec.isLt _, by simp [SecSt.blow, SecSt.fuseVal]⟩
  · exact ⟨8, nofun, BitVec.isLt _, by simp [SecSt.blow, SecSt.fuseVal]⟩
  · exact ⟨4, nofun, BitVec.isLt _, by simp [SecSt.blow, SecSt.fuseVal]⟩

/-- A write leaves every other item as it was. -/
theorem SecSt.blow_other (x : SecSt) (item i : FuseItem) (k v n : Nat) (h : i ≠ item ∨ i = .rollback ∧ n ≠ k) :
    ({ x.blow item k v with fuse := none } : SecSt).fuseVal i n = x.fuseVal i n := by
  cases item <;> cases i <;> first | rfl | skip
  all_goals simp_all [SecSt.blow, SecSt.fuseVal, SecSt.level]
  exact Tab.get_put_other _ _ _ _ _ _ h

/-- A value that clears nothing, blown, clears nothing. -/
theorem SecSt.blow_kept (x : SecSt) (item : FuseItem) (k v : Nat) (h : clearsFuse item (x.fuseVal item k) v = false) :
    FusesKept x { x.blow item k v with fuse := none } := by
  intro i n
  by_cases hi : i ≠ item ∨ i = .rollback ∧ n ≠ k
  · rw [x.blow_other item i k v n hi]
    exact clearsFuse_self i _
  · simp only [ne_eq, not_or, Decidable.not_not, not_and] at hi
    obtain ⟨rfl, hn⟩ := hi
    have hv : x.fuseVal i n = x.fuseVal i k := by cases i <;> first | rfl | rw [hn rfl]
    have hw : ({ x.blow i k v with fuse := none } : SecSt).fuseVal i n
        = ({ x.blow i k v with fuse := none } : SecSt).fuseVal i k := by cases i <;> first | rfl | rw [hn rfl]
    rw [hv, hw]
    rcases x.blow_same i k v with e | ⟨m, hr, hl, e⟩ <;> rw [e]
    · exact h
    · rw [clearsFuse_bits hr] at *
      exact and_eq_left_lt h hl

theorem FuseSound.none (x : SecSt) : FuseSound { x with fuse := none } := fun _ _ _ h => by cases h

/-- The write under way blown whole. -/
theorem SecSt.done_kept (x : SecSt) (item : FuseItem) (k v : Nat) (e : x.fuse = some (item, k, v)) (h : FuseSound x) :
    FuseSound { x.blow item k v with fuse := none } ∧ FusesKept x { x.blow item k v with fuse := none } :=
  ⟨FuseSound.none _, x.blow_kept item k v (h item k v e)⟩

/-- A write accepted and started. -/
theorem SecSt.start_kept (x : SecSt) (item : FuseItem) (k v : Nat) (h : clearsFuse item (x.fuseVal item k) v = false) :
    FuseSound { x with fuse := some (item, k, v) } ∧ FusesKept x { x with fuse := some (item, k, v) } := by
  refine ⟨fun i n w e => ?_, fun i n => ?_⟩
  · simp only [Option.some.injEq, Prod.mk.injEq] at e
    obtain ⟨rfl, rfl, rfl⟩ := e
    cases item <;> exact h
  · have e : ({ x with fuse := some (item, k, v) } : SecSt).fuseVal i n = x.fuseVal i n := by cases i <;> rfl
    rw [e]
    exact clearsFuse_self i _

/-- A write that goes on clears nothing. -/
theorem State.fuseReason_kept (s : State) (item : FuseItem) (k v : Nat) (h : s.fuseReason item k v = 0) :
    clearsFuse item (s.sec.fuseVal item k) v = false := by
  cases hc : clearsFuse item (s.sec.fuseVal item k) v with
  | false => rfl
  | true =>
    simp [State.fuseReason, firstFail, hc] at h

end Sys2Proof.Machine
end

