-- ==== Sys2Proof/Laws/FramesSecurity.lean ====
section
/-!
SUPPORT. What each operation of Machine/Security.lean may change, one lemma each.
-/

namespace Sys2Proof.Machine

set_option Elab.async false

open Sys2Proof

theorem State.fuseDone_rf (s) :
    RF vS [.reply, .freeCtr, .octets, .pot, .sec, .alarms] [0xB20006, 0xB20007, 0xB2000F] s (State.fuseDone s) := by
  unfold State.fuseDone
  split
  · rename_i w0 w1 w2 w3 w4
    extract_lets v5
    refine rf_step (State.answer_rf _ _) rfl rfl ?_
    refine rf_step (State.raise_rf _ _ _ _ _) rfl rfl ?_
    refine rf_upd (b := s) ?_ ⟨fun f hf hv => by cases f <;> first | exact absurd (by decide) hf | exact absurd rfl hv | rfl | exact ⟨rfl, rfl⟩ | exact ⟨rfl, rfl, rfl, rfl, rfl⟩, Or.inr fun _ _ => rfl⟩ (Keeps.ofFuse rfl (Nat.le_refl _) (SecSt.done_kept s.sec _ _ _ ‹_›))
    exact rf_refl
  · rename_i w6 w7
    exact rf_refl

theorem writeFuse_rf (x0 x1 x2 s) :
    RF vOk [.reply, .freeCtr, .octets, .pot, .sec, .alarms] [0xB20006, 0xB20007, 0xB2000F] s (writeFuse x0 x1 x2 s) := by
  unfold writeFuse
  extract_lets v0 v1
  refine rf_cut (W := vS) v0 ?_ (fun h2 => ?_)
  · unfold v0
    refine rf_step (State.fuseDone_rf _) rfl rfl ?_
    exact rf_refl
  split
  · rename_i w3 w4
    refine rf_ok ?_
    clear_value v0
    refine rf_upd (b := v0) ?_ ⟨fun f hf hv => by cases f <;> first | exact absurd (by decide) hf | exact absurd rfl hv | rfl | exact ⟨rfl, rfl⟩ | exact ⟨rfl, rfl, rfl, rfl, rfl⟩, Or.inr fun _ _ => rfl⟩ (Keeps.ofFuse rfl (Nat.le_refl _) (fun _ => SecSt.start_kept _ _ _ _ (State.fuseReason_kept _ _ _ _ w4)))
    exact h2
  · rename_i w5 w6
    exact rf_error _

theorem State.interimIf_rf (s x1) :
    RF vS [.reply] [] s (State.interimIf s x1) := by
  unfold State.interimIf
  refine rf_ite (fun _h0 => ?_) (fun _h1 => ?_)
  · refine rf_upd (b := s) ?_ ⟨fun f hf hv => by cases f <;> first | exact absurd (by decide) hf | exact absurd rfl hv | rfl | exact ⟨rfl, rfl⟩ | exact ⟨rfl, rfl, rfl, rfl, rfl⟩, Or.inr fun _ _ => rfl⟩ (Keeps.of rfl (Nat.le_refl _) rfl)
    exact rf_refl
  · exact rf_refl

theorem execFuseWrite_rf (x0 x1 x2 s) :
    RF vOut [.reply, .freeCtr, .octets, .pot, .sec, .alarms] [0xB20006, 0xB20007, 0xB2000F] s (execFuseWrite x0 x1 x2 s) := by
  unfold execFuseWrite
  extract_lets v0
  refine rf_cut (W := vS) v0 ?_ (fun h1 => ?_)
  · unfold v0
    refine State.actSel_rf rfl ?_ (fun k3 u2 => ?_)
    · exact rf_refl
    · refine rf_step (writeFuse_rf _ _ _ _) rfl rfl ?_
      exact rf_refl
  refine rf_next ?_
  refine rf_step (State.interimIf_rf _ _) rfl rfl ?_
  exact h1

theorem State.fuseCut_rf (s) :
    RF vS [.freeCtr, .sec] [] s (State.fuseCut s) := by
  unfold State.fuseCut
  split
  · exact rf_refl
  · rename_i item k v e
    refine rf_upd (b := s) rf_refl ⟨fun f hf hv => by cases f <;> first | exact absurd (by decide) hf | exact absurd rfl hv | rfl | exact ⟨rfl, rfl⟩ | exact ⟨rfl, rfl, rfl, rfl, rfl⟩, Or.inr fun _ _ => rfl⟩ (Keeps.ofFuse rfl (Nat.le_succ _) fun _ => ⟨FuseSound.none _, SecSt.blow_kept s.sec _ _ _ ?_⟩)
    cases item
    case rollback => exact clearsFuse_rollback.2 (Nat.le_add_right _ _)
    all_goals exact (clearsFuse_bits (fun h => by cases h)).2 (and_or_absorb _ _)

theorem State.setDebug_rf (s x1) :
    RF vS [.sec] [] s (State.setDebug s x1) := by
  unfold State.setDebug
  extract_lets v0
  refine rf_upd (b := s) ?_ ⟨fun f hf hv => by cases f <;> first | exact absurd (by decide) hf | exact absurd rfl hv | rfl | exact ⟨rfl, rfl⟩ | exact ⟨rfl, rfl, rfl, rfl, rfl⟩, Or.inr fun _ _ => rfl⟩ (Keeps.of rfl (Nat.le_refl _) rfl)
  exact rf_refl

theorem State.debugEnd_rf (s) :
    RF vS [.sec] [] s (State.debugEnd s) := by
  unfold State.debugEnd
  extract_lets v0
  refine rf_step (State.setDebug_rf _ _) rfl rfl ?_
  exact rf_refl

theorem execDbgRequest_rf (x0 s) :
    RF vOut [.sec] [] s (execDbgRequest x0 s) := by
  unfold execDbgRequest
  extract_lets v0
  refine rf_next ?_
  refine rf_step (State.setDebug_rf _ _) rfl rfl ?_
  exact rf_refl

theorem execDbgChallenge_rf (s) :
    RF vOut [.reply, .freeCtr, .sec] [] s (execDbgChallenge s) := by
  unfold execDbgChallenge
  extract_lets v0 v1 v2 v3 v4 v5
  refine rf_cut (W := vS) v2 ?_ (fun h6 => ?_)
  · unfold v2
    refine rf_upd (b := s) ?_ ⟨fun f hf hv => by cases f <;> first | exact absurd (by decide) hf | exact absurd rfl hv | rfl | exact ⟨rfl, rfl⟩ | exact ⟨rfl, rfl, rfl, rfl, rfl⟩, Or.inr fun _ _ => rfl⟩ (Keeps.of rfl (Nat.le_add_right _ _) rfl)
    exact rf_refl
  refine rf_ite (fun _h7 => ?_) (fun _h8 => ?_)
  · refine rf_next ?_
    exact rf_refl
  · refine rf_next ?_
    refine rf_step (State.answerData_rf _ _) rfl rfl ?_
    refine rf_step (State.setDebug_rf _ _) rfl rfl ?_
    exact h6

theorem execDbgResponse_rf (x0 s) :
    RF vOut [.freeCtr, .octets, .pot, .sec, .alarms] [0xB20006, 0xB20007, 0xB2000F, 0xC00009] s (execDbgResponse x0 s) := by
  unfold execDbgResponse
  extract_lets v0 v1 v2 v3
  refine rf_cut (W := vS) v3 ?_ (fun h4 => ?_)
  · unfold v3
    refine rf_step (State.setDebug_rf _ _) rfl rfl ?_
    exact rf_refl
  refine rf_ite (fun _h5 => ?_) (fun _h6 => ?_)
  · refine rf_next ?_
    refine rf_step (State.raise_rf _ _ _ _ _) rfl rfl ?_
    refine rf_step (State.setDebug_rf _ _) rfl rfl ?_
    exact rf_refl
  · refine rf_next ?_
    refine rf_step (State.raise_rf _ _ _ _ _) rfl rfl ?_
    refine rf_step (State.bump_rf _ _ _) rfl rfl ?_
    exact h4

theorem execDebugLockoutEnd_rf (s) :
    RF vOut [.sec] [] s (execDebugLockoutEnd s) := by
  unfold execDebugLockoutEnd
  extract_lets v0
  refine rf_next ?_
  refine rf_ite (fun _h1 => ?_) (fun _h2 => ?_)
  · refine rf_step (State.setDebug_rf _ _) rfl rfl ?_
    exact rf_refl
  · exact rf_refl

theorem execTapReset_rf (s) :
    RF vOut [.sec] [] s (execTapReset s) := by
  unfold execTapReset
  refine rf_next ?_
  refine rf_step (State.debugEnd_rf _) rfl rfl ?_
  exact rf_refl

theorem State.runControl_rf (s x1 x2 x3) :
    RF vS [.vx, .sec] [] s (State.runControl s x1 x2 x3) := by
  unfold State.runControl
  extract_lets v0 v1
  refine rf_ite (fun _h2 => ?_) (fun _h3 => ?_)
  · refine rf_ite (fun _h4 => ?_) (fun _h5 => ?_)
    · refine rf_step (State.setCore_rf _ _ _) rfl rfl ?_
      exact rf_refl
    · exact rf_refl
  · refine rf_step (State.setDebug_rf _ _) rfl rfl ?_
    exact rf_refl

theorem execJtagInstruction_rf (x0 s) :
    RF vOut [.reply, .freeCtr, .mode, .values, .octets, .force, .time, .galley, .vx, .edge, .front, .mogil, .mem, .fab, .pot, .sec, .res, .alarms] (0x200004 :: 0x200005 :: 0x200006 :: 0x200007 :: 0x600002 :: 0x600008 :: 0x600009 :: 0x60000A :: 0x60000C :: 0x60000D :: 0x60000E :: 0x60000F :: 0x600013 :: 0x60001D :: 0x620007 :: 0x620008 :: 0x620009 :: 0x630003 :: 0x630004 :: 0x630005 :: 0x700009 :: 0x800007 :: 0x80000E :: 0x82000B :: 0x900001 :: 0x900004 :: 0x900005 :: 0x901002 :: 0x901003 :: 0x901005 :: 0x901006 :: 0x902002 :: 0x902003 :: 0x903006 :: 0x903007 :: 0x903008 :: 0x903009 :: 0x91000B :: 0x91000E :: 0x91000F :: 0xA4000C :: 0xB10004 :: 0xB20006 :: 0xB20007 :: 0xB2000F :: 0xE00006 :: []) s (execJtagInstruction x0 s) := by
  unfold execJtagInstruction
  extract_lets v0 v1
  split
  · rename_i w2
    refine rf_next ?_
    exact rf_refl
  · rename_i w3
    refine rf_next ?_
    refine rf_step (State.answerData_rf _ _) rfl rfl ?_
    exact rf_refl
  · rename_i w4
    refine rf_next ?_
    refine rf_ite (fun _h5 => ?_) (fun _h6 => ?_)
    · refine rf_step (State.answer_rf _ _) rfl rfl ?_
      exact rf_refl
    · exact rf_refl
  · rename_i w7 w8 w9
    refine rf_next ?_
    refine rf_ite (fun _h10 => ?_) (fun _h11 => ?_)
    · refine rf_step (State.runControl_rf _ _ _ _) rfl rfl ?_
      exact rf_refl
    · exact rf_refl
  · rename_i w12 w13 w14
    refine rf_next ?_
    refine rf_ite (fun _h15 => ?_) (fun _h16 => ?_)
    · refine rf_step (State.runControl_rf _ _ _ _) rfl rfl ?_
      exact rf_refl
    · exact rf_refl
  · rename_i w17 w18
    refine rf_next ?_
    refine rf_ite (fun _h19 => ?_) (fun _h20 => ?_)
    · refine rf_step (State.route_rf _ _) rfl rfl ?_
      exact rf_refl
    · exact rf_refl
  · rename_i w21
    refine rf_next ?_
    refine rf_ite (fun _h22 => ?_) (fun _h23 => ?_)
    · refine rf_step (State.setDebug_rf _ _) rfl rfl ?_
      exact rf_refl
    · exact rf_refl
  · rename_i w24
    refine rf_next ?_
    refine rf_ite (fun _h25 => ?_) (fun _h26 => ?_)
    · refine rf_step (State.setDebug_rf _ _) rfl rfl ?_
      exact rf_refl
    · exact rf_refl

theorem State.regionOn_rf (s x1) :
    RF vS [.freeCtr, .force, .sec] [0x910007] s (State.regionOn s x1) := by
  unfold State.regionOn
  extract_lets v0
  split
  rename_i w1 w2 w3 w4
  refine rf_pair_snd w4 ?_ (fun h5 => ?_)
  · refine rf_step (State.draw_rf _) rfl rfl ?_
    exact rf_refl
  extract_lets v6
  refine rf_cut (W := vS) v6 ?_ (fun h7 => ?_)
  · unfold v6
    refine rf_step (State.takeAll_rf _ _ _) rfl rfl ?_
    exact h5
  refine rf_step (State.setFlag_rf _ _ _ _) rfl rfl ?_
  refine rf_step (State.setRegion_rf _ _ _) rfl rfl ?_
  exact h7

theorem enableRegion_rf (x0 x1 s) :
    RF vOk [.freeCtr, .mode, .octets, .force, .time, .mem, .fab, .pot, .sec, .res, .alarms] [0x200004, 0x200005, 0x200006, 0x910007, 0xB10004, 0xB20006, 0xB20007, 0xB2000F] s (enableRegion x0 x1 s) := by
  unfold enableRegion
  extract_lets r m t
  have ht : RF vS [.freeCtr, .mode, .octets, .force, .time, .mem, .fab, .pot, .sec, .res, .alarms] [0x200004, 0x200005, 0x200006, 0x910007, 0xB10004, 0xB20006, 0xB20007, 0xB2000F] s t := by
    unfold t
    refine rf_step (State.unpoison_rf _ _ _) rfl rfl (rf_step (State.unpoison_rf _ _ _) rfl rfl ?_)
    exact rf_upd (b := s) rf_refl ⟨fun f hf hv => by cases f <;> first | exact absurd (by decide) hf | exact absurd rfl hv | rfl | exact ⟨rfl, rfl⟩ | exact ⟨rfl, rfl, rfl, rfl, rfl⟩, Or.inr fun _ _ => rfl⟩
      (Keeps.ofMem (fun w => Memory.wf_zero _ _ _ (Memory.wf_zero _ _ _ w)) rfl rfl)
  clear_value t
  refine rf_ite (fun _ => ?_) (fun _ => ?_)
  · refine rf_ite (fun _ => rf_ok rf_refl) (fun _ => rf_ok ?_)
    refine rf_step (State.clear_rf _ _ _ _) rfl rfl ?_
    refine rf_step (State.dropRekey_rf _ _) rfl rfl ?_
    refine rf_step (State.setFlag_rf _ _ _ _) rfl rfl ?_
    exact rf_step (State.setRegion_rf _ _ _) rfl rfl ht
  · refine rf_ite (fun _ => rf_ok rf_refl) (fun _ => rf_ite (fun _ => rf_error _) (fun _ => ?_))
    split
    · exact rf_ok (rf_step (State.regionOn_rf _ _) rfl rfl rf_refl)
    · exact rf_error _

theorem execRegionEnable_rf (x0 s) :
    RF vOut [.reply, .freeCtr, .mode, .octets, .force, .time, .mem, .fab, .pot, .sec, .res, .alarms] [0x200004, 0x200005, 0x200006, 0x910007, 0xB10004, 0xB20006, 0xB20007, 0xB2000F] s (execRegionEnable x0 s) := by
  unfold execRegionEnable
  extract_lets v0 v1
  refine rf_cut (W := vS) v1 ?_ (fun h2 => ?_)
  · unfold v1
    refine State.actSel_rf rfl ?_ (fun k4 u3 => ?_)
    · exact rf_refl
    · refine rf_step (enableRegion_rf _ _ _) rfl rfl ?_
      exact rf_refl
  refine rf_next ?_
  refine rf_step (State.interimIf_rf _ _) rfl rfl ?_
  exact h2

theorem execRegionDisable_rf (x0 s) :
    RF vOut [.reply, .freeCtr, .mode, .octets, .force, .time, .mem, .fab, .pot, .sec, .res, .alarms] [0x200004, 0x200005, 0x200006, 0x910007, 0xB10004, 0xB20006, 0xB20007, 0xB2000F] s (execRegionDisable x0 s) := by
  unfold execRegionDisable
  refine rf_next ?_
  refine State.actSel_rf rfl ?_ (fun k1 u0 => ?_)
  · exact rf_refl
  · refine rf_step (enableRegion_rf _ _ _) rfl rfl ?_
    exact rf_refl

theorem writeRekeyNow_rf (x0 x1 s) :
    RF vOk [.freeCtr, .mode, .octets, .fab, .pot, .sec, .res, .alarms] [0x200004, 0x200005, 0x200006, 0xB10004, 0xB20006, 0xB20007, 0xB2000F] s (writeRekeyNow x0 x1 s) := by
  unfold writeRekeyNow
  extract_lets v0 v1
  refine rf_ite (fun _h2 => ?_) (fun _h3 => ?_)
  · exact rf_error _
  · refine rf_ite (fun _h4 => ?_) (fun _h5 => ?_)
    · refine rf_ok ?_
      refine rf_step (State.requestToken_rf _ _ _) rfl rfl ?_
      exact rf_refl
    · refine rf_ok ?_
      exact rf_refl

theorem execRekeyNow_rf (x0 x1 s) :
    RF vOut [.reply, .freeCtr, .mode, .octets, .fab, .pot, .sec, .res, .alarms] [0x200004, 0x200005, 0x200006, 0xB10004, 0xB20006, 0xB20007, 0xB2000F] s (execRekeyNow x0 x1 s) := by
  unfold execRekeyNow
  refine rf_next ?_
  refine State.actSel_rf rfl ?_ (fun k1 u0 => ?_)
  · exact rf_refl
  · refine rf_step (writeRekeyNow_rf _ _ _) rfl rfl ?_
    exact rf_refl

theorem State.releaseHeld_rf (s x1) :
    RF vS [.freeCtr, .mode, .octets, .galley, .vx, .mogil, .mem, .fab, .pot, .sec, .res, .alarms] [0x200004, 0x200005, 0x200006, 0x903007, 0x91000F, 0xB10004, 0xB20006, 0xB20007, 0xB2000F] s (State.releaseHeld s x1) := by
  unfold State.releaseHeld
  extract_lets v0 v1
  refine rf_foldl ?_ (fun t2 x3 h4 => ?_)
  · refine rf_step (State.setRegion_rf _ _ _) rfl rfl ?_
    exact rf_refl
  · extract_lets v5
    refine rf_ite (fun _h6 => ?_) (fun _h7 => ?_)
    · refine rf_step (State.setRegion_rf _ _ _) rfl rfl ?_
      exact h4
    · refine rf_step (State.writeAt_rf _ _ _ _ _) rfl rfl ?_
      exact h4

theorem State.writeBack_rf (s x1 x2 x3) :
    RF vS [.freeCtr, .mode, .octets, .galley, .vx, .mogil, .mem, .fab, .pot, .sec, .res, .alarms] [0x200004, 0x200005, 0x200006, 0x903007, 0x91000F, 0xB10004, 0xB20006, 0xB20007, 0xB2000F] s (State.writeBack s x1 x2 x3) := by
  have h1 (q : Region) : RF vS [.freeCtr, .mode, .octets, .galley, .vx, .mogil, .mem, .fab, .pot, .sec, .res, .alarms] [0x200004, 0x200005, 0x200006, 0x903007, 0x91000F, 0xB10004, 0xB20006, 0xB20007, 0xB2000F] s (s.setRegion x1 q) :=
    rf_step (State.setRegion_rf _ _ _) rfl rfl rf_refl
  have h2 {t : State} (h : RF vS [.freeCtr, .mode, .octets, .galley, .vx, .mogil, .mem, .fab, .pot, .sec, .res, .alarms] [0x200004, 0x200005, 0x200006, 0x903007, 0x91000F, 0xB10004, 0xB20006, 0xB20007, 0xB2000F] s t) (p : FabSt) :
      RF vS [.freeCtr, .mode, .octets, .galley, .vx, .mogil, .mem, .fab, .pot, .sec, .res, .alarms] [0x200004, 0x200005, 0x200006, 0x903007, 0x91000F, 0xB10004, 0xB20006, 0xB20007, 0xB2000F] s { t with fab := p } :=
    rf_upd (b := t) h ⟨fun f hf hv => by cases f <;> first | exact absurd (by decide) hf | exact absurd rfl hv | rfl | exact ⟨rfl, rfl⟩ | exact ⟨rfl, rfl, rfl, rfl, rfl⟩, Or.inr fun _ _ => rfl⟩ (Keeps.of rfl (Nat.le_refl _) rfl)
  unfold State.writeBack
  extract_lets r ls q t _ t' t''
  refine rf_step (State.releaseHeld_rf _ _) rfl rfl ?_
  have ht : RF vS [.freeCtr, .mode, .octets, .galley, .vx, .mogil, .mem, .fab, .pot, .sec, .res, .alarms] [0x200004, 0x200005, 0x200006, 0x903007, 0x91000F, 0xB10004, 0xB20006, 0xB20007, 0xB2000F] s t' := by
    unfold t'
    exact rf_ite (fun _ => h2 (h1 _) _) (fun _ => h1 _)
  unfold t''
  clear_value t' q r
  exact rf_ite (fun _ => rf_step (State.requestToken_rf _ _ _) rfl rfl ht) (fun _ => ht)

theorem State.rekeyOn_rf (s x1) :
    RF vS [.freeCtr, .mode, .octets, .time, .fab, .pot, .sec, .res, .alarms] [0x200004, 0x200005, 0x200006, 0x91000D, 0xB10004, 0xB20006, 0xB20007, 0xB2000F] s (State.rekeyOn s x1) := by
  unfold State.rekeyOn
  extract_lets v0 v1
  refine rf_cut (W := vS) v1 ?_ (fun h2 => ?_)
  · unfold v1
    refine rf_step (State.setRegion_rf _ _ _) rfl rfl ?_
    exact rf_refl
  split
  · rename_i w3 w4 w5
    refine rf_step (State.setRegion_rf _ _ _) rfl rfl ?_
    exact rf_refl
  · rename_i w6 w7
    refine rf_step (State.returnToken_rf _ _ _) rfl rfl ?_
    refine rf_step (State.raise_rf _ _ _ _ _) rfl rfl ?_
    refine rf_step (State.bump_rf _ _ _) rfl rfl ?_
    exact h2

theorem execRekeyBlock_rf (x0 s) :
    RF vOut [.freeCtr, .mode, .octets, .time, .galley, .vx, .mogil, .mem, .fab, .pot, .sec, .res, .alarms] [0x200004, 0x200005, 0x200006, 0x903007, 0x91000B, 0x91000D, 0x91000F, 0xB10004, 0xB20006, 0xB20007, 0xB2000F] s (execRekeyBlock x0 s) := by
  unfold execRekeyBlock
  extract_lets v0
  refine rf_ite (fun _h1 => ?_) (fun _h2 => ?_)
  · refine rf_next ?_
    exact rf_refl
  · split
    · rename_i w3 w4
      refine rf_next ?_
      refine rf_step (State.rekeyOn_rf _ _) rfl rfl ?_
      exact rf_refl
    · rename_i w5 w6 w7 w8
      refine rf_ite (fun _h9 => ?_) (fun _h10 => ?_)
      · refine rf_next ?_
        exact rf_refl
      · refine rf_ite (fun _h11 => ?_) (fun _h12 => ?_)
        · refine rf_next ?_
          refine rf_step (State.setRegion_rf _ _ _) rfl rfl ?_
          exact rf_refl
        · split
          · rename_i w13 w14
            refine rf_next ?_
            refine rf_step (State.rekeyOn_rf _ _) rfl rfl ?_
            refine rf_step (State.writeBack_rf _ _ _ _) rfl rfl ?_
            exact rf_refl
          · rename_i w15 w16 w17
            extract_lets v18
            refine rf_cut (W := vS) v18 ?_ (fun h19 => ?_)
            · unfold v18
              refine rf_step (State.checkFailed_rf _ _ _) rfl rfl ?_
              exact rf_refl
            refine rf_next ?_
            refine rf_ite (fun _h20 => ?_) (fun _h21 => ?_)
            · refine rf_step (State.rekeyOn_rf _ _) rfl rfl ?_
              refine rf_step (State.writeBack_rf _ _ _ _) rfl rfl ?_
              exact h19
            · exact h19

end Sys2Proof.Machine
end

