-- ==== Sys2Proof/Laws/FramesBoot.lean ====
section
/-!
SUPPORT. What each operation of Machine/Boot.lean may change, one lemma each.
-/

namespace Sys2Proof.Machine

set_option Elab.async false

open Sys2Proof

theorem State.reload_rf (s x1) :
    RF vS [.values, .octets, .force, .pot] [] s (State.reload s x1) := by
  unfold State.reload
  extract_lets v0 v1 v2 v3 v4 v5 v6 v7
  refine rf_cut (W := vS) v6 ?_ (fun h8 => ?_)
  · unfold v6
    refine rf_upd (b := s) ?_ ⟨fun f hf hv => by cases f <;> first | exact absurd (by decide) hf | exact absurd rfl hv | rfl | exact ⟨rfl, rfl⟩ | exact ⟨rfl, rfl, rfl, rfl, rfl⟩, Or.inl (by decide)⟩ (Keeps.of rfl (Nat.le_refl _) rfl)
    exact rf_refl
  clear_value v6
  refine rf_upd (b := v6) ?_ ⟨fun f hf hv => by cases f <;> first | exact absurd (by decide) hf | exact absurd rfl hv | rfl | exact ⟨rfl, rfl⟩ | exact ⟨rfl, rfl, rfl, rfl, rfl⟩, Or.inr fun _ _ => rfl⟩ (Keeps.of rfl (Nat.le_refl _) rfl)
  exact h8

theorem State.endConditions_rf (s) :
    RF vS [.pot, .alarms] [0xB20006] s (State.endConditions s) := by
  unfold State.endConditions
  extract_lets v0 v1
  refine rf_foldl ?_ (fun t2 x3 h4 => ?_)
  · exact rf_refl
  · refine rf_step (State.clear_rf _ _ _ _) rfl rfl ?_
    exact h4

theorem State.pathReset_rf (s) :
    RF vS [.time, .galley, .vx, .edge, .front, .mogil, .mem, .fab, .host, .parts, .pot, .sec, .power, .res, .pins, .alarms] [0x200007, 0x210001, 0x210004, 0x210006, 0x210007, 0x210008, 0xB20006] s (State.pathReset s) := by
  unfold State.pathReset
  extract_lets v0 v1 v2 v3 v4 v5 v6 v7 v8
  refine rf_cut (W := vS) v3 ?_ (fun h9 => ?_)
  · unfold v3
    refine rf_upd (b := s) ?_ ⟨fun f hf hv => by cases f <;> first | exact absurd (by decide) hf | exact absurd rfl hv | rfl | exact ⟨rfl, rfl⟩ | exact ⟨rfl, rfl, rfl, rfl, rfl⟩, Or.inr fun _ _ => rfl⟩ (Keeps.ofMem (fun _ => rfl) rfl rfl)
    exact rf_refl
  refine rf_cut (W := vS) v5 ?_ (fun h10 => ?_)
  · unfold v5
    clear_value v3
    refine rf_upd (b := v3) ?_ ⟨fun f hf hv => by cases f <;> first | exact absurd (by decide) hf | exact absurd rfl hv | rfl | exact ⟨rfl, rfl⟩ | exact ⟨rfl, rfl, rfl, rfl, rfl⟩, Or.inr fun _ _ => rfl⟩ (Keeps.of rfl (Nat.le_refl _) rfl)
    exact h9
  refine rf_cut (W := vS) v7 ?_ (fun h11 => ?_)
  · unfold v7
    refine rf_step (State.setTime_rf _ _) rfl rfl ?_
    exact h10
  refine rf_cut (W := vS) v8 ?_ (fun h12 => ?_)
  · unfold v8
    refine rf_step (State.setNum_rf _ _ _ _) rfl rfl ?_
    refine rf_step (State.setNum_rf _ _ _ _) rfl rfl ?_
    exact h11
  refine rf_step (State.endConditions_rf _) rfl rfl ?_
  refine rf_step (State.debugEnd_rf _) rfl rfl ?_
  refine rf_step (State.capsNow_rf _) rfl rfl ?_
  refine rf_step (State.setNum_rf _ _ _ _) rfl rfl ?_
  refine rf_step (State.setNum_rf _ _ _ _) rfl rfl ?_
  exact h12

theorem State.dropRefs_rf (s) :
    RF vS [.freeCtr, .octets, .time, .pot, .alarms] [0x300005, 0x300013, 0x300018, 0x30001A, 0xB20006, 0xB20007, 0xB2000F] s (State.dropRefs s) := by
  unfold State.dropRefs
  extract_lets v0 v1 v2 v3
  refine rf_cut (W := vS) v1 ?_ (fun h4 => ?_)
  · unfold v1
    refine rf_step (State.setTime_rf _ _) rfl rfl ?_
    exact rf_refl
  refine rf_cut (W := vS) v3 ?_ (fun h5 => ?_)
  · unfold v3
    refine rf_step (State.setTime_rf _ _) rfl rfl ?_
    exact h4
  refine rf_ite (fun _h6 => ?_) (fun _h7 => ?_)
  · refine rf_step (State.losePhase_rf _) rfl rfl ?_
    exact h4
  · refine rf_step (State.noteSelected_rf _) rfl rfl ?_
    refine rf_step (State.freeRate_rf _) rfl rfl ?_
    refine rf_step (State.setServo_rf _ _) rfl rfl ?_
    exact h5

theorem State.standbyTime_rf (s) :
    RF vS [.freeCtr, .octets, .time, .pot, .alarms] [0x300005, 0x300013, 0x300018, 0x30001A, 0xB20006, 0xB20007, 0xB2000F] s (State.standbyTime s) := by
  unfold State.standbyTime
  extract_lets v0 v1 v2
  refine rf_cut (W := vS) v0 ?_ (fun h3 => ?_)
  · unfold v0
    refine rf_step (State.dropRefs_rf _) rfl rfl ?_
    exact rf_refl
  refine rf_cut (W := vS) v1 ?_ (fun h4 => ?_)
  · unfold v1
    refine rf_step (State.freeRate_rf _) rfl rfl ?_
    refine rf_step (State.setServo_rf _ _) rfl rfl ?_
    exact h3
  refine rf_ite (fun _h5 => ?_) (fun _h6 => ?_)
  · exact rf_refl
  · refine rf_ite (fun _h7 => ?_) (fun _h8 => ?_)
    · refine rf_step (State.setTime_rf _ _) rfl rfl ?_
      exact h4
    · refine rf_ite (fun _h9 => ?_) (fun _h10 => ?_)
      · refine rf_step (State.setTime_rf _ _) rfl rfl ?_
        exact h4
      · exact h3

theorem State.startBasecamp_rf (s) :
    RF vS [.freeCtr, .octets, .pot, .sec, .alarms] [0xB20006, 0xB20007, 0xB2000F] s (State.startBasecamp s) := by
  unfold State.startBasecamp
  extract_lets v0
  split
  · rename_i w1 w2
    unfold v0
    extract_lets v3
    refine rf_upd (b := s) ?_ ⟨fun f hf hv => by cases f <;> first | exact absurd (by decide) hf | exact absurd rfl hv | rfl | exact ⟨rfl, rfl⟩ | exact ⟨rfl, rfl, rfl, rfl, rfl⟩, Or.inr fun _ _ => rfl⟩ (Keeps.of rfl (Nat.le_refl _) rfl)
    exact rf_refl
  · rename_i w4 w5 w6
    split
    · rename_i w7 w8 w9
      refine rf_pair_snd w9 ?_ (fun h10 => ?_)
      · refine rf_step (State.verify_rf _ _ _) rfl rfl ?_
        exact rf_refl
      extract_lets v11
      refine rf_ite (fun _h12 => ?_) (fun _h13 => ?_)
      · refine rf_upd (b := w8) ?_ ⟨fun f hf hv => by cases f <;> first | exact absurd (by decide) hf | exact absurd rfl hv | rfl | exact ⟨rfl, rfl⟩ | exact ⟨rfl, rfl, rfl, rfl, rfl⟩, Or.inr fun _ _ => rfl⟩ (Keeps.of rfl (Nat.le_refl _) rfl)
        exact h10
      · unfold v0
        refine rf_upd (b := w8) ?_ ⟨fun f hf hv => by cases f <;> first | exact absurd (by decide) hf | exact absurd rfl hv | rfl | exact ⟨rfl, rfl⟩ | exact ⟨rfl, rfl, rfl, rfl, rfl⟩, Or.inr fun _ _ => rfl⟩ (Keeps.of rfl (Nat.le_refl _) rfl)
        exact h10
    · rename_i w14 w15 w16 w17 w18
      refine rf_pair_snd w18 ?_ (fun h19 => ?_)
      · refine rf_step (State.verify_rf _ _ _) rfl rfl ?_
        exact rf_refl
      unfold v0
      extract_lets v20
      refine rf_upd (b := w16) ?_ ⟨fun f hf hv => by cases f <;> first | exact absurd (by decide) hf | exact absurd rfl hv | rfl | exact ⟨rfl, rfl⟩ | exact ⟨rfl, rfl, rfl, rfl, rfl⟩, Or.inr fun _ _ => rfl⟩ (Keeps.of rfl (Nat.le_refl _) rfl)
      exact h19

theorem State.enterStandby_rf (s x1) :
    RF vS [.freeCtr, .mode, .values, .octets, .force, .time, .galley, .vx, .edge, .front, .mogil, .mem, .fab, .host, .parts, .pot, .sec, .power, .res, .pins, .alarms] [0x200004, 0x200005, 0x200006, 0x200007, 0x200009, 0x210001, 0x210004, 0x210006, 0x210007, 0x210008, 0x300005, 0x300013, 0x300018, 0x30001A, 0x600008, 0x600009, 0x60000A, 0x60000B, 0x620007, 0x620009, 0xB20006, 0xB20007, 0xB2000F] s (State.enterStandby s x1) := by
  unfold State.enterStandby
  extract_lets v0 v1 v2 v3
  refine rf_cut (W := vS) v0 ?_ (fun h4 => ?_)
  · unfold v0
    refine rf_step (State.pinsLow_rf _) rfl rfl ?_
    refine rf_step (State.stopPath_rf _) rfl rfl ?_
    refine rf_step (State.abortAll_rf _) rfl rfl ?_
    exact rf_refl
  refine rf_cut (W := vS) v1 ?_ (fun h5 => ?_)
  · unfold v1
    refine rf_step (State.standbyTime_rf _) rfl rfl ?_
    refine rf_step (State.reload_rf _ _) rfl rfl ?_
    refine rf_step (State.pathReset_rf _) rfl rfl ?_
    exact h4
  refine rf_cut (W := vS) v3 ?_ (fun h6 => ?_)
  · unfold v3
    clear_value v1
    refine rf_upd (b := v1) ?_ ⟨fun f hf hv => by cases f <;> first | exact absurd (by decide) hf | exact absurd rfl hv | rfl | exact ⟨rfl, rfl⟩ | exact ⟨rfl, rfl, rfl, rfl, rfl⟩, Or.inr fun _ _ => rfl⟩ (Keeps.of rfl (Nat.le_refl _) rfl)
    exact h5
  refine rf_step (State.enterMode_rf _ _ _) rfl rfl ?_
  refine rf_step (State.setNum_rf _ _ _ _) rfl rfl ?_
  refine rf_step (State.startBasecamp_rf _) rfl rfl ?_
  exact h6

theorem State.towards_rf (s x1) :
    RF vS [.mode] [] s (State.towards s x1) := by
  unfold State.towards
  extract_lets v0
  refine rf_upd (b := s) ?_ ⟨fun f hf hv => by cases f <;> first | exact absurd (by decide) hf | exact absurd rfl hv | rfl | exact ⟨rfl, rfl⟩ | exact ⟨rfl, rfl, rfl, rfl, rfl⟩, Or.inr fun _ _ => rfl⟩ (Keeps.of rfl (Nat.le_refl _) rfl)
  exact rf_refl

theorem State.autoBoot_rf (s) :
    RF vS [.mode] [] s (State.autoBoot s) := by
  unfold State.autoBoot
  refine rf_ite (fun _h0 => ?_) (fun _h1 => ?_)
  · refine rf_step (State.towards_rf _ _) rfl rfl ?_
    exact rf_refl
  · exact rf_refl

theorem State.sampleStraps_rf (s x1) :
    RF vS [] [0x110010, 0x20000F, 0xD0000D] s (State.sampleStraps s x1) := by
  unfold State.sampleStraps
  extract_lets v0
  refine rf_step (State.setNum_rf _ _ _ _) rfl rfl ?_
  refine rf_step (State.setNum_rf _ _ _ _) rfl rfl ?_
  refine rf_step (State.setNum_rf _ _ _ _) rfl rfl ?_
  exact rf_refl

theorem State.enterBoot_rf (s) :
    RF vS [.freeCtr, .mode, .values, .octets, .force, .time, .galley, .vx, .edge, .front, .mogil, .mem, .fab, .host, .parts, .pot, .sec, .power, .res, .pins, .alarms] [0x200004, 0x200005, 0x200006, 0x200007, 0x200008, 0x200009, 0x20000A, 0x210001, 0x210004, 0x210006, 0x210007, 0x210008, 0x21000B, 0x21000C, 0x300005, 0x300013, 0x300018, 0x30001A, 0x600008, 0x600009, 0x60000A, 0x60000B, 0x620007, 0x620009, 0xB20006, 0xB20007, 0xB2000F] s (State.enterBoot s) := by
  unfold State.enterBoot
  extract_lets v0 v1 v2 v3 v4 v5 v6 v7 v8
  refine rf_cut (W := vS) v0 ?_ (fun h9 => ?_)
  · unfold v0
    refine rf_step (State.pathReset_rf _) rfl rfl ?_
    exact rf_refl
  refine rf_cut (W := vS) v1 ?_ (fun h10 => ?_)
  · unfold v1
    refine rf_ite (fun _h11 => ?_) (fun _h12 => ?_)
    · exact h9
    · refine rf_step (State.dropRefs_rf _) rfl rfl ?_
      refine rf_step (State.reload_rf _ _) rfl rfl ?_
      exact h9
  refine rf_cut (W := vS) v3 ?_ (fun h13 => ?_)
  · unfold v3
    refine rf_step (State.freeRate_rf _) rfl rfl ?_
    refine rf_step (State.setTime_rf _ _) rfl rfl ?_
    exact h10
  refine rf_cut (W := vS) v6 ?_ (fun h14 => ?_)
  · unfold v6
    clear_value v3
    refine rf_upd (b := v3) ?_ ⟨fun f hf hv => by cases f <;> first | exact absurd (by decide) hf | exact absurd rfl hv | rfl | exact ⟨rfl, rfl⟩ | exact ⟨rfl, rfl, rfl, rfl, rfl⟩, Or.inr fun _ _ => rfl⟩ (Keeps.of rfl (Nat.le_refl _) rfl)
    exact h13
  refine rf_cut (W := vS) v7 ?_ (fun h15 => ?_)
  · unfold v7
    refine rf_step (State.setNum_rf _ _ _ _) rfl rfl ?_
    refine rf_step (State.setNum_rf _ _ _ _) rfl rfl ?_
    exact h14
  refine rf_cut (W := vS) v8 ?_ (fun h16 => ?_)
  · unfold v8
    refine rf_step (State.enterMode_rf _ _ _) rfl rfl ?_
    refine rf_step (State.setNum_rf _ _ _ _) rfl rfl ?_
    refine rf_step (State.setNum_rf _ _ _ _) rfl rfl ?_
    exact h15
  refine rf_ite (fun _h17 => ?_) (fun _h18 => ?_)
  · refine rf_step (State.bootFail_rf _ _) rfl rfl ?_
    exact h16
  · exact h16

theorem State.startImage_rf (s x1) :
    RF vS [.octets, .sec] [] s (State.startImage s x1) := by
  unfold State.startImage
  extract_lets v0
  split
  · rename_i w1 w2 w3
    refine rf_step (State.measure_rf _ _ _) rfl rfl ?_
    refine rf_upd (b := s) ?_ ⟨fun f hf hv => by cases f <;> first | exact absurd (by decide) hf | exact absurd rfl hv | rfl | exact ⟨rfl, rfl⟩ | exact ⟨rfl, rfl, rfl, rfl, rfl⟩, Or.inr fun _ _ => rfl⟩ (Keeps.of rfl (Nat.le_refl _) rfl)
    exact rf_refl
  · rename_i w4 w5
    exact rf_refl

theorem State.stageOne_rf (s) :
    RF vS [.power, .pins] [] s (State.stageOne s) := by
  unfold State.stageOne
  extract_lets v0 v1 v2
  refine rf_cut (W := vS) v1 ?_ (fun h3 => ?_)
  · unfold v1
    refine rf_step (State.setPower_rf _ _) rfl rfl ?_
    exact rf_refl
  refine rf_step (State.setPins_rf _ _) rfl rfl ?_
  exact h3

theorem State.slotFromFlash_rf (s x1) :
    RF vS [.freeCtr, .octets, .vx, .pot, .alarms] [0x700003, 0x700004, 0x700005, 0x700006, 0x700007, 0xB20006, 0xB20007, 0xB2000F] s (State.slotFromFlash s x1) := by
  unfold State.slotFromFlash
  extract_lets v0
  split
  · rename_i w1 w2
    exact rf_refl
  · rename_i w3 w4 w5
    refine rf_step (State.verifySlot_rf _ _ _) rfl rfl ?_
    refine rf_upd (b := s) ?_ ⟨fun f hf hv => by cases f <;> first | exact absurd (by decide) hf | exact absurd rfl hv | rfl | exact ⟨rfl, rfl⟩ | exact ⟨rfl, rfl, rfl, rfl, rfl⟩, Or.inr fun _ _ => rfl⟩ (Keeps.of rfl (Nat.le_refl _) rfl)
    exact rf_refl

theorem State.failUnit_rf (s x1) :
    RF vS [.galley, .edge] [] s (State.failUnit s x1) := by
  unfold State.failUnit
  extract_lets v0
  split
  · rename_i w1 w2 w3 w4
    extract_lets v5 v6 v7 v8
    refine rf_cut (W := vS) v6 ?_ (fun h9 => ?_)
    · unfold v6
      refine rf_step (State.setUnit_rf _ _ _ _) rfl rfl ?_
      exact rf_refl
    refine rf_cut (W := vS) v7 ?_ (fun h10 => ?_)
    · unfold v7
      refine rf_step (State.setUnit_rf _ _ _ _) rfl rfl ?_
      exact h9
    refine rf_ite (fun _h11 => ?_) (fun _h12 => ?_)
    · clear_value v7
      refine rf_upd (b := v7) ?_ ⟨fun f hf hv => by cases f <;> first | exact absurd (by decide) hf | exact absurd rfl hv | rfl | exact ⟨rfl, rfl⟩ | exact ⟨rfl, rfl, rfl, rfl, rfl⟩, Or.inr fun _ _ => rfl⟩ (Keeps.of rfl (Nat.le_refl _) rfl)
      exact h10
    · exact h9
  · rename_i w13 w14
    exact rf_refl

theorem State.stageSix_rf (s x1) :
    RF vS [.freeCtr, .galley, .edge, .fab, .power] [0x21001B] s (State.stageSix s x1) := by
  unfold State.stageSix
  extract_lets v0 v1 v2 v3 v4 v5 v6 v7 v8
  refine rf_cut (W := vS) v3 ?_ (fun h9 => ?_)
  · unfold v3
    refine rf_upd (b := s) ?_ ⟨fun f hf hv => by cases f <;> first | exact absurd (by decide) hf | exact absurd rfl hv | rfl | exact ⟨rfl, rfl⟩ | exact ⟨rfl, rfl, rfl, rfl, rfl⟩, Or.inr fun _ _ => rfl⟩ (Keeps.of rfl (Nat.le_refl _) rfl)
    exact rf_refl
  refine rf_cut (W := vS) v5 ?_ (fun h10 => ?_)
  · unfold v5
    refine rf_step (State.setPower_rf _ _) rfl rfl ?_
    exact h9
  refine rf_cut (W := vS) v6 ?_ (fun h11 => ?_)
  · unfold v6
    refine rf_foldl ?_ (fun t12 x13 h14 => ?_)
    · exact h10
    · split
      rename_i w15 w16 w17 w18
      refine rf_pair_snd w18 ?_ (fun h19 => ?_)
      · refine rf_step (State.draw_rf _) rfl rfl ?_
        exact h14
      refine rf_step (State.setNum_rf _ _ _ _) rfl rfl ?_
      exact h19
  refine rf_cut (W := vS) v8 ?_ (fun h20 => ?_)
  · unfold v8
    refine rf_step (State.setUnit_rf _ _ _ _) rfl rfl ?_
    exact h11
  refine rf_foldl ?_ (fun t21 x22 h23 => ?_)
  · exact h20
  · refine rf_step (State.failUnit_rf _ _) rfl rfl ?_
    exact h23

theorem State.bootPart_rf (s x1) :
    RF vS [.force, .parts] [0xA40002] s (State.bootPart s x1) := by
  unfold State.bootPart
  extract_lets v0
  refine rf_ite (fun _h1 => ?_) (fun _h2 => ?_)
  · refine rf_ite (fun _h3 => ?_) (fun _h4 => ?_)
    · refine rf_step (State.setFlag_rf _ _ _ _) rfl rfl ?_
      exact rf_refl
    · refine rf_step (State.setPart_rf _ _ _) rfl rfl ?_
      refine rf_step (State.takePart_rf _ _) rfl rfl ?_
      exact rf_refl
  · refine rf_step (State.setPart_rf _ _ _) rfl rfl ?_
    exact rf_refl

theorem State.startCore_rf (s x1) :
    RF vS [.vx] [] s (State.startCore s x1) := by
  unfold State.startCore
  extract_lets v0
  split
  · rename_i w1 w2 w3
    refine rf_step (State.setCore_rf _ _ _) rfl rfl ?_
    exact rf_refl
  · rename_i w4 w5
    exact rf_refl

theorem State.applyStored_rf (s) :
    RF vS [.freeCtr, .mode, .values, .octets, .force, .time, .galley, .vx, .edge, .front, .mogil, .fab, .host, .parts, .pot, .sec, .res, .pins, .alarms] (0x200004 :: 0x200005 :: 0x200006 :: 0x200007 :: 0x31100C :: 0x31100D :: 0x410003 :: 0x414008 :: 0x414009 :: 0x41400D :: 0x500001 :: 0x600008 :: 0x600009 :: 0x60000A :: 0x60000E :: 0x60000F :: 0x600013 :: 0x60001D :: 0x601008 :: 0x610003 :: 0x610008 :: 0x620005 :: 0x620007 :: 0x620009 :: 0x80000E :: 0x822009 :: 0x824005 :: 0x82800A :: 0x910007 :: 0xA01006 :: 0xA40002 :: 0xB20006 :: 0xB20007 :: 0xB2000F :: []) s (State.applyStored s) := by
  unfold State.applyStored
  extract_lets v0 v1 v2 v3 v4 v5 v6 v7 v8 v9 v10 v11 v12 v13 v14 v15
  refine rf_cut (W := vS) v1 ?_ (fun h16 => ?_)
  · unfold v1
    refine rf_foldl ?_ (fun t17 x18 h19 => ?_)
    · exact rf_refl
    · refine rf_step (State.takeIf_rf _ _ _) rfl rfl ?_
      exact h19
  refine rf_cut (W := vS) v2 ?_ (fun h20 => ?_)
  · unfold v2
    unfold v0
    refine rf_foldl ?_ (fun t21 x22 h23 => ?_)
    · exact h16
    · refine rf_step (State.portOn_rf _ _) rfl rfl ?_
      exact h23
  refine rf_cut (W := vS) v3 ?_ (fun h24 => ?_)
  · unfold v3
    refine rf_foldl ?_ (fun t25 x26 h27 => ?_)
    · exact h20
    · refine rf_step (State.bootPart_rf _ _) rfl rfl ?_
      exact h27
  refine rf_cut (W := vS) v4 ?_ (fun h28 => ?_)
  · unfold v4
    unfold v0
    refine rf_foldl ?_ (fun t29 x30 h31 => ?_)
    · exact h24
    · refine rf_step (State.hamperOn_rf _ _) rfl rfl ?_
      exact h31
  refine rf_cut (W := vS) v5 ?_ (fun h32 => ?_)
  · unfold v5
    unfold v0
    refine rf_foldl ?_ (fun t33 x34 h35 => ?_)
    · exact h28
    · refine rf_step (State.flowOn_rf _ _) rfl rfl ?_
      exact h35
  refine rf_cut (W := vS) v6 ?_ (fun h36 => ?_)
  · unfold v6
    unfold v0
    refine rf_foldl ?_ (fun t37 x38 h39 => ?_)
    · exact h32
    · refine rf_step (State.mogilOn_rf _) rfl rfl ?_
      exact h39
  refine rf_cut (W := vS) v7 ?_ (fun h40 => ?_)
  · unfold v7
    unfold v0
    refine rf_foldl ?_ (fun t41 x42 h43 => ?_)
    · exact h36
    · refine rf_step (State.cellOn_rf _ _) rfl rfl ?_
      exact h43
  refine rf_cut (W := vS) v8 ?_ (fun h44 => ?_)
  · unfold v8
    unfold v0
    refine rf_foldl ?_ (fun t45 x46 h47 => ?_)
    · exact h40
    · refine rf_step (State.formeOn_rf _ _) rfl rfl ?_
      exact h47
  refine rf_cut (W := vS) v9 ?_ (fun h48 => ?_)
  · unfold v9
    unfold v0
    refine rf_foldl ?_ (fun t49 x50 h51 => ?_)
    · exact h44
    · refine rf_step (State.groupOn_rf _ _) rfl rfl ?_
      exact h51
  refine rf_cut (W := vS) v10 ?_ (fun h52 => ?_)
  · unfold v10
    unfold v0
    refine rf_foldl ?_ (fun t53 x54 h55 => ?_)
    · exact h48
    · refine rf_step (State.rampOn_rf _ _) rfl rfl ?_
      exact h55
  refine rf_cut (W := vS) v11 ?_ (fun h56 => ?_)
  · unfold v11
    unfold v0
    refine rf_foldl ?_ (fun t57 x58 h59 => ?_)
    · exact h52
    · refine rf_step (State.contextOn_rf _ _) rfl rfl ?_
      exact h59
  refine rf_cut (W := vS) v12 ?_ (fun h60 => ?_)
  · unfold v12
    unfold v0
    refine rf_foldl ?_ (fun t61 x62 h63 => ?_)
    · exact h56
    · refine rf_step (State.regionOn_rf _ _) rfl rfl ?_
      exact h63
  refine rf_cut (W := vS) v13 ?_ (fun h64 => ?_)
  · unfold v13
    unfold v0
    refine rf_foldl ?_ (fun t65 x66 h67 => ?_)
    · exact h60
    · refine rf_step (State.qpOn_rf _ _) rfl rfl ?_
      exact h67
  refine rf_cut (W := vS) v15 ?_ (fun h68 => ?_)
  · unfold v15
    refine rf_step (State.setPins_rf _ _) rfl rfl ?_
    exact h64
  refine rf_foldl ?_ (fun t69 x70 h71 => ?_)
  · exact h68
  · refine rf_step (State.startCore_rf _ _) rfl rfl ?_
    exact h71

end Sys2Proof.Machine
end

