-- ==== Sys2Proof/Laws/FramesResilience.lean ====
section
/-!
SUPPORT. What each operation of Machine/Resilience.lean may change, one lemma each.
-/

namespace Sys2Proof.Machine

set_option Elab.async false

open Sys2Proof

theorem State.setRes_rf (s x1) :
    RF vS [.res] [] s (State.setRes s x1) := by
  unfold State.setRes
  refine rf_upd (b := s) ?_ ⟨fun f hf hv => by cases f <;> first | exact absurd (by decide) hf | exact absurd rfl hv | rfl | exact ⟨rfl, rfl⟩ | exact ⟨rfl, rfl, rfl, rfl, rfl⟩, Or.inr fun _ _ => rfl⟩ (Keeps.of rfl (Nat.le_refl _) rfl)
  exact rf_refl

theorem State.resetUnit_rf (s x1 x2) :
    RF vS [.freeCtr, .octets, .galley, .vx, .edge, .front, .fab, .pot, .alarms] [0x620007, 0x620009, 0xB20006, 0xB20007, 0xB2000F] s (State.resetUnit s x1 x2) := by
  unfold State.resetUnit
  extract_lets v0 v1 v2 v3 v4 v5 v6
  refine rf_cut (W := vS) v1 ?_ (fun h7 => ?_)
  · unfold v1
    refine rf_step (State.setUnit_rf _ _ _ _) rfl rfl ?_
    exact rf_refl
  refine rf_cut (W := vS) v3 ?_ (fun h8 => ?_)
  · unfold v3
    clear_value v1
    refine rf_upd (b := v1) ?_ ⟨fun f hf hv => by cases f <;> first | exact absurd (by decide) hf | exact absurd rfl hv | rfl | exact ⟨rfl, rfl⟩ | exact ⟨rfl, rfl, rfl, rfl, rfl⟩, Or.inr fun _ _ => rfl⟩ (Keeps.of rfl (Nat.le_refl _) rfl)
    exact h7
  refine rf_cut (W := vS) v6 ?_ (fun h9 => ?_)
  · unfold v6
    refine rf_ite (fun _h10 => ?_) (fun _h11 => ?_)
    · refine rf_step (State.setCore_rf _ _ _) rfl rfl ?_
      exact h8
    · refine rf_step (State.emptyCache_rf _ _ _) rfl rfl ?_
      exact h8
  refine rf_step (State.freeFenced_rf _) rfl rfl ?_
  exact h9

theorem State.returnUnit_rf (s x1 x2) :
    RF vS [.freeCtr, .mode, .octets, .galley, .pot, .alarms] [0x200004, 0x200005, 0x200006, 0x200007, 0xB0000C, 0xB20006, 0xB20007, 0xB2000F] s (State.returnUnit s x1 x2) := by
  unfold State.returnUnit
  extract_lets v0 v1 v2 v3 v4
  refine rf_cut (W := vS) v1 ?_ (fun h5 => ?_)
  · unfold v1
    refine rf_step (State.setUnit_rf _ _ _ _) rfl rfl ?_
    exact rf_refl
  refine rf_cut (W := vS) v3 ?_ (fun h6 => ?_)
  · unfold v3
    clear_value v1
    refine rf_upd (b := v1) ?_ ⟨fun f hf hv => by cases f <;> first | exact absurd (by decide) hf | exact absurd rfl hv | rfl | exact ⟨rfl, rfl⟩ | exact ⟨rfl, rfl, rfl, rfl, rfl⟩, Or.inr fun _ _ => rfl⟩ (Keeps.of rfl (Nat.le_refl _) rfl)
    exact h5
  refine rf_cut (W := vS) v4 ?_ (fun h7 => ?_)
  · unfold v4
    refine rf_step (State.raise_rf _ _ _ _ _) rfl rfl ?_
    refine rf_step (State.bump_rf _ _ _) rfl rfl ?_
    exact h6
  refine rf_step (State.setCause_rf _ _ _) rfl rfl ?_
  refine rf_step (State.setCause_rf _ _ _) rfl rfl ?_
  exact h7

theorem State.logSecond_rf (s x1 x2 x3 x4) :
    RF vS [.res] [] s (State.logSecond s x1 x2 x3 x4) := by
  unfold State.logSecond
  refine rf_ite (fun _h0 => ?_) (fun _h1 => ?_)
  · exact rf_refl
  · refine rf_step (State.logFault_rf _ _ _ _) rfl rfl ?_
    exact rf_refl

theorem State.diagEnd_rf (s x1 x2 x3) :
    RF vS [.freeCtr, .mode, .octets, .galley, .pot, .res, .alarms] [0x200004, 0x200005, 0x200006, 0x200007, 0xB0000C, 0xB20006, 0xB20007, 0xB2000F] s (State.diagEnd s x1 x2 x3) := by
  unfold State.diagEnd
  extract_lets v0 v1 v2 v3
  refine rf_cut (W := vS) v1 ?_ (fun h4 => ?_)
  · unfold v1
    refine rf_step (State.setUnit_rf _ _ _ _) rfl rfl ?_
    exact rf_refl
  refine rf_cut (W := vS) v2 ?_ (fun h5 => ?_)
  · unfold v2
    refine rf_step (State.logFault_rf _ _ _ _) rfl rfl ?_
    exact h4
  refine rf_ite (fun _h6 => ?_) (fun _h7 => ?_)
  · refine rf_ite (fun _h8 => ?_) (fun _h9 => ?_)
    · refine rf_step (State.setUnit_rf _ _ _ _) rfl rfl ?_
      exact rf_refl
    · refine rf_step (State.setCause_rf _ _ _) rfl rfl ?_
      exact h5
  · refine rf_ite (fun _h10 => ?_) (fun _h11 => ?_)
    · refine rf_step (State.logSecond_rf _ _ _ _ _) rfl rfl ?_
      refine rf_step (State.returnUnit_rf _ _ _) rfl rfl ?_
      exact rf_refl
    · refine rf_step (State.logSecond_rf _ _ _ _ _) rfl rfl ?_
      refine rf_step (State.setUnit_rf _ _ _ _) rfl rfl ?_
      exact rf_refl

theorem execDiagStart_rf (x0 s) :
    RF vOut [.freeCtr, .octets, .galley, .vx, .edge, .front, .fab, .pot, .alarms] [0x620007, 0x620009, 0xB20006, 0xB20007, 0xB2000F] s (execDiagStart x0 s) := by
  unfold execDiagStart
  split
  · rename_i w0 w1 w2 w3
    extract_lets v4 v5 v6
    refine rf_cut (W := vS) v5 ?_ (fun h7 => ?_)
    · unfold v5
      refine rf_step (State.resetUnit_rf _ _ _) rfl rfl ?_
      exact rf_refl
    refine rf_ite (fun _h8 => ?_) (fun _h9 => ?_)
    · refine rf_next ?_
      refine rf_step (State.setUnit_rf _ _ _ _) rfl rfl ?_
      exact h7
    · refine rf_next ?_
      exact rf_refl
  · rename_i w10 w11
    refine rf_next ?_
    exact rf_refl

theorem execDiagComplete_rf (x0 x1 x2 s) :
    RF vOut [.freeCtr, .mode, .octets, .galley, .pot, .res, .alarms] [0x200004, 0x200005, 0x200006, 0x200007, 0xB0000C, 0xB20006, 0xB20007, 0xB2000F, 0xE00004] s (execDiagComplete x0 x1 x2 s) := by
  unfold execDiagComplete
  split
  · rename_i w0 w1 w2 w3
    refine rf_ite (fun _h4 => ?_) (fun _h5 => ?_)
    · refine rf_next ?_
      exact rf_refl
    · refine rf_next ?_
      refine rf_step (State.setNum_rf _ _ _ _) rfl rfl ?_
      refine rf_step (State.diagEnd_rf _ _ _ _) rfl rfl ?_
      exact rf_refl
  · rename_i w6 w7
    refine rf_next ?_
    exact rf_refl

theorem writeDiagRun_rf (x0 x1 s) :
    RF vOk [.freeCtr, .octets, .galley, .vx, .edge, .front, .fab, .pot, .alarms] [0x620007, 0x620009, 0xB20006, 0xB20007, 0xB2000F] s (writeDiagRun x0 x1 s) := by
  unfold writeDiagRun
  split
  · rename_i w0 w1 w2 w3
    extract_lets v4 v5 v6
    refine rf_cut (W := vS) v5 ?_ (fun h7 => ?_)
    · unfold v5
      refine rf_step (State.resetUnit_rf _ _ _) rfl rfl ?_
      exact rf_refl
    refine rf_ite (fun _h8 => ?_) (fun _h9 => ?_)
    · refine rf_ok ?_
      exact rf_refl
    · refine rf_ite (fun _h10 => ?_) (fun _h11 => ?_)
      · refine rf_ok ?_
        refine rf_step (State.setUnit_rf _ _ _ _) rfl rfl ?_
        exact h7
      · refine rf_ite (fun _h12 => ?_) (fun _h13 => ?_)
        · refine rf_ok ?_
          refine rf_step (State.setUnit_rf _ _ _ _) rfl rfl ?_
          exact rf_refl
        · exact rf_error _
  · rename_i w14 w15
    exact rf_error _

theorem execDiagRun_rf (x0 x1 s) :
    RF vOut [.reply, .freeCtr, .octets, .galley, .vx, .edge, .front, .fab, .pot, .alarms] [0x620007, 0x620009, 0xB20006, 0xB20007, 0xB2000F] s (execDiagRun x0 x1 s) := by
  unfold execDiagRun
  refine rf_next ?_
  refine State.actSel_rf rfl ?_ (fun k1 u0 => ?_)
  · exact rf_refl
  · refine rf_step (writeDiagRun_rf _ _ _) rfl rfl ?_
    exact rf_refl

theorem State.resumeCc_rf (s x1) :
    RF vS [.galley] [] s (State.resumeCc s x1) := by
  unfold State.resumeCc
  extract_lets v0
  refine rf_step (State.setUnit_rf _ _ _ _) rfl rfl ?_
  exact rf_refl

theorem execLockstepMismatch_rf (x0 s) :
    RF vOut [.freeCtr, .octets, .galley, .pot, .res, .alarms] [0xB00008, 0xB20006, 0xB20007, 0xB2000F] s (execLockstepMismatch x0 s) := by
  unfold execLockstepMismatch
  extract_lets v0 v1 v2 v3
  refine rf_cut (W := vS) v0 ?_ (fun h4 => ?_)
  · unfold v0
    refine rf_step (State.raise_rf _ _ _ _ _) rfl rfl ?_
    refine rf_step (State.bump_rf _ _ _) rfl rfl ?_
    exact rf_refl
  refine rf_cut (W := vS) v2 ?_ (fun h5 => ?_)
  · unfold v2
    unfold v1
    extract_lets v6 v7
    refine rf_step (State.setUnit_rf _ _ _ _) rfl rfl ?_
    refine rf_step (State.setUnit_rf _ _ _ _) rfl rfl ?_
    exact h4
  refine rf_ite (fun _h8 => ?_) (fun _h9 => ?_)
  · refine rf_next ?_
    refine rf_step (State.setRes_rf _ _) rfl rfl ?_
    exact h5
  · refine rf_next ?_
    exact rf_refl

theorem State.moveToOdd_rf (s x1) :
    RF vS [.galley] [] s (State.moveToOdd s x1) := by
  unfold State.moveToOdd
  extract_lets v0 v1 v2 v3
  refine rf_cut (W := vS) v2 ?_ (fun h4 => ?_)
  · unfold v2
    refine rf_step (State.setUnit_rf _ _ _ _) rfl rfl ?_
    exact rf_refl
  refine rf_cut (W := vS) v3 ?_ (fun h5 => ?_)
  · unfold v3
    refine rf_step (State.setCc_rf _ _ _) rfl rfl ?_
    refine rf_step (State.setCc_rf _ _ _) rfl rfl ?_
    exact h4
  split
  · rename_i w6 w7 w8 w9
    split
    · rename_i w10 w11 w12
      refine rf_step (State.setSlug_rf _ _ _) rfl rfl ?_
      exact h5
    · rename_i w13 w14
      exact h5
  · rename_i w15 w16
    exact h5

theorem State.retireCopy_rf (s x1) :
    RF vS [.galley, .res] [0xE00006] s (State.retireCopy s x1) := by
  unfold State.retireCopy
  refine rf_step (State.noteFault_rf _ _ _ _) rfl rfl ?_
  refine rf_step (State.retire_rf _ _ _ _) rfl rfl ?_
  exact rf_refl

theorem execLockstepTestDone_rf (x0 x1 x2 s) :
    RF vOut [.freeCtr, .mode, .octets, .force, .galley, .vx, .edge, .front, .fab, .pot, .res, .alarms] [0x200004, 0x200005, 0x200006, 0x200007, 0x600008, 0x600009, 0x60000A, 0x60000C, 0x60000D, 0x60000E, 0x60001D, 0x620007, 0x620009, 0x700009, 0xB20006, 0xB20007, 0xB2000F, 0xE00006] s (execLockstepTestDone x0 x1 x2 s) := by
  unfold execLockstepTestDone
  extract_lets v0 v1 v2 v3 v4 v5 v6 v7 v8 v9 v10
  refine rf_cut (W := vS) v3 ?_ (fun h11 => ?_)
  · unfold v3
    refine rf_step (State.setRes_rf _ _) rfl rfl ?_
    exact rf_refl
  refine rf_cut (W := vS) v8 ?_ (fun h12 => ?_)
  · unfold v8
    refine rf_step (State.setCc_rf _ _ _) rfl rfl ?_
    exact h11
  refine rf_cut (W := vS) v9 ?_ (fun h13 => ?_)
  · unfold v9
    refine rf_step (State.retireAndPromote_rf _ _ _ _) rfl rfl ?_
    exact h12
  refine rf_ite (fun _h14 => ?_) (fun _h15 => ?_)
  · split
    · rename_i w16 w17
      refine rf_next ?_
      refine rf_step (State.resumeCc_rf _ _) rfl rfl ?_
      refine rf_step (State.resumeCc_rf _ _) rfl rfl ?_
      exact h11
    · rename_i w18 w19
      refine rf_next ?_
      unfold v4
      extract_lets v20
      refine rf_step (State.setCause_rf _ _ _) rfl rfl ?_
      refine rf_step (State.setRes_rf _ _) rfl rfl ?_
      refine rf_step (State.resumeCc_rf _ _) rfl rfl ?_
      refine rf_step (State.retireCopy_rf _ _) rfl rfl ?_
      exact h11
    · rename_i w21 w22
      refine rf_next ?_
      unfold v4
      extract_lets v23
      refine rf_step (State.setCause_rf _ _ _) rfl rfl ?_
      refine rf_step (State.setRes_rf _ _) rfl rfl ?_
      refine rf_step (State.resumeCc_rf _ _) rfl rfl ?_
      refine rf_step (State.retireCopy_rf _ _) rfl rfl ?_
      refine rf_step (State.moveToOdd_rf _ _) rfl rfl ?_
      exact h11
    · rename_i w24 w25
      refine rf_next ?_
      refine rf_step (State.setRes_rf _ _) rfl rfl ?_
      refine rf_step (State.unitFault_rf _ _ _ _ _ _) rfl rfl ?_
      exact h13
  · refine rf_next ?_
    exact rf_refl

theorem execCcUnitFault_rf (x0 x1 s) :
    RF vOut [.freeCtr, .mode, .values, .octets, .force, .galley, .vx, .edge, .front, .fab, .pot, .res, .alarms] [0x200004, 0x200005, 0x200006, 0x200007, 0x600008, 0x600009, 0x60000A, 0x60000C, 0x60000D, 0x60000E, 0x60001D, 0x620007, 0x620009, 0x700009, 0x800007, 0x80000E, 0x82000B, 0x903007, 0xB20006, 0xB20007, 0xB2000F, 0xE00006] s (execCcUnitFault x0 x1 s) := by
  unfold execCcUnitFault
  refine rf_ite (fun _h0 => ?_) (fun _h1 => ?_)
  · refine rf_next ?_
    refine rf_step (State.anyFault_rf _ _ _ _ _ _) rfl rfl ?_
    exact rf_refl
  · refine rf_next ?_
    exact rf_refl

theorem State.wardenAttempt_rf (s x1 x2) :
    RF vS [.freeCtr, .octets, .pot, .res, .alarms] [0xB20006, 0xB20007, 0xB2000F] s (State.wardenAttempt s x1 x2) := by
  unfold State.wardenAttempt
  extract_lets v0
  refine rf_step (State.raise_rf _ _ _ _ _) rfl rfl ?_
  refine rf_step (State.setRes_rf _ _) rfl rfl ?_
  exact rf_refl

theorem State.wardenRestart_rf (s x1) :
    RF vS [.freeCtr, .octets, .pot, .res, .alarms] [0xB0000A, 0xB20006, 0xB20007, 0xB2000F] s (State.wardenRestart s x1) := by
  unfold State.wardenRestart
  refine rf_step (State.wardenAttempt_rf _ _ _) rfl rfl ?_
  refine rf_step (State.bump_rf _ _ _) rfl rfl ?_
  exact rf_refl

theorem State.logSpine_rf (s) :
    RF vS [.res] [] s (State.logSpine s) := by
  unfold State.logSpine
  extract_lets v0 v1
  refine rf_step (State.setRes_rf _ _) rfl rfl ?_
  exact rf_refl

theorem execHeartbeat_rf (s) :
    RF vOut [.freeCtr, .mode, .octets, .fab, .pot, .sec, .res, .alarms] [0x200004, 0x200005, 0x200006, 0xB10004, 0xB20006, 0xB20007, 0xB2000F] s (execHeartbeat s) := by
  unfold execHeartbeat
  extract_lets v0 v1 v2 v3 v4
  refine rf_cut (W := vS) v2 ?_ (fun h5 => ?_)
  · unfold v2
    refine rf_step (State.setRes_rf _ _) rfl rfl ?_
    exact rf_refl
  refine rf_cut (W := vS) v4 ?_ (fun h6 => ?_)
  · unfold v4
    split
    · rename_i w7 w8 w9
      refine rf_step (State.measure_rf _ _ _) rfl rfl ?_
      clear_value v2
      refine rf_upd (b := v2) ?_ ⟨fun f hf hv => by cases f <;> first | exact absurd (by decide) hf | exact absurd rfl hv | rfl | exact ⟨rfl, rfl⟩ | exact ⟨rfl, rfl, rfl, rfl, rfl⟩, Or.inr fun _ _ => rfl⟩ (Keeps.of rfl (Nat.le_refl _) rfl)
      exact h5
    · rename_i w10 w11
      exact h5
  split
  · rename_i w12 w13
    refine rf_next ?_
    exact rf_refl
  · rename_i w14 w15
    refine rf_next ?_
    refine rf_step (State.setRes_rf _ _) rfl rfl ?_
    exact rf_refl
  · rename_i w16 w17
    refine rf_ite (fun _h18 => ?_) (fun _h19 => ?_)
    · refine rf_next ?_
      exact rf_refl
    · refine rf_next ?_
      refine rf_step (State.evaluate_rf _) rfl rfl ?_
      refine rf_step (State.logSpine_rf _) rfl rfl ?_
      exact h6

theorem execHeartbeatMiss_rf (s) :
    RF vOut [.freeCtr, .octets, .pot, .res, .alarms] [0xB0000A, 0xB20006, 0xB20007, 0xB2000F] s (execHeartbeatMiss s) := by
  unfold execHeartbeatMiss
  extract_lets v0 v1
  refine rf_cut (W := vS) v1 ?_ (fun h2 => ?_)
  · unfold v1
    refine rf_step (State.setRes_rf _ _) rfl rfl ?_
    exact rf_refl
  refine rf_ite (fun _h3 => ?_) (fun _h4 => ?_)
  · refine rf_next ?_
    refine rf_ite (fun _h5 => ?_) (fun _h6 => ?_)
    · refine rf_step (State.wardenRestart_rf _ _) rfl rfl ?_
      exact h2
    · exact h2
  · refine rf_next ?_
    exact rf_refl

theorem execRecoveryMismatch_rf (s) :
    RF vOut [.freeCtr, .octets, .pot, .res, .alarms] [0xB0000A, 0xB20006, 0xB20007, 0xB2000F] s (execRecoveryMismatch s) := by
  unfold execRecoveryMismatch
  refine rf_ite (fun _h0 => ?_) (fun _h1 => ?_)
  · refine rf_next ?_
    refine rf_step (State.wardenRestart_rf _ _) rfl rfl ?_
    exact rf_refl
  · refine rf_next ?_
    exact rf_refl

theorem execWardenRestartFail_rf (s) :
    RF vOut [.freeCtr, .mode, .octets, .time, .galley, .edge, .front, .fab, .pot, .res, .pins, .alarms] [0x200004, 0x200005, 0x200006, 0x200008, 0x600008, 0x600009, 0x60000A, 0x60000B, 0x620007, 0x620009, 0xB20006, 0xB20007, 0xB2000F] s (execWardenRestartFail s) := by
  unfold execWardenRestartFail
  extract_lets v0
  refine rf_ite (fun _h1 => ?_) (fun _h2 => ?_)
  · refine rf_ite (fun _h3 => ?_) (fun _h4 => ?_)
    · refine rf_next ?_
      refine rf_step (State.wardenAttempt_rf _ _ _) rfl rfl ?_
      exact rf_refl
    · refine rf_next ?_
      refine rf_step (State.enterSafe_rf _ _ _) rfl rfl ?_
      refine rf_step (State.raise_rf _ _ _ _ _) rfl rfl ?_
      refine rf_step (State.setRes_rf _ _) rfl rfl ?_
      exact rf_refl
  · refine rf_next ?_
    exact rf_refl

theorem execWardenVote_rf (x0 s) :
    RF vOut [.freeCtr, .octets, .pot, .res, .alarms] [0xB0000B, 0xB20006, 0xB20007, 0xB2000F] s (execWardenVote x0 s) := by
  unfold execWardenVote
  extract_lets v0
  refine rf_ite (fun _h1 => ?_) (fun _h2 => ?_)
  · refine rf_next ?_
    refine rf_step (State.raise_rf _ _ _ _ _) rfl rfl ?_
    refine rf_step (State.bump_rf _ _ _) rfl rfl ?_
    refine rf_step (State.setRes_rf _ _) rfl rfl ?_
    exact rf_refl
  · refine rf_next ?_
    exact rf_refl

theorem execMaintRequest_rf (x0 x1 s) :
    RF vOut [.freeCtr, .mode, .octets, .fab, .pot, .sec, .res, .alarms] [0x200004, 0x200005, 0x200006, 0xB10004, 0xB20006, 0xB20007, 0xB2000F] s (execMaintRequest x0 x1 s) := by
  unfold execMaintRequest
  refine rf_ite (fun _h0 => ?_) (fun _h1 => ?_)
  · refine rf_next ?_
    refine rf_step (State.requestToken_rf _ _ _) rfl rfl ?_
    exact rf_refl
  · refine rf_next ?_
    exact rf_refl

theorem execTokenReturn_rf (x0 x1 s) :
    RF vOut [.freeCtr, .mode, .octets, .time, .fab, .pot, .sec, .res, .alarms] [0x200004, 0x200005, 0x200006, 0xB10004, 0xB20006, 0xB20007, 0xB2000F] s (execTokenReturn x0 x1 s) := by
  unfold execTokenReturn
  refine rf_ite (fun _h0 => ?_) (fun _h1 => ?_)
  · refine rf_next ?_
    refine rf_step (State.returnToken_rf _ _ _) rfl rfl ?_
    exact rf_refl
  · refine rf_next ?_
    exact rf_refl

theorem execWaitAlarmExpiry_rf (x0 x1 s) :
    RF vOut [.freeCtr, .octets, .pot, .alarms] [0xB20006, 0xB20007, 0xB2000F] s (execWaitAlarmExpiry x0 x1 s) := by
  unfold execWaitAlarmExpiry
  extract_lets v0
  refine rf_ite (fun _h1 => ?_) (fun _h2 => ?_)
  · refine rf_next ?_
    refine rf_step (State.raise_rf _ _ _ _ _) rfl rfl ?_
    exact rf_refl
  · refine rf_next ?_
    exact rf_refl

theorem execDrillIntervalExpiry_rf (s) :
    RF vOut [.freeCtr, .mode, .octets, .fab, .pot, .sec, .res, .alarms] [0x200004, 0x200005, 0x200006, 0xB10004, 0xB20006, 0xB20007, 0xB2000F] s (execDrillIntervalExpiry s) := by
  unfold execDrillIntervalExpiry
  extract_lets v0 v1 v2
  refine rf_cut (W := vS) v1 ?_ (fun h3 => ?_)
  · unfold v1
    refine rf_step (State.setRes_rf _ _) rfl rfl ?_
    exact rf_refl
  refine rf_ite (fun _h4 => ?_) (fun _h5 => ?_)
  · refine rf_next ?_
    exact rf_refl
  · split
    · rename_i w6 w7
      refine rf_next ?_
      exact h3
    · rename_i w8 w9 w10
      refine rf_next ?_
      refine rf_step (State.requestToken_rf _ _ _) rfl rfl ?_
      refine rf_step (State.setRes_rf _ _) rfl rfl ?_
      exact h3

theorem State.drillOver_rf (s x1) :
    RF vS [.freeCtr, .mode, .octets, .time, .fab, .pot, .sec, .res, .alarms] [0x200004, 0x200005, 0x200006, 0xB10004, 0xB20006, 0xB20007, 0xB2000F] s (State.drillOver s x1) := by
  unfold State.drillOver
  extract_lets v0
  refine rf_step (State.returnToken_rf _ _ _) rfl rfl ?_
  refine rf_step (State.setRes_rf _ _) rfl rfl ?_
  exact rf_refl

theorem execDrillSwap_rf (x0 s) :
    RF vOut [.freeCtr, .mode, .octets, .force, .time, .galley, .vx, .edge, .fab, .pot, .sec, .res, .alarms] [0x200004, 0x200005, 0x200006, 0x200007, 0x700009, 0xB10004, 0xB20006, 0xB20007, 0xB2000F, 0xE00006] s (execDrillSwap x0 s) := by
  unfold execDrillSwap
  split
  · rename_i w0 w1
    refine rf_next ?_
    exact rf_refl
  · rename_i w2 w3 w4 w5
    extract_lets v6
    split
    · rename_i w7 w8 w9 w10 w11 w12
      extract_lets v13 v14 v15 v16 v17 v18 v19 v20
      refine rf_cut (W := vS) v14 ?_ (fun h21 => ?_)
      · unfold v14
        refine rf_step (State.setUnit_rf _ _ _ _) rfl rfl ?_
        exact rf_refl
      refine rf_cut (W := vS) v15 ?_ (fun h22 => ?_)
      · unfold v15
        refine rf_step (State.emptyCache_rf _ _ _) rfl rfl ?_
        refine rf_ite (fun _h23 => ?_) (fun _h24 => ?_)
        · refine rf_step (State.adoptImage_rf _ _ _) rfl rfl ?_
          exact h21
        · exact h21
      refine rf_cut (W := vS) v16 ?_ (fun h25 => ?_)
      · unfold v16
        refine rf_step (State.setUnit_rf _ _ _ _) rfl rfl ?_
        exact h22
      refine rf_cut (W := vS) v18 ?_ (fun h26 => ?_)
      · unfold v18
        refine rf_step (State.setRes_rf _ _) rfl rfl ?_
        exact h25
      refine rf_cut (W := vS) v19 ?_ (fun h27 => ?_)
      · unfold v19
        refine rf_step (State.raise_rf _ _ _ _ _) rfl rfl ?_
        refine rf_step (State.noteFault_rf _ _ _ _) rfl rfl ?_
        refine rf_step (State.retire_rf _ _ _ _) rfl rfl ?_
        exact h26
      refine rf_cut (W := vS) v20 ?_ (fun h28 => ?_)
      · unfold v20
        refine rf_ite (fun _h29 => ?_) (fun _h30 => ?_)
        · exact h26
        · refine rf_step (State.setCause_rf _ _ _) rfl rfl ?_
          exact h27
      refine rf_next ?_
      refine rf_step (State.drillOver_rf _ _) rfl rfl ?_
      exact h28
    · rename_i w31 w32 w33
      refine rf_next ?_
      exact rf_refl
    · rename_i w34 w35 w36 w37
      refine rf_next ?_
      refine rf_step (State.drillOver_rf _ _) rfl rfl ?_
      exact rf_refl

theorem writeUpgradeImage_rf (x0 s) :
    RF vOk [.freeCtr, .octets, .pot, .res, .alarms] [0xB20006, 0xB20007, 0xB2000F] s (writeUpgradeImage x0 s) := by
  unfold writeUpgradeImage
  extract_lets v0
  refine rf_ite (fun _h1 => ?_) (fun _h2 => ?_)
  · exact rf_error _
  · split
    · rename_i w3 w4 w5
      refine rf_pair_snd w5 ?_ (fun h6 => ?_)
      · refine rf_step (State.verify_rf _ _ _) rfl rfl ?_
        exact rf_refl
      extract_lets v7
      refine rf_ok ?_
      refine rf_step (State.setRes_rf _ _) rfl rfl ?_
      exact h6
    · rename_i w8 w9 w10 w11 w12
      refine rf_pair_snd w12 ?_ (fun h13 => ?_)
      · refine rf_step (State.verify_rf _ _ _) rfl rfl ?_
        exact rf_refl
      exact rf_error _

theorem execUpgradeImage_rf (x0 x1 s) :
    RF vOut [.reply, .freeCtr, .octets, .pot, .res, .alarms] [0xB20006, 0xB20007, 0xB2000F] s (execUpgradeImage x0 x1 s) := by
  unfold execUpgradeImage
  extract_lets v0 v1
  refine rf_cut (W := vS) v0 ?_ (fun h2 => ?_)
  · unfold v0
    refine State.actOn_rf rfl ?_ (fun u3 => ?_)
    · exact rf_refl
    · refine rf_step (writeUpgradeImage_rf _ _) rfl rfl ?_
      exact rf_refl
  refine rf_next ?_
  refine rf_ite (fun _h4 => ?_) (fun _h5 => ?_)
  · refine rf_step (State.raise_rf _ _ _ _ _) rfl rfl ?_
    exact h2
  · exact h2

theorem writeUpgradeRecovery_rf (x0 s) :
    RF vOk [.freeCtr, .octets, .pot, .res, .alarms] [0xB0000A, 0xB20006, 0xB20007, 0xB2000F] s (writeUpgradeRecovery x0 s) := by
  unfold writeUpgradeRecovery
  extract_lets v0
  refine rf_ite (fun _h1 => ?_) (fun _h2 => ?_)
  · exact rf_error _
  · refine rf_ite (fun _h3 => ?_) (fun _h4 => ?_)
    · refine rf_ok ?_
      exact rf_refl
    · split
      · rename_i w5 w6 w7
        refine rf_ok ?_
        refine rf_step (State.wardenRestart_rf _ _) rfl rfl ?_
        refine rf_step (State.setRes_rf _ _) rfl rfl ?_
        exact rf_refl
      · rename_i w8 w9
        refine rf_ok ?_
        exact rf_refl

theorem execUpgradeRecovery_rf (x0 x1 s) :
    RF vOut [.reply, .freeCtr, .octets, .pot, .res, .alarms] [0xB0000A, 0xB20006, 0xB20007, 0xB2000F] s (execUpgradeRecovery x0 x1 s) := by
  unfold execUpgradeRecovery
  refine rf_next ?_
  refine State.actOn_rf rfl ?_ (fun u0 => ?_)
  · exact rf_refl
  · refine rf_step (writeUpgradeRecovery_rf _ _) rfl rfl ?_
    exact rf_refl

theorem State.upgradeEnd_rf (s) :
    RF vS [.freeCtr, .mode, .octets, .time, .fab, .pot, .sec, .res, .alarms] [0x200004, 0x200005, 0x200006, 0xB10004, 0xB20006, 0xB20007, 0xB2000F] s (State.upgradeEnd s) := by
  unfold State.upgradeEnd
  extract_lets v0 v1
  refine rf_cut (W := vS) v0 ?_ (fun h2 => ?_)
  · unfold v0
    refine rf_step (State.raise_rf _ _ _ _ _) rfl rfl ?_
    refine rf_step (State.enterMode_rf _ _ _) rfl rfl ?_
    exact rf_refl
  refine rf_step (State.returnToken_rf _ _ _) rfl rfl ?_
  refine rf_step (State.setRes_rf _ _) rfl rfl ?_
  exact h2

theorem writeUpgradeCommit_rf (x0 s) :
    RF vOk [.freeCtr, .mode, .octets, .time, .fab, .pot, .sec, .res, .alarms] [0x200004, 0x200005, 0x200006, 0xB10004, 0xB20006, 0xB20007, 0xB2000F] s (writeUpgradeCommit x0 s) := by
  unfold writeUpgradeCommit
  refine rf_ite (fun _h0 => ?_) (fun _h1 => ?_)
  · refine rf_ok ?_
    exact rf_refl
  · refine rf_ite (fun _h2 => ?_) (fun _h3 => ?_)
    · exact rf_error _
    · refine rf_ok ?_
      refine rf_step (State.upgradeEnd_rf _) rfl rfl ?_
      exact rf_refl

theorem execUpgradeCommit_rf (x0 x1 s) :
    RF vOut [.reply, .freeCtr, .mode, .octets, .time, .fab, .pot, .sec, .res, .alarms] [0x200004, 0x200005, 0x200006, 0xB10004, 0xB20006, 0xB20007, 0xB2000F] s (execUpgradeCommit x0 x1 s) := by
  unfold execUpgradeCommit
  refine rf_next ?_
  refine State.actOn_rf rfl ?_ (fun u0 => ?_)
  · exact rf_refl
  · refine rf_step (writeUpgradeCommit_rf _ _) rfl rfl ?_
    exact rf_refl

theorem State.dropFormes_rf (s) :
    RF vS [.galley] [0x610003] s (State.dropFormes s) := by
  unfold State.dropFormes
  refine rf_foldl ?_ (fun t0 x1 h2 => ?_)
  · exact rf_refl
  · extract_lets v3
    refine rf_step (State.setFlag_rf _ _ _ _) rfl rfl ?_
    refine rf_upd (b := t0) ?_ ⟨fun f hf hv => by cases f <;> first | exact absurd (by decide) hf | exact absurd rfl hv | rfl | exact ⟨rfl, rfl⟩ | exact ⟨rfl, rfl, rfl, rfl, rfl⟩, Or.inr fun _ _ => rfl⟩ (Keeps.of rfl (Nat.le_refl _) rfl)
    exact h2

theorem State.entryCores_rf (s) :
    RF vS [] [0x700009] s (State.entryCores s) := by
  unfold State.entryCores
  refine rf_foldl ?_ (fun t0 x1 h2 => ?_)
  · exact rf_refl
  · refine rf_step (State.setNum_rf _ _ _ _) rfl rfl ?_
    exact h2

theorem writeUpgradeAbandon_rf (x0 s) :
    RF vOk [.freeCtr, .mode, .octets, .time, .galley, .fab, .pot, .sec, .res, .alarms] [0x200004, 0x200005, 0x200006, 0x610003, 0x700009, 0xB0000A, 0xB10004, 0xB20006, 0xB20007, 0xB2000F] s (writeUpgradeAbandon x0 s) := by
  unfold writeUpgradeAbandon
  extract_lets v0 v1
  refine rf_cut (W := vS) v0 ?_ (fun h2 => ?_)
  · unfold v0
    refine rf_step (State.dropFormes_rf _) rfl rfl ?_
    refine rf_step (State.entryCores_rf _) rfl rfl ?_
    exact rf_refl
  refine rf_cut (W := vS) v1 ?_ (fun h3 => ?_)
  · unfold v1
    refine rf_ite (fun _h4 => ?_) (fun _h5 => ?_)
    · refine rf_step (State.wardenRestart_rf _ _) rfl rfl ?_
      exact h2
    · exact h2
  refine rf_ite (fun _h6 => ?_) (fun _h7 => ?_)
  · refine rf_ok ?_
    exact rf_refl
  · refine rf_ite (fun _h8 => ?_) (fun _h9 => ?_)
    · exact rf_error _
    · refine rf_ok ?_
      refine rf_step (State.upgradeEnd_rf _) rfl rfl ?_
      exact h3

theorem execUpgradeAbandon_rf (x0 x1 s) :
    RF vOut [.reply, .freeCtr, .mode, .octets, .time, .galley, .fab, .pot, .sec, .res, .alarms] [0x200004, 0x200005, 0x200006, 0x610003, 0x700009, 0xB0000A, 0xB10004, 0xB20006, 0xB20007, 0xB2000F] s (execUpgradeAbandon x0 x1 s) := by
  unfold execUpgradeAbandon
  refine rf_next ?_
  refine State.actOn_rf rfl ?_ (fun u0 => ?_)
  · exact rf_refl
  · refine rf_step (writeUpgradeAbandon_rf _ _) rfl rfl ?_
    exact rf_refl

theorem execUpgradeLimitExpiry_rf (s) :
    RF vOut [.freeCtr, .octets, .pot, .alarms] [0xB20006, 0xB20007, 0xB2000F] s (execUpgradeLimitExpiry s) := by
  unfold execUpgradeLimitExpiry
  refine rf_ite (fun _h0 => ?_) (fun _h1 => ?_)
  · refine rf_next ?_
    refine rf_step (State.raise_rf _ _ _ _ _) rfl rfl ?_
    exact rf_refl
  · refine rf_next ?_
    exact rf_refl

theorem writeCoreImage_rf (x0 x1 s) :
    RF vOk [.force, .parts] [0x700009] s (writeCoreImage x0 x1 s) := by
  unfold writeCoreImage
  extract_lets v0
  refine rf_cut (W := vS) v0 ?_ (fun h1 => ?_)
  · unfold v0
    refine rf_step (State.setNum_rf _ _ _ _) rfl rfl ?_
    exact rf_refl
  refine rf_ite (fun _h2 => ?_) (fun _h3 => ?_)
  · exact rf_error _
  · refine rf_ok ?_
    refine rf_step (State.takeTie_rf _ _ _) rfl rfl ?_
    exact h1

theorem execCoreImage_rf (x0 x1 s) :
    RF vOut [.reply, .force, .parts] [0x700009] s (execCoreImage x0 x1 s) := by
  unfold execCoreImage
  refine rf_next ?_
  refine State.actSel_rf rfl ?_ (fun k1 u0 => ?_)
  · exact rf_refl
  · refine rf_step (writeCoreImage_rf _ _ _) rfl rfl ?_
    exact rf_refl

end Sys2Proof.Machine
end

