-- ==== Sys2Proof/Laws/FramesDeviceEnable.lean ====
section
/-!
SUPPORT. What each operation of Machine/DeviceEnable.lean may change, one lemma each.
-/

namespace Sys2Proof.Machine

set_option Elab.async false

open Sys2Proof

theorem State.chooseReserves_rf (s x1) :
    RF vS [.galley] [] s (State.chooseReserves s x1) := by
  unfold State.chooseReserves
  extract_lets v0
  refine rf_foldl ?_ (fun t1 x2 h3 => ?_)
  · exact rf_refl
  · extract_lets v4
    refine rf_ite (fun _h5 => ?_) (fun _h6 => ?_)
    · refine rf_step (State.setUnit_rf _ _ _ _) rfl rfl ?_
      exact h3
    · refine rf_ite (fun _h7 => ?_) (fun _h8 => ?_)
      · refine rf_step (State.setUnit_rf _ _ _ _) rfl rfl ?_
        exact h3
      · exact h3

theorem State.formPairs_rf (s) :
    RF vS [.freeCtr, .mode, .octets, .galley, .pot, .res, .alarms] [0x200004, 0x200005, 0x200006, 0x200007, 0xB20006, 0xB20007, 0xB2000F] s (State.formPairs s) := by
  unfold State.formPairs
  extract_lets v0 v1 v2 v3
  refine rf_cut (W := vS) v2 ?_ (fun h4 => ?_)
  · unfold v2
    refine rf_step (State.setRes_rf _ _) rfl rfl ?_
    exact rf_refl
  refine rf_cut (W := vS) v3 ?_ (fun h5 => ?_)
  · unfold v3
    refine rf_foldl ?_ (fun t6 x7 h8 => ?_)
    · exact h4
    · extract_lets v9
      refine rf_ite (fun _h10 => ?_) (fun _h11 => ?_)
      · refine rf_step (State.setUnit_rf _ _ _ _) rfl rfl ?_
        exact h8
      · exact h8
  refine rf_step (State.setCause_rf _ _ _) rfl rfl ?_
  exact h5

theorem State.takeItems_rf (s) :
    RF vS [.freeCtr, .mode, .values, .octets, .force, .time, .galley, .edge, .front, .mogil, .fab, .parts, .pot, .res, .alarms] [0x200004, 0x200005, 0x200006, 0x200007, 0x31100C, 0x31100D, 0x410003, 0x414008, 0x414009, 0x41400D, 0x500001, 0x600008, 0x600009, 0x60000A, 0x60000E, 0x60000F, 0x600013, 0x60001D, 0x601008, 0x620005, 0x620007, 0x620009, 0x80000E, 0x822009, 0x82800A, 0xB20006, 0xB20007, 0xB2000F] s (State.takeItems s) := by
  unfold State.takeItems
  extract_lets v0 v1 v2 v3 v4 v5 v6 v7 v8 v9
  refine rf_cut (W := vS) v0 ?_ (fun h10 => ?_)
  · unfold v0
    refine rf_foldl ?_ (fun t11 x12 h13 => ?_)
    · exact rf_refl
    · refine rf_step (State.portOn_rf _ _) rfl rfl ?_
      exact h13
  refine rf_cut (W := vS) v1 ?_ (fun h14 => ?_)
  · unfold v1
    refine rf_foldl ?_ (fun t15 x16 h17 => ?_)
    · exact h10
    · refine rf_step (State.flowOn_rf _ _) rfl rfl ?_
      exact h17
  refine rf_cut (W := vS) v3 ?_ (fun h18 => ?_)
  · unfold v3
    refine rf_foldl ?_ (fun t19 x20 h21 => ?_)
    · exact h14
    · refine rf_step (State.radioOn_rf _ _) rfl rfl ?_
      exact h21
  refine rf_cut (W := vS) v4 ?_ (fun h22 => ?_)
  · unfold v4
    refine rf_ite (fun _h23 => ?_) (fun _h24 => ?_)
    · refine rf_step (State.mogilOn_rf _) rfl rfl ?_
      exact h18
    · exact h18
  refine rf_cut (W := vS) v5 ?_ (fun h25 => ?_)
  · unfold v5
    refine rf_foldl ?_ (fun t26 x27 h28 => ?_)
    · exact h22
    · refine rf_step (State.cellOn_rf _ _) rfl rfl ?_
      exact h28
  refine rf_cut (W := vS) v6 ?_ (fun h29 => ?_)
  · unfold v6
    refine rf_foldl ?_ (fun t30 x31 h32 => ?_)
    · exact h25
    · refine rf_step (State.hamperOn_rf _ _) rfl rfl ?_
      exact h32
  refine rf_cut (W := vS) v7 ?_ (fun h33 => ?_)
  · unfold v7
    refine rf_foldl ?_ (fun t34 x35 h36 => ?_)
    · exact h29
    · refine rf_step (State.groupOn_rf _ _) rfl rfl ?_
      exact h36
  refine rf_cut (W := vS) v8 ?_ (fun h37 => ?_)
  · unfold v8
    refine rf_foldl ?_ (fun t38 x39 h40 => ?_)
    · exact h33
    · refine rf_step (State.contextOn_rf _ _) rfl rfl ?_
      exact h40
  refine rf_cut (W := vS) v9 ?_ (fun h41 => ?_)
  · unfold v9
    refine rf_foldl ?_ (fun t42 x43 h44 => ?_)
    · exact h37
    · refine rf_step (State.takePart_rf _ _) rfl rfl ?_
      exact h44
  refine rf_foldl ?_ (fun t45 x46 h47 => ?_)
  · exact h41
  · refine rf_ite (fun _h48 => ?_) (fun _h49 => ?_)
    · refine rf_step (State.takePtp_rf _ _) rfl rfl ?_
      exact h47
    · exact h47

theorem State.enterRun_rf (s) :
    RF vS [.freeCtr, .mode, .values, .octets, .force, .time, .galley, .vx, .edge, .front, .mogil, .fab, .parts, .pot, .res, .pins, .alarms] (0x200004 :: 0x200005 :: 0x200006 :: 0x200007 :: 0x31100C :: 0x31100D :: 0x410003 :: 0x414008 :: 0x414009 :: 0x41400D :: 0x500001 :: 0x600006 :: 0x600008 :: 0x600009 :: 0x60000A :: 0x60000B :: 0x60000E :: 0x60000F :: 0x600013 :: 0x60001D :: 0x601008 :: 0x620005 :: 0x620007 :: 0x620009 :: 0x80000E :: 0x822009 :: 0x82800A :: 0xB20006 :: 0xB20007 :: 0xB2000F :: []) s (State.enterRun s) := by
  unfold State.enterRun
  extract_lets v0 v1 v2 v3 v4 v5
  refine rf_cut (W := vS) v0 ?_ (fun h6 => ?_)
  · unfold v0
    refine rf_step (State.takeItems_rf _) rfl rfl ?_
    refine rf_foldl ?_ (fun t7 x8 h9 => ?_)
    · exact rf_refl
    · refine rf_step (State.takeIf_rf _ _ _) rfl rfl ?_
      exact h9
  refine rf_cut (W := vS) v1 ?_ (fun h10 => ?_)
  · unfold v1
    refine rf_step (State.advanceAir_rf _ _) rfl rfl ?_
    exact h6
  refine rf_cut (W := vS) v2 ?_ (fun h11 => ?_)
  · unfold v2
    refine rf_step (State.formPairs_rf _) rfl rfl ?_
    refine rf_foldl ?_ (fun t12 x13 h14 => ?_)
    · exact h10
    · refine rf_step (State.chooseReserves_rf _ _) rfl rfl ?_
      exact h14
  refine rf_cut (W := vS) v3 ?_ (fun h15 => ?_)
  · unfold v3
    refine rf_foldl ?_ (fun t16 x17 h18 => ?_)
    · exact h11
    · refine rf_ite (fun _h19 => ?_) (fun _h20 => ?_)
      · refine rf_step (State.startCore_rf _ _) rfl rfl ?_
        refine rf_step (State.take_rf _ _ _) rfl rfl ?_
        exact h18
      · exact h18
  refine rf_cut (W := vS) v4 ?_ (fun h21 => ?_)
  · unfold v4
    refine rf_foldl ?_ (fun t22 x23 h24 => ?_)
    · exact h15
    · refine rf_step (State.condition_rf _ _ _ _) rfl rfl ?_
      exact h24
  refine rf_cut (W := vS) v5 ?_ (fun h25 => ?_)
  · unfold v5
    refine rf_step (State.setCause_rf _ _ _) rfl rfl ?_
    refine rf_step (State.setCause_rf _ _ _) rfl rfl ?_
    exact h21
  refine rf_step (State.settleRcos_rf _) rfl rfl ?_
  refine rf_step (State.enterMode_rf _ _ _) rfl rfl ?_
  exact h25

end Sys2Proof.Machine
end

