-- ==== Sys2Proof/Laws/FramesModes.lean ====
section
/-!
SUPPORT. What each operation of Machine/Modes.lean may change, one lemma each.
-/

namespace Sys2Proof.Machine

set_option Elab.async false

open Sys2Proof

theorem State.setMode_rf (s x1) :
    RF vS [.mode] [] s (State.setMode s x1) := by
  unfold State.setMode
  refine rf_upd (b := s) ?_ ⟨fun f hf hv => by cases f <;> first | exact absurd (by decide) hf | exact absurd rfl hv | rfl | exact ⟨rfl, rfl⟩ | exact ⟨rfl, rfl, rfl, rfl, rfl⟩, Or.inr fun _ _ => rfl⟩ (Keeps.of rfl (Nat.le_refl _) rfl)
  exact rf_refl

theorem State.lost_rf (s) :
    RF vS [.reply, .freeCtr, .mode, .values, .octets, .force, .selects, .store, .time, .galley, .vx, .edge, .front, .mogil, .mem, .fab, .host, .parts, .pot, .sec, .power, .res, .pins, .alarms] [] s (State.lost s) := by
  refine RF.mk1 ⟨fun f hf _ => ?_, Or.inl (by decide)⟩ ⟨fun _ => rfl, (State.fuseCut_rf s).kept.ctr, fun w => ⟨FuseSound.none _, ((State.fuseCut_rf s).kept.fuse w).2⟩⟩
  cases f <;> first | rfl | exact absurd (by decide) hf

theorem execVinRise_rf (x0 x1 s) :
    RF vOut [.freeCtr, .mode, .values, .octets, .force, .time, .pot, .sec, .power, .alarms] [0x110010, 0x200004, 0x200005, 0x200006, 0x20000F, 0x210002, 0x210004, 0x210007, 0xB20006, 0xB20007, 0xB2000F, 0xD0000D] s (execVinRise x0 x1 s) := by
  unfold execVinRise
  extract_lets v0 v1 v2 v3 v4
  refine rf_cut (W := vS) v0 ?_ (fun h5 => ?_)
  · unfold v0
    refine rf_step (State.sampleStraps_rf _ _) rfl rfl ?_
    refine rf_step (State.reload_rf _ _) rfl rfl ?_
    exact rf_refl
  refine rf_cut (W := vS) v2 ?_ (fun h6 => ?_)
  · unfold v2
    refine rf_step (State.setNum_rf _ _ _ _) rfl rfl ?_
    refine rf_step (State.setPower_rf _ _) rfl rfl ?_
    exact h5
  refine rf_cut (W := vS) v4 ?_ (fun h7 => ?_)
  · unfold v4
    refine rf_step (State.setTime_rf _ _) rfl rfl ?_
    exact h6
  refine rf_ite (fun _h8 => ?_) (fun _h9 => ?_)
  · refine rf_next ?_
    refine rf_step (State.autoBoot_rf _) rfl rfl ?_
    refine rf_step (State.enterMode_rf _ _ _) rfl rfl ?_
    refine rf_step (State.startBasecamp_rf _) rfl rfl ?_
    refine rf_step (State.capsNow_rf _) rfl rfl ?_
    exact h7
  · refine rf_next ?_
    exact rf_refl

theorem execVinFall_rf (s) :
    RF vOut [.reply, .freeCtr, .mode, .values, .octets, .force, .selects, .store, .time, .galley, .vx, .edge, .front, .mogil, .mem, .fab, .host, .parts, .pot, .sec, .power, .res, .pins, .alarms] [] s (execVinFall s) := by
  unfold execVinFall
  extract_lets v0
  refine rf_ite (fun _h1 => ?_) (fun _h2 => ?_)
  · refine rf_next ?_
    exact rf_refl
  · refine rf_next ?_
    refine rf_step (State.setMode_rf _ _) rfl rfl ?_
    refine rf_step (State.lost_rf _) rfl rfl ?_
    exact rf_refl

theorem execResetNAssert_rf (x0 s) :
    RF vOut [.reply, .freeCtr, .mode, .values, .octets, .force, .selects, .store, .time, .galley, .vx, .edge, .front, .mogil, .mem, .fab, .host, .parts, .pot, .sec, .power, .res, .pins, .alarms] [0x110010, 0x200004, 0x200005, 0x200006, 0x200007, 0x20000F, 0x210001, 0x210004, 0x210006, 0x210007, 0x210008, 0x300005, 0x300013, 0x300018, 0x30001A, 0x600008, 0x600009, 0x60000A, 0x60000B, 0x620007, 0x620009, 0xB20006, 0xB20007, 0xB2000F, 0xD0000D] s (execResetNAssert x0 s) := by
  unfold execResetNAssert
  extract_lets v0 v1 v2 v3 v4 v5 v6 v7 v8 v9 v10
  refine rf_cut (W := vS) v1 ?_ (fun h11 => ?_)
  · unfold v1
    refine rf_step (State.setMode_rf _ _) rfl rfl ?_
    exact rf_refl
  refine rf_cut (W := vS) v2 ?_ (fun h12 => ?_)
  · unfold v2
    refine rf_step (State.pinsLow_rf _) rfl rfl ?_
    refine rf_step (State.stopPath_rf _) rfl rfl ?_
    refine rf_step (State.abortAll_rf _) rfl rfl ?_
    refine rf_step (State.fuseCut_rf _) rfl rfl ?_
    exact h11
  refine rf_cut (W := vS) v3 ?_ (fun h13 => ?_)
  · unfold v3
    refine rf_step (State.pathReset_rf _) rfl rfl ?_
    exact h12
  refine rf_cut (W := vS) v4 ?_ (fun h14 => ?_)
  · unfold v4
    clear_value v3
    refine rf_upd (b := v3) ?_ ⟨fun f hf hv => by cases f <;> first | exact absurd (by decide) hf | exact absurd rfl hv | rfl | exact ⟨rfl, rfl⟩ | exact ⟨rfl, rfl, rfl, rfl, rfl⟩, Or.inr fun _ _ => rfl⟩ (Keeps.of rfl (Nat.le_refl _) rfl)
    exact h13
  refine rf_cut (W := vS) v6 ?_ (fun h15 => ?_)
  · unfold v6
    clear_value v4
    refine rf_upd (b := v4) ?_ ⟨fun f hf hv => by cases f <;> first | exact absurd (by decide) hf | exact absurd rfl hv | rfl | exact ⟨rfl, rfl⟩ | exact ⟨rfl, rfl, rfl, rfl, rfl⟩, Or.inr fun _ _ => rfl⟩ (Keeps.of rfl (Nat.le_refl _) rfl)
    exact h14
  refine rf_cut (W := vS) v7 ?_ (fun h16 => ?_)
  · unfold v7
    refine rf_step (State.sampleStraps_rf _ _) rfl rfl ?_
    refine rf_step (State.reload_rf _ _) rfl rfl ?_
    exact h15
  refine rf_cut (W := vS) v8 ?_ (fun h17 => ?_)
  · unfold v8
    refine rf_step (State.startBasecamp_rf _) rfl rfl ?_
    refine rf_step (State.standbyTime_rf _) rfl rfl ?_
    exact h16
  refine rf_cut (W := vS) v10 ?_ (fun h18 => ?_)
  · unfold v10
    refine rf_step (State.setMode_rf _ _) rfl rfl ?_
    exact h17
  refine rf_ite (fun _h19 => ?_) (fun _h20 => ?_)
  · refine rf_next ?_
    exact h11
  · refine rf_next ?_
    refine rf_ite (fun _h21 => ?_) (fun _h22 => ?_)
    · exact h18
    · refine rf_step (State.enterMode_rf _ _ _) rfl rfl ?_
      exact h18

theorem execResetNRelease_rf (s) :
    RF vOut [.mode] [] s (execResetNRelease s) := by
  unfold execResetNRelease
  extract_lets v0
  refine rf_next ?_
  refine rf_step (State.autoBoot_rf _) rfl rfl ?_
  refine rf_step (State.setMode_rf _ _) rfl rfl ?_
  exact rf_refl

theorem execThermalShutdown_rf (s) :
    RF vOut [.freeCtr, .mode, .values, .octets, .force, .time, .galley, .vx, .edge, .front, .mogil, .mem, .fab, .host, .parts, .pot, .sec, .power, .res, .pins, .alarms] [0x200004, 0x200005, 0x200006, 0x200007, 0x200009, 0x210001, 0x210004, 0x210006, 0x210007, 0x210008, 0x300005, 0x300013, 0x300018, 0x30001A, 0x600008, 0x600009, 0x60000A, 0x60000B, 0x620007, 0x620009, 0xB20006, 0xB20007, 0xB2000F] s (execThermalShutdown s) := by
  unfold execThermalShutdown
  extract_lets v0 v1 v2 v3
  refine rf_cut (W := vS) v0 ?_ (fun h4 => ?_)
  · unfold v0
    refine rf_step (State.raise_rf _ _ _ _ _) rfl rfl ?_
    exact rf_refl
  refine rf_cut (W := vS) v2 ?_ (fun h5 => ?_)
  · unfold v2
    refine rf_ite (fun _h6 => ?_) (fun _h7 => ?_)
    · refine rf_step (State.setMode_rf _ _) rfl rfl ?_
      exact h4
    · refine rf_step (State.enterStandby_rf _ _) rfl rfl ?_
      exact h4
  refine rf_ite (fun _h8 => ?_) (fun _h9 => ?_)
  · refine rf_next ?_
    exact rf_refl
  · refine rf_next ?_
    refine rf_step (State.setMode_rf _ _) rfl rfl ?_
    exact h5

theorem State.startDrain_rf (s x1) :
    RF vS [.mode] [] s (State.startDrain s x1) := by
  unfold State.startDrain
  extract_lets v0
  refine rf_step (State.setMode_rf _ _) rfl rfl ?_
  exact rf_refl

theorem writeModeRequest_rf (x0 s) :
    RF vOk [.freeCtr, .mode, .octets, .time, .galley, .edge, .front, .fab, .pot, .sec, .res, .pins, .alarms] [0x200004, 0x200005, 0x200006, 0x200008, 0x600008, 0x600009, 0x60000A, 0x60000B, 0x620007, 0x620009, 0xB10004, 0xB20006, 0xB20007, 0xB2000F] s (writeModeRequest x0 s) := by
  unfold writeModeRequest
  extract_lets v0 v1
  split
  · rename_i w2 w3
    refine rf_ite (fun _h4 => ?_) (fun _h5 => ?_)
    · refine rf_ok ?_
      refine rf_ite (fun _h6 => ?_) (fun _h7 => ?_)
      · refine rf_step (State.startDrain_rf _ _) rfl rfl ?_
        exact rf_refl
      · refine rf_step (State.towards_rf _ _) rfl rfl ?_
        exact rf_refl
    · refine rf_ite (fun _h8 => ?_) (fun _h9 => ?_)
      · refine rf_ok ?_
        refine rf_step (State.towards_rf _ _) rfl rfl ?_
        refine rf_step (State.setMode_rf _ _) rfl rfl ?_
        exact rf_refl
      · refine rf_ite (fun _h10 => ?_) (fun _h11 => ?_)
        · refine rf_ok ?_
          refine rf_step (State.towards_rf _ _) rfl rfl ?_
          exact rf_refl
        · refine rf_ite (fun _h12 => ?_) (fun _h13 => ?_)
          · refine rf_ok ?_
            refine rf_step (State.requestToken_rf _ _ _) rfl rfl ?_
            refine rf_step (State.setRes_rf _ _) rfl rfl ?_
            exact rf_refl
          · refine rf_ok ?_
            refine rf_step (State.enterSafe_rf _ _ _) rfl rfl ?_
            exact rf_refl
  · rename_i w14 w15
    exact rf_error _

theorem execModeRequest_rf (x0 x1 s) :
    RF vOut [.reply, .freeCtr, .mode, .octets, .time, .galley, .edge, .front, .fab, .pot, .sec, .res, .pins, .alarms] [0x200004, 0x200005, 0x200006, 0x200008, 0x600008, 0x600009, 0x60000A, 0x60000B, 0x620007, 0x620009, 0xB10004, 0xB20006, 0xB20007, 0xB2000F] s (execModeRequest x0 x1 s) := by
  unfold execModeRequest
  refine rf_next ?_
  refine State.actOn_rf rfl ?_ (fun u0 => ?_)
  · exact rf_refl
  · refine rf_step (writeModeRequest_rf _ _) rfl rfl ?_
    exact rf_refl

theorem execModeTransitionComplete_rf (s) :
    RF vOut [.freeCtr, .mode, .values, .octets, .force, .time, .galley, .vx, .edge, .front, .mogil, .mem, .fab, .host, .parts, .pot, .sec, .power, .res, .pins, .alarms] [0x200004, 0x200005, 0x200006, 0x200007, 0x200008, 0x200009, 0x20000A, 0x210001, 0x210004, 0x210006, 0x210007, 0x210008, 0x21000B, 0x21000C, 0x300005, 0x300013, 0x300018, 0x30001A, 0x600008, 0x600009, 0x60000A, 0x60000B, 0x620007, 0x620009, 0xB20006, 0xB20007, 0xB2000F] s (execModeTransitionComplete s) := by
  unfold execModeTransitionComplete
  refine rf_ite (fun _h0 => ?_) (fun _h1 => ?_)
  · refine rf_next ?_
    exact rf_refl
  · split
    · rename_i w2 w3
      refine rf_next ?_
      refine rf_step (State.enterBoot_rf _) rfl rfl ?_
      exact rf_refl
    · rename_i w4 w5
      refine rf_next ?_
      refine rf_step (State.enterStandby_rf _ _) rfl rfl ?_
      exact rf_refl
    · rename_i w6 w7 w8 w9 w10
      refine rf_next ?_
      refine rf_step (State.enterMode_rf _ _ _) rfl rfl ?_
      exact rf_refl
    · rename_i w11 w12
      refine rf_next ?_
      exact rf_refl

theorem State.noteEnable_rf (s x1 x2) :
    RF vS [] [0x20000D, 0x20000E] s (State.noteEnable s x1 x2) := by
  unfold State.noteEnable
  refine rf_step (State.setNum_rf _ _ _ _) rfl rfl ?_
  refine rf_step (State.setNum_rf _ _ _ _) rfl rfl ?_
  exact rf_refl

theorem State.deviceOn_rf (s x1) :
    RF vSnd [.freeCtr, .mode, .values, .octets, .force, .time, .galley, .vx, .edge, .front, .mogil, .fab, .parts, .pot, .res, .pins, .alarms] (0x200003 :: 0x200004 :: 0x200005 :: 0x200006 :: 0x200007 :: 0x20000D :: 0x20000E :: 0x31100C :: 0x31100D :: 0x410003 :: 0x414008 :: 0x414009 :: 0x41400D :: 0x500001 :: 0x600006 :: 0x600008 :: 0x600009 :: 0x60000A :: 0x60000B :: 0x60000E :: 0x60000F :: 0x600013 :: 0x60001D :: 0x601008 :: 0x620005 :: 0x620007 :: 0x620009 :: 0x80000E :: 0x822009 :: 0x82800A :: 0xB20006 :: 0xB20007 :: 0xB2000F :: []) s (State.deviceOn s x1) := by
  unfold State.deviceOn
  refine rf_ite (fun _h0 => ?_) (fun _h1 => ?_)
  · refine rf_snd ?_
    exact rf_refl
  · split
    · rename_i w2 w3 w4 w5
      refine rf_snd ?_
      refine rf_step (State.noteEnable_rf _ _ _) rfl rfl ?_
      exact rf_refl
    · rename_i w6 w7
      refine rf_snd ?_
      refine rf_step (State.noteEnable_rf _ _ _) rfl rfl ?_
      refine rf_step (State.enterRun_rf _) rfl rfl ?_
      refine rf_step (State.setFlag_rf _ _ _ _) rfl rfl ?_
      exact rf_refl

theorem execDeviceEnable_rf (x0 x1 s) :
    RF vOut [.reply, .freeCtr, .mode, .values, .octets, .force, .time, .galley, .vx, .edge, .front, .mogil, .fab, .parts, .pot, .res, .pins, .alarms] (0x200003 :: 0x200004 :: 0x200005 :: 0x200006 :: 0x200007 :: 0x20000D :: 0x20000E :: 0x31100C :: 0x31100D :: 0x410003 :: 0x414008 :: 0x414009 :: 0x41400D :: 0x500001 :: 0x600006 :: 0x600008 :: 0x600009 :: 0x60000A :: 0x60000B :: 0x60000E :: 0x60000F :: 0x600013 :: 0x60001D :: 0x601008 :: 0x620005 :: 0x620007 :: 0x620009 :: 0x80000E :: 0x822009 :: 0x82800A :: 0xB20006 :: 0xB20007 :: 0xB2000F :: []) s (execDeviceEnable x0 x1 s) := by
  unfold execDeviceEnable
  split
  · rename_i w0 w1
    split
    · rename_i w2 w3 w4
      refine rf_pair_snd w4 ?_ (fun h5 => ?_)
      · refine rf_step (State.deviceOn_rf _ _) rfl rfl ?_
        exact rf_refl
      refine rf_next ?_
      refine rf_step (State.answer_rf _ _) rfl rfl ?_
      exact h5
    · rename_i w6 w7 w8 w9
      refine rf_pair_snd w9 ?_ (fun h10 => ?_)
      · refine rf_step (State.deviceOn_rf _ _) rfl rfl ?_
        exact rf_refl
      refine rf_next ?_
      refine rf_step (State.refuse_rf _ _) rfl rfl ?_
      exact h10
  · rename_i w11 w12
    refine rf_next ?_
    refine rf_step (State.refuse_rf _ _) rfl rfl ?_
    exact rf_refl

theorem deviceOff_rf (s) :
    RF vOk [.mode] [0x200003] s (deviceOff s) := by
  unfold deviceOff
  extract_lets v0
  refine rf_cut (W := vS) v0 ?_ (fun h1 => ?_)
  · unfold v0
    refine rf_step (State.setFlag_rf _ _ _ _) rfl rfl ?_
    exact rf_refl
  refine rf_ite (fun _h2 => ?_) (fun _h3 => ?_)
  · exact rf_error _
  · refine rf_ite (fun _h4 => ?_) (fun _h5 => ?_)
    · exact rf_error _
    · refine rf_ok ?_
      refine rf_ite (fun _h6 => ?_) (fun _h7 => ?_)
      · refine rf_step (State.startDrain_rf _ _) rfl rfl ?_
        exact h1
      · exact h1

theorem execDeviceDisable_rf (x0 s) :
    RF vOut [.reply, .mode] [0x200003] s (execDeviceDisable x0 s) := by
  unfold execDeviceDisable
  refine rf_next ?_
  refine State.actOn_rf rfl ?_ (fun u0 => ?_)
  · exact rf_refl
  · refine rf_step (deviceOff_rf _) rfl rfl ?_
    exact rf_refl

theorem execDrainEnd_rf (s) :
    RF vOut [.freeCtr, .mode, .values, .octets, .force, .time, .galley, .vx, .edge, .front, .mogil, .mem, .fab, .host, .parts, .pot, .sec, .power, .res, .pins, .alarms] [0x200004, 0x200005, 0x200006, 0x200007, 0x200009, 0x210001, 0x210004, 0x210006, 0x210007, 0x210008, 0x300005, 0x300013, 0x300018, 0x30001A, 0x600008, 0x600009, 0x60000A, 0x60000B, 0x620007, 0x620009, 0xB20006, 0xB20007, 0xB2000F] s (execDrainEnd s) := by
  unfold execDrainEnd
  refine rf_ite (fun _h0 => ?_) (fun _h1 => ?_)
  · split
    · rename_i w2 w3
      refine rf_next ?_
      refine rf_step (State.enterStandby_rf _ _) rfl rfl ?_
      exact rf_refl
    · rename_i w4 w5 w6 w7
      refine rf_next ?_
      refine rf_step (State.enterMode_rf _ _ _) rfl rfl ?_
      refine rf_step (State.stopPath_rf _) rfl rfl ?_
      refine rf_step (State.abortAll_rf _) rfl rfl ?_
      exact rf_refl
    · rename_i w8 w9
      refine rf_next ?_
      exact rf_refl
  · refine rf_next ?_
    exact rf_refl

theorem execDegradedExit_rf (s) :
    RF vOut [.freeCtr, .mode, .octets, .pot, .alarms] [0x200004, 0x200005, 0x200006, 0xB20006, 0xB20007, 0xB2000F] s (execDegradedExit s) := by
  unfold execDegradedExit
  refine rf_ite (fun _h0 => ?_) (fun _h1 => ?_)
  · refine rf_next ?_
    refine rf_step (State.enterMode_rf _ _ _) rfl rfl ?_
    exact rf_refl
  · refine rf_next ?_
    exact rf_refl

theorem State.bootDone_rf (s x1) :
    RF vS [.freeCtr, .mode, .values, .octets, .force, .time, .galley, .vx, .edge, .front, .mogil, .fab, .host, .parts, .pot, .sec, .res, .pins, .alarms] (0x200003 :: 0x200004 :: 0x200005 :: 0x200006 :: 0x200007 :: 0x200009 :: 0x20000D :: 0x20000E :: 0x31100C :: 0x31100D :: 0x410003 :: 0x414008 :: 0x414009 :: 0x41400D :: 0x500001 :: 0x600006 :: 0x600008 :: 0x600009 :: 0x60000A :: 0x60000B :: 0x60000E :: 0x60000F :: 0x600013 :: 0x60001D :: 0x601008 :: 0x610003 :: 0x610008 :: 0x620005 :: 0x620007 :: 0x620009 :: 0x80000E :: 0x822009 :: 0x824005 :: 0x82800A :: 0x910007 :: 0xA01006 :: 0xA40002 :: 0xB20006 :: 0xB20007 :: 0xB2000F :: []) s (State.bootDone s x1) := by
  unfold State.bootDone
  extract_lets v0
  refine rf_cut (W := vS) v0 ?_ (fun h1 => ?_)
  · unfold v0
    refine rf_step (State.enterMode_rf _ _ _) rfl rfl ?_
    refine rf_step (State.setNum_rf _ _ _ _) rfl rfl ?_
    refine rf_step (State.applyStored_rf _) rfl rfl ?_
    exact rf_refl
  refine rf_ite (fun _h2 => ?_) (fun _h3 => ?_)
  · refine rf_of_snd ?_
    refine rf_step (State.deviceOn_rf _ _) rfl rfl ?_
    exact h1
  · exact h1

theorem State.nextStage_rf (s x1) :
    RF vS [.mode] [0x200009] s (State.nextStage s x1) := by
  unfold State.nextStage
  extract_lets v0 v1
  refine rf_cut (W := vS) v0 ?_ (fun h2 => ?_)
  · unfold v0
    refine rf_step (State.setNum_rf _ _ _ _) rfl rfl ?_
    exact rf_refl
  refine rf_step (State.setMode_rf _ _) rfl rfl ?_
  exact h2

theorem State.imageStage_rf {F : List Fld} {O : List Nat} {s b : State}
    (hF : within? [.freeCtr, .mode, .octets, .time, .galley, .edge, .front, .fab, .pot, .sec, .pins, .alarms] F = true)
    (hO : within? [0x200004, 0x200005, 0x200006, 0x200008, 0x20000A, 0x600008, 0x600009, 0x60000A, 0x60000B, 0x620007, 0x620009, 0xB20006, 0xB20007, 0xB2000F] O = true)
    {cls : Nat} {go : State → State} (h0 : RF vS F O s b) (h : ∀ u, RF vS F O u (go u)) :
    RF vS F O s (b.imageStage cls go) := by
  have up {F' O' x y} (hx : RF vS F O s x) (hy : RF vS F' O' x y)
      (a : within? F' [.freeCtr, .mode, .octets, .time, .galley, .edge, .front, .fab, .pot, .sec, .pins, .alarms] = true)
      (c : within? O' [0x200004, 0x200005, 0x200006, 0x200008, 0x20000A, 0x600008, 0x600009, 0x60000A, 0x60000B, 0x620007, 0x620009, 0xB20006, 0xB20007, 0xB2000F] = true) : RF vS F O s y :=
    hx.then ((hy.mono a c).mono hF hO)
  unfold State.imageStage
  split
  · next i _ =>
    have hv : RF vSnd F O s (b.verify cls i) :=
      rf_step (State.verify_rf b cls i) (within_trans hF rfl) (within_trans hO rfl) h0
    split
    · next t e =>
      refine rf_pair_snd e hv (fun ht => ?_)
      exact rf_trans (up ht (State.startImage_rf _ _) rfl rfl) (h _)
    · next r t _ e =>
      refine rf_pair_snd e hv (fun ht => ?_)
      exact up ht (State.bootFail_rf _ _) rfl rfl
  · exact up h0 (State.bootFail_rf _ _) rfl rfl

theorem execBootStageComplete_rf (x0 x1 s) :
    RF vOut [.freeCtr, .mode, .values, .octets, .force, .time, .galley, .vx, .edge, .front, .mogil, .fab, .host, .parts, .pot, .sec, .power, .res, .pins, .alarms] (0x200003 :: 0x200004 :: 0x200005 :: 0x200006 :: 0x200007 :: 0x200008 :: 0x200009 :: 0x20000A :: 0x20000D :: 0x20000E :: 0x21001B :: 0x31100C :: 0x31100D :: 0x410003 :: 0x414008 :: 0x414009 :: 0x41400D :: 0x500001 :: 0x600006 :: 0x600008 :: 0x600009 :: 0x60000A :: 0x60000B :: 0x60000E :: 0x60000F :: 0x600013 :: 0x60001D :: 0x601008 :: 0x610003 :: 0x610008 :: 0x620005 :: 0x620007 :: 0x620009 :: 0x700003 :: 0x700004 :: 0x700005 :: 0x700006 :: 0x700007 :: 0x80000E :: 0x822009 :: 0x824005 :: 0x82800A :: 0x910007 :: 0xA01006 :: 0xA40002 :: 0xB20006 :: 0xB20007 :: 0xB2000F :: []) s (execBootStageComplete x0 x1 s) := by
  unfold execBootStageComplete
  extract_lets v0 v1
  refine rf_cut (W := vS) v1 ?_ (fun h2 => ?_)
  · unfold v1
    refine rf_step (State.stageSix_rf _ _) rfl rfl ?_
    exact rf_refl
  refine rf_ite (fun _h3 => ?_) (fun _h4 => ?_)
  · refine rf_next ?_
    exact rf_refl
  · split
    · rename_i w5 w6
      refine rf_next ?_
      refine rf_step (State.nextStage_rf _ _) rfl rfl ?_
      refine rf_step (State.stageOne_rf _) rfl rfl ?_
      exact rf_refl
    · rename_i w7 w8
      refine rf_next ?_
      refine rf_step (State.nextStage_rf _ _) rfl rfl ?_
      refine rf_step (State.setPower_rf _ _) rfl rfl ?_
      exact rf_refl
    · rename_i w9 w10
      refine rf_next ?_
      refine State.imageStage_rf rfl rfl ?_ (fun u11 => ?_)
      · exact rf_refl
      · extract_lets v12
        refine rf_step (State.nextStage_rf _ _) rfl rfl ?_
        refine rf_step (State.setRes_rf _ _) rfl rfl ?_
        exact rf_refl
    · rename_i w13 w14
      refine rf_next ?_
      refine State.imageStage_rf rfl rfl ?_ (fun u15 => ?_)
      · exact rf_refl
      · refine rf_step (State.nextStage_rf _ _) rfl rfl ?_
        exact rf_refl
    · rename_i w16 w17
      refine rf_next ?_
      refine rf_step (State.nextStage_rf _ _) rfl rfl ?_
      refine rf_ite (fun _h18 => ?_) (fun _h19 => ?_)
      · exact rf_refl
      · refine rf_foldl ?_ (fun t20 x21 h22 => ?_)
        · exact rf_refl
        · refine rf_step (State.slotFromFlash_rf _ _) rfl rfl ?_
          exact h22
    · rename_i w23 w24
      refine rf_next ?_
      refine rf_ite (fun _h25 => ?_) (fun _h26 => ?_)
      · refine rf_step (State.bootFail_rf _ _) rfl rfl ?_
        exact h2
      · refine rf_step (State.nextStage_rf _ _) rfl rfl ?_
        exact h2
    · rename_i w27 w28
      refine rf_next ?_
      refine rf_step (State.bootDone_rf _ _) rfl rfl ?_
      exact rf_refl
    · rename_i w29 w30 w31 w32 w33 w34 w35 w36
      refine rf_next ?_
      exact rf_refl

theorem execBootStageFail_rf (x0 s) :
    RF vOut [.freeCtr, .mode, .octets, .time, .galley, .edge, .front, .fab, .pot, .pins, .alarms] [0x200004, 0x200005, 0x200006, 0x200008, 0x20000A, 0x600008, 0x600009, 0x60000A, 0x60000B, 0x620007, 0x620009, 0xB20006, 0xB20007, 0xB2000F] s (execBootStageFail x0 s) := by
  unfold execBootStageFail
  extract_lets v0
  refine rf_next ?_
  refine rf_ite (fun _h1 => ?_) (fun _h2 => ?_)
  · refine rf_step (State.bootFail_rf _ _) rfl rfl ?_
    exact rf_refl
  · exact rf_refl

theorem execBootHostTimeout_rf (s) :
    RF vOut [.freeCtr, .mode, .octets, .time, .galley, .edge, .front, .fab, .pot, .pins, .alarms] [0x200004, 0x200005, 0x200006, 0x200008, 0x20000A, 0x600008, 0x600009, 0x60000A, 0x60000B, 0x620007, 0x620009, 0xB20006, 0xB20007, 0xB2000F] s (execBootHostTimeout s) := by
  unfold execBootHostTimeout
  refine rf_next ?_
  refine rf_ite (fun _h0 => ?_) (fun _h1 => ?_)
  · refine rf_step (State.bootFail_rf _ _) rfl rfl ?_
    exact rf_refl
  · exact rf_refl

theorem bootImage_rf (x0 x1 s) :
    RF vS [.reply, .freeCtr, .mode, .octets, .time, .galley, .edge, .front, .fab, .pot, .pins, .alarms] [0x200004, 0x200005, 0x200006, 0x200008, 0x20000A, 0x600008, 0x600009, 0x60000A, 0x60000B, 0x620007, 0x620009, 0xB20006, 0xB20007, 0xB2000F] s (bootImage x0 x1 s) := by
  unfold bootImage
  extract_lets v0
  refine rf_ite (fun _h1 => ?_) (fun _h2 => ?_)
  · refine rf_step (State.refuse_rf _ _) rfl rfl ?_
    exact rf_refl
  · refine rf_ite (fun _h3 => ?_) (fun _h4 => ?_)
    · refine rf_step (State.refuse_rf _ _) rfl rfl ?_
      exact rf_refl
    · split
      · rename_i w5 w6 w7
        refine rf_pair_snd w7 ?_ (fun h8 => ?_)
        · refine rf_step (State.verify_rf _ _ _) rfl rfl ?_
          exact rf_refl
        extract_lets v9
        refine rf_step (State.answer_rf _ _) rfl rfl ?_
        refine rf_step (State.setMode_rf _ _) rfl rfl ?_
        exact h8
      · rename_i w10 w11 w12 w13 w14
        refine rf_pair_snd w14 ?_ (fun h15 => ?_)
        · refine rf_step (State.verify_rf _ _ _) rfl rfl ?_
          exact rf_refl
        refine rf_step (State.refuse_rf _ _) rfl rfl ?_
        refine rf_step (State.bootFail_rf _ _) rfl rfl ?_
        exact h15

theorem execBootImageWrite_rf (x0 x1 s) :
    RF vOut [.reply, .freeCtr, .mode, .octets, .time, .galley, .edge, .front, .fab, .pot, .pins, .alarms] [0x200004, 0x200005, 0x200006, 0x200008, 0x20000A, 0x600008, 0x600009, 0x60000A, 0x60000B, 0x620007, 0x620009, 0xB20006, 0xB20007, 0xB2000F] s (execBootImageWrite x0 x1 s) := by
  unfold execBootImageWrite
  split
  · rename_i w0 w1
    refine rf_next ?_
    refine rf_step (bootImage_rf _ _ _) rfl rfl ?_
    exact rf_refl
  · rename_i w2 w3
    refine rf_next ?_
    refine rf_step (State.refuse_rf _ _) rfl rfl ?_
    exact rf_refl

end Sys2Proof.Machine
end

