-- ==== Sys2Proof/Laws/FramesDictionary.lean ====
section
/-!
SUPPORT. What each operation of Machine/Dictionary.lean may change, one lemma each.
-/

namespace Sys2Proof.Machine

set_option Elab.async false

open Sys2Proof

theorem writeRoleEntry_rf (x0 x1 s) :
    RF vOk [.octets] [] s (writeRoleEntry x0 x1 s) := by
  unfold writeRoleEntry
  extract_lets v0
  refine rf_ite (fun _h1 => ?_) (fun _h2 => ?_)
  · exact rf_error _
  · refine rf_ite (fun _h3 => ?_) (fun _h4 => ?_)
    · exact rf_error _
    · refine rf_ok ?_
      refine rf_step (State.setOct_rf _ _ _ _) rfl rfl ?_
      exact rf_refl

theorem writeAnchor_rf (x0 x1 s) :
    RF vOk [.octets] [] s (writeAnchor x0 x1 s) := by
  unfold writeAnchor
  extract_lets v0
  refine rf_cut (W := vS) v0 ?_ (fun h1 => ?_)
  · unfold v0
    refine rf_step (State.setOct_rf _ _ _ _) rfl rfl ?_
    exact rf_refl
  refine rf_ite (fun _h2 => ?_) (fun _h3 => ?_)
  · exact rf_error _
  · refine rf_ok ?_
    exact h1

theorem writeMpEnable_rf (x0 x1 s) :
    RF vS [.force, .pot] [0x110002] s (writeMpEnable x0 x1 s) := by
  have pot {t : State} (h : RF vS [.force, .pot] [0x110002] s t) (x : PotSt) :
      RF vS [.force, .pot] [0x110002] s { t with pot := x } :=
    rf_upd (b := t) h ⟨fun f hf hv => by cases f <;> first | exact absurd (by decide) hf | exact absurd rfl hv | rfl | exact ⟨rfl, rfl⟩ | exact ⟨rfl, rfl, rfl, rfl, rfl⟩, Or.inr fun _ _ => rfl⟩ (Keeps.of rfl (Nat.le_refl _) rfl)
  have h0 : RF vS [.force, .pot] [0x110002] s (s.setNum OD.mpEnable x0 x1) :=
    rf_step (State.setNum_rf _ _ _ _) rfl rfl rf_refl
  unfold writeMpEnable
  refine rf_ite (fun _ => ?_) (fun _ => pot (rf_step (State.take_rf _ _ _) rfl rfl h0) _)
  have h1 := pot (rf_step (State.takeAll_rf _ [OD.mpEnable, OD.ipv4, OD.ipv6, OD.gateway] x0) rfl rfl h0)
  exact rf_ite (fun _ => rf_step (State.takePtp_rf _ _) rfl rfl (h1 _)) (fun _ => h1 _)

theorem writeDeviceOn_rf (s) :
    RF vOk [.freeCtr, .mode, .values, .octets, .force, .time, .galley, .vx, .edge, .front, .mogil, .fab, .parts, .pot, .res, .pins, .alarms] (0x200003 :: 0x200004 :: 0x200005 :: 0x200006 :: 0x200007 :: 0x20000D :: 0x20000E :: 0x31100C :: 0x31100D :: 0x410003 :: 0x414008 :: 0x414009 :: 0x41400D :: 0x500001 :: 0x600006 :: 0x600008 :: 0x600009 :: 0x60000A :: 0x60000B :: 0x60000E :: 0x60000F :: 0x600013 :: 0x60001D :: 0x601008 :: 0x620005 :: 0x620007 :: 0x620009 :: 0x80000E :: 0x822009 :: 0x82800A :: 0xB20006 :: 0xB20007 :: 0xB2000F :: []) s (writeDeviceOn s) := by
  unfold writeDeviceOn
  extract_lets v0
  split
  · rename_i w1 w2 w3
    refine rf_pair_snd w3 ?_ (fun h4 => ?_)
    · refine rf_step (State.deviceOn_rf _ _) rfl rfl ?_
      refine rf_upd (b := s) ?_ ⟨fun f hf hv => by cases f <;> first | exact absurd (by decide) hf | exact absurd rfl hv | rfl | exact ⟨rfl, rfl⟩ | exact ⟨rfl, rfl, rfl, rfl, rfl⟩, Or.inr fun _ _ => rfl⟩ (Keeps.of rfl (Nat.le_add_right _ _) rfl)
      exact rf_refl
    refine rf_ok ?_
    exact h4
  · rename_i w5 w6 w7 w8
    refine rf_pair_snd w8 ?_ (fun h9 => ?_)
    · refine rf_step (State.deviceOn_rf _ _) rfl rfl ?_
      refine rf_upd (b := s) ?_ ⟨fun f hf hv => by cases f <;> first | exact absurd (by decide) hf | exact absurd rfl hv | rfl | exact ⟨rfl, rfl⟩ | exact ⟨rfl, rfl, rfl, rfl, rfl⟩, Or.inr fun _ _ => rfl⟩ (Keeps.of rfl (Nat.le_add_right _ _) rfl)
      exact rf_refl
    exact rf_error _

theorem writePtpEnable_rf (x0 x1 s) :
    RF vS [.force] [0x311001] s (writePtpEnable x0 x1 s) := by
  unfold writePtpEnable
  extract_lets v0
  refine rf_cut (W := vS) v0 ?_ (fun h1 => ?_)
  · unfold v0
    refine rf_step (State.setNum_rf _ _ _ _) rfl rfl ?_
    exact rf_refl
  refine rf_ite (fun _h2 => ?_) (fun _h3 => ?_)
  · refine rf_step (State.takePtp_rf _ _) rfl rfl ?_
    exact h1
  · refine rf_step (State.take_rf _ _ _) rfl rfl ?_
    exact h1

theorem writePtpDomain_rf (x0 s) :
    RF vOk [] [0x310002] s (writePtpDomain x0 s) := by
  unfold writePtpDomain
  extract_lets v0
  refine rf_cut (W := vS) v0 ?_ (fun h1 => ?_)
  · unfold v0
    refine rf_step (State.setNum_rf _ _ _ _) rfl rfl ?_
    exact rf_refl
  refine rf_ite (fun _h2 => ?_) (fun _h3 => ?_)
  · exact rf_error _
  · refine rf_ok ?_
    exact h1

theorem writeBootImage_rf (x0 x1 s) :
    RF vOk [.reply, .freeCtr, .mode, .octets, .time, .galley, .edge, .front, .fab, .pot, .pins, .alarms] [0x200004, 0x200005, 0x200006, 0x200008, 0x20000A, 0x600008, 0x600009, 0x60000A, 0x60000B, 0x620007, 0x620009, 0xB20006, 0xB20007, 0xB2000F] s (writeBootImage x0 x1 s) := by
  unfold writeBootImage
  extract_lets v0
  refine rf_cut (W := vS) v0 ?_ (fun h1 => ?_)
  · unfold v0
    refine rf_step (bootImage_rf _ _ _) rfl rfl ?_
    exact rf_refl
  refine rf_ite (fun _h2 => ?_) (fun _h3 => ?_)
  · refine rf_ok ?_
    exact h1
  · exact rf_error _

theorem writeStaticBytes_rf (x0 s) :
    RF vOk [.front] [0x430007] s (writeStaticBytes x0 s) := by
  unfold writeStaticBytes
  refine rf_step (writeStatic_rf _ _ _ _ _) rfl rfl ?_
  exact rf_refl

theorem State.holdNum_rf (s x1 x2 x3 x4) :
    RF vS [.values, .force, .parts] [] s (State.holdNum s x1 x2 x3 x4) := by
  unfold State.holdNum
  extract_lets v0 v1
  refine rf_cut (W := vS) v1 ?_ (fun h2 => ?_)
  · unfold v1
    refine rf_step (State.takeTie_rf _ _ _) rfl rfl ?_
    refine rf_step (State.setNum_rfv _ _ _ _) rfl rfl ?_
    exact rf_refl
  refine rf_ite (fun _h3 => ?_) (fun _h4 => ?_)
  · refine rf_step (State.setNum_rfv _ _ _ _) rfl rfl ?_
    exact rf_refl
  · refine rf_ite (fun _h5 => ?_) (fun _h6 => ?_)
    · refine rf_step (State.touchPart_rf _ _) rfl rfl ?_
      exact h2
    · refine rf_ite (fun _h7 => ?_) (fun _h8 => ?_)
      · refine rf_step (State.touchPart_rf _ _) rfl rfl ?_
        exact h2
      · refine rf_ite (fun _h9 => ?_) (fun _h10 => ?_)
        · refine rf_step (State.touchPart_rf _ _) rfl rfl ?_
          exact h2
        · refine rf_ite (fun _h11 => ?_) (fun _h12 => ?_)
          · refine rf_step (State.touchPart_rf _ _) rfl rfl ?_
            exact h2
          · exact h2

theorem State.applyNum_rf (s x1 x2 x3 x4 x5) :
    RF vOk [.reply, .freeCtr, .mode, .values, .octets, .force, .selects, .time, .galley, .vx, .edge, .front, .mogil, .mem, .fab, .host, .parts, .pot, .sec, .res, .pins, .alarms] (0x110002 :: 0x200003 :: 0x200004 :: 0x200005 :: 0x200006 :: 0x200007 :: 0x200008 :: 0x20000D :: 0x20000E :: 0x210004 :: 0x210007 :: 0x300005 :: 0x300013 :: 0x300014 :: 0x300018 :: 0x30001A :: 0x30001C :: 0x301001 :: 0x310002 :: 0x311001 :: 0x31100C :: 0x31100D :: 0x400007 :: 0x400008 :: 0x400009 :: 0x410003 :: 0x414008 :: 0x414009 :: 0x41400D :: 0x418001 :: 0x41800A :: 0x500001 :: 0x50000E :: 0x50100F :: 0x502002 :: 0x600002 :: 0x600006 :: 0x600008 :: 0x600009 :: 0x60000A :: 0x60000B :: 0x60000E :: 0x60000F :: 0x600013 :: 0x60001D :: 0x601004 :: 0x601005 :: 0x601007 :: 0x601008 :: 0x610003 :: 0x610008 :: 0x620005 :: 0x620007 :: 0x620009 :: 0x630002 :: 0x700009 :: 0x80000E :: 0x822009 :: 0x824005 :: 0x82800A :: 0x910007 :: 0xA01006 :: 0xA40002 :: 0xA40003 :: 0xA4000D :: 0xA4000E :: 0xB0000A :: 0xB10004 :: 0xB20006 :: 0xB20007 :: 0xB2000F :: 0xD00002 :: 0xD00006 :: 0xD00008 :: []) s (State.applyNum s x1 x2 x3 x4 x5) := by
  unfold State.applyNum
  extract_lets v0 v1
  refine rf_cut (W := vS) v1 ?_ (fun h2 => ?_)
  · unfold v1
    refine rf_step (State.setSel_rf _ _ _ _) rfl rfl ?_
    exact rf_refl
  refine rf_ite (fun _h3 => ?_) (fun _h4 => ?_)
  · refine rf_ok ?_
    refine rf_ite (fun _h5 => ?_) (fun _h6 => ?_)
    · refine rf_step (State.touchPart_rf _ _) rfl rfl ?_
      exact h2
    · exact h2
  · split
    · rename_i w7 w8 w9
      refine rf_step (writeFuse_rf _ _ _ _) rfl rfl ?_
      exact rf_refl
    · rename_i w10 w11
      split
      · rename_i w12 w13
        refine rf_ok ?_
        refine rf_step (writeMpEnable_rf _ _ _) rfl rfl ?_
        exact rf_refl
      · rename_i w14 w15
        refine rf_step (writeModeRequest_rf _ _) rfl rfl ?_
        exact rf_refl
      · rename_i w16 w17
        refine rf_ite (fun _h18 => ?_) (fun _h19 => ?_)
        · refine rf_step (writeDeviceOn_rf _) rfl rfl ?_
          exact rf_refl
        · refine rf_step (deviceOff_rf _) rfl rfl ?_
          exact rf_refl
      · rename_i w20 w21
        refine rf_ok ?_
        refine rf_step (State.capsNow_rf _) rfl rfl ?_
        refine rf_step (State.holdNum_rf _ _ _ _ _) rfl rfl ?_
        exact rf_refl
      · rename_i w22 w23
        refine rf_ok ?_
        refine rf_step (State.reclamp_rf _) rfl rfl ?_
        refine rf_step (State.holdNum_rf _ _ _ _ _) rfl rfl ?_
        exact rf_refl
      · rename_i w24 w25
        refine rf_ok ?_
        refine rf_step (State.dropOutputs_rf _) rfl rfl ?_
        refine rf_step (State.holdNum_rf _ _ _ _ _) rfl rfl ?_
        exact rf_refl
      · rename_i w26 w27
        refine rf_step (writePtpDomain_rf _ _) rfl rfl ?_
        exact rf_refl
      · rename_i w28 w29
        refine rf_step (writeTimeSet_rf _ _) rfl rfl ?_
        exact rf_refl
      · rename_i w30 w31
        refine rf_step (writeReference_rf _ _ _) rfl rfl ?_
        exact rf_refl
      · rename_i w32 w33
        refine rf_ok ?_
        refine rf_step (writePtpEnable_rf _ _ _) rfl rfl ?_
        exact rf_refl
      · rename_i w34 w35
        refine rf_step (writePrbsConfig_rf _ _ _) rfl rfl ?_
        exact rf_refl
      · rename_i w36 w37
        refine rf_step (writePrbsClear_rf _ _ _) rfl rfl ?_
        exact rf_refl
      · rename_i w38 w39
        refine rf_step (enablePort_rf _ _ _) rfl rfl ?_
        exact rf_refl
      · rename_i w40 w41
        refine rf_step (enableFlow_rf _ _ _) rfl rfl ?_
        exact rf_refl
      · rename_i w42 w43
        refine rf_step (writeFlowActivePort_rf _ _ _) rfl rfl ?_
        exact rf_refl
      · rename_i w44 w45
        refine rf_step (enableMacsec_rf _ _ _) rfl rfl ?_
        exact rf_refl
      · rename_i w46 w47
        refine rf_step (writeTxAn_rf _ _ _) rfl rfl ?_
        exact rf_refl
      · rename_i w48 w49
        refine rf_step (enableMogil_rf _ _) rfl rfl ?_
        exact rf_refl
      · rename_i w50 w51
        refine rf_step (writeTakeoverNow_rf _ _) rfl rfl ?_
        exact rf_refl
      · rename_i w52 w53
        refine rf_step (writeMogilPrbs_rf _ _ _) rfl rfl ?_
        exact rf_refl
      · rename_i w54 w55
        refine rf_step (writeChannelMap_rf _ _ _) rfl rfl ?_
        exact rf_refl
      · rename_i w56 w57
        refine rf_ok ?_
        refine rf_ite (fun _h58 => ?_) (fun _h59 => ?_)
        · refine rf_step (clearCounts_rf _) rfl rfl ?_
          exact rf_refl
        · exact rf_refl
      · rename_i w60 w61
        refine rf_step (writePeriod_rf _ _ _) rfl rfl ?_
        exact rf_refl
      · rename_i w62 w63
        refine rf_step (writePressLead_rf _ _ _) rfl rfl ?_
        exact rf_refl
      · rename_i w64 w65
        refine rf_step (writeSlotFormes_rf _ _ _) rfl rfl ?_
        exact rf_refl
      · rename_i w66 w67
        refine rf_step (enableCell_rf _ _ _) rfl rfl ?_
        exact rf_refl
      · rename_i w68 w69
        refine rf_step (enableForme_rf _ _ _) rfl rfl ?_
        exact rf_refl
      · rename_i w70 w71
        refine rf_step (enableHamper_rf _ _ _) rfl rfl ?_
        exact rf_refl
      · rename_i w72 w73
        refine rf_step (writeCoreImage_rf _ _ _) rfl rfl ?_
        exact rf_refl
      · rename_i w74 w75
        refine rf_step (enableGroup_rf _ _ _) rfl rfl ?_
        exact rf_refl
      · rename_i w76 w77
        refine rf_step (enableRamp_rf _ _ _) rfl rfl ?_
        exact rf_refl
      · rename_i w78 w79
        refine rf_step (enableContext_rf _ _ _) rfl rfl ?_
        exact rf_refl
      · rename_i w80 w81
        refine rf_step (writeSpareNow_rf _ _ _) rfl rfl ?_
        exact rf_refl
      · rename_i w82 w83
        refine rf_step (enableRegion_rf _ _ _) rfl rfl ?_
        exact rf_refl
      · rename_i w84 w85
        refine rf_step (writeRekeyNow_rf _ _ _) rfl rfl ?_
        exact rf_refl
      · rename_i w86 w87
        refine rf_step (enableQp_rf _ _ _) rfl rfl ?_
        exact rf_refl
      · rename_i w88 w89
        refine rf_step (enablePart_rf _ _ _) rfl rfl ?_
        exact rf_refl
      · rename_i w90 w91
        refine rf_step (pausePart_rf _ _ _) rfl rfl ?_
        exact rf_refl
      · rename_i w92 w93
        refine rf_step (resetPart_rf _ _ _) rfl rfl ?_
        exact rf_refl
      · rename_i w94 w95
        refine rf_step (writeUpgradeRecovery_rf _ _) rfl rfl ?_
        exact rf_refl
      · rename_i w96 w97
        refine rf_step (writeUpgradeCommit_rf _ _) rfl rfl ?_
        exact rf_refl
      · rename_i w98 w99
        refine rf_step (writeUpgradeAbandon_rf _ _) rfl rfl ?_
        exact rf_refl
      · rename_i w100 w101
        refine rf_step (writeGpioConfig_rf _ _ _) rfl rfl ?_
        exact rf_refl
      · rename_i w102 w103
        refine rf_step (writeBankVoltage_rf _ _) rfl rfl ?_
        exact rf_refl
      · rename_i w104 w105
        refine rf_ok ?_
        refine rf_step (clearPinFault_rf _ _) rfl rfl ?_
        exact rf_refl
      · rename_i w106 w107
        refine rf_step (writeDiagRun_rf _ _ _) rfl rfl ?_
        exact rf_refl
      · rename_i w108 w109 w110 w111 w112 w113 w114 w115 w116 w117 w118 w119 w120 w121 w122 w123 w124 w125 w126 w127 w128 w129 w130 w131 w132 w133 w134 w135 w136 w137 w138 w139 w140 w141 w142 w143 w144 w145 w146 w147 w148 w149 w150 w151 w152 w153 w154
        refine rf_ok ?_
        refine rf_step (State.holdNum_rf _ _ _ _ _) rfl rfl ?_
        exact rf_refl

theorem State.applyOct_rf (s x1 x2 x3 x4) :
    RF vOk [.reply, .freeCtr, .mode, .octets, .force, .time, .galley, .vx, .edge, .front, .fab, .parts, .pot, .res, .pins, .alarms] [0x200004, 0x200005, 0x200006, 0x200008, 0x20000A, 0x430007, 0x600008, 0x600009, 0x60000A, 0x60000B, 0x620007, 0x620009, 0x700006, 0xB20006, 0xB20007, 0xB2000F] s (State.applyOct s x1 x2 x3 x4) := by
  unfold State.applyOct
  split
  · rename_i w0 w1
    refine rf_step (writeRoleEntry_rf _ _ _) rfl rfl ?_
    exact rf_refl
  · rename_i w2 w3
    refine rf_step (writeBootImage_rf _ _ _) rfl rfl ?_
    exact rf_refl
  · rename_i w4 w5
    refine rf_step (writeSaKey_rf _ _ _) rfl rfl ?_
    exact rf_refl
  · rename_i w6 w7
    refine rf_step (writeStaticBytes_rf _ _) rfl rfl ?_
    exact rf_refl
  · rename_i w8 w9
    refine rf_step (writeFormeImage_rf _ _ _) rfl rfl ?_
    exact rf_refl
  · rename_i w10 w11
    split
    · rename_i w12 w13 w14
      refine rf_pair_ok w14 ?_ (fun h15 => ?_)
      · refine rf_step (writeVxImage_rf _ _ _) rfl rfl ?_
        exact rf_refl
      refine rf_ok ?_
      refine rf_step (State.setOct_rf _ _ _ _) rfl rfl ?_
      exact h15
    · rename_i w16 w17 w18
      exact rf_error _
  · rename_i w19 w20
    refine rf_step (writeUpgradeImage_rf _ _) rfl rfl ?_
    exact rf_refl
  · rename_i w21 w22
    refine rf_step (writeAnchor_rf _ _ _) rfl rfl ?_
    exact rf_refl
  · rename_i w23 w24 w25 w26 w27 w28 w29 w30 w31
    refine rf_ok ?_
    refine rf_step (State.takeTie_rf _ _ _) rfl rfl ?_
    refine rf_step (State.setOct_rf _ _ _ _) rfl rfl ?_
    exact rf_refl

theorem State.applyValue_rf (s x1 x2 x3 x4 x5) :
    RF vOk [.reply, .freeCtr, .mode, .values, .octets, .force, .selects, .time, .galley, .vx, .edge, .front, .mogil, .mem, .fab, .host, .parts, .pot, .sec, .res, .pins, .alarms] (0x110002 :: 0x200003 :: 0x200004 :: 0x200005 :: 0x200006 :: 0x200007 :: 0x200008 :: 0x20000A :: 0x20000D :: 0x20000E :: 0x210004 :: 0x210007 :: 0x300005 :: 0x300013 :: 0x300014 :: 0x300018 :: 0x30001A :: 0x30001C :: 0x301001 :: 0x310002 :: 0x311001 :: 0x31100C :: 0x31100D :: 0x400007 :: 0x400008 :: 0x400009 :: 0x410003 :: 0x414008 :: 0x414009 :: 0x41400D :: 0x418001 :: 0x41800A :: 0x430007 :: 0x500001 :: 0x50000E :: 0x50100F :: 0x502002 :: 0x600002 :: 0x600006 :: 0x600008 :: 0x600009 :: 0x60000A :: 0x60000B :: 0x60000E :: 0x60000F :: 0x600013 :: 0x60001D :: 0x601004 :: 0x601005 :: 0x601007 :: 0x601008 :: 0x610003 :: 0x610008 :: 0x620005 :: 0x620007 :: 0x620009 :: 0x630002 :: 0x700006 :: 0x700009 :: 0x80000E :: 0x822009 :: 0x824005 :: 0x82800A :: 0x910007 :: 0xA01006 :: 0xA40002 :: 0xA40003 :: 0xA4000D :: 0xA4000E :: 0xB0000A :: 0xB10004 :: 0xB20006 :: 0xB20007 :: 0xB2000F :: 0xD00002 :: 0xD00006 :: 0xD00008 :: []) s (State.applyValue s x1 x2 x3 x4 x5) := by
  unfold State.applyValue
  extract_lets v r
  refine rf_cut (W := vOk) r ?_ (fun h => ?_)
  · unfold r
    split
    · refine rf_ite (fun _ => ?_) (fun _ => rf_error _)
      exact rf_step (State.applyNum_rf _ _ _ _ _ _) rfl rfl rf_refl
    · exact rf_step (State.applyOct_rf _ _ _ _ _) rfl rfl rf_refl
  · clear_value r
    cases r with
    | ok t => exact h
    | error e => exact rf_error _

theorem State.readAll_rf (s x1 x2) :
    RF vS [.reply] [] s (State.readAll s x1 x2) := by
  unfold State.readAll
  extract_lets v0
  refine rf_ite (fun _h1 => ?_) (fun _h2 => ?_)
  · refine rf_step (State.refuse_rf _ _) rfl rfl ?_
    exact rf_refl
  · refine rf_ite (fun _h3 => ?_) (fun _h4 => ?_)
    · refine rf_step (State.refuse_rf _ _) rfl rfl ?_
      exact rf_refl
    · refine rf_step (State.answerData_rf _ _) rfl rfl ?_
      exact rf_refl

theorem State.writeEntry_rf (s x1 x2) :
    RF vOk [.reply, .freeCtr, .mode, .values, .octets, .force, .selects, .time, .galley, .vx, .edge, .front, .mogil, .mem, .fab, .host, .parts, .pot, .sec, .res, .pins, .alarms] (0x110002 :: 0x200003 :: 0x200004 :: 0x200005 :: 0x200006 :: 0x200007 :: 0x200008 :: 0x20000A :: 0x20000D :: 0x20000E :: 0x210004 :: 0x210007 :: 0x300005 :: 0x300013 :: 0x300014 :: 0x300018 :: 0x30001A :: 0x30001C :: 0x301001 :: 0x310002 :: 0x311001 :: 0x31100C :: 0x31100D :: 0x400007 :: 0x400008 :: 0x400009 :: 0x410003 :: 0x414008 :: 0x414009 :: 0x41400D :: 0x418001 :: 0x41800A :: 0x430007 :: 0x500001 :: 0x50000E :: 0x50100F :: 0x502002 :: 0x600002 :: 0x600006 :: 0x600008 :: 0x600009 :: 0x60000A :: 0x60000B :: 0x60000E :: 0x60000F :: 0x600013 :: 0x60001D :: 0x601004 :: 0x601005 :: 0x601007 :: 0x601008 :: 0x610003 :: 0x610008 :: 0x620005 :: 0x620007 :: 0x620009 :: 0x630002 :: 0x700006 :: 0x700009 :: 0x80000E :: 0x822009 :: 0x824005 :: 0x82800A :: 0x910007 :: 0xA01006 :: 0xA40002 :: 0xA40003 :: 0xA4000D :: 0xA4000E :: 0xB0000A :: 0xB10004 :: 0xB20006 :: 0xB20007 :: 0xB2000F :: 0xD00002 :: 0xD00006 :: 0xD00008 :: []) s (State.writeEntry s x1 x2) := by
  unfold State.writeEntry
  split
  · rename_i w0 w1 w2
    exact rf_error _
  · rename_i w3 w4 w5
    extract_lets v6
    split
    · rename_i w7 w8
      refine rf_ite (fun _h9 => ?_) (fun _h10 => ?_)
      · exact rf_error _
      · refine rf_step (State.applyValue_rf _ _ _ _ _ _) rfl rfl ?_
        exact rf_refl
    · rename_i w11 w12
      exact rf_error _

theorem State.writeSeq_rf (x0 x1 s) :
    RF vOk [.reply, .freeCtr, .mode, .values, .octets, .force, .selects, .time, .galley, .vx, .edge, .front, .mogil, .mem, .fab, .host, .parts, .pot, .sec, .res, .pins, .alarms] (0x110002 :: 0x200003 :: 0x200004 :: 0x200005 :: 0x200006 :: 0x200007 :: 0x200008 :: 0x20000A :: 0x20000D :: 0x20000E :: 0x210004 :: 0x210007 :: 0x300005 :: 0x300013 :: 0x300014 :: 0x300018 :: 0x30001A :: 0x30001C :: 0x301001 :: 0x310002 :: 0x311001 :: 0x31100C :: 0x31100D :: 0x400007 :: 0x400008 :: 0x400009 :: 0x410003 :: 0x414008 :: 0x414009 :: 0x41400D :: 0x418001 :: 0x41800A :: 0x430007 :: 0x500001 :: 0x50000E :: 0x50100F :: 0x502002 :: 0x600002 :: 0x600006 :: 0x600008 :: 0x600009 :: 0x60000A :: 0x60000B :: 0x60000E :: 0x60000F :: 0x600013 :: 0x60001D :: 0x601004 :: 0x601005 :: 0x601007 :: 0x601008 :: 0x610003 :: 0x610008 :: 0x620005 :: 0x620007 :: 0x620009 :: 0x630002 :: 0x700006 :: 0x700009 :: 0x80000E :: 0x822009 :: 0x824005 :: 0x82800A :: 0x910007 :: 0xA01006 :: 0xA40002 :: 0xA40003 :: 0xA4000D :: 0xA4000E :: 0xB0000A :: 0xB10004 :: 0xB20006 :: 0xB20007 :: 0xB2000F :: 0xD00002 :: 0xD00006 :: 0xD00008 :: []) s (State.writeSeq x0 x1 s) := by
  induction x1 generalizing x0 s
  · unfold State.writeSeq
    refine rf_ok ?_
    exact rf_refl
  · rename_i y ys ih
    unfold State.writeSeq
    split
    · rename_i w0 w1 w2
      refine rf_pair_ok w2 ?_ (fun h3 => ?_)
      · refine rf_step (State.writeEntry_rf _ _ _) rfl rfl ?_
        exact rf_refl
      refine rf_trans ?_ (ih ..)
      exact h3
    · rename_i w4 w5 w6
      exact rf_error _

theorem State.refusedBy_rf (s x1 x2 x3) :
    RF vS [.reply, .freeCtr, .mode, .octets, .time, .galley, .edge, .front, .fab, .pot, .pins, .alarms] [0x200004, 0x200005, 0x200006, 0x200008, 0x20000A, 0x20000D, 0x20000E, 0x600008, 0x600009, 0x60000A, 0x60000B, 0x620007, 0x620009, 0xB20006, 0xB20007, 0xB2000F] s (State.refusedBy s x1 x2 x3) := by
  unfold State.refusedBy
  extract_lets v0 v1 v2
  refine rf_cut (W := vS) v2 ?_ (fun h3 => ?_)
  · unfold v2
    split
    · rename_i w4 w5
      refine rf_ite (fun _h6 => ?_) (fun _h7 => ?_)
      · refine rf_step (State.noteEnable_rf _ _ _) rfl rfl ?_
        refine rf_upd (b := s) ?_ ⟨fun f hf hv => by cases f <;> first | exact absurd (by decide) hf | exact absurd rfl hv | rfl | exact ⟨rfl, rfl⟩ | exact ⟨rfl, rfl, rfl, rfl, rfl⟩, Or.inr fun _ _ => rfl⟩ (Keeps.of rfl (Nat.le_add_right _ _) rfl)
        exact rf_refl
      · exact rf_refl
    · rename_i w8 w9
      refine rf_ite (fun _h10 => ?_) (fun _h11 => ?_)
      · split
        · rename_i w12 w13
          refine rf_step (bootImage_rf _ _ _) rfl rfl ?_
          exact rf_refl
        · rename_i w14 w15
          exact rf_refl
      · exact rf_refl
    · rename_i w16 w17
      refine rf_ite (fun _h18 => ?_) (fun _h19 => ?_)
      · refine rf_step (State.raise_rf _ _ _ _ _) rfl rfl ?_
        exact rf_refl
      · exact rf_refl
    · rename_i w20 w21 w22 w23
      exact rf_refl
  exact h3

theorem State.writeAll_rf (s x1 x2) :
    RF vS [.reply, .freeCtr, .mode, .values, .octets, .force, .selects, .time, .galley, .vx, .edge, .front, .mogil, .mem, .fab, .host, .parts, .pot, .sec, .res, .pins, .alarms] (0x110002 :: 0x200003 :: 0x200004 :: 0x200005 :: 0x200006 :: 0x200007 :: 0x200008 :: 0x20000A :: 0x20000D :: 0x20000E :: 0x210004 :: 0x210007 :: 0x300005 :: 0x300013 :: 0x300014 :: 0x300018 :: 0x30001A :: 0x30001C :: 0x301001 :: 0x310002 :: 0x311001 :: 0x31100C :: 0x31100D :: 0x400007 :: 0x400008 :: 0x400009 :: 0x410003 :: 0x414008 :: 0x414009 :: 0x41400D :: 0x418001 :: 0x41800A :: 0x430007 :: 0x500001 :: 0x50000E :: 0x50100F :: 0x502002 :: 0x600002 :: 0x600006 :: 0x600008 :: 0x600009 :: 0x60000A :: 0x60000B :: 0x60000E :: 0x60000F :: 0x600013 :: 0x60001D :: 0x601004 :: 0x601005 :: 0x601007 :: 0x601008 :: 0x610003 :: 0x610008 :: 0x620005 :: 0x620007 :: 0x620009 :: 0x630002 :: 0x700006 :: 0x700009 :: 0x80000E :: 0x822009 :: 0x824005 :: 0x82800A :: 0x910007 :: 0xA01006 :: 0xA40002 :: 0xA40003 :: 0xA4000D :: 0xA4000E :: 0xB0000A :: 0xB10004 :: 0xB20006 :: 0xB20007 :: 0xB2000F :: 0xD00002 :: 0xD00006 :: 0xD00008 :: []) s (State.writeAll s x1 x2) := by
  unfold State.writeAll
  refine rf_ite (fun _h0 => ?_) (fun _h1 => ?_)
  · refine rf_step (State.refuse_rf _ _) rfl rfl ?_
    exact rf_refl
  · split
    · rename_i w2 w3 w4
      refine rf_pair_ok w4 ?_ (fun h5 => ?_)
      · refine rf_step (State.writeSeq_rf _ _ _) rfl rfl ?_
        exact rf_refl
      refine rf_step (State.answer_rf _ _) rfl rfl ?_
      exact h5
    · rename_i w6 w7 w8 w9
      refine rf_step (State.refuse_rf _ _) rfl rfl ?_
      refine rf_step (State.refusedBy_rf _ _ _ _) rfl rfl ?_
      exact rf_refl

theorem State.writeOne_rf (s x1 x2 x3 x4) :
    RF vS [.reply, .freeCtr, .mode, .values, .octets, .force, .selects, .time, .galley, .vx, .edge, .front, .mogil, .mem, .fab, .host, .parts, .pot, .sec, .res, .pins, .alarms] (0x110002 :: 0x200003 :: 0x200004 :: 0x200005 :: 0x200006 :: 0x200007 :: 0x200008 :: 0x20000A :: 0x20000D :: 0x20000E :: 0x210004 :: 0x210007 :: 0x300005 :: 0x300013 :: 0x300014 :: 0x300018 :: 0x30001A :: 0x30001C :: 0x301001 :: 0x310002 :: 0x311001 :: 0x31100C :: 0x31100D :: 0x400007 :: 0x400008 :: 0x400009 :: 0x410003 :: 0x414008 :: 0x414009 :: 0x41400D :: 0x418001 :: 0x41800A :: 0x430007 :: 0x500001 :: 0x50000E :: 0x50100F :: 0x502002 :: 0x600002 :: 0x600006 :: 0x600008 :: 0x600009 :: 0x60000A :: 0x60000B :: 0x60000E :: 0x60000F :: 0x600013 :: 0x60001D :: 0x601004 :: 0x601005 :: 0x601007 :: 0x601008 :: 0x610003 :: 0x610008 :: 0x620005 :: 0x620007 :: 0x620009 :: 0x630002 :: 0x700006 :: 0x700009 :: 0x80000E :: 0x822009 :: 0x824005 :: 0x82800A :: 0x910007 :: 0xA01006 :: 0xA40002 :: 0xA40003 :: 0xA4000D :: 0xA4000E :: 0xB0000A :: 0xB10004 :: 0xB20006 :: 0xB20007 :: 0xB2000F :: 0xD00002 :: 0xD00006 :: 0xD00008 :: []) s (State.writeOne s x1 x2 x3 x4) := by
  unfold State.writeOne
  refine rf_step (State.writeAll_rf _ _ _) rfl rfl ?_
  exact rf_refl

theorem State.enableReq_rf (s x1 x2 x3) :
    RF vS [.reply, .freeCtr, .mode, .values, .octets, .force, .selects, .time, .galley, .vx, .edge, .front, .mogil, .mem, .fab, .host, .parts, .pot, .sec, .res, .pins, .alarms] (0x110002 :: 0x200003 :: 0x200004 :: 0x200005 :: 0x200006 :: 0x200007 :: 0x200008 :: 0x20000A :: 0x20000D :: 0x20000E :: 0x210004 :: 0x210007 :: 0x300005 :: 0x300013 :: 0x300014 :: 0x300018 :: 0x30001A :: 0x30001C :: 0x301001 :: 0x310002 :: 0x311001 :: 0x31100C :: 0x31100D :: 0x400007 :: 0x400008 :: 0x400009 :: 0x410003 :: 0x414008 :: 0x414009 :: 0x41400D :: 0x418001 :: 0x41800A :: 0x430007 :: 0x500001 :: 0x50000E :: 0x50100F :: 0x502002 :: 0x600002 :: 0x600006 :: 0x600008 :: 0x600009 :: 0x60000A :: 0x60000B :: 0x60000E :: 0x60000F :: 0x600013 :: 0x60001D :: 0x601004 :: 0x601005 :: 0x601007 :: 0x601008 :: 0x610003 :: 0x610008 :: 0x620005 :: 0x620007 :: 0x620009 :: 0x630002 :: 0x700006 :: 0x700009 :: 0x80000E :: 0x822009 :: 0x824005 :: 0x82800A :: 0x910007 :: 0xA01006 :: 0xA40002 :: 0xA40003 :: 0xA4000D :: 0xA4000E :: 0xB0000A :: 0xB10004 :: 0xB20006 :: 0xB20007 :: 0xB2000F :: 0xD00002 :: 0xD00006 :: 0xD00008 :: []) s (State.enableReq s x1 x2 x3) := by
  unfold State.enableReq
  extract_lets v0
  split
  · rename_i w1 w2 w3
    refine rf_step (State.refuse_rf _ _) rfl rfl ?_
    exact rf_refl
  · rename_i w4 w5 w6
    extract_lets v7
    refine rf_ite (fun _h8 => ?_) (fun _h9 => ?_)
    · refine rf_step (State.refuse_rf _ _) rfl rfl ?_
      exact rf_refl
    · split
      · rename_i w10 w11
        split
        · rename_i w12 w13 w14
          refine rf_pair_ok w14 ?_ (fun h15 => ?_)
          · refine rf_step (State.applyValue_rf _ _ _ _ _ _) rfl rfl ?_
            exact rf_refl
          refine rf_step (State.answer_rf _ _) rfl rfl ?_
          exact h15
        · rename_i w16 w17 w18
          refine rf_step (State.refuse_rf _ _) rfl rfl ?_
          refine rf_step (State.refusedBy_rf _ _ _ _) rfl rfl ?_
          exact rf_refl
      · rename_i w19 w20
        refine rf_step (State.refuse_rf _ _) rfl rfl ?_
        exact rf_refl

theorem State.segment_rf (s x1 x2 x3 x4 x5 x6) :
    RF vS [.reply, .pot] [] s (State.segment s x1 x2 x3 x4 x5 x6) := by
  unfold State.segment
  extract_lets v0 v1 v2 v3
  refine rf_cut (W := vS) v3 ?_ (fun h4 => ?_)
  · unfold v3
    refine rf_step (State.setSegs_rf _ _ _) rfl rfl ?_
    exact rf_refl
  refine rf_step (State.answerData_rf _ _) rfl rfl ?_
  exact h4

theorem State.segReadReq_rf (s x1 x2 x3 x4) :
    RF vS [.reply, .pot] [] s (State.segReadReq s x1 x2 x3 x4) := by
  unfold State.segReadReq
  refine rf_ite (fun _h0 => ?_) (fun _h1 => ?_)
  · refine rf_step (State.refuse_rf _ _) rfl rfl ?_
    exact rf_refl
  · split
    · rename_i w2 w3 w4
      refine rf_step (State.refuse_rf _ _) rfl rfl ?_
      exact rf_refl
    · rename_i w5 w6 w7
      extract_lets v8
      refine rf_ite (fun _h9 => ?_) (fun _h10 => ?_)
      · split
        · rename_i w11 w12 w13 w14
          refine rf_step (State.segment_rf _ _ _ _ _ _ _) rfl rfl ?_
          exact rf_refl
        · rename_i w15 w16 w17
          refine rf_step (State.refuse_rf _ _) rfl rfl ?_
          exact rf_refl
      · split
        · rename_i w18 w19 w20
          refine rf_ite (fun _h21 => ?_) (fun _h22 => ?_)
          · refine rf_step (State.refuse_rf _ _) rfl rfl ?_
            exact rf_refl
          · refine rf_step (State.segment_rf _ _ _ _ _ _ _) rfl rfl ?_
            exact rf_refl
        · rename_i w23 w24
          refine rf_step (State.refuse_rf _ _) rfl rfl ?_
          exact rf_refl

theorem State.segTake_rf (s x1 x2 x3 x4 x5) :
    RF vS [.reply, .freeCtr, .mode, .values, .octets, .force, .selects, .time, .galley, .vx, .edge, .front, .mogil, .mem, .fab, .host, .parts, .pot, .sec, .res, .pins, .alarms] (0x110002 :: 0x200003 :: 0x200004 :: 0x200005 :: 0x200006 :: 0x200007 :: 0x200008 :: 0x20000A :: 0x20000D :: 0x20000E :: 0x210004 :: 0x210007 :: 0x300005 :: 0x300013 :: 0x300014 :: 0x300018 :: 0x30001A :: 0x30001C :: 0x301001 :: 0x310002 :: 0x311001 :: 0x31100C :: 0x31100D :: 0x400007 :: 0x400008 :: 0x400009 :: 0x410003 :: 0x414008 :: 0x414009 :: 0x41400D :: 0x418001 :: 0x41800A :: 0x430007 :: 0x500001 :: 0x50000E :: 0x50100F :: 0x502002 :: 0x600002 :: 0x600006 :: 0x600008 :: 0x600009 :: 0x60000A :: 0x60000B :: 0x60000E :: 0x60000F :: 0x600013 :: 0x60001D :: 0x601004 :: 0x601005 :: 0x601007 :: 0x601008 :: 0x610003 :: 0x610008 :: 0x620005 :: 0x620007 :: 0x620009 :: 0x630002 :: 0x700006 :: 0x700009 :: 0x80000E :: 0x822009 :: 0x824005 :: 0x82800A :: 0x910007 :: 0xA01006 :: 0xA40002 :: 0xA40003 :: 0xA4000D :: 0xA4000E :: 0xB0000A :: 0xB10004 :: 0xB20006 :: 0xB20007 :: 0xB2000F :: 0xD00002 :: 0xD00006 :: 0xD00008 :: []) s (State.segTake s x1 x2 x3 x4 x5) := by
  unfold State.segTake
  extract_lets v0 v1 v2
  refine rf_cut (W := vS) v2 ?_ (fun h3 => ?_)
  · unfold v2
    refine rf_step (State.setSegs_rf _ _ _) rfl rfl ?_
    exact rf_refl
  refine rf_ite (fun _h4 => ?_) (fun _h5 => ?_)
  · refine rf_step (State.refuse_rf _ _) rfl rfl ?_
    exact rf_refl
  · refine rf_ite (fun _h6 => ?_) (fun _h7 => ?_)
    · split
      · rename_i w8 w9 w10
        refine rf_pair_ok w10 ?_ (fun h11 => ?_)
        · refine rf_step (State.applyValue_rf _ _ _ _ _ _) rfl rfl ?_
          exact h3
        refine rf_step (State.answerData_rf _ _) rfl rfl ?_
        exact h11
      · rename_i w12 w13 w14
        refine rf_step (State.refuse_rf _ _) rfl rfl ?_
        refine rf_step (State.refusedBy_rf _ _ _ _) rfl rfl ?_
        exact h3
    · refine rf_step (State.answerData_rf _ _) rfl rfl ?_
      refine rf_step (State.setSegs_rf _ _ _) rfl rfl ?_
      exact rf_refl

theorem State.segWriteReq_rf (s x1 x2 x3 x4 x5 x6) :
    RF vS [.reply, .freeCtr, .mode, .values, .octets, .force, .selects, .time, .galley, .vx, .edge, .front, .mogil, .mem, .fab, .host, .parts, .pot, .sec, .res, .pins, .alarms] (0x110002 :: 0x200003 :: 0x200004 :: 0x200005 :: 0x200006 :: 0x200007 :: 0x200008 :: 0x20000A :: 0x20000D :: 0x20000E :: 0x210004 :: 0x210007 :: 0x300005 :: 0x300013 :: 0x300014 :: 0x300018 :: 0x30001A :: 0x30001C :: 0x301001 :: 0x310002 :: 0x311001 :: 0x31100C :: 0x31100D :: 0x400007 :: 0x400008 :: 0x400009 :: 0x410003 :: 0x414008 :: 0x414009 :: 0x41400D :: 0x418001 :: 0x41800A :: 0x430007 :: 0x500001 :: 0x50000E :: 0x50100F :: 0x502002 :: 0x600002 :: 0x600006 :: 0x600008 :: 0x600009 :: 0x60000A :: 0x60000B :: 0x60000E :: 0x60000F :: 0x600013 :: 0x60001D :: 0x601004 :: 0x601005 :: 0x601007 :: 0x601008 :: 0x610003 :: 0x610008 :: 0x620005 :: 0x620007 :: 0x620009 :: 0x630002 :: 0x700006 :: 0x700009 :: 0x80000E :: 0x822009 :: 0x824005 :: 0x82800A :: 0x910007 :: 0xA01006 :: 0xA40002 :: 0xA40003 :: 0xA4000D :: 0xA4000E :: 0xB0000A :: 0xB10004 :: 0xB20006 :: 0xB20007 :: 0xB2000F :: 0xD00002 :: 0xD00006 :: 0xD00008 :: []) s (State.segWriteReq s x1 x2 x3 x4 x5 x6) := by
  unfold State.segWriteReq
  refine rf_ite (fun _h0 => ?_) (fun _h1 => ?_)
  · refine rf_step (State.refuse_rf _ _) rfl rfl ?_
    exact rf_refl
  · split
    · rename_i w2 w3 w4
      refine rf_step (State.refuse_rf _ _) rfl rfl ?_
      exact rf_refl
    · rename_i w5 w6 w7
      extract_lets v8
      refine rf_ite (fun _h9 => ?_) (fun _h10 => ?_)
      · split
        · rename_i w11 w12
          refine rf_ite (fun _h13 => ?_) (fun _h14 => ?_)
          · refine rf_step (State.refuse_rf _ _) rfl rfl ?_
            exact rf_refl
          · refine rf_step (State.segTake_rf _ _ _ _ _ _) rfl rfl ?_
            exact rf_refl
        · rename_i w15 w16
          refine rf_step (State.refuse_rf _ _) rfl rfl ?_
          exact rf_refl
      · split
        · rename_i w17 w18 w19
          refine rf_ite (fun _h20 => ?_) (fun _h21 => ?_)
          · refine rf_step (State.segTake_rf _ _ _ _ _ _) rfl rfl ?_
            exact rf_refl
          · refine rf_step (State.refuse_rf _ _) rfl rfl ?_
            exact rf_refl
        · rename_i w22 w23
          refine rf_step (State.refuse_rf _ _) rfl rfl ?_
          exact rf_refl

theorem State.segAbortReq_rf (s x1 x2) :
    RF vS [.reply, .pot] [] s (State.segAbortReq s x1 x2) := by
  unfold State.segAbortReq
  split
  · rename_i w0 w1 w2
    refine rf_step (State.refuse_rf _ _) rfl rfl ?_
    exact rf_refl
  · rename_i w3 w4 w5
    refine rf_step (State.answer_rf _ _) rfl rfl ?_
    refine rf_step (State.setSegs_rf _ _ _) rfl rfl ?_
    exact rf_refl

theorem State.infoOf_rf (s x1 x2) :
    RF vS [.reply] [] s (State.infoOf s x1 x2) := by
  unfold State.infoOf
  split
  · rename_i w0 w1 w2
    refine rf_step (State.refuse_rf _ _) rfl rfl ?_
    exact rf_refl
  · rename_i w3 w4 w5
    refine rf_step (State.answerData_rf _ _) rfl rfl ?_
    exact rf_refl

end Sys2Proof.Machine
end

