-- ==== Sys2Proof/Laws/FramesStore.lean ====
section
/-!
SUPPORT. What each operation of Machine/Store.lean may change, one lemma each.
-/

namespace Sys2Proof.Machine

set_option Elab.async false

open Sys2Proof

theorem State.storeReq_rf (s x1 x2) :
    RF vS [.reply, .values, .octets, .force, .selects, .store] [] s (State.storeReq s x1 x2) := by
  unfold State.storeReq
  extract_lets v0 v1
  refine rf_ite (fun _h2 => ?_) (fun _h3 => ?_)
  · refine rf_step (State.refuse_rf _ _) rfl rfl ?_
    exact rf_refl
  · refine rf_upd (b := s) ?_ ⟨fun f hf hv => by cases f <;> first | exact absurd (by decide) hf | exact absurd rfl hv | rfl | exact ⟨rfl, rfl⟩ | exact ⟨rfl, rfl, rfl, rfl, rfl⟩, Or.inl (by decide)⟩ (Keeps.of rfl (Nat.le_refl _) rfl)
    exact rf_refl

theorem State.seal_rf (s x1) :
    RF vSnd [.freeCtr, .values, .octets, .force, .selects, .store, .pot, .alarms] [0x11000F, 0xB20006, 0xB20007, 0xB2000F] s (State.seal s x1) := by
  unfold State.seal
  extract_lets v0 v1 v2
  refine rf_cut (W := vS) v2 ?_ (fun h3 => ?_)
  · unfold v2
    refine rf_step (State.bump_rf _ _ _) rfl rfl ?_
    refine rf_upd (b := s) ?_ ⟨fun f hf hv => by cases f <;> first | exact absurd (by decide) hf | exact absurd rfl hv | rfl | exact ⟨rfl, rfl⟩ | exact ⟨rfl, rfl, rfl, rfl, rfl⟩, Or.inr fun _ _ => rfl⟩ (Keeps.of rfl (Nat.le_refl _) rfl)
    exact rf_refl
  refine rf_ite (fun _h4 => ?_) (fun _h5 => ?_)
  · refine rf_snd ?_
    exact h3
  · refine rf_snd ?_
    refine rf_step (State.raise_rf _ _ _ _ _) rfl rfl ?_
    refine rf_upd (b := s) ?_ ⟨fun f hf hv => by cases f <;> first | exact absurd (by decide) hf | exact absurd rfl hv | rfl | exact ⟨rfl, rfl⟩ | exact ⟨rfl, rfl, rfl, rfl, rfl⟩, Or.inl (by decide)⟩ (Keeps.of rfl (Nat.le_refl _) rfl)
    exact rf_refl

theorem State.closePart_rf (s x1) :
    RF vS [.freeCtr, .octets, .galley, .edge, .front, .fab, .parts, .pot, .alarms] [0x600008, 0x600009, 0x60000A, 0x60000B, 0x620007, 0x620009, 0xA40002, 0xB20006, 0xB20007, 0xB2000F] s (State.closePart s x1) := by
  unfold State.closePart
  extract_lets v0 v1 v2
  refine rf_cut (W := vS) v1 ?_ (fun h3 => ?_)
  · unfold v1
    refine rf_step (State.abortPart_rf _ _ _) rfl rfl ?_
    exact rf_refl
  refine rf_cut (W := vS) v2 ?_ (fun h4 => ?_)
  · unfold v2
    refine rf_ite (fun _h5 => ?_) (fun _h6 => ?_)
    · refine rf_step (State.clear_rf _ _ _ _) rfl rfl ?_
      refine rf_step (State.freePart_rf _ _) rfl rfl ?_
      exact h3
    · exact h3
  refine rf_ite (fun _h7 => ?_) (fun _h8 => ?_)
  · exact h4
  · refine rf_step (State.setFlag_rf _ _ _ _) rfl rfl ?_
    refine rf_step (State.setPart_rf _ _ _) rfl rfl ?_
    exact h4

theorem State.dropHamper_rf (s x1) :
    RF vS [.freeCtr, .octets, .force, .edge, .front, .fab, .pot, .alarms] [0x620005, 0x620007, 0x620009, 0xB20006, 0xB20007, 0xB2000F] s (State.dropHamper s x1) := by
  unfold State.dropHamper
  refine okOr_rf ?_ ?_
  · exact rf_refl
  · refine rf_step (enableHamper_rf _ _ _) rfl rfl ?_
    refine rf_step (State.freeBufs_rf _ _) rfl rfl ?_
    exact rf_refl

theorem State.disableItems_rf (s) :
    RF vS [.freeCtr, .mode, .values, .octets, .force, .time, .galley, .edge, .front, .mogil, .mem, .fab, .host, .parts, .pot, .sec, .res, .alarms] (0x200004 :: 0x200005 :: 0x200006 :: 0x200007 :: 0x311001 :: 0x31100C :: 0x31100D :: 0x410003 :: 0x414008 :: 0x414009 :: 0x41400D :: 0x418001 :: 0x500001 :: 0x600008 :: 0x600009 :: 0x60000A :: 0x60000B :: 0x60000E :: 0x60000F :: 0x600013 :: 0x60001D :: 0x601008 :: 0x610003 :: 0x610008 :: 0x620005 :: 0x620007 :: 0x620009 :: 0x80000E :: 0x822009 :: 0x824005 :: 0x82800A :: 0x910007 :: 0xA01006 :: 0xA40002 :: 0xB10004 :: 0xB20006 :: 0xB20007 :: 0xB2000F :: []) s (State.disableItems s) := by
  unfold State.disableItems
  extract_lets v0 v1 v2 v3 v4 v5 v6 v7 v8 v9 v10 v11 v12
  refine rf_cut (W := vS) v0 ?_ (fun h13 => ?_)
  · unfold v0
    refine rf_foldl ?_ (fun t14 x15 h16 => ?_)
    · exact rf_refl
    · refine rf_step (State.closePart_rf _ _) rfl rfl ?_
      exact h16
  refine rf_cut (W := vS) v1 ?_ (fun h17 => ?_)
  · unfold v1
    refine rf_foldl ?_ (fun t18 x19 h20 => ?_)
    · exact h13
    · refine rf_step (State.qpDown_rf _ _) rfl rfl ?_
      exact h20
  refine rf_cut (W := vS) v2 ?_ (fun h21 => ?_)
  · unfold v2
    refine State.disableAll_rf ?_ (fun k23 u22 => ?_)
    · exact h17
    · refine rf_step (enableRegion_rf _ _ _) rfl rfl ?_
      exact rf_refl
  refine rf_cut (W := vS) v3 ?_ (fun h24 => ?_)
  · unfold v3
    refine State.disableAll_rf ?_ (fun k26 u25 => ?_)
    · exact h21
    · refine rf_step (enableContext_rf _ _ _) rfl rfl ?_
      exact rf_refl
  refine rf_cut (W := vS) v4 ?_ (fun h27 => ?_)
  · unfold v4
    refine State.disableAll_rf ?_ (fun k29 u28 => ?_)
    · exact h24
    · refine rf_step (enableRamp_rf _ _ _) rfl rfl ?_
      exact rf_refl
  refine rf_cut (W := vS) v5 ?_ (fun h30 => ?_)
  · unfold v5
    refine State.disableAll_rf ?_ (fun k32 u31 => ?_)
    · exact h27
    · refine rf_step (enableGroup_rf _ _ _) rfl rfl ?_
      exact rf_refl
  refine rf_cut (W := vS) v6 ?_ (fun h33 => ?_)
  · unfold v6
    refine rf_foldl ?_ (fun t34 x35 h36 => ?_)
    · exact h30
    · refine rf_step (State.dropHamper_rf _ _) rfl rfl ?_
      exact h36
  refine rf_cut (W := vS) v7 ?_ (fun h37 => ?_)
  · unfold v7
    refine State.disableAll_rf ?_ (fun k39 u38 => ?_)
    · exact h33
    · refine rf_step (enableForme_rf _ _ _) rfl rfl ?_
      exact rf_refl
  refine rf_cut (W := vS) v8 ?_ (fun h40 => ?_)
  · unfold v8
    refine State.disableAll_rf ?_ (fun k42 u41 => ?_)
    · exact h37
    · refine rf_step (enableCell_rf _ _ _) rfl rfl ?_
      exact rf_refl
  refine rf_cut (W := vS) v9 ?_ (fun h43 => ?_)
  · unfold v9
    refine rf_ite (fun _h44 => ?_) (fun _h45 => ?_)
    · refine okOr_rf ?_ ?_
      · exact h40
      · refine rf_step (enableMogil_rf _ _) rfl rfl ?_
        exact h40
    · exact h40
  refine rf_cut (W := vS) v10 ?_ (fun h46 => ?_)
  · unfold v10
    refine State.disableAll_rf ?_ (fun k48 u47 => ?_)
    · exact h43
    · refine rf_step (enableMacsec_rf _ _ _) rfl rfl ?_
      exact rf_refl
  refine rf_cut (W := vS) v11 ?_ (fun h49 => ?_)
  · unfold v11
    refine State.disableAll_rf ?_ (fun k51 u50 => ?_)
    · exact h46
    · refine rf_step (enableFlow_rf _ _ _) rfl rfl ?_
      exact rf_refl
  refine rf_cut (W := vS) v12 ?_ (fun h52 => ?_)
  · unfold v12
    refine State.disableAll_rf ?_ (fun k54 u53 => ?_)
    · exact h49
    · refine rf_step (enablePort_rf _ _ _) rfl rfl ?_
      exact rf_refl
  refine rf_foldl ?_ (fun t55 x56 h57 => ?_)
  · exact h52
  · refine rf_step (writePtpEnable_rf _ _ _) rfl rfl ?_
    exact h57

theorem State.setDefaults_rf (s) :
    RF vS [.freeCtr, .values, .octets, .force, .time, .pot, .pins, .alarms] [0x110002, 0x210004, 0x210007, 0x300005, 0x300013, 0x300014, 0x300018, 0x30001A, 0x301001, 0xB20006, 0xB20007, 0xB2000F, 0xD00006] s (State.setDefaults s) := by
  unfold State.setDefaults
  extract_lets v0 v1 v2 v3 v4 v5 v6 v7
  refine rf_cut (W := vS) v2 ?_ (fun h8 => ?_)
  · unfold v2
    refine rf_upd (b := s) ?_ ⟨fun f hf hv => by cases f <;> first | exact absurd (by decide) hf | exact absurd rfl hv | rfl | exact ⟨rfl, rfl⟩ | exact ⟨rfl, rfl, rfl, rfl, rfl⟩, Or.inl (by decide)⟩ (Keeps.of rfl (Nat.le_refl _) rfl)
    exact rf_refl
  refine rf_cut (W := vS) v4 ?_ (fun h9 => ?_)
  · unfold v4
    refine rf_step (State.setPins_rf _ _) rfl rfl ?_
    exact h8
  refine rf_cut (W := vS) v5 ?_ (fun h10 => ?_)
  · unfold v5
    refine State.disableAll_rf ?_ (fun k12 u11 => ?_)
    · exact h9
    · refine rf_step (writeReference_rf _ _ _) rfl rfl ?_
      exact rf_refl
  refine rf_cut (W := vS) v6 ?_ (fun h13 => ?_)
  · unfold v6
    refine okOr_rf ?_ ?_
    · exact h10
    · refine rf_step (writeBankVoltage_rf _ _) rfl rfl ?_
      exact h10
  refine rf_cut (W := vS) v7 ?_ (fun h14 => ?_)
  · unfold v7
    refine rf_foldl ?_ (fun t15 x16 h17 => ?_)
    · exact h13
    · refine rf_step (writeMpEnable_rf _ _ _) rfl rfl ?_
      exact h17
  refine rf_step (State.capsNow_rf _) rfl rfl ?_
  exact h14

theorem State.restoreReq_rf (s) :
    RF vS [.reply, .freeCtr, .mode, .values, .octets, .force, .time, .galley, .edge, .front, .mogil, .mem, .fab, .host, .parts, .pot, .sec, .res, .pins, .alarms] (0x110002 :: 0x200004 :: 0x200005 :: 0x200006 :: 0x200007 :: 0x210004 :: 0x210007 :: 0x300005 :: 0x300013 :: 0x300014 :: 0x300018 :: 0x30001A :: 0x301001 :: 0x311001 :: 0x31100C :: 0x31100D :: 0x410003 :: 0x414008 :: 0x414009 :: 0x41400D :: 0x418001 :: 0x500001 :: 0x600008 :: 0x600009 :: 0x60000A :: 0x60000B :: 0x60000E :: 0x60000F :: 0x600013 :: 0x60001D :: 0x601008 :: 0x610003 :: 0x610008 :: 0x620005 :: 0x620007 :: 0x620009 :: 0x80000E :: 0x822009 :: 0x824005 :: 0x82800A :: 0x910007 :: 0xA01006 :: 0xA40002 :: 0xB10004 :: 0xB20006 :: 0xB20007 :: 0xB2000F :: 0xD00006 :: []) s (State.restoreReq s) := by
  unfold State.restoreReq
  refine rf_ite (fun _ => rf_step (State.refuse_rf _ _) rfl rfl rf_refl) (fun _ => ?_)
  refine rf_step (State.answer_rf _ _) rfl rfl ?_
  have h : RF vS [.reply, .freeCtr, .mode, .values, .octets, .force, .time, .galley, .edge, .front, .mogil, .mem, .fab, .host, .parts, .pot, .sec, .res, .pins, .alarms] (0x110002 :: 0x200004 :: 0x200005 :: 0x200006 :: 0x200007 :: 0x210004 :: 0x210007 :: 0x300005 :: 0x300013 :: 0x300014 :: 0x300018 :: 0x30001A :: 0x301001 :: 0x311001 :: 0x31100C :: 0x31100D :: 0x410003 :: 0x414008 :: 0x414009 :: 0x41400D :: 0x418001 :: 0x500001 :: 0x600008 :: 0x600009 :: 0x60000A :: 0x60000B :: 0x60000E :: 0x60000F :: 0x600013 :: 0x60001D :: 0x601008 :: 0x610003 :: 0x610008 :: 0x620005 :: 0x620007 :: 0x620009 :: 0x80000E :: 0x822009 :: 0x824005 :: 0x82800A :: 0x910007 :: 0xA01006 :: 0xA40002 :: 0xB10004 :: 0xB20006 :: 0xB20007 :: 0xB2000F :: 0xD00006 :: []) s s.disableItems.setDefaults :=
    rf_step (State.setDefaults_rf s.disableItems) rfl rfl (rf_step (State.disableItems_rf s) rfl rfl rf_refl)
  generalize s.disableItems.setDefaults = t at h
  exact rf_upd (b := t) h ⟨fun f hf hv => by cases f <;> first | exact absurd (by decide) hf | exact absurd rfl hv | rfl | exact ⟨rfl, rfl⟩ | exact ⟨rfl, rfl, rfl, rfl, rfl⟩, Or.inr fun _ _ => rfl⟩ (Keeps.of rfl (Nat.le_refl _) rfl)

end Sys2Proof.Machine
end

