-- ==== Sys2Proof/Laws/FramesPothiquin.lean ====
section
/-!
SUPPORT. What each operation of Machine/Pothiquin.lean may change, one lemma each.
-/

namespace Sys2Proof.Machine

set_option Elab.async false

open Sys2Proof

theorem State.setSession_rf (s x1 x2) :
    RF vS [.pot] [] s (State.setSession s x1 x2) := by
  unfold State.setSession
  extract_lets v0
  refine rf_upd (b := s) ?_ ⟨fun f hf hv => by cases f <;> first | exact absurd (by decide) hf | exact absurd rfl hv | rfl | exact ⟨rfl, rfl⟩ | exact ⟨rfl, rfl, rfl, rfl, rfl⟩, Or.inr fun _ _ => rfl⟩ (Keeps.of rfl (Nat.le_refl _) rfl)
  exact rf_refl

theorem State.onSession_rf (s x1 x2) :
    RF vS [.pot] [] s (State.onSession s x1 x2) := by
  unfold State.onSession
  split
  · rename_i w0 w1 w2
    refine rf_step (State.setSession_rf _ _ _) rfl rfl ?_
    exact rf_refl
  · rename_i w3 w4
    exact rf_refl

theorem State.closeSession_rf (s x1) :
    RF vS [.selects, .pot, .alarms] [] s (State.closeSession s x1) := by
  unfold State.closeSession
  extract_lets v0 v1 v2
  refine rf_cut (W := vS) v1 ?_ (fun h3 => ?_)
  · unfold v1
    refine rf_upd (b := s) ?_ ⟨fun f hf hv => by cases f <;> first | exact absurd (by decide) hf | exact absurd rfl hv | rfl | exact ⟨rfl, rfl⟩ | exact ⟨rfl, rfl, rfl, rfl, rfl⟩, Or.inr fun _ _ => rfl⟩ (Keeps.of rfl (Nat.le_refl _) rfl)
    exact rf_refl
  refine rf_cut (W := vS) v2 ?_ (fun h4 => ?_)
  · unfold v2
    refine rf_foldl ?_ (fun t5 x6 h7 => ?_)
    · refine rf_step (State.dropSels_rf _ _) rfl rfl ?_
      exact h3
    · refine rf_step (State.dropSels_rf _ _) rfl rfl ?_
      exact h7
  refine rf_step (State.prune_rf _) rfl rfl ?_
  exact h4

theorem State.drop_rf (s) :
    RF vS [] [0x11000E] s (State.drop s) := by
  unfold State.drop
  refine rf_step (State.bump_rf _ _ _) rfl rfl ?_
  exact rf_refl

theorem State.performMsg_rf (s x1 x2 x3) :
    RF vS [.reply, .freeCtr, .mode, .values, .octets, .force, .selects, .store, .time, .galley, .vx, .edge, .front, .mogil, .mem, .fab, .host, .parts, .pot, .sec, .res, .pins, .alarms] (0x110002 :: 0x200003 :: 0x200004 :: 0x200005 :: 0x200006 :: 0x200007 :: 0x200008 :: 0x20000A :: 0x20000D :: 0x20000E :: 0x210004 :: 0x210007 :: 0x300005 :: 0x300013 :: 0x300014 :: 0x300018 :: 0x30001A :: 0x30001C :: 0x301001 :: 0x310002 :: 0x311001 :: 0x31100C :: 0x31100D :: 0x400007 :: 0x400008 :: 0x400009 :: 0x410003 :: 0x414008 :: 0x414009 :: 0x41400D :: 0x418001 :: 0x41800A :: 0x430007 :: 0x500001 :: 0x50000E :: 0x50100F :: 0x502002 :: 0x600002 :: 0x600006 :: 0x600008 :: 0x600009 :: 0x60000A :: 0x60000B :: 0x60000E :: 0x60000F :: 0x600013 :: 0x60001D :: 0x601004 :: 0x601005 :: 0x601007 :: 0x601008 :: 0x610003 :: 0x610008 :: 0x620005 :: 0x620007 :: 0x620009 :: 0x630002 :: 0x700006 :: 0x700009 :: 0x80000E :: 0x822009 :: 0x824005 :: 0x82800A :: 0x910007 :: 0xA01006 :: 0xA40002 :: 0xA40003 :: 0xA4000D :: 0xA4000E :: 0xB0000A :: 0xB10004 :: 0xB20006 :: 0xB20007 :: 0xB2000F :: 0xD00002 :: 0xD00006 :: 0xD00008 :: []) s (State.performMsg s x1 x2 x3) := by
  unfold State.performMsg
  split
  · rename_i w0 w1
    refine rf_step (State.readAll_rf _ _ _) rfl rfl ?_
    exact rf_refl
  · rename_i w2 w3
    refine rf_step (State.writeAll_rf _ _ _) rfl rfl ?_
    exact rf_refl
  · rename_i w4 w5 w6 w7
    refine rf_step (State.segReadReq_rf _ _ _ _ _) rfl rfl ?_
    exact rf_refl
  · rename_i w8 w9 w10 w11 w12 w13
    refine rf_step (State.segWriteReq_rf _ _ _ _ _ _ _) rfl rfl ?_
    exact rf_refl
  · rename_i w14 w15
    refine rf_step (State.segAbortReq_rf _ _ _) rfl rfl ?_
    exact rf_refl
  · rename_i w16 w17 w18
    refine rf_step (State.enableReq_rf _ _ _ _) rfl rfl ?_
    exact rf_refl
  · rename_i w19 w20
    refine rf_step (State.infoOf_rf _ _ _) rfl rfl ?_
    exact rf_refl
  · rename_i w21
    refine rf_step (State.storeReq_rf _ _ _) rfl rfl ?_
    exact rf_refl
  · rename_i w22
    refine rf_step (State.restoreReq_rf _) rfl rfl ?_
    exact rf_refl
  · rename_i w23
    refine rf_step (State.refuse_rf _ _) rfl rfl ?_
    exact rf_refl
  · rename_i w24
    refine rf_step (State.refuse_rf _ _) rfl rfl ?_
    exact rf_refl
  · rename_i w25
    refine rf_step (State.refuse_rf _ _) rfl rfl ?_
    exact rf_refl
  · rename_i w26
    refine rf_step (State.refuse_rf _ _) rfl rfl ?_
    exact rf_refl
  · rename_i w27
    refine rf_step (State.refuse_rf _ _) rfl rfl ?_
    exact rf_refl

theorem State.replied_rf (s x1 x2 x3) :
    RF vS [.reply, .pot] [] s (State.replied s x1 x2 x3) := by
  unfold State.replied
  refine rf_step (State.onSession_rf _ _ _) rfl rfl ?_
  refine rf_upd (b := s) ?_ ⟨fun f hf hv => by cases f <;> first | exact absurd (by decide) hf | exact absurd rfl hv | rfl | exact ⟨rfl, rfl⟩ | exact ⟨rfl, rfl, rfl, rfl, rfl⟩, Or.inr fun _ _ => rfl⟩ (Keeps.of rfl (Nat.le_refl _) rfl)
  exact rf_refl

theorem State.finishReq_rf (x0 s x2 x3 x4) :
    RF vS [.reply, .pot] [] s (State.finishReq x0 s x2 x3 x4) := by
  unfold State.finishReq
  extract_lets v0 v1
  refine rf_cut (W := vS) v1 ?_ (fun h2 => ?_)
  · unfold v1
    refine rf_step (State.onSession_rf _ _ _) rfl rfl ?_
    exact rf_refl
  refine rf_step (State.interimIf_rf _ _) rfl rfl ?_
  exact h2

theorem State.sessionMsg_rf {F : List Fld} {O : List Nat} {s b : State}
    (hF : within? [.reply, .pot] F = true) (hO : within? [0x11000E] O = true) {ses id ver : Nat}
    {run : Session → State → State}
    (h0 : RF vS F O s b) (h : ∀ x u, RF vS F O u (run x u)) : RF vS F O s (b.sessionMsg ses id ver run) := by
  have up {F' O' x y} (hx : RF vS F O s x) (hy : RF vS F' O' x y) (a : within? F' [.reply, .pot] = true)
      (c : within? O' [0x11000E] = true) : RF vS F O s y := hx.then ((hy.mono a c).mono hF hO)
  have hr {x : State} (hx : RF vS F O s x) (r : Reply) : RF vS F O s { x with reply := r } := up hx (replyOnly x r) rfl rfl
  unfold State.sessionMsg
  split
  · exact up h0 (State.drop_rf _) rfl rfl
  · refine rf_ite (fun _ => up h0 (State.drop_rf _) rfl rfl) (fun _ => ?_)
    extract_lets b'
    have h1 : RF vS F O s b' := up h0 (State.onSession_rf _ _ _) rfl rfl
    clear_value b'
    split
    · exact rf_ite (fun _ => hr h1 _) (fun _ => hr h1 _)
    · split
      · exact up h1 (State.replied_rf _ _ _ _) rfl rfl
      · exact rf_ite (fun _ => up h1 (State.replied_rf _ _ _ _) rfl rfl) (fun _ => rf_trans h1 (h _ _))

theorem State.sessionReq_rf (s x1 x2 x3 x4) :
    RF vS [.reply, .freeCtr, .mode, .values, .octets, .force, .selects, .store, .time, .galley, .vx, .edge, .front, .mogil, .mem, .fab, .host, .parts, .pot, .sec, .res, .pins, .alarms] (0x110002 :: 0x11000E :: 0x200003 :: 0x200004 :: 0x200005 :: 0x200006 :: 0x200007 :: 0x200008 :: 0x20000A :: 0x20000D :: 0x20000E :: 0x210004 :: 0x210007 :: 0x300005 :: 0x300013 :: 0x300014 :: 0x300018 :: 0x30001A :: 0x30001C :: 0x301001 :: 0x310002 :: 0x311001 :: 0x31100C :: 0x31100D :: 0x400007 :: 0x400008 :: 0x400009 :: 0x410003 :: 0x414008 :: 0x414009 :: 0x41400D :: 0x418001 :: 0x41800A :: 0x430007 :: 0x500001 :: 0x50000E :: 0x50100F :: 0x502002 :: 0x600002 :: 0x600006 :: 0x600008 :: 0x600009 :: 0x60000A :: 0x60000B :: 0x60000E :: 0x60000F :: 0x600013 :: 0x60001D :: 0x601004 :: 0x601005 :: 0x601007 :: 0x601008 :: 0x610003 :: 0x610008 :: 0x620005 :: 0x620007 :: 0x620009 :: 0x630002 :: 0x700006 :: 0x700009 :: 0x80000E :: 0x822009 :: 0x824005 :: 0x82800A :: 0x910007 :: 0xA01006 :: 0xA40002 :: 0xA40003 :: 0xA4000D :: 0xA4000E :: 0xB0000A :: 0xB10004 :: 0xB20006 :: 0xB20007 :: 0xB2000F :: 0xD00002 :: 0xD00006 :: 0xD00008 :: []) s (State.sessionReq s x1 x2 x3 x4) := by
  unfold State.sessionReq
  refine State.sessionMsg_rf rfl rfl ?_ (fun k1 u0 => ?_)
  · exact rf_refl
  · refine rf_step (State.finishReq_rf _ _ _ _ _) rfl rfl ?_
    refine rf_step (State.performMsg_rf _ _ _ _) rfl rfl ?_
    exact rf_refl

theorem execRead_rf (x0 x1 x2 x3 s) :
    RF vOut [.reply, .freeCtr, .mode, .values, .octets, .force, .selects, .store, .time, .galley, .vx, .edge, .front, .mogil, .mem, .fab, .host, .parts, .pot, .sec, .res, .pins, .alarms] (0x110002 :: 0x11000E :: 0x200003 :: 0x200004 :: 0x200005 :: 0x200006 :: 0x200007 :: 0x200008 :: 0x20000A :: 0x20000D :: 0x20000E :: 0x210004 :: 0x210007 :: 0x300005 :: 0x300013 :: 0x300014 :: 0x300018 :: 0x30001A :: 0x30001C :: 0x301001 :: 0x310002 :: 0x311001 :: 0x31100C :: 0x31100D :: 0x400007 :: 0x400008 :: 0x400009 :: 0x410003 :: 0x414008 :: 0x414009 :: 0x41400D :: 0x418001 :: 0x41800A :: 0x430007 :: 0x500001 :: 0x50000E :: 0x50100F :: 0x502002 :: 0x600002 :: 0x600006 :: 0x600008 :: 0x600009 :: 0x60000A :: 0x60000B :: 0x60000E :: 0x60000F :: 0x600013 :: 0x60001D :: 0x601004 :: 0x601005 :: 0x601007 :: 0x601008 :: 0x610003 :: 0x610008 :: 0x620005 :: 0x620007 :: 0x620009 :: 0x630002 :: 0x700006 :: 0x700009 :: 0x80000E :: 0x822009 :: 0x824005 :: 0x82800A :: 0x910007 :: 0xA01006 :: 0xA40002 :: 0xA40003 :: 0xA4000D :: 0xA4000E :: 0xB0000A :: 0xB10004 :: 0xB20006 :: 0xB20007 :: 0xB2000F :: 0xD00002 :: 0xD00006 :: 0xD00008 :: []) s (execRead x0 x1 x2 x3 s) := by
  unfold execRead
  refine rf_next ?_
  refine rf_step (State.sessionReq_rf _ _ _ _ _) rfl rfl ?_
  exact rf_refl

theorem execWrite_rf (x0 x1 x2 x3 s) :
    RF vOut [.reply, .freeCtr, .mode, .values, .octets, .force, .selects, .store, .time, .galley, .vx, .edge, .front, .mogil, .mem, .fab, .host, .parts, .pot, .sec, .res, .pins, .alarms] (0x110002 :: 0x11000E :: 0x200003 :: 0x200004 :: 0x200005 :: 0x200006 :: 0x200007 :: 0x200008 :: 0x20000A :: 0x20000D :: 0x20000E :: 0x210004 :: 0x210007 :: 0x300005 :: 0x300013 :: 0x300014 :: 0x300018 :: 0x30001A :: 0x30001C :: 0x301001 :: 0x310002 :: 0x311001 :: 0x31100C :: 0x31100D :: 0x400007 :: 0x400008 :: 0x400009 :: 0x410003 :: 0x414008 :: 0x414009 :: 0x41400D :: 0x418001 :: 0x41800A :: 0x430007 :: 0x500001 :: 0x50000E :: 0x50100F :: 0x502002 :: 0x600002 :: 0x600006 :: 0x600008 :: 0x600009 :: 0x60000A :: 0x60000B :: 0x60000E :: 0x60000F :: 0x600013 :: 0x60001D :: 0x601004 :: 0x601005 :: 0x601007 :: 0x601008 :: 0x610003 :: 0x610008 :: 0x620005 :: 0x620007 :: 0x620009 :: 0x630002 :: 0x700006 :: 0x700009 :: 0x80000E :: 0x822009 :: 0x824005 :: 0x82800A :: 0x910007 :: 0xA01006 :: 0xA40002 :: 0xA40003 :: 0xA4000D :: 0xA4000E :: 0xB0000A :: 0xB10004 :: 0xB20006 :: 0xB20007 :: 0xB2000F :: 0xD00002 :: 0xD00006 :: 0xD00008 :: []) s (execWrite x0 x1 x2 x3 s) := by
  unfold execWrite
  refine rf_next ?_
  refine rf_step (State.sessionReq_rf _ _ _ _ _) rfl rfl ?_
  exact rf_refl

theorem execSegRead_rf (x0 x1 x2 x3 x4 x5 s) :
    RF vOut [.reply, .freeCtr, .mode, .values, .octets, .force, .selects, .store, .time, .galley, .vx, .edge, .front, .mogil, .mem, .fab, .host, .parts, .pot, .sec, .res, .pins, .alarms] (0x110002 :: 0x11000E :: 0x200003 :: 0x200004 :: 0x200005 :: 0x200006 :: 0x200007 :: 0x200008 :: 0x20000A :: 0x20000D :: 0x20000E :: 0x210004 :: 0x210007 :: 0x300005 :: 0x300013 :: 0x300014 :: 0x300018 :: 0x30001A :: 0x30001C :: 0x301001 :: 0x310002 :: 0x311001 :: 0x31100C :: 0x31100D :: 0x400007 :: 0x400008 :: 0x400009 :: 0x410003 :: 0x414008 :: 0x414009 :: 0x41400D :: 0x418001 :: 0x41800A :: 0x430007 :: 0x500001 :: 0x50000E :: 0x50100F :: 0x502002 :: 0x600002 :: 0x600006 :: 0x600008 :: 0x600009 :: 0x60000A :: 0x60000B :: 0x60000E :: 0x60000F :: 0x600013 :: 0x60001D :: 0x601004 :: 0x601005 :: 0x601007 :: 0x601008 :: 0x610003 :: 0x610008 :: 0x620005 :: 0x620007 :: 0x620009 :: 0x630002 :: 0x700006 :: 0x700009 :: 0x80000E :: 0x822009 :: 0x824005 :: 0x82800A :: 0x910007 :: 0xA01006 :: 0xA40002 :: 0xA40003 :: 0xA4000D :: 0xA4000E :: 0xB0000A :: 0xB10004 :: 0xB20006 :: 0xB20007 :: 0xB2000F :: 0xD00002 :: 0xD00006 :: 0xD00008 :: []) s (execSegRead x0 x1 x2 x3 x4 x5 s) := by
  unfold execSegRead
  refine rf_next ?_
  refine rf_step (State.sessionReq_rf _ _ _ _ _) rfl rfl ?_
  exact rf_refl

theorem execSegWrite_rf (x0 x1 x2 x3 x4 x5 x6 x7 s) :
    RF vOut [.reply, .freeCtr, .mode, .values, .octets, .force, .selects, .store, .time, .galley, .vx, .edge, .front, .mogil, .mem, .fab, .host, .parts, .pot, .sec, .res, .pins, .alarms] (0x110002 :: 0x11000E :: 0x200003 :: 0x200004 :: 0x200005 :: 0x200006 :: 0x200007 :: 0x200008 :: 0x20000A :: 0x20000D :: 0x20000E :: 0x210004 :: 0x210007 :: 0x300005 :: 0x300013 :: 0x300014 :: 0x300018 :: 0x30001A :: 0x30001C :: 0x301001 :: 0x310002 :: 0x311001 :: 0x31100C :: 0x31100D :: 0x400007 :: 0x400008 :: 0x400009 :: 0x410003 :: 0x414008 :: 0x414009 :: 0x41400D :: 0x418001 :: 0x41800A :: 0x430007 :: 0x500001 :: 0x50000E :: 0x50100F :: 0x502002 :: 0x600002 :: 0x600006 :: 0x600008 :: 0x600009 :: 0x60000A :: 0x60000B :: 0x60000E :: 0x60000F :: 0x600013 :: 0x60001D :: 0x601004 :: 0x601005 :: 0x601007 :: 0x601008 :: 0x610003 :: 0x610008 :: 0x620005 :: 0x620007 :: 0x620009 :: 0x630002 :: 0x700006 :: 0x700009 :: 0x80000E :: 0x822009 :: 0x824005 :: 0x82800A :: 0x910007 :: 0xA01006 :: 0xA40002 :: 0xA40003 :: 0xA4000D :: 0xA4000E :: 0xB0000A :: 0xB10004 :: 0xB20006 :: 0xB20007 :: 0xB2000F :: 0xD00002 :: 0xD00006 :: 0xD00008 :: []) s (execSegWrite x0 x1 x2 x3 x4 x5 x6 x7 s) := by
  unfold execSegWrite
  refine rf_next ?_
  refine rf_step (State.sessionReq_rf _ _ _ _ _) rfl rfl ?_
  exact rf_refl

theorem execSegAbort_rf (x0 x1 x2 x3 s) :
    RF vOut [.reply, .freeCtr, .mode, .values, .octets, .force, .selects, .store, .time, .galley, .vx, .edge, .front, .mogil, .mem, .fab, .host, .parts, .pot, .sec, .res, .pins, .alarms] (0x110002 :: 0x11000E :: 0x200003 :: 0x200004 :: 0x200005 :: 0x200006 :: 0x200007 :: 0x200008 :: 0x20000A :: 0x20000D :: 0x20000E :: 0x210004 :: 0x210007 :: 0x300005 :: 0x300013 :: 0x300014 :: 0x300018 :: 0x30001A :: 0x30001C :: 0x301001 :: 0x310002 :: 0x311001 :: 0x31100C :: 0x31100D :: 0x400007 :: 0x400008 :: 0x400009 :: 0x410003 :: 0x414008 :: 0x414009 :: 0x41400D :: 0x418001 :: 0x41800A :: 0x430007 :: 0x500001 :: 0x50000E :: 0x50100F :: 0x502002 :: 0x600002 :: 0x600006 :: 0x600008 :: 0x600009 :: 0x60000A :: 0x60000B :: 0x60000E :: 0x60000F :: 0x600013 :: 0x60001D :: 0x601004 :: 0x601005 :: 0x601007 :: 0x601008 :: 0x610003 :: 0x610008 :: 0x620005 :: 0x620007 :: 0x620009 :: 0x630002 :: 0x700006 :: 0x700009 :: 0x80000E :: 0x822009 :: 0x824005 :: 0x82800A :: 0x910007 :: 0xA01006 :: 0xA40002 :: 0xA40003 :: 0xA4000D :: 0xA4000E :: 0xB0000A :: 0xB10004 :: 0xB20006 :: 0xB20007 :: 0xB2000F :: 0xD00002 :: 0xD00006 :: 0xD00008 :: []) s (execSegAbort x0 x1 x2 x3 s) := by
  unfold execSegAbort
  refine rf_next ?_
  refine rf_step (State.sessionReq_rf _ _ _ _ _) rfl rfl ?_
  exact rf_refl

theorem execSegTransferTimeout_rf (x0 x1 s) :
    RF vOut [.pot] [] s (execSegTransferTimeout x0 x1 s) := by
  unfold execSegTransferTimeout
  extract_lets v0 v1
  refine rf_next ?_
  refine rf_step (State.setSegs_rf _ _ _) rfl rfl ?_
  exact rf_refl

theorem execInfoReq_rf (x0 x1 x2 x3 s) :
    RF vOut [.reply, .freeCtr, .mode, .values, .octets, .force, .selects, .store, .time, .galley, .vx, .edge, .front, .mogil, .mem, .fab, .host, .parts, .pot, .sec, .res, .pins, .alarms] (0x110002 :: 0x11000E :: 0x200003 :: 0x200004 :: 0x200005 :: 0x200006 :: 0x200007 :: 0x200008 :: 0x20000A :: 0x20000D :: 0x20000E :: 0x210004 :: 0x210007 :: 0x300005 :: 0x300013 :: 0x300014 :: 0x300018 :: 0x30001A :: 0x30001C :: 0x301001 :: 0x310002 :: 0x311001 :: 0x31100C :: 0x31100D :: 0x400007 :: 0x400008 :: 0x400009 :: 0x410003 :: 0x414008 :: 0x414009 :: 0x41400D :: 0x418001 :: 0x41800A :: 0x430007 :: 0x500001 :: 0x50000E :: 0x50100F :: 0x502002 :: 0x600002 :: 0x600006 :: 0x600008 :: 0x600009 :: 0x60000A :: 0x60000B :: 0x60000E :: 0x60000F :: 0x600013 :: 0x60001D :: 0x601004 :: 0x601005 :: 0x601007 :: 0x601008 :: 0x610003 :: 0x610008 :: 0x620005 :: 0x620007 :: 0x620009 :: 0x630002 :: 0x700006 :: 0x700009 :: 0x80000E :: 0x822009 :: 0x824005 :: 0x82800A :: 0x910007 :: 0xA01006 :: 0xA40002 :: 0xA40003 :: 0xA4000D :: 0xA4000E :: 0xB0000A :: 0xB10004 :: 0xB20006 :: 0xB20007 :: 0xB2000F :: 0xD00002 :: 0xD00006 :: 0xD00008 :: []) s (execInfoReq x0 x1 x2 x3 s) := by
  unfold execInfoReq
  refine rf_next ?_
  refine rf_step (State.sessionReq_rf _ _ _ _ _) rfl rfl ?_
  exact rf_refl

theorem execStore_rf (x0 x1 x2 s) :
    RF vOut [.reply, .freeCtr, .mode, .values, .octets, .force, .selects, .store, .time, .galley, .vx, .edge, .front, .mogil, .mem, .fab, .host, .parts, .pot, .sec, .res, .pins, .alarms] (0x110002 :: 0x11000E :: 0x200003 :: 0x200004 :: 0x200005 :: 0x200006 :: 0x200007 :: 0x200008 :: 0x20000A :: 0x20000D :: 0x20000E :: 0x210004 :: 0x210007 :: 0x300005 :: 0x300013 :: 0x300014 :: 0x300018 :: 0x30001A :: 0x30001C :: 0x301001 :: 0x310002 :: 0x311001 :: 0x31100C :: 0x31100D :: 0x400007 :: 0x400008 :: 0x400009 :: 0x410003 :: 0x414008 :: 0x414009 :: 0x41400D :: 0x418001 :: 0x41800A :: 0x430007 :: 0x500001 :: 0x50000E :: 0x50100F :: 0x502002 :: 0x600002 :: 0x600006 :: 0x600008 :: 0x600009 :: 0x60000A :: 0x60000B :: 0x60000E :: 0x60000F :: 0x600013 :: 0x60001D :: 0x601004 :: 0x601005 :: 0x601007 :: 0x601008 :: 0x610003 :: 0x610008 :: 0x620005 :: 0x620007 :: 0x620009 :: 0x630002 :: 0x700006 :: 0x700009 :: 0x80000E :: 0x822009 :: 0x824005 :: 0x82800A :: 0x910007 :: 0xA01006 :: 0xA40002 :: 0xA40003 :: 0xA4000D :: 0xA4000E :: 0xB0000A :: 0xB10004 :: 0xB20006 :: 0xB20007 :: 0xB2000F :: 0xD00002 :: 0xD00006 :: 0xD00008 :: []) s (execStore x0 x1 x2 s) := by
  unfold execStore
  refine rf_next ?_
  refine rf_step (State.sessionReq_rf _ _ _ _ _) rfl rfl ?_
  exact rf_refl

theorem execRestore_rf (x0 x1 x2 s) :
    RF vOut [.reply, .freeCtr, .mode, .values, .octets, .force, .selects, .store, .time, .galley, .vx, .edge, .front, .mogil, .mem, .fab, .host, .parts, .pot, .sec, .res, .pins, .alarms] (0x110002 :: 0x11000E :: 0x200003 :: 0x200004 :: 0x200005 :: 0x200006 :: 0x200007 :: 0x200008 :: 0x20000A :: 0x20000D :: 0x20000E :: 0x210004 :: 0x210007 :: 0x300005 :: 0x300013 :: 0x300014 :: 0x300018 :: 0x30001A :: 0x30001C :: 0x301001 :: 0x310002 :: 0x311001 :: 0x31100C :: 0x31100D :: 0x400007 :: 0x400008 :: 0x400009 :: 0x410003 :: 0x414008 :: 0x414009 :: 0x41400D :: 0x418001 :: 0x41800A :: 0x430007 :: 0x500001 :: 0x50000E :: 0x50100F :: 0x502002 :: 0x600002 :: 0x600006 :: 0x600008 :: 0x600009 :: 0x60000A :: 0x60000B :: 0x60000E :: 0x60000F :: 0x600013 :: 0x60001D :: 0x601004 :: 0x601005 :: 0x601007 :: 0x601008 :: 0x610003 :: 0x610008 :: 0x620005 :: 0x620007 :: 0x620009 :: 0x630002 :: 0x700006 :: 0x700009 :: 0x80000E :: 0x822009 :: 0x824005 :: 0x82800A :: 0x910007 :: 0xA01006 :: 0xA40002 :: 0xA40003 :: 0xA4000D :: 0xA4000E :: 0xB0000A :: 0xB10004 :: 0xB20006 :: 0xB20007 :: 0xB2000F :: 0xD00002 :: 0xD00006 :: 0xD00008 :: []) s (execRestore x0 x1 x2 s) := by
  unfold execRestore
  refine rf_next ?_
  refine rf_step (State.sessionReq_rf _ _ _ _ _) rfl rfl ?_
  exact rf_refl

theorem execHello_rf (x0 x1 x2 x3 s) :
    RF vOut [.reply, .selects, .pot, .alarms] [0x11000E] s (execHello x0 x1 x2 x3 s) := by
  unfold execHello
  extract_lets v0 v1
  refine rf_cut (W := vS) v0 ?_ (fun h2 => ?_)
  · unfold v0
    refine rf_step (State.onSession_rf _ _ _) rfl rfl ?_
    exact rf_refl
  split
  · rename_i w3 w4
    refine rf_next ?_
    refine rf_step (State.drop_rf _) rfl rfl ?_
    exact rf_refl
  · rename_i w5 w6 w7
    refine rf_ite (fun _h8 => ?_) (fun _h9 => ?_)
    · refine rf_next ?_
      refine rf_step (State.drop_rf _) rfl rfl ?_
      exact rf_refl
    · split
      · rename_i w10 w11 w12 w13 w14
        refine rf_next ?_
        clear_value v0
        refine rf_upd (b := v0) ?_ ⟨fun f hf hv => by cases f <;> first | exact absurd (by decide) hf | exact absurd rfl hv | rfl | exact ⟨rfl, rfl⟩ | exact ⟨rfl, rfl, rfl, rfl, rfl⟩, Or.inr fun _ _ => rfl⟩ (Keeps.of rfl (Nat.le_refl _) rfl)
        exact h2
      · rename_i w15 w16
        split
        · rename_i w17 w18 w19
          refine rf_next ?_
          refine rf_step (State.replied_rf _ _ _ _) rfl rfl ?_
          refine rf_step (State.onSession_rf _ _ _) rfl rfl ?_
          exact h2
        · rename_i w20 w21
          refine rf_next ?_
          refine rf_step (State.closeSession_rf _ _) rfl rfl ?_
          clear_value v0
          refine rf_upd (b := v0) ?_ ⟨fun f hf hv => by cases f <;> first | exact absurd (by decide) hf | exact absurd rfl hv | rfl | exact ⟨rfl, rfl⟩ | exact ⟨rfl, rfl, rfl, rfl, rfl⟩, Or.inr fun _ _ => rfl⟩ (Keeps.of rfl (Nat.le_refl _) rfl)
          exact h2

theorem State.copySels_rf (s x1 x2) :
    RF vS [.selects] [] s (State.copySels s x1 x2) := by
  unfold State.copySels
  extract_lets v0
  refine rf_cut (W := vS) v0 ?_ (fun h1 => ?_)
  · unfold v0
    refine rf_step (State.dropSels_rf _ _) rfl rfl ?_
    exact rf_refl
  refine rf_foldl ?_ (fun t2 x3 h4 => ?_)
  · exact h1
  · refine rf_step (State.setSel_rf _ _ _ _) rfl rfl ?_
    exact h4

theorem State.subscribe_rf (s x1 x2 x3 x4) :
    RF vS [.reply, .selects, .pot] [] s (State.subscribe s x1 x2 x3 x4) := by
  unfold State.subscribe
  refine rf_ite (fun _h0 => ?_) (fun _h1 => ?_)
  · refine rf_step (State.refuse_rf _ _) rfl rfl ?_
    exact rf_refl
  · refine rf_ite (fun _h2 => ?_) (fun _h3 => ?_)
    · refine rf_step (State.refuse_rf _ _) rfl rfl ?_
      exact rf_refl
    · refine rf_ite (fun _h4 => ?_) (fun _h5 => ?_)
      · refine rf_step (State.refuse_rf _ _) rfl rfl ?_
        exact rf_refl
      · refine rf_step (State.answer_rf _ _) rfl rfl ?_
        refine rf_step (State.onSession_rf _ _ _) rfl rfl ?_
        refine rf_step (State.copySels_rf _ _ _) rfl rfl ?_
        exact rf_refl

theorem execSubscribe_rf (x0 x1 x2 x3 x4 x5 s) :
    RF vOut [.reply, .selects, .pot] [0x11000E] s (execSubscribe x0 x1 x2 x3 x4 x5 s) := by
  unfold execSubscribe
  refine rf_next ?_
  refine State.sessionMsg_rf rfl rfl ?_ (fun k1 u0 => ?_)
  · exact rf_refl
  · refine rf_step (State.finishReq_rf _ _ _ _ _) rfl rfl ?_
    refine rf_step (State.subscribe_rf _ _ _ _ _) rfl rfl ?_
    exact rf_refl

theorem execUnsubscribe_rf (x0 x1 x2 x3 s) :
    RF vOut [.reply, .selects, .pot] [0x11000E] s (execUnsubscribe x0 x1 x2 x3 s) := by
  unfold execUnsubscribe
  refine rf_next ?_
  refine State.sessionMsg_rf rfl rfl ?_ (fun k1 u0 => ?_)
  · exact rf_refl
  · extract_lets v2
    refine rf_cut (W := vS) v2 ?_ (fun h3 => ?_)
    · unfold v2
      refine rf_ite (fun _h4 => ?_) (fun _h5 => ?_)
      · refine rf_step (State.refuse_rf _ _) rfl rfl ?_
        exact rf_refl
      · refine rf_step (State.answer_rf _ _) rfl rfl ?_
        refine rf_step (State.onSession_rf _ _ _) rfl rfl ?_
        refine rf_step (State.dropSels_rf _ _) rfl rfl ?_
        exact rf_refl
    refine rf_step (State.finishReq_rf _ _ _ _ _) rfl rfl ?_
    exact h3

theorem execTelemetry_rf (x0 x1 x2 s) :
    RF vOut [.reply, .freeCtr, .octets, .pot, .alarms] [0xB20006, 0xB20007, 0xB2000F] s (execTelemetry x0 x1 x2 s) := by
  unfold execTelemetry
  extract_lets v0
  split
  · rename_i w1 w2
    refine rf_next ?_
    exact rf_refl
  · rename_i w3 w4 w5
    extract_lets v6 v7 v8
    refine rf_cut (W := vS) v8 ?_ (fun h9 => ?_)
    · unfold v8
      unfold v0
      refine rf_step (State.onSession_rf _ _ _) rfl rfl ?_
      exact rf_refl
    refine rf_ite (fun _h10 => ?_) (fun _h11 => ?_)
    · refine rf_next ?_
      exact rf_refl
    · refine rf_ite (fun _h12 => ?_) (fun _h13 => ?_)
      · refine rf_next ?_
        clear_value v8
        refine rf_upd (b := v8) ?_ ⟨fun f hf hv => by cases f <;> first | exact absurd (by decide) hf | exact absurd rfl hv | rfl | exact ⟨rfl, rfl⟩ | exact ⟨rfl, rfl, rfl, rfl, rfl⟩, Or.inr fun _ _ => rfl⟩ (Keeps.of rfl (Nat.le_refl _) rfl)
        exact h9
      · refine rf_next ?_
        refine rf_step (State.raiseAtMost_rf _ _ _ _ _) rfl rfl ?_
        unfold v0
        refine rf_step (State.onSession_rf _ _ _) rfl rfl ?_
        exact rf_refl

theorem State.nextAlarm_rf (s x1 x2) :
    RF vS [.reply, .pot] [] s (State.nextAlarm s x1 x2) := by
  have up (y : Session) (d : List Byte) : RF vS [.reply, .pot] [] s ((s.setSession x1 y).answerData d) :=
    rf_step (State.answerData_rf _ _) rfl rfl (rf_step (State.setSession_rf _ _ _) rfl rfl rf_refl)
  unfold State.nextAlarm
  split
  · exact up _ _
  · extract_lets q rec? _
    refine rf_ite (fun _ => rf_refl) (fun _ => ?_)
    clear_value rec?
    cases x2.missing <;> cases rec? <;> dsimp only
    · exact rf_refl
    · exact up _ _
    · exact rf_ite (fun _ => rf_refl) (fun _ => up _ _)
    · exact rf_ite (fun _ => up _ _) (fun _ => up _ _)

theorem execAlarm_rf (x0 s) :
    RF vOut [.reply, .pot] [] s (execAlarm x0 s) := by
  unfold execAlarm
  split
  · rename_i w0 w1 w2
    refine rf_next ?_
    refine rf_step (State.nextAlarm_rf _ _ _) rfl rfl ?_
    exact rf_refl
  · rename_i w3 w4
    refine rf_next ?_
    exact rf_refl

theorem execAlarmResend_rf (x0 x1 s) :
    RF vOut [.reply, .pot] [] s (execAlarmResend x0 x1 s) := by
  unfold execAlarmResend
  split
  · rename_i w0 w1
    refine rf_next ?_
    exact rf_refl
  · rename_i w2 w3 w4
    extract_lets v5
    refine rf_cut (W := vS) v5 ?_ (fun h6 => ?_)
    · unfold v5
      refine rf_step (State.setSession_rf _ _ _) rfl rfl ?_
      exact rf_refl
    refine rf_ite (fun _h7 => ?_) (fun _h8 => ?_)
    · refine rf_next ?_
      exact rf_refl
    · split
      · rename_i w9 w10 w11 w12 w13
        refine rf_next ?_
        refine rf_step (State.answerData_rf _ _) rfl rfl ?_
        exact h6
      · rename_i w14 w15
        split
        · rename_i w16 w17 w18
          refine rf_next ?_
          refine rf_step (State.answerData_rf _ _) rfl rfl ?_
          exact h6
        · rename_i w19 w20
          refine rf_next ?_
          exact rf_refl

theorem execAlarmAck_rf (x0 x1 s) :
    RF vOut [.reply, .pot, .alarms] [0x11000E] s (execAlarmAck x0 x1 s) := by
  unfold execAlarmAck
  split
  · rename_i w0 w1
    refine rf_next ?_
    refine rf_step (State.drop_rf _) rfl rfl ?_
    exact rf_refl
  · rename_i w2 w3 w4
    refine rf_ite (fun _h5 => ?_) (fun _h6 => ?_)
    · refine rf_next ?_
      refine rf_step (State.refuse_rf _ _) rfl rfl ?_
      exact rf_refl
    · refine rf_ite (fun _h7 => ?_) (fun _h8 => ?_)
      · refine rf_next ?_
        exact rf_refl
      · refine rf_next ?_
        refine rf_step (State.prune_rf _) rfl rfl ?_
        refine rf_step (State.setSession_rf _ _ _) rfl rfl ?_
        exact rf_refl

theorem execSummary_rf (s) :
    RF vOut [.pot, .alarms] [] s (execSummary s) := by
  unfold execSummary
  extract_lets v0 v1 v2
  refine rf_ite (fun _h3 => ?_) (fun _h4 => ?_)
  · refine rf_next ?_
    exact rf_refl
  · refine rf_next ?_
    refine rf_upd (b := s) ?_ ⟨fun f hf hv => by cases f <;> first | exact absurd (by decide) hf | exact absurd rfl hv | rfl | exact ⟨rfl, rfl⟩ | exact ⟨rfl, rfl, rfl, rfl, rfl⟩, Or.inr fun _ _ => rfl⟩ (Keeps.of rfl (Nat.le_refl _) rfl)
    exact rf_refl

theorem State.deliverBox_rf (s x1 x2 x3 x4) :
    RF vS [.host] [] s (State.deliverBox s x1 x2 x3 x4) := by
  unfold State.deliverBox
  extract_lets v0 v1 v2
  refine rf_cut (W := vS) v1 ?_ (fun h3 => ?_)
  · unfold v1
    refine rf_step (State.setFn_rf _ _ _) rfl rfl ?_
    exact rf_refl
  split
  · rename_i w4 w5
    refine rf_ite (fun _h6 => ?_) (fun _h7 => ?_)
    · refine rf_step (State.msix_rf _ _ _) rfl rfl ?_
      exact h3
    · exact h3
  · rename_i w8
    exact h3

theorem State.finishBoxes_rf (s) :
    RF vS [.host] [] s (State.finishBoxes s) := by
  unfold State.finishBoxes
  refine rf_foldl ?_ (fun t0 x1 h2 => ?_)
  · exact rf_refl
  · split
    · rename_i w3 w4 w5 w6
      refine rf_ite (fun _h7 => ?_) (fun _h8 => ?_)
      · refine rf_step (State.deliverBox_rf _ _ _ _ _) rfl rfl ?_
        exact h2
      · exact h2
    · rename_i w9 w10
      exact h2

theorem execMailboxGo_rf (x0 x1 x2 x3 x4 s) :
    RF vOut [.reply, .freeCtr, .mode, .values, .octets, .force, .selects, .store, .time, .galley, .vx, .edge, .front, .mogil, .mem, .fab, .host, .parts, .pot, .sec, .res, .pins, .alarms] (0x110002 :: 0x110011 :: 0x200003 :: 0x200004 :: 0x200005 :: 0x200006 :: 0x200007 :: 0x200008 :: 0x20000A :: 0x20000D :: 0x20000E :: 0x210004 :: 0x210007 :: 0x300005 :: 0x300013 :: 0x300014 :: 0x300018 :: 0x30001A :: 0x30001C :: 0x301001 :: 0x310002 :: 0x311001 :: 0x31100C :: 0x31100D :: 0x400007 :: 0x400008 :: 0x400009 :: 0x410003 :: 0x414008 :: 0x414009 :: 0x41400D :: 0x418001 :: 0x41800A :: 0x430007 :: 0x500001 :: 0x50000E :: 0x50100F :: 0x502002 :: 0x600002 :: 0x600006 :: 0x600008 :: 0x600009 :: 0x60000A :: 0x60000B :: 0x60000E :: 0x60000F :: 0x600013 :: 0x60001D :: 0x601004 :: 0x601005 :: 0x601007 :: 0x601008 :: 0x610003 :: 0x610008 :: 0x620005 :: 0x620007 :: 0x620009 :: 0x630002 :: 0x700006 :: 0x700009 :: 0x80000E :: 0x822009 :: 0x824005 :: 0x82800A :: 0x910007 :: 0xA01006 :: 0xA40002 :: 0xA40003 :: 0xA4000D :: 0xA4000E :: 0xB0000A :: 0xB10004 :: 0xB20006 :: 0xB20007 :: 0xB2000F :: 0xD00002 :: 0xD00006 :: 0xD00008 :: []) s (execMailboxGo x0 x1 x2 x3 x4 s) := by
  unfold execMailboxGo
  extract_lets v0 v1 v2 v3 v4
  refine rf_cut (W := vS) v0 ?_ (fun h5 => ?_)
  · unfold v0
    refine rf_step (State.finishBoxes_rf _) rfl rfl ?_
    exact rf_refl
  refine rf_cut (W := vS) v2 ?_ (fun h6 => ?_)
  · unfold v2
    refine rf_ite (fun _h7 => ?_) (fun _h8 => ?_)
    · refine rf_step (State.refuse_rf _ _) rfl rfl ?_
      exact h5
    · refine rf_step (State.performMsg_rf _ _ _ _) rfl rfl ?_
      exact h5
  refine rf_ite (fun _h9 => ?_) (fun _h10 => ?_)
  · refine rf_next ?_
    exact rf_refl
  · refine rf_ite (fun _h11 => ?_) (fun _h12 => ?_)
    · refine rf_next ?_
      refine rf_step (State.bump_rf _ _ _) rfl rfl ?_
      exact h5
    · refine rf_ite (fun _h13 => ?_) (fun _h14 => ?_)
      · refine rf_next ?_
        refine rf_step (State.interimIf_rf _ _) rfl rfl ?_
        refine rf_step (State.setFn_rf _ _ _) rfl rfl ?_
        exact h6
      · refine rf_next ?_
        refine rf_step (State.deliverBox_rf _ _ _ _ _) rfl rfl ?_
        exact h6

theorem execStoreSealed_rf (x0 s) :
    RF vOut [.reply, .freeCtr, .values, .octets, .force, .selects, .store, .host, .pot, .alarms] [0x11000F, 0xB20006, 0xB20007, 0xB2000F] s (execStoreSealed x0 s) := by
  unfold execStoreSealed
  split
  · rename_i w0 w1
    refine rf_next ?_
    exact rf_refl
  · rename_i w2 w3 w4 w5
    split
    rename_i w6 w7 w8 w9
    refine rf_pair_snd w9 ?_ (fun h10 => ?_)
    · refine rf_step (State.seal_rf _ _) rfl rfl ?_
      exact rf_refl
    extract_lets v11
    refine rf_cut (W := vS) v11 ?_ (fun h12 => ?_)
    · unfold v11
      refine rf_upd (b := w8) ?_ ⟨fun f hf hv => by cases f <;> first | exact absurd (by decide) hf | exact absurd rfl hv | rfl | exact ⟨rfl, rfl⟩ | exact ⟨rfl, rfl, rfl, rfl, rfl⟩, Or.inr fun _ _ => rfl⟩ (Keeps.of rfl (Nat.le_refl _) rfl)
      exact h10
    split
    · rename_i w13 w14
      refine rf_next ?_
      refine rf_step (State.onSession_rf _ _ _) rfl rfl ?_
      exact h12
    · rename_i w15 w16
      split
      · rename_i w17 w18 w19 w20
        refine rf_next ?_
        refine rf_ite (fun _h21 => ?_) (fun _h22 => ?_)
        · refine rf_step (State.deliverBox_rf _ _ _ _ _) rfl rfl ?_
          exact h12
        · exact h12
      · rename_i w23 w24
        refine rf_next ?_
        exact h12
    · rename_i w25 w26 w27
      refine rf_next ?_
      exact h12

theorem execFuseWriteComplete_rf (s) :
    RF vOut [.reply, .freeCtr, .octets, .host, .pot, .sec, .alarms] [0xB20006, 0xB20007, 0xB2000F] s (execFuseWriteComplete s) := by
  unfold execFuseWriteComplete
  refine rf_next ?_
  refine rf_step (State.finishBoxes_rf _) rfl rfl ?_
  refine rf_step (State.fuseDone_rf _) rfl rfl ?_
  exact rf_refl

theorem execRegionInitDone_rf (x0 s) :
    RF vOut [.reply, .freeCtr, .mem, .fab, .host, .sec] [] s (execRegionInitDone x0 s) := by
  unfold execRegionInitDone
  extract_lets r t1 t2 t3
  have h1 : RF vS [.reply, .freeCtr, .mem, .fab, .host, .sec] [] s t1 := by
    unfold t1
    refine rf_step (State.setRegion_rf _ _ _) rfl rfl ?_
    exact rf_upd (b := s) rf_refl ⟨fun f hf hv => by cases f <;> first | exact absurd (by decide) hf | exact absurd rfl hv | rfl | exact ⟨rfl, rfl⟩ | exact ⟨rfl, rfl, rfl, rfl, rfl⟩, Or.inr fun _ _ => rfl⟩ (Keeps.ofMem (fun w => Memory.wf_zero _ _ _ w) rfl rfl)
  have h2 : RF vS [.reply, .freeCtr, .mem, .fab, .host, .sec] [] s t2 := by
    unfold t2
    exact rf_step (State.unpoison_rf _ _ _) rfl rfl (rf_step (State.unpoison_rf _ _ _) rfl rfl h1)
  have h3 : RF vS [.reply, .freeCtr, .mem, .fab, .host, .sec] [] s t3 := by
    unfold t3
    exact rf_ite (fun _ => rf_step (State.startRekey_rf _ _) rfl rfl h2) (fun _ => h2)
  refine rf_ite (fun _ => rf_next ?_) (fun _ => rf_next rf_refl)
  exact rf_step (State.finishBoxes_rf _) rfl rfl (rf_step (State.answer_rf _ _) rfl rfl h3)

theorem execClientHello_rf (x0 x1 s) :
    RF vOut [.pot] [0x11000E] s (execClientHello x0 x1 s) := by
  unfold execClientHello
  extract_lets v0 v1
  refine rf_ite (fun _h2 => ?_) (fun _h3 => ?_)
  · refine rf_next ?_
    refine rf_step (State.drop_rf _) rfl rfl ?_
    exact rf_refl
  · refine rf_ite (fun _h4 => ?_) (fun _h5 => ?_)
    · refine rf_next ?_
      refine rf_upd (b := s) ?_ ⟨fun f hf hv => by cases f <;> first | exact absurd (by decide) hf | exact absurd rfl hv | rfl | exact ⟨rfl, rfl⟩ | exact ⟨rfl, rfl, rfl, rfl, rfl⟩, Or.inr fun _ _ => rfl⟩ (Keeps.of rfl (Nat.le_refl _) rfl)
      exact rf_refl
    · refine rf_ite (fun _h6 => ?_) (fun _h7 => ?_)
      · refine rf_next ?_
        refine rf_step (State.drop_rf _) rfl rfl ?_
        exact rf_refl
      · refine rf_next ?_
        refine rf_upd (b := s) ?_ ⟨fun f hf hv => by cases f <;> first | exact absurd (by decide) hf | exact absurd rfl hv | rfl | exact ⟨rfl, rfl⟩ | exact ⟨rfl, rfl, rfl, rfl, rfl⟩, Or.inr fun _ _ => rfl⟩ (Keeps.of rfl (Nat.le_refl _) rfl)
        exact rf_refl

theorem execHandshakeComplete_rf (x0 x1 x2 x3 s) :
    RF vOut [.freeCtr, .octets, .pot, .alarms] [0x11000D, 0x11000E, 0xB20006, 0xB20007, 0xB2000F] s (execHandshakeComplete x0 x1 x2 x3 s) := by
  unfold execHandshakeComplete
  extract_lets v0 v1
  refine rf_cut (W := vS) v1 ?_ (fun h2 => ?_)
  · unfold v1
    refine rf_upd (b := s) ?_ ⟨fun f hf hv => by cases f <;> first | exact absurd (by decide) hf | exact absurd rfl hv | rfl | exact ⟨rfl, rfl⟩ | exact ⟨rfl, rfl, rfl, rfl, rfl⟩, Or.inr fun _ _ => rfl⟩ (Keeps.of rfl (Nat.le_refl _) rfl)
    exact rf_refl
  refine rf_ite (fun _h3 => ?_) (fun _h4 => ?_)
  · refine rf_next ?_
    refine rf_step (State.drop_rf _) rfl rfl ?_
    exact rf_refl
  · refine rf_ite (fun _h5 => ?_) (fun _h6 => ?_)
    · refine rf_next ?_
      exact rf_refl
    · refine rf_ite (fun _h7 => ?_) (fun _h8 => ?_)
      · refine rf_next ?_
        refine rf_step (State.raise_rf _ _ _ _ _) rfl rfl ?_
        refine rf_step (State.drop_rf _) rfl rfl ?_
        exact h2
      · split
        · rename_i w9 w10
          refine rf_next ?_
          refine rf_step (State.raiseAtMost_rf _ _ _ _ _) rfl rfl ?_
          refine rf_step (State.bump_rf _ _ _) rfl rfl ?_
          exact h2
        · rename_i w11 w12 w13
          extract_lets v14 v15
          refine rf_next ?_
          refine rf_step (State.setSession_rf _ _ _) rfl rfl ?_
          exact h2

theorem execSessionIdleTimeout_rf (x0 s) :
    RF vOut [.selects, .pot, .alarms] [] s (execSessionIdleTimeout x0 s) := by
  unfold execSessionIdleTimeout
  split
  · rename_i w0 w1 w2
    refine rf_next ?_
    refine rf_ite (fun _h3 => ?_) (fun _h4 => ?_)
    · refine rf_step (State.closeSession_rf _ _) rfl rfl ?_
      exact rf_refl
    · exact rf_refl
  · rename_i w5 w6
    refine rf_next ?_
    exact rf_refl

theorem execSmbPointerWrite_rf (x0 s) :
    RF vOut [.pot] [] s (execSmbPointerWrite x0 s) := by
  unfold execSmbPointerWrite
  extract_lets v0
  refine rf_ite (fun _h1 => ?_) (fun _h2 => ?_)
  · refine rf_next ?_
    exact rf_refl
  · refine rf_next ?_
    refine rf_upd (b := s) ?_ ⟨fun f hf hv => by cases f <;> first | exact absurd (by decide) hf | exact absurd rfl hv | rfl | exact ⟨rfl, rfl⟩ | exact ⟨rfl, rfl, rfl, rfl, rfl⟩, Or.inr fun _ _ => rfl⟩ (Keeps.of rfl (Nat.le_refl _) rfl)
    exact rf_refl

theorem execSmbValueRead_rf (s) :
    RF vOut [.reply] [] s (execSmbValueRead s) := by
  unfold execSmbValueRead
  refine rf_ite (fun _h0 => ?_) (fun _h1 => ?_)
  · refine rf_next ?_
    exact rf_refl
  · split
    · rename_i w2 w3 w4 w5
      refine rf_next ?_
      refine rf_step (State.answerData_rf _ _) rfl rfl ?_
      exact rf_refl
    · rename_i w6 w7 w8
      refine rf_next ?_
      refine rf_step (State.answerData_rf _ _) rfl rfl ?_
      exact rf_refl

theorem execSmbStatusRead_rf (s) :
    RF vOut [.reply] [] s (execSmbStatusRead s) := by
  unfold execSmbStatusRead
  refine rf_ite (fun _h0 => ?_) (fun _h1 => ?_)
  · refine rf_next ?_
    exact rf_refl
  · refine rf_next ?_
    refine rf_step (State.answerData_rf _ _) rfl rfl ?_
    exact rf_refl

theorem execSmbTimeout_rf (s) :
    RF vOut [.pot] [] s (execSmbTimeout s) := by
  unfold execSmbTimeout
  extract_lets v0
  refine rf_next ?_
  refine rf_upd (b := s) ?_ ⟨fun f hf hv => by cases f <;> first | exact absurd (by decide) hf | exact absurd rfl hv | rfl | exact ⟨rfl, rfl⟩ | exact ⟨rfl, rfl, rfl, rfl, rfl⟩, Or.inr fun _ _ => rfl⟩ (Keeps.of rfl (Nat.le_refl _) rfl)
  exact rf_refl

theorem execRoleEntry_rf (x0 x1 s) :
    RF vOut [.reply, .freeCtr, .mode, .values, .octets, .force, .selects, .time, .galley, .vx, .edge, .front, .mogil, .mem, .fab, .host, .parts, .pot, .sec, .res, .pins, .alarms] (0x110002 :: 0x200003 :: 0x200004 :: 0x200005 :: 0x200006 :: 0x200007 :: 0x200008 :: 0x20000A :: 0x20000D :: 0x20000E :: 0x210004 :: 0x210007 :: 0x300005 :: 0x300013 :: 0x300014 :: 0x300018 :: 0x30001A :: 0x30001C :: 0x301001 :: 0x310002 :: 0x311001 :: 0x31100C :: 0x31100D :: 0x400007 :: 0x400008 :: 0x400009 :: 0x410003 :: 0x414008 :: 0x414009 :: 0x41400D :: 0x418001 :: 0x41800A :: 0x430007 :: 0x500001 :: 0x50000E :: 0x50100F :: 0x502002 :: 0x600002 :: 0x600006 :: 0x600008 :: 0x600009 :: 0x60000A :: 0x60000B :: 0x60000E :: 0x60000F :: 0x600013 :: 0x60001D :: 0x601004 :: 0x601005 :: 0x601007 :: 0x601008 :: 0x610003 :: 0x610008 :: 0x620005 :: 0x620007 :: 0x620009 :: 0x630002 :: 0x700006 :: 0x700009 :: 0x80000E :: 0x822009 :: 0x824005 :: 0x82800A :: 0x910007 :: 0xA01006 :: 0xA40002 :: 0xA40003 :: 0xA4000D :: 0xA4000E :: 0xB0000A :: 0xB10004 :: 0xB20006 :: 0xB20007 :: 0xB2000F :: 0xD00002 :: 0xD00006 :: 0xD00008 :: []) s (execRoleEntry x0 x1 s) := by
  unfold execRoleEntry
  refine rf_next ?_
  refine rf_step (State.writeOne_rf _ _ _ _ _) rfl rfl ?_
  exact rf_refl

theorem execW1cWrite_rf (x0 x1 x2 x3 s) :
    RF vOut [.reply, .freeCtr, .mode, .values, .octets, .force, .selects, .time, .galley, .vx, .edge, .front, .mogil, .mem, .fab, .host, .parts, .pot, .sec, .res, .pins, .alarms] (0x110002 :: 0x200003 :: 0x200004 :: 0x200005 :: 0x200006 :: 0x200007 :: 0x200008 :: 0x20000A :: 0x20000D :: 0x20000E :: 0x210004 :: 0x210007 :: 0x300005 :: 0x300013 :: 0x300014 :: 0x300018 :: 0x30001A :: 0x30001C :: 0x301001 :: 0x310002 :: 0x311001 :: 0x31100C :: 0x31100D :: 0x400007 :: 0x400008 :: 0x400009 :: 0x410003 :: 0x414008 :: 0x414009 :: 0x41400D :: 0x418001 :: 0x41800A :: 0x430007 :: 0x500001 :: 0x50000E :: 0x50100F :: 0x502002 :: 0x600002 :: 0x600006 :: 0x600008 :: 0x600009 :: 0x60000A :: 0x60000B :: 0x60000E :: 0x60000F :: 0x600013 :: 0x60001D :: 0x601004 :: 0x601005 :: 0x601007 :: 0x601008 :: 0x610003 :: 0x610008 :: 0x620005 :: 0x620007 :: 0x620009 :: 0x630002 :: 0x700006 :: 0x700009 :: 0x80000E :: 0x822009 :: 0x824005 :: 0x82800A :: 0x910007 :: 0xA01006 :: 0xA40002 :: 0xA40003 :: 0xA4000D :: 0xA4000E :: 0xB0000A :: 0xB10004 :: 0xB20006 :: 0xB20007 :: 0xB2000F :: 0xD00002 :: 0xD00006 :: 0xD00008 :: []) s (execW1cWrite x0 x1 x2 x3 s) := by
  unfold execW1cWrite
  split
  · rename_i w0 w1 w2
    refine rf_next ?_
    refine rf_ite (fun _h3 => ?_) (fun _h4 => ?_)
    · refine rf_step (State.writeOne_rf _ _ _ _ _) rfl rfl ?_
      exact rf_refl
    · exact rf_refl
  · rename_i w5 w6 w7
    refine rf_next ?_
    exact rf_refl

theorem execMpEnable_rf (x0 x1 s) :
    RF vOut [.reply, .force, .pot] [0x110002] s (execMpEnable x0 x1 s) := by
  unfold execMpEnable
  refine rf_next ?_
  refine State.actSel_rf rfl ?_ (fun k1 u0 => ?_)
  · exact rf_refl
  · refine rf_ok ?_
    refine rf_step (writeMpEnable_rf _ _ _) rfl rfl ?_
    exact rf_refl

end Sys2Proof.Machine
end

