-- ==== Sys2Proof/Laws/FramesStep.lean ====
section
/-!
SUPPORT. What each operation of Machine/Step.lean may change, one lemma each.
-/

namespace Sys2Proof.Machine

set_option Elab.async false

open Sys2Proof

theorem State.withFetchWord_rf (s x1 x2) :
    RF vS [.pending] [] s (State.withFetchWord s x1 x2) := by
  unfold State.withFetchWord
  split
  · rename_i w0 w1 w2
    refine rf_upd (b := s) ?_ ⟨fun f hf hv => by cases f <;> first | exact absurd (by decide) hf | exact absurd rfl hv | rfl | exact ⟨rfl, rfl⟩ | exact ⟨rfl, rfl, rfl, rfl, rfl⟩, Or.inr fun _ _ => rfl⟩ (Keeps.of rfl (Nat.le_refl _) rfl)
    exact rf_refl
  · rename_i w3 w4
    exact rf_refl

end Sys2Proof.Machine
end

