-- ==== Sys2Proof/Laws/FramesVxArith.lean ====
section
/-!
SUPPORT. What each operation of Machine/VxArith.lean may change, one lemma each.
-/

namespace Sys2Proof.Machine

set_option Elab.async false

open Sys2Proof

theorem execVadd_rf (x0 s) :
    RF vOut [.freeCtr, .vx] [0x700010] s (execVadd x0 s) := by
  unfold execVadd
  refine rf_next ?_
  refine rf_step (State.vrun_rf _ _ _ _) rfl rfl ?_
  exact rf_refl

theorem execVsub_rf (x0 s) :
    RF vOut [.freeCtr, .vx] [0x700010] s (execVsub x0 s) := by
  unfold execVsub
  refine rf_next ?_
  refine rf_step (State.vrun_rf _ _ _ _) rfl rfl ?_
  exact rf_refl

theorem execVadds_rf (x0 s) :
    RF vOut [.freeCtr, .vx] [0x700010] s (execVadds x0 s) := by
  unfold execVadds
  refine rf_next ?_
  refine rf_step (State.vrun_rf _ _ _ _) rfl rfl ?_
  exact rf_refl

theorem execVsubs_rf (x0 s) :
    RF vOut [.freeCtr, .vx] [0x700010] s (execVsubs x0 s) := by
  unfold execVsubs
  refine rf_next ?_
  refine rf_step (State.vrun_rf _ _ _ _) rfl rfl ?_
  exact rf_refl

theorem execVmul_rf (x0 s) :
    RF vOut [.freeCtr, .vx] [0x700010] s (execVmul x0 s) := by
  unfold execVmul
  refine rf_next ?_
  refine rf_step (State.vrun_rf _ _ _ _) rfl rfl ?_
  exact rf_refl

theorem execVmulh_rf (x0 s) :
    RF vOut [.freeCtr, .vx] [0x700010] s (execVmulh x0 s) := by
  unfold execVmulh
  refine rf_next ?_
  refine rf_step (State.vrun_rf _ _ _ _) rfl rfl ?_
  exact rf_refl

theorem execVmacc_rf (x0 s) :
    RF vOut [.freeCtr, .vx] [0x700010] s (execVmacc x0 s) := by
  unfold execVmacc
  refine rf_next ?_
  refine rf_step (State.vrun_rf _ _ _ _) rfl rfl ?_
  exact rf_refl

theorem execVnmsac_rf (x0 s) :
    RF vOut [.freeCtr, .vx] [0x700010] s (execVnmsac x0 s) := by
  unfold execVnmsac
  refine rf_next ?_
  refine rf_step (State.vrun_rf _ _ _ _) rfl rfl ?_
  exact rf_refl

theorem execVdiv_rf (x0 s) :
    RF vOut [.freeCtr, .vx] [0x700010] s (execVdiv x0 s) := by
  unfold execVdiv
  refine rf_next ?_
  refine rf_step (State.vrun_rf _ _ _ _) rfl rfl ?_
  exact rf_refl

theorem execVdivs_rf (x0 s) :
    RF vOut [.freeCtr, .vx] [0x700010] s (execVdivs x0 s) := by
  unfold execVdivs
  refine rf_next ?_
  refine rf_step (State.vrun_rf _ _ _ _) rfl rfl ?_
  exact rf_refl

theorem execVrem_rf (x0 s) :
    RF vOut [.freeCtr, .vx] [0x700010] s (execVrem x0 s) := by
  unfold execVrem
  refine rf_next ?_
  refine rf_step (State.vrun_rf _ _ _ _) rfl rfl ?_
  exact rf_refl

theorem execVand_rf (x0 s) :
    RF vOut [.freeCtr, .vx] [0x700010] s (execVand x0 s) := by
  unfold execVand
  refine rf_next ?_
  refine rf_step (State.vrun_rf _ _ _ _) rfl rfl ?_
  exact rf_refl

theorem execVor_rf (x0 s) :
    RF vOut [.freeCtr, .vx] [0x700010] s (execVor x0 s) := by
  unfold execVor
  refine rf_next ?_
  refine rf_step (State.vrun_rf _ _ _ _) rfl rfl ?_
  exact rf_refl

theorem execVxor_rf (x0 s) :
    RF vOut [.freeCtr, .vx] [0x700010] s (execVxor x0 s) := by
  unfold execVxor
  refine rf_next ?_
  refine rf_step (State.vrun_rf _ _ _ _) rfl rfl ?_
  exact rf_refl

theorem execVsll_rf (x0 s) :
    RF vOut [.freeCtr, .vx] [0x700010] s (execVsll x0 s) := by
  unfold execVsll
  refine rf_next ?_
  refine rf_step (State.vrun_rf _ _ _ _) rfl rfl ?_
  exact rf_refl

theorem execVsra_rf (x0 s) :
    RF vOut [.freeCtr, .vx] [0x700010] s (execVsra x0 s) := by
  unfold execVsra
  refine rf_next ?_
  refine rf_step (State.vrun_rf _ _ _ _) rfl rfl ?_
  exact rf_refl

theorem execVsrl_rf (x0 s) :
    RF vOut [.freeCtr, .vx] [0x700010] s (execVsrl x0 s) := by
  unfold execVsrl
  refine rf_next ?_
  refine rf_step (State.vrun_rf _ _ _ _) rfl rfl ?_
  exact rf_refl

theorem execVmin_rf (x0 s) :
    RF vOut [.freeCtr, .vx] [0x700010] s (execVmin x0 s) := by
  unfold execVmin
  refine rf_next ?_
  refine rf_step (State.vrun_rf _ _ _ _) rfl rfl ?_
  exact rf_refl

theorem execVmax_rf (x0 s) :
    RF vOut [.freeCtr, .vx] [0x700010] s (execVmax x0 s) := by
  unfold execVmax
  refine rf_next ?_
  refine rf_step (State.vrun_rf _ _ _ _) rfl rfl ?_
  exact rf_refl

theorem execVaddX_rf (x0 s) :
    RF vOut [.freeCtr, .vx] [0x700010] s (execVaddX x0 s) := by
  unfold execVaddX
  refine rf_next ?_
  refine rf_step (State.vrun_rf _ _ _ _) rfl rfl ?_
  exact rf_refl

theorem execVsubX_rf (x0 s) :
    RF vOut [.freeCtr, .vx] [0x700010] s (execVsubX x0 s) := by
  unfold execVsubX
  refine rf_next ?_
  refine rf_step (State.vrun_rf _ _ _ _) rfl rfl ?_
  exact rf_refl

theorem execVrsubX_rf (x0 s) :
    RF vOut [.freeCtr, .vx] [0x700010] s (execVrsubX x0 s) := by
  unfold execVrsubX
  refine rf_next ?_
  refine rf_step (State.vrun_rf _ _ _ _) rfl rfl ?_
  exact rf_refl

theorem execVmulX_rf (x0 s) :
    RF vOut [.freeCtr, .vx] [0x700010] s (execVmulX x0 s) := by
  unfold execVmulX
  refine rf_next ?_
  refine rf_step (State.vrun_rf _ _ _ _) rfl rfl ?_
  exact rf_refl

theorem execVmaccX_rf (x0 s) :
    RF vOut [.freeCtr, .vx] [0x700010] s (execVmaccX x0 s) := by
  unfold execVmaccX
  refine rf_next ?_
  refine rf_step (State.vrun_rf _ _ _ _) rfl rfl ?_
  exact rf_refl

theorem execVsllX_rf (x0 s) :
    RF vOut [.freeCtr, .vx] [0x700010] s (execVsllX x0 s) := by
  unfold execVsllX
  refine rf_next ?_
  refine rf_step (State.vrun_rf _ _ _ _) rfl rfl ?_
  exact rf_refl

theorem execVsraX_rf (x0 s) :
    RF vOut [.freeCtr, .vx] [0x700010] s (execVsraX x0 s) := by
  unfold execVsraX
  refine rf_next ?_
  refine rf_step (State.vrun_rf _ _ _ _) rfl rfl ?_
  exact rf_refl

theorem execVsrlX_rf (x0 s) :
    RF vOut [.freeCtr, .vx] [0x700010] s (execVsrlX x0 s) := by
  unfold execVsrlX
  refine rf_next ?_
  refine rf_step (State.vrun_rf _ _ _ _) rfl rfl ?_
  exact rf_refl

theorem execVsllI_rf (x0 s) :
    RF vOut [.freeCtr, .vx] [0x700010] s (execVsllI x0 s) := by
  unfold execVsllI
  refine rf_next ?_
  refine rf_step (State.vrun_rf _ _ _ _) rfl rfl ?_
  exact rf_refl

theorem execVsraI_rf (x0 s) :
    RF vOut [.freeCtr, .vx] [0x700010] s (execVsraI x0 s) := by
  unfold execVsraI
  refine rf_next ?_
  refine rf_step (State.vrun_rf _ _ _ _) rfl rfl ?_
  exact rf_refl

theorem execVsrlI_rf (x0 s) :
    RF vOut [.freeCtr, .vx] [0x700010] s (execVsrlI x0 s) := by
  unfold execVsrlI
  refine rf_next ?_
  refine rf_step (State.vrun_rf _ _ _ _) rfl rfl ?_
  exact rf_refl

theorem execVaddI_rf (x0 s) :
    RF vOut [.freeCtr, .vx] [0x700010] s (execVaddI x0 s) := by
  unfold execVaddI
  refine rf_next ?_
  refine rf_step (State.vrun_rf _ _ _ _) rfl rfl ?_
  exact rf_refl

theorem execVneg_rf (x0 s) :
    RF vOut [.freeCtr, .vx] [0x700010] s (execVneg x0 s) := by
  unfold execVneg
  refine rf_next ?_
  refine rf_step (State.vrun_rf _ _ _ _) rfl rfl ?_
  exact rf_refl

theorem execVnegs_rf (x0 s) :
    RF vOut [.freeCtr, .vx] [0x700010] s (execVnegs x0 s) := by
  unfold execVnegs
  refine rf_next ?_
  refine rf_step (State.vrun_rf _ _ _ _) rfl rfl ?_
  exact rf_refl

theorem execVabs_rf (x0 s) :
    RF vOut [.freeCtr, .vx] [0x700010] s (execVabs x0 s) := by
  unfold execVabs
  refine rf_next ?_
  refine rf_step (State.vrun_rf _ _ _ _) rfl rfl ?_
  exact rf_refl

theorem execVabss_rf (x0 s) :
    RF vOut [.freeCtr, .vx] [0x700010] s (execVabss x0 s) := by
  unfold execVabss
  refine rf_next ?_
  refine rf_step (State.vrun_rf _ _ _ _) rfl rfl ?_
  exact rf_refl

theorem execVnot_rf (x0 s) :
    RF vOut [.freeCtr, .vx] [0x700010] s (execVnot x0 s) := by
  unfold execVnot
  refine rf_next ?_
  refine rf_step (State.vrun_rf _ _ _ _) rfl rfl ?_
  exact rf_refl

theorem execVclz_rf (x0 s) :
    RF vOut [.freeCtr, .vx] [0x700010] s (execVclz x0 s) := by
  unfold execVclz
  refine rf_next ?_
  refine rf_step (State.vrun_rf _ _ _ _) rfl rfl ?_
  exact rf_refl

theorem execVcpop_rf (x0 s) :
    RF vOut [.freeCtr, .vx] [0x700010] s (execVcpop x0 s) := by
  unfold execVcpop
  refine rf_next ?_
  refine rf_step (State.vrun_rf _ _ _ _) rfl rfl ?_
  exact rf_refl

theorem execVconj_rf (x0 s) :
    RF vOut [.freeCtr, .vx] [0x700010] s (execVconj x0 s) := by
  unfold execVconj
  refine rf_next ?_
  refine rf_step (State.vrun_rf _ _ _ _) rfl rfl ?_
  exact rf_refl

theorem execVconjs_rf (x0 s) :
    RF vOut [.freeCtr, .vx] [0x700010] s (execVconjs x0 s) := by
  unfold execVconjs
  refine rf_next ?_
  refine rf_step (State.vrun_rf _ _ _ _) rfl rfl ?_
  exact rf_refl

theorem execVmulhr_rf (x0 x1 s) :
    RF vOut [.freeCtr, .vx] [0x700010] s (execVmulhr x0 x1 s) := by
  unfold execVmulhr
  refine rf_next ?_
  refine rf_step (State.vrun_rf _ _ _ _) rfl rfl ?_
  exact rf_refl

theorem execVcmulr_rf (x0 x1 s) :
    RF vOut [.freeCtr, .vx] [0x700010] s (execVcmulr x0 x1 s) := by
  unfold execVcmulr
  refine rf_next ?_
  refine rf_step (State.vrun_rf _ _ _ _) rfl rfl ?_
  exact rf_refl

theorem execVcmacr_rf (x0 x1 s) :
    RF vOut [.freeCtr, .vx] [0x700010] s (execVcmacr x0 x1 s) := by
  unfold execVcmacr
  refine rf_next ?_
  refine rf_step (State.vrun_rf _ _ _ _) rfl rfl ?_
  exact rf_refl

theorem execVcmulcr_rf (x0 x1 s) :
    RF vOut [.freeCtr, .vx] [0x700010] s (execVcmulcr x0 x1 s) := by
  unfold execVcmulcr
  refine rf_next ?_
  refine rf_step (State.vrun_rf _ _ _ _) rfl rfl ?_
  exact rf_refl

theorem execVsrarI_rf (x0 x1 s) :
    RF vOut [.freeCtr, .vx] [0x700010] s (execVsrarI x0 x1 s) := by
  unfold execVsrarI
  refine rf_next ?_
  refine rf_step (State.vrun_rf _ _ _ _) rfl rfl ?_
  exact rf_refl

theorem execVsrarV_rf (x0 x1 s) :
    RF vOut [.freeCtr, .vx] [0x700010] s (execVsrarV x0 x1 s) := by
  unfold execVsrarV
  refine rf_next ?_
  refine rf_step (State.vrun_rf _ _ _ _) rfl rfl ?_
  exact rf_refl

theorem execVnclipI_rf (x0 x1 s) :
    RF vOut [.freeCtr, .vx] [0x700010] s (execVnclipI x0 x1 s) := by
  unfold execVnclipI
  refine rf_next ?_
  refine rf_step (State.vrun_rf _ _ _ _) rfl rfl ?_
  exact rf_refl

theorem execVfadd_rf (x0 s) :
    RF vOut [.freeCtr, .vx] [0x700010] s (execVfadd x0 s) := by
  unfold execVfadd
  refine rf_next ?_
  refine rf_step (State.vrun_rf _ _ _ _) rfl rfl ?_
  exact rf_refl

theorem execVfsub_rf (x0 s) :
    RF vOut [.freeCtr, .vx] [0x700010] s (execVfsub x0 s) := by
  unfold execVfsub
  refine rf_next ?_
  refine rf_step (State.vrun_rf _ _ _ _) rfl rfl ?_
  exact rf_refl

theorem execVfmul_rf (x0 s) :
    RF vOut [.freeCtr, .vx] [0x700010] s (execVfmul x0 s) := by
  unfold execVfmul
  refine rf_next ?_
  refine rf_step (State.vrun_rf _ _ _ _) rfl rfl ?_
  exact rf_refl

theorem execVfdiv_rf (x0 s) :
    RF vOut [.freeCtr, .vx] [0x700010] s (execVfdiv x0 s) := by
  unfold execVfdiv
  refine rf_next ?_
  refine rf_step (State.vrun_rf _ _ _ _) rfl rfl ?_
  exact rf_refl

theorem execVfma_rf (x0 s) :
    RF vOut [.freeCtr, .vx] [0x700010] s (execVfma x0 s) := by
  unfold execVfma
  refine rf_next ?_
  refine rf_step (State.vrun_rf _ _ _ _) rfl rfl ?_
  exact rf_refl

theorem execVfnms_rf (x0 s) :
    RF vOut [.freeCtr, .vx] [0x700010] s (execVfnms x0 s) := by
  unfold execVfnms
  refine rf_next ?_
  refine rf_step (State.vrun_rf _ _ _ _) rfl rfl ?_
  exact rf_refl

theorem execVfmin_rf (x0 s) :
    RF vOut [.freeCtr, .vx] [0x700010] s (execVfmin x0 s) := by
  unfold execVfmin
  refine rf_next ?_
  refine rf_step (State.vrun_rf _ _ _ _) rfl rfl ?_
  exact rf_refl

theorem execVfmax_rf (x0 s) :
    RF vOut [.freeCtr, .vx] [0x700010] s (execVfmax x0 s) := by
  unfold execVfmax
  refine rf_next ?_
  refine rf_step (State.vrun_rf _ _ _ _) rfl rfl ?_
  exact rf_refl

theorem execVfcmul_rf (x0 s) :
    RF vOut [.freeCtr, .vx] [0x700010] s (execVfcmul x0 s) := by
  unfold execVfcmul
  refine rf_next ?_
  refine rf_step (State.vrun_rf _ _ _ _) rfl rfl ?_
  exact rf_refl

theorem execVfcmac_rf (x0 s) :
    RF vOut [.freeCtr, .vx] [0x700010] s (execVfcmac x0 s) := by
  unfold execVfcmac
  refine rf_next ?_
  refine rf_step (State.vrun_rf _ _ _ _) rfl rfl ?_
  exact rf_refl

theorem execVfcvtFX_rf (x0 s) :
    RF vOut [.freeCtr, .vx] [0x700010] s (execVfcvtFX x0 s) := by
  unfold execVfcvtFX
  refine rf_next ?_
  refine rf_step (State.vrun_rf _ _ _ _) rfl rfl ?_
  exact rf_refl

theorem execVfcvtXF_rf (x0 s) :
    RF vOut [.freeCtr, .vx] [0x700010] s (execVfcvtXF x0 s) := by
  unfold execVfcvtXF
  refine rf_next ?_
  refine rf_step (State.vrun_rf _ _ _ _) rfl rfl ?_
  exact rf_refl

theorem execVfcvtXFRtz_rf (x0 s) :
    RF vOut [.freeCtr, .vx] [0x700010] s (execVfcvtXFRtz x0 s) := by
  unfold execVfcvtXFRtz
  refine rf_next ?_
  refine rf_step (State.vrun_rf _ _ _ _) rfl rfl ?_
  exact rf_refl

theorem execVfneg_rf (x0 s) :
    RF vOut [.freeCtr, .vx] [0x700010] s (execVfneg x0 s) := by
  unfold execVfneg
  refine rf_next ?_
  refine rf_step (State.vrun_rf _ _ _ _) rfl rfl ?_
  exact rf_refl

theorem execVfabs_rf (x0 s) :
    RF vOut [.freeCtr, .vx] [0x700010] s (execVfabs x0 s) := by
  unfold execVfabs
  refine rf_next ?_
  refine rf_step (State.vrun_rf _ _ _ _) rfl rfl ?_
  exact rf_refl

theorem execVbfexp_rf (x0 s) :
    RF vOut [.freeCtr, .vx] [0x700010] s (execVbfexp x0 s) := by
  unfold execVbfexp
  refine rf_next ?_
  refine rf_step (State.vrun_rf _ _ _ _) rfl rfl ?_
  exact rf_refl

theorem execVbfnorm_rf (x0 x1 s) :
    RF vOut [.freeCtr, .vx] [0x700010] s (execVbfnorm x0 x1 s) := by
  unfold execVbfnorm
  refine rf_next ?_
  refine rf_step (State.vrun_rf _ _ _ _) rfl rfl ?_
  exact rf_refl

theorem execVbfden_rf (x0 s) :
    RF vOut [.freeCtr, .vx] [0x700010] s (execVbfden x0 s) := by
  unfold execVbfden
  refine rf_next ?_
  refine rf_step (State.vrun_rf _ _ _ _) rfl rfl ?_
  exact rf_refl

end Sys2Proof.Machine
end

