-- ==== Sys2Proof/Laws/FramesVxCp.lean ====
section
/-!
SUPPORT. What each operation of Machine/VxCp.lean may change, one lemma each.
-/

namespace Sys2Proof.Machine

set_option Elab.async false

open Sys2Proof

theorem State.cpStall_rf (s x1 x2) :
    RF vS [.freeCtr, .vx] [0x710004] s (State.cpStall s x1 x2) := by
  unfold State.cpStall
  extract_lets v0
  refine rf_cut (W := vS) v0 ?_ (fun h1 => ?_)
  · unfold v0
    refine rf_step (State.setCore_rf _ _ _) rfl rfl ?_
    exact rf_refl
  refine rf_ite (fun _h2 => ?_) (fun _h3 => ?_)
  · refine rf_step (State.bumpBy_rf _ _ _ _) rfl rfl ?_
    refine rf_upd (b := v0) ?_ ⟨fun f hf hv => by cases f <;> first | exact absurd (by decide) hf | exact absurd rfl hv | rfl | exact ⟨rfl, rfl⟩ | exact ⟨rfl, rfl, rfl, rfl, rfl⟩, Or.inr fun _ _ => rfl⟩ (Keeps.of rfl (Nat.le_add_right _ _) rfl)
    exact h1
  · exact rf_refl

theorem State.cpRun_rf {F : List Fld} {O : List Nat} {s b : State}
    (hF : within? [.freeCtr, .vx] F = true)
    (hO : within? [0x700010, 0x710002, 0x710003, 0x710004] O = true) {v n : Nat}
    {word : BitVec 64} {ok : Core → Bool} {f : State → State}
    (h0 : RF vS F O s b) (h : ∀ u, RF vS F O u (f u)) : RF vS F O s (b.cpRun v n word ok f) := by
  have up {F' O' x y} (hx : RF vS F O s x) (hy : RF vS F' O' x y)
      (a : within? F' [.freeCtr, .vx] = true)
      (c : within? O' [0x700010, 0x710002, 0x710003, 0x710004] = true) : RF vS F O s y :=
    hx.then ((hy.mono a c).mono hF hO)
  have go (b : State) : RF vS F O b (
      let c := b.core v
      if decide (n < 3) && !c.cpEnabled n then b.trapCore v c false 2 word
      else if 3 ≤ n ∨ ok c = false then b.illegal v word.toNat
      else if c.firstUse n then
        (b.trapCore v c false 24 (BitVec.ofNat 64 n)).bump (if n = 0 then OD.firstUseCp0 else OD.firstUseCp1)
      else f (b.cpStall v n)) := by
    have h0 : RF vS F O b b := rf_refl
    have up {F' O' x y} (hx : RF vS F O b x) (hy : RF vS F' O' x y)
        (a : within? F' [.freeCtr, .vx] = true)
        (c : within? O' [0x700010, 0x710002, 0x710003, 0x710004] = true) : RF vS F O b y :=
      hx.then ((hy.mono a c).mono hF hO)
    extract_lets c
    refine rf_ite (fun _ => up h0 (State.trapCore_rf _ _ _ _ _ _) rfl rfl) (fun _ => ?_)
    refine rf_ite (fun _ => up h0 (State.illegal_rf _ _ _) rfl rfl) (fun _ => ?_)
    refine rf_ite (fun _ => ?_) (fun _ => rf_trans (up h0 (State.cpStall_rf _ _ _) rfl rfl) (h _))
    have ht := up h0 (State.trapCore_rf _ v c false 24 (BitVec.ofNat 64 n)) rfl rfl
    split
    · exact up ht (State.bump_rf _ _ _) rfl rfl
    · exact up ht (State.bump_rf _ _ _) rfl rfl
  have fe {x : State} (hx : RF vS F O s x) (a : within? [.vx] F = true)
      (c : within? [0x700010] O = true) {g : State → State} (hg : ∀ u, RF vS F O u (g u)) :
      RF vS F O s (x.fetched v 4 g) := State.fetched_rf a c hx hg
  unfold State.cpRun
  exact fe h0 (within_trans hF rfl) (within_trans hO rfl) go

theorem State.onCore_rf (s x1 x2) :
    RF vS [.vx] [] s (State.onCore s x1 x2) := by
  unfold State.onCore
  refine rf_step (State.setCore_rf _ _ _) rfl rfl ?_
  exact rf_refl

theorem execVcpMvto_rf (x0 x1 x2 x3 x4 s) :
    RF vOut [.freeCtr, .vx] [0x700010, 0x710002, 0x710003, 0x710004] s (execVcpMvto x0 x1 x2 x3 x4 s) := by
  unfold execVcpMvto
  refine rf_next ?_
  refine State.cpRun_rf rfl rfl ?_ (fun u0 => ?_)
  · exact rf_refl
  · refine rf_step (State.onCore_rf _ _ _) rfl rfl ?_
    exact rf_refl

theorem execVcpMvfrom_rf (x0 x1 x2 x3 x4 s) :
    RF vOut [.freeCtr, .vx] [0x700010, 0x710002, 0x710003, 0x710004] s (execVcpMvfrom x0 x1 x2 x3 x4 s) := by
  unfold execVcpMvfrom
  refine rf_next ?_
  refine State.cpRun_rf rfl rfl ?_ (fun u0 => ?_)
  · exact rf_refl
  · refine rf_step (State.onCore_rf _ _ _) rfl rfl ?_
    exact rf_refl

theorem execVcpClear_rf (x0 x1 x2 x3 x4 s) :
    RF vOut [.freeCtr, .vx] [0x700010, 0x710002, 0x710003, 0x710004] s (execVcpClear x0 x1 x2 x3 x4 s) := by
  unfold execVcpClear
  refine rf_next ?_
  refine State.cpRun_rf rfl rfl ?_ (fun u0 => ?_)
  · exact rf_refl
  · refine rf_step (State.onCore_rf _ _ _) rfl rfl ?_
    exact rf_refl

theorem State.cpOp_rf (s x1 x2 x3 x4 x5 x6 x7) :
    RF vS [.freeCtr, .vx] [0x700010, 0x710002, 0x710003, 0x710004] s (State.cpOp s x1 x2 x3 x4 x5 x6 x7) := by
  unfold State.cpOp
  refine State.cpRun_rf rfl rfl ?_ (fun u0 => ?_)
  · exact rf_refl
  · refine rf_step (State.onCore_rf _ _ _) rfl rfl ?_
    exact rf_refl

theorem execCp0Ginit_rf (x0 x1 x2 s) :
    RF vOut [.freeCtr, .vx] [0x700010, 0x710002, 0x710003, 0x710004] s (execCp0Ginit x0 x1 x2 s) := by
  unfold execCp0Ginit
  refine rf_next ?_
  refine rf_step (State.cpOp_rf _ _ _ _ _ _ _ _) rfl rfl ?_
  exact rf_refl

theorem execCp0Gold_rf (x0 x1 x2 s) :
    RF vOut [.freeCtr, .vx] [0x700010, 0x710002, 0x710003, 0x710004] s (execCp0Gold x0 x1 x2 s) := by
  unfold execCp0Gold
  refine rf_next ?_
  refine rf_step (State.cpOp_rf _ _ _ _ _ _ _ _) rfl rfl ?_
  exact rf_refl

theorem execCp0Gskip_rf (x0 x1 x2 s) :
    RF vOut [.freeCtr, .vx] [0x700010, 0x710002, 0x710003, 0x710004] s (execCp0Gskip x0 x1 x2 s) := by
  unfold execCp0Gskip
  refine rf_next ?_
  refine rf_step (State.cpOp_rf _ _ _ _ _ _ _ _) rfl rfl ?_
  exact rf_refl

theorem execCp0Zc_rf (x0 x1 x2 s) :
    RF vOut [.freeCtr, .vx] [0x700010, 0x710002, 0x710003, 0x710004] s (execCp0Zc x0 x1 x2 s) := by
  unfold execCp0Zc
  refine rf_next ?_
  refine State.cpRun_rf rfl rfl ?_ (fun u0 => ?_)
  · exact rf_refl
  · extract_lets v1
    split
    rename_i w2 w3 w4 w5
    refine rf_pair_snd w5 ?_ (fun h6 => ?_)
    · refine rf_step (State.draw_rf _) rfl rfl ?_
      exact rf_refl
    extract_lets v7
    refine rf_step (State.onCore_rf _ _ _) rfl rfl ?_
    exact h6

theorem execCp1Crcsel_rf (x0 x1 x2 s) :
    RF vOut [.freeCtr, .vx] [0x700010, 0x710002, 0x710003, 0x710004] s (execCp1Crcsel x0 x1 x2 s) := by
  unfold execCp1Crcsel
  refine rf_next ?_
  refine rf_step (State.cpOp_rf _ _ _ _ _ _ _ _) rfl rfl ?_
  exact rf_refl

theorem execCp1Crc_rf (x0 x1 x2 s) :
    RF vOut [.freeCtr, .vx] [0x700010, 0x710002, 0x710003, 0x710004] s (execCp1Crc x0 x1 x2 s) := by
  unfold execCp1Crc
  refine rf_next ?_
  refine State.cpRun_rf rfl rfl ?_ (fun u0 => ?_)
  · exact rf_refl
  · extract_lets v1 v2
    split
    rename_i w3 w4 w5 w6
    refine rf_pair_snd w6 ?_ (fun h7 => ?_)
    · refine rf_step (State.draw_rf _) rfl rfl ?_
      exact rf_refl
    extract_lets v8
    refine rf_step (State.onCore_rf _ _ _) rfl rfl ?_
    exact h7

theorem execCp1Crcget_rf (x0 x1 x2 s) :
    RF vOut [.freeCtr, .vx] [0x700010, 0x710002, 0x710003, 0x710004] s (execCp1Crcget x0 x1 x2 s) := by
  unfold execCp1Crcget
  refine rf_next ?_
  refine rf_step (State.cpOp_rf _ _ _ _ _ _ _ _) rfl rfl ?_
  exact rf_refl

theorem execCp1Trellis_rf (x0 x1 x2 s) :
    RF vOut [.freeCtr, .vx] [0x700010, 0x710002, 0x710003, 0x710004] s (execCp1Trellis x0 x1 x2 s) := by
  unfold execCp1Trellis
  refine rf_next ?_
  refine rf_step (State.cpOp_rf _ _ _ _ _ _ _ _) rfl rfl ?_
  exact rf_refl

theorem State.cp2Run_rf (s x1 x2 x3 x4) :
    RF vS [.freeCtr, .vx] [0x700010, 0x710002, 0x710003, 0x710004] s (State.cp2Run s x1 x2 x3 x4) := by
  unfold State.cp2Run
  refine rf_step (State.cpOp_rf _ _ _ _ _ _ _ _) rfl rfl ?_
  exact rf_refl

theorem execCp2Rcp_rf (x0 x1 x2 s) :
    RF vOut [.freeCtr, .vx] [0x700010, 0x710002, 0x710003, 0x710004] s (execCp2Rcp x0 x1 x2 s) := by
  unfold execCp2Rcp
  refine rf_next ?_
  refine rf_step (State.cp2Run_rf _ _ _ _ _) rfl rfl ?_
  exact rf_refl

theorem execCp2Rsqrt_rf (x0 x1 x2 s) :
    RF vOut [.freeCtr, .vx] [0x700010, 0x710002, 0x710003, 0x710004] s (execCp2Rsqrt x0 x1 x2 s) := by
  unfold execCp2Rsqrt
  refine rf_next ?_
  refine rf_step (State.cp2Run_rf _ _ _ _ _) rfl rfl ?_
  exact rf_refl

theorem execCp2Log2_rf (x0 x1 x2 s) :
    RF vOut [.freeCtr, .vx] [0x700010, 0x710002, 0x710003, 0x710004] s (execCp2Log2 x0 x1 x2 s) := by
  unfold execCp2Log2
  refine rf_next ?_
  refine rf_step (State.cp2Run_rf _ _ _ _ _) rfl rfl ?_
  exact rf_refl

theorem execCp2Exp2_rf (x0 x1 x2 s) :
    RF vOut [.freeCtr, .vx] [0x700010, 0x710002, 0x710003, 0x710004] s (execCp2Exp2 x0 x1 x2 s) := by
  unfold execCp2Exp2
  refine rf_next ?_
  refine rf_step (State.cp2Run_rf _ _ _ _ _) rfl rfl ?_
  exact rf_refl

theorem execCp2Sin_rf (x0 x1 x2 s) :
    RF vOut [.freeCtr, .vx] [0x700010, 0x710002, 0x710003, 0x710004] s (execCp2Sin x0 x1 x2 s) := by
  unfold execCp2Sin
  refine rf_next ?_
  refine rf_step (State.cp2Run_rf _ _ _ _ _) rfl rfl ?_
  exact rf_refl

theorem execCp2Cos_rf (x0 x1 x2 s) :
    RF vOut [.freeCtr, .vx] [0x700010, 0x710002, 0x710003, 0x710004] s (execCp2Cos x0 x1 x2 s) := by
  unfold execCp2Cos
  refine rf_next ?_
  refine rf_step (State.cp2Run_rf _ _ _ _ _) rfl rfl ?_
  exact rf_refl

theorem execCp2Atan2_rf (x0 x1 x2 s) :
    RF vOut [.freeCtr, .vx] [0x700010, 0x710002, 0x710003, 0x710004] s (execCp2Atan2 x0 x1 x2 s) := by
  unfold execCp2Atan2
  refine rf_next ?_
  refine rf_step (State.cp2Run_rf _ _ _ _ _) rfl rfl ?_
  exact rf_refl

end Sys2Proof.Machine
end

