-- ==== Sys2Proof/Laws/FramesVxPerm.lean ====
section
/-!
SUPPORT. What each operation of Machine/VxPerm.lean may change, one lemma each.
-/

namespace Sys2Proof.Machine

set_option Elab.async false

open Sys2Proof

theorem execVcmp_rf (x0 s) :
    RF vOut [.freeCtr, .vx] [0x700010] s (execVcmp x0 s) := by
  unfold execVcmp
  refine rf_next ?_
  refine rf_step (State.vrun_rf _ _ _ _) rfl rfl ?_
  exact rf_refl

theorem execVcmpu_rf (x0 s) :
    RF vOut [.freeCtr, .vx] [0x700010] s (execVcmpu x0 s) := by
  unfold execVcmpu
  refine rf_next ?_
  refine rf_step (State.vrun_rf _ _ _ _) rfl rfl ?_
  exact rf_refl

theorem execVfcmp_rf (x0 s) :
    RF vOut [.freeCtr, .vx] [0x700010] s (execVfcmp x0 s) := by
  unfold execVfcmp
  refine rf_next ?_
  refine rf_step (State.vrun_rf _ _ _ _) rfl rfl ?_
  exact rf_refl

theorem execVsel_rf (x0 s) :
    RF vOut [.freeCtr, .vx] [0x700010] s (execVsel x0 s) := by
  unfold execVsel
  refine rf_next ?_
  refine rf_step (State.vrun_rf _ _ _ _) rfl rfl ?_
  exact rf_refl

theorem execVperm_rf (x0 s) :
    RF vOut [.freeCtr, .vx] [0x700010] s (execVperm x0 s) := by
  unfold execVperm
  refine rf_next ?_
  refine rf_step (State.vrun_rf _ _ _ _) rfl rfl ?_
  exact rf_refl

theorem execVslidednI_rf (x0 s) :
    RF vOut [.freeCtr, .vx] [0x700010] s (execVslidednI x0 s) := by
  unfold execVslidednI
  refine rf_next ?_
  refine rf_step (State.vrun_rf _ _ _ _) rfl rfl ?_
  exact rf_refl

theorem execVslideupI_rf (x0 s) :
    RF vOut [.freeCtr, .vx] [0x700010] s (execVslideupI x0 s) := by
  unfold execVslideupI
  refine rf_next ?_
  refine rf_step (State.vrun_rf _ _ _ _) rfl rfl ?_
  exact rf_refl

theorem execVredsum_rf (x0 s) :
    RF vOut [.freeCtr, .vx] [0x700010] s (execVredsum x0 s) := by
  unfold execVredsum
  refine rf_next ?_
  refine rf_step (State.vrun_rf _ _ _ _) rfl rfl ?_
  exact rf_refl

theorem execVredsums_rf (x0 s) :
    RF vOut [.freeCtr, .vx] [0x700010] s (execVredsums x0 s) := by
  unfold execVredsums
  refine rf_next ?_
  refine rf_step (State.vrun_rf _ _ _ _) rfl rfl ?_
  exact rf_refl

theorem execVredmax_rf (x0 s) :
    RF vOut [.freeCtr, .vx] [0x700010] s (execVredmax x0 s) := by
  unfold execVredmax
  refine rf_next ?_
  refine rf_step (State.vrun_rf _ _ _ _) rfl rfl ?_
  exact rf_refl

theorem execVredmin_rf (x0 s) :
    RF vOut [.freeCtr, .vx] [0x700010] s (execVredmin x0 s) := by
  unfold execVredmin
  refine rf_next ?_
  refine rf_step (State.vrun_rf _ _ _ _) rfl rfl ?_
  exact rf_refl

theorem execVredcsums_rf (x0 s) :
    RF vOut [.freeCtr, .vx] [0x700010] s (execVredcsums x0 s) := by
  unfold execVredcsums
  refine rf_next ?_
  refine rf_step (State.vrun_rf _ _ _ _) rfl rfl ?_
  exact rf_refl

theorem execVfredsum_rf (x0 s) :
    RF vOut [.freeCtr, .vx] [0x700010] s (execVfredsum x0 s) := by
  unfold execVfredsum
  refine rf_next ?_
  refine rf_step (State.vrun_rf _ _ _ _) rfl rfl ?_
  exact rf_refl

theorem execVfredmax_rf (x0 s) :
    RF vOut [.freeCtr, .vx] [0x700010] s (execVfredmax x0 s) := by
  unfold execVfredmax
  refine rf_next ?_
  refine rf_step (State.vrun_rf _ _ _ _) rfl rfl ?_
  exact rf_refl

theorem execVfredmin_rf (x0 s) :
    RF vOut [.freeCtr, .vx] [0x700010] s (execVfredmin x0 s) := by
  unfold execVfredmin
  refine rf_next ?_
  refine rf_step (State.vrun_rf _ _ _ _) rfl rfl ?_
  exact rf_refl

theorem execVsetvli_rf (x0 x1 x2 x3 s) :
    RF vOut [.freeCtr, .vx] [0x700010] s (execVsetvli x0 x1 x2 x3 s) := by
  unfold execVsetvli
  refine rf_next ?_
  refine rf_step (State.vrun_rf _ _ _ _) rfl rfl ?_
  exact rf_refl

theorem execVsetvl_rf (x0 x1 x2 x3 s) :
    RF vOut [.freeCtr, .vx] [0x700010] s (execVsetvl x0 x1 x2 x3 s) := by
  unfold execVsetvl
  refine rf_next ?_
  refine rf_step (State.vrun_rf _ _ _ _) rfl rfl ?_
  exact rf_refl

theorem execVmvVX_rf (x0 x1 x2 s) :
    RF vOut [.freeCtr, .vx] [0x700010] s (execVmvVX x0 x1 x2 s) := by
  unfold execVmvVX
  refine rf_next ?_
  refine rf_step (State.vrun_rf _ _ _ _) rfl rfl ?_
  exact rf_refl

theorem execVmvXV_rf (x0 x1 x2 x3 s) :
    RF vOut [.freeCtr, .vx] [0x700010] s (execVmvXV x0 x1 x2 x3 s) := by
  unfold execVmvXV
  refine rf_next ?_
  refine rf_step (State.vrun_rf _ _ _ _) rfl rfl ?_
  exact rf_refl

theorem execVmvVV_rf (x0 x1 x2 s) :
    RF vOut [.freeCtr, .vx] [0x700010] s (execVmvVV x0 x1 x2 s) := by
  unfold execVmvVV
  refine rf_next ?_
  refine rf_step (State.vrun_rf _ _ _ _) rfl rfl ?_
  exact rf_refl

theorem execVpand_rf (x0 x1 x2 x3 s) :
    RF vOut [.freeCtr, .vx] [0x700010] s (execVpand x0 x1 x2 x3 s) := by
  unfold execVpand
  refine rf_next ?_
  refine rf_step (State.vrun_rf _ _ _ _) rfl rfl ?_
  exact rf_refl

theorem execVpor_rf (x0 x1 x2 x3 s) :
    RF vOut [.freeCtr, .vx] [0x700010] s (execVpor x0 x1 x2 x3 s) := by
  unfold execVpor
  refine rf_next ?_
  refine rf_step (State.vrun_rf _ _ _ _) rfl rfl ?_
  exact rf_refl

theorem execVpxor_rf (x0 x1 x2 x3 s) :
    RF vOut [.freeCtr, .vx] [0x700010] s (execVpxor x0 x1 x2 x3 s) := by
  unfold execVpxor
  refine rf_next ?_
  refine rf_step (State.vrun_rf _ _ _ _) rfl rfl ?_
  exact rf_refl

theorem execVpandn_rf (x0 x1 x2 x3 s) :
    RF vOut [.freeCtr, .vx] [0x700010] s (execVpandn x0 x1 x2 x3 s) := by
  unfold execVpandn
  refine rf_next ?_
  refine rf_step (State.vrun_rf _ _ _ _) rfl rfl ?_
  exact rf_refl

theorem execVpcnt_rf (x0 x1 x2 s) :
    RF vOut [.freeCtr, .vx] [0x700010] s (execVpcnt x0 x1 x2 s) := by
  unfold execVpcnt
  refine rf_next ?_
  refine rf_step (State.vrun_rf _ _ _ _) rfl rfl ?_
  exact rf_refl

theorem execVpfirst_rf (x0 x1 x2 s) :
    RF vOut [.freeCtr, .vx] [0x700010] s (execVpfirst x0 x1 x2 s) := by
  unfold execVpfirst
  refine rf_next ?_
  refine rf_step (State.vrun_rf _ _ _ _) rfl rfl ?_
  exact rf_refl

theorem execVpvl_rf (x0 x1 x2 s) :
    RF vOut [.freeCtr, .vx] [0x700010] s (execVpvl x0 x1 x2 s) := by
  unfold execVpvl
  refine rf_next ?_
  refine rf_step (State.vrun_rf _ _ _ _) rfl rfl ?_
  exact rf_refl

end Sys2Proof.Machine
end

