-- ==== Sys2Proof/Laws/FramesVxWord.lean ====
section
/-!
SUPPORT. What each operation of Machine/VxWord.lean may change, one lemma each.
-/

namespace Sys2Proof.Machine

set_option Elab.async false

open Sys2Proof

theorem illegalWord_rf (x0 x1 s) :
    RF vOut [.freeCtr, .vx] [0x700010] s (illegalWord x0 x1 s) := by
  unfold illegalWord
  refine rf_next ?_
  refine rf_step (State.vrun_rf _ _ _ _) rfl rfl ?_
  exact rf_refl

theorem runUnary_rf (x0 x1 s) :
    RF vOut [.freeCtr, .vx] [0x700010] s (runUnary x0 x1 s) := by
  unfold runUnary
  extract_lets v0
  split
  · rename_i w1 w2
    refine rf_step (execVneg_rf _ _) rfl rfl ?_
    exact rf_refl
  · rename_i w3 w4
    refine rf_step (execVnegs_rf _ _) rfl rfl ?_
    exact rf_refl
  · rename_i w5 w6
    refine rf_step (execVabs_rf _ _) rfl rfl ?_
    exact rf_refl
  · rename_i w7 w8
    refine rf_step (execVabss_rf _ _) rfl rfl ?_
    exact rf_refl
  · rename_i w9 w10
    refine rf_step (execVnot_rf _ _) rfl rfl ?_
    exact rf_refl
  · rename_i w11 w12
    refine rf_step (execVclz_rf _ _) rfl rfl ?_
    exact rf_refl
  · rename_i w13 w14
    refine rf_step (execVcpop_rf _ _) rfl rfl ?_
    exact rf_refl
  · rename_i w15 w16
    refine rf_step (execVconj_rf _ _) rfl rfl ?_
    exact rf_refl
  · rename_i w17 w18
    refine rf_step (execVconjs_rf _ _) rfl rfl ?_
    exact rf_refl
  · rename_i w19 w20 w21 w22 w23 w24 w25 w26 w27 w28
    refine rf_step (illegalWord_rf _ _ _) rfl rfl ?_
    exact rf_refl

theorem runFunary_rf (x0 x1 s) :
    RF vOut [.freeCtr, .vx] [0x700010] s (runFunary x0 x1 s) := by
  unfold runFunary
  extract_lets v0
  split
  · rename_i w1 w2
    refine rf_step (execVfcvtFX_rf _ _) rfl rfl ?_
    exact rf_refl
  · rename_i w3 w4
    refine rf_step (execVfcvtXF_rf _ _) rfl rfl ?_
    exact rf_refl
  · rename_i w5 w6
    refine rf_step (execVfcvtXFRtz_rf _ _) rfl rfl ?_
    exact rf_refl
  · rename_i w7 w8
    refine rf_step (execVfneg_rf _ _) rfl rfl ?_
    exact rf_refl
  · rename_i w9 w10
    refine rf_step (execVfabs_rf _ _) rfl rfl ?_
    exact rf_refl
  · rename_i w11 w12 w13 w14 w15 w16
    refine rf_step (illegalWord_rf _ _ _) rfl rfl ?_
    exact rf_refl

theorem runRed_rf (x0 x1 s) :
    RF vOut [.freeCtr, .vx] [0x700010] s (runRed x0 x1 s) := by
  unfold runRed
  extract_lets v0
  split
  · rename_i w1 w2
    refine rf_step (execVredsum_rf _ _) rfl rfl ?_
    exact rf_refl
  · rename_i w3 w4
    refine rf_step (execVredsums_rf _ _) rfl rfl ?_
    exact rf_refl
  · rename_i w5 w6
    refine rf_step (execVredmax_rf _ _) rfl rfl ?_
    exact rf_refl
  · rename_i w7 w8
    refine rf_step (execVredmin_rf _ _) rfl rfl ?_
    exact rf_refl
  · rename_i w9 w10
    refine rf_step (execVredcsums_rf _ _) rfl rfl ?_
    exact rf_refl
  · rename_i w11 w12
    refine rf_step (execVfredsum_rf _ _) rfl rfl ?_
    exact rf_refl
  · rename_i w13 w14
    refine rf_step (execVfredmax_rf _ _) rfl rfl ?_
    exact rf_refl
  · rename_i w15 w16
    refine rf_step (execVfredmin_rf _ _) rfl rfl ?_
    exact rf_refl
  · rename_i w17 w18 w19 w20 w21 w22 w23 w24 w25
    refine rf_step (illegalWord_rf _ _ _) rfl rfl ?_
    exact rf_refl

theorem runVV_rf (x0 x1 s) :
    RF vOut [.freeCtr, .vx] [0x700010] s (runVV x0 x1 s) := by
  unfold runVV
  extract_lets v0 v1 v2
  split
  · rename_i w3 w4
    refine rf_step (execVadd_rf _ _) rfl rfl ?_
    exact rf_refl
  · rename_i w5 w6
    refine rf_step (execVsub_rf _ _) rfl rfl ?_
    exact rf_refl
  · rename_i w7 w8
    refine rf_step (execVadds_rf _ _) rfl rfl ?_
    exact rf_refl
  · rename_i w9 w10
    refine rf_step (execVsubs_rf _ _) rfl rfl ?_
    exact rf_refl
  · rename_i w11 w12
    refine rf_step (execVmul_rf _ _) rfl rfl ?_
    exact rf_refl
  · rename_i w13 w14
    refine rf_step (execVmulh_rf _ _) rfl rfl ?_
    exact rf_refl
  · rename_i w15 w16
    refine rf_step (execVmacc_rf _ _) rfl rfl ?_
    exact rf_refl
  · rename_i w17 w18
    refine rf_step (execVnmsac_rf _ _) rfl rfl ?_
    exact rf_refl
  · rename_i w19 w20
    refine rf_step (execVdiv_rf _ _) rfl rfl ?_
    exact rf_refl
  · rename_i w21 w22
    refine rf_step (execVdivs_rf _ _) rfl rfl ?_
    exact rf_refl
  · rename_i w23 w24
    refine rf_step (execVrem_rf _ _) rfl rfl ?_
    exact rf_refl
  · rename_i w25 w26
    refine rf_step (execVand_rf _ _) rfl rfl ?_
    exact rf_refl
  · rename_i w27 w28
    refine rf_step (execVor_rf _ _) rfl rfl ?_
    exact rf_refl
  · rename_i w29 w30
    refine rf_step (execVxor_rf _ _) rfl rfl ?_
    exact rf_refl
  · rename_i w31 w32
    refine rf_step (execVsll_rf _ _) rfl rfl ?_
    exact rf_refl
  · rename_i w33 w34
    refine rf_step (execVsra_rf _ _) rfl rfl ?_
    exact rf_refl
  · rename_i w35 w36
    refine rf_step (execVmulhr_rf _ _ _) rfl rfl ?_
    exact rf_refl
  · rename_i w37 w38
    refine rf_step (execVmulhr_rf _ _ _) rfl rfl ?_
    exact rf_refl
  · rename_i w39 w40
    refine rf_step (execVmulhr_rf _ _ _) rfl rfl ?_
    exact rf_refl
  · rename_i w41 w42
    refine rf_step (execVcmulr_rf _ _ _) rfl rfl ?_
    exact rf_refl
  · rename_i w43 w44
    refine rf_step (execVcmulr_rf _ _ _) rfl rfl ?_
    exact rf_refl
  · rename_i w45 w46
    refine rf_step (execVcmulr_rf _ _ _) rfl rfl ?_
    exact rf_refl
  · rename_i w47 w48
    refine rf_step (execVcmacr_rf _ _ _) rfl rfl ?_
    exact rf_refl
  · rename_i w49 w50
    refine rf_step (execVcmacr_rf _ _ _) rfl rfl ?_
    exact rf_refl
  · rename_i w51 w52
    refine rf_step (execVcmacr_rf _ _ _) rfl rfl ?_
    exact rf_refl
  · rename_i w53 w54
    refine rf_step (execVcmulcr_rf _ _ _) rfl rfl ?_
    exact rf_refl
  · rename_i w55 w56
    refine rf_step (execVcmulcr_rf _ _ _) rfl rfl ?_
    exact rf_refl
  · rename_i w57 w58
    refine rf_step (execVcmulcr_rf _ _ _) rfl rfl ?_
    exact rf_refl
  · rename_i w59 w60
    refine rf_step (execVfadd_rf _ _) rfl rfl ?_
    exact rf_refl
  · rename_i w61 w62
    refine rf_step (execVfsub_rf _ _) rfl rfl ?_
    exact rf_refl
  · rename_i w63 w64
    refine rf_step (execVfmul_rf _ _) rfl rfl ?_
    exact rf_refl
  · rename_i w65 w66
    refine rf_step (execVfdiv_rf _ _) rfl rfl ?_
    exact rf_refl
  · rename_i w67 w68
    refine rf_step (execVfma_rf _ _) rfl rfl ?_
    exact rf_refl
  · rename_i w69 w70
    refine rf_step (execVfnms_rf _ _) rfl rfl ?_
    exact rf_refl
  · rename_i w71 w72
    refine rf_step (execVfmin_rf _ _) rfl rfl ?_
    exact rf_refl
  · rename_i w73 w74
    refine rf_step (execVfmax_rf _ _) rfl rfl ?_
    exact rf_refl
  · rename_i w75 w76
    refine rf_step (execVfcmul_rf _ _) rfl rfl ?_
    exact rf_refl
  · rename_i w77 w78
    refine rf_step (execVfcmac_rf _ _) rfl rfl ?_
    exact rf_refl
  · rename_i w79 w80
    refine rf_step (runFunary_rf _ _ _) rfl rfl ?_
    exact rf_refl
  · rename_i w81 w82
    refine rf_step (execVsrl_rf _ _) rfl rfl ?_
    exact rf_refl
  · rename_i w83 w84
    refine rf_step (execVmin_rf _ _) rfl rfl ?_
    exact rf_refl
  · rename_i w85 w86
    refine rf_step (execVmax_rf _ _) rfl rfl ?_
    exact rf_refl
  · rename_i w87 w88
    refine rf_step (runUnary_rf _ _ _) rfl rfl ?_
    exact rf_refl
  · rename_i w89 w90
    refine rf_step (execVcmp_rf _ _) rfl rfl ?_
    exact rf_refl
  · rename_i w91 w92
    refine rf_step (execVcmpu_rf _ _) rfl rfl ?_
    exact rf_refl
  · rename_i w93 w94
    refine rf_step (execVfcmp_rf _ _) rfl rfl ?_
    exact rf_refl
  · rename_i w95 w96
    refine rf_step (execVsel_rf _ _) rfl rfl ?_
    exact rf_refl
  · rename_i w97 w98
    refine rf_step (execVperm_rf _ _) rfl rfl ?_
    exact rf_refl
  · rename_i w99 w100
    refine rf_step (runRed_rf _ _ _) rfl rfl ?_
    exact rf_refl
  · rename_i w101 w102 w103 w104 w105 w106 w107 w108 w109 w110 w111 w112 w113 w114 w115 w116 w117 w118 w119 w120 w121 w122 w123 w124 w125 w126 w127 w128 w129 w130 w131 w132 w133 w134 w135 w136 w137 w138 w139 w140 w141 w142 w143 w144 w145 w146 w147 w148 w149 w150
    refine rf_step (illegalWord_rf _ _ _) rfl rfl ?_
    exact rf_refl

theorem runScalarForms_rf (x0 x1 s) :
    RF vOut [.freeCtr, .vx] [0x700010] s (runScalarForms x0 x1 s) := by
  unfold runScalarForms
  extract_lets v0 v1 v2
  split
  · rename_i w3 w4
    refine rf_step (execVaddX_rf _ _) rfl rfl ?_
    exact rf_refl
  · rename_i w5 w6
    refine rf_step (execVsubX_rf _ _) rfl rfl ?_
    exact rf_refl
  · rename_i w7 w8
    refine rf_step (execVrsubX_rf _ _) rfl rfl ?_
    exact rf_refl
  · rename_i w9 w10
    refine rf_step (execVmulX_rf _ _) rfl rfl ?_
    exact rf_refl
  · rename_i w11 w12
    refine rf_step (execVmaccX_rf _ _) rfl rfl ?_
    exact rf_refl
  · rename_i w13 w14
    refine rf_step (execVsllX_rf _ _) rfl rfl ?_
    exact rf_refl
  · rename_i w15 w16
    refine rf_step (execVsraX_rf _ _) rfl rfl ?_
    exact rf_refl
  · rename_i w17 w18
    refine rf_step (execVsrlX_rf _ _) rfl rfl ?_
    exact rf_refl
  · rename_i w19 w20
    refine rf_step (execVsllI_rf _ _) rfl rfl ?_
    exact rf_refl
  · rename_i w21 w22
    refine rf_step (execVsraI_rf _ _) rfl rfl ?_
    exact rf_refl
  · rename_i w23 w24
    refine rf_step (execVsrlI_rf _ _) rfl rfl ?_
    exact rf_refl
  · rename_i w25 w26
    refine rf_step (execVslidednI_rf _ _) rfl rfl ?_
    exact rf_refl
  · rename_i w27 w28
    refine rf_step (execVslideupI_rf _ _) rfl rfl ?_
    exact rf_refl
  · rename_i w29 w30
    refine rf_step (execVaddI_rf _ _) rfl rfl ?_
    exact rf_refl
  · rename_i w31 w32
    refine rf_step (execVbfden_rf _ _) rfl rfl ?_
    exact rf_refl
  · rename_i w33 w34
    refine rf_step (execVbfexp_rf _ _) rfl rfl ?_
    exact rf_refl
  · rename_i w35 w36 w37 w38 w39 w40 w41 w42 w43 w44 w45 w46 w47 w48 w49 w50 w51
    refine rf_ite (fun _h52 => ?_) (fun _h53 => ?_)
    · refine rf_step (execVsrarI_rf _ _ _) rfl rfl ?_
      exact rf_refl
    · refine rf_ite (fun _h54 => ?_) (fun _h55 => ?_)
      · refine rf_step (execVnclipI_rf _ _ _) rfl rfl ?_
        exact rf_refl
      · refine rf_ite (fun _h56 => ?_) (fun _h57 => ?_)
        · refine rf_step (execVbfnorm_rf _ _ _) rfl rfl ?_
          exact rf_refl
        · refine rf_step (execVsrarV_rf _ _ _) rfl rfl ?_
          exact rf_refl

theorem runMem_rf (x0 x1 s) :
    RF vOut [.freeCtr, .mode, .octets, .time, .galley, .vx, .mogil, .mem, .fab, .pot, .sec, .res, .alarms] [0x200004, 0x200005, 0x200006, 0x700010, 0x900001, 0x903007, 0x91000B, 0x91000E, 0x91000F, 0xA4000C, 0xB10004, 0xB20006, 0xB20007, 0xB2000F] s (runMem x0 x1 s) := by
  unfold runMem
  extract_lets v0 v1 v2 v3
  split
  · rename_i w4 w5
    refine rf_ite (fun _h6 => ?_) (fun _h7 => ?_)
    · refine rf_step (illegalWord_rf _ _ _) rfl rfl ?_
      exact rf_refl
    · refine rf_ite (fun _h8 => ?_) (fun _h9 => ?_)
      · refine rf_ite (fun _h10 => ?_) (fun _h11 => ?_)
        · refine rf_step (execVse_rf _ _) rfl rfl ?_
          exact rf_refl
        · refine rf_step (execVsseg_rf _ _) rfl rfl ?_
          exact rf_refl
      · refine rf_ite (fun _h12 => ?_) (fun _h13 => ?_)
        · refine rf_ite (fun _h14 => ?_) (fun _h15 => ?_)
          · refine rf_step (execVleff_rf _ _) rfl rfl ?_
            exact rf_refl
          · refine rf_step (execVlsegff_rf _ _) rfl rfl ?_
            exact rf_refl
        · refine rf_ite (fun _h16 => ?_) (fun _h17 => ?_)
          · refine rf_step (execVle_rf _ _) rfl rfl ?_
            exact rf_refl
          · refine rf_step (execVlseg_rf _ _) rfl rfl ?_
            exact rf_refl
  · rename_i w18 w19
    refine rf_ite (fun _h20 => ?_) (fun _h21 => ?_)
    · refine rf_step (execVsse_rf _ _) rfl rfl ?_
      exact rf_refl
    · refine rf_step (execVlse_rf _ _) rfl rfl ?_
      exact rf_refl
  · rename_i w22 w23
    refine rf_ite (fun _h24 => ?_) (fun _h25 => ?_)
    · refine rf_step (execVsxe_rf _ _) rfl rfl ?_
      exact rf_refl
    · refine rf_step (execVlxe_rf _ _) rfl rfl ?_
      exact rf_refl
  · rename_i w26 w27
    refine rf_step (illegalWord_rf _ _ _) rfl rfl ?_
    exact rf_refl
  · rename_i w28 w29
    refine rf_step (illegalWord_rf _ _ _) rfl rfl ?_
    exact rf_refl
  · rename_i w30 w31 w32 w33 w34 w35
    extract_lets v36
    refine rf_ite (fun _h37 => ?_) (fun _h38 => ?_)
    · refine rf_step (execVssseg_rf _ _) rfl rfl ?_
      exact rf_refl
    · refine rf_step (execVlsseg_rf _ _) rfl rfl ?_
      exact rf_refl

theorem runCfg_rf (x0 x1 s) :
    RF vOut [.freeCtr, .vx] [0x700010] s (runCfg x0 x1 s) := by
  unfold runCfg
  extract_lets v0 v1 v2
  refine rf_ite (fun _h3 => ?_) (fun _h4 => ?_)
  · refine rf_step (execVsetvli_rf _ _ _ _ _) rfl rfl ?_
    exact rf_refl
  · split
    · rename_i w5 w6
      refine rf_step (execVsetvl_rf _ _ _ _ _) rfl rfl ?_
      exact rf_refl
    · rename_i w7 w8
      refine rf_step (execVmvVX_rf _ _ _ _) rfl rfl ?_
      exact rf_refl
    · rename_i w9 w10
      refine rf_step (execVmvXV_rf _ _ _ _ _) rfl rfl ?_
      exact rf_refl
    · rename_i w11 w12
      refine rf_step (execVmvVV_rf _ _ _ _) rfl rfl ?_
      exact rf_refl
    · rename_i w13 w14
      refine rf_step (execVpand_rf _ _ _ _ _) rfl rfl ?_
      exact rf_refl
    · rename_i w15 w16
      refine rf_step (execVpor_rf _ _ _ _ _) rfl rfl ?_
      exact rf_refl
    · rename_i w17 w18
      refine rf_step (execVpxor_rf _ _ _ _ _) rfl rfl ?_
      exact rf_refl
    · rename_i w19 w20
      refine rf_step (execVpandn_rf _ _ _ _ _) rfl rfl ?_
      exact rf_refl
    · rename_i w21 w22
      refine rf_step (execVpcnt_rf _ _ _ _) rfl rfl ?_
      exact rf_refl
    · rename_i w23 w24
      refine rf_step (execVpfirst_rf _ _ _ _) rfl rfl ?_
      exact rf_refl
    · rename_i w25 w26
      refine rf_step (execVpvl_rf _ _ _ _) rfl rfl ?_
      exact rf_refl
    · rename_i w27 w28 w29 w30 w31 w32 w33 w34 w35 w36 w37 w38
      refine rf_step (illegalWord_rf _ _ _) rfl rfl ?_
      exact rf_refl

theorem runCpOp_rf (x0 x1 s) :
    RF vOut [.freeCtr, .vx] [0x700010, 0x710002, 0x710003, 0x710004] s (runCpOp x0 x1 s) := by
  unfold runCpOp
  extract_lets v0 v1
  split
  · rename_i w2 w3
    refine rf_step (execCp0Ginit_rf _ _ _ _) rfl rfl ?_
    exact rf_refl
  · rename_i w4 w5
    refine rf_step (execCp0Gold_rf _ _ _ _) rfl rfl ?_
    exact rf_refl
  · rename_i w6 w7
    refine rf_step (execCp0Gskip_rf _ _ _ _) rfl rfl ?_
    exact rf_refl
  · rename_i w8 w9
    refine rf_step (execCp0Zc_rf _ _ _ _) rfl rfl ?_
    exact rf_refl
  · rename_i w10 w11
    refine rf_step (execCp1Crcsel_rf _ _ _ _) rfl rfl ?_
    exact rf_refl
  · rename_i w12 w13
    refine rf_step (execCp1Crc_rf _ _ _ _) rfl rfl ?_
    exact rf_refl
  · rename_i w14 w15
    refine rf_step (execCp1Crcget_rf _ _ _ _) rfl rfl ?_
    exact rf_refl
  · rename_i w16 w17
    refine rf_step (execCp1Trellis_rf _ _ _ _) rfl rfl ?_
    exact rf_refl
  · rename_i w18 w19
    refine rf_step (execCp2Rcp_rf _ _ _ _) rfl rfl ?_
    exact rf_refl
  · rename_i w20 w21
    refine rf_step (execCp2Rsqrt_rf _ _ _ _) rfl rfl ?_
    exact rf_refl
  · rename_i w22 w23
    refine rf_step (execCp2Log2_rf _ _ _ _) rfl rfl ?_
    exact rf_refl
  · rename_i w24 w25
    refine rf_step (execCp2Exp2_rf _ _ _ _) rfl rfl ?_
    exact rf_refl
  · rename_i w26 w27
    refine rf_step (execCp2Sin_rf _ _ _ _) rfl rfl ?_
    exact rf_refl
  · rename_i w28 w29
    refine rf_step (execCp2Cos_rf _ _ _ _) rfl rfl ?_
    exact rf_refl
  · rename_i w30 w31
    refine rf_step (execCp2Atan2_rf _ _ _ _) rfl rfl ?_
    exact rf_refl
  · rename_i w32 w33 w34 w35 w36 w37 w38 w39 w40 w41 w42 w43 w44 w45 w46 w47
    refine rf_next ?_
    refine State.cpRun_rf rfl rfl ?_ (fun u48 => ?_)
    · exact rf_refl
    · exact rf_refl

theorem runSys_rf (x0 x1 s) :
    RF vOut [.freeCtr, .mode, .values, .octets, .force, .galley, .vx, .edge, .front, .fab, .pot, .res, .alarms] [0x200004, 0x200005, 0x200006, 0x200007, 0x600008, 0x600009, 0x60000A, 0x60000C, 0x60000D, 0x60000E, 0x60000F, 0x600013, 0x60001D, 0x620007, 0x620009, 0x700009, 0x700010, 0x710002, 0x710003, 0x710004, 0x80000E, 0xB20006, 0xB20007, 0xB2000F, 0xE00006] s (runSys x0 x1 s) := by
  unfold runSys
  extract_lets v0 v1 v2 v3
  split
  · rename_i w4 w5
    refine rf_step (execVxWfs_rf _ _ _ _ _ _) rfl rfl ?_
    exact rf_refl
  · rename_i w6 w7
    refine rf_step (execVxDone_rf _ _ _ _ _ _) rfl rfl ?_
    exact rf_refl
  · rename_i w8 w9
    refine rf_step (execVcpMvto_rf _ _ _ _ _ _) rfl rfl ?_
    exact rf_refl
  · rename_i w10 w11
    refine rf_step (execVcpMvfrom_rf _ _ _ _ _ _) rfl rfl ?_
    exact rf_refl
  · rename_i w12 w13
    refine rf_step (execVcpClear_rf _ _ _ _ _ _) rfl rfl ?_
    exact rf_refl
  · rename_i w14 w15
    refine rf_step (runCpOp_rf _ _ _) rfl rfl ?_
    exact rf_refl
  · rename_i w16 w17 w18 w19 w20 w21 w22
    refine rf_step (illegalWord_rf _ _ _) rfl rfl ?_
    exact rf_refl

theorem runCustom_rf (x0 x1 s) :
    RF vOut [.freeCtr, .mode, .values, .octets, .force, .time, .galley, .vx, .edge, .front, .mogil, .mem, .fab, .pot, .sec, .res, .alarms] (0x200004 :: 0x200005 :: 0x200006 :: 0x200007 :: 0x600008 :: 0x600009 :: 0x60000A :: 0x60000C :: 0x60000D :: 0x60000E :: 0x60000F :: 0x600013 :: 0x60001D :: 0x620007 :: 0x620009 :: 0x700009 :: 0x700010 :: 0x710002 :: 0x710003 :: 0x710004 :: 0x80000E :: 0x900001 :: 0x903007 :: 0x91000B :: 0x91000E :: 0x91000F :: 0xA4000C :: 0xB10004 :: 0xB20006 :: 0xB20007 :: 0xB2000F :: 0xE00006 :: []) s (runCustom x0 x1 s) := by
  unfold runCustom
  refine rf_ite (fun _h0 => ?_) (fun _h1 => ?_)
  · refine rf_step (runVV_rf _ _ _) rfl rfl ?_
    exact rf_refl
  · refine rf_ite (fun _h2 => ?_) (fun _h3 => ?_)
    · refine rf_step (runScalarForms_rf _ _ _) rfl rfl ?_
      exact rf_refl
    · refine rf_ite (fun _h4 => ?_) (fun _h5 => ?_)
      · refine rf_step (runMem_rf _ _ _) rfl rfl ?_
        exact rf_refl
      · refine rf_ite (fun _h6 => ?_) (fun _h7 => ?_)
        · refine rf_step (runCfg_rf _ _ _) rfl rfl ?_
          exact rf_refl
        · refine rf_step (runSys_rf _ _ _) rfl rfl ?_
          exact rf_refl

end Sys2Proof.Machine
end

