-- ==== Sys2Proof/Laws/FramesVxScalar.lean ====
section
/-!
SUPPORT. What each operation of Machine/VxScalar.lean may change, one lemma each.
-/

namespace Sys2Proof.Machine

set_option Elab.async false

open Sys2Proof

theorem State.scalarLoad_rf (s x1 x2 x3 x4 x5 x6) :
    RF vS [.freeCtr, .mode, .octets, .time, .vx, .mogil, .fab, .pot, .sec, .res, .alarms] [0x200004, 0x200005, 0x200006, 0x700010, 0x900001, 0x903007, 0x91000B, 0x91000E, 0xA4000C, 0xB10004, 0xB20006, 0xB20007, 0xB2000F] s (State.scalarLoad s x1 x2 x3 x4 x5 x6) := by
  unfold State.scalarLoad
  extract_lets v0
  refine rf_ite (fun _h1 => ?_) (fun _h2 => ?_)
  · refine rf_step (State.illegal_rf _ _ _) rfl rfl ?_
    exact rf_refl
  · refine rf_ite (fun _h3 => ?_) (fun _h4 => ?_)
    · refine rf_step (State.trapCore_rf _ _ _ _ _ _) rfl rfl ?_
      exact rf_refl
    · split
      · rename_i w5 w6 w7 w8
        refine rf_pair_snd w8 ?_ (fun h9 => ?_)
        · refine rf_step (State.vxRead_rf _ _ _ _) rfl rfl ?_
          exact rf_refl
        split
        rename_i w10 w11 w12 w13
        refine rf_pair_snd w13 ?_ (fun h14 => ?_)
        · refine rf_step (State.cacheRead_rf _ _ _ _ _) rfl rfl ?_
          exact h9
        extract_lets v15
        refine rf_step (State.setCore_rf _ _ _) rfl rfl ?_
        exact h14
      · rename_i w16 w17 w18
        refine rf_pair_snd w18 ?_ (fun h19 => ?_)
        · refine rf_step (State.vxRead_rf _ _ _ _) rfl rfl ?_
          exact rf_refl
        refine rf_step (State.trapCore_rf _ _ _ _ _ _) rfl rfl ?_
        exact h19

theorem State.scalarStore_rf (s x1 x2 x3 x4 x5 x6) :
    RF vS [.freeCtr, .mode, .octets, .time, .galley, .vx, .mogil, .mem, .fab, .pot, .sec, .res, .alarms] [0x200004, 0x200005, 0x200006, 0x700010, 0x900001, 0x903007, 0x91000B, 0x91000E, 0x91000F, 0xA4000C, 0xB10004, 0xB20006, 0xB20007, 0xB2000F] s (State.scalarStore s x1 x2 x3 x4 x5 x6) := by
  unfold State.scalarStore
  extract_lets v0
  refine rf_ite (fun _h1 => ?_) (fun _h2 => ?_)
  · refine rf_step (State.illegal_rf _ _ _) rfl rfl ?_
    exact rf_refl
  · refine rf_ite (fun _h3 => ?_) (fun _h4 => ?_)
    · refine rf_step (State.trapCore_rf _ _ _ _ _ _) rfl rfl ?_
      exact rf_refl
    · split
      · rename_i w5 w6 w7
        refine rf_pair_snd w7 ?_ (fun h8 => ?_)
        · refine rf_step (State.vxWrite_rf _ _ _ _ _) rfl rfl ?_
          exact rf_refl
        refine rf_step (State.setCore_rf _ _ _) rfl rfl ?_
        exact h8
      · rename_i w9 w10 w11
        refine rf_pair_snd w11 ?_ (fun h12 => ?_)
        · refine rf_step (State.vxWrite_rf _ _ _ _ _) rfl rfl ?_
          exact rf_refl
        refine rf_step (State.trapCore_rf _ _ _ _ _ _) rfl rfl ?_
        exact h12

theorem State.scalarSystem_rf (s x1 x2 x3 x4) :
    RF vS [.freeCtr, .vx] [0x700010] s (State.scalarSystem s x1 x2 x3 x4) := by
  unfold State.scalarSystem
  extract_lets v0 v1 v2
  split
  · rename_i w3 w4
    refine rf_ite (fun _h5 => ?_) (fun _h6 => ?_)
    · refine rf_step (State.trapCore_rf _ _ _ _ _ _) rfl rfl ?_
      exact rf_refl
    · refine rf_ite (fun _h7 => ?_) (fun _h8 => ?_)
      · split
        rename_i w9 w10 w11 w12
        refine rf_pair_snd w12 ?_ (fun h13 => ?_)
        · refine rf_step (State.draw_rf _) rfl rfl ?_
          exact rf_refl
        refine rf_step (State.trapCore_rf _ _ _ _ _ _) rfl rfl ?_
        exact h13
      · refine rf_ite (fun _h14 => ?_) (fun _h15 => ?_)
        · refine rf_ite (fun _h16 => ?_) (fun _h17 => ?_)
          · refine rf_step (State.setCore_rf _ _ _) rfl rfl ?_
            exact rf_refl
          · refine rf_step (State.illegal_rf _ _ _) rfl rfl ?_
            exact rf_refl
        · refine rf_ite (fun _h18 => ?_) (fun _h19 => ?_)
          · refine rf_ite (fun _h20 => ?_) (fun _h21 => ?_)
            · refine rf_step (State.setCore_rf _ _ _) rfl rfl ?_
              exact rf_refl
            · refine rf_step (State.illegal_rf _ _ _) rfl rfl ?_
              exact rf_refl
          · refine rf_ite (fun _h22 => ?_) (fun _h23 => ?_)
            · refine rf_step (State.setCore_rf _ _ _) rfl rfl ?_
              exact rf_refl
            · refine rf_ite (fun _h24 => ?_) (fun _h25 => ?_)
              · refine rf_ite (fun _h26 => ?_) (fun _h27 => ?_)
                · refine rf_step (State.illegal_rf _ _ _) rfl rfl ?_
                  exact rf_refl
                · refine rf_step (State.setCore_rf _ _ _) rfl rfl ?_
                  exact rf_refl
              · refine rf_step (State.illegal_rf _ _ _) rfl rfl ?_
                exact rf_refl
  · rename_i w28 w29
    refine rf_step (State.csrInstr_rf _ _ _ _ _ _) rfl rfl ?_
    exact rf_refl
  · rename_i w30 w31
    refine rf_step (State.csrInstr_rf _ _ _ _ _ _) rfl rfl ?_
    exact rf_refl
  · rename_i w32 w33
    refine rf_step (State.csrInstr_rf _ _ _ _ _ _) rfl rfl ?_
    exact rf_refl
  · rename_i w34 w35
    refine rf_step (State.csrInstr_rf _ _ _ _ _ _) rfl rfl ?_
    exact rf_refl
  · rename_i w36 w37
    refine rf_step (State.csrInstr_rf _ _ _ _ _ _) rfl rfl ?_
    exact rf_refl
  · rename_i w38 w39
    refine rf_step (State.csrInstr_rf _ _ _ _ _ _) rfl rfl ?_
    exact rf_refl
  · rename_i w40 w41 w42 w43 w44 w45 w46 w47
    refine rf_step (State.illegal_rf _ _ _) rfl rfl ?_
    exact rf_refl

theorem State.putX_rf (s x1 x2 x3 x4 x5) :
    RF vS [.freeCtr, .vx] [0x700010] s (State.putX s x1 x2 x3 x4 x5) := by
  unfold State.putX
  split
  · rename_i w0 w1
    refine rf_step (State.setCore_rf _ _ _) rfl rfl ?_
    exact rf_refl
  · rename_i w2
    refine rf_step (State.illegal_rf _ _ _) rfl rfl ?_
    exact rf_refl

theorem State.scalarWord_rf (s x1 x2 x3 x4) :
    RF vS [.freeCtr, .mode, .octets, .time, .galley, .vx, .mogil, .mem, .fab, .pot, .sec, .res, .alarms] [0x200004, 0x200005, 0x200006, 0x700010, 0x900001, 0x903007, 0x91000B, 0x91000E, 0x91000F, 0xA4000C, 0xB10004, 0xB20006, 0xB20007, 0xB2000F] s (State.scalarWord s x1 x2 x3 x4) := by
  unfold State.scalarWord
  extract_lets v0 v1 v2 v3 v4 v5 v6 v7
  split
  · rename_i w8 w9
    refine rf_step (State.putX_rf _ _ _ _ _ _) rfl rfl ?_
    exact rf_refl
  · rename_i w10 w11
    refine rf_step (State.putX_rf _ _ _ _ _ _) rfl rfl ?_
    exact rf_refl
  · rename_i w12 w13
    refine rf_step (State.setCore_rf _ _ _) rfl rfl ?_
    exact rf_refl
  · rename_i w14 w15
    refine rf_ite (fun _h16 => ?_) (fun _h17 => ?_)
    · refine rf_step (State.setCore_rf _ _ _) rfl rfl ?_
      exact rf_refl
    · refine rf_step (State.illegal_rf _ _ _) rfl rfl ?_
      exact rf_refl
  · rename_i w18 w19
    split
    · rename_i w20 w21 w22
      refine rf_step (State.setCore_rf _ _ _) rfl rfl ?_
      exact rf_refl
    · rename_i w23 w24
      refine rf_step (State.illegal_rf _ _ _) rfl rfl ?_
      exact rf_refl
  · rename_i w25 w26
    refine rf_step (State.scalarLoad_rf _ _ _ _ _ _ _) rfl rfl ?_
    exact rf_refl
  · rename_i w27 w28
    refine rf_step (State.scalarStore_rf _ _ _ _ _ _ _) rfl rfl ?_
    exact rf_refl
  · rename_i w29 w30
    refine rf_step (State.putX_rf _ _ _ _ _ _) rfl rfl ?_
    exact rf_refl
  · rename_i w31 w32
    refine rf_step (State.putX_rf _ _ _ _ _ _) rfl rfl ?_
    exact rf_refl
  · rename_i w33 w34
    refine rf_step (State.putX_rf _ _ _ _ _ _) rfl rfl ?_
    exact rf_refl
  · rename_i w35 w36
    refine rf_step (State.putX_rf _ _ _ _ _ _) rfl rfl ?_
    exact rf_refl
  · rename_i w37 w38
    refine rf_ite (fun _h39 => ?_) (fun _h40 => ?_)
    · refine rf_step (State.setCore_rf _ _ _) rfl rfl ?_
      exact rf_refl
    · refine rf_step (State.illegal_rf _ _ _) rfl rfl ?_
      exact rf_refl
  · rename_i w41 w42
    refine rf_step (State.scalarSystem_rf _ _ _ _ _) rfl rfl ?_
    exact rf_refl
  · rename_i w43 w44 w45 w46 w47 w48 w49 w50 w51 w52 w53 w54 w55 w56
    refine rf_step (State.illegal_rf _ _ _) rfl rfl ?_
    exact rf_refl

theorem execScalarInstruction_rf (x0 x1 s) :
    RF vOut [.freeCtr, .mode, .values, .octets, .force, .time, .galley, .vx, .edge, .front, .mogil, .mem, .fab, .pot, .sec, .res, .alarms] (0x200004 :: 0x200005 :: 0x200006 :: 0x200007 :: 0x600008 :: 0x600009 :: 0x60000A :: 0x60000C :: 0x60000D :: 0x60000E :: 0x60000F :: 0x600013 :: 0x60001D :: 0x620007 :: 0x620009 :: 0x700009 :: 0x700010 :: 0x710002 :: 0x710003 :: 0x710004 :: 0x80000E :: 0x900001 :: 0x903007 :: 0x91000B :: 0x91000E :: 0x91000F :: 0xA4000C :: 0xB10004 :: 0xB20006 :: 0xB20007 :: 0xB2000F :: 0xE00006 :: []) s (execScalarInstruction x0 x1 s) := by
  unfold execScalarInstruction
  extract_lets v0
  refine rf_ite (fun _h1 => ?_) (fun _h2 => ?_)
  · refine rf_step (runCustom_rf _ _ _) rfl rfl ?_
    exact rf_refl
  · refine rf_ite (fun _h3 => ?_) (fun _h4 => ?_)
    · refine rf_next ?_
      refine State.fetched_rf rfl rfl ?_ (fun u5 => ?_)
      · exact rf_refl
      · refine rf_step (State.scalarWord_rf _ _ _ _ _) rfl rfl ?_
        exact rf_refl
    · refine rf_next ?_
      refine State.fetched_rf rfl rfl ?_ (fun u6 => ?_)
      · exact rf_refl
      · split
        · rename_i w7 w8 w9
          refine rf_step (State.scalarWord_rf _ _ _ _ _) rfl rfl ?_
          exact rf_refl
        · rename_i w10 w11
          refine rf_step (State.illegal_rf _ _ _) rfl rfl ?_
          exact rf_refl

end Sys2Proof.Machine
end

