-- ==== Sys2Proof/Laws/State.lean ====
section
/-!
SUPPORT. Laws of the state: each update of one part leaves every other part as it was, and a read after a write gives what
was written.
-/

namespace Sys2Proof.Machine

open Sys2Proof

/-! ### setRegion -/

@[simp] theorem State.setRegion_pending (s : State) (r : Nat) (x : Region) : (s.setRegion r x).pending = s.pending := rfl
@[simp] theorem State.setRegion_reply (s : State) (r : Nat) (x : Region) : (s.setRegion r x).reply = s.reply := rfl
@[simp] theorem State.setRegion_freeCtr (s : State) (r : Nat) (x : Region) : (s.setRegion r x).freeCtr = s.freeCtr := rfl
@[simp] theorem State.setRegion_mode (s : State) (r : Nat) (x : Region) : (s.setRegion r x).mode = s.mode := rfl
@[simp] theorem State.setRegion_dict (s : State) (r : Nat) (x : Region) : (s.setRegion r x).dict = s.dict := rfl
@[simp] theorem State.setRegion_time (s : State) (r : Nat) (x : Region) : (s.setRegion r x).time = s.time := rfl
@[simp] theorem State.setRegion_galley (s : State) (r : Nat) (x : Region) : (s.setRegion r x).galley = s.galley := rfl
@[simp] theorem State.setRegion_vx (s : State) (r : Nat) (x : Region) : (s.setRegion r x).vx = s.vx := rfl
@[simp] theorem State.setRegion_edge (s : State) (r : Nat) (x : Region) : (s.setRegion r x).edge = s.edge := rfl
@[simp] theorem State.setRegion_front (s : State) (r : Nat) (x : Region) : (s.setRegion r x).front = s.front := rfl
@[simp] theorem State.setRegion_mogil (s : State) (r : Nat) (x : Region) : (s.setRegion r x).mogil = s.mogil := rfl
@[simp] theorem State.setRegion_mem (s : State) (r : Nat) (x : Region) : (s.setRegion r x).mem = s.mem := rfl
@[simp] theorem State.setRegion_fab (s : State) (r : Nat) (x : Region) : (s.setRegion r x).fab = s.fab := rfl
@[simp] theorem State.setRegion_host (s : State) (r : Nat) (x : Region) : (s.setRegion r x).host = s.host := rfl
@[simp] theorem State.setRegion_parts (s : State) (r : Nat) (x : Region) : (s.setRegion r x).parts = s.parts := rfl
@[simp] theorem State.setRegion_pot (s : State) (r : Nat) (x : Region) : (s.setRegion r x).pot = s.pot := rfl
@[simp] theorem State.setRegion_power (s : State) (r : Nat) (x : Region) : (s.setRegion r x).power = s.power := rfl
@[simp] theorem State.setRegion_res (s : State) (r : Nat) (x : Region) : (s.setRegion r x).res = s.res := rfl
@[simp] theorem State.setRegion_pins (s : State) (r : Nat) (x : Region) : (s.setRegion r x).pins = s.pins := rfl
@[simp] theorem State.setRegion_alarms (s : State) (r : Nat) (x : Region) : (s.setRegion r x).alarms = s.alarms := rfl

/-! ### setBank -/

@[simp] theorem State.setBank_pending (s : State) (b : Nat) (x : Bank) : (s.setBank b x).pending = s.pending := rfl
@[simp] theorem State.setBank_reply (s : State) (b : Nat) (x : Bank) : (s.setBank b x).reply = s.reply := rfl
@[simp] theorem State.setBank_freeCtr (s : State) (b : Nat) (x : Bank) : (s.setBank b x).freeCtr = s.freeCtr := rfl
@[simp] theorem State.setBank_mode (s : State) (b : Nat) (x : Bank) : (s.setBank b x).mode = s.mode := rfl
@[simp] theorem State.setBank_dict (s : State) (b : Nat) (x : Bank) : (s.setBank b x).dict = s.dict := rfl
@[simp] theorem State.setBank_time (s : State) (b : Nat) (x : Bank) : (s.setBank b x).time = s.time := rfl
@[simp] theorem State.setBank_galley (s : State) (b : Nat) (x : Bank) : (s.setBank b x).galley = s.galley := rfl
@[simp] theorem State.setBank_vx (s : State) (b : Nat) (x : Bank) : (s.setBank b x).vx = s.vx := rfl
@[simp] theorem State.setBank_edge (s : State) (b : Nat) (x : Bank) : (s.setBank b x).edge = s.edge := rfl
@[simp] theorem State.setBank_front (s : State) (b : Nat) (x : Bank) : (s.setBank b x).front = s.front := rfl
@[simp] theorem State.setBank_mogil (s : State) (b : Nat) (x : Bank) : (s.setBank b x).mogil = s.mogil := rfl
@[simp] theorem State.setBank_mem (s : State) (b : Nat) (x : Bank) : (s.setBank b x).mem = s.mem := rfl
@[simp] theorem State.setBank_host (s : State) (b : Nat) (x : Bank) : (s.setBank b x).host = s.host := rfl
@[simp] theorem State.setBank_parts (s : State) (b : Nat) (x : Bank) : (s.setBank b x).parts = s.parts := rfl
@[simp] theorem State.setBank_pot (s : State) (b : Nat) (x : Bank) : (s.setBank b x).pot = s.pot := rfl
@[simp] theorem State.setBank_sec (s : State) (b : Nat) (x : Bank) : (s.setBank b x).sec = s.sec := rfl
@[simp] theorem State.setBank_power (s : State) (b : Nat) (x : Bank) : (s.setBank b x).power = s.power := rfl
@[simp] theorem State.setBank_res (s : State) (b : Nat) (x : Bank) : (s.setBank b x).res = s.res := rfl
@[simp] theorem State.setBank_pins (s : State) (b : Nat) (x : Bank) : (s.setBank b x).pins = s.pins := rfl
@[simp] theorem State.setBank_alarms (s : State) (b : Nat) (x : Bank) : (s.setBank b x).alarms = s.alarms := rfl

/-! ### setSel -/

@[simp] theorem State.setSel_pending (s : State) (who : Requester) (a : Nat) (v : Int) : (s.setSel who a v).pending = s.pending := rfl
@[simp] theorem State.setSel_reply (s : State) (who : Requester) (a : Nat) (v : Int) : (s.setSel who a v).reply = s.reply := rfl
@[simp] theorem State.setSel_freeCtr (s : State) (who : Requester) (a : Nat) (v : Int) : (s.setSel who a v).freeCtr = s.freeCtr := rfl
@[simp] theorem State.setSel_mode (s : State) (who : Requester) (a : Nat) (v : Int) : (s.setSel who a v).mode = s.mode := rfl
@[simp] theorem State.setSel_time (s : State) (who : Requester) (a : Nat) (v : Int) : (s.setSel who a v).time = s.time := rfl
@[simp] theorem State.setSel_galley (s : State) (who : Requester) (a : Nat) (v : Int) : (s.setSel who a v).galley = s.galley := rfl
@[simp] theorem State.setSel_vx (s : State) (who : Requester) (a : Nat) (v : Int) : (s.setSel who a v).vx = s.vx := rfl
@[simp] theorem State.setSel_edge (s : State) (who : Requester) (a : Nat) (v : Int) : (s.setSel who a v).edge = s.edge := rfl
@[simp] theorem State.setSel_front (s : State) (who : Requester) (a : Nat) (v : Int) : (s.setSel who a v).front = s.front := rfl
@[simp] theorem State.setSel_mogil (s : State) (who : Requester) (a : Nat) (v : Int) : (s.setSel who a v).mogil = s.mogil := rfl
@[simp] theorem State.setSel_mem (s : State) (who : Requester) (a : Nat) (v : Int) : (s.setSel who a v).mem = s.mem := rfl
@[simp] theorem State.setSel_fab (s : State) (who : Requester) (a : Nat) (v : Int) : (s.setSel who a v).fab = s.fab := rfl
@[simp] theorem State.setSel_host (s : State) (who : Requester) (a : Nat) (v : Int) : (s.setSel who a v).host = s.host := rfl
@[simp] theorem State.setSel_parts (s : State) (who : Requester) (a : Nat) (v : Int) : (s.setSel who a v).parts = s.parts := rfl
@[simp] theorem State.setSel_pot (s : State) (who : Requester) (a : Nat) (v : Int) : (s.setSel who a v).pot = s.pot := rfl
@[simp] theorem State.setSel_sec (s : State) (who : Requester) (a : Nat) (v : Int) : (s.setSel who a v).sec = s.sec := rfl
@[simp] theorem State.setSel_power (s : State) (who : Requester) (a : Nat) (v : Int) : (s.setSel who a v).power = s.power := rfl
@[simp] theorem State.setSel_res (s : State) (who : Requester) (a : Nat) (v : Int) : (s.setSel who a v).res = s.res := rfl
@[simp] theorem State.setSel_pins (s : State) (who : Requester) (a : Nat) (v : Int) : (s.setSel who a v).pins = s.pins := rfl
@[simp] theorem State.setSel_alarms (s : State) (who : Requester) (a : Nat) (v : Int) : (s.setSel who a v).alarms = s.alarms := rfl

/-! ### setPart -/

@[simp] theorem State.setPart_pending (s : State) (n : Nat) (x : Part) : (s.setPart n x).pending = s.pending := rfl
@[simp] theorem State.setPart_reply (s : State) (n : Nat) (x : Part) : (s.setPart n x).reply = s.reply := rfl
@[simp] theorem State.setPart_freeCtr (s : State) (n : Nat) (x : Part) : (s.setPart n x).freeCtr = s.freeCtr := rfl
@[simp] theorem State.setPart_mode (s : State) (n : Nat) (x : Part) : (s.setPart n x).mode = s.mode := rfl
@[simp] theorem State.setPart_dict (s : State) (n : Nat) (x : Part) : (s.setPart n x).dict = s.dict := rfl
@[simp] theorem State.setPart_time (s : State) (n : Nat) (x : Part) : (s.setPart n x).time = s.time := rfl
@[simp] theorem State.setPart_galley (s : State) (n : Nat) (x : Part) : (s.setPart n x).galley = s.galley := rfl
@[simp] theorem State.setPart_vx (s : State) (n : Nat) (x : Part) : (s.setPart n x).vx = s.vx := rfl
@[simp] theorem State.setPart_edge (s : State) (n : Nat) (x : Part) : (s.setPart n x).edge = s.edge := rfl
@[simp] theorem State.setPart_front (s : State) (n : Nat) (x : Part) : (s.setPart n x).front = s.front := rfl
@[simp] theorem State.setPart_mogil (s : State) (n : Nat) (x : Part) : (s.setPart n x).mogil = s.mogil := rfl
@[simp] theorem State.setPart_mem (s : State) (n : Nat) (x : Part) : (s.setPart n x).mem = s.mem := rfl
@[simp] theorem State.setPart_fab (s : State) (n : Nat) (x : Part) : (s.setPart n x).fab = s.fab := rfl
@[simp] theorem State.setPart_host (s : State) (n : Nat) (x : Part) : (s.setPart n x).host = s.host := rfl
@[simp] theorem State.setPart_pot (s : State) (n : Nat) (x : Part) : (s.setPart n x).pot = s.pot := rfl
@[simp] theorem State.setPart_sec (s : State) (n : Nat) (x : Part) : (s.setPart n x).sec = s.sec := rfl
@[simp] theorem State.setPart_power (s : State) (n : Nat) (x : Part) : (s.setPart n x).power = s.power := rfl
@[simp] theorem State.setPart_res (s : State) (n : Nat) (x : Part) : (s.setPart n x).res = s.res := rfl
@[simp] theorem State.setPart_pins (s : State) (n : Nat) (x : Part) : (s.setPart n x).pins = s.pins := rfl
@[simp] theorem State.setPart_alarms (s : State) (n : Nat) (x : Part) : (s.setPart n x).alarms = s.alarms := rfl

/-! ### setSctx -/

@[simp] theorem State.setSctx_pending (s : State) (k : Nat) (x : SearchCtx) : (s.setSctx k x).pending = s.pending := rfl
@[simp] theorem State.setSctx_reply (s : State) (k : Nat) (x : SearchCtx) : (s.setSctx k x).reply = s.reply := rfl
@[simp] theorem State.setSctx_freeCtr (s : State) (k : Nat) (x : SearchCtx) : (s.setSctx k x).freeCtr = s.freeCtr := rfl
@[simp] theorem State.setSctx_mode (s : State) (k : Nat) (x : SearchCtx) : (s.setSctx k x).mode = s.mode := rfl
@[simp] theorem State.setSctx_dict (s : State) (k : Nat) (x : SearchCtx) : (s.setSctx k x).dict = s.dict := rfl
@[simp] theorem State.setSctx_time (s : State) (k : Nat) (x : SearchCtx) : (s.setSctx k x).time = s.time := rfl
@[simp] theorem State.setSctx_galley (s : State) (k : Nat) (x : SearchCtx) : (s.setSctx k x).galley = s.galley := rfl
@[simp] theorem State.setSctx_vx (s : State) (k : Nat) (x : SearchCtx) : (s.setSctx k x).vx = s.vx := rfl
@[simp] theorem State.setSctx_front (s : State) (k : Nat) (x : SearchCtx) : (s.setSctx k x).front = s.front := rfl
@[simp] theorem State.setSctx_mogil (s : State) (k : Nat) (x : SearchCtx) : (s.setSctx k x).mogil = s.mogil := rfl
@[simp] theorem State.setSctx_mem (s : State) (k : Nat) (x : SearchCtx) : (s.setSctx k x).mem = s.mem := rfl
@[simp] theorem State.setSctx_fab (s : State) (k : Nat) (x : SearchCtx) : (s.setSctx k x).fab = s.fab := rfl
@[simp] theorem State.setSctx_host (s : State) (k : Nat) (x : SearchCtx) : (s.setSctx k x).host = s.host := rfl
@[simp] theorem State.setSctx_parts (s : State) (k : Nat) (x : SearchCtx) : (s.setSctx k x).parts = s.parts := rfl
@[simp] theorem State.setSctx_pot (s : State) (k : Nat) (x : SearchCtx) : (s.setSctx k x).pot = s.pot := rfl
@[simp] theorem State.setSctx_sec (s : State) (k : Nat) (x : SearchCtx) : (s.setSctx k x).sec = s.sec := rfl
@[simp] theorem State.setSctx_power (s : State) (k : Nat) (x : SearchCtx) : (s.setSctx k x).power = s.power := rfl
@[simp] theorem State.setSctx_res (s : State) (k : Nat) (x : SearchCtx) : (s.setSctx k x).res = s.res := rfl
@[simp] theorem State.setSctx_pins (s : State) (k : Nat) (x : SearchCtx) : (s.setSctx k x).pins = s.pins := rfl
@[simp] theorem State.setSctx_alarms (s : State) (k : Nat) (x : SearchCtx) : (s.setSctx k x).alarms = s.alarms := rfl

/-! ### setGroup -/

@[simp] theorem State.setGroup_pending (s : State) (g : Nat) (x : AntGroup) : (s.setGroup g x).pending = s.pending := rfl
@[simp] theorem State.setGroup_reply (s : State) (g : Nat) (x : AntGroup) : (s.setGroup g x).reply = s.reply := rfl
@[simp] theorem State.setGroup_freeCtr (s : State) (g : Nat) (x : AntGroup) : (s.setGroup g x).freeCtr = s.freeCtr := rfl
@[simp] theorem State.setGroup_mode (s : State) (g : Nat) (x : AntGroup) : (s.setGroup g x).mode = s.mode := rfl
@[simp] theorem State.setGroup_dict (s : State) (g : Nat) (x : AntGroup) : (s.setGroup g x).dict = s.dict := rfl
@[simp] theorem State.setGroup_time (s : State) (g : Nat) (x : AntGroup) : (s.setGroup g x).time = s.time := rfl
@[simp] theorem State.setGroup_galley (s : State) (g : Nat) (x : AntGroup) : (s.setGroup g x).galley = s.galley := rfl
@[simp] theorem State.setGroup_vx (s : State) (g : Nat) (x : AntGroup) : (s.setGroup g x).vx = s.vx := rfl
@[simp] theorem State.setGroup_front (s : State) (g : Nat) (x : AntGroup) : (s.setGroup g x).front = s.front := rfl
@[simp] theorem State.setGroup_mogil (s : State) (g : Nat) (x : AntGroup) : (s.setGroup g x).mogil = s.mogil := rfl
@[simp] theorem State.setGroup_mem (s : State) (g : Nat) (x : AntGroup) : (s.setGroup g x).mem = s.mem := rfl
@[simp] theorem State.setGroup_fab (s : State) (g : Nat) (x : AntGroup) : (s.setGroup g x).fab = s.fab := rfl
@[simp] theorem State.setGroup_host (s : State) (g : Nat) (x : AntGroup) : (s.setGroup g x).host = s.host := rfl
@[simp] theorem State.setGroup_parts (s : State) (g : Nat) (x : AntGroup) : (s.setGroup g x).parts = s.parts := rfl
@[simp] theorem State.setGroup_pot (s : State) (g : Nat) (x : AntGroup) : (s.setGroup g x).pot = s.pot := rfl
@[simp] theorem State.setGroup_sec (s : State) (g : Nat) (x : AntGroup) : (s.setGroup g x).sec = s.sec := rfl
@[simp] theorem State.setGroup_power (s : State) (g : Nat) (x : AntGroup) : (s.setGroup g x).power = s.power := rfl
@[simp] theorem State.setGroup_res (s : State) (g : Nat) (x : AntGroup) : (s.setGroup g x).res = s.res := rfl
@[simp] theorem State.setGroup_pins (s : State) (g : Nat) (x : AntGroup) : (s.setGroup g x).pins = s.pins := rfl
@[simp] theorem State.setGroup_alarms (s : State) (g : Nat) (x : AntGroup) : (s.setGroup g x).alarms = s.alarms := rfl

/-! ### setRadio -/

@[simp] theorem State.setRadio_pending (s : State) (r : Nat) (x : Radio) : (s.setRadio r x).pending = s.pending := rfl
@[simp] theorem State.setRadio_reply (s : State) (r : Nat) (x : Radio) : (s.setRadio r x).reply = s.reply := rfl
@[simp] theorem State.setRadio_freeCtr (s : State) (r : Nat) (x : Radio) : (s.setRadio r x).freeCtr = s.freeCtr := rfl
@[simp] theorem State.setRadio_mode (s : State) (r : Nat) (x : Radio) : (s.setRadio r x).mode = s.mode := rfl
@[simp] theorem State.setRadio_dict (s : State) (r : Nat) (x : Radio) : (s.setRadio r x).dict = s.dict := rfl
@[simp] theorem State.setRadio_time (s : State) (r : Nat) (x : Radio) : (s.setRadio r x).time = s.time := rfl
@[simp] theorem State.setRadio_galley (s : State) (r : Nat) (x : Radio) : (s.setRadio r x).galley = s.galley := rfl
@[simp] theorem State.setRadio_vx (s : State) (r : Nat) (x : Radio) : (s.setRadio r x).vx = s.vx := rfl
@[simp] theorem State.setRadio_front (s : State) (r : Nat) (x : Radio) : (s.setRadio r x).front = s.front := rfl
@[simp] theorem State.setRadio_mogil (s : State) (r : Nat) (x : Radio) : (s.setRadio r x).mogil = s.mogil := rfl
@[simp] theorem State.setRadio_mem (s : State) (r : Nat) (x : Radio) : (s.setRadio r x).mem = s.mem := rfl
@[simp] theorem State.setRadio_fab (s : State) (r : Nat) (x : Radio) : (s.setRadio r x).fab = s.fab := rfl
@[simp] theorem State.setRadio_host (s : State) (r : Nat) (x : Radio) : (s.setRadio r x).host = s.host := rfl
@[simp] theorem State.setRadio_parts (s : State) (r : Nat) (x : Radio) : (s.setRadio r x).parts = s.parts := rfl
@[simp] theorem State.setRadio_pot (s : State) (r : Nat) (x : Radio) : (s.setRadio r x).pot = s.pot := rfl
@[simp] theorem State.setRadio_sec (s : State) (r : Nat) (x : Radio) : (s.setRadio r x).sec = s.sec := rfl
@[simp] theorem State.setRadio_power (s : State) (r : Nat) (x : Radio) : (s.setRadio r x).power = s.power := rfl
@[simp] theorem State.setRadio_res (s : State) (r : Nat) (x : Radio) : (s.setRadio r x).res = s.res := rfl
@[simp] theorem State.setRadio_pins (s : State) (r : Nat) (x : Radio) : (s.setRadio r x).pins = s.pins := rfl
@[simp] theorem State.setRadio_alarms (s : State) (r : Nat) (x : Radio) : (s.setRadio r x).alarms = s.alarms := rfl

/-! ### setJob -/

@[simp] theorem State.setJob_pending (s : State) (cls u : Nat) (j : Job) : (s.setJob cls u j).pending = s.pending := rfl
@[simp] theorem State.setJob_reply (s : State) (cls u : Nat) (j : Job) : (s.setJob cls u j).reply = s.reply := rfl
@[simp] theorem State.setJob_freeCtr (s : State) (cls u : Nat) (j : Job) : (s.setJob cls u j).freeCtr = s.freeCtr := rfl
@[simp] theorem State.setJob_mode (s : State) (cls u : Nat) (j : Job) : (s.setJob cls u j).mode = s.mode := rfl
@[simp] theorem State.setJob_dict (s : State) (cls u : Nat) (j : Job) : (s.setJob cls u j).dict = s.dict := rfl
@[simp] theorem State.setJob_time (s : State) (cls u : Nat) (j : Job) : (s.setJob cls u j).time = s.time := rfl
@[simp] theorem State.setJob_galley (s : State) (cls u : Nat) (j : Job) : (s.setJob cls u j).galley = s.galley := rfl
@[simp] theorem State.setJob_vx (s : State) (cls u : Nat) (j : Job) : (s.setJob cls u j).vx = s.vx := rfl
@[simp] theorem State.setJob_front (s : State) (cls u : Nat) (j : Job) : (s.setJob cls u j).front = s.front := rfl
@[simp] theorem State.setJob_mogil (s : State) (cls u : Nat) (j : Job) : (s.setJob cls u j).mogil = s.mogil := rfl
@[simp] theorem State.setJob_mem (s : State) (cls u : Nat) (j : Job) : (s.setJob cls u j).mem = s.mem := rfl
@[simp] theorem State.setJob_fab (s : State) (cls u : Nat) (j : Job) : (s.setJob cls u j).fab = s.fab := rfl
@[simp] theorem State.setJob_host (s : State) (cls u : Nat) (j : Job) : (s.setJob cls u j).host = s.host := rfl
@[simp] theorem State.setJob_parts (s : State) (cls u : Nat) (j : Job) : (s.setJob cls u j).parts = s.parts := rfl
@[simp] theorem State.setJob_pot (s : State) (cls u : Nat) (j : Job) : (s.setJob cls u j).pot = s.pot := rfl
@[simp] theorem State.setJob_sec (s : State) (cls u : Nat) (j : Job) : (s.setJob cls u j).sec = s.sec := rfl
@[simp] theorem State.setJob_power (s : State) (cls u : Nat) (j : Job) : (s.setJob cls u j).power = s.power := rfl
@[simp] theorem State.setJob_res (s : State) (cls u : Nat) (j : Job) : (s.setJob cls u j).res = s.res := rfl
@[simp] theorem State.setJob_pins (s : State) (cls u : Nat) (j : Job) : (s.setJob cls u j).pins = s.pins := rfl
@[simp] theorem State.setJob_alarms (s : State) (cls u : Nat) (j : Job) : (s.setJob cls u j).alarms = s.alarms := rfl

/-! ### dropJob -/

@[simp] theorem State.dropJob_pending (s : State) (cls u : Nat) : (s.dropJob cls u).pending = s.pending := rfl
@[simp] theorem State.dropJob_reply (s : State) (cls u : Nat) : (s.dropJob cls u).reply = s.reply := rfl
@[simp] theorem State.dropJob_freeCtr (s : State) (cls u : Nat) : (s.dropJob cls u).freeCtr = s.freeCtr := rfl
@[simp] theorem State.dropJob_mode (s : State) (cls u : Nat) : (s.dropJob cls u).mode = s.mode := rfl
@[simp] theorem State.dropJob_dict (s : State) (cls u : Nat) : (s.dropJob cls u).dict = s.dict := rfl
@[simp] theorem State.dropJob_time (s : State) (cls u : Nat) : (s.dropJob cls u).time = s.time := rfl
@[simp] theorem State.dropJob_galley (s : State) (cls u : Nat) : (s.dropJob cls u).galley = s.galley := rfl
@[simp] theorem State.dropJob_vx (s : State) (cls u : Nat) : (s.dropJob cls u).vx = s.vx := rfl
@[simp] theorem State.dropJob_front (s : State) (cls u : Nat) : (s.dropJob cls u).front = s.front := rfl
@[simp] theorem State.dropJob_mogil (s : State) (cls u : Nat) : (s.dropJob cls u).mogil = s.mogil := rfl
@[simp] theorem State.dropJob_mem (s : State) (cls u : Nat) : (s.dropJob cls u).mem = s.mem := rfl
@[simp] theorem State.dropJob_fab (s : State) (cls u : Nat) : (s.dropJob cls u).fab = s.fab := rfl
@[simp] theorem State.dropJob_host (s : State) (cls u : Nat) : (s.dropJob cls u).host = s.host := rfl
@[simp] theorem State.dropJob_parts (s : State) (cls u : Nat) : (s.dropJob cls u).parts = s.parts := rfl
@[simp] theorem State.dropJob_pot (s : State) (cls u : Nat) : (s.dropJob cls u).pot = s.pot := rfl
@[simp] theorem State.dropJob_sec (s : State) (cls u : Nat) : (s.dropJob cls u).sec = s.sec := rfl
@[simp] theorem State.dropJob_power (s : State) (cls u : Nat) : (s.dropJob cls u).power = s.power := rfl
@[simp] theorem State.dropJob_res (s : State) (cls u : Nat) : (s.dropJob cls u).res = s.res := rfl
@[simp] theorem State.dropJob_pins (s : State) (cls u : Nat) : (s.dropJob cls u).pins = s.pins := rfl
@[simp] theorem State.dropJob_alarms (s : State) (cls u : Nat) : (s.dropJob cls u).alarms = s.alarms := rfl

/-! ### setFront -/

@[simp] theorem State.setFront_pending (s : State) (x : FrontSt) : (s.setFront x).pending = s.pending := rfl
@[simp] theorem State.setFront_reply (s : State) (x : FrontSt) : (s.setFront x).reply = s.reply := rfl
@[simp] theorem State.setFront_freeCtr (s : State) (x : FrontSt) : (s.setFront x).freeCtr = s.freeCtr := rfl
@[simp] theorem State.setFront_mode (s : State) (x : FrontSt) : (s.setFront x).mode = s.mode := rfl
@[simp] theorem State.setFront_dict (s : State) (x : FrontSt) : (s.setFront x).dict = s.dict := rfl
@[simp] theorem State.setFront_time (s : State) (x : FrontSt) : (s.setFront x).time = s.time := rfl
@[simp] theorem State.setFront_galley (s : State) (x : FrontSt) : (s.setFront x).galley = s.galley := rfl
@[simp] theorem State.setFront_vx (s : State) (x : FrontSt) : (s.setFront x).vx = s.vx := rfl
@[simp] theorem State.setFront_edge (s : State) (x : FrontSt) : (s.setFront x).edge = s.edge := rfl
@[simp] theorem State.setFront_mogil (s : State) (x : FrontSt) : (s.setFront x).mogil = s.mogil := rfl
@[simp] theorem State.setFront_mem (s : State) (x : FrontSt) : (s.setFront x).mem = s.mem := rfl
@[simp] theorem State.setFront_fab (s : State) (x : FrontSt) : (s.setFront x).fab = s.fab := rfl
@[simp] theorem State.setFront_host (s : State) (x : FrontSt) : (s.setFront x).host = s.host := rfl
@[simp] theorem State.setFront_parts (s : State) (x : FrontSt) : (s.setFront x).parts = s.parts := rfl
@[simp] theorem State.setFront_pot (s : State) (x : FrontSt) : (s.setFront x).pot = s.pot := rfl
@[simp] theorem State.setFront_sec (s : State) (x : FrontSt) : (s.setFront x).sec = s.sec := rfl
@[simp] theorem State.setFront_power (s : State) (x : FrontSt) : (s.setFront x).power = s.power := rfl
@[simp] theorem State.setFront_res (s : State) (x : FrontSt) : (s.setFront x).res = s.res := rfl
@[simp] theorem State.setFront_pins (s : State) (x : FrontSt) : (s.setFront x).pins = s.pins := rfl
@[simp] theorem State.setFront_alarms (s : State) (x : FrontSt) : (s.setFront x).alarms = s.alarms := rfl

/-! ### setDomain -/

@[simp] theorem State.setDomain_pending (s : State) (d : Nat) (x : Domain) : (s.setDomain d x).pending = s.pending := rfl
@[simp] theorem State.setDomain_reply (s : State) (d : Nat) (x : Domain) : (s.setDomain d x).reply = s.reply := rfl
@[simp] theorem State.setDomain_freeCtr (s : State) (d : Nat) (x : Domain) : (s.setDomain d x).freeCtr = s.freeCtr := rfl
@[simp] theorem State.setDomain_mode (s : State) (d : Nat) (x : Domain) : (s.setDomain d x).mode = s.mode := rfl
@[simp] theorem State.setDomain_dict (s : State) (d : Nat) (x : Domain) : (s.setDomain d x).dict = s.dict := rfl
@[simp] theorem State.setDomain_time (s : State) (d : Nat) (x : Domain) : (s.setDomain d x).time = s.time := rfl
@[simp] theorem State.setDomain_galley (s : State) (d : Nat) (x : Domain) : (s.setDomain d x).galley = s.galley := rfl
@[simp] theorem State.setDomain_vx (s : State) (d : Nat) (x : Domain) : (s.setDomain d x).vx = s.vx := rfl
@[simp] theorem State.setDomain_edge (s : State) (d : Nat) (x : Domain) : (s.setDomain d x).edge = s.edge := rfl
@[simp] theorem State.setDomain_front (s : State) (d : Nat) (x : Domain) : (s.setDomain d x).front = s.front := rfl
@[simp] theorem State.setDomain_mogil (s : State) (d : Nat) (x : Domain) : (s.setDomain d x).mogil = s.mogil := rfl
@[simp] theorem State.setDomain_mem (s : State) (d : Nat) (x : Domain) : (s.setDomain d x).mem = s.mem := rfl
@[simp] theorem State.setDomain_host (s : State) (d : Nat) (x : Domain) : (s.setDomain d x).host = s.host := rfl
@[simp] theorem State.setDomain_parts (s : State) (d : Nat) (x : Domain) : (s.setDomain d x).parts = s.parts := rfl
@[simp] theorem State.setDomain_pot (s : State) (d : Nat) (x : Domain) : (s.setDomain d x).pot = s.pot := rfl
@[simp] theorem State.setDomain_sec (s : State) (d : Nat) (x : Domain) : (s.setDomain d x).sec = s.sec := rfl
@[simp] theorem State.setDomain_power (s : State) (d : Nat) (x : Domain) : (s.setDomain d x).power = s.power := rfl
@[simp] theorem State.setDomain_res (s : State) (d : Nat) (x : Domain) : (s.setDomain d x).res = s.res := rfl
@[simp] theorem State.setDomain_pins (s : State) (d : Nat) (x : Domain) : (s.setDomain d x).pins = s.pins := rfl
@[simp] theorem State.setDomain_alarms (s : State) (d : Nat) (x : Domain) : (s.setDomain d x).alarms = s.alarms := rfl

/-! ### setUnit -/

@[simp] theorem State.setUnit_pending (s : State) (cls u : Nat) (x : UnitSt) : (s.setUnit cls u x).pending = s.pending := rfl
@[simp] theorem State.setUnit_reply (s : State) (cls u : Nat) (x : UnitSt) : (s.setUnit cls u x).reply = s.reply := rfl
@[simp] theorem State.setUnit_freeCtr (s : State) (cls u : Nat) (x : UnitSt) : (s.setUnit cls u x).freeCtr = s.freeCtr := rfl
@[simp] theorem State.setUnit_mode (s : State) (cls u : Nat) (x : UnitSt) : (s.setUnit cls u x).mode = s.mode := rfl
@[simp] theorem State.setUnit_dict (s : State) (cls u : Nat) (x : UnitSt) : (s.setUnit cls u x).dict = s.dict := rfl
@[simp] theorem State.setUnit_time (s : State) (cls u : Nat) (x : UnitSt) : (s.setUnit cls u x).time = s.time := rfl
@[simp] theorem State.setUnit_vx (s : State) (cls u : Nat) (x : UnitSt) : (s.setUnit cls u x).vx = s.vx := rfl
@[simp] theorem State.setUnit_edge (s : State) (cls u : Nat) (x : UnitSt) : (s.setUnit cls u x).edge = s.edge := rfl
@[simp] theorem State.setUnit_front (s : State) (cls u : Nat) (x : UnitSt) : (s.setUnit cls u x).front = s.front := rfl
@[simp] theorem State.setUnit_mogil (s : State) (cls u : Nat) (x : UnitSt) : (s.setUnit cls u x).mogil = s.mogil := rfl
@[simp] theorem State.setUnit_mem (s : State) (cls u : Nat) (x : UnitSt) : (s.setUnit cls u x).mem = s.mem := rfl
@[simp] theorem State.setUnit_fab (s : State) (cls u : Nat) (x : UnitSt) : (s.setUnit cls u x).fab = s.fab := rfl
@[simp] theorem State.setUnit_host (s : State) (cls u : Nat) (x : UnitSt) : (s.setUnit cls u x).host = s.host := rfl
@[simp] theorem State.setUnit_parts (s : State) (cls u : Nat) (x : UnitSt) : (s.setUnit cls u x).parts = s.parts := rfl
@[simp] theorem State.setUnit_pot (s : State) (cls u : Nat) (x : UnitSt) : (s.setUnit cls u x).pot = s.pot := rfl
@[simp] theorem State.setUnit_sec (s : State) (cls u : Nat) (x : UnitSt) : (s.setUnit cls u x).sec = s.sec := rfl
@[simp] theorem State.setUnit_power (s : State) (cls u : Nat) (x : UnitSt) : (s.setUnit cls u x).power = s.power := rfl
@[simp] theorem State.setUnit_res (s : State) (cls u : Nat) (x : UnitSt) : (s.setUnit cls u x).res = s.res := rfl
@[simp] theorem State.setUnit_pins (s : State) (cls u : Nat) (x : UnitSt) : (s.setUnit cls u x).pins = s.pins := rfl
@[simp] theorem State.setUnit_alarms (s : State) (cls u : Nat) (x : UnitSt) : (s.setUnit cls u x).alarms = s.alarms := rfl

/-! ### setSlug -/

@[simp] theorem State.setSlug_pending (s : State) (h : Nat) (x : Slug) : (s.setSlug h x).pending = s.pending := rfl
@[simp] theorem State.setSlug_reply (s : State) (h : Nat) (x : Slug) : (s.setSlug h x).reply = s.reply := rfl
@[simp] theorem State.setSlug_freeCtr (s : State) (h : Nat) (x : Slug) : (s.setSlug h x).freeCtr = s.freeCtr := rfl
@[simp] theorem State.setSlug_mode (s : State) (h : Nat) (x : Slug) : (s.setSlug h x).mode = s.mode := rfl
@[simp] theorem State.setSlug_dict (s : State) (h : Nat) (x : Slug) : (s.setSlug h x).dict = s.dict := rfl
@[simp] theorem State.setSlug_time (s : State) (h : Nat) (x : Slug) : (s.setSlug h x).time = s.time := rfl
@[simp] theorem State.setSlug_vx (s : State) (h : Nat) (x : Slug) : (s.setSlug h x).vx = s.vx := rfl
@[simp] theorem State.setSlug_edge (s : State) (h : Nat) (x : Slug) : (s.setSlug h x).edge = s.edge := rfl
@[simp] theorem State.setSlug_front (s : State) (h : Nat) (x : Slug) : (s.setSlug h x).front = s.front := rfl
@[simp] theorem State.setSlug_mogil (s : State) (h : Nat) (x : Slug) : (s.setSlug h x).mogil = s.mogil := rfl
@[simp] theorem State.setSlug_mem (s : State) (h : Nat) (x : Slug) : (s.setSlug h x).mem = s.mem := rfl
@[simp] theorem State.setSlug_fab (s : State) (h : Nat) (x : Slug) : (s.setSlug h x).fab = s.fab := rfl
@[simp] theorem State.setSlug_host (s : State) (h : Nat) (x : Slug) : (s.setSlug h x).host = s.host := rfl
@[simp] theorem State.setSlug_parts (s : State) (h : Nat) (x : Slug) : (s.setSlug h x).parts = s.parts := rfl
@[simp] theorem State.setSlug_pot (s : State) (h : Nat) (x : Slug) : (s.setSlug h x).pot = s.pot := rfl
@[simp] theorem State.setSlug_sec (s : State) (h : Nat) (x : Slug) : (s.setSlug h x).sec = s.sec := rfl
@[simp] theorem State.setSlug_power (s : State) (h : Nat) (x : Slug) : (s.setSlug h x).power = s.power := rfl
@[simp] theorem State.setSlug_res (s : State) (h : Nat) (x : Slug) : (s.setSlug h x).res = s.res := rfl
@[simp] theorem State.setSlug_pins (s : State) (h : Nat) (x : Slug) : (s.setSlug h x).pins = s.pins := rfl
@[simp] theorem State.setSlug_alarms (s : State) (h : Nat) (x : Slug) : (s.setSlug h x).alarms = s.alarms := rfl

/-! ### setImp -/

@[simp] theorem State.setImp_pending (s : State) (q : Nat) (x : Impression) : (s.setImp q x).pending = s.pending := rfl
@[simp] theorem State.setImp_reply (s : State) (q : Nat) (x : Impression) : (s.setImp q x).reply = s.reply := rfl
@[simp] theorem State.setImp_freeCtr (s : State) (q : Nat) (x : Impression) : (s.setImp q x).freeCtr = s.freeCtr := rfl
@[simp] theorem State.setImp_mode (s : State) (q : Nat) (x : Impression) : (s.setImp q x).mode = s.mode := rfl
@[simp] theorem State.setImp_dict (s : State) (q : Nat) (x : Impression) : (s.setImp q x).dict = s.dict := rfl
@[simp] theorem State.setImp_time (s : State) (q : Nat) (x : Impression) : (s.setImp q x).time = s.time := rfl
@[simp] theorem State.setImp_vx (s : State) (q : Nat) (x : Impression) : (s.setImp q x).vx = s.vx := rfl
@[simp] theorem State.setImp_edge (s : State) (q : Nat) (x : Impression) : (s.setImp q x).edge = s.edge := rfl
@[simp] theorem State.setImp_front (s : State) (q : Nat) (x : Impression) : (s.setImp q x).front = s.front := rfl
@[simp] theorem State.setImp_mogil (s : State) (q : Nat) (x : Impression) : (s.setImp q x).mogil = s.mogil := rfl
@[simp] theorem State.setImp_mem (s : State) (q : Nat) (x : Impression) : (s.setImp q x).mem = s.mem := rfl
@[simp] theorem State.setImp_fab (s : State) (q : Nat) (x : Impression) : (s.setImp q x).fab = s.fab := rfl
@[simp] theorem State.setImp_host (s : State) (q : Nat) (x : Impression) : (s.setImp q x).host = s.host := rfl
@[simp] theorem State.setImp_parts (s : State) (q : Nat) (x : Impression) : (s.setImp q x).parts = s.parts := rfl
@[simp] theorem State.setImp_pot (s : State) (q : Nat) (x : Impression) : (s.setImp q x).pot = s.pot := rfl
@[simp] theorem State.setImp_sec (s : State) (q : Nat) (x : Impression) : (s.setImp q x).sec = s.sec := rfl
@[simp] theorem State.setImp_power (s : State) (q : Nat) (x : Impression) : (s.setImp q x).power = s.power := rfl
@[simp] theorem State.setImp_res (s : State) (q : Nat) (x : Impression) : (s.setImp q x).res = s.res := rfl
@[simp] theorem State.setImp_pins (s : State) (q : Nat) (x : Impression) : (s.setImp q x).pins = s.pins := rfl
@[simp] theorem State.setImp_alarms (s : State) (q : Nat) (x : Impression) : (s.setImp q x).alarms = s.alarms := rfl

/-! ### setHamper -/

@[simp] theorem State.setHamper_pending (s : State) (n : Nat) (h : Hamper) : (s.setHamper n h).pending = s.pending := rfl
@[simp] theorem State.setHamper_reply (s : State) (n : Nat) (h : Hamper) : (s.setHamper n h).reply = s.reply := rfl
@[simp] theorem State.setHamper_freeCtr (s : State) (n : Nat) (h : Hamper) : (s.setHamper n h).freeCtr = s.freeCtr := rfl
@[simp] theorem State.setHamper_mode (s : State) (n : Nat) (h : Hamper) : (s.setHamper n h).mode = s.mode := rfl
@[simp] theorem State.setHamper_dict (s : State) (n : Nat) (h : Hamper) : (s.setHamper n h).dict = s.dict := rfl
@[simp] theorem State.setHamper_time (s : State) (n : Nat) (h : Hamper) : (s.setHamper n h).time = s.time := rfl
@[simp] theorem State.setHamper_galley (s : State) (n : Nat) (h : Hamper) : (s.setHamper n h).galley = s.galley := rfl
@[simp] theorem State.setHamper_vx (s : State) (n : Nat) (h : Hamper) : (s.setHamper n h).vx = s.vx := rfl
@[simp] theorem State.setHamper_edge (s : State) (n : Nat) (h : Hamper) : (s.setHamper n h).edge = s.edge := rfl
@[simp] theorem State.setHamper_front (s : State) (n : Nat) (h : Hamper) : (s.setHamper n h).front = s.front := rfl
@[simp] theorem State.setHamper_mogil (s : State) (n : Nat) (h : Hamper) : (s.setHamper n h).mogil = s.mogil := rfl
@[simp] theorem State.setHamper_mem (s : State) (n : Nat) (h : Hamper) : (s.setHamper n h).mem = s.mem := rfl
@[simp] theorem State.setHamper_host (s : State) (n : Nat) (h : Hamper) : (s.setHamper n h).host = s.host := rfl
@[simp] theorem State.setHamper_parts (s : State) (n : Nat) (h : Hamper) : (s.setHamper n h).parts = s.parts := rfl
@[simp] theorem State.setHamper_pot (s : State) (n : Nat) (h : Hamper) : (s.setHamper n h).pot = s.pot := rfl
@[simp] theorem State.setHamper_sec (s : State) (n : Nat) (h : Hamper) : (s.setHamper n h).sec = s.sec := rfl
@[simp] theorem State.setHamper_power (s : State) (n : Nat) (h : Hamper) : (s.setHamper n h).power = s.power := rfl
@[simp] theorem State.setHamper_res (s : State) (n : Nat) (h : Hamper) : (s.setHamper n h).res = s.res := rfl
@[simp] theorem State.setHamper_pins (s : State) (n : Nat) (h : Hamper) : (s.setHamper n h).pins = s.pins := rfl
@[simp] theorem State.setHamper_alarms (s : State) (n : Nat) (h : Hamper) : (s.setHamper n h).alarms = s.alarms := rfl

/-! ### setHost -/

@[simp] theorem State.setHost_pending (s : State) (h : HostSt) : (s.setHost h).pending = s.pending := rfl
@[simp] theorem State.setHost_reply (s : State) (h : HostSt) : (s.setHost h).reply = s.reply := rfl
@[simp] theorem State.setHost_freeCtr (s : State) (h : HostSt) : (s.setHost h).freeCtr = s.freeCtr := rfl
@[simp] theorem State.setHost_mode (s : State) (h : HostSt) : (s.setHost h).mode = s.mode := rfl
@[simp] theorem State.setHost_dict (s : State) (h : HostSt) : (s.setHost h).dict = s.dict := rfl
@[simp] theorem State.setHost_time (s : State) (h : HostSt) : (s.setHost h).time = s.time := rfl
@[simp] theorem State.setHost_galley (s : State) (h : HostSt) : (s.setHost h).galley = s.galley := rfl
@[simp] theorem State.setHost_vx (s : State) (h : HostSt) : (s.setHost h).vx = s.vx := rfl
@[simp] theorem State.setHost_edge (s : State) (h : HostSt) : (s.setHost h).edge = s.edge := rfl
@[simp] theorem State.setHost_front (s : State) (h : HostSt) : (s.setHost h).front = s.front := rfl
@[simp] theorem State.setHost_mogil (s : State) (h : HostSt) : (s.setHost h).mogil = s.mogil := rfl
@[simp] theorem State.setHost_mem (s : State) (h : HostSt) : (s.setHost h).mem = s.mem := rfl
@[simp] theorem State.setHost_fab (s : State) (h : HostSt) : (s.setHost h).fab = s.fab := rfl
@[simp] theorem State.setHost_parts (s : State) (h : HostSt) : (s.setHost h).parts = s.parts := rfl
@[simp] theorem State.setHost_pot (s : State) (h : HostSt) : (s.setHost h).pot = s.pot := rfl
@[simp] theorem State.setHost_sec (s : State) (h : HostSt) : (s.setHost h).sec = s.sec := rfl
@[simp] theorem State.setHost_power (s : State) (h : HostSt) : (s.setHost h).power = s.power := rfl
@[simp] theorem State.setHost_res (s : State) (h : HostSt) : (s.setHost h).res = s.res := rfl
@[simp] theorem State.setHost_pins (s : State) (h : HostSt) : (s.setHost h).pins = s.pins := rfl
@[simp] theorem State.setHost_alarms (s : State) (h : HostSt) : (s.setHost h).alarms = s.alarms := rfl

/-! ### setHostJob -/

@[simp] theorem State.setHostJob_pending (s : State) (h : Nat) (j : Job) : (s.setHostJob h j).pending = s.pending := rfl
@[simp] theorem State.setHostJob_reply (s : State) (h : Nat) (j : Job) : (s.setHostJob h j).reply = s.reply := rfl
@[simp] theorem State.setHostJob_freeCtr (s : State) (h : Nat) (j : Job) : (s.setHostJob h j).freeCtr = s.freeCtr := rfl
@[simp] theorem State.setHostJob_mode (s : State) (h : Nat) (j : Job) : (s.setHostJob h j).mode = s.mode := rfl
@[simp] theorem State.setHostJob_dict (s : State) (h : Nat) (j : Job) : (s.setHostJob h j).dict = s.dict := rfl
@[simp] theorem State.setHostJob_time (s : State) (h : Nat) (j : Job) : (s.setHostJob h j).time = s.time := rfl
@[simp] theorem State.setHostJob_galley (s : State) (h : Nat) (j : Job) : (s.setHostJob h j).galley = s.galley := rfl
@[simp] theorem State.setHostJob_vx (s : State) (h : Nat) (j : Job) : (s.setHostJob h j).vx = s.vx := rfl
@[simp] theorem State.setHostJob_front (s : State) (h : Nat) (j : Job) : (s.setHostJob h j).front = s.front := rfl
@[simp] theorem State.setHostJob_mogil (s : State) (h : Nat) (j : Job) : (s.setHostJob h j).mogil = s.mogil := rfl
@[simp] theorem State.setHostJob_mem (s : State) (h : Nat) (j : Job) : (s.setHostJob h j).mem = s.mem := rfl
@[simp] theorem State.setHostJob_fab (s : State) (h : Nat) (j : Job) : (s.setHostJob h j).fab = s.fab := rfl
@[simp] theorem State.setHostJob_host (s : State) (h : Nat) (j : Job) : (s.setHostJob h j).host = s.host := rfl
@[simp] theorem State.setHostJob_parts (s : State) (h : Nat) (j : Job) : (s.setHostJob h j).parts = s.parts := rfl
@[simp] theorem State.setHostJob_pot (s : State) (h : Nat) (j : Job) : (s.setHostJob h j).pot = s.pot := rfl
@[simp] theorem State.setHostJob_sec (s : State) (h : Nat) (j : Job) : (s.setHostJob h j).sec = s.sec := rfl
@[simp] theorem State.setHostJob_power (s : State) (h : Nat) (j : Job) : (s.setHostJob h j).power = s.power := rfl
@[simp] theorem State.setHostJob_res (s : State) (h : Nat) (j : Job) : (s.setHostJob h j).res = s.res := rfl
@[simp] theorem State.setHostJob_pins (s : State) (h : Nat) (j : Job) : (s.setHostJob h j).pins = s.pins := rfl
@[simp] theorem State.setHostJob_alarms (s : State) (h : Nat) (j : Job) : (s.setHostJob h j).alarms = s.alarms := rfl

/-! ### setMode -/

@[simp] theorem State.setMode_pending (s : State) (m : ModeSt) : (s.setMode m).pending = s.pending := rfl
@[simp] theorem State.setMode_reply (s : State) (m : ModeSt) : (s.setMode m).reply = s.reply := rfl
@[simp] theorem State.setMode_freeCtr (s : State) (m : ModeSt) : (s.setMode m).freeCtr = s.freeCtr := rfl
@[simp] theorem State.setMode_dict (s : State) (m : ModeSt) : (s.setMode m).dict = s.dict := rfl
@[simp] theorem State.setMode_time (s : State) (m : ModeSt) : (s.setMode m).time = s.time := rfl
@[simp] theorem State.setMode_galley (s : State) (m : ModeSt) : (s.setMode m).galley = s.galley := rfl
@[simp] theorem State.setMode_vx (s : State) (m : ModeSt) : (s.setMode m).vx = s.vx := rfl
@[simp] theorem State.setMode_edge (s : State) (m : ModeSt) : (s.setMode m).edge = s.edge := rfl
@[simp] theorem State.setMode_front (s : State) (m : ModeSt) : (s.setMode m).front = s.front := rfl
@[simp] theorem State.setMode_mogil (s : State) (m : ModeSt) : (s.setMode m).mogil = s.mogil := rfl
@[simp] theorem State.setMode_mem (s : State) (m : ModeSt) : (s.setMode m).mem = s.mem := rfl
@[simp] theorem State.setMode_fab (s : State) (m : ModeSt) : (s.setMode m).fab = s.fab := rfl
@[simp] theorem State.setMode_host (s : State) (m : ModeSt) : (s.setMode m).host = s.host := rfl
@[simp] theorem State.setMode_parts (s : State) (m : ModeSt) : (s.setMode m).parts = s.parts := rfl
@[simp] theorem State.setMode_pot (s : State) (m : ModeSt) : (s.setMode m).pot = s.pot := rfl
@[simp] theorem State.setMode_sec (s : State) (m : ModeSt) : (s.setMode m).sec = s.sec := rfl
@[simp] theorem State.setMode_power (s : State) (m : ModeSt) : (s.setMode m).power = s.power := rfl
@[simp] theorem State.setMode_res (s : State) (m : ModeSt) : (s.setMode m).res = s.res := rfl
@[simp] theorem State.setMode_pins (s : State) (m : ModeSt) : (s.setMode m).pins = s.pins := rfl
@[simp] theorem State.setMode_alarms (s : State) (m : ModeSt) : (s.setMode m).alarms = s.alarms := rfl

/-! ### setMogil -/

@[simp] theorem State.setMogil_pending (s : State) (m : MogilSt) : (s.setMogil m).pending = s.pending := rfl
@[simp] theorem State.setMogil_reply (s : State) (m : MogilSt) : (s.setMogil m).reply = s.reply := rfl
@[simp] theorem State.setMogil_freeCtr (s : State) (m : MogilSt) : (s.setMogil m).freeCtr = s.freeCtr := rfl
@[simp] theorem State.setMogil_mode (s : State) (m : MogilSt) : (s.setMogil m).mode = s.mode := rfl
@[simp] theorem State.setMogil_dict (s : State) (m : MogilSt) : (s.setMogil m).dict = s.dict := rfl
@[simp] theorem State.setMogil_time (s : State) (m : MogilSt) : (s.setMogil m).time = s.time := rfl
@[simp] theorem State.setMogil_galley (s : State) (m : MogilSt) : (s.setMogil m).galley = s.galley := rfl
@[simp] theorem State.setMogil_vx (s : State) (m : MogilSt) : (s.setMogil m).vx = s.vx := rfl
@[simp] theorem State.setMogil_edge (s : State) (m : MogilSt) : (s.setMogil m).edge = s.edge := rfl
@[simp] theorem State.setMogil_front (s : State) (m : MogilSt) : (s.setMogil m).front = s.front := rfl
@[simp] theorem State.setMogil_mem (s : State) (m : MogilSt) : (s.setMogil m).mem = s.mem := rfl
@[simp] theorem State.setMogil_fab (s : State) (m : MogilSt) : (s.setMogil m).fab = s.fab := rfl
@[simp] theorem State.setMogil_host (s : State) (m : MogilSt) : (s.setMogil m).host = s.host := rfl
@[simp] theorem State.setMogil_parts (s : State) (m : MogilSt) : (s.setMogil m).parts = s.parts := rfl
@[simp] theorem State.setMogil_pot (s : State) (m : MogilSt) : (s.setMogil m).pot = s.pot := rfl
@[simp] theorem State.setMogil_sec (s : State) (m : MogilSt) : (s.setMogil m).sec = s.sec := rfl
@[simp] theorem State.setMogil_power (s : State) (m : MogilSt) : (s.setMogil m).power = s.power := rfl
@[simp] theorem State.setMogil_res (s : State) (m : MogilSt) : (s.setMogil m).res = s.res := rfl
@[simp] theorem State.setMogil_pins (s : State) (m : MogilSt) : (s.setMogil m).pins = s.pins := rfl
@[simp] theorem State.setMogil_alarms (s : State) (m : MogilSt) : (s.setMogil m).alarms = s.alarms := rfl

/-! ### setGrp -/

@[simp] theorem State.setGrp_pending (s : State) (g : Nat) (x : Group) : (s.setGrp g x).pending = s.pending := rfl
@[simp] theorem State.setGrp_reply (s : State) (g : Nat) (x : Group) : (s.setGrp g x).reply = s.reply := rfl
@[simp] theorem State.setGrp_freeCtr (s : State) (g : Nat) (x : Group) : (s.setGrp g x).freeCtr = s.freeCtr := rfl
@[simp] theorem State.setGrp_mode (s : State) (g : Nat) (x : Group) : (s.setGrp g x).mode = s.mode := rfl
@[simp] theorem State.setGrp_dict (s : State) (g : Nat) (x : Group) : (s.setGrp g x).dict = s.dict := rfl
@[simp] theorem State.setGrp_time (s : State) (g : Nat) (x : Group) : (s.setGrp g x).time = s.time := rfl
@[simp] theorem State.setGrp_galley (s : State) (g : Nat) (x : Group) : (s.setGrp g x).galley = s.galley := rfl
@[simp] theorem State.setGrp_vx (s : State) (g : Nat) (x : Group) : (s.setGrp g x).vx = s.vx := rfl
@[simp] theorem State.setGrp_edge (s : State) (g : Nat) (x : Group) : (s.setGrp g x).edge = s.edge := rfl
@[simp] theorem State.setGrp_front (s : State) (g : Nat) (x : Group) : (s.setGrp g x).front = s.front := rfl
@[simp] theorem State.setGrp_mem (s : State) (g : Nat) (x : Group) : (s.setGrp g x).mem = s.mem := rfl
@[simp] theorem State.setGrp_fab (s : State) (g : Nat) (x : Group) : (s.setGrp g x).fab = s.fab := rfl
@[simp] theorem State.setGrp_host (s : State) (g : Nat) (x : Group) : (s.setGrp g x).host = s.host := rfl
@[simp] theorem State.setGrp_parts (s : State) (g : Nat) (x : Group) : (s.setGrp g x).parts = s.parts := rfl
@[simp] theorem State.setGrp_pot (s : State) (g : Nat) (x : Group) : (s.setGrp g x).pot = s.pot := rfl
@[simp] theorem State.setGrp_sec (s : State) (g : Nat) (x : Group) : (s.setGrp g x).sec = s.sec := rfl
@[simp] theorem State.setGrp_power (s : State) (g : Nat) (x : Group) : (s.setGrp g x).power = s.power := rfl
@[simp] theorem State.setGrp_res (s : State) (g : Nat) (x : Group) : (s.setGrp g x).res = s.res := rfl
@[simp] theorem State.setGrp_pins (s : State) (g : Nat) (x : Group) : (s.setGrp g x).pins = s.pins := rfl
@[simp] theorem State.setGrp_alarms (s : State) (g : Nat) (x : Group) : (s.setGrp g x).alarms = s.alarms := rfl

/-! ### withVal -/

@[simp] theorem State.withVal_pending (s : State) (t : Tab Int) : (s.withVal t).pending = s.pending := rfl
@[simp] theorem State.withVal_reply (s : State) (t : Tab Int) : (s.withVal t).reply = s.reply := rfl
@[simp] theorem State.withVal_freeCtr (s : State) (t : Tab Int) : (s.withVal t).freeCtr = s.freeCtr := rfl
@[simp] theorem State.withVal_mode (s : State) (t : Tab Int) : (s.withVal t).mode = s.mode := rfl
@[simp] theorem State.withVal_time (s : State) (t : Tab Int) : (s.withVal t).time = s.time := rfl
@[simp] theorem State.withVal_galley (s : State) (t : Tab Int) : (s.withVal t).galley = s.galley := rfl
@[simp] theorem State.withVal_vx (s : State) (t : Tab Int) : (s.withVal t).vx = s.vx := rfl
@[simp] theorem State.withVal_edge (s : State) (t : Tab Int) : (s.withVal t).edge = s.edge := rfl
@[simp] theorem State.withVal_front (s : State) (t : Tab Int) : (s.withVal t).front = s.front := rfl
@[simp] theorem State.withVal_mogil (s : State) (t : Tab Int) : (s.withVal t).mogil = s.mogil := rfl
@[simp] theorem State.withVal_mem (s : State) (t : Tab Int) : (s.withVal t).mem = s.mem := rfl
@[simp] theorem State.withVal_fab (s : State) (t : Tab Int) : (s.withVal t).fab = s.fab := rfl
@[simp] theorem State.withVal_host (s : State) (t : Tab Int) : (s.withVal t).host = s.host := rfl
@[simp] theorem State.withVal_parts (s : State) (t : Tab Int) : (s.withVal t).parts = s.parts := rfl
@[simp] theorem State.withVal_pot (s : State) (t : Tab Int) : (s.withVal t).pot = s.pot := rfl
@[simp] theorem State.withVal_sec (s : State) (t : Tab Int) : (s.withVal t).sec = s.sec := rfl
@[simp] theorem State.withVal_power (s : State) (t : Tab Int) : (s.withVal t).power = s.power := rfl
@[simp] theorem State.withVal_res (s : State) (t : Tab Int) : (s.withVal t).res = s.res := rfl
@[simp] theorem State.withVal_pins (s : State) (t : Tab Int) : (s.withVal t).pins = s.pins := rfl
@[simp] theorem State.withVal_alarms (s : State) (t : Tab Int) : (s.withVal t).alarms = s.alarms := rfl

/-! ### take -/

@[simp] theorem State.take_pending (s : State) (o : Obj) (item : Nat) : (s.take o item).pending = s.pending := rfl
@[simp] theorem State.take_reply (s : State) (o : Obj) (item : Nat) : (s.take o item).reply = s.reply := rfl
@[simp] theorem State.take_freeCtr (s : State) (o : Obj) (item : Nat) : (s.take o item).freeCtr = s.freeCtr := rfl
@[simp] theorem State.take_mode (s : State) (o : Obj) (item : Nat) : (s.take o item).mode = s.mode := rfl
@[simp] theorem State.take_time (s : State) (o : Obj) (item : Nat) : (s.take o item).time = s.time := rfl
@[simp] theorem State.take_galley (s : State) (o : Obj) (item : Nat) : (s.take o item).galley = s.galley := rfl
@[simp] theorem State.take_vx (s : State) (o : Obj) (item : Nat) : (s.take o item).vx = s.vx := rfl
@[simp] theorem State.take_edge (s : State) (o : Obj) (item : Nat) : (s.take o item).edge = s.edge := rfl
@[simp] theorem State.take_front (s : State) (o : Obj) (item : Nat) : (s.take o item).front = s.front := rfl
@[simp] theorem State.take_mogil (s : State) (o : Obj) (item : Nat) : (s.take o item).mogil = s.mogil := rfl
@[simp] theorem State.take_mem (s : State) (o : Obj) (item : Nat) : (s.take o item).mem = s.mem := rfl
@[simp] theorem State.take_fab (s : State) (o : Obj) (item : Nat) : (s.take o item).fab = s.fab := rfl
@[simp] theorem State.take_host (s : State) (o : Obj) (item : Nat) : (s.take o item).host = s.host := rfl
@[simp] theorem State.take_parts (s : State) (o : Obj) (item : Nat) : (s.take o item).parts = s.parts := rfl
@[simp] theorem State.take_pot (s : State) (o : Obj) (item : Nat) : (s.take o item).pot = s.pot := rfl
@[simp] theorem State.take_sec (s : State) (o : Obj) (item : Nat) : (s.take o item).sec = s.sec := rfl
@[simp] theorem State.take_power (s : State) (o : Obj) (item : Nat) : (s.take o item).power = s.power := rfl
@[simp] theorem State.take_res (s : State) (o : Obj) (item : Nat) : (s.take o item).res = s.res := rfl
@[simp] theorem State.take_pins (s : State) (o : Obj) (item : Nat) : (s.take o item).pins = s.pins := rfl
@[simp] theorem State.take_alarms (s : State) (o : Obj) (item : Nat) : (s.take o item).alarms = s.alarms := rfl

/-! ### setOct -/

@[simp] theorem State.setOct_pending (s : State) (o : Obj) (item : Nat) (b : List Byte) : (s.setOct o item b).pending = s.pending := rfl
@[simp] theorem State.setOct_reply (s : State) (o : Obj) (item : Nat) (b : List Byte) : (s.setOct o item b).reply = s.reply := rfl
@[simp] theorem State.setOct_freeCtr (s : State) (o : Obj) (item : Nat) (b : List Byte) : (s.setOct o item b).freeCtr = s.freeCtr := rfl
@[simp] theorem State.setOct_mode (s : State) (o : Obj) (item : Nat) (b : List Byte) : (s.setOct o item b).mode = s.mode := rfl
@[simp] theorem State.setOct_time (s : State) (o : Obj) (item : Nat) (b : List Byte) : (s.setOct o item b).time = s.time := rfl
@[simp] theorem State.setOct_galley (s : State) (o : Obj) (item : Nat) (b : List Byte) : (s.setOct o item b).galley = s.galley := rfl
@[simp] theorem State.setOct_vx (s : State) (o : Obj) (item : Nat) (b : List Byte) : (s.setOct o item b).vx = s.vx := rfl
@[simp] theorem State.setOct_edge (s : State) (o : Obj) (item : Nat) (b : List Byte) : (s.setOct o item b).edge = s.edge := rfl
@[simp] theorem State.setOct_front (s : State) (o : Obj) (item : Nat) (b : List Byte) : (s.setOct o item b).front = s.front := rfl
@[simp] theorem State.setOct_mogil (s : State) (o : Obj) (item : Nat) (b : List Byte) : (s.setOct o item b).mogil = s.mogil := rfl
@[simp] theorem State.setOct_mem (s : State) (o : Obj) (item : Nat) (b : List Byte) : (s.setOct o item b).mem = s.mem := rfl
@[simp] theorem State.setOct_fab (s : State) (o : Obj) (item : Nat) (b : List Byte) : (s.setOct o item b).fab = s.fab := rfl
@[simp] theorem State.setOct_host (s : State) (o : Obj) (item : Nat) (b : List Byte) : (s.setOct o item b).host = s.host := rfl
@[simp] theorem State.setOct_parts (s : State) (o : Obj) (item : Nat) (b : List Byte) : (s.setOct o item b).parts = s.parts := rfl
@[simp] theorem State.setOct_pot (s : State) (o : Obj) (item : Nat) (b : List Byte) : (s.setOct o item b).pot = s.pot := rfl
@[simp] theorem State.setOct_sec (s : State) (o : Obj) (item : Nat) (b : List Byte) : (s.setOct o item b).sec = s.sec := rfl
@[simp] theorem State.setOct_power (s : State) (o : Obj) (item : Nat) (b : List Byte) : (s.setOct o item b).power = s.power := rfl
@[simp] theorem State.setOct_res (s : State) (o : Obj) (item : Nat) (b : List Byte) : (s.setOct o item b).res = s.res := rfl
@[simp] theorem State.setOct_pins (s : State) (o : Obj) (item : Nat) (b : List Byte) : (s.setOct o item b).pins = s.pins := rfl
@[simp] theorem State.setOct_alarms (s : State) (o : Obj) (item : Nat) (b : List Byte) : (s.setOct o item b).alarms = s.alarms := rfl

/-! ### storeB -/

@[simp] theorem State.storeB_pending (s : State) (a : Nat) (b : List Byte) : (s.storeB a b).pending = s.pending := rfl
@[simp] theorem State.storeB_reply (s : State) (a : Nat) (b : List Byte) : (s.storeB a b).reply = s.reply := rfl
@[simp] theorem State.storeB_freeCtr (s : State) (a : Nat) (b : List Byte) : (s.storeB a b).freeCtr = s.freeCtr := rfl
@[simp] theorem State.storeB_mode (s : State) (a : Nat) (b : List Byte) : (s.storeB a b).mode = s.mode := rfl
@[simp] theorem State.storeB_dict (s : State) (a : Nat) (b : List Byte) : (s.storeB a b).dict = s.dict := rfl
@[simp] theorem State.storeB_time (s : State) (a : Nat) (b : List Byte) : (s.storeB a b).time = s.time := rfl
@[simp] theorem State.storeB_galley (s : State) (a : Nat) (b : List Byte) : (s.storeB a b).galley = s.galley := rfl
@[simp] theorem State.storeB_vx (s : State) (a : Nat) (b : List Byte) : (s.storeB a b).vx = s.vx := rfl
@[simp] theorem State.storeB_edge (s : State) (a : Nat) (b : List Byte) : (s.storeB a b).edge = s.edge := rfl
@[simp] theorem State.storeB_front (s : State) (a : Nat) (b : List Byte) : (s.storeB a b).front = s.front := rfl
@[simp] theorem State.storeB_mogil (s : State) (a : Nat) (b : List Byte) : (s.storeB a b).mogil = s.mogil := rfl
@[simp] theorem State.storeB_fab (s : State) (a : Nat) (b : List Byte) : (s.storeB a b).fab = s.fab := rfl
@[simp] theorem State.storeB_host (s : State) (a : Nat) (b : List Byte) : (s.storeB a b).host = s.host := rfl
@[simp] theorem State.storeB_parts (s : State) (a : Nat) (b : List Byte) : (s.storeB a b).parts = s.parts := rfl
@[simp] theorem State.storeB_pot (s : State) (a : Nat) (b : List Byte) : (s.storeB a b).pot = s.pot := rfl
@[simp] theorem State.storeB_sec (s : State) (a : Nat) (b : List Byte) : (s.storeB a b).sec = s.sec := rfl
@[simp] theorem State.storeB_power (s : State) (a : Nat) (b : List Byte) : (s.storeB a b).power = s.power := rfl
@[simp] theorem State.storeB_res (s : State) (a : Nat) (b : List Byte) : (s.storeB a b).res = s.res := rfl
@[simp] theorem State.storeB_pins (s : State) (a : Nat) (b : List Byte) : (s.storeB a b).pins = s.pins := rfl
@[simp] theorem State.storeB_alarms (s : State) (a : Nat) (b : List Byte) : (s.storeB a b).alarms = s.alarms := rfl

/-! ### answer -/

@[simp] theorem State.answer_pending (s : State) (reason : Nat) : (s.answer reason).pending = s.pending := rfl
@[simp] theorem State.answer_freeCtr (s : State) (reason : Nat) : (s.answer reason).freeCtr = s.freeCtr := rfl
@[simp] theorem State.answer_mode (s : State) (reason : Nat) : (s.answer reason).mode = s.mode := rfl
@[simp] theorem State.answer_dict (s : State) (reason : Nat) : (s.answer reason).dict = s.dict := rfl
@[simp] theorem State.answer_time (s : State) (reason : Nat) : (s.answer reason).time = s.time := rfl
@[simp] theorem State.answer_galley (s : State) (reason : Nat) : (s.answer reason).galley = s.galley := rfl
@[simp] theorem State.answer_vx (s : State) (reason : Nat) : (s.answer reason).vx = s.vx := rfl
@[simp] theorem State.answer_edge (s : State) (reason : Nat) : (s.answer reason).edge = s.edge := rfl
@[simp] theorem State.answer_front (s : State) (reason : Nat) : (s.answer reason).front = s.front := rfl
@[simp] theorem State.answer_mogil (s : State) (reason : Nat) : (s.answer reason).mogil = s.mogil := rfl
@[simp] theorem State.answer_mem (s : State) (reason : Nat) : (s.answer reason).mem = s.mem := rfl
@[simp] theorem State.answer_fab (s : State) (reason : Nat) : (s.answer reason).fab = s.fab := rfl
@[simp] theorem State.answer_host (s : State) (reason : Nat) : (s.answer reason).host = s.host := rfl
@[simp] theorem State.answer_parts (s : State) (reason : Nat) : (s.answer reason).parts = s.parts := rfl
@[simp] theorem State.answer_pot (s : State) (reason : Nat) : (s.answer reason).pot = s.pot := rfl
@[simp] theorem State.answer_sec (s : State) (reason : Nat) : (s.answer reason).sec = s.sec := rfl
@[simp] theorem State.answer_power (s : State) (reason : Nat) : (s.answer reason).power = s.power := rfl
@[simp] theorem State.answer_res (s : State) (reason : Nat) : (s.answer reason).res = s.res := rfl
@[simp] theorem State.answer_pins (s : State) (reason : Nat) : (s.answer reason).pins = s.pins := rfl
@[simp] theorem State.answer_alarms (s : State) (reason : Nat) : (s.answer reason).alarms = s.alarms := rfl

/-! ### refuse -/

@[simp] theorem State.refuse_pending (s : State) (f : Fail) : (s.refuse f).pending = s.pending := rfl
@[simp] theorem State.refuse_freeCtr (s : State) (f : Fail) : (s.refuse f).freeCtr = s.freeCtr := rfl
@[simp] theorem State.refuse_mode (s : State) (f : Fail) : (s.refuse f).mode = s.mode := rfl
@[simp] theorem State.refuse_dict (s : State) (f : Fail) : (s.refuse f).dict = s.dict := rfl
@[simp] theorem State.refuse_time (s : State) (f : Fail) : (s.refuse f).time = s.time := rfl
@[simp] theorem State.refuse_galley (s : State) (f : Fail) : (s.refuse f).galley = s.galley := rfl
@[simp] theorem State.refuse_vx (s : State) (f : Fail) : (s.refuse f).vx = s.vx := rfl
@[simp] theorem State.refuse_edge (s : State) (f : Fail) : (s.refuse f).edge = s.edge := rfl
@[simp] theorem State.refuse_front (s : State) (f : Fail) : (s.refuse f).front = s.front := rfl
@[simp] theorem State.refuse_mogil (s : State) (f : Fail) : (s.refuse f).mogil = s.mogil := rfl
@[simp] theorem State.refuse_mem (s : State) (f : Fail) : (s.refuse f).mem = s.mem := rfl
@[simp] theorem State.refuse_fab (s : State) (f : Fail) : (s.refuse f).fab = s.fab := rfl
@[simp] theorem State.refuse_host (s : State) (f : Fail) : (s.refuse f).host = s.host := rfl
@[simp] theorem State.refuse_parts (s : State) (f : Fail) : (s.refuse f).parts = s.parts := rfl
@[simp] theorem State.refuse_pot (s : State) (f : Fail) : (s.refuse f).pot = s.pot := rfl
@[simp] theorem State.refuse_sec (s : State) (f : Fail) : (s.refuse f).sec = s.sec := rfl
@[simp] theorem State.refuse_power (s : State) (f : Fail) : (s.refuse f).power = s.power := rfl
@[simp] theorem State.refuse_res (s : State) (f : Fail) : (s.refuse f).res = s.res := rfl
@[simp] theorem State.refuse_pins (s : State) (f : Fail) : (s.refuse f).pins = s.pins := rfl
@[simp] theorem State.refuse_alarms (s : State) (f : Fail) : (s.refuse f).alarms = s.alarms := rfl

/-! ### answerData -/

@[simp] theorem State.answerData_pending (s : State) (d : List Byte) : (s.answerData d).pending = s.pending := rfl
@[simp] theorem State.answerData_freeCtr (s : State) (d : List Byte) : (s.answerData d).freeCtr = s.freeCtr := rfl
@[simp] theorem State.answerData_mode (s : State) (d : List Byte) : (s.answerData d).mode = s.mode := rfl
@[simp] theorem State.answerData_dict (s : State) (d : List Byte) : (s.answerData d).dict = s.dict := rfl
@[simp] theorem State.answerData_time (s : State) (d : List Byte) : (s.answerData d).time = s.time := rfl
@[simp] theorem State.answerData_galley (s : State) (d : List Byte) : (s.answerData d).galley = s.galley := rfl
@[simp] theorem State.answerData_vx (s : State) (d : List Byte) : (s.answerData d).vx = s.vx := rfl
@[simp] theorem State.answerData_edge (s : State) (d : List Byte) : (s.answerData d).edge = s.edge := rfl
@[simp] theorem State.answerData_front (s : State) (d : List Byte) : (s.answerData d).front = s.front := rfl
@[simp] theorem State.answerData_mogil (s : State) (d : List Byte) : (s.answerData d).mogil = s.mogil := rfl
@[simp] theorem State.answerData_mem (s : State) (d : List Byte) : (s.answerData d).mem = s.mem := rfl
@[simp] theorem State.answerData_fab (s : State) (d : List Byte) : (s.answerData d).fab = s.fab := rfl
@[simp] theorem State.answerData_host (s : State) (d : List Byte) : (s.answerData d).host = s.host := rfl
@[simp] theorem State.answerData_parts (s : State) (d : List Byte) : (s.answerData d).parts = s.parts := rfl
@[simp] theorem State.answerData_pot (s : State) (d : List Byte) : (s.answerData d).pot = s.pot := rfl
@[simp] theorem State.answerData_sec (s : State) (d : List Byte) : (s.answerData d).sec = s.sec := rfl
@[simp] theorem State.answerData_power (s : State) (d : List Byte) : (s.answerData d).power = s.power := rfl
@[simp] theorem State.answerData_res (s : State) (d : List Byte) : (s.answerData d).res = s.res := rfl
@[simp] theorem State.answerData_pins (s : State) (d : List Byte) : (s.answerData d).pins = s.pins := rfl
@[simp] theorem State.answerData_alarms (s : State) (d : List Byte) : (s.answerData d).alarms = s.alarms := rfl

/-! ### answerFab -/

@[simp] theorem State.answerFab_pending (s : State) (c : FabCmd) (status : Nat) (d : List Byte) : (s.answerFab c status d).pending = s.pending := rfl
@[simp] theorem State.answerFab_freeCtr (s : State) (c : FabCmd) (status : Nat) (d : List Byte) : (s.answerFab c status d).freeCtr = s.freeCtr := rfl
@[simp] theorem State.answerFab_mode (s : State) (c : FabCmd) (status : Nat) (d : List Byte) : (s.answerFab c status d).mode = s.mode := rfl
@[simp] theorem State.answerFab_dict (s : State) (c : FabCmd) (status : Nat) (d : List Byte) : (s.answerFab c status d).dict = s.dict := rfl
@[simp] theorem State.answerFab_time (s : State) (c : FabCmd) (status : Nat) (d : List Byte) : (s.answerFab c status d).time = s.time := rfl
@[simp] theorem State.answerFab_galley (s : State) (c : FabCmd) (status : Nat) (d : List Byte) : (s.answerFab c status d).galley = s.galley := rfl
@[simp] theorem State.answerFab_vx (s : State) (c : FabCmd) (status : Nat) (d : List Byte) : (s.answerFab c status d).vx = s.vx := rfl
@[simp] theorem State.answerFab_edge (s : State) (c : FabCmd) (status : Nat) (d : List Byte) : (s.answerFab c status d).edge = s.edge := rfl
@[simp] theorem State.answerFab_front (s : State) (c : FabCmd) (status : Nat) (d : List Byte) : (s.answerFab c status d).front = s.front := rfl
@[simp] theorem State.answerFab_mogil (s : State) (c : FabCmd) (status : Nat) (d : List Byte) : (s.answerFab c status d).mogil = s.mogil := rfl
@[simp] theorem State.answerFab_mem (s : State) (c : FabCmd) (status : Nat) (d : List Byte) : (s.answerFab c status d).mem = s.mem := rfl
@[simp] theorem State.answerFab_fab (s : State) (c : FabCmd) (status : Nat) (d : List Byte) : (s.answerFab c status d).fab = s.fab := rfl
@[simp] theorem State.answerFab_host (s : State) (c : FabCmd) (status : Nat) (d : List Byte) : (s.answerFab c status d).host = s.host := rfl
@[simp] theorem State.answerFab_parts (s : State) (c : FabCmd) (status : Nat) (d : List Byte) : (s.answerFab c status d).parts = s.parts := rfl
@[simp] theorem State.answerFab_pot (s : State) (c : FabCmd) (status : Nat) (d : List Byte) : (s.answerFab c status d).pot = s.pot := rfl
@[simp] theorem State.answerFab_sec (s : State) (c : FabCmd) (status : Nat) (d : List Byte) : (s.answerFab c status d).sec = s.sec := rfl
@[simp] theorem State.answerFab_power (s : State) (c : FabCmd) (status : Nat) (d : List Byte) : (s.answerFab c status d).power = s.power := rfl
@[simp] theorem State.answerFab_res (s : State) (c : FabCmd) (status : Nat) (d : List Byte) : (s.answerFab c status d).res = s.res := rfl
@[simp] theorem State.answerFab_pins (s : State) (c : FabCmd) (status : Nat) (d : List Byte) : (s.answerFab c status d).pins = s.pins := rfl
@[simp] theorem State.answerFab_alarms (s : State) (c : FabCmd) (status : Nat) (d : List Byte) : (s.answerFab c status d).alarms = s.alarms := rfl

/-! ### setPins -/

@[simp] theorem State.setPins_pending (s : State) (p : PinSt) : (s.setPins p).pending = s.pending := rfl
@[simp] theorem State.setPins_reply (s : State) (p : PinSt) : (s.setPins p).reply = s.reply := rfl
@[simp] theorem State.setPins_freeCtr (s : State) (p : PinSt) : (s.setPins p).freeCtr = s.freeCtr := rfl
@[simp] theorem State.setPins_mode (s : State) (p : PinSt) : (s.setPins p).mode = s.mode := rfl
@[simp] theorem State.setPins_dict (s : State) (p : PinSt) : (s.setPins p).dict = s.dict := rfl
@[simp] theorem State.setPins_time (s : State) (p : PinSt) : (s.setPins p).time = s.time := rfl
@[simp] theorem State.setPins_galley (s : State) (p : PinSt) : (s.setPins p).galley = s.galley := rfl
@[simp] theorem State.setPins_vx (s : State) (p : PinSt) : (s.setPins p).vx = s.vx := rfl
@[simp] theorem State.setPins_edge (s : State) (p : PinSt) : (s.setPins p).edge = s.edge := rfl
@[simp] theorem State.setPins_front (s : State) (p : PinSt) : (s.setPins p).front = s.front := rfl
@[simp] theorem State.setPins_mogil (s : State) (p : PinSt) : (s.setPins p).mogil = s.mogil := rfl
@[simp] theorem State.setPins_mem (s : State) (p : PinSt) : (s.setPins p).mem = s.mem := rfl
@[simp] theorem State.setPins_fab (s : State) (p : PinSt) : (s.setPins p).fab = s.fab := rfl
@[simp] theorem State.setPins_host (s : State) (p : PinSt) : (s.setPins p).host = s.host := rfl
@[simp] theorem State.setPins_parts (s : State) (p : PinSt) : (s.setPins p).parts = s.parts := rfl
@[simp] theorem State.setPins_pot (s : State) (p : PinSt) : (s.setPins p).pot = s.pot := rfl
@[simp] theorem State.setPins_sec (s : State) (p : PinSt) : (s.setPins p).sec = s.sec := rfl
@[simp] theorem State.setPins_power (s : State) (p : PinSt) : (s.setPins p).power = s.power := rfl
@[simp] theorem State.setPins_res (s : State) (p : PinSt) : (s.setPins p).res = s.res := rfl
@[simp] theorem State.setPins_alarms (s : State) (p : PinSt) : (s.setPins p).alarms = s.alarms := rfl

/-! ### setSession -/

@[simp] theorem State.setSession_pending (s : State) (n : Nat) (x : Session) : (s.setSession n x).pending = s.pending := rfl
@[simp] theorem State.setSession_reply (s : State) (n : Nat) (x : Session) : (s.setSession n x).reply = s.reply := rfl
@[simp] theorem State.setSession_freeCtr (s : State) (n : Nat) (x : Session) : (s.setSession n x).freeCtr = s.freeCtr := rfl
@[simp] theorem State.setSession_mode (s : State) (n : Nat) (x : Session) : (s.setSession n x).mode = s.mode := rfl
@[simp] theorem State.setSession_dict (s : State) (n : Nat) (x : Session) : (s.setSession n x).dict = s.dict := rfl
@[simp] theorem State.setSession_time (s : State) (n : Nat) (x : Session) : (s.setSession n x).time = s.time := rfl
@[simp] theorem State.setSession_galley (s : State) (n : Nat) (x : Session) : (s.setSession n x).galley = s.galley := rfl
@[simp] theorem State.setSession_vx (s : State) (n : Nat) (x : Session) : (s.setSession n x).vx = s.vx := rfl
@[simp] theorem State.setSession_edge (s : State) (n : Nat) (x : Session) : (s.setSession n x).edge = s.edge := rfl
@[simp] theorem State.setSession_front (s : State) (n : Nat) (x : Session) : (s.setSession n x).front = s.front := rfl
@[simp] theorem State.setSession_mogil (s : State) (n : Nat) (x : Session) : (s.setSession n x).mogil = s.mogil := rfl
@[simp] theorem State.setSession_mem (s : State) (n : Nat) (x : Session) : (s.setSession n x).mem = s.mem := rfl
@[simp] theorem State.setSession_fab (s : State) (n : Nat) (x : Session) : (s.setSession n x).fab = s.fab := rfl
@[simp] theorem State.setSession_host (s : State) (n : Nat) (x : Session) : (s.setSession n x).host = s.host := rfl
@[simp] theorem State.setSession_parts (s : State) (n : Nat) (x : Session) : (s.setSession n x).parts = s.parts := rfl
@[simp] theorem State.setSession_sec (s : State) (n : Nat) (x : Session) : (s.setSession n x).sec = s.sec := rfl
@[simp] theorem State.setSession_power (s : State) (n : Nat) (x : Session) : (s.setSession n x).power = s.power := rfl
@[simp] theorem State.setSession_res (s : State) (n : Nat) (x : Session) : (s.setSession n x).res = s.res := rfl
@[simp] theorem State.setSession_pins (s : State) (n : Nat) (x : Session) : (s.setSession n x).pins = s.pins := rfl
@[simp] theorem State.setSession_alarms (s : State) (n : Nat) (x : Session) : (s.setSession n x).alarms = s.alarms := rfl

/-! ### setPower -/

@[simp] theorem State.setPower_pending (s : State) (p : PowerSt) : (s.setPower p).pending = s.pending := rfl
@[simp] theorem State.setPower_reply (s : State) (p : PowerSt) : (s.setPower p).reply = s.reply := rfl
@[simp] theorem State.setPower_freeCtr (s : State) (p : PowerSt) : (s.setPower p).freeCtr = s.freeCtr := rfl
@[simp] theorem State.setPower_mode (s : State) (p : PowerSt) : (s.setPower p).mode = s.mode := rfl
@[simp] theorem State.setPower_dict (s : State) (p : PowerSt) : (s.setPower p).dict = s.dict := rfl
@[simp] theorem State.setPower_time (s : State) (p : PowerSt) : (s.setPower p).time = s.time := rfl
@[simp] theorem State.setPower_galley (s : State) (p : PowerSt) : (s.setPower p).galley = s.galley := rfl
@[simp] theorem State.setPower_vx (s : State) (p : PowerSt) : (s.setPower p).vx = s.vx := rfl
@[simp] theorem State.setPower_edge (s : State) (p : PowerSt) : (s.setPower p).edge = s.edge := rfl
@[simp] theorem State.setPower_front (s : State) (p : PowerSt) : (s.setPower p).front = s.front := rfl
@[simp] theorem State.setPower_mogil (s : State) (p : PowerSt) : (s.setPower p).mogil = s.mogil := rfl
@[simp] theorem State.setPower_mem (s : State) (p : PowerSt) : (s.setPower p).mem = s.mem := rfl
@[simp] theorem State.setPower_fab (s : State) (p : PowerSt) : (s.setPower p).fab = s.fab := rfl
@[simp] theorem State.setPower_host (s : State) (p : PowerSt) : (s.setPower p).host = s.host := rfl
@[simp] theorem State.setPower_parts (s : State) (p : PowerSt) : (s.setPower p).parts = s.parts := rfl
@[simp] theorem State.setPower_pot (s : State) (p : PowerSt) : (s.setPower p).pot = s.pot := rfl
@[simp] theorem State.setPower_sec (s : State) (p : PowerSt) : (s.setPower p).sec = s.sec := rfl
@[simp] theorem State.setPower_res (s : State) (p : PowerSt) : (s.setPower p).res = s.res := rfl
@[simp] theorem State.setPower_pins (s : State) (p : PowerSt) : (s.setPower p).pins = s.pins := rfl
@[simp] theorem State.setPower_alarms (s : State) (p : PowerSt) : (s.setPower p).alarms = s.alarms := rfl

/-! ### setRes -/

@[simp] theorem State.setRes_pending (s : State) (r : ResSt) : (s.setRes r).pending = s.pending := rfl
@[simp] theorem State.setRes_reply (s : State) (r : ResSt) : (s.setRes r).reply = s.reply := rfl
@[simp] theorem State.setRes_freeCtr (s : State) (r : ResSt) : (s.setRes r).freeCtr = s.freeCtr := rfl
@[simp] theorem State.setRes_mode (s : State) (r : ResSt) : (s.setRes r).mode = s.mode := rfl
@[simp] theorem State.setRes_dict (s : State) (r : ResSt) : (s.setRes r).dict = s.dict := rfl
@[simp] theorem State.setRes_time (s : State) (r : ResSt) : (s.setRes r).time = s.time := rfl
@[simp] theorem State.setRes_galley (s : State) (r : ResSt) : (s.setRes r).galley = s.galley := rfl
@[simp] theorem State.setRes_vx (s : State) (r : ResSt) : (s.setRes r).vx = s.vx := rfl
@[simp] theorem State.setRes_edge (s : State) (r : ResSt) : (s.setRes r).edge = s.edge := rfl
@[simp] theorem State.setRes_front (s : State) (r : ResSt) : (s.setRes r).front = s.front := rfl
@[simp] theorem State.setRes_mogil (s : State) (r : ResSt) : (s.setRes r).mogil = s.mogil := rfl
@[simp] theorem State.setRes_mem (s : State) (r : ResSt) : (s.setRes r).mem = s.mem := rfl
@[simp] theorem State.setRes_fab (s : State) (r : ResSt) : (s.setRes r).fab = s.fab := rfl
@[simp] theorem State.setRes_host (s : State) (r : ResSt) : (s.setRes r).host = s.host := rfl
@[simp] theorem State.setRes_parts (s : State) (r : ResSt) : (s.setRes r).parts = s.parts := rfl
@[simp] theorem State.setRes_pot (s : State) (r : ResSt) : (s.setRes r).pot = s.pot := rfl
@[simp] theorem State.setRes_sec (s : State) (r : ResSt) : (s.setRes r).sec = s.sec := rfl
@[simp] theorem State.setRes_power (s : State) (r : ResSt) : (s.setRes r).power = s.power := rfl
@[simp] theorem State.setRes_pins (s : State) (r : ResSt) : (s.setRes r).pins = s.pins := rfl
@[simp] theorem State.setRes_alarms (s : State) (r : ResSt) : (s.setRes r).alarms = s.alarms := rfl

/-! ### setDebug -/

@[simp] theorem State.setDebug_pending (s : State) (d : Debug) : (s.setDebug d).pending = s.pending := rfl
@[simp] theorem State.setDebug_reply (s : State) (d : Debug) : (s.setDebug d).reply = s.reply := rfl
@[simp] theorem State.setDebug_freeCtr (s : State) (d : Debug) : (s.setDebug d).freeCtr = s.freeCtr := rfl
@[simp] theorem State.setDebug_mode (s : State) (d : Debug) : (s.setDebug d).mode = s.mode := rfl
@[simp] theorem State.setDebug_dict (s : State) (d : Debug) : (s.setDebug d).dict = s.dict := rfl
@[simp] theorem State.setDebug_time (s : State) (d : Debug) : (s.setDebug d).time = s.time := rfl
@[simp] theorem State.setDebug_galley (s : State) (d : Debug) : (s.setDebug d).galley = s.galley := rfl
@[simp] theorem State.setDebug_vx (s : State) (d : Debug) : (s.setDebug d).vx = s.vx := rfl
@[simp] theorem State.setDebug_edge (s : State) (d : Debug) : (s.setDebug d).edge = s.edge := rfl
@[simp] theorem State.setDebug_front (s : State) (d : Debug) : (s.setDebug d).front = s.front := rfl
@[simp] theorem State.setDebug_mogil (s : State) (d : Debug) : (s.setDebug d).mogil = s.mogil := rfl
@[simp] theorem State.setDebug_mem (s : State) (d : Debug) : (s.setDebug d).mem = s.mem := rfl
@[simp] theorem State.setDebug_fab (s : State) (d : Debug) : (s.setDebug d).fab = s.fab := rfl
@[simp] theorem State.setDebug_host (s : State) (d : Debug) : (s.setDebug d).host = s.host := rfl
@[simp] theorem State.setDebug_parts (s : State) (d : Debug) : (s.setDebug d).parts = s.parts := rfl
@[simp] theorem State.setDebug_pot (s : State) (d : Debug) : (s.setDebug d).pot = s.pot := rfl
@[simp] theorem State.setDebug_power (s : State) (d : Debug) : (s.setDebug d).power = s.power := rfl
@[simp] theorem State.setDebug_res (s : State) (d : Debug) : (s.setDebug d).res = s.res := rfl
@[simp] theorem State.setDebug_pins (s : State) (d : Debug) : (s.setDebug d).pins = s.pins := rfl
@[simp] theorem State.setDebug_alarms (s : State) (d : Debug) : (s.setDebug d).alarms = s.alarms := rfl

/-! ### setTime -/

@[simp] theorem State.setTime_pending (s : State) (t : TimeSt) : (s.setTime t).pending = s.pending := rfl
@[simp] theorem State.setTime_reply (s : State) (t : TimeSt) : (s.setTime t).reply = s.reply := rfl
@[simp] theorem State.setTime_freeCtr (s : State) (t : TimeSt) : (s.setTime t).freeCtr = s.freeCtr := rfl
@[simp] theorem State.setTime_mode (s : State) (t : TimeSt) : (s.setTime t).mode = s.mode := rfl
@[simp] theorem State.setTime_dict (s : State) (t : TimeSt) : (s.setTime t).dict = s.dict := rfl
@[simp] theorem State.setTime_galley (s : State) (t : TimeSt) : (s.setTime t).galley = s.galley := rfl
@[simp] theorem State.setTime_vx (s : State) (t : TimeSt) : (s.setTime t).vx = s.vx := rfl
@[simp] theorem State.setTime_edge (s : State) (t : TimeSt) : (s.setTime t).edge = s.edge := rfl
@[simp] theorem State.setTime_front (s : State) (t : TimeSt) : (s.setTime t).front = s.front := rfl
@[simp] theorem State.setTime_mogil (s : State) (t : TimeSt) : (s.setTime t).mogil = s.mogil := rfl
@[simp] theorem State.setTime_mem (s : State) (t : TimeSt) : (s.setTime t).mem = s.mem := rfl
@[simp] theorem State.setTime_fab (s : State) (t : TimeSt) : (s.setTime t).fab = s.fab := rfl
@[simp] theorem State.setTime_host (s : State) (t : TimeSt) : (s.setTime t).host = s.host := rfl
@[simp] theorem State.setTime_parts (s : State) (t : TimeSt) : (s.setTime t).parts = s.parts := rfl
@[simp] theorem State.setTime_pot (s : State) (t : TimeSt) : (s.setTime t).pot = s.pot := rfl
@[simp] theorem State.setTime_sec (s : State) (t : TimeSt) : (s.setTime t).sec = s.sec := rfl
@[simp] theorem State.setTime_power (s : State) (t : TimeSt) : (s.setTime t).power = s.power := rfl
@[simp] theorem State.setTime_res (s : State) (t : TimeSt) : (s.setTime t).res = s.res := rfl
@[simp] theorem State.setTime_pins (s : State) (t : TimeSt) : (s.setTime t).pins = s.pins := rfl
@[simp] theorem State.setTime_alarms (s : State) (t : TimeSt) : (s.setTime t).alarms = s.alarms := rfl

/-! ### setCc -/

@[simp] theorem State.setCc_pending (s : State) (n : Nat) (w : CcWin) : (s.setCc n w).pending = s.pending := rfl
@[simp] theorem State.setCc_reply (s : State) (n : Nat) (w : CcWin) : (s.setCc n w).reply = s.reply := rfl
@[simp] theorem State.setCc_freeCtr (s : State) (n : Nat) (w : CcWin) : (s.setCc n w).freeCtr = s.freeCtr := rfl
@[simp] theorem State.setCc_mode (s : State) (n : Nat) (w : CcWin) : (s.setCc n w).mode = s.mode := rfl
@[simp] theorem State.setCc_dict (s : State) (n : Nat) (w : CcWin) : (s.setCc n w).dict = s.dict := rfl
@[simp] theorem State.setCc_time (s : State) (n : Nat) (w : CcWin) : (s.setCc n w).time = s.time := rfl
@[simp] theorem State.setCc_vx (s : State) (n : Nat) (w : CcWin) : (s.setCc n w).vx = s.vx := rfl
@[simp] theorem State.setCc_edge (s : State) (n : Nat) (w : CcWin) : (s.setCc n w).edge = s.edge := rfl
@[simp] theorem State.setCc_front (s : State) (n : Nat) (w : CcWin) : (s.setCc n w).front = s.front := rfl
@[simp] theorem State.setCc_mogil (s : State) (n : Nat) (w : CcWin) : (s.setCc n w).mogil = s.mogil := rfl
@[simp] theorem State.setCc_mem (s : State) (n : Nat) (w : CcWin) : (s.setCc n w).mem = s.mem := rfl
@[simp] theorem State.setCc_fab (s : State) (n : Nat) (w : CcWin) : (s.setCc n w).fab = s.fab := rfl
@[simp] theorem State.setCc_host (s : State) (n : Nat) (w : CcWin) : (s.setCc n w).host = s.host := rfl
@[simp] theorem State.setCc_parts (s : State) (n : Nat) (w : CcWin) : (s.setCc n w).parts = s.parts := rfl
@[simp] theorem State.setCc_pot (s : State) (n : Nat) (w : CcWin) : (s.setCc n w).pot = s.pot := rfl
@[simp] theorem State.setCc_sec (s : State) (n : Nat) (w : CcWin) : (s.setCc n w).sec = s.sec := rfl
@[simp] theorem State.setCc_power (s : State) (n : Nat) (w : CcWin) : (s.setCc n w).power = s.power := rfl
@[simp] theorem State.setCc_res (s : State) (n : Nat) (w : CcWin) : (s.setCc n w).res = s.res := rfl
@[simp] theorem State.setCc_pins (s : State) (n : Nat) (w : CcWin) : (s.setCc n w).pins = s.pins := rfl
@[simp] theorem State.setCc_alarms (s : State) (n : Nat) (w : CcWin) : (s.setCc n w).alarms = s.alarms := rfl

/-! ### setCore -/

@[simp] theorem State.setCore_pending (s : State) (v : Nat) (c : Core) : (s.setCore v c).pending = s.pending := rfl
@[simp] theorem State.setCore_reply (s : State) (v : Nat) (c : Core) : (s.setCore v c).reply = s.reply := rfl
@[simp] theorem State.setCore_freeCtr (s : State) (v : Nat) (c : Core) : (s.setCore v c).freeCtr = s.freeCtr := rfl
@[simp] theorem State.setCore_mode (s : State) (v : Nat) (c : Core) : (s.setCore v c).mode = s.mode := rfl
@[simp] theorem State.setCore_dict (s : State) (v : Nat) (c : Core) : (s.setCore v c).dict = s.dict := rfl
@[simp] theorem State.setCore_time (s : State) (v : Nat) (c : Core) : (s.setCore v c).time = s.time := rfl
@[simp] theorem State.setCore_galley (s : State) (v : Nat) (c : Core) : (s.setCore v c).galley = s.galley := rfl
@[simp] theorem State.setCore_edge (s : State) (v : Nat) (c : Core) : (s.setCore v c).edge = s.edge := rfl
@[simp] theorem State.setCore_front (s : State) (v : Nat) (c : Core) : (s.setCore v c).front = s.front := rfl
@[simp] theorem State.setCore_mogil (s : State) (v : Nat) (c : Core) : (s.setCore v c).mogil = s.mogil := rfl
@[simp] theorem State.setCore_mem (s : State) (v : Nat) (c : Core) : (s.setCore v c).mem = s.mem := rfl
@[simp] theorem State.setCore_fab (s : State) (v : Nat) (c : Core) : (s.setCore v c).fab = s.fab := rfl
@[simp] theorem State.setCore_host (s : State) (v : Nat) (c : Core) : (s.setCore v c).host = s.host := rfl
@[simp] theorem State.setCore_parts (s : State) (v : Nat) (c : Core) : (s.setCore v c).parts = s.parts := rfl
@[simp] theorem State.setCore_pot (s : State) (v : Nat) (c : Core) : (s.setCore v c).pot = s.pot := rfl
@[simp] theorem State.setCore_sec (s : State) (v : Nat) (c : Core) : (s.setCore v c).sec = s.sec := rfl
@[simp] theorem State.setCore_power (s : State) (v : Nat) (c : Core) : (s.setCore v c).power = s.power := rfl
@[simp] theorem State.setCore_res (s : State) (v : Nat) (c : Core) : (s.setCore v c).res = s.res := rfl
@[simp] theorem State.setCore_pins (s : State) (v : Nat) (c : Core) : (s.setCore v c).pins = s.pins := rfl
@[simp] theorem State.setCore_alarms (s : State) (v : Nat) (c : Core) : (s.setCore v c).alarms = s.alarms := rfl

@[simp] theorem State.withVal_dict_oct (s : State) (t : Tab Int) : (s.withVal t).dict.oct = s.dict.oct := rfl
@[simp] theorem State.withVal_dict_force (s : State) (t : Tab Int) : (s.withVal t).dict.force = s.dict.force := rfl
@[simp] theorem State.withVal_dict_octForce (s : State) (t : Tab Int) : (s.withVal t).dict.octForce = s.dict.octForce := rfl
@[simp] theorem State.withVal_dict_selects (s : State) (t : Tab Int) : (s.withVal t).dict.selects = s.dict.selects := rfl
@[simp] theorem State.withVal_dict_storeA (s : State) (t : Tab Int) : (s.withVal t).dict.storeA = s.dict.storeA := rfl
@[simp] theorem State.withVal_dict_storeOct (s : State) (t : Tab Int) : (s.withVal t).dict.storeOct = s.dict.storeOct := rfl
@[simp] theorem State.withVal_dict_storing (s : State) (t : Tab Int) : (s.withVal t).dict.storing = s.dict.storing := rfl
@[simp] theorem State.withVal_dict_storeVal (s : State) (t : Tab Int) : (s.withVal t).dict.storeVal = s.dict.storeVal := rfl
@[simp] theorem State.withVal_dict_storeOctets (s : State) (t : Tab Int) : (s.withVal t).dict.storeOctets = s.dict.storeOctets := rfl
@[simp] theorem State.take_dict_val (s : State) (o : Obj) (item : Nat) : (s.take o item).dict.val = s.dict.val := rfl
@[simp] theorem State.take_dict_oct (s : State) (o : Obj) (item : Nat) : (s.take o item).dict.oct = s.dict.oct := rfl
@[simp] theorem State.take_dict_selects (s : State) (o : Obj) (item : Nat) : (s.take o item).dict.selects = s.dict.selects := rfl
@[simp] theorem State.take_dict_storeA (s : State) (o : Obj) (item : Nat) : (s.take o item).dict.storeA = s.dict.storeA := rfl
@[simp] theorem State.take_dict_storeOct (s : State) (o : Obj) (item : Nat) : (s.take o item).dict.storeOct = s.dict.storeOct := rfl
@[simp] theorem State.take_dict_storing (s : State) (o : Obj) (item : Nat) : (s.take o item).dict.storing = s.dict.storing := rfl
@[simp] theorem State.take_dict_storeVal (s : State) (o : Obj) (item : Nat) : (s.take o item).dict.storeVal = s.dict.storeVal := rfl
@[simp] theorem State.take_dict_storeOctets (s : State) (o : Obj) (item : Nat) : (s.take o item).dict.storeOctets = s.dict.storeOctets := rfl
@[simp] theorem State.setOct_dict_val (s : State) (o : Obj) (item : Nat) (b : List Byte) : (s.setOct o item b).dict.val = s.dict.val := rfl
@[simp] theorem State.setOct_dict_force (s : State) (o : Obj) (item : Nat) (b : List Byte) : (s.setOct o item b).dict.force = s.dict.force := rfl
@[simp] theorem State.setOct_dict_octForce (s : State) (o : Obj) (item : Nat) (b : List Byte) : (s.setOct o item b).dict.octForce = s.dict.octForce := rfl
@[simp] theorem State.setOct_dict_selects (s : State) (o : Obj) (item : Nat) (b : List Byte) : (s.setOct o item b).dict.selects = s.dict.selects := rfl
@[simp] theorem State.setOct_dict_storeA (s : State) (o : Obj) (item : Nat) (b : List Byte) : (s.setOct o item b).dict.storeA = s.dict.storeA := rfl
@[simp] theorem State.setOct_dict_storeOct (s : State) (o : Obj) (item : Nat) (b : List Byte) : (s.setOct o item b).dict.storeOct = s.dict.storeOct := rfl
@[simp] theorem State.setOct_dict_storing (s : State) (o : Obj) (item : Nat) (b : List Byte) : (s.setOct o item b).dict.storing = s.dict.storing := rfl
@[simp] theorem State.setOct_dict_storeVal (s : State) (o : Obj) (item : Nat) (b : List Byte) : (s.setOct o item b).dict.storeVal = s.dict.storeVal := rfl
@[simp] theorem State.setOct_dict_storeOctets (s : State) (o : Obj) (item : Nat) (b : List Byte) : (s.setOct o item b).dict.storeOctets = s.dict.storeOctets := rfl
@[simp] theorem State.setSel_dict_val (s : State) (who : Requester) (a : Nat) (v : Int) : (s.setSel who a v).dict.val = s.dict.val := rfl
@[simp] theorem State.setSel_dict_force (s : State) (who : Requester) (a : Nat) (v : Int) : (s.setSel who a v).dict.force = s.dict.force := rfl
@[simp] theorem State.setSel_dict_oct (s : State) (who : Requester) (a : Nat) (v : Int) : (s.setSel who a v).dict.oct = s.dict.oct := rfl
@[simp] theorem State.setSel_dict_octForce (s : State) (who : Requester) (a : Nat) (v : Int) : (s.setSel who a v).dict.octForce = s.dict.octForce := rfl
@[simp] theorem State.setSel_dict_storeA (s : State) (who : Requester) (a : Nat) (v : Int) : (s.setSel who a v).dict.storeA = s.dict.storeA := rfl
@[simp] theorem State.setSel_dict_storeOct (s : State) (who : Requester) (a : Nat) (v : Int) : (s.setSel who a v).dict.storeOct = s.dict.storeOct := rfl
@[simp] theorem State.setSel_dict_storing (s : State) (who : Requester) (a : Nat) (v : Int) : (s.setSel who a v).dict.storing = s.dict.storing := rfl
@[simp] theorem State.setSel_dict_storeVal (s : State) (who : Requester) (a : Nat) (v : Int) : (s.setSel who a v).dict.storeVal = s.dict.storeVal := rfl
@[simp] theorem State.setSel_dict_storeOctets (s : State) (who : Requester) (a : Nat) (v : Int) : (s.setSel who a v).dict.storeOctets = s.dict.storeOctets := rfl

@[simp] theorem State.setNum_pending (s : State) (o : Obj) (item : Nat) (v : Int) : (s.setNum o item v).pending = s.pending := rfl
@[simp] theorem State.setNum_reply (s : State) (o : Obj) (item : Nat) (v : Int) : (s.setNum o item v).reply = s.reply := rfl
@[simp] theorem State.setNum_freeCtr (s : State) (o : Obj) (item : Nat) (v : Int) : (s.setNum o item v).freeCtr = s.freeCtr := rfl
@[simp] theorem State.setNum_mode (s : State) (o : Obj) (item : Nat) (v : Int) : (s.setNum o item v).mode = s.mode := rfl
@[simp] theorem State.setNum_time (s : State) (o : Obj) (item : Nat) (v : Int) : (s.setNum o item v).time = s.time := rfl
@[simp] theorem State.setNum_galley (s : State) (o : Obj) (item : Nat) (v : Int) : (s.setNum o item v).galley = s.galley := rfl
@[simp] theorem State.setNum_vx (s : State) (o : Obj) (item : Nat) (v : Int) : (s.setNum o item v).vx = s.vx := rfl
@[simp] theorem State.setNum_edge (s : State) (o : Obj) (item : Nat) (v : Int) : (s.setNum o item v).edge = s.edge := rfl
@[simp] theorem State.setNum_front (s : State) (o : Obj) (item : Nat) (v : Int) : (s.setNum o item v).front = s.front := rfl
@[simp] theorem State.setNum_mogil (s : State) (o : Obj) (item : Nat) (v : Int) : (s.setNum o item v).mogil = s.mogil := rfl
@[simp] theorem State.setNum_mem (s : State) (o : Obj) (item : Nat) (v : Int) : (s.setNum o item v).mem = s.mem := rfl
@[simp] theorem State.setNum_fab (s : State) (o : Obj) (item : Nat) (v : Int) : (s.setNum o item v).fab = s.fab := rfl
@[simp] theorem State.setNum_host (s : State) (o : Obj) (item : Nat) (v : Int) : (s.setNum o item v).host = s.host := rfl
@[simp] theorem State.setNum_parts (s : State) (o : Obj) (item : Nat) (v : Int) : (s.setNum o item v).parts = s.parts := rfl
@[simp] theorem State.setNum_pot (s : State) (o : Obj) (item : Nat) (v : Int) : (s.setNum o item v).pot = s.pot := rfl
@[simp] theorem State.setNum_sec (s : State) (o : Obj) (item : Nat) (v : Int) : (s.setNum o item v).sec = s.sec := rfl
@[simp] theorem State.setNum_power (s : State) (o : Obj) (item : Nat) (v : Int) : (s.setNum o item v).power = s.power := rfl
@[simp] theorem State.setNum_res (s : State) (o : Obj) (item : Nat) (v : Int) : (s.setNum o item v).res = s.res := rfl
@[simp] theorem State.setNum_pins (s : State) (o : Obj) (item : Nat) (v : Int) : (s.setNum o item v).pins = s.pins := rfl
@[simp] theorem State.setNum_alarms (s : State) (o : Obj) (item : Nat) (v : Int) : (s.setNum o item v).alarms = s.alarms := rfl
@[simp] theorem State.setNum_dict_oct (s : State) (o : Obj) (item : Nat) (v : Int) : (s.setNum o item v).dict.oct = s.dict.oct := rfl
@[simp] theorem State.setNum_dict_force (s : State) (o : Obj) (item : Nat) (v : Int) : (s.setNum o item v).dict.force = s.dict.force := rfl
@[simp] theorem State.setNum_dict_octForce (s : State) (o : Obj) (item : Nat) (v : Int) : (s.setNum o item v).dict.octForce = s.dict.octForce := rfl
@[simp] theorem State.setNum_dict_selects (s : State) (o : Obj) (item : Nat) (v : Int) : (s.setNum o item v).dict.selects = s.dict.selects := rfl
@[simp] theorem State.setNum_dict_storeA (s : State) (o : Obj) (item : Nat) (v : Int) : (s.setNum o item v).dict.storeA = s.dict.storeA := rfl
@[simp] theorem State.setNum_dict_storeOct (s : State) (o : Obj) (item : Nat) (v : Int) : (s.setNum o item v).dict.storeOct = s.dict.storeOct := rfl
@[simp] theorem State.setNum_dict_storing (s : State) (o : Obj) (item : Nat) (v : Int) : (s.setNum o item v).dict.storing = s.dict.storing := rfl
@[simp] theorem State.setNum_dict_storeVal (s : State) (o : Obj) (item : Nat) (v : Int) : (s.setNum o item v).dict.storeVal = s.dict.storeVal := rfl
@[simp] theorem State.setNum_dict_storeOctets (s : State) (o : Obj) (item : Nat) (v : Int) : (s.setNum o item v).dict.storeOctets = s.dict.storeOctets := rfl

@[simp] theorem State.setRegion_num (s : State) (r : Nat) (x : Region) (o : Obj) (i : Nat) : (s.setRegion r x).num o i = s.num o i := rfl
@[simp] theorem State.setBank_num (s : State) (b : Nat) (x : Bank) (o : Obj) (i : Nat) : (s.setBank b x).num o i = s.num o i := rfl
@[simp] theorem State.setPart_num (s : State) (n : Nat) (x : Part) (o : Obj) (i : Nat) : (s.setPart n x).num o i = s.num o i := rfl
@[simp] theorem State.setSctx_num (s : State) (k : Nat) (x : SearchCtx) (o : Obj) (i : Nat) : (s.setSctx k x).num o i = s.num o i := rfl
@[simp] theorem State.setGroup_num (s : State) (g : Nat) (x : AntGroup) (o : Obj) (i : Nat) : (s.setGroup g x).num o i = s.num o i := rfl
@[simp] theorem State.setRadio_num (s : State) (r : Nat) (x : Radio) (o : Obj) (i : Nat) : (s.setRadio r x).num o i = s.num o i := rfl
@[simp] theorem State.setJob_num (s : State) (cls u : Nat) (j : Job) (o : Obj) (i : Nat) : (s.setJob cls u j).num o i = s.num o i := rfl
@[simp] theorem State.dropJob_num (s : State) (cls u : Nat) (o : Obj) (i : Nat) : (s.dropJob cls u).num o i = s.num o i := rfl
@[simp] theorem State.setFront_num (s : State) (x : FrontSt) (o : Obj) (i : Nat) : (s.setFront x).num o i = s.num o i := rfl
@[simp] theorem State.setDomain_num (s : State) (d : Nat) (x : Domain) (o : Obj) (i : Nat) : (s.setDomain d x).num o i = s.num o i := rfl
@[simp] theorem State.setUnit_num (s : State) (cls u : Nat) (x : UnitSt) (o : Obj) (i : Nat) : (s.setUnit cls u x).num o i = s.num o i := rfl
@[simp] theorem State.setSlug_num (s : State) (h : Nat) (x : Slug) (o : Obj) (i : Nat) : (s.setSlug h x).num o i = s.num o i := rfl
@[simp] theorem State.setImp_num (s : State) (q : Nat) (x : Impression) (o : Obj) (i : Nat) : (s.setImp q x).num o i = s.num o i := rfl
@[simp] theorem State.setHamper_num (s : State) (n : Nat) (h : Hamper) (o : Obj) (i : Nat) : (s.setHamper n h).num o i = s.num o i := rfl
@[simp] theorem State.setHost_num (s : State) (h : HostSt) (o : Obj) (i : Nat) : (s.setHost h).num o i = s.num o i := rfl
@[simp] theorem State.setHostJob_num (s : State) (h : Nat) (j : Job) (o : Obj) (i : Nat) : (s.setHostJob h j).num o i = s.num o i := rfl
@[simp] theorem State.setMode_num (s : State) (m : ModeSt) (o : Obj) (i : Nat) : (s.setMode m).num o i = s.num o i := rfl
@[simp] theorem State.setMogil_num (s : State) (m : MogilSt) (o : Obj) (i : Nat) : (s.setMogil m).num o i = s.num o i := rfl
@[simp] theorem State.setGrp_num (s : State) (g : Nat) (x : Group) (o : Obj) (i : Nat) : (s.setGrp g x).num o i = s.num o i := rfl
@[simp] theorem State.storeB_num (s : State) (a : Nat) (b : List Byte) (o : Obj) (i : Nat) : (s.storeB a b).num o i = s.num o i := rfl
@[simp] theorem State.answer_num (s : State) (reason : Nat) (o : Obj) (i : Nat) : (s.answer reason).num o i = s.num o i := rfl
@[simp] theorem State.refuse_num (s : State) (f : Fail) (o : Obj) (i : Nat) : (s.refuse f).num o i = s.num o i := rfl
@[simp] theorem State.answerData_num (s : State) (d : List Byte) (o : Obj) (i : Nat) : (s.answerData d).num o i = s.num o i := rfl
@[simp] theorem State.answerFab_num (s : State) (c : FabCmd) (status : Nat) (d : List Byte) (o : Obj) (i : Nat) : (s.answerFab c status d).num o i = s.num o i := rfl
@[simp] theorem State.setPins_num (s : State) (p : PinSt) (o : Obj) (i : Nat) : (s.setPins p).num o i = s.num o i := rfl
@[simp] theorem State.setSession_num (s : State) (n : Nat) (x : Session) (o : Obj) (i : Nat) : (s.setSession n x).num o i = s.num o i := rfl
@[simp] theorem State.setPower_num (s : State) (p : PowerSt) (o : Obj) (i : Nat) : (s.setPower p).num o i = s.num o i := rfl
@[simp] theorem State.setRes_num (s : State) (r : ResSt) (o : Obj) (i : Nat) : (s.setRes r).num o i = s.num o i := rfl
@[simp] theorem State.setDebug_num (s : State) (d : Debug) (o : Obj) (i : Nat) : (s.setDebug d).num o i = s.num o i := rfl
@[simp] theorem State.setTime_num (s : State) (t : TimeSt) (o : Obj) (i : Nat) : (s.setTime t).num o i = s.num o i := rfl
@[simp] theorem State.setCc_num (s : State) (n : Nat) (w : CcWin) (o : Obj) (i : Nat) : (s.setCc n w).num o i = s.num o i := rfl
@[simp] theorem State.setCore_num (s : State) (v : Nat) (c : Core) (o : Obj) (i : Nat) : (s.setCore v c).num o i = s.num o i := rfl

/-! ## Reads after writes -/

theorem Obj.key_inj (o p : Obj) (i j : Nat) (ho : o.code < 16777216) (hp : p.code < 16777216) (h : o.key i = p.key j) :
    o.code = p.code ∧ i = j := by
  simp only [Obj.key] at h
  omega

@[simp] theorem State.num_setNum_same (s : State) (o : Obj) (i : Nat) (v : Int) : (s.setNum o i v).num o i = v :=
  Tab.get_put_same _ _ _ _

theorem State.num_setNum_other (s : State) (o p : Obj) (i j : Nat) (v : Int) (h : p.key j ≠ o.key i) :
    (s.setNum o i v).num p j = s.num p j := Tab.get_put_other _ _ _ _ _ _ h

@[simp] theorem State.nat_setNum_same (s : State) (o : Obj) (i : Nat) (v : Int) : (s.setNum o i v).nat o i = v.toNat := by
  simp [State.nat]

@[simp] theorem State.oct_setOct_same (s : State) (o : Obj) (i : Nat) (b : List Byte) : (s.setOct o i b).oct o i = b :=
  Tab.get_put_same _ _ _ _

theorem State.oct_setOct_other (s : State) (o p : Obj) (i j : Nat) (b : List Byte) (h : p.key j ≠ o.key i) :
    (s.setOct o i b).oct p j = s.oct p j := Tab.get_put_other _ _ _ _ _ _ h

/-- A count rises by what was counted, up to the largest value of its type. -/
theorem State.num_bumpBy_same (s : State) (o : Obj) (i n : Nat) : (s.bumpBy o i n).num o i = min o.hi (s.num o i + n) :=
  State.num_setNum_same _ _ _ _

/-- A value taken over is in force. -/
theorem State.gov_take_same (s : State) (o : Obj) (i : Nat) : (s.take o i).gov o i = s.num o i := by
  unfold State.gov
  split
  · rfl
  · exact Tab.get_put_same _ _ _ _

@[simp] theorem State.core_setCore_same (s : State) (v : Nat) (c : Core) : (s.setCore v c).core v = c :=
  Tab.get_put_same _ _ _ _
theorem State.core_setCore_other (s : State) (v w : Nat) (c : Core) (h : w ≠ v) : (s.setCore v c).core w = s.core w :=
  Tab.get_put_other _ _ _ _ _ _ h
@[simp] theorem State.part_setPart_same (s : State) (n : Nat) (x : Part) : (s.setPart n x).part n = x :=
  Tab.get_put_same _ _ _ _
theorem State.part_setPart_other (s : State) (n m : Nat) (x : Part) (h : m ≠ n) : (s.setPart n x).part m = s.part m :=
  Tab.get_put_other _ _ _ _ _ _ h
@[simp] theorem State.region_setRegion_same (s : State) (r : Nat) (x : Region) : (s.setRegion r x).region r = x :=
  Tab.get_put_same _ _ _ _
theorem State.region_setRegion_other (s : State) (r q : Nat) (x : Region) (h : q ≠ r) :
    (s.setRegion r x).region q = s.region q := Tab.get_put_other _ _ _ _ _ _ h
@[simp] theorem State.domain_setDomain_same (s : State) (d : Nat) (x : Domain) : (s.setDomain d x).domain d = x :=
  Tab.get_put_same _ _ _ _
theorem State.domain_setDomain_other (s : State) (d e : Nat) (x : Domain) (h : e ≠ d) :
    (s.setDomain d x).domain e = s.domain e := Tab.get_put_other _ _ _ _ _ _ h
@[simp] theorem State.unit_setUnit_same (s : State) (c u : Nat) (x : UnitSt) : (s.setUnit c u x).unit c u = x :=
  Tab.get_put_same _ _ _ _
theorem State.unit_setUnit_other (s : State) (c u d v : Nat) (x : UnitSt) (h : unitKey d v ≠ unitKey c u) :
    (s.setUnit c u x).unit d v = s.unit d v := Tab.get_put_other _ _ _ _ _ _ h
@[simp] theorem State.slug_setSlug_same (s : State) (h : Nat) (x : Slug) : (s.setSlug h x).slug h = some x :=
  Tab.find_set_same _ _ _
theorem State.slug_setSlug_other (s : State) (h k : Nat) (x : Slug) (n : k ≠ h) : (s.setSlug h x).slug k = s.slug k :=
  Tab.find_set_other _ _ _ _ n
@[simp] theorem State.hamper_setHamper_same (s : State) (n : Nat) (x : Hamper) : (s.setHamper n x).hamper n = some x :=
  Tab.find_set_same _ _ _
theorem State.hamper_setHamper_other (s : State) (n m : Nat) (x : Hamper) (h : m ≠ n) :
    (s.setHamper n x).hamper m = s.hamper m := Tab.find_set_other _ _ _ _ h
@[simp] theorem State.grp_setGrp_same (s : State) (g : Nat) (x : Group) : (s.setGrp g x).grp g = x :=
  Tab.get_put_same _ _ _ _
theorem State.grp_setGrp_other (s : State) (g k : Nat) (x : Group) (h : k ≠ g) : (s.setGrp g x).grp k = s.grp k :=
  Tab.get_put_other _ _ _ _ _ _ h

/-! ### setPtp -/

@[simp] theorem State.setPtp_pending (s : State) (p : Nat) (x : PtpPort) : (s.setPtp p x).pending = s.pending := rfl
@[simp] theorem State.setPtp_reply (s : State) (p : Nat) (x : PtpPort) : (s.setPtp p x).reply = s.reply := rfl
@[simp] theorem State.setPtp_freeCtr (s : State) (p : Nat) (x : PtpPort) : (s.setPtp p x).freeCtr = s.freeCtr := rfl
@[simp] theorem State.setPtp_mode (s : State) (p : Nat) (x : PtpPort) : (s.setPtp p x).mode = s.mode := rfl
@[simp] theorem State.setPtp_dict (s : State) (p : Nat) (x : PtpPort) : (s.setPtp p x).dict = s.dict := rfl
@[simp] theorem State.setPtp_galley (s : State) (p : Nat) (x : PtpPort) : (s.setPtp p x).galley = s.galley := rfl
@[simp] theorem State.setPtp_vx (s : State) (p : Nat) (x : PtpPort) : (s.setPtp p x).vx = s.vx := rfl
@[simp] theorem State.setPtp_edge (s : State) (p : Nat) (x : PtpPort) : (s.setPtp p x).edge = s.edge := rfl
@[simp] theorem State.setPtp_front (s : State) (p : Nat) (x : PtpPort) : (s.setPtp p x).front = s.front := rfl
@[simp] theorem State.setPtp_mogil (s : State) (p : Nat) (x : PtpPort) : (s.setPtp p x).mogil = s.mogil := rfl
@[simp] theorem State.setPtp_mem (s : State) (p : Nat) (x : PtpPort) : (s.setPtp p x).mem = s.mem := rfl
@[simp] theorem State.setPtp_fab (s : State) (p : Nat) (x : PtpPort) : (s.setPtp p x).fab = s.fab := rfl
@[simp] theorem State.setPtp_host (s : State) (p : Nat) (x : PtpPort) : (s.setPtp p x).host = s.host := rfl
@[simp] theorem State.setPtp_parts (s : State) (p : Nat) (x : PtpPort) : (s.setPtp p x).parts = s.parts := rfl
@[simp] theorem State.setPtp_pot (s : State) (p : Nat) (x : PtpPort) : (s.setPtp p x).pot = s.pot := rfl
@[simp] theorem State.setPtp_sec (s : State) (p : Nat) (x : PtpPort) : (s.setPtp p x).sec = s.sec := rfl
@[simp] theorem State.setPtp_power (s : State) (p : Nat) (x : PtpPort) : (s.setPtp p x).power = s.power := rfl
@[simp] theorem State.setPtp_res (s : State) (p : Nat) (x : PtpPort) : (s.setPtp p x).res = s.res := rfl
@[simp] theorem State.setPtp_pins (s : State) (p : Nat) (x : PtpPort) : (s.setPtp p x).pins = s.pins := rfl
@[simp] theorem State.setPtp_alarms (s : State) (p : Nat) (x : PtpPort) : (s.setPtp p x).alarms = s.alarms := rfl

/-! ### setQp -/

@[simp] theorem State.setQp_pending (s : State) (g : Nat) (x : Qp) : (s.setQp g x).pending = s.pending := rfl
@[simp] theorem State.setQp_reply (s : State) (g : Nat) (x : Qp) : (s.setQp g x).reply = s.reply := rfl
@[simp] theorem State.setQp_freeCtr (s : State) (g : Nat) (x : Qp) : (s.setQp g x).freeCtr = s.freeCtr := rfl
@[simp] theorem State.setQp_mode (s : State) (g : Nat) (x : Qp) : (s.setQp g x).mode = s.mode := rfl
@[simp] theorem State.setQp_dict (s : State) (g : Nat) (x : Qp) : (s.setQp g x).dict = s.dict := rfl
@[simp] theorem State.setQp_time (s : State) (g : Nat) (x : Qp) : (s.setQp g x).time = s.time := rfl
@[simp] theorem State.setQp_galley (s : State) (g : Nat) (x : Qp) : (s.setQp g x).galley = s.galley := rfl
@[simp] theorem State.setQp_vx (s : State) (g : Nat) (x : Qp) : (s.setQp g x).vx = s.vx := rfl
@[simp] theorem State.setQp_edge (s : State) (g : Nat) (x : Qp) : (s.setQp g x).edge = s.edge := rfl
@[simp] theorem State.setQp_front (s : State) (g : Nat) (x : Qp) : (s.setQp g x).front = s.front := rfl
@[simp] theorem State.setQp_mogil (s : State) (g : Nat) (x : Qp) : (s.setQp g x).mogil = s.mogil := rfl
@[simp] theorem State.setQp_mem (s : State) (g : Nat) (x : Qp) : (s.setQp g x).mem = s.mem := rfl
@[simp] theorem State.setQp_fab (s : State) (g : Nat) (x : Qp) : (s.setQp g x).fab = s.fab := rfl
@[simp] theorem State.setQp_parts (s : State) (g : Nat) (x : Qp) : (s.setQp g x).parts = s.parts := rfl
@[simp] theorem State.setQp_pot (s : State) (g : Nat) (x : Qp) : (s.setQp g x).pot = s.pot := rfl
@[simp] theorem State.setQp_sec (s : State) (g : Nat) (x : Qp) : (s.setQp g x).sec = s.sec := rfl
@[simp] theorem State.setQp_power (s : State) (g : Nat) (x : Qp) : (s.setQp g x).power = s.power := rfl
@[simp] theorem State.setQp_res (s : State) (g : Nat) (x : Qp) : (s.setQp g x).res = s.res := rfl
@[simp] theorem State.setQp_pins (s : State) (g : Nat) (x : Qp) : (s.setQp g x).pins = s.pins := rfl
@[simp] theorem State.setQp_alarms (s : State) (g : Nat) (x : Qp) : (s.setQp g x).alarms = s.alarms := rfl

/-! ### setFn -/

@[simp] theorem State.setFn_pending (s : State) (f : Nat) (x : Fn) : (s.setFn f x).pending = s.pending := rfl
@[simp] theorem State.setFn_reply (s : State) (f : Nat) (x : Fn) : (s.setFn f x).reply = s.reply := rfl
@[simp] theorem State.setFn_freeCtr (s : State) (f : Nat) (x : Fn) : (s.setFn f x).freeCtr = s.freeCtr := rfl
@[simp] theorem State.setFn_mode (s : State) (f : Nat) (x : Fn) : (s.setFn f x).mode = s.mode := rfl
@[simp] theorem State.setFn_dict (s : State) (f : Nat) (x : Fn) : (s.setFn f x).dict = s.dict := rfl
@[simp] theorem State.setFn_time (s : State) (f : Nat) (x : Fn) : (s.setFn f x).time = s.time := rfl
@[simp] theorem State.setFn_galley (s : State) (f : Nat) (x : Fn) : (s.setFn f x).galley = s.galley := rfl
@[simp] theorem State.setFn_vx (s : State) (f : Nat) (x : Fn) : (s.setFn f x).vx = s.vx := rfl
@[simp] theorem State.setFn_edge (s : State) (f : Nat) (x : Fn) : (s.setFn f x).edge = s.edge := rfl
@[simp] theorem State.setFn_front (s : State) (f : Nat) (x : Fn) : (s.setFn f x).front = s.front := rfl
@[simp] theorem State.setFn_mogil (s : State) (f : Nat) (x : Fn) : (s.setFn f x).mogil = s.mogil := rfl
@[simp] theorem State.setFn_mem (s : State) (f : Nat) (x : Fn) : (s.setFn f x).mem = s.mem := rfl
@[simp] theorem State.setFn_fab (s : State) (f : Nat) (x : Fn) : (s.setFn f x).fab = s.fab := rfl
@[simp] theorem State.setFn_parts (s : State) (f : Nat) (x : Fn) : (s.setFn f x).parts = s.parts := rfl
@[simp] theorem State.setFn_pot (s : State) (f : Nat) (x : Fn) : (s.setFn f x).pot = s.pot := rfl
@[simp] theorem State.setFn_sec (s : State) (f : Nat) (x : Fn) : (s.setFn f x).sec = s.sec := rfl
@[simp] theorem State.setFn_power (s : State) (f : Nat) (x : Fn) : (s.setFn f x).power = s.power := rfl
@[simp] theorem State.setFn_res (s : State) (f : Nat) (x : Fn) : (s.setFn f x).res = s.res := rfl
@[simp] theorem State.setFn_pins (s : State) (f : Nat) (x : Fn) : (s.setFn f x).pins = s.pins := rfl
@[simp] theorem State.setFn_alarms (s : State) (f : Nat) (x : Fn) : (s.setFn f x).alarms = s.alarms := rfl

/-! ### setLane -/

@[simp] theorem State.setLane_pending (s : State) (l : Nat) (x : Lane) : (s.setLane l x).pending = s.pending := rfl
@[simp] theorem State.setLane_reply (s : State) (l : Nat) (x : Lane) : (s.setLane l x).reply = s.reply := rfl
@[simp] theorem State.setLane_freeCtr (s : State) (l : Nat) (x : Lane) : (s.setLane l x).freeCtr = s.freeCtr := rfl
@[simp] theorem State.setLane_mode (s : State) (l : Nat) (x : Lane) : (s.setLane l x).mode = s.mode := rfl
@[simp] theorem State.setLane_dict (s : State) (l : Nat) (x : Lane) : (s.setLane l x).dict = s.dict := rfl
@[simp] theorem State.setLane_time (s : State) (l : Nat) (x : Lane) : (s.setLane l x).time = s.time := rfl
@[simp] theorem State.setLane_galley (s : State) (l : Nat) (x : Lane) : (s.setLane l x).galley = s.galley := rfl
@[simp] theorem State.setLane_vx (s : State) (l : Nat) (x : Lane) : (s.setLane l x).vx = s.vx := rfl
@[simp] theorem State.setLane_edge (s : State) (l : Nat) (x : Lane) : (s.setLane l x).edge = s.edge := rfl
@[simp] theorem State.setLane_mogil (s : State) (l : Nat) (x : Lane) : (s.setLane l x).mogil = s.mogil := rfl
@[simp] theorem State.setLane_mem (s : State) (l : Nat) (x : Lane) : (s.setLane l x).mem = s.mem := rfl
@[simp] theorem State.setLane_fab (s : State) (l : Nat) (x : Lane) : (s.setLane l x).fab = s.fab := rfl
@[simp] theorem State.setLane_host (s : State) (l : Nat) (x : Lane) : (s.setLane l x).host = s.host := rfl
@[simp] theorem State.setLane_parts (s : State) (l : Nat) (x : Lane) : (s.setLane l x).parts = s.parts := rfl
@[simp] theorem State.setLane_pot (s : State) (l : Nat) (x : Lane) : (s.setLane l x).pot = s.pot := rfl
@[simp] theorem State.setLane_sec (s : State) (l : Nat) (x : Lane) : (s.setLane l x).sec = s.sec := rfl
@[simp] theorem State.setLane_power (s : State) (l : Nat) (x : Lane) : (s.setLane l x).power = s.power := rfl
@[simp] theorem State.setLane_res (s : State) (l : Nat) (x : Lane) : (s.setLane l x).res = s.res := rfl
@[simp] theorem State.setLane_pins (s : State) (l : Nat) (x : Lane) : (s.setLane l x).pins = s.pins := rfl
@[simp] theorem State.setLane_alarms (s : State) (l : Nat) (x : Lane) : (s.setLane l x).alarms = s.alarms := rfl

/-! ### setPort -/

@[simp] theorem State.setPort_pending (s : State) (p : Nat) (x : Port) : (s.setPort p x).pending = s.pending := rfl
@[simp] theorem State.setPort_reply (s : State) (p : Nat) (x : Port) : (s.setPort p x).reply = s.reply := rfl
@[simp] theorem State.setPort_freeCtr (s : State) (p : Nat) (x : Port) : (s.setPort p x).freeCtr = s.freeCtr := rfl
@[simp] theorem State.setPort_mode (s : State) (p : Nat) (x : Port) : (s.setPort p x).mode = s.mode := rfl
@[simp] theorem State.setPort_dict (s : State) (p : Nat) (x : Port) : (s.setPort p x).dict = s.dict := rfl
@[simp] theorem State.setPort_time (s : State) (p : Nat) (x : Port) : (s.setPort p x).time = s.time := rfl
@[simp] theorem State.setPort_galley (s : State) (p : Nat) (x : Port) : (s.setPort p x).galley = s.galley := rfl
@[simp] theorem State.setPort_vx (s : State) (p : Nat) (x : Port) : (s.setPort p x).vx = s.vx := rfl
@[simp] theorem State.setPort_edge (s : State) (p : Nat) (x : Port) : (s.setPort p x).edge = s.edge := rfl
@[simp] theorem State.setPort_mogil (s : State) (p : Nat) (x : Port) : (s.setPort p x).mogil = s.mogil := rfl
@[simp] theorem State.setPort_mem (s : State) (p : Nat) (x : Port) : (s.setPort p x).mem = s.mem := rfl
@[simp] theorem State.setPort_fab (s : State) (p : Nat) (x : Port) : (s.setPort p x).fab = s.fab := rfl
@[simp] theorem State.setPort_host (s : State) (p : Nat) (x : Port) : (s.setPort p x).host = s.host := rfl
@[simp] theorem State.setPort_parts (s : State) (p : Nat) (x : Port) : (s.setPort p x).parts = s.parts := rfl
@[simp] theorem State.setPort_pot (s : State) (p : Nat) (x : Port) : (s.setPort p x).pot = s.pot := rfl
@[simp] theorem State.setPort_sec (s : State) (p : Nat) (x : Port) : (s.setPort p x).sec = s.sec := rfl
@[simp] theorem State.setPort_power (s : State) (p : Nat) (x : Port) : (s.setPort p x).power = s.power := rfl
@[simp] theorem State.setPort_res (s : State) (p : Nat) (x : Port) : (s.setPort p x).res = s.res := rfl
@[simp] theorem State.setPort_pins (s : State) (p : Nat) (x : Port) : (s.setPort p x).pins = s.pins := rfl
@[simp] theorem State.setPort_alarms (s : State) (p : Nat) (x : Port) : (s.setPort p x).alarms = s.alarms := rfl

/-! ### setFlow -/

@[simp] theorem State.setFlow_pending (s : State) (f : Nat) (x : Flow) : (s.setFlow f x).pending = s.pending := rfl
@[simp] theorem State.setFlow_reply (s : State) (f : Nat) (x : Flow) : (s.setFlow f x).reply = s.reply := rfl
@[simp] theorem State.setFlow_freeCtr (s : State) (f : Nat) (x : Flow) : (s.setFlow f x).freeCtr = s.freeCtr := rfl
@[simp] theorem State.setFlow_mode (s : State) (f : Nat) (x : Flow) : (s.setFlow f x).mode = s.mode := rfl
@[simp] theorem State.setFlow_dict (s : State) (f : Nat) (x : Flow) : (s.setFlow f x).dict = s.dict := rfl
@[simp] theorem State.setFlow_time (s : State) (f : Nat) (x : Flow) : (s.setFlow f x).time = s.time := rfl
@[simp] theorem State.setFlow_galley (s : State) (f : Nat) (x : Flow) : (s.setFlow f x).galley = s.galley := rfl
@[simp] theorem State.setFlow_vx (s : State) (f : Nat) (x : Flow) : (s.setFlow f x).vx = s.vx := rfl
@[simp] theorem State.setFlow_edge (s : State) (f : Nat) (x : Flow) : (s.setFlow f x).edge = s.edge := rfl
@[simp] theorem State.setFlow_mogil (s : State) (f : Nat) (x : Flow) : (s.setFlow f x).mogil = s.mogil := rfl
@[simp] theorem State.setFlow_mem (s : State) (f : Nat) (x : Flow) : (s.setFlow f x).mem = s.mem := rfl
@[simp] theorem State.setFlow_fab (s : State) (f : Nat) (x : Flow) : (s.setFlow f x).fab = s.fab := rfl
@[simp] theorem State.setFlow_host (s : State) (f : Nat) (x : Flow) : (s.setFlow f x).host = s.host := rfl
@[simp] theorem State.setFlow_parts (s : State) (f : Nat) (x : Flow) : (s.setFlow f x).parts = s.parts := rfl
@[simp] theorem State.setFlow_pot (s : State) (f : Nat) (x : Flow) : (s.setFlow f x).pot = s.pot := rfl
@[simp] theorem State.setFlow_sec (s : State) (f : Nat) (x : Flow) : (s.setFlow f x).sec = s.sec := rfl
@[simp] theorem State.setFlow_power (s : State) (f : Nat) (x : Flow) : (s.setFlow f x).power = s.power := rfl
@[simp] theorem State.setFlow_res (s : State) (f : Nat) (x : Flow) : (s.setFlow f x).res = s.res := rfl
@[simp] theorem State.setFlow_pins (s : State) (f : Nat) (x : Flow) : (s.setFlow f x).pins = s.pins := rfl
@[simp] theorem State.setFlow_alarms (s : State) (f : Nat) (x : Flow) : (s.setFlow f x).alarms = s.alarms := rfl

/-! ### setWset -/

@[simp] theorem State.setWset_pending (s : State) (r c : Nat) (x : WidthSet) : (s.setWset r c x).pending = s.pending := rfl
@[simp] theorem State.setWset_reply (s : State) (r c : Nat) (x : WidthSet) : (s.setWset r c x).reply = s.reply := rfl
@[simp] theorem State.setWset_freeCtr (s : State) (r c : Nat) (x : WidthSet) : (s.setWset r c x).freeCtr = s.freeCtr := rfl
@[simp] theorem State.setWset_mode (s : State) (r c : Nat) (x : WidthSet) : (s.setWset r c x).mode = s.mode := rfl
@[simp] theorem State.setWset_dict (s : State) (r c : Nat) (x : WidthSet) : (s.setWset r c x).dict = s.dict := rfl
@[simp] theorem State.setWset_time (s : State) (r c : Nat) (x : WidthSet) : (s.setWset r c x).time = s.time := rfl
@[simp] theorem State.setWset_galley (s : State) (r c : Nat) (x : WidthSet) : (s.setWset r c x).galley = s.galley := rfl
@[simp] theorem State.setWset_vx (s : State) (r c : Nat) (x : WidthSet) : (s.setWset r c x).vx = s.vx := rfl
@[simp] theorem State.setWset_front (s : State) (r c : Nat) (x : WidthSet) : (s.setWset r c x).front = s.front := rfl
@[simp] theorem State.setWset_mogil (s : State) (r c : Nat) (x : WidthSet) : (s.setWset r c x).mogil = s.mogil := rfl
@[simp] theorem State.setWset_mem (s : State) (r c : Nat) (x : WidthSet) : (s.setWset r c x).mem = s.mem := rfl
@[simp] theorem State.setWset_fab (s : State) (r c : Nat) (x : WidthSet) : (s.setWset r c x).fab = s.fab := rfl
@[simp] theorem State.setWset_host (s : State) (r c : Nat) (x : WidthSet) : (s.setWset r c x).host = s.host := rfl
@[simp] theorem State.setWset_parts (s : State) (r c : Nat) (x : WidthSet) : (s.setWset r c x).parts = s.parts := rfl
@[simp] theorem State.setWset_pot (s : State) (r c : Nat) (x : WidthSet) : (s.setWset r c x).pot = s.pot := rfl
@[simp] theorem State.setWset_sec (s : State) (r c : Nat) (x : WidthSet) : (s.setWset r c x).sec = s.sec := rfl
@[simp] theorem State.setWset_power (s : State) (r c : Nat) (x : WidthSet) : (s.setWset r c x).power = s.power := rfl
@[simp] theorem State.setWset_res (s : State) (r c : Nat) (x : WidthSet) : (s.setWset r c x).res = s.res := rfl
@[simp] theorem State.setWset_pins (s : State) (r c : Nat) (x : WidthSet) : (s.setWset r c x).pins = s.pins := rfl
@[simp] theorem State.setWset_alarms (s : State) (r c : Nat) (x : WidthSet) : (s.setWset r c x).alarms = s.alarms := rfl

/-! ### setQueue -/

@[simp] theorem State.setQueue_pending (s : State) (p q : Nat) (l : List TxFrame) : (s.setQueue p q l).pending = s.pending := rfl
@[simp] theorem State.setQueue_reply (s : State) (p q : Nat) (l : List TxFrame) : (s.setQueue p q l).reply = s.reply := rfl
@[simp] theorem State.setQueue_freeCtr (s : State) (p q : Nat) (l : List TxFrame) : (s.setQueue p q l).freeCtr = s.freeCtr := rfl
@[simp] theorem State.setQueue_mode (s : State) (p q : Nat) (l : List TxFrame) : (s.setQueue p q l).mode = s.mode := rfl
@[simp] theorem State.setQueue_dict (s : State) (p q : Nat) (l : List TxFrame) : (s.setQueue p q l).dict = s.dict := rfl
@[simp] theorem State.setQueue_time (s : State) (p q : Nat) (l : List TxFrame) : (s.setQueue p q l).time = s.time := rfl
@[simp] theorem State.setQueue_galley (s : State) (p q : Nat) (l : List TxFrame) : (s.setQueue p q l).galley = s.galley := rfl
@[simp] theorem State.setQueue_vx (s : State) (p q : Nat) (l : List TxFrame) : (s.setQueue p q l).vx = s.vx := rfl
@[simp] theorem State.setQueue_edge (s : State) (p q : Nat) (l : List TxFrame) : (s.setQueue p q l).edge = s.edge := rfl
@[simp] theorem State.setQueue_mogil (s : State) (p q : Nat) (l : List TxFrame) : (s.setQueue p q l).mogil = s.mogil := rfl
@[simp] theorem State.setQueue_mem (s : State) (p q : Nat) (l : List TxFrame) : (s.setQueue p q l).mem = s.mem := rfl
@[simp] theorem State.setQueue_fab (s : State) (p q : Nat) (l : List TxFrame) : (s.setQueue p q l).fab = s.fab := rfl
@[simp] theorem State.setQueue_host (s : State) (p q : Nat) (l : List TxFrame) : (s.setQueue p q l).host = s.host := rfl
@[simp] theorem State.setQueue_parts (s : State) (p q : Nat) (l : List TxFrame) : (s.setQueue p q l).parts = s.parts := rfl
@[simp] theorem State.setQueue_pot (s : State) (p q : Nat) (l : List TxFrame) : (s.setQueue p q l).pot = s.pot := rfl
@[simp] theorem State.setQueue_sec (s : State) (p q : Nat) (l : List TxFrame) : (s.setQueue p q l).sec = s.sec := rfl
@[simp] theorem State.setQueue_power (s : State) (p q : Nat) (l : List TxFrame) : (s.setQueue p q l).power = s.power := rfl
@[simp] theorem State.setQueue_res (s : State) (p q : Nat) (l : List TxFrame) : (s.setQueue p q l).res = s.res := rfl
@[simp] theorem State.setQueue_pins (s : State) (p q : Nat) (l : List TxFrame) : (s.setQueue p q l).pins = s.pins := rfl
@[simp] theorem State.setQueue_alarms (s : State) (p q : Nat) (l : List TxFrame) : (s.setQueue p q l).alarms = s.alarms := rfl

end Sys2Proof.Machine
end

