-- ==== Sys2Proof/Laws/Vx.lean ====
section
/-!
SUPPORT. Laws of the register groups of a core: elements of a group that is written, registers outside it, and what the
shared frame of the element-wise instructions leaves (R111, R114, R122).
-/

namespace Sys2Proof.Machine

open Sys2Proof

/-! ## Elements of a group -/

theorem joinElems_lt (w : Nat) (l : List Nat) : joinElems w l < 2 ^ (w * l.length) := by
  induction l with
  | nil => simp [joinElems]
  | cons e t ih =>
    simp only [joinElems, List.length_cons]
    have h1 : e % 2 ^ w < 2 ^ w := Nat.mod_lt _ (Nat.two_pow_pos w)
    have h2 : 2 ^ (w * (t.length + 1)) = 2 ^ w * 2 ^ (w * t.length) := by rw [← Nat.pow_add]; congr 1; ring
    rw [h2]
    calc e % 2 ^ w + 2 ^ w * joinElems w t < 2 ^ w + 2 ^ w * joinElems w t := Nat.add_lt_add_right h1 _
      _ = 2 ^ w * (joinElems w t + 1) := by ring
      _ ≤ 2 ^ w * 2 ^ (w * t.length) := Nat.mul_le_mul_left _ ih

theorem elemOf_join (w : Nat) (l : List Nat) (i : Nat) (h : i < l.length) :
    elemOf (joinElems w l) w i = l[i] % 2 ^ w := by
  induction l generalizing i with
  | nil => simp at h
  | cons e t ih =>
    cases i with
    | zero => simp [elemOf, joinElems, Nat.add_mod]
    | succ i =>
      have hi : i < t.length := by simpa using h
      have e1 : joinElems w (e :: t) / 2 ^ (w * (i + 1)) = joinElems w t / 2 ^ (w * i) := by
        rw [show w * (i + 1) = w + w * i by ring, Nat.pow_add, ← Nat.div_div_eq_div_mul]
        congr 1
        simp only [joinElems]
        rw [Nat.add_mul_div_left _ _ (Nat.two_pow_pos w), Nat.div_eq_of_lt (Nat.mod_lt _ (Nat.two_pow_pos w)), Nat.zero_add]
      simp only [elemOf, e1, List.getElem_cons_succ]
      exact ih i hi

theorem elemOf_lt (v w i : Nat) : elemOf v w i < 2 ^ w := Nat.mod_lt _ (Nat.two_pow_pos w)

/-! ## Wide registers -/

theorem Core.setWide_other (c : Core) (r v n k : Nat) (h : k < r ∨ r + n ≤ k) :
    Tab.get 0#2048 (c.setWide r v n).w k = Tab.get 0#2048 c.w k := by
  induction n with
  | zero => rfl
  | succ n ih =>
    simp only [Core.setWide]
    rw [Tab.get_put_other _ _ _ _ _ _ (by omega)]
    exact ih (by omega)

/-- A write of a group changes no other part of the core. -/
theorem Core.setWide_rest (c : Core) (r v n : Nat) : { c.setWide r v n with w := c.w } = c := by
  induction n with
  | zero => rfl
  | succ n ih => simpa [Core.setWide] using ih

theorem Core.setWide_get (c : Core) (r v n k : Nat) (h : k < n) :
    Tab.get 0#2048 (c.setWide r v n).w (r + k) = BitVec.ofNat 2048 (v / 2 ^ (2048 * k)) := by
  induction n with
  | zero => omega
  | succ n ih =>
    simp only [Core.setWide]
    by_cases hk : k = n
    · subst hk
      exact Tab.get_put_same _ _ _ _
    · rw [Tab.get_put_other _ _ _ _ _ _ (by omega)]
      exact ih (by omega)

theorem Core.wide_congr (c d : Core) (r n : Nat)
    (h : ∀ k, k < n → Tab.get 0#2048 d.w (r + k) = Tab.get 0#2048 c.w (r + k)) : d.wide r n = c.wide r n := by
  induction n with
  | zero => rfl
  | succ n ih =>
    simp only [Core.wide]
    rw [ih (fun k hk => h k (by omega)), h n (by omega)]

theorem Core.wide_of (d : Core) (r v n : Nat)
    (h : ∀ k, k < n → Tab.get 0#2048 d.w (r + k) = BitVec.ofNat 2048 (v / 2 ^ (2048 * k))) :
    d.wide r n = v % 2 ^ (2048 * n) := by
  induction n with
  | zero => simp [Core.wide, Nat.mod_one]
  | succ n ih =>
    simp only [Core.wide]
    rw [ih (fun k hk => h k (by omega)), h n (by omega), BitVec.toNat_ofNat]
    rw [show 2048 * (n + 1) = 2048 * n + 2048 by ring, Nat.pow_add, Nat.mod_mul]
    ring

/-- A group reads as it was written. -/
theorem Core.wide_setWide (c : Core) (r v n : Nat) : (c.setWide r v n).wide r n = v % 2 ^ (2048 * n) :=
  Core.wide_of _ r v n fun k hk => c.setWide_get r v n k hk

theorem Core.size (c : Core) : c.ew * c.vlmax = 2048 * c.g := by
  unfold Core.vlmax Core.ew Core.g
  have h1 : bits c.vcfg.toNat 1 0 < 4 := Nat.mod_lt _ (by decide)
  have h2 : bits c.vcfg.toNat 3 2 < 4 := Nat.mod_lt _ (by decide)
  generalize bits c.vcfg.toNat 1 0 = a at h1
  generalize bits c.vcfg.toNat 3 2 = b at h2
  interval_cases a <;> interval_cases b <;> rfl

/-- The elements of a group that is written whole. -/
theorem Core.elem_setWide (c : Core) (r : Nat) (l : List Nat) (hl : l.length = c.vlmax) (i : Nat) (h : i < c.vlmax) :
    elemOf ((c.setWide r (joinElems c.ew l) c.g).wide r c.g) c.ew i = l[i]'(by omega) % 2 ^ c.ew := by
  rw [Core.wide_setWide, Nat.mod_eq_of_lt, elemOf_join c.ew l i (by omega)]
  have := joinElems_lt c.ew l
  rwa [hl, c.size] at this

/-! ## Flags -/

theorem foldl_or_testBit {α : Type} (l : List α) (p : α → Bool) (f : α → Nat) (a k : Nat) :
    (l.foldl (fun m i => if p i then m ||| f i else m) a).testBit k =
      (a.testBit k || l.any (fun i => p i && (f i).testBit k)) := by
  induction l generalizing a with
  | nil => simp
  | cons x t ih =>
    simp only [List.foldl_cons, List.any_cons]
    rw [ih]
    cases p x <;> simp [Nat.testBit_or, Bool.or_assoc]

theorem Core.newFlags_bit (c : Core) (pm : Bool) (pg : BitVec 3) (f : Nat → Nat) (k : Nat) :
    (c.newFlags pm pg f).testBit k =
      (List.range c.vl).any (fun i => decide (c.vri ≤ i) && c.active pm pg i && (f i).testBit k) := by
  unfold Core.newFlags
  rw [foldl_or_testBit (List.range c.vl) (fun i => decide (c.vri ≤ i) && c.active pm pg i) f 0 k]
  simp

/-! ## Element-wise instructions -/

theorem State.setCore_rf' (s : State) (v : Nat) (c : Core) : Frame [.vx] [] s (s.setCore v c) :=
  ⟨fun f hf hv => by
    cases f <;> first
      | exact absurd (by decide) hf | exact absurd rfl hv | rfl | exact ⟨rfl, rfl⟩ | exact ⟨rfl, rfl, rfl, rfl, rfl⟩,
    Or.inr fun _ _ => rfl⟩

/-- A core replaced and nothing else. -/
theorem State.setCore_only (s : State) (v : Nat) (c : Core) : OnlyCore s (s.setCore v c) v :=
  ⟨s.setCore_rf' v c, fun x hx => s.core_setCore_other v x c hx⟩

/-- A write of a group as a change of the wide registers alone. -/
theorem Core.setWide_eq (c : Core) (r v n : Nat) : c.setWide r v n = { c with w := (c.setWide r v n).w } := by
  have h := congrArg (fun x : Core => { x with w := (c.setWide r v n).w }) (c.setWide_rest r v n)
  exact h

theorem ofNat_testBit {n k : Nat} (h : k < 64) : (BitVec.ofNat 64 n).getLsbD k = n.testBit k := by
  rw [BitVec.getLsbD_ofNat]
  simp [h]

/-- A core whose destination group takes the elements of a list, whose flags take `m` and which retires. -/
theorem vecResult_list (s : State) (v : Nat) (wd : BitVec 5) (pm : Bool) (pg : BitVec 3) (f : Nat → Nat × Nat)
    (l : List Nat) (m : Nat) (hl : l.length = (s.core v).vlmax)
    (he : ∀ i (h : i < l.length), l[i] % 2 ^ (s.core v).ew =
      if (s.core v).vl ≤ i then (if (s.core v).tz then 0 else (s.core v).elem wd i)
      else if i < (s.core v).vri then (s.core v).elem wd i
      else if (s.core v).active pm pg i then (f i).1 % 2 ^ (s.core v).ew
      else if (s.core v).mz then 0 else (s.core v).elem wd i)
    (hm : ∀ k, k < 64 → m.testBit k = (List.range (s.core v).vl).any (fun i =>
      decide ((s.core v).vri ≤ i) && (s.core v).active pm pg i && (f i).2.testBit k)) :
    VecResult s (s.setCore v ((((s.core v).setWide wd.toNat (joinElems (s.core v).ew l) (s.core v).g).flags m).retire))
      v wd pm pg f := by
  generalize hc : s.core v = c at *
  have hw := c.elem_setWide wd.toNat l hl
  have ho := c.setWide_other wd.toNat (joinElems c.ew l) c.g
  have hd := c.setWide_eq wd.toNat (joinElems c.ew l) c.g
  generalize (c.setWide wd.toNat (joinElems c.ew l) c.g).w = W at *
  rw [hd] at hw ⊢
  refine ⟨?_, ?_, ?_, ?_, s.setCore_only v _⟩
  · intro i hi
    rw [hc] at hi
    rw [State.core_setCore_same, hc]
    have := hw i hi
    rw [he i (by omega)] at this
    have hg := Core.wide_congr { c with w := W } (Core.retire (Core.flags { c with w := W } m)) wd.toNat c.g
      (fun _ _ => rfl)
    exact (congrArg (fun x => elemOf x c.ew i) hg).trans this
  · intro r hr
    rw [State.core_setCore_same, hc] at *
    exact ho r hr
  · intro k hk
    rw [State.core_setCore_same, hc, ← hm k hk]
    simp only [Core.flags, Core.retire, Core.count, BitVec.getLsbD_or]
    rw [ofNat_testBit hk]
  · rw [State.core_setCore_same, hc]
    exact ⟨⟨rfl, rfl, rfl⟩, rfl⟩

theorem Core.newElems_length (c : Core) (pm : Bool) (pg : BitVec 3) (old : Nat) (f : Nat → Option Nat) :
    (c.newElems pm pg old f).length = c.vlmax := by simp [Core.newElems]

/-- The shared frame of the element-wise instructions gives their result. -/
theorem vecResult_map (s : State) (v : Nat) (wd : BitVec 5) (pm : Bool) (pg : BitVec 3) (f : Nat → Nat × Nat)
    (hv : (s.core v).vl ≠ 0) :
    VecResult s (s.setCore v ((s.core v).mapElems wd pm pg (fun i => (some (f i).1, (f i).2)))) v wd pm pg f := by
  unfold Core.mapElems
  rw [if_neg hv]
  refine vecResult_list s v wd pm pg f _ _ (Core.newElems_length ..) (fun i h => ?_)
    (fun k hk => (s.core v).newFlags_bit pm pg (fun i => (f i).2) k)
  simp only [Core.newElems, List.getElem_map, List.getElem_range, Core.elem]
  have e : ∀ x i, elemOf x (s.core v).ew i % 2 ^ (s.core v).ew = elemOf x (s.core v).ew i :=
    fun x i => Nat.mod_eq_of_lt (elemOf_lt ..)
  (repeat' split) <;> first | rfl | exact e _ _

/-- An instruction that its core fetches has its effect. -/
theorem State.fetched_of_fetches {s : State} {v n : Nat} (h : s.fetches v n) (f : State → State) : s.fetched v n f = f s := by
  simp [State.fetched, h.1, h.2]

end Sys2Proof.Machine
end

