-- ==== Sys2Proof/WellFormed.lean ====
section
/-!
DEFINITION. Well-formed commands: every operand that numbers a unit, port, lane, cell or other part of the block lies in the
range the spec gives that part, and an operand that carries a field of fixed length has that length.
-/

namespace Sys2Proof

/-- Units of each executor class (Table 01-2, R85): VX, CC, ME, TE, LD, LE, PL, TD, HQ, FU, CU, DMA. -/
def unitsOfClass : List Nat := [96, 8, 16, 8, 16, 4, 4, 2, 4, 4, 12, 8]

/-- A unit of a class. -/
def unitOk (cls unit : Nat) : Bool := decide (unit < unitsOfClass.getD cls 0)

/-- A requester: a function below 1,024, a stream of a session below 8 (R361). -/
def reqOk : Requester → Bool
  | .session _ => true
  | .mailbox fn => decide (fn < 1024)
  | .stream _ strm => decide (strm < 8)
  | .smbus => true

/-- A dictionary address: 16 bits of index and 8 of subindex (R342). -/
def addrOk (a : Addr) : Bool := decide (a.idx < 65536) && decide (a.sub < 256)

/-- One of the 24 line lanes, or lane 0–8 of Mogil group 0–3. -/
def laneOk : LaneRef → Bool
  | .line n => decide (n < 24)
  | .mogil g l => decide (g < 4) && decide (l < 9)

/-- One of the 24 ports, or of the 4 Mogil groups. -/
def pogOk : PortOrGroup → Bool
  | .port n => decide (n < 24)
  | .group n => decide (n < 4)

/-- Fields of vector instructions: one of the 96 cores. -/
def vvOk (o : VV) : Bool := decide (o.core < 96)
def vuOk (o : VU) : Bool := decide (o.core < 96)
def vcOk (o : VC) : Bool := decide (o.core < 96)

/-- Fields of a vector memory instruction: one of the cores, and 1 to 8 fields of a structure. -/
def vmemOk (m : VMem) : Bool := decide (m.core < 96) && decide (1 ≤ m.nf) && decide (m.nf ≤ 8)

/-- A fabric packet (Table 10-3): a partition below 1,024, an address of 48 bits, at most 512 bytes. -/
def packetOk (p : FabPacket) : Bool :=
  decide (p.part < 1024) && decide (p.addr < 281474976710656) && decide (p.bytes ≤ 512) && decide (p.data.length ≤ 512)

/-- An image header's numbers (Table 14-1). -/
def imageOk (i : Image) : Bool := decide (i.rollback < 256) && decide (i.version < 4294967296) && decide (i.entry < 4294967296)

/-- The profiles of one of 64 preambles (Table 07-4), of symbols of a slot. -/
def profileOk (p : Profile) : Bool := decide (p.preamble < 64) && p.parts.all (fun q => decide (q.1 < 14))

/-- The fields of a section: frameId, subframeId, slotId, symbolId, sectionId, resource blocks, method and width of a udCompHdr. -/
def sectionOk (x : Section) : Bool :=
  decide (x.frameId < 256 ∧ x.subframe < 10 ∧ x.slotId < 64 ∧ x.symbol < 14 ∧ x.sectionId < 4096)
    && decide (x.startPrb < 1024 ∧ x.numPrb < 1024 ∧ x.method < 16 ∧ 1 ≤ x.width ∧ x.width ≤ 16)

/-- An eCPRI message: revision of 4 bits, an 8-bit type, identifier and sequence. -/
def messageOk (m : EcpriMsg) : Bool :=
  decide (m.revision < 16 ∧ m.kind < 256 ∧ m.eaxc < 65536 ∧ m.seqId < 256) && m.secs.all sectionOk

/-- A VLAN identifier is 12 bits, a transport 0–2, a firmware class one of Table 08-5, a MACsec SCI 64 bits. -/
def bodyOk : FrameBody → Bool
  | .ecpri tr vid port _ ms => decide (tr < 3 ∧ vid < 4096 ∧ port < 65536) && ms.all messageOk
  | .firmware c => decide (1 ≤ c ∧ c ≤ 4)
  | .managed vid => decide (vid < 4096)
  | .forward vid _ _ => decide (vid < 4096)
  | _ => true
def frameOk (f : EthFrame) : Bool :=
  bodyOk f.body && (match f.sec with
    | some t => decide (t.sci < 18446744073709551616 ∧ t.an < 4 ∧ t.pn < 18446744073709551616)
    | none => true)

/-- A well-formed command. -/
def Instr.wf (i : Instr) : Bool :=
  match i with
  | .vinRise _ _ => true
  | .vinFall => true
  | .resetNAssert _ => true
  | .resetNRelease => true
  | .thermalShutdown => true
  | .modeRequest who code => reqOk who && decide (code < 256)
  | .deviceEnable who _ => reqOk who
  | .deviceDisable who => reqOk who
  | .drainEnd => true
  | .bootStageComplete _ _ => true
  | .bootStageFail _ => true
  | .bootHostTimeout => true
  | .bootImageWrite fn img => decide (fn < 1024) && imageOk img
  | .degradedExit => true
  | .oscInLoss => true
  | .oscInReturn => true
  | .servoMeasurement _ _ _ => true
  | .servoLock => true
  | .timebaseStep => true
  | .timeSet who _ => reqOk who
  | .referenceQualify entry => decide (entry < 8)
  | .referenceDisqualify entry => decide (entry < 8)
  | .announceTimeout port _ => decide (port < 26)
  | .ppsLossTimeout input => decide (input < 2)
  | .synceLockLoss lane => decide (lane < 24)
  | .waitToRestoreExpiry _ => true
  | .holdoverLimit => true
  | .ptpEventMessageRx port _ _ => decide (port < 26)
  | .ptpUnpairedDiscard port _ => decide (port < 26)
  | .stampedFrameTx port _ _ _ => decide (port < 26)
  | .txStampQueuePop port => decide (port < 26)
  | .ppsInEdge input _ _ _ => decide (input < 2)
  | .todInMessage _ _ _ _ _ _ => true
  | .ppsOutEdge out => decide (out < 2)
  | .ppsOutPulseEnd out => decide (out < 2)
  | .todOutSend => true
  | .slotBoundary cell => decide (cell < 1024)
  | .subframeBoundary => true
  | .frameBoundary => true
  | .sfnWrap => true
  | .hfnWrap => true
  | .airTickWrap => true
  | .ptmRequest => true
  | .ptmResponse _ _ _ => true
  | .ptmResponseTimeout => true
  | .press cell => decide (cell < 1024)
  | .impressionRelease imp => decide (imp < 1048576)
  | .counterFireBy ctr => decide (ctr < 4096)
  | .dispatch cls unit => unitOk cls unit
  | .completionReport _ => true
  | .faultReport cls unit _ => unitOk cls unit
  | .watchdogExpiry handle => decide (handle < 65536)
  | .deadlineExpiry handle => decide (handle < 65536)
  | .lateHorizonExpiry handle => decide (handle < 65536)
  | .stallDeclare part => decide (part < 1024)
  | .slugHandleReserve _ _ => true
  | .slugSubmit handle bytes => decide (handle < 65536) && decide (bytes.length = 64)
  | .slugDecrement handle => decide (handle < 65536)
  | .handleReserveTimeout handle => decide (handle < 65536)
  | .timerSlugFire handle => decide (handle < 65536)
  | .ccDone cc => decide (cc < 8)
  | .countClear who _ => reqOk who
  | .loadWindowEnd => true
  | .formeImage who _ => reqOk who
  | .formeEnable who => reqOk who
  | .formeDisable who => reqOk who
  | .cellEnable who _ => reqOk who
  | .slotFormes who _ => reqOk who
  | .interruptTaken core _ _ => decide (core < 96)
  | .xret core _ => decide (core < 96)
  | .vstatusAccess core _ _ _ => decide (core < 96)
  | .vlWWrite core _ => decide (core < 96)
  | .vcfgWWrite core _ => decide (core < 96)
  | .cpOpComplete core cp => decide (core < 96) && decide (cp < 3)
  | .vadd o => vvOk o
  | .vsub o => vvOk o
  | .vadds o => vvOk o
  | .vsubs o => vvOk o
  | .vmul o => vvOk o
  | .vmulh o => vvOk o
  | .vmacc o => vvOk o
  | .vnmsac o => vvOk o
  | .vdiv o => vvOk o
  | .vdivs o => vvOk o
  | .vrem o => vvOk o
  | .vand o => vvOk o
  | .vor o => vvOk o
  | .vxor o => vvOk o
  | .vsll o => vvOk o
  | .vsra o => vvOk o
  | .vsrl o => vvOk o
  | .vmin o => vvOk o
  | .vmax o => vvOk o
  | .vmulhr o _ => vvOk o
  | .vcmulr o _ => vvOk o
  | .vcmacr o _ => vvOk o
  | .vcmulcr o _ => vvOk o
  | .vfadd o => vvOk o
  | .vfsub o => vvOk o
  | .vfmul o => vvOk o
  | .vfdiv o => vvOk o
  | .vfma o => vvOk o
  | .vfnms o => vvOk o
  | .vfmin o => vvOk o
  | .vfmax o => vvOk o
  | .vfcmul o => vvOk o
  | .vfcmac o => vvOk o
  | .vfcvtFX o => vuOk o
  | .vfcvtXF o => vuOk o
  | .vfcvtXFRtz o => vuOk o
  | .vfneg o => vuOk o
  | .vfabs o => vuOk o
  | .vneg o => vuOk o
  | .vnegs o => vuOk o
  | .vabs o => vuOk o
  | .vabss o => vuOk o
  | .vnot o => vuOk o
  | .vclz o => vuOk o
  | .vcpop o => vuOk o
  | .vconj o => vuOk o
  | .vconjs o => vuOk o
  | .vcmp o => vcOk o
  | .vcmpu o => vcOk o
  | .vfcmp o => vcOk o
  | .vsel o => vvOk o
  | .vperm o => vvOk o
  | .vredsum o => vuOk o
  | .vredsums o => vuOk o
  | .vredmax o => vuOk o
  | .vredmin o => vuOk o
  | .vredcsums o => vuOk o
  | .vfredsum o => vuOk o
  | .vfredmax o => vuOk o
  | .vfredmin o => vuOk o
  | .vaddX o => vvOk o
  | .vsubX o => vvOk o
  | .vrsubX o => vvOk o
  | .vmulX o => vvOk o
  | .vmaccX o => vvOk o
  | .vsllX o => vvOk o
  | .vsraX o => vvOk o
  | .vsrlX o => vvOk o
  | .vsllI o => vvOk o
  | .vsraI o => vvOk o
  | .vsrlI o => vvOk o
  | .vslidednI o => vvOk o
  | .vslideupI o => vvOk o
  | .vaddI o => vvOk o
  | .vbfexp o => vvOk o
  | .vbfnorm o _ => vvOk o
  | .vbfden o => vvOk o
  | .vsrarI o _ => vvOk o
  | .vsrarV o _ => vvOk o
  | .vnclipI o _ => vvOk o
  | .vle m => vmemOk m
  | .vleff m => vmemOk m
  | .vlseg m => vmemOk m
  | .vlsegff m => vmemOk m
  | .vse m => vmemOk m
  | .vsseg m => vmemOk m
  | .vlse m => vmemOk m
  | .vsse m => vmemOk m
  | .vlxe m => vmemOk m
  | .vsxe m => vmemOk m
  | .vlsseg m => vmemOk m
  | .vssseg m => vmemOk m
  | .vsetvli core _ _ _ => decide (core < 96)
  | .vsetvl core _ _ _ => decide (core < 96)
  | .vmvVX core _ _ => decide (core < 96)
  | .vmvXV core _ _ _ => decide (core < 96)
  | .vmvVV core _ _ => decide (core < 96)
  | .vpand core _ _ _ => decide (core < 96)
  | .vpor core _ _ _ => decide (core < 96)
  | .vpxor core _ _ _ => decide (core < 96)
  | .vpandn core _ _ _ => decide (core < 96)
  | .vpcnt core _ _ => decide (core < 96)
  | .vpfirst core _ _ => decide (core < 96)
  | .vpvl core _ _ => decide (core < 96)
  | .vxWfs core _ _ _ _ => decide (core < 96)
  | .vxDone core _ _ _ _ => decide (core < 96)
  | .vcpMvto core _ _ _ _ => decide (core < 96)
  | .vcpMvfrom core _ _ _ _ => decide (core < 96)
  | .vcpClear core _ _ _ _ => decide (core < 96)
  | .cp0Ginit core _ _ => decide (core < 96)
  | .cp0Gold core _ _ => decide (core < 96)
  | .cp0Gskip core _ _ => decide (core < 96)
  | .cp0Zc core _ _ => decide (core < 96)
  | .cp1Crcsel core _ _ => decide (core < 96)
  | .cp1Crc core _ _ => decide (core < 96)
  | .cp1Crcget core _ _ => decide (core < 96)
  | .cp1Trellis core _ _ => decide (core < 96)
  | .cp2Rcp core _ _ => decide (core < 96)
  | .cp2Rsqrt core _ _ => decide (core < 96)
  | .cp2Log2 core _ _ => decide (core < 96)
  | .cp2Exp2 core _ _ => decide (core < 96)
  | .cp2Sin core _ _ => decide (core < 96)
  | .cp2Cos core _ _ => decide (core < 96)
  | .cp2Atan2 core _ _ => decide (core < 96)
  | .vxUnitFault core _ => decide (core < 96)
  | .coreImageSwitch core => decide (core < 96)
  | .vxImageWrite who img => reqOk who && imageOk img
  | .vxImageVerifyDone slot => decide (slot < 16)
  | .teFwd eng => decide (eng < 54)
  | .teInv eng => decide (eng < 54)
  | .teCzt eng => decide (eng < 54)
  | .meChest eng => decide (eng < 54)
  | .meWeight eng => decide (eng < 54)
  | .meApply eng => decide (eng < 54)
  | .meApplyDemap eng => decide (eng < 54)
  | .meChol eng => decide (eng < 54)
  | .meInv eng => decide (eng < 54)
  | .ldDecode eng => decide (eng < 54)
  | .leEncode eng => decide (eng < 54)
  | .plPolarDecode eng => decide (eng < 54)
  | .plPolarEncode eng => decide (eng < 54)
  | .plConvDecode eng => decide (eng < 54)
  | .plConvEncode eng => decide (eng < 54)
  | .plRmDecode eng => decide (eng < 54)
  | .plRmEncode eng => decide (eng < 54)
  | .tdDecode eng => decide (eng < 54)
  | .hqUplinkCombine eng => decide (eng < 54)
  | .hqDownlinkRateMatch eng => decide (eng < 54)
  | .engineJobComplete eng => decide (eng < 54)
  | .engineAllocTimeout eng => decide (eng < 54)
  | .engineUnitFault eng _ => decide (eng < 54)
  | .dmaCopy dm => decide (dm < 8)
  | .dmaFill dm => decide (dm < 8)
  | .dmaUnitFault dm => decide (dm < 8)
  | .collect fu => decide (fu < 4)
  | .ulCplane cu => decide (cu < 12)
  | .dlCplane cu => decide (cu < 12)
  | .dlUplane cu => decide (cu < 12)
  | .fetch handle => decide (handle < 65536)
  | .gather handle => decide (handle < 65536)
  | .deliver handle => decide (handle < 65536)
  | .mogilChannelSend handle => decide (handle < 65536)
  | .atOffset handle => decide (handle < 65536)
  | .atTick handle => decide (handle < 65536)
  | .gainChangePoint group => decide (group < 128)
  | .searchTrigger ctx _ _ => decide (ctx < 256)
  | .searchOccasionEnd ctx ps => decide (ctx < 256) && ps.all profileOk
  | .fuUnitFault fu => decide (fu < 4)
  | .fuGroupMove group => decide (group < 128)
  | .cuUnitFault cu => decide (cu < 12)
  | .cuReplace cu => decide (cu < 12)
  | .rcoEdge rco => decide (rco < 8)
  | .noiseTableWrite radio cell vals => decide (radio < 256) && decide (cell < 1024) && decide (vals.length ≤ 275)
  | .noiseEstimateTimeout radio cell => decide (radio < 256) && decide (cell < 1024)
  | .nsFallback radio => decide (radio < 256)
  | .nsRetryOffer radio => decide (radio < 256)
  | .groupEnable who _ => reqOk who
  | .contextEnable who _ => reqOk who
  | .rampEnable who _ => reqOk who
  | .ethFrameRx port f => decide (port < 24) && frameOk f
  | .cpriSymbolRx flow _ symbol _ => decide (flow < 4096) && decide (symbol < 14)
  | .fwRingPop port => decide (port < 24)
  | .frameTransmit port => decide (port < 24)
  | .txWindowDiscard port _ => decide (port < 24)
  | .lossOfSignal l => laneOk l
  | .signalReturn l => laneOk l
  | .signalDebounceExpiry l => laneOk l
  | .lossOfLock l => laneOk l
  | .lossOfBlockLock l => laneOk l
  | .lossOfFrame port => decide (port < 24)
  | .remoteDefect port _ => decide (port < 24)
  | .portUp port => decide (port < 24)
  | .degradeEval l _ _ _ _ => pogOk l
  | .flowActivePort who _ => reqOk who
  | .txAn who _ => reqOk who
  | .saKey who _ => reqOk who
  | .learnRequest port vid _ => decide (port < 24) && decide (vid < 4096)
  | .entryAgeOut vid _ => decide (vid < 4096)
  | .pinExpiry vid _ => decide (vid < 4096)
  | .moveStormEnd => true
  | .staticEntry who vid _ port _ => reqOk who && decide (vid < 4096) && decide (port < 24)
  | .cpriRateDwell port => decide (port < 24)
  | .recalIntervalExpiry _ => true
  | .laneRecalibration _ => true
  | .prbsClear who _ => reqOk who
  | .portEnable who _ => reqOk who
  | .flowEnable who _ => reqOk who
  | .macsecEnable who _ => reqOk who
  | .mogilMarkerRx grp _ => decide (grp < 4)
  | .mogilPacketRx grp _ => decide (grp < 4)
  | .mogilLinkCellRx grp _ => decide (grp < 4)
  | .mogilNakRx grp _ => decide (grp < 4)
  | .mogilVersionRx grp _ _ _ => decide (grp < 4)
  | .mogilConfirmRx grp _ _ _ _ _ _ => decide (grp < 4)
  | .mogilKexRx grp _ _ _ _ _ => decide (grp < 4)
  | .mogilLastAcceptedRx grp _ _ _ => decide (grp < 4)
  | .mogilPacketSend grp p => decide (grp < 4) && packetOk p
  | .mogilLinkCellSend grp => decide (grp < 4)
  | .mogilRetryTimeout grp => decide (grp < 4)
  | .mogilResumeTimeout grp => decide (grp < 4)
  | .mogilKexTimeout => true
  | .mogilHoldExpiry grp => decide (grp < 4)
  | .mogilChannelTimeout handle => decide (handle < 65536)
  | .mogilEnable who _ => reqOk who
  | .takeoverNow who _ => reqOk who
  | .autoTakeover => true
  | .rd p => packetOk p
  | .wr p => packetOk p
  | .wrp p => packetOk p
  | .atomAdd p => packetOk p
  | .atomSwap p => packetOk p
  | .atomCompareSwap p => packetOk p
  | .alloc p => packetOk p
  | .free p => packetOk p
  | .msg p => packetOk p
  | .sealBuf p => packetOk p
  | .unsealBuf p => packetOk p
  | .rdata p => packetOk p
  | .ack p => packetOk p
  | .err p => packetOk p
  | .flitCrcError router link => decide (router < 70) && decide (link < 32)
  | .fabricLinkDown router link => decide (router < 70) && decide (link < 32)
  | .fabricLinkReturn router link => decide (router < 70) && decide (link < 32)
  | .edgeLinkDown _ => true
  | .domainWakeReady dom => decide (dom < 212)
  | .wakeTimeout dom => decide (dom < 212)
  | .domainSleep dom => decide (dom < 212)
  | .domainLockOff dom => decide (dom < 212)
  | .ssAccessRepeat bank _ => decide (bank < 24)
  | .spareNow who _ => reqOk who
  | .ssSpareFlip => true
  | .ssForwardEnd => true
  | .spareBankTest _ => true
  | .scrubStep inst _ _ => decide (inst < 15)
  | .hbmRefresh stack => decide (stack < 2)
  | .hamperEnable who => reqOk who
  | .hamperDisable who => reqOk who
  | .sqTailDoorbell fn _ _ _ => decide (fn < 1024)
  | .cqHeadDoorbell fn _ _ _ => decide (fn < 1024)
  | .msixUnmask fn _ => decide (fn < 1024)
  | .bmeClear fn => decide (fn < 1024)
  | .bmeSet fn => decide (fn < 1024)
  | .flrInitiate fn => decide (fn < 1024)
  | .flrComplete fn => decide (fn < 1024)
  | .tagQuarantineEnd tag => decide (tag < 8192)
  | .pcieLinkReset => true
  | .pcieCompletionRx tag _ _ => decide (tag < 8192)
  | .pcieCompletionTimeout tag => decide (tag < 8192)
  | .cqWaitTimeout handle => decide (handle < 65536)
  | .atsInvalidate fn page => decide (fn < 1024) && decide (page < 4503599627370496)
  | .qpEnable who _ => reqOk who
  | .partEnable who n _ => reqOk who && decide (n < 1024)
  | .partPause who n _ => reqOk who && decide (n < 1024)
  | .partReset who n _ => reqOk who && decide (n < 1024)
  | .partResetComplete n => decide (n < 1024)
  | .resetLimitExpiry n => decide (n < 1024)
  | .disableCloseTimeout n => decide (n < 1024)
  | .mailboxGo fn seq _ vec _ => decide (fn < 1024) && decide (seq < 65536) && decide (vec < 256)
  | .hello _ _ _ _ => true
  | .read _ _ _ es => es.all addrOk
  | .write _ _ _ es => es.all (fun e => addrOk e.addr)
  | .segRead _ _ _ a _ _ => addrOk a
  | .segWrite _ _ _ a _ _ _ _ => addrOk a
  | .segAbort _ _ _ a => addrOk a
  | .segTransferTimeout who a => reqOk who && addrOk a
  | .infoReq _ _ _ a => addrOk a
  | .store _ _ _ => true
  | .storeSealed _ => true
  | .restore _ _ _ => true
  | .subscribe _ _ _ stream _ es => decide (stream < 256) && es.all addrOk
  | .unsubscribe _ _ _ stream => decide (stream < 256)
  | .telemetry _ stream _ => decide (stream < 8)
  | .alarmAck _ _ => true
  | .alarm _ => true
  | .alarmResend _ _ => true
  | .summary => true
  | .clientHello path _ => decide (path < 3)
  | .handshakeComplete path _ _ keyDigest => decide (path < 3) && decide (keyDigest.length = 48)
  | .sessionIdleTimeout _ => true
  | .smbPointerWrite a => addrOk a
  | .smbValueRead => true
  | .smbStatusRead => true
  | .smbTimeout => true
  | .roleEntry who _ => reqOk who
  | .registerWrite _ _ _ _ _ => true
  | .w1cWrite who a _ _ => reqOk who && addrOk a
  | .fuseWrite who _ _ => reqOk who
  | .fuseWriteComplete => true
  | .dbgRequest _ => true
  | .dbgChallenge => true
  | .dbgResponse _ => true
  | .debugLockoutEnd => true
  | .tapReset => true
  | .regionEnable who => reqOk who
  | .regionInitDone region => decide (region < 64)
  | .regionDisable who => reqOk who
  | .rekeyNow who _ => reqOk who
  | .rekeyBlock region => decide (region < 64)
  | .vinSample _ _ => true
  | .powerLoopEval _ => true
  | .currentLimit => true
  | .unitWithdraw => true
  | .unitReturn => true
  | .vcoreAdjust rail _ => decide (rail < 12)
  | .phaseFault rail => decide (rail < 12)
  | .railOutOfRegulation rail _ => decide (rail < 12)
  | .droopStretch sensor => decide (sensor < 64)
  | .droopRelease sensor => decide (sensor < 64)
  | .thermalSensorScan readings => decide (readings.length = 138)
  | .thermalCapStep => true
  | .diagStart unit => decide (unit < 182)
  | .diagComplete unit _ _ => decide (unit < 182)
  | .diagRun who _ => reqOk who
  | .lockstepMismatch pair => decide (pair < 4)
  | .lockstepTestDone pair _ _ => decide (pair < 4)
  | .ccUnitFault cc _ => decide (cc < 8)
  | .heartbeat => true
  | .heartbeatMiss => true
  | .recoveryMismatch => true
  | .wardenRestartFail => true
  | .wardenVote copy => decide (copy < 3)
  | .maintRequest _ _ => true
  | .tokenReturn _ _ => true
  | .waitAlarmExpiry _ _ => true
  | .drillIntervalExpiry => true
  | .drillSwap _ => true
  | .upgradeImage who img => reqOk who && imageOk img
  | .upgradeRecovery who _ => reqOk who
  | .upgradeCommit who _ => reqOk who
  | .upgradeAbandon who _ => reqOk who
  | .upgradeLimitExpiry => true
  | .coreImage who _ => reqOk who
  | .bankVoltage who _ => reqOk who
  | .bankSettle bank => decide (bank < 2)
  | .bankSupplyFault bank => decide (bank < 2)
  | .bankSupplyReturn bank => decide (bank < 2)
  | .rcoShort rco => decide (rco < 8)
  | .rcoRetry rco _ => decide (rco < 8)
  | .pinContention pin => decide (pin < 43)
  | .pinFaultClear who _ _ => reqOk who
  | .gpioConfig who _ => reqOk who
  | .scalarInstruction core _ => decide (core < 96)
  | .pcieConfigWrite fn _ _ => decide (fn < 1024)
  | .pcieLinkTrained rate width _ => decide (rate < 8) && decide (width < 17)
  | .peerHealthInputChange _ => true
  | .jtagInstruction _ => true
  | .spareTestIntervalExpiry => true
  | .alarmPinHoldExpiry => true
  | .frameStrobeEnd pin => decide (pin < 43)
  | .prbsCheckerLock l => laneOk l
  | .prbsCheckerLockLoss l => laneOk l
  | .modeTransitionComplete => true
  | .mpEnable who _ => reqOk who

end Sys2Proof
end

