-- ==== Sys2Proof/Tests/Slice0.lean ====
section
/-!
SUPPORT. Tests: ill-formed commands that WellFormed refuses, fixed values written out from the spec's tables, and for the
statements a concrete state and operands that meet their hypotheses together.
-/

open Sys2Proof
open Sys2Proof.Machine

namespace Sys2Proof.Tests

set_option Elab.async false

/-- The block in a mode, as reset leaves it otherwise. -/
def inMode (m : Mode) : State := { State.reset with mode := { mode := m } }
/-- The management controller's first session, open with version 0. -/
def mgr : Requester := .session 0
/-- A block in a mode with that session. -/
def withMgr (m : Mode) : State := (inMode m).setSession 0 { path := 0, role := 0, part := 0, version := some 0, nextAlarm := 1 }
/-- A slug of a class that waits on nothing, of impression 1 of forme 0 and partition 3. -/
def slug0 (cls : Nat) (st : SlugState) : Slug :=
  { kind := 1, cls := cls, prio := 0, commit := .staged, part := 3, fmtVer := 0, forme := 0, imp := 1, deadline := 0, est := 10,
    initDep := 0, caps := 0, affinity := 0, expiry := .skip, retryLimit := 0, succ := [], ovfPtr := 0, ovfCount := 0, ovf := [],
    arg0 := 0, arg1 := 0, arg2 := 0, state := st, depLive := 0 }
/-- Impression 1 with the slugs of the handles given, pressed at air count 0. -/
def imp0 (l : List Nat) : Impression :=
  { forme := 0, part := 3, seq := 1, boundary := 0, slugs := l, counters := [], bindCount := 1, slack := 0, lateHorizon := 0 }
/-- A block that runs at air count 0, impression 1 live with slug 0 as given. -/
def running (x : Slug) (rel : Bool) : State :=
  { inMode .run with
    time := { air := 0 }
    galley := { slugs := [(0, x)], imps := [(1, { imp0 [0] with released := rel })], unitsOn := true } }
/-- A value written and in force. -/
def put (o : Obj) (k : Nat) (v : Int) (s : State) : State := (s.setNum o k v).take o k

/-! ## The block as a whole -/

theorem witness_StepIdles :
    (inMode .run).pending = [] ∧ (inMode .run).mode.mode ≠ .off ∧ (inMode .run).time.stopped = false ∧ (inMode .run).time.target = none
      ∧ (inMode .run).alarms.fifo = [] ∧ (put OD.traceSources 0 0 (inMode .run)).nat OD.traceSources = 0 := by decide +kernel
theorem witness_MemoryStaysCanonical : Memory.wf State.reset.mem = true ∧ ∃ t, step State.reset = .next t := ⟨rfl, _, rfl⟩
theorem witness_FusesAreNeverCleared : FuseSound State.reset.sec ∧ ∃ t, step State.reset = .next t := by
  exact ⟨fun _ _ _ h => (nomatch h), _, rfl⟩

/-! ## Galley -/

/-- A forme of one slug of class TE without counters, owned by partition 3: header and template. -/
def oneSlug : List Byte := leBytes 64 (3 * 4096 + 2 ^ 32) ++ leBytes 64 (3 * 256 + 3 * 65536 + 200000 * 2 ^ 64)
/-- Cell 0 on, its slot entry 0 naming forme 0 of partition 3. -/
def wPress : State :=
  put OD.slotFormes 0 0xFFFFFFFFFFFF0000 (put OD.pressLead 0 491520 (put OD.cellPartition 0 3 { inMode .run with
    time := { air := 0 }
    parts := [(3, { state := .enabled })]
    galley := { cellsOn := [0], formes := [(0, ⟨3, oneSlug, 1⟩)], unitsOn := true } }))
theorem witness_GalleyPressing_press :
    wPress.cellPresses 0 = true ∧ wPress.pressDue 0 (wPress.pressSlot 0) = true ∧ Tab.find wPress.galley.lastPress 0 = none
      ∧ formesOf (wPress.slotEntry 0 (wPress.pressSlot 0)) = [0, 0xFFFF, 0xFFFF, 0xFFFF] ∧ (wPress.part 3).state ≠ .paused
      ∧ wPress.govN OD.cellPartition 0 = 3 ∧ Tab.find wPress.galley.formes 0 = some ⟨3, oneSlug, 1⟩
      ∧ (formeHdr oneSlug).slugs = 1 ∧ (formeHdr oneSlug).counters = 0 ∧ wPress.liveOf 0 < wPress.nat OD.maxLive 0 := by
  decide +kernel
def wRelease : State := running (slug0 3 .free) false
theorem witness_GalleyPressing_release :
    wRelease.imp 1 = some (imp0 [0]) ∧ wRelease.slug 0 = some (slug0 3 .free) := by decide +kernel
/-- A counter at its FIRE_BY that slug 0 waits on. -/
def wCounter : Counter := { source := 0, hold := false, waiters := [0], threshold := 2, fireBy := 0, key := 0, imp := 1, part := 3 }
def wFire : State :=
  let s := running { slug0 3 .waiting with depLive := 1 } true
  { s with galley := { s.galley with counters := [(0, wCounter)] } }
theorem witness_GalleyPressing_fire :
    Tab.find wFire.galley.counters 0 = some wCounter ∧ wCounter.armed = true ∧ wFire.imp 1 = some { imp0 [0] with released := true }
      ∧ wCounter.fireBy ≤ wFire.time.air ∧ wFire.slug 0 = some { slug0 3 .waiting with depLive := 1 } := by decide +kernel

/-- A slug is READY, and in the mode RUN its class's unit 0 is idle. -/
def wReady (cls kind : Nat) : State := running { slug0 cls .ready with kind := kind } true
theorem witness_GalleyRunning_dispatch :
    (wReady 11 1).servedNow 11 0 = true ∧ (wReady 11 1).select 11 0 = some (0, slug0 11 .ready)
      ∧ (wReady 11 1).imp 1 = some { imp0 [0] with released := true } ∧ kindDefined 11 1 = true ∧ kindDefined 11 7 = false
      ∧ (wReady 11 7).servedNow 11 0 = true ∧ (wReady 11 7).select 11 0 = some (0, { slug0 11 .ready with kind := 7 })
      ∧ (wReady 12 7).select 12 0 = some (0, { slug0 12 .ready with kind := 7 }) ∧ kindDefined 12 7 = false := by decide +kernel
/-- DM0 runs slug 0. -/
def wRuns (x : Slug) : State :=
  let s := running x true
  { s with galley := { s.galley with units := [(unitKey 11 0, { state := .running, held := some (0, 0), since := -100000, start := -100000 })] } }
theorem witness_GalleyRunning_completion :
    (wRuns (slug0 11 .running)).runsAttempt 0 0 (slug0 11 .running)
      ∧ (wRuns (slug0 11 .running)).imp 1 = some { imp0 [0] with released := true }
      ∧ ∀ p ∈ [((0 : Nat), (5 : Nat))], p.1 < (imp0 [0]).bindCount := by
  exact ⟨⟨by decide +kernel, rfl, rfl⟩, by decide +kernel, by decide⟩
def wTimer (st : SlugState) (k off : Nat) : State := running { slug0 14 st with kind := k, arg0 := off } true
theorem witness_GalleyRunning_timers :
    (wTimer .ready 1 1).timerReached { slug0 14 .ready with kind := 1, arg0 := 1 } = false
      ∧ (wTimer .ready 2 1).timerReached { slug0 14 .ready with kind := 2, arg0 := 1 } = false
      ∧ (wTimer .ready 1 0).timerReached { slug0 14 .ready with kind := 1 } = true
      ∧ (wTimer .ready 2 0).timerReached { slug0 14 .ready with kind := 2 } = true
      ∧ (wTimer .running 1 0).timerReached { slug0 14 .running with kind := 1 } = true := by decide +kernel
def wDone : State := ((running (slug0 1 .running) true).setCc 0 { held := some (0, 0) }).setUnit 1 0 { state := .running, held := some (0, 0) }
theorem witness_GalleyRunning_ccDone :
    (wDone.cc 0).held = some (0, 0) ∧ wDone.runsAttempt 0 0 (slug0 1 .running) ∧ wDone.imp 1 = some { imp0 [0] with released := true }
      ∧ bits (wDone.cc 0).doneCtl.toNat 6 3 = 0 ∧ bit (wDone.cc 0).doneCtl.toNat 9 = false := by
  exact ⟨by decide +kernel, ⟨by decide +kernel, rfl, rfl⟩, by decide +kernel⟩
def wDecr : State := running { slug0 3 .waiting with depLive := 1 } true
theorem witness_GalleyRunning_decrement :
    wDecr.spineOn = true ∧ wDecr.slug 0 = some { slug0 3 .waiting with depLive := 1 } := by decide +kernel

theorem witness_GalleyFaults_reports :
    ((inMode .run).unit 3 0).state ≠ .retired ∧ (wRuns (slug0 11 .running)).runsAttempt 0 0 (slug0 11 .running)
      ∧ (slug0 11 .running).abortPending = false := by exact ⟨by decide +kernel, ⟨by decide +kernel, rfl, rfl⟩, rfl⟩
theorem witness_GalleyFaults_watchdog :
    (wRuns (slug0 11 .running)).overdue (slug0 11 .running) = true ∧ ((wRuns (slug0 11 .running)).unit 11 0).state ≠ .retired := by
  decide +kernel
/-- Slug 0 with an expiry policy, one tick past its deadline. -/
def wLate (e : Expiry) : Slug := { slug0 3 .waiting with expiry := e, deadline := 0xFFFFFFFF }
theorem witness_GalleyFaults_deadlines :
    (∀ e ∈ [Expiry.skip, .abortImpression, .lateRun], (running (wLate e) true).pastDeadline (wLate e) = true)
      ∧ (running (wLate .lateRun) true).withinHorizon (wLate .lateRun) = false := by decide +kernel
/-- Slug 0 waits and nothing of partition 3 can run, for longer than STALL_CONFIRM. -/
def wStall : State :=
  let s := running { slug0 3 .waiting with depLive := 1 } true
  { s with galley := { s.galley with stalls := [(3, ⟨some (-4916), false⟩)] } }
theorem witness_GalleyFaults_stall :
    (Tab.get {} wStall.galley.stalls 3 : Stall) = ⟨some (-4916), false⟩ ∧ wStall.stalled 3 = true
      ∧ (wStall.nat OD.stallConfirm * 12288 : Nat) ≤ (wStall.time.air - (-4916)) * 25 := by decide +kernel

theorem witness_GalleySubmission_reserve :
    (inMode .run).spineOn = true ∧ (inMode .run).freeHandles 1 = [0] ∧ ReqKind.privileged true .cc = true := by decide +kernel
/-- A submitted slug of class DM for impression 1 of forme 0. -/
def submission : List Byte := leBytes 64 (2 * 256 * 0 + 11 * 256 + 3 * 65536 + 1 * 2 ^ 44 + 100 * 2 ^ 64 + 10 * 2 ^ 96)
def wSubmit : State :=
  let s := running (slug0 3 .waiting) true
  { s with galley := { s.galley with reserved := [900] } }
theorem witness_GalleySubmission_submit :
    wSubmit.spineOn = true ∧ wSubmit.submitReason 900 (leNat (submission.take 64)) = 0
      ∧ wSubmit.imp (slugOf (leNat (submission.take 64))).imp = some { imp0 [0] with released := true } := by decide +kernel
/-- Handle 7 was reserved 1 ms ago. -/
def wReserved : State :=
  let s := inMode .run
  { s with time := { s.time with run := 1000000 * nsUnit }, galley := { s.galley with reserved := [7], reservedAt := [(7, 0)] } }
theorem witness_GalleySubmission_timeout : wReserved.passed (Tab.get 0 wReserved.galley.reservedAt 7) 1000000 = true := by decide +kernel
theorem witness_GalleySubmission_countClear : (withMgr .run).admits mgr OD.countClear 1 := by exact ⟨by decide +kernel, by decide +kernel⟩
theorem witness_GalleySubmission_window : (running (slug0 3 .waiting) true).galley.loadWindow ≠ some (0 / 491520) := by decide +kernel

/-- The forme of `oneSlug` with its IMAGE_CRC. -/
def oneSlugCrc : List Byte :=
  let b := leBytes 64 (3 * 4096 + 2 ^ 32) ++ leBytes 64 (11 * 256 + 3 * 65536 + 200000 * 2 ^ 64 + 10 * 2 ^ 96)
  b.take 16 ++ leBytes 4 (crc32 (b.take 16 ++ b.drop 20)) ++ b.drop 20
def wForme : State :=
  let s := { withMgr .configure with galley := { unitsOn := true } }
  s.setOct OD.formeImage 0 oneSlugCrc
theorem witness_GalleyFormesAndCells_image :
    (withMgr .configure).admits mgr OD.formeImage 0
      ∧ (formeHdr oneSlugCrc).id = (withMgr .configure).itemOf mgr OD.formeImage OD.formeImage.addr := by
  exact ⟨⟨by decide +kernel, by decide +kernel⟩, by decide +kernel⟩
theorem witness_GalleyFormesAndCells_forme :
    wForme.admits mgr OD.formeEnable 1 ∧ wForme.admits mgr OD.formeEnable 0 ∧ wForme.enableMode = true ∧ wForme.formeReason 0 = 0 := by
  exact ⟨⟨by decide +kernel, by decide +kernel⟩, ⟨by decide +kernel, by decide +kernel⟩, by decide +kernel, by decide +kernel⟩
theorem witness_GalleyFormesAndCells_cell :
    (withMgr .configure).admits mgr OD.cellEnable 1 ∧ (withMgr .configure).admits mgr OD.cellEnable 0
      ∧ (withMgr .configure).enableMode = true ∧ (withMgr .configure).cellReason 0 = 0 := by
  exact ⟨⟨by decide +kernel, by decide +kernel⟩, ⟨by decide +kernel, by decide +kernel⟩, by decide +kernel, by decide +kernel⟩
theorem witness_GalleyFormesAndCells_entry :
    (withMgr .configure).admits mgr OD.slotFormes (0xFFFFFFFFFFFFFFFF : BitVec 64).toNat
      ∧ has (withMgr .configure).galley.cellsOn 0 = false := by exact ⟨⟨by decide +kernel, by decide +kernel⟩, by decide +kernel⟩

/-! ## Time -/

/-- A block at a time of the timers, in nanoseconds. -/
def State.atNs (ns : Nat) (s : State) : State := { s with time := { s.time with run := ns * nsUnit } }
/-- Ten minutes, longer than the waits of the references. -/
def late : State → State := State.atNs 600000000000
def wServo : State := put OD.hybrid 0 0 <| put OD.reference 0 (2 + 65536) { inMode .run with
  time := { phaseSel := some 0, servo := .acquiring, qualified := [0], lockRun := some (10 ^ 12), hist := [(5, 7, 0)] } }
theorem witness_TimeServo_measurement :
    wServo.servoRuns = true ∧ wServo.flag OD.hybrid = false ∧ wServo.nat OD.freqClamp ≤ 1000000
      ∧ mag (500 * 1000000000 - wServo.time.buildOut) ≤ (wServo.nat OD.unlockThreshold * 16000000000 : Nat)
      ∧ mag (500 * 1000000000 - wServo.time.buildOut) ≤ (wServo.nat OD.stepThreshold * 16000000000 : Nat) := by decide +kernel
theorem witness_TimeServo_lock :
    wServo.time.servo = .acquiring ∧ wServo.time.buildOut = 0 ∧ wServo.servoRuns = true ∧ wServo.time.lockRun = some (10 ^ 12)
      ∧ wServo.nat OD.lockTime * 1000000000 ≤ 10 ^ 12 ∧ ∀ h ∈ wServo.time.hist, h.2.1 < 2 ^ 64 := by decide +kernel
/-- A step waits and holds its token. -/
def wStep : State :=
  { inMode .run with time := { stepWanted := true, buildOut := -16 * 1000000000000 }, res := { held := [⟨3, 0⟩] } }
theorem witness_TimeServo_step :
    wStep.stepReady = true ∧ wStep.stepPending = true ∧ (inMode .run).stepReady = false := by decide +kernel
def wSec (n : Nat) : TB128 := ⟨n, 0, 0⟩
theorem witness_TimeServo_set :
    (withMgr .configure).admits mgr OD.timeSet ((wSec 5).pack : Nat) ∧ (wSec 5).ns < 1000000000
      ∧ (withMgr .configure).mode.mode.runs = false
      ∧ (put OD.stepInRun 0 1 (withMgr .run)).admits mgr OD.timeSet ((wSec 5).pack : Nat)
      ∧ (put OD.stepInRun 0 1 (withMgr .run)).flag OD.stepInRun = true
      ∧ (put OD.stepInRun 0 0 (withMgr .run)).admits mgr OD.timeSet ((wSec 5).pack : Nat)
      ∧ (put OD.stepInRun 0 0 (withMgr .run)).flag OD.stepInRun = false := by
  unfold State.admits; decide +kernel
theorem witness_TimeServo_osc :
    (∀ m ∈ [Mode.run, .standby, .configure, .boot], (inMode m).time.oscLost = false)
      ∧ ({ inMode .safe with time := { oscLost := true } } : State).time.oscLost = true := by decide +kernel

/-- Entries 0 (PTP port 0), 1 (PPS input 0) and 3 (SyncE lane 0) are enabled and valid since the start. -/
def wRef : State :=
  let s := put OD.ptpEnable 0 1 <| put OD.notSlave 0 0 <| put OD.reference 3 (3 + 65536) <| put OD.reference 1 (2 + 65536) <|
    put OD.reference 0 (1 + 65536) (inMode .run)
  late { s with
    time := { s.time with ptp := [(0, { state := 9 })], ppsRun := [(0, (0, 599000000000))] }
    front := { s.front with lanes := [(0, { lock := true })] } }
theorem witness_TimeReferences_qualify :
    (∀ k ∈ [0, 1, 3], has wRef.time.qualified k = false ∧ bit (wRef.nat OD.reference k) 16 = true
        ∧ wRef.passed (max 0 (Tab.get 0 wRef.time.disqAt k)) (wRef.nat OD.qualifyTime * 1000000000) = true)
      ∧ refType (wRef.nat OD.reference 0) = 1 ∧ refInst (wRef.nat OD.reference 0) = 0 ∧ wRef.ptpSlave 0 = true
      ∧ (wRef.ptpPort 0).slaveAt = 0
      ∧ refType (wRef.nat OD.reference 1) = 2 ∧ Tab.find wRef.time.ppsRun 0 = some (0, 599000000000)
      ∧ wRef.passed 599000000000 1500000000 = false
      ∧ refType (wRef.nat OD.reference 3) = 3 ∧ (Tab.get {} wRef.front.lanes 0 : Lane) = { lock := true }
      ∧ wRef.time.phaseSel = none := by decide +kernel
def wFollow : State :=
  { wRef with time := { wRef.time with phaseSel := some 0, servo := .locked, everLocked := true, qualified := [0], waiting := some 0
                                       waitingFreq := some 3 } }
theorem witness_TimeReferences_disqualify : wFollow.time.qualified = [0] ∧ wFollow.time.phaseSel = some 0 := ⟨rfl, rfl⟩
/-- Enough time for the Announce receipt timeout, whatever the interval between the messages. -/
theorem announce_late (s : State) (h : (s.ptpPort 0).announceAt = 0) : ∃ t : State,
    t.passed (t.ptpPort 0).announceAt (t.govN OD.announceTimeout 0 * Config.announceInterval 0) = true := by
  refine ⟨State.atNs (s.govN OD.announceTimeout 0 * Config.announceInterval 0) s, ?_⟩
  have h1 : ∀ ns, ((State.atNs ns s).ptpPort 0).announceAt = 0 := fun _ => h
  have h2 : ∀ ns, (State.atNs ns s).govN OD.announceTimeout 0 = s.govN OD.announceTimeout 0 := fun _ => rfl
  rw [h1, h2]
  simp [State.passed, State.nowNs, State.atNs, nsUnit]
theorem witness_TimeReferences_announce : ∃ t : State,
    t.passed (t.ptpPort 0).announceAt (t.govN OD.announceTimeout 0 * Config.announceInterval 0) = true :=
  announce_late wFollow (by decide +kernel)
theorem witness_TimeReferences_gone :
    refType (wFollow.nat OD.reference 0) = 1 ∧ refInst (wFollow.nat OD.reference 0) = 0
      ∧ Tab.find wServo.time.ppsRun 0 = none := by decide +kernel
theorem witness_TimeReferences_restore :
    wFollow.time.waiting = some 0 ∧ wFollow.passed wFollow.time.waitAt (wFollow.nat OD.waitToRestore * 1000000000) = true
      ∧ wFollow.refTakes false 0 = true ∧ wFollow.bestRef false = some 0
      ∧ wFollow.time.waitingFreq = some 3 ∧ wFollow.passed wFollow.time.waitFreqAt (wFollow.nat OD.waitToRestore * 1000000000) = true := by
  decide +kernel
def wHold : State := State.atNs 100000000000000 { inMode .run with time := { servo := .holdover } }
theorem witness_TimeReferences_limit :
    wHold.time.servo = .holdover ∧ wHold.passed wHold.time.holdoverAt (wHold.nat OD.holdoverLimit * 1000000000) = true := by decide +kernel

/-- Port 25 is a PTP slave that holds a Delay_Resp's difference and some messages that wait. -/
def wPtp (pend : List (PtpPend × Nat)) : State :=
  put OD.ptpEnable 25 1 <| put OD.notSlave 25 0 <| late { inMode .run with
    time := { ptp := [(25, { state := 9, respDelta := some 100, pend := pend })] } }
def ptpEth : PtpEncap := ⟨2, 0x88F7, none, false⟩
theorem witness_TimePtp_messages : ∀ l ∈ [[], [(PtpPend.sync 7 2 0 0 0, 0)], [(PtpPend.delayReq 9 3, 0)]],
    (wPtp l).mode.mode = .run ∧ (wPtp l).gov OD.ptpEnable 25 ≠ 0 ∧ ptpRecognised ptpEth = true ∧ (wPtp l).ptpSlave 25 = true
      ∧ (if ((wPtp l).ptpPort 25).second = (wPtp l).nowSec then ((wPtp l).ptpPort 25).count else 0) < (wPtp l).nat OD.policeRate 25
      ∧ ((wPtp l).ptpPort 25).respDelta = some 100 ∧ ((wPtp l).ptpPort 25).pend = l := by decide +kernel
theorem witness_TimePtp_pairs :
    ((wPtp [(.sync 7 2 0 0 0, 0)]).ptpPort 25).pend.find? (fun m => (PtpPend.followUp 7 1 0).pairs m.1) = some (.sync 7 2 0 0 0, 0)
      ∧ ((wPtp [(.delayReq 9 3, 0)]).ptpPort 25).pend.find? (fun m => (PtpPend.delayResp 9 5 0).pairs m.1) = some (.delayReq 9 3, 0)
      ∧ ((wPtp [(.sync 7 2 0 0 0, 0)]).ptpPort 25).pend.find? (fun e => decide (e.1.seq = 7)
          && (wPtp [(.sync 7 2 0 0 0, 0)]).passed e.2 1000000000) = some (.sync 7 2 0 0 0, 0) := by decide +kernel
/-- Port 25 has met its police rate in the current second. -/
def wPoliced : State := put OD.policeRate 25 0 (wPtp [])
theorem witness_TimePtp_policed :
    ¬(if (wPoliced.ptpPort 25).second = wPoliced.nowSec then (wPoliced.ptpPort 25).count else 0) < wPoliced.nat OD.policeRate 25 := by
  decide +kernel
def wStamps (n : Nat) : State := { inMode .run with time := { stampQ := [(0, List.replicate n ⟨1#8, false, true, wSec 3⟩)] } }
theorem witness_TimePtp_stamps :
    (Tab.get [] (wStamps 15).time.stampQ 0 : List Stamp).length = 15 ∧ (Tab.get [] (wStamps 16).time.stampQ 0 : List Stamp).length = 16
      ∧ (Tab.get [] (wStamps 2).time.stampQ 0 : List Stamp) = ⟨1#8, false, true, wSec 3⟩ :: [⟨1#8, false, true, wSec 3⟩]
      ∧ (Tab.get [] (inMode .run).time.stampQ 0 : List Stamp) = [] := by decide +kernel

def wPps : State := put OD.reference 0 (2 + 65536)
  { inMode .run with time := { phaseSel := some 0, servo := .locked, qualified := [0], ppsRejRun := [(0, 2)] } }
theorem witness_TimePinsAndHost_edge :
    wPps.time.servo = .locked ∧ wPps.selectedPps 0 = true
      ∧ (wPps.nat OD.ppsWindow * 16 : Nat) < mag ((⟨9, 2000000, 0⟩ : TB128).in16 - wPps.num OD.ppsInDelay 0 - 9 * 16000000000)
      ∧ 2 ≤ Tab.get 0 wPps.time.ppsRejRun 0 ∧ refType (wPps.nat OD.reference 0) = 2 ∧ refInst (wPps.nat OD.reference 0) = 0 := by
  decide +kernel
def wTod (m : Mode) (r : Option (Int × Nat)) : State :=
  put OD.todInConfig 0 0 { inMode m with time := { ppsEdge := [(0, 50)], todRun := r } }
theorem witness_TimePinsAndHost_tod :
    Tab.find (wTod .configure none).time.ppsEdge ((wTod .configure none).nat OD.todInPair) = some 50
      ∧ (wTod .configure (some (10, 2))).time.todRun = some (10, 2) ∧ (wTod .configure (some (10, 2))).mode.mode.runs = false
      ∧ (wTod .run (some (10, 2))).mode.mode.runs = true ∧ (wTod .run none).nat OD.todInConfig = 0 := by decide +kernel
/-- The timing outputs run; `tb` is 20 units of 1/16 ns, or 0.9 s, past a whole second. -/
def wOut (tb : Nat) : State := put OD.outputEnable 0 7 { inMode .run with time := { tb := tb, servo := .locked } }
theorem witness_TimePinsAndHost_outputs :
    (∀ o, o < 3 → (wOut (20 * 2 ^ 44)).outputRuns o = true ∧ (wOut (20 * 2 ^ 44)).pinTri (40 + o) = false)
      ∧ (wOut (20 * 2 ^ 44)).sincePps 0 < 26 ∧ (wOut (20 * 2 ^ 44)).sincePps 1 < 26
      ∧ ((wOut (9 * 10 ^ 8 * nsUnit)).nat OD.ppsOutWidth * 16000 : Nat) ≤ (wOut (9 * 10 ^ 8 * nsUnit)).sincePps 0
      ∧ (bits ((wOut (9 * 10 ^ 8 * nsUnit)).nat OD.todOutConfig) 24 16 * 16000000 : Nat) ≤ (wOut (9 * 10 ^ 8 * nsUnit)).sincePps 0
      ∧ (wOut (9 * 10 ^ 8 * nsUnit)).outputRuns 2 = true ∧ (wOut (9 * 10 ^ 8 * nsUnit)).time.todSent = [] := by decide +kernel
def wPtm (n : Nat) : State := State.atNs 2000000 { inMode .run with time := { ptmOn := true, ptmReq := some 0, ptmGood := n, ptmAt := some 0 } }
theorem witness_TimePinsAndHost_ptm :
    (wPtm 3).time.ptmOn = true ∧ (wPtm 3).time.ptmReq = some 0 ∧ ((⟨0, 20000, 0⟩ : TB128).in16 - 0) - 0 ≤ 320000
      ∧ 320002 ≤ ((⟨0, 20001, 0⟩ : TB128).in16 - 0) - 0 ∧ 3 ≤ (wPtm 3).time.ptmGood
      ∧ (wPtm 3).time.ptmAt = some 0 ∧ (wPtm 3).passed 0 1000000 = true
      ∧ (late (wPtm 3)).passed 0 ((late (wPtm 3)).nat OD.ptmInterval * 1000000) = true := by decide +kernel
theorem witness_TimeBoundaries_frame :
    (inMode .configure).mode.mode = .configure ∧ (inMode .run).mode.mode.runs = true
      ∧ (wPtm 0).passed (wPtm 0).pins.strobeAt 1000 = true := by decide +kernel

/-! ## Modes and boot -/

theorem witness_ModesOfPower : (inMode .off).mode.mode = .off ∧ (430 : Nat) < 431 ∧ (inMode .run).mode.mode ≠ .off := by decide
theorem witness_ModesOnRequest_served :
    ((withMgr .run).admits mgr OD.modeRequest 1 ∧ (withMgr .run).requestReason 1 = 0)
      ∧ ((withMgr .standby).admits mgr OD.modeRequest 2 ∧ (withMgr .standby).requestReason 2 = 0)
      ∧ ((withMgr .safe).admits mgr OD.modeRequest 3 ∧ (withMgr .safe).requestReason 3 = 0)
      ∧ ((withMgr .run).admits mgr OD.modeRequest 6 ∧ (withMgr .run).requestReason 6 = 0)
      ∧ ((withMgr .run).admits mgr OD.modeRequest 7 ∧ (withMgr .run).requestReason 7 = 0) := by
  unfold State.admits; decide +kernel
theorem witness_ModesOnRequest_refused :
    (withMgr .run).admits mgr OD.modeRequest 2 ∧ (withMgr .run).requestReason 2 ≠ 0 := by unfold State.admits; decide +kernel
def wObs : EnableObs := ⟨true, true, 100⟩
theorem witness_ModesOnRequest_disable :
    (withMgr .run).admits mgr OD.deviceEnable 0 ∧ (withMgr .run).inTransition = false
      ∧ (withMgr .run).accessReason mgr OD.deviceEnable 0 OD.deviceEnable.addr true = 0
      ∧ (withMgr .run).enableTest wObs = some (0x0A01, 0xFFFFFFFF) := by unfold State.admits; decide +kernel
/-- Signed images of classes 1 and 2 run, VIN is at 48 V and core-image slot 0 holds a verified image. -/
def wGood (cls : BitVec 8) : Image :=
  { magic := imageMagic, cls := cls, rollback := 0, fmtMask := 0#8, sigPresent := 3#2, ecdsaSlot := 0#2, mldsaSlot := 0#2, reservedZero := true,
    lengthAgrees := true, version := 7, caps := 0#32, entry := 0x100, ecdsaKeyMatches := true, ecdsaVerifies := true, mldsaKeyMatches := true,
    mldsaVerifies := true, payloadDigestOk := true, digest := 0#384 }
def wEnable : State :=
  put OD.imageState 0 2 (put OD.vinNow 0 480 { withMgr .configure with
    sec := { running := [(1, wGood 1#8), (2, wGood 2#8)] }, galley := { unitsOn := true } })
theorem witness_ModesOnRequest_enable :
    wEnable.accessReason mgr OD.deviceEnable 0 OD.deviceEnable.addr true = 0 ∧ wEnable.inTransition = false
      ∧ wEnable.enableTest wObs = none := by decide +kernel
def wDrain (m : Mode) (d : Bool) (g : Mode) : State := { State.reset with mode := { mode := m, target := some g, draining := d } }
/-- DEGRADED without a cause, at a subframe boundary. -/
def wExit : State := { inMode .degraded with time := { air := 0, subAt := some 0 } }
theorem witness_ModesOnRequest_transition :
    (wDrain .run true .configure).mode.draining = true ∧ (wDrain .run true .configure).drained = true
      ∧ (wDrain .run true .configure).mode.target = some .configure
      ∧ (wDrain .standby false .boot).mode.draining = false ∧ (wDrain .standby false .boot).mode.target = some .boot
      ∧ wExit.mode.mode = .degraded ∧ wExit.causes = 0 ∧ wExit.inTransition = false ∧ wExit.subNow = true := by decide +kernel
def wBoot (n : Int) : State := (inMode .boot).setNum OD.bootStage 0 n
/-- Stages 3 and 4 of a boot from the host, which has written its images. -/
def wHost (n : Int) (l : Tab Image) : State :=
  let s := put OD.bootSource 0 1 (wBoot n)
  { s with mode := { s.mode with hostImages := l } }
def wBoth (n : Int) : State := wHost n [(1, wGood 1#8), (2, wGood 2#8)]
/-- An image without its magic number: it fails its checks. -/
def wImage (cls : BitVec 8) : Image := { wGood cls with magic := 0#32, sigPresent := 0#2 }
def wBad (n : Int) : State := wHost n [(1, wImage 1#8), (2, wImage 2#8)]
theorem witness_BootStages_complete :
    (∀ n ∈ [1, 2, 5, 6, 7], (wBoot n).mode.mode = .boot ∧ (wBoot n).num OD.bootStage = n)
      ∧ (∀ n ∈ [(1 : Nat), 2], (wBoth (n + 2)).awaitsImage = false ∧ (wBoth (n + 2)).nat OD.bootStage = n + 2 ∧ (wBoth (n + 2)).imageFault n = 0
        ∧ (wBad (n + 2)).awaitsImage = false ∧ (wBad (n + 2)).imageFault n ≠ 0)
      ∧ 0x0809 ∈ stageReasons ((wBoot 2).nat OD.bootStage) ∧ 0x0B01 ∈ stageReasons ((wBad 3).nat OD.bootStage)
      ∧ (wBad 3).imageFault 1 = 0x0B01 := by decide +kernel
/-- Stage 3 of a boot from the host, which has not written its image for ten minutes. -/
def wAwaits : State := late (wHost 3 [])
theorem witness_BootStages_host :
    wAwaits.awaitsImage = true ∧ wAwaits.mode.stageAt + wAwaits.nat OD.bootHostWait * 1000000000 ≤ wAwaits.nowNs
      ∧ wAwaits.accessReason (.mailbox 0) OD.bootImage 0 OD.bootImage.addr true = 0
      ∧ wAwaits.sec.imageReason 1 (wGood 1#8) = 0 ∧ wAwaits.sec.imageReason 1 (wImage 1#8) ≠ 0 := by decide +kernel


/-! ## Vector cores -/

def wCore (cfg : BitVec 64) (vl : Nat) : Core := { ({} : Core) with vcfg := cfg, vl := vl }
/-- Every power domain on. -/
def allOn (s : State) : State := { s with fab := { s.fab with domains := (List.range 212).map (fun d => (d, { state := .on })) } }
/-- Core 0 as given, awake. -/
def onCore (c : Core) : State := allOn ((inMode .run).setCore 0 c)
/-- w1 from w2 and w3 under p1, and unmasked. -/
def wVV (pm : Bool) : VV := ⟨0, pm, if pm then 1#3 else 0#3, 1#5, 2#5, 3#5⟩
def wVU (pm : Bool) : VU := ⟨0, pm, if pm then 1#3 else 0#3, 1#5, 2#5⟩
def wVC (cond : BitVec 2) : VC := ⟨0, true, 1#3, 2#3, cond, 2#5, 3#5⟩
theorem witness_VxIntegerElements : ∀ pm ∈ [true, false], ∀ ew ∈ [0, 1, 2, 3],
    VecReady (onCore (wCore (BitVec.ofNat 64 ew) 3)) 0 (·.okVV ewAll (wVV pm) true)
      ∧ VecReady (onCore (wCore (BitVec.ofNat 64 ew) 3)) 0 (·.okVV ewAll (wVV pm) false) := by
  unfold VecReady State.fetches; decide +kernel
theorem witness_VxShifts : VecReady (onCore (wCore 1#64 3)) 0 (·.okVV ewAll (wVV true) true)
    ∧ VecReady (onCore (wCore 1#64 3)) 0 (·.okVV ewAll (wVV true) false) := by unfold VecReady State.fetches; decide +kernel
theorem witness_VxDivision : VecReady (onCore (wCore 3#64 3)) 0 (·.okVV ewAll (wVV true) true) := by unfold VecReady State.fetches; decide +kernel
theorem witness_VxSaturatingAndUnary :
    VecReady (onCore (wCore 1#64 3)) 0 (·.okVV [16, 32] (wVV true) true)
      ∧ VecReady (onCore (wCore 2#64 3)) 0 (fun c => !c.vill && has [8, 16, 32] c.ew && decide (c.g ≤ 4) && okPred true 1#3 c.g
          && okReg 1 c.g && okReg 2 (2 * c.g))
      ∧ ∀ ews ∈ [ewAll, ewFloat, [32]], VecReady (onCore (wCore 2#64 3)) 0 (fun c => !c.vill && has ews c.ew && okPred true 1#3 c.g
          && okReg 1 c.g && okReg 2 c.g) := by unfold VecReady State.fetches; decide +kernel
theorem witness_VxComplex : VecReady (onCore (wCore 2#64 3)) 0 (·.okVV [32] (wVV true) true) ∧ (1#2 : BitVec 2) ≠ 3#2 := by
  unfold VecReady State.fetches; decide +kernel
theorem witness_VxFloat :
    VecReady (onCore (wCore 1#64 3)) 0 (·.okVV ewFloat (wVV true) true) ∧ VecReady (onCore (wCore 3#64 3)) 0 (·.okVV [64] (wVV true) true)
      ∧ VecReady (onCore (wCore 2#64 3)) 0 (fun c => !c.vill && has ewFloat c.ew && okPred true 1#3 c.g && okReg 1 c.g && okReg 2 c.g)
      ∧ VecReady (onCore (wCore 1#64 3)) 0 (fun c => c.okVV [16] (wVV true) true && !groupsMeet 1 c.g 3 c.g)
      ∧ ∀ m ∈ [2, 16], VecReady (onCore (wCore 1#64 25)) 0 (fun c => c.okVV [16] { wVV true with ws2 := BitVec.ofNat 5 m } false
          && decide (2 ≤ m ∧ m ≤ 16) && !groupsMeet 1 c.g 2 c.g) := by unfold VecReady State.fetches; decide +kernel
theorem witness_VxPermute :
    VecReady (onCore (wCore 1#64 3)) 0 (fun c => c.okVV ewAll (wVV true) true && (wVV true).pm)
      ∧ VecReady (onCore (wCore 1#64 3)) 0 (fun c => c.okVV ewAll (wVV true) true && decide (c.vri = 0) && !groupsMeet 1 c.g 2 c.g
          && !groupsMeet 1 c.g 3 c.g) := by unfold VecReady State.fetches; decide +kernel
theorem witness_VxCompareAndReduce :
    ∀ ews ∈ [ewAll, ewFloat, [32]], VecReady (onCore (wCore 2#64 3)) 0 (fun c => !c.vill && has ews c.ew && okPred true 1#3 c.g
        && decide (2 % c.g = 0) && okReg 2 c.g && okReg 3 c.g && decide (c.vri = 0))
      ∧ VecReady (onCore (wCore 2#64 3)) 0 (fun c => !c.vill && has ews c.ew && okPred true 1#3 c.g && okReg 1 c.g && okReg 2 c.g
        && decide (c.vri = 0)) := by unfold VecReady State.fetches; decide +kernel
theorem witness_VxConfigurationAndMoves :
    (onCore {}).fetches 0 4 ∧ ((onCore {}).core 0).priv ≠ .u ∧ (wCore 0#64 3).vill = false
      ∧ (256 : Nat) ≤ (wCore 0#64 3).vlmax ∧ (wCore 0#64 3).vlmax < 257
      ∧ bits (0x3FF#64 : BitVec 64).toNat 63 10 = 0 ∧ bits (0x13F#64 : BitVec 64).toNat 8 6 < 5 ∧ ¬bits (0x140#64 : BitVec 64).toNat 8 6 < 5
      ∧ VecReady (onCore (wCore 0#64 3)) 0 (fun c => !c.vill && okReg 1 c.g && okReg 2 c.g && c.okP 3#5) := by
  unfold VecReady State.fetches; decide +kernel
/-- A core at level S whose first memory-protection entry lets it read, write and execute everywhere. -/
def wSup (c : Core) : Core := { c with priv := .s, csr := c.csr ++ [(0x3A0, 0x1F#64), (0x3B0, 0x3FFFFFFFFFFFFF#64)] }
theorem witness_VxStopped :
    (onCore {}).fetches 0 4 ∧ ((onCore {}).core 0).okVV ewAll (wVV true) true = false
      ∧ (wCore 0#64 3).okVV ewFloat (wVV true) true = false
      ∧ (wCore 0#64 0).okVV ewAll (wVV true) true = true ∧ (wCore 0#64 0).vl = 0
      ∧ ({ wCore 0#64 3 with cpen := 0#64 } : Core).cpEnabled 2 = false
      ∧ (wSup { wCore 0#64 3 with cpctx := 1#64 }).cpEnabled 1 = true ∧ (wSup { wCore 0#64 3 with cpctx := 1#64 }).firstUse 1 = true
      ∧ (onCore (wSup { wCore 0#64 3 with cpctx := 1#64 })).fetches 0 4 := by
  unfold State.fetches; decide +kernel
/-- x1 holds the base of core 0's local memory, x2 a stride of 8. -/
def wMemCore : Core := { wCore 2#64 2 with x := [(1, 0x1200000000#64), (2, 8#64)] }
def wMem (nf : Nat) : VMem := ⟨0, false, 0#3, 4#5, 1#5, 2#5, nf⟩
theorem wMemCore_each (step : Nat → BitVec 64) (right nf : Nat)
    (h : ∀ i ∈ [0, 1], ∀ f ∈ List.range nf, wMemCore.at_ (wMem nf) step i f % 4 = 0
      ∧ ownLocal 0 (wMemCore.at_ (wMem nf) step i f) 4 = true
      ∧ wMemCore.pmpOk wMemCore.dataLevel right (wMemCore.at_ (wMem nf) step i f) 4 = true) :
    ∀ i, (onCore wMemCore |>.core 0).vri ≤ i → i < (onCore wMemCore |>.core 0).vl → (onCore wMemCore |>.core 0).active false 0#3 i = true →
    ∀ f, f < nf → wMemCore.at_ (wMem nf) step i f % 4 = 0 ∧ ownLocal 0 (wMemCore.at_ (wMem nf) step i f) 4 = true
      ∧ wMemCore.pmpOk wMemCore.dataLevel right (wMemCore.at_ (wMem nf) step i f) 4 = true := by
  intro i _ hi _ f hf
  have h2 : (onCore wMemCore |>.core 0).vl = 2 := by decide +kernel
  rw [h2] at hi
  exact h i (by simp; omega) f (by simpa using hf)
def wRun (nf i : Nat) : BitVec 64 := BitVec.ofNat 64 (i * nf * 4)
def wStride (i : Nat) : BitVec 64 := BitVec.ofNat 64 i * 8#64
theorem witness_VxLoads :
    MemReady (onCore wMemCore) .le (wMem 1) (wRun 1) 0 ∧ MemReady (onCore wMemCore) .leff (wMem 1) (wRun 1) 0
      ∧ MemReady (onCore wMemCore) .lseg (wMem 2) (wRun 2) 0 ∧ MemReady (onCore wMemCore) .lsegff (wMem 2) (wRun 2) 0
      ∧ MemReady (onCore wMemCore) .lse (wMem 1) wStride 0 ∧ MemReady (onCore wMemCore) .lsseg (wMem 2) wStride 0
      ∧ MemReady (onCore wMemCore) .lxe (wMem 1) (fun i => BitVec.ofNat 64 (elemOf (wMemCore.group 2#5) 32 i * 4)) 0 := by
  refine ⟨⟨?_, ?_, ?_, ?_, wMemCore_each _ 0 1 ?_⟩, ⟨?_, ?_, ?_, ?_, wMemCore_each _ 0 1 ?_⟩, ⟨?_, ?_, ?_, ?_, wMemCore_each _ 0 2 ?_⟩,
    ⟨?_, ?_, ?_, ?_, wMemCore_each _ 0 2 ?_⟩, ⟨?_, ?_, ?_, ?_, wMemCore_each _ 0 1 ?_⟩, ⟨?_, ?_, ?_, ?_, wMemCore_each _ 0 2 ?_⟩,
    ⟨?_, ?_, ?_, ?_, wMemCore_each _ 0 1 ?_⟩⟩ <;> (first | decide +kernel | (unfold State.fetches; decide +kernel))
theorem witness_VxStores :
    MemReady (onCore wMemCore) .se (wMem 1) (wRun 1) 1 ∧ MemReady (onCore wMemCore) .sseg (wMem 2) (wRun 2) 1
      ∧ MemReady (onCore wMemCore) .sse (wMem 1) wStride 1 ∧ MemReady (onCore wMemCore) .ssseg (wMem 2) wStride 1
      ∧ MemReady (onCore wMemCore) .sxe (wMem 1) (fun i => BitVec.ofNat 64 (elemOf (wMemCore.group 2#5) 32 i * 4)) 1 := by
  refine ⟨⟨?_, ?_, ?_, ?_, wMemCore_each _ 1 1 ?_⟩, ⟨?_, ?_, ?_, ?_, wMemCore_each _ 1 2 ?_⟩, ⟨?_, ?_, ?_, ?_, wMemCore_each _ 1 1 ?_⟩,
    ⟨?_, ?_, ?_, ?_, wMemCore_each _ 1 2 ?_⟩, ⟨?_, ?_, ?_, ?_, wMemCore_each _ 1 1 ?_⟩⟩ <;> (first | decide +kernel | (unfold State.fetches; decide +kernel))
def wCp : State := onCore { wCore 2#64 2 with cp0 := [(2, BitVec.ofNat 128 (25 + 139 * 65536))], cpbusy := 0#64, bctl := bctlOf 0 0 }
theorem witness_VxCoprocessors :
    CpReady wCp 0 0 ∧ CpReady wCp 0 1 ∧ (2#5 : BitVec 5).toNat < cpRegs 0 ∧ bits ((wCp.core 0).cpReg 0 2) 31 16 ≠ 0
      ∧ (crcPoly 0).isSome = true ∧ 12 + 3 < 16 ∧ 13 + 2 < 16 := by
  refine ⟨⟨?_, ?_, ?_, ?_, ?_⟩, ⟨?_, ?_, ?_, ?_, ?_⟩, ?_⟩ <;> (first | decide +kernel | (unfold State.fetches; decide +kernel))
theorem witness_VxFunctions : CpReady wCp 0 2 ∧ (wCp.core 0).vill = false ∧ (wCp.core 0).ew = 32 ∧ (15#5 : BitVec 5).toNat < 16 := by
  refine ⟨⟨?_, ?_, ?_, ?_, ?_⟩, ?_⟩ <;> (first | decide +kernel | (unfold State.fetches; decide +kernel))
/-- Interrupt 11 enabled at level M. -/
def wIrq : Core := { wCore 0#64 3 with csr := [(0x300, 8#64), (0x304, 2048#64)] }
theorem witness_VxTrapsAndScalars :
    bit (({ wCore 0#64 3 with cpbusy := 4#64 } : Core).cpbusy).toNat 2 = true ∧ wIrq.halted = false ∧ wIrq.intEnabled 11 = true
      ∧ (onCore wIrq).fetches 0 4 ∧ wIrq.priv = .m ∧ (wSup wIrq).mayXret false = true ∧ (onCore (wSup wIrq)).fetches 0 4
      ∧ bits wIrq.cpbusy.toNat 2 0 = 0
      ∧ bits (0x00310093#32 : BitVec 32).toNat 6 0 = 0x13 ∧ bits (0x00310093#32 : BitVec 32).toNat 14 12 = 0 ∧ (onCore wIrq).unitAwake 0 0 = true := by
  unfold State.fetches; decide +kernel
def wHeld : Core := { wCore 0#64 3 with slugstat := 1#64 }
/-- A core that waits while CORE_IMAGE names slot 5, which holds a verified image. -/
def wSwitch : State :=
  let s := put OD.imageState 5 2 (put OD.coreImage 0 5 (onCore { wCore 0#64 3 with waiting := true }))
  { s with vx := { s.vx with slots := [(5, ⟨some (wGood 3#8)⟩)] } }
theorem witness_VxSlugsAndImages :
    (onCore wHeld).fetches 0 4 ∧ wHeld.priv = .m ∧ wHeld.slugstat.getLsbD 0 = true ∧ wHeld.halted = false
      ∧ ((onCore wHeld).unit 0 0).state ≠ .retired
      ∧ (onCore wHeld).unitAwake 0 0 = true
      ∧ (wSwitch.core 0).waiting = true ∧ (wSwitch.core 0).halted = false ∧ (wSwitch.core 0).slugstat.getLsbD 0 = false
      ∧ (wSwitch.unit 0 0).held = none ∧ wSwitch.unitAwake 0 0 = true ∧ (wSwitch.core 0).image ≠ wSwitch.govN OD.coreImage 0
      ∧ wSwitch.slotImage (wSwitch.govN OD.coreImage 0) = some (wGood 3#8) ∧ wSwitch.sec.level 3 ≤ (wGood 3#8).rollback := by
  unfold State.fetches; decide +kernel
theorem witness_VxSlugsAndImages_slots :
    ((withMgr .configure).setSel mgr 0x700001 7).admits mgr OD.imageData 0
      ∧ ((withMgr .configure).setSel mgr 0x700001 7).slotNamed 7 = false
      ∧ (put OD.imageState 5 1 wSwitch).nat OD.imageState 5 = 1
      ∧ (Tab.get {} wSwitch.vx.slots 5 : ImageSlot).img = some (wGood 3#8) := by unfold State.admits; decide +kernel

/-! ## Engines -/

/-- The blocks' memories are awake, partition 3 may read and write HBM stack 0, and hamper 0, of four 64 KiB buffers from
0x100000 on, is its. -/
def wHamper : Hamper := ⟨2, 0, 8, 4, 0x100000, 3, 0, [], [], []⟩
def world (s : State) : State :=
  let t := allOn (put OD.windowReg 48 ((7 * 2 ^ 60 + 0x600000 * 2 ^ 36 : Nat) : Int) s)
  { t with fab := { t.fab with hampers := [(0, wHamper)] } }
/-- An access to HBM stack 0 by a unit of partition 3 in such a world is open. -/
theorem world_open (s : State) (q : Acc) (rd wr : Bool) (h196 : ((s.domain 196).state ≠ .off ∧ (s.domain 196).state ≠ .lockedOff))
    (hw : s.window 3 0 = 7 * 2 ^ 60 + 0x600000 * 2 ^ 36) (hq : q.part = some 3) (hr : s.sec.regions = [])
    (hh : s.fab.hampers.all (fun e => e.2.sealedB.isEmpty) = true) (hp : s.fab.poison = []) (hf : s.fenced q = false) (a n : Nat) (hn : 0 < n)
    (ha : a + n ≤ 0x600000000) : OpenTo s q rd wr a n := by
  have z : ∀ b, b < 0x600000000 → zoneOf b = .hbm 0 := fun b hb => by simp [zoneOf, hb]
  have d : s.memDomain a = some 196 := by simp [State.memDomain, z a (by omega)]
  refine ⟨Or.inl ⟨0, ?_⟩, ?_, ?_, ?_, ?_, ?_, hf⟩
  · simp [spanZone, z a (by omega), z (a + (n - 1)) (by omega)]
  · intro x hx; rw [d] at hx; cases hx; exact h196
  · intro _
    simp only [State.inWindow, hq, Option.getD_some, Bool.or_eq_true, List.any_eq_true]
    refine Or.inl ⟨0, by simp, ?_⟩
    rw [hw]
    have b62 : bit (7 * 2 ^ 60 + 0x600000 * 2 ^ 36) 62 = true := by decide
    have b61 : bit (7 * 2 ^ 60 + 0x600000 * 2 ^ 36) 61 = true := by decide
    have b60 : bit (7 * 2 ^ 60 + 0x600000 * 2 ^ 36) 60 = true := by decide
    have c0 : bits (7 * 2 ^ 60 + 0x600000 * 2 ^ 36) 35 0 = 0 := by decide
    have c1 : bits (7 * 2 ^ 60 + 0x600000 * 2 ^ 36) 59 36 = 0x600000 := by decide
    simp only [windowAdmits, b62, b61, b60, c0, c1, Bool.or_true, Bool.true_and, Bool.and_eq_true, decide_eq_true_eq]
    omega
  · simp [State.regionAt, hr]
  · intro _
    simp only [List.all_eq_true, List.isEmpty_iff] at hh
    simp only [State.sealedAt, List.any_eq_false]
    intro e he; simp [hh e he]
  · intro _; simp [State.poisoned, hp]
theorem world_open_all (s : State) (q : Acc) (rd wr : Bool) (h196 : ((s.domain 196).state ≠ .off ∧ (s.domain 196).state ≠ .lockedOff))
    (hw : s.window 3 0 = 7 * 2 ^ 60 + 0x600000 * 2 ^ 36) (hq : q.part = some 3) (hr : s.sec.regions = [])
    (hh : s.fab.hampers.all (fun e => e.2.sealedB.isEmpty) = true) (hp : s.fab.poison = []) (hf : s.fenced q = false) (a n : Nat)
    (ha : a + n ≤ 0x600000000) : OpenAll s q rd wr a n := fun b k hk h1 h2 =>
  world_open s q rd wr h196 hw hq hr hh hp hf b k hk (by omega)
/-- Unit `u` of a class holds slug 0, with addresses of 128-byte blocks for its arguments, in a memory that starts with the
bytes given at 0x1000. -/
def wJob (cls u kind : Nat) (args : List (Option Nat)) (b : List Byte) : State :=
  let x : Slug := { slug0 cls .running with kind := kind, executor := u, resolved := args }
  let s := world (running x true)
  { s with
    mem := Memory.write s.mem 0x1000 b
    galley := { s.galley with units := [(unitKey cls u, { state := .running, held := some (0, 0) })] } }
/-- An ARG that names the 128-byte block `k` of HBM. -/
def hbmArg (k : Nat) : Nat := 3 * 2 ^ 30 + k
/-- A descriptor for hamper 0 with one item, output 0 bound to pair 0. -/
def wDesc (status : Bool) (n : Nat) : Nat := 64 + (if status then 2 ^ 23 else 0) + n * 2 ^ 44
theorem wJob_open (cls u kind : Nat) (args : List (Option Nat)) (b : List Byte) (q : Acc) (rd wr : Bool) (a n : Nat)
    (hq : q.part = some 3) (hf : (wJob cls u kind args b).fenced q = false) (ha : a + n ≤ 0x600000000) :
    OpenAll (wJob cls u kind args b) q rd wr a n ∧ (0 < n → OpenTo (wJob cls u kind args b) q rd wr a n) := by
  have h1 : ((wJob cls u kind args b).domain 196).state ≠ .off ∧ ((wJob cls u kind args b).domain 196).state ≠ .lockedOff := by
    have h : ((wJob cls u kind args b).domain 196).state = .on :=
      (show ((world (running (slug0 3 .waiting) true)).domain 196).state = .on by decide +kernel)
    rw [h]; exact ⟨nofun, nofun⟩
  have h2 : (wJob cls u kind args b).window 3 0 = 7 * 2 ^ 60 + 0x600000 * 2 ^ 36 :=
    (show (world (running (slug0 3 .waiting) true)).window 3 0 = _ by decide +kernel)
  exact ⟨world_open_all _ q rd wr h1 h2 hq rfl rfl rfl hf a n ha,
    fun hn => world_open _ q rd wr h1 h2 hq rfl rfl rfl hf a n hn ha⟩
/-- A convolutional encoding of 12 bits into 60, two items with records. -/
def dPl : Nat := wDesc true 2 + 3 * 2 ^ 128 + 12 * 2 ^ 135 + 60 * 2 ^ 146
def wPlArgs : List (Option Nat) := [some (hbmArg 0x20), some (hbmArg 0x40), none]
def wPl : State := wJob 6 0 0 wPlArgs (leBytes 64 dPl)
def xPl : Slug := { slug0 6 .running with kind := 0, executor := 0, resolved := wPlArgs }
theorem wPl_holds : HoldsNew wPl 6 0 0 0 xPl := by
  exact ⟨by decide +kernel, by decide +kernel, ⟨by decide +kernel, rfl, rfl⟩, ⟨rfl, rfl⟩, by decide +kernel, rfl⟩
theorem witness_EngineJobs :
    44 < 54 ∧ (engineUnit 44).1 = 6 ∧ HoldsNew wPl 6 0 0 0 xPl ∧ Described wPl (engAcc 6 0 3 0 0) xPl dPl ∧ headerOk dPl = true
      ∧ engMode 6 dPl = some (plMode dPl) ∧ (plMode dPl).valid = true ∧ modeCode 6 dPl = 3 ∧ argsOk xPl (plMode dPl) dPl = true
      ∧ Outputs wPl (engAcc 6 0 3 0 0) 3 0 (engSize (plMode dPl) dPl []) wHamper [0, 1]
      ∧ (plMode dPl).arg2 = false
      ∧ ∀ j, j < dItems dPl → OpenTo wPl (engAcc 6 0 3 0 0) true false (wPl.argAt xPl 1 + (plMode dPl).inOff dPl [] j) (plMode dPl).inItem := by
  have hf : wPl.fenced (engAcc 6 0 3 0 0) = false := by decide +kernel
  have ha : wPl.argAt xPl 0 = 0x1000 := by decide +kernel
  have hi : ∀ j, j < 2 → wPl.argAt xPl 1 + (plMode dPl).inOff dPl [] j + (plMode dPl).inItem ≤ 0x600000000 := by decide +kernel
  have hn : dItems dPl = 2 := by decide +kernel
  have hb : ∀ b ∈ [0, 1], wHamper.at_ b + wHamper.bytes ≤ 0x600000000 := by decide +kernel
  refine ⟨by decide, by decide, wPl_holds, ⟨rfl, ?_, by decide +kernel⟩, by decide +kernel, (show (if bits dPl 130 128 ≤ 5 then some (plMode dPl) else none) = some (plMode dPl) from if_pos (by decide +kernel)), by decide +kernel,
    by decide +kernel, by decide +kernel,
    ⟨rfl, by decide +kernel, by decide +kernel, by decide, by decide +kernel, fun b hbm => ⟨?_, ?_, ?_⟩⟩, by decide +kernel, ?_⟩
  · rw [ha]; exact (wJob_open 6 0 0 wPlArgs _ _ true false _ _ rfl hf (by decide)).2 (by decide)
  · revert b; decide +kernel
  · revert b; decide +kernel
  · exact (wJob_open 6 0 0 wPlArgs _ _ false true _ _ rfl hf (hb b hbm)).1
  · intro j hj
    rw [hn] at hj
    exact (wJob_open 6 0 0 wPlArgs _ _ true false _ _ rfl hf (hi j hj)).2 (by decide +kernel)

/-- The same with a hamper that has given out its four buffers, and with a slug that has no ARG0. -/
def wPlDry : State := { wPl with fab := { wPl.fab with hampers := [(0, { wHamper with fresh := 4 })] } }
theorem witness_EngineJobs_waits :
    wPlDry.hamper 0 = some { wHamper with fresh := 4 } ∧ ({ wHamper with fresh := 4 } : Hamper).take = none
      ∧ engSize (plMode dPl) dPl [] ≤ ({ wHamper with fresh := 4 } : Hamper).bytes ∧ dHamper dPl = 0
      ∧ ({ xPl with resolved := [none, none, none] } : Slug).hasArg 0 = false := by decide +kernel
/-- PL0 has done its job on slug 0, or has waited for a buffer for as long as ALLOC_WAIT admits. -/
def wPlJob (waits : Bool) : Job :=
  { handle := 0, attempt := 0, desc := dPl, need := 2, outs := if waits then [] else [handleOf 0 0, handleOf 0 1], waitAlloc := waits,
    ready := if waits then none else some 0, items := 2, since := -10 ^ 9 }
def wPlDone (waits : Bool) : State :=
  let s := { wPl with edge := { wPl.edge with jobs := [(unitKey 6 0, wPlJob waits)] } }
  { s with galley := { s.galley with imps := [(1, { imp0 [0] with released := true, bindCount := 2 })] } }
theorem witness_EngineEnds :
    (wPlDone false).job 6 0 = some (wPlJob false) ∧ (wPlDone false).slug 0 = some xPl ∧ xPl.state = .running ∧ xPl.attempt = 0
      ∧ (wPlDone false).imp xPl.imp = some { imp0 [0] with released := true, bindCount := 2 }
      ∧ bits (wPlJob false).desc 33 24 < 2 ∧ bits (wPlJob false).desc 43 34 < 2
      ∧ engineUnit 44 = (6, 0) ∧ (wPlDone true).job 6 0 = some (wPlJob true)
      ∧ ((wPlDone true).govN OD.allocWait : Int) * 49152 ≤ ((wPlDone true).time.air - (wPlJob true).since) * 100
      ∧ (wPlDone true).slug 0 = some xPl ∧ wPl.unitAwake 6 0 = true ∧ (wPl.unit 6 0).state ≠ .retired := by decide +kernel
/-- DM0 copies 16 bytes from 0x10C0 to 0x4000, and fills 8 bytes at 0x5000. -/
def dDma : Nat := wDesc true 1
def wElem (src dst len : Nat) : List Byte := leBytes 32 (src + dst * 2 ^ 64 + len * 2 ^ 128)
def wDmaArgs : List (Option Nat) := [some (hbmArg 0x20), some (hbmArg 0x21), none]
def wDma (kind : Nat) (e : List Byte) : State :=
  let s := wJob 11 0 kind wDmaArgs (leBytes 128 dDma ++ leBytes 64 (leNat e) ++ leBytes 16 (3 * 2 ^ 64 + 77))
  let s := { s with galley := { s.galley with imps := [(1, { imp0 [0] with released := true, bindCount := 2 })] } }
  match s.slug 0 with | some x => s.setSlug 0 { x with commit := .inPlace } | none => s
def xDma (kind : Nat) : Slug := { slug0 11 .running with kind := kind, executor := 0, resolved := wDmaArgs, commit := .inPlace }
def eCopy : DmaEl := dmaEl 1 (0x10C0 + 0x4000 * 2 ^ 64 + 16 * 2 ^ 128)
def eFill : DmaEl := dmaEl 2 (0x5000 + 0x1122334455667788 * 2 ^ 64 + 8 * 2 ^ 128)
theorem witness_DmaMoves :
    (wDma 1 (wElem 0x10C0 0x4000 16)).slug 0 = some (xDma 1) ∧ (wDma 1 (wElem 0x10C0 0x4000 16)).job 11 0 = none
      ∧ (wDma 1 (wElem 0x10C0 0x4000 16)).loadN ((wDma 1 (wElem 0x10C0 0x4000 16)).argAt (xDma 1) 0) 64 = dDma ∧ headerOk dDma = true
      ∧ bits dDma 511 160 = 0 ∧ dItems dDma = 1 ∧ bits dDma 33 24 < 2 ∧ bits dDma 43 34 < 2
      ∧ (wDma 1 (wElem 0x10C0 0x4000 16)).loadN ((wDma 1 (wElem 0x10C0 0x4000 16)).argAt (xDma 1) 1) 32
          = 0x10C0 + 0x4000 * 2 ^ 64 + 16 * 2 ^ 128
      ∧ eCopy.ok 1 0 0 = true ∧ eFill.ok 2 0 0 = true ∧ dmaCommitOk .inPlace [eCopy] = true ∧ dmaCommitOk .inPlace [eFill] = true
      ∧ overlaps eCopy.dst eCopy.len (wHamper.at_ 0) 8 = false ∧ overlaps eCopy.src eCopy.len (wHamper.at_ 0) 8 = false
      ∧ wHamper.takes 1 = some [0] ∧ wHamper.serves 3 false = true ∧ 8 ≤ wHamper.bytes := by decide +kernel
theorem witness_DmaMoves_open :
    OpenAll (wJob 11 0 1 wDmaArgs []) (engAcc 11 0 3 0 0) true true 0x10C0 0x2000
      ∧ ((wDma 1 []).unit 11 0).state ≠ .retired := by
  exact ⟨(wJob_open 11 0 1 wDmaArgs [] _ true true _ _ rfl (by decide +kernel) (by decide)).1, by decide +kernel⟩

/-! ## Radio edge -/

/-- Antenna group 0 of one stream on FU0, cell 0 without downlink symbols, context 0 with an occasion in every slot, compression of
the radio 0, port 0 up and flow 5 enabled (uplink) or flow 6 (downlink). -/
def wEdge : State :=
  let s := put OD.groupMap 0 (2 ^ 25) <| put OD.changeMask 0 0x3FFF <| put OD.contextGroup 0 0 <| put OD.schedule 0 1 <|
    put OD.flowMatch 6 32 <| put OD.numerology 0 0 <| put OD.rampUp 0 0 <| put OD.rampDown 0 0 (withMgr .configure)
  { allOn s with
    time := { s.time with air := 0 }
    front := { s.front with portsOn := [0], ports := [(0, { up := true })], flowsOn := [5, 6] }
    edge := { s.edge with groupsOn := [0], ctxOn := [0], groups := [(0, { wins := [(0, 0, 0, 0, 5000, 64)], pk := 3000 })] } }
theorem witness_EdgeGainAndSearch_change :
    has wEdge.edge.groupsOn 0 = true ∧ bit (wEdge.govN OD.groupMap 0) 12 = false ∧ wEdge.changeDue 0 = some 0
      ∧ wEdge.frozenNow 0 = false ∧ (wEdge.antGroup 0).wins ≠ [] := by decide +kernel
theorem witness_EdgeGainAndSearch_trigger :
    has wEdge.edge.ctxOn 0 = true ∧ wEdge.occasionNow 0 = true ∧ (0 : Int) + 4 * wEdge.govN OD.triggerLevel 0 < 100000
      ∧ ¬(100000 : Int) + 4 * wEdge.govN OD.triggerLevel 0 < 0 := by decide +kernel
/-- A second occasion later. -/
def wOcc : State := { wEdge with time := { wEdge.time with air := 1000000 } }
theorem witness_EdgeGainAndSearch_occasion :
    has wOcc.edge.ctxOn 0 = true ∧ wOcc.occasionDue 0 wOcc.time.air = some 1 ∧ (wOcc.sctx 0).ring.length < 16 := by decide +kernel
/-- FU0 collects context 0, which holds one occasion with one detection. -/
def dFu : Nat := wDesc false 1
def wFu : State :=
  let s := wJob 9 0 1 [some (hbmArg 0x20), none, none] (leBytes 64 dFu)
  { s with edge := { s.edge with ctxOn := [0], ctx := [(0, { ring := [⟨5, 1, false, false, false, [⟨3, false, 7, 40, 1, 1⟩]⟩] })] } }
def xFu : Slug := { slug0 9 .running with executor := 0, resolved := [some (hbmArg 0x20), none, none] }
theorem witness_EdgeGainAndSearch_collect :
    HoldsNew wFu 9 0 0 0 xFu ∧ wFu.imp xFu.imp = some { imp0 [0] with released := true } ∧ Described wFu (engAcc 9 0 3 0 0) xFu dFu
      ∧ headerOk dFu = true ∧ dItems dFu = 1 ∧ bits dFu 511 136 = 0 ∧ bits dFu 33 24 < 1 ∧ bits dFu 43 34 < 1
      ∧ Outputs wFu (engAcc 9 0 3 0 0) 3 0 ((wFu.sctx 0).bytes 0).length wHamper [0] ∧ wFu.collectWaits 0 0 = false := by
  have hf : wFu.fenced (engAcc 9 0 3 0 0) = false := by decide +kernel
  have ha : wFu.argAt xFu 0 = 0x1000 := by decide +kernel
  have o := fun rd wr a n h => wJob_open 9 0 1 [some (hbmArg 0x20), none, none] (leBytes 64 dFu) (engAcc 9 0 3 0 0) rd wr a n rfl (by decide +kernel) h
  refine ⟨⟨by decide +kernel, by decide +kernel, ⟨by decide +kernel, rfl, rfl⟩, ⟨rfl, rfl⟩, by decide +kernel, rfl⟩, by decide +kernel,
    ⟨rfl, ?_, by decide +kernel⟩, by decide +kernel, by decide +kernel, by decide +kernel, by decide +kernel, by decide +kernel,
    ⟨rfl, by decide +kernel, by decide +kernel, by decide, by decide +kernel, fun b hb => ?_⟩, by decide +kernel⟩
  · rw [ha]
    obtain ⟨h1, h2, h3, h4, h5, h6, h7⟩ := (o true false 0x1000 64 (by decide)).2 (by decide)
    exact ⟨h1, h2, h3, h4, h5, h6, h7⟩
  · cases List.mem_singleton.mp hb
    refine ⟨by decide +kernel, by decide, fun b k hk h1 h2 => ?_⟩
    obtain ⟨h1, h2, h3, h4, h5, h6, h7⟩ := (o false true (wHamper.at_ 0) wHamper.bytes (by decide +kernel)).1 b k hk h1 h2
    exact ⟨h1, h2, h3, h4, h5, h6, h7⟩
theorem witness_EdgeGainAndSearch_noise :
    (put OD.noiseSource 0 1 wEdge).govN OD.noiseSource 0 = 1
      ∧ (let s := { wEdge with edge := { wEdge.edge with radios := [(0, { sets := [(0, { noiseAt := some (-10 ^ 12) })] })] } }
         (s.wset 0 0).noiseAt = some (-10 ^ 12) ∧ (s.nat OD.noiseTimeout 0 : Int) * 491520 ≤ s.time.air - -10 ^ 12) := by decide +kernel

/-- Radio 0 in a state of its negotiation. -/
def wRadio (st : NsState) : State :=
  let s := put OD.fallbackSlots 0 4 (put OD.retryInterval 0 1 wEdge)
  { s with edge := { s.edge with radios := [(0, { ns := st, fbRun := 9, since := -10 ^ 12 })] } }
theorem witness_EdgeUnits_radio :
    ((wRadio .active).radio 0).ns = .active ∧ (wRadio .active).govN OD.fallbackSlots 0 ≤ ((wRadio .active).radio 0).fbRun
      ∧ ((wRadio .fallback).radio 0).ns = .fallback ∧ (wRadio .fallback).nat OD.retryInterval 0 ≠ 0
      ∧ ((wRadio .fallback).nat OD.retryInterval 0 : Int) * 491520000 ≤ (wRadio .fallback).time.air - ((wRadio .fallback).radio 0).since := by
  decide +kernel
/-- FU0 and CU0 have faulted; CU11 is the reserve. -/
def wMoved : State :=
  let s := (wEdge.setUnit 9 0 { state := .retired }).setUnit 10 0 { state := .retired }
  let s := s.setUnit 10 11 { state := .reserve }
  { s with edge := { s.edge with moving := [0] } }
theorem witness_EdgeUnits_units :
    (wEdge.unit 9 0).state ≠ .retired ∧ (wEdge.unit 10 0).state ≠ .retired ∧ has wMoved.edge.moving 0 = true
      ∧ (wMoved.unit 10 0).state = .retired ∧ wMoved.pairOf 0 < 12 ∧ wMoved.promotable 10 = [11] := by decide +kernel
/-- The same without search contexts, flow 0 passing its samples to the group. -/
def wGroup : State := put OD.flowMap 0 (2 ^ 18) { wEdge with edge := { wEdge.edge with ctxOn := [] } }
theorem fuStreams_one (g : Nat) (m : Nat → Nat) (t : Bool) : fuStreams [g] m t ≤ 192 * 122880 := by
  have h : mapStreams (m g) ≤ 128 := by unfold mapStreams bits; omega
  have hc : cellRate (bits (m g) 9 0) ≤ 122880 := Nat.min_le_right _ _
  have := Nat.mul_le_mul h hc
  unfold fuStreams
  cases hb : decide (bit (m g) 12 = t) <;> simp_all
  omega
theorem fuFits_one (g : Nat) (m : Nat → Nat) : fuFits [g] m = true := by
  have h := fuStreams_one g m; have a := h false; have b := h true; simp [fuFits] at *; omega
theorem witness_EdgeUnits_group : wGroup.groupReason 0 = 0 ∧ wGroup.admits mgr OD.groupEnable 1 := by
  refine ⟨?_, by unfold State.admits; decide +kernel⟩
  have h1 : wGroup.groupsOf (bits (wGroup.nat OD.groupMap 0) 11 10) = [0] := by decide +kernel
  have h2 : wGroup.edge.ctxOn = [] := rfl
  have h3 : mapStreams (wGroup.nat OD.groupMap 0) = 1 := by decide +kernel
  have h4 : bit (wGroup.nat OD.flowMap (mapFlow (wGroup.nat OD.groupMap 0))) 18 = true := by decide +kernel
  unfold State.groupReason
  simp only [h1, h2, h3, State.ctxsOfFu, List.filter_nil]
  have h5 : withinBudget (sumFrac []) = true := by decide
  have h6 : ∀ m, fuFits [0] m = true := fuFits_one 0
  simp [h6, h4, h5, State.loadOf, firstFail]
theorem witness_EdgeUnits_enables :
    wEdge.enableMode = true ∧ wEdge.itemOf mgr OD.groupEnable OD.groupEnable.addr < 128
      ∧ wEdge.admits mgr OD.groupEnable 0
      ∧ wEdge.admits mgr OD.contextEnable 1 ∧ wEdge.admits mgr OD.contextEnable 0
      ∧ wEdge.itemOf mgr OD.contextEnable OD.contextEnable.addr < 256
      ∧ wEdge.admits mgr OD.rampEnable 1 ∧ wEdge.admits mgr OD.rampEnable 0
      ∧ wEdge.itemOf mgr OD.rampEnable OD.rampEnable.addr < 1024 := by unfold State.admits; decide +kernel
theorem witness_EdgeUnits_context : wEdge.contextReason 0 = 0 ∧ wEdge.rampReason 0 = 0 := by decide +kernel
/-- CU0 holds a slug of a kind for flow `f`, symbols 0 and 1, two resource blocks: the bytes given from 0x4000 on are its width map. -/
def dCu (f : Nat) : Nat := wDesc false 1 + f * 2 ^ 128 + 2 * 2 ^ 144 + 2 * 2 ^ 157
def xCu (kind : Nat) : Slug :=
  { slug0 10 .running with
    kind := kind, executor := 0, commit := .external
    resolved := if kind = 3 then [some (hbmArg 0x20), some (hbmArg 0x40), some (hbmArg 0x80)] else [some (hbmArg 0x20), none, none] }
def wCu (kind f : Nat) (map : List Byte) : State :=
  let s := put OD.flowMatch 6 32 (wJob 10 0 kind [some (hbmArg 0x20), none, none] (leBytes 64 (dCu f)))
  { s with
    mem := Memory.write s.mem 0x4000 map
    galley := { s.galley with slugs := [(0, xCu kind)] }
    front := { s.front with portsOn := [0], ports := [(0, { up := true })], flowsOn := [5, 6] } }
/-- What the clauses on the messages ask of it. -/
structure CuReady (kind f : Nat) (map : List Byte) : Prop where
  holds : HoldsNew (wCu kind f map) 10 0 0 0 (xCu kind)
  args : (xCu kind).kind = kind ∧ (xCu kind).hasArg 1 = decide (kind = 3) ∧ (xCu kind).hasArg 2 = decide (kind = 3) ∧ (xCu kind).taint = false
  desc : Described (wCu kind f map) (engAcc 10 0 3 0 0) (xCu kind) (dCu f)
  good : (wCu kind f map).cuOk kind (dCu f) = true ∧ dStatus (dCu f) = false
  port : (wCu kind f map).portOk ((wCu kind f map).activePort (cuFlow (dCu f))) = true
theorem wCu_open (kind f : Nat) (map : List Byte) (hd : ((wCu kind f map).domain 196).state = .on)
    (hw : (wCu kind f map).window 3 0 = 7 * 2 ^ 60 + 0x600000 * 2 ^ 36) (hf : (wCu kind f map).fenced (engAcc 10 0 3 0 0) = false)
    (rd wr : Bool) (a n : Nat) (hn : 0 < n) (ha : a + n ≤ 0x600000000) : OpenTo (wCu kind f map) (engAcc 10 0 3 0 0) rd wr a n :=
  world_open _ _ rd wr (by rw [hd]; exact ⟨nofun, nofun⟩) hw rfl rfl rfl rfl hf a n hn ha
theorem witness_EdgeMessages : CuReady 1 5 [] ∧ CuReady 2 6 [] ∧ CuReady 3 6 [] ∧ CuReady 3 6 [0x10#8] := by
  have o1 := wCu_open 1 5 [] (by decide +kernel) (by decide +kernel) (by decide +kernel)
  have o2 := wCu_open 2 6 [] (by decide +kernel) (by decide +kernel) (by decide +kernel)
  have o3 := wCu_open 3 6 [] (by decide +kernel) (by decide +kernel) (by decide +kernel)
  have o4 := wCu_open 3 6 [0x10#8] (by decide +kernel) (by decide +kernel) (by decide +kernel)
  refine ⟨⟨?_, ?_, ⟨rfl, o1 _ _ _ _ (by decide) (by decide +kernel), by decide +kernel⟩, ?_, ?_⟩,
    ⟨?_, ?_, ⟨rfl, o2 _ _ _ _ (by decide) (by decide +kernel), by decide +kernel⟩, ?_, ?_⟩,
    ⟨?_, ?_, ⟨rfl, o3 _ _ _ _ (by decide) (by decide +kernel), by decide +kernel⟩, ?_, ?_⟩,
    ⟨?_, ?_, ⟨rfl, o4 _ _ _ _ (by decide) (by decide +kernel), by decide +kernel⟩, ?_, ?_⟩⟩ <;>
    first
    | decide +kernel
    | exact ⟨by decide +kernel, by decide +kernel, ⟨by decide +kernel, rfl, rfl⟩, ⟨rfl, rfl⟩, by decide +kernel, rfl⟩
/-- A map whose first symbol sends nothing in one group, and an empty one. -/
theorem witness_EdgeMessages_map :
    (wCu 3 6 []).dlGroups (dCu 6) = 1
      ∧ (∀ k, k < 2 → mapCode ((wCu 3 6 [0x10#8]).load ((wCu 3 6 [0x10#8]).argAt (xCu 3) 2) 1) k < 6)
      ∧ (∀ k, k < 2 → mapCode ((wCu 3 6 []).load ((wCu 3 6 []).argAt (xCu 3) 2) 1) k = 0)
      ∧ (wCu 3 6 []).front.ports = [(0, { up := true })] ∧ (wCu 3 6 []).edge.jobs = [] := by decide +kernel
theorem witness_EdgeMessages_open (map : List Byte) (hm : map = [] ∨ map = [0x10#8]) :
    OpenTo (wCu 3 6 map) (engAcc 10 0 3 0 0) true false ((wCu 3 6 map).argAt (xCu 3) 2) 1
      ∧ OpenTo (wCu 3 6 map) (engAcc 10 0 3 0 0) true false ((wCu 3 6 map).argAt (xCu 3) 1) (48 * cuRbs (dCu 6) * cuNum (dCu 6)) := by
  rcases hm with rfl | rfl <;>
    exact ⟨wCu_open 3 6 _ (by decide +kernel) (by decide +kernel) (by decide +kernel) _ _ _ _ (by decide) (by decide +kernel),
      wCu_open 3 6 _ (by decide +kernel) (by decide +kernel) (by decide +kernel) _ _ _ _ (by decide) (by decide +kernel)⟩

/-! ## Fronthaul -/

/-- Ports 0 and 1 up, flow 5 of cell 0 (partition 3) enabled on port 0, one C-plane request of a resource block, firmware hamper 1. -/
def wFh : State :=
  let s := put OD.cellPartition 0 3 <| put OD.fwHamper 0 1 <| put OD.laneMode 0 1 (world (withMgr .configure))
  { s with
    time := { s.time with air := 20000 }
    fab := { s.fab with hampers := [(0, wHamper), (1, ⟨2, 0, 4, 4, 0x200000, 0xFFFF, 0, [], [], []⟩)] }
    front := { s.front with
      portsOn := [0, 1], ports := [(0, { up := true }), (1, { up := true })], flowsOn := [5]
      flows := [(5, { cplane := [(0, 0, 9, 0, 1)] })] } }
def wEth (n : Nat) (b : FrameBody) : EthFrame := ⟨n, true, true, none, ⟨0, 0, 0⟩, List.replicate n 5#8, b⟩
theorem witness_FronthaulReceive_frames :
    wFh.portOk 0 = true ∧ wFh.isCpri 0 = false ∧ (wEth 60 .other).length < 64
      ∧ wFh.taken 0 (wEth 64 (.firmware 1))
      ∧ (wFh.beyond 0 1 64).1 = false ∧ (put OD.policeRate4100 1 0 wFh).taken 0 (wEth 64 (.firmware 1))
      ∧ ((put OD.policeRate4100 1 0 wFh).beyond 0 1 64).1 = true
      ∧ (wFh.port 0).fwRing.length < 512 ∧ wFh.govN OD.fwHamper 0 = 1
      ∧ (wFh.hamper 1).map (fun h => (h.owner, h.takes 1, h.bytes)) = some (0xFFFF, some [0], 4096) := by
  refine ⟨?_, ?_, ?_, ⟨?_, ?_, ?_, ?_⟩, ?_, ⟨?_, ?_, ?_, ?_⟩, ?_, ?_, ?_, ?_⟩ <;> decide +kernel
/-- A section of the resource block asked for, in nine-bit block floating point. -/
def wSect : Section := ⟨false, 0, 0, 0, 0, 9, 0, 1, 1, 9, List.replicate 28 0#8⟩
theorem symbolSize_bounds (c k : Nat) : 12 ≤ Config.symbolSize c k ∧ Config.symbolSize c k ≤ 8832 := by
  unfold Config.symbolSize; omega
/-- A buffer for a symbol's samples: the first 12 of a symbol fit whatever size the symbol has. -/
theorem wFh_fresh (n : Nat) (hn : n ≤ 12) : FreshBuffer wFh 0 5 0 0 0 n wHamper 0 := by
  have h0 : wFh.flowMapN 5 46 41 = 0 := by decide +kernel
  have hb := symbolSize_bounds (wFh.flowCell 5) 0
  refine ⟨nofun, by decide +kernel, by decide +kernel, by decide +kernel, by decide, rfl, ?_, by omega, ?_, ?_⟩
  · rw [h0]; simp [wHamper, Hamper.bytes]; omega
  · intro g k h; exact absurd h (by decide +kernel)
  · exact world_open_all _ _ _ _ (by decide +kernel) (by decide +kernel) (by decide +kernel) rfl rfl rfl (by decide +kernel) _ _
      (by decide +kernel)
theorem witness_FronthaulReceive_section :
    wFh.taken 0 (wEth 80 (.ecpri 0 0 0 true [⟨1, true, 0, 0, 7, [wSect]⟩])) ∧ (wFh.beyond 0 0 80).1 = false
      ∧ wFh.matchFlow 0 0 0 0 = some 5 ∧ wFh.sectionFails 5 wSect = 0 ∧ wFh.sectionTick 5 wSect = 0
      ∧ (expandBlocks (wFh.sectionMethod 5 wSect) (wFh.sectionWidths 5 wSect) (wFh.sectionBlocks 5 wSect)).length = 12
      ∧ wFh.sectionFails 5 { wSect with downlink := true } = 1 ∧ wFh.sectionFails 5 { wSect with sectionId := 8 } = 4
      ∧ wFh.sectionFails 5 { wSect with width := 8 } = 5 ∧ wFh.sectionFails 5 { wSect with payload := [] } = 6
      ∧ wFh.oct OD.invalidCounts 5 = [] ∧ FreshBuffer wFh 0 5 0 0 0 12 wHamper 0 := by
  refine ⟨⟨?_, ?_, ?_, ?_⟩, ?_, ?_, ?_, ?_, ?_, ?_, ?_, ?_, ?_, ?_, wFh_fresh 12 (by decide)⟩ <;> decide +kernel
/-- The same with port 0 in the CPRI row of PORT_CONFIG. -/
def wCpri : State := put OD.portConfig 0 9 wFh
theorem witness_FronthaulReceive_cpri :
    has wCpri.front.flowsOn 5 = true ∧ wCpri.flowPort 5 = 0 ∧ wCpri.portOk 0 = true ∧ wCpri.isCpri 0 = true
      ∧ (pairsOf [0#32, 0#32]).length = 1 := by decide +kernel
theorem wCpri_fresh : FreshBuffer wCpri 0 5 0 0 0 1 wHamper 0 := by
  have h0 : wCpri.flowMapN 5 46 41 = 0 := by decide +kernel
  have hb := symbolSize_bounds (wCpri.flowCell 5) 0
  refine ⟨nofun, by decide +kernel, by decide +kernel, by decide +kernel, by decide, rfl, ?_, by omega, ?_, ?_⟩
  · rw [h0]; simp [wHamper, Hamper.bytes]
  · intro g k h; exact absurd h (by decide +kernel)
  · exact world_open_all _ _ _ _ (by decide +kernel) (by decide +kernel) (by decide +kernel) rfl rfl rfl (by decide +kernel) _ _
      (by decide +kernel)
/-- Ports 0 and 1 in one forwarding group, and station 2 known at port 1. -/
def wFwd : State :=
  let s := wFh.setOct OD.groupMembers 0 (leBytes 32 3)
  let s := { s with dict := { s.dict with octForce := s.dict.oct } }
  let s := (List.range 24).foldl (fun s q => s.setOct OD.macAddress q [2, 0, 0, 0, 1, 9]) s
  { s with dict := { s.dict with octForce := s.dict.oct }, front := { s.front with fdb := [⟨1, 2#48, 1, false, false, [], 0, 0, 0⟩] } }
theorem witness_FronthaulReceive_forward :
    wFwd.taken 0 (wEth 64 (.forward 1 3#48 2#48)) ∧ wFwd.keepsFrame 0 2#48 = false ∧ (wFwd.beyond 0 3 64).1 = false
      ∧ (∀ q, q < 24 → wFwd.macOf q ≠ 3#48) ∧ wFwd.members 0 = [0, 1] ∧ wFwd.portOk 1 = true := by
  refine ⟨⟨?_, ?_, ?_, ?_⟩, ?_⟩ <;> decide +kernel
/-- A descriptor in the ring of port 0. -/
theorem witness_FronthaulReceive_ring :
    (wFh.setPort 0 { wFh.port 0 with fwRing := [⟨1, 64, 1, false, 0, ⟨0, 0, 0⟩⟩] }).port 0
        = { wFh.port 0 with fwRing := [⟨1, 64, 1, false, 0, ⟨0, 0, 0⟩⟩] } ∧ (wFh.port 0).fwRing = [] := by decide +kernel

/-- A frame of flow 5 waits in queue 2 of port 0; queue 1 holds a frame that may not start yet. -/
def wFrame (n : Int) (h : Option Nat) : TxFrame :=
  { flow := some 5, handle := h, stamp := none, event := false, length := 64, window := some (n, n + 100), cplane := [(0, 1, 3, 0, 2)] }
/-- Port 0 with these frames in a running block, MACsec on it as given with transmit SA 0 installed. -/
def wTx (sec inst : Bool) (h : Option Nat) : State :=
  let s := { wFh with mode := { wFh.mode with mode := .run } }
  let s := put OD.saEnable 0 (if inst then 1 else 0) s
  let s := s.setPort 0 { s.port 0 with txq := [(1, [wFrame 30000 none]), (2, [wFrame 19950 h])], sas := [(0, ⟨[]⟩)] }
  { s with front := { s.front with macsecOn := if sec then [0] else [] } }
theorem witness_FronthaulTransmit_frames :
    (∀ b, (wTx b true none).portOk 0 = true ∧ Tab.get [] ((wTx b true none).port 0).txq 2 = wFrame 19950 none :: []
      ∧ (wFrame 19950 none).startable (wTx b true none).time.air = true ∧ (wTx b true none).mayTransmit (wFrame 19950 none) = true)
      ∧ Tab.get [] ((wTx true true none).port 0).txq 0 = [] ∧ Tab.get [] ((wTx true true none).port 0).txq 1 = wFrame 30000 none :: []
      ∧ (wFrame 30000 none).startable (wTx true true none).time.air = false
      ∧ (wTx true true none).saInstalled 0 ((wTx true true none).nat OD.txAn 0 % 4) = true
      ∧ (wTx true true none).nat OD.saNextPn 0 < 0xFFFFFFFFFFFFFFFF
      ∧ has (wTx true true none).front.macsecOn 0 = true ∧ (wTx true false none).saInstalled 0 ((wTx true false none).nat OD.txAn 0 % 4) = false
      ∧ (wFrame 19000 none).late 20000 = true := by decide +kernel
/-- The last frame of a compression job, in queue 2. -/
def wLast : State :=
  let s := wCu 1 5 []
  let x := { wFrame 0 (some 0) with window := none }
  let s := s.setPort 0 { s.port 0 with txq := [(2, [x])] }
  s.setJob 10 0 ⟨0, 0, dCu 5, 0, [], false, some 0, 1, false, [], 0⟩
theorem witness_FronthaulTransmit_last :
    wLast.portOk 0 = true ∧ wLast.mayTransmit { wFrame 0 (some 0) with window := none } = true
      ∧ (∀ e ∈ (wLast.setQueue 0 2 []).front.ports, ∀ r ∈ e.2.txq, ∀ z ∈ r.2, z.handle ≠ some 0)
      ∧ wLast.edge.jobs.find? (fun e => decide (e.1 / 256 = 10 ∧ e.2.handle = 0)) = some (2560 + 0, ⟨0, 0, dCu 5, 0, [], false, some 0, 1, false, [], 0⟩)
      ∧ wLast.runsAttempt 0 0 (xCu 1) ∧ (xCu 1).abortPending = false ∧ wLast.imp (xCu 1).imp ≠ none := by
  refine ⟨by decide +kernel, by decide +kernel, by decide +kernel, by decide +kernel, ⟨by decide +kernel, rfl, rfl⟩, rfl, by decide +kernel⟩
/-- In CONFIGURE, flow 5 with alternate port 1. -/
def wSet : State := put OD.flowMatch 5 (2 ^ 41 + 2 ^ 36) wFh
theorem witness_FronthaulTransmit_objects :
    let w := wSet.setSel mgr 0x414001 5
    w.admits mgr OD.flowActivePort 1 ∧ w.itemOf mgr OD.flowActivePort OD.flowActivePort.addr = 5 ∧ w.flowAlt 5 = some 1
      ∧ (wTx true true none).admits mgr OD.txAn 0 ∧ (wTx true true none).itemOf mgr OD.txAn OD.txAn.addr = 0
      ∧ wFh.admits mgr OD.saKey 0 ∧ (let i := wFh.itemOf mgr OD.saKey OD.saKey.addr
          bits (i % 256) 6 5 = 0 ∧ ¬(i % 256 < 128 ∧ 4 ≤ i % 256))
      ∧ wFh.admits mgr OD.macsecEnable 1 ∧ wFh.admits mgr OD.macsecEnable 0
      ∧ (let n := wFh.itemOf mgr OD.macsecEnable OD.macsecEnable.addr
         bits (wFh.nat OD.portConfig n) 3 0 ≠ 9 ∧ [0, 30, 50].contains (wFh.nat OD.confOffset n) = true)
      ∧ wFh.enableMode = true ∧ wFh.admits mgr OD.portEnable 1 ∧ wFh.admits mgr OD.portEnable 0
      ∧ wFh.itemOf mgr OD.portEnable OD.portEnable.addr = 0 ∧ wFh.portReason 0 = 0
      ∧ wFh.admits mgr OD.flowEnable 1 ∧ wFh.admits mgr OD.flowEnable 0 ∧ wFh.itemOf mgr OD.flowEnable OD.flowEnable.addr = 0 := by
  unfold State.admits; decide +kernel
/-- Flow 0 on port 0 for cell 0, no other flow enabled. -/
def wFlow : State :=
  let s := { wFh with front := { wFh.front with flowsOn := [] } }
  s.setPart 3 { state := .enabled }
theorem witness_FronthaulTransmit_flow : wFlow.flowReason 0 = 0 ∧ wFlow.admits mgr OD.flowEnable 1 ∧ wFlow.enableMode = true
    ∧ wFlow.itemOf mgr OD.flowEnable OD.flowEnable.addr = 0 := by
  refine ⟨?_, by unfold State.admits; decide +kernel⟩
  have h1 : wFlow.front.flowsOn = [] := rfl
  have h2 : wFlow.portThere (bits (wFlow.nat OD.flowMatch 0) 4 0) = true := by decide +kernel
  have h3 : bit (wFlow.nat OD.flowMatch 0) 41 = false := by decide +kernel
  have h4 : wFlow.cellThere (bits (wFlow.nat OD.flowMap 0) 9 0) = true := by decide +kernel
  have h5 : wFlow.hamper (bits (wFlow.nat OD.flowMap 0) 24 19) = some wHamper := by decide +kernel
  have h6 : ¬(bits (wFlow.nat OD.txWindow 0) 31 16 ≤ bits (wFlow.nat OD.txWindow 0) 15 0
    ∨ bits (wFlow.nat OD.txWindow 0) 63 48 ≤ bits (wFlow.nat OD.txWindow 0) 47 32) := by decide +kernel
  have h7 : wFlow.flag OD.nsEnable (bits (wFlow.nat OD.flowMap 0) 17 10) = false := by decide +kernel
  have h8 : Config.cellMhz (bits (wFlow.nat OD.flowMap 0) 9 0) ≤ 51200 := Nat.le_of_lt_succ (Config.cellBand _).isLt
  have h9 : ¬51200 < Config.cellMhz (bits (wFlow.nat OD.flowMap 0) 9 0) := by omega
  simp only [not_or] at h6
  simp [State.flowReason, firstFail, h1, h2, h3, h4, h5, h6.1, h6.2, h7, h9]

/-- A lane of port 0 with a signal, in a state of the search; flow 5 moves to port 1. -/
def wLane (sig : Bool) (x : Search) : State :=
  put OD.flowMatch 5 (2 ^ 41 + 2 ^ 36) (wFh.setLane 0 { wFh.lane 0 with signal := sig, search := x, signalAt := 0 })
def wAt (s : State) : State := { s with time := { s.time with run := 10 ^ 18 * nsUnit } }
theorem witness_FronthaulPorts_lane :
    (∀ b, (wLane b .running).lanesPowered = true ∧ (wLane b .running).portOfLane 0 = some 0)
      ∧ ((wLane true .running).activePort 5 = 0 ∧ (wLane true .running).flowPort 5 = 0 ∧ (wLane true .running).flowAlt 5 = some 1
        ∧ (wLane true .running).portOk 1 = true)
      ∧ ((wLane false .none).lane 0).signal = false ∧ ((wLane true .debounce).lane 0).signal = true
      ∧ ((wLane true .debounce).lane 0).search = .debounce
      ∧ ((wAt (wLane true .debounce)).lane 0).signalAt + 1000 * (wAt (wLane true .debounce)).nat OD.laneDebounce 0
        ≤ (wAt (wLane true .debounce)).nowNs := by decide +kernel
/-- Port 2 in row 1 (with FEC), port 0 CPRI in its rate search with two rates. -/
def wPorts : State :=
  let s := put OD.cpriRates 0 5 (put OD.portConfig 0 9 (put OD.portConfig 2 1 (wAt (wLane true .running))))
  { s with front := { s.front with ports := [(0, { cpriState := 1 }), (2, { up := true })], portsOn := [0, 2] } }
theorem witness_FronthaulPorts_port :
    has wFh.front.portsOn 0 = true ∧ (wFh.port 0).defects = 0#6 ∧ wFh.isCpri 0 = false
      ∧ (∀ l ∈ (wLane true .running).portLanes 0, ((wLane true .running).lane l).signal = true ∧ ((wLane true .running).lane l).search = .running)
      ∧ has wPorts.front.portsOn 2 = true ∧ (wPorts.port 2).defects = 0#6 ∧ wPorts.isCpri 2 = false ∧ wPorts.hasFec 2 = true
      ∧ has wPorts.front.portsOn 0 = true ∧ (wPorts.port 0).defects = 0#6 ∧ wPorts.isCpri 0 = true ∧ (wPorts.port 0).cpriState = 1
      ∧ ((List.range 4).filter (fun k => bit (wPorts.govN OD.cpriRates 0) k)).length = 2
      ∧ (wPorts.port 0).rateAt + 1000000 * wPorts.nat OD.rateDwell 0 ≤ wPorts.nowNs := by decide +kernel
/-- A forwarding table with a dynamic entry. -/
def wFdb (st storm : Bool) : State :=
  let s := wAt wFwd
  { s with front := { s.front with fdb := [⟨1, 2#48, 1, st, false, [], 0, 0, 0⟩], storm := storm } }
theorem witness_FronthaulPorts_table :
    (wFdb false false).members 0 ≠ [] ∧ (wFdb false false).members 1 ≠ [] ∧ (2#48 : BitVec 48).toNat / 2 ^ 40 % 2 = 0
      ∧ (wFdb false false).front.fdb.find? (fun e => e.is 1 3#48) = none ∧ (wFdb false false).front.fdb.length < 16384
      ∧ (wFdb false false).front.fdb.find? (fun e => e.is 1 2#48) = some ⟨1, 2#48, 1, false, false, [], 0, 0, 0⟩
      ∧ 0 + (wFdb false false).nat OD.moveHold ≤ (wFdb false false).nowUs ∧ 0 + 1 < (wFdb false false).nat OD.flapLimit
      ∧ (wFdb false true).front.fdb.find? (fun e => e.is 1 2#48) ≠ none ∧ (wFdb true false).front.fdb.find? (fun e => e.is 1 2#48) ≠ none
      ∧ (wFdb false false).nat OD.aging ≠ 0 ∧ (wFdb false false).admits mgr OD.staticEntry 0
      ∧ ((wFdb false false).front.fdb.filter (fun e => !e.is 1 3#48)).length < 16384
      ∧ (wFdb false true).front.storm = true ∧ (wFdb false true).front.stormAt + 1000000 ≤ (wFdb false true).nowUs := by
  unfold State.admits; decide +kernel
/-- PRBS is checked on lane 0; a recalibration is due and holds its token. -/
def wPrbs : State :=
  let s := put OD.lanePrbsConfig 0 32 (put OD.activityEnable 2 1 (put OD.laneMode 0 1 (wAt (wLane true .running))))
  { s with res := { s.res with held := [⟨2, 0⟩] } }
theorem witness_FronthaulPorts_recal :
    wPrbs.lanesPowered = true ∧ wPrbs.govN OD.laneMode 0 ≠ 0 ∧ (wPrbs.lane 0).recalAt + wPrbs.nat OD.recalInterval 0 ≤ wPrbs.runSec
      ∧ wPrbs.flag OD.activityEnable 2 = true ∧ wPrbs.holdsToken 2 0 = true ∧ bit (wPrbs.nat OD.lanePrbsConfig 0) 5 = true
      ∧ ((wPrbs.setLane 0 { wPrbs.lane 0 with prbsLock := true }).lane 0).prbsLock = true
      ∧ wPrbs.num OD.lanePrbsBits 0 ≤ OD.lanePrbsBits.hi ∧ wPrbs.num OD.lanePrbsErrors 0 ≤ OD.lanePrbsErrors.hi
      ∧ wPrbs.admits mgr OD.prbsClear 1 := by unfold State.admits; decide +kernel

/-! ## The Mogil link -/

/-- A block whose group 0 is as given. -/
def wGrp (x : Machine.Group) : State :=
  let s := world (withMgr .configure)
  { s with mogil := { s.mogil with on := true, groups := [(0, x)] }, time := { s.time with run := 10 ^ 12 * nsUnit } }
/-- Eight lanes that are in frame at one position. -/
def wLanes : Tab MogLane := (List.range 9).map (fun k => (k, { inFrame := true, pos := some 7, signal := true }))
def wMarkers : List MarkerRx := (List.range 8).map (fun k => ⟨true, true, k, 0, 0, 0, false, 0, 7⟩)
def wTrain : State := wGrp { state := .training, search := .running, lanes := wLanes }
/-- Cells in the clear, and sealed under epoch 1. -/
def cClear : LinkCell := ⟨[1, 0, 0, 0], 0, 0, 0, false, true⟩
def cSealed : LinkCell := ⟨[1, 0, 0, 0], 3, 5, 1, true, false⟩
def wNeg : State := wGrp { state := .negotiating, offMin := 1, offMax := 2 }
def wFrags : Tab (List Byte) := ((List.range 4).map (fun k => (16 + k, List.replicate 25 1#8))) ++ ((List.range 5).map (fun k => (32 + k, List.replicate 25 2#8)))
/-- Every fragment of the exchange but the last one. -/
def wKex : State := { wGrp { state := .securing, kexRunning := true, kexFrags := wFrags } with freeCtr := 0 }
def wConf : State :=
  wGrp { state := .securing, secured := true, epochTx := 1, epochRx := 1, agreed := some 1, offMin := 1, offMax := 2, peerMax := 1 }
theorem witness_MogilGroups_states :
    ((wTrain.grp 0).state = .training ∧ (wTrain.grp 0).search = .running ∧ wTrain.lanesPowered = true ∧ wTrain.govN OD.alignMode 0 = 0
        ∧ (wTrain.grp 0).defects = 0#8 ∧ 1 ≤ wTrain.nat OD.loseM ∧ wMarkers.length = 8 ∧ spread (wMarkers.map (·.position)) ≤ 32
        ∧ (∀ k, k < 8 → ((wMarkers[k]?.map (fun r => decide (r.present = true ∧ r.typeOk = true ∧ r.lane = k ∧ r.group = 0 ∧ r.rdi = false
          ∧ ((wTrain.grp 0).lane k).inFrame = true ∧ ((wTrain.grp 0).lane k).pos = some r.position)) = some true))))
      ∧ (wNeg.grp 0).state = .negotiating ∧ cClear.epoch = 0 ∧ cClear.tagZero = true ∧ max 1 1 ≤ min 2 3 ∧ min 2 0 < max 1 0
      ∧ (wKex.grp 0).state = .securing ∧ (wKex.grp 0).kexRunning = true
      ∧ (let y := { wKex.grp 0 with kexFrags := Tab.set (wKex.grp 0).kexFrags 37 (List.replicate 25 3#8) }
         (y.fragments 1 4).isSome = true ∧ (y.fragments 2 6).isSome = true)
      ∧ wKex.mogil.kexAt + 100000 ≤ wKex.nowNs ∧ (wKex.grp 0).kexTries < 8
      ∧ 8 ≤ ((wGrp { wKex.grp 0 with kexTries := 8 }).grp 0).kexTries
      ∧ (wConf.grp 0).state = .securing ∧ (wConf.grp 0).secured = true ∧ cSealed.epoch = (wConf.grp 0).epochRx ∧ (wConf.grp 0).lcRx ≤ cSealed.lcCounter
      ∧ (wConf.grp 0).old = false ∧ (wConf.grp 0).agreed = some 1 := by decide +kernel
def wGHold : State := wGrp { state := .hold, lanes := wLanes, search := .running, prbsLock := true }
def wDeb : State := wGrp { state := .hold, lanes := wLanes, search := .debounce }
theorem witness_MogilGroups_lanes :
    (wGHold.grp 0).state = .hold ∧ (wGHold.grp 0).holdAt + oneSecond ≤ wGHold.nowNs ∧ wGHold.lanesPowered = true
      ∧ ((wGrp {}).grp 0).lane 3 = {} ∧ (wDeb.grp 0).search = .debounce ∧ (wDeb.grp 0).signal = true
      ∧ (wDeb.grp 0).signalAt + 1000 * wDeb.nat OD.mogilDebounce ≤ wDeb.nowNs
      ∧ (wGHold.grp 0).signal = true ∧ (wGHold.grp 0).search ≠ .debounce ∧ bit ((put OD.mogilPrbsConfig 0 32 wGHold).nat OD.mogilPrbsConfig 0) 5 = true
      ∧ (wGHold.grp 0).prbsLock = true ∧ (wGHold.grp 0).defects = 0#8 := by decide +kernel
/-- The link as configured for a peer. -/
def wLink : State := (put OD.mogilGroups 0 1 (wGrp {})).setOct OD.peerIdentity 0 (List.replicate 48 7#8)
theorem witness_MogilGroups_enable :
    wLink.mogilReason = (if Config.identityKey then 0 else 0x0B05) ∧ wLink.admits mgr OD.mogilEnable 1 ∧ wLink.admits mgr OD.mogilEnable 0
      ∧ wLink.enableMode = true ∧ bit (wLink.govN OD.mogilGroups) 0 = true ∧ bit (wLink.govN OD.mogilGroups) 1 = false := by
  refine ⟨?_, by unfold State.admits; decide +kernel⟩
  cases h : Config.identityKey <;> simp only [State.mogilReason, h] <;> decide +kernel
/-- A standby whose link has been down for long. -/
def wStandby (healthy : Bool) : State :=
  let s := put OD.takeover 0 1 (put OD.twinRole 0 2 (wGrp {}))
  { s with mogil := { s.mogil with downAt := some 0, peerHealthy := healthy } }
theorem witness_MogilGroups_takeover : ∀ b, (wStandby b).isStandby = true ∧ bit ((wStandby b).nat OD.takeover) 0 = true
    ∧ (wStandby b).linkLost = true ∧ (wStandby b).mogil.peerHealthy = b ∧ (wStandby b).admits mgr OD.takeoverNow 1 := by
  unfold State.admits; decide +kernel

/-- Group 0 active with two packets in its retry buffer. -/
def wPkt (cmd : FabCmd) (arg : Nat) : FabPacket :=
  { cmd := cmd, kind := .mogil, unit := 0, part := 3, priv := false, peer := true, slug := some (0, 0), addr := 0x400000000000, bytes := 4, tag := 0,
    dst := 0, status := 0, arg := BitVec.ofNat 64 arg, data := [1#8, 2#8, 3#8, 4#8], malformed := false }
def wSent (c r : Nat) : Sent := ⟨c, 1, 2, 2, wPkt .msg 0, none, r, false⟩
def wActive : Machine.Group :=
  { state := .active, epochTx := 1, epochRx := 1, nextTx := 5, nextRx := 9, retry := [wSent 3 0, wSent 4 0], lanes := wLanes }
def wTraffic : State :=
  let s := wGrp wActive
  { s with mogil := { s.mogil with groups := [(0, wActive), (1, { state := .hold, retry := [wSent 7 0], resuming := true })] } }
theorem witness_MogilTraffic_cells :
    (wTraffic.grp 0).state = .active ∧ cSealed.epoch = (wTraffic.grp 0).epochRx ∧ (wTraffic.grp 0).nextTx ≠ 0
      ∧ (∀ e ∈ (wTraffic.grp 0).retry, e.resends < wTraffic.nat OD.retryLimit ∧ e.due = false) ∧ (wTraffic.grp 1).state ≠ .active
      ∧ (wTraffic.grp 0).state ≠ .off := by decide +kernel
/-- Channel 2 of partition 3 goes to hamper 0; in `b` its receive has begun; slug 0 has a channel send under way. -/
def wChan (b : Option Nat) : State :=
  let s := put OD.channelMap 2 (2 ^ 31 + 3 * 64) (wGrp { wActive with retry := [] })
  { s with
    mogil := { s.mogil with chanRx := [(5, ⟨b, 4⟩)], chanSent := [(0, 0)] }
    galley := { s.galley with slugs := [(0, slug0 13 .running)], imps := [(1, { imp0 [0] with released := true })] } }
def wMog (p : FabPacket) (n : Nat) : MogPacket := ⟨2, 1, 1, n, true, false, p⟩
theorem witness_MogilTraffic_packets :
    (wChan none).grp 0 = { wActive with retry := [] } ∧ Tab.find (wChan none).mogil.chanRx 2 = none
      ∧ bit ((wChan none).govN OD.channelMap 2) 31 = true ∧ bits ((wChan none).govN OD.channelMap 2) 15 6 = 3
      ∧ bits ((wChan none).govN OD.channelMap 2) 5 0 = 0 ∧ (wChan none).hamper 0 = some wHamper ∧ wHamper.serves 3 false = true
      ∧ Hamper.takes 1 wHamper = some [0] ∧ (wPkt .msg 2).arg.toNat < 256 ∧ (wPkt .msg 261).arg.toNat = 256 + 5
      ∧ Tab.find (wChan none).mogil.chanRx 5 = some ⟨none, 4⟩ ∧ Tab.find (wChan (some 0)).mogil.chanRx 5 = some ⟨some 0, 4⟩
      ∧ Tab.find (wChan none).mogil.chanSent 0 ≠ none ∧ (wChan none).imp 1 ≠ none ∧ (wPkt .rdata 0).malformed = false
      ∧ (wMog (wPkt .msg 2) 9).counter = ((wChan none).grp 0).nextRx ∧ (wMog (wPkt .msg 2) 8).counter ≠ ((wChan none).grp 0).nextRx
      ∧ 0 + 1000 * (wChan none).nat OD.channelTimeout ≤ (wChan none).nowNs := by decide +kernel
theorem witness_MogilTraffic_runs : (wChan none).runsAttempt 0 0 (slug0 13 .running) := ⟨by decide +kernel, rfl, rfl⟩
/-- A packet waits; the entry it belongs to is group 0's. -/
def wWaits (l : List Sent) : State :=
  let s := wGrp { wActive with retry := l }
  { s with mogil := { s.mogil with waitq := [wPkt .msg 2] } }
theorem witness_MogilTraffic_send :
    ((wWaits []).grp 0).state = .active ∧ (wWaits []).startable 0 (wPkt .msg 2) = true ∧ ((wWaits []).grp 0).canSend (wPkt .msg 2) = true
      ∧ ((wWaits []).grp 0).epochTx + 1 < 0xFFFFFFFF ∧ ((wWaits [wSent 3 0]).grp 0).retry ≠ []
      ∧ ((wWaits [wSent 3 0]).grp 0).ackAt + (wWaits [wSent 3 0]).nat OD.retryTimeout ≤ (wWaits [wSent 3 0]).nowNs
      ∧ (∀ e ∈ ((wWaits [wSent 3 0]).grp 0).retry, e.resends < (wWaits [wSent 3 0]).nat OD.retryLimit)
      ∧ (∃ e ∈ ((wWaits [wSent 3 64]).grp 0).retry, (wWaits [wSent 3 64]).nat OD.retryLimit ≤ e.resends)
      ∧ (wTraffic.grp 1).resuming = true ∧ (wTraffic.grp 1).resumeAt + 1000 * wTraffic.nat OD.resumeTimeout ≤ wTraffic.nowNs := by
  decide +kernel
/-- Slug 0 is ready to send 16 bytes on channel 2. -/
def dChan : Nat := wDesc false 1 + 2 * 2 ^ 128 + 16 * 2 ^ 136
def xChan : Slug := { slug0 13 .ready with arg0 := hbmArg 0x20, arg1 := hbmArg 0x40, commit := .external }
def wSendCh (up : Bool) : State :=
  let s := wGrp (if up then { wActive with retry := [] } else {})
  { s with
    mem := Memory.write s.mem 0x1000 (leBytes 64 dChan)
    galley := { s.galley with slugs := [(0, xChan)], imps := [(1, { imp0 [0] with released := true })], unitsOn := true }
    time := { s.time with air := 0 } }
theorem witness_MogilTraffic_channel :
    (∀ b, (wSendCh b).slug 0 = some xChan ∧ (wSendCh b).imp xChan.imp = some { imp0 [0] with released := true }
      ∧ ((wSendCh b).select 13 0).map (·.1) = some 0 ∧ xChan.kind = 1
      ∧ (wSendCh b).loadN ((wSendCh b).argAt (xChan.deliver { imp0 [0] with released := true }) 0) 64 = dChan)
      ∧ headerOk dChan = true ∧ dItems dChan = 1 ∧ bits dChan 511 160 = 0
      ∧ (let y := xChan.deliver { imp0 [0] with released := true }
         y.hasArg 0 = true ∧ y.hasArg 1 = true ∧ y.hasArg 2 = false ∧ y.taint = false)
      ∧ (wSendCh false).linkUp = false ∧ (wSendCh true).linkUp = true := by decide +kernel
theorem witness_MogilTraffic_open (b : Bool) (a n : Nat) (hn : 0 < n) (ha : a + n ≤ 0x600000000) :
    OpenTo (wSendCh b) ⟨.mogil, 0, some 3, false, some (0, 0), false⟩ true false a n := by
  cases b <;> exact world_open _ _ _ _ (by decide +kernel) (by decide +kernel) rfl rfl rfl rfl (by decide +kernel) a n hn ha

/-! ## Fabric and memories -/

/-- A request of CE0 (partition 3), or of the unit given. -/
def fPkt (kind : ReqKind) (cmd : FabCmd) (bytes arg : Nat) (data : List Byte) : FabPacket :=
  { cmd := cmd, kind := kind, unit := 0, part := 3, priv := false, peer := false, slug := none, addr := 0x3000, bytes := bytes, tag := 0,
    dst := 0, status := 0, arg := BitVec.ofNat 64 arg, data := data, malformed := false }
/-- Hamper 0 with buffer 0 in use, and buffer 1 sealed where asked; hamper 1 with nothing left. -/
def wFab : State :=
  let s := world (withMgr .configure)
  { s with fab := { s.fab with hampers := [(0, { wHamper with fresh := 2, inUse := [(0, .unit .dma 0)] }), (1, { wHamper with count := 0 })] } }
theorem wFab_open (kind : ReqKind) (hk : wFab.fenced ⟨kind, 0, some 3, false, none, false⟩ = false) (rd wr : Bool) (a n : Nat) (hn : 0 < n)
    (ha : a + n ≤ 0x600000000) : OpenTo wFab ⟨kind, 0, some 3, false, none, false⟩ rd wr a n :=
  world_open _ _ rd wr (by decide +kernel) (by decide +kernel) rfl rfl rfl rfl hk a n hn ha
theorem witness_FabricPackets :
    wFab.spineOn = true ∧ accOf (fPkt .dma .rd 8 0 []) = ⟨.dma, 0, some 3, false, none, false⟩
      ∧ wFab.fenced ⟨.dma, 0, some 3, false, none, false⟩ = false
      ∧ wFab.memDomain 0x3000 = some 196 ∧ (wFab.domain 196).state = .on ∧ (wFab.domain 196).held = []
      ∧ wFab.hamper 0 = some { wHamper with fresh := 2, inUse := [(0, .unit .dma 0)] } ∧ wHamper.serves 3 false = true
      ∧ Hamper.takes 1 { wHamper with fresh := 2, inUse := [(0, .unit .dma 0)] } = some [2]
      ∧ wFab.hamper 1 = some { wHamper with count := 0 } ∧ Hamper.takes 1 { wHamper with count := 0 } = none
      ∧ wFab.bufUsed 0 = true ∧ wFab.chargedElsewhere (fPkt .dma .free 8 0 []) 0 = false ∧ wFab.bound 0 = false ∧ wFab.waiters (hampOf 0) = []
      ∧ (wFab.hamper (hampOf 0)).isSome = true := by decide +kernel
/-- Buffer 0 sealed and bound in impression 1. -/
def wBound : State :=
  { wFab with
    fab := { wFab.fab with hampers := [(0, { wHamper with fresh := 2, inUse := [(0, .unit .dma 0)], sealedB := [0] })] }
    galley := { wFab.galley with imps := [(1, { imp0 [] with bindings := [(0, 0)] })] } }
theorem witness_FabricPackets_bound : wBound.bufUsed 0 = true ∧ wBound.chargedElsewhere (fPkt .dma .free 8 0 []) 0 = false
    ∧ wBound.bound 0 = true := by decide +kernel
theorem witness_FabricPackets_endpoint : endpointDomain 0 = some 0 ∧ (wFab.domain 0).state = .on ∧ (wFab.domain 0).held = [] := by decide +kernel
theorem witness_FabricPackets_register :
    spanZone 0xF000000100 8 = .devRegs ∧ wFab.fenced ⟨.recovery, 0, none, true, none, false⟩ = false
      ∧ wFab.fenced ⟨.dma, 0, none, false, none, false⟩ = false
      ∧ devReadOnly 0xF000000100 = false ∧ ccReg 0xF000000100 = none ∧ submitReg 0xF000000100 = none ∧ noiseReg 0xF000000100 = none
      ∧ spanZone 0xF000001000 8 = .devRegs ∧ devReadOnly 0xF000001000 = true := by decide +kernel
/-- Links: the first link of router 0, with fifteen and sixteen replays in the last microsecond, and down. -/
def wReplays (n : Nat) : State := { wFab with fab := { wFab.fab with replayAt := [(linkKey 0 0, List.replicate n 0)] } }
def wDownLink : State := { wFab with fab := { wFab.fab with linksDown := linkEnds 0 0 } }
theorem witness_FabricUpkeep_links :
    (wReplays 3).trunkUp 0 0 = true ∧ (recent (wReplays 3).nowNs 1000 (Tab.get [] (wReplays 3).fab.replayAt (linkKey 0 0))).length < 16
      ∧ 16 ≤ (recent (wReplays 15).nowNs 1000 (Tab.get [] (wReplays 15).fab.replayAt (linkKey 0 0))).length
      ∧ has wDownLink.fab.linksDown (linkKey 0 0) = true ∧ (∀ u ∈ [(9, 0)], u.2 < 256 ∧ (wFab.unit u.1 u.2).state ≠ .retired) := by
  decide +kernel
/-- Domain 196 asleep, woken by a read that its router holds. -/
def wWakes (l : List FabPacket) : State :=
  { wFab with
    time := { wFab.time with run := 10 ^ 12 * nsUnit }
    fab := { wFab.fab with domains := [(196, { state := .sleep, waking := true, held := l })] } }
theorem wWakes_open (l : List FabPacket) (h1 : (wWakes l).fenced ⟨.dma, 0, some 3, false, none, false⟩ = false)
    (h2 : (wWakes l).window 3 0 = 7 * 2 ^ 60 + 0x600000 * 2 ^ 36) (h3 : ((wWakes l).domain 196).state = .sleep) :
    OpenTo (wWakes l) (accOf (fPkt .dma .rd 8 0 [])) true false (fPkt .dma .rd 8 0 []).addr (fPkt .dma .rd 8 0 []).bytes :=
  world_open _ _ _ _ (by rw [h3]; exact ⟨nofun, nofun⟩) h2 rfl rfl rfl rfl h1 _ _ (by decide) (by decide)
theorem witness_FabricUpkeep_wakes :
    ((wWakes []).domain 196).state = .sleep ∧ ((wWakes []).domain 196).waking = true ∧ ((wWakes []).domain 196).held = []
      ∧ ((wWakes [fPkt .dma .rd 8 0 []]).domain 196).held = [fPkt .dma .rd 8 0 []]
      ∧ OpenTo (wWakes [fPkt .dma .rd 8 0 []]) (accOf (fPkt .dma .rd 8 0 [])) true false 0x3000 8
      ∧ ((wWakes []).domain 196).wakeAt + (wWakes []).nat OD.wakeTimeout * 1000 ≤ (wWakes []).nowNs := by
  refine ⟨?_, ?_, ?_, ?_, wWakes_open _ (by decide +kernel) (by decide +kernel) (by decide +kernel), ?_⟩ <;> decide +kernel
/-- Bank 3 copies to the spare; the flip is due; the old bank forwards. -/
def wBanks (copy fwd : Bool) : State :=
  let s := if copy then wFab.setBank 3 { wFab.bank 3 with state := .copying } else wFab
  { s with
    time := { s.time with run := 10 ^ 12 * nsUnit }
    fab := { s.fab with copying := if copy then some 3 else none, forwarding := if fwd then some 3 else none } }
theorem witness_FabricUpkeep_banks :
    (wBanks false false).bankIn .spare = some 23 ∧ ((wBanks false false).bank 3).state = .active ∧ (wBanks false false).fab.copying = none
      ∧ (wBanks false false).admits mgr OD.spareNow 1 ∧ ((wBanks false false).setSel mgr 0x900002 3).itemOf mgr OD.spareNow OD.spareNow.addr = 3
      ∧ ((wBanks true false).bank 3).state = .copying ∧ (wBanks true false).bankIn .spare = some 23 ∧ (wBanks true false).logicalBank 3 = some 3
      ∧ (wBanks true false).fab.copyAt + copyNs ≤ (wBanks true false).nowNs
      ∧ (wBanks false true).fab.forwarding = some 3 ∧ (wBanks false true).fab.forwardAt + 1000000 ≤ (wBanks false true).nowNs := by
  unfold State.admits; decide +kernel
/-- The spare is under test, scrubbing has its token. -/
def wTests : State :=
  let s := put OD.activityEnable 6 1 ((wBanks false false).setBank 23 { (wBanks false false).bank 23 with state := .underTest })
  { s with res := { s.res with held := [⟨6, 0⟩, ⟨0, 0⟩, ⟨0, 13⟩] } }
theorem witness_FabricUpkeep_tests :
    wTests.flag OD.activityEnable 6 = true ∧ wTests.fab.testAt + wTests.nat OD.spareTestInterval * oneSecond ≤ (wAt wTests).nowNs
      ∧ wTests.bankIn .underTest = some 23 ∧ wTests.holdsToken 6 0 = true ∧ (∀ a ∈ wTests.res.queue, a.code ≠ 6)
      ∧ wTests.holdsToken 0 0 = true ∧ wTests.holdsToken 0 13 = true
      ∧ wTests.scrubHeld (Tab.get (wTests.scrubRange 0).1 wTests.fab.scrubAt 0) = false
      ∧ wTests.scrubHeld (Tab.get (wTests.scrubRange 13).1 wTests.fab.scrubAt 13) = false := by decide +kernel
/-- Hamper 2 as configured, and hamper 0 not in use. -/
def wHampers : State :=
  let s := put OD.hamperBase 2 0x800000 (put OD.hamperConfig 2 (2 + 2 ^ 6 + 7 * 2 ^ 10) wFab)
  { s with fab := { s.fab with hampers := [(0, wHamper), (1, { wHamper with inUse := [(0, .unit .dma 0)], base := 0x900000 })] } }
theorem witness_FabricUpkeep_hampers :
    wHampers.enableMode = true ∧ wHampers.hamperReason 2 = 0 ∧ (wHampers.setSel mgr 0x620001 2).admits mgr OD.hamperEnable 1
      ∧ wHampers.admits mgr OD.hamperEnable 0 ∧ wHampers.hamper 0 = some wHamper
      ∧ (wHampers.hamper 1).map (fun k => decide (k.inUse ≠ [])) = some true := by unfold State.admits; decide +kernel

/-! ## The host interface -/

/-- Descriptors of the three kinds for queue pair 0: two entries, a list of one element, completion entry and message. -/
def dHost (kind n : Nat) : Nat :=
  wDesc false n + (if kind = 1 then 2 * 2 ^ 144 else 0) + (if kind = 3 then 3 * 2 ^ 140 else 0)
def xHost (kind : Nat) (st : SlugState) : Slug :=
  { slug0 12 st with
    kind := kind, commit := .external, arg0 := hbmArg 0x20, arg1 := if kind = 1 then 0 else hbmArg 0x40
    arg2 := if kind = 3 then hbmArg 0x80 else 0 }
/-- Partition 3 has function 0, whose memory space and bus mastering are on as given, and queue pair 0. -/
def wHost2 (up : Bool) (q : Qp) (x : Slug) (d : Nat) (list : List Byte) : State :=
  let s := put OD.hostFunction 3 0 (world (withMgr .configure))
  { s with
    mem := Memory.write (Memory.write (Memory.write s.mem 0x1000 (leBytes 64 d)) 0x2000 list) 0x4000 list
    time := { s.time with air := 0, run := 10 ^ 12 * nsUnit }
    host := { s.host with fns := [(0, { mse := up, bme := up })], qps := [(0, q)] }
    parts := [(3, { state := .enabled })]
    galley := { s.galley with slugs := [(0, x)], imps := [(1, { imp0 [0] with released := true })], unitsOn := true } }
/-- Queue pair 0 with `n` entries to fetch and `m` completion entries not taken. -/
def wQp (n m : Nat) : Qp := { state := .enabled, part := 3, sqBase := 0x10000, cqBase := 0x20000, sqTail := n, cqTail := m }
theorem witness_HostSlugs_down : ∀ k ∈ [1, 2, 3],
    let s := wHost2 false (wQp 2 0) (xHost k .ready) (dHost k 1) []
    s.slug 0 = some (xHost k .ready) ∧ s.imp 1 = some { imp0 [0] with released := true } ∧ (s.select 12 0).map (·.1) = some 0
      ∧ s.hostJob 0 = none ∧ s.countRunning 12 < 64 ∧ s.pathUp 3 = false := by decide +kernel
/-- A list of one element of 32 bytes, and of nothing. -/
def wList (n : Nat) : List Byte := leBytes 16 (0x30000 + n * 2 ^ 64)
theorem witness_HostSlugs_up : ∀ k ∈ [1, 2, 3], ∀ n ∈ [0, 32], ∀ e ∈ [0, 2],
    let s := wHost2 true (wQp e 0) (xHost k .ready) (dHost k 1) (wList n)
    let y := (xHost k .ready).deliver { imp0 [0] with released := true }
    (s.select 12 0).map (·.1) = some 0 ∧ s.hostJob 0 = none ∧ s.pathUp 3 = true ∧ (s.fn (s.govN OD.hostFunction 3)).ats = false
      ∧ y.hasArg 0 = true ∧ s.loadN (s.argAt y 0) 64 = dHost k 1 ∧ hostDescOk k (dHost k 1) = true
      ∧ y.hasArg 1 = decide (2 ≤ k) ∧ y.hasArg 2 = decide (k = 3) ∧ y.taint = false ∧ s.hostBusy 0 = false
      ∧ s.descQp 3 (dHost k 1) = some 0 ∧ (s.qp 0).available = e
      ∧ (k = 1 → (listReads 0 3 0 ((s.qp 0).entries (min (bits (dHost k 1) 159 144) (s.qp 0).available)) 64 ≠ []) = (e = 2))
      ∧ (k = 2 → (hostList (s.load (s.argAt y 1) (16 * dItems (dHost k 1))) (dItems (dHost k 1))).map (·.2) = [(n, true)])
      ∧ (k = 3 → (hostList (s.load (s.argAt y 2) (16 * dItems (dHost k 1))) (dItems (dHost k 1))).map (·.2) = [(n, true)]) := by
  decide +kernel
theorem wHost2_open (q : Qp) (k : Nat) (st : SlugState) (d : Nat) (l : List Byte) (rd wr : Bool) (a n : Nat) (ha : a + n ≤ 0x600000000) :
    OpenAll (wHost2 true q (xHost k st) d l) ⟨.host, 0, some 3, false, some (0, 0), false⟩ rd wr a n := by
  have hd : ((wHost2 true q (xHost k st) d l).domain 196).state = .on :=
    (show ((world (withMgr .configure)).domain 196).state = .on by decide +kernel)
  have hw : (wHost2 true q (xHost k st) d l).window 3 0 = 7 * 2 ^ 60 + 0x600000 * 2 ^ 36 :=
    (show (put OD.hostFunction 3 0 (world (withMgr .configure))).window 3 0 = _ by decide +kernel)
  exact world_open_all _ _ rd wr (by rw [hd]; exact ⟨nofun, nofun⟩) hw rfl rfl rfl rfl rfl a n ha
theorem witness_HostSlugs_outputs (q : Qp) (k size : Nat) (st : SlugState) (d : Nat) (l : List Byte) (hs : size ≤ 65536) :
    Outputs (wHost2 true q (xHost k st) d l) ⟨.host, 0, some 3, false, some (0, 0), false⟩ 3 0 size wHamper [0] := by
  refine ⟨rfl, by decide, by decide, by decide, hs, fun b hb => ?_⟩
  cases List.mem_singleton.mp hb
  exact ⟨by decide, by decide, wHost2_open q k st d l false true _ _ (by decide)⟩
/-- DELIVER finds its completion ring full, or not, at the ring's end. -/
theorem witness_HostSlugs_ring :
    (∀ n ∈ [0, 32], (wHost2 true (wQp 0 15) (xHost 3 .ready) (dHost 3 1) (wList n)).pathUp 3 = true)
      ∧ ((wHost2 true (wQp 0 15) (xHost 3 .ready) (dHost 3 1) (wList 32)).qp 0).cqFull = true
      ∧ ((wHost2 true (wQp 0 14) (xHost 3 .ready) (dHost 3 1) (wList 32)).qp 0).cqFull = false
      ∧ bit (dHost 3 1) 141 = true ∧ bit (dHost 3 1) 140 = true
      ∧ (wHost2 true (wQp 0 15) (xHost 3 .ready) (dHost 3 1) (wList 32)).descQp 3 (dHost 3 1) = some 0 := by decide +kernel
/-- A request of slug 0, which runs, has tag 5. -/
def wReq : HReq := ⟨0, 3, 0, 0x10000, 128, 64⟩
def wJobs (k : Nat) : Job := ⟨0, 0, dHost k 1, 0, [0], false, none, 2, false, [], 0⟩
def wTags (k : Nat) : State :=
  let x := { xHost k .running with resolved := [some (hbmArg 0x20), none, none] }
  let s := (wHost2 true (wQp 2 0) x (dHost k 1) [])
  { s with
    edge := { s.edge with jobs := [(hostKey 0, wJobs k)] }
    host := { s.host with tags := [(5, { req := wReq })], cqWaiting := [0] }
    fab := { s.fab with hampers := [(0, { wHamper with fresh := 1, inUse := [(0, .attempt 0 0)] })] } }
theorem witness_HostSlugs_ends : ∀ k ∈ [1, 2],
    (wTags k).slug 0 = some { xHost k .running with resolved := [some (hbmArg 0x20), none, none] } ∧ (wTags k).imp 1 ≠ none
      ∧ has (wTags k).host.cqWaiting 0 = true ∧ Tab.get 0 (wTags k).host.cqAt 0 + (wTags k).nat OD.cqWait * 1000 ≤ (wTags k).nowNs
      ∧ Tab.find (wTags k).host.tags 5 = some { req := wReq } ∧ 0 + (wTags k).cplTimeoutNs ≤ (wTags k).nowNs
      ∧ (wTags k).hostJob 0 = some (wJobs k) ∧ bits (wJobs k).desc 33 24 < 1 ∧ (wTags k).hostOut (wJobs k) = 0x100000
      ∧ (wTags k).descQp 3 (wJobs k).desc = some 0 ∧ (wTags k).host.heldReqs = [] := by decide +kernel
theorem witness_HostSlugs_written (k : Nat) (hk : k ∈ [1, 2]) (a n : Nat) (hn : 0 < n) (ha : a + n ≤ 0x600000000) :
    OpenTo (wTags k) ⟨.host, 0, some 3, false, some (0, 0), false⟩ false true a n := by
  simp only [List.mem_cons, List.not_mem_nil, or_false] at hk
  rcases hk with rfl | rfl <;>
    exact world_open _ _ _ _ (by decide +kernel) (by decide +kernel) rfl rfl rfl rfl (by decide +kernel) a n hn ha
/-- Doorbells: two entries announced of ring 0 and two completion entries to take. -/
def wBells : State := wHost2 true { wQp 2 2 with cqHead := 0 } (xHost 1 .ready) (dHost 1 1) []
theorem witness_HostFunctions_doorbells :
    wBells.doorbell 0 0 = some 0 ∧ (wBells.qp 0).state = .enabled ∧ 5 < (wBells.qp 0).sqSize
      ∧ ((wBells.qp 0).sqTail + (wBells.qp 0).sqSize - (wBells.qp 0).sqHead) % (wBells.qp 0).sqSize
        ≤ (5 + (wBells.qp 0).sqSize - (wBells.qp 0).sqHead) % (wBells.qp 0).sqSize
      ∧ (1 + (wBells.qp 0).cqSize - (wBells.qp 0).cqHead) % (wBells.qp 0).cqSize
        ≤ ((wBells.qp 0).cqTail + (wBells.qp 0).cqSize - (wBells.qp 0).cqHead) % (wBells.qp 0).cqSize
      ∧ wBells.host.cqWaiting = [] ∧ (wBells.qp 0).sqSize ≤ 16 ∧ (wBells.qp 0).cqSize ≤ 16
      ∧ (wHost2 true { wQp 0 0 with state := .error } (xHost 1 .ready) (dHost 1 1) []).doorbell 0 0 = some 0 := by decide +kernel
/-- Queue pair 0 configured for partition 3, and not. -/
def wQpCfg (own : Nat) : State :=
  put OD.msixQuota 3 64 (put OD.qpQuota 3 8 (put OD.qpOwner 0 own { wBells with host := { wBells.host with qps := [] } }))
theorem witness_HostFunctions_enable :
    (wQpCfg (2 ^ 31 + 3)).qpReason 0 = 0 ∧ (wQpCfg 3).qpReason 0 ≠ 0 ∧ ((wQpCfg 3).qp 0).state = .disabled
      ∧ (wQpCfg 3).admits mgr OD.qpEnable 1 ∧ (wQpCfg 3).admits mgr OD.qpEnable 0
      ∧ (wQpCfg 3).itemOf mgr OD.qpEnable OD.qpEnable.addr = 0 := by unfold State.admits; decide +kernel
/-- Function 1 of a host with virtual functions: a vector pending, a request out. -/
def wFns (on : Bool) : State :=
  let x := { xHost 1 .running with resolved := [] }
  let s := put OD.hostFunction 3 1 (wHost2 true (wQp 0 0) x (dHost 1 1) [])
  { s with
    host := { s.host with vfEnable := true, numVfs := 2, tags := [(5, { req := { wReq with fn := 1 } })],
                          fns := [(1, { mse := true, bme := on, msixOn := on, pending := [4], unmasked := if on then [4] else [] })] } }
theorem witness_HostFunctions_function : ∀ b,
    (wFns b).fnExists 1 = true ∧ ((wFns b).fn 1).inFlr = false ∧ has ((wFns b).fn 1).pending 4 = true
      ∧ ((wFns true).fn 1).bme = true ∧ ((wFns true).fn 1).msixOn = true
      ∧ (wFns b).partOfFn 1 = some 3 ∧ (wFns b).hostSlugs 3 = [0] ∧ (wFns b).imp 1 ≠ none
      ∧ (wFns b).slug 0 = some { xHost 1 .running with resolved := [] } ∧ ((wFns b).fn 0).inFlr = false
      ∧ wBells.host.vfEnable = false ∧ (wBells.fn 0).inFlr = false := by decide +kernel
theorem witness_HostFunctions_tags :
    let z : HTag := { req := wReq, quarantined := true, late := true }
    let s : State := { wBells with host := { wBells.host with tags := [(5, z), (6, { req := wReq, dead := true })] } }
    Tab.find s.host.tags 5 = some z ∧ s.host.heldReqs = [] ∧ z.resetAt + s.cplTimeoutNs ≤ s.nowNs
      ∧ Tab.find s.host.tags 6 = some { req := wReq, dead := true } := by decide +kernel

/-! ## Partitions -/

/-- Partition 3 in a state, with impression 1 live where asked and queue pair 0. -/
def wPart (st : PartState) (imp closing : Bool) : State :=
  let s := wHost2 true (wQp 0 0) (slug0 3 .ready) 0 []
  { s with
    parts := [(3, { state := st, closing := closing })]
    galley := if imp then s.galley else { s.galley with slugs := [], imps := [] } }
def may3 (s : State) (o : Obj) (v : Int) : Prop := s.accessReason mgr o 3 ⟨0xA403, o.sub⟩ true = 0 ∧ o.inRange 3 v = true
theorem witness_PartitionControls :
    may3 (wPart .configured false false) OD.partEnable 1 ∧ may3 (wPart .configured false false) OD.partEnable 0
      ∧ ((wPart .configured false false).part 3).state = .configured ∧ (wPart .configured false false).enableMode = true
      ∧ (wPart .configured false false).partReason 3 = 0
      ∧ (put OD.qpQuota 3 20000 (wPart .configured false false)).partReason 3 ≠ 0
      ∧ ((wPart .enabled true false).part 3).state = .enabled ∧ ((wPart .paused true false).part 3).state = .paused
      ∧ (wPart .paused true false).heldByTwin 3 = false
      ∧ may3 (wPart .enabled true false) OD.partPause 1 ∧ may3 (wPart .paused true false) OD.partPause 0 ∧ may3 (wPart .enabled true false) OD.partReset 1
      ∧ (wPart .configured true true).impsOf 3 ≠ [] ∧ (wPart .resetting false false).impsOf 3 = [] ∧ (wPart .resetting true false).impsOf 3 ≠ []
      ∧ ((wPart .resetting true false).part 3).resetAt + (wPart .resetting true false).nat OD.resetLimit 3 * 1000000 ≤ (wPart .resetting true false).nowNs
      ∧ ((wPart .configured true true).part 3).closeAt + (wPart .configured true true).nat OD.resetLimit 3 * 1000000 ≤ (wPart .configured true true).nowNs := by
  unfold may3; decide +kernel
/-- The control falls on a slot boundary, and between two. -/
theorem witness_PartitionControls_tie :
    (∃ e ∈ ({ wPart .enabled true false with time := { (wPart .enabled true false).time with slotAt := [(0, 0)] } } : State).time.slotAt,
        e.2 = (0 : Int) ∧ (put OD.cellPartition 0 3 (wPart .enabled true false)).govN OD.cellPartition e.1 = 3)
      ∧ (put OD.cellPartition 0 3 (wPart .enabled true false)).time.air = 0
      ∧ ¬((wPart .enabled true false).subNow = true ∨ ∃ e ∈ (wPart .enabled true false).time.slotAt,
        e.2 = (wPart .enabled true false).time.air ∧ (wPart .enabled true false).govN OD.cellPartition e.1 = 3) := by decide +kernel

/-! ## Pothiquin -/

/-- Session 0 of path 0 with version 0, as given otherwise. -/
def sess : Session := { path := 0, role := 0, part := 0, version := some 0, nextAlarm := 1 }
def wSes (m : Mode) (x : Session) : State := { (inMode m).setSession 0 x with time := { (inMode m).time with run := 10 ^ 12 * nsUnit } }
def aSev : Addr := OD.alarmPinSeverity.addr
/-- An entry that a WRITE refuses: a value of ALARM_PIN_SEVERITY beyond its range. -/
def badEntry : WEntry := ⟨aSev, OD.alarmPinSeverity.ty, leBytes 1 9⟩
def isErr (r : Except (WEntry × Fail) State) : Bool := match r with | .error (e, f) => decide (e = badEntry ∧ f.reason ≠ 0) | _ => false
/-- A segmented write of DL_MASK that lacks two bytes, and a snapshot of MANUFACTURER. -/
def sessSegs : Session :=
  { sess with
    segs := { reads := [(OD.alarmPinSeverity.addr, 0, [1#8, 2#8, 3#8])],
              writes := [⟨OD.dlMask.addr, 0, 4, [1#8, 2#8], 0⟩] } }
theorem witness_DictionaryRequests_session :
    let s := wSes .configure sess
    Tab.find s.pot.sessions 0 = some sess ∧ has s.pot.mpOn sess.path = true ∧ (∀ e ∈ sess.cache, e.1 ≠ 7)
      ∧ ([aSev].flatMap (s.readEntry mgr)).length ≤ 1384
      ∧ s.accessReason mgr OD.alarmPinSeverity 0 aSev true 1 = 0 ∧ OD.alarmPinSeverity.inRange 0 2 = true
      ∧ isErr (State.writeSeq mgr [badEntry] s) = true ∧ writeLength [badEntry] ≤ 1400
      ∧ (locate aSev).toOption.isSome = true ∧ (s.readAddr mgr aSev).toOption.isSome = true
      ∧ (locate ⟨0xFFFF, 1⟩).toOption.isSome = false
      ∧ s.dict.storing = none ∧ s.storedBytes ≤ 6291456 := by decide +kernel
theorem witness_DictionaryRequests_segments :
    let s := wSes .configure sessSegs
    sessSegs.segs.reads.find? (snapIs aSev (s.itemOf mgr OD.alarmPinSeverity aSev)) = some (aSev, 0, [1#8, 2#8, 3#8]) ∧ (2 : Nat) ≠ 0
      ∧ s.accessReason mgr OD.dlMask (s.itemOf mgr OD.dlMask OD.dlMask.addr) OD.dlMask.addr true 0 true = 0 ∧ OD.dlMask.lengthOk 4 = true
      ∧ sessSegs.segs.writes.find? (fun w => w.is OD.dlMask.addr (s.itemOf mgr OD.dlMask OD.dlMask.addr)) = some ⟨OD.dlMask.addr, 0, 4, [1#8, 2#8], 0⟩
      ∧ (locate OD.dlMask.addr).toOption = some OD.dlMask := by decide +kernel
theorem witness_DictionaryRequests_other :
    (∀ e ∈ ({ sess with cache := [(7, {}, [])] } : Session).cache, e.1 = 7)
      ∧ (wSes .run sess).mode.mode ≠ .configure
      ∧ (let s : State := { wSes .configure sess with dict := { (wSes .configure sess).dict with storing := some (mgr, 7) } }
         s.dict.storing = some (mgr, 7))
      ∧ wBells.fnExists 0 = true ∧ (wBells.fn 0).mse = true ∧ (wBells.fn 0).inFlr = false ∧ wBells.mode.mode ≠ .off
      ∧ (∀ e ∈ wBells.host.fns, e.2.mbWait = []) ∧ (wBells.fn 0).mbRunning = none ∧ (wBells.roleOf (.mailbox 0)).isSome = true
      ∧ ([aSev].flatMap (wBells.readEntry (.mailbox 0))).length ≤ 1384
      ∧ (wSes .configure sess).accessReason mgr OD.statusSticky 0 OD.statusSticky.addr true 4 = 0
      ∧ (wSes .configure sess).accessReason mgr OD.roleEntry 0 OD.roleEntry.addr true 52 = 0
      ∧ (wSes .configure sess).itemOf mgr OD.roleEntry OD.roleEntry.addr = 0
      ∧ (wSes .configure sess).admits mgr OD.mpEnable 1 ∧ (wSes .configure sess).admits mgr OD.mpEnable 0 := by
  unfold State.admits; decide +kernel
/-- A management entry, enabled, and one disabled. -/
def wRole (en : Nat) : List Byte := List.replicate 48 5#8 ++ leBytes 1 0 ++ leBytes 1 en ++ leBytes 2 0
theorem witness_DictionaryRequests_role :
    let s := (wSes .configure sess).setOct OD.roleEntry 0 (wRole 1)
    (wRole 0).length = 52 ∧ roleOfEntry (wRole 0) ∈ [0, 1, 3] ∧ field (wRole 0) 49 49 ≤ 1 ∧ entryPart (wRole 0) ≤ 1023
      ∧ entryEnabled (wRole 1) = true ∧ entryEnabled (wRole 0) = false ∧ entryEnabled (s.oct OD.roleEntry 0) = true
      ∧ (∀ j, j < 32 → j ≠ 0 → ¬(entryEnabled (s.oct OD.roleEntry j) = true ∧ roleOfEntry (s.oct OD.roleEntry j) = 0)) := by decide +kernel
/-- The SMBus port has a pointer, to an object and to none. -/
theorem witness_DictionaryRequests_smbus :
    (inMode .configure).mode.mode ≠ .off ∧ ((inMode .configure).readAddr .smbus aSev).toOption.isSome = true
      ∧ ((inMode .configure).readAddr .smbus ⟨0xFFFF, 1⟩).toOption.isSome = false := by decide +kernel
theorem witness_PothiquinSessions_hello :
    let s := wSes .configure sess
    has s.pot.mpOn sess.path = true ∧ (∀ e ∈ sess.cache, e.1 ≠ 7)
      ∧ (0 ≤ 0 ∧ 0 ≤ 3 ∧ bits (s.nat OD.potVersions) 2 0 ≤ 0 ∧ 0 ≤ bits (s.nat OD.potVersions) 5 3)
      ∧ (∀ k, k ≤ bits (s.nat OD.potVersions) 5 3 → ¬(9 ≤ k ∧ k ≤ 12))
      ∧ streamsFit (s.periodsWith 0 3 1000) = true
      ∧ (let b : Session := { sess with streams := (List.range 40).map (fun n => (n, { period := 10, entries := [], next := 0, dropped := 0, dueAt := 0 })) }
         streamsFit ((wSes .configure b).periodsWith 0 41 10) = false) := by decide +kernel
/-- A stream that is due; a summary that waits; sixteen records not acknowledged; the record with sequence 5 to be sent. -/
def wStream : Stream := { period := 1000, entries := [aSev], next := 4, dropped := 2, dueAt := 0 }
def wAlarm : AlarmRec := ⟨5, 0x0901, 3, .raised, 0, none, 1, 0, 0⟩
def wAl (x : Session) : State :=
  let s := wSes .configure x
  { s with alarms := { s.alarms with general := [wAlarm] } }
theorem witness_PothiquinSessions_streams :
    Tab.find (wSes .configure { sess with streams := [(3, wStream)] }).pot.sessions 0 = some { sess with streams := [(3, wStream)] }
      ∧ wStream.dueAt ≤ (wSes .configure sess).nowNs
      ∧ Tab.find (wSes .configure { sess with summary := some [1#8] }).pot.sessions 0 = some { sess with summary := some [1#8] }
      ∧ (wAl sess).queuedFor sess = [wAlarm] ∧ sess.nextAlarm ≤ wAlarm.seq ∧ sess.summary = none ∧ sess.unacked.length < 16 ∧ sess.missing = []
      ∧ 16 ≤ (List.range 16).length ∧ has ({ sess with unacked := [5] } : Session).unacked wAlarm.seq = true
      ∧ ((wAl sess).alarms.critical ++ (wAl sess).alarms.general).find? (fun a => decide (a.seq = wAlarm.seq)) = some wAlarm
      ∧ Tab.get 0 sess.sentAt wAlarm.seq + oneSecond ≤ (wAl sess).nowNs ∧ sess.version ≠ none := by decide +kernel
theorem witness_PothiquinSessions_rest :
    (let s := { wSes .configure sess with time := { (wSes .configure sess).time with tb := 10 ^ 12 * nsUnit } }
     s.nowSec ≠ s.alarms.summarySec)
      ∧ has (inMode .configure).pot.mpOn 0 = true
      ∧ (let s : State := { inMode .configure with pot := { (inMode .configure).pot with starts := [(0, ((inMode .configure).nowSec, 3)), (1, ((inMode .configure).nowSec, 16))], pending := [0] } }
         Tab.find s.pot.starts 0 = some (s.nowSec, 3) ∧ Tab.find s.pot.starts 1 = some (s.nowSec, 16) ∧ has s.pot.pending 0 = true
         ∧ Tab.find s.pot.sessions 0 = none ∧ s.pot.sessions.length < s.nat OD.maxSessions)
      ∧ (let s := (inMode .configure).setOct OD.roleEntry 2 (wRole 1)
         s.roleEntries.find? (fun j => decide ((s.oct OD.roleEntry j).take 48 = List.replicate 48 5#8)) = some 2)
      ∧ ((put OD.maxSessions 0 1 (wSes .configure sess)).nat OD.maxSessions) ≤ (wSes .configure sess).pot.sessions.length
      ∧ sess.lastAt + (wSes .configure sess).nat OD.sessionIdle * oneSecond ≤ (wSes .configure sess).nowNs
      ∧ ({ wSes .configure sess with alarms := { (wSes .configure sess).alarms with pinHold := some 0 } } : State).passed 0 100000000 = true := by
  decide +kernel

/-! ## Security -/

/-- A block whose fuses, debug access and regions are as reset leaves them, or as given. -/
def wSecure (f : Option (FuseItem × Nat × Nat)) (d : Debug) (r : Region) : State :=
  let s := wSes .configure sess
  { s with sec := { s.sec with fuse := f, dbg := d, regions := [(0, r)] } }
theorem witness_SecurityCommands_fuses :
    (∀ i ∈ [FuseItem.sigPolicy, .keyRevoke, .rollback, .debugForbid], (wSecure none {} {}).fuseReason i 0 ((wSecure none {} {}).sec.fuseVal i 0) = 0)
      ∧ (wSecure none {} {}).admits mgr OD.debugForbid 1 ∧ (wSecure none {} {}).sec.fuse = none
      ∧ (let s : State := { wSecure none {} {} with sec := { (wSecure none {} {}).sec with debugForbid := 3#4 } }
         clearsFuse .debugForbid (s.sec.fuseVal .debugForbid 0) 1 = true)
      ∧ (wSecure (some (.debugForbid, 0, 1)) {} {}).sec.fuse = some (.debugForbid, 0, 1) := by unfold State.admits; decide +kernel
def okAnswer : DbgAnswer := ⟨true, true, true, true, true, true⟩
def badAnswer : DbgAnswer := ⟨true, true, false, true, true, true⟩
theorem witness_SecurityCommands_debug :
    ({} : Debug).lockout = false ∧ ({ lockout := true } : Debug).lockout = true ∧ ({ nonce := some 5 } : Debug).nonce ≠ none
      ∧ (wSecure none { nonce := some 5 } {}).sec.answerOk okAnswer = true ∧ (wSecure none {} {}).sec.answerOk badAnswer = false
      ∧ ({} : Debug).lockAt + 60 * oneSecond ≤ (wSecure none {} {}).nowNs
      ∧ (∀ k, k < 4 → ({ granted := 15#4 } : Debug).granted.getLsbD k = true) ∧ ((wSecure none {} {}).unit 0 5).state ≠ .retired
      ∧ ({} : Debug).granted = 0#4 ∧ JtagIns.bypass ≠ .idcode := by decide +kernel
/-- A packet of the debug unit for HBM. -/
theorem witness_SecurityCommands_memory :
    let s : State := { wFab with sec := { wFab.sec with dbg := { granted := 15#4 } } }
    (s.memDomain 0x3000 = some 196 ∧ (s.domain 196).state = .on ∧ (s.domain 196).held = []) ∧ s.spineOn = true
      ∧ accOf { fPkt .debug .rd 8 0 [] with kind := .debug, peer := false } = ⟨.debug, 0, some 3, false, none, false⟩
      ∧ OpenTo s ⟨.debug, 0, some 3, false, none, false⟩ true false 0x3000 8 := by
  refine ⟨by decide +kernel, by decide +kernel, by decide +kernel, ?_⟩
  exact world_open _ _ _ _ (by decide +kernel) (by decide +kernel) rfl rfl rfl rfl (by decide +kernel) _ _ (by decide) (by decide)
/-- Region 0 as configured in HBM; in initialisation; re-keyed at block 0 of four, or at its only block left. -/
def wRegion (base : Nat) : State := put OD.metadataBase 0 0x40000 (put OD.regionSize 0 1 (put OD.regionBase 0 base (wSecure none {} {})))
def rReg (st : RegionState) (left : Bool) : Region :=
  { state := st, base := 0x10000, pages := 1, metaBase := 0x40000, generation := 2, work := some (0, 0), key := some 1,
    blockGen := if left then [(1, 2), (2, 2), (3, 2)] else [] }
/-- A block in use of a region that no access has written since its initialisation passes its check. -/
def rKey (left : Bool) : Region := { rReg .rekeying left with prevKey := some 9 }
theorem read_nil (a n : Nat) : Memory.read [] a n = List.replicate n 0#8 := by
  induction n generalizing a with
  | zero => rfl
  | succ n ih => rw [Memory.read, ih, List.replicate_succ]; rfl
theorem rKey_lines (left : Bool) (d : Debug) (l : Nat) (hl : l < 16) : (wSecure none d (rKey left)).lineOk (rKey left) l = true := by
  have hg : (rKey left).genOf 0 = 1 := by cases left <;> rfl
  have hk : (rKey left).keyOf 1 = some 9 := by cases left <;> rfl
  have hb : l / 16 = 0 := by omega
  have hm : (wSecure none d (rKey left)).load ((rKey left).base + 64 * l) 64 = List.replicate 64 0#8 := by
    have he : (wSecure none d (rKey left)).mem = [] := rfl
    rw [State.load, he]; exact read_nil _ _
  have h1 : (rKey left).heldMac l = lineMacOf 9 ((rKey left).base + 64 * l) 0 1 (cipherLine 9 ((rKey left).base + 64 * l) 0 (List.replicate 64 0#8)) := by
    have : Tab.find (rKey left).lineMac l = none := rfl
    simp [Region.heldMac, this, hk]
  have h2 : (rKey left).heldBlockMac 0 = (rKey left).blockMacOf 9 0 := by
    have : Tab.find (rKey left).blockMac 0 = none := rfl
    cases left
    · simp only [Region.heldBlockMac, this, hk]; rfl
    · simp only [Region.heldBlockMac, this, hk, Region.blockMacOf]; rfl
  have h3 : Tab.get 0 (rKey left).lineCtr l = 0 := rfl
  have h4 : (rKey left).isProtected = true := rfl
  simp [State.lineOk, hg, hk, h1, h2, hb, h3, State.lineCipher, hm]
/-- The block's second step with its lines sound, one block left or three, and with no key to check them by. -/
def wRekey (r : Region) (hold : Bool) : State :=
  let s := put OD.activityEnable 1 1 (wSecure none {} r)
  { s with res := { s.res with held := if hold then [⟨1, 0⟩] else [] } }
theorem wRekey_lineOk (left hold : Bool) (l : Nat) (hl : l < 16) : (wRekey (rKey left) hold).lineOk (rKey left) l = true := rKey_lines left {} l hl
theorem witness_SecurityCommands_sound (left : Bool) : (wRekey (rKey left) true).badLine (rKey left) ((List.range 16).map (16 * 0 + ·)) = none := by
  have h : ∀ l ∈ (List.range 16).map (16 * 0 + ·), (!(wRekey (rKey left) true).lineOk (rKey left) l) = false := by
    intro l hl
    have hl' : l < 16 := by
      simp only [List.mem_map, List.mem_range] at hl
      omega
    rw [wRekey_lineOk left true l hl']; rfl
  unfold State.badLine
  rw [if_pos (show (rKey left).isProtected = true from rfl), List.find?_eq_none]
  intro l hl; rw [h l hl]; exact nofun
theorem witness_SecurityCommands_regions :
    (wRegion 0x10000).regionReason 0 = 0 ∧ (wRegion 5).regionReason 0 ≠ 0 ∧ (wRegion 5).enableMode = true
      ∧ ((wRegion 5).region 0).state = .disabled ∧ (wRegion 5).admits mgr OD.regionEnable 1
      ∧ (wRekey (rReg .active false) false).admits mgr OD.regionEnable 0 ∧ (wRekey (rReg .active false) false).admits mgr OD.rekeyNow 1
      ∧ (wRekey (rReg .active false) false).itemOf mgr OD.rekeyNow OD.rekeyNow.addr = 0
      ∧ ((wRekey (rReg .active false) false).region 0).state = .active ∧ (wRekey (rReg .active false) false).flag OD.activityEnable 1 = true
      ∧ (wRekey { rReg .active false with isProtected := false } false).region 0 = { rReg .active false with isProtected := false }
      ∧ ((wRekey (rReg .initialising false) false).region 0).state = .initialising
      ∧ (wRekey (rReg .initialising false) false).holdsToken 1 0 = false := by unfold State.admits; decide +kernel
theorem witness_SecurityCommands_rekey : ∀ left,
    (wRekey (rKey left) true).region 0 = rKey left ∧ (wRekey (rKey left) true).holdsToken 1 0 = true
      ∧ (rKey left).workAt + 1024000 / (wRekey (rKey left) true).nat OD.rekeyRate ≤ (wRekey (rKey left) true).nowNs
      ∧ Tab.get 0 (rKey left).version 0 = 0 ∧ (rKey left).held = [] ∧ Tab.get 0 ({ rKey left with version := [(0, 3)] } : Region).version 0 ≠ 0
      ∧ ¬((rKey left).topVersion < (wRekey (rKey left) true).nat OD.rekeyThreshold
        ∧ (wRekey (rKey left) true).nat OD.rekeyThreshold ≤ ((rKey left).rekeyed 0).topVersion)
      ∧ (∀ c, c < 4 → c ≠ 0 → ((rKey true).genOf c = (rKey true).generation ∧ (rKey false).genOf c ≠ (rKey false).generation))
      ∧ (rKey left).blocks = 4 ∧ (∀ a ∈ (wRekey (rKey left) true).res.queue, a.code ≠ 1)
      ∧ (wRekey (rReg .rekeying left) true).badLine (rReg .rekeying left) ((List.range 16).map (16 * 0 + ·)) = some 0
      ∧ (put OD.quarantineOnFail 0 1 (wRekey (rReg .rekeying left) true)).flag OD.quarantineOnFail 0 = true := by decide +kernel

/-! ## Power, clocks and thermal -/

/-- A block at a throttle level with this power state; rail 0 is on and core 0's domain awake. -/
def wPow (k : Nat) (p : PowerSt) : State :=
  let s := put OD.throttleLevel 0 k (allOn (wSes .run sess))
  { s with power := { p with railsOn := [0] } }
theorem witness_PowerCommands_loop :
    (wPow 3 {}).mode.mode ≠ .off ∧ (wPow 3 {}).effCap < 5000 ∧ 2900 ≤ (wPow 3 {}).effCap ∧ (wPow 3 {}).nat OD.throttleLevel = 3
      ∧ ¬(2900 + (wPow 3 {}).nat OD.capHeadroom * 10 < (wPow 3 {}).effCap ∧ 99 ≤ 0 ∧ ({} : PowerSt).withdrawn = [])
      ∧ 100 + (wPow 1 { below := 99 }).nat OD.capHeadroom * 10 < (wPow 1 { below := 99 }).effCap ∧ (wPow 1 { below := 99 }).power.withdrawn = []
      ∧ (wPow 16 { above := 10 }).withdrawClass = some 0 ∧ ((wPow 16 { above := 10 }).inService 0).getLast? = some 95
      ∧ unitDomain 0 95 = some 95 ∧ ((wPow 16 { above := 10 }).unit 0 95).held = none := by decide +kernel
/-- Core 95 withdrawn, its domain locked off. -/
def wWithdrawn : State :=
  let s := (wPow 3 { withdrawn := [unitKey 0 95], below := 100 }).setUnit 0 95 { withdrawn := true }
  s.setDomain 95 { state := .lockedOff }
theorem witness_PowerCommands_return :
    wWithdrawn.power.withdrawn = unitKey 0 95 :: [] ∧ 100 ≤ wWithdrawn.power.below ∧ unitDomain 0 95 = some 95
      ∧ (wWithdrawn.domain 95).state = .lockedOff ∧ (wWithdrawn.unit 0 95).state ≠ .retired ∧ (wWithdrawn.domain 95).held = [] := by decide +kernel
theorem witness_PowerCommands_rails :
    (wPow 0 {}).railUp 0 = true ∧ Tab.find (wPow 0 {}).power.vcoreAt 0 = none ∧ Tab.get 0 (wPow 0 {}).power.phasesLost 0 < railFitted 0
      ∧ (let p : PowerSt := { vcoreAt := [(0, 5)] }
         Tab.find (wPow 0 p).power.vcoreAt 0 = some 5 ∧ 5 + 100000 ≤ (wPow 0 p).nowNs) := by decide +kernel
/-- CE0's domain may sleep; core 0's, which is reserve and idle, as well. -/
def wIdle : State := put OD.keepAwake 0 0 (put OD.sleepEnable 0 0xFFFF (wPow 0 {}))
theorem witness_PowerCommands_sleep : (wPow 0 {}).maySleep 100 = true ∧ (wPow 0 {}).maySleep 211 = false ∧ wIdle.maySleep 148 = true := by
  decide +kernel
theorem witness_PowerCommands_droop :
    has (wPow 0 {}).power.stretched 7 = false ∧ has (wPow 0 { stretched := [7], stretchFrom := [(7, 0)] }).power.stretched 7 = true
      ∧ (wPow 0 { stretched := [7], stretchFrom := [(7, 0)] }).nat OD.stretchAlarm
          < ((wPow 0 { stretched := [7], stretchFrom := [(7, 0)] }).setNum OD.stretchAlarm 0 0).stretchRead := by decide +kernel
/-- Every sensor reads 50 °C, one of the HBM stacks' more, one die sensor far off. -/
def wTemps : List Int := (List.replicate 5 500 ++ [3000]) ++ List.replicate 130 500 ++ [800, 600]
theorem witness_PowerCommands_sensors :
    wTemps.length = 138 ∧ sensorBad wTemps 0 = false ∧ sensorBad wTemps 5 = true := by decide +kernel
theorem gradeMax_bounds : 1000 ≤ gradeMax ∧ gradeMax ≤ 1100 := by unfold gradeMax; split <;> omega
theorem witness_PowerCommands_thermal :
    (∀ a, (wPow 0 {}).power.thermalAt = some a → False)
      ∧ gradeMax - (wPow 0 {}).nat OD.throttleOffset * 10 ≤ (wPow 0 { tj := 2000, falling := true }).power.tj
      ∧ (wPow 0 { tj := 0 }).power.tj ≤ gradeMax - (wPow 0 { tj := 0 }).nat OD.throttleOffset * 10 - 30
      ∧ max (Tab.get 0 (wPow 0 {}).power.hbmTemp 0) (Tab.get 0 (wPow 0 {}).power.hbmTemp 1) ≤ (920 : Int) := by
  have h1 : (wPow 0 {}).nat OD.throttleOffset = 5 := by decide +kernel
  have h3 : (wPow 0 { tj := 2000, falling := true }).power.tj = 2000 := rfl
  have h4 : (wPow 0 { tj := 0 }).power.tj = 0 := rfl
  have := gradeMax_bounds
  rw [h1, h3, h4]
  exact ⟨nofun, by omega, by omega, by decide +kernel⟩

/-! ## Resilience, maintenance and pins -/

/-- TE0 (unit number 112) in a state, under test where asked, long ago or now. -/
def wTest (x : UnitSt) : State :=
  let s := (wSes .run sess).setUnit 3 0 x
  { s with res := { s.res with recovery := .running } }
theorem witness_ResilienceCommands_units :
    unitOfNumber 112 = some (3, 0)
      ∧ ((wTest { state := .retired, cause := 1 }).unit 3 0) = { state := .retired, cause := 1 }
      ∧ (wTest {}).passed 0 (testNs 3) = true ∧ (wTest {}).passed (10 ^ 12) (testNs 3) = false
      ∧ ((wTest { state := .retired, cause := 1, testing := some 1 }).recentReturns { state := .retired, cause := 1, testing := some 1 }).length
          < (wTest {}).nat OD.returnLimit
      ∧ ((wTest {}).setSel mgr 0xE00002 112).admits mgr OD.diagRun 1
      ∧ ((wTest {}).setSel mgr 0xE00002 112).itemOf mgr OD.diagRun OD.diagRun.addr = 112 := by unfold State.admits; decide +kernel
/-- Pair 0 in lockstep, and under test. -/
def wPair (t : Bool) : State :=
  let s := put OD.lockstepPairs 0 15 (wTest {})
  { s with res := { s.res with pairTest := if t then [0] else [] } }
theorem witness_ResilienceCommands_pairs :
    (wPair false).paired 0 = true ∧ ((wPair false).unit 1 0).healthy = true ∧ ((wPair false).unit 1 1).healthy = true
      ∧ has (wPair true).res.pairTest 0 = true ∧ (wPair true).res.recovery = .running ∧ (wPair true).passed (Tab.get 0 (wPair true).res.pairAt 0) 50000 = true
      ∧ ((wPair true).unit 1 0).state ≠ .retired := by decide +kernel
/-- The recovery pair, with misses and restarts behind it. -/
def wRec (r : Recovery) (misses att at_ : Nat) : State :=
  let s := wSes .run sess
  { s with res := { s.res with recovery := r, misses := misses, attempts := att, attemptAt := at_, previous := some (wGood 1#8) } }
theorem witness_ResilienceCommands_recovery :
    (wRec .running 0 0 0).res.recovery = .running ∧ (wRec .running 1 0 0).passed 0 (100000 * 2) = true ∧ (wRec .running 2 0 0).passed 0 (100000 * 3) = true
      ∧ (wRec .restarting 0 1 (10 ^ 12)).attemptOver = false ∧ (wRec .restarting 0 1 0).attemptOver = true ∧ (wRec .restarting 0 1 0).romPasses = true
      ∧ (wRec .restarting 0 1 0).res.queue = [] := by decide +kernel
/-- The coordinator with what is given; its activities are enabled. -/
def wMaint (m : Mode) (r : ResSt) : State :=
  let s := put OD.drillInterval 0 100 (put OD.activityEnable 5 1 (put OD.activityEnable 0 1 (wAt (wSes m sess))))
  { s.setUnit 2 15 { state := .reserve } with res := r }
theorem witness_MaintenanceCommands :
    actInstance 0 3 = true ∧ (wMaint .run {}).flag OD.activityEnable 0 = true ∧ (wMaint .run { held := [⟨0, 3⟩] }).holdsToken 0 3 = true
      ∧ (⟨0, 3⟩ : Act) ∈ (wMaint .run { queue := [⟨0, 3⟩] }).res.queue ∧ (wMaint .run {}).alarms.entries.length < 4090
      ∧ (wMaint .run {}).passed 0 ((wMaint .run {}).nat OD.waitAlarm * oneSecond) = true
      ∧ (wMaint .run {}).nat OD.drillInterval ≠ 0 ∧ (wMaint .run {}).passed 0 ((wMaint .run {}).nat OD.drillInterval * oneSecond) = true
      ∧ (wMaint .run {}).flag OD.activityEnable 5 = true
      ∧ (rotationFrom 0).find? (fun j => !((wMaint .run {}).reserves (drillRotation.getD j 0)).isEmpty) = some 1
      ∧ ((wMaint .run { drill := some (2, 3) }).unit 2 3).state = .idle ∧ (wMaint .run { drill := some (2, 3) }).promotable 2 = [15]
      ∧ (((wMaint .run { drill := some (2, 3) }).setUnit 2 3 { state := .running }).unit 2 3).state = .running := by decide +kernel
theorem witness_MaintenanceCommands_upgrade :
    let s := wMaint .upgrade { newImages := [(1, wGood 1#8)], recoveryChanged := true, previous := some (wGood 1#8), held := [⟨4, 0⟩] }
    s.admits mgr OD.upgradeImage 0 ∧ s.sec.imageReason 1 (wGood 1#8) = 0 ∧ s.sec.imageReason 1 { wGood 1#8 with payloadDigestOk := false } ≠ 0
      ∧ s.admits mgr OD.upgradeRecovery 1 ∧ s.admits mgr OD.upgradeCommit 1 ∧ s.admits mgr OD.upgradeAbandon 1
      ∧ Tab.find s.res.newImages 1 = some (wGood 1#8) ∧ s.res.queue = []
      ∧ s.passed s.res.upgradeAt (s.nat OD.upgradeLimit * oneSecond) = true ∧ s.admits mgr OD.coreImage 5
      ∧ (wMaint .run {}).admits mgr OD.upgradeRecovery 1 ∧ (wMaint .run {}).admits mgr OD.upgradeCommit 1
      ∧ (wMaint .run {}).admits mgr OD.upgradeAbandon 1 ∧ (wMaint .run {}).admits mgr OD.coreImage 5 := by unfold State.admits; decide +kernel
/-- A forme in force whose one slug a vector core serves, with no image in its slot, and one whose slug is the fabric's. -/
def wServed (core : Bool) : State :=
  let b := if core then leBytes 64 (3 * 4096 + 2 ^ 32) ++ leBytes 64 (3 * 65536) else oneSlugCrc
  { wMaint .upgrade {} with galley := { formes := [(0, { part := 3, slots := 1, bytes := b })] } }
theorem witness_MaintenanceCommands_coreImage :
    (∀ e ∈ (wServed false).galley.formes, ((wServed false).setNum OD.coreImage 0 5).formeServed e.2 = true)
      ∧ (∃ e ∈ (wServed true).galley.formes, ((wServed true).setNum OD.coreImage 0 5).formeServed e.2 = false)
      ∧ (wServed true).admits mgr OD.coreImage 5 ∧ (wServed true).itemOf mgr OD.coreImage OD.coreImage.addr = 0 := by
  unfold State.admits; decide +kernel
/-- GPIO pin and bank states. -/
def wPins (cfg : Nat) (p : PinSt) : State :=
  let s := put OD.rcoMap 0 (2 ^ 12) (put OD.gpioConfig 3 cfg (wSes .configure sess))
  { s with pins := p, mode := { s.mode with mode := .configure } }
def wRun2 (p : PinSt) : State := { wPins 1 p with mode := { (wPins 1 p).mode with mode := .run } }
theorem witness_PinCommands :
    let g (n : Nat) : State := (wPins 0 {}).setSel mgr 0xD00001 n
    (∀ n ∈ [3, 40], (g n).admits mgr OD.gpioConfig 0 ∧ (g n).itemOf mgr OD.gpioConfig OD.gpioConfig.addr = n)
      ∧ (wPins 0 {}).admits mgr OD.bankVoltage 1 ∧ (wPins 0 {}).pinBankUsed 0 = false ∧ (wPins 16 {}).pinBankUsed 0 = true
      ∧ bit 1 0 ≠ bit ((wPins 0 {}).nat OD.bankVoltage) 0
      ∧ (wPins 0 { bankA := .changing }).pinBank 0 = .changing ∧ (wPins 0 {}).passed (Tab.get 0 ({} : PinSt).bankAt 0) 100000 = true
      ∧ (wPins 0 { bankA := .steady }).pinBank 0 = .steady ∧ (wPins 0 { bankB := .outOfRange }).pinBank 1 = .outOfRange
      ∧ (wRun2 {}).rcoSinks 0 = true ∧ Tab.find (wRun2 {}).pins.rcoSinkAt 0 = none
      ∧ has (wRun2 { rcoOff := [0] }).pins.rcoOff 0 = true ∧ (wRun2 { rcoOff := [0] }).rcoWants 0 = true
      ∧ (wRun2 { rcoOff := [0] }).passed 0 10000000 = true
      ∧ faultBit 3 = some 3 ∧ (wRun2 { bankA := .steady, driving := [3] }).pinDrives 3 = true
      ∧ (wPins 0 {}).admits mgr OD.pinFault 5 := by unfold State.admits; decide +kernel

/-! ## Well-formedness: an ill-formed operand for each check -/

/-- A well-formed packet, image, section, message, frame and instruction fields, spoilt below one field at a time. -/
def okPkt : FabPacket := wPkt .wr 0
def okImg : Image :=
  ⟨0#32, 1#8, 0, 0#8, 0#2, 0#2, 0#2, true, true, 1, 0#32, 0, true, true, true, true, true, 0#384⟩
def okSec : Section := ⟨false, 0, 0, 0, 0, 0, 0, 1, 0, 16, []⟩
def okMsg : EcpriMsg := ⟨1, false, 0, 0, 0, []⟩
def okFrame (b : FrameBody) : EthFrame := ⟨64, true, true, none, ⟨0, 0, 0⟩, [], b⟩
def okVV (c : Nat) : VV := ⟨c, false, 0#3, 0#5, 0#5, 0#5⟩
def okVU (c : Nat) : VU := ⟨c, false, 0#3, 0#5, 0#5⟩
def okVC (c : Nat) : VC := ⟨c, false, 0#3, 0#3, 0#2, 0#5, 0#5⟩
def okMem (c n : Nat) : VMem := ⟨c, false, 0#3, 0#5, 0#5, 0#5, n⟩
def okCell : LinkCell := ⟨[0, 0, 0, 0], 0, 0, 0, false, true⟩

theorem test_wf_unit :
    [(0, 95), (1, 7), (2, 15), (9, 3), (11, 7)].all (fun p => (Instr.dispatch p.1 p.2).wf) = true
      ∧ [(0, 96), (1, 8), (2, 16), (3, 8), (4, 16), (5, 4), (6, 4), (7, 2), (8, 4), (9, 4), (10, 12), (11, 8), (12, 0)].any
          (fun p => (Instr.dispatch p.1 p.2).wf) = false
      ∧ (Instr.faultReport 3 8 ⟨none, .unit, false, false⟩).wf = false := by decide +kernel
theorem test_wf_requester :
    (Instr.drainEnd.wf && (Instr.modeRequest (.mailbox 1023) 255).wf && (Instr.deviceEnable (.stream 9 7) ⟨true, true, 0⟩).wf
        && (Instr.deviceDisable .smbus).wf) = true
      ∧ (Instr.modeRequest (.mailbox 1024) 0).wf = false ∧ (Instr.modeRequest mgr 256).wf = false
      ∧ (Instr.deviceEnable (.stream 0 8) ⟨true, true, 0⟩).wf = false ∧ (Instr.deviceDisable (.mailbox 1024)).wf = false
      ∧ (Instr.partEnable mgr 1024 1).wf = false ∧ (Instr.partPause mgr 1024 1).wf = false ∧ (Instr.partReset mgr 1024 1).wf = false := by
  decide +kernel
theorem test_wf_address :
    (Instr.infoReq 0 0 0 ⟨0xFFFF, 0xFF⟩).wf = true ∧ (Instr.infoReq 0 0 0 ⟨0x10000, 0⟩).wf = false
      ∧ (Instr.infoReq 0 0 0 ⟨0, 256⟩).wf = false ∧ (Instr.read 0 0 0 [⟨0, 0⟩, ⟨0, 256⟩]).wf = false
      ∧ (Instr.write 0 0 0 [⟨⟨0x10000, 0⟩, .u8, [0]⟩]).wf = false ∧ (Instr.segRead 0 0 0 ⟨0, 256⟩ 0 1).wf = false
      ∧ (Instr.segWrite 0 0 0 ⟨0x10000, 0⟩ true 0 1 [0]).wf = false ∧ (Instr.segAbort 0 0 0 ⟨0, 256⟩).wf = false
      ∧ (Instr.segTransferTimeout mgr ⟨0, 256⟩).wf = false ∧ (Instr.subscribe 0 0 0 0 100 [⟨0, 256⟩]).wf = false
      ∧ (Instr.subscribe 0 0 0 256 100 []).wf = false ∧ (Instr.unsubscribe 0 0 0 256).wf = false ∧ (Instr.telemetry 0 8 true).wf = false
      ∧ (Instr.smbPointerWrite ⟨0x10000, 0⟩).wf = false ∧ (Instr.w1cWrite mgr ⟨0, 256⟩ 1 0).wf = false := by decide +kernel
theorem test_wf_lane_port :
    (Instr.lossOfSignal (.line 23)).wf = true ∧ (Instr.lossOfSignal (.mogil 3 8)).wf = true ∧ (Instr.lossOfSignal (.line 24)).wf = false
      ∧ (Instr.signalReturn (.mogil 4 0)).wf = false ∧ (Instr.signalDebounceExpiry (.mogil 0 9)).wf = false
      ∧ (Instr.lossOfLock (.line 24)).wf = false ∧ (Instr.lossOfBlockLock (.line 24)).wf = false ∧ (Instr.prbsCheckerLock (.line 24)).wf = false
      ∧ (Instr.prbsCheckerLockLoss (.mogil 4 0)).wf = false
      ∧ (Instr.degradeEval (.port 24) 0 1 0 0).wf = false ∧ (Instr.degradeEval (.group 4) 0 1 0 0).wf = false
      ∧ (Instr.lossOfFrame 24).wf = false ∧ (Instr.remoteDefect 24 true).wf = false ∧ (Instr.portUp 24).wf = false
      ∧ (Instr.frameTransmit 24).wf = false ∧ (Instr.txWindowDiscard 24 0).wf = false ∧ (Instr.fwRingPop 24).wf = false
      ∧ (Instr.cpriRateDwell 24).wf = false ∧ (Instr.learnRequest 24 0 0#48).wf = false ∧ (Instr.learnRequest 0 4096 0#48).wf = false
      ∧ (Instr.entryAgeOut 4096 0#48).wf = false ∧ (Instr.pinExpiry 4096 0#48).wf = false
      ∧ (Instr.staticEntry mgr 4096 0#48 0 true).wf = false ∧ (Instr.staticEntry mgr 0 0#48 24 true).wf = false
      ∧ (Instr.synceLockLoss 24).wf = false := by decide +kernel
theorem test_wf_time :
    (Instr.announceTimeout 25 0).wf = true ∧ (Instr.announceTimeout 26 0).wf = false
      ∧ (Instr.ptpEventMessageRx 26 ⟨0, 0x88F7, none, false⟩ .other).wf = false ∧ (Instr.ptpUnpairedDiscard 26 0).wf = false
      ∧ (Instr.stampedFrameTx 26 0#8 none false).wf = false ∧ (Instr.txStampQueuePop 26).wf = false
      ∧ (Instr.referenceQualify 8).wf = false ∧ (Instr.referenceDisqualify 8).wf = false ∧ (Instr.ppsLossTimeout 2).wf = false
      ∧ (Instr.ppsInEdge 2 ⟨0, 0, 0⟩ 0 0).wf = false ∧ (Instr.ppsOutEdge 2).wf = false ∧ (Instr.ppsOutPulseEnd 2).wf = false
      ∧ (Instr.timeSet (.mailbox 1024) ⟨0, 0, 0⟩).wf = false ∧ (Instr.slotBoundary 1024).wf = false ∧ (Instr.press 1024).wf = false := by
  decide +kernel
theorem test_wf_galley :
    (Instr.slugSubmit 65535 (List.replicate 64 0)).wf = true ∧ (Instr.slugSubmit 0 (List.replicate 63 0)).wf = false
      ∧ (Instr.slugSubmit 65536 (List.replicate 64 0)).wf = false ∧ (Instr.impressionRelease (2 ^ 20)).wf = false
      ∧ (Instr.counterFireBy 4096).wf = false ∧ (Instr.watchdogExpiry 65536).wf = false ∧ (Instr.deadlineExpiry 65536).wf = false
      ∧ (Instr.lateHorizonExpiry 65536).wf = false ∧ (Instr.stallDeclare 1024).wf = false ∧ (Instr.slugDecrement 65536).wf = false
      ∧ (Instr.handleReserveTimeout 65536).wf = false ∧ (Instr.timerSlugFire 65536).wf = false ∧ (Instr.ccDone 8).wf = false
      ∧ (Instr.fetch 65536).wf = false ∧ (Instr.gather 65536).wf = false ∧ (Instr.deliver 65536).wf = false
      ∧ (Instr.mogilChannelSend 65536).wf = false ∧ (Instr.atOffset 65536).wf = false ∧ (Instr.atTick 65536).wf = false
      ∧ (Instr.mogilChannelTimeout 65536).wf = false ∧ (Instr.cqWaitTimeout 65536).wf = false := by decide +kernel
theorem test_wf_core :
    (Instr.vadd (okVV 95)).wf = true ∧ (Instr.vadd (okVV 96)).wf = false ∧ (Instr.vneg (okVU 96)).wf = false ∧ (Instr.vcmp (okVC 96)).wf = false
      ∧ (Instr.vlseg (okMem 95 8)).wf = true ∧ (Instr.vlseg (okMem 96 1)).wf = false ∧ (Instr.vlseg (okMem 0 0)).wf = false
      ∧ (Instr.vlseg (okMem 0 9)).wf = false ∧ (Instr.interruptTaken 96 0 none).wf = false ∧ (Instr.xret 96 true).wf = false
      ∧ (Instr.vsetvli 96 0 0 0).wf = false ∧ (Instr.cp0Gold 96 0 0).wf = false ∧ (Instr.cpOpComplete 0 3).wf = false
      ∧ (Instr.scalarInstruction 96 0#32).wf = false ∧ (Instr.vxUnitFault 96 .check).wf = false ∧ (Instr.coreImageSwitch 96).wf = false
      ∧ (Instr.vxImageVerifyDone 16).wf = false ∧ (Instr.vxImageWrite mgr { okImg with rollback := 256 }).wf = false := by decide +kernel
theorem test_wf_engine_edge :
    (Instr.teFwd 53).wf = true ∧ (Instr.teFwd 54).wf = false ∧ (Instr.engineUnitFault 54 .check).wf = false ∧ (Instr.dmaCopy 8).wf = false
      ∧ (Instr.dmaUnitFault 8).wf = false ∧ (Instr.collect 4).wf = false ∧ (Instr.fuUnitFault 4).wf = false ∧ (Instr.ulCplane 12).wf = false
      ∧ (Instr.cuReplace 12).wf = false ∧ (Instr.gainChangePoint 128).wf = false ∧ (Instr.fuGroupMove 128).wf = false
      ∧ (Instr.searchTrigger 256 0 0).wf = false ∧ (Instr.searchOccasionEnd 256 []).wf = false
      ∧ (Instr.searchOccasionEnd 0 [⟨64, []⟩]).wf = false ∧ (Instr.searchOccasionEnd 0 [⟨0, [(14, [])]⟩]).wf = false
      ∧ (Instr.rcoEdge 8).wf = false ∧ (Instr.noiseTableWrite 256 0 []).wf = false ∧ (Instr.noiseTableWrite 0 1024 []).wf = false
      ∧ (Instr.noiseTableWrite 0 0 (List.replicate 276 0)).wf = false ∧ (Instr.noiseEstimateTimeout 0 1024).wf = false
      ∧ (Instr.nsFallback 256).wf = false ∧ (Instr.nsRetryOffer 256).wf = false := by decide +kernel
theorem test_wf_fronthaul :
    (Instr.ethFrameRx 23 (okFrame (.ecpri 0 4095 65535 true [{ okMsg with secs := [okSec] }]))).wf = true
      ∧ (Instr.ethFrameRx 24 (okFrame .pause)).wf = false ∧ (Instr.ethFrameRx 0 (okFrame (.ecpri 3 0 0 true []))).wf = false
      ∧ (Instr.ethFrameRx 0 (okFrame (.ecpri 0 4096 0 true []))).wf = false
      ∧ (Instr.ethFrameRx 0 (okFrame (.ecpri 0 0 0 true [{ okMsg with eaxc := 65536 }]))).wf = false
      ∧ (Instr.ethFrameRx 0 (okFrame (.ecpri 0 0 0 true [{ okMsg with secs := [{ okSec with width := 17 }] }]))).wf = false
      ∧ (Instr.ethFrameRx 0 (okFrame (.ecpri 0 0 0 true [{ okMsg with secs := [{ okSec with symbol := 14 }] }]))).wf = false
      ∧ (Instr.ethFrameRx 0 (okFrame (.firmware 0))).wf = false ∧ (Instr.ethFrameRx 0 (okFrame (.managed 4096))).wf = false
      ∧ (Instr.ethFrameRx 0 (okFrame (.forward 4096 0#48 0#48))).wf = false
      ∧ (Instr.ethFrameRx 0 { okFrame .other with sec := some ⟨2 ^ 64, 0, 1, true⟩ }).wf = false
      ∧ (Instr.ethFrameRx 0 { okFrame .other with sec := some ⟨0, 4, 1, true⟩ }).wf = false
      ∧ (Instr.cpriSymbolRx 4096 0 0 []).wf = false ∧ (Instr.cpriSymbolRx 0 0 14 []).wf = false := by decide +kernel
theorem test_wf_links_and_packets :
    (Instr.wr okPkt).wf = true ∧ (Instr.wr { okPkt with part := 1024 }).wf = false ∧ (Instr.rd { okPkt with addr := 2 ^ 48 }).wf = false
      ∧ (Instr.wrp { okPkt with bytes := 513 }).wf = false ∧ (Instr.msg { okPkt with data := List.replicate 513 0 }).wf = false
      ∧ (Instr.mogilPacketSend 4 okPkt).wf = false ∧ (Instr.mogilPacketSend 0 { okPkt with part := 1024 }).wf = false
      ∧ (Instr.mogilMarkerRx 4 []).wf = false ∧ (Instr.mogilNakRx 4 okCell).wf = false ∧ (Instr.mogilVersionRx 4 okCell 1 1).wf = false
      ∧ (Instr.mogilRetryTimeout 4).wf = false ∧ (Instr.flitCrcError 70 0).wf = false ∧ (Instr.flitCrcError 0 32).wf = false
      ∧ (Instr.fabricLinkDown 70 0).wf = false ∧ (Instr.fabricLinkReturn 0 32).wf = false ∧ (Instr.domainWakeReady 212).wf = false
      ∧ (Instr.wakeTimeout 212).wf = false ∧ (Instr.domainSleep 212).wf = false ∧ (Instr.domainLockOff 212).wf = false
      ∧ (Instr.ssAccessRepeat 24 false).wf = false ∧ (Instr.scrubStep 15 .clean false).wf = false ∧ (Instr.hbmRefresh 2).wf = false := by decide +kernel
theorem test_wf_host_and_sessions :
    (Instr.sqTailDoorbell 1024 0 0 4).wf = false ∧ (Instr.cqHeadDoorbell 1024 0 0 4).wf = false ∧ (Instr.msixUnmask 1024 0).wf = false
      ∧ (Instr.bmeClear 1024).wf = false ∧ (Instr.bmeSet 1024).wf = false ∧ (Instr.flrInitiate 1024).wf = false ∧ (Instr.flrComplete 1024).wf = false
      ∧ (Instr.tagQuarantineEnd 8192).wf = false ∧ (Instr.pcieCompletionRx 8192 .sc []).wf = false ∧ (Instr.pcieCompletionTimeout 8192).wf = false
      ∧ (Instr.atsInvalidate 0 (2 ^ 52)).wf = false ∧ (Instr.pcieConfigWrite 1024 .memorySpace 0).wf = false
      ∧ (Instr.pcieLinkTrained 8 1 false).wf = false ∧ (Instr.pcieLinkTrained 5 17 false).wf = false
      ∧ (Instr.bootImageWrite 1024 okImg).wf = false ∧ (Instr.bootImageWrite 0 { okImg with version := 2 ^ 32 }).wf = false
      ∧ (Instr.mailboxGo 1024 0 false 0 .hello).wf = false ∧ (Instr.mailboxGo 0 65536 false 0 .hello).wf = false
      ∧ (Instr.mailboxGo 0 0 false 256 .hello).wf = false ∧ (Instr.clientHello 3 true).wf = false
      ∧ (Instr.handshakeComplete 3 0 true (List.replicate 48 0)).wf = false ∧ (Instr.handshakeComplete 0 0 true (List.replicate 47 0)).wf = false
      ∧ (Instr.partResetComplete 1024).wf = false ∧ (Instr.resetLimitExpiry 1024).wf = false ∧ (Instr.disableCloseTimeout 1024).wf = false := by
  decide +kernel
theorem test_wf_upkeep :
    (Instr.regionInitDone 64).wf = false ∧ (Instr.rekeyBlock 64).wf = false ∧ (Instr.vcoreAdjust 12 true).wf = false ∧ (Instr.phaseFault 12).wf = false
      ∧ (Instr.railOutOfRegulation 12 true).wf = false ∧ (Instr.droopStretch 64).wf = false ∧ (Instr.droopRelease 64).wf = false
      ∧ (Instr.thermalSensorScan (List.replicate 137 0)).wf = false ∧ (Instr.diagStart 182).wf = false ∧ (Instr.diagComplete 182 true 0).wf = false
      ∧ (Instr.lockstepMismatch 4).wf = false ∧ (Instr.lockstepTestDone 4 true true).wf = false ∧ (Instr.ccUnitFault 8 false).wf = false
      ∧ (Instr.wardenVote 3).wf = false ∧ (Instr.upgradeImage mgr { okImg with entry := 2 ^ 32 }).wf = false ∧ (Instr.bankSettle 2).wf = false
      ∧ (Instr.bankSupplyFault 2).wf = false ∧ (Instr.bankSupplyReturn 2).wf = false ∧ (Instr.rcoShort 8).wf = false ∧ (Instr.rcoRetry 8 true).wf = false
      ∧ (Instr.pinContention 43).wf = false ∧ (Instr.frameStrobeEnd 43).wf = false := by decide +kernel

/-! ## Fixed values of the spec -/

/-- No row of the table gives bits, so no word spells a command. -/
theorem test_no_word_is_a_command : decodeTableWord 32 0 = none ∧ (State.reset.withFetchWord 32 0).pending = [] := by decide +kernel

/-- Table 05-2: the word of `vsetvli t0, a3, e16, x4` sets groups of four registers of 16-bit elements and VL to 512 of the 3,276
pairs; the word of `vlseg2.h w8, (a0)` is the structure load of two fields into w8. -/
theorem test_vsetvli_word :
    let t := (execScalarInstruction 0 0x0096E2AB#32 (onCore (({} : Core).setX 13 3276#64)))
    (match t with
      | .next t => decide (((t.core 0).xr 5) = 512#64 ∧ (t.core 0).vl = 512 ∧ (t.core 0).ew = 16 ∧ (t.core 0).g = 4)
      | _ => false) = true := by decide +kernel
theorem test_vlseg2_word (s : State) : runCustom 0 0x0015442B s = execVlseg ⟨0, false, 0#3, 8#5, 10#5, 0#5, 2⟩ s := rfl
/-- Table 05-6: six values under each rounding field with e = 5. -/
theorem test_roundings :
    [3000, -7210, 455, -48, 8176, 0].map (fun x => rnd x 5 0) = [93, -226, 14, -2, 255, 0]
      ∧ [3000, -7210, 455, -48, 8176, 0].map (fun x => rnd x 5 1) = [94, -225, 14, -1, 256, 0]
      ∧ [3000, -7210, 455, -48, 8176, 0].map (fun x => rnd x 5 2) = [94, -225, 14, -2, 256, 0] := by decide +kernel
/-- The worked example of frame numbering: 1,750,000,037 s with frame offset 0. -/
theorem test_frame_numbering :
    let a := airOf (1750000037 * 1000000000 * nsUnit) 0
    a = 704856990351360000 ∧ sfnOf a = 776 ∧ hfnOf a = 261 ∧ airTickOf a = 43648667877376 ∧ airEraOf a = 2504 ∧ low32 a = 3210215424
      ∧ slotStart 1 (slotOf 1 a + 4) = a + 983040 ∧ airTickOf (a + 983040) = 43648668860416 ∧ low32 (a + 983040 + 614400) = 3211812864
      ∧ low32 (a + 1474560000) = 389808128 ∧ diff32 389808128 3210215424 = 1474560000
      ∧ sfnOf (a + 248 * frameTicks) = 0 ∧ hfnOf (a + 248 * frameTicks) = 262 := by decide +kernel
/-- FIPS 197, appendix C.3: the cipher R398 and R399 name. -/
theorem test_aes256 :
    aes256 ((List.range 32).map (BitVec.ofNat 8)) ((List.range 16).map (fun k => BitVec.ofNat 8 (17 * k)))
      = [0x8E, 0xA2, 0xB7, 0xCA, 0x51, 0x67, 0x45, 0xBF, 0xEA, 0xFC, 0x49, 0x90, 0x4B, 0x49, 0x60, 0x89] := by decide +kernel
/-- R146: only the words of custom-0 and custom-1 are vector instructions. -/
theorem test_custom_words : customWord 0x0B = true ∧ customWord 0x2B = true ∧ customWord 0x33 = false := by decide +kernel

end Sys2Proof.Tests
end

/-!
PROOFS. The vector shifts and the vector divisions (R155, R156): the result of an instruction of format VV, VX or VI from
what its operation gives for one element, then the operations on one element as integers.
-/

namespace Sys2Proof.Machine

open Sys2Proof

/-! ## Instructions of the formats VV, VX and VI -/

/-- An instruction whose checks pass replaces its core and nothing else. -/
theorem State.vrun_of_fetches {s : State} {v w : Nat} {op : Core → Option Core} {d : Core}
    (hf : s.fetches v 4) (hop : op (s.core v) = some d) : s.vrun v w op = s.setCore v d := by
  unfold State.vrun
  rw [State.fetched_of_fetches hf]
  simp only [hop]

/-- A core that performs an element-wise instruction has its result. -/
theorem runs_of_mapElems {x : Instr} {s : State} {v w : Nat} {op : Core → Option Core}
    {wd : BitVec 5} {pm : Bool} {pg : BitVec 3} {f : Nat → Nat × Nat}
    (hx : exec x s = .next (s.vrun v w op)) (hf : s.fetches v 4) (hvl : (s.core v).vl ≠ 0)
    (hop : op (s.core v) = some ((s.core v).mapElems wd pm pg fun i => (some (f i).1, (f i).2))) :
    Runs x s (fun t => VecResult s t v wd pm pg f) :=
  ⟨_, by rw [hx, State.vrun_of_fetches hf hop], vecResult_map s v wd pm pg f hvl⟩

/-- A VV instruction has the result of its operation on the elements. -/
theorem runs_of_vv {x : Instr} {s : State} {w : Nat} {ews : List Nat} {o : VV}
    {op : Core → Nat → Nat → Nat → Nat × Nat} {f : Nat → Nat × Nat}
    (hx : exec x s = .next (s.vrun o.core w (·.vv ews o op))) (hr : VecReady s o.core (·.okVV ews o true))
    (hop : ∀ i, op (s.core o.core) ((s.core o.core).elem o.ws1 i) ((s.core o.core).elem o.ws2 i)
      ((s.core o.core).elem o.wd i) = f i) :
    Runs x s (fun t => VecResult s t o.core o.wd o.pm o.pg f) := by
  obtain ⟨hf, hok, hvl⟩ := hr
  refine runs_of_mapElems hx hf hvl ?_
  simp only [← hop]
  exact if_pos hok

/-- A VX or VI instruction has the result of its operation on the elements and the scalar operand `y`. -/
theorem runs_of_vs {x : Instr} {s : State} {w : Nat} {ews : List Nat} {o : VV} {y : Core → Int}
    {op : Core → Nat → Int → Nat → Nat × Nat} {f : Nat → Nat × Nat}
    (hx : exec x s = .next (s.vrun o.core w (fun c => c.vs ews o (y c) op)))
    (hr : VecReady s o.core (·.okVV ews o false))
    (hop : ∀ i, op (s.core o.core) ((s.core o.core).elem o.ws1 i) (y (s.core o.core))
      ((s.core o.core).elem o.wd i) = f i) :
    Runs x s (fun t => VecResult s t o.core o.wd o.pm o.pg f) := by
  obtain ⟨hf, hok, hvl⟩ := hr
  refine runs_of_mapElems hx hf hvl ?_
  simp only [← hop]
  exact if_pos hok

/-! ## Two's-complement fields -/

theorem Core.ew_pos (c : Core) : 0 < c.ew := Nat.mul_pos (by decide) (Nat.two_pow_pos _)

theorem Core.elem_lt (c : Core) (r : BitVec 5) (i : Nat) : c.elem r i < 2 ^ c.ew := elemOf_lt ..

theorem signed_mem (w v : Nat) (hw : 0 < w) : -(2 ^ (w - 1)) ≤ signed w v ∧ signed w v < 2 ^ (w - 1) := by
  have hv : v % 2 ^ w < 2 ^ w := Nat.mod_lt _ (Nat.two_pow_pos w)
  have h2 := Nat.two_pow_pred_mul_two hw
  have hc : ((2 ^ (w - 1) : Nat) : Int) = 2 ^ (w - 1) := by push_cast; rfl
  unfold signed
  split <;> omega

theorem neg_le_sg (c : Core) (v : Nat) : -(2 ^ (c.ew - 1)) ≤ sg c v := (signed_mem _ _ c.ew_pos).1

theorem sg_lt (c : Core) (v : Nat) : sg c v < 2 ^ (c.ew - 1) := (signed_mem _ _ c.ew_pos).2

/-- A field read as signed is its value modulo the number of codes. -/
theorem signed_modEq (w v : Nat) : signed w v ≡ (v : Int) [ZMOD ((2 ^ w : Nat) : Int)] := by
  unfold signed
  split
  · rw [Int.natCast_mod]
    exact Int.mod_modEq _ _
  · rw [Int.natCast_mod]
    exact (Int.modEq_sub_modulus_iff.2 (Int.mod_modEq _ _).symm).symm

theorem signed_toNat (x : BitVec 64) : signed 64 x.toNat = x.toInt := by
  have := x.isLt
  rw [BitVec.toInt_eq_toNat_cond]
  unfold signed
  split <;> split <;> omega

/-- Congruent integers are held in the same bits. -/
theorem unsigned_congr {w : Nat} {x y : Int} (h : x ≡ y [ZMOD ((2 ^ w : Nat) : Int)]) : unsigned w x = unsigned w y :=
  congrArg Int.toNat h

theorem unsigned_natCast (w n : Nat) : unsigned w (n : Int) = n % 2 ^ w := by
  rw [unsigned, ← Int.natCast_mod, Int.toNat_natCast]

/-! ## Shifts of one element (R155) -/

theorem shifted_of_nonneg {w : Nat} {v k : Int} (hk : 0 ≤ k) : shifted w v k = unsigned w (v * 2 ^ k.toNat) := if_pos hk

theorem shifted_of_neg {w : Nat} {v k : Int} (hk : k < 0) : shifted w v k = unsigned w (v.fdiv (2 ^ (-k).toNat)) :=
  if_neg (by omega)

/-- A shift by 0 to the right is the shift by 0 to the left. -/
theorem shifted_neg_of_nonneg {w : Nat} {v k : Int} (hk : 0 ≤ k) :
    shifted w v (-k) = unsigned w (v.fdiv (2 ^ k.toNat)) := by
  rcases hk.eq_or_lt with rfl | hpos
  · simp [shifted]
  · rw [shifted_of_neg (by omega), neg_neg]

/-- A shift to the left by EW or more leaves no bit. -/
theorem shlN_eq (c : Core) (a k : Nat) : shlN c a k = unsigned c.ew (sg c a * 2 ^ k) := by
  have hbits : unsigned c.ew (sg c a * 2 ^ k) = a * 2 ^ k % 2 ^ c.ew := by
    rw [← unsigned_natCast, Nat.cast_mul, Nat.cast_pow]
    exact unsigned_congr ((signed_modEq c.ew a).mul_right _)
  rw [hbits]
  unfold shlN
  split
  case isTrue hk => exact (Nat.mod_eq_zero_of_dvd (dvd_mul_of_dvd_right (pow_dvd_pow 2 hk) a)).symm
  case isFalse => rfl

/-- A shift to the right by more than `w` gives what the shift by `w` gives: 0, or −1 for a negative value. -/
theorem fdiv_two_pow_min {x : Int} {w : Nat} (k : Nat) (hlo : -(2 ^ w) ≤ x) (hhi : x < 2 ^ w) :
    x.fdiv (2 ^ min k w) = x.fdiv (2 ^ k) := by
  rcases Nat.le_total k w with hk | hk
  · rw [min_eq_left hk]
  · have hp : (2 : Int) ^ w ≤ 2 ^ k := pow_le_pow_right₀ (by decide) hk
    rw [min_eq_right hk, Int.fdiv_eq_ediv_of_nonneg _ (by positivity), Int.fdiv_eq_ediv_of_nonneg _ (by positivity)]
    rcases lt_or_ge x 0 with hx | hx
    · rw [Int.ediv_eq_neg_one_of_neg_of_le hx (by omega), Int.ediv_eq_neg_one_of_neg_of_le hx (by omega)]
    · rw [Int.ediv_eq_zero_of_lt hx hhi, Int.ediv_eq_zero_of_lt hx (by omega)]

theorem sraN_eq (c : Core) (a k : Nat) : sraN c a k = unsigned c.ew ((sg c a).fdiv (2 ^ k)) := by
  have hp : (2 : Int) ^ (c.ew - 1) ≤ 2 ^ c.ew := pow_le_pow_right₀ (by decide) (Nat.sub_le _ _)
  have hlo := neg_le_sg c a
  have hhi := sg_lt c a
  rw [sraN, fdiv_two_pow_min k (by omega) (by omega)]

theorem srlN_eq {c : Core} {a : Nat} (ha : a < 2 ^ c.ew) (k : Nat) : srlN c a k = a / 2 ^ k := by
  unfold srlN
  split
  case isTrue hk => exact (Nat.div_eq_of_lt (ha.trans_le (Nat.pow_le_pow_right (by decide) hk))).symm
  case isFalse => rfl

theorem shl_eq (c : Core) (a : Nat) (k : Int) (d : Nat) : shl c a k d = (shifted c.ew (sg c a) k, 0) := by
  rcases lt_or_ge k 0 with hk | hk
  · rw [shl, if_neg (by omega), sraN_eq, shifted_of_neg hk]
  · rw [shl, if_pos hk, shlN_eq, shifted_of_nonneg hk]

theorem sra_eq (c : Core) (a : Nat) (k : Int) (d : Nat) : sra c a k d = (shifted c.ew (sg c a) (-k), 0) := by
  rcases lt_or_ge k 0 with hk | hk
  · rw [sra, if_neg (by omega), shlN_eq, shifted_of_nonneg (by omega)]
  · rw [sra, if_pos hk, sraN_eq, shifted_neg_of_nonneg hk]

theorem srl_eq {c : Core} {a : Nat} (ha : a < 2 ^ c.ew) (k : Int) (d : Nat) :
    srl c a k d = (if 0 ≤ k then a / 2 ^ k.toNat else shifted c.ew (sg c a) (-k), 0) := by
  rcases lt_or_ge k 0 with hk | hk
  · rw [srl, if_neg (by omega), if_neg (by omega), shlN_eq, shifted_of_nonneg (by omega)]
  · rw [srl, if_pos hk, if_pos hk, srlN_eq ha]

/-- The scalar operand of a shift by a register is the signed register. -/
theorem Core.scalarWhole_eq (c : Core) (o : VV) : c.scalarWhole o = (c.xr o.ws2).toInt := signed_toNat _

/-- Settles O22: every form is its shift of one element, which is `shifted` by the signed amount. -/
theorem vxShifts : Obligations.VxShifts := by
  intro o s
  refine ⟨fun hr => ⟨?_, ?_, ?_⟩, fun hr => ⟨?_, ?_, ?_, ?_, ?_, ?_⟩⟩
  · exact runs_of_vv (exec_vsll o s) hr fun i => shl_eq ..
  · exact runs_of_vv (exec_vsra o s) hr fun i => sra_eq ..
  · exact runs_of_vv (exec_vsrl o s) hr fun i => srl_eq (Core.elem_lt ..) ..
  · exact runs_of_vs (exec_vsllX o s) hr fun i => by rw [Core.scalarWhole_eq, shl_eq]; rfl
  · exact runs_of_vs (exec_vsraX o s) hr fun i => by rw [Core.scalarWhole_eq, sra_eq]; rfl
  · exact runs_of_vs (exec_vsrlX o s) hr fun i => by rw [Core.scalarWhole_eq, srl_eq (Core.elem_lt ..)]; rfl
  · exact runs_of_vs (exec_vsllI o s) hr fun i => shl_eq ..
  · exact runs_of_vs (exec_vsraI o s) hr fun i => sra_eq ..
  · exact runs_of_vs (exec_vsrlI o s) hr fun i => srl_eq (Core.elem_lt ..) ..

/-! ## Division of one element (R156) -/

/-- MIN and the magnitude of MIN are held in the same bits. -/
theorem unsigned_neg_min {w : Nat} (hw : 0 < w) : unsigned w (- -(2 ^ (w - 1))) = unsigned w (-(2 ^ (w - 1))) := by
  refine unsigned_congr (Int.modEq_iff_dvd.2 ⟨-1, ?_⟩)
  rw [← Nat.two_pow_pred_mul_two hw]
  push_cast
  ring

theorem satE_of_mem {c : Core} {v : Int} (hlo : -(2 ^ (c.ew - 1)) ≤ v) (hhi : v ≤ 2 ^ (c.ew - 1) - 1) :
    satE c v = (unsigned c.ew v, 0) := by
  simp only [satE, satTo, clamp]
  rw [if_neg (by omega), if_neg (by omega), if_neg (by omega)]

theorem satE_of_gt {c : Core} {v : Int} (hv : 2 ^ (c.ew - 1) - 1 < v) :
    satE c v = (unsigned c.ew (2 ^ (c.ew - 1) - 1), 1) := by
  have hp : (0 : Int) < 2 ^ (c.ew - 1) := by positivity
  simp only [satE, satTo, clamp]
  rw [if_neg (by omega), if_pos hv, if_pos (Or.inr hv), fVSAT]

/-- A quotient of values between −m and m − 1 lies there too, but for −m / −1. -/
theorem tdiv_mem {m a b : Int} (hlo : -m ≤ a) (hhi : a ≤ m - 1) (hb : b ≠ 0) (hne : ¬(a = -m ∧ b = -1)) :
    -m ≤ a.tdiv b ∧ a.tdiv b ≤ m - 1 := by
  have habs : (a.tdiv b).natAbs = a.natAbs / b.natAbs := Int.natAbs_tdiv ..
  rcases Nat.lt_or_ge 1 b.natAbs with h2 | h2
  · have hhalf : a.natAbs / b.natAbs ≤ a.natAbs / 2 := Nat.div_le_div_left h2 (by decide)
    omega
  · rcases (by omega : b = 1 ∨ b = -1) with rfl | rfl
    · rw [Int.tdiv_one]
      omega
    · rw [Int.tdiv_neg, Int.tdiv_one]
      omega

section
variable {c : Core} {a b : Nat}

theorem quotient_of_zero (hb : sg c b = 0) :
    quotient c a b = (if 0 ≤ sg c a then 2 ^ (c.ew - 1) - 1 else -(2 ^ (c.ew - 1)), 2) := if_pos hb

theorem quotient_of_ne (hb : sg c b ≠ 0) : quotient c a b = ((sg c a).tdiv (sg c b), 0) := if_neg hb

/-- The one quotient that does not fit: MIN / −1. -/
theorem quotient_min_neg_one (h : sg c a = -(2 ^ (c.ew - 1)) ∧ sg c b = -1) :
    quotient c a b = (- -(2 ^ (c.ew - 1)), 0) := by
  obtain ⟨ha, hb⟩ := h
  rw [quotient_of_ne (by omega), ha, hb, Int.tdiv_neg, Int.tdiv_one]

theorem opDivs_of_zero (hb : sg c b = 0) (d : Nat) : opDivs c a b d =
    (unsigned c.ew (if 0 ≤ sg c a then 2 ^ (c.ew - 1) - 1 else -(2 ^ (c.ew - 1))), 2) := by
  have hp : (0 : Int) < 2 ^ (c.ew - 1) := by positivity
  simp only [opDivs, quotient_of_zero hb]
  rw [satE_of_mem (by split <;> omega) (by split <;> omega), Nat.zero_or]

theorem opDivs_min_neg_one (h : sg c a = -(2 ^ (c.ew - 1)) ∧ sg c b = -1) (d : Nat) :
    opDivs c a b d = (unsigned c.ew (2 ^ (c.ew - 1) - 1), 1) := by
  simp only [opDivs, quotient_min_neg_one h]
  rw [satE_of_gt (by omega), Nat.or_zero]

theorem opDivs_of_fits (hb : sg c b ≠ 0) (hne : ¬(sg c a = -(2 ^ (c.ew - 1)) ∧ sg c b = -1)) (d : Nat) :
    opDivs c a b d = (unsigned c.ew ((sg c a).tdiv (sg c b)), 0) := by
  obtain ⟨hlo, hhi⟩ := tdiv_mem (neg_le_sg c a) (Int.le_sub_one_of_lt (sg_lt c a)) hb hne
  simp only [opDivs, quotient_of_ne hb]
  rw [satE_of_mem hlo hhi, Nat.or_zero]

theorem opDiv_of_zero (hb : sg c b = 0) (d : Nat) : opDiv c a b d =
    (unsigned c.ew (if 0 ≤ sg c a then 2 ^ (c.ew - 1) - 1 else -(2 ^ (c.ew - 1))), 2) := by
  simp only [opDiv, quotient_of_zero hb]

theorem opDiv_of_ne (hb : sg c b ≠ 0) (d : Nat) : opDiv c a b d = (unsigned c.ew ((sg c a).tdiv (sg c b)), 0) := by
  simp only [opDiv, quotient_of_ne hb]

theorem opDiv_min_neg_one (h : sg c a = -(2 ^ (c.ew - 1)) ∧ sg c b = -1) (d : Nat) :
    opDiv c a b d = (unsigned c.ew (-(2 ^ (c.ew - 1))), 0) := by
  simp only [opDiv, quotient_min_neg_one h, unsigned_neg_min c.ew_pos]

end

/-- Settles O23: the three divisions of one element by the cases of R156, the divisor 0 and MIN / −1; every other quotient
fits in EW bits. -/
theorem vxDivision : Obligations.VxDivision := by
  intro o s hr c a b hi lo quo rem
  refine ⟨runs_of_vv (exec_vdiv o s) hr fun i => ?_, runs_of_vv (exec_vdivs o s) hr fun i => ?_,
    runs_of_vv (exec_vrem o s) hr fun i => rfl⟩
  · by_cases hb : b i = 0
    · exact (opDiv_of_zero hb _).trans (if_pos hb).symm
    by_cases hm : a i = lo ∧ b i = -1
    · exact (opDiv_min_neg_one hm _).trans ((if_neg hb).trans (if_pos hm)).symm
    · exact (opDiv_of_ne hb _).trans ((if_neg hb).trans (if_neg hm)).symm
  · by_cases hb : b i = 0
    · exact (opDivs_of_zero hb _).trans (if_pos hb).symm
    by_cases hm : a i = lo ∧ b i = -1
    · exact (opDivs_min_neg_one hm _).trans ((if_neg hb).trans (if_pos hm)).symm
    · exact (opDivs_of_fits hb hm _).trans ((if_neg hb).trans (if_neg hm)).symm

end Sys2Proof.Machine
